-- ==== Sys2Proof/Word.lean ====
section
/-! DEFINITION. The word types of the WVZ-6480: 32-bit register words (R2), bytes, the 40-bit words of the cue engines
(R263) and the sparse maps in which State holds whatever comes in many instances. -/

namespace Sys2Proof

/-- A register word, 32 bits (R2). -/
abbrev Word := BitVec 32

/-- A byte of memory or of a frame. -/
abbrev Byte := BitVec 8

/-- A cue engine word, 40 bits (R263). -/
abbrev Word40 := BitVec 40

end Sys2Proof
end

