-- ==== Sys2Proof/Machine/Types.lean ====
section
/-! DEFINITION. The plain data that commands carry: origins (R5), time stamps, and what arrives from the network, the
reference inputs, the Spemen heads and the host. -/

namespace Sys2Proof

/-- The source of a register write or other change (R5). A cue engine's detail is its program counter. CU17, the power
steward, is `powerSteward` with the shedding step it applies or undoes (0 for every other write). -/
inductive Origin where
  | hardware
  | pf (f : Fin 4)
  | cu (n : Fin 24) (pc : Nat)
  | smbus
  | jtag
  | faultReaction (src : Nat)
  | powerSteward (step : Nat)
  | remote (member : Fin 4096)
  deriving DecidableEq, Repr

/-- The blocks of the 1 MHz housekeeping domain (R58). -/
inductive SlowBlk where
  | cl | ps | sp
  deriving DecidableEq, Repr

/-- A TAI time: seconds, nanoseconds, and the fraction in units of 2^-32 ns (R5). -/
structure Stamp where
  sec : Nat := 0
  ns : Nat := 0
  frac : Nat := 0
  deriving DecidableEq, Repr

/-- A component of a bundle (R82): its version, and the ranges of silicon stepping, boot ROM, Cellar layout and other components'
versions that it accepts, both ends included; `others` holds one range for each component of the bundle. -/
structure BundlePart where
  version : Nat := 0
  silicon : Nat × Nat := (0, 0)
  rom : Nat × Nat := (0, 0)
  cellar : Nat × Nat := (0, 0)
  others : List (Nat × Nat) := []
  deriving DecidableEq, Repr

/-- What the boot ROM reads in one slot (R82): whether it holds a bundle, the bundle's version, whether the signature verifies and
which fused digest its key matches, and the components: the stage-2 loader and the images of CU16 to CU19. -/
structure SlotCheck where
  present : Bool
  version : Word
  sigOk : Bool
  key : Option (Fin 4)
  parts : List BundlePart
  deriving DecidableEq, Repr

/-- The rails that the PMBus sequencer turns on (R477): the standby rails VDDIO and VDD_AON are not among them. -/
inductive SupplyRail where
  | core | hphy | hbm | ddqHbm | vppHbm | serdes | serdesTerm | pll | reference
  deriving DecidableEq, Repr

/-- A rail of the board block (R452): which supply it is, its PMBus address and PAGE, its nominal voltage in mV, its window in %, its
start order, and the delay after power good in units of 0.1 ms. -/
structure RailEntry where
  rail : SupplyRail
  addr : Nat
  page : Nat
  nominal : Nat
  window : Nat
  order : Nat
  delay : Nat
  deriving DecidableEq, Repr

/-- An error that the hardware meets: an uncorrectable 32-byte unit of local memory; an instruction, data or scratch word of the cue
engines with a correctable or uncorrectable error (R274, R493); corrected errors of an HBM stack (R433); a corrected Cellar word (R445);
code errors of a SerDes lane (R473); FEC codewords of a port, corrected and uncorrectable (R328). -/
inductive Upset where
  | hbm (unit : Nat)
  | imem (n : Fin 24) (i : Fin 16384) (hard : Bool)
  | dmem (n : Fin 24) (i : Fin 8192) (hard : Bool)
  | scratch (i : Fin 262144) (hard : Bool)
  | hbmCorr (k : Fin 2) (errors : Nat)
  | cellarCorr
  | lane (l : Fin 80) (errors : Nat)
  | fec (p : Fin 4) (corrected uncorrectable : Nat)
  deriving DecidableEq, Repr

/-- The payload of TIME_PTP_CFG (R118). -/
structure PtpConfig where
  domain : Nat
  profile : Nat
  priority1 : Nat
  priority2 : Nat
  twoStep : Bool
  logSync : Int
  logAnnounce : Int
  announceTimeout : Nat
  logDelayReq : Int
  deriving DecidableEq, Repr

/-- The sources of TB_SRC_PRIO (R107). -/
inductive Src where
  | ptp | pps | ref
  deriving DecidableEq, Repr

/-- What the servo takes from a PTP announce message (R118, R124): the leap data, and the grandmaster's identity and clockClass with
the steps removed from it. -/
structure Announce where
  utcOfs : Nat
  leap61 : Bool
  leap59 : Bool
  valid : Bool
  gm : Nat
  clockClass : Nat
  steps : Nat
  deriving DecidableEq, Repr

/-- The four times of an end-to-end exchange on a PTP port (R117, R120): those that the master gives for Sync and Delay_Req, the
counts at which the device's own stamp unit took Sync (t2) and Delay_Req (t3), and the corrections of both messages in units of
2^-8 ns. -/
structure PtpSample where
  port : Fin 4
  t1 : Stamp
  t2 : Stamp
  t3 : Stamp
  t4 : Stamp
  sync : Int
  delayResp : Int
  deriving DecidableEq, Repr

/-- A PTP message that the device sends as master (R117, R118): announce, Sync with its time of transmission, and the ST 2059-2
synchronisation metadata. -/
inductive PtpMsg where
  | announce (domain utcOfs : Nat) (utcValid leap61 leap59 : Bool) (priority1 clockClass priority2 : Nat) (gm : Option Nat) (steps : Nat)
  | sync (domain : Nat) (twoStep : Bool) (at_ : Stamp)
  | metadata (domain utcOfs : Nat) (jam : Word)
  deriving DecidableEq, Repr

/-- One measurement of the servo: the program counter of the servo firmware, the source measured, its offset in ns (for PTP that of
the exchange `ptp`, which the device computes), the request that the control loop computes (R119), whether the grandmaster changed
since the last one (R109), and the announce data when PTP is measured. -/
structure ServoMeasure where
  pc : Nat
  src : Src
  ptp : Option PtpSample
  offset : Int
  incReq : Nat
  newMaster : Bool
  announce : Option Announce
  deriving DecidableEq, Repr

/-- A linear time code word as received: the fields of its label, its user bits, its direction and the tick of arrival
are judged under R133. -/
structure LtcWord where
  hours : Nat
  minutes : Nat
  seconds : Nat
  frames : Nat
  dropFrame : Bool
  userBits : Word
  bitErrors : Bool
  arrival : Stamp
  deriving DecidableEq, Repr

/-- A linear time code word as sent: its label, drop-frame flag and user bits, and the flag of binary group 7 (R139). -/
structure LtcOutWord where
  hours : Nat
  minutes : Nat
  seconds : Nat
  frames : Nat
  dropFrame : Bool
  userBits : Word
  group7 : Bool
  deriving DecidableEq, Repr

/-- The reference outputs whose FRAME-class fields apply at their own periods (R136). -/
inductive RefOut where
  | video (k : Fin 4)
  | ltc (k : Fin 4)
  | dars (k : Fin 2)
  | pps
  deriving DecidableEq, Repr

/-- A ToD sentence, as characters, with its delay after the PPS edge in milliseconds (R142). -/
structure TodSentence where
  chars : List Byte
  delayMs : Nat
  deriving DecidableEq, Repr

/-- A working-space pixel: linear-light R, G, B and alpha. -/
structure Px where
  r : Rat
  g : Rat
  b : Rat
  a : Rat
  deriving DecidableEq, Repr

/-- Change every component, and say whether one changed. -/
def Px.mapT (p : Px) (f g : Rat → Rat × Bool) : Px × Bool :=
  let r := f p.r
  let gg := f p.g
  let b := f p.b
  let a := g p.a
  (⟨r.1, gg.1, b.1, a.1⟩, r.2 || gg.2 || b.2 || a.2)

def Px.zero : Px := ⟨0, 0, 0, 0⟩

/-- k times a pixel. -/
def Px.scale (k : Rat) (p : Px) : Px := ⟨k * p.r, k * p.g, k * p.b, k * p.a⟩

def Px.add (p q : Px) : Px := ⟨p.r + q.r, p.g + q.g, p.b + q.b, p.a + q.a⟩

/-- What goes wrong on one line of a head, in memory and lanes: columns of a layer whose local fetch is incomplete at blend time (layer,
or 32 for the protected layer, first column and end), and layers whose fetch met an HBM error (R241); uncorrectable line-buffer pixels, by layer and output column, and coefficient
words, by direction (vertical), programmable set and phase, with the number of words corrected (R224); dial and text items
with an uncorrectable word, with the number corrected (R326). -/
structure LineFaults where
  underrun : List (Nat × Nat × Nat)
  hbm : List Nat
  pixels : List (Nat × Nat)
  coefs : List (Bool × Nat × Nat)
  corrected : Nat
  items : List Nat
  itemsCorrected : Nat
  deriving DecidableEq, Repr

/-- An ancillary packet as it arrives on an SDI line: its space, its 10-bit words from DID to checksum, and whether the
checksum is good (R374, R376). -/
structure AncPacket where
  hanc : Bool
  words : List Nat
  csOk : Bool
  deriving DecidableEq, Repr

/-- A line of an SDI input group: its number, its active samples as the ingest writer stores them, the ancillary packets
of its first link but for the ST 352 payload ID, its payload ID, and whether its CRC verified (R344, R376). -/
structure SdiLine where
  number : Nat
  data : List Byte
  anc : List AncPacket
  payloadId : Word
  crcOk : Bool
  deriving DecidableEq, Repr

/-- A frame handed to a transmit queue: its bytes, its tag, and its launch time where it has one. -/
structure TxFrame where
  data : List Byte
  tag : Nat
  launch : Option Stamp
  deriving DecidableEq, Repr

/-- A 32-byte descriptor of a host ring, as read from the ring, eight words (R382). -/
abbrev HostDesc := List Word

/-- What the capacitance ramp of a Spemen port measures (R391): charge in nC, the integral of the voltage in microvolt
seconds, the mean hold current in mA, whether the port reached 5 V in time and its greatest current in mA. -/
structure SpRamp where
  charge : Nat
  integral : Nat
  hold : Nat
  reached : Bool
  peak : Nat
  deriving DecidableEq, Repr

/-- What the loop supervisor measured over one TAI second (R394): the mean power of each port in units of 10 mW, and the supply
in units of 10 mV. -/
structure SpSecond where
  means : List Nat
  supply : Nat
  deriving DecidableEq, Repr

/-- The CAPS reply of a clock head (R398, R399): whether its CRC and length are right, and what it carries, its sizes and firmware as
SPn_HEAD_CAP holds them. -/
structure SpCaps where
  crcOk : Bool
  versions : Nat
  headId : Word
  cap : Word
  deriving DecidableEq, Repr

/-- The STATUS frame of a clock head (R403). -/
structure SpStatusFrame where
  flags : Nat
  crcOk : Bool
  deriving DecidableEq, Repr

/-- What every Glachapol message carries (R408): the port it arrives on, whether its CRC and length are right, sender index,
source address, sequence number and domain. -/
structure GlHead where
  port : Fin 4
  ok : Bool
  index : Nat
  addr : Word
  seq : Nat
  domain : Nat
  deriving DecidableEq, Repr

/-- ROSTER: domain version, leader PRIO, leader IPv4 of the sending port, the members. -/
structure GlRoster where
  head : GlHead
  leader : Word
  version : Nat
  prio : Nat
  members : List Nat
  deriving DecidableEq, Repr

structure GlJoin where
  head : GlHead
  versions : Nat
  prio : Nat
  candidate : Bool
  deriving DecidableEq, Repr

structure GlAdmit where
  head : GlHead
  result : Nat
  deriving DecidableEq, Repr

structure GlHeartbeat where
  head : GlHead
  state : Nat
  mode : Nat
  deriving DecidableEq, Repr

structure GlClaim where
  head : GlHead
  prio : Nat
  deriving DecidableEq, Repr

structure GlRequest where
  head : GlHead
  group : Nat
  t : Nat
  family : Nat
  tag : Nat
  deriving DecidableEq, Repr

structure GlPrepare where
  head : GlHead
  cid : Nat
  group : Nat
  family : Nat
  t : Nat
  p : Nat
  requester : Nat
  tag : Nat
  deriving DecidableEq, Repr

/-- ACK: `none` is its NONE flag. -/
structure GlAck where
  head : GlHead
  cid : Nat
  none : Bool
  deriving DecidableEq, Repr

structure GlNak where
  head : GlHead
  cid : Nat
  reason : Nat
  deriving DecidableEq, Repr

structure GlCommit where
  head : GlHead
  cid : Nat
  t : Nat
  deriving DecidableEq, Repr

structure GlAbort where
  head : GlHead
  cid : Nat
  reason : Nat
  member : Nat
  deriving DecidableEq, Repr

structure GlReport where
  head : GlHead
  cid : Nat
  outcome : Nat
  deriving DecidableEq, Repr

structure GlWrite where
  head : GlHead
  pairs : List (Word × Word)
  deriving DecidableEq, Repr

/-- The interfaces of the SDI outputs (R161): HD, 3G level A, 6G and 12G. -/
inductive SdiIface where
  | hd | g3 | g6 | g12
  deriving DecidableEq, Repr

/-- The reactions of R429. -/
inductive Reaction where
  | none | svc | sdi | tpll | clr | safe | shut | stop
  deriving DecidableEq, Repr


/-- One PMBus poll of a rail (R452). -/
structure RailReading where
  milliVolt : Nat
  milliAmp : Nat
  status : Nat
  ack : Bool
  deriving DecidableEq, Repr

/-- The JTAG instructions of R474. -/
inductive JtagInstr where
  | bypass | idcode | sample | extest | extestPulse | extestTrain | clamp | highz
  deriving DecidableEq, Repr

end Sys2Proof
end

