-- ==== Sys2Proof/Syntax.lean ====
section
/-! DEFINITION. The commands of the WVZ-6480: one constructor for each row of spec/opcode_table.json, in its order.
`o` is the origin of a register access (R5), `v` the word written. -/

namespace Sys2Proof

inductive Instr where
  /-- REGISTER_WRITE (R15): A register write with no row of its own is checked against DV_PERM, width, W1, LOCK and Apply class, then applied or refused and logged in Sillage. -/
  | registerWrite (o : Origin) (addr : Nat) (v : Word) (be : BitVec 4) (more : List (Word × BitVec 4))
  /-- READ_CLEAR (R44): A read that touches an RC register returns its value and then clears the whole register. -/
  | readClear (o : Origin) (addr len : Nat)
  /-- STATUS_SEQ_CLEAR (R53): A write to xx_STATUS in SEQ mode clears the written bits only if the written SEQ matches the current SEQ. -/
  | statusSeqClear (o : Origin) (addr : Nat) (v : Word)
  /-- STATUS_COR_READ (R54): A read of xx_STATUS in COR mode returns the latched bits and clears them. -/
  | statusCorRead (o : Origin) (addr : Nat)
  /-- REGISTER_READ_DENIED (R65): A read that DV_PERM denies returns 0 and is counted in DV_ACC_ERR.DENIED_RD, with no Sillage entry. -/
  | registerReadDenied (o : Origin) (addr : Nat)
  /-- SLOW_WRITE_ARRIVE (R60): A queued slow-domain write reaches the housekeeping domain and is applied or refused there, with its Sillage entry. -/
  | slowWriteArrive (b : SlowBlk)
  /-- SLOW_COPY_REFRESH (R58): On each housekeeping clock edge the fabric copies of the slow-domain registers are refreshed and AGE is updated. -/
  | slowCopyRefresh (b : SlowBlk) (arrived : Bool)
  /-- SNAP_REQUEST (R62): A write to DV_SNAP selects the blocks to capture, or is refused while BUSY is 1. -/
  | snapRequest (o : Origin) (v : Word)
  /-- SNAPSHOT_CAPTURE (R61): On the first tick after the request, the selected counters are captured, DV_SNAP_ID increments and the TAI time is recorded. -/
  | snapshotCapture
  /-- SNAPSHOT_WRITE_OUT_DONE (R61): The write-out of the capture page completes and DV_SNAP_STAT.BUSY clears. -/
  | snapshotWriteOutDone
  /-- PERM_WRITE (R64): A write of a DV_PERM slot from PF0 sets that slot's rights once; any other write is refused. -/
  | permWrite (o : Origin) (slot : Fin 32) (hi : Bool) (v : Word)
  /-- BAR2_WRITE (R34): A host write through BAR2 acts on the addressed local-memory bytes, under the protection-unit merge rule. -/
  | bar2Write (f : Fin 4) (addr : Nat) (data : List Byte)
  /-- BAR2_READ (R34): A host read through BAR2 returns local memory, or a poisoned TLP on an uncorrectable error. -/
  | bar2Read (f : Fin 4) (addr len : Nat)
  /-- PCIE_LINK_DOWN (R76): PERST_N or a PCIe link loss resets the endpoint, MSI-X, HQ and every mailbox session. -/
  | pcieLinkDown
  /-- FLR (R76): A function-level reset of PFf clears its MSI-X, its mailbox and session, and the HQ rings it owns. -/
  | flr (f : Fin 4)
  /-- OPERATE (R71): A write of DV_CTRL.OPERATE moves the device between STANDBY and the timing state, or is refused while a head runs. -/
  | operate (o : Origin) (on : Bool)
  /-- SHUTDOWN (R75): DV_CTRL.SHUTDOWN = 1 starts an orderly shutdown: heads finish their frames, the Cellar completes and the Sillage ring is flushed. -/
  | shutdown (o : Origin)
  /-- SHUTDOWN_RAILS_OFF (R75): Once the flush is complete, the power steward turns the rails off in reverse start-up order. -/
  | shutdownRailsOff
  /-- WARM_RESET (R77): DV_RESET with KIND 1 and the key requests a warm reset, which waits for the mirror, the records and the seal. -/
  | warmReset (o : Origin) (key : BitVec 16)
  /-- MAINTENANCE_RESET (R77): DV_RESET with KIND 3 and the key requests a warm reset that boots to MAINTENANCE. -/
  | maintenanceReset (o : Origin) (key : BitVec 16)
  /-- SERVICE_RESET (R78): DV_RESET with KIND 2 resets CU16 to CU19 and every Plestonas session; heads keep running. -/
  | serviceReset (o : Origin) (key : BitVec 16)
  /-- RESET_BEGIN (R77): Once the mirror, the records and the seal are complete, and at least 10 µs after the request, the warm or maintenance reset begins. -/
  | resetBegin
  /-- COLD_RESET (R76): Power-on, or the core supply falling below its threshold, clears every block and the boot attempt counters. -/
  | coldReset
  /-- PIN_RESET (R481): RESET_N held low for at least 1 µs resets every block. -/
  | pinReset
  /-- RESET_RELEASE (R80): When RESET_N or the power-on reset releases, the straps are sampled and the rail sequence starts. -/
  | resetRelease (straps : BitVec 4) (board : Option (List RailEntry))
  /-- RAILS_POWER_GOOD (R87): All rails report power good, which completes boot step 1. -/
  | railsPowerGood
  /-- CELLAR_HEADER_CHECK (R88): The Cellar header is checked at boot step 2 and the Cellar is marked healthy or unhealthy. -/
  | cellarHeaderCheck (crcOk : Bool) (layout : Nat) (bad : List Nat)
  /-- IMAGE_SELECTION (R84): The boot ROM checks the slots and starts the chosen bundle, or enters MAINTENANCE. -/
  | imageSelection (a b : SlotCheck)
  /-- SERVICE_READY (R85): All four services report ready and the Plestonas interface answers; the failed-attempt count is zeroed. -/
  | serviceReady
  /-- BOOT_READY_TIMEOUT (R85): The services do not reach ready within 2 s, so the boot ROM makes a warm reset and selects again. -/
  | bootReadyTimeout
  /-- SVC_WDOG (R86): A service engine misses its 100 ms watchdog deadline, which raises SVC_WDOG and causes a service reset. -/
  | svcWdog (e : Fin 4)
  /-- BOOT_COMPLETE (R87): HBM and the output blocks are up, and DV_MODE becomes STANDBY, the timing state or SAFE_OUTPUT. -/
  | bootComplete
  /-- HEAD_RESTORE (R89): With auto-restore set, each head with a valid last-good record is restored and started at an epoch-aligned boundary. -/
  | headRestore
  /-- OPEN (R96): The OPEN command opens a Plestonas session and settles the version. -/
  | openSession (f : Fin 4)
  /-- CLOSE (R96): The CLOSE command closes the function's session. -/
  | closeSession (f : Fin 4)
  /-- GET_INFO (R96): The GET_INFO command returns the part, stepping and version information. -/
  | getInfo (f : Fin 4)
  /-- IMG_BEGIN (R97): The IMG_BEGIN command erases the target slot for a new bundle, and is denied for the running slot outside MAINTENANCE. -/
  | imgBegin (f : Fin 4)
  /-- IMG_DATA (R96): The IMG_DATA command writes 240 bytes of a bundle at an offset. -/
  | imgData (f : Fin 4)
  /-- IMG_END (R96): The IMG_END command verifies the written slot under the qualification rule. -/
  | imgEnd (f : Fin 4) (c : SlotCheck)
  /-- TIME_STATUS (R118): The TIME_STATUS command returns the state, source, offset and grandmaster data. -/
  | timeStatus (f : Fin 4)
  /-- TIME_PTP_CFG (R117): The TIME_PTP_CFG command sets the PTP domain, profile, priorities, step mode and intervals. -/
  | timePtpCfg (f : Fin 4) (c : PtpConfig)
  /-- TIME_PTP_PORT (R117): The TIME_PTP_PORT command enables a PTP port and sets its role and address. -/
  | timePtpPort (f : Fin 4) (p : Fin 4) (en : Bool) (role : Nat) (ip : Word)
  /-- TIME_LEAP (R124): The TIME_LEAP command sets OFS, the leap flag and TB_LEAP_AT, and is refused while PTP is selected. -/
  | timeLeap (f : Fin 4) (ofs : Nat) (leap61 leap59 : Bool) (leapAt : Word)
  /-- TIME_SERVO (R117): The TIME_SERVO command sets the servo loop bandwidth. -/
  | timeServo (f : Fin 4) (bw : Nat)
  /-- GL_STATUS (R417): The GL_STATUS command returns the role, version, leader, member count and latest commit. -/
  | glStatus (f : Fin 4)
  /-- GL_COMMIT (R412): The GL_COMMIT command starts a domain commit by sending REQUEST to the leader. -/
  | glCommit (f : Fin 4) (g : Nat) (t : Nat) (tag : BitVec 16)
  /-- GL_ROSTER (R417): The GL_ROSTER command returns one page of the member bitmap. -/
  | glRoster (f : Fin 4) (page : Nat)
  /-- CL_READ (R451): The CL_READ command returns bytes from a Cellar offset. -/
  | clRead (f : Fin 4) (ofs len : Nat)
  /-- CANCEL (R94): A doorbell write with CANCEL ends the command in progress with STATE CANCELLED, unless completion wins. -/
  | cancel (o : Origin) (f : Fin 4)
  /-- MAILBOX_COMPLETE (R93): A mailbox command finishes, its response is written, STATE becomes DONE and the completion interrupt is sent. -/
  | mailboxComplete (f : Fin 4)
  /-- TIME_TICK (R99): On each 400 MHz tick the counter adds the applied increment, and time-derived events are raised and delivered. -/
  | timeTick (n : Nat) (u : List Upset)
  /-- INC_TRANSFER (R101): A write of TB_INC_REQ_HI transfers the requested increment pair, clamped to the slew limit. -/
  | incTransfer (o : Origin) (v : Word)
  /-- TIME_LATCH_READ (R102): A read of TB_TIME_SL latches the other time words of the same tick for the reading origin class. -/
  | timeLatchRead (o : Origin)
  /-- SERVO_MEASURE (R119): The servo measures the source offset, writes TB_OFS and TB_INC_REQ, and updates the source and timing state. -/
  | servoMeasure (m : ServoMeasure)
  /-- SOURCE_LOST (R107): A selected source stops being usable, and TB enters HOLDOVER or FREERUN or selects another source. -/
  | sourceLost (src : Src)
  /-- SOURCE_REQUALIFIED (R108): A previously lost source has been usable for 30 s and becomes selectable again. -/
  | sourceRequalified (src : Src)
  /-- TB_RESTEP (R116): An authorised TB_RESTEP write with the key takes DV_MODE to SAFE_OUTPUT ahead of the step. -/
  | tbRestep (o : Origin) (key : BitVec 16)
  /-- RESTEP_STEP (R116): Within 10 ms the count is set to source time; heads become STOPPED or HELD and TB becomes ACQUIRE. -/
  | restepStep (offset : Int)
  /-- HOLD_LIMIT (R110): TB_HOLD_MAX seconds pass in HOLDOVER and TB enters FREERUN. -/
  | holdLimit
  /-- LEAP_APPLY (R123): The count reaches TB_LEAP_AT, OFS changes by one, the flag clears and LEAP_DONE latches. -/
  | leapApply
  /-- TSQ_POP (R122): A read of TB_TSQp_POP removes the oldest transmit stamp and loads its time. -/
  | tsqPop (o : Origin) (p : Fin 4)
  /-- TIME_RECORD_WRITE (R106): Once per minute the TAI time is written to the Cellar time record. -/
  | timeRecordWrite
  /-- PLL_UNLOCK (R128): The time PLL loses lock, which raises TB_PLL_UNLOCK and starts the TPLL reaction. -/
  | pllUnlock
  /-- PLL_LOCK (R429): The time PLL regains lock and PLL_LOCK becomes 1. -/
  | pllLock
  /-- REF_IN_LOCK (R131): An analogue input locks after 8 consecutive matching frames. -/
  | refInLock (k : Fin 2) (std freq : Nat)
  /-- REF_IN_LOSS (R131): An analogue input loses lock, and RF_IN_LOST is raised. -/
  | refInLoss (k : Fin 2)
  /-- REF_PHASE_MEASURE (R132): Once per alignment period a locked input reports its phase and frequency against the count. -/
  | refPhaseMeasure (k : Fin 2) (at_ : Stamp) (freq : Int)
  /-- LTC_WORD (R133): An LTC codeword is received, converted to TAI and judged for consistency. -/
  | ltcWord (k : Fin 2) (w : LtcWord)
  /-- SRC3_INPUT_CHANGE (R134): A write that changes TB_IN or TB_LTC while source 3 is selected acts as a loss of source 3. -/
  | src3InputChange (o : Origin) (v : Word)
  /-- OUTPUT_OFFSET_APPLY (R136): At the start of its own next period, an RF output applies a written offset or other FRAME-class field. -/
  | outputOffsetApply (out : RefOut)
  /-- PPS_EDGE (R141): A PPS input edge is taken, less its compensation, for the source usability checks. -/
  | ppsEdge (t : Stamp) (tenCount : Nat)
  /-- TOD_SENTENCE_RX (R142): A ToD input sentence is checked and accepted or discarded. -/
  | todSentenceRx (m : TodSentence)
  /-- TOD_SENTENCE_TX (R142): 10 ms after each PPS edge the ToD output sentence is sent. -/
  | todSentenceTx
  /-- OUT_LOAD (R144): An analogue output enters current limit, which latches OUT_LOAD and raises RF_OUT_LOAD. -/
  | outLoad (k : Fin 4)
  /-- REF_SAVE (R143): RF_CTRL.SAVE stores the reference configuration record in the Cellar. -/
  | refSave (o : Origin)
  /-- HEAD_START (R149): A write of HDn_CTRL.RUN = 1 is judged against the start checks, and the head enters STARTING or START_ERR is set. -/
  | headStart (o : Origin) (n : Fin 16) (v : Word)
  /-- HEAD_STOP (R151): A write of RUN = 0 moves the head to STOPPING, to STOPPED at once from STARTING, or marks a stop pending in SAFE or HELD. -/
  | headStop (o : Origin) (n : Fin 16)
  /-- HEAD_FIRST_LINE (R150): A started head reaches line 1 of its first frame at least 2 ms after the start and enters RUNNING or SAFE. -/
  | headFirstLine (n : Fin 16)
  /-- HEAD_STOPPED (R151): At the next line 1 after its stop frame, the head enters STOPPED and its destinations go idle. -/
  | headStopped (n : Fin 16)
  /-- HEAD_LINE_START (R148): At each line start a head raises its line events, issues fetch and ancillary requests and feeds its destinations. -/
  | headLineStart (n : Fin 16) (w : LineFaults)
  /-- HOST_READ_COMPLETION (R175): A PCIe read completion for a host layer arrives, or a poisoned completion or abort makes the line late. -/
  | hostReadCompletion (k : Fin 8) (m : Fin 32) (line : Nat) (ok : Bool) (data : List Byte)
  /-- COMMIT_DEADLINE (R158): On the commit deadline tick the head selects ingest frames, tests fences, latches DT items and fixes protected-layer verdicts. -/
  | commitDeadline (n : Fin 16)
  /-- FRAME_BOUNDARY (R156): At line 7 the pending vintage and the protected-layer selection apply, not-ready policies act and the next scan starts. -/
  | frameBoundary (n : Fin 16)
  /-- SAMPLE_EVENT (R166): A head reaches a programmed sample position and raises SAMPLEk. -/
  | sampleEvent (n : Fin 16) (i : Fin 4)
  /-- RATE_FIFO_EXCURSION (R165): A rate-match FIFO leaves its window, which latches RATE_FIFO and raises HD_RATE_FIFO. -/
  | rateFifoExcursion (n : Fin 16) (d : Fin 3)
  /-- DP_LINK_FAIL (R162): DisplayPort training fails or hot-plug falls, so the destination stops video and HD_DEST_DP is raised. -/
  | dpLinkFail (n : Fin 16) (hotPlug : Bool)
  /-- DP_RETRAIN (R162): Once per second while hot-plug is asserted, DisplayPort training is retried and counted. -/
  | dpRetrain (n : Fin 16) (ok : Bool)
  /-- SDI_SERIALIZER_FAIL (R168): An SDI serializer or its PLL fails, which raises HD_DEST_SDI. -/
  | sdiSerializerFail (n : Fin 16)
  /-- CE_COMMIT (R188): A CEk_COMMIT write forms the commit set of one head and enters CHECKING. -/
  | ceCommit (o : Origin) (k : Fin 8) (v : Word)
  /-- CE_GROUP_COMMIT (R190): A CEk_COMMIT write with GROUP = 1 forms the sets of every member of the head's lock group for checking. -/
  | ceGroupCommit (o : Origin) (k : Fin 8) (v : Word)
  /-- CE_PREP_COMMIT (R191): A CEk_COMMIT write with PREP = 1 checks the set and holds it as PREPARED. -/
  | cePrepCommit (o : Origin) (k : Fin 8) (v : Word)
  /-- COMMIT_CHECK_DONE (R186): The admission check ends and the set becomes PENDING, APPLIED, PREPARED or REJECTED. -/
  | commitCheckDone (k : Fin 8)
  /-- CE_RELEASE (R191): A CEk_RELEASE write releases a prepared set for the frame at the release time, or cancels it as LATE. -/
  | ceRelease (o : Origin) (k : Fin 8) (v : Word)
  /-- CE_DISCARD (R191): A CEk_RELEASE write with DISCARD = 1 cancels a prepared set with reason DISCARD. -/
  | ceDiscard (o : Origin) (k : Fin 8) (v : Word)
  /-- LAST_GOOD_HANDOVER (R194): Once per second the engine hands the latest qualified last-good candidate of each head to the Cellar. -/
  | lastGoodHandover (k : Fin 8)
  /-- PL_OWNER_WRITE (R244): A PF0 write of CEk_PLh_OWNER names the protected layer's owner once. -/
  | plOwnerWrite (o : Origin) (k : Fin 8) (h : Fin 2) (v : Word)
  /-- PL_COMMIT (R250): An owner write of CEk_PLh_COMMIT enters CHECKING for a slot selection or disable. -/
  | plCommit (o : Origin) (k : Fin 8) (h : Fin 2) (v : Word)
  /-- PL_CHECK_DONE (R252): The protected-layer check ends, and the commit becomes PENDING, VERIFYING, APPLIED or REJECTED. -/
  | plCheckDone (k : Fin 8) (h : Fin 2)
  /-- PL_SCAN_DONE (R253): A check unit finishes scanning a protected slot and records its verdict. -/
  | plScanDone (k : Fin 8) (h : Fin 2)
  /-- CK_START (R259): CKu_CMD.START begins a CRC scan of the configured region. -/
  | ckStart (o : Origin) (u : Fin 4)
  /-- CK_ABORT (R260): CKu_CMD.ABORT stops a scan in progress at a byte boundary. -/
  | ckAbort (o : Origin) (u : Fin 4) (fed : Nat)
  /-- CK_SCAN_DONE (R260): A scan completes, RESULT is set and the compare outcome is recorded. -/
  | ckScanDone (u : Fin 4)
  /-- CK_RUN_READ (R259): A read of CKu_RUN during a scan returns the running value and latches PROG. -/
  | ckRunRead (o : Origin) (u : Fin 4) (fed : Nat)
  /-- ILL (R268): The ILL instruction takes trap ILLEGAL. -/
  | cuIll (n : Fin 24)
  /-- NOP (R268): The NOP instruction does nothing. -/
  | cuNop (n : Fin 24)
  /-- HALT (R268): The HALT instruction halts the engine with STOP = DONE. -/
  | cuHalt (n : Fin 24)
  /-- TRAP (R285): The TRAP instruction sets EDATA and takes trap BREAK. -/
  | cuTrap (n : Fin 24)
  /-- ADD (R268): The ADD instruction adds two registers modulo 2^40. -/
  | cuAdd (n : Fin 24)
  /-- SUB (R268): The SUB instruction subtracts two registers. -/
  | cuSub (n : Fin 24)
  /-- AND (R268): The AND instruction forms the bitwise and. -/
  | cuAnd (n : Fin 24)
  /-- OR (R268): The OR instruction forms the bitwise or. -/
  | cuOr (n : Fin 24)
  /-- XOR (R268): The XOR instruction forms the bitwise exclusive or. -/
  | cuXor (n : Fin 24)
  /-- SHL (R270): The SHL instruction shifts left by a register amount. -/
  | cuShl (n : Fin 24)
  /-- SHR (R270): The SHR instruction shifts right logically by a register amount. -/
  | cuShr (n : Fin 24)
  /-- SAR (R270): The SAR instruction shifts right arithmetically by a register amount. -/
  | cuSar (n : Fin 24)
  /-- MUL (R268): The MUL instruction gives the low 40 bits of a product. -/
  | cuMul (n : Fin 24)
  /-- MULHU (R268): The MULHU instruction gives the high 40 bits of an unsigned product. -/
  | cuMulhu (n : Fin 24)
  /-- SEL (R268): The SEL instruction selects one of two registers by Z. -/
  | cuSel (n : Fin 24)
  /-- ADDI (R268): The ADDI instruction adds a sign-extended immediate. -/
  | cuAddi (n : Fin 24)
  /-- ANDI (R268): The ANDI instruction ands with a zero-extended immediate. -/
  | cuAndi (n : Fin 24)
  /-- ORI (R268): The ORI instruction ors with a zero-extended immediate. -/
  | cuOri (n : Fin 24)
  /-- XORI (R268): The XORI instruction exclusive-ors with a zero-extended immediate. -/
  | cuXori (n : Fin 24)
  /-- SHLI (R270): The SHLI instruction shifts left by an immediate amount. -/
  | cuShli (n : Fin 24)
  /-- SHRI (R270): The SHRI instruction shifts right logically by an immediate amount. -/
  | cuShri (n : Fin 24)
  /-- SARI (R270): The SARI instruction shifts right arithmetically by an immediate amount. -/
  | cuSari (n : Fin 24)
  /-- LI (R268): The LI instruction loads a sign-extended 29-bit immediate. -/
  | cuLi (n : Fin 24)
  /-- LUI (R268): The LUI instruction loads an immediate shifted left by 11. -/
  | cuLui (n : Fin 24)
  /-- SUBI (R268): The SUBI instruction subtracts a sign-extended immediate. -/
  | cuSubi (n : Fin 24)
  /-- BFX (R270): The BFX instruction extracts a bit field. -/
  | cuBfx (n : Fin 24)
  /-- BFI (R270): The BFI instruction inserts a bit field. -/
  | cuBfi (n : Fin 24)
  /-- BCC (R271): The Bcc instruction branches when its condition holds. -/
  | cuBcc (n : Fin 24)
  /-- CALL (R268): The CALL instruction saves the return address in c31 and branches. -/
  | cuCall (n : Fin 24)
  /-- JALR (R268): The JALR instruction jumps to a register target and links. -/
  | cuJalr (n : Fin 24)
  /-- LD (R272): The LD instruction loads a data-memory word. -/
  | cuLd (n : Fin 24)
  /-- ST (R272): The ST instruction stores a data-memory word. -/
  | cuSt (n : Fin 24)
  /-- LDX (R273): The LDX instruction loads a shared scratch word. -/
  | cuLdx (n : Fin 24)
  /-- STX (R273): The STX instruction stores a shared scratch word. -/
  | cuStx (n : Fin 24)
  /-- AMOADD (R273): The AMOADD instruction atomically adds to a scratch word and returns the old value. -/
  | cuAmoadd (n : Fin 24)
  /-- AMOSWP (R273): The AMOSWP instruction atomically swaps a scratch word. -/
  | cuAmoswp (n : Fin 24)
  /-- CAS (R273): The CAS instruction compares a scratch word and swaps it on a match. -/
  | cuCas (n : Fin 24)
  /-- RDR (R276): The RDR instruction reads a BAR0 register through the fabric and sets Z. -/
  | cuRdr (n : Fin 24)
  /-- WRR (R276): The WRR instruction writes a BAR0 register through the fabric and sets Z from the outcome. -/
  | cuWrr (n : Fin 24)
  /-- KICK (R278): The KICK instruction posts a register write without waiting for it to be judged. -/
  | cuKick (n : Fin 24)
  /-- KICK_JUDGED (R278): A posted kick is judged and logged; a refusal latches KICK_REF and may make trap KICK pending. -/
  | kickJudged (n : Fin 24)
  /-- WRF (R279): The WRF instruction reads a register, inserts a field and writes it back. -/
  | cuWrf (n : Fin 24)
  /-- RDS (R284): The RDS instruction reads a special register. -/
  | cuRds (n : Fin 24)
  /-- WRS (R284): The WRS instruction writes a special register. -/
  | cuWrs (n : Fin 24)
  /-- RETT (R287): The RETT instruction returns from a trap, restoring PC and flags and setting IE. -/
  | cuRett (n : Fin 24)
  /-- LYR (R280): The LYR instruction reads a layer register of the bound head's engine. -/
  | cuLyr (n : Fin 24)
  /-- LYW (R280): The LYW instruction writes a layer register of the bound head's engine. -/
  | cuLyw (n : Fin 24)
  /-- COMMIT (R281): The COMMIT instruction writes CEk_COMMIT and waits until the check leaves CHECKING. -/
  | cuCommit (n : Fin 24)
  /-- RELEASE (R282): The RELEASE instruction writes the release time and CEk_RELEASE for a head. -/
  | cuRelease (n : Fin 24)
  /-- WAITE (R296): The WAITE instruction waits for a head or device event code. -/
  | cuWaite (n : Fin 24)
  /-- WAITL (R299): The WAITL instruction waits for the start of a line of the bound head. -/
  | cuWaitl (n : Fin 24)
  /-- WAITT (R301): The WAITT instruction waits until a domain time, or completes late at once. -/
  | cuWaitt (n : Fin 24)
  /-- WAITP (R300): The WAITP instruction waits for a line of a given frame, or completes late at once. -/
  | cuWaitp (n : Fin 24)
  /-- WAIT_COMPLETE (R294): A pending wait is satisfied at a delivery point, or resolved by a head stop or step, and returns its data. -/
  | waitComplete (n : Fin 24)
  /-- CU_START (R288): A write of CUn_CTRL.RUN = 1 starts a halted engine from ENTRY. -/
  | cuStart (o : Origin) (n : Fin 24)
  /-- CU_RESUME (R288): RUN = 1 with RESUME = 1 continues a halted engine from CUn_PC and CUn_FLAGS. -/
  | cuResume (o : Origin) (n : Fin 24)
  /-- CU_STEP (R288): RUN = 1 with STEP = 1 executes one instruction and halts with STOP = STEP. -/
  | cuStep (o : Origin) (n : Fin 24) (resume : Bool)
  /-- CU_HALT_REQUEST (R289): A write of RUN = 0 sets HALTING, and the engine halts at its next instruction boundary. -/
  | cuHaltRequest (o : Origin) (n : Fin 24)
  /-- CU_DOORBELL (R297): A write of CUn_DOORBELL raises the DOORBELL device event with its value. -/
  | cuDoorbell (o : Origin) (n : Fin 24) (v : Word)
  /-- PARAM_WRITE (R297): A write of CUn_PARAMi stores the parameter and raises the PARAM device event. -/
  | paramWrite (o : Origin) (n : Fin 24) (i : Fin 16) (v : Word)
  /-- DM_LO_READ (R272): A read of CUn_DM_LO returns the word's low bits and latches its high byte. -/
  | dmLoRead (o : Origin) (n : Fin 24)
  /-- DM_HI_READ (R272): A read of CUn_DM_HI returns the latched byte and increments IDX. -/
  | dmHiRead (o : Origin) (n : Fin 24)
  /-- DM_LO_WRITE (R272): A write of CUn_DM_LO is held in the data memory port. -/
  | dmLoWrite (o : Origin) (n : Fin 24) (v : Word)
  /-- DM_HI_WRITE (R272): A write of CUn_DM_HI stores the whole word at IDX and increments IDX. -/
  | dmHiWrite (o : Origin) (n : Fin 24) (v : Word)
  /-- SCR_DATA_READ (R273): A read of CU_SCRp_DATA returns a scratch word and increments INDEX. -/
  | scrDataRead (o : Origin) (p : Fin 4)
  /-- SCR_DATA_WRITE (R273): A write of CU_SCRp_DATA stores a scratch word and increments INDEX. -/
  | scrDataWrite (o : Origin) (p : Fin 4) (v : Word)
  /-- IMG_LEVEL_WRITE (R290): A write of CUn_IMG.LEVEL sets the ISA level, or is refused, latching LOAD_REF and raising IFACE_NO_COMMON. -/
  | imgLevelWrite (o : Origin) (n : Fin 24) (v : Word)
  /-- ZONE_SAVE (R325): DT_CTRL.SAVE stores every zone rule in the Cellar zone record. -/
  | zoneSave (o : Origin)
  /-- GLY_DATA_WRITE (R323): A write of DT_GLY_DATA stores four coverage bytes and increments the index. -/
  | glyDataWrite (o : Origin) (v : Word)
  /-- RX_FRAME (R331): A received Ethernet frame is filtered, classified and delivered to PTP, Glachapol, a flow context or the default ring. -/
  | rxFrame (p : Fin 4) (data : List Byte) (fcsOk : Bool) (stamp : Stamp)
  /-- MODULE_REMOVED (R330): A port's module is removed, which takes the link down and raises NP_MODULE. -/
  | moduleRemoved (p : Fin 4)
  /-- MODULE_INSERTED (R330): A module is inserted, and MOD_CHG latches. -/
  | moduleInserted (p : Fin 4)
  /-- LINK_UP (R329): A port's link comes up after negotiation and training, with FEC locked. -/
  | linkUp (p : Fin 4)
  /-- LINK_DOWN (R346): An enabled port's link goes down, which raises NP_LINK_DOWN. -/
  | linkDown (p : Fin 4)
  /-- I2C_START (R330): A write of NPp_I2C_CMD starts a module I2C transaction, or is refused while BUSY. -/
  | i2cStart (o : Origin) (p : Fin 4) (v : Word)
  /-- I2C_DONE (R330): A module I2C transaction ends, acknowledged or with NACK. -/
  | i2cDone (p : Fin 4) (ack : Bool) (data : Word)
  /-- FLOW_ENABLE (R337): A write of NRf_CTRL.EN = 1 is checked, and the context is enabled or refused with CFG_ERR. -/
  | flowEnable (o : Origin) (f : Fin 16384) (v : Word)
  /-- FLOW_DISABLE (R338): A write of EN = 0 stops matching, ending any frame being written as incomplete. -/
  | flowDisable (o : Origin) (f : Fin 16384) (v : Word)
  /-- PATH_TIMEOUT (R340): One merge path accepts nothing for 10 ms while the other does, so PATH_DOWN latches. -/
  | pathTimeout (f : Fin 16384)
  /-- SDI_IN_LINE (R344): A line arrives on an SDI input group and is written to the ingest buffer and the extract channels. -/
  | sdiInLine (i : Fin 16) (l : SdiLine)
  /-- SDI_IN_LOCK_LOSS (R344): A link of an SDI input group loses lock, which ends the frame incomplete and raises SDI_IN_LOST. -/
  | sdiInLockLoss (i : Fin 16) (link : Fin 4)
  /-- QUEUE_ENABLE (R348): A write of NQq_CTRL.EN = 1 is checked, and the queue starts or the write is refused with CFG_ERR. -/
  | queueEnable (o : Origin) (q : Fin 16384) (v : Word)
  /-- QUEUE_DISABLE (R349): A write of EN = 0 discards the waiting frames, or is refused while a head names the queue. -/
  | queueDisable (o : Origin) (q : Fin 16384) (v : Word)
  /-- TX_FRAME_ENQUEUE (R351): A frame reaches the head of a transmit queue from its source. -/
  | txFrameEnqueue (q : Fin 16384) (fr : TxFrame)
  /-- TX_FRAME_START (R351): The free port starts the first eligible MEDIA, CONTROL or BEST_EFFORT frame. -/
  | txFrameStart (p : Fin 4)
  /-- TX_FRAME_DONE (R356): A frame finishes transmission and is counted and stamped. -/
  | txFrameDone (p : Fin 4)
  /-- LAUNCH_PRESENT (R352): 2 µs before its launch time, a MEDIA head frame is presented to the port. -/
  | launchPresent (q : Fin 16384)
  /-- LATE_DROP (R357): A frame whose lateness exceeds NPp_LATE_TOL is dropped and counted. -/
  | lateDrop (q : Fin 16384)
  /-- GCL_ENABLE (R362): A write of NG_GCLp_CTRL.EN = 1 enables the port's gate list, with every gate open until a list runs. -/
  | gclEnable (o : Origin) (p : Fin 4) (v : Word)
  /-- GCL_DISABLE (R362): A write of EN = 0 discards both gate lists and opens every gate. -/
  | gclDisable (o : Origin) (p : Fin 4) (v : Word)
  /-- GCL_CHANGE (R363): A CHANGE write copies the admin list as the pending list with a base, or is refused with CFG_ERR. -/
  | gclChange (o : Origin) (p : Fin 4) (v : Word)
  /-- GCL_SWAP (R363): At its base the pending list becomes operational and GCL_ACTIVE latches. -/
  | gclSwap (p : Fin 4)
  /-- GATE_ENTRY (R362): The operational list moves to its next entry, or restarts at the end of its cycle. -/
  | gateEntry (p : Fin 4)
  /-- OBS_PERIOD (R366): At each observation period the port chooses its mode and samples queue depth and delay. -/
  | obsPeriod (p : Fin 4)
  /-- AD_ENABLE (R371): A write of ADc_CTRL.EN = 1 puts the channel in ACTIVE. -/
  | adEnable (o : Origin) (c : Fin 64) (v : Word)
  /-- AD_DISABLE (R371): A write of EN = 0 puts the channel in OFF and discards any burst in flight. -/
  | adDisable (o : Origin) (c : Fin 64) (v : Word)
  /-- AD_SW_IDX_WRITE (R372): A write of ADc_SW_IDX advances the software index, or is refused on overflow. -/
  | adSwIdxWrite (o : Origin) (c : Fin 64) (v : Word)
  /-- AD_BURST_DONE (R373): A slot burst completes and the consuming index advances. -/
  | adBurstDone (c : Fin 64) (data : List Byte)
  /-- AD_START (R379): ADc_CMD.START restarts a channel from ABORTED or ERROR. -/
  | adStart (o : Origin) (c : Fin 64)
  /-- AD_ABORT (R380): ADc_CMD.ABORT ends a burst in flight and sets STATE to ABORTED. -/
  | adAbort (o : Origin) (c : Fin 64)
  /-- AD_BUS_ERROR (R379): A bus or HBM error stops all 64 channels in ERROR and raises AD_BUS_ERR. -/
  | adBusError (c : Fin 64)
  /-- HQ_ENABLE (R381): A write of HQr_CTRL.EN = 1 from a PF makes it the ring's owner and the ring ACTIVE. -/
  | hqEnable (o : Origin) (r : Fin 64) (v : Word)
  /-- HQ_DISABLE (R381): A write of EN = 0 puts the ring in OFF and abandons the descriptor in flight. -/
  | hqDisable (o : Origin) (r : Fin 64) (v : Word)
  /-- HQ_DOORBELL (R384): A write of HQr_DB sets PROD, or is refused on overflow, latching DB_REF. -/
  | hqDoorbell (o : Origin) (r : Fin 64) (v : Word)
  /-- HQ_START (R385): HQr_CMD.START restarts a ring and re-executes the abandoned descriptor. -/
  | hqStart (o : Origin) (r : Fin 64)
  /-- HQ_ABORT (R386): HQr_CMD.ABORT ends the descriptor in flight with RESULT ABORTED. -/
  | hqAbort (o : Origin) (r : Fin 64)
  /-- HQ_NOP (R382): A NOP descriptor completes with no transfer. -/
  | hqNop (r : Fin 64) (d : HostDesc)
  /-- HQ_H2L_COPY (R382): An H2L descriptor copies host memory to local memory. -/
  | hqH2lCopy (r : Fin 64) (d : HostDesc) (data : List Byte)
  /-- HQ_L2H_COPY (R382): An L2H descriptor copies local memory to host memory. -/
  | hqL2hCopy (r : Fin 64) (d : HostDesc)
  /-- HQ_REG_WRITE (R382): A REG write descriptor waits for the earlier descriptors and then writes a register as the owner. -/
  | hqRegWrite (r : Fin 64) (d : HostDesc)
  /-- HQ_TX_FRAME (R383): A TX frame descriptor passes one frame to its queue. -/
  | hqTxFrame (r : Fin 64) (d : HostDesc) (data : List Byte)
  /-- HQ_RX_BUFFER (R383): An RX buffer descriptor posts a buffer for a received frame. -/
  | hqRxBuffer (r : Fin 64) (d : HostDesc)
  /-- HQ_DESC_COMPLETE (R382): A descriptor completes with its write-back, and CONS advances. -/
  | hqDescComplete (r : Fin 64)
  /-- HQ_BUS_ERROR (R385): A bus or HBM error on a DMA read stops all rings in ERROR and raises HQ_BUS_ERR. -/
  | hqBusError (r : Fin 64)
  /-- SP_POWER_ON (R390): A write of SPn_CTRL.EN = 1 in OFF moves the port to MEASURE and runs the supply and budget checks. -/
  | spPowerOn (o : Origin) (n : Fin 8)
  /-- SP_POWER_OFF (R395): A write of EN = 0 turns the gate off, clears TRIPS and enters OFF. -/
  | spPowerOff (o : Origin) (n : Fin 8)
  /-- SP_DATA_ENABLE (R399): A write of DATA = 1 starts HELLO discovery once the port is ON. -/
  | spDataEnable (o : Origin) (n : Fin 8)
  /-- SP_MEASURE_DONE (R391): The capacitance ramp ends, C is reported and the port enters ENERGISE or REFUSED. -/
  | spMeasureDone (n : Fin 8) (r : SpRamp)
  /-- SP_ENERGISE_DONE (R392): The 20 ms energise ramp ends, the port enters ON and its budget joins the grant. -/
  | spEnergiseDone (n : Fin 8)
  /-- SP_TRIP_FAST (R393): A port current at or above 1.4 A turns the gate off with cause TRIP_FAST. -/
  | spTripFast (n : Fin 8) (mA : Nat)
  /-- SP_I2T_SAMPLE (R393): Every 1 µs the I²t accumulator is updated, and the port trips when it passes its limit. -/
  | spI2tSample (n : Fin 8) (mA cV : Nat)
  /-- SP_SECOND_CHECK (R394): At each TAI second the per-port and total mean power are checked, and ports trip on overpower. -/
  | spSecondCheck (m : SpSecond)
  /-- SP_SUPPLY_LOW (R393): SP_VSUP below 18 V turns every energised port off with cause SUPPLY. -/
  | spSupplyLow (cV : Nat)
  /-- SP_RETRY (R395): RETRY seconds after a trip or refusal, the port returns to MEASURE. -/
  | spRetry (n : Fin 8)
  /-- SP_TRIPS_RESET (R395): 60 s of continuous ON resets TRIPS to 0. -/
  | spTripsReset (n : Fin 8)
  /-- SP_GATE_FAULT (R396): More than 50 mA for 10 ms with the gate off sets GATE_FAULT and raises SP_GATE. -/
  | spGateFault (n : Fin 8) (live : Bool)
  /-- LOOP_MAX_WRITE (R394): A write of SP_LOOP_MAX below the grant sum takes ON ports off in descending order. -/
  | loopMaxWrite (o : Origin) (v : Word)
  /-- SP_SAVE (R405): SP_CTRL.SAVE stores the Spemen configuration record in the Cellar. -/
  | spSave (o : Origin)
  /-- HELLO (R399): Every 100 ms a port without a link sends HELLO. -/
  | spHello (n : Fin 8)
  /-- CAPS (R399): A CAPS reply settles the version, and the device sends SELECT. -/
  | spCaps (n : Fin 8) (c : SpCaps)
  /-- STATUS (R403): A head's STATUS frame brings the link up or reports holdover and faults. -/
  | spStatus (n : Fin 8) (st : SpStatusFrame)
  /-- SYNC (R400): At each update instant the device sends SYNC, and missing replies are counted toward link loss. -/
  | spSync (n : Fin 8)
  /-- SP_LATCH (R400): 250 µs after SYNC the item, tally source and colours are latched and rendered. -/
  | spLatch (n : Fin 8)
  /-- TIME (R398): A v3 port sends the TIME frame once per second before the whole-second SYNC. -/
  | spTime (n : Fin 8)
  /-- SEG (R401): A v1 port sends the segment states of its dial. -/
  | spSeg (n : Fin 8)
  /-- BITMAP (R401): A v2 or v3 port sends the rendered intensity bitmap and tally. -/
  | spBitmap (n : Fin 8)
  /-- GL_ENABLE (R409): A write of GL_CTRL.EN = 1 moves ROLE to SEEKING once FIRST_LOCK is 1. -/
  | glEnable (o : Origin)
  /-- GL_DISABLE (R409): A write of EN = 0 moves ROLE to OFF. -/
  | glDisable (o : Origin)
  /-- ROSTER (R409): A received ROSTER starts a join, keeps membership or makes a leader step down. -/
  | glRosterRx (m : GlRoster)
  /-- ROSTER_SEND (R410): At each whole TAI second the leader multicasts ROSTER. -/
  | glRosterSend
  /-- JOIN (R411): The leader answers a JOIN with ADMIT, admitting, rejoining or refusing the index. -/
  | glJoin (m : GlJoin)
  /-- ADMIT (R409): An ADMIT reply makes the device MEMBER or REFUSED. -/
  | glAdmit (m : GlAdmit)
  /-- HEARTBEAT (R411): The leader receives a member's HEARTBEAT and restarts its timer. -/
  | glHeartbeat (m : GlHeartbeat)
  /-- HEARTBEAT_SEND (R411): At its slot every 2 s a member sends HEARTBEAT. -/
  | glHeartbeatSend
  /-- CLAIM (R410): A received CLAIM with a better key returns a claiming device to SEEKING. -/
  | glClaim (m : GlClaim)
  /-- CLAIM_SEND (R410): At each odd TAI second a claiming device multicasts CLAIM. -/
  | glClaimSend
  /-- CLAIM_ELECTION (R410): At the even second the best key among the heard claims becomes LEADER. -/
  | glClaimElection
  /-- REQUEST (R412): The leader judges a REQUEST's lead and busy state and sends PREPARE or ABORT. -/
  | glRequest (m : GlRequest)
  /-- PREPARE (R413): A member judges PREPARE and prepares its local group commit. -/
  | glPrepare (m : GlPrepare)
  /-- ACK_SEND (R413): At the later of its check end and its slot, a member sends ACK or NAK. -/
  | glAckSend
  /-- ACK (R414): The leader records an ACK and sends COMMIT once every member has acknowledged. -/
  | glAck (m : GlAck)
  /-- NAK (R414): A NAK makes the leader multicast ABORT with the member's reason. -/
  | glNak (m : GlNak)
  /-- COMMIT_RESEND (R414): 200 µs after the first COMMIT, the leader sends it again. -/
  | glCommitResend
  /-- ACK_DEADLINE (R414): An ACK still missing at T − GL_MARGIN − GL_PATH makes the leader abort with TIMEOUT. -/
  | glAckDeadline
  /-- COMMIT_MESSAGE (R415): A member receives COMMIT and releases its prepared set, or discards it as MISSED if late. -/
  | glCommitMessage (m : GlCommit)
  /-- ABORT (R415): A member receives ABORT and discards its prepared set. -/
  | glAbort (m : GlAbort)
  /-- MEMBER_COMMIT_TIMEOUT (R415): Neither COMMIT nor ABORT arrives by T − GL_MARGIN, so the member discards its set as MISSED. -/
  | glMemberCommitTimeout
  /-- REPORT (R415): The leader receives a member's REPORT of a non-committed outcome. -/
  | glReport (m : GlReport)
  /-- WRITE (R416): A WRITE message from a rostered member applies its register pairs with origin 0x80. -/
  | glWrite (m : GlWrite)
  /-- MEMBER_TIMEOUT (R411): A member sends no HEARTBEAT for 6 s, so the leader removes it. -/
  | glMemberTimeout (i : Fin 4096)
  /-- ROSTER_TIMEOUT (R409): A member misses three ROSTERs and returns to SEEKING. -/
  | glRosterTimeout
  /-- SEEK_TIMEOUT (R409): A candidate hears no ROSTER for 3 s and enters CLAIMING. -/
  | glSeekTimeout
  /-- FAULT_CLEAR (R426): A write of FC_CLEAR clears one latched source, or is rejected if its cause is live or it is FATAL. -/
  | faultClear (o : Origin) (id : Fin 512)
  /-- FAULT_CLEAR_ALL (R426): A write of FC_CLEAR with ALL = 1 clears every clearable latched source. -/
  | faultClearAll (o : Origin)
  /-- FAULT_REARM (R425): FC_CTRL.REARM clears FC_FIRST and FC_OVF. -/
  | faultRearm (o : Origin)
  /-- WINDOW_CLOSE (R431): A suppression window closes, and suppressed condition sources that are still live are raised. -/
  | windowClose (react : Reaction) (unit : Nat)
  /-- MIRROR_ENTRY (R441): The Cellar controller copies the oldest unmirrored entry into the audit mirror. -/
  | mirrorEntry
  /-- ENTRY_READ (R443): A write of SL_RD_SEQ_HI copies the named entry from the on-chip ring into the read words. -/
  | entryRead (o : Origin) (v : Word)
  /-- SEQ_LATCH_READ (R440): A read of SL_SEQ_LO returns the next SEQ and latches SL_SEQ_HI. -/
  | seqLatchRead (o : Origin)
  /-- CELLAR_RECORD_DONE (R445): A Cellar record write finishes and is read back, raising CL_WRITE on a mismatch. -/
  | cellarRecordDone (ok : Bool)
  /-- LG_ERASE (R450): A write of CL_LG_ERASE marks the last-good records of the named heads invalid. -/
  | lgErase (o : Origin) (v : Word)
  /-- SUPPLY_LOSS_WARNING (R447): SUPPLY_WARN_N asserts, raising PS_SUPPLY_LOSS and starting the hold-up writes. -/
  | supplyLossWarning
  /-- HOLDUP_SEAL (R447): At 9,950 µs after the warning, mirroring stops, the seal is written and the fabric holds all writes. -/
  | holdupSeal
  /-- EVALUATION_PERIOD (R457): At the end of each 100 ms period, CU17 checks the limits and applies one shedding step or a release. -/
  | evaluationPeriod
  /-- RAIL_POLL (R452): Every 10 ms each rail's voltage, current and status are read, and PS_RAIL is raised on a fault. -/
  | railPoll (r : Fin 16) (p : RailReading)
  /-- THERMAL_SAMPLE (R455): Every millisecond the sensors are read, and THERM_WARN or THERM_CRIT is raised. -/
  | thermalSample (t : List Int)
  /-- DOMAIN_WAKE (R454): A gated power domain wakes within 500 µs of a request. -/
  | domainWake (d : Nat)
  /-- HBM_FAIL (R433): An HBM stack stops responding or fails retraining, which raises HBM_FAIL. -/
  | hbmFail (k : Fin 2)
  /-- FABRIC_UNCORR (R433): An uncorrectable error in the fabric or DV_PERM raises FABRIC_UNCORR. -/
  | fabricUncorr
  /-- LT_START (R468): LTl_CMD.START begins a lane test, or is refused on a lane in use. -/
  | ltStart (o : Origin) (l : Fin 80)
  /-- LT_STOP (R471): LTl_CMD.STOP ends a lane test with STOPPED. -/
  | ltStop (o : Origin) (l : Fin 80)
  /-- EYE_GO (R472): LTl_CMD.EYE_GO starts an eye scan at the set phase and offset. -/
  | eyeGo (o : Origin) (l : Fin 80)
  /-- LT_GROUP_START (R469): LT_GROUP_CMD with START starts tests on a group of lanes as one write. -/
  | ltGroupStart (o : Origin) (v : Word)
  /-- LT_GROUP_STOP (R471): LT_GROUP_CMD with STOP stops the tests on a group of lanes. -/
  | ltGroupStop (o : Origin) (v : Word)
  /-- LT_DONE (R471): A lane test reaches 2^DUR bits compared and ends DONE. -/
  | ltDone (l : Fin 80) (errs : Nat)
  /-- EYE_SCAN_DONE (R472): An eye scan finishes its dwell and reports EYE_ERR. -/
  | eyeScanDone (l : Fin 80) (err : Nat)
  /-- BITS_LATCH_READ (R467): A read of LTl_BITS_LO returns the low count and latches BITS_HI. -/
  | bitsLatchRead (o : Origin) (l : Fin 80)
  /-- JTAG_UPDATE (R475): A JTAG instruction update takes control of the pins while RESET_N is low, or selects BYPASS otherwise. -/
  | jtagUpdate (ir : JtagInstr)
  /-- SUPPLY_WARN_RELEASE (R479): SUPPLY_WARN_N is released before boot step 3, and 100 ms later the sequencer starts the rails again. -/
  | supplyWarnRelease
  /-- PCIE_LINK_UP (R433): The PCIe link comes up again after a loss, a reset or a lane test, and the endpoint retrains. -/
  | pcieLinkUp
  /-- SDI_IN_LOCK_ACQUIRED (R344): Every link of an SDI input group locks, so LOCK sets and SDI_LOCK_CHG latches. -/
  | sdiInLockAcquired (i : Fin 16)
  /-- SDI_GROUP_RELOCK (R429): After an SDI reaction resets a serializer group and its PLL, the links relock and the group's signal may resume. -/
  | sdiGroupRelock (n : Fin 16)
  /-- MODULE_INT_CHANGE (R330): A module's IntL line changes, which sets or clears MOD_INT and latches MOD_INT in NPp_STATUS. -/
  | moduleIntChange (p : Fin 4) (low : Bool)
  /-- CHECKER_SYNC_ACQUIRED (R467): A lane checker sees 256 consecutive matching bits and enters sync. -/
  | checkerSyncAcquired (l : Fin 80)
  /-- CHECKER_SYNC_LOST (R467): A lane checker sees 16 errors within 256 bits, loses sync, counts it in LTl_SYNC_LOSS and seeks sync again. -/
  | checkerSyncLost (l : Fin 80)
  /-- LTC_WORDS_MISSING (R133): An LTC input is missing for three expected words, so it stops being present and LTC_CHG latches. -/
  | ltcWordsMissing (k : Fin 2) (n : Fin 4)
  /-- PPS_INPUT_LOSS (R107): The 10 MHz input leaves tolerance or a PPS edge fails to come, so PPS_BAD latches and RF_PPS_BAD is raised. -/
  | ppsInputLoss
  /-- TEN_MHZ_QUALIFY_CHANGE (R487): TEN_IN starts or stops meeting the 10 MHz condition, and the time PLL switches its reference between TEN_IN and TOSC_IN without a phase step. -/
  | tenMhzQualifyChange (ok : Bool)
  /-- OUT_LOAD_END (R144): An analogue output leaves current limit, so the cause of RF_OUT_LOAD is no longer live. -/
  | outLoadEnd (k : Fin 4)
  deriving DecidableEq, Repr

end Sys2Proof
end

