-- ==== Sys2Proof/Decode.lean ====
section
/-! DEFINITION. The commands that the words of spec/opcode_table.json spell. No row of that table gives bits or fields, so no
word spells a command. -/

namespace Sys2Proof

/-- The command of a word of the opcode table: none, since no row has bits. -/
def decodeTableWord (_nbits _w : Nat) : Option Instr := none

end Sys2Proof
end

