-- ==== Sys2Proof/Machine/Bits.lean ====
section
/-! DEFINITION. Bit fields, signed numbers, saturating counts and byte order. -/

namespace Sys2Proof.Machine

/-- Bits hi to lo of a word, as a number. -/
def bits (w : Word) (hi lo : Nat) : Nat := w.toNat / 2 ^ lo % 2 ^ (hi + 1 - lo)

/-- The mask of bits hi to lo. -/
def fieldMask (hi lo : Nat) : Word := BitVec.ofNat 32 ((2 ^ (hi + 1 - lo) - 1) * 2 ^ lo)

/-- A word with bits hi to lo replaced by the low bits of v. -/
def setBits (w : Word) (hi lo v : Nat) : Word :=
  (w &&& ~~~ fieldMask hi lo) ||| (BitVec.ofNat 32 (v % 2 ^ (hi + 1 - lo) * 2 ^ lo))

/-- Bit i of a number. -/
def nbit (n i : Nat) : Bool := n / 2 ^ i % 2 == 1

/-- 1 for true. -/
def b2n (b : Bool) : Nat := if b then 1 else 0

/-- The word of a number, modulo 2^32. -/
def w32 (n : Nat) : Word := BitVec.ofNat 32 n

/-- The number that the low `width` bits of n stand for in two's complement. -/
def signed (width n : Nat) : Int :=
  if n % 2 ^ width < 2 ^ (width - 1) then (n % 2 ^ width : Nat) else ((n % 2 ^ width : Nat) : Int) - (2 ^ width : Nat)

/-- The two's complement pattern of an integer in `width` bits. -/
def pattern (width : Nat) (i : Int) : Nat := (i % (2 ^ width : Nat)).toNat

/-- An integer kept within limits. -/
def clampI (lo hi i : Int) : Int := if i < lo then lo else if hi < i then hi else i

/-- n + k, but not above the greatest value of `width` bits. -/
def satAdd (width n k : Nat) : Nat := min (n + k) (2 ^ width - 1)

/-- The number of set bits among the low `width` bits. -/
def popcount : Nat → Nat → Nat
  | 0, _ => 0
  | w + 1, n => n % 2 + popcount w (n / 2)

/-- The bytes of a number, least significant first. -/
def bytesLE : Nat → Nat → List Byte
  | 0, _ => []
  | k + 1, n => BitVec.ofNat 8 n :: bytesLE k (n / 256)

/-- The number of a list of bytes, least significant first. -/
def ofBytesLE : List Byte → Nat
  | [] => 0
  | b :: bs => b.toNat + 256 * ofBytesLE bs

/-- The number of a list of bytes, most significant first (network order). -/
def ofBytesBE (bs : List Byte) : Nat := bs.foldl (fun a b => a * 256 + b.toNat) 0

/-- The bytes of a number, most significant first. -/
def bytesBE (k n : Nat) : List Byte := (bytesLE k n).reverse

/-- The quotient rounded up. -/
def ceilDiv (a b : Nat) : Nat := (a + b - 1) / b

/-- A list of bits as a number. -/
def ofBits (l : List (Nat × Bool)) : Nat := l.foldl (fun a e => a + (if e.2 then 2 ^ e.1 else 0)) 0

end Sys2Proof.Machine
end

