-- ==== Sys2Proof/Machine/Operands.lean ====
section
/-! DEFINITION. The operand forms of the cue engine: the fields of an instruction word and the forms of R267. -/

namespace Sys2Proof.Machine

def iOp (w : Word40) : Nat := w.toNat / 2 ^ 34
def iRd (w : Word40) : Nat := w.toNat / 2 ^ 29 % 32
def iRs1 (w : Word40) : Nat := w.toNat / 2 ^ 24 % 32
def iRs2 (w : Word40) : Nat := w.toNat / 2 ^ 19 % 32
def iImm (w : Word40) : Nat := w.toNat % 2 ^ 19
def iImm29 (w : Word40) : Nat := w.toNat % 2 ^ 29

/-- A 40-bit word from a number. -/
def w40 (n : Nat) : Word40 := BitVec.ofNat 40 n

/-- The 19-bit immediate, sign-extended to 40 bits. -/
def iSext (w : Word40) : Word40 := BitVec.ofInt 40 (signed 19 (iImm w))

/-- The 19-bit immediate, zero-extended. -/
def iZext (w : Word40) : Word40 := w40 (iImm w)

/-- The forms of R267. -/
inductive Form where
  | r | i | s | u | b | f
  deriving DecidableEq, Repr

/-- The fields that a form marks 0 hold zero. -/
def Form.ok (f : Form) (w : Word40) : Bool :=
  match f with
  | .r => iImm w == 0
  | .i => iRs2 w == 0
  | .s => iRd w == 0
  | .u => true
  | .b => iRs1 w == 0 && iRs2 w == 0
  | .f => iRd w == 0 && iImm w / 2048 == 0

/-- LSB and width of BFX and BFI. -/
def bfLsb (w : Word40) : Nat := iImm w % 64
def bfWidth (w : Word40) : Nat := iImm w / 64 % 64

/-- The field of BFX and BFI is legal (R270). -/
def bfOk (w : Word40) : Bool := decide (1 ≤ bfWidth w) && decide (bfWidth w ≤ 40) && decide (bfLsb w + bfWidth w ≤ 40)

/-- LSB and width of WRF. -/
def wrfLsb (w : Word40) : Nat := iImm w % 32
def wrfWidth (w : Word40) : Nat := iImm w / 32 % 64

/-- The field of WRF is legal (R270). -/
def wrfOk (w : Word40) : Bool := decide (1 ≤ wrfWidth w) && decide (wrfWidth w ≤ 32) && decide (wrfLsb w + wrfWidth w ≤ 32)

/-- The shift amount of an immediate shift, and that the bits above it hold zero. -/
def shImm (w : Word40) : Nat := iImm w % 64
def shOk (w : Word40) : Bool := iImm w / 64 == 0

/-- The head that COMMIT and RELEASE select on engine n: the bound head, or imm19[3:0]; none where it is illegal (R281). -/
def selHead (n : Nat) (w : Word40) : Option Nat :=
  if iImm w / 16 % 2 = 1 then (if n < 16 then some n else none) else some (iImm w % 16)

end Sys2Proof.Machine
end

