-- ==== Sys2Proof/Machine/Flags.lean ====
section
/-! DEFINITION. The flags of the cue engine: bit 0 Z, 1 N, 2 C, 3 V, 4 LATE (R269), shifts with their carry (R270) and the
conditions of Bcc (R271). -/

namespace Sys2Proof.Machine

/-- A flag of a flags value. -/
def fz (f : Nat) : Bool := nbit f 0
def fn (f : Nat) : Bool := nbit f 1
def fc (f : Nat) : Bool := nbit f 2
def fv (f : Nat) : Bool := nbit f 3
def flate (f : Nat) : Bool := nbit f 4

/-- A flags value from its five flags. -/
def mkFlags (z n c v late : Bool) : Nat := b2n z + 2 * b2n n + 4 * b2n c + 8 * b2n v + 16 * b2n late

/-- Replace one flag. -/
def setZ (f : Nat) (z : Bool) : Nat := mkFlags z (fn f) (fc f) (fv f) (flate f)
def setLate (f : Nat) (l : Bool) : Nat := mkFlags (fz f) (fn f) (fc f) (fv f) l

/-- Z and N of a result; C, V and LATE stay. -/
def znFlags (f : Nat) (r : Word40) : Nat := mkFlags (r == 0) r.msb (fc f) (fv f) (flate f)

/-- Z, N and C of a shift; C stays where the amount is 0. -/
def zncFlags (f : Nat) (r : Word40) (c : Option Bool) : Nat := mkFlags (r == 0) r.msb (c.getD (fc f)) (fv f) (flate f)

/-- Flags of a + b: C is the carry out of bit 39, V the signed overflow. -/
def addFlags (f : Nat) (a b : Word40) : Nat :=
  let r := a + b
  mkFlags (r == 0) r.msb (decide (2 ^ 40 ≤ a.toNat + b.toNat)) (a.msb == b.msb && r.msb != a.msb) (flate f)

/-- Flags of a − b: C is 1 when no borrow occurs. -/
def subFlags (f : Nat) (a b : Word40) : Nat :=
  let r := a - b
  mkFlags (r == 0) r.msb (decide (b.toNat ≤ a.toNat)) (a.msb != b.msb && r.msb != a.msb) (flate f)

/-- A shift by a six-bit amount, with the last bit shifted out (R270). -/
def shlOp (a : Word40) (k : Nat) : Word40 × Option Bool :=
  if k = 0 then (a, none) else if k ≤ 40 then (a <<< k, some (a.getLsbD (40 - k))) else (0, some false)

def shrOp (a : Word40) (k : Nat) : Word40 × Option Bool :=
  if k = 0 then (a, none) else if k ≤ 40 then (a >>> k, some (a.getLsbD (k - 1))) else (0, some false)

def sarOp (a : Word40) (k : Nat) : Word40 × Option Bool :=
  if k = 0 then (a, none) else if k ≤ 40 then (a.sshiftRight k, some (a.getLsbD (k - 1))) else (a.sshiftRight 40, some a.msb)

/-- The conditions of Bcc; none for a reserved code (R271). -/
def condHolds (cond f : Nat) : Option Bool :=
  match cond with
  | 0 => some true
  | 1 => some (fz f)
  | 2 => some !(fz f)
  | 3 => some (fn f != fv f)
  | 4 => some (fn f == fv f)
  | 5 => some (!fz f && fn f == fv f)
  | 6 => some (fz f || fn f != fv f)
  | 7 => some !(fc f)
  | 8 => some (fc f)
  | 9 => some (fn f)
  | 10 => some !(fn f)
  | 11 => some (fv f)
  | 12 => some !(fv f)
  | 13 => some (flate f)
  | 14 => some !(flate f)
  | _ => none

end Sys2Proof.Machine
end

