-- ==== Sys2Proof/Config.lean ====
section
/-! DEFINITION. What the manual leaves open: the free values. Each is a constant with no body, so that nothing can be
proved of its value; State.free numbers the fresh ones. -/

namespace Sys2Proof

/-- A fresh free number; each use of it takes the next index. -/
opaque Config.freeNat : Nat → Nat

/-- A fresh free word. -/
opaque Config.freeWord : Nat → Word

/-- What a read above local memory gives. -/
opaque Config.beyondByte : Nat → Byte

/-- An ancillary packet of a number of words fits the VANC or (true) HANC space of a line of a raster (FMT, RATE) beside the
packets inserted there before it (R374 gives the rule, and no space). -/
opaque Config.ancFits : Bool → Nat → Nat → List Nat → Nat → Bool

/-- Octet i of the Ethernet, IPv4 and UDP headers of an ST 2110-20 packet: head, path, packet number, i (R354 gives their
length, and no content). -/
opaque Config.stHeader : Nat → Nat → Nat → Nat → Byte

/-- The RTP payload type and the SSRC of a head's stream, one for both paths. -/
opaque Config.rtpType : Nat → Nat
opaque Config.rtpSsrc : Nat → Word

/-- The first RTP sequence number of a head's stream. -/
opaque Config.rtpFirst : Nat → Nat

/-- By how much a code differs from the exact one; only its remainder of 3 counts (R198: at most 1): head, destination, frame, line,
sample. -/
opaque Config.codeSlip : Nat → Nat → Nat → Nat → Nat → Nat

/-- How many samples a destination drops (even numbers, twice the count) or repeats (odd ones) on a line before it recentres, and where
in the line: head, destination, frame, line (R24). -/
opaque Config.fifoSlip : Nat → Nat → Nat → Nat → Nat × Nat

/-- The ST 352 payload ID of a link of an SDI destination (R161 names it, and no coding): FMT, RATE, links, link. -/
opaque Config.payloadId : Nat → Nat → Nat → Nat → Word

/-- The components of the safe picture on a destination that is not 10-bit YCbCr: destination, encoding or sampling, deep
flag and the colour of HDn_SAFE. -/
opaque Config.safePixel : Nat → Nat → Bool → Word → List Nat

/-- FULL_RANGE of a protected slot, which has no such field (R249). -/
opaque Config.slotFullRange : Bool

/-- The frame within the second that a strip shows on a Spemen port, which has no frame rate (R321, R324). -/
opaque Config.portFrame : Nat

/-- The size of the all-dark image of a Spemen port, and whether it has six cells under version 1 (R402 gives neither). -/
opaque Config.darkSize : Nat → Nat × Nat
opaque Config.darkSix : Nat → Bool

/-- The detail of IFACE_NO_COMMON for an interface (Plestonas, cue ISA, Spemen Link, Glachapol) and its function, engine or port
(R91 says what it names, and no coding). -/
opaque Config.ifaceDetail : Nat → Nat → Nat

/-- The response words of a mailbox command, from the values that they carry (the chapters list these, and no layout). -/
opaque Config.mbxWords : Nat → List Nat → List Word

/-- The time zone code of ST 309 for local time less UTC in minutes, and the binary group flags' part of the user bits (R139 names
the standard). -/
opaque Config.st309Zone : Int → Nat

/-- The grade 1 reference code of byte 4 of the DARS channel status, and the bytes that R140 does not list. -/
opaque Config.darsGrade : Byte
opaque Config.darsByte : Nat → Byte

/-- A byte of a Cellar record: region, generation, offset in the region (R444 lists contents, and no layout). -/
opaque Config.cellarByte : Nat → Nat → Nat → Byte

/-- The Plestonas version that introduced a command, as its place among the versions that the device supports, highest first (R91, R92: the
spec gives none). -/
opaque Config.plesSince : Nat → Fin 8

/-- The low 12 bits of the IDCODE, which the BSDL file gives (R474). -/
opaque Config.idcodeLow : Nat

/-- An ST 352 payload ID agrees with a raster and rate (R344 names the test, and no coding of the ID). -/
opaque Config.pidAgrees : Nat → Nat → Word → Bool

end Sys2Proof
end

