-- ==== Sys2Proof/Machine/FaultTable.lean ====
section
/-! DEFINITION. The master fault table of R434: the class, the reaction and the kind of every source. -/

namespace Sys2Proof.Machine

/-- The class of a source: 0 NOTICE, 1 MINOR, 2 MAJOR, 3 FATAL; none for an ID not listed (R434). -/
def srcClass (id : Nat) : Option Nat :=
  if id = 0x001 ∨ id = 0x1F3 ∨ id = 0x1F5 ∨ id = 0x1F7 then some 3
  else if id ∈ [0x004, 0x014, 0x044, 0x046, 0x04B, 0x04D, 0x04E, 0x142, 0x162, 0x195, 0x1CA, 0x1D4, 0x1D6, 0x1E3, 0x1F6] then some 0
  else if id ∈ [0x010, 0x013, 0x041, 0x047, 0x140, 0x160, 0x163, 0x164, 0x1C0, 0x1C8, 0x1D7, 0x1F0, 0x1F2, 0x1F8, 0x1FA] then some 2
  else if id ∈ [0x003, 0x011, 0x012, 0x020, 0x040, 0x042, 0x043, 0x045, 0x048, 0x049, 0x04A, 0x04C, 0x118, 0x141, 0x143, 0x161,
      0x188, 0x189, 0x196, 0x1C1, 0x1C9, 0x1D0, 0x1D1, 0x1D2, 0x1D3, 0x1D5, 0x1E0, 0x1E1, 0x1E2, 0x1E4, 0x1E5, 0x1F1, 0x1F4,
      0x1F9, 0x1FB] then some 1
  else if 0x080 ≤ id ∧ id < 0x100 then
    if id % 8 = 0 ∨ id % 8 = 3 then some 2 else if id % 8 = 5 ∨ id % 8 = 6 then some 0 else some 1
  else if 0x100 ≤ id ∧ id < 0x110 then some 2
  else if 0x110 ≤ id ∧ id < 0x118 then some 1
  else if 0x148 ≤ id ∧ id < 0x14C then some 0
  else if 0x14C ≤ id ∧ id < 0x150 then some 1
  else if 0x180 ≤ id ∧ id < 0x184 then some 1
  else if 0x190 ≤ id ∧ id < 0x194 then some 1
  else if 0x1A0 ≤ id ∧ id < 0x1B0 then some 1
  else none

/-- The default reaction of a source (R434). -/
def srcReact (id : Nat) : Reaction :=
  if id = 0x001 ∨ id = 0x1F7 then .safe
  else if id = 0x1F3 ∨ id = 0x1F5 then .shut
  else if id = 0x013 ∨ id = 0x160 ∨ id = 0x163 ∨ id = 0x164 then .svc
  else if id = 0x047 then .tpll
  else if id = 0x1FA then .clr
  else if 0x080 ≤ id ∧ id < 0x100 ∧ id % 8 = 0 then .sdi
  else .none

/-- FC_CFGs.REACT: the code of a default reaction. -/
def reactCode : Reaction → Nat
  | .none => 0 | .svc => 1 | .sdi => 2 | .tpll => 3 | .clr => 4 | .safe => 5 | .shut => 6 | .stop => 0

/-- The sources marked "/ NONE", whose REACT_OFF may be set (R435). -/
def mayReactOff (id : Nat) : Bool := id == 0x1FA || (decide (0x080 ≤ id) && decide (id < 0x100) && id % 8 == 0)

/-- The sources marked "or STOP", whose STOP_HEAD may be set (R435). -/
def mayStop (id : Nat) : Bool :=
  decide (0x080 ≤ id) && decide (id < 0x100) && (id % 8 == 0 || id % 8 == 1 || id % 8 == 2 || id % 8 == 3 || id % 8 == 4 || id % 8 == 7)

/-- The sources of class MINOR or MAJOR whose cause is an event, which is never live (R434). -/
def isEvent (id : Nat) : Bool :=
  id ∈ [0x011, 0x012, 0x013, 0x020, 0x042, 0x043, 0x118, 0x143, 0x161, 0x164, 0x188, 0x189, 0x1C1, 0x1C9, 0x1D0, 0x1D1, 0x1D3,
    0x1D5, 0x1E1, 0x1E4, 0x1E5, 0x1F9, 0x1FB] || (decide (0x080 ≤ id) && decide (id < 0x100) && id % 8 == 4)
    || (decide (0x100 ≤ id) && decide (id < 0x118)) || (decide (0x14C ≤ id) && decide (id < 0x150))

/-- The sources that a reaction makes consequential (R429): the reaction, the unit it resets, the source, and the unit
(head or cue engine) that raises it. -/
def consequential (r : Reaction) (unit id raiser : Nat) : Bool :=
  match r with
  | .svc => id ∈ [0x040, 0x045, 0x1E0, 0x1E4, 0x1D3, 0x014] || (id == 0x161 && decide (16 ≤ raiser) && decide (raiser < 20))
  | .sdi => id == 0x083 + 8 * unit
  | .tpll => (decide (0x080 ≤ id) && decide (id < 0x100) && (id % 8 == 0 || id % 8 == 1 || id % 8 == 3))
      || (decide (0x180 ≤ id) && decide (id < 0x184)) || id ∈ [0x048, 0x189, 0x1D3, 0x161]
  | .clr => id == 0x020
  | _ => false

end Sys2Proof.Machine
end

