-- ==== Sys2Proof/Machine/RegName.lean ====
section
/-! DEFINITION. The names of the registers and the shape of the register tables of spec/ (R2, R3, R4, R35, R39). -/

namespace Sys2Proof.Machine

/-- Access types of R3. -/
inductive Access where
  | rw | ro | wo | mw | sq | rc | w1
  deriving DecidableEq, Repr

/-- Apply classes of R4; `na` is the dash of the tables. -/
inductive Apply where
  | na | imm | line | frame | vint | pkt | per | stop | once | lock
  deriving DecidableEq, Repr

/-- The blocks of R35. `CUS` is the shared area of CU (INSTANCE 24 of block code 20). -/
inductive Blk where
  | DV | FC | SL | CL | PS | TB | RF | CK | AD | HQ | LT | SP | GL | HD | CE | DT | NP | NR | NQ | NG | CU | CUS
  deriving DecidableEq, Repr

/-- Every register of the register tables, by the name its chapter gives it (indices left out).
`xx_` names are the block header of R39. `SPP_` stands for the registers SPn_ of one Spemen port, and `CUS_` for
the shared registers CU_ of the cue engines. -/
inductive Reg where
  | xx_ID | xx_LOCK | xx_STATUS_MODE | xx_REFUSED | xx_STATUS | xx_LIVE | xx_INT_EN | xx_INT_VEC | xx_AGE | DV_MODE
  | DV_PART | DV_ACC_ERR | DV_SNAP | DV_SNAP_STAT | DV_SNAP_ID | DV_SNAP_TAI_SL | DV_SNAP_TAI_SH | DV_SNAP_TAI_NS
  | DV_SNAP_BASE_LO | DV_SNAP_BASE_HI | DV_PERM_LO | DV_PERM_HI | DV_CTRL | DV_RESET | DV_RST_CAUSE | DV_BOOT_STAT
  | DV_BOOT_VER | DV_BOOT_CFG | DV_SVC_READY | DV_IFV_PLES01 | DV_IFV_PLES23 | DV_IFV_ISA | DV_IFV_GL | DV_IFV_SP
  | DV_MBX_DOORBELL | DV_MBX_STAT | DV_MBX_RESULT | DV_MBX_VEC | DV_MBX_REQ | DV_MBX_RSP | TB_STATE | TB_CTRL
  | TB_SRC_PRIO | TB_OWNER | TB_RESTEP | TB_INC_LO | TB_INC_HI | TB_INC_REQ_LO | TB_INC_REQ_HI | TB_INC_NOM_LO
  | TB_INC_NOM_HI | TB_MAX_SLEW | TB_STEP_THRESH | TB_LOCK_THRESH | TB_LOCK_TIME | TB_HOLD_AVG | TB_HOLD_MAX
  | TB_TIME_SL | TB_TIME_SH | TB_TIME_NS | TB_TIME_FR | TB_UTC | TB_LEAP_AT | TB_OFS | TB_STEP_CNT | TB_CLAMP
  | TB_TSC_TX | TB_TSC_RX | TB_ASYM | TB_TSQ_DEPTH | TB_TSQ_POP | TB_TSQ_SL | TB_TSQ_NS | TB_TSQ_SH | RF_CTRL | RF_JAM
  | RF_IN_CTRL | RF_IN_STAT | RF_IN_PHASE | RF_IN_LOSS | RF_LTCIN_CTRL | RF_LTCIN_ZONE | RF_LTCIN_LABEL | RF_LTCIN_UB
  | RF_OUT_CTRL | RF_OUT_OFS | RF_LTCOUT_CTRL | RF_LTCOUT_OFS | RF_LTCOUT_UB | RF_DARS_CTRL | RF_DARS_OFS | RF_PPS_CTRL
  | RF_PPS_WIDTH | RF_PPS_OFS | RF_PPSIN_COMP | HD_CTRL | HD_STAT | HD_RASTER | HD_PHASE | HD_COMMIT_LEAD
  | HD_FETCH_LEAD | HD_GROUP | HD_BW_RESERVE | HD_DEST_SDI | HD_DEST_DP | HD_DEST_ST | HD_DEST_ST2 | HD_IDLE | HD_SAFE
  | HD_SMP | HD_FRAME_LO | HD_FRAME_HI | HD_POS | HD_DP_RETRAIN | CE_L_CTRL | CE_L_SOURCE | CE_L_ADDR0_LO
  | CE_L_ADDR0_HI | CE_L_ADDR1_LO | CE_L_ADDR1_HI | CE_L_PITCH | CE_L_OPMAP_LO | CE_L_OPMAP_HI | CE_L_PAL_LO
  | CE_L_PAL_HI | CE_L_SRC_SIZE | CE_L_CROP_XY | CE_L_CROP_WH | CE_L_DST_XY | CE_L_DST_WH | CE_L_IN_COLOUR | CE_L_SCALE
  | CE_L_BLEND | CE_L_FILL_RG | CE_L_FILL_BA | CE_L_CONST_RG | CE_L_CONST_B | CE_L_FENCE_WAIT | CE_L_FENCE_SIGNAL
  | CE_L_FENCE_STAT | CE_L_PT_LAG | CE_L_NOTREADY_CNT | CE_L_LATE_LINES | CE_L_SHOWN_LO | CE_L_SHOWN_HI
  | CE_L_INGEST_AGE | CE_ORDER_CTRL | CE_ORDER | CE_COMMIT | CE_RELEASE | CE_RELEASE_AT_LO | CE_RELEASE_AT_HI
  | CE_JRN_BASE_LO | CE_JRN_BASE_HI | CE_JRN_CTRL | CE_JRN_WR | CE_CSTAT | CE_CDET | CE_VINT_APP | CE_CREJ | CE_HCOEF
  | CE_VCOEF | CE_OC_BG_RG | CE_OC_BG_B | CE_OC_D_CTRL | CE_OC_D_GAIN | CE_LB_CORR | CE_SRAM_UNCORR | CE_SAT_CNT
  | CE_ADM_PEAK_B | CE_ADM_PEAK_LP | CE_ADM_PEAK_RES | CE_ADM_FAIL_NEED | CE_ADM_FAIL_LIMIT | CE_ADM_CULL | CE_UNDERRUN
  | CE_HBM_ERR | CE_PL_OWNER | CE_PL_WIN_LO | CE_PL_WIN_HI | CE_PL_CTRL | CE_PL_S_ADDR_LO | CE_PL_S_ADDR_HI
  | CE_PL_S_SIZE | CE_PL_S_FMT | CE_PL_S_REF | CE_PL_S_REF_N | CE_PL_S_STAT | CE_PL_PLACE | CE_PL_COMMIT | CE_PL_CSTAT
  | CE_PL_WR_DENY | CE_PL_FAILS | CK_CMD | CK_CFG | CK_ADDR_LO | CK_ADDR_HI | CK_LEN | CK_ROWS | CK_STRIDE | CK_RUN
  | CK_EXPECT | CK_STAT | CK_RESULT | CK_PROG | CK_PL_LOAD | CU_CTRL | CU_STAT | CU_PC | CU_ENTRY | CU_VBASE | CU_IMG
  | CU_TRAP_EN | CU_LATE_WIN | CU_FLAGS | CU_EPC | CU_ECAUSE | CU_EDATA | CU_RETIRED | CU_LATE_CNT | CU_TRAP_CNT
  | CU_PARAM | CU_DOORBELL | CU_DM_IDX | CU_DM_LO | CU_DM_HI | CU_C_LO | CU_C_HI | CUS_SCR_IDX | CUS_SCR_DATA
  | CUS_MEM_CORR | CUS_MEM_UNCORR | CU_EVT_PEND | CU_EVT_OVR | DT_CTRL | DT_SOFT_TALLY | DT_GLY_IDX | DT_GLY_DATA
  | DT_SRAM_CORR | DT_SRAM_UNCORR | DT_D_CTRL | DT_D_SIZE | DT_D_HANDS | DT_D_DELAY | DT_D_COL | DT_Z_OFS | DT_Z_START
  | DT_Z_END | DT_G_OFS | DT_G_DIM | DT_S_TXT | DT_S_CTRL | DT_S_SIZE | DT_S_LAYOUT | DT_S_GLYPHS | DT_S_DELAY
  | DT_S_COL | DT_G_BY | NP_CTRL | NP_STAT | NP_MAC_LO | NP_MAC_HI | NP_IPV4 | NP_RX_CFG | NP_DEFAULT | NP_LANE_POL
  | NP_I2C_CMD | NP_I2C_DATA | NP_I2C_STAT | NP_MOD_CTRL | NP_RX_FRAMES | NP_RX_FCS | NP_RX_LEN | NP_RX_FILTERED
  | NP_RX_NODEST | NP_CTL_DROP | NP_FEC_CORR | NP_FEC_UNCORR | NP_LINK_DOWN | NR_CTRL | NR_DST_IP | NR_SRC_IP | NR_UDP
  | NR_VIDEO | NR_BUF_LO | NR_BUF_HI | NR_POL_RATE | NR_POL_BURST | NR_STAT | NR_PKTS | NR_POL_DROP | NR_FRAMES
  | NR_ERRS | NR_LAG | NQ_CTRL | NQ_RATE | NQ_BURST | NQ_MODEL | NQ_PAYLOAD | NQ_PERIOD | NQ_PHASE | NQ_QUANTUM
  | NQ_STAT | NQ_CREDIT | NQ_FRAMES | NQ_LATE_DROP | NQ_OVERSIZE | NQ_LATE_SENT | NQ_OBS_DEPTH | NQ_OBS_DELAY
  | NG_GCL_CTRL | NG_GCL_ADMIN_LEN | NG_GCL_ADMIN_CYCLE | NG_GCL_ADMIN_BASE_SL | NG_GCL_ADMIN_BASE_SH
  | NG_GCL_ADMIN_BASE_NS | NG_GCL_OPER_LEN | NG_GCL_OPER_CYCLE | NG_GCL_OPER_BASE_SL | NG_GCL_OPER_BASE_SH
  | NG_GCL_OPER_BASE_NS | NG_GCL_STAT | NG_GCL_ADMIN | NG_GCL_OPER | NP_NQ_OVERHEAD | NP_LATE_TOL | NP_SAMPLE_PERIOD
  | NP_TX_ACTIVE | NP_MEDIA_RATE | NP_TX_FRAMES | NP_TX_LATE_DROP | NP_TX_OVERSIZE | NP_TX_DOWN_DROP | AD_CTRL
  | AD_BASE_LO | AD_BASE_HI | AD_SW_IDX | AD_HW_IDX | AD_CMD | AD_STAT | AD_BURSTS | AD_LOST | AD_OVF | AD_ORPHAN
  | HQ_CTRL | HQ_BASE_LO | HQ_BASE_HI | HQ_DB | HQ_CONS | HQ_CMD | HQ_STAT | HQ_DROP | SP_CTRL | SP_LOOP_MAX | SP_LOOP
  | SP_VSUP | SPP_CTRL | SPP_LIMITS | SPP_MAP | SPP_TALLY_ON | SPP_TALLY_OFF | SPP_STAT | SPP_CAP | SPP_MEAS | SPP_POWER
  | SPP_HEAD_ID | SPP_HEAD_CAP | SPP_TRIPS | SPP_LINK_ERR | GL_CTRL | GL_ID | GL_PRIO | GL_GROUP_ADDR | GL_UDP
  | GL_MARGIN | GL_PATH | GL_MAP | GL_STATE | GL_MEMBERS | GL_CID | GL_CSTAT | GL_T_LO | GL_T_HI | GL_APPLIED
  | GL_ABORTED | GL_MISSED | GL_RX_BAD | FC_CTRL | FC_FIRST_ID | FC_FIRST_TAI_SL | FC_FIRST_TAI_SH | FC_FIRST_TAI_NS
  | FC_FIRST_ORG | FC_OVF | FC_CLEAR | FC_CLEAR_REJ | FC_SUPPRESSED | FC_PINS | FC_LAT | FC_COND | FC_SUP | FC_CFG
  | FC_CNT | SL_CTRL | SL_SEQ_LO | SL_SEQ_HI | SL_MIRROR_LAG | SL_LOST | SL_STREAM_BASE_LO | SL_STREAM_BASE_HI
  | SL_STREAM_CFG | SL_STREAM_WR | SL_STREAM_RD | SL_STREAM_LOST | SL_RD_SEQ_LO | SL_RD_SEQ_HI | SL_RD_STAT | SL_RD_W
  | CL_AUTO_RESTORE | CL_STAT | CL_LG_ERASE | CL_CORR | CL_LG_VINT | CL_LG_STAT | CL_WEAR | PS_CTRL | PS_LIMITS
  | PS_SP_FLOOR | PS_THERM | PS_HOLD | PS_POWER | PS_SHED | PS_DOMAINS | PS_TEMP | PS_RAIL_VI | PS_RAIL_STAT
  | LT_GROUP_CMD | LT_CFG | LT_USER_LO | LT_USER_HI | LT_CMD | LT_STAT | LT_BITS_LO | LT_BITS_HI | LT_ERRORS
  | LT_SYNC_LOSS | LT_EYE_CTRL | LT_EYE_ERR | LT_SVC_ERR | NG_SDI_CTRL | NG_SDI_VIDEO | NG_SDI_BUF_LO | NG_SDI_BUF_HI
  | NG_SDI_PID | NG_SDI_STAT | NG_SDI_CRC_ERR | NG_SDI_FRAMES | NG_SDI_ERRS | NG_SDI_LAG
  deriving DecidableEq, Repr

/-- One field of a register: bits hi to lo, its access type, its Apply class and its reset value. -/
structure FieldDef where
  hi : Nat
  lo : Nat
  acc : Access
  app : Apply
  reset : Nat
  deriving DecidableEq, Repr

/-- One register: its block, its offset in the block instance, its dimensions there (count, stride; outermost first)
and its fields. Bits of no field are reserved: they read 0 and a write leaves them. -/
structure RegDef where
  blk : Blk
  off : Nat
  dims : List (Nat × Nat)
  fields : List FieldDef
  deriving DecidableEq, Repr

/-- A register instance: its name and its indices, the block instance first where the block has several. -/
abbrev Key := Reg × List Nat

/-- A field of a register instance. -/
structure Fld where
  key : Key
  hi : Nat
  lo : Nat
  deriving DecidableEq, Repr

end Sys2Proof.Machine
end

