-- ==== Sys2Proof/Machine/RegTable.lean ====
section
/-! DEFINITION. The register tables of spec/, one line a register: offset, dimensions and fields
(bits, access type, Apply class, reset value), with the fields named in the comment. A reset value that spec/ takes from the
Cellar stands here as the value of a Cellar without that record (log 9). -/

namespace Sys2Proof.Machine

/-- A row of the field list. -/
abbrev fd (hi lo : Nat) (acc : Access) (app : Apply) (reset : Nat) : FieldDef := ⟨hi, lo, acc, app, reset⟩

/-- The registers of the header of R39. Their block is in the key: its code and its instance. -/
def regDefHeader : Reg → RegDef
  -- BLOCK, INSTANCE, VER_MAJOR, VER_MINOR
  | .xx_ID => ⟨.DV, 0x0, [], [fd 31 24 .ro .na 0, fd 23 16 .ro .na 0, fd 15 8 .ro .na 1, fd 7 0 .ro .na 0]⟩
  -- LOCK
  | .xx_LOCK => ⟨.DV, 0x4, [], [fd 0 0 .w1 .once 0]⟩
  -- MODE
  | .xx_STATUS_MODE => ⟨.DV, 0x8, [], [fd 0 0 .mw .imm 0]⟩
  -- COUNT
  | .xx_REFUSED => ⟨.DV, 0xc, [], [fd 15 0 .rc .na 0]⟩
  -- SEQ, EVENTS
  | .xx_STATUS => ⟨.DV, 0x10, [], [fd 31 24 .sq .na 0, fd 23 0 .sq .na 0]⟩
  -- COND
  | .xx_LIVE => ⟨.DV, 0x14, [], [fd 23 0 .ro .na 0]⟩
  -- EN
  | .xx_INT_EN => ⟨.DV, 0x18, [], [fd 23 0 .rw .imm 0]⟩
  -- VECTOR, PF
  | .xx_INT_VEC => ⟨.DV, 0x1c, [], [fd 7 0 .mw .imm 0, fd 9 8 .mw .imm 0]⟩
  -- AGE, WR_PEND
  | .xx_AGE => ⟨.DV, 0x20, [], [fd 7 0 .ro .na 0, fd 8 8 .ro .na 0]⟩
  | _ => ⟨.DV, 0, [], []⟩

/-- Registers of block DV (spec/02_register_model.md, 03_modes_and_startup.md). -/
def regDefDV : Reg → RegDef
  -- MODE
  | .DV_MODE => ⟨.DV, 0x40, [], [fd 3 0 .ro .na 0]⟩
  -- PART, STEPPING
  | .DV_PART => ⟨.DV, 0x44, [], [fd 31 16 .ro .na 25728, fd 15 8 .ro .na 0]⟩
  -- PARTIAL, DENIED_WR, DENIED_RD, UNMAPPED
  | .DV_ACC_ERR => ⟨.DV, 0x48, [], [fd 7 0 .rc .na 0, fd 15 8 .rc .na 0, fd 23 16 .rc .na 0, fd 31 24 .rc .na 0]⟩
  -- BLOCKS
  | .DV_SNAP => ⟨.DV, 0x50, [], [fd 20 0 .wo .imm 0]⟩
  -- BUSY
  | .DV_SNAP_STAT => ⟨.DV, 0x54, [], [fd 0 0 .ro .na 0]⟩
  -- ID
  | .DV_SNAP_ID => ⟨.DV, 0x58, [], [fd 31 0 .ro .na 0]⟩
  -- SEC_LO
  | .DV_SNAP_TAI_SL => ⟨.DV, 0x5c, [], [fd 31 0 .ro .na 0]⟩
  -- SEC_HI
  | .DV_SNAP_TAI_SH => ⟨.DV, 0x60, [], [fd 15 0 .ro .na 0]⟩
  -- NS
  | .DV_SNAP_TAI_NS => ⟨.DV, 0x64, [], [fd 31 0 .ro .na 0]⟩
  -- ADDR
  | .DV_SNAP_BASE_LO => ⟨.DV, 0x68, [], [fd 31 12 .rw .imm 0]⟩
  -- ADDR
  | .DV_SNAP_BASE_HI => ⟨.DV, 0x6c, [], [fd 2 0 .rw .imm 0]⟩
  -- BLK15_0
  | .DV_PERM_LO => ⟨.DV, 0x100, [(32, 0x8)], [fd 31 0 .w1 .once 0]⟩
  -- BLK20_16
  | .DV_PERM_HI => ⟨.DV, 0x104, [(32, 0x8)], [fd 9 0 .w1 .once 0]⟩
  -- OPERATE, SHUTDOWN
  | .DV_CTRL => ⟨.DV, 0x70, [], [fd 0 0 .mw .imm 0, fd 1 1 .mw .imm 0]⟩
  -- KIND, KEY
  | .DV_RESET => ⟨.DV, 0x74, [], [fd 3 0 .wo .imm 0, fd 31 16 .wo .imm 0]⟩
  -- LAST, WARM_CNT
  | .DV_RST_CAUSE => ⟨.DV, 0x78, [], [fd 3 0 .ro .na 0, fd 15 8 .ro .na 0]⟩
  -- SLOT, FALLBACK, CELLAR_OK, RESTORED, MAINT, ATT_A, ATT_B
  | .DV_BOOT_STAT => ⟨.DV, 0x7c, [], [fd 0 0 .ro .na 0, fd 1 1 .ro .na 0, fd 2 2 .ro .na 0, fd 3 3 .ro .na 0, fd 7 4 .ro .na 0, fd 11 8 .ro .na 0, fd 15 12 .ro .na 0]⟩
  -- VERSION
  | .DV_BOOT_VER => ⟨.DV, 0x80, [], [fd 31 0 .ro .na 0]⟩
  -- FORCE_EN, FORCE_SLOT, HOLD, MAX_ATT
  | .DV_BOOT_CFG => ⟨.DV, 0x84, [], [fd 0 0 .rw .imm 0, fd 1 1 .rw .imm 0, fd 15 8 .rw .imm 50, fd 19 16 .rw .imm 3]⟩
  -- READY
  | .DV_SVC_READY => ⟨.DV, 0x88, [], [fd 3 0 .ro .na 0]⟩
  -- PF0, PF1
  | .DV_IFV_PLES01 => ⟨.DV, 0x90, [], [fd 15 0 .ro .na 0, fd 31 16 .ro .na 0]⟩
  -- PF2, PF3
  | .DV_IFV_PLES23 => ⟨.DV, 0x94, [], [fd 15 0 .ro .na 0, fd 31 16 .ro .na 0]⟩
  -- IMPL, LOWEST
  | .DV_IFV_ISA => ⟨.DV, 0x98, [], [fd 15 0 .ro .na 258, fd 31 16 .ro .na 256]⟩
  -- DOMAIN
  | .DV_IFV_GL => ⟨.DV, 0x9c, [], [fd 7 0 .ro .na 0]⟩
  -- PORTS
  | .DV_IFV_SP => ⟨.DV, 0xa0, [], [fd 15 0 .ro .na 0]⟩
  -- TAG, CANCEL
  | .DV_MBX_DOORBELL => ⟨.DV, 0x1000, [(4, 0x400)], [fd 15 0 .wo .imm 0, fd 31 31 .wo .imm 0]⟩
  -- STATE, TAG
  | .DV_MBX_STAT => ⟨.DV, 0x1004, [(4, 0x400)], [fd 1 0 .ro .na 0, fd 31 16 .ro .na 0]⟩
  -- CODE
  | .DV_MBX_RESULT => ⟨.DV, 0x1008, [(4, 0x400)], [fd 15 0 .ro .na 0]⟩
  -- VECTOR, EN
  | .DV_MBX_VEC => ⟨.DV, 0x100c, [(4, 0x400)], [fd 7 0 .mw .imm 0, fd 8 8 .mw .imm 0]⟩
  -- WORD
  | .DV_MBX_REQ => ⟨.DV, 0x1100, [(4, 0x400), (64, 0x4)], [fd 31 0 .rw .imm 0]⟩
  -- WORD
  | .DV_MBX_RSP => ⟨.DV, 0x1200, [(4, 0x400), (64, 0x4)], [fd 31 0 .ro .na 0]⟩
  | r => regDefHeader r

/-- Registers of block FC (spec/19_faults_and_recovery.md). -/
def regDefFC : Reg → RegDef
  -- ALARM_EN, REARM
  | .FC_CTRL => ⟨.FC, 0x40, [], [fd 0 0 .mw .imm 1, fd 1 1 .mw .imm 0]⟩
  -- ID, CLASS, VALID
  | .FC_FIRST_ID => ⟨.FC, 0x44, [], [fd 8 0 .ro .na 0, fd 13 12 .ro .na 0, fd 16 16 .ro .na 0]⟩
  -- SEC_LO
  | .FC_FIRST_TAI_SL => ⟨.FC, 0x48, [], [fd 31 0 .ro .na 0]⟩
  -- SEC_HI
  | .FC_FIRST_TAI_SH => ⟨.FC, 0x4c, [], [fd 15 0 .ro .na 0]⟩
  -- NS
  | .FC_FIRST_TAI_NS => ⟨.FC, 0x50, [], [fd 31 0 .ro .na 0]⟩
  -- CLASS, DETAIL
  | .FC_FIRST_ORG => ⟨.FC, 0x54, [], [fd 7 0 .ro .na 0, fd 23 8 .ro .na 0]⟩
  -- OVF, COUNT
  | .FC_OVF => ⟨.FC, 0x58, [], [fd 0 0 .ro .na 0, fd 31 16 .ro .na 0]⟩
  -- ID, ALL
  | .FC_CLEAR => ⟨.FC, 0x5c, [], [fd 8 0 .wo .imm 0, fd 9 9 .wo .imm 0]⟩
  -- COUNT
  | .FC_CLEAR_REJ => ⟨.FC, 0x60, [], [fd 15 0 .rc .na 0]⟩
  -- COUNT
  | .FC_SUPPRESSED => ⟨.FC, 0x64, [], [fd 15 0 .rc .na 0]⟩
  -- FAULT, ALARM, WINDOWS
  | .FC_PINS => ⟨.FC, 0x68, [], [fd 0 0 .ro .na 0, fd 1 1 .ro .na 0, fd 6 2 .ro .na 0]⟩
  -- LAT
  | .FC_LAT => ⟨.FC, 0x100, [(16, 0x4)], [fd 31 0 .ro .na 0]⟩
  -- COND
  | .FC_COND => ⟨.FC, 0x140, [(16, 0x4)], [fd 31 0 .ro .na 0]⟩
  -- SUP
  | .FC_SUP => ⟨.FC, 0x180, [(16, 0x4)], [fd 31 0 .ro .na 0]⟩
  -- REACT, REACT_OFF, STOP_HEAD, CLASS
  | .FC_CFG => ⟨.FC, 0x800, [(512, 0x4)], [fd 2 0 .ro .na 0, fd 4 4 .rw .lock 0, fd 5 5 .rw .lock 0, fd 9 8 .ro .na 0]⟩
  -- COUNT
  | .FC_CNT => ⟨.FC, 0x1000, [(512, 0x4)], [fd 15 0 .rc .na 0]⟩
  | r => regDefDV r

/-- Registers of block SL (spec/20_sillage_and_cellar.md). -/
def regDefSL : Reg → RegDef
  -- STREAM_EN
  | .SL_CTRL => ⟨.SL, 0x40, [], [fd 0 0 .mw .imm 0]⟩
  -- SEQ
  | .SL_SEQ_LO => ⟨.SL, 0x44, [], [fd 31 0 .ro .na 0]⟩
  -- SEQ
  | .SL_SEQ_HI => ⟨.SL, 0x48, [], [fd 15 0 .ro .na 0]⟩
  -- ENTRIES
  | .SL_MIRROR_LAG => ⟨.SL, 0x4c, [], [fd 16 0 .ro .na 0]⟩
  -- COUNT
  | .SL_LOST => ⟨.SL, 0x50, [], [fd 31 0 .rc .na 0]⟩
  -- ADDR
  | .SL_STREAM_BASE_LO => ⟨.SL, 0x54, [], [fd 31 12 .rw .stop 0]⟩
  -- ADDR
  | .SL_STREAM_BASE_HI => ⟨.SL, 0x58, [], [fd 31 0 .rw .stop 0]⟩
  -- SIZE, HOST, PF, SNOOP
  | .SL_STREAM_CFG => ⟨.SL, 0x5c, [], [fd 4 0 .rw .stop 12, fd 5 5 .rw .stop 0, fd 7 6 .rw .stop 0, fd 8 8 .rw .stop 0]⟩
  -- COUNT
  | .SL_STREAM_WR => ⟨.SL, 0x60, [], [fd 31 0 .ro .na 0]⟩
  -- COUNT
  | .SL_STREAM_RD => ⟨.SL, 0x64, [], [fd 31 0 .rw .imm 0]⟩
  -- COUNT
  | .SL_STREAM_LOST => ⟨.SL, 0x68, [], [fd 31 0 .rc .na 0]⟩
  -- SEQ
  | .SL_RD_SEQ_LO => ⟨.SL, 0x70, [], [fd 31 0 .rw .imm 0]⟩
  -- SEQ
  | .SL_RD_SEQ_HI => ⟨.SL, 0x74, [], [fd 15 0 .rw .imm 0]⟩
  -- VALID
  | .SL_RD_STAT => ⟨.SL, 0x78, [], [fd 0 0 .ro .na 0]⟩
  -- WORD
  | .SL_RD_W => ⟨.SL, 0x80, [(8, 0x4)], [fd 31 0 .ro .na 0]⟩
  | r => regDefFC r

/-- Registers of block CL (spec/20_sillage_and_cellar.md). -/
def regDefCL : Reg → RegDef
  -- EN
  | .CL_AUTO_RESTORE => ⟨.CL, 0x40, [], [fd 0 0 .rw .imm 0]⟩
  -- LAYOUT, HEALTHY, BUSY
  | .CL_STAT => ⟨.CL, 0x44, [], [fd 7 0 .ro .na 4, fd 8 8 .ro .na 0, fd 9 9 .ro .na 0]⟩
  -- HEADS
  | .CL_LG_ERASE => ⟨.CL, 0x48, [], [fd 15 0 .wo .imm 0]⟩
  -- COUNT
  | .CL_CORR => ⟨.CL, 0x4c, [], [fd 15 0 .rc .na 0]⟩
  -- VINTAGE
  | .CL_LG_VINT => ⟨.CL, 0x100, [(16, 0x8)], [fd 31 0 .ro .na 0]⟩
  -- VALID
  | .CL_LG_STAT => ⟨.CL, 0x104, [(16, 0x8)], [fd 0 0 .ro .na 0]⟩
  -- PASSES
  | .CL_WEAR => ⟨.CL, 0x200, [(10, 0x4)], [fd 31 0 .ro .na 0]⟩
  | r => regDefSL r

/-- Registers of block PS (spec/21_power_and_thermal.md). -/
def regDefPS : Reg → RegDef
  -- AUTO_GATE
  | .PS_CTRL => ⟨.PS, 0x40, [], [fd 0 0 .mw .imm 1]⟩
  -- DEVICE, INPUT
  | .PS_LIMITS => ⟨.PS, 0x44, [], [fd 11 0 .rw .lock 1150, fd 27 16 .rw .lock 0]⟩
  -- FLOOR
  | .PS_SP_FLOOR => ⟨.PS, 0x48, [], [fd 9 0 .rw .lock 960]⟩
  -- WARN, HYST, HBM_WARN
  | .PS_THERM => ⟨.PS, 0x4c, [], [fd 7 0 .rw .lock 100, fd 15 8 .rw .lock 5, fd 23 16 .rw .lock 85]⟩
  -- SEC
  | .PS_HOLD => ⟨.PS, 0x50, [], [fd 7 0 .rw .imm 10]⟩
  -- DEVICE, INPUT
  | .PS_POWER => ⟨.PS, 0x54, [], [fd 11 0 .ro .na 0, fd 27 16 .ro .na 0]⟩
  -- STEP, SP, PORTS, HEADS
  | .PS_SHED => ⟨.PS, 0x58, [], [fd 2 0 .ro .na 0, fd 3 3 .ro .na 0, fd 7 4 .ro .na 0, fd 31 16 .rc .na 0]⟩
  -- ENGINES, HBM
  | .PS_DOMAINS => ⟨.PS, 0x5c, [], [fd 7 0 .ro .na 0, fd 8 8 .ro .na 0]⟩
  -- T
  | .PS_TEMP => ⟨.PS, 0x80, [(16, 0x4)], [fd 11 0 .ro .na 0]⟩
  -- MV, I
  | .PS_RAIL_VI => ⟨.PS, 0x100, [(16, 0x8)], [fd 15 0 .ro .na 0, fd 31 16 .ro .na 0]⟩
  -- GOOD, FAULT, NO_ACK, STATUS
  | .PS_RAIL_STAT => ⟨.PS, 0x104, [(16, 0x8)], [fd 0 0 .ro .na 0, fd 1 1 .ro .na 0, fd 2 2 .ro .na 0, fd 31 16 .ro .na 0]⟩
  | r => regDefCL r

/-- Registers of block TB (spec/04_time_base.md). -/
def regDefTB : Reg → RegDef
  -- STATE, SRC, FIRST_LOCK, RESTEP_PEND, PLL_LOCK
  | .TB_STATE => ⟨.TB, 0x40, [], [fd 3 0 .ro .na 4, fd 6 4 .ro .na 0, fd 8 8 .ro .na 0, fd 9 9 .ro .na 0, fd 10 10 .ro .na 0]⟩
  -- SERVO_OWN, REVERT, FIRST_STEP
  | .TB_CTRL => ⟨.TB, 0x44, [], [fd 0 0 .mw .imm 1, fd 1 1 .mw .imm 1, fd 2 2 .mw .imm 1]⟩
  -- P0, P1, P2
  | .TB_SRC_PRIO => ⟨.TB, 0x48, [], [fd 1 0 .mw .imm 1, fd 3 2 .mw .imm 2, fd 5 4 .mw .imm 3]⟩
  -- CLASS, DETAIL, EN
  | .TB_OWNER => ⟨.TB, 0x4c, [], [fd 7 0 .w1 .once 0, fd 23 8 .w1 .once 0, fd 24 24 .w1 .once 0]⟩
  -- KEY
  | .TB_RESTEP => ⟨.TB, 0x50, [], [fd 15 0 .wo .imm 0]⟩
  -- FRAC
  | .TB_INC_LO => ⟨.TB, 0x54, [], [fd 31 0 .ro .na 0x80000000]⟩
  -- INT
  | .TB_INC_HI => ⟨.TB, 0x58, [], [fd 7 0 .ro .na 2]⟩
  -- FRAC
  | .TB_INC_REQ_LO => ⟨.TB, 0x5c, [], [fd 31 0 .rw .imm 0x80000000]⟩
  -- INT
  | .TB_INC_REQ_HI => ⟨.TB, 0x60, [], [fd 7 0 .rw .imm 2]⟩
  -- FRAC
  | .TB_INC_NOM_LO => ⟨.TB, 0x64, [], [fd 31 0 .rw .lock 0x80000000]⟩
  -- INT
  | .TB_INC_NOM_HI => ⟨.TB, 0x68, [], [fd 7 0 .rw .lock 2]⟩
  -- PPB
  | .TB_MAX_SLEW => ⟨.TB, 0x6c, [], [fd 16 0 .rw .lock 5000]⟩
  -- NS
  | .TB_STEP_THRESH => ⟨.TB, 0x70, [], [fd 31 0 .rw .lock 0xf4240]⟩
  -- NS
  | .TB_LOCK_THRESH => ⟨.TB, 0x74, [], [fd 15 0 .rw .imm 100]⟩
  -- SEC
  | .TB_LOCK_TIME => ⟨.TB, 0x78, [], [fd 7 0 .rw .imm 10]⟩
  -- SEC
  | .TB_HOLD_AVG => ⟨.TB, 0x7c, [], [fd 15 0 .rw .imm 300]⟩
  -- SEC
  | .TB_HOLD_MAX => ⟨.TB, 0x80, [], [fd 31 0 .rw .imm 0]⟩
  -- SEC_LO
  | .TB_TIME_SL => ⟨.TB, 0x84, [], [fd 31 0 .ro .na 0]⟩
  -- SEC_HI
  | .TB_TIME_SH => ⟨.TB, 0x88, [], [fd 15 0 .ro .na 0]⟩
  -- NS
  | .TB_TIME_NS => ⟨.TB, 0x8c, [], [fd 31 0 .ro .na 0]⟩
  -- FRAC
  | .TB_TIME_FR => ⟨.TB, 0x90, [], [fd 31 0 .ro .na 0]⟩
  -- OFS, LEAP61, LEAP59, VALID
  | .TB_UTC => ⟨.TB, 0x94, [], [fd 15 0 .rw .imm 0, fd 16 16 .rw .imm 0, fd 17 17 .rw .imm 0, fd 18 18 .rw .imm 0]⟩
  -- SEC
  | .TB_LEAP_AT => ⟨.TB, 0x98, [], [fd 31 0 .rw .imm 0]⟩
  -- NS
  | .TB_OFS => ⟨.TB, 0x9c, [], [fd 31 0 .rw .imm 0]⟩
  -- COUNT
  | .TB_STEP_CNT => ⟨.TB, 0xa0, [], [fd 15 0 .ro .na 0]⟩
  -- COUNT
  | .TB_CLAMP => ⟨.TB, 0xa4, [], [fd 15 0 .rc .na 0]⟩
  -- DELAY
  | .TB_TSC_TX => ⟨.TB, 0x100, [(4, 0x20)], [fd 31 0 .rw .imm 0]⟩
  -- DELAY
  | .TB_TSC_RX => ⟨.TB, 0x104, [(4, 0x20)], [fd 31 0 .rw .imm 0]⟩
  -- ASYM
  | .TB_ASYM => ⟨.TB, 0x108, [(4, 0x20)], [fd 31 0 .rw .imm 0]⟩
  -- DEPTH, LOST
  | .TB_TSQ_DEPTH => ⟨.TB, 0x10c, [(4, 0x20)], [fd 6 0 .ro .na 0, fd 15 8 .rc .na 0]⟩
  -- TAG, QUEUE, VALID
  | .TB_TSQ_POP => ⟨.TB, 0x110, [(4, 0x20)], [fd 15 0 .rc .na 0, fd 29 16 .rc .na 0, fd 31 31 .rc .na 0]⟩
  -- SEC_LO
  | .TB_TSQ_SL => ⟨.TB, 0x114, [(4, 0x20)], [fd 31 0 .ro .na 0]⟩
  -- NS
  | .TB_TSQ_NS => ⟨.TB, 0x118, [(4, 0x20)], [fd 31 0 .ro .na 0]⟩
  -- SEC_HI, FRAC
  | .TB_TSQ_SH => ⟨.TB, 0x11c, [(4, 0x20)], [fd 15 0 .ro .na 0, fd 31 16 .ro .na 0]⟩
  | r => regDefPS r

/-- Registers of block RF (spec/05_reference_io.md). -/
def regDefRF : Reg → RegDef
  -- SAVE, TB_IN, TB_LTC
  | .RF_CTRL => ⟨.RF, 0x40, [], [fd 0 0 .mw .imm 0, fd 1 1 .mw .imm 0, fd 2 2 .mw .imm 0]⟩
  -- SEC
  | .RF_JAM => ⟨.RF, 0x44, [], [fd 16 0 .rw .imm 0]⟩
  -- EN, AUTO, STD
  | .RF_IN_CTRL => ⟨.RF, 0x80, [(2, 0x10)], [fd 0 0 .mw .imm 0, fd 1 1 .mw .imm 0, fd 7 4 .mw .imm 0]⟩
  -- DET_STD, FREQ
  | .RF_IN_STAT => ⟨.RF, 0x84, [(2, 0x10)], [fd 7 4 .ro .na 0, fd 31 16 .ro .na 0]⟩
  -- PHASE
  | .RF_IN_PHASE => ⟨.RF, 0x88, [(2, 0x10)], [fd 31 0 .ro .na 0]⟩
  -- COUNT
  | .RF_IN_LOSS => ⟨.RF, 0x8c, [(2, 0x10)], [fd 15 0 .rc .na 0]⟩
  -- EN, RATE
  | .RF_LTCIN_CTRL => ⟨.RF, 0xa0, [(2, 0x10)], [fd 0 0 .mw .imm 0, fd 3 1 .mw .stop 0]⟩
  -- SEC
  | .RF_LTCIN_ZONE => ⟨.RF, 0xa4, [(2, 0x10)], [fd 31 0 .rw .imm 0]⟩
  -- HOURS, MIN, SEC, DF, FRAME
  | .RF_LTCIN_LABEL => ⟨.RF, 0xa8, [(2, 0x10)], [fd 31 24 .ro .na 0, fd 23 16 .ro .na 0, fd 15 8 .ro .na 0, fd 6 6 .ro .na 0, fd 5 0 .ro .na 0]⟩
  -- UBITS
  | .RF_LTCIN_UB => ⟨.RF, 0xac, [(2, 0x10)], [fd 31 0 .ro .na 0]⟩
  -- EN, STEP_MUTE, NO_SETUP, STD
  | .RF_OUT_CTRL => ⟨.RF, 0xc0, [(4, 0x10)], [fd 0 0 .mw .imm 0, fd 1 1 .mw .imm 0, fd 2 2 .mw .stop 0, fd 7 4 .mw .stop 0]⟩
  -- OFS
  | .RF_OUT_OFS => ⟨.RF, 0xc4, [(4, 0x10)], [fd 31 0 .rw .frame 0]⟩
  -- EN, RATE, SCALE, UBITS, ZONE
  | .RF_LTCOUT_CTRL => ⟨.RF, 0x100, [(4, 0x10)], [fd 0 0 .mw .imm 0, fd 3 1 .mw .stop 0, fd 5 4 .mw .frame 0, fd 7 6 .mw .frame 0, fd 12 8 .mw .frame 0]⟩
  -- OFS
  | .RF_LTCOUT_OFS => ⟨.RF, 0x104, [(4, 0x10)], [fd 31 0 .rw .frame 0]⟩
  -- UBITS
  | .RF_LTCOUT_UB => ⟨.RF, 0x108, [(4, 0x10)], [fd 31 0 .rw .frame 0]⟩
  -- EN
  | .RF_DARS_CTRL => ⟨.RF, 0x140, [(2, 0x10)], [fd 0 0 .mw .imm 0]⟩
  -- OFS
  | .RF_DARS_OFS => ⟨.RF, 0x144, [(2, 0x10)], [fd 31 0 .rw .frame 0]⟩
  -- IN_EN, OUT_EN, QUAL, TEN_OUT, TOD_IN, TOD_OUT, BAUD
  | .RF_PPS_CTRL => ⟨.RF, 0x160, [], [fd 0 0 .mw .imm 0, fd 1 1 .mw .imm 0, fd 3 2 .mw .imm 0, fd 4 4 .mw .imm 0, fd 5 5 .mw .imm 0, fd 6 6 .mw .imm 0, fd 8 7 .mw .stop 0]⟩
  -- MS
  | .RF_PPS_WIDTH => ⟨.RF, 0x164, [], [fd 7 0 .rw .frame 0]⟩
  -- OFS
  | .RF_PPS_OFS => ⟨.RF, 0x168, [], [fd 31 0 .rw .frame 0]⟩
  -- DELAY
  | .RF_PPSIN_COMP => ⟨.RF, 0x16c, [], [fd 31 0 .rw .imm 0]⟩
  | r => regDefTB r

/-- Registers of block CK (spec/10_protected_layer_and_check_units.md). -/
def regDefCK : Reg → RegDef
  -- START, ABORT
  | .CK_CMD => ⟨.CK, 0x100, [(4, 0x80)], [fd 0 0 .wo .imm 0, fd 1 1 .wo .imm 0]⟩
  -- POLY, CONT, CMP
  | .CK_CFG => ⟨.CK, 0x104, [(4, 0x80)], [fd 1 0 .rw .stop 0, fd 2 2 .rw .stop 0, fd 3 3 .rw .stop 0]⟩
  -- ADDR
  | .CK_ADDR_LO => ⟨.CK, 0x108, [(4, 0x80)], [fd 31 0 .rw .stop 0]⟩
  -- ADDR
  | .CK_ADDR_HI => ⟨.CK, 0x10c, [(4, 0x80)], [fd 2 0 .rw .stop 0]⟩
  -- BYTES
  | .CK_LEN => ⟨.CK, 0x110, [(4, 0x80)], [fd 24 0 .rw .stop 0]⟩
  -- ROWS
  | .CK_ROWS => ⟨.CK, 0x114, [(4, 0x80)], [fd 15 0 .rw .stop 1]⟩
  -- BYTES
  | .CK_STRIDE => ⟨.CK, 0x118, [(4, 0x80)], [fd 31 0 .rw .stop 0]⟩
  -- VALUE
  | .CK_RUN => ⟨.CK, 0x11c, [(4, 0x80)], [fd 31 0 .rw .stop 0]⟩
  -- VALUE
  | .CK_EXPECT => ⟨.CK, 0x120, [(4, 0x80)], [fd 31 0 .rw .stop 0]⟩
  -- STATE, ERR, CMP, PAUSED
  | .CK_STAT => ⟨.CK, 0x124, [(4, 0x80)], [fd 1 0 .ro .na 0, fd 2 2 .ro .na 0, fd 4 3 .ro .na 0, fd 5 5 .ro .na 0]⟩
  -- VALUE
  | .CK_RESULT => ⟨.CK, 0x128, [(4, 0x80)], [fd 31 0 .ro .na 0]⟩
  -- BYTES
  | .CK_PROG => ⟨.CK, 0x12c, [(4, 0x80)], [fd 31 0 .ro .na 0]⟩
  -- RATE
  | .CK_PL_LOAD => ⟨.CK, 0x130, [(4, 0x80)], [fd 7 0 .ro .na 0]⟩
  | r => regDefRF r

/-- Registers of block AD (spec/16_dma.md). -/
def regDefAD : Reg → RegDef
  -- EN, MODE, SRC, SIZE, HOST, HOST_PF, SNOOP, FRAME_MATCH, TC, HANC_EN
  | .AD_CTRL => ⟨.AD, 0x100, [(64, 0x40)], [fd 0 0 .rw .imm 0, fd 3 1 .rw .stop 0, fd 7 4 .rw .stop 0, fd 11 8 .rw .stop 4, fd 12 12 .rw .stop 0, fd 14 13 .rw .stop 0, fd 15 15 .rw .stop 0, fd 16 16 .rw .stop 0, fd 17 17 .rw .stop 0, fd 18 18 .rw .stop 0]⟩
  -- ADDR
  | .AD_BASE_LO => ⟨.AD, 0x104, [(64, 0x40)], [fd 31 12 .rw .stop 0]⟩
  -- ADDR
  | .AD_BASE_HI => ⟨.AD, 0x108, [(64, 0x40)], [fd 31 0 .rw .stop 0]⟩
  -- IDX
  | .AD_SW_IDX => ⟨.AD, 0x10c, [(64, 0x40)], [fd 15 0 .rw .imm 0]⟩
  -- IDX
  | .AD_HW_IDX => ⟨.AD, 0x110, [(64, 0x40)], [fd 15 0 .ro .na 0]⟩
  -- START, ABORT
  | .AD_CMD => ⟨.AD, 0x114, [(64, 0x40)], [fd 0 0 .wo .imm 0, fd 1 1 .wo .imm 0]⟩
  -- STATE, LAST, BUSY
  | .AD_STAT => ⟨.AD, 0x118, [(64, 0x40)], [fd 1 0 .ro .na 0, fd 3 2 .ro .na 0, fd 4 4 .ro .na 0]⟩
  -- COUNT
  | .AD_BURSTS => ⟨.AD, 0x11c, [(64, 0x40)], [fd 31 0 .rc .na 0]⟩
  -- COUNT
  | .AD_LOST => ⟨.AD, 0x120, [(64, 0x40)], [fd 15 0 .rc .na 0]⟩
  -- COUNT
  | .AD_OVF => ⟨.AD, 0x124, [(64, 0x40)], [fd 15 0 .rc .na 0]⟩
  -- COUNT
  | .AD_ORPHAN => ⟨.AD, 0x128, [(64, 0x40)], [fd 15 0 .rc .na 0]⟩
  | r => regDefCK r

/-- Registers of block HQ (spec/16_dma.md). -/
def regDefHQ : Reg → RegDef
  -- EN, KIND, SIZE, LOCAL, SNOOP, IRQ_EN, OWNER, VEC
  | .HQ_CTRL => ⟨.HQ, 0x100, [(64, 0x40)], [fd 0 0 .rw .imm 0, fd 2 1 .rw .stop 0, fd 6 3 .rw .stop 6, fd 7 7 .rw .stop 0, fd 8 8 .rw .stop 0, fd 9 9 .rw .imm 0, fd 17 16 .ro .na 0, fd 31 24 .rw .imm 0]⟩
  -- ADDR
  | .HQ_BASE_LO => ⟨.HQ, 0x104, [(64, 0x40)], [fd 31 12 .rw .stop 0]⟩
  -- ADDR
  | .HQ_BASE_HI => ⟨.HQ, 0x108, [(64, 0x40)], [fd 31 0 .rw .stop 0]⟩
  -- PROD
  | .HQ_DB => ⟨.HQ, 0x10c, [(64, 0x40)], [fd 15 0 .rw .imm 0]⟩
  -- CONS
  | .HQ_CONS => ⟨.HQ, 0x110, [(64, 0x40)], [fd 15 0 .ro .na 0]⟩
  -- START, ABORT
  | .HQ_CMD => ⟨.HQ, 0x114, [(64, 0x40)], [fd 0 0 .wo .imm 0, fd 1 1 .wo .imm 0]⟩
  -- STATE, LAST, BUSY
  | .HQ_STAT => ⟨.HQ, 0x118, [(64, 0x40)], [fd 1 0 .ro .na 0, fd 3 2 .ro .na 0, fd 4 4 .ro .na 0]⟩
  -- COUNT
  | .HQ_DROP => ⟨.HQ, 0x11c, [(64, 0x40)], [fd 15 0 .rc .na 0]⟩
  | r => regDefAD r

/-- Registers of block LT (spec/22_link_test.md). -/
def regDefLT : Reg → RegDef
  -- FIRST, COUNT, START, STOP
  | .LT_GROUP_CMD => ⟨.LT, 0x40, [], [fd 6 0 .wo .imm 0, fd 13 7 .wo .imm 0, fd 14 14 .wo .imm 0, fd 15 15 .wo .imm 0]⟩
  -- PATTERN, GEN, CHK, LOOP, INV, DUR, RATE
  | .LT_CFG => ⟨.LT, 0x100, [(80, 0x40)], [fd 4 0 .rw .stop 0, fd 5 5 .rw .stop 0, fd 6 6 .rw .stop 0, fd 8 7 .rw .stop 0, fd 9 9 .rw .stop 0, fd 15 10 .rw .stop 0, fd 19 16 .rw .stop 0]⟩
  -- BITS
  | .LT_USER_LO => ⟨.LT, 0x104, [(80, 0x40)], [fd 31 0 .rw .stop 0]⟩
  -- BITS
  | .LT_USER_HI => ⟨.LT, 0x108, [(80, 0x40)], [fd 31 0 .rw .stop 0]⟩
  -- START, STOP, EYE_GO
  | .LT_CMD => ⟨.LT, 0x10c, [(80, 0x40)], [fd 0 0 .wo .imm 0, fd 1 1 .wo .imm 0, fd 2 2 .wo .imm 0]⟩
  -- STATE, SYNC, IN_USE, EYE_BUSY
  | .LT_STAT => ⟨.LT, 0x110, [(80, 0x40)], [fd 1 0 .ro .na 0, fd 2 2 .ro .na 0, fd 3 3 .ro .na 0, fd 4 4 .ro .na 0]⟩
  -- COUNT
  | .LT_BITS_LO => ⟨.LT, 0x114, [(80, 0x40)], [fd 31 0 .ro .na 0]⟩
  -- COUNT
  | .LT_BITS_HI => ⟨.LT, 0x118, [(80, 0x40)], [fd 15 0 .ro .na 0]⟩
  -- COUNT
  | .LT_ERRORS => ⟨.LT, 0x11c, [(80, 0x40)], [fd 31 0 .ro .na 0]⟩
  -- COUNT
  | .LT_SYNC_LOSS => ⟨.LT, 0x120, [(80, 0x40)], [fd 15 0 .rc .na 0]⟩
  -- PHASE, OFFSET, EYE, DWELL
  | .LT_EYE_CTRL => ⟨.LT, 0x124, [(80, 0x40)], [fd 6 0 .rw .stop 0, fd 14 8 .rw .stop 0, fd 17 16 .rw .stop 0, fd 23 20 .rw .stop 0]⟩
  -- COUNT
  | .LT_EYE_ERR => ⟨.LT, 0x128, [(80, 0x40)], [fd 31 0 .ro .na 0]⟩
  -- COUNT
  | .LT_SVC_ERR => ⟨.LT, 0x12c, [(80, 0x40)], [fd 31 0 .rc .na 0]⟩
  | r => regDefHQ r

/-- Registers of block SP (spec/17_spemen_link.md). -/
def regDefSP : Reg → RegDef
  -- SAVE
  | .SP_CTRL => ⟨.SP, 0x40, [], [fd 0 0 .mw .imm 0]⟩
  -- LIMIT
  | .SP_LOOP_MAX => ⟨.SP, 0x44, [], [fd 9 0 .rw .imm 960]⟩
  -- GRANT, MEAN
  | .SP_LOOP => ⟨.SP, 0x48, [], [fd 9 0 .ro .na 0, fd 25 16 .ro .na 0]⟩
  -- V
  | .SP_VSUP => ⟨.SP, 0x4c, [], [fd 11 0 .ro .na 0]⟩
  -- EN, DATA, UPDATE
  | .SPP_CTRL => ⟨.SP, 0x100, [(8, 0x40)], [fd 0 0 .mw .imm 0, fd 1 1 .mw .imm 0, fd 3 2 .mw .stop 0]⟩
  -- BUDGET, I2T, RETRY, MAX_TRIPS
  | .SPP_LIMITS => ⟨.SP, 0x104, [(8, 0x40)], [fd 7 0 .rw .stop 150, fd 17 8 .rw .stop 50, fd 25 18 .rw .imm 10, fd 29 26 .rw .imm 5]⟩
  -- ITEM, ITEM_EN, TALLY
  | .SPP_MAP => ⟨.SP, 0x108, [(8, 0x40)], [fd 8 0 .rw .frame 0, fd 9 9 .rw .frame 0, fd 16 10 .rw .frame 0]⟩
  -- RGB
  | .SPP_TALLY_ON => ⟨.SP, 0x10c, [(8, 0x40)], [fd 23 0 .rw .frame 0]⟩
  -- RGB
  | .SPP_TALLY_OFF => ⟨.SP, 0x110, [(8, 0x40)], [fd 23 0 .rw .frame 0]⟩
  -- STATE, CAUSE, VER, LINK, HOLD, TRIPS, GATE_FAULT, MAP_ERR
  | .SPP_STAT => ⟨.SP, 0x114, [(8, 0x40)], [fd 2 0 .ro .na 0, fd 5 3 .ro .na 0, fd 7 6 .ro .na 0, fd 8 8 .ro .na 0, fd 9 9 .ro .na 0, fd 13 10 .ro .na 0, fd 14 14 .ro .na 0, fd 15 15 .ro .na 0]⟩
  -- C
  | .SPP_CAP => ⟨.SP, 0x118, [(8, 0x40)], [fd 11 0 .ro .na 0]⟩
  -- I, V
  | .SPP_MEAS => ⟨.SP, 0x11c, [(8, 0x40)], [fd 11 0 .ro .na 0, fd 27 16 .ro .na 0]⟩
  -- MEAN, I2T_ACC
  | .SPP_POWER => ⟨.SP, 0x120, [(8, 0x40)], [fd 11 0 .ro .na 0, fd 31 16 .ro .na 0]⟩
  -- ID
  | .SPP_HEAD_ID => ⟨.SP, 0x124, [(8, 0x40)], [fd 31 0 .ro .na 0]⟩
  -- W, H, VERSIONS, FW
  | .SPP_HEAD_CAP => ⟨.SP, 0x128, [(8, 0x40)], [fd 8 0 .ro .na 0, fd 15 9 .ro .na 0, fd 18 16 .ro .na 0, fd 31 24 .ro .na 0]⟩
  -- COUNT
  | .SPP_TRIPS => ⟨.SP, 0x12c, [(8, 0x40)], [fd 15 0 .rc .na 0]⟩
  -- ERRORS, HOLDS
  | .SPP_LINK_ERR => ⟨.SP, 0x130, [(8, 0x40)], [fd 15 0 .rc .na 0, fd 31 16 .rc .na 0]⟩
  | r => regDefLT r

/-- Registers of block GL (spec/18_lock_domain.md). -/
def regDefGL : Reg → RegDef
  -- EN, CANDIDATE, PORTS, HOLD_OK, V1_ONLY
  | .GL_CTRL => ⟨.GL, 0x40, [], [fd 0 0 .mw .imm 0, fd 1 1 .mw .stop 0, fd 5 2 .mw .stop 0, fd 6 6 .mw .imm 0, fd 7 7 .mw .stop 0]⟩
  -- DOMAIN, INDEX
  | .GL_ID => ⟨.GL, 0x44, [], [fd 15 0 .rw .stop 0, fd 27 16 .rw .stop 0]⟩
  -- PRIO
  | .GL_PRIO => ⟨.GL, 0x48, [], [fd 7 0 .rw .stop 128]⟩
  -- ADDR
  | .GL_GROUP_ADDR => ⟨.GL, 0x4c, [], [fd 31 0 .rw .stop 0xefc04a28]⟩
  -- PORT
  | .GL_UDP => ⟨.GL, 0x50, [], [fd 15 0 .rw .stop 7440]⟩
  -- US
  | .GL_MARGIN => ⟨.GL, 0x54, [], [fd 19 0 .rw .imm 2000]⟩
  -- US
  | .GL_PATH => ⟨.GL, 0x58, [], [fd 15 0 .rw .imm 500]⟩
  -- LOCAL
  | .GL_MAP => ⟨.GL, 0x64, [(15, 0x4)], [fd 3 0 .rw .imm 0]⟩
  -- ROLE, VER, LEADER
  | .GL_STATE => ⟨.GL, 0xa0, [], [fd 2 0 .ro .na 0, fd 7 4 .ro .na 0, fd 19 8 .ro .na 0]⟩
  -- COUNT
  | .GL_MEMBERS => ⟨.GL, 0xa4, [], [fd 12 0 .ro .na 0]⟩
  -- CID
  | .GL_CID => ⟨.GL, 0xa8, [], [fd 31 0 .ro .na 0]⟩
  -- OUTCOME, REASON, MEMBER
  | .GL_CSTAT => ⟨.GL, 0xac, [], [fd 2 0 .ro .na 0, fd 7 4 .ro .na 0, fd 19 8 .ro .na 0]⟩
  -- T
  | .GL_T_LO => ⟨.GL, 0xb0, [], [fd 31 0 .ro .na 0]⟩
  -- T
  | .GL_T_HI => ⟨.GL, 0xb4, [], [fd 7 0 .ro .na 0]⟩
  -- COUNT
  | .GL_APPLIED => ⟨.GL, 0xb8, [], [fd 15 0 .rc .na 0]⟩
  -- COUNT
  | .GL_ABORTED => ⟨.GL, 0xbc, [], [fd 15 0 .rc .na 0]⟩
  -- COUNT
  | .GL_MISSED => ⟨.GL, 0xc0, [], [fd 15 0 .rc .na 0]⟩
  -- COUNT
  | .GL_RX_BAD => ⟨.GL, 0xc4, [], [fd 15 0 .rc .na 0]⟩
  | r => regDefSP r

/-- Registers of block HD (spec/06_output_heads.md). -/
def regDefHD : Reg → RegDef
  -- RUN, ON_AIR
  | .HD_CTRL => ⟨.HD, 0x40, [], [fd 0 0 .mw .imm 0, fd 1 1 .mw .imm 0]⟩
  -- STATE, START_ERR, EMPTY
  | .HD_STAT => ⟨.HD, 0x44, [], [fd 2 0 .ro .na 0, fd 7 4 .ro .na 0, fd 8 8 .ro .na 0]⟩
  -- FMT, RATE
  | .HD_RASTER => ⟨.HD, 0x48, [], [fd 4 0 .rw .stop 0, fd 11 8 .rw .stop 0]⟩
  -- LINES, SAMPLES
  | .HD_PHASE => ⟨.HD, 0x4c, [], [fd 12 0 .rw .stop 0, fd 29 16 .rw .stop 0]⟩
  -- LINES
  | .HD_COMMIT_LEAD => ⟨.HD, 0x50, [], [fd 7 0 .mw .frame 16]⟩
  -- LINES
  | .HD_FETCH_LEAD => ⟨.HD, 0x54, [], [fd 6 0 .mw .stop 16]⟩
  -- GROUP
  | .HD_GROUP => ⟨.HD, 0x58, [], [fd 3 0 .mw .stop 0]⟩
  -- RATE
  | .HD_BW_RESERVE => ⟨.HD, 0x5c, [], [fd 13 0 .rw .stop 0]⟩
  -- EN, FIRST, LINKS, DIV, Q3G
  | .HD_DEST_SDI => ⟨.HD, 0x60, [], [fd 0 0 .mw .stop 0, fd 5 2 .mw .stop 0, fd 7 6 .mw .stop 0, fd 8 8 .mw .stop 0, fd 9 9 .mw .stop 0]⟩
  -- EN, PORT, LRATE, LANES, ENC, BPC10
  | .HD_DEST_DP => ⟨.HD, 0x64, [], [fd 0 0 .mw .stop 0, fd 2 1 .mw .stop 0, fd 5 3 .mw .stop 0, fd 7 6 .mw .stop 0, fd 10 8 .mw .stop 0, fd 11 11 .mw .stop 0]⟩
  -- QUEUE, EN, SAMPLING, DEPTH12, BPM
  | .HD_DEST_ST => ⟨.HD, 0x68, [], [fd 13 0 .rw .stop 0, fd 16 16 .rw .stop 0, fd 19 17 .rw .stop 0, fd 20 20 .rw .stop 0, fd 21 21 .rw .stop 0]⟩
  -- QUEUE, EN
  | .HD_DEST_ST2 => ⟨.HD, 0x6c, [], [fd 13 0 .rw .stop 0, fd 16 16 .rw .stop 0]⟩
  -- SDI_OFF
  | .HD_IDLE => ⟨.HD, 0x70, [], [fd 0 0 .mw .imm 0]⟩
  -- CR, CB, Y
  | .HD_SAFE => ⟨.HD, 0x74, [], [fd 9 0 .rw .imm 512, fd 19 10 .rw .imm 512, fd 29 20 .rw .imm 64]⟩
  -- LINE, SAMPLE, EN
  | .HD_SMP => ⟨.HD, 0x80, [(4, 0x4)], [fd 12 0 .rw .line 0, fd 29 16 .rw .line 0, fd 31 31 .rw .line 0]⟩
  -- F
  | .HD_FRAME_LO => ⟨.HD, 0x90, [], [fd 31 0 .ro .na 0]⟩
  -- F
  | .HD_FRAME_HI => ⟨.HD, 0x94, [], [fd 15 0 .ro .na 0]⟩
  -- LINE, SAMPLE, FIELD2
  | .HD_POS => ⟨.HD, 0x98, [], [fd 12 0 .ro .na 0, fd 29 16 .ro .na 0, fd 31 31 .ro .na 0]⟩
  -- COUNT
  | .HD_DP_RETRAIN => ⟨.HD, 0x9c, [], [fd 15 0 .rc .na 0]⟩
  | r => regDefGL r

/-- Registers of block CE (spec/07_layers_and_vintages.md, 08_pixel_pipeline.md, 09_fetch_admission.md, 10_protected_layer_and_check_units.md). -/
def regDefCE : Reg → RegDef
  -- EN, HEAD, FMT, SRC, NOTREADY, LATE, OPAQUE, OPMAP_EN, PREMULT, FENCE_EN
  | .CE_L_CTRL => ⟨.CE, 0x1000, [(32, 0x100)], [fd 0 0 .rw .vint 0, fd 1 1 .rw .vint 0, fd 5 2 .rw .vint 0, fd 8 6 .rw .vint 0, fd 10 9 .rw .vint 0, fd 12 11 .rw .vint 0, fd 13 13 .rw .vint 0, fd 14 14 .rw .vint 0, fd 15 15 .rw .vint 0, fd 16 16 .rw .vint 0]⟩
  -- INDEX, HOST_PF, SNOOP, PT
  | .CE_L_SOURCE => ⟨.CE, 0x1004, [(32, 0x100)], [fd 13 0 .rw .vint 0, fd 15 14 .rw .vint 0, fd 16 16 .rw .vint 0, fd 17 17 .rw .vint 0]⟩
  -- ADDR
  | .CE_L_ADDR0_LO => ⟨.CE, 0x1008, [(32, 0x100)], [fd 31 8 .rw .vint 0]⟩
  -- ADDR
  | .CE_L_ADDR0_HI => ⟨.CE, 0x100c, [(32, 0x100)], [fd 31 0 .rw .vint 0]⟩
  -- ADDR
  | .CE_L_ADDR1_LO => ⟨.CE, 0x1010, [(32, 0x100)], [fd 31 8 .rw .vint 0]⟩
  -- ADDR
  | .CE_L_ADDR1_HI => ⟨.CE, 0x1014, [(32, 0x100)], [fd 31 0 .rw .vint 0]⟩
  -- PITCH0, PITCH1
  | .CE_L_PITCH => ⟨.CE, 0x1018, [(32, 0x100)], [fd 15 0 .rw .vint 0, fd 31 16 .rw .vint 0]⟩
  -- ADDR
  | .CE_L_OPMAP_LO => ⟨.CE, 0x101c, [(32, 0x100)], [fd 31 8 .rw .vint 0]⟩
  -- ADDR
  | .CE_L_OPMAP_HI => ⟨.CE, 0x1020, [(32, 0x100)], [fd 31 0 .rw .vint 0]⟩
  -- ADDR
  | .CE_L_PAL_LO => ⟨.CE, 0x1024, [(32, 0x100)], [fd 31 8 .rw .vint 0]⟩
  -- ADDR
  | .CE_L_PAL_HI => ⟨.CE, 0x1028, [(32, 0x100)], [fd 31 0 .rw .vint 0]⟩
  -- W, H
  | .CE_L_SRC_SIZE => ⟨.CE, 0x102c, [(32, 0x100)], [fd 13 0 .rw .vint 0, fd 29 16 .rw .vint 0]⟩
  -- X, Y
  | .CE_L_CROP_XY => ⟨.CE, 0x1030, [(32, 0x100)], [fd 13 0 .rw .vint 0, fd 29 16 .rw .vint 0]⟩
  -- W, H
  | .CE_L_CROP_WH => ⟨.CE, 0x1034, [(32, 0x100)], [fd 13 0 .rw .vint 0, fd 29 16 .rw .vint 0]⟩
  -- X, Y
  | .CE_L_DST_XY => ⟨.CE, 0x1038, [(32, 0x100)], [fd 15 0 .rw .vint 0, fd 31 16 .rw .vint 0]⟩
  -- W, H
  | .CE_L_DST_WH => ⟨.CE, 0x103c, [(32, 0x100)], [fd 13 0 .rw .vint 0, fd 29 16 .rw .vint 0]⟩
  -- MATRIX, TRANSFER, PRIMARIES, FULL_RANGE, SITING
  | .CE_L_IN_COLOUR => ⟨.CE, 0x1040, [(32, 0x100)], [fd 3 0 .rw .vint 0, fd 7 4 .rw .vint 0, fd 11 8 .rw .vint 0, fd 12 12 .rw .vint 0, fd 14 13 .rw .vint 0]⟩
  -- PREDEC, HFILT, VFILT
  | .CE_L_SCALE => ⟨.CE, 0x1044, [(32, 0x100)], [fd 1 0 .rw .vint 0, fd 3 2 .rw .vint 0, fd 5 4 .rw .vint 0]⟩
  -- MODE, ALPHA
  | .CE_L_BLEND => ⟨.CE, 0x1048, [(32, 0x100)], [fd 3 0 .rw .vint 0, fd 31 16 .rw .vint 65535]⟩
  -- R, G
  | .CE_L_FILL_RG => ⟨.CE, 0x104c, [(32, 0x100)], [fd 15 0 .rw .vint 0, fd 31 16 .rw .vint 0]⟩
  -- B, A
  | .CE_L_FILL_BA => ⟨.CE, 0x1050, [(32, 0x100)], [fd 15 0 .rw .vint 0, fd 31 16 .rw .vint 0]⟩
  -- R, G
  | .CE_L_CONST_RG => ⟨.CE, 0x1054, [(32, 0x100)], [fd 15 0 .rw .vint 0, fd 31 16 .rw .vint 0]⟩
  -- B
  | .CE_L_CONST_B => ⟨.CE, 0x1058, [(32, 0x100)], [fd 15 0 .rw .vint 0]⟩
  -- VALUE
  | .CE_L_FENCE_WAIT => ⟨.CE, 0x105c, [(32, 0x100)], [fd 31 0 .rw .vint 0]⟩
  -- VALUE
  | .CE_L_FENCE_SIGNAL => ⟨.CE, 0x1060, [(32, 0x100)], [fd 31 0 .rw .imm 0]⟩
  -- READY, HELD, AWAIT
  | .CE_L_FENCE_STAT => ⟨.CE, 0x1064, [(32, 0x100)], [fd 0 0 .ro .na 0, fd 1 1 .ro .na 0, fd 2 2 .ro .na 0]⟩
  -- LAG
  | .CE_L_PT_LAG => ⟨.CE, 0x1068, [(32, 0x100)], [fd 15 0 .rw .vint 0]⟩
  -- COUNT
  | .CE_L_NOTREADY_CNT => ⟨.CE, 0x10e0, [(32, 0x100)], [fd 15 0 .rc .na 0]⟩
  -- COUNT
  | .CE_L_LATE_LINES => ⟨.CE, 0x10e4, [(32, 0x100)], [fd 31 0 .rc .na 0]⟩
  -- ADDR
  | .CE_L_SHOWN_LO => ⟨.CE, 0x10e8, [(32, 0x100)], [fd 31 0 .ro .na 0]⟩
  -- ADDR
  | .CE_L_SHOWN_HI => ⟨.CE, 0x10ec, [(32, 0x100)], [fd 31 0 .ro .na 0]⟩
  -- AGE
  | .CE_L_INGEST_AGE => ⟨.CE, 0x10f0, [(32, 0x100)], [fd 7 0 .ro .na 0]⟩
  -- LIST, COUNT
  | .CE_ORDER_CTRL => ⟨.CE, 0x110, [(2, 0x40)], [fd 0 0 .mw .vint 0, fd 6 1 .mw .vint 0]⟩
  -- LAYER_A, LAYER_B, LAYER_C, LAYER_D
  | .CE_ORDER => ⟨.CE, 0x120, [(2, 0x40), (8, 0x4)], [fd 4 0 .rw .vint 0, fd 12 8 .rw .vint 0, fd 20 16 .rw .vint 0, fd 28 24 .rw .vint 0]⟩
  -- HEAD, GROUP, PREP, TAG
  | .CE_COMMIT => ⟨.CE, 0x40, [], [fd 0 0 .wo .imm 0, fd 1 1 .wo .imm 0, fd 2 2 .wo .imm 0, fd 31 16 .wo .imm 0]⟩
  -- HEAD, DISCARD
  | .CE_RELEASE => ⟨.CE, 0x44, [], [fd 0 0 .wo .imm 0, fd 1 1 .wo .imm 0]⟩
  -- T
  | .CE_RELEASE_AT_LO => ⟨.CE, 0x48, [(2, 0x8)], [fd 31 0 .rw .imm 0]⟩
  -- T
  | .CE_RELEASE_AT_HI => ⟨.CE, 0x4c, [(2, 0x8)], [fd 7 0 .rw .imm 0]⟩
  -- ADDR
  | .CE_JRN_BASE_LO => ⟨.CE, 0x60, [], [fd 31 12 .rw .stop 0]⟩
  -- ADDR
  | .CE_JRN_BASE_HI => ⟨.CE, 0x64, [], [fd 2 0 .rw .stop 0]⟩
  -- EN, SIZE
  | .CE_JRN_CTRL => ⟨.CE, 0x68, [], [fd 0 0 .mw .imm 0, fd 5 1 .mw .stop 6]⟩
  -- COUNT
  | .CE_JRN_WR => ⟨.CE, 0x6c, [], [fd 31 0 .ro .na 0]⟩
  -- STATE, LAYER_VALID, REASON, LAYER, TAG
  | .CE_CSTAT => ⟨.CE, 0x100, [(2, 0x40)], [fd 2 0 .ro .na 0, fd 3 3 .ro .na 0, fd 7 4 .ro .na 0, fd 12 8 .ro .na 0, fd 31 16 .ro .na 0]⟩
  -- BAND, BAND_VALID, MEMBER
  | .CE_CDET => ⟨.CE, 0x104, [(2, 0x40)], [fd 8 0 .ro .na 0, fd 9 9 .ro .na 0, fd 15 12 .ro .na 0]⟩
  -- VINTAGE
  | .CE_VINT_APP => ⟨.CE, 0x108, [(2, 0x40)], [fd 31 0 .ro .na 0]⟩
  -- COUNT
  | .CE_CREJ => ⟨.CE, 0x10c, [(2, 0x40)], [fd 15 0 .rc .na 0]⟩
  -- TAP_E, TAP_O
  | .CE_HCOEF => ⟨.CE, 0x4000, [(2, 0x1000), (64, 0x20), (8, 0x4)], [fd 15 0 .rw .stop 0, fd 31 16 .rw .stop 0]⟩
  -- TAP_E, TAP_O
  | .CE_VCOEF => ⟨.CE, 0x4800, [(2, 0x1000), (64, 0x10), (4, 0x4)], [fd 15 0 .rw .stop 0, fd 31 16 .rw .stop 0]⟩
  -- R, G
  | .CE_OC_BG_RG => ⟨.CE, 0x400, [(2, 0x100)], [fd 15 0 .rw .vint 0, fd 31 16 .rw .vint 0]⟩
  -- B
  | .CE_OC_BG_B => ⟨.CE, 0x404, [(2, 0x100)], [fd 15 0 .rw .vint 0]⟩
  -- PRIM, OETF, MATRIX, FULL_RANGE, LEGAL, GAMUT, TONE, DITHER, KNEE
  | .CE_OC_D_CTRL => ⟨.CE, 0x440, [(2, 0x100), (3, 0x40)], [fd 0 0 .rw .vint 1, fd 3 1 .rw .vint 0, fd 5 4 .rw .vint 0, fd 6 6 .rw .vint 0, fd 7 7 .rw .vint 0, fd 8 8 .rw .vint 0, fd 9 9 .rw .vint 0, fd 11 10 .rw .vint 0, fd 23 16 .rw .vint 192]⟩
  -- GAIN
  | .CE_OC_D_GAIN => ⟨.CE, 0x444, [(2, 0x100), (3, 0x40)], [fd 15 0 .rw .vint 15360]⟩
  -- COUNT
  | .CE_LB_CORR => ⟨.CE, 0x80, [], [fd 15 0 .rc .na 0]⟩
  -- COUNT
  | .CE_SRAM_UNCORR => ⟨.CE, 0x84, [], [fd 15 0 .rc .na 0]⟩
  -- COUNT
  | .CE_SAT_CNT => ⟨.CE, 0x88, [], [fd 31 0 .rc .na 0]⟩
  -- BYTES
  | .CE_ADM_PEAK_B => ⟨.CE, 0x180, [(2, 0x20)], [fd 31 0 .ro .na 0]⟩
  -- MLPS
  | .CE_ADM_PEAK_LP => ⟨.CE, 0x184, [(2, 0x20)], [fd 15 0 .ro .na 0]⟩
  -- SCALERS, SEGMENTS
  | .CE_ADM_PEAK_RES => ⟨.CE, 0x188, [(2, 0x20)], [fd 3 0 .ro .na 0, fd 15 4 .ro .na 0]⟩
  -- NEED
  | .CE_ADM_FAIL_NEED => ⟨.CE, 0x18c, [(2, 0x20)], [fd 31 0 .ro .na 0]⟩
  -- LIMIT
  | .CE_ADM_FAIL_LIMIT => ⟨.CE, 0x190, [(2, 0x20)], [fd 31 0 .ro .na 0]⟩
  -- TILES
  | .CE_ADM_CULL => ⟨.CE, 0x194, [(2, 0x20)], [fd 31 0 .ro .na 0]⟩
  -- COUNT
  | .CE_UNDERRUN => ⟨.CE, 0x198, [(2, 0x20)], [fd 15 0 .rc .na 0]⟩
  -- COUNT
  | .CE_HBM_ERR => ⟨.CE, 0x19c, [(2, 0x20)], [fd 15 0 .rc .na 0]⟩
  -- CLASS, DETAIL, EN
  | .CE_PL_OWNER => ⟨.CE, 0x3000, [(2, 0x100)], [fd 7 0 .w1 .once 0, fd 23 8 .w1 .once 0, fd 24 24 .w1 .once 0]⟩
  -- ADDR
  | .CE_PL_WIN_LO => ⟨.CE, 0x3004, [(2, 0x100)], [fd 31 16 .rw .stop 0]⟩
  -- ADDR, SIZE
  | .CE_PL_WIN_HI => ⟨.CE, 0x3008, [(2, 0x100)], [fd 2 0 .rw .stop 0, fd 28 16 .rw .stop 0]⟩
  -- FALLBACK, OC_LOCK, CK
  | .CE_PL_CTRL => ⟨.CE, 0x3010, [(2, 0x100)], [fd 0 0 .mw .frame 0, fd 1 1 .mw .frame 0, fd 3 2 .mw .stop 0]⟩
  -- ADDR
  | .CE_PL_S_ADDR_LO => ⟨.CE, 0x3040, [(2, 0x100), (2, 0x20)], [fd 31 8 .rw .stop 0]⟩
  -- ADDR
  | .CE_PL_S_ADDR_HI => ⟨.CE, 0x3044, [(2, 0x100), (2, 0x20)], [fd 2 0 .rw .stop 0]⟩
  -- W, H
  | .CE_PL_S_SIZE => ⟨.CE, 0x3048, [(2, 0x100), (2, 0x20)], [fd 13 0 .rw .stop 0, fd 29 16 .rw .stop 0]⟩
  -- FMT, TRANSFER, PRIMARIES, PREMULT, PITCH
  | .CE_PL_S_FMT => ⟨.CE, 0x304c, [(2, 0x100), (2, 0x20)], [fd 3 0 .rw .stop 0, fd 7 4 .rw .stop 0, fd 11 8 .rw .stop 0, fd 12 12 .rw .stop 0, fd 31 16 .rw .stop 0]⟩
  -- CRC
  | .CE_PL_S_REF => ⟨.CE, 0x3050, [(2, 0x100), (2, 0x20)], [fd 31 0 .rw .stop 0]⟩
  -- CRC
  | .CE_PL_S_REF_N => ⟨.CE, 0x3054, [(2, 0x100), (2, 0x20)], [fd 31 0 .rw .stop 0]⟩
  -- VERDICT, VERIFIED, DIRTY
  | .CE_PL_S_STAT => ⟨.CE, 0x3058, [(2, 0x100), (2, 0x20)], [fd 2 0 .ro .na 0, fd 3 3 .ro .na 0, fd 4 4 .ro .na 0]⟩
  -- X, Y
  | .CE_PL_PLACE => ⟨.CE, 0x3080, [(2, 0x100)], [fd 15 0 .rw .vint 0, fd 31 16 .rw .vint 0]⟩
  -- SLOT, EN, TAG
  | .CE_PL_COMMIT => ⟨.CE, 0x3084, [(2, 0x100)], [fd 0 0 .wo .imm 0, fd 1 1 .wo .imm 0, fd 31 16 .wo .imm 0]⟩
  -- STATE, REASON, SHOWN, MODE, TAG
  | .CE_PL_CSTAT => ⟨.CE, 0x3088, [(2, 0x100)], [fd 2 0 .ro .na 0, fd 7 4 .ro .na 0, fd 8 8 .ro .na 0, fd 10 9 .ro .na 3, fd 31 16 .ro .na 0]⟩
  -- COUNT
  | .CE_PL_WR_DENY => ⟨.CE, 0x308c, [(2, 0x100)], [fd 15 0 .rc .na 0]⟩
  -- COUNT
  | .CE_PL_FAILS => ⟨.CE, 0x3090, [(2, 0x100)], [fd 15 0 .rc .na 0]⟩
  | r => regDefHD r

/-- Registers of block DT (spec/13_dial_and_text.md). -/
def regDefDT : Reg → RegDef
  -- SAVE
  | .DT_CTRL => ⟨.DT, 0x40, [], [fd 0 0 .mw .imm 0]⟩
  -- BITS
  | .DT_SOFT_TALLY => ⟨.DT, 0x44, [], [fd 31 0 .rw .frame 0]⟩
  -- INDEX
  | .DT_GLY_IDX => ⟨.DT, 0x48, [], [fd 19 2 .rw .imm 0]⟩
  -- DATA
  | .DT_GLY_DATA => ⟨.DT, 0x4c, [], [fd 31 0 .rw .imm 0]⟩
  -- COUNT
  | .DT_SRAM_CORR => ⟨.DT, 0x50, [], [fd 15 0 .rc .na 0]⟩
  -- COUNT
  | .DT_SRAM_UNCORR => ⟨.DT, 0x54, [], [fd 15 0 .rc .na 0]⟩
  -- EN, SCALE, ZONE, ALERT, SWEEP, MIN_MARKS
  | .DT_D_CTRL => ⟨.DT, 0x1000, [(64, 0x40)], [fd 0 0 .mw .frame 0, fd 2 1 .mw .frame 0, fd 7 3 .mw .frame 0, fd 9 8 .mw .frame 0, fd 10 10 .mw .frame 0, fd 11 11 .mw .frame 0]⟩
  -- SIZE, STYLE, SECS
  | .DT_D_SIZE => ⟨.DT, 0x1004, [(64, 0x40)], [fd 10 0 .rw .stop 0, fd 16 16 .rw .stop 0, fd 17 17 .rw .stop 0]⟩
  -- LEN_H, LEN_M, LEN_S, W_H, W_M, W_S
  | .DT_D_HANDS => ⟨.DT, 0x1008, [(64, 0x40)], [fd 5 0 .rw .frame 32, fd 11 6 .rw .frame 48, fd 17 12 .rw .frame 58, fd 21 18 .rw .frame 4, fd 25 22 .rw .frame 3, fd 29 26 .rw .frame 1]⟩
  -- MS
  | .DT_D_DELAY => ⟨.DT, 0x100c, [(64, 0x40)], [fd 15 0 .rw .frame 0]⟩
  -- RGBA
  | .DT_D_COL => ⟨.DT, 0x1010, [(64, 0x40), (5, 0x4)], [fd 31 0 .rw .frame 0]⟩
  -- STD_MIN, DST_MIN
  | .DT_Z_OFS => ⟨.DT, 0x2000, [(32, 0x20)], [fd 11 0 .rw .frame 0, fd 23 16 .rw .frame 0]⟩
  -- MONTH, WEEK, WDAY, MINUTE
  | .DT_Z_START => ⟨.DT, 0x2004, [(32, 0x20)], [fd 3 0 .rw .frame 0, fd 6 4 .rw .frame 0, fd 10 8 .rw .frame 0, fd 26 16 .rw .frame 0]⟩
  -- MONTH, WEEK, WDAY, MINUTE
  | .DT_Z_END => ⟨.DT, 0x2008, [(32, 0x20)], [fd 3 0 .rw .frame 0, fd 6 4 .rw .frame 0, fd 10 8 .rw .frame 0, fd 26 16 .rw .frame 0]⟩
  -- OFS
  | .DT_G_OFS => ⟨.DT, 0x4000, [(4096, 0x8)], [fd 19 0 .rw .imm 0]⟩
  -- W, H, ADV, BX
  | .DT_G_DIM => ⟨.DT, 0x4004, [(4096, 0x8)], [fd 7 0 .rw .imm 0, fd 15 8 .rw .imm 0, fd 23 16 .rw .imm 0, fd 31 24 .rw .imm 0]⟩
  -- E0, E1
  | .DT_S_TXT => ⟨.DT, 0x40000, [(256, 0x100), (64, 0x4)], [fd 15 0 .rw .frame 65535, fd 31 16 .rw .frame 65535]⟩
  -- EN, ALIGN, SCALE, ZONE, ALERT
  | .DT_S_CTRL => ⟨.DT, 0x20000, [(256, 0x40)], [fd 0 0 .mw .frame 0, fd 2 1 .mw .frame 0, fd 4 3 .mw .frame 0, fd 9 5 .mw .frame 0, fd 11 10 .mw .frame 0]⟩
  -- W, H
  | .DT_S_SIZE => ⟨.DT, 0x20004, [(256, 0x40)], [fd 13 0 .rw .stop 0, fd 23 16 .rw .stop 0]⟩
  -- PAD, BASELINE, BY
  | .DT_S_LAYOUT => ⟨.DT, 0x20008, [(256, 0x40)], [fd 12 0 .rw .frame 0, fd 22 16 .rw .frame 0, fd 31 24 .rw .frame 0]⟩
  -- DIGIT_BASE, TALLY
  | .DT_S_GLYPHS => ⟨.DT, 0x2000c, [(256, 0x40)], [fd 11 0 .rw .frame 0, fd 22 16 .rw .frame 0]⟩
  -- MS
  | .DT_S_DELAY => ⟨.DT, 0x20010, [(256, 0x40)], [fd 15 0 .rw .frame 0]⟩
  -- RGBA
  | .DT_S_COL => ⟨.DT, 0x20014, [(256, 0x40), (4, 0x4)], [fd 31 0 .rw .frame 0]⟩
  -- BY
  | .DT_G_BY => ⟨.DT, 0xc000, [(4096, 0x4)], [fd 7 0 .rw .imm 0]⟩
  | r => regDefCE r

/-- Registers of block NP (spec/14_network_receive.md, 15_transmit_scheduling.md). -/
def regDefNP : Reg → RegDef
  -- EN, PMD, AN
  | .NP_CTRL => ⟨.NP, 0x40, [], [fd 0 0 .mw .imm 0, fd 3 1 .mw .stop 0, fd 4 4 .mw .stop 0]⟩
  -- LINK, MOD_PRESENT, MOD_INT
  | .NP_STAT => ⟨.NP, 0x44, [], [fd 0 0 .ro .na 0, fd 1 1 .ro .na 0, fd 2 2 .ro .na 0]⟩
  -- MAC
  | .NP_MAC_LO => ⟨.NP, 0x48, [], [fd 31 0 .rw .imm 0]⟩
  -- MAC
  | .NP_MAC_HI => ⟨.NP, 0x4c, [], [fd 15 0 .rw .imm 0]⟩
  -- ADDR
  | .NP_IPV4 => ⟨.NP, 0x50, [], [fd 31 0 .rw .imm 0]⟩
  -- MTU, VLAN, VID
  | .NP_RX_CFG => ⟨.NP, 0x54, [], [fd 13 0 .rw .imm 1522, fd 15 14 .rw .imm 0, fd 27 16 .rw .imm 0]⟩
  -- RING, EN
  | .NP_DEFAULT => ⟨.NP, 0x58, [], [fd 5 0 .rw .imm 0, fd 8 8 .rw .imm 0]⟩
  -- RX_INV, TX_INV
  | .NP_LANE_POL => ⟨.NP, 0x5c, [], [fd 3 0 .mw .stop 0, fd 7 4 .mw .stop 0]⟩
  -- DEV, RD, OFS, LEN, FAST
  | .NP_I2C_CMD => ⟨.NP, 0x60, [], [fd 6 0 .rw .imm 80, fd 7 7 .rw .imm 0, fd 15 8 .rw .imm 0, fd 17 16 .rw .imm 0, fd 18 18 .rw .imm 0]⟩
  -- DATA
  | .NP_I2C_DATA => ⟨.NP, 0x64, [], [fd 31 0 .rw .imm 0]⟩
  -- BUSY, NACK
  | .NP_I2C_STAT => ⟨.NP, 0x68, [], [fd 0 0 .ro .na 0, fd 1 1 .ro .na 0]⟩
  -- RESET, LPMODE
  | .NP_MOD_CTRL => ⟨.NP, 0x6c, [], [fd 0 0 .mw .imm 1, fd 1 1 .mw .imm 1]⟩
  -- COUNT
  | .NP_RX_FRAMES => ⟨.NP, 0x80, [], [fd 31 0 .rc .na 0]⟩
  -- COUNT
  | .NP_RX_FCS => ⟨.NP, 0x84, [], [fd 31 0 .rc .na 0]⟩
  -- COUNT
  | .NP_RX_LEN => ⟨.NP, 0x88, [], [fd 31 0 .rc .na 0]⟩
  -- COUNT
  | .NP_RX_FILTERED => ⟨.NP, 0x8c, [], [fd 31 0 .rc .na 0]⟩
  -- COUNT
  | .NP_RX_NODEST => ⟨.NP, 0x90, [], [fd 31 0 .rc .na 0]⟩
  -- COUNT
  | .NP_CTL_DROP => ⟨.NP, 0x94, [], [fd 31 0 .rc .na 0]⟩
  -- COUNT
  | .NP_FEC_CORR => ⟨.NP, 0x98, [], [fd 31 0 .rc .na 0]⟩
  -- COUNT
  | .NP_FEC_UNCORR => ⟨.NP, 0x9c, [], [fd 31 0 .rc .na 0]⟩
  -- COUNT
  | .NP_LINK_DOWN => ⟨.NP, 0xa0, [], [fd 15 0 .rc .na 0]⟩
  -- BYTES
  | .NP_NQ_OVERHEAD => ⟨.NP, 0x100, [], [fd 7 0 .rw .pkt 20]⟩
  -- NS
  | .NP_LATE_TOL => ⟨.NP, 0x104, [], [fd 19 0 .rw .imm 1000]⟩
  -- US
  | .NP_SAMPLE_PERIOD => ⟨.NP, 0x108, [], [fd 19 0 .rw .imm 1000]⟩
  -- COUNT, HWM
  | .NP_TX_ACTIVE => ⟨.NP, 0x10c, [], [fd 14 0 .ro .na 0, fd 31 31 .ro .na 0]⟩
  -- RATE
  | .NP_MEDIA_RATE => ⟨.NP, 0x110, [], [fd 23 0 .ro .na 0]⟩
  -- COUNT
  | .NP_TX_FRAMES => ⟨.NP, 0x114, [], [fd 31 0 .rc .na 0]⟩
  -- COUNT
  | .NP_TX_LATE_DROP => ⟨.NP, 0x118, [], [fd 31 0 .rc .na 0]⟩
  -- COUNT
  | .NP_TX_OVERSIZE => ⟨.NP, 0x11c, [], [fd 31 0 .rc .na 0]⟩
  -- COUNT
  | .NP_TX_DOWN_DROP => ⟨.NP, 0x120, [], [fd 31 0 .rc .na 0]⟩
  | r => regDefDT r

/-- Registers of block NR (spec/14_network_receive.md). -/
def regDefNR : Reg → RegDef
  -- EN, STEER, PORTS, SRC_MATCH, RING
  | .NR_CTRL => ⟨.NR, 0x0, [], [fd 0 0 .rw .imm 0, fd 3 1 .rw .stop 0, fd 7 4 .rw .stop 0, fd 8 8 .rw .stop 0, fd 9 9 .rw .stop 0]⟩
  -- ADDR
  | .NR_DST_IP => ⟨.NR, 0x4, [], [fd 31 0 .rw .stop 0]⟩
  -- ADDR
  | .NR_SRC_IP => ⟨.NR, 0x8, [], [fd 31 0 .rw .stop 0]⟩
  -- DPORT, TARGET
  | .NR_UDP => ⟨.NR, 0xc, [], [fd 15 0 .rw .stop 0, fd 29 16 .rw .stop 0]⟩
  -- FMT, RATE, SAMPLING, DEPTH12
  | .NR_VIDEO => ⟨.NR, 0x10, [], [fd 4 0 .rw .stop 0, fd 11 8 .rw .stop 0, fd 14 12 .rw .stop 0, fd 15 15 .rw .stop 0]⟩
  -- ADDR
  | .NR_BUF_LO => ⟨.NR, 0x14, [], [fd 31 16 .rw .stop 0]⟩
  -- ADDR, STRIDE
  | .NR_BUF_HI => ⟨.NR, 0x18, [], [fd 2 0 .rw .stop 0, fd 28 16 .rw .stop 0]⟩
  -- MBPS
  | .NR_POL_RATE => ⟨.NR, 0x1c, [], [fd 16 0 .rw .imm 0]⟩
  -- UNITS
  | .NR_POL_BURST => ⟨.NR, 0x20, [], [fd 15 0 .rw .imm 0]⟩
  -- CFG_ERR, NEWEST, WRITING, PATH_UP
  | .NR_STAT => ⟨.NR, 0x28, [], [fd 3 0 .ro .na 0, fd 5 4 .ro .na 3, fd 7 6 .ro .na 3, fd 8 8 .ro .na 0]⟩
  -- COUNT
  | .NR_PKTS => ⟨.NR, 0x2c, [], [fd 31 0 .rc .na 0]⟩
  -- COUNT
  | .NR_POL_DROP => ⟨.NR, 0x30, [], [fd 31 0 .rc .na 0]⟩
  -- COUNT
  | .NR_FRAMES => ⟨.NR, 0x34, [], [fd 31 0 .rc .na 0]⟩
  -- INCOMPLETE, MISSING
  | .NR_ERRS => ⟨.NR, 0x38, [], [fd 15 0 .rc .na 0, fd 31 16 .rc .na 0]⟩
  -- LAG
  | .NR_LAG => ⟨.NR, 0x3c, [], [fd 15 0 .ro .na 0]⟩
  | r => regDefNP r

/-- Registers of block NQ (spec/15_transmit_scheduling.md). -/
def regDefNQ : Reg → RegDef
  -- EN, CLASS, PORT, SRC, LAUNCH, GATE, TS, TARGET
  | .NQ_CTRL => ⟨.NQ, 0x0, [], [fd 0 0 .rw .imm 0, fd 2 1 .rw .stop 0, fd 4 3 .rw .stop 0, fd 6 5 .rw .stop 0, fd 9 7 .rw .stop 0, fd 12 10 .rw .stop 0, fd 13 13 .rw .stop 0, fd 21 16 .rw .stop 0]⟩
  -- RATE
  | .NQ_RATE => ⟨.NQ, 0x4, [], [fd 23 0 .rw .pkt 0]⟩
  -- BYTES
  | .NQ_BURST => ⟨.NQ, 0x8, [], [fd 23 0 .rw .pkt 0]⟩
  -- TYPE, TRO
  | .NQ_MODEL => ⟨.NQ, 0xc, [], [fd 1 0 .rw .stop 0, fd 16 4 .rw .stop 0]⟩
  -- OCTETS
  | .NQ_PAYLOAD => ⟨.NQ, 0x10, [], [fd 10 0 .rw .stop 1200]⟩
  -- UNITS
  | .NQ_PERIOD => ⟨.NQ, 0x14, [], [fd 31 0 .rw .stop 0]⟩
  -- UNITS
  | .NQ_PHASE => ⟨.NQ, 0x18, [], [fd 31 0 .rw .stop 0]⟩
  -- BYTES
  | .NQ_QUANTUM => ⟨.NQ, 0x1c, [], [fd 15 0 .rw .pkt 1522]⟩
  -- CFG_ERR, BACKLOG, TAG
  | .NQ_STAT => ⟨.NQ, 0x20, [], [fd 3 0 .ro .na 0, fd 4 4 .ro .na 0, fd 31 16 .ro .na 0]⟩
  -- VALUE
  | .NQ_CREDIT => ⟨.NQ, 0x24, [], [fd 31 0 .ro .na 0]⟩
  -- COUNT
  | .NQ_FRAMES => ⟨.NQ, 0x28, [], [fd 31 0 .rc .na 0]⟩
  -- COUNT
  | .NQ_LATE_DROP => ⟨.NQ, 0x2c, [], [fd 31 0 .rc .na 0]⟩
  -- COUNT
  | .NQ_OVERSIZE => ⟨.NQ, 0x30, [], [fd 15 0 .rc .na 0]⟩
  -- COUNT
  | .NQ_LATE_SENT => ⟨.NQ, 0x34, [], [fd 31 0 .rc .na 0]⟩
  -- DEPTH, HWM
  | .NQ_OBS_DEPTH => ⟨.NQ, 0x38, [], [fd 15 0 .rc .na 0, fd 31 31 .ro .na 0]⟩
  -- NS
  | .NQ_OBS_DELAY => ⟨.NQ, 0x3c, [], [fd 31 0 .rc .na 0]⟩
  | r => regDefNR r

/-- Registers of block NG (spec/14_network_receive.md, 15_transmit_scheduling.md). -/
def regDefNG : Reg → RegDef
  -- EN, CHANGE
  | .NG_GCL_CTRL => ⟨.NG, 0x1000, [(4, 0x1000)], [fd 0 0 .mw .imm 0, fd 1 1 .mw .imm 0]⟩
  -- LEN
  | .NG_GCL_ADMIN_LEN => ⟨.NG, 0x1004, [(4, 0x1000)], [fd 8 0 .rw .stop 1]⟩
  -- NS
  | .NG_GCL_ADMIN_CYCLE => ⟨.NG, 0x1008, [(4, 0x1000)], [fd 29 0 .rw .stop 0xf4240]⟩
  -- SEC_LO
  | .NG_GCL_ADMIN_BASE_SL => ⟨.NG, 0x100c, [(4, 0x1000)], [fd 31 0 .rw .stop 0]⟩
  -- SEC_HI
  | .NG_GCL_ADMIN_BASE_SH => ⟨.NG, 0x1010, [(4, 0x1000)], [fd 15 0 .rw .stop 0]⟩
  -- NS
  | .NG_GCL_ADMIN_BASE_NS => ⟨.NG, 0x1014, [(4, 0x1000)], [fd 29 0 .rw .stop 0]⟩
  -- LEN
  | .NG_GCL_OPER_LEN => ⟨.NG, 0x1018, [(4, 0x1000)], [fd 8 0 .ro .na 0]⟩
  -- NS
  | .NG_GCL_OPER_CYCLE => ⟨.NG, 0x101c, [(4, 0x1000)], [fd 29 0 .ro .na 0]⟩
  -- SEC_LO
  | .NG_GCL_OPER_BASE_SL => ⟨.NG, 0x1020, [(4, 0x1000)], [fd 31 0 .ro .na 0]⟩
  -- SEC_HI
  | .NG_GCL_OPER_BASE_SH => ⟨.NG, 0x1024, [(4, 0x1000)], [fd 15 0 .ro .na 0]⟩
  -- NS
  | .NG_GCL_OPER_BASE_NS => ⟨.NG, 0x1028, [(4, 0x1000)], [fd 29 0 .ro .na 0]⟩
  -- PENDING, OPER, ENTRY, CFG_ERR
  | .NG_GCL_STAT => ⟨.NG, 0x102c, [(4, 0x1000)], [fd 0 0 .ro .na 0, fd 1 1 .ro .na 0, fd 9 2 .ro .na 0, fd 13 10 .ro .na 0]⟩
  -- GATES, INTERVAL
  | .NG_GCL_ADMIN => ⟨.NG, 0x1400, [(4, 0x1000), (256, 0x4)], [fd 7 0 .rw .stop 255, fd 31 8 .rw .stop 0]⟩
  -- GATES, INTERVAL
  | .NG_GCL_OPER => ⟨.NG, 0x1800, [(4, 0x1000), (256, 0x4)], [fd 7 0 .ro .na 0, fd 31 8 .ro .na 0]⟩
  -- EN, LINKS, DIV, RING
  | .NG_SDI_CTRL => ⟨.NG, 0xf000, [(16, 0x40)], [fd 0 0 .rw .imm 0, fd 2 1 .rw .stop 0, fd 3 3 .rw .stop 0, fd 9 9 .rw .stop 0]⟩
  -- FMT, RATE
  | .NG_SDI_VIDEO => ⟨.NG, 0xf010, [(16, 0x40)], [fd 4 0 .rw .stop 0, fd 11 8 .rw .stop 0]⟩
  -- ADDR
  | .NG_SDI_BUF_LO => ⟨.NG, 0xf014, [(16, 0x40)], [fd 31 16 .rw .stop 0]⟩
  -- ADDR, STRIDE
  | .NG_SDI_BUF_HI => ⟨.NG, 0xf018, [(16, 0x40)], [fd 2 0 .rw .stop 0, fd 28 16 .rw .stop 0]⟩
  -- PID
  | .NG_SDI_PID => ⟨.NG, 0xf024, [(16, 0x40)], [fd 31 0 .ro .na 0]⟩
  -- CFG_ERR, NEWEST, WRITING, PATH_UP, LOCK, MISMATCH
  | .NG_SDI_STAT => ⟨.NG, 0xf028, [(16, 0x40)], [fd 3 0 .ro .na 0, fd 5 4 .ro .na 3, fd 7 6 .ro .na 3, fd 8 8 .ro .na 0, fd 9 9 .ro .na 0, fd 10 10 .ro .na 0]⟩
  -- COUNT
  | .NG_SDI_CRC_ERR => ⟨.NG, 0xf02c, [(16, 0x40)], [fd 31 0 .rc .na 0]⟩
  -- COUNT
  | .NG_SDI_FRAMES => ⟨.NG, 0xf034, [(16, 0x40)], [fd 31 0 .rc .na 0]⟩
  -- INCOMPLETE, MISSING
  | .NG_SDI_ERRS => ⟨.NG, 0xf038, [(16, 0x40)], [fd 15 0 .rc .na 0, fd 31 16 .rc .na 0]⟩
  -- LAG
  | .NG_SDI_LAG => ⟨.NG, 0xf03c, [(16, 0x40)], [fd 15 0 .ro .na 0]⟩
  | r => regDefNQ r

/-- Registers of block CU (spec/11_cue_engine_isa.md, 12_cue_scheduling.md). -/
def regDefCU : Reg → RegDef
  -- RUN, RESUME, STEP
  | .CU_CTRL => ⟨.CU, 0x40, [], [fd 0 0 .mw .imm 0, fd 1 1 .mw .imm 0, fd 2 2 .mw .imm 0]⟩
  -- STATE, IE, STOP, LATE, IMG_OK, KICKS
  | .CU_STAT => ⟨.CU, 0x44, [], [fd 1 0 .ro .na 0, fd 3 3 .ro .na 0, fd 7 4 .ro .na 0, fd 8 8 .ro .na 0, fd 9 9 .ro .na 0, fd 12 10 .ro .na 0]⟩
  -- PC
  | .CU_PC => ⟨.CU, 0x48, [], [fd 13 0 .rw .stop 0]⟩
  -- PC
  | .CU_ENTRY => ⟨.CU, 0x4c, [], [fd 13 0 .rw .stop 0]⟩
  -- PC
  | .CU_VBASE => ⟨.CU, 0x50, [], [fd 13 0 .rw .stop 16376]⟩
  -- LEVEL
  | .CU_IMG => ⟨.CU, 0x54, [], [fd 15 0 .rw .stop 0]⟩
  -- ACC, KICK
  | .CU_TRAP_EN => ⟨.CU, 0x58, [], [fd 0 0 .mw .imm 0, fd 1 1 .mw .imm 0]⟩
  -- NS
  | .CU_LATE_WIN => ⟨.CU, 0x5c, [], [fd 24 0 .rw .imm 0]⟩
  -- FLAGS
  | .CU_FLAGS => ⟨.CU, 0x60, [], [fd 4 0 .rw .stop 0]⟩
  -- EPC
  | .CU_EPC => ⟨.CU, 0x64, [], [fd 13 0 .ro .na 0]⟩
  -- VECTOR
  | .CU_ECAUSE => ⟨.CU, 0x68, [], [fd 2 0 .ro .na 0]⟩
  -- DATA
  | .CU_EDATA => ⟨.CU, 0x6c, [], [fd 31 0 .ro .na 0]⟩
  -- COUNT
  | .CU_RETIRED => ⟨.CU, 0x70, [], [fd 31 0 .ro .na 0]⟩
  -- COUNT
  | .CU_LATE_CNT => ⟨.CU, 0x74, [], [fd 15 0 .rc .na 0]⟩
  -- COUNT
  | .CU_TRAP_CNT => ⟨.CU, 0x78, [], [fd 15 0 .rc .na 0]⟩
  -- VALUE
  | .CU_PARAM => ⟨.CU, 0x80, [(16, 0x4)], [fd 31 0 .rw .imm 0]⟩
  -- VALUE
  | .CU_DOORBELL => ⟨.CU, 0xc0, [], [fd 15 0 .wo .imm 0]⟩
  -- INDEX
  | .CU_DM_IDX => ⟨.CU, 0xd0, [], [fd 12 0 .rw .imm 0]⟩
  -- DATA
  | .CU_DM_LO => ⟨.CU, 0xd4, [], [fd 31 0 .rw .imm 0]⟩
  -- DATA
  | .CU_DM_HI => ⟨.CU, 0xd8, [], [fd 7 0 .rw .imm 0]⟩
  -- VALUE
  | .CU_C_LO => ⟨.CU, 0x108, [(31, 0x8)], [fd 31 0 .rw .stop 0]⟩
  -- VALUE
  | .CU_C_HI => ⟨.CU, 0x10c, [(31, 0x8)], [fd 7 0 .rw .stop 0]⟩
  -- PEND
  | .CU_EVT_PEND => ⟨.CU, 0xe0, [], [fd 7 0 .ro .na 0]⟩
  -- COUNT
  | .CU_EVT_OVR => ⟨.CU, 0xe4, [], [fd 15 0 .rc .na 0]⟩
  | r => regDefNG r

/-- Registers of block CUS (spec/11_cue_engine_isa.md). -/
def regDefCUS : Reg → RegDef
  -- INDEX
  | .CUS_SCR_IDX => ⟨.CUS, 0x40, [(4, 0x10)], [fd 17 0 .rw .imm 0]⟩
  -- DATA
  | .CUS_SCR_DATA => ⟨.CUS, 0x44, [(4, 0x10)], [fd 31 0 .rw .imm 0]⟩
  -- COUNT
  | .CUS_MEM_CORR => ⟨.CUS, 0x80, [], [fd 15 0 .rc .na 0]⟩
  -- COUNT
  | .CUS_MEM_UNCORR => ⟨.CUS, 0x84, [], [fd 15 0 .rc .na 0]⟩
  | r => regDefCU r

/-- The table row of every register. -/
def regDef (r : Reg) : RegDef := regDefCUS r

/-- The registers of a block, in the order of its tables. -/
def blkRegs : Blk → List Reg
  | .DV => [.DV_MODE, .DV_PART, .DV_ACC_ERR, .DV_SNAP, .DV_SNAP_STAT, .DV_SNAP_ID, .DV_SNAP_TAI_SL, .DV_SNAP_TAI_SH,
      .DV_SNAP_TAI_NS, .DV_SNAP_BASE_LO, .DV_SNAP_BASE_HI, .DV_PERM_LO, .DV_PERM_HI, .DV_CTRL, .DV_RESET,
      .DV_RST_CAUSE, .DV_BOOT_STAT, .DV_BOOT_VER, .DV_BOOT_CFG, .DV_SVC_READY, .DV_IFV_PLES01, .DV_IFV_PLES23,
      .DV_IFV_ISA, .DV_IFV_GL, .DV_IFV_SP, .DV_MBX_DOORBELL, .DV_MBX_STAT, .DV_MBX_RESULT, .DV_MBX_VEC, .DV_MBX_REQ,
      .DV_MBX_RSP]
  | .FC => [.FC_CTRL, .FC_FIRST_ID, .FC_FIRST_TAI_SL, .FC_FIRST_TAI_SH, .FC_FIRST_TAI_NS, .FC_FIRST_ORG, .FC_OVF,
      .FC_CLEAR, .FC_CLEAR_REJ, .FC_SUPPRESSED, .FC_PINS, .FC_LAT, .FC_COND, .FC_SUP, .FC_CFG, .FC_CNT]
  | .SL => [.SL_CTRL, .SL_SEQ_LO, .SL_SEQ_HI, .SL_MIRROR_LAG, .SL_LOST, .SL_STREAM_BASE_LO, .SL_STREAM_BASE_HI,
      .SL_STREAM_CFG, .SL_STREAM_WR, .SL_STREAM_RD, .SL_STREAM_LOST, .SL_RD_SEQ_LO, .SL_RD_SEQ_HI, .SL_RD_STAT,
      .SL_RD_W]
  | .CL => [.CL_AUTO_RESTORE, .CL_STAT, .CL_LG_ERASE, .CL_CORR, .CL_LG_VINT, .CL_LG_STAT, .CL_WEAR]
  | .PS => [.PS_CTRL, .PS_LIMITS, .PS_SP_FLOOR, .PS_THERM, .PS_HOLD, .PS_POWER, .PS_SHED, .PS_DOMAINS, .PS_TEMP,
      .PS_RAIL_VI, .PS_RAIL_STAT]
  | .TB => [.TB_STATE, .TB_CTRL, .TB_SRC_PRIO, .TB_OWNER, .TB_RESTEP, .TB_INC_LO, .TB_INC_HI, .TB_INC_REQ_LO,
      .TB_INC_REQ_HI, .TB_INC_NOM_LO, .TB_INC_NOM_HI, .TB_MAX_SLEW, .TB_STEP_THRESH, .TB_LOCK_THRESH, .TB_LOCK_TIME,
      .TB_HOLD_AVG, .TB_HOLD_MAX, .TB_TIME_SL, .TB_TIME_SH, .TB_TIME_NS, .TB_TIME_FR, .TB_UTC, .TB_LEAP_AT, .TB_OFS,
      .TB_STEP_CNT, .TB_CLAMP, .TB_TSC_TX, .TB_TSC_RX, .TB_ASYM, .TB_TSQ_DEPTH, .TB_TSQ_POP, .TB_TSQ_SL, .TB_TSQ_NS,
      .TB_TSQ_SH]
  | .RF => [.RF_CTRL, .RF_JAM, .RF_IN_CTRL, .RF_IN_STAT, .RF_IN_PHASE, .RF_IN_LOSS, .RF_LTCIN_CTRL, .RF_LTCIN_ZONE,
      .RF_LTCIN_LABEL, .RF_LTCIN_UB, .RF_OUT_CTRL, .RF_OUT_OFS, .RF_LTCOUT_CTRL, .RF_LTCOUT_OFS, .RF_LTCOUT_UB,
      .RF_DARS_CTRL, .RF_DARS_OFS, .RF_PPS_CTRL, .RF_PPS_WIDTH, .RF_PPS_OFS, .RF_PPSIN_COMP]
  | .CK => [.CK_CMD, .CK_CFG, .CK_ADDR_LO, .CK_ADDR_HI, .CK_LEN, .CK_ROWS, .CK_STRIDE, .CK_RUN, .CK_EXPECT, .CK_STAT,
      .CK_RESULT, .CK_PROG, .CK_PL_LOAD]
  | .AD => [.AD_CTRL, .AD_BASE_LO, .AD_BASE_HI, .AD_SW_IDX, .AD_HW_IDX, .AD_CMD, .AD_STAT, .AD_BURSTS, .AD_LOST,
      .AD_OVF, .AD_ORPHAN]
  | .HQ => [.HQ_CTRL, .HQ_BASE_LO, .HQ_BASE_HI, .HQ_DB, .HQ_CONS, .HQ_CMD, .HQ_STAT, .HQ_DROP]
  | .LT => [.LT_GROUP_CMD, .LT_CFG, .LT_USER_LO, .LT_USER_HI, .LT_CMD, .LT_STAT, .LT_BITS_LO, .LT_BITS_HI,
      .LT_ERRORS, .LT_SYNC_LOSS, .LT_EYE_CTRL, .LT_EYE_ERR, .LT_SVC_ERR]
  | .SP => [.SP_CTRL, .SP_LOOP_MAX, .SP_LOOP, .SP_VSUP, .SPP_CTRL, .SPP_LIMITS, .SPP_MAP, .SPP_TALLY_ON,
      .SPP_TALLY_OFF, .SPP_STAT, .SPP_CAP, .SPP_MEAS, .SPP_POWER, .SPP_HEAD_ID, .SPP_HEAD_CAP, .SPP_TRIPS,
      .SPP_LINK_ERR]
  | .GL => [.GL_CTRL, .GL_ID, .GL_PRIO, .GL_GROUP_ADDR, .GL_UDP, .GL_MARGIN, .GL_PATH, .GL_MAP, .GL_STATE,
      .GL_MEMBERS, .GL_CID, .GL_CSTAT, .GL_T_LO, .GL_T_HI, .GL_APPLIED, .GL_ABORTED, .GL_MISSED, .GL_RX_BAD]
  | .HD => [.HD_CTRL, .HD_STAT, .HD_RASTER, .HD_PHASE, .HD_COMMIT_LEAD, .HD_FETCH_LEAD, .HD_GROUP, .HD_BW_RESERVE,
      .HD_DEST_SDI, .HD_DEST_DP, .HD_DEST_ST, .HD_DEST_ST2, .HD_IDLE, .HD_SAFE, .HD_SMP, .HD_FRAME_LO, .HD_FRAME_HI,
      .HD_POS, .HD_DP_RETRAIN]
  | .CE => [.CE_L_CTRL, .CE_L_SOURCE, .CE_L_ADDR0_LO, .CE_L_ADDR0_HI, .CE_L_ADDR1_LO, .CE_L_ADDR1_HI, .CE_L_PITCH,
      .CE_L_OPMAP_LO, .CE_L_OPMAP_HI, .CE_L_PAL_LO, .CE_L_PAL_HI, .CE_L_SRC_SIZE, .CE_L_CROP_XY, .CE_L_CROP_WH,
      .CE_L_DST_XY, .CE_L_DST_WH, .CE_L_IN_COLOUR, .CE_L_SCALE, .CE_L_BLEND, .CE_L_FILL_RG, .CE_L_FILL_BA,
      .CE_L_CONST_RG, .CE_L_CONST_B, .CE_L_FENCE_WAIT, .CE_L_FENCE_SIGNAL, .CE_L_FENCE_STAT, .CE_L_PT_LAG,
      .CE_L_NOTREADY_CNT, .CE_L_LATE_LINES, .CE_L_SHOWN_LO, .CE_L_SHOWN_HI, .CE_L_INGEST_AGE, .CE_ORDER_CTRL,
      .CE_ORDER, .CE_COMMIT, .CE_RELEASE, .CE_RELEASE_AT_LO, .CE_RELEASE_AT_HI, .CE_JRN_BASE_LO, .CE_JRN_BASE_HI,
      .CE_JRN_CTRL, .CE_JRN_WR, .CE_CSTAT, .CE_CDET, .CE_VINT_APP, .CE_CREJ, .CE_HCOEF, .CE_VCOEF, .CE_OC_BG_RG,
      .CE_OC_BG_B, .CE_OC_D_CTRL, .CE_OC_D_GAIN, .CE_LB_CORR, .CE_SRAM_UNCORR, .CE_SAT_CNT, .CE_ADM_PEAK_B,
      .CE_ADM_PEAK_LP, .CE_ADM_PEAK_RES, .CE_ADM_FAIL_NEED, .CE_ADM_FAIL_LIMIT, .CE_ADM_CULL, .CE_UNDERRUN,
      .CE_HBM_ERR, .CE_PL_OWNER, .CE_PL_WIN_LO, .CE_PL_WIN_HI, .CE_PL_CTRL, .CE_PL_S_ADDR_LO, .CE_PL_S_ADDR_HI,
      .CE_PL_S_SIZE, .CE_PL_S_FMT, .CE_PL_S_REF, .CE_PL_S_REF_N, .CE_PL_S_STAT, .CE_PL_PLACE, .CE_PL_COMMIT,
      .CE_PL_CSTAT, .CE_PL_WR_DENY, .CE_PL_FAILS]
  | .DT => [.DT_CTRL, .DT_SOFT_TALLY, .DT_GLY_IDX, .DT_GLY_DATA, .DT_SRAM_CORR, .DT_SRAM_UNCORR, .DT_D_CTRL,
      .DT_D_SIZE, .DT_D_HANDS, .DT_D_DELAY, .DT_D_COL, .DT_Z_OFS, .DT_Z_START, .DT_Z_END, .DT_G_OFS, .DT_G_DIM,
      .DT_S_TXT, .DT_S_CTRL, .DT_S_SIZE, .DT_S_LAYOUT, .DT_S_GLYPHS, .DT_S_DELAY, .DT_S_COL, .DT_G_BY]
  | .NP => [.NP_CTRL, .NP_STAT, .NP_MAC_LO, .NP_MAC_HI, .NP_IPV4, .NP_RX_CFG, .NP_DEFAULT, .NP_LANE_POL, .NP_I2C_CMD,
      .NP_I2C_DATA, .NP_I2C_STAT, .NP_MOD_CTRL, .NP_RX_FRAMES, .NP_RX_FCS, .NP_RX_LEN, .NP_RX_FILTERED,
      .NP_RX_NODEST, .NP_CTL_DROP, .NP_FEC_CORR, .NP_FEC_UNCORR, .NP_LINK_DOWN, .NP_NQ_OVERHEAD, .NP_LATE_TOL,
      .NP_SAMPLE_PERIOD, .NP_TX_ACTIVE, .NP_MEDIA_RATE, .NP_TX_FRAMES, .NP_TX_LATE_DROP, .NP_TX_OVERSIZE,
      .NP_TX_DOWN_DROP]
  | .NR => [.NR_CTRL, .NR_DST_IP, .NR_SRC_IP, .NR_UDP, .NR_VIDEO, .NR_BUF_LO, .NR_BUF_HI, .NR_POL_RATE,
      .NR_POL_BURST, .NR_STAT, .NR_PKTS, .NR_POL_DROP, .NR_FRAMES, .NR_ERRS, .NR_LAG]
  | .NQ => [.NQ_CTRL, .NQ_RATE, .NQ_BURST, .NQ_MODEL, .NQ_PAYLOAD, .NQ_PERIOD, .NQ_PHASE, .NQ_QUANTUM, .NQ_STAT,
      .NQ_CREDIT, .NQ_FRAMES, .NQ_LATE_DROP, .NQ_OVERSIZE, .NQ_LATE_SENT, .NQ_OBS_DEPTH, .NQ_OBS_DELAY]
  | .NG => [.NG_GCL_CTRL, .NG_GCL_ADMIN_LEN, .NG_GCL_ADMIN_CYCLE, .NG_GCL_ADMIN_BASE_SL, .NG_GCL_ADMIN_BASE_SH,
      .NG_GCL_ADMIN_BASE_NS, .NG_GCL_OPER_LEN, .NG_GCL_OPER_CYCLE, .NG_GCL_OPER_BASE_SL, .NG_GCL_OPER_BASE_SH,
      .NG_GCL_OPER_BASE_NS, .NG_GCL_STAT, .NG_GCL_ADMIN, .NG_GCL_OPER, .NG_SDI_CTRL, .NG_SDI_VIDEO, .NG_SDI_BUF_LO,
      .NG_SDI_BUF_HI, .NG_SDI_PID, .NG_SDI_STAT, .NG_SDI_CRC_ERR, .NG_SDI_FRAMES, .NG_SDI_ERRS, .NG_SDI_LAG]
  | .CU => [.CU_CTRL, .CU_STAT, .CU_PC, .CU_ENTRY, .CU_VBASE, .CU_IMG, .CU_TRAP_EN, .CU_LATE_WIN, .CU_FLAGS, .CU_EPC,
      .CU_ECAUSE, .CU_EDATA, .CU_RETIRED, .CU_LATE_CNT, .CU_TRAP_CNT, .CU_PARAM, .CU_DOORBELL, .CU_DM_IDX, .CU_DM_LO,
      .CU_DM_HI, .CU_C_LO, .CU_C_HI, .CU_EVT_PEND, .CU_EVT_OVR]
  | .CUS => [.CUS_SCR_IDX, .CUS_SCR_DATA, .CUS_MEM_CORR, .CUS_MEM_UNCORR]

/-- The registers of the block header. -/
def hdrRegs : List Reg := [.xx_ID, .xx_LOCK, .xx_STATUS_MODE, .xx_REFUSED, .xx_STATUS, .xx_LIVE, .xx_INT_EN, .xx_INT_VEC, .xx_AGE]

end Sys2Proof.Machine
end

