-- ==== Sys2Proof/Machine/RegFile.lean ====
section
/-! DEFINITION. Where each register lies (R35, R36, R38, R61), and what it holds after reset. -/

namespace Sys2Proof.Machine

/-- The block map of R35: block code, base, stride, and number of instances. The shared area of CU is one instance. -/
def blkMap : Blk → Nat × Nat × Nat × Nat
  | .DV => (0, 0, 0x10000, 1)
  | .FC => (1, 0x10000, 0x10000, 1)
  | .SL => (2, 0x20000, 0x10000, 1)
  | .CL => (3, 0x30000, 0x10000, 1)
  | .PS => (4, 0x40000, 0x10000, 1)
  | .TB => (5, 0x50000, 0x10000, 1)
  | .RF => (6, 0x60000, 0x10000, 1)
  | .CK => (7, 0x70000, 0x10000, 1)
  | .AD => (8, 0x80000, 0x10000, 1)
  | .HQ => (9, 0x90000, 0x10000, 1)
  | .LT => (10, 0xA0000, 0x10000, 1)
  | .SP => (11, 0xB0000, 0x10000, 1)
  | .GL => (12, 0xC0000, 0x10000, 1)
  | .HD => (13, 0x200000, 0x10000, 16)
  | .CE => (14, 0x300000, 0x20000, 8)
  | .DT => (15, 0x400000, 0x100000, 1)
  | .NP => (16, 0x500000, 0x10000, 4)
  | .NR => (17, 0x600000, 64, 16384)
  | .NQ => (18, 0x700000, 64, 16384)
  | .NG => (19, 0x800000, 0x10000, 1)
  | .CU => (20, 0x1000000, 0x1000, 24)
  | .CUS => (20, 0x1018000, 0xE8000, 1)

/-- All blocks, in address order. -/
def allBlks : List Blk :=
  [.DV, .FC, .SL, .CL, .PS, .TB, .RF, .CK, .AD, .HQ, .LT, .SP, .GL, .HD, .CE, .DT, .NP, .NR, .NQ, .NG, .CU, .CUS]

/-- The block code of a block. -/
def blkCode (b : Blk) : Nat := (blkMap b).1

/-- A block with several instances, so that the key of its registers begins with the instance. -/
def blkMulti (b : Blk) : Bool := decide (1 < (blkMap b).2.2.2)

/-- The block of a header key: its code and instance (R39). -/
def hdrBlk (code inst : Nat) : Blk :=
  if code = 20 then (if inst = 24 then .CUS else .CU) else (allBlks.find? fun b => blkCode b == code).getD .DV

/-- A register of the block header. -/
def isHdr (r : Reg) : Bool := r ∈ hdrRegs

/-- The offset that indices make: one stride an index. -/
def dimOff : List (Nat × Nat) → List Nat → Nat
  | (_, st) :: ds, i :: is => i * st + dimOff ds is
  | _, _ => 0

/-- The BAR0 address of a register (R36). -/
def keyAddr (k : Key) : Nat :=
  let d := regDef k.1
  if isHdr k.1 then
    let m := blkMap (hdrBlk (k.2.getD 0 0) (k.2.getD 1 0))
    m.2.1 + (if k.2.getD 1 0 < m.2.2.2 then m.2.2.1 * k.2.getD 1 0 else 0) + d.off
  else
    let m := blkMap d.blk
    if blkMulti d.blk then m.2.1 + m.2.2.1 * k.2.getD 0 0 + d.off + dimOff d.dims k.2.tail
    else m.2.1 + d.off + dimOff d.dims k.2

/-- The indices at which an offset lies in dimensions, if it lies in them. -/
def matchDims : List (Nat × Nat) → Nat → Option (List Nat)
  | [], o => if o = 0 then some [] else none
  | (n, st) :: ds, o => if o / st < n then (matchDims ds (o % st)).map (o / st :: ·) else none

/-- What lies at an address of BAR0. -/
inductive Target where
  /-- A register. -/
  | reg (k : Key)
  /-- The holding register of a counter (R61). -/
  | hold (k : Key)
  /-- Half of a cue instruction slot (R38). -/
  | slot (engine slot : Nat) (upper : Bool)
  /-- An offset of a block that its tables do not list. -/
  | unlisted (hdr : List Nat)
  /-- A reserved range (R37). -/
  | reserved
  deriving DecidableEq, Repr

/-- The register of a list at an offset, with its indices. -/
def findReg : List Reg → Nat → Option Key
  | [], _ => none
  | r :: rs, o =>
    let d := regDef r
    if d.off ≤ o then
      match matchDims d.dims (o - d.off) with
      | some is => some (r, is)
      | none => findReg rs o
    else findReg rs o

/-- The header key of an instance; none for NR and NQ, whose header is that of NG (R39). -/
def hdrKey (b : Blk) (inst : Nat) : List Nat :=
  match b with
  | .NR | .NQ => [19, 0]
  | .CUS => [20, 24]
  | _ => [blkCode b, inst]

/-- The header register at an offset of an instance that has a header. -/
def findHdr (b : Blk) (inst o : Nat) : Option Key :=
  match b with
  | .NR | .NQ => none
  | _ => (findReg hdrRegs o).map fun k => (k.1, hdrKey b inst)

/-- The register of a block instance at an offset. -/
def findIn (b : Blk) (inst o : Nat) : Option Key :=
  match findHdr b inst o with
  | some k => some k
  | none => (findReg (blkRegs b) o).map fun k => if blkMulti b then (k.1, inst :: k.2) else k

/-- The counters of the blocks, which a snapshot captures (R61): the registers cleared by a read, but for the stamp queue's
pop register, and the counts that a read leaves alone. DEDUCED (log 11). -/
def isCounter (r : Reg) : Bool :=
  (((regDef r).fields.any fun f => f.acc == .rc) && r != .TB_TSQ_POP) ||
    r ∈ [.TB_STEP_CNT, .CE_L_INGEST_AGE, .CE_JRN_WR, .SL_STREAM_WR, .LT_BITS_LO, .LT_BITS_HI, .LT_ERRORS, .CU_RETIRED]

/-- The offset of the holding registers (R61). -/
def holdOff (b : Blk) : Nat := if b = .DT then 0x18000 else 0x8000

/-- The block that an address lies in. -/
def findBlk (a : Nat) : List Blk → Option (Blk × Nat × Nat)
  | [] => none
  | b :: bs =>
    let m := blkMap b
    if m.2.1 ≤ a ∧ a < m.2.1 + m.2.2.1 * m.2.2.2 then some (b, (a - m.2.1) / m.2.2.1, (a - m.2.1) % m.2.2.1)
    else findBlk a bs

/-- What lies at a word address (R35 to R38, R61). -/
def decodeAddr (a : Nat) : Target :=
  if 0x1100000 ≤ a ∧ a < 0x1400000 then
    let o := a - 0x1100000
    .slot (o / 0x20000) (o % 0x20000 / 8) (o % 8 == 4)
  else
    match findBlk a allBlks with
    | none => .reserved
    | some (b, i, o) =>
      match findIn b i o with
      | some k => .reg k
      | none =>
        match b with
        | .CUS => .reserved
        | .NR | .NQ | .NG | .CU => .unlisted (hdrKey b i)
        | _ =>
          if holdOff b ≤ o then
            match findIn b i (o - holdOff b) with
            | some k => if isCounter k.1 then .hold k else .unlisted (hdrKey b i)
            | none => .unlisted (hdrKey b i)
          else .unlisted (hdrKey b i)

/-- The header of the block that a register belongs to (R39). -/
def keyHdr (k : Key) : List Nat :=
  if isHdr k.1 then k.2 else
    let b := (regDef k.1).blk
    if blkMulti b then hdrKey b (k.2.getD 0 0) else hdrKey b 0

/-- The rights of a permission slot at reset, two bits a block code (R63). -/
def permReset (slot : Nat) : Nat :=
  let rw := 2 ^ 42 - 1
  let ro := (2 ^ 42 - 1) / 3
  if slot = 0 ∨ slot = 29 ∨ slot = 31 ∨ (20 ≤ slot ∧ slot < 24) then rw
  else if slot < 4 ∨ slot = 28 then ro
  else if slot = 30 then ro + 2 * 4 ^ 13 + 2 * 4 ^ 14
  else rw - 2

/-- The value of a register after a reset that clears its block (R52), from the tables. -/
def resetVal (k : Key) : Word :=
  match k.1 with
  | .xx_ID => w32 (k.2.getD 0 0 * 2 ^ 24 + k.2.getD 1 0 * 2 ^ 16 + 0x100)
  | .DV_PERM_LO => w32 (permReset (k.2.getD 0 0))
  | .DV_PERM_HI => w32 (permReset (k.2.getD 0 0) / 2 ^ 32)
  | .FC_CFG => w32 (reactCode (srcReact (k.2.getD 0 0)) + (srcClass (k.2.getD 0 0)).getD 0 * 256)
  | .CE_OC_D_CTRL =>
    (regDef k.1).fields.foldl (fun w f => setBits w f.hi f.lo f.reset) 0 |||
      (if k.2.getD 2 0 = 1 then w32 0x40 else w32 0x10)
  | r => (regDef r).fields.foldl (fun w f => setBits w f.hi f.lo f.reset) 0

end Sys2Proof.Machine
end

