-- ==== Sys2Proof/Machine/Maps.lean ====
section
/-! DEFINITION. Sparse maps as plain data: a list of keys and values in one canonical form (ranks rising, no value that
an unlisted key has), and reading and writing one place of it. -/

namespace Sys2Proof.Machine

/-- A sparse map. What an unlisted key holds is an argument of every access. -/
abbrev Map (κ α : Type) := List (κ × α)

variable {κ α : Type} [DecidableEq κ] [DecidableEq α]

/-- The value of a key; `d` gives the value of an unlisted key. -/
def mget (d : κ → α) : Map κ α → κ → α
  | [], k => d k
  | (k', v) :: m, k => if k' = k then v else mget d m k

/-- The map without a key. -/
def merase : Map κ α → κ → Map κ α
  | [], _ => []
  | (k', v) :: m, k => if k' = k then merase m k else (k', v) :: merase m k

/-- Enter a key before the first key of higher rank. -/
def minsert (rank : κ → Nat) (k : κ) (v : α) : Map κ α → Map κ α
  | [] => [(k, v)]
  | (k', v') :: m => if rank k < rank k' then (k, v) :: (k', v') :: m else (k', v') :: minsert rank k v m

/-- Write a key. A value that the key has anyway is not listed. -/
def mput (rank : κ → Nat) (d : κ → α) (m : Map κ α) (k : κ) (v : α) : Map κ α :=
  if v = d k then merase m k else minsert rank k v (merase m k)

/-- Write a key of a map keyed by numbers. -/
def nput (d : Nat → α) (m : Map Nat α) (k : Nat) (v : α) : Map Nat α := mput id d m k v

/-- The canonical form of a map keyed by numbers: keys strictly rising, no value that an unlisted key has. -/
def nwf (d : Nat → α) : Map Nat α → Bool
  | [] => true
  | (k, v) :: m => decide (v ≠ d k) && (m.all fun e => decide (k < e.1)) && nwf d m

end Sys2Proof.Machine
end

