-- ==== Sys2Proof/Machine/State.lean ====
section
/-! DEFINITION. The state of the WVZ-6480: everything spec/ gives the part, as plain data, and the state after power-on.
What a register shows stands in `regs` and nowhere else; the structures below hold what no register shows. -/

namespace Sys2Proof.Machine

/-! ### Audit entries and faults -/

/-- An origin as the audit log writes it: class and detail (R5). -/
structure Org where
  cls : Nat := 0
  det : Nat := 0
  deriving DecidableEq, Repr

/-- An audit entry (R439). `latch` marks the FAULT entry of a latch of R421, which goes into the fault history. -/
structure Entry where
  seq : Nat := 0
  latch : Bool := false
  kind : Nat := 0
  flags : Nat := 0
  sec : Nat := 0
  ns : Nat := 0
  be : Nat := 15
  org : Org := {}
  a : Nat := 0
  b : Nat := 0
  deriving DecidableEq, Repr

/-- A suppression window (R430): its reaction, the unit it is open for (the head for SDI), the tick of its first
reaction write, and the condition sources suppressed in it, with the unit that raised each (R431). -/
structure Window where
  react : Reaction
  unit : Nat
  since : Nat
  held : List (Nat × Nat)
  deriving DecidableEq, Repr

/-- The fault collector beyond its registers. `firstTick` is the tick on which FC_FIRST was set, for the choice among the
sources of one tick (R424). `todo` holds the raises whose reaction is still to be made: source, reaction and unit. `now` holds the sources raised on its
tick, with their origin and whether they latched then (R425, R427). `clrWait` says that the Cellar controller is in reset.
`cleared` holds the sources cleared on its tick (R427), `hbmCorr` the TAI second and the corrected errors in it of each HBM stack
(R433). `safe` and `shut` are the standing effects of the SAFE and SHUT reactions on DV_MODE (R71, R73). -/
structure FcSt where
  firstTick : Option Nat := none
  windows : List Window := []
  todo : List (Nat × Reaction × Nat) := []
  now : Nat × List (Nat × Org × Bool) := (0, [])
  cleared : Nat × List Nat := (0, [])
  hbmCorr : Map Nat (Nat × Nat) := []
  clrWait : Bool := false
  safe : Bool := false
  shut : Bool := false
  deriving DecidableEq, Repr

/-- The Sillage log beyond its registers (R440 to R443, R448). `batch` holds the entries of the present tick, which take
their SEQ when it ends. `held` holds the entries of a boot until the RESET entry has its SEQ; `boot` is then the RESET
entry and the GAP entry of the boot. `resetSeq` is the SEQ of a RESET entry that is not complete. `ring` holds the on-chip
entries by SEQ. `mirrored` is the SEQ of the next entry to mirror. `lost` is the first SEQ of a run of lost entries not
yet marked by a GAP entry, with the time of its loss. `streamed` is the SEQ of the next entry to stream. `readHi` holds
the latch of SL_SEQ_HI (R440). -/
structure SlSt where
  next : Nat := 0
  batch : List Entry := []
  held : List Entry := []
  holding : Bool := true
  heldSince : Nat := 0
  boot : List Entry := []
  bootVer : Option Nat := none
  resetSeq : Option Nat := none
  ring : Map Nat Entry := []
  mirrored : Nat := 0
  lost : Option (Nat × Nat × Nat) := none
  floor : Nat := 16777216
  streamed : Nat := 0
  readHi : Nat := 0
  deriving DecidableEq, Repr

/-! ### Device -/

/-- A reset that waits to begin (R77): its kind, the tick of its write, the SEQ that must have been mirrored, and the
number of Cellar records that must complete first. -/
structure ResetReq where
  kind : Nat
  since : Nat
  seq : Nat
  records : Nat
  deriving DecidableEq, Repr

/-- A boot slot: the bundle it holds, its length, and whether it verified (R82, R97). -/
structure Slot where
  present : Bool := false
  version : Nat := 0
  length : Nat := 0
  data : Map Nat Byte := []
  deriving DecidableEq, Repr

/-- Power, resets, boot and shutdown (03). `step` is the last completed step of R31, 0 while a reset is asserted; `released` that
the reset has been released and the rails may come up; `cold` and `warm` the kind of reset that this boot follows, `bootMaint` a
maintenance reset; `att` the failed-attempt counts in the always-on domain (R76, R83). `svcSince` is the tick on which the
services were started, `bootDone` that of the end of the boot while heads wait to be restored (R89). `heldWrites` says that the
fabric holds every write (R77, R447). `shutNow` marks a forced shutdown (R75), `warnTick` a supply-loss warning. `flr` lists the
functions in function-level reset. `snapReq` is a snapshot to be captured, with the tick of its request, and `snapPage` what is to
be written to the capture page (R61); `img` is the slot that IMG_BEGIN opened. `board` is the rail table of the board block, none where the block is bad (R81, R479); `rom`
the version of the boot ROM; `revoked` lists the fused key digests that are revoked (R82). -/
structure DvSt where
  resetLow : Bool := false
  released : Bool := false
  step : Nat := 0
  cold : Bool := true
  warm : Bool := false
  booting : Bool := false
  maint : Bool := false
  bootMaint : Bool := false
  att : Nat × Nat := (0, 0)
  svcSince : Option Nat := none
  bootDone : Option Nat := none
  heldWrites : Bool := false
  rstReq : Option ResetReq := none
  straps : Nat := 0
  pcieUp : Bool := false
  flr : List Nat := []
  shutting : Bool := false
  shutNow : Bool := false
  railsOff : Bool := false
  warnTick : Option Nat := none
  warnLow : Bool := false
  slots : Map Nat Slot := []
  running : Nat := 0
  snapReq : Option (Nat × Nat) := none
  snapPage : List (Nat × List Byte) := []
  img : Option Nat := none
  board : Option (List RailEntry) := none
  rom : Nat := 0x103
  revoked : List Nat := []
  deriving DecidableEq, Repr

/-- A mailbox (R93, R94): the command posted with its payload, and the staged response: result code, words, and whether
the command applied its change; and the tick of a CANCEL. -/
structure Mbx where
  posted : Option (Nat × List Word) := none
  staged : Option (Nat × List Word × Bool) := none
  cancelled : Option Nat := none
  deriving DecidableEq, Repr

/-- One vector of a function's MSI-X table (R32). -/
structure MsixVec where
  addr : Nat := 0
  data : Nat := 0
  masked : Bool := true
  pending : Bool := false
  deriving DecidableEq, Repr

/-! ### Time base -/

/-- A source of TB_SRC_PRIO (R107 to R113). -/
structure SrcSt where
  usable : Bool := false
  usableSince : Nat := 0
  wasSelected : Bool := false
  lost : Bool := false
  measured : Bool := false
  offset : Int := 0
  deriving DecidableEq, Repr

/-- The defaults of R117 under a profile, 0 for ST 2059-2 and 1 for AES67. -/
def ptpDefault (profile : Nat) : PtpConfig := ⟨if profile = 1 then 0 else 127, profile, 128, 128, true, -3, -2, 3, -3⟩

/-- A PTP port (R117). -/
structure PtpPort where
  en : Bool := false
  role : Nat := 0
  ip : Word := 0
  faulty : Bool := false
  slave : Bool := false
  deriving DecidableEq, Repr

/-- A transmit stamp (R122). -/
structure TxStamp where
  tag : Nat
  queue : Nat
  at_ : Stamp
  deriving DecidableEq, Repr

/-- The time base beyond its registers. `counting` is true from boot step 4 on. `lockHist` holds the increments applied
in LOCKED, newest first, as runs of ticks (R111). `exceed` counts the consecutive measurements above TB_STEP_THRESH
(R113). `lastLeap` is the last leap made: its TB_LEAP_AT, and whether OFS rose (R123). `restep` is an authorised re-step (R116): the
origin that authorised it, and whether the step was made; `restepLost` that the source was lost before LOCKED. `pathDelay` is the
mean path delay in units of 2^-8 ns with the asymmetry of its port (R121). -/
structure TbSt where
  sec : Nat := 0
  ns : Nat := 0
  frac : Nat := 0
  counting : Bool := false
  latches : Map Nat (Nat × Nat × Nat) := []
  lockHist : List (Nat × Nat) := []
  srcs : Map Nat SrcSt := []
  exceed : Nat := 0
  exceedSrc : Nat := 0
  within : Option Nat := none
  holdSince : Nat := 0
  needStep : Bool := false
  restep : Option (Org × Bool) := none
  restepLost : Bool := false
  tsq : Map Nat (List TxStamp) := []
  servoTsq : List TxStamp := []
  servoUp : Bool := false
  ptp : PtpConfig := ptpDefault 0
  ports : Map Nat PtpPort := []
  bw : Nat := 10
  pathDelay : Int := 0
  gmId : Nat := 0
  gmClass : Nat := 248
  stepsRemoved : Nat := 0
  seen1 : Nat := 0
  seen2 : Nat := 0
  lastLeap : Option (Nat × Bool) := none
  tenOk : Bool := false
  deriving DecidableEq, Repr

/-! ### Heads, engines and commits -/

/-- A layer descriptor as a commit copies it: the 28 words at 0x00 to 0x6C (R169). -/
structure LayerDesc where
  m : Nat
  words : List Word
  deriving DecidableEq, Repr

/-- The demand of a set in one band, without the protected layer: layer-pixels, bytes, scaled layers, segments (R226 to
R237). -/
structure BandLoad where
  lp : Nat := 0
  bytes : Nat := 0
  sc : Nat := 0
  seg : Nat := 0
  deriving DecidableEq, Repr

/-- What the admission checker found for a set: the demand band by band, the layer-tiles culled, and the screen tiles in which each
direct layer is culled, row by row (R233, R234). -/
structure AdmReport where
  bands : List BandLoad := []
  tiles : Nat := 0
  culled : List (Nat × List (List Bool)) := []
  deriving DecidableEq, Repr

/-- A commit set (R169, R185): the copied descriptors, order registers and output colour registers of a head, with the
caller's tag, the origin of the commit write, the members of a group commit (none for a single one), and what became of
it: the number of its commit among all commits, the domain time of its acceptance, the frame it targets, whether it was
released from PREPARED or restored from the Cellar (R193), and its admission report. -/
structure CommitSet where
  head : Nat
  serial : Nat := 0
  tag : Nat := 0
  org : Org := {}
  layers : List LayerDesc := []
  order : List Word := []
  oc : List Word := []
  members : List Nat := []
  prep : Bool := false
  accepted : Nat := 0
  target : Nat := 0
  released : Bool := false
  restored : Bool := false
  adm : AdmReport := {}
  deriving DecidableEq, Repr

/-- What a Cellar record holds (R444): stored registers (boot, reference, zone, Spemen); the time record (R106, R124);
the control record (R448): CL_AUTO_RESTORE, SEQ_FLOOR and the seal; a last-good record (R450): commit set, vintage
number and registers; a fault-history entry. -/
inductive RecBody where
  | regs (l : List (Key × Word)) (attA attB : Nat)
  | time (sec ns ofs : Nat) (valid : Bool)
  | control (auto : Bool) (floor : Nat) (sealAt : Option Nat)
  | lastGood (set : CommitSet) (vintage : Nat) (l : List (Key × Word))
  | fault (e : Entry)
  deriving DecidableEq, Repr

/-- A last-good candidate (R194, R450): set, vintage number and registers as they stood when it qualified. -/
structure LastGood where
  set : CommitSet
  vintage : Nat
  regs : List (Key × Word)
  deriving DecidableEq, Repr

/-- A record write of the Cellar: its region, the head for region 8, and its content. -/
structure Rec where
  region : Nat
  head : Nat := 0
  body : RecBody
  deriving DecidableEq, Repr

/-- The Cellar (R444 to R448). `store` holds the copy in force of each record region with its generation, keyed by region
(a last-good record of head n by 16 + n), and `older` the valid copy in the other slot (R445); `queue` the record writes requested, the first of them in progress. `history`
and `mirror` are the two rings by slot. `writes` counts the writes of each region; `failed` is the standing cause of CL_WRITE. `corrupt`
lists the records whose copies all failed their CRC when the header was last checked (R89, R445). -/
structure ClSt where
  store : Map Nat (Option (RecBody × Nat)) := []
  older : Map Nat (Option (RecBody × Nat)) := []
  queue : List Rec := []
  history : Map Nat (Option Entry) := []
  historyN : Nat := 0
  mirror : Map Nat (Option Entry) := []
  mirrorTop : Option Nat := none
  writes : Map Nat Nat := []
  failed : Bool := false
  sealDone : Bool := false
  corrupt : List Nat := []
  deriving DecidableEq, Repr

/-- What a check ends with (R186): REASON, with 0 for a pass, the layer and band it names, and the demand and limit of
a band check. -/
structure Verdict where
  reason : Nat := 0
  layer : Option Nat := none
  band : Option Nat := none
  need : Nat := 0
  limit : Nat := 0
  deriving DecidableEq, Repr

/-- A check that waits or runs on an engine (R185). The verdict is reached when the check starts, since the other sets
count as they stand then (R238). `left` says that the head left STARTING or RUNNING during the check (R186). -/
structure Check where
  set : CommitSet
  verdict : Option Verdict := none
  left : Bool := false
  deriving DecidableEq, Repr

/-- A group commit whose members are being checked (R190): the number of the commit, its members, the sets that have
passed, and the members that left STARTING or RUNNING since. -/
structure GroupSt where
  serial : Nat
  members : List Nat
  passed : List CommitSet := []
  left : List Nat := []
  deriving DecidableEq, Repr

/-- A buffer that a layer shows: its planes, its opacity map and palette (R173), and, for ingest, its number. -/
structure Buffer where
  addr0 : Nat := 0
  addr1 : Nat := 0
  opmap : Nat := 0
  opmapEn : Bool := false
  pal : Nat := 0
  buf : Nat := 0
  deriving DecidableEq, Repr

/-- What a layer shows (R176, R180, R181): a buffer, or its fill colour. -/
inductive Shown where
  | buffer (b : Buffer)
  | fill
  deriving DecidableEq, Repr

/-- A row that was fetched for a line (R157), or a host row whose read has completed (R175): the unit it serves (twice the frame,
and 1 for field 2), the row, its bytes (plane 0, then plane 1; none where it was not there), and whether the fetch met an
uncorrectable error (R241). The palette of a layer counts as row SRC_H (log 40). -/
structure FetchRow where
  unit : Nat
  row : Nat
  data : Option (List Byte)
  bad : Bool := false
  deriving DecidableEq, Repr

/-- A layer of an engine beyond its registers. `shown` is none while the layer is hidden or in no applied vintage. `ready`
and `sel` are what the last deadline tick found for the coming boundary: the fence or ingest test, and the ingest frame
selected, as buffer and number of the source's complete frames (R177, R180). `base` is that number when the layer was
applied. `rows` holds the rows fetched, `asked` the host rows that have been requested and not completed, by unit and row;
`prevLine` is the last line shown in this frame. `fence` is the value of FENCE_SIGNAL before the writes of a tick (R180). -/
structure LayerSt where
  shown : Option Shown := none
  ready : Bool := true
  sel : Option (Nat × Nat) := none
  fresh : Bool := false
  base : Nat := 0
  rows : List FetchRow := []
  asked : List (Nat × Nat) := []
  prevLine : Option (List Px) := none
  fence : Option (Nat × Word) := none
  deriving DecidableEq, Repr

/-- A head beyond its registers (06, 07). `frame` and `line` name the last line the head has started; `startTick` is the
tick of its acceptance and `startFrame` the frame of R150; `stopFrame` is the frame after which a stop ends the head;
`bndNext` the frame of its next boundary and `dlNext` that of its next deadline. `pending` holds the pending sets by
target frame, and `latest` numbers the commit that CSTAT shows. `dlShown` is the set that the last deadline tick chose for.
`raised` lists the sample events raised on this line; `anc` holds the line for which ancillary packets were last inserted,
with the lengths of those in its VANC and HANC spaces (R374). `last` is the raster and phase of the last start (R164, R165).
`fetched` lists the lines fetched and not yet blended, by frame and line, `plRows` the rows of the protected slot fetched for them
(R157); `credit` is the fetch credit in bytes as of a tick (R239). `dropped` is the last applied vintage where a start dropped it
(R155). `chroma` holds the Cr of even rows for 4:2:0 (R218).
`row` is the frame row that the ST 2110-20 packer takes when its line ends, with its octets; `carry` the octets of the unit
that wait for a full packet with their offset; `seq` the packets sent (R354). `recent` holds the events of the last two ticks,
which are not yet delivered: tick, code, line and frame (R294). -/
structure HeadSt where
  everRun : Bool := false
  frame : Nat := 0
  line : Nat := 0
  phase : Nat := 0
  phaseF : Nat := 0
  phaseFix : Int := 0
  startTick : Nat := 0
  startFrame : Nat := 0
  stopPending : Bool := false
  stopFrame : Nat := 0
  stepped : Bool := false
  restart : Bool := false
  applied : Option CommitSet := none
  pending : List CommitSet := []
  prepared : Option CommitSet := none
  latest : Nat := 0
  bndNext : Nat := 0
  dlNext : Nat := 0
  dlShown : Option CommitSet := none
  raised : List Nat := []
  vintDrop : Bool := false
  sdiFail : Bool := false
  sdiReset : Bool := false
  sdiBack : Bool := false
  dpDown : Bool := false
  dpHpd : Bool := true
  dpNext : Nat := 0
  dpResume : Bool := false
  stFail : Bool := false
  fifoOut : List Nat := []
  noise : Map Nat Word := []
  hostLate : Bool := false
  dirty : Bool := false
  showing : Option (CommitSet × Nat) := none
  qualified : Option LastGood := none
  handover : Option Nat := none
  anc : Nat × List Nat × List Nat := (0, [], [])
  last : Option (Word × Word) := none
  fetched : List (Nat × Nat) := []
  plRows : List FetchRow := []
  credit : Rat := 0
  creditAt : Nat := 0
  dropped : Option CommitSet := none
  chroma : Map Nat (List Rat) := []
  row : Option (Nat × List Byte) := none
  carry : Nat × List Byte := (0, [])
  seq : Nat := 0
  recent : List (Nat × Nat × Nat × Nat) := []
  deriving DecidableEq, Repr

/-- What a head, or a Spemen port, has latched of the items it shows (R313, R324): the registers of the items, the GPI
inputs, and the zones in use with whether each is in daylight. -/
structure DtLatch where
  regs : List (Key × Word) := []
  gpi : Nat := 0
  zones : List (Nat × Bool) := []
  deriving DecidableEq, Repr

/-- A composition engine beyond its registers: the checks in order of acceptance (R185). -/
structure EngineSt where
  checks : List Check := []
  deriving DecidableEq, Repr

/-- The video source of a flow context or SDI input (R177, R342): the number of frames complete since reset, the
newest one's buffer, and the tick of its completion with the newest one before it. -/
structure VidSt where
  count : Nat := 0
  newest : Option Nat := none
  doneAt : Nat := 0
  before : Option Nat := none
  deriving DecidableEq, Repr

/-- A protected-layer commit (R250, R252): its fields, the reason its check ends with (0 for a pass), the frame it
targets, and the verdict of its slot's scan. -/
structure PlCommit where
  slot : Nat
  en : Bool
  tag : Nat
  place : Word
  org : Org
  reason : Nat := 0
  target : Nat := 0
  verdict : Option Nat := none
  latest : Bool := true
  deriving DecidableEq, Repr

/-- A scan of a protected slot: the slot, and whether it is for a commit in VERIFYING (R252) or for a frame (R253). -/
structure PlScan where
  slot : Nat
  forCommit : Bool
  deriving DecidableEq, Repr

/-- A protected layer beyond its registers (R246 to R255): enabled, selected slot, applied placement; the commit in
CHECKING or VERIFYING and the pending one; the scan in progress and the one that waits for it; the verdict of the last
frame scan since the boundary and the one that the deadline tick fixed (R253); the LATE verdicts in a row; whether the
layer has been shown; and the origins whose drops were logged, with the tick (R247). -/
structure PlSt where
  enabled : Bool := false
  sel : Nat := 0
  place : Word := 0
  checking : Option PlCommit := none
  verifying : Bool := false
  pending : Option PlCommit := none
  scan : Option PlScan := none
  queued : Option PlScan := none
  verdict : Option Nat := none
  fixed : Option Nat := none
  lateRun : Nat := 0
  shownOnce : Bool := false
  drops : List (Org × Nat) := []
  windowOn : Bool := false
  deriving DecidableEq, Repr

/-- A check unit beyond its registers (R259): the bytes fed since START. -/
structure CkSt where
  fed : Nat := 0
  deriving DecidableEq, Repr

/-- The power steward beyond its registers (R452 to R462). `limited` says that POWER_LIMITED is in force and `capped` that step
1 is; `loopMax` is the SP_LOOP_MAX that a release restores, with the value of step 3; `exhausted` that no step is left. `calm` is
the tick since which the release conditions hold, `period` the number of the last 100 ms period evaluated. `volts` and `silent`
count the consecutive reads of a rail out of its window and without an answer; `watts` sums the power of each rail over the reads of
this period, in µW, and counts them (R453). `gated` lists the gated domains of R454: engines
0 to 7, HBM 8, cue engines 9 to 32, lanes from 33. `rails` lists the rails of the board block that are on, in the order in which they
were turned on (R452, R478). -/
structure PsSt where
  limited : Bool := false
  capped : Bool := false
  loopMax : Option (Nat × Nat) := none
  exhausted : Bool := false
  calm : Option Nat := none
  period : Nat := 0
  volts : Map Nat Nat := []
  silent : Map Nat Nat := []
  watts : Map Nat (Nat × Nat) := []
  gated : List Nat := []
  rails : List Nat := []
  deriving DecidableEq, Repr

/-- A lane of the link test block beyond its registers: an out-of-service test runs (R463, R470), and it is a far-end one; the BITS_HI that a read of
BITS_LO latched; the bits compared before the checker's present sync, and the tick of that sync (R467); the tick of a STOP. -/
structure LtSt where
  oos : Bool := false
  far : Bool := false
  bitsHi : Nat := 0
  base : Nat := 0
  sync : Option Nat := none
  stopped : Option Nat := none
  deriving DecidableEq, Repr

/-- The boundary scan port (R474, R475): the instruction selected, and whether it has the pins. -/
structure JtagSt where
  instr : JtagInstr := .idcode
  pins : Bool := false
  deriving DecidableEq, Repr

/-- An LTC input beyond its registers (R133): present and consistent; the number of its last label within the day; the missing
or inconsistent words in a row. -/
structure LtcSt where
  ok : Bool := false
  last : Option Nat := none
  bad : Nat := 0
  deriving DecidableEq, Repr

/-- The reference inputs and outputs beyond their registers (05). `locked` lists the locked analogue inputs; `edge` is the last
PPS edge with the count of 10 MHz cycles there, `ppsOk` whether it fell on a whole second of them, `todOk` whether the last
sentence was valid, `todDue` whether none has come since the last edge; `ppsUse` whether source 2 is usable. `load` lists the
outputs in current limit, `muted` those that a step muted (R137); `todSent` is the UTC second of the last sentence sent. `sent` is one
more than the number of the period of its own that each output began last, since the last step (R136), and `start` the count at
boot step 4, from which the local sample address of DARS counts (R140). -/
structure RfSt where
  locked : List Nat := []
  ltc : Map Nat LtcSt := []
  edge : Option (Stamp × Nat) := none
  ppsOk : Bool := false
  todOk : Bool := false
  todDue : Bool := false
  ppsUse : Bool := false
  load : List Nat := []
  muted : List Nat := []
  todSent : Nat := 0
  sent : Map Nat Nat := []
  start : Nat := 0
  deriving DecidableEq, Repr

/-- A Spemen port beyond its registers (17). `since` is the tick of its last refusal or trip, or of its entry to ON; `acc` the
I2t accumulator in mA2 microseconds; `above` the seconds in a row above BUDGET; `tripped` the tick of the last trip; `hello` the tick of the last HELLO; `seq`
counts frames; `select` says that a version is selected and the head has not yet answered; `noCommon` that none was common;
`sync` is the number of the last update instant; `reply` the STATUS of this period, good or bad; `missed` the periods in a
row without a good one; `image` the payload latched for the next instant, until it is sent; `timed` says that TIME is sent. -/
structure SpSt where
  since : Nat := 0
  acc : Nat := 0
  above : Nat := 0
  tripped : Option Nat := none
  hello : Option Nat := none
  seq : Nat := 0
  select : Bool := false
  noCommon : Bool := false
  sync : Option Nat := none
  reply : Option Bool := none
  missed : Nat := 0
  latched : Bool := false
  image : Option (List Byte) := none
  timed : Bool := false
  deriving DecidableEq, Repr

/-- A domain commit in flight at the leader (R412, R414): CID, group, T and P, the roster at P, the members that have
acknowledged, and the tick of the first COMMIT with whether it has been repeated. -/
structure GlFlight where
  cid : Nat
  group : Nat
  t : Nat
  p : Nat
  members : List Nat
  acks : List Nat := []
  sent : Option (Nat × Bool) := none
  deriving DecidableEq, Repr

/-- A member's share of a domain commit (R413, R415): CID, T, P and requester; the reason it was turned down with, if it was;
the head it was written for with the number of the commit, none for NONE = 1; whether ACK or NAK is sent; and whether it was
released after a COMMIT. -/
structure GlShare where
  cid : Nat
  t : Nat
  p : Nat
  requester : Nat
  nak : Option Nat := none
  set : Option (Nat × Nat) := none
  answered : Bool := false
  released : Bool := false
  deriving DecidableEq, Repr

/-- The lock-domain agent beyond its registers (18). `since` is the tick of the entry to the present role; `heard` that of the
last ROSTER, `joined` that a JOIN has been sent in this role, and `leaderLost` that the leader was lost. `leaders` holds the leader's address on each port; `roster`, `cands`,
`addrs` and `alive` the roster, its candidates, and of each member the source addresses of its last JOIN (key 2 × index) and
HEARTBEAT (2 × index + 1) with its SEQ, and the tick of the last one. `seen` holds the (index, SEQ) pairs received. `claims`
holds the CLAIMs heard, with their ticks and keys. `beat`, `claimed`, `elected` and `rostered` are the TAI seconds of the last
HEARTBEAT, CLAIM, election and ROSTER. `lastCid` is the last CID given out as leader. -/
structure GlSt where
  seq : Nat := 0
  since : Nat := 0
  heard : Nat := 0
  joined : Bool := false
  leaderLost : Bool := false
  leaders : Map Nat Word := []
  roster : List Nat := []
  cands : List Nat := []
  addrs : Map Nat (Nat × List Word) := []
  alive : Map Nat Nat := []
  seen : List (Nat × Nat) := []
  claims : List (Nat × Nat × Nat) := []
  beat : Nat := 0
  claimed : Nat := 0
  elected : Nat := 0
  rostered : Nat := 0
  lastCid : Nat := 0
  flight : Option GlFlight := none
  shares : List GlShare := []
  deriving DecidableEq, Repr

/-! ### Cue engines -/

/-- What a waiting cue engine waits for (R281, R283, R299 to R301). -/
inductive WaitKind where
  | head (code : Nat)
  | device (code : Nat)
  | line (l : Nat)
  | until (t : Nat)
  | frameLine (f l : Nat)
  | commit (h : Nat)
  deriving DecidableEq, Repr

/-- A wait in progress: what for, the register that takes the result, the tick on which it issued, and, once an occurrence
satisfies it, the data, whether it ends with the LATE flag set (R305), and the tick of the occurrence. -/
structure Wait where
  kind : WaitKind
  rd : Nat
  since : Nat
  hit : Option (Nat × Bool × Nat) := none
  deriving DecidableEq, Repr

/-- A cue engine beyond its registers (R263, R284 to R289): `kicks` are the posted writes not yet judged (address, value,
program counter); `late` and `kick` the traps kept while IE = 0, with their data. -/
structure CueSt where
  eflags : Nat := 0
  cycle : Nat := 0
  late : Option Nat := none
  kick : Option Nat := none
  kicks : List (Nat × Word × Nat) := []
  wait : Option Wait := none
  halting : Bool := false
  step : Bool := false
  dmHold : Word := 0
  dmLatch : Nat := 0
  deriving DecidableEq, Repr

/-! ### Network and DMA -/

/-- A frame in a transmit queue: its bytes without FCS, tag and stamp request, launch time in units of 2^-32 ns, time of
arrival in the same units, launch index, and the host ring that waits for it (R351, R383). -/
structure TxEnt where
  data : List Byte
  tag : Nat
  stamp : Bool
  launch : Option Nat := none
  at_ : Nat := 0
  ring : Option Nat := none
  deriving DecidableEq, Repr

/-- A transmit queue beyond its registers (R348 to R361). `tok` holds tokens or credit in units of 1 / (8 × 10^5 × 2^32)
byte, as of the count `since`; `unit` is the start of the unit whose packets `index` numbers for LAUNCH = MODEL. -/
structure QueueSt where
  waiting : List TxEnt := []
  tok : Int := 0
  since : Nat := 0
  deficit : Nat := 0
  index : Nat := 0
  unit : Nat := 0
  presented : Bool := false
  deriving DecidableEq, Repr

/-- A gate control list: base and cycle in ns, and entries of gates and interval (R362, R363). -/
structure Gcl where
  base : Nat
  cycle : Nat
  entries : List (Nat × Nat)
  deriving DecidableEq, Repr

/-- A network port beyond its registers: the frame in transmission, with its queue, start and end; the operational and pending
gate lists; the queue whose turn the best-effort round has reached (R361); the control bucket of R333 in bits × 10^9 × 2^32
per 10 Mb, as of a count. -/
structure PortSt where
  sending : Option (Nat × TxEnt × Nat × Nat) := none
  charge : Nat := 0
  oper : Option Gcl := none
  pend : Option Gcl := none
  turn : Nat := 0
  ctl : Nat := 16384 * 800 * 2 ^ 32
  ctlSince : Nat := 0
  deriving DecidableEq, Repr

/-- The frame or field that a video source receives, or received last (R342): its RTP time stamp, whether it is field 2, its
buffer (none with no free buffer), pixels written, those of each row, whether its marker has come, whether it is still
whole and still open, whether field 1 of the same buffer was complete, and its largest arrival lag (R343). -/
structure OpenFrame where
  ts : Nat
  field2 : Bool
  buf : Option Nat
  pixels : Nat := 0
  rows : Map Nat Nat := []
  marker : Bool := false
  whole : Bool := true
  live : Bool := true
  field1 : Bool := false
  lag : Nat := 0
  deriving DecidableEq, Repr

/-- A flow context, or SDI context from 16384 up, beyond its registers: the policer's tokens in units of 2^-10 byte with
the count of their update (R339); the merge's highest number, the numbers received among the 4,096 below it, and those
passed over that have not been received (R340); the tick of the last packet that passed the policer, and whether its path is
reported down; the frame being received; the rows in the ring with the tick of their completion (R343); and, for SDI, the
links that have lock. -/
structure FlowSt where
  tok : Nat := 0
  tokSince : Nat := 0
  hi : Option Nat := none
  got : List Nat := []
  wait : List Nat := []
  seen : Option Nat := none
  down : Bool := false
  frame : Option OpenFrame := none
  ring : Map Nat (Nat × Nat) := []
  links : List Nat := []
  deriving DecidableEq, Repr

/-- A burst of an ancillary channel in flight (R373): the line and frame it serves, and the state of its head at the
request. -/
structure AdBurst where
  line : Nat
  frame : Nat
  st : Nat
  gone : Bool := false
  deriving DecidableEq, Repr

/-- An ancillary channel beyond its registers. `rx` holds the slots that mode 2 or 3 bursts write, oldest first; `doneAt`
is the tick of the last burst completion (R380). -/
structure AdSt where
  burst : Option AdBurst := none
  rx : List (List Byte) := []
  doneAt : Option Nat := none
  deriving DecidableEq, Repr

/-- A descriptor of a host ring in flight: its words, and its result once it has one (R382). -/
structure HqFlight where
  desc : List Word
  result : Option Nat := none
  deriving DecidableEq, Repr

/-- A host ring beyond its registers: the descriptors in flight, oldest first; an error
after a bus error; and the tick of the last completion (R386). -/
structure HqSt where
  flight : List HqFlight := []
  busErr : Bool := false
  doneAt : Option Nat := none
  deriving DecidableEq, Repr

/-! ### The whole machine -/

/-- Why the machine stops. No command of this block stops it, so there is no reason. -/
inductive Fault where
  deriving DecidableEq, Repr

/-- Why a command has no meaning. -/
inductive Refusal where
  /-- Answered by the arm of a command that has no meaning yet. Safe: nothing is claimed of that command. -/
  | notModelled (mnemonic : String)
  deriving DecidableEq, Repr

/-- What leaves the device, oldest first. -/
inductive Out where
  /-- The message of a vector of a function, with the address and data of its table entry (R32, R57, R93). -/
  | irq (f vector addr data : Nat)
  /-- The data a register read returns (R44). -/
  | readData (org : Org) (addr : Nat) (v : Word)
  /-- The data a BAR2 read returns; none is a poisoned completion (R34). -/
  | bar2Data (f addr : Nat) (data : Option (List Byte))
  /-- A write to host memory by a function, and whether it carries No Snoop (R175). -/
  | hostWrite (f addr : Nat) (data : List Byte) (noSnoop : Bool)
  /-- A frame leaves a network port, without its FCS (R351). -/
  | frame (port : Nat) (data : List Byte)
  /-- A transaction of a port's I²C master: device, read, register offset, 400 kHz, and the bytes of a write (R330). -/
  | i2c (port dev : Nat) (rd : Bool) (ofs : Nat) (fast : Bool) (len : Nat) (data : List Byte)
  /-- A read of host memory by a function: address and length, and whether it carries No Snoop (R175). -/
  | hostRead (f addr len : Nat) (noSnoop : Bool)
  /-- What an SDI output carries of a line of its head: TRS, the payload ID and line CRC, on the interface of the raster at the
  link rate, divided by 1.001 if `slow`; and its part of an active row: sub-image, row of it, and the words in order (R161, R164). -/
  | sdi (head out line : Nat) (iface : SdiIface) (slow : Bool) (pid : Word) (images : List (Nat × Nat × List Nat))
  /-- The active row that a DisplayPort port carries on a line, with the total and active size of its main stream attribute, ENC, depth,
  and the codes in the order of the pixel mapping (R162, R222). -/
  | dp (head port line : Nat) (msa : Nat × Nat × Nat × Nat) (enc bpc : Nat) (codes : List Nat)
  /-- An ancillary packet goes into a line of a head's SDI signal, in its HANC or VANC space (R374). -/
  | anc (head line : Nat) (hanc : Bool) (words : List Nat)
  /-- SYNC on the data pair of a Spemen port (R400). -/
  | spSync (port : Nat)
  /-- A frame on the data pair of a Spemen port, from TYPE to CRC (R398). -/
  | spFrame (port : Nat) (data : List Byte)
  /-- The UDP payload of a Glachapol message on a port, with its destination address (R407, R408). -/
  | datagram (port : Nat) (addr : Word) (data : List Byte)
  /-- A PTP message of a port in MASTER state (R117, R118). -/
  | ptp (port : Nat) (m : PtpMsg)
  /-- An analogue output starts a frame of a standard: its frame count, and whether black burst has setup (R130, R135). -/
  | refFrame (k : Nat) (at_ : Stamp) (std frame : Nat) (setup : Bool)
  /-- An analogue output cuts a line at a step and goes on with a line of the new phase (R137). -/
  | refCut (k frame line : Nat)
  /-- An LTC output starts a codeword (R139). -/
  | ltc (k : Nat) (at_ : Stamp) (w : LtcOutWord)
  /-- A DARS output starts a channel-status block at a sample, with its 24 bytes; the audio is silent (R140). -/
  | dars (k : Nat) (at_ : Stamp) (sample : Nat) (status : List Byte)
  /-- The PPS output rises for a number of ms, and the 10 MHz output rises at an instant and every 100 ns after it (R141). -/
  | pps (at_ : Stamp) (ms : Nat)
  | tenMhz (at_ : Stamp)
  /-- A sentence on the ToD output (R142). -/
  | tod (chars : List Byte)
  /-- The sequencer turns a rail of the board block on or off over PMBus (R452, R478). -/
  | rail (r : Nat) (on : Bool)
  /-- The identification that the scan port shifts out after IDCODE is selected (R474). -/
  | idcode (v : Word)
  deriving DecidableEq, Repr

/-- The machine. `pending` is the model's queue of commands, `tick` and `free` count the ticks of 2.5 ns and the free values used,
`out` is what has left the device. `ecc` marks the cue instruction, data and scratch words with an error: 1 correctable,
2 uncorrectable (R274). -/
structure State where
  pending : List Instr
  tick : Nat
  free : Nat
  out : List Out
  irqOwed : List (List Nat)
  regs : Map Key Word
  eff : Map Key (Option Word)
  waiting : List (Key × Nat × Word)
  w1 : Map Key Word
  slowQ : Map Nat (List (Org × Nat × Nat))
  slowHold : Map Nat (List (Origin × Nat × Word × Nat))
  slowCopy : Map Key Word
  msix : Map Nat MsixVec
  mem : List Host.Cell
  bad : Map Nat Bool
  holding : Map Key Word
  dv : DvSt
  mbx : Map Nat Mbx
  tb : TbSt
  heads : Map Nat HeadSt
  engines : Map Nat EngineSt
  groups : List GroupSt
  serial : Nat
  vids : Map Nat VidSt
  dts : Map Nat DtLatch
  ports : Map Nat PortSt
  queues : Map Nat QueueSt
  flows : Map Nat FlowSt
  ads : Map Nat AdSt
  hqs : Map Nat HqSt
  glyphs : Map Nat Byte
  gpi : Nat
  gpo : Nat
  layers : Map Nat LayerSt
  pls : Map Nat PlSt
  cks : Map Nat CkSt
  cues : Map Nat CueSt
  cregs : Map Nat Word40
  imem : Map Nat Word40
  dmem : Map Nat Word40
  scratch : Map Nat Word
  ecc : Map Nat Nat
  evt : Map Nat (Option (Nat × Nat))
  ps : PsSt
  rf : RfSt
  jtag : JtagSt
  lts : Map Nat LtSt
  sps : Map Nat SpSt
  gl : GlSt
  fc : FcSt
  sl : SlSt
  cl : ClSt
  deriving DecidableEq, Repr

/-- The machine right after power-on (cold reset, R76): DV_MODE is RESET, every register at its reset value, memory
with nothing listed, and no command waiting. -/
def State.reset : State where
  pending := []
  tick := 0
  free := 0
  out := []
  irqOwed := []
  regs := []
  eff := []
  waiting := []
  w1 := []
  slowQ := []
  slowHold := []
  slowCopy := []
  msix := []
  mem := []
  bad := []
  holding := []
  dv := {}
  mbx := []
  tb := {}
  heads := []
  engines := []
  groups := []
  serial := 0
  vids := []
  dts := []
  ports := []
  queues := []
  flows := []
  ads := []
  hqs := []
  glyphs := []
  gpi := 0
  gpo := 0
  layers := []
  pls := []
  cks := []
  cues := []
  cregs := []
  imem := []
  dmem := []
  scratch := []
  ecc := []
  evt := []
  ps := {}
  rf := {}
  jtag := {}
  lts := []
  sps := []
  gl := {}
  fc := {}
  sl := {}
  cl := {}

end Sys2Proof.Machine
end

