-- ==== Sys2Proof/Machine/Ops.lean ====
section
/-! DEFINITION. The named operations over State that every family shares: registers and fields, status events and
interrupts (R53 to R57), audit entries (R439, R440), raising a source (R423 to R430), device events (R298), free values,
and the end of a command. -/

namespace Sys2Proof.Machine

/-! ### Registers -/

/-- The stored value of a register. -/
def State.rd (s : State) (k : Key) : Word := mget resetVal s.regs k

/-- Store a register. -/
def State.wr (s : State) (k : Key) (w : Word) : State := { s with regs := mput keyAddr resetVal s.regs k w }

/-- The value in effect of a register of class LINE, FRAME, PKT or PER (R50). -/
def State.rdE (s : State) (k : Key) : Word := (mget (fun _ => none) s.eff k).getD (s.rd k)

/-- A field, as a number. -/
def State.get (s : State) (f : Fld) : Nat := bits (s.rd f.key) f.hi f.lo

/-- The value in effect of a field (R50). -/
def State.getE (s : State) (f : Fld) : Nat := bits (s.rdE f.key) f.hi f.lo

/-- Store a field; other bits of its register stay. -/
def State.set (s : State) (f : Fld) (v : Nat) : State := s.wr f.key (setBits (s.rd f.key) f.hi f.lo v)

/-- Count up a field, which saturates. -/
def State.count (s : State) (f : Fld) (n : Nat) : State := s.set f (satAdd (f.hi + 1 - f.lo) (s.get f) n)

/-- The field is not 0. -/
def State.flag (s : State) (f : Fld) : Bool := s.get f != 0

/-- The status register of a block header. -/
def statusKey (b : List Nat) : Key := (.xx_STATUS, b)

/-- Latch the events of a mask in the status register of a block: SEQ counts each of them, the bits are set, and a bit
that goes from clear to set while enabled owes an interrupt (R53, R57). -/
def State.latch (s : State) (b : List Nat) (mask : Nat) : State :=
  if mask = 0 then s else
  let w := s.rd (statusKey b)
  let new := w32 mask &&& ~~~ w &&& s.rd (.xx_INT_EN, b) &&& w32 0xFFFFFF
  let seq := (bits w 31 24 + popcount 24 mask) % 256
  let s := s.wr (statusKey b) (setBits (w ||| (w32 mask &&& w32 0xFFFFFF)) 31 24 seq)
  if new = 0 ∨ b ∈ s.irqOwed then s else { s with irqOwed := s.irqOwed ++ [b] }

/-- The registers that p names return to their reset values, with what waits for them, and their W1 fields become writable
again (R52). -/
def State.clearKeys (s : State) (p : Key → Bool) : State :=
  { s with
    regs := s.regs.filter fun e => !p e.1
    eff := s.eff.filter fun e => !p e.1
    waiting := s.waiting.filter fun e => !p e.1
    w1 := s.w1.filter fun e => !p e.1 }

/-! ### Output, free values -/

/-- Something leaves the device. -/
def State.emit (s : State) (o : Out) : State := { s with out := s.out ++ [o] }

/-- A fresh free number. -/
def State.fresh (s : State) : Nat × State := (Config.freeNat s.free, { s with free := s.free + 1 })

/-- Vector v of function f (R32). -/
def State.vec (s : State) (f v : Nat) : MsixVec := mget (fun _ => {}) s.msix (256 * f + v)

def State.setVec (s : State) (f v : Nat) (x : MsixVec) : State := { s with msix := nput (fun _ => {}) s.msix (256 * f + v) x }

/-- An interrupt on a vector: its message is sent, or becomes pending while the vector is masked (R32, R57; log 5). -/
def State.interrupt (s : State) (f v : Nat) : State :=
  let x := s.vec f v
  if x.masked then s.setVec f v { x with pending := true } else s.emit (.irq f v x.addr x.data)

/-- The end of a command: every block that owes an interrupt sends one message (R57). -/
def State.finish (s : State) : State :=
  { s.irqOwed.foldl (fun s b => s.interrupt (s.get ⟨(.xx_INT_VEC, b), 9, 8⟩) (s.get ⟨(.xx_INT_VEC, b), 7, 0⟩)) s with irqOwed := [] }

/-- The outcome of a command whose effect on the state is f. -/
def done (f : State → State) (s : State) : Host.Outcome State Fault Refusal := .next (f s).finish

/-! ### Time -/

/-- The time of the count (R99). -/
def State.tai (s : State) : Stamp := ⟨s.tb.sec, s.tb.ns, s.tb.frac⟩

/-- Domain time (R103). -/
def State.dtime (s : State) : Nat := (s.tb.sec * 1000000000 + s.tb.ns) % 2 ^ 40

/-- The TAI second nearest to t whose low 32 bits TB_LEAP_AT holds (R123). -/
def leapNear (t at_ : Nat) : Nat := ((t : Int) + signed 32 ((at_ + 2 ^ 32 - t % 2 ^ 32) % 2 ^ 32)).toNat

/-- Ticks of 2.5 ns in a number of nanoseconds, rounded up. -/
def ticksNs (ns : Nat) : Nat := ceilDiv (ns * 2) 5

/-- Ticks in a number of seconds. -/
def ticksS (sec : Nat) : Nat := sec * 400000000

/-! ### Origins (R5, R63) -/

/-- The class and detail of an origin (R5). -/
def orgOf : Origin → Org
  | .hardware => ⟨0x00, 0⟩
  | .pf f => ⟨1 + f.val, f.val⟩
  | .cu n pc => if n.val = 17 then ⟨0x41, 0⟩ else ⟨0x10 + n.val, pc % 65536⟩
  | .smbus => ⟨0x30, 0⟩
  | .jtag => ⟨0x31, 0⟩
  | .faultReaction src => ⟨0x40, src⟩
  | .powerSteward step => ⟨0x41, step⟩
  | .remote m => ⟨0x80, m.val⟩

/-- The origin of an IFACE_NO_COMMON raise, whose detail names the interface and its unit (R91). -/
def ifaceOrg (iface unit : Nat) : Org := ⟨0, Config.ifaceDetail iface unit % 65536⟩

/-- The permission slot of an origin (R63). -/
def slotOf : Origin → Nat
  | .pf f => f.val
  | .cu n _ => if 16 ≤ n.val ∧ n.val < 20 then 31 else 4 + n.val
  | .smbus => 28
  | .jtag => 29
  | .remote _ => 30
  | .hardware | .faultReaction _ | .powerSteward _ => 31

/-- The rights of an origin over a block code: 0 none, 1 and 2 read, 3 read and write (R63). -/
def State.rights (s : State) (o : Origin) (code : Nat) : Nat :=
  if code < 16 then s.get ⟨(.DV_PERM_LO, [slotOf o]), 2 * code + 1, 2 * code⟩
  else s.get ⟨(.DV_PERM_HI, [slotOf o]), 2 * (code - 16) + 1, 2 * (code - 16)⟩

/-! ### Audit entries (R439, R440) -/

/-- The place of an entry among the entries of its tick (R440). A WINDOW entry stands with the writes (log 12). -/
def entryRank (e : Entry) : Nat :=
  match e.kind with
  | 5 => 0
  | 7 => 1
  | 0 | 6 => 2
  | 1 => 3 + e.a % 512
  | 2 => 1000
  | 3 => 1001
  | _ => 1002

/-- Enter an entry behind those of its rank. -/
def insertEntry (e : Entry) : List Entry → List Entry
  | [] => [e]
  | x :: xs => if entryRank e < entryRank x then e :: x :: xs else x :: insertEntry e xs

/-- Make an entry that carries the time of this tick. Until the RESET entry of a boot has its SEQ, entries are held. No
entry is made once the seal of R447 or R77 is written. -/
def State.logEntry (s : State) (e : Entry) : State :=
  let e := { e with sec := s.tb.sec, ns := s.tb.ns }
  if s.dv.heldWrites then s
  else if s.sl.holding then { s with sl := { s.sl with held := s.sl.held ++ [e] } }
  else { s with sl := { s.sl with batch := insertEntry e s.sl.batch } }

/-- Make an entry of a kind, with its flags, origin and words A and B. -/
def State.log (s : State) (kind flags : Nat) (org : Org) (a b : Nat) (be : Nat := 15) : State :=
  s.logEntry { kind, flags, be, org, a, b }

/-! ### Device events (R297, R298) -/

abbrev cueD : Nat → CueSt := fun _ => {}

def State.cue (s : State) (n : Nat) : CueSt := mget cueD s.cues n

def State.setCue (s : State) (n : Nat) (c : CueSt) : State := { s with cues := nput cueD s.cues n c }

def State.updCue (s : State) (n : Nat) (f : CueSt → CueSt) : State := s.setCue n (f (s.cue n))

/-- A wait that an occurrence satisfies, with the data it returns (R294, R295). The first occurrence counts. -/
def Wait.satisfy (w : Wait) (data : Nat) (late : Bool) (tick : Nat) : Wait :=
  if w.hit.isSome then w else { w with hit := some (data, late, tick) }

/-- The latch of a device event in an engine: its data, and the tick of the occurrence. -/
def State.evtLatch (s : State) (n code : Nat) : Option (Nat × Nat) := mget (fun _ => none) s.evt (8 * n + (code - 16))

/-- What was raised on a tick has reached the engines: their delivery point lies two ticks later (R294). -/
def State.delivered (s : State) (t : Nat) : Bool := decide (t + 2 ≤ s.tick)

def State.setEvt (s : State) (n code : Nat) (v : Option (Nat × Nat)) : State :=
  { s with evt := nput (fun _ => none) s.evt (8 * n + (code - 16)) v }

/-- The latch of a device event takes its data; an earlier occurrence not yet taken counts as an overrun. -/
def State.latchEvt (s : State) (n code data : Nat) : State :=
  let s := if (s.evtLatch n code).isSome then s.count ⟨(.CU_EVT_OVR, [n]), 15, 0⟩ 1 else s
  s.setEvt n code (some (data, s.tick))

/-- Deliver a device event to one cue engine: a pending wait for it takes it and the latch stays clear; otherwise the
latch is set, or its data replaced and an overrun counted (R298). -/
def State.event1 (s : State) (n code data : Nat) : State :=
  let c := s.cue n
  match c.wait with
  | some w =>
    if w.kind = .device code ∧ w.hit = none then s.setCue n { c with wait := some (w.satisfy data false s.tick) }
    else s.latchEvt n code data
  | none => s.latchEvt n code data
/-- Deliver a device event to every cue engine. -/
def State.event (s : State) (code data : Nat) : State :=
  (List.range 24).foldl (fun s n => s.event1 n code data) s

/-! ### Raising a source (R419 to R432) -/

/-- A source is suppressed while an open window lists it (R430). -/
def State.suppressed (s : State) (id unit : Nat) : Bool :=
  s.fc.windows.any fun w => consequential w.react w.unit id unit

/-- The reaction selected for a source (R428, R434, R435): STOP and NONE by FC_CFG, and SVC for the cue sources only on
the service engines. -/
def State.reaction (s : State) (id unit : Nat) : Reaction :=
  if s.flag ⟨(.FC_CFG, [id]), 5, 5⟩ then .stop
  else if s.flag ⟨(.FC_CFG, [id]), 4, 4⟩ then .none
  else if (id = 0x160 ∨ id = 0x163 ∨ id = 0x164) ∧ ¬ (16 ≤ unit ∧ unit < 20) then .none
  else srcReact id

/-- The sources that keep a vintage of head n from becoming its last-good candidate (R194). -/
def spoils (n id : Nat) : Bool :=
  srcClass id == some 3 ||
    (srcClass id == some 2 && ((decide (0x080 + 8 * n ≤ id) && decide (id ≤ 0x087 + 8 * n)) || id == 0x100 + n / 2 || id == 0x108 + n / 2))

/-- A head whose shown frame a raise spoils is marked (R194). -/
def soil (id : Nat) (e : Nat × HeadSt) : Nat × HeadSt :=
  if spoils e.1 id then (e.1, { e.2 with dirty := true }) else e

/-- The default of a head. -/
abbrev headD : Nat → HeadSt := fun _ => {}

def State.head (s : State) (n : Nat) : HeadSt := mget headD s.heads n

def State.setHead (s : State) (n : Nat) (h : HeadSt) : State := { s with heads := nput headD s.heads n h }

def State.updHead (s : State) (n : Nat) (f : HeadSt → HeadSt) : State := s.setHead n (f (s.head n))

/-- The record of a first fault (R424). -/
def State.setFirst (s : State) (id cls : Nat) (org : Org) : State :=
  let s := s.wr (.FC_FIRST_ID, []) (w32 (id + cls * 0x1000 + 0x10000))
  let s := s.wr (.FC_FIRST_TAI_SL, []) (w32 s.tb.sec)
  let s := s.wr (.FC_FIRST_TAI_SH, []) (w32 (s.tb.sec / 2 ^ 32 % 65536))
  let s := s.wr (.FC_FIRST_TAI_NS, []) (w32 s.tb.ns)
  let s := s.wr (.FC_FIRST_ORG, []) (w32 (org.cls + org.det % 65536 * 256))
  { s with fc := { s.fc with firstTick := some s.tick } }

/-- A source that latches is the first fault, or one that overflows (R424). -/
def State.takeFirst (s : State) (id cls : Nat) (org : Org) : State :=
  if s.flag ⟨(.FC_FIRST_ID, []), 16, 16⟩ then
    let held := s.rd (.FC_FIRST_ID, [])
    let s := s.set ⟨(.FC_OVF, []), 0, 0⟩ 1
    let s := s.count ⟨(.FC_OVF, []), 31, 16⟩ 1
    let s := s.latch [1, 0] 2
    if s.fc.firstTick = some s.tick ∧ (bits held 13 12 < cls ∨ (bits held 13 12 = cls ∧ id < bits held 8 0))
    then s.setFirst id cls org else s
  else (s.setFirst id cls org).latch [1, 0] 1

/-- A source latches: its bit, its class event, and the first fault or the overflow (R421, R424). -/
def State.latchSource (s : State) (id cls : Nat) (org : Org) : State :=
  let s := s.set ⟨(.FC_LAT, [id / 32]), id % 32, id % 32⟩ 1
  (s.latch [1, 0] (2 ^ (cls + 1))).takeFirst id cls org

/-- Note a raise of this tick (R425, R427). -/
def State.noteRaise (s : State) (id : Nat) (org : Org) (new : Bool) : State :=
  let old := if s.fc.now.1 = s.tick then s.fc.now.2 else []
  { s with fc := { s.fc with now := (s.tick, old ++ [(id, org, new)]) } }

/-- A window that suppresses a raise keeps it for its close (R431). -/
def holdIn (id unit : Nat) (w : Window) : Window :=
  if consequential w.react w.unit id unit then { w with held := w.held ++ [(id, unit)] } else w

/-- A source was cleared earlier on this tick. -/
def State.clearedNow (s : State) (id : Nat) : Bool := s.fc.cleared.1 == s.tick && s.fc.cleared.2.contains id

/-- A raise of a source that was cleared on this tick takes effect before the clear, which is then rejected: the latch stands (R426,
R427). -/
def State.unclear (s : State) (id : Nat) : State :=
  if s.clearedNow id then
    let s := s.set ⟨(.FC_LAT, [id / 32]), id % 32, id % 32⟩ 1
    let s := { s with fc := { s.fc with cleared := (s.fc.cleared.1, s.fc.cleared.2.filter (· != id)) } }
    (s.count ⟨(.FC_CLEAR_REJ, []), 15, 0⟩ 1).latch [1, 0] 0x20
  else s

/-- Raise a source, for a unit (a head, port or engine) and with an origin (R423). The reaction is made by the next tick
(log 13). -/
def State.raise (s : State) (id : Nat) (unit : Nat := 0) (org : Org := {}) : State :=
  match srcClass id with
  | none => s
  | some cls =>
    let s := s.count ⟨(.FC_CNT, [id]), 15, 0⟩ 1
    if s.suppressed id unit then
      let s := s.count ⟨(.FC_SUPPRESSED, []), 15, 0⟩ 1
      let s := { s with fc := { s.fc with windows := s.fc.windows.map (holdIn id unit) } }
      s.log 1 4 org (id + cls * 0x1000) 0
    else
      let s := s.unclear id
      let old := s.flag ⟨(.FC_LAT, [id / 32]), id % 32, id % 32⟩
      let s := s.logEntry { kind := 1, org, a := id + cls * 0x1000, latch := cls != 0 && !old }
      if cls = 0 then s else
        let s := { s with heads := s.heads.map (soil id) }
        let s := s.noteRaise id org !old
        let s := if old then s else s.latchSource id cls org
        let s := s.event 22 (id + cls * 0x1000)
        let r := s.reaction id unit
        if r = .none then s else { s with fc := { s.fc with todo := s.fc.todo ++ [(id, r, unit)] } }

end Sys2Proof.Machine
end

