-- ==== Sys2Proof/Machine/RegNames.lean ====
section
/-! DEFINITION. The fields of the registers that the meanings name, as the tables of spec/ place them: block, register, field.
An index is the block instance first, then the indices of the register. -/

namespace Sys2Proof.Machine

abbrev F.AD_BASE_HI_ADDR (i : Nat) : Fld := ⟨(.AD_BASE_HI, [i]), 31, 0⟩
abbrev F.AD_BASE_LO_ADDR (i : Nat) : Fld := ⟨(.AD_BASE_LO, [i]), 31, 12⟩
abbrev F.AD_BURSTS_COUNT (i : Nat) : Fld := ⟨(.AD_BURSTS, [i]), 31, 0⟩
abbrev F.AD_CTRL_FRAME_MATCH (i : Nat) : Fld := ⟨(.AD_CTRL, [i]), 16, 16⟩
abbrev F.AD_CTRL_HANC_EN (i : Nat) : Fld := ⟨(.AD_CTRL, [i]), 18, 18⟩
abbrev F.AD_CTRL_HOST (i : Nat) : Fld := ⟨(.AD_CTRL, [i]), 12, 12⟩
abbrev F.AD_CTRL_HOST_PF (i : Nat) : Fld := ⟨(.AD_CTRL, [i]), 14, 13⟩
abbrev F.AD_CTRL_MODE (i : Nat) : Fld := ⟨(.AD_CTRL, [i]), 3, 1⟩
abbrev F.AD_CTRL_SIZE (i : Nat) : Fld := ⟨(.AD_CTRL, [i]), 11, 8⟩
abbrev F.AD_CTRL_SNOOP (i : Nat) : Fld := ⟨(.AD_CTRL, [i]), 15, 15⟩
abbrev F.AD_CTRL_SRC (i : Nat) : Fld := ⟨(.AD_CTRL, [i]), 7, 4⟩
abbrev F.AD_CTRL_TC (i : Nat) : Fld := ⟨(.AD_CTRL, [i]), 17, 17⟩
abbrev F.AD_HW_IDX_IDX (i : Nat) : Fld := ⟨(.AD_HW_IDX, [i]), 15, 0⟩
abbrev F.AD_LOST_COUNT (i : Nat) : Fld := ⟨(.AD_LOST, [i]), 15, 0⟩
abbrev F.AD_ORPHAN_COUNT (i : Nat) : Fld := ⟨(.AD_ORPHAN, [i]), 15, 0⟩
abbrev F.AD_OVF_COUNT (i : Nat) : Fld := ⟨(.AD_OVF, [i]), 15, 0⟩
abbrev F.AD_STAT_BUSY (i : Nat) : Fld := ⟨(.AD_STAT, [i]), 4, 4⟩
abbrev F.AD_STAT_LAST (i : Nat) : Fld := ⟨(.AD_STAT, [i]), 3, 2⟩
abbrev F.AD_STAT_STATE (i : Nat) : Fld := ⟨(.AD_STAT, [i]), 1, 0⟩
abbrev F.AD_SW_IDX_IDX (i : Nat) : Fld := ⟨(.AD_SW_IDX, [i]), 15, 0⟩
abbrev F.CE_ADM_FAIL_LIMIT_LIMIT (i : Nat) (j : Nat) : Fld := ⟨(.CE_ADM_FAIL_LIMIT, [i, j]), 31, 0⟩
abbrev F.CE_ADM_FAIL_NEED_NEED (i : Nat) (j : Nat) : Fld := ⟨(.CE_ADM_FAIL_NEED, [i, j]), 31, 0⟩
abbrev F.CE_CREJ_COUNT (i : Nat) (j : Nat) : Fld := ⟨(.CE_CREJ, [i, j]), 15, 0⟩
abbrev F.CE_CSTAT_STATE (i : Nat) (j : Nat) : Fld := ⟨(.CE_CSTAT, [i, j]), 2, 0⟩
abbrev F.CE_HBM_ERR_COUNT (i : Nat) (j : Nat) : Fld := ⟨(.CE_HBM_ERR, [i, j]), 15, 0⟩
abbrev F.CE_JRN_BASE_HI_ADDR (i : Nat) : Fld := ⟨(.CE_JRN_BASE_HI, [i]), 2, 0⟩
abbrev F.CE_JRN_BASE_LO_ADDR (i : Nat) : Fld := ⟨(.CE_JRN_BASE_LO, [i]), 31, 12⟩
abbrev F.CE_JRN_CTRL_EN (i : Nat) : Fld := ⟨(.CE_JRN_CTRL, [i]), 0, 0⟩
abbrev F.CE_JRN_CTRL_SIZE (i : Nat) : Fld := ⟨(.CE_JRN_CTRL, [i]), 5, 1⟩
abbrev F.CE_JRN_WR_COUNT (i : Nat) : Fld := ⟨(.CE_JRN_WR, [i]), 31, 0⟩
abbrev F.CE_LB_CORR_COUNT (i : Nat) : Fld := ⟨(.CE_LB_CORR, [i]), 15, 0⟩
abbrev F.CE_L_CTRL_EN (i : Nat) (j : Nat) : Fld := ⟨(.CE_L_CTRL, [i, j]), 0, 0⟩
abbrev F.CE_L_CTRL_HEAD (i : Nat) (j : Nat) : Fld := ⟨(.CE_L_CTRL, [i, j]), 1, 1⟩
abbrev F.CE_L_FENCE_SIGNAL_VALUE (i : Nat) (j : Nat) : Fld := ⟨(.CE_L_FENCE_SIGNAL, [i, j]), 31, 0⟩
abbrev F.CE_L_FENCE_STAT_AWAIT (i : Nat) (j : Nat) : Fld := ⟨(.CE_L_FENCE_STAT, [i, j]), 2, 2⟩
abbrev F.CE_L_FENCE_STAT_HELD (i : Nat) (j : Nat) : Fld := ⟨(.CE_L_FENCE_STAT, [i, j]), 1, 1⟩
abbrev F.CE_L_INGEST_AGE_AGE (i : Nat) (j : Nat) : Fld := ⟨(.CE_L_INGEST_AGE, [i, j]), 7, 0⟩
abbrev F.CE_L_LATE_LINES_COUNT (i : Nat) (j : Nat) : Fld := ⟨(.CE_L_LATE_LINES, [i, j]), 31, 0⟩
abbrev F.CE_L_NOTREADY_CNT_COUNT (i : Nat) (j : Nat) : Fld := ⟨(.CE_L_NOTREADY_CNT, [i, j]), 15, 0⟩
abbrev F.CE_PL_CSTAT_MODE (i : Nat) (j : Nat) : Fld := ⟨(.CE_PL_CSTAT, [i, j]), 10, 9⟩
abbrev F.CE_PL_CSTAT_REASON (i : Nat) (j : Nat) : Fld := ⟨(.CE_PL_CSTAT, [i, j]), 7, 4⟩
abbrev F.CE_PL_CSTAT_SHOWN (i : Nat) (j : Nat) : Fld := ⟨(.CE_PL_CSTAT, [i, j]), 8, 8⟩
abbrev F.CE_PL_CSTAT_STATE (i : Nat) (j : Nat) : Fld := ⟨(.CE_PL_CSTAT, [i, j]), 2, 0⟩
abbrev F.CE_PL_CSTAT_TAG (i : Nat) (j : Nat) : Fld := ⟨(.CE_PL_CSTAT, [i, j]), 31, 16⟩
abbrev F.CE_PL_CTRL_CK (i : Nat) (j : Nat) : Fld := ⟨(.CE_PL_CTRL, [i, j]), 3, 2⟩
abbrev F.CE_PL_CTRL_FALLBACK (i : Nat) (j : Nat) : Fld := ⟨(.CE_PL_CTRL, [i, j]), 0, 0⟩
abbrev F.CE_PL_CTRL_OC_LOCK (i : Nat) (j : Nat) : Fld := ⟨(.CE_PL_CTRL, [i, j]), 1, 1⟩
abbrev F.CE_PL_FAILS_COUNT (i : Nat) (j : Nat) : Fld := ⟨(.CE_PL_FAILS, [i, j]), 15, 0⟩
abbrev F.CE_PL_OWNER_CLASS (i : Nat) (j : Nat) : Fld := ⟨(.CE_PL_OWNER, [i, j]), 7, 0⟩
abbrev F.CE_PL_OWNER_DETAIL (i : Nat) (j : Nat) : Fld := ⟨(.CE_PL_OWNER, [i, j]), 23, 8⟩
abbrev F.CE_PL_OWNER_EN (i : Nat) (j : Nat) : Fld := ⟨(.CE_PL_OWNER, [i, j]), 24, 24⟩
abbrev F.CE_PL_S_ADDR_HI_ADDR (i : Nat) (j : Nat) (k : Nat) : Fld := ⟨(.CE_PL_S_ADDR_HI, [i, j, k]), 2, 0⟩
abbrev F.CE_PL_S_ADDR_LO_ADDR (i : Nat) (j : Nat) (k : Nat) : Fld := ⟨(.CE_PL_S_ADDR_LO, [i, j, k]), 31, 8⟩
abbrev F.CE_PL_S_FMT_FMT (i : Nat) (j : Nat) (k : Nat) : Fld := ⟨(.CE_PL_S_FMT, [i, j, k]), 3, 0⟩
abbrev F.CE_PL_S_FMT_PITCH (i : Nat) (j : Nat) (k : Nat) : Fld := ⟨(.CE_PL_S_FMT, [i, j, k]), 31, 16⟩
abbrev F.CE_PL_S_FMT_PREMULT (i : Nat) (j : Nat) (k : Nat) : Fld := ⟨(.CE_PL_S_FMT, [i, j, k]), 12, 12⟩
abbrev F.CE_PL_S_FMT_PRIMARIES (i : Nat) (j : Nat) (k : Nat) : Fld := ⟨(.CE_PL_S_FMT, [i, j, k]), 11, 8⟩
abbrev F.CE_PL_S_FMT_TRANSFER (i : Nat) (j : Nat) (k : Nat) : Fld := ⟨(.CE_PL_S_FMT, [i, j, k]), 7, 4⟩
abbrev F.CE_PL_S_REF_CRC (i : Nat) (j : Nat) (k : Nat) : Fld := ⟨(.CE_PL_S_REF, [i, j, k]), 31, 0⟩
abbrev F.CE_PL_S_REF_N_CRC (i : Nat) (j : Nat) (k : Nat) : Fld := ⟨(.CE_PL_S_REF_N, [i, j, k]), 31, 0⟩
abbrev F.CE_PL_S_SIZE_H (i : Nat) (j : Nat) (k : Nat) : Fld := ⟨(.CE_PL_S_SIZE, [i, j, k]), 29, 16⟩
abbrev F.CE_PL_S_SIZE_W (i : Nat) (j : Nat) (k : Nat) : Fld := ⟨(.CE_PL_S_SIZE, [i, j, k]), 13, 0⟩
abbrev F.CE_PL_S_STAT_DIRTY (i : Nat) (j : Nat) (k : Nat) : Fld := ⟨(.CE_PL_S_STAT, [i, j, k]), 4, 4⟩
abbrev F.CE_PL_S_STAT_VERDICT (i : Nat) (j : Nat) (k : Nat) : Fld := ⟨(.CE_PL_S_STAT, [i, j, k]), 2, 0⟩
abbrev F.CE_PL_S_STAT_VERIFIED (i : Nat) (j : Nat) (k : Nat) : Fld := ⟨(.CE_PL_S_STAT, [i, j, k]), 3, 3⟩
abbrev F.CE_PL_WIN_HI_ADDR (i : Nat) (j : Nat) : Fld := ⟨(.CE_PL_WIN_HI, [i, j]), 2, 0⟩
abbrev F.CE_PL_WIN_HI_SIZE (i : Nat) (j : Nat) : Fld := ⟨(.CE_PL_WIN_HI, [i, j]), 28, 16⟩
abbrev F.CE_PL_WIN_LO_ADDR (i : Nat) (j : Nat) : Fld := ⟨(.CE_PL_WIN_LO, [i, j]), 31, 16⟩
abbrev F.CE_PL_WR_DENY_COUNT (i : Nat) (j : Nat) : Fld := ⟨(.CE_PL_WR_DENY, [i, j]), 15, 0⟩
abbrev F.CE_RELEASE_AT_HI_T (i : Nat) (j : Nat) : Fld := ⟨(.CE_RELEASE_AT_HI, [i, j]), 7, 0⟩
abbrev F.CE_RELEASE_AT_LO_T (i : Nat) (j : Nat) : Fld := ⟨(.CE_RELEASE_AT_LO, [i, j]), 31, 0⟩
abbrev F.CE_SAT_CNT_COUNT (i : Nat) : Fld := ⟨(.CE_SAT_CNT, [i]), 31, 0⟩
abbrev F.CE_SRAM_UNCORR_COUNT (i : Nat) : Fld := ⟨(.CE_SRAM_UNCORR, [i]), 15, 0⟩
abbrev F.CE_UNDERRUN_COUNT (i : Nat) (j : Nat) : Fld := ⟨(.CE_UNDERRUN, [i, j]), 15, 0⟩
abbrev F.CE_VINT_APP_VINTAGE (i : Nat) (j : Nat) : Fld := ⟨(.CE_VINT_APP, [i, j]), 31, 0⟩
abbrev F.CK_ADDR_HI_ADDR (i : Nat) : Fld := ⟨(.CK_ADDR_HI, [i]), 2, 0⟩
abbrev F.CK_ADDR_LO_ADDR (i : Nat) : Fld := ⟨(.CK_ADDR_LO, [i]), 31, 0⟩
abbrev F.CK_CFG_CMP (i : Nat) : Fld := ⟨(.CK_CFG, [i]), 3, 3⟩
abbrev F.CK_CFG_CONT (i : Nat) : Fld := ⟨(.CK_CFG, [i]), 2, 2⟩
abbrev F.CK_CFG_POLY (i : Nat) : Fld := ⟨(.CK_CFG, [i]), 1, 0⟩
abbrev F.CK_EXPECT_VALUE (i : Nat) : Fld := ⟨(.CK_EXPECT, [i]), 31, 0⟩
abbrev F.CK_LEN_BYTES (i : Nat) : Fld := ⟨(.CK_LEN, [i]), 24, 0⟩
abbrev F.CK_PROG_BYTES (i : Nat) : Fld := ⟨(.CK_PROG, [i]), 31, 0⟩
abbrev F.CK_RESULT_VALUE (i : Nat) : Fld := ⟨(.CK_RESULT, [i]), 31, 0⟩
abbrev F.CK_ROWS_ROWS (i : Nat) : Fld := ⟨(.CK_ROWS, [i]), 15, 0⟩
abbrev F.CK_RUN_VALUE (i : Nat) : Fld := ⟨(.CK_RUN, [i]), 31, 0⟩
abbrev F.CK_STAT_CMP (i : Nat) : Fld := ⟨(.CK_STAT, [i]), 4, 3⟩
abbrev F.CK_STAT_ERR (i : Nat) : Fld := ⟨(.CK_STAT, [i]), 2, 2⟩
abbrev F.CK_STAT_PAUSED (i : Nat) : Fld := ⟨(.CK_STAT, [i]), 5, 5⟩
abbrev F.CK_STAT_STATE (i : Nat) : Fld := ⟨(.CK_STAT, [i]), 1, 0⟩
abbrev F.CK_STRIDE_BYTES (i : Nat) : Fld := ⟨(.CK_STRIDE, [i]), 31, 0⟩
abbrev F.CL_AUTO_RESTORE_EN : Fld := ⟨(.CL_AUTO_RESTORE, []), 0, 0⟩
abbrev F.CL_CORR_COUNT : Fld := ⟨(.CL_CORR, []), 15, 0⟩
abbrev F.CL_LG_STAT_VALID (i : Nat) : Fld := ⟨(.CL_LG_STAT, [i]), 0, 0⟩
abbrev F.CL_LG_VINT_VINTAGE (i : Nat) : Fld := ⟨(.CL_LG_VINT, [i]), 31, 0⟩
abbrev F.CL_STAT_BUSY : Fld := ⟨(.CL_STAT, []), 9, 9⟩
abbrev F.CL_STAT_HEALTHY : Fld := ⟨(.CL_STAT, []), 8, 8⟩
abbrev F.CL_STAT_LAYOUT : Fld := ⟨(.CL_STAT, []), 7, 0⟩
abbrev F.CL_WEAR_PASSES (i : Nat) : Fld := ⟨(.CL_WEAR, [i]), 31, 0⟩
abbrev F.CUS_MEM_CORR_COUNT : Fld := ⟨(.CUS_MEM_CORR, []), 15, 0⟩
abbrev F.CUS_MEM_UNCORR_COUNT : Fld := ⟨(.CUS_MEM_UNCORR, []), 15, 0⟩
abbrev F.CUS_SCR_IDX_INDEX (i : Nat) : Fld := ⟨(.CUS_SCR_IDX, [i]), 17, 0⟩
abbrev F.CU_DM_IDX_INDEX (i : Nat) : Fld := ⟨(.CU_DM_IDX, [i]), 12, 0⟩
abbrev F.CU_ECAUSE_VECTOR (i : Nat) : Fld := ⟨(.CU_ECAUSE, [i]), 2, 0⟩
abbrev F.CU_EDATA_DATA (i : Nat) : Fld := ⟨(.CU_EDATA, [i]), 31, 0⟩
abbrev F.CU_ENTRY_PC (i : Nat) : Fld := ⟨(.CU_ENTRY, [i]), 13, 0⟩
abbrev F.CU_EPC_EPC (i : Nat) : Fld := ⟨(.CU_EPC, [i]), 13, 0⟩
abbrev F.CU_FLAGS_FLAGS (i : Nat) : Fld := ⟨(.CU_FLAGS, [i]), 4, 0⟩
abbrev F.CU_IMG_LEVEL (i : Nat) : Fld := ⟨(.CU_IMG, [i]), 15, 0⟩
abbrev F.CU_LATE_CNT_COUNT (i : Nat) : Fld := ⟨(.CU_LATE_CNT, [i]), 15, 0⟩
abbrev F.CU_LATE_WIN_NS (i : Nat) : Fld := ⟨(.CU_LATE_WIN, [i]), 24, 0⟩
abbrev F.CU_PC_PC (i : Nat) : Fld := ⟨(.CU_PC, [i]), 13, 0⟩
abbrev F.CU_STAT_IE (i : Nat) : Fld := ⟨(.CU_STAT, [i]), 3, 3⟩
abbrev F.CU_STAT_STATE (i : Nat) : Fld := ⟨(.CU_STAT, [i]), 1, 0⟩
abbrev F.CU_STAT_STOP (i : Nat) : Fld := ⟨(.CU_STAT, [i]), 7, 4⟩
abbrev F.CU_TRAP_CNT_COUNT (i : Nat) : Fld := ⟨(.CU_TRAP_CNT, [i]), 15, 0⟩
abbrev F.CU_TRAP_EN_ACC (i : Nat) : Fld := ⟨(.CU_TRAP_EN, [i]), 0, 0⟩
abbrev F.CU_TRAP_EN_KICK (i : Nat) : Fld := ⟨(.CU_TRAP_EN, [i]), 1, 1⟩
abbrev F.CU_VBASE_PC (i : Nat) : Fld := ⟨(.CU_VBASE, [i]), 13, 0⟩
abbrev F.DT_D_CTRL_SCALE (i : Nat) : Fld := ⟨(.DT_D_CTRL, [i]), 2, 1⟩
abbrev F.DT_D_CTRL_ZONE (i : Nat) : Fld := ⟨(.DT_D_CTRL, [i]), 7, 3⟩
abbrev F.DT_D_SIZE_SECS (i : Nat) : Fld := ⟨(.DT_D_SIZE, [i]), 17, 17⟩
abbrev F.DT_D_SIZE_SIZE (i : Nat) : Fld := ⟨(.DT_D_SIZE, [i]), 10, 0⟩
abbrev F.DT_D_SIZE_STYLE (i : Nat) : Fld := ⟨(.DT_D_SIZE, [i]), 16, 16⟩
abbrev F.DT_GLY_IDX_INDEX : Fld := ⟨(.DT_GLY_IDX, []), 19, 2⟩
abbrev F.DT_G_OFS_OFS (i : Nat) : Fld := ⟨(.DT_G_OFS, [i]), 19, 0⟩
abbrev F.DT_SRAM_CORR_COUNT : Fld := ⟨(.DT_SRAM_CORR, []), 15, 0⟩
abbrev F.DT_SRAM_UNCORR_COUNT : Fld := ⟨(.DT_SRAM_UNCORR, []), 15, 0⟩
abbrev F.DT_S_CTRL_SCALE (i : Nat) : Fld := ⟨(.DT_S_CTRL, [i]), 4, 3⟩
abbrev F.DT_S_CTRL_ZONE (i : Nat) : Fld := ⟨(.DT_S_CTRL, [i]), 9, 5⟩
abbrev F.DT_S_SIZE_H (i : Nat) : Fld := ⟨(.DT_S_SIZE, [i]), 23, 16⟩
abbrev F.DT_S_SIZE_W (i : Nat) : Fld := ⟨(.DT_S_SIZE, [i]), 13, 0⟩
abbrev F.DV_ACC_ERR_DENIED_RD : Fld := ⟨(.DV_ACC_ERR, []), 23, 16⟩
abbrev F.DV_ACC_ERR_DENIED_WR : Fld := ⟨(.DV_ACC_ERR, []), 15, 8⟩
abbrev F.DV_ACC_ERR_PARTIAL : Fld := ⟨(.DV_ACC_ERR, []), 7, 0⟩
abbrev F.DV_ACC_ERR_UNMAPPED : Fld := ⟨(.DV_ACC_ERR, []), 31, 24⟩
abbrev F.DV_BOOT_CFG_FORCE_EN : Fld := ⟨(.DV_BOOT_CFG, []), 0, 0⟩
abbrev F.DV_BOOT_CFG_FORCE_SLOT : Fld := ⟨(.DV_BOOT_CFG, []), 1, 1⟩
abbrev F.DV_BOOT_CFG_HOLD : Fld := ⟨(.DV_BOOT_CFG, []), 15, 8⟩
abbrev F.DV_BOOT_CFG_MAX_ATT : Fld := ⟨(.DV_BOOT_CFG, []), 19, 16⟩
abbrev F.DV_BOOT_STAT_ATT_A : Fld := ⟨(.DV_BOOT_STAT, []), 11, 8⟩
abbrev F.DV_BOOT_STAT_ATT_B : Fld := ⟨(.DV_BOOT_STAT, []), 15, 12⟩
abbrev F.DV_BOOT_STAT_CELLAR_OK : Fld := ⟨(.DV_BOOT_STAT, []), 2, 2⟩
abbrev F.DV_BOOT_STAT_FALLBACK : Fld := ⟨(.DV_BOOT_STAT, []), 1, 1⟩
abbrev F.DV_BOOT_STAT_MAINT : Fld := ⟨(.DV_BOOT_STAT, []), 7, 4⟩
abbrev F.DV_BOOT_STAT_RESTORED : Fld := ⟨(.DV_BOOT_STAT, []), 3, 3⟩
abbrev F.DV_BOOT_STAT_SLOT : Fld := ⟨(.DV_BOOT_STAT, []), 0, 0⟩
abbrev F.DV_BOOT_VER_VERSION : Fld := ⟨(.DV_BOOT_VER, []), 31, 0⟩
abbrev F.DV_CTRL_OPERATE : Fld := ⟨(.DV_CTRL, []), 0, 0⟩
abbrev F.DV_IFV_PLES01_PF0 : Fld := ⟨(.DV_IFV_PLES01, []), 15, 0⟩
abbrev F.DV_IFV_PLES01_PF1 : Fld := ⟨(.DV_IFV_PLES01, []), 31, 16⟩
abbrev F.DV_IFV_PLES23_PF2 : Fld := ⟨(.DV_IFV_PLES23, []), 15, 0⟩
abbrev F.DV_IFV_PLES23_PF3 : Fld := ⟨(.DV_IFV_PLES23, []), 31, 16⟩
abbrev F.DV_MBX_RESULT_CODE (i : Nat) : Fld := ⟨(.DV_MBX_RESULT, [i]), 15, 0⟩
abbrev F.DV_MBX_STAT_STATE (i : Nat) : Fld := ⟨(.DV_MBX_STAT, [i]), 1, 0⟩
abbrev F.DV_MBX_STAT_TAG (i : Nat) : Fld := ⟨(.DV_MBX_STAT, [i]), 31, 16⟩
abbrev F.DV_MBX_VEC_EN (i : Nat) : Fld := ⟨(.DV_MBX_VEC, [i]), 8, 8⟩
abbrev F.DV_MBX_VEC_VECTOR (i : Nat) : Fld := ⟨(.DV_MBX_VEC, [i]), 7, 0⟩
abbrev F.DV_MODE_MODE : Fld := ⟨(.DV_MODE, []), 3, 0⟩
abbrev F.DV_PART_PART : Fld := ⟨(.DV_PART, []), 31, 16⟩
abbrev F.DV_PART_STEPPING : Fld := ⟨(.DV_PART, []), 15, 8⟩
abbrev F.DV_RST_CAUSE_LAST : Fld := ⟨(.DV_RST_CAUSE, []), 3, 0⟩
abbrev F.DV_RST_CAUSE_WARM_CNT : Fld := ⟨(.DV_RST_CAUSE, []), 15, 8⟩
abbrev F.DV_SNAP_BASE_HI_ADDR : Fld := ⟨(.DV_SNAP_BASE_HI, []), 2, 0⟩
abbrev F.DV_SNAP_BASE_LO_ADDR : Fld := ⟨(.DV_SNAP_BASE_LO, []), 31, 12⟩
abbrev F.DV_SNAP_STAT_BUSY : Fld := ⟨(.DV_SNAP_STAT, []), 0, 0⟩
abbrev F.DV_SNAP_TAI_NS_NS : Fld := ⟨(.DV_SNAP_TAI_NS, []), 31, 0⟩
abbrev F.DV_SNAP_TAI_SH_SEC_HI : Fld := ⟨(.DV_SNAP_TAI_SH, []), 15, 0⟩
abbrev F.DV_SNAP_TAI_SL_SEC_LO : Fld := ⟨(.DV_SNAP_TAI_SL, []), 31, 0⟩
abbrev F.DV_SVC_READY_READY : Fld := ⟨(.DV_SVC_READY, []), 3, 0⟩
abbrev F.FC_CLEAR_REJ_COUNT : Fld := ⟨(.FC_CLEAR_REJ, []), 15, 0⟩
abbrev F.FC_CTRL_ALARM_EN : Fld := ⟨(.FC_CTRL, []), 0, 0⟩
abbrev F.FC_FIRST_ID_VALID : Fld := ⟨(.FC_FIRST_ID, []), 16, 16⟩
abbrev F.FC_OVF_OVF : Fld := ⟨(.FC_OVF, []), 0, 0⟩
abbrev F.GL_ABORTED_COUNT : Fld := ⟨(.GL_ABORTED, []), 15, 0⟩
abbrev F.GL_APPLIED_COUNT : Fld := ⟨(.GL_APPLIED, []), 15, 0⟩
abbrev F.GL_CID_CID : Fld := ⟨(.GL_CID, []), 31, 0⟩
abbrev F.GL_CSTAT_OUTCOME : Fld := ⟨(.GL_CSTAT, []), 2, 0⟩
abbrev F.GL_CTRL_CANDIDATE : Fld := ⟨(.GL_CTRL, []), 1, 1⟩
abbrev F.GL_CTRL_EN : Fld := ⟨(.GL_CTRL, []), 0, 0⟩
abbrev F.GL_CTRL_HOLD_OK : Fld := ⟨(.GL_CTRL, []), 6, 6⟩
abbrev F.GL_CTRL_PORTS : Fld := ⟨(.GL_CTRL, []), 5, 2⟩
abbrev F.GL_CTRL_V1_ONLY : Fld := ⟨(.GL_CTRL, []), 7, 7⟩
abbrev F.GL_GROUP_ADDR_ADDR : Fld := ⟨(.GL_GROUP_ADDR, []), 31, 0⟩
abbrev F.GL_ID_DOMAIN : Fld := ⟨(.GL_ID, []), 15, 0⟩
abbrev F.GL_ID_INDEX : Fld := ⟨(.GL_ID, []), 27, 16⟩
abbrev F.GL_MAP_LOCAL (i : Nat) : Fld := ⟨(.GL_MAP, [i]), 3, 0⟩
abbrev F.GL_MARGIN_US : Fld := ⟨(.GL_MARGIN, []), 19, 0⟩
abbrev F.GL_MEMBERS_COUNT : Fld := ⟨(.GL_MEMBERS, []), 12, 0⟩
abbrev F.GL_MISSED_COUNT : Fld := ⟨(.GL_MISSED, []), 15, 0⟩
abbrev F.GL_PATH_US : Fld := ⟨(.GL_PATH, []), 15, 0⟩
abbrev F.GL_PRIO_PRIO : Fld := ⟨(.GL_PRIO, []), 7, 0⟩
abbrev F.GL_RX_BAD_COUNT : Fld := ⟨(.GL_RX_BAD, []), 15, 0⟩
abbrev F.GL_STATE_LEADER : Fld := ⟨(.GL_STATE, []), 19, 8⟩
abbrev F.GL_STATE_ROLE : Fld := ⟨(.GL_STATE, []), 2, 0⟩
abbrev F.GL_STATE_VER : Fld := ⟨(.GL_STATE, []), 7, 4⟩
abbrev F.GL_T_HI_T : Fld := ⟨(.GL_T_HI, []), 7, 0⟩
abbrev F.GL_UDP_PORT : Fld := ⟨(.GL_UDP, []), 15, 0⟩
abbrev F.HD_BW_RESERVE_RATE (i : Nat) : Fld := ⟨(.HD_BW_RESERVE, [i]), 13, 0⟩
abbrev F.HD_COMMIT_LEAD_LINES (i : Nat) : Fld := ⟨(.HD_COMMIT_LEAD, [i]), 7, 0⟩
abbrev F.HD_CTRL_ON_AIR (i : Nat) : Fld := ⟨(.HD_CTRL, [i]), 1, 1⟩
abbrev F.HD_CTRL_RUN (i : Nat) : Fld := ⟨(.HD_CTRL, [i]), 0, 0⟩
abbrev F.HD_DEST_DP_BPC10 (i : Nat) : Fld := ⟨(.HD_DEST_DP, [i]), 11, 11⟩
abbrev F.HD_DEST_DP_EN (i : Nat) : Fld := ⟨(.HD_DEST_DP, [i]), 0, 0⟩
abbrev F.HD_DEST_DP_ENC (i : Nat) : Fld := ⟨(.HD_DEST_DP, [i]), 10, 8⟩
abbrev F.HD_DEST_DP_LANES (i : Nat) : Fld := ⟨(.HD_DEST_DP, [i]), 7, 6⟩
abbrev F.HD_DEST_DP_LRATE (i : Nat) : Fld := ⟨(.HD_DEST_DP, [i]), 5, 3⟩
abbrev F.HD_DEST_DP_PORT (i : Nat) : Fld := ⟨(.HD_DEST_DP, [i]), 2, 1⟩
abbrev F.HD_DEST_SDI_DIV (i : Nat) : Fld := ⟨(.HD_DEST_SDI, [i]), 8, 8⟩
abbrev F.HD_DEST_SDI_EN (i : Nat) : Fld := ⟨(.HD_DEST_SDI, [i]), 0, 0⟩
abbrev F.HD_DEST_SDI_FIRST (i : Nat) : Fld := ⟨(.HD_DEST_SDI, [i]), 5, 2⟩
abbrev F.HD_DEST_SDI_LINKS (i : Nat) : Fld := ⟨(.HD_DEST_SDI, [i]), 7, 6⟩
abbrev F.HD_DEST_SDI_Q3G (i : Nat) : Fld := ⟨(.HD_DEST_SDI, [i]), 9, 9⟩
abbrev F.HD_DEST_ST2_EN (i : Nat) : Fld := ⟨(.HD_DEST_ST2, [i]), 16, 16⟩
abbrev F.HD_DEST_ST2_QUEUE (i : Nat) : Fld := ⟨(.HD_DEST_ST2, [i]), 13, 0⟩
abbrev F.HD_DEST_ST_BPM (i : Nat) : Fld := ⟨(.HD_DEST_ST, [i]), 21, 21⟩
abbrev F.HD_DEST_ST_DEPTH12 (i : Nat) : Fld := ⟨(.HD_DEST_ST, [i]), 20, 20⟩
abbrev F.HD_DEST_ST_EN (i : Nat) : Fld := ⟨(.HD_DEST_ST, [i]), 16, 16⟩
abbrev F.HD_DEST_ST_QUEUE (i : Nat) : Fld := ⟨(.HD_DEST_ST, [i]), 13, 0⟩
abbrev F.HD_DEST_ST_SAMPLING (i : Nat) : Fld := ⟨(.HD_DEST_ST, [i]), 19, 17⟩
abbrev F.HD_DP_RETRAIN_COUNT (i : Nat) : Fld := ⟨(.HD_DP_RETRAIN, [i]), 15, 0⟩
abbrev F.HD_FETCH_LEAD_LINES (i : Nat) : Fld := ⟨(.HD_FETCH_LEAD, [i]), 6, 0⟩
abbrev F.HD_GROUP_GROUP (i : Nat) : Fld := ⟨(.HD_GROUP, [i]), 3, 0⟩
abbrev F.HD_IDLE_SDI_OFF (i : Nat) : Fld := ⟨(.HD_IDLE, [i]), 0, 0⟩
abbrev F.HD_PHASE_LINES (i : Nat) : Fld := ⟨(.HD_PHASE, [i]), 12, 0⟩
abbrev F.HD_PHASE_SAMPLES (i : Nat) : Fld := ⟨(.HD_PHASE, [i]), 29, 16⟩
abbrev F.HD_RASTER_FMT (i : Nat) : Fld := ⟨(.HD_RASTER, [i]), 4, 0⟩
abbrev F.HD_RASTER_RATE (i : Nat) : Fld := ⟨(.HD_RASTER, [i]), 11, 8⟩
abbrev F.HD_SAFE_CB (i : Nat) : Fld := ⟨(.HD_SAFE, [i]), 19, 10⟩
abbrev F.HD_SAFE_CR (i : Nat) : Fld := ⟨(.HD_SAFE, [i]), 9, 0⟩
abbrev F.HD_SAFE_Y (i : Nat) : Fld := ⟨(.HD_SAFE, [i]), 29, 20⟩
abbrev F.HD_STAT_EMPTY (i : Nat) : Fld := ⟨(.HD_STAT, [i]), 8, 8⟩
abbrev F.HD_STAT_START_ERR (i : Nat) : Fld := ⟨(.HD_STAT, [i]), 7, 4⟩
abbrev F.HD_STAT_STATE (i : Nat) : Fld := ⟨(.HD_STAT, [i]), 2, 0⟩
abbrev F.HQ_BASE_HI_ADDR (i : Nat) : Fld := ⟨(.HQ_BASE_HI, [i]), 31, 0⟩
abbrev F.HQ_BASE_LO_ADDR (i : Nat) : Fld := ⟨(.HQ_BASE_LO, [i]), 31, 12⟩
abbrev F.HQ_CONS_CONS (i : Nat) : Fld := ⟨(.HQ_CONS, [i]), 15, 0⟩
abbrev F.HQ_CTRL_EN (i : Nat) : Fld := ⟨(.HQ_CTRL, [i]), 0, 0⟩
abbrev F.HQ_CTRL_IRQ_EN (i : Nat) : Fld := ⟨(.HQ_CTRL, [i]), 9, 9⟩
abbrev F.HQ_CTRL_KIND (i : Nat) : Fld := ⟨(.HQ_CTRL, [i]), 2, 1⟩
abbrev F.HQ_CTRL_LOCAL (i : Nat) : Fld := ⟨(.HQ_CTRL, [i]), 7, 7⟩
abbrev F.HQ_CTRL_OWNER (i : Nat) : Fld := ⟨(.HQ_CTRL, [i]), 17, 16⟩
abbrev F.HQ_CTRL_SIZE (i : Nat) : Fld := ⟨(.HQ_CTRL, [i]), 6, 3⟩
abbrev F.HQ_CTRL_SNOOP (i : Nat) : Fld := ⟨(.HQ_CTRL, [i]), 8, 8⟩
abbrev F.HQ_CTRL_VEC (i : Nat) : Fld := ⟨(.HQ_CTRL, [i]), 31, 24⟩
abbrev F.HQ_DB_PROD (i : Nat) : Fld := ⟨(.HQ_DB, [i]), 15, 0⟩
abbrev F.HQ_DROP_COUNT (i : Nat) : Fld := ⟨(.HQ_DROP, [i]), 15, 0⟩
abbrev F.HQ_STAT_BUSY (i : Nat) : Fld := ⟨(.HQ_STAT, [i]), 4, 4⟩
abbrev F.HQ_STAT_LAST (i : Nat) : Fld := ⟨(.HQ_STAT, [i]), 3, 2⟩
abbrev F.HQ_STAT_STATE (i : Nat) : Fld := ⟨(.HQ_STAT, [i]), 1, 0⟩
abbrev F.LT_BITS_HI_COUNT (i : Nat) : Fld := ⟨(.LT_BITS_HI, [i]), 15, 0⟩
abbrev F.LT_BITS_LO_COUNT (i : Nat) : Fld := ⟨(.LT_BITS_LO, [i]), 31, 0⟩
abbrev F.LT_CFG_CHK (i : Nat) : Fld := ⟨(.LT_CFG, [i]), 6, 6⟩
abbrev F.LT_CFG_DUR (i : Nat) : Fld := ⟨(.LT_CFG, [i]), 15, 10⟩
abbrev F.LT_CFG_GEN (i : Nat) : Fld := ⟨(.LT_CFG, [i]), 5, 5⟩
abbrev F.LT_CFG_LOOP (i : Nat) : Fld := ⟨(.LT_CFG, [i]), 8, 7⟩
abbrev F.LT_CFG_RATE (i : Nat) : Fld := ⟨(.LT_CFG, [i]), 19, 16⟩
abbrev F.LT_ERRORS_COUNT (i : Nat) : Fld := ⟨(.LT_ERRORS, [i]), 31, 0⟩
abbrev F.LT_STAT_EYE_BUSY (i : Nat) : Fld := ⟨(.LT_STAT, [i]), 4, 4⟩
abbrev F.LT_STAT_STATE (i : Nat) : Fld := ⟨(.LT_STAT, [i]), 1, 0⟩
abbrev F.LT_STAT_SYNC (i : Nat) : Fld := ⟨(.LT_STAT, [i]), 2, 2⟩
abbrev F.LT_SVC_ERR_COUNT (i : Nat) : Fld := ⟨(.LT_SVC_ERR, [i]), 31, 0⟩
abbrev F.LT_SYNC_LOSS_COUNT (i : Nat) : Fld := ⟨(.LT_SYNC_LOSS, [i]), 15, 0⟩
abbrev F.NG_GCL_ADMIN_BASE_NS_NS (i : Nat) : Fld := ⟨(.NG_GCL_ADMIN_BASE_NS, [i]), 29, 0⟩
abbrev F.NG_GCL_ADMIN_BASE_SH_SEC_HI (i : Nat) : Fld := ⟨(.NG_GCL_ADMIN_BASE_SH, [i]), 15, 0⟩
abbrev F.NG_GCL_ADMIN_BASE_SL_SEC_LO (i : Nat) : Fld := ⟨(.NG_GCL_ADMIN_BASE_SL, [i]), 31, 0⟩
abbrev F.NG_GCL_ADMIN_CYCLE_NS (i : Nat) : Fld := ⟨(.NG_GCL_ADMIN_CYCLE, [i]), 29, 0⟩
abbrev F.NG_GCL_ADMIN_GATES (i : Nat) (j : Nat) : Fld := ⟨(.NG_GCL_ADMIN, [i, j]), 7, 0⟩
abbrev F.NG_GCL_ADMIN_INTERVAL (i : Nat) (j : Nat) : Fld := ⟨(.NG_GCL_ADMIN, [i, j]), 31, 8⟩
abbrev F.NG_GCL_ADMIN_LEN_LEN (i : Nat) : Fld := ⟨(.NG_GCL_ADMIN_LEN, [i]), 8, 0⟩
abbrev F.NG_GCL_OPER_BASE_NS_NS (i : Nat) : Fld := ⟨(.NG_GCL_OPER_BASE_NS, [i]), 29, 0⟩
abbrev F.NG_GCL_OPER_BASE_SH_SEC_HI (i : Nat) : Fld := ⟨(.NG_GCL_OPER_BASE_SH, [i]), 15, 0⟩
abbrev F.NG_GCL_OPER_BASE_SL_SEC_LO (i : Nat) : Fld := ⟨(.NG_GCL_OPER_BASE_SL, [i]), 31, 0⟩
abbrev F.NG_GCL_OPER_CYCLE_NS (i : Nat) : Fld := ⟨(.NG_GCL_OPER_CYCLE, [i]), 29, 0⟩
abbrev F.NG_GCL_OPER_LEN_LEN (i : Nat) : Fld := ⟨(.NG_GCL_OPER_LEN, [i]), 8, 0⟩
abbrev F.NG_GCL_STAT_CFG_ERR (i : Nat) : Fld := ⟨(.NG_GCL_STAT, [i]), 13, 10⟩
abbrev F.NG_GCL_STAT_ENTRY (i : Nat) : Fld := ⟨(.NG_GCL_STAT, [i]), 9, 2⟩
abbrev F.NG_GCL_STAT_OPER (i : Nat) : Fld := ⟨(.NG_GCL_STAT, [i]), 1, 1⟩
abbrev F.NG_GCL_STAT_PENDING (i : Nat) : Fld := ⟨(.NG_GCL_STAT, [i]), 0, 0⟩
abbrev F.NG_SDI_BUF_HI_ADDR (i : Nat) : Fld := ⟨(.NG_SDI_BUF_HI, [i]), 2, 0⟩
abbrev F.NG_SDI_BUF_HI_STRIDE (i : Nat) : Fld := ⟨(.NG_SDI_BUF_HI, [i]), 28, 16⟩
abbrev F.NG_SDI_BUF_LO_ADDR (i : Nat) : Fld := ⟨(.NG_SDI_BUF_LO, [i]), 31, 16⟩
abbrev F.NG_SDI_CRC_ERR_COUNT (i : Nat) : Fld := ⟨(.NG_SDI_CRC_ERR, [i]), 31, 0⟩
abbrev F.NG_SDI_CTRL_EN (i : Nat) : Fld := ⟨(.NG_SDI_CTRL, [i]), 0, 0⟩
abbrev F.NG_SDI_CTRL_LINKS (i : Nat) : Fld := ⟨(.NG_SDI_CTRL, [i]), 2, 1⟩
abbrev F.NG_SDI_CTRL_RING (i : Nat) : Fld := ⟨(.NG_SDI_CTRL, [i]), 9, 9⟩
abbrev F.NG_SDI_ERRS_INCOMPLETE (i : Nat) : Fld := ⟨(.NG_SDI_ERRS, [i]), 15, 0⟩
abbrev F.NG_SDI_FRAMES_COUNT (i : Nat) : Fld := ⟨(.NG_SDI_FRAMES, [i]), 31, 0⟩
abbrev F.NG_SDI_LAG_LAG (i : Nat) : Fld := ⟨(.NG_SDI_LAG, [i]), 15, 0⟩
abbrev F.NG_SDI_PID_PID (i : Nat) : Fld := ⟨(.NG_SDI_PID, [i]), 31, 0⟩
abbrev F.NG_SDI_STAT_CFG_ERR (i : Nat) : Fld := ⟨(.NG_SDI_STAT, [i]), 3, 0⟩
abbrev F.NG_SDI_STAT_LOCK (i : Nat) : Fld := ⟨(.NG_SDI_STAT, [i]), 9, 9⟩
abbrev F.NG_SDI_STAT_MISMATCH (i : Nat) : Fld := ⟨(.NG_SDI_STAT, [i]), 10, 10⟩
abbrev F.NG_SDI_STAT_NEWEST (i : Nat) : Fld := ⟨(.NG_SDI_STAT, [i]), 5, 4⟩
abbrev F.NG_SDI_STAT_WRITING (i : Nat) : Fld := ⟨(.NG_SDI_STAT, [i]), 7, 6⟩
abbrev F.NG_SDI_VIDEO_FMT (i : Nat) : Fld := ⟨(.NG_SDI_VIDEO, [i]), 4, 0⟩
abbrev F.NG_SDI_VIDEO_RATE (i : Nat) : Fld := ⟨(.NG_SDI_VIDEO, [i]), 11, 8⟩
abbrev F.NP_CTL_DROP_COUNT (i : Nat) : Fld := ⟨(.NP_CTL_DROP, [i]), 31, 0⟩
abbrev F.NP_CTRL_EN (i : Nat) : Fld := ⟨(.NP_CTRL, [i]), 0, 0⟩
abbrev F.NP_CTRL_PMD (i : Nat) : Fld := ⟨(.NP_CTRL, [i]), 3, 1⟩
abbrev F.NP_DEFAULT_EN (i : Nat) : Fld := ⟨(.NP_DEFAULT, [i]), 8, 8⟩
abbrev F.NP_DEFAULT_RING (i : Nat) : Fld := ⟨(.NP_DEFAULT, [i]), 5, 0⟩
abbrev F.NP_FEC_CORR_COUNT (i : Nat) : Fld := ⟨(.NP_FEC_CORR, [i]), 31, 0⟩
abbrev F.NP_FEC_UNCORR_COUNT (i : Nat) : Fld := ⟨(.NP_FEC_UNCORR, [i]), 31, 0⟩
abbrev F.NP_I2C_CMD_DEV (i : Nat) : Fld := ⟨(.NP_I2C_CMD, [i]), 6, 0⟩
abbrev F.NP_I2C_CMD_FAST (i : Nat) : Fld := ⟨(.NP_I2C_CMD, [i]), 18, 18⟩
abbrev F.NP_I2C_CMD_LEN (i : Nat) : Fld := ⟨(.NP_I2C_CMD, [i]), 17, 16⟩
abbrev F.NP_I2C_CMD_OFS (i : Nat) : Fld := ⟨(.NP_I2C_CMD, [i]), 15, 8⟩
abbrev F.NP_I2C_CMD_RD (i : Nat) : Fld := ⟨(.NP_I2C_CMD, [i]), 7, 7⟩
abbrev F.NP_I2C_STAT_BUSY (i : Nat) : Fld := ⟨(.NP_I2C_STAT, [i]), 0, 0⟩
abbrev F.NP_I2C_STAT_NACK (i : Nat) : Fld := ⟨(.NP_I2C_STAT, [i]), 1, 1⟩
abbrev F.NP_IPV4_ADDR (i : Nat) : Fld := ⟨(.NP_IPV4, [i]), 31, 0⟩
abbrev F.NP_LATE_TOL_NS (i : Nat) : Fld := ⟨(.NP_LATE_TOL, [i]), 19, 0⟩
abbrev F.NP_LINK_DOWN_COUNT (i : Nat) : Fld := ⟨(.NP_LINK_DOWN, [i]), 15, 0⟩
abbrev F.NP_MAC_HI_MAC (i : Nat) : Fld := ⟨(.NP_MAC_HI, [i]), 15, 0⟩
abbrev F.NP_MAC_LO_MAC (i : Nat) : Fld := ⟨(.NP_MAC_LO, [i]), 31, 0⟩
abbrev F.NP_MEDIA_RATE_RATE (i : Nat) : Fld := ⟨(.NP_MEDIA_RATE, [i]), 23, 0⟩
abbrev F.NP_NQ_OVERHEAD_BYTES (i : Nat) : Fld := ⟨(.NP_NQ_OVERHEAD, [i]), 7, 0⟩
abbrev F.NP_RX_CFG_MTU (i : Nat) : Fld := ⟨(.NP_RX_CFG, [i]), 13, 0⟩
abbrev F.NP_RX_CFG_VID (i : Nat) : Fld := ⟨(.NP_RX_CFG, [i]), 27, 16⟩
abbrev F.NP_RX_CFG_VLAN (i : Nat) : Fld := ⟨(.NP_RX_CFG, [i]), 15, 14⟩
abbrev F.NP_RX_FCS_COUNT (i : Nat) : Fld := ⟨(.NP_RX_FCS, [i]), 31, 0⟩
abbrev F.NP_RX_FILTERED_COUNT (i : Nat) : Fld := ⟨(.NP_RX_FILTERED, [i]), 31, 0⟩
abbrev F.NP_RX_FRAMES_COUNT (i : Nat) : Fld := ⟨(.NP_RX_FRAMES, [i]), 31, 0⟩
abbrev F.NP_RX_LEN_COUNT (i : Nat) : Fld := ⟨(.NP_RX_LEN, [i]), 31, 0⟩
abbrev F.NP_RX_NODEST_COUNT (i : Nat) : Fld := ⟨(.NP_RX_NODEST, [i]), 31, 0⟩
abbrev F.NP_STAT_LINK (i : Nat) : Fld := ⟨(.NP_STAT, [i]), 0, 0⟩
abbrev F.NP_STAT_MOD_INT (i : Nat) : Fld := ⟨(.NP_STAT, [i]), 2, 2⟩
abbrev F.NP_STAT_MOD_PRESENT (i : Nat) : Fld := ⟨(.NP_STAT, [i]), 1, 1⟩
abbrev F.NP_TX_ACTIVE_COUNT (i : Nat) : Fld := ⟨(.NP_TX_ACTIVE, [i]), 14, 0⟩
abbrev F.NP_TX_ACTIVE_HWM (i : Nat) : Fld := ⟨(.NP_TX_ACTIVE, [i]), 31, 31⟩
abbrev F.NP_TX_DOWN_DROP_COUNT (i : Nat) : Fld := ⟨(.NP_TX_DOWN_DROP, [i]), 31, 0⟩
abbrev F.NP_TX_FRAMES_COUNT (i : Nat) : Fld := ⟨(.NP_TX_FRAMES, [i]), 31, 0⟩
abbrev F.NP_TX_LATE_DROP_COUNT (i : Nat) : Fld := ⟨(.NP_TX_LATE_DROP, [i]), 31, 0⟩
abbrev F.NP_TX_OVERSIZE_COUNT (i : Nat) : Fld := ⟨(.NP_TX_OVERSIZE, [i]), 31, 0⟩
abbrev F.NQ_BURST_BYTES (i : Nat) : Fld := ⟨(.NQ_BURST, [i]), 23, 0⟩
abbrev F.NQ_CTRL_CLASS (i : Nat) : Fld := ⟨(.NQ_CTRL, [i]), 2, 1⟩
abbrev F.NQ_CTRL_EN (i : Nat) : Fld := ⟨(.NQ_CTRL, [i]), 0, 0⟩
abbrev F.NQ_CTRL_GATE (i : Nat) : Fld := ⟨(.NQ_CTRL, [i]), 12, 10⟩
abbrev F.NQ_CTRL_LAUNCH (i : Nat) : Fld := ⟨(.NQ_CTRL, [i]), 9, 7⟩
abbrev F.NQ_CTRL_PORT (i : Nat) : Fld := ⟨(.NQ_CTRL, [i]), 4, 3⟩
abbrev F.NQ_CTRL_SRC (i : Nat) : Fld := ⟨(.NQ_CTRL, [i]), 6, 5⟩
abbrev F.NQ_CTRL_TARGET (i : Nat) : Fld := ⟨(.NQ_CTRL, [i]), 21, 16⟩
abbrev F.NQ_CTRL_TS (i : Nat) : Fld := ⟨(.NQ_CTRL, [i]), 13, 13⟩
abbrev F.NQ_FRAMES_COUNT (i : Nat) : Fld := ⟨(.NQ_FRAMES, [i]), 31, 0⟩
abbrev F.NQ_LATE_DROP_COUNT (i : Nat) : Fld := ⟨(.NQ_LATE_DROP, [i]), 31, 0⟩
abbrev F.NQ_LATE_SENT_COUNT (i : Nat) : Fld := ⟨(.NQ_LATE_SENT, [i]), 31, 0⟩
abbrev F.NQ_MODEL_TRO (i : Nat) : Fld := ⟨(.NQ_MODEL, [i]), 16, 4⟩
abbrev F.NQ_MODEL_TYPE (i : Nat) : Fld := ⟨(.NQ_MODEL, [i]), 1, 0⟩
abbrev F.NQ_OBS_DELAY_NS (i : Nat) : Fld := ⟨(.NQ_OBS_DELAY, [i]), 31, 0⟩
abbrev F.NQ_OBS_DEPTH_DEPTH (i : Nat) : Fld := ⟨(.NQ_OBS_DEPTH, [i]), 15, 0⟩
abbrev F.NQ_OBS_DEPTH_HWM (i : Nat) : Fld := ⟨(.NQ_OBS_DEPTH, [i]), 31, 31⟩
abbrev F.NQ_OVERSIZE_COUNT (i : Nat) : Fld := ⟨(.NQ_OVERSIZE, [i]), 15, 0⟩
abbrev F.NQ_PAYLOAD_OCTETS (i : Nat) : Fld := ⟨(.NQ_PAYLOAD, [i]), 10, 0⟩
abbrev F.NQ_PERIOD_UNITS (i : Nat) : Fld := ⟨(.NQ_PERIOD, [i]), 31, 0⟩
abbrev F.NQ_PHASE_UNITS (i : Nat) : Fld := ⟨(.NQ_PHASE, [i]), 31, 0⟩
abbrev F.NQ_QUANTUM_BYTES (i : Nat) : Fld := ⟨(.NQ_QUANTUM, [i]), 15, 0⟩
abbrev F.NQ_RATE_RATE (i : Nat) : Fld := ⟨(.NQ_RATE, [i]), 23, 0⟩
abbrev F.NQ_STAT_BACKLOG (i : Nat) : Fld := ⟨(.NQ_STAT, [i]), 4, 4⟩
abbrev F.NQ_STAT_CFG_ERR (i : Nat) : Fld := ⟨(.NQ_STAT, [i]), 3, 0⟩
abbrev F.NQ_STAT_TAG (i : Nat) : Fld := ⟨(.NQ_STAT, [i]), 31, 16⟩
abbrev F.NR_BUF_HI_ADDR (i : Nat) : Fld := ⟨(.NR_BUF_HI, [i]), 2, 0⟩
abbrev F.NR_BUF_HI_STRIDE (i : Nat) : Fld := ⟨(.NR_BUF_HI, [i]), 28, 16⟩
abbrev F.NR_BUF_LO_ADDR (i : Nat) : Fld := ⟨(.NR_BUF_LO, [i]), 31, 16⟩
abbrev F.NR_CTRL_EN (i : Nat) : Fld := ⟨(.NR_CTRL, [i]), 0, 0⟩
abbrev F.NR_CTRL_PORTS (i : Nat) : Fld := ⟨(.NR_CTRL, [i]), 7, 4⟩
abbrev F.NR_CTRL_RING (i : Nat) : Fld := ⟨(.NR_CTRL, [i]), 9, 9⟩
abbrev F.NR_CTRL_SRC_MATCH (i : Nat) : Fld := ⟨(.NR_CTRL, [i]), 8, 8⟩
abbrev F.NR_CTRL_STEER (i : Nat) : Fld := ⟨(.NR_CTRL, [i]), 3, 1⟩
abbrev F.NR_DST_IP_ADDR (i : Nat) : Fld := ⟨(.NR_DST_IP, [i]), 31, 0⟩
abbrev F.NR_ERRS_INCOMPLETE (i : Nat) : Fld := ⟨(.NR_ERRS, [i]), 15, 0⟩
abbrev F.NR_ERRS_MISSING (i : Nat) : Fld := ⟨(.NR_ERRS, [i]), 31, 16⟩
abbrev F.NR_FRAMES_COUNT (i : Nat) : Fld := ⟨(.NR_FRAMES, [i]), 31, 0⟩
abbrev F.NR_LAG_LAG (i : Nat) : Fld := ⟨(.NR_LAG, [i]), 15, 0⟩
abbrev F.NR_PKTS_COUNT (i : Nat) : Fld := ⟨(.NR_PKTS, [i]), 31, 0⟩
abbrev F.NR_POL_BURST_UNITS (i : Nat) : Fld := ⟨(.NR_POL_BURST, [i]), 15, 0⟩
abbrev F.NR_POL_DROP_COUNT (i : Nat) : Fld := ⟨(.NR_POL_DROP, [i]), 31, 0⟩
abbrev F.NR_POL_RATE_MBPS (i : Nat) : Fld := ⟨(.NR_POL_RATE, [i]), 16, 0⟩
abbrev F.NR_SRC_IP_ADDR (i : Nat) : Fld := ⟨(.NR_SRC_IP, [i]), 31, 0⟩
abbrev F.NR_STAT_CFG_ERR (i : Nat) : Fld := ⟨(.NR_STAT, [i]), 3, 0⟩
abbrev F.NR_STAT_NEWEST (i : Nat) : Fld := ⟨(.NR_STAT, [i]), 5, 4⟩
abbrev F.NR_STAT_WRITING (i : Nat) : Fld := ⟨(.NR_STAT, [i]), 7, 6⟩
abbrev F.NR_UDP_DPORT (i : Nat) : Fld := ⟨(.NR_UDP, [i]), 15, 0⟩
abbrev F.NR_UDP_TARGET (i : Nat) : Fld := ⟨(.NR_UDP, [i]), 29, 16⟩
abbrev F.NR_VIDEO_DEPTH12 (i : Nat) : Fld := ⟨(.NR_VIDEO, [i]), 15, 15⟩
abbrev F.NR_VIDEO_FMT (i : Nat) : Fld := ⟨(.NR_VIDEO, [i]), 4, 0⟩
abbrev F.NR_VIDEO_RATE (i : Nat) : Fld := ⟨(.NR_VIDEO, [i]), 11, 8⟩
abbrev F.NR_VIDEO_SAMPLING (i : Nat) : Fld := ⟨(.NR_VIDEO, [i]), 14, 12⟩
abbrev F.PS_CTRL_AUTO_GATE : Fld := ⟨(.PS_CTRL, []), 0, 0⟩
abbrev F.PS_DOMAINS_ENGINES : Fld := ⟨(.PS_DOMAINS, []), 7, 0⟩
abbrev F.PS_DOMAINS_HBM : Fld := ⟨(.PS_DOMAINS, []), 8, 8⟩
abbrev F.PS_HOLD_SEC : Fld := ⟨(.PS_HOLD, []), 7, 0⟩
abbrev F.PS_LIMITS_DEVICE : Fld := ⟨(.PS_LIMITS, []), 11, 0⟩
abbrev F.PS_LIMITS_INPUT : Fld := ⟨(.PS_LIMITS, []), 27, 16⟩
abbrev F.PS_POWER_DEVICE : Fld := ⟨(.PS_POWER, []), 11, 0⟩
abbrev F.PS_POWER_INPUT : Fld := ⟨(.PS_POWER, []), 27, 16⟩
abbrev F.PS_RAIL_STAT_FAULT (i : Nat) : Fld := ⟨(.PS_RAIL_STAT, [i]), 1, 1⟩
abbrev F.PS_RAIL_STAT_GOOD (i : Nat) : Fld := ⟨(.PS_RAIL_STAT, [i]), 0, 0⟩
abbrev F.PS_RAIL_STAT_NO_ACK (i : Nat) : Fld := ⟨(.PS_RAIL_STAT, [i]), 2, 2⟩
abbrev F.PS_SHED_HEADS : Fld := ⟨(.PS_SHED, []), 31, 16⟩
abbrev F.PS_SHED_PORTS : Fld := ⟨(.PS_SHED, []), 7, 4⟩
abbrev F.PS_SHED_SP : Fld := ⟨(.PS_SHED, []), 3, 3⟩
abbrev F.PS_SHED_STEP : Fld := ⟨(.PS_SHED, []), 2, 0⟩
abbrev F.PS_SP_FLOOR_FLOOR : Fld := ⟨(.PS_SP_FLOOR, []), 9, 0⟩
abbrev F.PS_TEMP_T (i : Nat) : Fld := ⟨(.PS_TEMP, [i]), 11, 0⟩
abbrev F.PS_THERM_HBM_WARN : Fld := ⟨(.PS_THERM, []), 23, 16⟩
abbrev F.PS_THERM_HYST : Fld := ⟨(.PS_THERM, []), 15, 8⟩
abbrev F.PS_THERM_WARN : Fld := ⟨(.PS_THERM, []), 7, 0⟩
abbrev F.RF_CTRL_SAVE : Fld := ⟨(.RF_CTRL, []), 0, 0⟩
abbrev F.RF_CTRL_TB_IN : Fld := ⟨(.RF_CTRL, []), 1, 1⟩
abbrev F.RF_CTRL_TB_LTC : Fld := ⟨(.RF_CTRL, []), 2, 2⟩
abbrev F.RF_DARS_CTRL_EN (i : Nat) : Fld := ⟨(.RF_DARS_CTRL, [i]), 0, 0⟩
abbrev F.RF_IN_CTRL_AUTO (i : Nat) : Fld := ⟨(.RF_IN_CTRL, [i]), 1, 1⟩
abbrev F.RF_IN_CTRL_EN (i : Nat) : Fld := ⟨(.RF_IN_CTRL, [i]), 0, 0⟩
abbrev F.RF_IN_CTRL_STD (i : Nat) : Fld := ⟨(.RF_IN_CTRL, [i]), 7, 4⟩
abbrev F.RF_IN_LOSS_COUNT (i : Nat) : Fld := ⟨(.RF_IN_LOSS, [i]), 15, 0⟩
abbrev F.RF_IN_PHASE_PHASE (i : Nat) : Fld := ⟨(.RF_IN_PHASE, [i]), 31, 0⟩
abbrev F.RF_IN_STAT_DET_STD (i : Nat) : Fld := ⟨(.RF_IN_STAT, [i]), 7, 4⟩
abbrev F.RF_IN_STAT_FREQ (i : Nat) : Fld := ⟨(.RF_IN_STAT, [i]), 31, 16⟩
abbrev F.RF_JAM_SEC : Fld := ⟨(.RF_JAM, []), 16, 0⟩
abbrev F.RF_LTCIN_CTRL_EN (i : Nat) : Fld := ⟨(.RF_LTCIN_CTRL, [i]), 0, 0⟩
abbrev F.RF_LTCIN_CTRL_RATE (i : Nat) : Fld := ⟨(.RF_LTCIN_CTRL, [i]), 3, 1⟩
abbrev F.RF_LTCIN_ZONE_SEC (i : Nat) : Fld := ⟨(.RF_LTCIN_ZONE, [i]), 31, 0⟩
abbrev F.RF_LTCOUT_CTRL_EN (i : Nat) : Fld := ⟨(.RF_LTCOUT_CTRL, [i]), 0, 0⟩
abbrev F.RF_LTCOUT_CTRL_RATE (i : Nat) : Fld := ⟨(.RF_LTCOUT_CTRL, [i]), 3, 1⟩
abbrev F.RF_LTCOUT_CTRL_SCALE (i : Nat) : Fld := ⟨(.RF_LTCOUT_CTRL, [i]), 5, 4⟩
abbrev F.RF_LTCOUT_CTRL_UBITS (i : Nat) : Fld := ⟨(.RF_LTCOUT_CTRL, [i]), 7, 6⟩
abbrev F.RF_LTCOUT_CTRL_ZONE (i : Nat) : Fld := ⟨(.RF_LTCOUT_CTRL, [i]), 12, 8⟩
abbrev F.RF_OUT_CTRL_EN (i : Nat) : Fld := ⟨(.RF_OUT_CTRL, [i]), 0, 0⟩
abbrev F.RF_OUT_CTRL_NO_SETUP (i : Nat) : Fld := ⟨(.RF_OUT_CTRL, [i]), 2, 2⟩
abbrev F.RF_OUT_CTRL_STD (i : Nat) : Fld := ⟨(.RF_OUT_CTRL, [i]), 7, 4⟩
abbrev F.RF_OUT_CTRL_STEP_MUTE (i : Nat) : Fld := ⟨(.RF_OUT_CTRL, [i]), 1, 1⟩
abbrev F.RF_PPSIN_COMP_DELAY : Fld := ⟨(.RF_PPSIN_COMP, []), 31, 0⟩
abbrev F.RF_PPS_CTRL_IN_EN : Fld := ⟨(.RF_PPS_CTRL, []), 0, 0⟩
abbrev F.RF_PPS_CTRL_OUT_EN : Fld := ⟨(.RF_PPS_CTRL, []), 1, 1⟩
abbrev F.RF_PPS_CTRL_QUAL : Fld := ⟨(.RF_PPS_CTRL, []), 3, 2⟩
abbrev F.RF_PPS_CTRL_TEN_OUT : Fld := ⟨(.RF_PPS_CTRL, []), 4, 4⟩
abbrev F.RF_PPS_CTRL_TOD_IN : Fld := ⟨(.RF_PPS_CTRL, []), 5, 5⟩
abbrev F.RF_PPS_CTRL_TOD_OUT : Fld := ⟨(.RF_PPS_CTRL, []), 6, 6⟩
abbrev F.RF_PPS_WIDTH_MS : Fld := ⟨(.RF_PPS_WIDTH, []), 7, 0⟩
abbrev F.SL_CTRL_STREAM_EN : Fld := ⟨(.SL_CTRL, []), 0, 0⟩
abbrev F.SL_LOST_COUNT : Fld := ⟨(.SL_LOST, []), 31, 0⟩
abbrev F.SL_RD_SEQ_HI_SEQ : Fld := ⟨(.SL_RD_SEQ_HI, []), 15, 0⟩
abbrev F.SL_RD_SEQ_LO_SEQ : Fld := ⟨(.SL_RD_SEQ_LO, []), 31, 0⟩
abbrev F.SL_RD_STAT_VALID : Fld := ⟨(.SL_RD_STAT, []), 0, 0⟩
abbrev F.SL_STREAM_BASE_HI_ADDR : Fld := ⟨(.SL_STREAM_BASE_HI, []), 31, 0⟩
abbrev F.SL_STREAM_BASE_LO_ADDR : Fld := ⟨(.SL_STREAM_BASE_LO, []), 31, 12⟩
abbrev F.SL_STREAM_CFG_HOST : Fld := ⟨(.SL_STREAM_CFG, []), 5, 5⟩
abbrev F.SL_STREAM_CFG_PF : Fld := ⟨(.SL_STREAM_CFG, []), 7, 6⟩
abbrev F.SL_STREAM_CFG_SIZE : Fld := ⟨(.SL_STREAM_CFG, []), 4, 0⟩
abbrev F.SL_STREAM_CFG_SNOOP : Fld := ⟨(.SL_STREAM_CFG, []), 8, 8⟩
abbrev F.SL_STREAM_LOST_COUNT : Fld := ⟨(.SL_STREAM_LOST, []), 31, 0⟩
abbrev F.SL_STREAM_RD_COUNT : Fld := ⟨(.SL_STREAM_RD, []), 31, 0⟩
abbrev F.SL_STREAM_WR_COUNT : Fld := ⟨(.SL_STREAM_WR, []), 31, 0⟩
abbrev F.SPP_CAP_C (i : Nat) : Fld := ⟨(.SPP_CAP, [i]), 11, 0⟩
abbrev F.SPP_CTRL_DATA (i : Nat) : Fld := ⟨(.SPP_CTRL, [i]), 1, 1⟩
abbrev F.SPP_CTRL_EN (i : Nat) : Fld := ⟨(.SPP_CTRL, [i]), 0, 0⟩
abbrev F.SPP_CTRL_UPDATE (i : Nat) : Fld := ⟨(.SPP_CTRL, [i]), 3, 2⟩
abbrev F.SPP_HEAD_CAP_H (i : Nat) : Fld := ⟨(.SPP_HEAD_CAP, [i]), 15, 9⟩
abbrev F.SPP_HEAD_CAP_VERSIONS (i : Nat) : Fld := ⟨(.SPP_HEAD_CAP, [i]), 18, 16⟩
abbrev F.SPP_HEAD_CAP_W (i : Nat) : Fld := ⟨(.SPP_HEAD_CAP, [i]), 8, 0⟩
abbrev F.SPP_LIMITS_BUDGET (i : Nat) : Fld := ⟨(.SPP_LIMITS, [i]), 7, 0⟩
abbrev F.SPP_LIMITS_I2T (i : Nat) : Fld := ⟨(.SPP_LIMITS, [i]), 17, 8⟩
abbrev F.SPP_LIMITS_MAX_TRIPS (i : Nat) : Fld := ⟨(.SPP_LIMITS, [i]), 29, 26⟩
abbrev F.SPP_LIMITS_RETRY (i : Nat) : Fld := ⟨(.SPP_LIMITS, [i]), 25, 18⟩
abbrev F.SPP_LINK_ERR_ERRORS (i : Nat) : Fld := ⟨(.SPP_LINK_ERR, [i]), 15, 0⟩
abbrev F.SPP_LINK_ERR_HOLDS (i : Nat) : Fld := ⟨(.SPP_LINK_ERR, [i]), 31, 16⟩
abbrev F.SPP_MAP_ITEM (i : Nat) : Fld := ⟨(.SPP_MAP, [i]), 8, 0⟩
abbrev F.SPP_MAP_ITEM_EN (i : Nat) : Fld := ⟨(.SPP_MAP, [i]), 9, 9⟩
abbrev F.SPP_MAP_TALLY (i : Nat) : Fld := ⟨(.SPP_MAP, [i]), 16, 10⟩
abbrev F.SPP_MEAS_I (i : Nat) : Fld := ⟨(.SPP_MEAS, [i]), 11, 0⟩
abbrev F.SPP_MEAS_V (i : Nat) : Fld := ⟨(.SPP_MEAS, [i]), 27, 16⟩
abbrev F.SPP_POWER_I2T_ACC (i : Nat) : Fld := ⟨(.SPP_POWER, [i]), 31, 16⟩
abbrev F.SPP_POWER_MEAN (i : Nat) : Fld := ⟨(.SPP_POWER, [i]), 11, 0⟩
abbrev F.SPP_STAT_CAUSE (i : Nat) : Fld := ⟨(.SPP_STAT, [i]), 5, 3⟩
abbrev F.SPP_STAT_GATE_FAULT (i : Nat) : Fld := ⟨(.SPP_STAT, [i]), 14, 14⟩
abbrev F.SPP_STAT_HOLD (i : Nat) : Fld := ⟨(.SPP_STAT, [i]), 9, 9⟩
abbrev F.SPP_STAT_LINK (i : Nat) : Fld := ⟨(.SPP_STAT, [i]), 8, 8⟩
abbrev F.SPP_STAT_MAP_ERR (i : Nat) : Fld := ⟨(.SPP_STAT, [i]), 15, 15⟩
abbrev F.SPP_STAT_STATE (i : Nat) : Fld := ⟨(.SPP_STAT, [i]), 2, 0⟩
abbrev F.SPP_STAT_TRIPS (i : Nat) : Fld := ⟨(.SPP_STAT, [i]), 13, 10⟩
abbrev F.SPP_STAT_VER (i : Nat) : Fld := ⟨(.SPP_STAT, [i]), 7, 6⟩
abbrev F.SPP_TALLY_OFF_RGB (i : Nat) : Fld := ⟨(.SPP_TALLY_OFF, [i]), 23, 0⟩
abbrev F.SPP_TALLY_ON_RGB (i : Nat) : Fld := ⟨(.SPP_TALLY_ON, [i]), 23, 0⟩
abbrev F.SPP_TRIPS_COUNT (i : Nat) : Fld := ⟨(.SPP_TRIPS, [i]), 15, 0⟩
abbrev F.SP_CTRL_SAVE : Fld := ⟨(.SP_CTRL, []), 0, 0⟩
abbrev F.SP_LOOP_GRANT : Fld := ⟨(.SP_LOOP, []), 9, 0⟩
abbrev F.SP_LOOP_MAX_LIMIT : Fld := ⟨(.SP_LOOP_MAX, []), 9, 0⟩
abbrev F.SP_LOOP_MEAN : Fld := ⟨(.SP_LOOP, []), 25, 16⟩
abbrev F.SP_VSUP_V : Fld := ⟨(.SP_VSUP, []), 11, 0⟩
abbrev F.TB_ASYM_ASYM (i : Nat) : Fld := ⟨(.TB_ASYM, [i]), 31, 0⟩
abbrev F.TB_CLAMP_COUNT : Fld := ⟨(.TB_CLAMP, []), 15, 0⟩
abbrev F.TB_CTRL_FIRST_STEP : Fld := ⟨(.TB_CTRL, []), 2, 2⟩
abbrev F.TB_CTRL_REVERT : Fld := ⟨(.TB_CTRL, []), 1, 1⟩
abbrev F.TB_CTRL_SERVO_OWN : Fld := ⟨(.TB_CTRL, []), 0, 0⟩
abbrev F.TB_HOLD_AVG_SEC : Fld := ⟨(.TB_HOLD_AVG, []), 15, 0⟩
abbrev F.TB_HOLD_MAX_SEC : Fld := ⟨(.TB_HOLD_MAX, []), 31, 0⟩
abbrev F.TB_INC_HI_INT : Fld := ⟨(.TB_INC_HI, []), 7, 0⟩
abbrev F.TB_INC_LO_FRAC : Fld := ⟨(.TB_INC_LO, []), 31, 0⟩
abbrev F.TB_INC_NOM_HI_INT : Fld := ⟨(.TB_INC_NOM_HI, []), 7, 0⟩
abbrev F.TB_INC_NOM_LO_FRAC : Fld := ⟨(.TB_INC_NOM_LO, []), 31, 0⟩
abbrev F.TB_INC_REQ_HI_INT : Fld := ⟨(.TB_INC_REQ_HI, []), 7, 0⟩
abbrev F.TB_INC_REQ_LO_FRAC : Fld := ⟨(.TB_INC_REQ_LO, []), 31, 0⟩
abbrev F.TB_LEAP_AT_SEC : Fld := ⟨(.TB_LEAP_AT, []), 31, 0⟩
abbrev F.TB_LOCK_THRESH_NS : Fld := ⟨(.TB_LOCK_THRESH, []), 15, 0⟩
abbrev F.TB_LOCK_TIME_SEC : Fld := ⟨(.TB_LOCK_TIME, []), 7, 0⟩
abbrev F.TB_MAX_SLEW_PPB : Fld := ⟨(.TB_MAX_SLEW, []), 16, 0⟩
abbrev F.TB_OWNER_CLASS : Fld := ⟨(.TB_OWNER, []), 7, 0⟩
abbrev F.TB_OWNER_DETAIL : Fld := ⟨(.TB_OWNER, []), 23, 8⟩
abbrev F.TB_OWNER_EN : Fld := ⟨(.TB_OWNER, []), 24, 24⟩
abbrev F.TB_SRC_PRIO_P0 : Fld := ⟨(.TB_SRC_PRIO, []), 1, 0⟩
abbrev F.TB_SRC_PRIO_P1 : Fld := ⟨(.TB_SRC_PRIO, []), 3, 2⟩
abbrev F.TB_SRC_PRIO_P2 : Fld := ⟨(.TB_SRC_PRIO, []), 5, 4⟩
abbrev F.TB_STATE_FIRST_LOCK : Fld := ⟨(.TB_STATE, []), 8, 8⟩
abbrev F.TB_STATE_PLL_LOCK : Fld := ⟨(.TB_STATE, []), 10, 10⟩
abbrev F.TB_STATE_RESTEP_PEND : Fld := ⟨(.TB_STATE, []), 9, 9⟩
abbrev F.TB_STATE_SRC : Fld := ⟨(.TB_STATE, []), 6, 4⟩
abbrev F.TB_STATE_STATE : Fld := ⟨(.TB_STATE, []), 3, 0⟩
abbrev F.TB_STEP_CNT_COUNT : Fld := ⟨(.TB_STEP_CNT, []), 15, 0⟩
abbrev F.TB_STEP_THRESH_NS : Fld := ⟨(.TB_STEP_THRESH, []), 31, 0⟩
abbrev F.TB_TSC_RX_DELAY (i : Nat) : Fld := ⟨(.TB_TSC_RX, [i]), 31, 0⟩
abbrev F.TB_TSC_TX_DELAY (i : Nat) : Fld := ⟨(.TB_TSC_TX, [i]), 31, 0⟩
abbrev F.TB_TSQ_DEPTH_LOST (i : Nat) : Fld := ⟨(.TB_TSQ_DEPTH, [i]), 15, 8⟩
abbrev F.TB_UTC_LEAP59 : Fld := ⟨(.TB_UTC, []), 17, 17⟩
abbrev F.TB_UTC_LEAP61 : Fld := ⟨(.TB_UTC, []), 16, 16⟩
abbrev F.TB_UTC_OFS : Fld := ⟨(.TB_UTC, []), 15, 0⟩
abbrev F.TB_UTC_VALID : Fld := ⟨(.TB_UTC, []), 18, 18⟩

end Sys2Proof.Machine
end

