-- ==== Sys2Proof/Machine/HeadOps.lean ====
section
/-! DEFINITION. Rasters (R146, R147), the position of a head (R125, R126, R148), head states and head events (R166, R296,
R304), and the device mode (R67, R71). -/

namespace Sys2Proof.Machine

/-! ### Rasters -/

/-- Samples per line of 1080-line rasters by rate code (R146). -/
def s1080 (rate : Nat) : Nat :=
  if rate ∈ [0, 1, 5, 6] then 2750 else if rate ∈ [2, 7, 10] then 2640 else 2200

/-- S of a raster and rate of R146; none for any other combination. -/
def rasterS (fmt rate : Nat) : Option Nat :=
  match fmt with
  | 1 => if rate = 7 then some 1980 else if rate = 8 ∨ rate = 9 then some 1650 else none
  | 2 => if rate ∈ [2, 3, 4] then some (s1080 rate) else none
  | 3 => if rate ≤ 4 then some (s1080 rate) else none
  | 4 => if rate ≤ 12 then some (s1080 rate) else none
  | 5 => if rate ≤ 12 then some (2 * s1080 rate) else none
  | 6 => if rate ≤ 9 then some (4 * s1080 rate) else none
  | _ => none

/-- T of a raster (R146). -/
def rasterT (fmt : Nat) : Nat := if fmt = 1 then 750 else if fmt = 5 then 2250 else if fmt = 6 then 4500 else 1125

/-- Active width and height of a raster (R146). -/
def rasterActive (fmt : Nat) : Nat × Nat :=
  if fmt = 1 then (1280, 720) else if fmt = 5 then (3840, 2160) else if fmt = 6 then (7680, 4320) else (1920, 1080)

/-- The first active line of a unit (a frame, or a field or segment): the table of R353. -/
def firstActive (fmt : Nat) : Nat :=
  if fmt = 1 then 26 else if fmt = 2 ∨ fmt = 3 then 21 else if fmt = 5 then 84 else if fmt = 6 then 168 else 42

/-- The active row that a line of the frame carries, row 0 first; none for a blanking line. On 1080i and 1080PsF field 1
carries the even rows and field 2, which begins at line 564, the odd rows. -/
def activeRow (fmt line : Nat) : Option Nat :=
  let f := firstActive fmt
  let h := (rasterActive fmt).2
  if fmt = 2 ∨ fmt = 3 then
    if f ≤ line ∧ line < f + h / 2 then some (2 * (line - f))
    else if 563 + f ≤ line ∧ line < 563 + f + h / 2 then some (2 * (line - 563 - f) + 1)
    else none
  else if f ≤ line ∧ line < f + h then some (line - f) else none

/-- The frame rate N / D of a rate code (R146). -/
def rateND (rate : Nat) : Nat × Nat :=
  match rate with
  | 0 => (24000, 1001) | 1 => (24, 1) | 2 => (25, 1) | 3 => (30000, 1001) | 4 => (30, 1) | 5 => (48000, 1001) | 6 => (48, 1)
  | 7 => (50, 1) | 8 => (60000, 1001) | 9 => (60, 1) | 10 => (100, 1) | 11 => (120000, 1001) | _ => (120, 1)

/-- The family of a rate code (R146): the base rate to which it belongs. -/
def rateFamily (rate : Nat) : Nat :=
  if rate ∈ [0, 5] then 2398 else if rate ∈ [1, 6] then 24 else if rate ∈ [2, 7, 10] then 25
  else if rate ∈ [3, 8, 11] then 2997 else 30

/-- Two fields or segments to the frame. -/
def interlaced (fmt : Nat) : Bool := fmt == 2 || fmt == 3

/-- FMT and RATE of head n. -/
def State.fmt (s : State) (n : Nat) : Nat := s.get (F.HD_RASTER_FMT n)

def State.rate (s : State) (n : Nat) : Nat := s.get (F.HD_RASTER_RATE n)

/-- The raster of head n: S, T, N and D; none if HDn_RASTER holds none of R146. -/
def State.raster (s : State) (n : Nat) : Option (Nat × Nat × Nat × Nat) :=
  (rasterS (s.fmt n) (s.rate n)).map fun sl => (sl, rasterT (s.fmt n), (rateND (s.rate n)).1, (rateND (s.rate n)).2)

/-! ### Position -/

/-- The count in units of 2^-32 ns. -/
def unitsOf (t : Stamp) : Nat := (t.sec * 1000000000 + t.ns) * 2 ^ 32 + t.frac

/-- Units of 2^-32 ns in a second. -/
def secUnits : Nat := 1000000000 * 2 ^ 32

/-- The stamp of a count in units of 2^-32 ns. -/
def ofUnits (u : Nat) : Stamp :=
  ⟨u / 2 ^ 32 / 1000000000, u / 2 ^ 32 % 1000000000, u % 2 ^ 32⟩

/-- The delay of head n in samples (R147). -/
def State.delay (s : State) (n sl : Nat) : Nat := s.get (F.HD_PHASE_LINES n) * sl + s.get (F.HD_PHASE_SAMPLES n)

/-- The samples since the epoch of a raster without delay at a count (R125). -/
def samplesAt (r : Nat × Nat × Nat × Nat) (units : Nat) : Nat :=
  units * r.2.2.1 * r.2.1 * r.1 / (r.2.2.2 * 1000000000 * 2 ^ 32)

/-- The first count, in units of 2^-32 ns, at or after the start of a sample (R148). -/
def sampleStart (r : Nat × Nat × Nat × Nat) (x : Nat) : Nat :=
  ceilDiv (x * (r.2.2.2 * 1000000000 * 2 ^ 32)) (r.2.2.1 * r.2.1 * r.1)

/-- Frame count, line and sample of a sample count. -/
def ofSamples (r : Nat × Nat × Nat × Nat) (x : Nat) : Nat × Nat × Nat :=
  (x / (r.2.1 * r.1), x % (r.2.1 * r.1) / r.1 + 1, x % r.1)

/-- The position of head n by the count: frame count, line and sample (R125, R147). -/
def State.pos (s : State) (n : Nat) : Option (Nat × Nat × Nat) :=
  (s.raster n).map fun r => ofSamples r (samplesAt r (unitsOf s.tai) - s.delay n r.1)

/-- The count at which a line of a frame of head n starts, in units of 2^-32 ns (R147). -/
def State.lineStart (s : State) (n f l : Nat) : Nat :=
  match s.raster n with
  | some r => sampleStart r (f * (r.2.1 * r.1) + (l - 1) * r.1 + s.delay n r.1)
  | none => 0

/-- What the 64-bit accumulator of R126 holds at a count: frames and 2^-64 of a frame, to the nearest unit. -/
def phaseAt (n d units : Nat) : Nat × Nat :=
  let p := (units * n * 2 ^ 64 + d * 1000000000 * 2 ^ 31) / (d * 1000000000 * 2 ^ 32)
  (p / 2 ^ 64, p % 2 ^ 64)

/-- The addition of one tick to the accumulator: the applied increment in frames of 2^-64, to the nearest unit (R126). -/
def phaseStep (n d inc : Nat) : Nat := (2 * inc * n * 2 ^ 32 + d * 1000000000) / (2 * d * 1000000000)

/-- A stopped head keeps the raster and phase of its last start (R164, R165): the state with those in their registers. -/
def State.onLast (s : State) (n : Nat) : State :=
  match (s.head n).last with
  | some (r, p) => if s.get (F.HD_STAT_STATE n) = 0 then (s.wr (.HD_RASTER, [n]) r).wr (.HD_PHASE, [n]) p else s
  | none => s

/-- The position that the accumulator of head n gives, with the delay taken off (R126, R147). -/
def State.accPos (s : State) (n : Nat) : Option (Nat × Nat × Nat) :=
  let t := s.onLast n
  (t.raster n).map fun r =>
    let h := s.head n
    ofSamples r ((h.phaseF * 2 ^ 64 + h.phase) * (r.2.1 * r.1) / 2 ^ 64 - t.delay n r.1)

/-- The raster of head n runs: it has run since reset or is not stopped (R165). -/
def State.ticking (s : State) (n : Nat) : Bool := (s.head n).everRun || s.get (F.HD_STAT_STATE n) != 0

/-- Set the accumulator of a head from the count. -/
def State.loadPhase (s : State) (n : Nat) : State :=
  match (s.onLast n).raster n with
  | some r =>
    let p := phaseAt r.2.2.1 r.2.2.2 (unitsOf s.tai)
    s.updHead n fun h => { h with phaseF := p.1, phase := p.2, phaseFix := 0 }
  | none => s

/-- The first frame of head n whose line 1 starts at or after a count (R147). -/
def State.frameAfter (s : State) (n units : Nat) : Nat :=
  match s.raster n with
  | some r =>
    let x := ceilDiv (units * r.2.2.1 * r.2.1 * r.1) (r.2.2.2 * 1000000000 * 2 ^ 32)
    ceilDiv (x - s.delay n r.1) (r.2.1 * r.1)
  | none => 0

/-- The frame at which a head accepted or let go now starts: the first that starts at least 2 ms ahead (R72, R150). -/
def State.firstFrame (s : State) (n : Nat) : Nat := s.frameAfter n (unitsOf s.tai + 2000000 * 2 ^ 32)

/-! ### Head states and events -/

/-- The header of head n. -/
def hdB (n : Nat) : List Nat := [13, n]

/-- HDn_STAT.STATE. -/
def State.hst (s : State) (n : Nat) : Nat := s.get (F.HD_STAT_STATE n)

/-- Withdraw the requests in flight of the ancillary channels of MODE `mode` that `p` names (R378). -/
def State.withdraw (s : State) (mode : Nat) (p : Nat → AdBurst → Bool) : State :=
  { s with ads := s.ads.map fun e =>
      match e.2.burst with
      | some b => if s.get (F.AD_CTRL_MODE e.1) = mode ∧ p e.1 b then (e.1, { e.2 with burst := some { b with gone := true } }) else e
      | none => e }

/-- Head n leaves RUNNING and SAFE, or stops: the requests that it made are withdrawn (R378). -/
def State.withdrawHead (s : State) (n st : Nat) : State :=
  let p (c : Nat) (b : AdBurst) : Bool := s.get (F.AD_CTRL_SRC c) == n && (st == 0 || ((b.st == 2 || b.st == 4) && !(st == 2 || st == 4)))
  (s.withdraw 0 p).withdraw 1 p

/-- Change HDn_STAT.STATE; a change is a device event (R297). -/
def State.setHst (s : State) (n st : Nat) : State :=
  if s.hst n = st then s else ((s.withdrawHead n st).set (F.HD_STAT_STATE n) st).event 23 (n + st * 16)

/-- A head counts as running in every state but STOPPED (R114). -/
def State.running (s : State) (n : Nat) : Bool := s.hst n != 0

def State.anyRunning (s : State) : Bool := (List.range 16).any s.running

/-- The result that a head wait returns when its head stops, and a time wait at a step: all ones (R304, R305). -/
def allOnes : Nat := 0xFFFFFFFFFF

/-- Deliver a head event to the engine bound to head n (R166, R294 to R300): its code, line and frame count. -/
def State.headEvent (s : State) (n code line f : Nat) : State :=
  let s := s.updHead n fun h => { h with recent := (s.tick, code, line, f) :: h.recent.filter fun e => decide (s.tick < e.1 + 2) }
  let c := s.cue n
  match c.wait with
  | none => s
  | some w =>
    let go (data : Nat) := s.setCue n { c with wait := some (w.satisfy data false s.tick) }
    match w.kind with
    | .head k => if k = code then go (line + f % 2 ^ 27 * 2 ^ 13) else s
    | .line l => if code = 0 ∧ l = line then go (f % 2 ^ 40) else s
    | .frameLine t l => if code = 0 ∧ l = line ∧ t = f then go 0 else s
    | _ => s

/-- The waits of the bound engine that a stop of head n ends: waits for its lines and for codes 0 to 8 (R304). -/
def State.endHeadWaits (s : State) (n : Nat) : State :=
  let c := s.cue n
  match c.wait with
  | none => s
  | some w =>
    let go := s.setCue n { c with wait := some (w.satisfy allOnes false s.tick) }
    match w.kind with
    | .head k => if k ≤ 8 then go else s
    | .line _ | .frameLine _ _ => go
    | _ => s

/-- Deliver a head event that a running head raises at one line. -/
def State.headLineEvents (s : State) (n : Nat) (codes : List Nat) (line f : Nat) : State :=
  codes.foldl (fun s c => s.headEvent n c line f) s

/-! ### Application points (R50) -/

/-- Take the writes of the registers that p names which were accepted on earlier ticks: the last of each takes effect. -/
def State.applyWaiting (s : State) (p : Key → Bool) : State :=
  let due := s.waiting.filter fun e => p e.1 && decide (e.2.1 < s.tick)
  let s := { s with waiting := s.waiting.filter fun e => !(p e.1 && decide (e.2.1 < s.tick)) }
  due.foldl (fun s e =>
    let w := if s.waiting.any fun x => x.1 == e.1 then some e.2.2 else none
    { s with eff := mput keyAddr (fun _ => none) s.eff e.1 w }) s

/-! ### Mode -/

/-- An out-of-service lane test runs (R68, R470). -/
def State.laneTests (s : State) : Bool := s.lts.any fun e => e.2.oos

/-- The mode of highest precedence whose condition holds (R67, R68). A shutdown ends the conditions of BOOT and MAINTENANCE, so that
R71 and R73 lead from them to SHUTDOWN (log 16). -/
def State.modeNow (s : State) : Nat :=
  if s.dv.step < 3 then 0
  else if s.dv.shutting ∨ s.fc.shut then 11
  else if s.dv.booting then 1
  else if s.dv.maint then 2
  else if s.fc.safe ∨ s.tb.restep.isSome then 8
  else if s.ps.limited then 10
  else if s.laneTests then 9
  else if s.flag F.DV_CTRL_OPERATE then s.get F.TB_STATE_STATE
  else 3

/-- DV_MODE. -/
def State.mode (s : State) : Nat := s.get F.DV_MODE_MODE

/-- Evaluate the mode (R71): a change is logged and is a device event. -/
def State.evalMode (s : State) : State :=
  let old := s.mode
  let new := s.modeNow
  if old = new then s else
  ((s.set F.DV_MODE_MODE new).log 4 0 {} (new + old * 16) 0).event 20 new

/-- The blocks of boot step 6 run: HBM, CE, HD, network, SDI, DisplayPort, and the DMA engines that need them (R31, R75). -/
def State.blocksUp (s : State) : Bool := decide (5 ≤ s.dv.step) && !s.dv.railsOff

/-! ### Power domains (R20, R454) -/

def State.updPs (s : State) (f : PsSt → PsSt) : State := { s with ps := f s.ps }

/-- The domains gated change: PS_DOMAINS follows. -/
def State.setGated (s : State) (l : List Nat) : State :=
  let s := s.updPs fun p => { p with gated := l }
  let s := s.set F.PS_DOMAINS_ENGINES (ofBits ((List.range 8).map fun k => (k, !l.contains k)))
  s.set F.PS_DOMAINS_HBM (b2n !l.contains 8)

/-- The domains of a list are powered. -/
def State.wake (s : State) (ds : List Nat) : State := s.setGated (s.ps.gated.filter fun d => !ds.contains d)

end Sys2Proof.Machine
end

