-- ==== Sys2Proof/Machine/Memory.lean ====
section
/-! DEFINITION. Local memory: bytes, protection units of 32 bytes (R493) and protected windows (R246, R247, R255). -/

namespace Sys2Proof.Machine

/-- What a byte that nothing has written reads as. DESIGN CHOICE (log 6): spec/ gives no contents after power-on. -/
def memDefault : Nat → Byte := fun _ => 0

/-- Local memory is 32 GiB (R34). -/
def memSize : Nat := 2 ^ 35

/-- The byte at a local address. Above local memory there is none, and a read there gives a free value (log 6). -/
def State.byte (s : State) (a : Nat) : Byte := if a < memSize then mget memDefault s.mem a else Config.beyondByte a

/-- The canonical form of memory: addresses strictly rising, no entry that an unlisted address reads as. -/
def Memory.wf (m : List Host.Cell) : Bool := nwf memDefault m

/-- The bytes of a range of local memory. -/
def State.bytes (s : State) (a : Nat) : Nat → List Byte
  | 0 => []
  | n + 1 => s.byte a :: s.bytes (a + 1) n

/-- The little-endian number in k bytes of local memory. -/
def State.memNat (s : State) (a k : Nat) : Nat := ofBytesLE (s.bytes a k)

/-- The 32-byte unit at an address is uncorrectable (R493). -/
def State.badAt (s : State) (a : Nat) : Bool := mget (fun _ => false) s.bad (a / 32)

/-- A range of local memory meets an uncorrectable unit. -/
def State.badIn (s : State) (a n : Nat) : Bool :=
  if n = 0 then false else (List.range ((a + n - 1) / 32 - a / 32 + 1)).any fun i => mget (fun _ => false) s.bad (a / 32 + i)

/-- Store one byte. Above local memory nothing is stored (log 6). -/
def putByte (m : List Host.Cell) (a : Nat) (b : Byte) : List Host.Cell := if a < memSize then nput memDefault m a b else m

/-- Store bytes at rising addresses. -/
def putBytes : List Host.Cell → Nat → List Byte → List Host.Cell
  | m, _, [] => m
  | m, a, b :: bs => putBytes (putByte m a b) (a + 1) bs

/-- Clear the mark of every unit that a write of n bytes at a covers whole (R493). -/
def clearUnits (bad : Map Nat Bool) (a n : Nat) : Map Nat Bool :=
  bad.filter fun e => ! (decide (a ≤ e.1 * 32) && decide (e.1 * 32 + 32 ≤ a + n))

/-! ### Protected windows -/

abbrev plD : Nat → PlSt := fun _ => {}

/-- The protected layer of head n. -/
def State.pl (s : State) (n : Nat) : PlSt := mget plD s.pls n

def State.setPl (s : State) (n : Nat) (p : PlSt) : State := { s with pls := nput plD s.pls n p }

def State.updPl (s : State) (n : Nat) (f : PlSt → PlSt) : State := s.setPl n (f (s.pl n))

/-- The protected window of head n: its first address and its length (R246). -/
def State.window (s : State) (n : Nat) : Nat × Nat :=
  (s.get (F.CE_PL_WIN_HI_ADDR (n / 2) (n % 2)) * 2 ^ 32 + s.get (F.CE_PL_WIN_LO_ADDR (n / 2) (n % 2)) * 65536,
    s.get (F.CE_PL_WIN_HI_SIZE (n / 2) (n % 2)) * 65536)

/-- An origin is the owner of head n's protected layer (R245). -/
def State.isOwner (s : State) (n : Nat) (o : Org) : Bool :=
  s.flag (F.CE_PL_OWNER_EN (n / 2) (n % 2)) && s.get (F.CE_PL_OWNER_CLASS (n / 2) (n % 2)) == o.cls &&
    (o.cls != 0x80 || s.get (F.CE_PL_OWNER_DETAIL (n / 2) (n % 2)) == o.det)

/-- Ranges of bytes meet. -/
def overlap (a n b m : Nat) : Bool := decide (a < b + m) && decide (b < a + n) && decide (0 < n) && decide (0 < m)

/-- The heads whose window an address lies in and may not be written by a source: `host` says that the source is a BAR2
write or a host DMA transfer acting for `o`, the only sources that R247 permits, and only to the owner. -/
def State.guarded (s : State) (host : Bool) (o : Org) (a : Nat) : Bool :=
  (List.range 16).any fun n =>
    let w := s.window n
    decide (w.1 ≤ a) && decide (a < w.1 + w.2) && !(host && s.isOwner n o)

/-- Store the bytes of a write that no window drops (R247). -/
def putKept (s : State) (host : Bool) (o : Org) : List Host.Cell → Nat → List Byte → List Host.Cell
  | m, _, [] => m
  | m, a, b :: bs => putKept s host o (if s.guarded host o a then m else putByte m a b) (a + 1) bs

/-- Account for a dropped write into the window of head n (R247): it is counted, and the first drop of an origin within
1 ms is logged and raised. -/
def State.dropped (s : State) (n : Nat) (o : Org) (a : Nat) : State :=
  let s := s.count (F.CE_PL_WR_DENY_COUNT (n / 2) (n % 2)) 1
  let p := s.pl n
  if p.drops.any fun d => d.1 == o && decide (s.tick < d.2 + ticksNs 1000000) then s else
  let s := s.setPl n { p with drops := (o, s.tick) :: p.drops.filter fun d => d.1 != o }
  (s.log 6 2 o (a % 2 ^ 32) (a / 2 ^ 32 + n * 256)).raise 0x142 n o

/-- The bytes of a pixel of a slot format (R249, R172). -/
def slotBpp (fmt : Nat) : Nat := if fmt = 2 then 8 else 4

/-- The geometry of slot i of head n's protected layer: address, row bytes, rows, pitch in bytes. -/
def State.slotGeom (s : State) (n i : Nat) : Nat × Nat × Nat × Nat :=
  (s.get (F.CE_PL_S_ADDR_HI_ADDR (n / 2) (n % 2) i) * 2 ^ 32 + s.get (F.CE_PL_S_ADDR_LO_ADDR (n / 2) (n % 2) i) * 256,
    s.get (F.CE_PL_S_SIZE_W (n / 2) (n % 2) i) * slotBpp (s.get (F.CE_PL_S_FMT_FMT (n / 2) (n % 2) i)),
    s.get (F.CE_PL_S_SIZE_H (n / 2) (n % 2) i), s.get (F.CE_PL_S_FMT_PITCH (n / 2) (n % 2) i) * 256)

/-- A write of n bytes at a meets the content of a slot (R249, R255). -/
def slotHit (g : Nat × Nat × Nat × Nat) (a n : Nat) : Bool :=
  (List.range g.2.2.1).any fun r => overlap a n (g.1 + r * g.2.2.2) g.2.1

/-- Mark the slots that a permitted write changes (R255). -/
def State.dirtySlots (s : State) (host : Bool) (o : Org) (a n : Nat) : State :=
  (List.range 16).foldl (fun s h =>
    let w := s.window h
    if host && s.isOwner h o && overlap a n w.1 w.2 then
      [0, 1].foldl (fun s i =>
        if slotHit (s.slotGeom h i) a n then
          (s.set (F.CE_PL_S_STAT_DIRTY (h / 2) (h % 2) i) 1).set (F.CE_PL_S_STAT_VERDICT (h / 2) (h % 2) i) 0
        else s) s
    else s) s

/-- A write into local memory, from every source (R247, R493). Bytes in a protected window that the source may not write
are dropped; the others are stored. -/
def State.memWrite (s : State) (host : Bool) (o : Org) (a : Nat) (data : List Byte) : State :=
  let hit := (List.range 16).filter fun n =>
    let w := s.window n
    overlap a data.length w.1 w.2 && !(host && s.isOwner n o)
  if hit = [] then
    ({ s with mem := putBytes s.mem a data, bad := clearUnits s.bad a data.length }).dirtySlots host o a data.length
  else
    let s' := { s with
      mem := putKept s host o s.mem a data
      bad := s.bad.filter fun e =>
        !(decide (a ≤ e.1 * 32) && decide (e.1 * 32 + 32 ≤ a + data.length) && !s.guarded host o (e.1 * 32)) }
    hit.foldl (fun s n => s.dropped n o (max a (s.window n).1)) (s'.dirtySlots host o a data.length)

end Sys2Proof.Machine
end

