-- ==== Sys2Proof/Machine/Layers.lean ====
section
/-! DEFINITION. Layer descriptors as a commit copies them (R169 to R173), forming a commit set, and what a descriptor says of
its source, its rectangle and its scaling (R206 to R208, R212). -/

namespace Sys2Proof.Machine

/-! ### Fields of a descriptor -/

/-- A field of the word at offset 4 × i of a descriptor. -/
def LayerDesc.f (d : LayerDesc) (i hi lo : Nat) : Nat := bits (d.words.getD i 0) hi lo

def LayerDesc.head1 (d : LayerDesc) : Nat := d.f 0 1 1
def LayerDesc.fmt (d : LayerDesc) : Nat := d.f 0 5 2
/-- SRC: 0 LOCAL, 1 HOST, 2 FLOW, 3 SDI_IN, 4 DT. -/
def LayerDesc.src (d : LayerDesc) : Nat := d.f 0 8 6
/-- NOTREADY: 0 HOLD, 1 HIDE, 2 FILL. -/
def LayerDesc.notReady (d : LayerDesc) : Nat := d.f 0 10 9
/-- LATE: 0 HIDE, 1 FILL, 2 REPEAT. -/
def LayerDesc.late (d : LayerDesc) : Nat := d.f 0 12 11
def LayerDesc.opaque' (d : LayerDesc) : Bool := d.f 0 13 13 != 0
def LayerDesc.opmapEn (d : LayerDesc) : Bool := d.f 0 14 14 != 0
def LayerDesc.premult (d : LayerDesc) : Bool := d.f 0 15 15 != 0
def LayerDesc.index (d : LayerDesc) : Nat := d.f 1 13 0
def LayerDesc.hostPf (d : LayerDesc) : Nat := d.f 1 15 14
def LayerDesc.pt (d : LayerDesc) : Bool := d.f 1 17 17 != 0

/-- A 64-bit address in two words, 256-byte aligned. -/
def LayerDesc.addr (d : LayerDesc) (i : Nat) : Nat := (d.f i 31 8) * 256 + (d.f (i + 1) 31 0) * 2 ^ 32

def LayerDesc.addr0 (d : LayerDesc) : Nat := d.addr 2
def LayerDesc.addr1 (d : LayerDesc) : Nat := d.addr 4
/-- The pitches of the planes in bytes. -/
def LayerDesc.pitch0 (d : LayerDesc) : Nat := d.f 6 15 0 * 256
def LayerDesc.pitch1 (d : LayerDesc) : Nat := d.f 6 31 16 * 256
def LayerDesc.opmap (d : LayerDesc) : Nat := d.addr 7
def LayerDesc.pal (d : LayerDesc) : Nat := d.addr 9
def LayerDesc.srcW (d : LayerDesc) : Nat := d.f 11 13 0
def LayerDesc.srcH (d : LayerDesc) : Nat := d.f 11 29 16
def LayerDesc.cropX (d : LayerDesc) : Nat := d.f 12 13 0
def LayerDesc.cropY (d : LayerDesc) : Nat := d.f 12 29 16
def LayerDesc.cropW (d : LayerDesc) : Nat := d.f 13 13 0
def LayerDesc.cropH (d : LayerDesc) : Nat := d.f 13 29 16
def LayerDesc.dstX (d : LayerDesc) : Int := signed 16 (d.f 14 15 0)
def LayerDesc.dstY (d : LayerDesc) : Int := signed 16 (d.f 14 31 16)
def LayerDesc.dstW (d : LayerDesc) : Nat := d.f 15 13 0
def LayerDesc.dstH (d : LayerDesc) : Nat := d.f 15 29 16
def LayerDesc.matrix (d : LayerDesc) : Nat := d.f 16 3 0
def LayerDesc.transfer (d : LayerDesc) : Nat := d.f 16 7 4
def LayerDesc.primaries (d : LayerDesc) : Nat := d.f 16 11 8
def LayerDesc.fullRange (d : LayerDesc) : Bool := d.f 16 12 12 != 0
def LayerDesc.siting (d : LayerDesc) : Nat := d.f 16 14 13
def LayerDesc.predec (d : LayerDesc) : Nat := d.f 17 1 0
def LayerDesc.hfilt (d : LayerDesc) : Nat := d.f 17 3 2
def LayerDesc.vfilt (d : LayerDesc) : Nat := d.f 17 5 4
def LayerDesc.mode (d : LayerDesc) : Nat := d.f 18 3 0
def LayerDesc.alpha (d : LayerDesc) : Nat := d.f 18 31 16
/-- The fill colour R, G, B, A as FP16 patterns. -/
def LayerDesc.fill (d : LayerDesc) : Nat × Nat × Nat × Nat := (d.f 19 15 0, d.f 19 31 16, d.f 20 15 0, d.f 20 31 16)
def LayerDesc.fenceEn (d : LayerDesc) : Bool := d.f 0 16 16 != 0
def LayerDesc.fenceWait (d : LayerDesc) : Nat := d.f 23 31 0
def LayerDesc.ptLag (d : LayerDesc) : Nat := d.f 26 15 0

/-- An ingest source: FLOW or SDI_IN. -/
def LayerDesc.ingest (d : LayerDesc) : Bool := d.src == 2 || d.src == 3

/-- The layer waits for its fence: LOCAL or HOST with FENCE_EN (R179). -/
def LayerDesc.fenced (d : LayerDesc) : Bool := d.fenceEn && (d.src == 0 || d.src == 1)

/-! ### Forming a set (R169) -/

/-- The registers of a layer descriptor, in order of their words; none stands for a word that a copy holds as 0 (R193): the
live FENCE_STAT and the reserved word. -/
def descRegs : List (Option Reg) :=
  [some .CE_L_CTRL, some .CE_L_SOURCE, some .CE_L_ADDR0_LO, some .CE_L_ADDR0_HI, some .CE_L_ADDR1_LO, some .CE_L_ADDR1_HI,
    some .CE_L_PITCH, some .CE_L_OPMAP_LO, some .CE_L_OPMAP_HI, some .CE_L_PAL_LO, some .CE_L_PAL_HI, some .CE_L_SRC_SIZE,
    some .CE_L_CROP_XY, some .CE_L_CROP_WH, some .CE_L_DST_XY, some .CE_L_DST_WH, some .CE_L_IN_COLOUR, some .CE_L_SCALE,
    some .CE_L_BLEND, some .CE_L_FILL_RG, some .CE_L_FILL_BA, some .CE_L_CONST_RG, some .CE_L_CONST_B, some .CE_L_FENCE_WAIT,
    some .CE_L_FENCE_SIGNAL, none, some .CE_L_PT_LAG, none]

/-- The shadow of layer m of engine k. -/
def State.shadow (s : State) (k m : Nat) : LayerDesc :=
  ⟨m, descRegs.map fun r => match r with
    | some r => s.rd (r, [k, m])
    | none => 0⟩

/-- The enabled shadow descriptors of head n, in ascending layer number. -/
def State.shadowLayers (s : State) (n : Nat) : List LayerDesc :=
  (List.range 32).filterMap fun m =>
    if s.flag (F.CE_L_CTRL_EN (n / 2) m) && s.get (F.CE_L_CTRL_HEAD (n / 2) m) == n % 2 then some (s.shadow (n / 2) m) else none

/-- The order registers of head n. -/
def State.orderRegs (s : State) (n : Nat) : List Word :=
  s.rd (.CE_ORDER_CTRL, [n / 2, n % 2]) :: (List.range 8).map fun i => s.rd (.CE_ORDER, [n / 2, n % 2, i])

/-- The keys of the output colour registers of head n: the background, then CTRL and GAIN of each destination. -/
def ocKeys (n : Nat) : List Key :=
  [(.CE_OC_BG_RG, [n / 2, n % 2]), (.CE_OC_BG_B, [n / 2, n % 2])] ++
    (List.range 3).flatMap fun d => [(.CE_OC_D_CTRL, [n / 2, n % 2, d]), (.CE_OC_D_GAIN, [n / 2, n % 2, d])]

/-- The commit set of head n as the shadow stands. -/
def State.formSet (s : State) (n tag : Nat) (org : Org) (prep : Bool) : CommitSet :=
  { head := n, tag, org, prep, layers := s.shadowLayers n, order := s.orderRegs n, oc := (ocKeys n).map s.rd }

/-- The layers of a set in blend order, bottom first (R184). -/
def CommitSet.blend (c : CommitSet) : List LayerDesc :=
  let w := c.order.getD 0 0
  if bits w 0 0 = 0 then c.layers else
  (List.range (bits w 6 1)).filterMap fun i =>
    let o := c.order.getD (1 + i / 4) 0
    let m := bits o (8 * (i % 4) + 4) (8 * (i % 4))
    c.layers.find? fun d => d.m == m

/-- The layer m of a set. -/
def CommitSet.layer (c : CommitSet) (m : Nat) : Option LayerDesc := c.layers.find? fun d => d.m == m

/-! ### Sources -/

/-- The key of an ingest source among the video sources: flow contexts, then SDI inputs. -/
def LayerDesc.vidKey (d : LayerDesc) : Nat := if d.src = 2 then d.index else 16384 + d.index

abbrev vidD : Nat → VidSt := fun _ => {}

def State.vid (s : State) (v : Nat) : VidSt := mget vidD s.vids v

def State.updVid (s : State) (v : Nat) (f : VidSt → VidSt) : State := { s with vids := nput vidD s.vids v (f (s.vid v)) }

/-- Raster and rate of an ingest source. -/
def State.srcRaster (s : State) (d : LayerDesc) : Nat × Nat :=
  if d.src = 2 then (s.get (F.NR_VIDEO_FMT d.index), s.get (F.NR_VIDEO_RATE d.index))
  else (s.get (F.NG_SDI_VIDEO_FMT d.index), s.get (F.NG_SDI_VIDEO_RATE d.index))

/-- The ingest source writes a passthrough ring. -/
def State.srcRing (s : State) (d : LayerDesc) : Bool :=
  if d.src = 2 then s.flag (F.NR_CTRL_RING d.index) else s.flag (F.NG_SDI_CTRL_RING d.index)

/-- Sampling (0 4:2:2, 1 4:4:4, 2 RGB) and 12-bit depth of an ingest source. -/
def State.srcSampling (s : State) (d : LayerDesc) : Nat × Bool :=
  if d.src = 2 then (s.get (F.NR_VIDEO_SAMPLING d.index), s.flag (F.NR_VIDEO_DEPTH12 d.index)) else (0, false)

/-- Plane 0 of an ingest buffer of R228: bits per pixel and pixel group. -/
def ingestBits (sampling : Nat) (deep : Bool) : Nat × Nat :=
  if sampling = 0 then (if deep then (24, 2) else (20, 2)) else if deep then (36, 2) else (30, 4)

/-- The planes of a format (R172, R228): bits per pixel and pixel group of plane 0 and of plane 1. -/
def fmtPlanes (fmt : Nat) : (Nat × Nat) × Option (Nat × Nat) :=
  match fmt with
  | 0 => ((32, 1), none) | 1 => ((32, 1), none) | 2 => ((64, 1), none) | 3 => ((20, 2), none) | 4 => ((16, 1), some (16, 2))
  | 5 => ((48, 1), none) | 6 => ((8, 1), none) | 7 => ((8, 1), none) | 8 => ((20, 2), some (16, 1)) | _ => ((0, 1), none)

/-- The planes that a layer fetches. -/
def State.planes (s : State) (d : LayerDesc) : (Nat × Nat) × Option (Nat × Nat) :=
  if d.fmt = 15 then (ingestBits (s.srcSampling d).1 (s.srcSampling d).2, none) else fmtPlanes d.fmt

/-- The first address of what an ingest layer shows: buffer b of its source, B0 for a ring (R341, R343). -/
def State.ingestAddr (s : State) (d : LayerDesc) (b : Nat) : Nat :=
  if d.src = 2 then
    s.get (F.NR_BUF_HI_ADDR d.index) * 2 ^ 32 + s.get (F.NR_BUF_LO_ADDR d.index) * 65536 + b * s.get (F.NR_BUF_HI_STRIDE d.index) * 65536
  else
    s.get (F.NG_SDI_BUF_HI_ADDR d.index) * 2 ^ 32 + s.get (F.NG_SDI_BUF_LO_ADDR d.index) * 65536 + b * s.get (F.NG_SDI_BUF_HI_STRIDE d.index) * 65536

/-- The pitch of the rows of an ingest buffer (R228, R343). -/
def State.ingestPitch (s : State) (d : LayerDesc) : Nat :=
  ceilDiv ((rasterActive (s.srcRaster d).1).1 * (ingestBits (s.srcSampling d).1 (s.srcSampling d).2).1) 2048 * 256

/-- The memory of an ingest source: its three buffers, or its passthrough ring of 64 rows (R177, R343). -/
def State.ingestExtents (s : State) (d : LayerDesc) : List (Nat × Nat) :=
  if d.pt then [(s.ingestAddr d 0, 64 * s.ingestPitch d)]
  else (List.range 3).map fun b => (s.ingestAddr d b, (rasterActive (s.srcRaster d).1).2 * s.ingestPitch d)

/-- Native width (times 4) and height of a dial or text strip (R311). -/
def State.dtNative (s : State) (i : Nat) : Nat × Nat :=
  if i < 64 then
    let sz := s.get (F.DT_D_SIZE_SIZE i)
    (if s.get (F.DT_D_SIZE_STYLE i) = 0 then 4 * sz else if s.get (F.DT_D_SIZE_SECS i) = 0 then 9 * sz else 14 * sz, sz)
  else (4 * s.get (F.DT_S_SIZE_W (i - 64)), s.get (F.DT_S_SIZE_H (i - 64)))

/-! ### Rectangle and scaling -/

/-- The pre-decimation factor (R206). -/
def LayerDesc.dec (d : LayerDesc) : Nat := 2 ^ d.predec

/-- The pre-decimated size (R206). -/
def LayerDesc.preW (d : LayerDesc) : Nat := d.cropW / d.dec
def LayerDesc.preH (d : LayerDesc) : Nat := d.cropH / d.dec

def LayerDesc.hscaled (d : LayerDesc) : Bool := d.dstW != d.preW
def LayerDesc.vscaled (d : LayerDesc) : Bool := d.dstH != d.preH
def LayerDesc.scaled (d : LayerDesc) : Bool := d.hscaled || d.vscaled

/-- A direct layer (R227). -/
def LayerDesc.direct (d : LayerDesc) : Bool := !d.scaled && d.predec == 0

/-- The part of a signed range [x, x + w) inside [0, n): its start and end. -/
def visible (x : Int) (w n : Nat) : Nat × Nat := ((max x 0).toNat, (min (x + w) n).toNat)

/-- The visible columns and frame rows of a layer in an active picture. -/
def LayerDesc.cols (d : LayerDesc) (aw : Nat) : Nat × Nat := visible d.dstX d.dstW aw
def LayerDesc.rows (d : LayerDesc) (ah : Nat) : Nat × Nat := visible d.dstY d.dstH ah

/-- The visible post-horizontal width (R212). -/
def LayerDesc.wv (d : LayerDesc) (aw : Nat) : Nat := (d.cols aw).2 - (d.cols aw).1

/-- The filter position of an output index (R208): input sample and phase of 64. -/
def filtPos (n dst y : Nat) : Int × Nat :=
  let step := (2 * n * 2 ^ 32 + dst) / (2 * dst)
  let u : Int := (step / 2 : Nat) - 2 ^ 31 + (y * step : Nat)
  let p := ((u % 2 ^ 32).toNat * 128 + 2 ^ 32) / 2 ^ 33
  if p = 64 then (u / 2 ^ 32 + 1, 0) else (u / 2 ^ 32, p)

/-- Line-buffer segments of a scaled layer (R212). -/
def LayerDesc.segments (d : LayerDesc) (aw : Nat) : Nat := (if d.vscaled then 8 else 2) * ceilDiv (d.wv aw) 256

/-- Bytes of one line of a plane of w pixels. -/
def lineBytes (b w : Nat) : Nat := ceilDiv (w * b) 8

/-- The rows of a layer's memory: each plane's, the opacity map's and the palette's first address and length, for a layer in
formats 0 to 8 (R172, R173). -/
def LayerDesc.extents (d : LayerDesc) : List (Nat × Nat) :=
  let p := fmtPlanes d.fmt
  let plane0 := (d.addr0, (d.srcH - 1) * d.pitch0 + lineBytes p.1.1 d.srcW)
  let plane1 := if d.fmt = 4 then [(d.addr1, (d.srcH / 2 - 1) * d.pitch1 + lineBytes 16 d.srcW)]
    else if d.fmt = 8 then [(d.addr1, (d.srcH - 1) * d.pitch1 + lineBytes 16 d.srcW)] else []
  [plane0] ++ plane1 ++
    (if d.opmapEn then [(d.opmap, ceilDiv d.srcH 64 * (ceilDiv (ceilDiv d.srcW 64) 64 * 8))] else []) ++
    (if d.fmt = 6 then [(d.pal, 1024)] else [])

end Sys2Proof.Machine
end

