-- ==== Sys2Proof/Machine/DialText.lean ====
section
/-! DEFINITION. The dial and text generator: the calendar and the time an item shows (R315 to R317), daylight rules, and the
latch of the items a head or port shows (R313). -/

namespace Sys2Proof.Machine

def dtB : List Nat := [15, 0]

/-! ### Calendar -/

/-- Days from 1970-01-01 to a date of the Gregorian calendar. -/
def daysOf (y m d : Nat) : Nat :=
  let y' := if m ≤ 2 then y - 1 else y
  let m' := if m ≤ 2 then m + 9 else m - 3
  y' / 400 * 146097 + (y' % 400 * 365 + y' % 400 / 4 - y' % 400 / 100 + ((153 * m' + 2) / 5 + d - 1)) - 719468

/-- The date of a day counted from 1970-01-01: year, month, day. -/
def dateOf (days : Nat) : Nat × Nat × Nat :=
  let z := days + 719468
  let e := z % 146097
  let ye := (e - e / 1460 + e / 36524 - e / 146096) / 365
  let doy := e - (365 * ye + ye / 4 - ye / 100)
  let mp := (5 * doy + 2) / 153
  let m := if mp < 10 then mp + 3 else mp - 9
  (z / 146097 * 400 + ye + (if m ≤ 2 then 1 else 0), m, doy - (153 * mp + 2) / 5 + 1)

/-- The day of the week of a day, Sunday = 0. -/
def weekday (days : Nat) : Nat := (days + 4) % 7

/-- The day that MONTH, WEEK and WDAY name in a year: the n-th such weekday of the month, 5 the last. -/
def ruleDay (y month week wday : Nat) : Nat :=
  let first := daysOf y month 1
  let d0 := first + (wday + 7 - weekday first) % 7
  if week < 5 then d0 + 7 * (week - 1)
  else
    let next := if month = 12 then daysOf (y + 1) 1 1 else daysOf y (month + 1) 1
    d0 + (next - 1 - d0) / 7 * 7

/-! ### UTC and local time -/

/-- A time of day and date as it is read: whole seconds since 1970 in the scale, with the seconds digit 60 in a leap second. -/
structure Reading where
  secs : Nat
  leap : Bool := false
  deriving DecidableEq, Repr

/-- UTC of a whole TAI second (R123, R315): a positive leap second reads 60, and each side of a leap takes its own offset. -/
def State.utcOf (s : State) (t : Nat) : Reading :=
  let ofs := s.get F.TB_UTC_OFS
  let at_ := leapNear t (s.get F.TB_LEAP_AT_SEC)
  if s.flag F.TB_UTC_LEAP61 then
    if t + 1 = at_ then ⟨t - ofs - 1, true⟩ else if at_ ≤ t then ⟨t - (ofs + 1), false⟩ else ⟨t - ofs, false⟩
  else if s.flag F.TB_UTC_LEAP59 then ⟨if at_ ≤ t then t - (ofs - 1) else t - ofs, false⟩
  else
    match s.tb.lastLeap.map fun x => (leapNear t x.1, x.2) with
    | some (a, true) => if t + 1 = a then ⟨t - (ofs - 1) - 1, true⟩ else if a ≤ t then ⟨t - ofs, false⟩ else ⟨t - (ofs - 1), false⟩
    | some (a, false) => ⟨if a ≤ t then t - ofs else t - (ofs + 1), false⟩
    | none => ⟨t - ofs, false⟩

/-- The three words of a zone rule. -/
structure Zone where
  ofs : Word
  start : Word
  stop : Word
  deriving DecidableEq, Repr

def Zone.std (z : Zone) : Int := signed 12 (bits z.ofs 11 0) * 60
def Zone.dst (z : Zone) : Int := (bits z.ofs 23 16 : Nat) * 60

/-- The instant, in UTC seconds, at which a rule word names a change, read in a local time `off` ahead of UTC. -/
def ruleInstant (w : Word) (y : Nat) (off : Int) : Int :=
  (ruleDay y (bits w 3 0) (bits w 6 4) (bits w 10 8) * 86400 + bits w 26 16 * 60 : Nat) - off

/-- Daylight time applies at a UTC second (R316). -/
def Zone.daylight (z : Zone) (utc : Nat) : Bool :=
  if z.dst = 0 then false else
  let y := (dateOf ((utc + z.std).toNat / 86400)).1
  let a := ruleInstant z.start y z.std
  let b := ruleInstant z.stop y (z.std + z.dst)
  if a < b then decide (a ≤ utc) && decide ((utc : Int) < b) else decide (a ≤ utc) || decide ((utc : Int) < b)

/-- A reading in local time (R315, R316). -/
def Zone.local' (z : Zone) (r : Reading) : Reading :=
  ⟨((r.secs : Int) + z.std + (if z.daylight r.secs then z.dst else 0)).toNat, r.leap⟩

/-- The zone rule registers of zone z as written. -/
def zoneKeys (z : Nat) : List Key := [(.DT_Z_OFS, [z]), (.DT_Z_START, [z]), (.DT_Z_END, [z])]

def State.zone (s : State) (z : Nat) : Zone := ⟨s.rdE (.DT_Z_OFS, [z]), s.rdE (.DT_Z_START, [z]), s.rdE (.DT_Z_END, [z])⟩

/-- The alert condition of an item of a SCALE: 0 UTC, 1 TAI, 2 local (R317). -/
def State.alert (s : State) (scale : Nat) : Bool :=
  !s.flag F.TB_STATE_FIRST_LOCK || (scale != 1 && !s.flag F.TB_UTC_VALID)

/-- The reading of a whole TAI second in a SCALE. With TB_UTC not valid, UTC is shown as TAI (R317). -/
def State.reading (s : State) (scale : Nat) (z : Zone) (t : Nat) : Reading :=
  if scale = 1 then ⟨t, false⟩ else
  let u := if s.flag F.TB_UTC_VALID then s.utcOf t else ⟨t, false⟩
  if scale = 0 then u else z.local' u

/-! ### Items -/

/-- The registers of item i: a dial below 64, else a strip. -/
def itemKeys (i : Nat) : List Key :=
  if i < 64 then
    [(.DT_D_CTRL, [i]), (.DT_D_SIZE, [i]), (.DT_D_HANDS, [i]), (.DT_D_DELAY, [i])] ++ (List.range 5).map fun c => (.DT_D_COL, [i, c])
  else
    let t := i - 64
    [(.DT_S_CTRL, [t]), (.DT_S_SIZE, [t]), (.DT_S_LAYOUT, [t]), (.DT_S_GLYPHS, [t]), (.DT_S_DELAY, [t])] ++
      ((List.range 4).map fun c => (.DT_S_COL, [t, c])) ++ (List.range 64).map fun e => (.DT_S_TXT, [t, e])

/-- The zone that item i uses, where its scale is local. -/
def State.itemZone (s : State) (i : Nat) : Option Nat :=
  if i < 64 then (if s.getE (F.DT_D_CTRL_SCALE i) = 2 then some (s.getE (F.DT_D_CTRL_ZONE i)) else none)
  else if s.getE (F.DT_S_CTRL_SCALE (i - 64)) = 2 then some (s.getE (F.DT_S_CTRL_ZONE (i - 64))) else none

abbrev dtD : Nat → DtLatch := fun _ => {}

/-- What head n (n below 16) or Spemen port n - 16 has latched. -/
def State.dt (s : State) (n : Nat) : DtLatch := mget dtD s.dts n

/-- Latch items for a head or port (R313): writes accepted on earlier ticks count. A zone in use that enters or leaves daylight latches DST_CHG (R316). -/
def State.latchItems (s : State) (n : Nat) (items : List Nat) : State :=
  let s := s.applyWaiting fun k => (regDef k.1).blk == .DT
  let zs := (items.filterMap s.itemZone).eraseDups
  let utc := (s.reading 0 ⟨0, 0, 0⟩ s.tb.sec).secs
  let now := zs.map fun z => (z, (s.zone z).daylight utc)
  let chg := now.any fun e => (s.dt n).zones.any fun o => o.1 == e.1 && o.2 != e.2
  let keys := items.flatMap itemKeys ++ zs.flatMap zoneKeys ++ [(.DT_SOFT_TALLY, [])]
  let s := { s with dts := nput dtD s.dts n ⟨keys.map fun k => (k, s.rdE k), s.gpi, now⟩ }
  if chg then s.latch dtB 0x20 else s

/-- A latched register of a head or port. -/
def DtLatch.rd (l : DtLatch) (k : Key) : Word := ((l.regs.find? fun e => e.1 == k).map (·.2)).getD 0

end Sys2Proof.Machine
end

