-- ==== Sys2Proof/Machine/Admission.lean ====
section
/-! DEFINITION. The admission checker: the checks of R186 in order, with the format rules of 07 and 08, the bands (R226), what
a layer costs (R227 to R231), occlusion culling (R183, R232 to R234), and the limits (R235 to R238). -/

namespace Sys2Proof.Machine

/-! ### Bands -/

/-- A band: whether it is the first of its field or frame, and its frame rows. -/
structure Band where
  first : Bool
  rows : List Nat
  deriving DecidableEq, Repr

/-- The bands of one field or frame of `count` rows, row j of it being frame row off + mul × j (R226). -/
def bandsOf (count off mul : Nat) : List Band :=
  (List.range (ceilDiv count 16)).map fun b =>
    ⟨b == 0, (List.range (min 16 (count - 16 * b))).map fun j => off + mul * (16 * b + j)⟩

/-- The bands of a raster (R226). -/
def bands (fmt : Nat) : List Band :=
  let h := (rasterActive fmt).2
  if interlaced fmt then bandsOf (h / 2) 0 2 ++ bandsOf (h / 2) 1 2 else bandsOf h 0 1

/-! ### Occlusion culling -/

/-- FP16 1.0. -/
def fpOne : Nat := 0x3C00

/-- A bit of an opacity map: tile (x, y) of a buffer of width w whose map lies at a (R173). -/
def State.mapBit (s : State) (a w x y : Nat) : Bool :=
  nbit (s.byte (a + y * (ceilDiv (ceilDiv w 64) 64 * 8) + x / 8)).toNat (x % 8)

/-- The length of an opacity map. -/
def mapLen (w h : Nat) : Nat := ceilDiv h 64 * (ceilDiv (ceilDiv w 64) 64 * 8)

/-- A map as the checker reads it: address, width and height of its buffer, and whether the read met an uncorrectable
error, which reads all of it as zeros (R234). -/
structure OpMap where
  addr : Nat
  w : Nat
  h : Nat
  bad : Bool
  deriving DecidableEq, Repr

def State.readMap (s : State) (addr w h : Nat) : OpMap := ⟨addr, w, h, s.badIn addr (mapLen w h)⟩

/-- The map marks every buffer tile of the columns x0 to x1 - 1 and rows y0 to y1 - 1 of the buffer. -/
def State.mapMarks (s : State) (m : OpMap) (x0 x1 y0 y1 : Nat) : Bool :=
  !m.bad && (List.range (ceilDiv y1 64 - y0 / 64)).all fun j =>
    (List.range (ceilDiv x1 64 - x0 / 64)).all fun i => s.mapBit m.addr m.w (x0 / 64 + i) (y0 / 64 + j)

/-- The sets of head n besides the new one that may give a layer its buffer at the boundary before (R183). -/
def State.liveSets (s : State) (n : Nat) : List CommitSet :=
  let h := s.head n
  h.applied.toList ++ h.pending ++ h.prepared.toList

abbrev layerD : Nat → LayerSt := fun _ => {}

/-- Layer m of engine k. -/
def State.layer (s : State) (k m : Nat) : LayerSt := mget layerD s.layers (32 * k + m)

def State.setLayer (s : State) (k m : Nat) (l : LayerSt) : State := { s with layers := nput layerD s.layers (32 * k + m) l }

def State.updLayer (s : State) (k m : Nat) (f : LayerSt → LayerSt) : State := s.setLayer k m (f (s.layer k m))

/-- The layer's opacity map, where it has one. -/
def descMap (s : State) (d : LayerDesc) : Option OpMap :=
  if d.opmapEn then some (s.readMap d.opmap d.srcW d.srcH) else none

/-- How a layer of a new set of head n may cull (R183): not at all (none), or where all of these maps mark a tile; a layer
with OPAQUE culls with no map. A map that a held buffer does not have marks nothing. -/
def State.cullMaps (s : State) (n : Nat) (d : LayerDesc) : Option (List (Option OpMap)) :=
  let fillOpaque := d.notReady == 2 && d.fill.2.2.2 == fpOne
  let own : List (Option OpMap) := if d.opaque' then [] else [descMap s d]
  let others := (s.liveSets n).map fun c => c.layer d.m
  let shown := (s.layer (n / 2) d.m).shown
  let showsBuffer : Bool := match shown with
    | some (.buffer _) => (s.head n).applied.any fun c => (c.layer d.m).isSome
    | _ => false
  match d.src with
  | 0 =>
    if !d.fenceEn || fillOpaque then some own
    else if d.notReady = 0 ∧ showsBuffer ∧ others.all (·.isSome) then
      if d.opaque' then some [] else
      let held := match shown with
        | some (.buffer b) => [if b.opmapEn then some (s.readMap b.opmap d.srcW d.srcH) else none]
        | _ => []
      some (own ++ held ++ others.filterMap fun o => o.map fun x => descMap s x)
    else none
  | 4 => if d.opaque' then some [] else none
  | 2 | 3 =>
    if !d.opaque' then none
    else if d.pt then (if fillOpaque then some [] else none)
    else if fillOpaque ∨ (d.notReady = 0 ∧ showsBuffer ∧ others.all (·.isSome)) then some []
    else none
  | _ => none

/-- A layer could hide screen tile (tx, ty) by its mode, alpha and rectangle (R232). -/
def LayerDesc.mayHide (d : LayerDesc) (aw ah tx ty : Nat) : Bool :=
  (d.mode == 0 || d.mode == 3) && d.alpha == 0xFFFF && decide (d.dstX ≤ (64 * tx : Nat)) &&
    decide ((min (64 * tx + 64) aw : Nat) ≤ d.dstX + d.dstW) && decide (d.dstY ≤ (64 * ty : Nat)) &&
    decide ((min (64 * ty + 64) ah : Nat) ≤ d.dstY + d.dstH)

/-- The opacity map of a layer is what decides where it hides (R232). -/
def LayerDesc.usesMap (d : LayerDesc) : Bool := !d.opaque' && d.src == 0 && d.direct && d.opmapEn

/-- A layer hides screen tile (tx, ty) (R232). -/
def State.hides (s : State) (d : LayerDesc) (maps : Option (List (Option OpMap))) (aw ah tx ty : Nat) : Bool :=
  match maps with
  | none => false
  | some ms =>
    let bx := fun (x : Nat) => d.cropX + ((x : Int) - d.dstX).toNat
    let bY := fun (y : Nat) => d.cropY + ((y : Int) - d.dstY).toNat
    d.mayHide aw ah tx ty &&
      (d.opaque' || (d.usesMap && ms.all fun o => match o with
        | some m => s.mapMarks m (bx (64 * tx)) (bx (min (64 * tx + 64) aw)) (bY (64 * ty)) (bY (min (64 * ty + 64) ah))
        | none => false))

/-- A grid of tiles: rows of columns. -/
abbrev Grid := List (List Bool)

def Grid.at' (g : Grid) (tx ty : Nat) : Bool := (g.getD ty []).getD tx false

/-- The tiles in which each layer is culled, top layer first: those that a layer above hides (R233). -/
def State.culled (s : State) (n aw ah : Nat) : List LayerDesc → Grid → List (LayerDesc × Grid)
  | [], _ => []
  | d :: below, g =>
    let maps := s.cullMaps n d
    let own : Grid := (List.range (ceilDiv ah 64)).map fun ty => (List.range (ceilDiv aw 64)).map fun tx =>
      g.at' tx ty || s.hides d maps aw ah tx ty
    (d, g) :: s.culled n aw ah below (if maps.isNone then g else own)

/-! ### What a layer costs -/

/-- The bytes of a run of buffer columns [x0, x1) in one plane row of b bits a pixel, in groups of g pixels (R228). -/
def runBytes (b g x0 x1 : Nat) : Nat :=
  let start := x0 / g * g * b / 8
  let stop := ceilDiv x1 g * g * b / 8
  64 * (ceilDiv stop 64 - start / 64)

/-- The runs of columns [x0, x1) of tile row ty that are not culled. -/
def openRuns (g : Grid) (ty x1 : Nat) : Nat → Nat → List (Nat × Nat)
  | 0, _ => []
  | fuel + 1, x =>
    if x1 ≤ x then [] else
    let e := min x1 (64 * (x / 64) + 64)
    let rest := openRuns g ty x1 fuel e
    if g.at' (x / 64) ty then rest else
    match rest with
    | (a, b) :: r => if a = e then (x, b) :: r else (x, e) :: rest
    | [] => [(x, e)]

/-- The demand of a layer in a band, and what its count carries on to the next band: the last pre-decimated row needed
(as a count from row 0), and whether the palette has been counted. -/
structure Carry where
  next : Nat := 0
  pal : Bool := false
  deriving DecidableEq, Repr

/-- Bytes of one row of buffer columns, in both planes when `even` or the format has plane 1 on every row. -/
def State.rowBytes (s : State) (d : LayerDesc) (x0 x1 buf : Nat) : Nat :=
  let p := s.planes d
  (if p.1.1 = 0 then 0 else runBytes p.1.1 p.1.2 x0 x1) +
    (match p.2 with
     | some (b, g) => if d.fmt = 4 ∧ buf % 2 = 1 then 0 else runBytes b g x0 x1
     | none => 0)

/-- The rows of a vertically scaled layer that an output row needs and none before it did, and the carry after it. -/
def needRows (d : LayerDesc) (next y : Nat) : List Nat × Nat :=
  let i := (filtPos d.preH d.dstH y).1
  let clamp := fun (x : Int) => (clampI 0 ((d.preH : Int) - 1) x).toNat
  let lo := max (clamp (i - 3)) next
  let hi := clamp (i + 4) + 1
  ((List.range (hi - lo)).map (lo + ·), max next hi)

/-- The demand of a layer in one band (R227 to R231). -/
def State.layerBand (s : State) (d : LayerDesc) (g : Grid) (aw ah : Nat) (b : Band) (c : Carry) : BandLoad × Carry :=
  let c := if b.first then {} else c
  let v := d.rows ah
  let rows := b.rows.filter fun y => decide (v.1 ≤ y) && decide (y < v.2)
  let cs := d.cols aw
  let pal (c : Carry) (fetched : Bool) : Nat × Carry :=
    if d.fmt = 6 ∧ fetched ∧ !c.pal then (1024, { c with pal := true }) else (0, c)
  if d.direct then
    let runs := openRuns g (rows.headD 0 / 64) cs.2 256 cs.1
    let px := runs.foldl (fun n r => n + (r.2 - r.1)) 0
    let bx := fun x => d.cropX + ((x : Int) - d.dstX).toNat
    let bytes := rows.foldl (fun (n : Nat) (y : Nat) =>
      let buf := d.cropY + ((y : Int) - d.dstY).toNat
      n + runs.foldl (fun n r => n + s.rowBytes d (bx r.1) (bx r.2) buf) 0) 0
    let p := pal c (rows != [] && runs != [])
    (⟨px * rows.length, if d.src = 1 then 0 else bytes + p.1, 0, 0⟩, p.2)
  else if d.wv aw = 0 then ({}, c)
  else
    let ys := rows.map fun (y : Nat) => ((y : Int) - d.dstY).toNat
    let r : List Nat × Nat :=
      if d.vscaled then ys.foldl (fun a y => let q := needRows d a.2 y; (a.1 ++ q.1, q.2)) ([], c.next) else (ys, c.next)
    let bytes := r.1.foldl (fun n i => n + s.rowBytes d d.cropX (d.cropX + d.cropW) (d.cropY + d.dec * i)) 0
    let p := pal { c with next := r.2 } (r.1 != [])
    let on := b2n (d.scaled && ys != [])
    (⟨if ys = [] then 0 else max (d.cropW * r.1.length) (d.wv aw * ys.length), if d.src = 1 then 0 else bytes + p.1, on, on * d.segments aw⟩, p.2)

/-- The demand of a layer band by band. -/
def State.layerBands (s : State) (d : LayerDesc) (g : Grid) (aw ah : Nat) : List Band → Carry → List BandLoad
  | [], _ => []
  | b :: bs, c => let r := s.layerBand d g aw ah b c; r.1 :: s.layerBands d g aw ah bs r.2

/-- The layer-tiles in which a direct layer with a pixel there is culled. -/
def culledTiles (d : LayerDesc) (g : Grid) (aw ah : Nat) : Nat :=
  if !d.direct then 0 else
  let c := d.cols aw
  let r := d.rows ah
  if c.2 ≤ c.1 ∨ r.2 ≤ r.1 then 0 else
  (List.range (ceilDiv r.2 64 - r.1 / 64)).foldl (fun n j =>
    n + ((List.range (ceilDiv c.2 64 - c.1 / 64)).filter fun i => g.at' (c.1 / 64 + i) (r.1 / 64 + j)).length) 0

/-! ### The protected layer (R231, R251) -/

/-- The demand of one slot of head n's protected layer in a band at a placement: layer-pixels and bytes. -/
def State.slotBand (s : State) (n i : Nat) (place : Word) (aw ah : Nat) (b : Band) : Nat × Nat :=
  let w := s.get (F.CE_PL_S_SIZE_W (n / 2) (n % 2) i)
  let h := s.get (F.CE_PL_S_SIZE_H (n / 2) (n % 2) i)
  let x := signed 16 (bits place 15 0)
  let y := signed 16 (bits place 31 16)
  let c := visible x w aw
  let v := visible y h ah
  if w = 0 ∨ h = 0 ∨ c.2 ≤ c.1 then (0, 0) else
  let rows := (b.rows.filter fun r => decide (v.1 ≤ r) && decide (r < v.2)).length
  let bpp := 8 * slotBpp (s.get (F.CE_PL_S_FMT_FMT (n / 2) (n % 2) i))
  (rows * (c.2 - c.1), rows * runBytes bpp 1 ((c.1 : Int) - x).toNat ((c.2 : Int) - x).toNat)

/-- The placements at which a commit counts head n's protected layer (R251). -/
def State.plPlaces (s : State) (n : Nat) : List Word :=
  let p := s.pl n
  (if p.enabled then [p.place] else []) ++ (match p.pending with
    | some c => if c.en then [c.place] else []
    | none => [])

/-- The demand of the protected layer in a band: the larger of the slots, over placements (R251). -/
def State.plBand (s : State) (n : Nat) (places : List Word) (aw ah : Nat) (b : Band) : Nat × Nat :=
  places.foldl (fun a p => [0, 1].foldl (fun a i =>
    let c := s.slotBand n i p aw ah b
    (max a.1 c.1, max a.2 c.2)) a) (0, 0)

/-! ### Limits -/

/-- rate(b): layer-pixels per second of a band of nb rows (R236). -/
def bandRate (r : Nat × Nat × Nat × Nat) (lp nb : Nat) : Nat := ceilDiv (lp * r.2.1 * r.2.2.1) (nb * r.2.2.2)

/-- budget(b) of head n (R235). -/
def State.budget (s : State) (n : Nat) (r : Nat × Nat × Nat × Nat) (nb : Nat) : Nat :=
  s.get (F.HD_BW_RESERVE_RATE n) * 10 ^ 8 * nb * r.2.2.2 / (r.2.1 * r.2.2.1)

/-- The largest band rate, scaler count and segment count of a set of head n whose bands have been counted (R238). -/
def State.setPeaks (s : State) (n : Nat) (c : CommitSet) : Nat × Nat × Nat :=
  match s.raster n with
  | none => (0, 0, 0)
  | some r =>
    let a := rasterActive (s.fmt n)
    let places := s.plPlaces n
    ((bands (s.fmt n)).zip c.adm.bands).foldl (fun m e =>
      let pl := s.plBand n places a.1 a.2 e.1
      (max m.1 (bandRate r (e.2.lp + pl.1) e.1.rows.length), max m.2.1 e.2.sc, max m.2.2 e.2.seg)) (0, 0, 0)

/-- P_other, S_other and G_other for a check on head n (R238); `group` are the sets of the same group commit. -/
def State.otherPeaks (s : State) (n : Nat) (group : List CommitSet) : Nat × Nat × Nat :=
  let o := n / 2 * 2 + (1 - n % 2)
  if s.hst o = 0 then (0, 0, 0) else
  (s.liveSets o ++ group.filter fun c => c.head == o).foldl (fun m c =>
    let p := s.setPeaks o c
    (max m.1 p.1, max m.2.1 p.2.1, max m.2.2 p.2.2)) (0, 0, 0)

/-- 16 layer-pixels per clock at 1.0 GHz, less 0.1 % (R236). -/
def pixelLimit : Nat := 15984000000

/-- The scaler and segment totals of a band, layer by layer from the bottom: the first failure (R186, R237). -/
def bandScalers (b sc seg : Nat) : List (LayerDesc × BandLoad) → Option Verdict
  | [] => none
  | (d, l) :: ls =>
    if l.sc = 0 then bandScalers b sc seg ls
    else if 8 < sc + 1 then some ⟨3, some d.m, some b, sc + 1, 8⟩
    else if 3072 < seg + l.seg then some ⟨4, some d.m, some b, seg + l.seg, 3072⟩
    else bandScalers b (sc + 1) (seg + l.seg) ls

/-- PIXELS and BANDWIDTH of a band (R235, R236). -/
def State.bandSums (s : State) (n : Nat) (r : Nat × Nat × Nat × Nat) (pOther b nb lp bytes : Nat) : Option Verdict :=
  let rate := bandRate r lp nb + pOther
  if pixelLimit < rate then some ⟨2, none, some b, ceilDiv rate 1000000, 15984⟩
  else if s.budget n r nb < bytes then some ⟨1, none, some b, bytes, s.budget n r nb⟩
  else none

/-- The layers of a set with their tiles and demand, bottom first. -/
def State.setLoads (s : State) (c : CommitSet) : List (LayerDesc × Grid × List BandLoad) :=
  let a := rasterActive (s.fmt c.head)
  let bs := bands (s.fmt c.head)
  ((s.culled c.head a.1 a.2 c.blend.reverse []).reverse).map fun e => (e.1, e.2, s.layerBands e.1 e.2 a.1 a.2 bs {})

/-- Add the demand of layers in a band to that of the background (R230). -/
def sumLoads (bg : Nat) (ls : List (LayerDesc × BandLoad)) : BandLoad :=
  ls.foldl (fun a e => ⟨a.lp + e.2.lp, a.bytes + e.2.bytes, a.sc + e.2.sc, a.seg + e.2.seg⟩) ⟨bg, 0, 0, 0⟩

/-- The report of a set whose bands have been counted. -/
def State.report (s : State) (c : CommitSet) (loads : List (LayerDesc × Grid × List BandLoad)) : AdmReport :=
  let a := rasterActive (s.fmt c.head)
  { bands := (List.range (bands (s.fmt c.head)).length).map fun i =>
      sumLoads (a.1 * ((bands (s.fmt c.head)).getD i ⟨false, []⟩).rows.length) (loads.map fun e => (e.1, e.2.2.getD i {}))
    tiles := loads.foldl (fun t e => t + culledTiles e.1 e.2.1 a.1 a.2) 0
    culled := loads.filterMap fun e => if e.1.direct then some (e.1.m, e.2.1) else none }

/-- The tiles in which a layer of an applied set is culled (R234). -/
def CommitSet.grid (c : CommitSet) (m : Nat) : Grid := ((c.adm.culled.find? fun e => e.1 == m).map (·.2)).getD []

/-- The band checks of a set, from the lowest band (R186 step 6). -/
def State.bandCheck (s : State) (c : CommitSet) (r : Nat × Nat × Nat × Nat) (group : List CommitSet)
    (loads : List (LayerDesc × Grid × List BandLoad)) : Option Verdict :=
  let a := rasterActive (s.fmt c.head)
  let o := s.otherPeaks c.head group
  let places := s.plPlaces c.head
  (List.range (bands (s.fmt c.head)).length).foldl (fun v i =>
    if v.isSome then v else
    let b := (bands (s.fmt c.head)).getD i ⟨false, []⟩
    let ls := loads.map fun e => (e.1, e.2.2.getD i {})
    let t := sumLoads (a.1 * b.rows.length) ls
    let pl := s.plBand c.head places a.1 a.2 b
    bandScalers i o.2.1 o.2.2 ls <|> s.bandSums c.head r o.1 i b.rows.length (t.lp + pl.1) (t.bytes + pl.2)) none

/-- A map that the check of a set needs meets an uncorrectable error (R234): a map is needed where nothing but it decides whether a
layer hides a tile. -/
def State.mapErr (s : State) (c : CommitSet) : Bool :=
  let a := rasterActive (s.fmt c.head)
  (s.raster c.head).isSome && c.layers.any fun d =>
    d.usesMap && ((List.range (ceilDiv a.2 64)).any fun ty => (List.range (ceilDiv a.1 64)).any fun tx => d.mayHide a.1 a.2 tx ty) &&
      match s.cullMaps c.head d with
      | some ms => ms.any fun o => o.any (·.bad)
      | none => false

/-! ### Checks of a layer -/

/-- The input colour fields suit the source (R199). -/
def State.colourOk (s : State) (d : LayerDesc) : Bool :=
  if d.fmt = 7 ∨ d.fmt = 14 then true else
  let rgb := d.fmt ∈ [0, 1, 2, 6] || (d.fmt == 15 && (s.srcSampling d).1 == 2)
  let sub := d.fmt ∈ [3, 4, 8] || (d.fmt == 15 && (s.srcSampling d).1 == 0)
  (if rgb then d.matrix == 0 else decide (1 ≤ d.matrix) && decide (d.matrix ≤ 3)) &&
    decide (d.transfer ≤ 4) && decide (d.primaries ≤ 4) && (decide (d.transfer < 3) || d.primaries == 0) &&
    decide (d.siting ≤ 2) && (!sub || (d.cropX % 2 == 0 && d.cropW % 2 == 0)) &&
    (d.fmt != 4 || (d.cropY % 2 == 0 && d.cropH % 2 == 0))

/-- The scale limits of R206. -/
def LayerDesc.scaleOk (d : LayerDesc) : Bool :=
  decide (d.predec ≤ 2) &&
    (d.predec == 0 || (d.cropW % d.dec == 0 && d.cropH % d.dec == 0 && decide (d.dstW ≤ d.preW) && decide (d.dstH ≤ d.preH))) &&
    decide (d.preW ≤ 16 * d.dstW) && decide (d.preH ≤ 16 * d.dstH) && decide (d.dstW ≤ 64 * d.preW) && decide (d.dstH ≤ 64 * d.preH)

/-- A size of 1 to 8192. -/
def sizeOk (n : Nat) : Bool := decide (1 ≤ n) && decide (n ≤ 8192)

/-- The rules of formats 0 to 8 (R172): even sizes, pitches and, for LOCAL, addresses below 32 GiB. -/
def LayerDesc.planesOk (d : LayerDesc) : Bool :=
  let p := fmtPlanes d.fmt
  (!(d.fmt ∈ [3, 4, 8]) || d.srcW % 2 == 0) && (d.fmt != 4 || d.srcH % 2 == 0) &&
    decide (lineBytes p.1.1 d.srcW ≤ d.pitch0) && (match p.2 with
      | some q => decide (lineBytes q.1 d.srcW ≤ d.pitch1)
      | none => true) &&
    (d.src != 0 || d.extents.all fun e => decide (e.1 + e.2 ≤ memSize))

/-- The rules of an ingest layer on head n: its source exists, is steered to a frame buffer, and fits passthrough (R177,
R178, R343). -/
def State.ingestOk (s : State) (n : Nat) (d : LayerDesc) : Bool :=
  (if d.src = 2 then s.get (F.NR_CTRL_STEER d.index) == 0 else decide (d.index ≤ 15)) && (s.srcRing d == d.pt) &&
    (!d.pt || (s.srcRaster d == (s.fmt n, s.rate n) && d.cropY == 0 && decide (d.dstY = 0) && d.cropH == d.dstH && d.predec == 0))

/-- The rules of a dial or text layer (R311). -/
def State.dtOk (s : State) (d : LayerDesc) : Bool :=
  let z := s.dtNative d.index
  decide (d.index ≤ 319) && z.1 == 4 * d.srcW && z.2 == d.srcH && z.1 != 0 && z.2 != 0

/-- A layer passes FORMAT (R172, R174 to R178, R199, R206, R214). -/
def State.formatOk (s : State) (n : Nat) (d : LayerDesc) : Bool :=
  (match d.src with
    | 0 | 1 => decide (d.fmt ≤ 8) && d.planesOk
    | 2 | 3 => d.fmt == 15 && s.ingestOk n d
    | 4 => d.fmt == 14 && s.dtOk d
    | _ => false) &&
    (!d.pt || d.ingest) && d.notReady != 3 && d.late != 3 && decide (d.mode ≤ 4) &&
    sizeOk d.srcW && sizeOk d.srcH && sizeOk d.dstW && sizeOk d.dstH && decide (1 ≤ d.cropW) && decide (1 ≤ d.cropH) &&
    decide (d.cropX + d.cropW ≤ d.srcW) && decide (d.cropY + d.cropH ≤ d.srcH) && s.colourOk d && d.scaleOk

/-- A layer passes HOLD_LAYOUT against its previous applied state (R182). -/
def holdLayoutOk (d : LayerDesc) (old : Option LayerDesc) : Bool :=
  match old with
  | none => true
  | some o =>
    !(d.notReady == 0 && d.fenceEn && (d.addr0 != o.addr0 || d.addr1 != o.addr1)) ||
      (d.src == o.src && d.fmt == o.fmt && d.f 11 31 0 == o.f 11 31 0 && d.f 6 31 0 == o.f 6 31 0 && d.opaque' == o.opaque' &&
        d.opmapEn == o.opmapEn && d.premult == o.premult)

/-- A layer in local memory stays clear of protected windows that the writer does not own (R256). -/
def State.windowsOk (s : State) (org : Org) (d : LayerDesc) : Bool :=
  let ranges := if d.src = 0 then d.extents else if d.ingest then s.ingestExtents d else []
  (List.range 16).all fun w => s.isOwner w org || ranges.all fun e => !overlap e.1 e.2 (s.window w).1 (s.window w).2

/-- A passthrough layer fits the raster delay of head n (R178). -/
def State.passOk (s : State) (n : Nat) (d : LayerDesc) : Bool :=
  !d.pt || match s.raster n with
    | some r => decide (s.get (F.HD_FETCH_LEAD_LINES n) + ceilDiv (d.ptLag * 10 * r.2.2.1 * r.2.1) (r.2.2.2 * 1000000000) ≤ s.get (F.HD_PHASE_LINES n))
    | none => true

/-- The layers that the other head of the pair holds in its applied, pending or prepared sets (R9, R186). -/
def State.heldLayers (s : State) (n : Nat) : List Nat :=
  (s.liveSets (n / 2 * 2 + (1 - n % 2))).flatMap fun c => c.layers.map (·.m)

/-- The first failure of a layer's own checks (R186 step 4): its REASON. -/
def State.layerFail (s : State) (c : CommitSet) (d : LayerDesc) : Option Nat :=
  if d.m ∈ s.heldLayers c.head then some 7
  else if !s.formatOk c.head d then some 5
  else if !holdLayoutOk d ((s.head c.head).applied.bind fun a => a.layer d.m) then some 12
  else if !s.windowsOk c.org d then some 6
  else if !s.passOk c.head d then some 10
  else none

/-! ### Checks of the whole set (R186 step 5) -/

/-- The order list of R184: none if it is in order, else the layer reported, if any. -/
def CommitSet.orderFail (c : CommitSet) : Option (Option Nat) :=
  let w := c.order.getD 0 0
  let n := bits w 6 1
  if bits w 0 0 = 0 then none
  else if 32 < n then some none
  else
    let entry := fun i => bits (c.order.getD (1 + i / 4) 0) (8 * (i % 4) + 4) (8 * (i % 4))
    let es := (List.range n).map entry
    let bad := (List.range n).find? fun i => (c.layer (entry i)).isNone || (es.take i).contains (entry i)
    match bad with
    | some i => some (some (entry i))
    | none => (c.layers.find? fun d => !(es.contains d.m)).map fun d => some d.m

/-- A background component: an FP16 pattern that is negative, NaN or infinite fails; negative zero passes (R213). -/
def bgOk (p : Nat) : Bool := decide (p < 0x7C00) || p == 0x8000

/-- The output colour registers of destination d, CTRL and GAIN, suit it (R216). `enc` tells what it carries: 0 R'G'B', 1
Y'CbCr; SDI also demands narrow range. -/
def ocOk (sdi rgb : Bool) (ctrl gain : Word) : Bool :=
  let matrix := bits ctrl 5 4
  let g := bits gain 15 0
  (if rgb then matrix == 0 else matrix == 1 || matrix == 2) && (!sdi || bits ctrl 6 6 == 0) &&
    decide (bits ctrl 3 1 ≤ 3) && (!(bits ctrl 3 1 == 1 || bits ctrl 3 1 == 2) || bits ctrl 0 0 == 0) &&
    decide (1 ≤ g) && decide (g < 0x7C00) && (bits ctrl 9 9 == 0 || decide (1 ≤ bits ctrl 23 16))

/-- The enabled destinations of head n, and whether each carries R'G'B' (R216). -/
def State.dests (s : State) (n : Nat) : List (Nat × Bool) :=
  (if s.flag (F.HD_DEST_SDI_EN n) then [(0, false)] else []) ++
    (if s.flag (F.HD_DEST_DP_EN n) then [(1, s.get (F.HD_DEST_DP_ENC n) == 0)] else []) ++
    (if s.flag (F.HD_DEST_ST_EN n) then [(2, s.get (F.HD_DEST_ST_SAMPLING n) == 2)] else [])

/-- The output colour registers in force on head n: those of the applied vintage, else the reset values (log 25). -/
def State.ocApplied (s : State) (n : Nat) : List Word :=
  match (s.head n).applied with
  | some c => c.oc
  | none => (ocKeys n).map resetVal

/-- The first failure of the set's own checks (R186 step 5). -/
def State.setFail (s : State) (c : CommitSet) : Option Verdict :=
  match c.orderFail with
  | some l => some { reason := 5, layer := l }
  | none =>
    let bg := c.oc.getD 0 0
    if !(bgOk (bits bg 15 0) && bgOk (bits bg 31 16) && bgOk (bits (c.oc.getD 1 0) 15 0)) then some { reason := 5 }
    else if (s.dests c.head).any (fun d => !ocOk (d.1 == 0) d.2 (c.oc.getD (2 + 2 * d.1) 0) (c.oc.getD (3 + 2 * d.1) 0)) then
      some { reason := 5 }
    else if s.getE (F.CE_PL_CTRL_OC_LOCK (c.head / 2) (c.head % 2)) != 0 && !s.isOwner c.head c.org &&
        (s.dests c.head).any (fun d => (c.oc.drop (2 + 2 * d.1)).take 2 != ((s.ocApplied c.head).drop (2 + 2 * d.1)).take 2) then
      some { reason := 6 }
    else none

/-- The check of a set reaches its bands, and so reads its maps (R186, R234). -/
def State.reachesBands (s : State) (c : CommitSet) : Bool := c.layers.all (fun d => (s.layerFail c d).isNone) && (s.setFail c).isNone

/-- Steps 4 to 6 of R186 for a set: the verdict and the report. -/
def State.admission (s : State) (c : CommitSet) (group : List CommitSet) : Verdict × AdmReport :=
  match c.layers.findSome? (fun d => (s.layerFail c d).map fun r => (r, d.m)) with
  | some (r, m) => ({ reason := r, layer := some m }, {})
  | none =>
    match s.setFail c with
    | some v => (v, {})
    | none =>
      match s.raster c.head with
      | none => ({}, {})
      | some r =>
        let loads := s.setLoads c
        match s.bandCheck c r group loads with
        | some v => (v, {})
        | none => ({}, s.report c loads)

end Sys2Proof.Machine
end

