-- ==== Sys2Proof/Machine/Crc.lean ====
section
/-! DEFINITION. The polynomials of the check units (R258). -/

namespace Sys2Proof.Machine

/-- One bit of a reflected CRC: the reversed polynomial enters when a 1 leaves on the right. -/
def crcStepR (poly : Nat) (r : Nat) : Nat := if r % 2 = 1 then Nat.xor (r / 2) poly else r / 2

/-- One bit of a CRC of 16 bits that is not reflected. -/
def crcStep16 (r : Nat) : Nat := if 32768 ≤ r then Nat.xor (r * 2 % 65536) 0x1021 else r * 2

/-- A function applied n times. -/
def iterate (f : Nat → Nat) : Nat → Nat → Nat
  | 0, r => r
  | n + 1, r => iterate f n (f r)

/-- A byte fed to the running register: POLY 0 CRC-32C, POLY 1 CRC-32, otherwise CRC-16/CCITT. -/
def crcByte (poly : Nat) (r : Nat) (b : Byte) : Nat :=
  match poly with
  | 0 => iterate (crcStepR 0x82F63B78) 8 (Nat.xor r b.toNat)
  | 1 => iterate (crcStepR 0xEDB88320) 8 (Nat.xor r b.toNat)
  | _ => iterate crcStep16 8 (Nat.xor r (b.toNat * 256))

/-- The value with which the running register starts. -/
def crcInit (poly : Nat) : Nat := if poly < 2 then 0xFFFFFFFF else 0xFFFF

/-- The value XORed into the result. -/
def crcXorOut (poly : Nat) : Nat := if poly < 2 then 0xFFFFFFFF else 0

/-- The running register after a list of bytes. -/
def crcRun (poly : Nat) (r : Nat) (bs : List Byte) : Nat := bs.foldl (crcByte poly) r

/-- The CRC-32C of a list of bytes (R249, R193). -/
def crc32c (bs : List Byte) : Nat := Nat.xor (crcRun 0 (crcInit 0) bs) (crcXorOut 0)

end Sys2Proof.Machine
end

