-- ==== Sys2Proof/Machine/Commits.lean ====
section
/-! DEFINITION. Vintage commits (R185 to R194): deadlines and target frames (R158, R160), checks, acceptance, applying a set,
the journal, prepared sets and releases, and what a head's change of state does to its sets. -/

namespace Sys2Proof.Machine

/-- The header of engine k. -/
def ceB (k : Nat) : List Nat := [14, k]

/-! ### Deadlines and target frames -/

/-- The present count in units of 2^-32 ns. -/
def State.now (s : State) : Nat := unitsOf s.tai

/-- The count at which the commit deadline of a frame's boundary falls on head n (R158). `lead` is COMMIT_LEAD. -/
def State.deadlineAt (s : State) (n f lead : Nat) : Nat :=
  match s.raster n with
  | some r => sampleStart r ((f * r.2.1 + 6 - lead) * r.1 + s.delay n r.1)
  | none => 0

/-- COMMIT_LEAD as it stands for a frame: the value in effect for the boundary in progress, else the value written (R158). -/
def State.leadFor (s : State) (n f : Nat) : Nat :=
  if f ≤ (s.head n).bndNext then s.getE (F.HD_COMMIT_LEAD_LINES n) else s.get (F.HD_COMMIT_LEAD_LINES n)

/-- The deadline of a frame's boundary has passed: its tick is this one or an earlier one. -/
def State.deadlinePassed (s : State) (n f : Nat) : Bool := decide (s.deadlineAt n f (s.leadFor n f) ≤ s.now)

/-- The first frame at or after f whose deadline lies ahead, among the next `fuel`. -/
def State.firstOpen (s : State) (n : Nat) : Nat → Nat → Nat
  | 0, f => f
  | fuel + 1, f => if s.deadlinePassed n f then s.firstOpen n fuel (f + 1) else f

/-- The first frame whose line 1 starts on head n at or after a count, and not before the head starts (R147, R150). -/
def State.frameFrom (s : State) (n units : Nat) : Nat :=
  max (s.frameAfter n units) (if s.hst n = 1 then (s.head n).startFrame else 0)

/-- The frame that a set accepted now targets on head n (R158, R188). -/
def State.targetFrame (s : State) (n : Nat) : Nat :=
  let p := (s.pos n).getD (0, 1, 0)
  s.firstOpen n 4 (max p.1 (if s.hst n = 1 then (s.head n).startFrame else 0))

/-- The heads of a lock group. -/
def State.groupHeads (s : State) (g : Nat) : List Nat :=
  (List.range 16).filter fun n => s.get (F.HD_GROUP_GROUP n) == g

/-- Starting or running. -/
def State.active (s : State) (n : Nat) : Bool := s.hst n == 1 || s.hst n == 2

/-- The lowest frame rate, N and D, among heads (R160). -/
def State.lowRate (s : State) (ns : List Nat) : Nat × Nat :=
  ns.foldl (fun a n =>
    let b := rateND (s.rate n)
    if a.2 = 0 ∨ b.1 * a.2 < a.1 * b.2 then b else a) (0, 0)

/-- The frame of head n that starts with group frame g of a low rate (R160). -/
def State.memberFrame (s : State) (low : Nat × Nat) (g n : Nat) : Nat :=
  let b := rateND (s.rate n)
  g * b.1 * low.2 / (b.2 * low.1)

/-- The group frames are counted at the lowest rate among the running heads of the group (R160). -/
def State.groupRate (s : State) (n : Nat) : Nat × Nat :=
  s.lowRate ((s.groupHeads (s.get (F.HD_GROUP_GROUP n))).filter s.running)

/-- The deadline of a group frame has passed for some member (R160). -/
def State.groupPassed (s : State) (low : Nat × Nat) (members : List Nat) (g : Nat) : Bool :=
  members.any fun n => s.deadlinePassed n (s.memberFrame low g n)

/-- The first group frame at or after g whose deadline lies ahead, among the next `fuel`. -/
def State.firstGroup (s : State) (low : Nat × Nat) (members : List Nat) : Nat → Nat → Nat
  | 0, g => g
  | fuel + 1, g => if s.groupPassed low members g then s.firstGroup low members fuel (g + 1) else g

/-- The first group frame that starts at or after a count, at zero phase (R191). -/
def groupFrom (low : Nat × Nat) (units : Nat) : Nat := ceilDiv (units * low.1) (low.2 * 1000000000 * 2 ^ 32)

/-! ### Status -/

/-- Complete the wait of a COMMIT instruction for head n (R281). -/
def endCommitWait (n data tick : Nat) (e : Nat × CueSt) : Nat × CueSt :=
  match e.2.wait with
  | some w => if w.kind = .commit n then (e.1, { e.2 with wait := some (w.satisfy data false tick) }) else e
  | none => e

/-- Show the state of a commit, if it is its head's latest, and end the waits for its check (R185, R281). -/
def State.showState (s : State) (c : CommitSet) (st : Nat) (v : Verdict) (member : Nat) : State :=
  let k := c.head / 2
  let h := c.head % 2
  if (s.head c.head).latest ≠ c.serial then s else
  let was := s.get (F.CE_CSTAT_STATE k h)
  let s := s.wr (.CE_CSTAT, [k, h])
    (w32 (st + b2n v.layer.isSome * 8 + v.reason * 16 + v.layer.getD 0 * 256 + c.tag * 65536))
  let s := s.wr (.CE_CDET, [k, h]) (w32 (v.band.getD 0 + b2n v.band.isSome * 512 + member * 4096))
  if was = 1 ∧ st ≠ 1 then
    { s with cues := s.cues.map (endCommitWait c.head (s.rd (.CE_CSTAT, [k, h])).toNat s.tick) }
  else s

/-- Reject a set (R187). -/
def State.rejectSet (s : State) (c : CommitSet) (v : Verdict) (member : Nat) : State :=
  let k := c.head / 2
  let h := c.head % 2
  let s := s.showState c 5 v member
  let s := s.count (F.CE_CREJ_COUNT k h) 1
  let s := if 1 ≤ v.reason ∧ v.reason ≤ 4 then (s.set (F.CE_ADM_FAIL_NEED_NEED k h) (min v.need 0xFFFFFFFF)).set (F.CE_ADM_FAIL_LIMIT_LIMIT k h) (min v.limit 0xFFFFFFFF) else s
  let s := s.log 2 0 c.org (c.head + 5 * 16 + v.reason * 256 + v.layer.getD 0 * 4096) c.tag
  s.raise (0x086 + 8 * c.head) c.head c.org

/-- Cancel a set with a reason (R189, R191). -/
def State.cancelSet (s : State) (c : CommitSet) (reason : Nat) : State := s.showState c 7 { reason } 0

/-! ### Applying a set (R188, R189, R193) -/

/-- The words over which a journal record takes its CRC (R193). -/
def CommitSet.words (c : CommitSet) : List Word := c.layers.flatMap (·.words) ++ c.order ++ c.oc

/-- The journal flags of a set. -/
def CommitSet.flags (c : CommitSet) (stopped : Bool) : Nat :=
  b2n (c.members != []) * 16 + b2n c.released * 32 + b2n c.restored * 64 + b2n stopped * 128

/-- The bits of the layers of a list. -/
def layerMask (ms : List Nat) : Nat := ms.foldl (fun a m => a + 2 ^ m) 0

/-- The 64 bytes of a journal record. -/
def journalRecord (c : CommitSet) (vintage frame : Nat) (t : Stamp) (stopped : Bool) (notReady : List Nat) : List Byte :=
  bytesLE 4 vintage ++ bytesLE 4 (c.head + c.flags stopped + c.tag * 65536) ++ bytesLE 4 (c.org.cls + c.org.det % 65536 * 256) ++
    bytesLE 4 (layerMask (c.layers.map (·.m))) ++ bytesLE 4 frame ++ bytesLE 4 (frame / 2 ^ 32 % 65536) ++ bytesLE 4 t.sec ++
    bytesLE 4 (t.sec / 2 ^ 32 % 65536) ++ bytesLE 4 t.ns ++ bytesLE 4 (crc32c (c.words.flatMap fun w => bytesLE 4 w.toNat)) ++
    bytesLE 4 (layerMask notReady) ++ bytesLE 4 c.accepted ++ bytesLE 4 (c.accepted / 2 ^ 32 % 256) ++ bytesLE 4 0 ++ bytesLE 8 0

/-- Write a journal record (R193). -/
def State.journal (s : State) (k : Nat) (data : List Byte) : State :=
  if !s.flag (F.CE_JRN_CTRL_EN k) then s else
  let base := s.get (F.CE_JRN_BASE_HI_ADDR k) * 2 ^ 32 + s.get (F.CE_JRN_BASE_LO_ADDR k) * 4096
  let wr := s.get (F.CE_JRN_WR_COUNT k)
  let s := s.memWrite false {} ((base + wr % 2 ^ s.get (F.CE_JRN_CTRL_SIZE k) * 64) % memSize) data
  s.set (F.CE_JRN_WR_COUNT k) (wr + 1)

/-- The vintage number after another. -/
def nextVintage (v : Nat) : Nat := if v = 0xFFFFFFFF then 1 else v + 1

/-- The demand of the applied vintage, for the report of R242: bytes, rate, scalers, segments. -/
def State.reportPeaks (s : State) (c : CommitSet) : Nat × Nat × Nat × Nat :=
  let p := s.setPeaks c.head c
  let a := rasterActive (s.fmt c.head)
  let places := s.plPlaces c.head
  let bytes := ((bands (s.fmt c.head)).zip c.adm.bands).foldl (fun m e => max m (e.2.bytes + (s.plBand c.head places a.1 a.2 e.1).2)) 0
  (bytes, ceilDiv p.1 1000000, p.2.1, p.2.2)

/-- The admission report registers of head n (R242). -/
def State.setReport (s : State) (c : CommitSet) : State :=
  let k := c.head / 2
  let h := c.head % 2
  let p := s.reportPeaks c
  let s := s.wr (.CE_ADM_PEAK_B, [k, h]) (w32 p.1)
  let s := s.wr (.CE_ADM_PEAK_LP, [k, h]) (w32 (p.2.1 % 65536))
  let s := s.wr (.CE_ADM_PEAK_RES, [k, h]) (w32 (p.2.2.1 % 16 + p.2.2.2 * 16))
  s.wr (.CE_ADM_CULL, [k, h]) (w32 c.adm.tiles)

/-- A layer leaves a head: it shows nothing, and its status clears. -/
def State.dropLayer (s : State) (k m : Nat) : State :=
  let s := s.setLayer k m {}
  let s := ((s.set (F.CE_L_FENCE_STAT_HELD k m) 0).set (F.CE_L_FENCE_STAT_AWAIT k m) 0).wr (.CE_L_SHOWN_LO, [k, m]) 0
  s.wr (.CE_L_SHOWN_HI, [k, m]) 0

/-- A layer comes onto a head, or takes another ingest source. -/
def LayerDesc.enters (d : LayerDesc) (old : Option LayerDesc) : Bool :=
  match old with
  | some o => !(o.src == d.src && (!d.ingest || o.index == d.index))
  | none => true

/-- A layer comes onto a head, or changes its ingest source: frames complete from now on count (R177). What the deadline tick found
for it stands (R180). -/
def State.enterLayer (s : State) (k : Nat) (d : LayerDesc) (old : Option LayerDesc) : State :=
  if d.enters old then s.updLayer k d.m fun l => { l with sel := none, base := if d.ingest then (s.vid d.vidKey).count else 0 } else s

/-- The layers of the old vintage leave and those of the new one come (R181). -/
def State.swapLayers (s : State) (k : Nat) (old new : List LayerDesc) : State :=
  let s := old.foldl (fun s d => if new.any (fun e => e.m == d.m) then s else s.dropLayer k d.m) s
  new.foldl (fun s d => s.enterLayer k d (old.find? fun o => o.m == d.m)) s

/-- A set becomes its head's vintage: number, status, report and log entry. The journal record follows. -/
def State.applySet (s : State) (c : CommitSet) : State :=
  let k := c.head / 2
  let h := c.head % 2
  let old := ((s.head c.head).applied.map (·.layers)).getD []
  let v := if c.restored then 1 else nextVintage (s.get (F.CE_VINT_APP_VINTAGE k h))
  let s := s.swapLayers k old c.layers
  let s := s.updHead c.head fun x => { x with applied := some c, dropped := none, vintDrop := false }
  let s := s.wr (.CE_VINT_APP, [k, h]) (w32 v)
  let s := (s.showState c 4 {} 0).setReport c
  s.log 2 0 c.org (c.head + 4 * 16) v

/-- Apply a set on a stopped head (R188, R191). -/
def State.applyStopped (s : State) (c : CommitSet) : State :=
  let s := s.applySet c
  s.journal (c.head / 2) (journalRecord c (s.get (F.CE_VINT_APP_VINTAGE (c.head / 2) (c.head % 2))) 0 s.tai true [])

/-! ### Acceptance (R188, R190, R191) -/

/-- Insert a pending set by its target frame; one already there for the same boundary is superseded (R188). -/
def State.addPending (s : State) (c : CommitSet) : State :=
  let old := (s.head c.head).pending
  let s := (old.filter fun p => p.target == c.target).foldl (fun s p => s.showState p 6 {} 0) s
  let s := s.updHead c.head fun h => { h with
    pending := (old.filter fun p => decide (p.target < c.target)) ++ [c] ++ (old.filter fun p => decide (c.target < p.target)) }
  s.showState c 3 {} 0

/-- A set passes its check (R188, R191). -/
def State.acceptSet (s : State) (c : CommitSet) : State :=
  let c := { c with accepted := s.dtime }
  if c.prep then (s.updHead c.head fun h => { h with prepared := some c }).showState c 2 {} 0
  else if s.hst c.head = 0 then s.applyStopped c
  else s.addPending { c with target := s.targetFrame c.head }

/-- The last member of a group passes: every member is accepted for the same group frame (R190). -/
def State.acceptGroup (s : State) (sets : List CommitSet) (members : List Nat) : State :=
  let low := s.groupRate (members.headD 0)
  let g := s.firstGroup low members 8 (groupFrom low s.now - 2)
  sets.foldl (fun s c =>
    let c := { c with accepted := s.dtime, target := s.memberFrame low g c.head }
    if c.prep then (s.updHead c.head fun h => { h with prepared := some c }).showState c 2 {} 0 else s.addPending c) s

/-! ### Checks (R185, R186) -/

abbrev engD : Nat → EngineSt := fun _ => {}

def State.eng (s : State) (k : Nat) : EngineSt := mget engD s.engines k

def State.setChecks (s : State) (k : Nat) (cs : List Check) : State := { s with engines := nput engD s.engines k ⟨cs⟩ }

/-- The sets of a group commit that are known so far, with their demand (R238). -/
def State.groupSets (s : State) (serial : Nat) : List CommitSet :=
  ((s.groups.filter fun g => g.serial == serial).flatMap (·.passed)) ++
    ((List.range 8).flatMap fun k => (s.eng k).checks.filterMap fun c =>
      if c.set.serial = serial then some { c.set with adm := s.report c.set (s.setLoads c.set) } else none)

/-- The verdict of a check that starts now (R186). -/
def State.judgeSet (s : State) (c : CommitSet) : Verdict × AdmReport :=
  let st := s.hst c.head
  let h := s.head c.head
  if 3 ≤ st ∨ (c.members ≠ [] ∧ st = 0) then ({ reason := 8 }, {})
  else if h.prepared.isSome then ({ reason := 11 }, {})
  else if h.pending.any fun p => p.members != [] then ({ reason := 9 }, {})
  else s.admission c (if c.members = [] then [] else (s.groupSets c.serial).filter fun x => x.head != c.head)

/-- A map that a check needed and could not read latches MAP_ERR (R234). -/
def State.latchMapErr (s : State) (c : CommitSet) : State :=
  if s.reachesBands c && s.mapErr c then s.latch (ceB (c.head / 2)) 0x800 else s

/-- Start the check at the front of an engine's queue (R185). -/
def State.startCheck (s : State) (k : Nat) : State :=
  match (s.eng k).checks with
  | [] => s
  | c :: cs =>
    if c.verdict.isSome then s else
    let r := s.judgeSet c.set
    let early := r.1.reason ∈ [8, 9, 11]
    let s := if early then s else s.latchMapErr c.set
    s.setChecks k ({ c with verdict := some r.1, set := { c.set with adm := r.2 } } :: cs)

/-- Queue the checks of sets on their engines. -/
def State.queueChecks (s : State) (sets : List CommitSet) : State :=
  let s := sets.foldl (fun s c => s.setChecks (c.head / 2) ((s.eng (c.head / 2)).checks ++ [{ set := c }])) s
  sets.foldl (fun s c => s.startCheck (c.head / 2)) s

/-- A group fails: its remaining checks end, and every member is rejected (R190). -/
def State.failGroup (s : State) (members : List Nat) (sets : List CommitSet) (serial bad : Nat) (v : Verdict) : State :=
  let s := (List.range 8).foldl (fun s k => s.setChecks k ((s.eng k).checks.filter fun c => c.set.serial != serial)) s
  let s := { s with groups := s.groups.filter fun g => g.serial != serial }
  let s := members.foldl (fun s n =>
    match sets.find? fun c => c.head == n with
    | some c => if n = bad then s.rejectSet c v n else s.rejectSet c { reason := 9 } bad
    | none => s) s
  (List.range 8).foldl (fun s k => s.startCheck k) s

/-- Note the sets of a group that have passed. -/
def setPassed (serial : Nat) (passed : List CommitSet) (g : GroupSt) : GroupSt :=
  if g.serial = serial then { g with passed := passed } else g

/-- Note that a member has left STARTING or RUNNING. -/
def markLeft (n : Nat) (g : GroupSt) : GroupSt := if n ∈ g.members then { g with left := g.left ++ [n] } else g

/-- The check at the front of engine k ends (R186 to R190). -/
def checkDone (k : Nat) (s : State) : State :=
  if !s.blocksUp then s else
  match (s.eng k).checks with
  | [] => s
  | c :: cs =>
    let v : Verdict := if c.left then { reason := 8 } else c.verdict.getD {}
    if c.set.members = [] then
      let s := s.setChecks k cs
      let s := if v.reason = 0 then s.acceptSet c.set else s.rejectSet c.set v 0
      s.startCheck k
    else
      match s.groups.find? fun g => g.serial == c.set.serial with
      | none => (s.setChecks k cs).startCheck k
      | some g =>
        let all := g.passed ++ ((List.range 8).flatMap fun k => (s.eng k).checks.filterMap fun x =>
          if x.set.serial = g.serial then some x.set else none)
        if v.reason ≠ 0 then s.failGroup g.members all g.serial c.set.head v else
        let s := s.setChecks k cs
        let passed := g.passed ++ [c.set]
        if passed.length < g.members.length then
          ({ s with groups := s.groups.map (setPassed g.serial passed) }).startCheck k
        else
          match g.left.head? with
          | some n => s.failGroup g.members all g.serial n { reason := 8 }
          | none =>
            let s := { s with groups := s.groups.filter fun x => x.serial != g.serial }
            (s.acceptGroup passed g.members).startCheck k

/-! ### The commit and release registers -/

/-- The head that a write to CEk_COMMIT or CEk_RELEASE names. -/
def namedHead (k : Nat) (v : Word) : Nat := 2 * k + bits v 0 0

/-- The members of the commit that a write starts: none for a single commit (R190). -/
def State.commitMembers (s : State) (k : Nat) (v : Word) : List Nat :=
  let g := s.get (F.HD_GROUP_GROUP (namedHead k v))
  if bits v 1 1 = 1 ∧ g ≠ 0 then (s.groupHeads g).filter s.active else []

/-- A group commit is asked for. -/
def State.asksGroup (s : State) (k : Nat) (v : Word) : Bool :=
  bits v 1 1 == 1 && s.get (F.HD_GROUP_GROUP (namedHead k v)) != 0

/-- A head's latest commit is being checked. -/
def State.checking (s : State) (n : Nat) : Bool := s.get (F.CE_CSTAT_STATE (n / 2) (n % 2)) == 1

/-- A commit write is refused while the head, or a member of its group commit, is CHECKING (R185, R190). -/
def State.commitBusy (s : State) (k : Nat) (v : Word) : Bool :=
  s.checking (namedHead k v) || (s.commitMembers k v).any s.checking

/-- Number a new commit of heads. -/
def State.newSerial (s : State) (ns : List Nat) : State :=
  let n := s.serial + 1
  ns.foldl (fun s h => s.updHead h fun x => { x with latest := n }) { s with serial := n }

/-- An accepted write to CEk_COMMIT (R185, R190). -/
def State.commitWrite (s : State) (k : Nat) (v : Word) (org : Org) : State :=
  let n := namedHead k v
  let tag := bits v 31 16
  let prep := bits v 2 2 == 1
  let members := s.commitMembers k v
  if s.asksGroup k v ∧ !s.active n then
    let s := s.newSerial [n]
    s.rejectSet { head := n, serial := s.serial, tag, org } { reason := 8 } n
  else
    let heads := if members = [] then [n] else members
    let s := s.newSerial heads
    let sets := heads.map fun h => { s.formSet h tag org prep with serial := s.serial, members := members }
    let s := if members = [] then s else { s with groups := s.groups ++ [{ serial := s.serial, members }] }
    let s := sets.foldl (fun s c => s.showState c 1 {} 0) s
    s.queueChecks sets

/-- The heads whose prepared sets a release on head n acts on (R191). -/
def State.releaseHeads (s : State) (n : Nat) : List Nat :=
  match (s.head n).prepared with
  | some c => if c.members = [] then [n] else c.members
  | none => []

/-- Take the prepared sets of heads out of PREPARED and do something with each. -/
def State.takePrepared (s : State) (ns : List Nat) (f : State → CommitSet → State) : State :=
  ns.foldl (fun s n =>
    match (s.head n).prepared with
    | some c => f (s.updHead n fun h => { h with prepared := none }) c
    | none => s) s

/-- The count that a domain time names, seen from now: none when it is past (R191, R301). -/
def State.domainCount (s : State) (t : Nat) : Option Nat :=
  let d := (t + 2 ^ 40 - s.dtime) % 2 ^ 40
  if 2 ^ 39 ≤ d then none else some ((s.tb.sec * 1000000000 + s.tb.ns + d) * 2 ^ 32)

/-- Release the prepared set of head n for a release time (R191). -/
def State.releaseSet (s : State) (n : Nat) : State :=
  let ns := s.releaseHeads n
  let t := s.get (F.CE_RELEASE_AT_HI_T (n / 2) (n % 2)) * 2 ^ 32 + s.get (F.CE_RELEASE_AT_LO_T (n / 2) (n % 2))
  if s.hst n = 0 then s.takePrepared ns fun s c => s.applyStopped { c with released := true }
  else
    match s.domainCount t with
    | none => s.takePrepared ns fun s c => s.cancelSet c 13
    | some u =>
      match (s.head n).prepared with
      | none => s
      | some c0 =>
        if c0.members = [] then
          let f := s.frameFrom n u
          if s.deadlinePassed n f then s.takePrepared ns fun s c => s.cancelSet c 13
          else s.takePrepared ns fun s c => s.addPending { c with released := true, target := f }
        else
          let low := s.groupRate n
          let g := groupFrom low u
          if s.groupPassed low c0.members g then s.takePrepared ns fun s c => s.cancelSet c 13
          else s.takePrepared ns fun s c => s.addPending { c with released := true, target := s.memberFrame low g c.head }

/-- An accepted write to CEk_RELEASE for a head that holds a prepared set (R191). -/
def State.releaseWrite (s : State) (k : Nat) (v : Word) : State :=
  let n := namedHead k v
  if bits v 1 1 = 1 then s.takePrepared (s.releaseHeads n) fun s c => s.cancelSet c 14 else s.releaseSet n

/-! ### Leaving a state -/

/-- A head leaves STARTING or RUNNING: its checks fail and its prepared set is cancelled (R186, R190, R191). -/
def State.leaveActive (s : State) (n : Nat) : State :=
  let s := (List.range 8).foldl (fun s k =>
    s.setChecks k ((s.eng k).checks.map fun c => if c.set.head = n then { c with left := true } else c)) s
  let s := { s with groups := s.groups.map (markLeft n) }
  s.takePrepared (s.releaseHeads n) fun s c => s.cancelSet c 15

/-- A head enters STOPPED, SAFE or HELD: its pending sets are cancelled (R189), and its layers show nothing. -/
def State.dropPending (s : State) (n : Nat) : State :=
  let ps := (s.head n).pending
  let s := s.updHead n fun h => { h with pending := [], showing := none, dlShown := none, fetched := [], plRows := [], chroma := [] }
  let s := ps.foldl (fun s c => s.cancelSet c 15) s
  (((s.head n).applied.map (·.layers)).getD []).foldl (fun s d =>
    let l := s.layer (n / 2) d.m
    (s.dropLayer (n / 2) d.m).setLayer (n / 2) d.m { sel := l.sel, base := l.base, fence := l.fence }) s

/-- A protected-layer commit that waits is cancelled when its head stops being active (R252). -/
def State.cancelPl (s : State) (n : Nat) : State :=
  let p := s.pl n
  match p.pending with
  | none => s
  | some c =>
    let s := s.setPl n { p with pending := none }
    if c.latest then (s.set (F.CE_PL_CSTAT_STATE (n / 2) (n % 2)) 7).set (F.CE_PL_CSTAT_REASON (n / 2) (n % 2)) 8 else s

/-- Change a head's state with what follows for its sets (R186, R189 to R191, R252). -/
def State.moveHead (s : State) (n st : Nat) : State :=
  let was := s.hst n
  let s := s.setHst n st
  let s := if (was = 1 ∨ was = 2) ∧ st ≠ 1 ∧ st ≠ 2 then (s.leaveActive n).cancelPl n else s
  if st = 0 ∨ st = 4 ∨ st = 5 then s.dropPending n else s

end Sys2Proof.Machine
end

