-- ==== Sys2Proof/Machine/Protected.lean ====
section
/-! DEFINITION. Protected layers: commits, scans, verdicts and the boundary's rules (R249 to R257); and the check units (R258 to
R261). -/

namespace Sys2Proof.Machine

/-- The origin of a fault of head n's protected layer, whose entry names the head (R254). -/
def plOrg (n : Nat) : Org := ⟨0, n⟩

/-- The check unit of head n's protected layer. -/
def State.plUnit (s : State) (n : Nat) : Nat := s.get (F.CE_PL_CTRL_CK (n / 2) (n % 2))

/-- PLh_CSTAT.MODE: 0 NORMAL, 1 HOLD, 2 BOX, 3 OFF. -/
def State.plMode (s : State) (n : Nat) : Nat := s.get (F.CE_PL_CSTAT_MODE (n / 2) (n % 2))

def State.setPlMode (s : State) (n m : Nat) : State := s.set (F.CE_PL_CSTAT_MODE (n / 2) (n % 2)) m

/-- PLh_CSTAT.STATE and REASON. -/
def State.setPlState (s : State) (n st reason : Nat) : State :=
  (s.set (F.CE_PL_CSTAT_STATE (n / 2) (n % 2)) st).set (F.CE_PL_CSTAT_REASON (n / 2) (n % 2)) reason

/-- A slot of head n is in use (R248). -/
def State.slotInUse (s : State) (n i : Nat) : Bool :=
  let p := s.pl n
  (p.enabled && p.sel == i) || (s.plMode n != 3 && s.get (F.CE_PL_CSTAT_SHOWN (n / 2) (n % 2)) == i) ||
    p.checking.any (fun c => c.slot == i) || p.pending.any (fun c => c.slot == i)

/-- The window of head n is running (R246): from the first commit with EN = 1 that passed its checks until the layer is disabled,
whatever becomes of that commit, and while a commit is in CHECKING, VERIFYING or PENDING. -/
def State.windowRunning (s : State) (n : Nat) : Bool :=
  let p := s.pl n
  p.windowOn || p.enabled || p.checking.isSome || p.pending.isSome

/-! ### Checks (R249, R250, R257) -/

/-- Slot i of head n passes FORMAT (R249). -/
def State.slotFormatOk (s : State) (n i : Nat) : Bool :=
  let g := s.slotGeom n i
  let tr := s.get (F.CE_PL_S_FMT_TRANSFER (n / 2) (n % 2) i)
  let pr := s.get (F.CE_PL_S_FMT_PRIMARIES (n / 2) (n % 2) i)
  decide (s.get (F.CE_PL_S_FMT_FMT (n / 2) (n % 2) i) ≤ 2) && sizeOk (s.get (F.CE_PL_S_SIZE_W (n / 2) (n % 2) i)) && sizeOk g.2.2.1 &&
    decide (g.2.1 ≤ g.2.2.2) && decide (tr ≤ 4) && decide (pr ≤ 4) && (decide (tr < 3) || pr == 0)

/-- Slot i of head n lies wholly inside the window (R249). -/
def State.slotInWindow (s : State) (n i : Nat) : Bool :=
  let g := s.slotGeom n i
  let w := s.window n
  decide (w.1 ≤ g.1) && decide (g.1 + (g.2.2.1 - 1) * g.2.2.2 + g.2.1 ≤ w.1 + w.2)

/-- Content bytes of the larger slot of head n. -/
def State.slotMax (s : State) (n : Nat) : Nat :=
  max ((s.slotGeom n 0).2.1 * (s.slotGeom n 0).2.2.1) ((s.slotGeom n 1).2.1 * (s.slotGeom n 1).2.2.1)

/-- The protection load of heads on unit u, in bytes per 1001 s (R257). -/
def State.protLoad (s : State) (ns : List Nat) : Nat :=
  ns.foldl (fun a n => a + s.slotMax n * (rateND (s.rate n)).1 * (1001 / (rateND (s.rate n)).2)) 0

/-- The heads whose enabled protected layer unit u verifies. -/
def State.plHeads (s : State) (u : Nat) : List Nat := (List.range 16).filter fun n => (s.pl n).enabled && s.plUnit n == u

/-- The band checks of head n's sets with the protected layer at a placement (R250): 1 BANDWIDTH, 2 PIXELS. -/
def State.plBands (s : State) (n : Nat) (places : List Word) : Nat :=
  match s.raster n with
  | none => 0
  | some r =>
    let a := rasterActive (s.fmt n)
    let o := s.otherPeaks n []
    let bs := bands (s.fmt n)
    (s.liveSets n).foldl (fun v c =>
      if v ≠ 0 then v else
      ((List.range bs.length).findSome? fun i =>
        let b := bs.getD i ⟨false, []⟩
        let l := c.adm.bands.getD i { lp := a.1 * b.rows.length }
        let pl := s.plBand n places a.1 a.2 b
        (s.bandSums n r o.1 i b.rows.length (l.lp + pl.1) (l.bytes + pl.2)).map (·.reason)).getD 0) 0

/-- The reason with which a protected-layer commit of head n fails, 0 for a pass (R250). -/
def State.plJudge (s : State) (n : Nat) (c : PlCommit) : Nat :=
  if 3 ≤ s.hst n then 5
  else if !s.slotFormatOk n c.slot then 3
  else if !s.slotInWindow n c.slot then 4
  else
    let hs := (s.plHeads (s.plUnit n)).filter (· != n) ++ (if c.en then [n] else [])
    if 12800000000 * 1001 < s.protLoad hs then 7
    else if c.en then s.plBands n [c.place] else 0

/-! ### The ordinary scan of a check unit (R259, R261) -/

def ckB : List Nat := [7, 0]

abbrev ckD : Nat → CkSt := fun _ => {}

def State.ck (s : State) (u : Nat) : CkSt := mget ckD s.cks u

def State.setCk (s : State) (u : Nat) (c : CkSt) : State := { s with cks := nput ckD s.cks u c }

/-- All bytes of rows of memory. -/
def State.region (s : State) (a len stride : Nat) : Nat → List Byte
  | 0 => []
  | n + 1 => s.bytes a len ++ s.region (a + stride) len stride n

/-- A region meets an uncorrectable unit. -/
def State.regionBad (s : State) (a len stride rows : Nat) : Bool := (List.range rows).any fun r => s.badIn (a + r * stride) len

/-- The region of unit u: address, bytes a row, stride, rows. -/
def State.ckRegion (s : State) (u : Nat) : Nat × Nat × Nat × Nat :=
  (s.get (F.CK_ADDR_HI_ADDR u) * 2 ^ 32 + s.get (F.CK_ADDR_LO_ADDR u), s.get (F.CK_LEN_BYTES u), s.get (F.CK_STRIDE_BYTES u),
    s.get (F.CK_ROWS_ROWS u))

/-- Bytes of the region of unit u. -/
def State.ckTotal (s : State) (u : Nat) : Nat := (s.ckRegion u).2.1 * (s.ckRegion u).2.2.2

/-- The running register of unit u when its scan has been fed n bytes: its value now, over the bytes from the last one fed. What was
fed before is in RUN and is not read again. -/
def State.ckRunAt (s : State) (u n : Nat) : Nat :=
  let r := s.ckRegion u
  let k := (s.ck u).fed
  crcRun (s.get (F.CK_CFG_POLY u)) (s.get (F.CK_RUN_VALUE u)) (((s.region r.1 r.2.1 r.2.2.1 r.2.2.2).drop k).take (n - k))

/-- The bytes fed when n have been asked for: never fewer than before, and never past the region. -/
def State.ckReach (s : State) (u n : Nat) : Nat := min (max n (s.ck u).fed) (s.ckTotal u)

/-- Bytes are fed up to n. A paused scan keeps its context (R261). -/
def State.ckFeed (s : State) (u n : Nat) : State :=
  if s.flag (F.CK_STAT_PAUSED u) then s else
  let n := s.ckReach u n
  let s := s.set (F.CK_RUN_VALUE u) (s.ckRunAt u n)
  s.setCk u { s.ck u with fed := n }

/-- Where a scan that has come to byte n stops for a pause: the next 64-byte granule, or the end of the row (R261). -/
def State.ckGranule (s : State) (u n : Nat) : Nat :=
  let r := s.ckRegion u
  n + min ((64 - (r.1 + n / r.2.1 * r.2.2.1 + n % r.2.1) % 64) % 64) (r.2.1 - n % r.2.1)

/-- The ordinary scan of unit u pauses (R261). How far it has come is free. -/
def State.pauseUnit (s : State) (u : Nat) : State :=
  if s.get (F.CK_STAT_STATE u) ≠ 1 ∨ s.flag (F.CK_STAT_PAUSED u) then s else
  let x := s.fresh
  let s := x.2.ckFeed u (s.ckGranule u (s.ckReach u x.1))
  s.set (F.CK_STAT_PAUSED u) 1

/-! ### Scans (R252, R253) -/

/-- Start a scan of head n's layer now: DIRTY clears, and an ordinary scan of the unit pauses (R255, R261). -/
def State.beginScan (s : State) (n : Nat) (c : PlScan) : State :=
  let s := s.updPl n fun p => { p with scan := some c }
  let s := s.set (F.CE_PL_S_STAT_DIRTY (n / 2) (n % 2) c.slot) 0
  s.pauseUnit (s.plUnit n)

/-- Ask for a scan: it starts at once, or waits for the one in progress. -/
def State.askScan (s : State) (n : Nat) (c : PlScan) : State :=
  if (s.pl n).scan.isNone then s.beginScan n c else s.updPl n fun p => { p with queued := some c }

/-- No protected scan is left on a unit, and the power steward holds none: an ordinary scan resumes (R261, R457). -/
def State.resumeUnit (s : State) (u : Nat) : State :=
  if s.ps.capped || (List.range 16).any fun n => s.plUnit n == u && (s.pl n).scan.isSome then s else s.set (F.CK_STAT_PAUSED u) 0

/-- The content of slot i meets an uncorrectable HBM error (R255). -/
def State.slotBad (s : State) (n i : Nat) : Bool :=
  let g := s.slotGeom n i
  s.regionBad g.1 g.2.1 g.2.2.2 g.2.2.1

/-- The verdict on a slot's content: 1 GOOD, 2 REF, 3 BAD. -/
def State.slotVerdict (s : State) (n i : Nat) : Nat :=
  let g := s.slotGeom n i
  let ref := s.rd (.CE_PL_S_REF, [n / 2, n % 2, i])
  let inv := ~~~ s.rd (.CE_PL_S_REF_N, [n / 2, n % 2, i])
  if s.slotBad n i then 3 else
  let crc := w32 (crc32c (s.region g.1 g.2.1 g.2.2.2 g.2.2.1))
  if inv = ref then (if crc = ref then 1 else 3) else if crc = ref ∨ crc = inv then 2 else 3

/-- Record a verdict on a slot. -/
def State.setVerdict (s : State) (n i v : Nat) : State :=
  (s.set (F.CE_PL_S_STAT_VERDICT (n / 2) (n % 2) i) v).set (F.CE_PL_S_STAT_VERIFIED (n / 2) (n % 2) i) (b2n (v == 1 || v == 2))

/-- Log a protected-layer commit applied or rejected (R439). -/
def State.logPl (s : State) (n : Nat) (c : PlCommit) (st reason : Nat) : State :=
  s.log 2 0 c.org (n + st * 16 + reason * 256 + 2 ^ 17)
    (if st = 4 then s.get (F.CE_VINT_APP_VINTAGE (n / 2) (n % 2)) else c.tag)

/-- A commit takes its place and selection (R252). CSTAT shows it only while no later commit has been written. -/
def State.applyPl (s : State) (n : Nat) (c : PlCommit) : State :=
  let s := s.updPl n fun p => { p with enabled := c.en, sel := c.slot, place := c.place, pending := none }
  let s := if c.en then s else
    (s.updPl n fun p => { p with fixed := none, verdict := none, lateRun := 0, shownOnce := false, windowOn := false }).setPlMode n 3
  (if c.latest then s.setPlState n 4 0 else s).logPl n c 4 0

/-- A commit passes its checks (R252): one that was pending is superseded and releases its slot, and with EN = 1 the window runs from
now on (R246). -/
def State.acceptPl (s : State) (n : Nat) (c : PlCommit) : State :=
  s.updPl n fun p => { p with pending := none, windowOn := p.windowOn || c.en }

/-- A protected-layer commit becomes PENDING (R252). -/
def State.pendPl (s : State) (n : Nat) (c : PlCommit) : State :=
  (s.updPl n fun p => { p with checking := none, verifying := false, pending := some { c with target := s.targetFrame n } }).setPlState n 3 0

/-- A scan of head n's layer ends (R252, R253). -/
def plScanDone (n : Nat) (s : State) : State :=
  if !s.blocksUp then s else
  match (s.pl n).scan with
  | none => s
  | some sc =>
    let v := s.slotVerdict n sc.slot
    let s := if s.slotBad n sc.slot then s.raise (0x14C + s.plUnit n) (s.plUnit n) else s
    let s := s.setVerdict n sc.slot v
    let s := s.updPl n fun p => { p with scan := none }
    let s : State :=
      if sc.forCommit then
        match (s.pl n).checking with
        | none => s
        | some c =>
          let s := s.updPl n fun p => { p with checking := none, verifying := false }
          if v = 3 then
            ((s.setPlState n 5 6).logPl n c 5 6).raise 0x140 n (plOrg n)
          else
            let s := if v = 2 then s.raise 0x141 n (plOrg n) else s
            if s.active n then s.pendPl n { c with verdict := some v } else s.setPlState n 7 8
      else s.updPl n fun p => { p with verdict := some v }
    match (s.pl n).queued with
    | some q => (s.updPl n fun p => { p with queued := none }).beginScan n q
    | none => s.resumeUnit (s.plUnit n)

/-- The check of a protected-layer commit ends (R250, R252). -/
def plCheckDone (n : Nat) (s : State) : State :=
  if !s.blocksUp then s else
  match (s.pl n).checking with
  | none => s
  | some c =>
    if (s.pl n).verifying then s else
    let reason := if 3 ≤ s.hst n then 5 else c.reason
    if reason ≠ 0 then
      ((s.updPl n fun p => { p with checking := none }).setPlState n 5 reason).logPl n c 5 reason
    else
    let s := s.acceptPl n c
    if s.hst n = 0 then (s.updPl n fun p => { p with checking := none }).applyPl n c
    else if (s.pl n).enabled ∧ s.plMode n ≠ 3 ∧ (s.pl n).sel = c.slot then s.pendPl n c
    else ((s.updPl n fun p => { p with verifying := true }).setPlState n 2 0).askScan n ⟨c.slot, true⟩

/-- An accepted write of CEk_PLh_COMMIT (R250). -/
def State.plCommitWrite (s : State) (n : Nat) (v : Word) (org : Org) : State :=
  let c : PlCommit := { slot := bits v 0 0, en := bits v 1 1 == 1, tag := bits v 31 16, place := s.rd (.CE_PL_PLACE, [n / 2, n % 2]), org := org }
  let s := s.updPl n fun p =>
    { p with checking := some { c with reason := s.plJudge n c }, verifying := false, pending := p.pending.map fun o => { o with latest := false } }
  (s.set (F.CE_PL_CSTAT_TAG (n / 2) (n % 2)) c.tag).setPlState n 1 0

/-! ### Deadline and boundary (R253, R254) -/

/-- The deadline tick fixes the verdict for the coming boundary: LATE when the scan still runs (R253). -/
def State.fixVerdict (s : State) (n : Nat) : State :=
  let p := s.pl n
  if !p.enabled then s else
  match p.verdict with
  | some v => s.setPl n { p with fixed := some v, verdict := none }
  | none =>
    if p.scan.any (fun c => !c.forCommit) || p.queued.any (fun c => !c.forCommit) then
      (s.setPl n { p with fixed := some 4 }).setVerdict n p.sel 4
    else s

/-- A layer with a verdict that shows it (R254). -/
def State.showPl (s : State) (n : Nat) : State :=
  let s := s.updPl n fun p => { p with lateRun := 0, shownOnce := true }
  (s.set (F.CE_PL_CSTAT_SHOWN (n / 2) (n % 2)) (s.pl n).sel).setPlMode n 0

/-- A verdict that acts as BAD (R254): the other slot under HOLD, or the box. -/
def State.badPl (s : State) (n : Nat) : State :=
  let k := n / 2
  let h := n % 2
  let o := 1 - (s.pl n).sel
  let s := s.count (F.CE_PL_FAILS_COUNT k h) 1
  let s := s.updPl n fun p => { p with lateRun := 0 }
  let s := s.raise 0x140 n (plOrg n)
  if s.getE (F.CE_PL_CTRL_FALLBACK k h) = 0 ∧ s.flag (F.CE_PL_S_STAT_VERIFIED k h o) ∧ !s.flag (F.CE_PL_S_STAT_DIRTY k h o) then
    let s := s.updPl n fun p => { p with sel := o, shownOnce := true }
    (s.set (F.CE_PL_CSTAT_SHOWN k h) o).setPlMode n 1
  else s.setPlMode n 2

/-- The rules of R254 at a boundary of head n, after a pending commit for frame f has been applied (R252). -/
def State.plBoundary (s : State) (n f : Nat) : State :=
  let s : State := match (s.pl n).pending with
    | some c =>
      if c.target ≤ f then
        let s := s.applyPl n c
        match c.verdict with
        | some _ => if c.en then (s.updPl n fun p => { p with fixed := some 1 }) else s
        | none => s
      else s
    | none => s
  let p := s.pl n
  if !p.enabled then s else
  let s := s.updPl n fun p => { p with fixed := none }
  match p.fixed with
  | none => s
  | some 1 => s.showPl n
  | some 2 => (s.showPl n).raise 0x141 n (plOrg n)
  | some 4 =>
    let s := (s.updPl n fun p => { p with lateRun := p.lateRun + 1 }).raise 0x143 n (plOrg n)
    if !p.shownOnce ∨ 3 ≤ p.lateRun + 1 then s.badPl n else s
  | some _ => s.badPl n

/-- The scan of a frame starts on the boundary tick, or at STARTING (R253). -/
def State.plFrameScan (s : State) (n : Nat) : State :=
  let old := fun (c : Option PlScan) => c.filter fun x => x.forCommit || x.slot == (s.pl n).sel
  let s := s.updPl n fun p => { p with scan := old p.scan, queued := old p.queued }
  let p := s.pl n
  if p.enabled ∧ s.active n ∧ !(p.scan.any (fun c => !c.forCommit) || p.queued.any (fun c => !c.forCommit)) then
    (s.setPl n { p with verdict := none }).askScan n ⟨p.sel, false⟩
  else s

/-- In STOPPED, SAFE and HELD the layer is not shown, and its frame scans stop (R253). -/
def State.hidePl (s : State) (n : Nat) : State :=
  let keep := fun (c : Option PlScan) => c.filter (·.forCommit)
  let s := s.updPl n fun p => { p with scan := keep p.scan, queued := keep p.queued, verdict := none, fixed := none, lateRun := 0, shownOnce := false }
  (s.setPlMode n 3).resumeUnit (s.plUnit n)

/-! ### Check units (R258 to R261) -/


/-- Start a scan (R259). -/
def State.ckStartOp (s : State) (u : Nat) : State :=
  let s := if s.flag (F.CK_CFG_CONT u) then s else s.set (F.CK_RUN_VALUE u) (crcInit (s.get (F.CK_CFG_POLY u)))
  let s := s.setCk u {}
  let s := (s.set (F.CK_PROG_BYTES u) 0).wr (.CK_STAT, [u]) 1
  if s.ps.capped || (List.range 16).any fun n => s.plUnit n == u && (s.pl n).scan.isSome then s.set (F.CK_STAT_PAUSED u) 1 else s

/-- Stop a scan in progress after `fed` bytes (R260). -/
def State.ckAbortOp (s : State) (u fed : Nat) : State :=
  if s.get (F.CK_STAT_STATE u) ≠ 1 then s else
  let s := s.ckFeed u fed
  ((s.set (F.CK_PROG_BYTES u) (s.ck u).fed).set (F.CK_STAT_STATE u) 3).set (F.CK_STAT_PAUSED u) 0

/-- A scan completes (R260). One that is paused does not. -/
def ckDone (u : Nat) (s : State) : State :=
  if !s.blocksUp ∨ s.get (F.CK_STAT_STATE u) ≠ 1 ∨ s.flag (F.CK_STAT_PAUSED u) then s else
  let r := s.ckRegion u
  if s.regionBad r.1 r.2.1 r.2.2.1 r.2.2.2 then
    let x := s.fresh
    let s := x.2.set (F.CK_RESULT_VALUE u) x.1
    let s := (s.set (F.CK_STAT_STATE u) 2).set (F.CK_STAT_ERR u) 1
    ((s.set (F.CK_STAT_PAUSED u) 0).latch ckB (2 ^ (4 * u) + 2 ^ (4 * u + 2))).raise (0x14C + u) u
  else
    let s := s.ckFeed u (s.ckTotal u)
    let run := s.get (F.CK_RUN_VALUE u)
    let res := Nat.xor run (crcXorOut (s.get (F.CK_CFG_POLY u)))
    let s := s.set (F.CK_RESULT_VALUE u) res
    let s := (s.set (F.CK_STAT_STATE u) 2).set (F.CK_STAT_PAUSED u) 0
    let s := s.set (F.CK_PROG_BYTES u) (s.ck u).fed
    let s := s.latch ckB (2 ^ (4 * u))
    if !s.flag (F.CK_CFG_CMP u) then s
    else if res = s.get (F.CK_EXPECT_VALUE u) then s.set (F.CK_STAT_CMP u) 1
    else ((s.set (F.CK_STAT_CMP u) 2).latch ckB (2 ^ (4 * u + 1))).raise (0x148 + u) u

/-- A read of RUN during a scan (R259): the running value after the bytes fed, and PROG to match. -/
def State.ckRunLatch (s : State) (u fed : Nat) : State :=
  if s.get (F.CK_STAT_STATE u) ≠ 1 then s else
  let s := s.ckFeed u fed
  s.set (F.CK_PROG_BYTES u) (s.ck u).fed

end Sys2Proof.Machine
end

