-- ==== Sys2Proof/Machine/TimeBase.lean ====
section
/-! DEFINITION. The time base: the applied increment (R99 to R101, R111), timing states (R110), source selection (R107 to
R109), discontinuities and steps (R113 to R116), and the servo's measurement (R119, R124). -/

namespace Sys2Proof.Machine

def tbB : List Nat := [5, 0]

/-- The internal latencies of R120 by PMD, in units of 2^-32 ns: 38.4 ns and 52.7 ns on four lanes, 61.2 ns and 118.6 ns on two. -/
def txLatency (pmd : Nat) : Nat := (if pmd = 4 ∨ pmd = 5 then 612 else 384) * 2 ^ 32 / 10
def rxLatency (pmd : Nat) : Nat := (if pmd = 4 ∨ pmd = 5 then 1186 else 527) * 2 ^ 32 / 10

/-- The applied increment, 8.32 fixed point (R99). -/
def State.inc (s : State) : Nat := s.get F.TB_INC_HI_INT * 2 ^ 32 + s.get F.TB_INC_LO_FRAC

/-- The nominal increment. -/
def State.incNom (s : State) : Nat := s.get F.TB_INC_NOM_HI_INT * 2 ^ 32 + s.get F.TB_INC_NOM_LO_FRAC

/-- The least and the greatest applied increment (R100). -/
def State.incLimits (s : State) : Nat × Nat :=
  let ppb := s.get F.TB_MAX_SLEW_PPB
  (ceilDiv (s.incNom * (1000000000 - ppb)) 1000000000, s.incNom * (1000000000 + ppb) / 1000000000)

/-- Apply an increment: one outside the limits is applied at the nearest, counted and raised (R100). -/
def State.applyInc (s : State) (req : Nat) (org : Org) : State :=
  let l := s.incLimits
  let v := if req < l.1 then l.1 else if l.2 < req then l.2 else req
  let s := (s.set F.TB_INC_HI_INT (v / 2 ^ 32)).set F.TB_INC_LO_FRAC v
  if v = req then s else ((s.count F.TB_CLAMP_COUNT 1).latch tbB 0x80).raise 0x044 0 org

/-- The applied increment stays between its limits when they change (R100). -/
def State.holdInc (s : State) : State :=
  let l := s.incLimits
  let v := if s.inc < l.1 then l.1 else if l.2 < s.inc then l.2 else s.inc
  (s.set F.TB_INC_HI_INT (v / 2 ^ 32)).set F.TB_INC_LO_FRAC v

/-- The sources by their code in TB_SRC_PRIO (R107). -/
def srcCode : Src → Nat
  | .ptp => 1 | .pps => 2 | .ref => 3

abbrev srcD : Nat → SrcSt := fun _ => {}

def State.src (s : State) (c : Nat) : SrcSt := mget srcD s.tb.srcs c

def State.updSrc (s : State) (c : Nat) (f : SrcSt → SrcSt) : State :=
  { s with tb := { s.tb with srcs := nput srcD s.tb.srcs c (f (s.src c)) } }

/-- The mean of the increments of the last `window` ticks of LOCKED, or of all of them (R111): sum and ticks of the runs. -/
def histSum : Nat → List (Nat × Nat) → Nat × Nat
  | _, [] => (0, 0)
  | w, (n, i) :: hs => if w ≤ n then (w * i, w) else let r := histSum (w - n) hs; (n * i + r.1, n + r.2)

/-- Lengthen the newest run of increments, or start a new one. -/
def histAdd (h : List (Nat × Nat)) (n i : Nat) : List (Nat × Nat) :=
  match h with
  | (m, j) :: t => if j = i then (m + n, j) :: t else (n, i) :: h
  | [] => [(n, i)]

/-- The threshold of discontinuities. -/
def State.stepThresh (s : State) : Nat := s.get F.TB_STEP_THRESH_NS

/-- The re-step is complete: a head that it held may start again 2 ms from now (R72). -/
def letGo (s : State) (n : Nat) : State :=
  if (s.head n).stepped then
    let f := s.firstFrame n
    s.updHead n fun h => { h with startTick := s.tick, startFrame := f, bndNext := f, dlNext := f, restart := true, stepped := false }
  else s

/-- Change TB_STATE.STATE (R110, R111): STATE_CHG latches, the device event TB_STATE is delivered; an entry to HOLDOVER
from LOCKED applies the mean increment, and an entry to LOCKED sets FIRST_LOCK and ends a re-step (R72, R116). -/
def State.setTb (s : State) (st : Nat) : State :=
  let old := s.get F.TB_STATE_STATE
  if old = st then s else
  let s := (s.set F.TB_STATE_STATE st).latch tbB 1
  let s := s.event 19 (st + s.get F.TB_STATE_SRC * 16)
  let s := if st = 7 then { s with tb := { s.tb with holdSince := s.tick, within := none } } else s
  let s := if st = 5 then { s with tb := { s.tb with within := none } } else s
  let s :=
    if st = 7 ∧ old = 6 then
      let r := histSum (s.get F.TB_HOLD_AVG_SEC * 400000000) s.tb.lockHist
      if r.2 = 0 then s else s.applyInc ((2 * r.1 + r.2) / (2 * r.2)) {}
    else s
  if st = 6 then
    let s := s.set F.TB_STATE_FIRST_LOCK 1
    let s := { s with tb := { s.tb with lockHist := [] } }
    match s.tb.restep with
    | some (_, true) =>
      if s.tb.restepLost then s else
      let s := { s with tb := { s.tb with restep := none } }
      (List.range 16).foldl letGo s
    | _ => s
  else s

/-- Select a source, or none (R108): a change latches SRC_CHG, and before the first lock the first measurement of the
source may step the count (R114). -/
def State.selectSrc (s : State) (c : Nat) : State :=
  let s := if c = 0 then s else s.updSrc c fun x => { x with wasSelected := true }
  if s.get F.TB_STATE_SRC = c then s else
  let s := (s.set F.TB_STATE_SRC c).latch tbB 2
  { s with tb := { s.tb with needStep := c != 0, exceed := 0 } }

/-- The source codes of TB_SRC_PRIO in order, without 0 and repeats (R108). -/
def State.prios (s : State) : List Nat :=
  ([s.get F.TB_SRC_PRIO_P0, s.get F.TB_SRC_PRIO_P1, s.get F.TB_SRC_PRIO_P2].filter (· != 0)).foldl
    (fun l c => if c ∈ l then l else l ++ [c]) []

/-- The absolute value of a source's measured offset is within the step threshold. -/
def State.offsetOk (s : State) (c : Nat) : Bool := decide ((s.src c).offset.natAbs ≤ s.stepThresh)

/-- A source may be selected (R108, R109): usable, not lost and waiting to be requalified, and after the first lock
measured with an offset within the threshold. -/
def State.selectable (s : State) (c : Nat) : Bool :=
  let x := s.src c
  x.usable && !x.lost && (!s.flag F.TB_STATE_FIRST_LOCK || (x.measured && s.offsetOk c))

/-- The source of highest priority that may be selected, or none. -/
def State.bestSrc (s : State) : Nat := (s.prios.find? s.selectable).getD 0

/-- The source that the servo selects (R108): with the present one usable, only one of higher priority under REVERT. -/
def State.choice (s : State) : Nat :=
  let cur := s.get F.TB_STATE_SRC
  let best := s.bestSrc
  if cur ≠ 0 ∧ (s.src cur).usable then
    if s.flag F.TB_CTRL_REVERT ∧ best ≠ 0 ∧ s.prios.idxOf best < s.prios.idxOf cur then best else cur
  else best

/-- The state that TB takes when no source can be selected (R110). A re-step that is not complete then waits for a later one (R116). -/
def State.loseSource (s : State) : State :=
  let st := s.get F.TB_STATE_STATE
  let s := { s with tb := { s.tb with restepLost := s.tb.restepLost || s.tb.restep.isSome } }
  if st = 6 ∨ (st = 5 ∧ (s.flag F.TB_STATE_FIRST_LOCK ∨ s.tb.restep.isSome)) then
    let s := s.setTb 7
    if s.prios.any (fun c => (s.src c).usable) then s else s.raise 0x040
  else if st = 5 then s.setTb 4
  else s

/-- The alignment period of a standard (R129): frames, and the frame rate N / D; none for codes without one. -/
def stdPeriod (std : Nat) : Option (Nat × Nat × Nat) :=
  match std with
  | 1 => some (2, 30000, 1001) | 2 => some (4, 25, 1) | 3 => some (1, 25, 1) | 4 => some (1, 30000, 1001) | 5 => some (1, 30, 1)
  | 6 => some (1, 24000, 1001) | 7 => some (1, 24, 1) | 8 => some (1, 50, 1) | 9 => some (1, 60000, 1001) | 10 => some (1, 60, 1)
  | 11 => some (1, 50, 1) | 12 => some (1, 60000, 1001) | 13 => some (1, 60, 1) | _ => none

/-- The lines of a frame of a standard (R129). -/
def stdLines (std : Nat) : Nat := if std = 1 then 525 else if std = 2 then 625 else if std < 11 then 1125 else 750

/-- The reference outputs are on: from boot step 4 until a shutdown (R137). -/
def State.rfOn (s : State) : Bool := decide (4 ≤ s.dv.step) && !s.dv.shutting && !s.fc.shut && !s.dv.railsOff

/-- The count less an offset in units of 0.25 ns, in units of 2^-32 ns. -/
def State.lessOfs (s : State) (ofs : Word) : Int := (unitsOf s.tai : Int) - signed 32 ofs.toNat * 2 ^ 30

/-- Output k takes up the new phase at a step (R137): the line in progress ends at once, and the signal goes on with the next line
that starts. -/
def State.cutLine (s : State) (k : Nat) : State :=
  match stdPeriod (s.get (F.RF_OUT_CTRL_STD k)) with
  | some p =>
    let t := stdLines (s.get (F.RF_OUT_CTRL_STD k))
    let x := ceilDiv ((s.lessOfs (s.rdE (.RF_OUT_OFS, [k]))).toNat * (p.2.1 * t)) (p.2.2 * secUnits)
    s.emit (.refCut k (x / t) (x % t + 1))
  | none => s

/-- Set the count (R115): the step is counted, logged with its origin, and a device event. Outputs with STEP_MUTE fall mute (R137). -/
def State.stepCount (s : State) (offset : Int) (org : Org) : State :=
  let t := ofUnits ((((unitsOf s.tai) : Int) + offset * (2 ^ 32 : Nat)).toNat)
  let d := (t.sec * 1000000000 + t.ns) % 2 ^ 40
  let s := { s with tb := { s.tb with sec := t.sec % 2 ^ 48, ns := t.ns, frac := t.frac, seen1 := d, seen2 := d } }
  let s := (s.count F.TB_STEP_CNT_COUNT 1).latch tbB 8
  let s := s.log 3 0 org (s.get F.TB_STEP_CNT_COUNT) (pattern 32 (clampI (-2147483648) 2147483647 offset))
  let s := s.event 18 (s.get F.TB_STEP_CNT_COUNT)
  let s := (List.range 16).foldl (fun s n => if s.ticking n then s.loadPhase n else s) s
  let on := (List.range 4).filter fun k => s.rfOn && s.flag (F.RF_OUT_CTRL_EN k)
  let mute := on.filter fun k => s.flag (F.RF_OUT_CTRL_STEP_MUTE k)
  let s := (on.filter fun k => !s.flag (F.RF_OUT_CTRL_STEP_MUTE k)).foldl State.cutLine s
  { s with cues := s.cues.map endTimeWait, rf := { s.rf with muted := mute, sent := [] } }
where
  /-- A pending WAITT or WAITP completes at a step with all ones and the LATE flag (R305). -/
  endTimeWait (e : Nat × CueSt) : Nat × CueSt :=
    match e.2.wait with
    | some w =>
      match w.kind with
      | .until _ | .frameLine _ _ => (e.1, { e.2 with wait := some (w.satisfy allOnes true 0) })
      | _ => e
    | none => e

/-- Judge a measurement against the step threshold (R113). The third one in a row above it declares a discontinuity. -/
def State.judgeOffset (s : State) (c : Nat) (offset : Int) : State :=
  if offset.natAbs ≤ s.stepThresh then
    { (s.set F.TB_STATE_RESTEP_PEND 0) with tb := { s.tb with exceed := 0 } }
  else
    let e := (if s.tb.exceedSrc = c then s.tb.exceed else 0) + 1
    let s := { s with tb := { s.tb with exceed := e, exceedSrc := c } }
    if e ≠ 3 then s else
    let s := s.set F.TB_STATE_RESTEP_PEND 1
    let s := s.setTb 7
    (s.latch tbB 4).raise 0x041

/-- What the selected source does to the timing state (R110): FREERUN and HOLDOVER give way to ACQUIRE, HOLDOVER and a FREERUN that
follows a lock only for an offset within the threshold; LOCKED gives way when the source changed and its offset is too large. -/
def State.follow (s : State) (changed : Bool) : State :=
  let c := s.get F.TB_STATE_SRC
  let st := s.get F.TB_STATE_STATE
  if c = 0 then s
  else if st = 4 then (if s.flag F.TB_STATE_FIRST_LOCK ∧ !s.offsetOk c then s else s.setTb 5)
  else if st = 7 then (if (s.src c).measured ∧ s.offsetOk c ∧ !s.flag F.TB_STATE_RESTEP_PEND then s.setTb 5 else s)
  else if st = 6 ∧ changed ∧ s.get F.TB_LOCK_THRESH_NS < (s.src c).offset.natAbs then s.setTb 5
  else s

/-- The lock criterion (R110): every measurement within TB_LOCK_THRESH for TB_LOCK_TIME seconds. -/
def State.lockCheck (s : State) (offset : Int) : State :=
  if s.get F.TB_STATE_STATE ≠ 5 then s
  else if s.get F.TB_LOCK_THRESH_NS < offset.natAbs then { s with tb := { s.tb with within := none } }
  else
    match s.tb.within with
    | none => { s with tb := { s.tb with within := some s.tick } }
    | some t => if t + ticksS (s.get F.TB_LOCK_TIME_SEC) ≤ s.tick then s.setTb 6 else s

/-- The clockClass that the device announces: that of its grandmaster while PTP is selected (R118). -/
def State.clockClass (s : State) : Nat :=
  let locked := s.flag F.TB_STATE_FIRST_LOCK
  if s.get F.TB_STATE_SRC = 1 then s.tb.gmClass
  else if s.get F.TB_STATE_STATE = 6 then 6
  else if !locked then 248
  else if s.get F.TB_STATE_STATE = 7 then 7 else 187

abbrev ptpD : Nat → PtpPort := fun _ => {}

def State.ptp (s : State) (p : Nat) : PtpPort := mget ptpD s.tb.ports p

def State.setPtp (s : State) (p : Nat) (x : PtpPort) : State := { s with tb := { s.tb with ports := nput ptpD s.tb.ports p x } }

/-- No port is in SLAVE state. -/
def State.noSlave (s : State) : State := { s with tb := { s.tb with ports := s.tb.ports.map fun e => (e.1, { e.2 with slave := false }) } }

/-- A source stops being usable (R107 to R110, R113). -/
def srcLost (c : Nat) (s : State) : State :=
  if !(s.src c).usable then s else
  let s := s.updSrc c fun x => { x with usable := false, measured := false, lost := x.wasSelected }
  let s := if c = 1 then s.noSlave else s
  let s := if s.flag F.TB_STATE_RESTEP_PEND ∧ s.tb.exceedSrc = c then
      { (s.set F.TB_STATE_RESTEP_PEND 0) with tb := { s.tb with exceed := 0 } } else s
  if s.get F.TB_STATE_SRC ≠ c then s else
  let s := s.selectSrc s.choice
  if s.get F.TB_STATE_SRC = 0 then s.loseSource else s.follow true

/-- A source becomes usable. -/
def State.gainSource (s : State) (c : Nat) : State :=
  if (s.src c).usable then s else s.updSrc c fun x => { x with usable := true, usableSince := s.tick }

/-- The time that a source was lost ends after 30 s of use (R108). The selection is made again. -/
def srcRequalified (c : Nat) (s : State) : State :=
  let x := s.src c
  if !(x.usable && x.lost && decide (x.usableSince + ticksS 30 ≤ s.tick)) then s else
  let s := s.updSrc c fun x => { x with lost := false }
  if !s.tb.servoUp then s else
  let was := s.get F.TB_STATE_SRC
  let s := s.selectSrc s.choice
  if s.get F.TB_STATE_SRC = was then s else s.follow true

/-- HOLDOVER has lasted TB_HOLD_MAX seconds (R110). -/
def holdLimitStep (s : State) : State :=
  let m := s.get F.TB_HOLD_MAX_SEC
  if s.get F.TB_STATE_STATE = 7 ∧ m ≠ 0 ∧ s.tb.holdSince + ticksS m ≤ s.tick then ((s.setTb 4).latch tbB 0x20).raise 0x042 else s

/-- The origin may authorise a re-step (R114). -/
def State.mayRestep (s : State) (o : Org) : Bool :=
  o.cls == 1 || (s.flag F.TB_OWNER_EN && s.get F.TB_OWNER_CLASS == o.cls && (o.cls != 0x80 || s.get F.TB_OWNER_DETAIL == o.det))

end Sys2Proof.Machine
end

