-- ==== Sys2Proof/Machine/Heads.lean ====
section
/-! DEFINITION. Output heads (06): the start checks (R149, R155, R161, R162, R355), starting, stopping and holding a head, the
commit deadline (R158, R177, R180) and the boundary (R156, R181, R189, R194). -/

namespace Sys2Proof.Machine

/-! ### Start checks -/

/-- The pixel rate of a raster, including blanking, times 1001 (R8, R146). -/
def pixRate (r : Nat × Nat × Nat × Nat) : Nat := r.1 * r.2.1 * r.2.2.1 * (1001 / r.2.2.2)

/-- DV_MODE permits a start of head n (R69, R460). `onAir` is ON_AIR as the write leaves it. -/
def State.modeStarts (s : State) (onAir : Bool) : Bool :=
  let m := s.mode
  m == 4 || m == 5 || m == 6 || m == 7 || m == 9 || (m == 10 && onAir)

/-- HDn_PHASE lies in the raster (R147). -/
def State.phaseOk (s : State) (n : Nat) (r : Nat × Nat × Nat × Nat) : Bool :=
  decide (s.get (F.HD_PHASE_LINES n) < r.2.1) && decide (s.get (F.HD_PHASE_SAMPLES n) < r.1)

/-- The pair of heads fits its engine (R8). -/
def State.pairOk (s : State) (n : Nat) (r : Nat × Nat × Nat × Nat) : Bool :=
  let o := n / 2 * 2 + (1 - n % 2)
  !s.running o || match s.raster o with
    | some q => decide (pixRate r ≤ 1200000000 * 1001) && decide (pixRate q ≤ 1200000000 * 1001)
    | none => true

/-- The reservation fits the fetch pool left by the running heads (R26, R27). -/
def State.reserveOk (s : State) (n : Nat) : Bool :=
  decide ((((List.range 16).filter fun o => o == n || s.running o).foldl (fun a o => a + s.get (F.HD_BW_RESERVE_RATE o)) 0) ≤ 10240)

/-- SDI links of a raster and rate: the LINKS codes that fit (R161). -/
def sdiLinks (fmt rate : Nat) (q3g : Bool) : Nat :=
  if fmt = 6 then (if rate ≤ 4 then 1 else 2)
  else if fmt = 5 then (if rate ≤ 4 then 0 else if rate ≤ 9 then (if q3g then 2 else 0) else 1)
  else 0

/-- The outputs of head n's SDI group. -/
def State.sdos (s : State) (n : Nat) : List Nat :=
  if s.flag (F.HD_DEST_SDI_EN n) then
    (List.range (2 ^ s.get (F.HD_DEST_SDI_LINKS n))).map (s.get (F.HD_DEST_SDI_FIRST n) + ·)
  else []

/-- The DisplayPort ports of head n. -/
def State.dpPorts (s : State) (n : Nat) : List Nat :=
  if s.flag (F.HD_DEST_DP_EN n) then [s.get (F.HD_DEST_DP_PORT n)] else []

/-- The transmit queues of head n. -/
def State.stQueues (s : State) (n : Nat) : List Nat :=
  if s.flag (F.HD_DEST_ST_EN n) then
    s.get (F.HD_DEST_ST_QUEUE n) :: (if s.flag (F.HD_DEST_ST2_EN n) then [s.get (F.HD_DEST_ST2_QUEUE n)] else [])
  else []

abbrev ltD : Nat → LtSt := fun _ => {}

/-- A far-end test of an SDI lane sends on its SDO lane, sixteen below it (R466). -/
def State.farEnd (s : State) (l : Nat) : Bool :=
  decide (24 ≤ l) && decide (l < 40) && (mget ltD s.lts (l + 16)).oos && (mget ltD s.lts (l + 16)).far

/-- Lane l runs an out-of-service test (R470). -/
def State.laneTested (s : State) (l : Nat) : Bool := (mget ltD s.lts l).oos || s.farEnd l

/-- Lists share a member. -/
def meet (a b : List Nat) : Bool := a.any fun x => b.contains x

/-- The destinations of head n are free, and it has one (R149, R470). -/
def State.destsFree (s : State) (n : Nat) : Bool :=
  (s.flag (F.HD_DEST_SDI_EN n) || s.flag (F.HD_DEST_DP_EN n) || s.flag (F.HD_DEST_ST_EN n)) &&
    ((List.range 16).all fun o => o == n || !s.running o ||
      !(meet (s.sdos n) (s.sdos o) || meet (s.dpPorts n) (s.dpPorts o) || meet (s.stQueues n) (s.stQueues o))) &&
    ((s.sdos n).all fun d => !s.laneTested (24 + d)) &&
    ((s.dpPorts n).all fun p => (List.range 4).all fun l => !s.laneTested (56 + 4 * p + l)) &&
    ((s.stQueues n).all fun q => (List.range 4).all fun l => !s.laneTested (8 + 4 * s.get (F.NQ_CTRL_PORT q) + l))

/-- The SDI destination carries the raster (R161). -/
def State.sdiRateOk (s : State) (n : Nat) : Bool :=
  !s.flag (F.HD_DEST_SDI_EN n) ||
    (s.get (F.HD_DEST_SDI_LINKS n) == sdiLinks (s.fmt n) (s.rate n) (s.flag (F.HD_DEST_SDI_Q3G n)) &&
      s.get (F.HD_DEST_SDI_FIRST n) % 2 ^ s.get (F.HD_DEST_SDI_LINKS n) == 0)

/-- Payload per lane of a link rate, in kb/s. -/
def dpPayload (lrate : Nat) : Nat :=
  match lrate with
  | 0 => 1296000 | 1 => 2160000 | 2 => 4320000 | 3 => 6480000 | _ => 9697000

/-- Bits per pixel of a DisplayPort encoding. -/
def dpBits (enc : Nat) (ten : Bool) : Nat :=
  match enc with
  | 2 => if ten then 20 else 16
  | 3 => if ten then 15 else 12
  | _ => if ten then 30 else 24

/-- The DisplayPort destination carries the raster (R162). -/
def State.dpRateOk (s : State) (n : Nat) (r : Nat × Nat × Nat × Nat) : Bool :=
  !s.flag (F.HD_DEST_DP_EN n) ||
    decide (100 * r.1 * r.2.1 * r.2.2.1 * dpBits (s.get (F.HD_DEST_DP_ENC n)) (s.flag (F.HD_DEST_DP_BPC10 n)) ≤
      99 * 2 ^ s.get (F.HD_DEST_DP_LANES n) * dpPayload (s.get (F.HD_DEST_DP_LRATE n)) * 1000 * r.2.2.2)

/-- Octets and pixels of a pgroup of ST 2110-20 (R222). -/
def pgroup (sampling : Nat) (deep : Bool) : Nat × Nat :=
  if sampling = 0 then (if deep then (6, 2) else (5, 2)) else if deep then (9, 2) else (15, 4)

/-- Octets of an active row of head n's stream, and of a packet's payload. -/
def State.stRow (s : State) (n : Nat) : Nat :=
  let p := pgroup (s.get (F.HD_DEST_ST_SAMPLING n)) (s.flag (F.HD_DEST_ST_DEPTH12 n))
  (rasterActive (s.fmt n)).1 / p.2 * p.1

/-- Packets of a unit of head n (R354). -/
def State.stPackets (s : State) (n payload : Nat) : Nat :=
  let a := (rasterActive (s.fmt n)).2 / (if interlaced (s.fmt n) then 2 else 1)
  if s.flag (F.HD_DEST_ST_BPM n) then ceilDiv (s.stRow n * a) payload else a * ceilDiv (s.stRow n) payload

/-- PAYLOAD keeps R354 for the head's sampling, depth and packing. -/
def State.payloadOk (s : State) (n payload : Nat) : Bool :=
  if s.flag (F.HD_DEST_ST_BPM n) then decide (180 ≤ payload) && decide (payload ≤ 1440) && payload % 180 == 0
  else decide (1 ≤ payload) && decide (payload ≤ 1452) &&
    payload % (pgroup (s.get (F.HD_DEST_ST_SAMPLING n)) (s.flag (F.HD_DEST_ST_DEPTH12 n))).1 == 0

/-- Lines of a unit, the smaller of two fields (R353). -/
def unitLines (fmt : Nat) : Nat := if interlaced fmt then 562 else rasterT fmt

/-- One queue of the ST 2110-20 destination meets R355; TYPE and PAYLOAD are those of the first queue. -/
def State.queueRateOk (s : State) (n q type payload : Nat) (r : Nat × Nat × Nat × Nat) : Bool :=
  let a := (rasterActive (s.fmt n)).2 / (if interlaced (s.fmt n) then 2 else 1)
  let lines := if type = 0 then a else unitLines (s.fmt n)
  s.flag (F.NQ_CTRL_EN q) && s.get (F.NQ_CTRL_CLASS q) == 0 && s.get (F.NQ_CTRL_SRC q) == 0 && s.get (F.NQ_CTRL_LAUNCH q) == launchModel &&
    decide (payload + 86 ≤ s.getE (F.NQ_BURST_BYTES q)) &&
    decide (1001 * s.stPackets n payload * (payload + 86) * 8 * r.2.2.1 * r.2.1 ≤ s.getE (F.NQ_RATE_RATE q) * 10000 * 1000 * lines * r.2.2.2)
where
  /-- LAUNCH code of MODEL. -/
  launchModel : Nat := 1

/-- The ST 2110-20 destination meets R355. -/
def State.stRateOk (s : State) (n : Nat) (r : Nat × Nat × Nat × Nat) : Bool :=
  match s.stQueues n with
  | [] => true
  | q :: qs =>
    let payload := s.get (F.NQ_PAYLOAD_OCTETS q)
    let tro := s.get (F.NQ_MODEL_TRO q)
    s.payloadOk n payload && (tro == 0 || (decide (firstActive (s.fmt n) + 1 ≤ tro) && decide (tro < unitLines (s.fmt n)))) &&
      ((q :: qs).all fun x => s.queueRateOk n x (s.get (F.NQ_MODEL_TYPE q)) payload r) &&
      qs.all fun x => s.get (F.NQ_CTRL_PORT x) != s.get (F.NQ_CTRL_PORT q)

/-- The lock group of head n holds no running head of another family (R159). -/
def State.familyOk (s : State) (n : Nat) : Bool :=
  let g := s.get (F.HD_GROUP_GROUP n)
  g == 0 || (List.range 16).all fun o => o == n || !s.running o || s.get (F.HD_GROUP_GROUP o) != g || rateFamily (s.rate o) == rateFamily (s.rate n)

/-- The first failing check of a start of a stopped head, as START_ERR; 0 for none (R149). -/
def State.startErr (s : State) (n : Nat) (onAir : Bool) : Nat :=
  if !s.modeStarts onAir then 1 else
  match s.raster n with
  | none => 2
  | some r =>
    if !s.phaseOk n r then 2
    else if !s.pairOk n r then 3
    else if !s.reserveOk n then 4
    else if !s.destsFree n then 5
    else if !(s.sdiRateOk n && s.dpRateOk n r && s.stRateOk n r) then 6
    else if !s.familyOk n then 7
    else if s.get (F.HD_COMMIT_LEAD_LINES n) < s.get (F.HD_FETCH_LEAD_LINES n) then 9
    else 0

/-- START_ERR of a write of RUN = 1 in any state; none where the write has no effect and is no refusal (R149, R153, R69). -/
def State.runErr (s : State) (n : Nat) (onAir : Bool) : Option Nat :=
  match s.hst n with
  | 0 => some (s.startErr n onAir)
  | 3 => some 8
  | 1 | 2 => none
  | _ => some 1

/-! ### The commit deadline (R158, R177, R180, R313) -/

/-- FENCE_SIGNAL as the writes of earlier ticks left it (R180). -/
def State.fenceBefore (s : State) (k m : Nat) : Nat :=
  match (s.layer k m).fence with
  | some (t, v) => if t = s.tick then v.toNat else s.get (F.CE_L_FENCE_SIGNAL_VALUE k m)
  | none => s.get (F.CE_L_FENCE_SIGNAL_VALUE k m)

/-- The fence test of a layer at a value of FENCE_SIGNAL (R179). -/
def LayerDesc.fencePasses (d : LayerDesc) (signal : Nat) : Bool :=
  !d.fenced || decide ((signal + 2 ^ 32 - d.fenceWait) % 2 ^ 32 < 2 ^ 31)

/-- The newest frame of a source that was complete before this tick: its buffer and number (R177). -/
def State.newestBefore (s : State) (v : Nat) : Option (Nat × Nat) :=
  let x := s.vid v
  if x.newest.isSome ∧ x.doneAt = s.tick then x.before.map fun b => (b, x.count - 1) else x.newest.map fun b => (b, x.count)

/-- What a deadline tick finds for one layer: its test, and the ingest frame it selects (R177, R180). `old` is the layer in the applied
vintage; where it enters there, no frame has completed since it was applied. -/
def State.layerDeadline (s : State) (k : Nat) (old : Option LayerDesc) (d : LayerDesc) : State :=
  if d.ingest ∧ !d.pt then
    let l := s.layer k d.m
    if d.enters old then s.setLayer k d.m { l with sel := none, fresh := false, ready := false } else
    match s.newestBefore d.vidKey with
    | some (b, c) =>
      if l.base < c ∧ l.sel.map (·.2) ≠ some c then s.setLayer k d.m { l with sel := some (b, c), fresh := true, ready := true }
      else s.setLayer k d.m { l with fresh := false, ready := l.sel.isSome }
    | none => s.setLayer k d.m { l with fresh := false, ready := l.sel.isSome }
  else s.updLayer k d.m fun l => { l with ready := d.fencePasses (s.fenceBefore k d.m) }

/-- The set that will apply, or stay applied, at the boundary of frame f (R180). -/
def State.setFor (s : State) (n f : Nat) : Option CommitSet :=
  ((s.head n).pending.filter fun c => decide (c.target ≤ f)).getLast? <|> (s.head n).applied

/-- Where the items latched for head n's next boundary stand, until it comes (R313). -/
def dtNext (n : Nat) : Nat := 32 + n

/-- The items that a set names. -/
def CommitSet.items (c : CommitSet) : List Nat := c.layers.filterMap fun d => if d.src = 4 then some d.index else none

/-- The actions of R177, R180 and R313 for the boundary of frame f. -/
def State.deadlineActs (s : State) (n f : Nat) : State :=
  match s.setFor n f with
  | none => s
  | some c =>
    let old := (s.head n).applied
    let s := c.layers.foldl (fun s d => s.layerDeadline (n / 2) (old.bind fun a => a.layer d.m) d) s
    let s := if c.items = [] then s else s.latchItems (dtNext n) c.items
    s.updHead n fun h => { h with dlShown := some c }

/-- The deadline tick of a head's next boundary (R158, R166, R253). -/
def deadlineStep (n : Nat) (s : State) : State :=
  let h := s.head n
  let st := s.hst n
  if !(st = 1 ∨ st = 2 ∨ st = 3 ∨ h.restart) ∨ s.now < s.deadlineAt n h.dlNext (s.leadFor n h.dlNext) then s else
  let s := (s.deadlineActs n h.dlNext).fixVerdict n
  let s := s.updHead n fun x => { x with dlNext := h.dlNext + 1 }
  if st ≠ 2 ∧ st ≠ 3 then s else s.headEvent n 3 ((s.pos n).getD (0, 1, 0)).2.1 ((s.pos n).getD (0, 1, 0)).1

/-! ### Starting and stopping -/

/-- Cancel a prepared set that the check at start turns down, and drop a vintage that it turns down; a vintage once dropped is checked
again at every later start (R155). -/
def State.startCheck155 (s : State) (n : Nat) : State :=
  let h := s.head n
  let s : State := match h.prepared with
    | some c =>
      let r := s.admission c []
      let s := s.latchMapErr c
      if r.1.reason = 0 then s.updHead n fun x => { x with prepared := some { c with adm := r.2 } }
      else (s.updHead n fun x => { x with prepared := none }).cancelSet c r.1.reason
    | none => s
  match h.applied <|> h.dropped with
  | none => s.set (F.HD_STAT_EMPTY n) 1
  | some c =>
    let r := s.admission c []
    let s := s.latchMapErr c
    if r.1.reason = 0 then
      let c := { c with adm := r.2 }
      ((s.set (F.HD_STAT_EMPTY n) 0).updHead n fun x => { x with applied := some c, dropped := none, vintDrop := false }).setReport c
    else
      let s := c.layers.foldl (fun s d => s.dropLayer (n / 2) d.m) s
      let s := s.updHead n fun x => { x with applied := none, dropped := some c, vintDrop := true }
      (s.set (F.HD_STAT_EMPTY n) 1).latch (hdB n) 0x80

/-- A full fetch credit of head n, in bytes: its budget for a band of 16 rows (R235, R239). -/
def State.creditCap (s : State) (n : Nat) : Nat :=
  match s.raster n with
  | some r => s.budget n r 16
  | none => 0

/-- Aim a head at the first frame it will show: its boundary and deadline (R150). -/
def State.aimHead (s : State) (n f : Nat) : State :=
  let s := s.updHead n fun h => { h with startFrame := f, bndNext := f, dlNext := f }
  if s.deadlinePassed n f then (s.deadlineActs n f).updHead n fun h => { h with dlNext := f + 1 } else s

/-- A start is accepted (R149, R150, R155). It wakes the head's engine and HBM, which stays at full rate while a head runs (R20, R454). -/
def State.startHead (s : State) (n : Nat) : State :=
  let s := (s.set (F.HD_STAT_START_ERR n) 0).wake [n / 2, 8]
  let s := (s.startCheck155 n).moveHead n 1
  let last := (s.rd (.HD_RASTER, [n]), s.rd (.HD_PHASE, [n]))
  let s := if (s.head n).everRun ∧ (s.head n).last = some last then s else s.loadPhase n
  let p := (s.pos n).getD (0, 1, 0)
  let s := s.updHead n fun h => { h with startTick := s.tick, stopPending := false, stepped := false, restart := false, frame := p.1, line := p.2.1, last := some last, row := none, credit := (s.creditCap n : Nat), creditAt := s.tick }
  (s.aimHead n (s.firstFrame n)).plFrameScan n

/-- What the destinations of head n do at a line 1 of its raster, or at once on a head that has no raster: FIFOs recentre, and links
that are back resume (R162, R165, R429). The FIFO of an SDI group in reset recentres when the group resumes. -/
def State.destsResume (s : State) (n : Nat) : State :=
  s.updHead n fun h =>
    let back := h.sdiBack
    { h with
      fifoOut := h.fifoOut.filter fun d => d == 0 && h.sdiReset && !back
      sdiFail := h.sdiFail && !back
      sdiReset := h.sdiReset && !back
      sdiBack := false
      dpDown := h.dpDown && !h.dpResume
      dpResume := false }

/-- A head enters STOPPED (R151, R166). One that has never run has no raster from then on (R165). -/
def State.enterStopped (s : State) (n : Nat) : State :=
  let h := s.head n
  let s := s.moveHead n 0
  let s := s.latch (hdB n) 2
  let s := ((s.headEvent n 10 h.line h.frame).endHeadWaits n).hidePl n
  let s := if h.everRun then s else s.destsResume n
  s.updHead n fun h => { h with stopPending := false, stepped := false, restart := false, hostLate := false, stFail := false, row := none }

/-- A write of RUN = 0 (R151). -/
def State.stopHead (s : State) (n : Nat) : State :=
  let f := ((s.pos n).getD (0, 1, 0)).1
  match s.hst n with
  | 1 => s.enterStopped n
  | 2 => (s.moveHead n 3).updHead n fun h => { h with stopFrame := f }
  | 4 | 5 => if (s.head n).stopPending then s else s.updHead n fun h => { h with stopPending := true, stopFrame := f }
  | _ => s

/-- A stop is due: line 1 after the stop frame has come (R151). -/
def State.stopDue (s : State) (n : Nat) : Bool :=
  let h := s.head n
  let st := s.hst n
  (st == 3 || ((st == 4 || st == 5) && h.stopPending)) && decide (s.lineStart n (h.stopFrame + 1) 1 ≤ s.now)

/-- A head enters SAFE (R165). -/
def State.enterSafe (s : State) (n : Nat) : State :=
  let stopping := s.hst n == 3
  let s := ((s.moveHead n 4).latch (hdB n) 4).hidePl n
  s.updHead n fun h => { h with stopPending := h.stopPending || stopping }

/-- The step of an authorised re-step on head n (R116): a head with a stop pending, in STOPPING or in SAFE, stops; every other
head that is not stopped is held. -/
def State.holdHead (s : State) (n : Nat) : State :=
  let h := s.head n
  let st := s.hst n
  if st = 0 then s
  else if st = 3 ∨ h.stopPending then s.enterStopped n
  else
    let p := (s.pos n).getD (0, 1, 0)
    let s := ((s.moveHead n 5).hidePl n).updHead n fun h => { h with stepped := true, restart := false, frame := p.1, line := p.2.1 }
    if st = 1 ∨ st = 2 then s.latch (hdB n) 4 else s

/-- The step of an authorised re-step (R116). `offset` is source time less the count. -/
def restepStepOp (offset : Int) (s : State) : State :=
  match s.tb.restep with
  | some (org, false) =>
    if s.tb.restepLost then s else
    let s := s.stepCount offset org
    let s := { (s.set F.TB_STATE_RESTEP_PEND 0) with tb := { s.tb with restep := some (org, true), exceed := 0, needStep := false } }
    let s := (List.range 16).foldl State.holdHead s
    let s := s.setTb 5
    s.updSrc (s.get F.TB_STATE_SRC) fun x => { x with offset := 0 }
  | _ => s

/-! ### The boundary (R156, R181, R189, R194) -/

/-- A host layer cannot be read: the link is down or the function is in reset (R76, R176). -/
def State.hostDown (s : State) (d : LayerDesc) : Bool := d.src == 1 && (!s.dv.pcieUp || s.dv.flr.contains d.hostPf)

/-- What a layer shows when it is ready. -/
def State.newShown (s : State) (k : Nat) (d : LayerDesc) : Shown :=
  if d.ingest then
    let b := if d.pt then 0 else (((s.layer k d.m).sel).map (·.1)).getD 0
    .buffer { addr0 := s.ingestAddr d b, buf := b }
  else if d.src = 4 then .buffer {}
  else .buffer { addr0 := d.addr0, addr1 := d.addr1, opmap := d.opmap, opmapEn := d.opmapEn, pal := d.pal }

/-- Report what a layer shows (SHOWN). -/
def State.setShown (s : State) (k m : Nat) (x : Option Shown) : State :=
  let a := match x with
    | some (.buffer b) => b.addr0
    | _ => 0
  (((s.updLayer k m fun l => { l with shown := x }).wr (.CE_L_SHOWN_LO, [k, m]) (w32 a))).wr (.CE_L_SHOWN_HI, [k, m]) (w32 (a / 2 ^ 32))

/-- One layer at the boundary (R177, R181). -/
def State.layerBoundary (s : State) (n : Nat) (d : LayerDesc) : State :=
  let k := n / 2
  let l := s.layer k d.m
  let f := (s.head n).bndNext
  let s := s.updLayer k d.m fun l => { l with
    rows := l.rows.filter fun e => decide (2 * f ≤ e.unit), asked := l.asked.filter fun e => decide (2 * f ≤ e.1), prevLine := none }
  let s :=
    if d.ingest ∧ !d.pt then
      let age := if l.fresh then 0 else satAdd 8 (s.get (F.CE_L_INGEST_AGE_AGE k d.m)) 1
      let s' := s.set (F.CE_L_INGEST_AGE_AGE k d.m) age
      if age = 8 ∧ s.get (F.CE_L_INGEST_AGE_AGE k d.m) = 7 then s'.raise (0x087 + 8 * n) n else s'
    else s
  if l.ready ∧ !s.hostDown d then
    let s := (s.set (F.CE_L_FENCE_STAT_HELD k d.m) 0).set (F.CE_L_FENCE_STAT_AWAIT k d.m) 0
    s.setShown k d.m (some (s.newShown k d))
  else
    let s := s.count (F.CE_L_NOTREADY_CNT_COUNT k d.m) 1
    let s := s.set (F.CE_L_FENCE_STAT_AWAIT k d.m) (b2n (d.fenced && !l.ready))
    let held : Option Shown := match l.shown with
      | some (.buffer b) => some (.buffer b)
      | _ => none
    let s := s.set (F.CE_L_FENCE_STAT_HELD k d.m) (b2n (d.notReady == 0 && held.isSome))
    s.setShown k d.m (if d.notReady = 0 then held else if d.notReady = 2 then some .fill else none)

/-- The layers of a vintage that act under NOTREADY at this boundary. -/
def State.notReadyLayers (s : State) (n : Nat) (ds : List LayerDesc) : List Nat :=
  (ds.filter fun d => !(s.layer (n / 2) d.m).ready || s.hostDown d).map (·.m)

/-- A registers of a head that apply at its boundary (R50): COMMIT_LEAD, and FALLBACK and OC_LOCK of the protected layer. -/
def boundaryRegs (n : Nat) (k : Key) : Bool :=
  k == (.HD_COMMIT_LEAD, [n]) || k == (.CE_PL_CTRL, [n / 2, n % 2])

/-- The registers of head n that its last-good record holds, with those of the queues it names (R450). -/
def State.lgRegs (s : State) (n : Nat) : List (Key × Word) :=
  let hd : List Reg := [.HD_RASTER, .HD_PHASE, .HD_COMMIT_LEAD, .HD_FETCH_LEAD, .HD_GROUP, .HD_BW_RESERVE, .HD_DEST_SDI, .HD_DEST_DP,
    .HD_DEST_ST, .HD_DEST_ST2, .HD_CTRL]
  let nq := (blkRegs .NQ).filter fun r => (regDef r).fields.any fun f => f.acc == .rw || f.acc == .mw
  (hd.map fun r => ((r, [n]), s.rd (r, [n]))) ++ (s.stQueues n).flatMap fun q => nq.map fun r => ((r, [q]), s.rd (r, [q]))

/-- The last-good candidate of R194: the set that has been shown for one whole frame with nothing against it qualifies, and
a set that applied at this boundary is shown from now on; so is, at the first boundary of a start, the vintage of R155. -/
def State.rateShown (s : State) (n : Nat) (new : Option CommitSet) : State :=
  let v := s.get (F.CE_VINT_APP_VINTAGE (n / 2) (n % 2))
  s.updHead n fun h => { h with
    qualified := if h.dirty then h.qualified else (h.showing.map fun x => { set := x.1, vintage := x.2, regs := s.lgRegs n }) <|> h.qualified
    showing := new.map fun c => (c, v)
    dirty := false }

/-- The pending set applies at the boundary of frame f; one overtaken by another is superseded (R189). -/
def State.applyPending (s : State) (n f : Nat) : State × Option CommitSet :=
  let due := (s.head n).pending.filter fun c => decide (c.target ≤ f)
  match due.getLast? with
  | none => (s, none)
  | some c =>
    let s := s.updHead n fun h => { h with pending := h.pending.filter fun c => decide (f < c.target) }
    let s := due.dropLast.foldl (fun s c => s.showState c 6 {} 0) s
    (s.applySet c, some c)

/-- What changes on screen at the boundary of frame f (R156, R181, R189, R254, R313): the state after it, the set that applied, and
the layers that act under NOTREADY. -/
def State.takeBoundary (s : State) (n f : Nat) : State × Option CommitSet × List Nat :=
  let s := s.applyWaiting (boundaryRegs n)
  let r := s.applyPending n f
  let s := r.1
  let layers := ((s.head n).applied.map (·.layers)).getD []
  let late := s.notReadyLayers n layers
  let s := layers.foldl (fun s d => s.layerBoundary n d) s
  let s := { s with dts := nput dtD s.dts n (s.dt (dtNext n)) }
  (s.plBoundary n f, r.2, late)

/-- The boundary of a head's frame (R156). -/
def boundaryStep (n : Nat) (s : State) : State :=
  let h := s.head n
  let f := h.bndNext
  let st := s.hst n
  if !(st = 2 ∨ st = 3) ∨ s.now < s.lineStart n f 7 then s else
  let b := s.takeBoundary n f
  let s := b.1
  let s := if b.2.2 = [] then s else s.raise (0x084 + 8 * n) n
  let s : State := match b.2.1 with
    | some c => s.journal (n / 2) (journalRecord c (s.get (F.CE_VINT_APP_VINTAGE (n / 2) (n % 2))) f s.tai false b.2.2)
    | none => s
  let s := s.rateShown n (b.2.1 <|> (if f = h.startFrame then (s.head n).applied else none))
  let s := s.plFrameScan n
  let s := s.updHead n fun x => { x with bndNext := f + 1, hostLate := false }
  s.headEvent n 4 7 f

end Sys2Proof.Machine
end

