-- ==== Sys2Proof/Machine/CueCore.lean ====
section
/-! DEFINITION. Cue engines apart from their register-space accesses: registers and memories (R263, R272, R273), traps (R285 to R287),
boundaries and halting (R288, R289), the frame of an instruction (R264, R267, R291), and waits (R294 to R305). -/

namespace Sys2Proof.Machine

/-! ### Registers and memories -/

abbrev w40D : Nat → Word40 := fun _ => 0

/-- Register cr of engine n; c0 reads 0 (R263). -/
def State.creg (s : State) (n r : Nat) : Word40 := if r = 0 then 0 else mget w40D s.cregs (32 * n + r)

def State.setCreg (s : State) (n r : Nat) (v : Word40) : State :=
  if r = 0 then s else { s with cregs := nput w40D s.cregs (32 * n + r) v }

def State.imemAt (s : State) (n i : Nat) : Word40 := mget w40D s.imem (16384 * n + i)

def State.setImem (s : State) (n i : Nat) (v : Word40) : State :=
  { s with imem := nput w40D s.imem (16384 * n + i) v, ecc := nput (fun _ => 0) s.ecc (16384 * n + i) 0 }

def State.dmemAt (s : State) (n i : Nat) : Word40 := mget w40D s.dmem (8192 * n + i)

/-- The places of the cue memories in the record of bad words. -/
def dmKey (n i : Nat) : Nat := 2 ^ 20 + 8192 * n + i
def scrKey (i : Nat) : Nat := 2 ^ 21 + i

def State.eccAt (s : State) (k : Nat) : Nat := mget (fun _ => 0) s.ecc k

def State.clearEcc (s : State) (k : Nat) : State := { s with ecc := nput (fun _ => 0) s.ecc k 0 }

def State.setDmem (s : State) (n i : Nat) (v : Word40) : State :=
  ({ s with dmem := nput w40D s.dmem (8192 * n + i) v }).clearEcc (dmKey n i)

def State.scr (s : State) (i : Nat) : Word := mget (fun _ => (0 : Word)) s.scratch i

def State.setScr (s : State) (i : Nat) (v : Word) : State :=
  ({ s with scratch := nput (fun _ => (0 : Word)) s.scratch i v }).clearEcc (scrKey i)

/-- The header of engine n. -/
def cuB (n : Nat) : List Nat := [20, n]

def State.cst (s : State) (n : Nat) : Nat := s.get (F.CU_STAT_STATE n)
def State.cpc (s : State) (n : Nat) : Nat := s.get (F.CU_PC_PC n)
def State.setPc (s : State) (n pc : Nat) : State := s.set (F.CU_PC_PC n) pc
def State.flags (s : State) (n : Nat) : Nat := s.get (F.CU_FLAGS_FLAGS n)
def State.setFlags (s : State) (n f : Nat) : State := s.set (F.CU_FLAGS_FLAGS n) f
def State.ie (s : State) (n : Nat) : Bool := s.flag (F.CU_STAT_IE n)

/-- The origin of engine n's own faults and accesses (R275, R293). -/
def State.cuOrigin (s : State) (n : Nat) : Origin :=
  if n = 17 then .powerSteward 0 else if h : n < 24 then .cu ⟨n, h⟩ (s.cpc n) else .hardware

def State.cuOrg (s : State) (n : Nat) : Org := orgOf (s.cuOrigin n)

/-- The engine spends cycles. -/
def State.spend (s : State) (n k : Nat) : State := s.updCue n fun c => { c with cycle := (c.cycle + k) % 2 ^ 40 }

/-- A cost that contention leaves open, between lo and hi cycles (R268, R277). -/
def State.spendFree (s : State) (n lo hi : Nat) : State :=
  let x := s.fresh
  x.2.spend n (lo + x.1 % (hi + 1 - lo))

/-! ### Traps and boundaries (R285 to R289) -/

/-- The engine halts. -/
def State.haltWith (s : State) (n stop : Nat) : State :=
  let s := ((s.set (F.CU_STAT_STATE n) 0).set (F.CU_STAT_STOP n) stop).updCue n fun c => { c with wait := none, halting := false, step := false }
  s.latch (cuB n) 1

/-- Trap entry (R286). -/
def State.enterTrap (s : State) (n v epc edata : Nat) : State :=
  let org := s.cuOrg n
  let f := s.flags n
  let s := ((s.set (F.CU_EPC_EPC n) epc).set (F.CU_ECAUSE_VECTOR n) v).set (F.CU_EDATA_DATA n) edata
  let s := s.updCue n fun c => { c with eflags := f }
  let s := ((s.set (F.CU_STAT_IE n) 0).setPc n (s.get (F.CU_VBASE_PC n) + v)).spend n 2
  let s := (s.count (F.CU_TRAP_CNT_COUNT n) 1).latch (cuB n) 2
  if v = 2 then s.raise 0x161 n org else if v ≤ 1 then s.raise 0x162 n org else s

/-- A trap that arises while IE = 0, but for LATE and KICK, halts the engine at the instruction that caused it (R287). -/
def State.doubleHalt (s : State) (n pc : Nat) : State :=
  let s := s.setPc n pc
  let org := s.cuOrg n
  (s.haltWith n 4).raise 0x160 n org

/-- Take the LATE or KICK trap that is pending (R286, R287). -/
def State.takePending (s : State) (n : Nat) : State :=
  if !s.ie n then s else
  let c := s.cue n
  match c.late with
  | some d => (s.setCue n { c with late := none }).enterTrap n 2 (s.cpc n) d
  | none =>
    match c.kick with
    | some a => (s.setCue n { c with kick := none }).enterTrap n 4 (s.cpc n) a
    | none => s

/-- The engine comes to an instruction boundary: a requested halt, or the halt of a step, is made (R288, R289). -/
def State.haltDue (s : State) (n : Nat) : State :=
  if s.cst n = 3 then s.haltWith n 2 else if s.cst n = 1 ∧ (s.cue n).step then s.haltWith n 3 else s

/-- An instruction boundary. `acc` is the address of an access whose refusal takes trap ACCESS, `pc` the instruction. -/
def State.boundary (s : State) (n : Nat) (acc : Option Nat) (pc : Nat) : State :=
  if s.cst n = 0 then s else
  match acc with
  | some a => if s.ie n then (s.enterTrap n 3 (s.cpc n) a).haltDue n else s.doubleHalt n pc
  | none => (s.takePending n).haltDue n

/-- A trap that stops an instruction before it has any effect (R286). -/
def State.trapNow (s : State) (n v edata : Nat) : State :=
  let pc := s.cpc n
  if s.ie n then (s.enterTrap n v pc edata).haltDue n else s.doubleHalt n pc

/-- An instruction is complete: its cost, and the next program counter. -/
def State.retire (s : State) (n cost next : Nat) : State :=
  let pc := s.cpc n
  let s := (s.setPc n next).spend n cost
  let s := s.wr (.CU_RETIRED, [n]) (s.rd (.CU_RETIRED, [n]) + 1)
  s.boundary n none pc

/-- An instruction that writes a register and goes on. -/
def State.finishOp (s : State) (n rd : Nat) (v : Word40) (cost : Nat) : State :=
  (s.setCreg n rd v).retire n cost (s.cpc n + 1)

/-! ### The frame of an instruction (R264, R267, R268, R291) -/

/-- Engine n is up: the service engines once their firmware is started, the others from boot step 5 on (R31). -/
def State.cueUp (s : State) (n : Nat) : Bool :=
  !s.dv.railsOff && (decide (5 ≤ s.dv.step) || (decide (16 ≤ n) && decide (n < 20) && s.dv.svcSince.isSome))

/-- Run one instruction of engine n, if the word at its program counter has the opcode. An uncorrectable word halts the engine
(R274). An instruction above the image level, in a wrong form or otherwise not legal takes trap ILLEGAL; one at word 16,383
that goes on to the next word takes trap RANGE. -/
def State.cueInstr (s : State) (n op : Nat) (form : Form) (level : Nat) (seq : Bool) (legal : Word40 → Bool)
    (f : Word40 → State → State) : State :=
  if s.cst n ≠ 1 ∨ !s.cueUp n then s else
  let pc := s.cpc n
  if s.eccAt (16384 * n + pc) = 2 then
    let org := s.cuOrg n
    (s.haltWith n 5).raise 0x163 n org
  else
    let w := s.imemAt n pc
    if iOp w ≠ op then s
    else if s.get (F.CU_IMG_LEVEL n) < level ∨ !form.ok w ∨ !legal w then s.trapNow n 0 w.toNat
    else if seq ∧ pc = 16383 then s.trapNow n 1 16384
    else f w s

/-- Any word is legal. -/
def always (_w : Word40) : Bool := true

/-- A register operation: rd ← r, with flags, in one cycle. -/
def State.aluOp (s : State) (n op : Nat) (form : Form) (level : Nat) (legal : Word40 → Bool)
    (f : Word40 → State → Word40 × Nat) : State :=
  s.cueInstr n op form level true legal fun w s =>
    let r := f w s
    (s.setFlags n r.2).finishOp n (iRd w) r.1 1

/-- Operands of a word. -/
def State.a1 (s : State) (n : Nat) (w : Word40) : Word40 := s.creg n (iRs1 w)
def State.a2 (s : State) (n : Nat) (w : Word40) : Word40 := s.creg n (iRs2 w)

/-- The opcodes of R268. -/
def opcodes : List Nat :=
  [0x01, 0x02, 0x03, 0x04, 0x05, 0x06, 0x07, 0x08, 0x09, 0x0A, 0x0B, 0x0C, 0x0D, 0x0E, 0x10, 0x11, 0x12, 0x13, 0x14, 0x15, 0x16,
    0x17, 0x18, 0x19, 0x1A, 0x1B, 0x20, 0x21, 0x22, 0x24, 0x25, 0x26, 0x27, 0x28, 0x29, 0x2A, 0x2C, 0x2D, 0x2E, 0x2F, 0x30, 0x31,
    0x32, 0x34, 0x35, 0x36, 0x37, 0x38, 0x39, 0x3A, 0x3B]

/-- Opcode 0x00, and every opcode that the engine does not implement, takes trap ILLEGAL. -/
def State.illOp (s : State) (n : Nat) : State :=
  let op := iOp (s.imemAt n (s.cpc n))
  if opcodes.contains op then s else s.cueInstr n op .r 0 false (fun _ => false) fun _ s => s

/-! ### Control transfer -/

/-- Go to a target; outside the instruction memory it takes trap RANGE, as a JALR target does (log 41). -/
def State.jump (s : State) (n : Nat) (t : Int) (f : State → State) : State :=
  if t < 0 ∨ 16384 ≤ t then s.trapNow n 1 (pattern 32 t) else (f s).retire n 1 t.toNat

/-- The target of a branch. -/
def State.branchTo (s : State) (n : Nat) (w : Word40) : Int := ((s.cpc n + 1 : Nat) : Int) + signed 19 (iImm w)

/-! ### Data memory and scratch (R272 to R274) -/

/-- A corrected word is counted, and ECC_CORR latches. -/
def State.corrected (s : State) (n key : Nat) : State :=
  if s.eccAt key = 1 then ((s.count F.CUS_MEM_CORR_COUNT 1).latch (cuB n) 64).clearEcc key else s

/-- An instruction reads a word of data memory or scratch: an uncorrectable one takes trap ECC, which goes before the trap RANGE of
an instruction at word 16,383 (R286). -/
def State.readWord (s : State) (n key i : Nat) (f : State → State) : State :=
  if s.eccAt key = 2 then
    (((s.count F.CUS_MEM_UNCORR_COUNT 1).raise 0x164 n (s.cuOrg n))).trapNow n 5 i
  else if s.cpc n = 16383 then s.trapNow n 1 16384
  else f (s.corrected n key)

/-- The index rs1 + sext(imm19), modulo 2^40. -/
def State.indexOf (s : State) (n : Nat) (w : Word40) : Nat := (s.a1 n w + iSext w).toNat

/-- An access to data memory. -/
def State.dmOp (s : State) (n : Nat) (w : Word40) (f : Nat → State → State) : State :=
  let i := s.indexOf n w
  if 8192 ≤ i then s.trapNow n 1 i else f i s

/-- An access to the scratch at an index. -/
def State.scrOp (s : State) (n i : Nat) (f : State → State) : State := if 262144 ≤ i then s.trapNow n 1 i else f s

/-- An instruction that reads a scratch word, may write it, and writes the old word to rd (R268, R273). -/
def State.atomic (s : State) (n rd i : Nat) (upd : Word → Option Word) : State :=
  s.scrOp n i fun s => s.readWord n (scrKey i) i fun s =>
    let o := s.scr i
    let s := match upd o with
      | some v => s.setScr i v
      | none => s
    let x := s.fresh
    x.2.finishOp n rd (w40 o.toNat) (4 + x.1 % 37)

/-! ### Special registers (R284) -/

/-- The domain time of the latest tick delivered to the engines. -/
def State.cueTime (s : State) : Nat := s.tb.seen2

/-- The count, in ns, of that tick. -/
def State.cueNs (s : State) : Nat := s.tb.sec * 1000000000 + s.tb.ns - (s.dtime + 2 ^ 40 - s.cueTime) % 2 ^ 40

/-- Special register k of engine n. -/
def State.special (s : State) (n k : Nat) : Word40 :=
  match k with
  | 0 => w40 (s.get (F.CU_EPC_EPC n))
  | 1 => w40 (s.get (F.CU_ECAUSE_VECTOR n))
  | 2 => w40 (s.get (F.CU_EDATA_DATA n))
  | 3 => w40 (s.cue n).eflags
  | 4 => w40 (s.flags n)
  | 5 => w40 (s.cue n).cycle
  | 6 => w40 s.cueTime
  | 7 => w40 n
  | 8 => w40 (if n < 16 then n else 31)
  | 9 => w40 (if n < 16 then 0x200000 + 0x10000 * n else 0)
  | 10 => w40 (if n < 16 then 0x300000 + 0x20000 * (n / 2) else 0)
  | 11 => w40 (if 16 ≤ n ∨ s.hst n = 0 then 0 else ((s.accPos n).getD (0, 1, 0)).1)
  | _ => w40 (b2n (s.ie n))

/-- Write special register k. -/
def State.setSpecial (s : State) (n k : Nat) (v : Word40) : State :=
  match k with
  | 0 => s.set (F.CU_EPC_EPC n) v.toNat
  | 1 => s.set (F.CU_ECAUSE_VECTOR n) v.toNat
  | 2 => s.set (F.CU_EDATA_DATA n) v.toNat
  | 3 => s.updCue n fun c => { c with eflags := v.toNat % 32 }
  | 4 => s.setFlags n v.toNat
  | 12 => s.set (F.CU_STAT_IE n) v.toNat
  | _ => s

/-- The special registers that WRS may write. -/
def specialRw (k : Nat) : Bool := decide (k ≤ 4) || k == 12

/-! ### Waits (R294 to R305) -/

/-- The engine waits. -/
def State.beginWait (s : State) (n : Nat) (kind : WaitKind) (rd : Nat) (hit : Option (Nat × Bool × Nat)) : State :=
  (s.set (F.CU_STAT_STATE n) 2).updCue n fun c => { c with wait := some ⟨kind, rd, s.tick, hit⟩ }

/-- A head wait of an engine whose head has no raster completes at once with all ones (R304). -/
def State.headWait (s : State) (n rd : Nat) (f : State → State) : State :=
  if s.hst n ≤ 1 then s.finishOp n rd (w40 allOnes) 1 else f s

/-- An event of head n that is not yet delivered: of a code, for a line and frame where these are given (R294, R295). -/
def State.undelivered (s : State) (n code : Nat) (line : Option Nat) (frame : Option Nat) : Option (Nat × Nat × Nat × Nat) :=
  (s.head n).recent.reverse.find? fun e => decide (s.tick < e.1 + 2) && e.2.1 == code &&
    line.all (fun l => l == e.2.2.1) && frame.all (fun f => f == e.2.2.2)

/-- WAITE of a head event. -/
def State.waitHead (s : State) (n rd code : Nat) : State :=
  let go (s : State) := s.beginWait n (.head code) rd
    ((s.undelivered n code none none).map fun e => (e.2.2.1 + e.2.2.2 % 2 ^ 27 * 2 ^ 13, false, e.1))
  if code ≤ 8 then s.headWait n rd go else go s

/-- WAITE of a device event: a set latch is taken at once (R298), an occurrence on its way at its delivery point (R294, R295). -/
def State.waitDevice (s : State) (n rd code : Nat) : State :=
  match s.evtLatch n code with
  | some d =>
    if s.delivered d.2 then (s.setEvt n code none).finishOp n rd (w40 d.1) 1
    else (s.setEvt n code none).beginWait n (.device code) rd (some (d.1, false, d.2))
  | none => s.beginWait n (.device code) rd none

/-- WAITL (R299). -/
def State.waitLine (s : State) (n rd l : Nat) : State :=
  s.headWait n rd fun s => s.beginWait n (.line l) rd ((s.undelivered n 0 (some l) none).map fun e => (e.2.2.2 % 2 ^ 40, false, e.1))

/-- The late window of engine n (R302). -/
def State.lateWindow (s : State) (n : Nat) : Nat :=
  let w := s.get (F.CU_LATE_WIN_NS n)
  if w ≠ 0 then w
  else if 16 ≤ n then 2 ^ 24
  else match s.raster n with
    | some r => min (2 ^ 24) (1000000000 * r.2.2.2 / r.2.2.1)
    | none => 2 ^ 24

/-- A wait whose target is past completes at once (R303). -/
def State.lateWait (s : State) (n rd late : Nat) : State :=
  let w := s.lateWindow n
  let s := (s.setFlags n (setLate (s.flags n) (late != 0))).setCreg n rd (w40 s.cueTime)
  let s : State := if late = 0 then s
    else if late ≤ w then (s.count (F.CU_LATE_CNT_COUNT n) 1).latch (cuB n) 4
    else (s.count (F.CU_LATE_CNT_COUNT n) 1).updCue n fun c => { c with late := c.late <|> some (min late 0xFFFFFFFF) }
  s.retire n 1 (s.cpc n + 1)

/-- WAITT (R301). -/
def State.waitTime (s : State) (n rd t : Nat) : State :=
  let d := (t + 2 ^ 40 - s.cueTime) % 2 ^ 40
  if d = 0 then s.lateWait n rd 0
  else if d < 2 ^ 39 then s.beginWait n (.until t) rd none
  else s.lateWait n rd (2 ^ 40 - d)

/-- The frame that WAITP names (R300). -/
def targetOf (f rs1 : Nat) : Int :=
  let d := (rs1 + 2 ^ 40 - f % 2 ^ 40) % 2 ^ 40
  if d < 2 ^ 39 then ((f + d : Nat) : Int) else (f : Int) - ((2 ^ 40 - d : Nat) : Int)

/-- The time since the exact start of line l of frame f of head n, in whole ns rounded down (R300). -/
def State.lineLateness (s : State) (n : Nat) (f : Int) (l : Nat) : Nat :=
  match s.raster n with
  | none => 0
  | some r =>
    let x : Int := f * ((r.2.1 * r.1 : Nat) : Int) + (((l - 1) * r.1 + s.delay n r.1 : Nat) : Int)
    let den : Int := ((r.2.2.1 * r.2.1 * r.1 : Nat) : Int)
    ((((s.cueNs : Nat) : Int) * den - x * ((r.2.2.2 * 1000000000 : Nat) : Int)) / den).toNat

/-- WAITP (R300). -/
def State.waitLineOf (s : State) (n rd l t : Nat) : State :=
  s.headWait n rd fun s =>
    let h := s.head n
    let f := targetOf h.frame t
    let gone := f < (h.frame : Int) || (f == (h.frame : Int) && decide (l ≤ h.line))
    match if f < 0 then none else s.undelivered n 0 (some l) (some f.toNat) with
    | some e => s.beginWait n (.frameLine f.toNat l) rd (some (0, false, e.1))
    | none => if gone then s.lateWait n rd (s.lineLateness n f l) else s.beginWait n (.frameLine f.toNat l) rd none

/-- What a completed wait leaves in rd and in the flags (R281, R296, R299 to R305). -/
def State.waitResult (s : State) (n : Nat) (w : Wait) (data : Nat) (late : Bool) : Word40 × Nat :=
  let f := s.flags n
  match w.kind with
  | .until _ | .frameLine _ _ =>
    if late then (w40 allOnes, setLate f true)
    else if data = allOnes then (w40 allOnes, f)
    else (w40 s.cueTime, setLate f false)
  | .commit _ => (w40 data, setZ f (2 ≤ data % 8 && data % 8 ≤ 4))
  | _ => (w40 data, f)

/-- The wait of engine n completes at the delivery point of what satisfies it (R294). -/
def waitDone (n : Nat) (s : State) : State :=
  let c := s.cue n
  match c.wait with
  | some ⟨kind, rd, since, some (data, late, t)⟩ =>
    if s.tick < t + 2 ∨ (s.cst n ≠ 2 ∧ s.cst n ≠ 3) then s else
    let r := s.waitResult n ⟨kind, rd, since, none⟩ data late
    let s := s.setCue n { c with wait := none }
    let s := if s.cst n = 2 then s.set (F.CU_STAT_STATE n) 1 else s
    (s.setFlags n r.2).finishOp n rd r.1 (1 + 2 * (s.tick - since))
  | _ => s

/-! ### Starting and halting (R288, R289) -/

/-- A write of RUN = 1 to a halted engine. -/
def State.startEngine (s : State) (n : Nat) (resume step : Bool) : State :=
  let c := s.cue n
  let s := (s.set (F.CU_STAT_STATE n) 1).set (F.CU_STAT_IE n) 1
  if resume then s.setCue n { c with step := step, wait := none, halting := false }
  else
    let s := (s.setPc n (s.get (F.CU_ENTRY_PC n))).setFlags n 0
    let s := s.setCue n { c with step := step, wait := none, halting := false, late := none, kick := none, cycle := 0 }
    (List.range 8).foldl (fun s k => s.setEvt n (16 + k) none) s

/-- A write of RUN = 0. A wait other than that of COMMIT is abandoned; a COMMIT completes its check first. -/
def State.haltEngine (s : State) (n : Nat) : State :=
  let st := s.cst n
  if st = 1 then (s.set (F.CU_STAT_STATE n) 3).boundary n none (s.cpc n)
  else if st = 2 then
    match (s.cue n).wait with
    | some w =>
      match w.kind with
      | .commit _ => s.set (F.CU_STAT_STATE n) 3
      | _ => ((s.set (F.CU_STAT_STATE n) 3).updCue n fun c => { c with wait := none }).boundary n none (s.cpc n)
    | none => (s.set (F.CU_STAT_STATE n) 3).boundary n none (s.cpc n)
  else s

/-- The registers of engine n. -/
def cueKey (n : Nat) (k : Key) : Bool := ((regDef k.1).blk == .CU && !isHdr k.1 && k.2.headD 99 == n) || (isHdr k.1 && k.2 == [20, n])

/-- A reset of engine n (R266). -/
def State.resetEngine (s : State) (n : Nat) : State :=
  let keep := s.rd (.CU_IMG, [n])
  let s := s.clearKeys (cueKey n)
  let s := (s.wr (.CU_IMG, [n]) keep).setCue n {}
  (List.range 8).foldl (fun s k => s.setEvt n (16 + k) none) s



end Sys2Proof.Machine
end

