-- ==== Sys2Proof/Machine/Transmit.lean ====
section
/-! DEFINITION. Transmit queues and gate control lists (15): launch times, tokens and credit, the choice of the next frame,
gates, drops, and observation. Times are counts in units of 2^-32 ns; tokens and credit are in units of 1 / (8 × 10^5 × 2^32)
byte, so that a rate of 10 kb/s gains 1 per unit of time. -/

namespace Sys2Proof.Machine

def ngB : List Nat := [19, 0]

def npB (p : Nat) : List Nat := [16, p]

abbrev queueD : Nat → QueueSt := fun _ => {}
abbrev portD : Nat → PortSt := fun _ => {}

def State.queue (s : State) (q : Nat) : QueueSt := mget queueD s.queues q
def State.setQueue (s : State) (q : Nat) (x : QueueSt) : State := { s with queues := nput queueD s.queues q x }
def State.updQueue (s : State) (q : Nat) (f : QueueSt → QueueSt) : State := s.setQueue q (f (s.queue q))
def State.port (s : State) (p : Nat) : PortSt := mget portD s.ports p
def State.setPort (s : State) (p : Nat) (x : PortSt) : State := { s with ports := nput portD s.ports p x }
def State.updPort (s : State) (p : Nat) (f : PortSt → PortSt) : State := s.setPort p (f (s.port p))

/-- The instances of a control register whose EN, bit 0, is set, in ascending order: a register that is not listed holds its
reset value, with EN = 0. -/
def State.enabled (s : State) (r : Reg) : List Nat :=
  s.regs.filterMap fun e => if e.1.1 = r ∧ bits e.2 0 0 = 1 then some (e.1.2.getD 0 0) else none

/-- The enabled queues of port p, in ascending index. -/
def State.portQueues (s : State) (p : Nat) : List Nat :=
  (s.enabled .NQ_CTRL).filter fun q => s.get (F.NQ_CTRL_PORT q) == p

/-- The port of a queue. -/
def State.qPort (s : State) (q : Nat) : Nat := s.get (F.NQ_CTRL_PORT q)

/-- One byte in units of tokens. -/
def tokByte : Nat := 800000 * 2 ^ 32

/-- Units of time in a nanosecond. -/
def nsUnits : Nat := 2 ^ 32

/-- The shaped length of a frame (R350): with its FCS and the overhead in effect. -/
def State.shaped (s : State) (p : Nat) (e : TxEnt) : Nat := e.data.length + 4 + s.getE (F.NP_NQ_OVERHEAD_BYTES p)

/-- The duration of a shaped length on the wire (R350). -/
def wireUnits (shaped : Nat) : Nat := shaped * 8 * nsUnits / 100

/-! ### Gates (R362 to R364) -/

/-- The entries of a list as they run in one cycle: gates and duration, cut at the cycle's end, the last one lengthened. -/
def Gcl.segments (l : Gcl) : List (Nat × Nat) := go l.entries 0
where
  go : List (Nat × Nat) → Nat → List (Nat × Nat)
    | [], _ => []
    | [(g, _)], t => if t < l.cycle then [(g, l.cycle - t)] else []
    | (g, i) :: es, t => if l.cycle ≤ t + i then (if t < l.cycle then [(g, l.cycle - t)] else []) else (g, i) :: go es (t + i)

/-- The segment of a list in which an offset of its cycle lies: its index, gates, and the offset of its end. -/
def segAt : List (Nat × Nat) → Nat → Nat → Nat → Nat × Nat × Nat
  | [], _, i, at_ => (i, 255, at_)
  | (g, d) :: ss, o, i, at_ => if o < at_ + d * nsUnits then (i, g, at_ + d * nsUnits) else segAt ss o (i + 1) (at_ + d * nsUnits)

/-- The entry of a list at a count at or after its base: index, gates, and the count at which it ends. -/
def Gcl.at' (l : Gcl) (t : Nat) : Nat × Nat × Nat :=
  let c := l.cycle * nsUnits
  let o := (t - l.base * nsUnits) % c
  let r := segAt l.segments o 0 0
  (r.1, r.2.1, t - o + r.2.2)

/-- Whether gate g of a port is open at a count, and until when that is known (R362). -/
def PortSt.gate (x : PortSt) (g t : Nat) : Bool × Option Nat :=
  let use : Option Gcl := match x.pend with
    | some l => if l.base * nsUnits ≤ t then some l else x.oper
    | none => x.oper
  let lim : Option Nat := match x.pend with
    | some l => if t < l.base * nsUnits then some (l.base * nsUnits) else none
    | none => none
  match use with
  | none => (true, lim)
  | some l =>
    let r := l.at' t
    (nbit r.2.1 g, some (match lim with
      | some b => min b r.2.2
      | none => r.2.2))

/-- Gate g stays open from a count to another (R364). -/
def PortSt.staysOpen (x : PortSt) (g stop : Nat) : Nat → Nat → Bool
  | 0, _ => true
  | fuel + 1, t =>
    if stop ≤ t then true else
    let r := x.gate g t
    if !r.1 then false else
    match r.2 with
    | some e => x.staysOpen g stop fuel e
    | none => true

/-- Gate g is open now. -/
def State.gateOpen (s : State) (p g : Nat) : Bool := ((s.port p).gate g s.now).1

/-- The longest unbroken open run of gate g in a list, in ns; none without limit (R364). -/
def Gcl.longest (l : Gcl) (g : Nat) : Option Nat :=
  let ss := l.segments
  if ss.all fun e => nbit e.1 g then none else
  some ((ss ++ ss).foldl (fun a e =>
    let run := if nbit e.1 g then a.1 + e.2 else 0
    (run, max a.2 run)) (0, 0)).2

/-- A frame is too long for every window of its gate (R364). -/
def State.neverFits (s : State) (p q : Nat) (e : TxEnt) : Bool :=
  match (s.port p).oper with
  | none => false
  | some l =>
    match l.longest (s.get (F.NQ_CTRL_GATE q)) with
    | none => false
    | some ns => decide (ns * nsUnits < wireUnits (s.shaped p e))

/-! ### Tokens and credit (R352, R358, R359) -/

/-- The time that has passed in ticks, in units of 2^-32 ns: tokens and credit grow with it, and no step of the count adds to them or
takes from them (log 88). -/
def State.uptime (s : State) : Nat := s.tick * (5 * 2 ^ 31)

/-- Bring a queue's tokens or credit up to now. A CONTROL queue gains only while a frame waits, or while it is below 0, and
never behind a closed gate or while it sends (R358). -/
def State.accrue (s : State) (q : Nat) : State :=
  let x := s.queue q
  let p := s.qPort q
  let gain : Int := (s.getE (F.NQ_RATE_RATE q) * (s.uptime - x.since) : Nat)
  let cap : Int := (s.getE (F.NQ_BURST_BYTES q) * tokByte : Nat)
  let sending := (s.port p).sending.any fun e => e.1 == q
  let empty := x.waiting.isEmpty || s.get (F.NP_STAT_LINK p) == 0
  let tok :=
    match s.get (F.NQ_CTRL_CLASS q) with
    | 0 => min cap (x.tok + gain)
    | 1 =>
      if sending ∨ !s.gateOpen p (s.get (F.NQ_CTRL_GATE q)) then x.tok
      else if empty then (if x.tok < 0 then min 0 (x.tok + gain) else 0)
      else min cap (x.tok + gain)
    | _ => x.tok
  s.setQueue q { x with tok := tok, since := s.uptime }

/-- What the frame in transmission has still to take from the credit of its CONTROL queue (R358). -/
def State.creditAhead (s : State) (q : Nat) : Nat :=
  let x := s.port (s.qPort q)
  match x.sending with
  | some (c, _, start, stop) => if c = q ∧ start < stop then x.charge * (stop - s.now) / (stop - start) else 0
  | none => 0

/-- NQq_CREDIT: signed bytes (R358). -/
def State.creditWord (s : State) (q : Nat) : Word :=
  let x := (s.accrue q).queue q
  match s.get (F.NQ_CTRL_CLASS q) with
  | 2 => w32 x.deficit
  | 1 => w32 (pattern 32 ((x.tok + (s.creditAhead q : Nat)) / (tokByte : Int)))
  | _ => w32 (pattern 32 (x.tok / (tokByte : Int)))

/-- A queue's packet boundary: writes of class PKT take effect, and tokens are cut to a lower BURST (R50, R359). -/
def State.packetBoundary (s : State) (q : Nat) : State :=
  let s := s.applyWaiting fun k => k == (.NQ_RATE, [q]) || k == (.NQ_BURST, [q]) || k == (.NQ_QUANTUM, [q])
  s.updQueue q fun x => { x with tok := min x.tok ((s.getE (F.NQ_BURST_BYTES q) * tokByte : Nat) : Int) }

/-! ### Leaving a queue -/

/-- The outcome of a frame goes back to the host ring that sent it (R383): OK, dropped or discarded. -/
def State.ringOutcome (s : State) (e : TxEnt) (result : Nat) : State :=
  match e.ring with
  | none => s
  | some r =>
    let h : HqSt := mget (fun _ => {}) s.hqs r
    let rec mark : List HqFlight → List HqFlight
      | [] => []
      | f :: fs => if f.result.isNone ∧ bits (f.desc.getD 0 0) 3 0 = 4 then { f with result := some result } :: fs else f :: mark fs
    let s := { s with hqs := nput (fun _ => {}) s.hqs r { h with flight := mark h.flight } }
    if result = 4 ∨ result = 5 then (s.count ⟨(.HQ_DROP, [r]), 15, 0⟩ 1).latch [9, 0] 0x200 else s

/-- The head frame of a queue is gone. A CONTROL queue that empties loses a positive credit, a BEST_EFFORT queue its deficit
(R359, R361). -/
def State.popFrame (s : State) (q : Nat) : State :=
  let s := s.accrue q
  s.updQueue q fun x =>
    let rest := x.waiting.drop 1
    let empty := rest.isEmpty
    { x with
      waiting := rest
      presented := false
      tok := if empty && s.get (F.NQ_CTRL_CLASS q) == 1 then min x.tok 0 else x.tok
      deficit := if empty then 0 else x.deficit }

/-- Drop a frame that no window of its gate can hold (R364). -/
def State.dropOversize (s : State) (p q : Nat) (e : TxEnt) : State :=
  let s := (s.popFrame q).ringOutcome e 4
  let s := (s.count (F.NQ_OVERSIZE_COUNT q) 1).count (F.NP_TX_OVERSIZE_COUNT p) 1
  (s.latch (npB p) 0x200).raise 0x188 p

/-- Discard a frame because the link is down (R365). -/
def State.dropDown (s : State) (p q : Nat) (e : TxEnt) : State :=
  ((s.popFrame q).ringOutcome e 4).count (F.NP_TX_DOWN_DROP_COUNT p) 1

/-- A frame is at the head of its queue: it is dropped if it can never be sent (R364, R365). -/
def State.atHead (s : State) (q : Nat) : Nat → State
  | 0 => s
  | fuel + 1 =>
    let p := s.qPort q
    match (s.queue q).waiting with
    | [] => s
    | e :: _ =>
      if s.get (F.NP_STAT_LINK p) = 0 ∧ (s.get (F.NQ_CTRL_CLASS q) ≠ 0 ∨ e.launch.isNone ∨ e.launch.getD 0 ≤ s.now) then
        (s.dropDown p q e).atHead q fuel
      else if s.neverFits p q e then (s.dropOversize p q e).atHead q fuel
      else s

/-- Check the head frame of a queue, and those that follow it there. -/
def State.settle (s : State) (q : Nat) : State := s.atHead q ((s.queue q).waiting.length + 1)

/-- BACKLOG shows whether a frame waits at the head. -/
def State.showBacklog (s : State) (q : Nat) : State := s.set (F.NQ_STAT_BACKLOG q) (b2n !(s.queue q).waiting.isEmpty)

/-! ### Entering a queue -/

/-- The head whose stream queue q carries (R163). -/
def State.queueHead (s : State) (q : Nat) : Option Nat := (List.range 16).find? fun n => s.running n && (s.stQueues n).contains q

/-- The start of the unit that head n is in, in units of time, and its first line (R353). -/
def State.unitStart (s : State) (n : Nat) : Nat :=
  let h := s.head n
  s.lineStart n h.frame (if interlaced (s.fmt n) && decide (564 ≤ h.line) then 564 else 1)

/-- launch(i) of R353 for head n: TYPE and TRO come from its first queue. -/
def State.modelLaunch (s : State) (n t0 i : Nat) : Nat :=
  match s.raster n with
  | none => t0
  | some r =>
    let q := s.get (F.HD_DEST_ST_QUEUE n)
    let il := interlaced (s.fmt n)
    let a := (rasterActive (s.fmt n)).2 / (if il then 2 else 1)
    let lines := if s.get (F.NQ_MODEL_TYPE q) = 0 then a else if il then (if 564 ≤ (s.head n).line then 562 else 563) else r.2.1
    let tro := if s.get (F.NQ_MODEL_TRO q) = 0 then firstActive (s.fmt n) + 1 else s.get (F.NQ_MODEL_TRO q)
    let npkt := s.stPackets n (s.get (F.NQ_PAYLOAD_OCTETS q))
    t0 + ceilDiv ((tro * npkt + i * lines) * r.2.2.2 * 1000000000 * 2 ^ 32) (npkt * r.2.2.1 * r.2.1)

/-- The launch time of the frame that enters queue q now, by LAUNCH; and the queue's index after it. -/
def State.launchOf (s : State) (q : Nat) (desc : Option Nat) : Option Nat × QueueSt :=
  let x := s.queue q
  match s.get (F.NQ_CTRL_LAUNCH q) with
  | 1 =>
    match s.queueHead q with
    | none => (none, x)
    | some n =>
      let t0 := s.unitStart n
      let i := if x.unit = t0 then x.index else 0
      (some (s.modelLaunch n t0 i), { x with unit := t0, index := i + 1 })
  | 2 => (some ((x.index * s.get (F.NQ_PERIOD_UNITS q) + s.get (F.NQ_PHASE_UNITS q)) * 2 ^ 24), { x with index := x.index + 1 })
  | 3 => (desc, x)
  | _ => (none, x)

/-- The high-water mark of the frames that wait (R366). -/
def State.highDepth (s : State) (q : Nat) : State :=
  s.set (F.NQ_OBS_DEPTH_DEPTH q) (max (min (s.queue q).waiting.length 32767) (s.get (F.NQ_OBS_DEPTH_DEPTH q)))

/-- A frame enters a queue (R351). `desc` is the launch time that its descriptor carries. -/
def State.enqueue (s : State) (q : Nat) (data : List Byte) (tag : Nat) (desc : Option Nat) (ring : Option Nat) : State :=
  if !s.flag (F.NQ_CTRL_EN q) then s else
  let s := s.accrue q
  let r := s.launchOf q desc
  let period := s.get (F.NQ_CTRL_LAUNCH q) == 2
  let e : TxEnt := { data, tag := (if period then (s.queue q).index else tag) % 65536, stamp := s.flag (F.NQ_CTRL_TS q), launch := r.1, at_ := s.now, ring := ring }
  let first := (s.queue q).waiting.isEmpty
  let s := s.setQueue q { r.2 with waiting := r.2.waiting ++ [e] }
  let s := if s.flag (F.NP_TX_ACTIVE_HWM (s.qPort q)) then s.highDepth q else s
  (if first then s.settle q else s).showBacklog q

/-! ### Sending (R351 to R361) -/

/-- The instant at the MDI of a frame that port p starts at u: the internal latency to the balls, and TB_TSC_TXp (R120, R121). -/
def State.txInstant (s : State) (p u : Nat) : Int :=
  ((u + txLatency (s.get (F.NP_CTRL_PMD p)) : Nat) : Int) + signed 32 (s.get (F.TB_TSC_TX_DELAY p)) * 2 ^ 24

/-- Lateness of a frame now, in units of time (R357). -/
def State.lateness (s : State) (p : Nat) (e : TxEnt) : Nat := match e.launch with
  | some t => (s.txInstant p s.now - t).toNat
  | none => 0

/-- A frame is later than its port tolerates. -/
def State.tooLate (s : State) (p : Nat) (e : TxEnt) : Bool := decide (s.get (F.NP_LATE_TOL_NS p) * nsUnits < s.lateness p e)

/-- The frame's gate is open for its whole duration (R364). -/
def State.gateFits (s : State) (p q : Nat) (e : TxEnt) : Bool :=
  (s.port p).staysOpen (s.get (F.NQ_CTRL_GATE q)) (s.now + wireUnits (s.shaped p e)) 1024 s.now

/-- Step 1 of R351: the MEDIA frames that may start, with their queues. -/
def State.mediaReady (s : State) (p : Nat) : List (Nat × TxEnt) :=
  (s.portQueues p).filterMap fun q =>
    if s.get (F.NQ_CTRL_CLASS q) ≠ 0 then none else
    match (s.queue q).waiting with
    | [] => none
    | e :: _ =>
      if ((e.launch.getD 0 : Nat) : Int) ≤ s.txInstant p s.now ∧ !s.tooLate p e ∧ s.gateFits p q e ∧ ((s.shaped p e * tokByte : Nat) : Int) ≤ ((s.accrue q).queue q).tok
      then some (q, e) else none

/-- The earlier launch time goes first, and ties go to the lower queue. -/
def earlier (a b : Nat × TxEnt) : Nat × TxEnt := if b.2.launch.getD 0 < a.2.launch.getD 0 then b else a

/-- A frame of a lower class would end after a launch time that has been presented (R352). -/
def State.blocks (s : State) (p : Nat) (e : TxEnt) : Bool :=
  (s.portQueues p).any fun q =>
    s.get (F.NQ_CTRL_CLASS q) == 0 && (s.queue q).presented && match (s.queue q).waiting with
      | m :: _ => decide (((m.launch.getD 0 : Nat) : Int) < s.txInstant p (s.now + wireUnits (s.shaped p e)))
      | [] => false

/-- The CONTROL queues of a port in the order of R351: service queues first. -/
def State.controlOrder (s : State) (p : Nat) : List Nat :=
  let qs := (s.portQueues p).filter fun q => s.get (F.NQ_CTRL_CLASS q) == 1
  (qs.filter fun q => decide (16376 ≤ q)) ++ qs.filter fun q => decide (q < 16376)

/-- Step 2 of R351. -/
def State.controlReady (s : State) (p : Nat) : Option (Nat × TxEnt) :=
  (s.controlOrder p).findSome? fun q =>
    match (s.queue q).waiting with
    | [] => none
    | e :: _ => if 0 ≤ ((s.accrue q).queue q).tok ∧ s.gateFits p q e ∧ !s.blocks p e then some (q, e) else none

/-- One turn of the best-effort round (R361): the queue at `turn` sends if its deficit allows; a queue that comes to its turn
adds QUANTUM. `qs` is the round from the present turn on. -/
def State.bestEffort (s : State) (p : Nat) (fresh : Bool) : List Nat → Option (Nat × TxEnt) × State
  | [] => (none, s)
  | q :: qs =>
    match (s.queue q).waiting with
    | [] => s.bestEffort p true qs
    | e :: _ =>
      let s := if fresh then s.updQueue q fun x => { x with deficit := x.deficit + s.getE (F.NQ_QUANTUM_BYTES q) } else s
      if s.shaped p e ≤ (s.queue q).deficit ∧ s.gateFits p q e ∧ !s.blocks p e then
        (some (q, e), s.updPort p fun x => { x with turn := q })
      else s.bestEffort p true qs

/-- Step 3 of R351: from the queue whose turn it is, then round by round. -/
def State.bestReady (s : State) (p : Nat) : Option (Nat × TxEnt) × State :=
  let qs := (s.portQueues p).filter fun q => s.get (F.NQ_CTRL_CLASS q) == 2 && !(s.queue q).waiting.isEmpty
  let t := (s.port p).turn
  let round := (qs.filter fun q => decide (t < q)) ++ qs.filter fun q => decide (q ≤ t)
  let cur := qs.filter fun q => q == t
  match s.bestEffort p false cur with
  | (some r, s') => (some r, s')
  | (none, s') => s'.bestEffort p true ((List.replicate 160 round).flatten)

/-- A port starts a frame: its tokens, credit or deficit are charged, and it goes out (R352, R358, R361). -/
def State.sendFrame (s : State) (p q : Nat) (e : TxEnt) : State :=
  let sh := s.shaped p e
  let late := s.lateness p e
  let s := s.accrue q
  let cls := s.get (F.NQ_CTRL_CLASS q)
  let charge := if cls = 0 then sh * tokByte else if cls = 1 then sh * tokByte - sh * tokByte * s.getE (F.NQ_RATE_RATE q) / 10000000 else 0
  let s := s.updQueue q fun x => { x with
    tok := x.tok - ((charge : Nat) : Int)
    deficit := x.deficit - (if cls = 2 then sh else 0)
    waiting := x.waiting.drop 1
    presented := false }
  let s := if cls = 2 ∧ (s.queue q).waiting = [] then s.updQueue q fun x => { x with deficit := 0 } else s
  let s := if 10 * nsUnits < late then s.count (F.NQ_LATE_SENT_COUNT q) 1 else s
  let s := s.updPort p fun x => { x with sending := some (q, e, s.now, s.now + wireUnits sh), charge := charge }
  let s := s.applyWaiting fun k => k == (.NP_NQ_OVERHEAD, [p])
  let wait := ceilDiv (s.now - max e.at_ (e.launch.getD 0)) nsUnits
  let s := if s.flag (F.NP_TX_ACTIVE_HWM p) then s.set (F.NQ_OBS_DELAY_NS q) (max (s.get (F.NQ_OBS_DELAY_NS q)) (min wait 0xFFFFFFFF)) else s
  ((((s.packetBoundary q).settle q).showBacklog q)).emit (.frame p e.data)

/-- The free port starts the first eligible frame (R351). -/
def txStart (p : Nat) (s : State) : State :=
  if !s.blocksUp ∨ s.get (F.NP_STAT_LINK p) = 0 then (s.portQueues p).foldl (fun s q => (s.settle q).showBacklog q) s
  else if (s.port p).sending.isSome then s
  else
    match s.mediaReady p with
    | r :: rs => let c := rs.foldl earlier r; s.sendFrame p c.1 c.2
    | [] =>
      match s.controlReady p with
      | some c => s.sendFrame p c.1 c.2
      | none =>
        match s.bestReady p with
        | (some c, s') => s'.sendFrame p c.1 c.2
        | (none, _) => s

/-- A count in units of 2^-32 ns brought to the resolution of 2^-8 ns (R120); no count lies before 0. -/
def steps8 (u : Int) : Nat := u.toNat / 2 ^ 24 * 2 ^ 24

/-- By how much a stamp is off: within 2 ns for a PMD of four lanes and 4 ns for one of two (R120); `f` is free. -/
def stampSlip (pmd f : Nat) : Int :=
  let w := if pmd = 4 ∨ pmd = 5 then 2 ^ 10 else 2 ^ 9
  ((f % (2 * w + 1) : Nat) - (w : Nat) : Int) * 2 ^ 24

/-- A transmit stamp enters the queue of its port, or the servo's own for a service queue (R122, R367). -/
def State.addStamp (s : State) (p q tag start : Nat) : State :=
  let x := s.fresh
  let s := x.2
  let t : TxStamp := ⟨tag, q, ofUnits (steps8 (s.txInstant p start + stampSlip (s.get (F.NP_CTRL_PMD p)) x.1))⟩
  if 16376 ≤ q then { s with tb := { s.tb with servoTsq := s.tb.servoTsq ++ [t] } }
  else { s with tb := { s.tb with tsq := nput (fun _ => []) s.tb.tsq p (mget (fun _ => []) s.tb.tsq p ++ [t]) } }

/-- A frame finishes transmission (R356, R358, R367). -/
def txDone (p : Nat) (s : State) : State :=
  match (s.port p).sending with
  | none => s
  | some (q, e, start, stop) =>
    if s.now < stop then s else
    let s := s.updPort p fun x => { x with sending := none, charge := 0 }
    let s := s.updQueue q fun x => { x with
      since := s.uptime
      tok := if x.waiting.isEmpty && s.get (F.NQ_CTRL_CLASS q) == 1 then min x.tok 0 else x.tok }
    let s := (s.count (F.NP_TX_FRAMES_COUNT p) 1).count (F.NQ_FRAMES_COUNT q) 1
    let s := (s.set (F.NQ_STAT_TAG q) e.tag).ringOutcome e 0
    if e.stamp then s.addStamp p q e.tag start else s

/-- 2 µs before its launch time, the head frame of a MEDIA queue is presented (R352). -/
def launchPresentOp (q : Nat) (s : State) : State :=
  match (s.queue q).waiting with
  | [] => s
  | e :: _ =>
    if s.get (F.NQ_CTRL_CLASS q) = 0 ∧ e.launch.any (fun t => decide (t ≤ s.now + 2000 * nsUnits)) then
      s.updQueue q fun x => { x with presented := true }
    else s

/-- Count a frame that was dropped for its lateness: the first one since NQq_LATE_DROP was cleared is an event and a fault (R357). -/
def State.countLate (s : State) (p q : Nat) (e : TxEnt) : State :=
  let first := s.get (F.NQ_LATE_DROP_COUNT q) = 0
  let s := s.ringOutcome e 4
  let s := (s.count (F.NQ_LATE_DROP_COUNT q) 1).count (F.NP_TX_LATE_DROP_COUNT p) 1
  if first then (s.latch (npB p) 0x400).raise 0x189 p else s

/-- The frames of queue q that are later than the tolerance are dropped, wherever in the queue they wait (R357). -/
def lateDropOp (q : Nat) (s : State) : State :=
  let p := s.qPort q
  let old := (s.queue q).waiting
  let late := old.filter (s.tooLate p)
  if s.get (F.NQ_CTRL_CLASS q) ≠ 0 ∨ late = [] then s else
  let s := (s.accrue q).updQueue q fun x =>
    { x with waiting := old.filter fun e => !s.tooLate p e, presented := x.presented && !(old.head?.any (s.tooLate p)) }
  ((late.foldl (fun s e => s.countLate p q e) s).settle q).showBacklog q

/-! ### Enabling queues (R347 to R349) -/

/-- CLASS, SRC and LAUNCH permitted together (R347, R348). -/
def comboOk (q cls src launch : Nat) : Bool :=
  (if 16376 ≤ q then src == 3 else src != 3) &&
    match cls, src with
    | 0, 0 => launch == 1
    | 0, 1 => launch == 2 || launch == 3
    | 0, 2 => launch == 0 || launch == 2 || launch == 3
    | 1, 1 | 1, 2 | 1, 3 => launch == 0
    | 2, 2 | 2, 3 => launch == 0
    | _, _ => false

/-- The RATE sum of a port's enabled queues of a class. -/
def State.rateSum (s : State) (p cls : Nat) : Nat :=
  ((s.portQueues p).filter fun q => s.get (F.NQ_CTRL_CLASS q) == cls).foldl (fun a q => a + s.get (F.NQ_RATE_RATE q)) 0

/-- The first failing CFG_ERR of an enable of queue q whose CTRL would be w; 0 for none (R348). -/
def State.queueErr (s : State) (q : Nat) (w : Word) : Nat :=
  let cls := bits w 2 1
  let p := bits w 4 3
  let launch := bits w 9 7
  let rate := s.get (F.NQ_RATE_RATE q)
  let burst := s.get (F.NQ_BURST_BYTES q)
  let media := s.rateSum p 0 + (if cls = 0 then rate else 0)
  let control := s.rateSum p 1 + (if cls = 1 then rate else 0)
  if !comboOk q cls (bits w 6 5) launch ∨ s.get (F.NQ_MODEL_TYPE q) = 3 then 1
  else if cls ≤ 1 ∧ (9500000 < media ∨ 10000000 < media + control) then 2
  else if cls ≤ 1 ∧ !(decide (1 ≤ rate) && decide (rate ≤ 10000000) && decide (84 ≤ burst)) then 3
  else if launch = 2 ∧ (s.get (F.NQ_PERIOD_UNITS q) < 256000 ∨ s.get (F.NQ_PERIOD_UNITS q) ≤ s.get (F.NQ_PHASE_UNITS q)) then 4
  else 0

/-- The sums of a port follow its queues. -/
def State.portSums (s : State) (p : Nat) : State :=
  (s.set (F.NP_TX_ACTIVE_COUNT p) (s.portQueues p).length).set (F.NP_MEDIA_RATE_RATE p) (s.rateSum p 0)

/-- A queue starts empty (R348). -/
def State.startQueue (s : State) (q : Nat) : State :=
  let s := s.setQueue q { since := s.uptime }
  ((s.set (F.NQ_STAT_CFG_ERR q) 0).portSums (s.qPort q)).showBacklog q

/-- A queue stops: the frames that wait are discarded (R349). -/
def State.stopQueue (s : State) (q : Nat) : State :=
  let es := (s.queue q).waiting
  let s := s.setQueue q {}
  let s := s.withdraw 1 fun c _ => s.get (F.NQ_CTRL_SRC q) == 1 && s.get (F.NQ_CTRL_TARGET q) == c
  let s := es.foldl (fun s e => s.ringOutcome e 5) s
  (s.portSums (s.qPort q)).showBacklog q

/-! ### Gate control lists (R362, R363) -/

/-- The first failing CFG_ERR of a CHANGE on port p; 0 for none. -/
def State.gclErr (s : State) (p : Nat) (en : Bool) : Nat :=
  let len := s.get (F.NG_GCL_ADMIN_LEN_LEN p)
  if len = 0 ∨ 256 < len then 1
  else if (List.range len).any fun e => s.get (F.NG_GCL_ADMIN_INTERVAL p e) == 0 then 2
  else if s.get (F.NG_GCL_ADMIN_CYCLE_NS p) < 1000 then 3
  else if !en then 4
  else if s.flag (F.NG_GCL_STAT_PENDING p) then 5
  else 0

/-- An accepted CHANGE copies the admin fields as the pending list (R363). -/
def State.gclAccept (s : State) (p : Nat) : State :=
  let cycle := s.get (F.NG_GCL_ADMIN_CYCLE_NS p)
  let base := (s.get (F.NG_GCL_ADMIN_BASE_SH_SEC_HI p) * 2 ^ 32 + s.get (F.NG_GCL_ADMIN_BASE_SL_SEC_LO p)) * 1000000000 + s.get (F.NG_GCL_ADMIN_BASE_NS_NS p)
  let least := ceilDiv s.now nsUnits + 2000
  let base := if least ≤ base then base else base + ceilDiv (least - base) cycle * cycle
  let es := (List.range (s.get (F.NG_GCL_ADMIN_LEN_LEN p))).map fun e => (s.get (F.NG_GCL_ADMIN_GATES p e), s.get (F.NG_GCL_ADMIN_INTERVAL p e))
  let s := s.updPort p fun x => { x with pend := some ⟨base, cycle, es⟩ }
  (s.set (F.NG_GCL_STAT_PENDING p) 1).set (F.NG_GCL_STAT_CFG_ERR p) 0

/-- Every queue of a port brings its credit up to now, before gates change. -/
def State.accruePort (s : State) (p : Nat) : State := (s.portQueues p).foldl State.accrue s

/-- Show the operational list (R362). -/
def State.showOper (s : State) (p : Nat) (l : Option Gcl) : State :=
  let g := l.getD ⟨0, 0, []⟩
  let s := s.set (F.NG_GCL_OPER_LEN_LEN p) g.entries.length
  let s := s.set (F.NG_GCL_OPER_CYCLE_NS p) g.cycle
  let s := s.set (F.NG_GCL_OPER_BASE_SL_SEC_LO p) (g.base / 1000000000)
  let s := s.set (F.NG_GCL_OPER_BASE_SH_SEC_HI p) (g.base / 1000000000 / 2 ^ 32)
  let s := s.set (F.NG_GCL_OPER_BASE_NS_NS p) (g.base % 1000000000)
  let s := (s.set (F.NG_GCL_STAT_OPER p) (b2n l.isSome)).set (F.NG_GCL_STAT_ENTRY p) 0
  (List.range 256).foldl (fun s e =>
    let x := g.entries.getD e (0, 0)
    s.wr (.NG_GCL_OPER, [p, e]) (w32 (x.1 + x.2 * 256))) s

/-- EN = 0 discards both lists (R362). -/
def State.gclStop (s : State) (p : Nat) : State :=
  let s := (s.accruePort p).updPort p fun x => { x with oper := none, pend := none }
  (s.showOper p none).set (F.NG_GCL_STAT_PENDING p) 0

/-- The pending list becomes operational at its base (R363, R364). -/
def gclSwapOp (p : Nat) (s : State) : State :=
  match (s.port p).pend with
  | none => s
  | some l =>
    if s.now < l.base * nsUnits then s else
    let s := (s.accruePort p).updPort p fun x => { x with oper := some l, pend := none }
    let s := ((s.showOper p (some l)).set (F.NG_GCL_STAT_PENDING p) 0).latch (npB p) 0x100
    (s.portQueues p).foldl (fun s q => (s.settle q).showBacklog q) s

/-- The operational list moves to its next entry (R362). -/
def gateEntryOp (p : Nat) (s : State) : State :=
  match (s.port p).oper with
  | none => s
  | some l => (s.accruePort p).set (F.NG_GCL_STAT_ENTRY p) (l.at' s.now).1

/-! ### Observation (R366) -/

/-- The time, in ns, that the head frame of a queue has been eligible. -/
def State.eligibleNs (s : State) (q : Nat) : Nat :=
  match (s.queue q).waiting with
  | [] => 0
  | e :: _ => (s.now - max e.at_ (e.launch.getD 0)) / nsUnits

/-- The start of an observation period of port p. -/
def obsStep (p : Nat) (s : State) : State :=
  let qs := s.portQueues p
  let hwm := decide (1024 < qs.length)
  let s := if s.flag (F.NP_TX_ACTIVE_HWM p) = hwm then s else (s.set (F.NP_TX_ACTIVE_HWM p) (b2n hwm)).latch (npB p) 0x800
  qs.foldl (fun s q =>
    let s := s.set (F.NQ_OBS_DEPTH_HWM q) (b2n hwm)
    if hwm then s.highDepth q
    else (s.set (F.NQ_OBS_DEPTH_DEPTH q) (min (s.queue q).waiting.length 32767)).set (F.NQ_OBS_DELAY_NS q) (min (s.eligibleNs q) 0xFFFFFFFF)) s

end Sys2Proof.Machine
end

