-- ==== Sys2Proof/Machine/Dma.lean ====
section
/-! DEFINITION. Ancillary channels (R371 to R380) and host rings (R381 to R386). -/

namespace Sys2Proof.Machine

def adB : List Nat := [8, 0]

def hqB : List Nat := [9, 0]

abbrev adD : Nat → AdSt := fun _ => {}
abbrev hqD : Nat → HqSt := fun _ => {}

def State.ad (s : State) (c : Nat) : AdSt := mget adD s.ads c
def State.setAd (s : State) (c : Nat) (x : AdSt) : State := { s with ads := nput adD s.ads c x }
def State.updAd (s : State) (c : Nat) (f : AdSt → AdSt) : State := s.setAd c (f (s.ad c))
def State.hq (s : State) (r : Nat) : HqSt := mget hqD s.hqs r
def State.setHq (s : State) (r : Nat) (x : HqSt) : State := { s with hqs := nput hqD s.hqs r x }
def State.updHq (s : State) (r : Nat) (f : HqSt → HqSt) : State := s.setHq r (f (s.hq r))

/-! ### Ancillary channels -/

/-- The slots of a channel's ring. -/
def State.adSize (s : State) (c : Nat) : Nat := 2 ^ s.get (F.AD_CTRL_SIZE c)

/-- The number of slots that the index `a` is ahead of `b` (R372). -/
def idxDiff (a b : Nat) : Nat := (a + 65536 - b) % 65536

/-- The address of the slot that an index names. A local ring uses three bits of BASE_HI. -/
def State.slotAddr (s : State) (c i : Nat) : Nat :=
  let hi := s.get (F.AD_BASE_HI_ADDR c)
  (if s.flag (F.AD_CTRL_HOST c) then hi else hi % 8) * 2 ^ 32 + s.get (F.AD_BASE_LO_ADDR c) * 4096 + i % s.adSize c * 4096

/-- A slot as its 4 KiB. -/
structure AdSlot where
  len : Nat
  line : Nat
  hanc : Bool
  frame : Nat
  tag : Nat
  launch : Nat
  payload : List Byte

/-- The header and payload of a slot written by software (R372). -/
def parseSlot (bs : List Byte) : AdSlot :=
  let w (i : Nat) := ofBytesLE ((bs.drop (4 * i)).take 4)
  let len := min (w 0 % 4096) 4064
  { len, line := w 0 / 4096 % 8192, hanc := nbit (w 0) 25, frame := w 1 % 65536, tag := w 1 / 65536
    launch := w 2 + w 3 % 256 * 2 ^ 32, payload := (bs.drop 32).take len }

/-- A slot written by the device (R372): its line, HANC and CS_ERR bits, frame, stamp, context and port. -/
def makeSlot (payload : List Byte) (line : Nat) (hanc csErr : Bool) (frame : Nat) (t : Stamp) (ctx port : Nat) : List Byte :=
  bytesLE 4 (payload.length + line * 4096 + b2n hanc * 2 ^ 25 + b2n csErr * 2 ^ 26) ++ bytesLE 4 frame ++ bytesLE 4 t.ns ++
    bytesLE 4 t.sec ++ bytesLE 4 (ctx + port * 65536) ++ bytesLE 12 0 ++ payload

/-- The ancillary packets of a payload, as words (R374). -/
def packets : Nat → List Nat → List (List Nat)
  | 0, _ => []
  | fuel + 1, ws =>
    match ws with
    | did :: sdid :: dc :: rest =>
      let n := dc % 256 + 1
      if rest.length < n then [] else (did :: sdid :: dc :: rest.take n) :: packets fuel (rest.drop n)
    | _ => []

/-- The 10-bit words of a payload (R374). -/
def words10 : List Byte → List Nat
  | a :: b :: bs => (a.toNat + b.toNat * 256) % 1024 :: words10 bs
  | _ => []

/-- The packets of a slot. -/
def slotPackets (sl : AdSlot) : List (List Nat) := packets sl.payload.length (words10 sl.payload)

/-- The containers of packets (R374, R376). -/
def unpackWords (ws : List Nat) : List Byte := (ws.map fun w => bytesLE 2 (w % 1024)).flatten

/-- Lost packets of a channel (R373, R374). -/
def State.adLose (s : State) (c n : Nat) : State := if n = 0 then s else (s.count (F.AD_LOST_COUNT c) n).latch adB 2

/-- Insert one packet into its line, or drop it whole (R374). -/
def State.insertAnc (s : State) (c n line : Nat) (hanc : Bool) (p : List Nat) : State :=
  let h := s.head n
  let used := if h.anc.1 = line then h.anc else (line, [], [])
  let here := if hanc then used.2.2 else used.2.1
  if Config.ancFits hanc (s.fmt n) (s.rate n) here p.length then
    let used := if hanc then (line, used.2.1, used.2.2 ++ [p.length]) else (line, used.2.1 ++ [p.length], used.2.2)
    (s.setHead n { h with anc := used }).emit (.anc n line hanc p)
  else s.adLose c 1

/-- The slot of an SDI_INSERT channel goes to the SDI signal of head n (R374). -/
def State.insertSlot (s : State) (c n : Nat) (sl : AdSlot) : State :=
  let ps := slotPackets sl
  if (activeRow (s.fmt n) sl.line).isSome then s.adLose c ps.length
  else ps.foldl (fun s p => s.insertAnc c n sl.line sl.hanc p) s

/-- The transmit queue that a source names: SRC and TARGET (R347). -/
def State.queueOf (s : State) (src target : Nat) : Option Nat :=
  (s.enabled .NQ_CTRL).find? fun q => s.get (F.NQ_CTRL_SRC q) == src && s.get (F.NQ_CTRL_TARGET q) == target

/-- The count, in units of 2^-32 ns, of a domain time near now (R103). -/
def State.nearUnits (s : State) (d : Nat) : Nat :=
  let now : Int := (s.tb.sec * 1000000000 + s.tb.ns : Nat)
  (now + signed 40 (d + 2 ^ 40 - s.dtime)).toNat * 2 ^ 32

/-- A frame of a source enters its queue, with the launch time that it carries (R375, R383); false if there is none. -/
def State.submit (s : State) (src target : Nat) (data : List Byte) (tag launch : Nat) (ring : Option Nat) : State × Bool :=
  match s.queueOf src target with
  | some q => (s.enqueue q data tag (some (s.nearUnits launch)) ring, true)
  | none => (s, false)

/-- The destination or the queue that a channel of modes 0 and 1 feeds is stopped. -/
def State.adShut (s : State) (c : Nat) : Bool :=
  let n := s.get (F.AD_CTRL_SRC c)
  if s.get (F.AD_CTRL_MODE c) = 0 then !s.flag (F.HD_DEST_SDI_EN n) || (s.head n).sdiFail
  else (s.queueOf 1 c).isNone || (s.flag (F.HD_DEST_ST_EN n) && (s.head n).stFail)

/-- A burst of modes 0 and 1 has been withdrawn, or moves for a destination that is stopped (R378). -/
def State.withdrawn (s : State) (c : Nat) (b : AdBurst) : Bool := b.gone || s.adShut c

/-- The line of head n that a request names, four lines on from line l of frame f (R373): line and frame. -/
def State.lineAhead (s : State) (n f l k : Nat) : Nat × Nat :=
  let t := rasterT (s.fmt n)
  if t < l + k then (l + k - t, f + 1) else (l + k, f)

/-- A slot matches a request for a line of a frame (R373). -/
def State.slotMatches (s : State) (c : Nat) (sl : AdSlot) (line frame : Nat) : Bool :=
  sl.line == line && (!s.flag (F.AD_CTRL_FRAME_MATCH c) || sl.frame == frame % 65536)

/-- The channels of modes 0 and 1 that head n paces. -/
def State.paced (s : State) (n : Nat) : List Nat :=
  (List.range 64).filter fun c =>
    s.get (F.AD_STAT_STATE c) == 1 && s.get (F.AD_CTRL_MODE c) ≤ 1 && s.get (F.AD_CTRL_SRC c) == n

/-- Every channel that is ACTIVE enters ERROR (R379). -/
def adBusErrorOp (c : Nat) (s : State) : State :=
  let s := (List.range 64).foldl (fun s c =>
    if s.get (F.AD_STAT_STATE c) = 1 then
      ((s.wr (.AD_STAT, [c]) (w32 (3 + 3 * 4))).updAd c fun x => { x with burst := none, rx := [] })
    else s) s
  (s.latch adB 1).raise 0x1C0 0 ⟨0, c⟩

/-- A request for line `line` of frame `frame` reaches channel c (R373). The header of a local ring is read here, and its error is a
bus error (R379); a host ring's slot is asked of the host, and its header arrives with the burst. -/
def State.adRequest (s : State) (n c line frame : Nat) : State :=
  let hw := s.get (F.AD_HW_IDX_IDX c)
  let x := s.ad c
  let a := s.slotAddr c hw
  let begin_ (s : State) : State := (s.setAd c { x with burst := some ⟨line, frame, s.hst n, false⟩ }).set (F.AD_STAT_BUSY c) 1
  if x.burst.isSome ∨ idxDiff (s.get (F.AD_SW_IDX_IDX c)) hw = 0 then s
  else if s.flag (F.AD_CTRL_HOST c) then
    begin_ (s.emit (.hostRead (s.get (F.AD_CTRL_HOST_PF c)) a 4096 (!s.flag (F.AD_CTRL_SNOOP c))))
  else if s.badIn a 32 then adBusErrorOp c s
  else if s.slotMatches c (parseSlot (s.bytes a 32)) line frame then begin_ s
  else s

/-- A burst is discarded at the start of the line before the one it serves (R373). How many packets a slot of a host ring holds that
has not come is a free number. -/
def State.adExpire (s : State) (c line : Nat) : State :=
  let x := s.ad c
  match x.burst with
  | some b =>
    if b.line ≠ line ∨ s.withdrawn c b then s else
    let hw := s.get (F.AD_HW_IDX_IDX c)
    let s := ((s.setAd c { x with burst := none }).set (F.AD_STAT_BUSY c) 0).set (F.AD_HW_IDX_IDX c) (hw + 1)
    let r : Nat × State := if s.get (F.AD_CTRL_MODE c) = 1 then (1, s)
      else if s.flag (F.AD_CTRL_HOST c) then s.fresh
      else ((slotPackets (parseSlot (s.bytes (s.slotAddr c hw) 4096))).length, s)
    (r.2.count (F.AD_LOST_COUNT c) r.1).latch adB 2
  | none => s

/-- The requests of head n at the start of line l of frame f (R373). -/
def State.adLine (s : State) (n f l : Nat) : State :=
  let st := s.hst n
  let cs := s.paced n
  let s := cs.foldl (fun s c => s.adExpire c (s.lineAhead n f l 1).1) s
  if st = 2 ∨ st = 3 ∨ st = 4 then
    let a := s.lineAhead n f l 4
    (cs.filter fun c => st != 4 || s.flag (F.AD_CTRL_TC c)).foldl (fun s c => s.adRequest n c a.1 a.2) s
  else s

/-- The burst of a channel completes: LAST is DONE, the slot is consumed or filled, and the next one begins (R373). -/
def State.adFinish (s : State) (c : Nat) : State :=
  let x := s.ad c
  let s := s.setAd c { burst := none, rx := x.rx.drop 1, doneAt := some s.tick }
  let s := ((s.set (F.AD_HW_IDX_IDX c) (s.get (F.AD_HW_IDX_IDX c) + 1)).set (F.AD_STAT_LAST c) 1).count (F.AD_BURSTS_COUNT c) 1
  s.set (F.AD_STAT_BUSY c) (b2n !(x.rx.drop 1).isEmpty)

/-- A burst of modes 0 and 1 completes with the slot's 4 KiB (R373 to R375, R378). -/
def State.adSendDone (s : State) (c : Nat) (b : AdBurst) (bs : List Byte) : State :=
  let sl := parseSlot bs
  let host := s.flag (F.AD_CTRL_HOST c)
  if host ∧ !s.slotMatches c sl b.line b.frame then (s.updAd c fun x => { x with burst := none }).set (F.AD_STAT_BUSY c) 0
  else if s.withdrawn c b then ((s.adFinish c).count (F.AD_ORPHAN_COUNT c) 1).latch adB 8
  else if s.get (F.AD_CTRL_MODE c) = 0 then (s.adFinish c).insertSlot c (s.get (F.AD_CTRL_SRC c)) sl
  else ((s.adFinish c).submit 1 c sl.payload sl.tag sl.launch none).1

/-- A slot burst completes. `data` is the slot as it came from a host ring; a local ring is read here (R373, R379). -/
def adBurstDoneOp (c : Nat) (data : List Byte) (s : State) : State :=
  let x := s.ad c
  let a := s.slotAddr c (s.get (F.AD_HW_IDX_IDX c))
  match x.burst with
  | some b =>
    if s.flag (F.AD_CTRL_HOST c) then s.adSendDone c b data
    else if s.badIn a (32 + (parseSlot (s.bytes a 32)).len) then adBusErrorOp c s
    else s.adSendDone c b (s.bytes a 4096)
  | none =>
    match x.rx with
    | [] => s
    | slot :: _ =>
      let s := if s.flag (F.AD_CTRL_HOST c) then s.emit (.hostWrite (s.get (F.AD_CTRL_HOST_PF c)) a slot (!s.flag (F.AD_CTRL_SNOOP c)))
        else s.memWrite false {} a slot
      s.adFinish c

/-- A line or frame for a channel of mode 2 or 3 (R376, R377). -/
def State.adReceive (s : State) (c : Nat) (slot : List Byte) : State :=
  if s.get (F.AD_STAT_STATE c) ≠ 1 then s
  else if 4096 < slot.length then (s.count (F.AD_LOST_COUNT c) 1).latch adB 2
  else
    let x := s.ad c
    if s.adSize c ≤ idxDiff (s.get (F.AD_HW_IDX_IDX c)) (s.get (F.AD_SW_IDX_IDX c)) + x.rx.length then
      let first := s.get (F.AD_OVF_COUNT c) = 0
      let s := (s.count (F.AD_OVF_COUNT c) 1).latch adB 4
      if first then s.raise 0x1C1 0 ⟨0, c⟩ else s
    else (s.setAd c { x with rx := x.rx ++ [slot] }).set (F.AD_STAT_BUSY c) 1

/-- A channel enters ACTIVE (R371). -/
def State.adStart (s : State) (c : Nat) : State := s.set (F.AD_STAT_STATE c) 1

/-- A channel leaves ACTIVE, and a burst in flight is discarded without consuming its slot. -/
def State.adStop (s : State) (c st : Nat) : State :=
  ((s.updAd c fun x => { x with burst := none, rx := [] }).set (F.AD_STAT_STATE c) st).set (F.AD_STAT_BUSY c) 0

/-- A write of ADc_CMD (R379, R380). -/
def State.adCommand (s : State) (c : Nat) (start abort : Bool) : State :=
  let st := s.get (F.AD_STAT_STATE c)
  let s := if start ∧ (st = 2 ∨ st = 3) then s.adStart c else s
  if abort ∧ st = 1 ∧ (s.ad c).doneAt ≠ some s.tick then (s.adStop c 2).set (F.AD_STAT_LAST c) 2 else s

/-! ### Host rings -/

/-- The descriptors of a ring. -/
def State.hqSize (s : State) (r : Nat) : Nat := 2 ^ s.get (F.HQ_CTRL_SIZE r)

/-- The owner of a ring as an origin, and as an audit origin. -/
def State.hqOwner (s : State) (r : Nat) : Nat := s.get (F.HQ_CTRL_OWNER r)

def pfOrg (f : Nat) : Org := ⟨1 + f, f⟩

/-- The address of the descriptor that an index names. -/
def State.descAddr (s : State) (r i : Nat) : Nat :=
  (s.get (F.HQ_BASE_HI_ADDR r)) * 2 ^ 32 + s.get (F.HQ_BASE_LO_ADDR r) * 4096 + i % s.hqSize r * 32

/-- Word i of a descriptor. -/
def dw (d : List Word) (i : Nat) : Word := d.getD i 0

/-- OP of a descriptor. -/
def descOp (d : List Word) : Nat := bits (dw d 0) 3 0

/-- LEN of a descriptor. -/
def descLen (d : List Word) : Nat := if bits (dw d 1) 23 0 = 0 then 16777216 else bits (dw d 1) 23 0

/-- The host address of a descriptor. -/
def descHost (d : List Word) : Nat := (dw d 2).toNat + (dw d 3).toNat * 2 ^ 32

/-- The local address of a descriptor. -/
def descLocal (d : List Word) : Nat := (dw d 4).toNat + bits (dw d 5) 2 0 * 2 ^ 32

/-- The ops that a ring of a KIND takes (R382). -/
def kindTakes (kind op : Nat) : Bool :=
  match kind with
  | 0 => decide (op ≤ 3)
  | 1 => op == 5
  | 2 => op == 0 || op == 3 || op == 4
  | _ => false

/-- The descriptor that a ring takes up next: `d` from a host ring, memory from a local one. None if the ring is not ACTIVE,
has none, or has a faulty one in flight (R382, R384). -/
def State.nextDesc (s : State) (r : Nat) (d : HostDesc) : Option (List Word) :=
  let x := s.hq r
  let i := s.get (F.HQ_CONS_CONS r) + x.flight.length
  if !s.blocksUp ∨ s.get (F.HQ_STAT_STATE r) ≠ 1 ∨ idxDiff (s.get (F.HQ_DB_PROD r)) (i % 65536) = 0 ∨ s.hqSize r ≤ x.flight.length ∨
    x.flight.any (fun f => f.result == some 2) then none
  else if s.flag (F.HQ_CTRL_LOCAL r) then some ((List.range 8).map fun j => w32 (s.memNat (s.descAddr r i % memSize + 4 * j) 4))
  else some ((List.range 8).map fun j => dw d j)

/-- A ring reads bytes in its owner's address space (R381); SNOOP gives the attribute of ring and data reads. -/
def State.ringRead (s : State) (r a len : Nat) : State :=
  s.emit (.hostRead (s.hqOwner r) a len (!s.flag (F.HQ_CTRL_SNOOP r)))

/-- Every ring that is ACTIVE enters ERROR (R385). -/
def hqBusErrorOp (r : Nat) (s : State) : State :=
  let s := (List.range 64).foldl (fun s r =>
    if s.get (F.HQ_STAT_STATE r) = 1 then (s.wr (.HQ_STAT, [r]) (w32 (3 + 3 * 4))).setHq r { busErr := true } else s) s
  (s.latch hqB 1).raise 0x1C8 0 ⟨0, r⟩

/-- A descriptor is in flight, with its result if it has one already. -/
def State.fly (s : State) (r : Nat) (d : List Word) (result : Option Nat) : State :=
  (s.updHq r fun x => { x with flight := x.flight ++ [⟨d, result⟩] }).set (F.HQ_STAT_BUSY r) 1

/-- Take up the next descriptor if it carries op `op`: with DESC_ERR if the ring does not take it, else by `f`. A row of
op 0 takes the reserved ops as well. A local ring read that meets an uncorrectable unit is a bus error (R385). -/
def State.takeDesc (s : State) (r : Nat) (d : HostDesc) (op : Nat) (f : List Word → State → State) : State :=
  match s.nextDesc r d with
  | none => s
  | some d =>
    let i := s.get (F.HQ_CONS_CONS r) + (s.hq r).flight.length
    let s := if s.flag (F.HQ_CTRL_LOCAL r) then s else s.ringRead r (s.descAddr r i) 32
    if s.flag (F.HQ_CTRL_LOCAL r) ∧ s.badIn (s.descAddr r (s.get (F.HQ_CONS_CONS r) + (s.hq r).flight.length) % memSize) 32 then
      hqBusErrorOp r s
    else if descOp d = op ∨ (op = 0 ∧ 6 ≤ descOp d) then
      if kindTakes (s.get (F.HQ_CTRL_KIND r)) (descOp d) then f d s else s.fly r d (some 2)
    else s

/-- NOP (R382). -/
def hqNopOp (r : Nat) (d : HostDesc) (s : State) : State := s.takeDesc r d 0 fun d s => s.fly r d (some 0)

/-- H2L: the bytes read from the host go into local memory, as the owner (R382). -/
def hqH2lOp (r : Nat) (d : HostDesc) (data : List Byte) (s : State) : State :=
  s.takeDesc r d 1 fun d s =>
    if data.length ≠ descLen d then s else
    ((s.ringRead r (descHost d) (descLen d)).memWrite true (pfOrg (s.hqOwner r)) (descLocal d) data).fly r d (some 0)

/-- L2H (R382, R385). -/
def hqL2hOp (r : Nat) (d : HostDesc) (s : State) : State :=
  s.takeDesc r d 2 fun d s =>
    if s.badIn (descLocal d) (descLen d) then hqBusErrorOp r s
    else (s.emit (.hostWrite (s.hqOwner r) (descHost d) (s.bytes (descLocal d) (descLen d)) false)).fly r d (some 0)

/-- TX frame (R383). With no enabled queue for the ring, the frame is discarded. -/
def hqTxOp (r : Nat) (d : HostDesc) (data : List Byte) (s : State) : State :=
  s.takeDesc r d 4 fun d s =>
    if data.length ≠ descLen d then s else
    let s := s.ringRead r (descHost d) (descLen d)
    let t := (dw d 6).toNat + bits (dw d 7) 15 8 * 2 ^ 32
    let x := (s.fly r d none).submit 2 r data (bits (dw d 0) 31 16) t (some r)
    if x.2 then x.1 else s.fly r d (some 5)

/-- RX buffer: it is posted (R383). -/
def hqRxOp (r : Nat) (d : HostDesc) (s : State) : State := s.takeDesc r d 5 fun d s => s.fly r d none

/-- A frame for an RX ring (R383). -/
def State.ringReceive (s : State) (r : Nat) (data : List Byte) (t : Stamp) : State :=
  let x := s.hq r
  let ok (f : HqFlight) : Bool := f.result.isNone && descOp f.desc == 5
  match (if s.get (F.HQ_STAT_STATE r) = 1 then x.flight.find? ok else none) with
  | some f =>
    if descLen f.desc < data.length then drop s else
    let d := (f.desc.set 1 (setBits (dw f.desc 1) 23 0 data.length)).set 6 (w32 t.ns)
    let fl := x.flight.takeWhile (fun g => !ok g) ++ [⟨d, some 0⟩] ++ (x.flight.dropWhile fun g => !ok g).drop 1
    (s.setHq r { x with flight := fl }).emit (.hostWrite (s.hqOwner r) (descHost d) data false)
  | none => drop s
where
  /-- The frame is dropped. -/
  drop (s : State) : State :=
    let first := s.get (F.HQ_DROP_COUNT r) = 0
    let s := (s.count (F.HQ_DROP_COUNT r) 1).latch hqB 32
    if first then s.raise 0x1CA 0 ⟨0, r⟩ else s

/-- Write bytes into a ring, in the owner's address space or local memory. -/
def State.ringWrite (s : State) (r a : Nat) (data : List Byte) : State :=
  if s.flag (F.HQ_CTRL_LOCAL r) then s.memWrite true (pfOrg (s.hqOwner r)) (a % memSize) data
  else s.emit (.hostWrite (s.hqOwner r) a data false)

/-- Write a descriptor back with a result, and advance CONS past it (R382, R383). -/
def State.writeBack (s : State) (r : Nat) (d : List Word) (result : Nat) : State :=
  let i := s.get (F.HQ_CONS_CONS r)
  let a := s.descAddr r i
  let s := if descOp d = 5 ∧ result = 0 then
    (s.ringWrite r (a + 4) (bytesLE 4 (dw d 1).toNat)).ringWrite r (a + 24) (bytesLE 4 (dw d 6).toNat) else s
  let s := s.ringWrite r (a + 28) (bytesLE 4 (setBits (setBits (dw d 7) 7 0 result) 31 31 1).toNat)
  let s := s.set (F.HQ_CONS_CONS r) (i + 1)
  if nbit (dw d 0).toNat 4 ∧ s.flag (F.HQ_CTRL_IRQ_EN r) then s.interrupt (s.hqOwner r) (s.get (F.HQ_CTRL_VEC r)) else s

/-- The oldest descriptor in flight completes (R382, R384). -/
def hqCompleteOp (r : Nat) (s : State) : State :=
  let x := s.hq r
  match x.flight with
  | ⟨d, some res⟩ :: fs =>
    let s := (s.writeBack r d res).setHq r { x with flight := fs, doneAt := some s.tick }
    let s := s.set (F.HQ_STAT_BUSY r) (b2n !fs.isEmpty)
    if res = 2 then
      let s := (s.wr (.HQ_STAT, [r]) (w32 (3 + 3 * 4))).setHq r { doneAt := some s.tick }
      (s.latch hqB 2).raise 0x1C9 0 ⟨0, r⟩
    else s.set (F.HQ_STAT_LAST r) 1
  | _ => s

/-- A ring enters ACTIVE (R381, R385). -/
def State.hqStart (s : State) (r : Nat) : State := (s.set (F.HQ_STAT_STATE r) 1).updHq r fun x => { x with busErr := false }

/-- A ring leaves ACTIVE, and the descriptors in flight are abandoned. -/
def State.hqStop (s : State) (r st : Nat) : State :=
  ((s.setHq r {}).set (F.HQ_STAT_STATE r) st).set (F.HQ_STAT_BUSY r) 0

/-- A write of HQr_CMD (R385, R386). -/
def State.hqCommand (s : State) (r : Nat) (start abort : Bool) : State :=
  let st := s.get (F.HQ_STAT_STATE r)
  let s := if start ∧ (st = 2 ∨ st = 3) then s.hqStart r else s
  if abort ∧ st = 1 ∧ (s.hq r).doneAt ≠ some s.tick then
    let s : State := match (s.hq r).flight with
      | f :: _ => s.writeBack r f.desc 1
      | [] => s
    ((s.hqStop r 2).set (F.HQ_STAT_LAST r) 2).latch hqB 4
  else s

end Sys2Proof.Machine
end

