-- ==== Sys2Proof/Machine/Receive.lean ====
section
/-! DEFINITION. Received frames (14): the filter and the classes (R329, R331 to R333), flow contexts (R335 to R338), policing
(R339), the merge (R340), and the frame writer of flows and SDI inputs (R341 to R344). A frame is its bytes without FCS. -/

namespace Sys2Proof.Machine

abbrev flowD : Nat → FlowSt := fun _ => {}

def State.flow (s : State) (v : Nat) : FlowSt := mget flowD s.flows v
def State.setFlow (s : State) (v : Nat) (x : FlowSt) : State := { s with flows := nput flowD s.flows v x }
def State.updFlow (s : State) (v : Nat) (f : FlowSt → FlowSt) : State := s.setFlow v (f (s.flow v))

/-! ### What a frame carries -/

/-- The big-endian number in bytes i to i + k - 1 of a frame. -/
def be (d : List Byte) (i k : Nat) : Nat := ofBytesBE ((d.drop i).take k)

/-- The VID of an 802.1Q tag, and the frame without it; a tag with VID 0 counts as none (R331). -/
def untag (d : List Byte) : Option Nat × List Byte :=
  if be d 12 2 = 0x8100 then
    let vid := be d 14 2 % 4096
    (if vid = 0 then none else some vid, d.take 12 ++ d.drop 16)
  else (none, d)

/-- The ones' complement sum of 16-bit words. -/
def onesSum : List Byte → Nat
  | a :: b :: bs => a.toNat * 256 + b.toNat + onesSum bs
  | [a] => a.toNat * 256
  | [] => 0

/-- What an untagged IPv4 frame says: header checksum good, whole (no fragment), UDP, source and destination address,
destination port, the place of the UDP payload and the end of it. -/
structure Ip where
  sumOk : Bool
  whole : Bool
  udp : Bool
  src : Nat
  dst : Nat
  dport : Nat
  payload : Nat
  stop : Nat

/-- The IPv4 header of an untagged frame. -/
def parseIp (d : List Byte) : Option Ip :=
  if be d 12 2 ≠ 0x0800 ∨ be d 14 1 / 16 ≠ 4 then none else
  let ihl := be d 14 1 % 16 * 4
  let sum := onesSum ((d.drop 14).take ihl)
  let udp := 14 + ihl
  some { sumOk := decide (20 ≤ ihl) && sum % 65535 == 0 && sum != 0
         whole := be d 20 2 % 16384 == 0
         udp := be d 23 1 == 17
         src := be d 26 4
         dst := be d 30 4
         dport := be d (udp + 2) 2
         payload := udp + 8
         stop := min d.length (udp + be d (udp + 4) 2) }

/-! ### Filter and classes -/

/-- The address and tag filter of port p (R329, R331), for the tag and the untagged frame: a second tag suits no setting. -/
def State.filterPasses (s : State) (p : Nat) (vid : Option Nat) (d : List Byte) : Bool :=
  let mac := s.get (F.NP_MAC_HI_MAC p) * 2 ^ 32 + s.get (F.NP_MAC_LO_MAC p)
  let tagOk := match vid with
    | none => s.get (F.NP_RX_CFG_VLAN p) != 1
    | some v => s.get (F.NP_RX_CFG_VLAN p) != 0 && v == s.get (F.NP_RX_CFG_VID p)
  (be d 0 6 == mac || be d 0 1 % 2 == 1) && tagOk && be d 12 2 != 0x8100 && be d 12 2 != 0x8808 && (parseIp d).all (·.sumOk)

/-- A frame of class 1 or 2 by its destination address and port (R332, R407). -/
def State.controlClass (s : State) (p dst dport : Nat) : Bool :=
  let me := s.get (F.NP_IPV4_ADDR p)
  let mine := me != 0 && dst == me
  let ptp : PtpPort := mget (fun _ => {}) s.tb.ports p
  (ptp.en && (dport == 319 || dport == 320) && (dst == 0xE0000181 || mine)) ||
    (nbit (s.get F.GL_CTRL_PORTS) p && dport == s.get F.GL_UDP_PORT && (dst == s.get F.GL_GROUP_ADDR_ADDR || mine))

/-- A frame matches flow context f (R335). -/
def State.matches (s : State) (p : Nat) (i : Ip) (f : Nat) : Bool :=
  nbit (s.get (F.NR_CTRL_PORTS f)) p && s.get (F.NR_DST_IP_ADDR f) == i.dst && s.get (F.NR_UDP_DPORT f) == i.dport &&
    (!s.flag (F.NR_CTRL_SRC_MATCH f) || s.get (F.NR_SRC_IP_ADDR f) == i.src)

/-- The context that takes a frame: one with SRC_MATCH = 1 first (R335). -/
def State.flowFor (s : State) (p : Nat) (i : Ip) : Option Nat :=
  let ms := (s.enabled .NR_CTRL).filter (s.matches p i)
  (ms.find? fun f => s.flag (F.NR_CTRL_SRC_MATCH f)) <|> ms.head?

/-! ### Policing (R333, R339) -/

/-- The tokens of a context, in units of 2^-10 byte, at a count. -/
def State.policeTokens (s : State) (f t : Nat) : Nat :=
  let x := s.flow f
  min (s.get (F.NR_POL_BURST_UNITS f) * 65536)
    (x.tok + s.get (F.NR_POL_RATE_MBPS f) * 128000000 * (t - x.tokSince) / (1000000000 * 2 ^ 32))

/-- Police one frame of length l at a count (R339): whether it passes. -/
def State.police (s : State) (f l t : Nat) : State × Bool :=
  if s.get (F.NR_POL_RATE_MBPS f) = 0 then (s, true) else
  let tok := s.policeTokens f t
  if l * 1024 ≤ tok then (s.updFlow f fun x => { x with tok := tok - l * 1024, tokSince := max t x.tokSince }, true)
  else
    let first := s.get (F.NR_POL_DROP_COUNT f) = 0
    let s := (s.updFlow f fun x => { x with tok := tok, tokSince := max t x.tokSince }).count (F.NR_POL_DROP_COUNT f) 1
    (if first then (s.latch ngB 2).raise 0x195 0 ⟨0, f⟩ else s, false)

/-- The control bucket of port p (R333): whether a frame of length l passes at a count. -/
def State.ctlBucket (s : State) (p l t : Nat) : State × Bool :=
  let x := s.port p
  let cap := 16384 * 800 * 2 ^ 32
  let tok := min cap (x.ctl + (t - x.ctlSince))
  let cost := l * 800 * 2 ^ 32
  if cost ≤ tok then (s.setPort p { x with ctl := tok - cost, ctlSince := max t x.ctlSince }, true)
  else ((s.setPort p { x with ctl := tok, ctlSince := max t x.ctlSince }).count (F.NP_CTL_DROP_COUNT p) 1, false)

/-! ### The merge (R340) -/

/-- Count numbers never received. -/
def State.missing (s : State) (f n : Nat) : State := s.count (F.NR_ERRS_MISSING f) n

/-- A number comes to the merge of a context, in a range of numbers: whether the packet is accepted. -/
def State.merge (s : State) (f range n : Nat) : State × Bool :=
  let x := s.flow f
  match x.hi with
  | none => (s.setFlow f { x with hi := some n }, true)
  | some h =>
    let k := (n + range - h) % range
    let below (m hi : Nat) := (hi + range - m) % range
    if k = 0 then (s, false)
    else if k ≤ range / 2 - 1 then
      let passed := (List.range (min (k - 1) 4096)).map fun i => (n + range - 1 - i) % range
      let out := x.wait.filter fun m => decide (4096 < below m n)
      let s := s.setFlow f { x with
        hi := some n
        wait := x.wait.filter (fun m => decide (below m n ≤ 4096)) ++ passed
        got := (h :: x.got).filter fun m => decide (below m n ≤ 4096) }
      let lost := out.length + (k - 1 - passed.length)
      (if lost = 0 then s else s.missing f lost, true)
    else
      let d := range - k
      if 4096 < d ∨ x.got.contains n then (s, false)
      else (s.setFlow f { x with got := n :: x.got, wait := x.wait.filter fun m => m != n }, true)

/-! ### The frame writer (R341 to R343) -/

/-- What the writer needs of a source: its raster and rate, bits per pixel and pixel group, ring mode, buffer base and
stride, and its registers. -/
structure VidCfg where
  key : Nat
  fmt : Nat
  rate : Nat
  b : Nat
  group : Nat
  ring : Bool
  base : Nat
  stride : Nat
  stat : Key
  frames : Fld
  incomplete : Fld
  lag : Fld

/-- Flow context f as a source. -/
def State.flowCfg (s : State) (f : Nat) : VidCfg :=
  let g := ingestBits (s.get (F.NR_VIDEO_SAMPLING f)) (s.flag (F.NR_VIDEO_DEPTH12 f))
  { key := f, fmt := s.get (F.NR_VIDEO_FMT f), rate := s.get (F.NR_VIDEO_RATE f), b := g.1, group := g.2, ring := s.flag (F.NR_CTRL_RING f)
    base := s.get (F.NR_BUF_HI_ADDR f) * 2 ^ 32 + s.get (F.NR_BUF_LO_ADDR f) * 65536
    stride := s.get (F.NR_BUF_HI_STRIDE f) * 65536, stat := (.NR_STAT, [f])
    frames := F.NR_FRAMES_COUNT f, incomplete := F.NR_ERRS_INCOMPLETE f, lag := F.NR_LAG_LAG f }

/-- SDI context i as a source (R344). -/
def State.sdiCfg (s : State) (i : Nat) : VidCfg :=
  { key := 16384 + i, fmt := s.get (F.NG_SDI_VIDEO_FMT i), rate := s.get (F.NG_SDI_VIDEO_RATE i), b := 20, group := 2
    ring := s.flag (F.NG_SDI_CTRL_RING i)
    base := s.get (F.NG_SDI_BUF_HI_ADDR i) * 2 ^ 32 + s.get (F.NG_SDI_BUF_LO_ADDR i) * 65536
    stride := s.get (F.NG_SDI_BUF_HI_STRIDE i) * 65536, stat := (.NG_SDI_STAT, [i])
    frames := F.NG_SDI_FRAMES_COUNT i, incomplete := F.NG_SDI_ERRS_INCOMPLETE i, lag := F.NG_SDI_LAG_LAG i }

/-- The row pitch in bytes (R341). -/
def VidCfg.pitch (c : VidCfg) : Nat := ceilDiv ((rasterActive c.fmt).1 * c.b) 2048 * 256

/-- The rows of a frame, or of a field of an interlaced raster. -/
def VidCfg.unitRows (c : VidCfg) : Nat := (rasterActive c.fmt).2 / (if interlaced c.fmt then 2 else 1)

/-- The buffers, first address and length, that a source writes (R341). -/
def VidCfg.extent (c : VidCfg) : Nat × Nat := (c.base, if c.ring then c.stride else 3 * c.stride)

/-- STRIDE fits, and the buffers end within local memory (R341, CFG_ERR BUFFER). -/
def VidCfg.bufferOk (c : VidCfg) : Bool :=
  decide (c.pitch * (if c.ring then 64 else (rasterActive c.fmt).2) ≤ c.stride) && decide (c.base + c.extent.2 ≤ memSize)

/-- NEWEST and WRITING (R342). -/
def VidCfg.newest (c : VidCfg) : Fld := ⟨c.stat, 5, 4⟩
def VidCfg.writing (c : VidCfg) : Fld := ⟨c.stat, 7, 6⟩

/-- A buffer of a source is the selection of a head: a layer shows it, or has selected it for the coming boundary. -/
def State.selected (s : State) (v b : Nat) : Bool :=
  (List.range 16).any fun n =>
    let h := s.head n
    ((h.applied.toList ++ h.dlShown.toList).flatMap (·.layers)).any fun d =>
      d.ingest && !d.pt && d.vidKey == v &&
        (let l := s.layer (n / 2) d.m
         (l.sel.map (·.1)) == some b || match l.shown with
          | some (.buffer x) => x.buf == b
          | _ => false)

/-- The free buffer of a source (R13, R342). -/
def State.freeBuffer (s : State) (v : Nat) : Option Nat :=
  [0, 1, 2].find? fun b => (s.vid v).newest != some b && !s.selected v b

/-- Count a frame or field that ended incomplete. -/
def State.endIncomplete (s : State) (c : VidCfg) : State := s.count c.incomplete 1

/-- A frame that is still open ends incomplete (R338, R342, R344). -/
def State.abandonFrame (s : State) (c : VidCfg) : State :=
  let x := s.flow c.key
  let open_ := x.frame.any (·.live)
  let s := (s.setFlow c.key { x with frame := x.frame.map fun f => { f with live := false } }).set c.writing 3
  if open_ then s.endIncomplete c else s

/-- Begin a frame or field (R342). Field 2 goes into the buffer of the field before it. -/
def State.openFrame (s : State) (c : VidCfg) (ts : Nat) (field2 : Bool) : State :=
  let x := s.flow c.key
  let old := x.frame
  let s := match old with
    | some f => if f.live then s.endIncomplete c else s
    | none => s
  let pair := field2 && old.any fun f => !f.field2
  let lag := if pair then (old.map (·.lag)).getD 0 else 0
  let field1 := pair && old.any fun f => !f.live && f.whole && f.marker
  if c.ring then s.updFlow c.key fun x => { x with frame := some { ts, field2, buf := some 0, field1, lag } } else
  let buf := if pair then (old.bind (·.buf)) else s.freeBuffer c.key
  let s := s.updFlow c.key fun x => { x with frame := some { ts, field2, buf, field1, lag, live := buf.isSome } }
  match buf with
  | some b => s.set c.writing b
  | none => (s.set c.writing 3).endIncomplete c

/-- The raster of a source. -/
def VidCfg.raster (c : VidCfg) : Option (Nat × Nat × Nat × Nat) :=
  (rasterS c.fmt c.rate).map fun sl => (sl, rasterT c.fmt, (rateND c.rate).1, (rateND c.rate).2)

/-- The line that carries an active row. -/
def rowLine (fmt row : Nat) : Nat :=
  if interlaced fmt then (if row % 2 = 0 then firstActive fmt + row / 2 else 563 + firstActive fmt + row / 2) else firstActive fmt + row

/-- The arrival lag of a row whose last sample is written now, in units of 10 ns (R343). -/
def State.arrivalLag (s : State) (c : VidCfg) (row : Nat) : Nat :=
  match c.raster with
  | none => 0
  | some r =>
    let p := ofSamples r (samplesAt r s.now)
    let start (f : Nat) := sampleStart r (f * (r.2.1 * r.1) + (rowLine c.fmt row - 1) * r.1)
    let st := if start p.1 ≤ s.now then start p.1 else start (p.1 - 1)
    ceilDiv (s.now - st) (10 * 2 ^ 32)

/-- A frame or field is complete (R342). -/
def State.completeFrame (s : State) (c : VidCfg) (f : OpenFrame) : State :=
  let s := s.updFlow c.key fun x => { x with frame := some { f with live := false } }
  if interlaced c.fmt ∧ !f.field2 then s
  else if interlaced c.fmt ∧ !f.field1 then (s.endIncomplete c).set c.writing 3
  else
    let s := (s.count c.frames 1).set c.lag (min f.lag 65535)
    if c.ring then s else
    let s := s.updVid c.key fun v => { count := v.count + 1, newest := f.buf, doneAt := s.tick, before := v.newest }
    (s.set c.newest (f.buf.getD 3)).set c.writing 3

/-- Write pixels of a row of the open frame: `o` is the first column, in whole pixel groups (R342, R343). -/
def State.writeRow (s : State) (c : VidCfg) (row o : Nat) (data : List Byte) : State :=
  let x := s.flow c.key
  match x.frame with
  | none => s
  | some f =>
    match f.buf with
    | none => s
    | some b =>
      let px := data.length * 8 / c.b
      let a := if c.ring then c.base + row % 64 * c.pitch else c.base + b * c.stride + row * c.pitch
      let s := s.memWrite false {} (a + o * c.b / 8) data
      let n := mget (fun _ => 0) f.rows row + px
      let full := decide ((rasterActive c.fmt).1 ≤ n)
      let f := { f with pixels := f.pixels + px, rows := nput (fun _ => 0) f.rows row n,
                        lag := if full then max f.lag (s.arrivalLag c row) else f.lag }
      s.setFlow c.key { x with
        frame := some f
        ring := if c.ring ∧ full then nput (fun _ => (0, 0)) x.ring (row % 64) (row, s.now) else x.ring }

/-- The open frame is complete once its marker has come and every pixel is written (R342). -/
def State.tryComplete (s : State) (c : VidCfg) : State :=
  match (s.flow c.key).frame with
  | some f =>
    if f.live ∧ f.whole ∧ f.marker ∧ (rasterActive c.fmt).1 * c.unitRows ≤ f.pixels then s.completeFrame c f else s
  | none => s

/-- Change the frame that a source receives. -/
def State.updFrame (s : State) (v : Nat) (g : OpenFrame → OpenFrame) : State :=
  s.updFlow v fun x => { x with frame := x.frame.map g }

/-! ### ST 2110-20 packets -/

/-- A sample row data of a payload: length, field 2, row, offset. -/
structure Srd where
  len : Nat
  field2 : Bool
  row : Nat
  ofs : Nat

/-- The sample row headers at a place of a packet, and where their data begins; none if the packet is too short. -/
def srds (d : List Byte) : Nat → Nat → Option (List Srd × Nat)
  | 0, _ => none
  | fuel + 1, i =>
    if d.length < i + 6 then none else
    let h : Srd := ⟨be d i 2, nbit (be d (i + 2) 2) 15, be d (i + 2) 2 % 32768, be d (i + 4) 2 % 32768⟩
    if nbit (be d (i + 4) 2) 15 then (srds d fuel (i + 6)).map fun r => (h :: r.1, r.2) else some ([h], i + 6)

/-- The place after an RTP header: the fixed part, the contributing sources and an extension. -/
def rtpEnd (d : List Byte) (i : Nat) : Nat :=
  let j := i + 12 + be d i 1 % 16 * 4
  if nbit (be d i 1) 4 then j + 4 + be d (j + 2) 2 * 4 else j

/-- A sample row lies in the active picture, on whole pixel groups. -/
def VidCfg.srdOk (c : VidCfg) (h : Srd) : Bool :=
  decide (h.row < c.unitRows) && h.ofs % c.group == 0 && h.len * 8 % (c.b * c.group) == 0 && (interlaced c.fmt || !h.field2) &&
    decide (h.ofs + h.len * 8 / c.b ≤ (rasterActive c.fmt).1)

/-- The frame row of a sample row. -/
def VidCfg.frameRow (c : VidCfg) (h : Srd) : Nat := if interlaced c.fmt then 2 * h.row + b2n h.field2 else h.row

/-- Write the sample rows of a packet one after another. -/
def State.writeSrds (s : State) (c : VidCfg) : List Srd → List Byte → State
  | [], _ => s
  | h :: hs, d => (s.writeRow c (c.frameRow h) h.ofs (d.take h.len)).writeSrds c hs (d.drop h.len)

/-- A packet of a video flow reaches the writer (R342). `i` is where its RTP header lies, `e` where it ends. -/
def State.videoPacket (s : State) (f : Nat) (d : List Byte) (i e : Nat) : State :=
  let c := s.flowCfg f
  let d := d.take e
  let marker := nbit (be d (i + 1) 1) 7
  let ts := be d (i + 4) 4
  let j := rtpEnd d i + 2
  let parsed := srds d 3 j
  let field2 := match parsed with
    | some (h :: _, _) => h.field2
    | _ => false
  let go (s : State) : State :=
    let s : State := match parsed with
      | some (hs, k) =>
        if hs.all c.srdOk ∧ (hs.foldl (fun a h => a + h.len) 0) = e - k then s.writeSrds c hs (d.drop k)
        else s.updFrame f fun x => { x with whole := false }
      | none => s.updFrame f fun x => { x with whole := false }
    (s.updFrame f fun x => { x with marker := x.marker || marker }).tryComplete c
  match (s.flow f).frame with
  | none => go (s.openFrame c ts field2)
  | some x =>
    if x.ts = ts ∧ x.field2 = field2 then (if x.live then go s else s)
    else if 2 ^ 31 ≤ (ts + 2 ^ 32 - x.ts) % 2 ^ 32 then s
    else go (s.openFrame c ts field2)

/-! ### Delivery (R336, R376, R383) -/

/-- A packet that the merge of context f takes goes where f steers it. `i` is where its UDP payload lies. -/
def State.deliver (s : State) (f p : Nat) (d : List Byte) (i : Ip) (t : Stamp) : State :=
  if s.get (F.NR_CTRL_STEER f) = 0 then s.videoPacket f d i.payload i.stop
  else
    let x := s.fresh
    x.2.adReceive (s.get (F.NR_UDP_TARGET f)) (makeSlot (d.take i.stop) 0 false false (x.1 % 65536) t f p)

/-- Merge a packet into context f, and deliver it if it is accepted. -/
def State.mergeInto (s : State) (f p : Nat) (d : List Byte) (i : Ip) (t : Stamp) : State :=
  let video := s.get (F.NR_CTRL_STEER f) = 0
  let seq := be d (i.payload + 2) 2
  let r := if video then s.merge f (2 ^ 32) (be d (rtpEnd d i.payload) 2 * 65536 + seq) else s.merge f 65536 seq
  if r.2 then r.1.deliver f p d i t else r.1

/-- A frame of flow context f (R335 to R340). `l` is its length with FCS. -/
def State.flowFrame (s : State) (f p l : Nat) (d : List Byte) (i : Ip) (t : Stamp) : State :=
  let r := s.police f l (unitsOf t)
  let s := r.1
  if !r.2 then s else
  let s := (s.count (F.NR_PKTS_COUNT f) 1).updFlow f fun x => { x with seen := some s.tick, down := false }
  match s.get (F.NR_CTRL_STEER f) with
  | 0 | 1 => s.mergeInto f p d i t
  | 2 => s.ringReceive (s.get (F.NR_UDP_TARGET f)) (d.take i.stop) t
  | 3 =>
    let a := s.get (F.NR_UDP_TARGET f)
    if s.flag (F.NR_CTRL_EN a) ∧ s.get (F.NR_CTRL_STEER a) ≤ 1 then s.mergeInto a p d i t else s
  | _ => s

/-- Default traffic (R332). -/
def State.defaultFrame (s : State) (p : Nat) (d : List Byte) (t : Stamp) : State :=
  if s.flag (F.NP_DEFAULT_EN p) then s.ringReceive (s.get (F.NP_DEFAULT_RING p)) d t else s.count (F.NP_RX_NODEST_COUNT p) 1

/-- The stamp at the MDI of a frame that the stamp unit of port p takes at t: less the internal latency from the balls and TB_TSC_RXp
(R120, R121), in steps of 2^-8 ns. -/
def State.rxInstant (s : State) (p : Nat) (t : Stamp) : Stamp :=
  ofUnits (((unitsOf t : Int) - (rxLatency (s.get (F.NP_CTRL_PMD p)) : Nat) - signed 32 (s.get (F.TB_TSC_RX_DELAY p)) * 2 ^ 24).toNat /
    2 ^ 24 * 2 ^ 24)

/-- A frame arrives on port p (R331 to R333). -/
def rxFrameOp (p : Nat) (data : List Byte) (fcsOk : Bool) (taken : Stamp) (s : State) : State :=
  let t := s.rxInstant p taken
  if s.get (F.NP_STAT_LINK p) = 0 ∨ !s.flag (F.NP_CTRL_EN p) then s
  else if !fcsOk then s.count (F.NP_RX_FCS_COUNT p) 1
  else if data.length + 4 < 64 ∨ s.get (F.NP_RX_CFG_MTU p) < data.length + 4 then s.count (F.NP_RX_LEN_COUNT p) 1
  else
    let u := untag data
    let d := u.2
    if !s.filterPasses p u.1 d then s.count (F.NP_RX_FILTERED_COUNT p) 1 else
    let s := s.count (F.NP_RX_FRAMES_COUNT p) 1
    match parseIp d with
    | none => s.defaultFrame p d t
    | some i =>
      if !(i.whole && i.udp) then s.defaultFrame p d t
      else if s.controlClass p i.dst i.dport then (s.ctlBucket p (d.length + 4) (unitsOf t)).1
      else match s.flowFor p i with
        | some f => s.flowFrame f p (d.length + 4) d i t
        | none => s.defaultFrame p d t

/-! ### Enabling contexts (R337, R338) -/

/-- Contexts conflict (R335). The CTRL word of f is the one that it would have. -/
def State.conflicts (s : State) (f : Nat) (w : Word) (g : Nat) : Bool :=
  g != f && s.flag (F.NR_CTRL_EN g) && (bits w 7 4 &&& s.get (F.NR_CTRL_PORTS g)) != 0 &&
    s.get (F.NR_DST_IP_ADDR g) == s.get (F.NR_DST_IP_ADDR f) && s.get (F.NR_UDP_DPORT g) == s.get (F.NR_UDP_DPORT f) &&
    bits w 8 8 == s.get (F.NR_CTRL_SRC_MATCH g) && (bits w 8 8 == 0 || s.get (F.NR_SRC_IP_ADDR g) == s.get (F.NR_SRC_IP_ADDR f))

/-- A buffer range meets a protected window. -/
def State.meetsWindow (s : State) (e : Nat × Nat) : Bool :=
  (List.range 16).any fun n => overlap e.1 e.2 (s.window n).1 (s.window n).2

/-- The first failing CFG_ERR of an enable of context f with CTRL word w; 0 for none (R337). -/
def State.flowErr (s : State) (f : Nat) (w : Word) : Nat :=
  let steer := bits w 3 1
  let c : VidCfg := { s.flowCfg f with ring := bits w 9 9 == 1 }
  let a := s.get (F.NR_UDP_TARGET f)
  let es := s.enabled .NR_CTRL
  if es.any (s.conflicts f w) then 1
  else if (List.range 4).any (fun p => nbit (bits w 7 4) p && s.controlClass p (s.get (F.NR_DST_IP_ADDR f)) (s.get (F.NR_UDP_DPORT f))) then 2
  else if 5 ≤ steer ∨ (steer = 0 ∧ (c.raster.isNone = true ∨ 3 ≤ s.get (F.NR_VIDEO_SAMPLING f))) then 3
  else if steer = 0 ∧ !c.bufferOk then 4
  else if steer = 3 ∧ !(s.flag (F.NR_CTRL_EN a) && s.get (F.NR_CTRL_STEER a) ≤ 1 &&
      !(es.any fun g => g != f && s.get (F.NR_CTRL_STEER g) == 3 && s.get (F.NR_UDP_TARGET g) == a)) then 5
  else if steer = 3 ∧ 2048 ≤ (es.filter fun g => g != f && s.get (F.NR_CTRL_STEER g) == 3).length then 6
  else if (steer = 1 ∨ steer = 2) ∧ 63 < a then 7
  else if bits w 7 4 = 0 then 8
  else if steer = 0 ∧ s.meetsWindow c.extent then 9
  else 0

/-- An enable of context f is accepted (R337). -/
def State.startFlow (s : State) (f : Nat) : State :=
  let s := s.setFlow f { tok := s.get (F.NR_POL_BURST_UNITS f) * 65536, tokSince := s.now }
  let s := s.updVid f fun v => { v with newest := none, before := none }
  ((s.set (F.NR_STAT_CFG_ERR f) 0).set (F.NR_STAT_NEWEST f) 3).set (F.NR_STAT_WRITING f) 3

/-- Context f is disabled (R338). -/
def State.stopFlow (s : State) (f : Nat) : State :=
  (s.abandonFrame (s.flowCfg f)).updFlow f fun x => { x with frame := none, seen := none, down := false }

/-- The other path of a merge that context f belongs to (R340). -/
def State.mergePartner (s : State) (f : Nat) : Option Nat :=
  if s.get (F.NR_CTRL_STEER f) = 3 then (if s.flag (F.NR_CTRL_EN (s.get (F.NR_UDP_TARGET f))) then some (s.get (F.NR_UDP_TARGET f)) else none)
  else if s.get (F.NR_CTRL_STEER f) ≤ 1 then
    (s.enabled .NR_CTRL).find? fun g => s.get (F.NR_CTRL_STEER g) == 3 && s.get (F.NR_UDP_TARGET g) == f
  else none

/-- A context's path delivers: a packet was accepted within the last 10 ms (PATH_UP). -/
def State.pathUp (s : State) (f : Nat) : Bool :=
  s.flag (F.NR_CTRL_EN f) && (s.flow f).seen.any fun t => decide (s.tick < t + ticksNs 10000000)

/-- One path of a merge has accepted nothing for 10 ms while the other has (R340). -/
def pathTimeoutOp (f : Nat) (s : State) : State :=
  match (if s.flag (F.NR_CTRL_EN f) then s.mergePartner f else none) with
  | none => s
  | some g =>
    if s.pathUp f ∨ !s.pathUp g ∨ (s.flow f).down then s
    else ((s.updFlow f fun x => { x with down := true }).latch ngB 4).raise 0x196 0 ⟨0, f⟩

/-! ### SDI inputs (R344) -/

/-- The inputs of the group whose context is i. -/
def State.sdiGroup (s : State) (i : Nat) : List Nat := (List.range (2 ^ s.get (F.NG_SDI_CTRL_LINKS i))).map (i + ·)

/-- The first failing CFG_ERR of an enable of SDI context i with CTRL word w; 0 for none. -/
def State.sdiErr (s : State) (i : Nat) (w : Word) : Nat :=
  let c : VidCfg := { s.sdiCfg i with ring := bits w 9 9 == 1 }
  let links := bits w 2 1
  let mine := (List.range (2 ^ links)).map (i + ·)
  let q3g := decide (c.fmt = 5) && links == 2
  if (List.range 16).any fun j => j != i && s.flag (F.NG_SDI_CTRL_EN j) && meet mine (s.sdiGroup j) then 1
  else if c.raster.isNone ∨ links ≠ sdiLinks c.fmt c.rate q3g ∨ i % 2 ^ links ≠ 0 then 3
  else if !c.bufferOk then 4
  else if s.meetsWindow c.extent then 9
  else 0

/-- An enable of SDI context i is accepted. -/
def State.startSdi (s : State) (i : Nat) : State :=
  let s := s.updFlow (16384 + i) fun x => { links := x.links }
  let s := s.updVid (16384 + i) fun v => { v with newest := none, before := none }
  ((s.set (F.NG_SDI_STAT_CFG_ERR i) 0).set (F.NG_SDI_STAT_NEWEST i) 3).set (F.NG_SDI_STAT_WRITING i) 3

/-- SDI context i is disabled. -/
def State.stopSdi (s : State) (i : Nat) : State :=
  (s.abandonFrame (s.sdiCfg i)).updFlow (16384 + i) fun x => { x with frame := none }

/-- Every link of group i locks. -/
def sdiLockOp (i : Nat) (s : State) : State :=
  if !s.blocksUp ∨ s.flag (F.NG_SDI_STAT_LOCK i) then s else
  let n := 2 ^ s.get (F.NG_SDI_CTRL_LINKS i)
  ((s.updFlow (16384 + i) fun x => { x with links := List.range n }).set (F.NG_SDI_STAT_LOCK i) 1).latch ngB 8

/-- A link of group i loses lock. -/
def sdiLossOp (i link : Nat) (s : State) : State :=
  if !(s.flow (16384 + i)).links.contains link then s else
  let s := (s.updFlow (16384 + i) fun x => { x with links := x.links.filter fun l => l != link }).set (F.NG_SDI_STAT_LOCK i) 0
  let s := s.latch ngB 8
  if s.flag (F.NG_SDI_CTRL_EN i) then (s.abandonFrame (s.sdiCfg i)).raise (0x1A0 + i) i else s

/-- The frame count and line of a source with zero phase (R125). -/
def State.srcFrame (s : State) (c : VidCfg) : Nat := match c.raster with
  | some r => (ofSamples r (samplesAt r s.now)).1
  | none => 0

/-- The ancillary packets of a line go to the extract channels of group i (R376). -/
def State.extractAnc (s : State) (i : Nat) (l : SdiLine) : State :=
  (List.range 64).foldl (fun s c =>
    if s.get (F.AD_CTRL_MODE c) = 2 ∧ s.get (F.AD_CTRL_SRC c) = i then
      let ps := l.anc.filter fun p => !p.hanc || s.flag (F.AD_CTRL_HANC_EN c)
      if ps = [] then s
      else s.adReceive c (makeSlot (ps.flatMap fun p => unpackWords p.words) l.number (ps.any (·.hanc)) (ps.any fun p => !p.csOk)
        (s.srcFrame (s.sdiCfg i) % 65536) s.tai i 0)
    else s) s

/-- A line arrives on group i. A line number that does not rise begins a new frame. -/
def sdiLineOp (i : Nat) (l : SdiLine) (s : State) : State :=
  if !s.flag (F.NG_SDI_CTRL_EN i) ∨ !s.flag (F.NG_SDI_STAT_LOCK i) then s else
  let c := s.sdiCfg i
  let s := if l.crcOk then s else s.count (F.NG_SDI_CRC_ERR_COUNT i) 1
  let s := s.set (F.NG_SDI_PID_PID i) l.payloadId.toNat
  let ok := Config.pidAgrees c.fmt c.rate l.payloadId
  let s := s.set (F.NG_SDI_STAT_MISMATCH i) (b2n !ok)
  let s := s.extractAnc i l
  if !ok then s else
  match activeRow c.fmt l.number with
  | none => s
  | some row =>
    let s : State := match (s.flow c.key).frame with
      | some f => if l.number ≤ f.ts then (s.openFrame c l.number false).updFrame c.key fun f => { f with field1 := true, field2 := true }
          else s.updFrame c.key fun f => { f with ts := l.number }
      | none => (s.openFrame c l.number false).updFrame c.key fun f => { f with field1 := true, field2 := true }
    if !((s.flow c.key).frame.any (·.live)) then s
    else if l.data.length * 8 ≠ (rasterActive c.fmt).1 * c.b then s.updFrame c.key fun f => { f with whole := false }
    else
      let s := s.writeRow c row 0 l.data
      match (s.flow c.key).frame with
      | some f => if f.whole ∧ (rasterActive c.fmt).2 ≤ f.rows.length then s.completeFrame c f else s
      | none => s

end Sys2Proof.Machine
end

