-- ==== Sys2Proof/Machine/Faults.lean ====
section
/-! DEFINITION. Fault collection (19): live causes (R434), clearing and rearming (R425 to R427), the pins (R419, R420), and
windows (R430, R431). -/

namespace Sys2Proof.Machine

def fcB : List Nat := [1, 0]

/-- A sensor reading in units of 0.25 °C, signed (R455). -/
def State.temp (s : State) (i : Nat) : Int := signed 12 (s.get (F.PS_TEMP_T i))

/-- The warning limit of a sensor in °C (R455). -/
def State.warnAt (s : State) (i : Nat) : Nat := if i < 14 then s.get F.PS_THERM_WARN else s.get F.PS_THERM_HBM_WARN

/-- A sensor is above its warning limit. -/
def State.warm (s : State) (i : Nat) : Bool := decide ((4 * s.warnAt i : Nat) < s.temp i)

/-- A rail is outside its window, by its last reading, or, treated the same way, does not answer (R434, R452). -/
def State.railBad (s : State) (r : Nat) : Bool :=
  mget (fun _ => 0) s.ps.volts r != 0 || s.flag (F.PS_RAIL_STAT_NO_ACK r)

/-- A layer of head n has INGEST_AGE of 8 or more. -/
def State.staleLayer (s : State) (n : Nat) : Bool :=
  (((s.head n).applied.map (·.layers)).getD []).any fun d => d.ingest && decide (8 ≤ s.get (F.CE_L_INGEST_AGE_AGE (n / 2) d.m))

/-- Some cue engine is halted with a STOP code. -/
def State.haltedWith (s : State) (code : Nat) : Bool :=
  (List.range 24).any fun n => s.get (F.CU_STAT_STATE n) == 0 && s.get (F.CU_STAT_STOP n) == code

/-- The cause of a source of head n is live: number of the source among the eight of its head. -/
def State.headCause (s : State) (n i : Nat) : Bool :=
  let h := s.head n
  match i with
  | 0 => h.sdiFail
  | 1 => h.dpDown
  | 2 => h.stFail
  | 3 => h.fifoOut != []
  | 7 => s.staleLayer n
  | _ => false

/-- A shown slot has two copies of its reference that differ (R254). -/
def State.refCorrupt (s : State) (n : Nat) : Bool :=
  let p := s.pl n
  p.enabled && p.shownOnce && s.get (F.CE_PL_S_REF_CRC (n / 2) (n % 2) p.sel) + s.get (F.CE_PL_S_REF_N_CRC (n / 2) (n % 2) p.sel) != 0xFFFFFFFF

/-- The cause of a source is live (R434). -/
def State.causeLive (s : State) (id : Nat) : Bool :=
  let heads := List.range 16
  if 0x080 ≤ id ∧ id < 0x100 then s.headCause ((id - 0x080) / 8) (id % 8)
  else if 0x180 ≤ id ∧ id < 0x184 then s.flag (F.NP_CTRL_EN (id - 0x180)) && s.get (F.NP_STAT_LINK (id - 0x180)) == 0
  else if 0x190 ≤ id ∧ id < 0x194 then s.flag (F.NP_CTRL_EN (id - 0x190)) && s.get (F.NP_STAT_MOD_PRESENT (id - 0x190)) == 0
  else if 0x1A0 ≤ id ∧ id < 0x1B0 then s.flag (F.NG_SDI_CTRL_EN (id - 0x1A0)) && s.get (F.NG_SDI_STAT_LOCK (id - 0x1A0)) == 0
  else match id with
  | 0x003 => !s.dv.pcieUp
  | 0x010 => s.get F.DV_BOOT_STAT_MAINT == 2 || s.get F.DV_BOOT_STAT_MAINT == 3
  | 0x040 => s.get F.TB_STATE_STATE == 7
  | 0x041 => s.flag F.TB_STATE_RESTEP_PEND
  | 0x045 => s.tb.ports.any fun p => p.2.faulty
  | 0x047 => s.get F.TB_STATE_PLL_LOCK == 0
  | 0x048 => [0, 1].any fun k => s.flag (F.RF_IN_CTRL_EN k) && !s.rf.locked.contains k
  | 0x049 => !(mget (fun _ => ({} : LtcSt)) s.rf.ltc (s.get F.RF_CTRL_TB_LTC)).ok
  | 0x04A => s.flag F.RF_PPS_CTRL_IN_EN && !s.rf.ppsUse
  | 0x04C => s.rf.load != []
  | 0x140 => heads.any fun n => s.plMode n == 1 || s.plMode n == 2
  | 0x141 => heads.any s.refCorrupt
  | 0x160 => s.haltedWith 4
  | 0x163 => s.haltedWith 5
  | 0x196 => s.flows.any fun f => decide (f.1 < 16384) && f.2.down
  | 0x1C0 => (List.range 64).any fun c => s.get (F.AD_STAT_STATE c) == 3
  | 0x1C8 => s.hqs.any fun h => h.2.busErr
  | 0x1D2 => (List.range 8).any fun n => s.get (F.SPP_STAT_STATE n) == 6
  | 0x1D7 => (List.range 8).any fun n => s.flag (F.SPP_STAT_GATE_FAULT n)
  | 0x1E0 => s.get F.GL_STATE_ROLE == 1 || s.get F.GL_STATE_ROLE == 4
  | 0x1E2 => s.get F.GL_STATE_ROLE == 5
  | 0x1F0 => (List.range 16).any s.railBad
  | 0x1F1 => s.ps.limited
  | 0x1F2 => s.ps.exhausted
  | 0x1F4 => (List.range 16).any s.warm
  | 0x1F8 => s.get F.DV_BOOT_STAT_CELLAR_OK == 0
  | 0x1FA => s.cl.failed
  | _ => false

/-- A source is latched. -/
def State.latched (s : State) (id : Nat) : Bool := s.flag ⟨(.FC_LAT, [id / 32]), id % 32, id % 32⟩

/-- A source of a class, or of a higher one, is latched. -/
def State.anyLatched (s : State) (p : Nat → Bool) : Bool :=
  (List.range 512).any fun id => ((srcClass id).any p) && s.latched id

/-- FAULT_N is driven low (R419). -/
def State.faultPin (s : State) : Bool := s.mode != 0 && s.anyLatched (fun c => decide (2 ≤ c))

/-- ALARM_N is driven low (R420). -/
def State.alarmPin (s : State) : Bool := s.mode != 0 && s.flag F.FC_CTRL_ALARM_EN && s.anyLatched (fun c => c == 1)

/-- A source was raised on this tick, so that a clear of it comes after the raise (R427). -/
def State.raisedNow (s : State) (id : Nat) : Bool := s.fc.now.1 == s.tick && s.fc.now.2.any fun r => r.1 == id

/-- A clear of one source (R426, R427). -/
def State.clearSource (s : State) (id : Nat) : State :=
  match srcClass id with
  | none | some 0 => s
  | some c =>
    if !s.latched id then s
    else if c = 3 ∨ s.causeLive id ∨ s.raisedNow id then (s.count F.FC_CLEAR_REJ_COUNT 1).latch fcB 0x20
    else
      let now := if s.fc.cleared.1 = s.tick then s.fc.cleared.2 else []
      let s := s.set ⟨(.FC_LAT, [id / 32]), id % 32, id % 32⟩ 0
      { s with fc := { s.fc with cleared := (s.tick, id :: now) } }

/-- A clear of every latched source (R426). -/
def State.clearAll (s : State) : State := (List.range 512).foldl State.clearSource s

/-- Rearm the first fault (R425): sources that latched on this tick are taken after it. -/
def State.rearm (s : State) : State :=
  let s := (s.set F.FC_FIRST_ID_VALID 0).wr (.FC_OVF, []) 0
  let s := { s with fc := { s.fc with firstTick := none } }
  if s.fc.now.1 = s.tick then
    (s.fc.now.2.filter fun r => r.2.2).foldl (fun s r => s.takeFirst r.1 ((srcClass r.1).getD 0) r.2.1) s
  else s

/-- The block that a reaction reset is ready (R429). -/
def State.blockReady (s : State) (w : Window) : Bool :=
  match w.react with
  | .svc => s.get F.DV_SVC_READY_READY == 15
  | .sdi => !(s.head w.unit).sdiReset
  | .tpll => s.flag F.TB_STATE_PLL_LOCK
  | .clr => !s.fc.clrWait
  | _ => true

/-- A window may close (R430). -/
def State.windowDue (s : State) (w : Window) : Bool :=
  (decide (w.since + 25600 ≤ s.tick) && s.blockReady w) || decide (w.since + ticksS 1 ≤ s.tick)

/-- Close the window of a reaction and unit (R431): the condition sources that it suppressed and that are live are raised. -/
def windowCloseOp (r : Reaction) (u : Nat) (s : State) : State :=
  match s.fc.windows.find? fun w => w.react == r && w.unit == u with
  | none => s
  | some w =>
    if !s.windowDue w then s else
    let s := { s with fc := { s.fc with windows := s.fc.windows.filter fun x => !(x.react == r && x.unit == u) } }
    w.held.eraseDups.foldl (fun s h => if !isEvent h.1 && s.causeLive h.1 then s.raise h.1 h.2 else s) s

/-- Open a window (R430). -/
def State.openWindow (s : State) (r : Reaction) (u : Nat) : State :=
  let s := s.latch fcB 0x40
  { s with fc := { s.fc with windows := s.fc.windows ++ [{ react := r, unit := u, since := s.tick, held := [] }] } }

end Sys2Proof.Machine
end

