-- ==== Sys2Proof/Machine/Transcend.lean ====
section
/-! DEFINITION. Powers, the exponential, the natural logarithm and the sine that 08 and 13 define their curves with, by their series
in fixed point of 100 fraction bits: far closer than the one code that R198 allows (log 78). -/

namespace Sys2Proof.Machine

/-- The place of the leading bit of a positive number, not below -emin. -/
def leadBit (emin : Nat) (a : Rat) : Int :=
  if 1 ≤ a then Nat.log2 a.floor.toNat else
  let m := (a * (2 ^ emin : Nat)).floor.toNat
  if m = 0 then -(emin : Int) else (Nat.log2 m : Int) - emin

/-- Two to an integer power. -/
def twoTo (e : Int) : Rat := if 0 ≤ e then (2 ^ e.toNat : Nat) else 1 / ((2 ^ (-e).toNat : Nat) : Rat)

/-- Cut a number to 100 fraction bits. -/
def cut100 (x : Rat) : Rat := (x * (2 ^ 100 : Nat)).floor / ((2 ^ 100 : Nat) : Rat)

/-- n terms of a power series from term i on: `next i t` is the term after t. -/
def series (next : Nat → Rat → Rat) : Nat → Nat → Rat → Rat
  | 0, _, _ => 0
  | n + 1, i, t => t + series next n (i + 1) (cut100 (next i t))

/-- ln m for m from 1 to 2: twice the inverse hyperbolic tangent of (m - 1) / (m + 1). -/
def lnMant (m : Rat) : Rat :=
  let t := cut100 ((m - 1) / (m + 1))
  2 * series (fun i x => x * t * t * ((2 * i + 1 : Nat) : Rat) / ((2 * i + 3 : Nat) : Rat)) 40 0 t

/-- ln x for x above 0. -/
def lnQ (x : Rat) : Rat :=
  let e := leadBit 400 x
  lnMant (cut100 (x / twoTo e)) + e * lnMant 2

/-- e to the x. -/
def expQ (x : Rat) : Rat :=
  let k := (x / lnMant 2).floor
  if k < -400 then 0 else
  let r := cut100 (x - k * lnMant 2)
  twoTo k * series (fun i t => t * r / ((i + 1 : Nat) : Rat)) 32 0 1

/-- x to the y for x of 0 or more; 0 to any power is 0. -/
def powQ (x y : Rat) : Rat := if x ≤ 0 then 0 else if x = 1 then 1 else expQ (y * lnQ x)

/-- π to 35 decimals. -/
def piQ : Rat := (314159265358979323846264338327950288 : Nat) / ((10 ^ 35 : Nat) : Rat)

/-- The sine of an angle in radians. -/
def sinRad (x : Rat) : Rat :=
  let r := cut100 (x - 2 * piQ * (x / (2 * piQ)).floor)
  series (fun i t => -t * r * r / (((2 * i + 2) * (2 * i + 3) : Nat) : Rat)) 40 0 r

/-- sinc z = sin πz / πz, and 1 at 0 (R209). -/
def sincQ (z : Rat) : Rat := if z = 0 then 1 else sinRad (piQ * z) / (piQ * z)

/-- The sine of an angle in degrees. -/
def sinQ (a : Rat) : Rat :=
  let q := a / 90
  if q.floor = q then (match (q.floor % 4).toNat with
    | 1 => 1
    | 3 => -1
    | _ => 0)
  else sinRad (piQ * a / 180)

end Sys2Proof.Machine
end

