-- ==== Sys2Proof/Machine/Pixels.lean ====
section
/-! DEFINITION. The pixel pipeline up to the composed line (08): number formats (R197), unpacking (R172, R200 to R202), input
colour (R203, R204), scaling (R206 to R210) and blending (R213 to R215). Values are exact rationals between the storage
points, at which they are rounded to binary16. A flag beside a value says that a replacement or clamp changed it (R197). -/

namespace Sys2Proof.Machine

/-! ### Numbers -/

/-- Round to the nearest integer, halves to even. -/
def roundEven (x : Rat) : Int :=
  let f := x.floor
  let d := x - f
  if d < 1 / 2 then f else if 1 / 2 < d then f + 1 else if f % 2 = 0 then f else f + 1

/-- Round to `p` significant bits, with no exponent below `-emin`. -/
def roundBits (p emin : Nat) (x : Rat) : Rat :=
  let a := if x < 0 then -x else x
  let q := twoTo (max (leadBit (emin + p) a) (-(emin : Int)) - (p - 1 : Nat))
  roundEven (x / q) * q

/-- Keep a value within limits. -/
def clampQ (lo hi x : Rat) : Rat × Bool := if x < lo then (lo, true) else if hi < x then (hi, true) else (x, false)

/-- Round to binary16 at a storage point (R197). -/
def toHalf (x : Rat) : Rat × Bool :=
  let c := clampQ (-65504) 65504 x
  if c.2 then c else clampQ (-65504) 65504 (roundBits 11 14 c.1)

/-- The value of a binary16 pattern; a NaN is 0 and an infinity 65,504 (R197). -/
def ofHalf (w : Nat) : Rat × Bool :=
  let e := w / 1024 % 32
  let m : Rat := ((w % 1024 : Nat) : Rat)
  let sign : Rat := if nbit w 15 then -1 else 1
  if e = 31 then (if w % 1024 = 0 then (sign * 65504, true) else (0, true))
  else if e = 0 then (sign * m * twoTo (-24), false)
  else (sign * (1024 + m) * twoTo ((e : Int) - 25), false)

/-- A number of step 5 or of CONST x alpha: a fill colour or CONST may hold a NaN or an infinity, which stands until the storage
point (R197, R205). -/
inductive Num where
  | fin (q : Rat)
  | inf (neg : Bool)
  | nan
  deriving DecidableEq, Repr

/-- The number of a binary16 pattern. -/
def Num.ofHalf (w : Nat) : Num :=
  if w / 1024 % 32 = 31 then (if w % 1024 = 0 then .inf (nbit w 15) else .nan) else .fin (Machine.ofHalf w).1

/-- The sum of two numbers. -/
def Num.add : Num → Num → Num
  | .fin a, .fin b => .fin (a + b)
  | .nan, _ => .nan
  | _, .nan => .nan
  | .inf a, .inf b => if a = b then .inf a else .nan
  | .inf a, _ => .inf a
  | _, .inf b => .inf b

/-- An infinity times a finite number. -/
def infTimes (neg : Bool) (q : Rat) : Num := if q = 0 then .nan else .inf (neg != decide (q < 0))

/-- The product of two numbers. -/
def Num.mul : Num → Num → Num
  | .fin a, .fin b => .fin (a * b)
  | .nan, _ => .nan
  | _, .nan => .nan
  | .inf a, .inf b => .inf (a != b)
  | .inf a, .fin q => infTimes a q
  | .fin q, .inf b => infTimes b q

/-- One less a number. -/
def Num.oneLess (x : Num) : Num := (Num.fin 1).add ((Num.fin (-1)).mul x)

/-- The smaller of 1 and a number, and whether that changes it. -/
def Num.min1 : Num → Num × Bool
  | .fin a => (.fin (min 1 a), decide (1 < a))
  | .inf neg => if neg then (.inf true, false) else (.fin 1, true)
  | .nan => (.nan, false)

/-- A number clamped from below and above. -/
def Num.clamp (lo hi : Rat) : Num → Num × Bool
  | .fin a => let c := clampQ lo hi a; (.fin c.1, c.2)
  | .inf neg => (.fin (if neg then lo else hi), true)
  | .nan => (.nan, false)

/-- A number at a storage point (R197). -/
def Num.store : Num → Rat × Bool
  | .fin a => toHalf a
  | .inf neg => (if neg then -65504 else 65504, true)
  | .nan => (0, true)

/-- Round a pixel to binary16. -/
def halfPx (p : Px) : Px × Bool := p.mapT toHalf toHalf

/-! ### Input colour (R200 to R204) -/

/-- Step 3a for an n-bit code of Y' or R'G'B' (R200). -/
def normLuma (full : Bool) (n d : Nat) : Rat :=
  if full then ((d : Nat) : Rat) / ((2 ^ n - 1 : Nat) : Rat)
  else (((d : Nat) : Rat) - ((16 * 2 ^ (n - 8) : Nat) : Rat)) / ((219 * 2 ^ (n - 8) : Nat) : Rat)

/-- Step 3a for an n-bit code of Cb or Cr (R200). -/
def normChroma (full : Bool) (n d : Nat) : Rat :=
  if full then (((d : Nat) : Rat) - ((2 ^ (n - 1) : Nat) : Rat)) / ((2 ^ n - 1 : Nat) : Rat)
  else (((d : Nat) : Rat) - ((128 * 2 ^ (n - 8) : Nat) : Rat)) / ((224 * 2 ^ (n - 8) : Nat) : Rat)

/-- Kr and Kb of a MATRIX code. -/
def krkb (m : Nat) : Rat × Rat :=
  match m with
  | 1 => (2126 / 10000, 722 / 10000) | 2 => (299 / 1000, 114 / 1000) | _ => (2627 / 10000, 593 / 10000)

/-- Step 3c: Y'CbCr to R'G'B' (R203). -/
def fromYcc (m : Nat) (y cb cr : Rat) : Rat × Rat × Rat :=
  let k := krkb m
  let r := y + 2 * (1 - k.1) * cr
  let b := y + 2 * (1 - k.2) * cb
  (r, (y - k.1 * r - k.2 * b) / (1 - k.1 - k.2), b)

/-- Step 3d: the clamp of a TRANSFER code. -/
def clampIn (t : Nat) (x : Rat) : Rat × Bool :=
  if t = 0 then (x, false) else if t ≤ 2 then clampQ 0 (109 / 100) x else clampQ 0 1 x

/-- The constants of PQ (R217). -/
def pqM1 : Rat := 1593017578125 / 10000000000000
def pqM2 : Rat := 7884375 / 100000
def pqC1 : Rat := 8359375 / 10000000
def pqC2 : Rat := 188515625 / 10000000
def pqC3 : Rat := 186875 / 10000

/-- The constants of HLG (R203). -/
def hlgA : Rat := 17883277 / 100000000
def hlgB : Rat := 28466892 / 100000000
def hlgC : Rat := 55991073 / 100000000

/-- The transfer decode of one component, but for HLG's OOTF (R203). -/
def decode1 (t : Nat) (v : Rat) : Rat :=
  match t with
  | 1 => powQ v (12 / 5)
  | 2 => if v ≤ 4045 / 100000 then v / (1292 / 100) else powQ ((v + 55 / 1000) / (1055 / 1000)) (12 / 5)
  | 3 =>
    let x := powQ v (1 / pqM2)
    powQ (max (x - pqC1) 0 / (pqC2 - pqC3 * x)) (1 / pqM1) * 10000 / 203
  | 4 => if v ≤ 1 / 2 then v * v / 3 else (expQ ((v - hlgC) / hlgA) + hlgB) / 12
  | _ => v

/-- Step 3f (R203). -/
def decodeIn (t : Nat) (p : Px) : Px :=
  let r := decode1 t p.r
  let g := decode1 t p.g
  let b := decode1 t p.b
  if t = 4 then
    let k := 1000 * powQ (2627 / 10000 * r + 6780 / 10000 * g + 593 / 10000 * b) (1 / 5) / 203
    ⟨k * r, k * g, k * b, p.a⟩
  else ⟨r, g, b, p.a⟩

/-- A 3 × 3 matrix, row by row. -/
abbrev Mat := (Rat × Rat × Rat) × (Rat × Rat × Rat) × (Rat × Rat × Rat)

def dot (a b : Rat × Rat × Rat) : Rat := a.1 * b.1 + a.2.1 * b.2.1 + a.2.2 * b.2.2

def Mat.app (m : Mat) (v : Rat × Rat × Rat) : Rat × Rat × Rat := (dot m.1 v, dot m.2.1 v, dot m.2.2 v)

def Mat.tr (m : Mat) : Mat :=
  ((m.1.1, m.2.1.1, m.2.2.1), (m.1.2.1, m.2.1.2.1, m.2.2.2.1), (m.1.2.2, m.2.1.2.2, m.2.2.2.2))

def Mat.mul (a b : Mat) : Mat := let t := b.tr; (t.app a.1, t.app a.2.1, t.app a.2.2)

def cross (a b : Rat × Rat × Rat) : Rat × Rat × Rat :=
  (a.2.1 * b.2.2 - a.2.2 * b.2.1, a.2.2 * b.1 - a.1 * b.2.2, a.1 * b.2.1 - a.2.1 * b.1)

def scale3 (k : Rat) (a : Rat × Rat × Rat) : Rat × Rat × Rat := (k * a.1, k * a.2.1, k * a.2.2)

def Mat.inv (m : Mat) : Mat :=
  let c1 := cross m.2.1 m.2.2
  let c2 := cross m.2.2 m.1
  let c3 := cross m.1 m.2.1
  let k := 1 / dot m.1 c1
  Mat.tr (scale3 k c1, scale3 k c2, scale3 k c3)

/-- Chromaticities of a PRIMARIES code in thousandths: x and y of red, green and blue. -/
def primaries (p : Nat) : (Nat × Nat) × (Nat × Nat) × (Nat × Nat) :=
  match p with
  | 0 => ((708, 292), (170, 797), (131, 46))
  | 1 => ((640, 330), (300, 600), (150, 60))
  | 2 => ((640, 330), (290, 600), (150, 60))
  | 3 => ((630, 340), (310, 595), (155, 70))
  | _ => ((680, 320), (265, 690), (150, 60))

/-- XYZ of a chromaticity with Y = 1. -/
def xyz (x y : Rat) : Rat × Rat × Rat := (x / y, 1, (1 - x - y) / y)

/-- Linear RGB to XYZ by the method of RP 177, with the D65 white point. -/
def toXyz (p : Nat) : Mat :=
  let c (q : Nat × Nat) := xyz (q.1 / 1000) (q.2 / 1000)
  let ps := primaries p
  let m := Mat.tr (c ps.1, c ps.2.1, c ps.2.2)
  let k := m.inv.app (xyz (3127 / 10000) (3290 / 10000))
  Mat.tr (scale3 k.1 (c ps.1), scale3 k.2.1 (c ps.2.1), scale3 k.2.2 (c ps.2.2))

/-- Step 3g: the matrix from a PRIMARIES code to BT.2020, rounded to binary32 (R204). -/
def gamutIn (p : Nat) : Mat :=
  let m := Mat.mul (toXyz 0).inv (toXyz p)
  let r (v : Rat × Rat × Rat) := (roundBits 24 126 v.1, roundBits 24 126 v.2.1, roundBits 24 126 v.2.2)
  (r m.1, r m.2.1, r m.2.2)

/-- What steps 3d to 3h need of the input colour fields. -/
structure InColour where
  matrix : Nat
  transfer : Nat
  prims : Nat
  full : Bool
  premult : Bool

def LayerDesc.inColour (d : LayerDesc) : InColour := ⟨d.matrix, d.transfer, d.primaries, d.fullRange, d.premult⟩

/-- Steps 3d to 3h on R'G'B' and alpha (R203 to R205). -/
def inputColour (c : InColour) (p : Px) : Px × Bool :=
  let d := p.mapT (clampIn c.transfer) fun a => (a, false)
  let e : Px × Bool :=
    if !c.premult then (d.1, false)
    else if p.a ≤ 0 then (⟨0, 0, 0, p.a⟩, false)
    else (⟨d.1.r / p.a, d.1.g / p.a, d.1.b / p.a, p.a⟩ : Px).mapT (clampIn c.transfer) fun a => (a, false)
  let f := decodeIn c.transfer e.1
  let g := if c.prims = 0 then (f.r, f.g, f.b) else (gamutIn c.prims).app (f.r, f.g, f.b)
  let h := halfPx ⟨g.1 * p.a, g.2.1 * p.a, g.2.2 * p.a, p.a⟩
  (h.1, d.2 || e.2 || h.2)

/-! ### Unpacking (R172, R201, R202) -/

/-- Bytes of a layer's buffer: plane (2 for the palette), row, byte of the row. -/
abbrev RowBytes := Nat → Nat → Nat → Nat

/-- Little-endian and big-endian numbers in k bytes of a row. -/
def leAt (g : RowBytes) (pl row o : Nat) : Nat → Nat
  | 0 => 0
  | k + 1 => leAt g pl row o k + g pl row (o + k) * 256 ^ k

def beAt (g : RowBytes) (pl row o : Nat) : Nat → Nat
  | 0 => 0
  | k + 1 => beAt g pl row o k * 256 + g pl row (o + k)

/-- Sample i of n bits in a pgroup of k bytes, most significant bit first. -/
def groupSample (g : RowBytes) (row o k n i : Nat) : Nat := beAt g 0 row o k / 2 ^ (8 * k - n * (i + 1)) % 2 ^ n

/-- A source of 4:2:2 or 4:2:0 samples: bits, luma by row and column, chroma (Cb and Cr) by chroma row and chroma column. -/
structure Sub where
  n : Nat
  luma : Nat → Nat → Nat
  chroma : Nat → Nat → Nat × Nat
  vert : Bool

/-- Keep an index within a range. -/
def clampIdx (lo hi : Nat) (i : Int) : Nat := if i < lo then lo else if (hi : Int) ≤ i then hi - 1 else i.toNat

/-- The chroma of a pixel after upsampling (R202). `cx`, `cw`, `cy` and `ch` are the crop in luma samples. -/
def upsample (u : Sub) (full : Bool) (siting cx cw cy ch row col : Nat) : Rat × Rat :=
  let norm (q : Nat × Nat) : Rat × Rat := (normChroma full u.n q.1, normChroma full u.n q.2)
  let mix (l : List (Rat × (Rat × Rat))) : Rat × Rat := l.foldl (fun a e => (a.1 + e.1 * e.2.1, a.2 + e.1 * e.2.2)) (0, 0)
  let at_ (r j : Int) : Rat × Rat :=
    norm (u.chroma (if u.vert then clampIdx (cy / 2) ((cy + ch) / 2) r else r.toNat) (clampIdx (cx / 2) ((cx + cw) / 2) j))
  let r : Int := ((if u.vert then row / 2 else row : Nat) : Int)
  let v (j : Int) : Rat × Rat :=
    if !u.vert then at_ r j
    else if siting = 1 then (if row % 2 = 0 then at_ r j else mix [(1 / 2, at_ r j), (1 / 2, at_ (r + 1) j)])
    else if row % 2 = 0 then mix [(1 / 4, at_ (r - 1) j), (3 / 4, at_ r j)]
    else mix [(3 / 4, at_ r j), (1 / 4, at_ (r + 1) j)]
  let j : Int := ((col / 2 : Nat) : Int)
  if siting = 2 then
    if col % 2 = 0 then mix [(1 / 4, v (j - 1)), (3 / 4, v j)] else mix [(3 / 4, v j), (1 / 4, v (j + 1))]
  else if col % 2 = 0 then v j
  else mix [(-1 / 16, v (j - 1)), (9 / 16, v j), (9 / 16, v (j + 1)), (-1 / 16, v (j + 2))]

/-- The subsampled source of a layer of formats 0x3, 0x4, 0x8 or 4:2:2 ingest. -/
def subSource (d : LayerDesc) (deep : Bool) (g : RowBytes) : Sub :=
  if d.fmt = 4 then
    { n := 10, vert := true, luma := fun r c => leAt g 0 r (2 * c) 2 / 64
      chroma := fun r j => (leAt g 1 r (4 * j) 2 / 64, leAt g 1 r (4 * j + 2) 2 / 64) }
  else
    let n := if deep then 12 else 10
    let k := if deep then 6 else 5
    { n, vert := false, luma := fun r c => groupSample g r (c / 2 * k) k n (1 + 2 * (c % 2))
      chroma := fun r j => (groupSample g r (j * k) k n 0, groupSample g r (j * k) k n 2) }

/-- Step 2 and steps 3a to 3c of a format 0x0 word at a place (R200, R201). -/
def rgba8 (full : Bool) (g : RowBytes) (pl row o : Nat) : Px :=
  ⟨normLuma full 8 (g pl row o), normLuma full 8 (g pl row (o + 1)), normLuma full 8 (g pl row (o + 2)), ((g pl row (o + 3) : Nat) : Rat) / 255⟩

/-- R'G'B' and alpha of a pixel before step 3d, for a format with input colour (R172, R200 to R203). `samp` and `deep` are
those of an ingest source. -/
def unpack (d : LayerDesc) (c : InColour) (samp : Nat) (deep : Bool) (g : RowBytes) (row col : Nat) : Px × Bool :=
  let sub (a : Rat) : Px × Bool :=
    let u := subSource d deep g
    let y := normLuma c.full u.n (u.luma row col)
    let q := upsample u c.full d.siting d.cropX d.cropW d.cropY d.cropH row col
    let p := fromYcc c.matrix y q.1 q.2
    (⟨p.1, p.2.1, p.2.2, a⟩, false)
  match d.fmt with
  | 0 => (rgba8 c.full g 0 row (4 * col), false)
  | 1 =>
    let w := leAt g 0 row (4 * col) 4
    (⟨normLuma c.full 10 (w % 1024), normLuma c.full 10 (w / 1024 % 1024), normLuma c.full 10 (w / 2 ^ 20 % 1024), ((w / 2 ^ 30 : Nat) : Rat) / 3⟩, false)
  | 2 =>
    let h (i : Nat) := ofHalf (leAt g 0 row (8 * col + 2 * i) 2)
    let a := clampQ 0 1 (h 3).1
    (⟨(h 0).1, (h 1).1, (h 2).1, a.1⟩, (h 0).2 || (h 1).2 || (h 2).2 || (h 3).2 || a.2)
  | 5 =>
    let w (i : Nat) := leAt g 0 row (6 * col + 2 * i) 2 / 16
    let p := fromYcc c.matrix (normLuma c.full 12 (w 0)) (normChroma c.full 12 (w 1)) (normChroma c.full 12 (w 2))
    (⟨p.1, p.2.1, p.2.2, 1⟩, false)
  | 6 => (rgba8 c.full g 2 0 (4 * g 0 row col), false)
  | 8 => sub (((leAt g 1 row (2 * col) 2 / 64 : Nat) : Rat) / 1023)
  | 15 =>
    if samp = 0 then sub 1 else
    let n := if deep then 12 else 10
    let k := if deep then 9 else 15
    let px := if deep then 2 else 4
    let w (i : Nat) := groupSample g row (col / px * k) k n (3 * (col % px) + i)
    if samp = 2 then (⟨normLuma c.full n (w 0), normLuma c.full n (w 1), normLuma c.full n (w 2), 1⟩, false)
    else
      let p := fromYcc c.matrix (normLuma c.full n (w 1)) (normChroma c.full n (w 0)) (normChroma c.full n (w 2))
      (⟨p.1, p.2.1, p.2.2, 1⟩, false)
  | _ => sub 1

/-- The working-space pixel of a place of the buffer, at the end of step 3 (R205 for format 0x7). -/
def workPixel (d : LayerDesc) (samp : Nat) (deep : Bool) (g : RowBytes) (row col : Nat) : Px × Bool :=
  if d.fmt = 7 then
    let a : Rat := ((g 0 row col : Nat) : Rat) / 255
    let k (w : Nat) : Rat × Bool := ((Num.ofHalf w).mul (.fin a)).store
    let r := k (d.f 21 15 0)
    let gr := k (d.f 21 31 16)
    let b := k (d.f 22 15 0)
    let h := toHalf a
    (⟨r.1, gr.1, b.1, h.1⟩, r.2 || gr.2 || b.2 || h.2)
  else
    let u := unpack d d.inColour samp deep g row col
    let c := inputColour d.inColour u.1
    (c.1, u.2 || c.2)

/-! ### Scaling (R206 to R210) -/

/-- The cubic kernel (R209). -/
def cubic (z : Rat) : Rat :=
  let a := if z < 0 then -z else z
  if a ≤ 1 then 3 / 2 * a ^ 3 - 5 / 2 * a ^ 2 + 1 else if a < 2 then -1 / 2 * a ^ 3 + 5 / 2 * a ^ 2 - 4 * a + 2 else 0

/-- The place of the coefficient of largest magnitude: the first of them. -/
def largest (cs : List Int) : Nat :=
  (cs.foldl (fun (a : Nat × Nat × Nat) c => if a.2.2 < c.natAbs then (a.1 + 1, a.1, c.natAbs) else (a.1 + 1, a.2.1, a.2.2)) (0, 0, 0)).2.1

/-- The built-in coefficients of a phase, in units of 2^-14, for N taps and the ratio w / dst (R209). -/
def builtIn (set n w dst p : Nat) : List Int :=
  let r : Rat := ((w : Nat) : Rat) / ((dst : Nat) : Rat)
  let s : Rat := if set = 1 then min (max 1 r) ((n / 4 : Nat) : Rat) else max 1 r
  let raw := (List.range n).map fun j =>
    let t : Rat := ((j : Nat) : Rat) - ((n / 2 : Nat) : Rat) + 1 - ((p : Nat) : Rat) / 64
    if set = 1 then cubic (t / s) / s
    else if (if t < 0 then -t else t) < ((n / 2 : Nat) : Rat) then sincQ (t / s) * sincQ (t / ((n / 2 : Nat) : Rat)) / s else 0
  let total := raw.foldl (· + ·) 0
  let cs := raw.map fun c => (c / total * 16384 + 1 / 2).floor
  let k := largest cs
  cs.set k (cs.getD k 0 + 16384 - cs.foldl (· + ·) 0)

/-- The programmed coefficients of a phase: vertical or horizontal, set P (R211). -/
def State.programmed (s : State) (k : Nat) (vert : Bool) (pset p : Nat) : List Int :=
  (List.range (if vert then 4 else 8)).flatMap fun i =>
    let w := s.rd (if vert then .CE_VCOEF else .CE_HCOEF, [k, pset, p, i])
    [signed 16 (bits w 15 0), signed 16 (bits w 31 16)]

/-- The coefficients of a phase of a filter choice. A set with an uncorrectable word for the phase acts as set 0 (R224). -/
def State.coefs (s : State) (k : Nat) (vert : Bool) (filt w dst p : Nat) (bad : List (Bool × Nat × Nat)) : List Int :=
  let n := if vert then 8 else 16
  if filt < 2 then builtIn filt n w dst p
  else if bad.contains (vert, filt - 2, p) then builtIn 0 n w dst p
  else s.programmed k vert (filt - 2) p

/-- Apply a filter of N taps at an output index: `src` gives the sample of an input index. -/
def applyFilter (cs : Nat → List Int) (n w dst y : Nat) (src : Nat → Px × Bool) : Px × Bool :=
  let u := filtPos w dst y
  let taps := (cs u.2).zipIdx.map fun e => (e.1, src (clampIdx 0 w (u.1 - (n / 2 : Nat) + 1 + (e.2 : Nat))))
  taps.foldl (fun a e => (a.1.add (e.2.1.scale (((e.1 : Int) : Rat) / 16384)), a.2 || e.2.2)) (Px.zero, false)

/-- Step 4a: the mean of a run of d pixels. -/
def decimate (d i : Nat) (src : Nat → Px × Bool) : Px × Bool :=
  let ps := (List.range d).map fun j => src (d * i + j)
  let p := ps.foldl (fun a e => (a.1.add e.1, a.2 || e.2)) (Px.zero, false)
  (p.1.scale (1 / ((d : Nat) : Rat)), p.2)

/-- Step 4 for output column x and output row y of a layer (R207, R208, R210). `src` gives the pixel of a place of the buffer. -/
def State.scalePixel (s : State) (k : Nat) (d : LayerDesc) (bad : List (Bool × Nat × Nat)) (src : Nat → Nat → Px × Bool) (x y : Nat) : Px × Bool :=
  let pre (row i : Nat) := decimate d.dec i fun c => src (d.cropY + d.dec * row) (d.cropX + c)
  let h (row : Nat) : Px × Bool :=
    if d.hscaled then applyFilter (fun p => s.coefs k false d.hfilt d.preW d.dstW p bad) 16 d.preW d.dstW x (pre row) else pre row x
  let v := if d.vscaled then applyFilter (fun p => s.coefs k true d.vfilt d.preH d.dstH p bad) 8 d.preH d.dstH y h else h y
  let c := v.1.mapT (clampQ 0 65504) (clampQ 0 1)
  let f := halfPx c.1
  (f.1, v.2 || c.2 || f.2)

/-- The buffer rows that output row y of a layer needs (R207, R208). -/
def LayerDesc.needRows (d : LayerDesc) (y : Nat) : List Nat :=
  let rows := if d.vscaled then
      let u := filtPos d.preH d.dstH y
      (List.range 8).map fun j => clampIdx 0 d.preH (u.1 - 3 + (j : Nat))
    else [y]
  (rows.map fun r => d.cropY + d.dec * r).eraseDups

/-! ### Blending (R213 to R215) -/

/-- A pixel of step 5. -/
structure NumPx where
  r : Num
  g : Num
  b : Num
  a : Num

def numOf (p : Px) : NumPx := ⟨.fin p.r, .fin p.g, .fin p.b, .fin p.a⟩

def NumPx.scale (k : Num) (p : NumPx) : NumPx := ⟨k.mul p.r, k.mul p.g, k.mul p.b, k.mul p.a⟩

/-- Blend a source over what lies below, in a mode, and say whether a clamp changed the alpha (R214). `s` is ALPHA / 65,535. -/
def blendNum (mode : Nat) (s : Rat) (p dst : NumPx) : NumPx × Bool :=
  let c := p.scale (.fin s)
  let each (f : Num → Num → Num) (a : Num) : NumPx := ⟨f c.r dst.r, f c.g dst.g, f c.b dst.b, a⟩
  let alpha := c.a.add (c.a.oneLess.mul dst.a)
  match mode with
  | 1 => let a := (c.a.add dst.a).min1; (each Num.add a.1, a.2)
  | 2 => (each (fun x y => ((x.mul y).add (x.mul dst.a.oneLess)).add (y.mul c.a.oneLess)) alpha, false)
  | 3 => (each (fun x _ => x) c.a, false)
  | 4 => (each (fun _ y => y.mul c.a.oneLess) (dst.a.mul c.a.oneLess), false)
  | _ => (each (fun x y => x.add (c.a.oneLess.mul y)) alpha, false)

/-- The clamp of a colour component after the last layer, and its storage in the composed line (R215). -/
def Num.composed (x : Num) : Rat × Bool :=
  let c := x.clamp 0 65504
  let h := c.1.store
  (h.1, c.2 || h.2)

/-- The composed pixel (R215): R, G and B only. -/
def NumPx.composed (p : NumPx) : Px × Bool :=
  let r := p.r.composed
  let g := p.g.composed
  let b := p.b.composed
  (⟨r.1, g.1, b.1, 1⟩, r.2 || g.2 || b.2)

end Sys2Proof.Machine
end

