-- ==== Sys2Proof/Machine/DialDraw.lean ====
section
/-! DEFINITION. Drawing dials and text strips (R315, R317 to R323). -/

namespace Sys2Proof.Machine

/-- A field of a latched register of an item. -/
def DtLatch.f (l : DtLatch) (k : Key) (hi lo : Nat) : Nat := bits (l.rd k) hi lo

/-! ### The time shown -/

/-- What an item shows: hour, minute, second, fraction of the second, and date. -/
structure Clock where
  h : Nat
  m : Nat
  sec : Nat
  frac : Rat
  days : Nat

/-- The time shown at time t of an item of a SCALE and ZONE with a DELAY word (R315 to R317). -/
def State.clock (s : State) (l : DtLatch) (t : Rat) (scale zone delay : Nat) : Clock :=
  let t := t + ((signed 16 delay : Int) : Rat) / 1000
  let z : Zone := ⟨l.rd (.DT_Z_OFS, [zone]), l.rd (.DT_Z_START, [zone]), l.rd (.DT_Z_END, [zone])⟩
  let r := s.reading scale z t.floor.toNat
  { h := r.secs / 3600 % 24, m := r.secs / 60 % 60, sec := if r.leap then 60 else r.secs % 60, frac := t - t.floor, days := r.secs / 86400 }

/-- An item is hidden (R317): ALERT 3, or ALERT 2 in the second half of a second, while the condition holds. -/
def State.alertHides (s : State) (scale alert : Nat) (frac : Rat) : Bool :=
  s.alert scale && (alert == 3 || (alert == 2 && decide (1 / 2 ≤ frac)))

/-! ### Colours and coverage -/

/-- The linear colour of a colour word, multiplied by its alpha (R320). -/
def dtColour (w : Word) : Px :=
  let c (i : Nat) : Rat := decode1 1 (normLuma true 8 (bits w (8 * i + 7) (8 * i)))
  let a : Rat := ((bits w 31 24 : Nat) : Rat) / 255
  let m := (gamutIn 1).app (c 0, c 1, c 2)
  ⟨m.1 * a, m.2.1 * a, m.2.2 * a, a⟩

/-- The fraction of the 16 points of a pixel that lie inside a shape (R320). -/
def coverage (inside : Rat → Rat → Bool) (x y : Nat) : Rat :=
  let at_ (i j : Nat) : Bool := inside ((x : Nat) + (((2 * i + 1 : Nat) : Rat) / 8)) ((y : Nat) + (((2 * j + 1 : Nat) : Rat) / 8))
  let n := ((List.range 4).flatMap fun i => (List.range 4).map fun j => at_ i j).countP id
  ((n : Nat) : Rat) / 16

/-- A colour over what lies below, at a coverage (R320). -/
def overAt (c : Px) (k : Rat) (dst : Px) : Px :=
  let p := c.scale k
  p.add (dst.scale (1 - p.a))

/-! ### Analogue dials (R318) -/

/-- A point lies in the rectangle from r0 to r1 on the axis at an angle, of a width, about the centre (r, r). -/
def onAxis (r angle r0 r1 width px py : Rat) : Bool :=
  let dx := px - r
  let dy := r - py
  let sn := sinQ angle
  let cs := sinQ (angle + 90)
  let along := dx * sn + dy * cs
  let across := dx * cs - dy * sn
  decide (r0 ≤ along) && decide (along ≤ r1) && decide (-(width / 2) ≤ across) && decide (across ≤ width / 2)

/-- A pixel of an analogue dial. -/
def analogPixel (l : DtLatch) (i : Nat) (c : Clock) (alert : Bool) (x y : Nat) : Px :=
  let f := l.f
  let r : Rat := ((f (.DT_D_SIZE, [i]) 10 0 : Nat) : Rat) / 2
  let hands : Key := (.DT_D_HANDS, [i])
  let ctl : Key := (.DT_D_CTRL, [i])
  let len (j : Nat) : Rat := ((f hands (6 * j + 5) (6 * j) : Nat) : Rat) * r / 64
  let wid (j : Nat) : Rat := ((f hands (21 + 4 * j) (18 + 4 * j) : Nat) : Rat) * r / 64
  let sec : Rat := (c.sec : Nat) + (if f ctl 10 10 = 1 then c.frac else 0)
  let s60 := min sec 60
  let col (j : Nat) := dtColour (l.rd (.DT_D_COL, [i, j]))
  let hand := if alert then col 4 else col 2
  let marks (px py : Rat) : Bool :=
    ((List.range 12).any fun k => onAxis r ((30 * k : Nat) : Rat) (4 / 5 * r) (19 / 20 * r) (r / 24) px py) ||
      (f ctl 11 11 == 1 && (List.range 60).any fun k => k % 5 != 0 && onAxis r ((6 * k : Nat) : Rat) (9 / 10 * r) (19 / 20 * r) (r / 96) px py)
  let p := overAt (col 0) (coverage (fun px py => decide ((px - r) * (px - r) + (py - r) * (py - r) ≤ r * r)) x y) Px.zero
  let p := overAt (col 1) (coverage marks x y) p
  let ha : Rat := 30 * ((c.h % 12 : Nat) : Rat) + ((c.m : Nat) : Rat) / 2 + s60 / 120
  let ma : Rat := 6 * ((c.m : Nat) : Rat) + s60 / 10
  let p := overAt hand (coverage (onAxis r ha 0 (len 0) (wid 0)) x y) p
  let p := overAt hand (coverage (onAxis r ma 0 (len 1) (wid 1)) x y) p
  if f (.DT_D_SIZE, [i]) 17 17 = 0 then p
  else overAt (if alert then col 4 else col 3) (coverage (onAxis r (6 * s60) 0 (len 2) (wid 2)) x y) p

/-! ### Seven-segment dials (R319) -/

/-- The lit segments of a digit, as bits a to g from bit 0. -/
def segBits (d : Nat) : Nat :=
  [0b0111111, 0b0000110, 0b1011011, 0b1001111, 0b1100110, 0b1101101, 0b1111101, 0b0000111, 0b1111111, 0b1101111].getD d 0

/-- A point lies in segment j (a to g) of a digit cell of a dial of a size. -/
def inSegment (size : Rat) (j : Nat) (x y : Rat) : Bool :=
  let w := size / 2
  let t := size / 8
  let box (x0 x1 y0 y1 : Rat) : Bool := decide (x0 ≤ x) && decide (x < x1) && decide (y0 ≤ y) && decide (y < y1)
  match j with
  | 0 => box t (w - t) 0 t
  | 1 => box (w - t) w t (size / 2)
  | 2 => box (w - t) w (size / 2) (size - t)
  | 3 => box t (w - t) (size - t) size
  | 4 => box 0 t (size / 2) (size - t)
  | 5 => box 0 t t (size / 2)
  | _ => box t (w - t) (size / 2 - t / 2) (size / 2 + t / 2)

/-- The cells of a dial: digits, and none for a colon. -/
def segCells (c : Clock) (secs : Bool) : List (Option Nat) :=
  let two (n : Nat) : List (Option Nat) := [some (n / 10), some (n % 10)]
  two c.h ++ [none] ++ two c.m ++ (if secs then none :: two c.sec else [])

/-- A point lies in a lit part of the cells. -/
def inCells (size : Rat) : List (Option Nat) → Rat → Rat → Bool
  | [], _, _ => false
  | some d :: cs, x, y =>
    if x < size / 2 then (List.range 7).any fun j => nbit (segBits d) j && inSegment size j x y else inCells size cs (x - size / 2) y
  | none :: cs, x, y =>
    if x < size / 4 then
      let near (v c : Rat) : Bool := decide (c - size / 16 ≤ v) && decide (v < c + size / 16)
      near x (size / 8) && (near y (size / 3) || near y (2 * size / 3))
    else inCells size cs (x - size / 4) y

/-- A pixel of a seven-segment dial. -/
def segPixel (l : DtLatch) (i : Nat) (c : Clock) (alert : Bool) (x y : Nat) : Px :=
  let size : Rat := ((l.f (.DT_D_SIZE, [i]) 10 0 : Nat) : Rat)
  let col (j : Nat) := dtColour (l.rd (.DT_D_COL, [i, j]))
  let cells := segCells c (l.f (.DT_D_SIZE, [i]) 17 17 == 1)
  overAt (if alert then col 4 else col 1) (coverage (inCells size cells) x y) (col 0)

/-! ### Text strips (R321 to R323) -/

/-- The text entries of a strip, up to the end. -/
def stripText (l : DtLatch) (t : Nat) : List Nat :=
  ((List.range 64).flatMap fun e => let w := l.rd (.DT_S_TXT, [t, e]); [bits w 15 0, bits w 31 16]).takeWhile (· != 0xFFFF)

/-- The glyph slots of one entry (R321). -/
def entryGlyphs (base : Nat) (c : Clock) (frame e : Nat) : List Nat :=
  let two (n : Nat) := [base + n / 10 % 10, base + n % 10]
  let dt := dateOf c.days
  if e < 4096 then [e] else
  match e with
  | 0xF001 => two c.h
  | 0xF002 => two (if c.h % 12 = 0 then 12 else c.h % 12)
  | 0xF003 => two c.m
  | 0xF004 => two c.sec
  | 0xF005 => two frame
  | 0xF006 => two dt.2.2
  | 0xF007 => two dt.2.1
  | 0xF008 => two (dt.1 / 100) ++ two dt.1
  | 0xF009 => [base + 10 + (weekday c.days + 6) % 7]
  | 0xF00A => [base + 17 + (if c.h < 12 then 0 else 1)]
  | _ => []

/-- The glyphs of a strip in order, as they stand: slots up to 4,095. -/
def stripGlyphs (l : DtLatch) (t : Nat) (c : Clock) (frame : Nat) : List Nat :=
  ((stripText l t).flatMap (entryGlyphs (l.f (.DT_S_GLYPHS, [t]) 11 0) c frame)).filter (· < 4096)

/-- Width, height, advance and bearings of a glyph slot. -/
def State.glyph (s : State) (g : Nat) : Nat × Nat × Nat × Int × Int :=
  let d := s.rd (.DT_G_DIM, [g])
  (bits d 7 0, bits d 15 8, bits d 23 16, signed 8 (bits d 31 24), signed 8 (bits (s.rd (.DT_G_BY, [g])) 7 0))

/-- A slot reaches past 1 MiB (R323). -/
def State.glyphBeyond (s : State) (g : Nat) : Bool :=
  let d := s.glyph g
  d.1 != 0 && d.2.1 != 0 && decide (2 ^ 20 < s.get (F.DT_G_OFS_OFS g) + d.1 * d.2.1)

/-- The coverage byte of a glyph at a place of it. -/
def State.glyphByte (s : State) (g x y : Nat) : Nat :=
  (mget (fun _ => (0 : Byte)) s.glyphs (s.get (F.DT_G_OFS_OFS g) + y * (s.glyph g).1 + x)).toNat

/-- One minus the coverage of glyphs placed from a pen position on, at a pixel. -/
def State.uncovered (s : State) (baseline : Int) (x y : Int) : List Nat → Int → Rat
  | [], _ => 1
  | g :: gs, pen =>
    let d := s.glyph g
    let gx := x - (pen + d.2.2.2.1)
    let gy := y - (baseline - d.2.2.2.2)
    let here : Rat :=
      if 0 ≤ gx ∧ gx < (d.1 : Nat) ∧ 0 ≤ gy ∧ gy < (d.2.1 : Nat) ∧ !s.glyphBeyond g then
        1 - ((s.glyphByte g gx.toNat gy.toNat : Nat) : Rat) / 255
      else 1
    here * s.uncovered baseline x y gs (pen + (d.2.2.1 : Nat))

/-- The tally source of a strip is asserted (R322). -/
def tallied (l : DtLatch) (tally : Nat) : Bool :=
  if tally = 0 then false else if tally ≤ 32 then nbit l.gpi (tally - 1) else nbit (l.rd (.DT_SOFT_TALLY, [])).toNat (tally - 33)

/-- The colours in force of a strip: background and text (R317, R322). -/
def State.stripColours (s : State) (l : DtLatch) (t : Nat) : Px × Px :=
  let ctl : Key := (.DT_S_CTRL, [t])
  let alt := tallied l (l.f (.DT_S_GLYPHS, [t]) 22 16) || (s.alert (l.f ctl 4 3) && l.f ctl 11 10 == 1)
  let col (j : Nat) := dtColour (l.rd (.DT_S_COL, [t, j]))
  if alt then (col 2, col 3) else (col 0, col 1)

/-- A pixel of a strip (R322). -/
def State.stripPixel (s : State) (l : DtLatch) (t : Nat) (c : Clock) (frame x y : Nat) : Px :=
  let gs := stripGlyphs l t c frame
  let a : Int := ((gs.foldl (fun n g => n + (s.glyph g).2.2.1) 0 : Nat) : Int)
  let w : Int := ((l.f (.DT_S_SIZE, [t]) 13 0 : Nat) : Int)
  let pad : Int := ((l.f (.DT_S_LAYOUT, [t]) 12 0 : Nat) : Int)
  let pen := match l.f (.DT_S_CTRL, [t]) 2 1 with
    | 0 => pad
    | 1 => (w - a) / 2
    | _ => w - pad - a
  let u := s.uncovered ((l.f (.DT_S_LAYOUT, [t]) 22 16 : Nat) : Int) ((x : Nat) : Int) ((y : Nat) : Int) gs pen
  let cs := s.stripColours l t
  overAt cs.2 (1 - u) cs.1

/-! ### Items -/

/-- A pixel of item i as latched, at time t, as binary16 (R312). `frame` is the frame within the second. -/
def State.itemPixel (s : State) (l : DtLatch) (i : Nat) (t : Rat) (frame x y : Nat) : Px × Bool :=
  if i < 64 then
    let ctl : Key := (.DT_D_CTRL, [i])
    let scale := l.f ctl 2 1
    let c := s.clock l t scale (l.f ctl 7 3) (l.f (.DT_D_DELAY, [i]) 15 0)
    if l.f ctl 0 0 = 0 ∨ s.alertHides scale (l.f ctl 9 8) c.frac then (Px.zero, false) else
    let red := s.alert scale && l.f ctl 9 8 == 1
    halfPx (if l.f (.DT_D_SIZE, [i]) 16 16 = 0 then analogPixel l i c red x y else segPixel l i c red x y)
  else
    let n := i - 64
    let ctl : Key := (.DT_S_CTRL, [n])
    let scale := l.f ctl 4 3
    let c := s.clock l t scale (l.f ctl 9 5) (l.f (.DT_S_DELAY, [n]) 15 0)
    if l.f ctl 0 0 = 0 ∨ s.alertHides scale (l.f ctl 11 10) c.frac then (Px.zero, false)
    else halfPx (s.stripPixel l n c frame x y)

/-- Item i draws a glyph slot that reaches past 1 MiB (R323). -/
def State.itemBeyond (s : State) (l : DtLatch) (i : Nat) (t : Rat) (frame : Nat) : Bool :=
  if i < 64 then false else
  let n := i - 64
  let ctl : Key := (.DT_S_CTRL, [n])
  let c := s.clock l t (l.f ctl 4 3) (l.f ctl 9 5) (l.f (.DT_S_DELAY, [n]) 15 0)
  l.f ctl 0 0 == 1 && (stripGlyphs l n c frame).any s.glyphBeyond

/-- The time that head n shows while it composes frame f (R315). -/
def State.headTime (s : State) (n f : Nat) : Rat :=
  match s.raster n with
  | none => 0
  | some r => ((f : Nat) : Rat) * ((r.2.2.2 : Nat) : Rat) / ((r.2.2.1 : Nat) : Rat) +
      ((s.delay n r.1 : Nat) : Rat) * ((r.2.2.2 : Nat) : Rat) / (((r.1 * r.2.1 * r.2.2.1 : Nat)) : Rat)

/-- The frame within the second of time t on a rate N / D: the alignment points since that second began, less 1 (R321). -/
def frameInSecond (n d : Nat) (t : Rat) : Nat :=
  let sec := t.floor
  ((t * ((n : Nat) : Rat) / ((d : Nat) : Rat)).floor - (((sec : Int) : Rat) * ((n : Nat) : Rat) / ((d : Nat) : Rat)).ceil).toNat

end Sys2Proof.Machine
end

