-- ==== Sys2Proof/Machine/Fetch.lean ====
section
/-! DEFINITION. Fetching the lines of a head ahead of their display (R150, R157, R167, R175, R178): which bytes a line needs of each
layer and of the protected layer, the culled tiles that are left out (R233, R234), the errors met (R241, R493), and the fetch credit
(R239). -/

namespace Sys2Proof.Machine

/-! ### The fetch credit (R239) -/

/-- The credit of head n now: it grows at 1.001 times the reservation, and a budget for 16 rows is the most (R239). A tick is
2.5 ns, so the reservation gives a quarter of a byte a tick for each 0.1 GB/s. -/
def State.creditNow (s : State) (n : Nat) : Rat :=
  let h := s.head n
  min (s.creditCap n : Nat) (h.credit + 1001 / 4000 * ((s.get (F.HD_BW_RESERVE_RATE n) * (s.tick - h.creditAt) : Nat) : Rat))

/-- Bytes of granules fetched for head n: each granule debits the credit while there is any (R239). -/
def State.debit (s : State) (n bytes : Nat) : State :=
  s.updHead n fun h => { h with credit := max 0 (s.creditNow n - (bytes : Nat)), creditAt := s.tick }

/-! ### What a row of a layer is made of -/

/-- The unit of a line: its frame, or its field on interlaced and segmented rasters. -/
def unitOf (fmt f line : Nat) : Nat := 2 * f + b2n (interlaced fmt && decide (564 ≤ line))

/-- The buffer rows that output row y of a layer takes its samples from: those that it fetches (R229), the palette of format 0x6, and
for format 0x4 the even rows that carry the chroma rows beside them (R202). -/
def LayerDesc.dataRows (d : LayerDesc) (y : Nat) : List Nat :=
  let rows := d.needRows y
  let chroma := if d.fmt = 4 then rows.flatMap fun r => [-1, 0, 1].map fun (i : Int) =>
      2 * clampIdx (d.cropY / 2) ((d.cropY + d.cropH) / 2) (((r / 2 : Nat) : Int) + i) else []
  (rows ++ chroma ++ (if d.fmt = 6 then [d.srcH] else [])).eraseDups

/-- The first address of row `row` of plane `pl` of a layer that shows a buffer. -/
def State.planeRow (s : State) (d : LayerDesc) (b : Buffer) (pl row : Nat) : Nat :=
  if d.ingest then b.addr0 + (if d.pt then row % 64 else row) * s.ingestPitch d
  else if pl = 1 then b.addr1 + (if d.fmt = 4 then row / 2 else row) * d.pitch1
  else b.addr0 + row * d.pitch0

/-- The columns of a buffer that a line fetches (R227, R229): the visible ones that are not culled of a direct layer, else the crop. -/
def LayerDesc.fetchCols (d : LayerDesc) (g : Grid) (aw row : Nat) : List (Nat × Nat) :=
  if d.direct then
    let c := d.cols aw
    let bx := fun (x : Nat) => d.cropX + ((x : Int) - d.dstX).toNat
    (openRuns g (row / 64) c.2 256 c.1).map fun r => (bx r.1, bx r.2)
  else [(d.cropX, d.cropX + d.cropW)]

/-- The bytes of a run of columns in a row of b bits a pixel, in groups of g pixels: the first and the end (R228). -/
def runSpan (b g x0 x1 : Nat) : Nat × Nat := (x0 / g * g * b / 8, ceilDiv x1 g * g * b / 8)

/-- The byte ranges that the fetch of buffer row r reads, for runs of columns: plane by plane, address and length. -/
def State.rowRanges (s : State) (d : LayerDesc) (b : Buffer) (cols : List (Nat × Nat)) (r : Nat) : List (Nat × Nat) :=
  if d.fmt = 6 ∧ r = d.srcH then [(b.pal, 1024)] else
  let p := s.planes d
  let plane (pl : Nat) (q : Nat × Nat) := cols.map fun c =>
    let e := runSpan q.1 q.2 c.1 c.2
    (s.planeRow d b pl r + e.1, e.2 - e.1)
  plane 0 p.1 ++ (match p.2 with
    | some q => if d.fmt = 4 ∧ r % 2 = 1 then [] else plane 1 q
    | none => [])

/-- The granules that a range of bytes lies in: address and length (R228). -/
def granules (e : Nat × Nat) : Nat × Nat := (e.1 / 64 * 64, 64 * (ceilDiv (e.1 + e.2) 64 - e.1 / 64))

/-- The bytes of buffer row r: plane 0, then plane 1; those of the palette for row SRC_H. -/
def State.rowData (s : State) (d : LayerDesc) (b : Buffer) (r : Nat) : List Byte :=
  if d.fmt = 6 ∧ r = d.srcH then s.bytes b.pal 1024 else
  let p := s.planes d
  let w := if d.ingest then (rasterActive (s.srcRaster d).1).1 else d.srcW
  s.bytes (s.planeRow d b 0 r) (lineBytes p.1.1 w) ++ (match p.2 with
    | some q => if d.fmt = 4 ∧ r % 2 = 1 then [] else s.bytes (s.planeRow d b 1 r) (lineBytes q.1 w)
    | none => [])

/-- A passthrough row is complete in the ring, and belongs to the frame that is arriving (R178). -/
def State.ptReady (s : State) (n : Nat) (d : LayerDesc) (row : Nat) : Bool :=
  match s.raster n with
  | none => false
  | some r =>
    let e := mget (fun _ => (0, 0)) (s.flow d.vidKey).ring (row % 64)
    e.1 == row && decide (e.2 ≤ s.now) && decide (s.now < e.2 + sampleStart r (r.2.1 * r.1))

/-! ### Fetching -/

/-- Fetch one row of a layer in memory for a unit. `paid` says that the row is one of those that R229 counts. -/
def State.fetchRow (s : State) (n u : Nat) (d : LayerDesc) (b : Buffer) (cols : List (Nat × Nat)) (paid : Bool) (r : Nat) : State :=
  let k := n / 2
  if (s.layer k d.m).rows.any fun e => e.unit == u && e.row == r then s else
  let gs := (s.rowRanges d b cols r).map granules
  let here := !d.pt || s.ptReady n d r
  let row : FetchRow := ⟨u, r, if here then some (s.rowData d b r) else none, paid && gs.any fun g => s.badIn g.1 g.2⟩
  let s := s.updLayer k d.m fun l => { l with rows := l.rows ++ [row] }
  if paid then s.debit n ((gs.map (·.2)).foldl (· + ·) 0) else s

/-- Request one row of a host layer for a unit (R175). -/
def State.askRow (s : State) (n u : Nat) (d : LayerDesc) (b : Buffer) (cols : List (Nat × Nat)) (r : Nat) : State :=
  let k := n / 2
  let l := s.layer k d.m
  if s.hostDown d ∨ l.asked.contains (u, r) ∨ l.rows.any (fun e => e.unit == u && e.row == r) then s else
  let s := s.updLayer k d.m fun l => { l with asked := l.asked ++ [(u, r)] }
  (s.rowRanges d b cols r).foldl (fun s e => s.emit (.hostRead d.hostPf e.1 e.2 (d.f 1 16 16 == 0))) s

/-- Fetch what a layer needs for one line: row y of its rectangle. -/
def State.fetchLayer (s : State) (n u : Nat) (d : LayerDesc) (b : Buffer) (g : Grid) (row y : Nat) : State :=
  let cols := d.fetchCols g (rasterActive (s.fmt n)).1 row
  let need := d.needRows y
  if d.src = 4 ∨ cols = [] then s
  else if d.src = 1 then (d.dataRows y).foldl (fun s r => s.askRow n u d b cols r) s
  else (d.dataRows y).foldl (fun s r => s.fetchRow n u d b cols (need.contains r || (d.fmt == 6 && r == d.srcH)) r) s

/-- The row of the protected slot on screen that a frame row shows, with the slot's number (R254). -/
def State.plRow (s : State) (n row : Nat) : Option (Nat × Nat) :=
  let mode := s.plMode n
  let i := s.get (F.CE_PL_CSTAT_SHOWN (n / 2) (n % 2))
  let y : Int := ((row : Nat) : Int) - signed 16 (bits (s.pl n).place 31 16)
  if mode = 2 ∨ mode = 3 ∨ y < 0 ∨ ((s.slotGeom n i).2.2.1 : Nat) ≤ y then none else some (i, y.toNat)

/-- Fetch the row of the protected layer for a line (R231): its visible columns. `src` is the slot and row that it shows there, `x` its
left edge. -/
def State.fetchPl (s : State) (n u row : Nat) (src : Option (Nat × Nat)) (x : Int) : State :=
  match src with
  | none => s
  | some (i, y) =>
    let w := s.get (F.CE_PL_S_SIZE_W (n / 2) (n % 2) i)
    let c := visible x w (rasterActive (s.fmt n)).1
    if c.2 ≤ c.1 then s else
    let g := s.slotGeom n i
    let e := runSpan (8 * slotBpp (s.get (F.CE_PL_S_FMT_FMT (n / 2) (n % 2) i))) 1 ((c.1 : Int) - x).toNat ((c.2 : Int) - x).toNat
    let q := granules (g.1 + y * g.2.2.2 + e.1, e.2 - e.1)
    let r : FetchRow := ⟨u, row, some (s.bytes (g.1 + y * g.2.2.2) g.2.1), s.badIn q.1 q.2⟩
    (s.updHead n fun h => { h with plRows := h.plRows ++ [r] }).debit n q.2

/-- Fetch line l of frame f with the vintage to which it belongs (R157): before the boundary of its frame, that is the one which the
boundary will bring. -/
def State.fetchLine (s : State) (n f l : Nat) : State :=
  match activeRow (s.fmt n) l with
  | none => s
  | some row =>
    if (s.head n).fetched.contains (f, l) then s else
    let t := if (s.head n).bndNext ≤ f then (s.takeBoundary n f).1 else s
    let u := unitOf (s.fmt n) f l
    let s := s.updHead n fun h => { h with fetched := h.fetched ++ [(f, l)] }
    let s : State := match (t.head n).applied with
      | none => s
      | some c => c.blend.foldl (fun s d =>
          let y : Int := ((row : Nat) : Int) - d.dstY
          match (t.layer (n / 2) d.m).shown with
          | some (.buffer b) => if 0 ≤ y ∧ y < (d.dstH : Nat) then s.fetchLayer n u d b (c.grid d.m) row y.toNat else s
          | _ => s) s
    s.fetchPl n u row (t.plRow n row) (signed 16 (bits (t.pl n).place 15 0))

/-- At the start of line l of frame f the fetch of the line FETCH_LEAD lines on begins, where the head will show it (R150, R157): on a
head that waits for its first frame, from that frame on; on one that stops, up to its last. -/
def State.fetchAhead (s : State) (n f l : Nat) : State :=
  let h := s.head n
  let t := rasterT (s.fmt n)
  let x := l + s.get (F.HD_FETCH_LEAD_LINES n)
  let p := if t < x then (f + 1, x - t) else (f, x)
  let st := s.hst n
  let first := h.startFrame
  let waits := st == 1 || ((st == 4 || st == 5) && h.restart && !h.stopPending)
  if st = 2 ∨ (st = 3 ∧ p.1 ≤ h.stopFrame) ∨ (waits ∧ first ≤ p.1) then s.fetchLine n p.1 p.2 else s

end Sys2Proof.Machine
end

