-- ==== Sys2Proof/Machine/Output.lean ====
section
/-! DEFINITION. Composing a line of a head (R157, R176, R178, R213, R241) and rendering it for each destination (R164, R217 to
R221). -/

namespace Sys2Proof.Machine

/-! ### Layer pixels -/

/-- The bytes of a layer's buffer on head n for a unit: those of the rows that were fetched (R157), or whose host reads have
completed (R175). The palette counts as row SRC_H. -/
def State.sourceBytes (s : State) (n u : Nat) (d : LayerDesc) : RowBytes :=
  let rows := (s.layer (n / 2) d.m).rows
  let w := lineBytes (s.planes d).1.1 (if d.ingest then (rasterActive (s.srcRaster d).1).1 else d.srcW)
  fun pl row o =>
    let want := if pl = 2 then d.srcH else if pl = 1 ∧ d.fmt = 4 then 2 * row else row
    match rows.find? fun e => e.unit == u && e.row == want with
    | some e => ((e.data.getD []).getD (if pl = 1 then w + o else o) 0).toNat
    | none => 0

/-- The fill colour of a layer: its NaNs and infinities stand until the storage point of step 5 (R197, R205). -/
def LayerDesc.fillPx (d : LayerDesc) : NumPx :=
  let h := d.fill
  ⟨.ofHalf h.1, .ofHalf h.2.1, .ofHalf h.2.2.1, .ofHalf h.2.2.2⟩

/-- What a layer gives to one line: nothing, its fill colour, its last line, its own pixels, or transparent pixels where its fetch met
an uncorrectable error (R176, R178, R181, R241). -/
inductive LineKind where
  | hidden
  | fill
  | again
  | own
  | lost
  deriving DecidableEq, Repr

/-- What layer d of head n gives to row y of its rectangle, on a picture row of a unit; and whether the line counts as late. -/
def State.lineKind (s : State) (n u row : Nat) (d : LayerDesc) (g : Grid) (y : Nat) (w : LineFaults) : LineKind × Bool :=
  let l := s.layer (n / 2) d.m
  let find (r : Nat) : Option FetchRow := l.rows.find? fun e => e.unit == u && e.row == r
  let there (r : Nat) : Bool := (find r).any fun e => e.data.isSome
  let need := d.needRows y ++ (if d.fmt = 6 then [d.srcH] else [])
  match l.shown with
  | none => (.hidden, false)
  | some .fill => (.fill, false)
  | some (.buffer _) =>
    if d.src = 4 then (if w.items.contains d.index then .hidden else .own, false)
    else if d.src = 1 then
      if !s.hostDown d && (d.fetchCols g (rasterActive (s.fmt n)).1 row == [] || (d.dataRows y).all there) then (.own, false)
      else (match d.late with
        | 1 => .fill
        | 2 => if l.prevLine.isSome then .again else .hidden
        | _ => .hidden, true)
    else if d.fetchCols g (rasterActive (s.fmt n)).1 row = [] then (.own, false)
    else if d.pt && !need.all there then (if d.notReady = 2 then .fill else .hidden, true)
    else if w.hbm.contains d.m || need.any (fun r => (find r).any (·.bad)) then (.lost, false)
    else (.own, false)

/-- The DELAY word of an item as latched. -/
def State.itemDelay (s : State) (n i : Nat) : Nat :=
  if i < 64 then (s.dt n).f (.DT_D_DELAY, [i]) 15 0 else (s.dt n).f (.DT_S_DELAY, [i - 64]) 15 0

/-- The frame within the second that item i shows on frame f of head n (R321): that of the time shown, its DELAY included. -/
def State.itemFrame (s : State) (n f i : Nat) : Nat :=
  let r := (s.raster n).getD (0, 0, 1, 1)
  frameInSecond r.2.2.1 r.2.2.2 (s.headTime n f + ((signed 16 (s.itemDelay n i) : Int) : Rat) / 1000)

/-- A pixel of a layer's buffer at the end of step 3, or of its item (R205, R312). -/
def State.bufferPixel (s : State) (n f u : Nat) (d : LayerDesc) (row col : Nat) : Px × Bool :=
  if d.src = 4 then s.itemPixel (s.dt n) d.index (s.headTime n f) (s.itemFrame n f d.index) col row
  else workPixel d (s.srcSampling d).1 (s.srcSampling d).2 (s.sourceBytes n u d) row col

/-- Pixel x of row y of a layer's rectangle, at the end of step 4. -/
def State.layerPixel (s : State) (n f u : Nat) (d : LayerDesc) (w : LineFaults) (x y : Nat) : Px × Bool :=
  if w.pixels.contains (d.m, x) then (Px.zero, false) else s.scalePixel (n / 2) d w.coefs (s.bufferPixel n f u d) x y

/-- What enters step 5 for the line of a layer: a colour over its rectangle, or a value for each of its columns. -/
inductive LineSrc where
  | flat (c : NumPx)
  | pixels (ps : List (Px × Bool))

/-- The line of a layer over its rectangle; none where it is skipped (R214). -/
def State.layerLine (s : State) (n f u : Nat) (d : LayerDesc) (w : LineFaults) (y : Nat) (kind : LineKind) : Option LineSrc :=
  match kind with
  | .hidden => none
  | .fill => some (.flat d.fillPx)
  | .again => (s.layer (n / 2) d.m).prevLine.map fun l => .pixels (l.map fun p => (p, false))
  | .own => some (.pixels ((List.range d.dstW).map fun x => s.layerPixel n f u d w x y))
  | .lost => some (.flat (numOf Px.zero))

/-- A layer of a line: its descriptor and line, the tiles in which it is culled, the columns that its fetch missed, and whether it is
late, shows its own pixels, or lost them. -/
structure LineLayer where
  d : LayerDesc
  line : Option LineSrc
  grid : Grid
  missing : List (Nat × Nat)
  late : Bool
  own : Bool
  lost : Bool

/-- HBM is at full rate (R20, R454). -/
def State.hbmFull (s : State) : Bool := !s.ps.gated.contains 8

/-- The columns that the fetch of a layer misses on a line. An admitted head misses none while HBM is at full rate (R240). -/
def State.missCols (s : State) (w : LineFaults) (m : Nat) : List (Nat × Nat) :=
  if s.hbmFull then [] else w.underrun.filterMap fun e => if e.1 = m ∧ e.2.1 < e.2.2 then some e.2 else none

/-- The layers of head n on frame row y, bottom first: those whose rectangle meets the row. -/
def State.lineLayers (s : State) (n f line row : Nat) (w : LineFaults) : List LineLayer :=
  match (s.head n).applied with
  | none => []
  | some c =>
    let u := unitOf (s.fmt n) f line
    c.blend.filterMap fun d =>
      let y : Int := ((row : Nat) : Int) - d.dstY
      if 0 ≤ y ∧ y < (d.dstH : Nat) then
        let g := c.grid d.m
        let k := s.lineKind n u row d g y.toNat w
        some ⟨d, s.layerLine n f u d w y.toNat k.1, g, if d.src = 1 ∨ d.src = 4 then [] else s.missCols w d.m, k.2, decide (k.1 = .own), decide (k.1 = .lost)⟩
      else none

/-! ### The protected layer (R254) -/

/-- The slot descriptor of a protected layer, as a layer descriptor would have it. -/
def State.slotColour (s : State) (n i : Nat) : InColour :=
  let k := n / 2
  let h := n % 2
  ⟨0, s.get (F.CE_PL_S_FMT_TRANSFER k h i), s.get (F.CE_PL_S_FMT_PRIMARIES k h i), Config.slotFullRange, s.flag (F.CE_PL_S_FMT_PREMULT k h i)⟩

/-- The fetched row of the protected layer for a picture row of a unit. -/
def State.plFetched (s : State) (n u row : Nat) : Option FetchRow := (s.head n).plRows.find? fun e => e.unit == u && e.row == row

/-- The row of the protected layer met an uncorrectable error (R241). -/
def State.plLost (s : State) (n u row : Nat) (w : LineFaults) : Bool :=
  (s.plFetched n u row).any fun e => e.bad || w.hbm.contains 32

/-- The protected layer's pixel at a place of the picture; none where it shows nothing. -/
def State.plPixel (s : State) (n u x y : Nat) (w : LineFaults) : Option (Px × Bool) :=
  let k := n / 2
  let h := n % 2
  let mode := s.plMode n
  let i := s.get (F.CE_PL_CSTAT_SHOWN k h)
  let g := s.slotGeom n i
  let px : Int := ((x : Nat) : Int) - signed 16 (bits (s.pl n).place 15 0)
  let py : Int := ((y : Nat) : Int) - signed 16 (bits (s.pl n).place 31 16)
  if mode = 3 ∨ px < 0 ∨ py < 0 ∨ (s.get (F.CE_PL_S_SIZE_W k h i) : Nat) ≤ px ∨ (g.2.2.1 : Nat) ≤ py then none
  else if mode = 2 then some (⟨18 / 100, 18 / 100, 18 / 100, 1⟩, false)
  else if s.plLost n u y w ∨ (s.missCols w 32).any fun e => decide ((e.1 : Nat) ≤ px) && decide (px < (e.2 : Nat)) then none
  else
    let d : LayerDesc := ⟨0, [w32 (s.get (F.CE_PL_S_FMT_FMT k h i) * 4)]⟩
    let data := ((s.plFetched n u y).bind (·.data)).getD []
    let v := unpack d (s.slotColour n i) 0 false (fun _ _ o => (data.getD o 0).toNat) 0 px.toNat
    let c := inputColour (s.slotColour n i) v.1
    some (c.1, v.2 || c.2)

/-! ### The composed line -/

/-- The background of a set (R213). -/
def CommitSet.background (c : Option CommitSet) : NumPx :=
  let w (i : Nat) : Word := (c.map fun c => c.oc.getD i 0).getD 0
  ⟨.ofHalf (bits (w 0) 15 0), .ofHalf (bits (w 0) 31 16), .ofHalf (bits (w 1) 15 0), .fin 1⟩

/-- A layer over a pixel of the picture, where its rectangle holds the column and its tile is not culled (R213, R214, R233). -/
def LineLayer.over (l : LineLayer) (x y : Nat) (p : NumPx × Bool) : NumPx × Bool :=
  let c : Int := ((x : Nat) : Int) - l.d.dstX
  match l.line with
  | none => p
  | some src =>
    if c < 0 ∨ (l.d.dstW : Nat) ≤ c ∨ l.grid.at' (x / 64) (y / 64) then p else
    let q : NumPx × Bool := match src with
      | .flat c => (c, false)
      | .pixels ps => let e := ps.getD c.toNat (Px.zero, false); (numOf e.1, e.2)
    let q := if l.missing.any fun e => decide ((e.1 : Nat) ≤ c) && decide (c < (e.2 : Nat)) then ((numOf Px.zero), false) else q
    let r := blendNum l.d.mode (((l.d.alpha : Nat) : Rat) / 65535) q.1 p.1
    (r.1, p.2 || q.2 || r.2)

/-- The composed pixel of a place of the picture (R213 to R215). -/
def State.composePixel (s : State) (n u x y : Nat) (w : LineFaults) (ls : List LineLayer) : Px × Bool :=
  let p := ls.foldl (fun p l => l.over x y p) (CommitSet.background (s.head n).applied, false)
  let q : NumPx × Bool := match s.plPixel n u x y w with
    | some c => ((blendNum 0 1 (numOf c.1) p.1).1, p.2 || c.2)
    | none => p
  let r := q.1.composed
  (r.1, q.2 || r.2)

/-! ### Output colour (R217 to R221) -/

/-- The output colour settings of a destination in a set: its CTRL and GAIN words. -/
def CommitSet.outWords (c : Option CommitSet) (d : Nat) : Word × Word :=
  match c with
  | some c => (c.oc.getD (2 + 2 * d) 0, c.oc.getD (3 + 2 * d) 0)
  | none => (resetVal (.CE_OC_D_CTRL, [0, 0, d]), resetVal (.CE_OC_D_GAIN, [0, 0, d]))

/-- The BT.2020-to-BT.709 matrix of R217. -/
def gamutOut : Mat :=
  ((1660491 / 1000000, -587641 / 1000000, -72850 / 1000000), (-124550 / 1000000, 1132900 / 1000000, -8349 / 1000000),
    (-18151 / 1000000, -100579 / 1000000, 1118730 / 1000000))

/-- Step 6c (R217), and whether its clamp changes the pixel; COMPRESS is none. `co` holds the luminance coefficients. -/
def gamutMap (compress : Bool) (co p : Rat × Rat × Rat) : (Rat × Rat × Rat) × Bool :=
  if !compress then ((max p.1 0, max p.2.1 0, max p.2.2 0), decide (p.1 < 0) || decide (p.2.1 < 0) || decide (p.2.2 < 0)) else
  let y := dot co p
  if y ≤ 0 then ((0, 0, 0), false)
  else
    let t (c : Rat) : Rat := if c < 0 then -c / (y - c) else 0
    let m := max (t p.1) (max (t p.2.1) (t p.2.2))
    let f (c : Rat) : Rat := y + (c - y) * (1 - m)
    ((f p.1, f p.2.1, f p.2.2), false)

/-- Step 6d (R217), and whether its clamp changes the pixel; KNEE is none. -/
def toneLimit (knee : Bool) (k : Rat) (p : Rat × Rat × Rat) : (Rat × Rat × Rat) × Bool :=
  let m := max p.1 (max p.2.1 p.2.2)
  let q := if knee ∧ k < m then scale3 ((k + (1 - k) * (m - k) / ((m - k) + (1 - k))) / m) p else p
  let a := clampQ 0 1 q.1
  let b := clampQ 0 1 q.2.1
  let c := clampQ 0 1 q.2.2
  ((a.1, b.1, c.1), a.2 || b.2 || c.2)

/-- Step 6e for a component, but for HLG (R217). -/
def encode1 (oetf : Nat) (l : Rat) : Rat :=
  match oetf with
  | 1 =>
    let y := powQ (min (203 * l) 10000 / 10000) pqM1
    powQ ((pqC1 + pqC2 * y) / (1 + pqC3 * y)) pqM2
  | 3 => if l ≤ 31308 / 10000000 then 1292 / 100 * l else 1055 / 1000 * powQ l (5 / 12) - 55 / 1000
  | _ => powQ l (5 / 12)

/-- Step 6e (R217). -/
def encodeOut (oetf : Nat) (p : Rat × Rat × Rat) : (Rat × Rat × Rat) × Bool :=
  if oetf ≠ 2 then ((encode1 oetf p.1, encode1 oetf p.2.1, encode1 oetf p.2.2), oetf == 1 && (decide (10000 < 203 * p.1) || decide (10000 < 203 * p.2.1) || decide (10000 < 203 * p.2.2)))
  else
    let f (l : Rat) : Rat := min (203 * l / 1000) 1
    let q := (f p.1, f p.2.1, f p.2.2)
    let y := dot (2627 / 10000, 6780 / 10000, 593 / 10000) q
    let e (c : Rat) : Rat × Bool := if y = 0 then (0, false) else clampQ 0 1 (c / powQ y (1 / 6))
    let v (c : Rat) : Rat := if c ≤ 1 / 12 then powQ (3 * c) (1 / 2) else hlgA * lnQ (12 * c - hlgB) + hlgC
    ((v (e q.1).1, v (e q.2.1).1, v (e q.2.2).1),
      (e q.1).2 || (e q.2.1).2 || (e q.2.2).2 || decide (1000 < 203 * p.1) || decide (1000 < 203 * p.2.1) || decide (1000 < 203 * p.2.2))

/-- Steps 6a to 6f: R'G'B', or Y', Cb, Cr (R217, R218). -/
def outColour (w : Word × Word) (p : Px) : (Rat × Rat × Rat) × Bool :=
  let g := (ofHalf (bits w.2 15 0)).1
  let a := (p.r * g, p.g * g, p.b * g)
  let prim709 := bits w.1 0 0 == 1
  let b := if prim709 then gamutOut.app a else a
  let co : Rat × Rat × Rat := if prim709 then (2126 / 10000, 7152 / 10000, 722 / 10000) else (2627 / 10000, 6780 / 10000, 593 / 10000)
  let c := gamutMap (bits w.1 8 8 == 1) co b
  let oetf := bits w.1 3 1
  let d := if oetf = 0 ∨ oetf = 3 then toneLimit (bits w.1 9 9 == 1) (((bits w.1 23 16 : Nat) : Rat) / 256) c.1 else (c.1, false)
  let e := encodeOut oetf d.1
  let v := e.1
  let flag := c.2 || d.2 || e.2
  match bits w.1 5 4 with
  | 0 => (v, flag)
  | m =>
    let k := krkb (if m = 1 then 1 else 3)
    let y := k.1 * v.1 + (1 - k.1 - k.2) * v.2.1 + k.2 * v.2.2
    ((y, (v.2.2 - y) / (2 * (1 - k.2)), (v.1 - y) / (2 * (1 - k.1))), flag)

/-- Horizontal chroma subsampling at luma sample 2j (R218). -/
def subsample (c : List Rat) (j : Nat) : Rat :=
  let at_ (i : Int) : Rat := c.getD (clampIdx 0 c.length i) 0
  let x : Int := ((2 * j : Nat) : Int)
  (-(at_ (x - 3)) + 9 * at_ (x - 1) + 16 * at_ x + 9 * at_ (x + 1) - at_ (x + 3)) / 32

/-- The threshold matrix of R220. -/
def ditherM (y x : Nat) : Nat :=
  ([[0, 8, 2, 10], [12, 4, 14, 6], [3, 11, 1, 9], [15, 7, 13, 5]].getD (y % 4) []).getD (x % 4) 0

/-- One shift of the noise register (R220). -/
def lfsrShift (w : Nat) : Nat := if w % 2 = 1 then Nat.xor (w / 2) 0x80200003 else w / 2

/-- One draw: eight shifts, and bits 7 to 0. -/
def lfsrDraw (w : Nat) : Nat × Nat :=
  let v := (List.range 8).foldl (fun a _ => lfsrShift a) w
  (v % 256, v)

/-- Steps 6h and 6j of a destination: depth, FULL_RANGE, LEGAL, SDI. -/
structure OutFmt where
  n : Nat
  full : Bool
  legal : Bool
  sdi : Bool

/-- Step 6h (R219). -/
def OutFmt.scale (o : OutFmt) (chroma : Bool) (v : Rat) : Rat :=
  if o.full then (if chroma then ((2 ^ o.n - 1 : Nat) : Rat) * v + ((2 ^ (o.n - 1) : Nat) : Rat) else ((2 ^ o.n - 1 : Nat) : Rat) * v)
  else
    let k : Rat := ((2 ^ (o.n - 8) : Nat) : Rat)
    if chroma then 224 * k * v + 128 * k else 219 * k * v + 16 * k

/-- Step 6j (R221). -/
def OutFmt.limit (o : OutFmt) (chroma : Bool) (d : Int) : Int :=
  let a := clampI 0 ((2 ^ o.n - 1 : Nat) : Int) d
  let b := if o.sdi then clampI 4 1019 a else a
  let k : Int := ((2 ^ (o.n - 8) : Nat) : Int)
  if !o.full && o.legal then clampI (16 * k) ((if chroma then 240 else 235) * k) b else b

/-- A sample that a destination sends, in the order of packing: component, index in it, pixel column, chroma, and value. -/
structure Sample where
  comp : Nat
  x : Nat
  col : Nat
  chroma : Bool
  v : Rat

/-- Step 6i and 6j on the samples of a line in packing order (R220, R221): the codes, the columns of those that were clamped, and
the noise register after them. `slip` tells how far the device is from each exact code (R198). -/
def quantise (o : OutFmt) (mode line f : Nat) (slip : Nat → Nat) : List Sample → Nat → Nat → List Nat × List Nat × Nat
  | [], _, reg => ([], [], reg)
  | p :: ps, i, reg =>
    let v := o.scale p.chroma p.v
    let m : Rat := ((ditherM line p.x : Nat) : Rat)
    let a := lfsrDraw reg
    let b := lfsrDraw a.2
    let add : Rat := match mode with
      | 0 => 1 / 2
      | 1 => (m + 1 / 2) / 16
      | 2 => ((((ditherM line p.x + 4 * (f % 4)) % 16 : Nat) : Rat) + 1 / 2) / 16
      | _ => 1 / 2 + (((a.1 + b.1 : Nat) : Rat) - 255) / 256
    let d := (v + add).floor
    let off : Int := ((slip i % 3 : Nat) : Int) - 1
    let c := o.limit p.chroma (o.limit p.chroma d + off)
    let r := quantise o mode line f slip ps (i + 1) (if mode = 3 then b.2 else reg)
    (c.toNat :: r.1, if o.limit p.chroma d = d then r.2.1 else p.col :: r.2.1, r.2.2)

/-- The structure of a destination: 0 for 4:4:4 or R'G'B', 1 for 4:2:2, 2 for 4:2:0. -/
def State.structure' (s : State) (n d : Nat) : Nat :=
  match d with
  | 0 => 1
  | 1 => if s.get (F.HD_DEST_DP_ENC n) = 2 then 1 else if s.get (F.HD_DEST_DP_ENC n) = 3 then 2 else 0
  | _ => if s.get (F.HD_DEST_ST_SAMPLING n) = 0 then 1 else 0

/-- The depth of a destination (R219). -/
def State.outDepth (s : State) (n d : Nat) : Nat :=
  match d with
  | 0 => 10
  | 1 => if s.flag (F.HD_DEST_DP_BPC10 n) then 10 else 8
  | _ => if s.flag (F.HD_DEST_ST_DEPTH12 n) then 12 else 10

/-- The samples of a line in packing order, from the pixels' components (R218, R222). `ycc` says that the components are Y',
Cb, Cr. 4:2:0 sends the chroma of an even frame row under the DisplayPort packing: Cb with that row, and its Cr, `held`, with
the row after it (log 80). -/
def packSamples (struct : Nat) (ycc : Bool) (row : Nat) (held : List Rat) (vs : List (Rat × Rat × Rat)) : List Sample :=
  let c0 := vs.map (·.1)
  let c1 := vs.map (·.2.1)
  let c2 := vs.map (·.2.2)
  let at_ (c : List Rat) (x : Nat) := c.getD x 0
  if struct = 0 then
    (List.range vs.length).flatMap fun x =>
      if ycc then [⟨1, x, x, true, at_ c1 x⟩, ⟨0, x, x, false, at_ c0 x⟩, ⟨2, x, x, true, at_ c2 x⟩]
      else [⟨0, x, x, false, at_ c0 x⟩, ⟨1, x, x, false, at_ c1 x⟩, ⟨2, x, x, false, at_ c2 x⟩]
  else
    (List.range (vs.length / 2)).flatMap fun j =>
      let y0 : Sample := ⟨0, 2 * j, 2 * j, false, at_ c0 (2 * j)⟩
      let y1 : Sample := ⟨0, 2 * j + 1, 2 * j + 1, false, at_ c0 (2 * j + 1)⟩
      if struct = 1 then [⟨1, j, 2 * j, true, subsample c1 j⟩, y0, ⟨2, j, 2 * j, true, subsample c2 j⟩, y1]
      else if row % 2 = 0 then [y0, y1, ⟨1, j, 2 * j, true, subsample c1 j⟩]
      else [y0, y1, ⟨2, j, 2 * j, true, at_ held j⟩]

/-- The Cr that an even row holds for the row after it. -/
def heldChroma (vs : List (Rat × Rat × Rat)) : List Rat := (List.range (vs.length / 2)).map fun j => subsample (vs.map (·.2.2)) j

/-- Destination d of head n is enabled. -/
def State.destOn (s : State) (n d : Nat) : Bool :=
  match d with
  | 0 => s.flag (F.HD_DEST_SDI_EN n)
  | 1 => s.flag (F.HD_DEST_DP_EN n)
  | _ => s.flag (F.HD_DEST_ST_EN n)

/-- Destination d of head n carries video now: its link works (R162, R429). Frames of a queue whose port is down are discarded
there (R365). -/
def State.destUp (s : State) (n d : Nat) : Bool :=
  let h := s.head n
  match d with
  | 0 => !h.sdiFail && !h.sdiReset
  | 1 => !h.dpDown
  | _ => true

/-- The places of a list whose flag is set. -/
def changedCols {α : Type} (l : List (α × Bool)) : List Nat := l.zipIdx.filterMap fun e => if e.1.2 then some e.2 else none

/-- The octets of codes of n bits, the first in the highest bits: the pgroups of a row (R222). -/
def packOctets (n : Nat) (codes : List Nat) : List Byte :=
  bytesBE (codes.length * n / 8) (codes.foldl (fun a c => a * 2 ^ n + c) 0)

/-- The ST 2110-20 packer of head n will take a row when its line ends (R353). -/
def State.holdRow (s : State) (n d row : Nat) (codes : List Nat) : State :=
  if d = 2 then s.updHead n fun h => { h with row := some (row, packOctets (s.outDepth n 2) codes) } else s

/-! ### Links of a destination (R161, R162) -/

/-- The interface of an SDI destination (R161). -/
def sdiIface (fmt rate : Nat) (q3g : Bool) : SdiIface :=
  if fmt = 6 then .g12
  else if fmt = 5 then (if rate ≤ 4 then .g6 else if rate ≤ 9 then (if q3g then .g3 else .g12) else .g12)
  else if fmt = 4 then (if rate ≤ 4 then .hd else if rate ≤ 9 then .g3 else .g6)
  else .hd

/-- Groups of k members; the last one may be shorter. -/
def groupsOf {α : Type} (k : Nat) : Nat → List α → List (List α)
  | 0, _ => []
  | fuel + 1, l => if l.isEmpty ∨ k = 0 then [] else l.take k :: groupsOf k fuel (l.drop k)

/-- The words of the groups of two pixels whose number has a parity. -/
def pairWords (words : List Nat) (odd : Nat) : List Nat :=
  ((groupsOf 4 words.length words).zipIdx.filter fun e => e.2 % 2 == odd).flatMap (·.1)

/-- What a link of an SDI group carries of an active row of words: sub-image, row of it, words (R161, log 81). Two-sample interleave
gives the sub-images 0 and 1 the even rows and 2 and 3 the odd rows; a dual link carries two sub-images on each link. -/
def sdiShare (links : Nat) (square : Bool) (h row : Nat) (words : List Nat) (link : Nat) : List (Nat × Nat × List Nat) :=
  let n := words.length
  match links with
  | 0 => [(0, row, words)]
  | 1 => if row % 2 = link then [(2 * link, row / 2, pairWords words 0), (2 * link + 1, row / 2, pairWords words 1)] else []
  | _ =>
    if square then
      (if link / 2 = b2n (decide (h / 2 ≤ row)) then [(link, row % (h / 2), if link % 2 = 0 then words.take (n / 2) else words.drop (n / 2))] else [])
    else if row % 2 = link / 2 then [(link, row / 2, pairWords words (link % 2))] else []

/-- Drop or repeat words of a line (R24): k counts them twice, odd to repeat. -/
def slipWords (e : Nat × Nat) (words : List Nat) : List Nat :=
  if e.1 % 2 = 0 then words.take e.2 ++ words.drop (e.2 + e.1 / 2) else words.take e.2 ++ (words.drop e.2).take (e.1 / 2) ++ words.drop e.2

/-- What a destination sends of a line: until it recentres, samples are dropped or repeated (R24). -/
def State.slipped (s : State) (n d f line : Nat) (words : List Nat) : List Nat :=
  if d ∈ (s.head n).fifoOut then slipWords (Config.fifoSlip n d f line) words else words

/-- The SDI drivers of head n send: always while it composes or shows the safe picture, else unless SDI_OFF is set (R164). -/
def State.sdiSends (s : State) (n : Nat) : Bool :=
  let st := s.hst n
  s.destOn n 0 && s.destUp n 0 && (st == 2 || st == 3 || st == 4 || !s.flag (F.HD_IDLE_SDI_OFF n))

/-- A line on the SDI outputs of head n: TRS, payload ID and line CRC, and an active row where the line has one (R161, R164). -/
def State.sdiLine (s : State) (n f line : Nat) (active : Option (Nat × List Nat)) : State :=
  if !s.sdiSends n then s else
  let t := s.onLast n
  let links := s.get (F.HD_DEST_SDI_LINKS n)
  (s.sdos n).zipIdx.foldl (fun s e =>
    s.emit (.sdi n e.1 line (sdiIface (t.fmt n) (t.rate n) (s.flag (F.HD_DEST_SDI_Q3G n))) (rateFamily (t.rate n) == 2398 || rateFamily (t.rate n) == 2997)
      (Config.payloadId (t.fmt n) (t.rate n) links e.2)
      ((active.map fun a => sdiShare links (s.flag (F.HD_DEST_SDI_DIV n)) (rasterActive (t.fmt n)).2 a.1 (s.slipped n 0 f line a.2) e.2).getD []))) s

/-- An active row on the DisplayPort port of head n (R162). -/
def State.dpLine (s : State) (n f line : Nat) (codes : List Nat) : State :=
  let r := (s.raster n).getD (0, 0, 1, 1)
  let a := rasterActive (s.fmt n)
  s.emit (.dp n (s.get (F.HD_DEST_DP_PORT n)) line (r.1, r.2.1, a.1, a.2) (s.get (F.HD_DEST_DP_ENC n)) (s.outDepth n 1) (s.slipped n 1 f line codes))

/-- An active row of codes in packing order goes to a destination of head n. -/
def State.sendRow (s : State) (n d f line row : Nat) (codes : List Nat) : State :=
  match d with
  | 0 => s.sdiLine n f line (some (row, codes))
  | 1 => s.dpLine n f line codes
  | _ => s.holdRow n 2 row (s.slipped n 2 f line codes)

/-- Render a composed line for one destination (R217 to R222); the columns that a clamp changed. -/
def State.renderDest (s : State) (n f line row : Nat) (ps : List Px) (d : Nat) : State × List Nat :=
  if !(s.destOn n d && s.destUp n d) then (s, []) else
  let w := CommitSet.outWords (s.head n).applied d
  let vs := ps.map (outColour w)
  let o : OutFmt := ⟨s.outDepth n d, bits w.1 6 6 == 1, bits w.1 7 7 == 1, d == 0⟩
  let struct := s.structure' n d
  let held := mget (fun _ => ([] : List Rat)) (s.head n).chroma (row / 2)
  let samples := packSamples struct (bits w.1 5 4 != 0) row held (vs.map (·.1))
  let q := quantise o (bits w.1 11 10) line f (Config.codeSlip n d f line) samples 0 (mget (fun _ => (0 : Word)) (s.head n).noise d).toNat
  let s := if struct = 2 then s.updHead n fun h => { h with
      chroma := nput (fun _ => ([] : List Rat)) h.chroma (row / 2) (if row % 2 = 0 then heldChroma (vs.map (·.1)) else []) } else s
  let s := s.updHead n fun h => { h with noise := nput (fun _ => (0 : Word)) h.noise d (w32 q.2.2) }
  (s.sendRow n d f line row q.1, changedCols vs ++ q.2.1)

/-- Load the noise registers at line 1 (R220). -/
def State.loadNoise (s : State) (n f : Nat) : State :=
  s.updHead n fun h => { h with noise := [0, 1, 2].foldl (fun m d =>
    let v := Nat.xor (Nat.xor (f % 2 ^ 32) (n % 2 * 2 ^ 24)) (d * 2 ^ 20)
    nput (fun _ => (0 : Word)) m d (if v = 0 then 1 else w32 v)) h.noise }

/-! ### Flat lines (R164) -/

/-- The safe colour on a destination (R70, R164): Y, Cb, Cr or R, G, B codes. -/
def State.safeCodes (s : State) (n d : Nat) : Nat × Nat × Nat :=
  let direct := d = 0 ∨ (d = 2 ∧ !s.flag (F.HD_DEST_ST_DEPTH12 n) ∧ s.get (F.HD_DEST_ST_SAMPLING n) = 0)
  if direct then (s.get (F.HD_SAFE_Y n), s.get (F.HD_SAFE_CB n), s.get (F.HD_SAFE_CR n))
  else
    let c := Config.safePixel d (if d = 1 then s.get (F.HD_DEST_DP_ENC n) else s.get (F.HD_DEST_ST_SAMPLING n))
      (decide (8 < s.outDepth n d) && d == 1 || s.flag (F.HD_DEST_ST_DEPTH12 n) && d == 2) (s.rd (.HD_SAFE, [n]))
    (c.getD 0 0, c.getD 1 0, c.getD 2 0)

/-- The codes of a flat row in packing order (R218, R222). -/
def flatCodes (struct : Nat) (ycc : Bool) (row w : Nat) (c : Nat × Nat × Nat) : List Nat :=
  if struct = 1 then (List.replicate (w / 2) [c.2.1, c.1, c.2.2, c.1]).flatten
  else if struct = 2 then (List.replicate (w / 2) [c.1, c.1, if row % 2 = 0 then c.2.1 else c.2.2]).flatten
  else (List.replicate w (if ycc then [c.2.1, c.1, c.2.2] else [c.1, c.2.1, c.2.2])).flatten

/-- A destination carries Y'CbCr. -/
def State.carriesYcc (s : State) (n d : Nat) : Bool :=
  match d with
  | 0 => true
  | 1 => s.get (F.HD_DEST_DP_ENC n) != 0
  | _ => s.get (F.HD_DEST_ST_SAMPLING n) != 2

/-- The active line of a head that composes nothing: safe picture in SAFE, black on SDI in STARTING, HELD and STOPPED. -/
def State.flatLine (s : State) (n f line row : Nat) : State :=
  let w := (rasterActive ((s.onLast n).fmt n)).1
  if s.hst n = 4 then
    [0, 1, 2].foldl (fun s d =>
      if s.destOn n d && s.destUp n d then
        s.sendRow n d f line row (flatCodes (s.structure' n d) (s.carriesYcc n d) row w (s.safeCodes n d))
      else s) s
  else s.sdiLine n f line (some (row, flatCodes 1 true row w (64, 512, 512)))

/-! ### A line -/

/-- Account for what became of the layers of a line (R176, R178, R241, R323, R326). -/
def State.countLine (s : State) (n f : Nat) (ls : List LineLayer) (plLost : Bool) (w : LineFaults) : State :=
  let k := n / 2
  let late := ls.filter (·.late)
  let s := late.foldl (fun s l => s.count (F.CE_L_LATE_LINES_COUNT k l.d.m) 1) s
  let s := if (late.any fun l => l.d.src == 1) ∧ !(s.head n).hostLate then
    (s.updHead n fun h => { h with hostLate := true }).raise (0x085 + 8 * n) n else s
  let s := ls.foldl (fun s l => match l.line with
    | some (.pixels ps) => if l.own ∧ l.d.src = 1 then s.updLayer k l.d.m fun x => { x with prevLine := some (ps.map (·.1)) } else s
    | _ => s) s
  let s := if (ls.any fun l => l.own && l.missing != []) ∨ (s.plMode n < 2 ∧ s.missCols w 32 ≠ []) then
    ((s.count (F.CE_UNDERRUN_COUNT k (n % 2)) 1).latch (ceB k) (2 ^ (8 + n % 2))).raise (0x108 + k) k ⟨0, n⟩ else s
  let s := (List.range ((ls.filter (·.lost)).length + b2n plLost)).foldl (fun s _ =>
    ((s.count (F.CE_HBM_ERR_COUNT k (n % 2)) 1).latch (ceB k) (2 ^ 10)).raise (0x110 + k) k ⟨0, n⟩) s
  let beyond := ls.any fun l => l.own && l.d.src == 4 && s.itemBeyond (s.dt n) l.d.index (s.headTime n f) (s.itemFrame n f l.d.index)
  let s := if beyond then s.latch dtB 4 else s
  let items := ls.filter fun l => l.d.src == 4 && w.items.contains l.d.index
  let s := if w.itemsCorrected = 0 then s else (s.count F.DT_SRAM_CORR_COUNT w.itemsCorrected).latch dtB 8
  items.foldl (fun s _ => ((s.count F.DT_SRAM_UNCORR_COUNT 1).latch dtB 16).raise 0x118) s

/-- Line buffer and coefficient words of a line (R224). -/
def State.countSram (s : State) (n : Nat) (w : LineFaults) : State :=
  let k := n / 2
  let s := if w.corrected = 0 then s else (s.count (F.CE_LB_CORR_COUNT k) w.corrected).latch (ceB k) 1
  (List.range (w.pixels.length + w.coefs.length)).foldl (fun s _ =>
    ((s.count (F.CE_SRAM_UNCORR_COUNT k) 1).latch (ceB k) 2).raise (0x100 + k) k ⟨0, n⟩) s

/-- Compose and emit an active line of head n from what was fetched for it (R157, R196). A line that no earlier line start fetched is
fetched now (log 82). -/
def State.composeLine (s : State) (n f line row : Nat) (w : LineFaults) : State :=
  let s := s.fetchLine n f line
  let u := unitOf (s.fmt n) f line
  let ls := s.lineLayers n f line row w
  let ps := (List.range (rasterActive (s.fmt n)).1).map fun x => s.composePixel n u x row w ls
  let s := (s.countLine n f ls (s.plLost n u row w) w).countSram n w
  let s := s.updHead n fun h => { h with
    fetched := h.fetched.filter (· != (f, line)), plRows := h.plRows.filter fun e => !(e.unit == u && e.row == row) }
  let r := [0, 1, 2].foldl (fun (a : State × List Nat) d =>
    let b := a.1.renderDest n f line row (ps.map (·.1)) d
    (b.1, a.2 ++ b.2)) (s, changedCols ps)
  let changed := r.2.eraseDups.length
  if changed = 0 then r.1 else (r.1.count (F.CE_SAT_CNT_COUNT (n / 2)) changed).latch (ceB (n / 2)) 4

end Sys2Proof.Machine
end

