-- ==== Sys2Proof/Machine/HeadLine.lean ====
section
/-! DEFINITION. What a head does at the start of each line (R148, R157, R163, R165, R166, R353, R354, R373), its first and last lines
(R150, R151), completions of host reads (R175), and failures of its destinations (R161 to R165). -/

namespace Sys2Proof.Machine

/-! ### Packing ST 2110-20 (R353, R354) -/

/-- The RTP time stamp of a frame of head n: the 90 kHz clock from the epoch to the frame's alignment point (R163). -/
def State.rtpTime (s : State) (n f : Nat) : Nat := s.lineStart n f 1 * 9 / (100000 * 2 ^ 32) % 2 ^ 32

/-- The 20 octets of the RTP and payload headers of an ST 2110-20 packet of head n, in the layout of RFC 4175 (R163, R354, log 83): the
sequence number, the marker on the last packet of a unit, the time stamp, and the length, field, row and offset of the samples. -/
def State.rtpHeader (s : State) (n seq : Nat) (last field2 : Bool) (row offset len : Nat) : List Byte :=
  bytesBE 1 0x80 ++ bytesBE 1 (b2n last * 128 + Config.rtpType n % 128) ++ bytesBE 2 (seq % 65536) ++ bytesBE 4 (s.rtpTime n (s.head n).frame) ++
    bytesBE 4 (Config.rtpSsrc n).toNat ++ bytesBE 2 (seq / 65536 % 65536) ++ bytesBE 2 len ++ bytesBE 2 (b2n field2 * 32768 + row) ++ bytesBE 2 offset

/-- One packet of head n: to both of its queues, the same but for the headers of each path (R163, R354, R367). `row` is the row of the
unit and `offset` the place in it, in pixels, of its first sample. -/
def State.sendPacket (s : State) (n : Nat) (last field2 : Bool) (row offset : Nat) (payload : List Byte) : State :=
  let seq := Config.rtpFirst n + (s.head n).seq
  let rtp := s.rtpHeader n seq last field2 row offset payload.length
  let s := (s.stQueues n).zipIdx.foldl (fun s e =>
    s.enqueue e.1 ((List.range 42).map (fun i => Config.stHeader n e.2 seq i) ++ rtp ++ payload) (seq % 65536) none none) s
  s.updHead n fun h => { h with seq := h.seq + 1 }


/-- A row is the last of its unit. -/
def lastRow (fmt row : Nat) : Bool :=
  let h := (rasterActive fmt).2
  row + 1 == h || (interlaced fmt && row + 2 == h)

/-- The packer takes the row whose line has ended (R353, R354). -/
def State.packRow (s : State) (n : Nat) : State :=
  match (s.head n).row with
  | none => s
  | some (row, bs) =>
    let s := s.updHead n fun h => { h with row := none }
    let k := s.get (F.NQ_PAYLOAD_OCTETS (s.get (F.HD_DEST_ST_QUEUE n)))
    let p := pgroup (s.get (F.HD_DEST_ST_SAMPLING n)) (s.flag (F.HD_DEST_ST_DEPTH12 n))
    let len := s.stRow n
    let last := lastRow (s.fmt n) row
    let field2 := interlaced (s.fmt n) && row % 2 == 1
    let send (s : State) (e : List Byte × Nat) (at_ : Nat) (final : Bool) : State :=
      s.sendPacket n (last && final) field2 (at_ / len) (at_ % len / p.1 * p.2) e.1
    if s.flag (F.HD_DEST_ST_BPM n) then
      let c := (s.head n).carry
      let ps := groupsOf k (c.2.length + bs.length) (c.2 ++ bs)
      let rest := ps.getLastD []
      let whole := if last ∨ rest.length = k then ps else ps.dropLast
      let s := whole.zipIdx.foldl (fun s e => send s e (c.1 + e.2 * k) (e.2 + 1 == whole.length)) s
      s.updHead n fun h => { h with
        carry := if last then (0, []) else (c.1 + whole.length * k, if whole.length = ps.length then [] else rest) }
    else
      let ps := groupsOf k bs.length bs
      let unitRow := if interlaced (s.fmt n) then row / 2 else row
      ps.zipIdx.foldl (fun s e => send s e (unitRow * len + e.2 * k) (e.2 + 1 == ps.length)) s

/-! ### Line starts -/

/-- The LINE-class registers of head n (R50). -/
def lineRegs (n : Nat) (k : Key) : Bool := k.1 == .HD_SMP && k.2.headD 99 == n


/-- The events of a line (R166). -/
def lineCodes (fmt line : Nat) : List Nat :=
  [0] ++ (if line = 1 then [1] else []) ++ (if line = 564 ∧ interlaced fmt then [2] else [])

/-- A head starts line l of frame f: events, ancillary requests, and the row that the line carries. -/
def State.runLine (s : State) (n f l : Nat) (w : LineFaults) : State :=
  let s := s.applyWaiting (lineRegs n)
  let s := s.updHead n fun h => { h with frame := f, line := l, raised := [], everRun := true }
  let s := s.headLineEvents n (lineCodes (s.fmt n) l) l f
  let s := if l = 1 then (s.destsResume n).loadNoise n f else s
  let s := ((s.packRow n).adLine n f l).fetchAhead n f l
  match activeRow (s.fmt n) l with
  | none => s.sdiLine n f l none
  | some row => if s.hst n = 2 ∨ s.hst n = 3 then s.composeLine n f l row w else s.flatLine n f l row

/-- The line of a head that carries black only: in STARTING, or stopped after it has run. Its raster is computed from the
count (R164, R165). -/
def State.idleLine (s : State) (n : Nat) : State :=
  let t := s.onLast n
  match t.pos n with
  | none => s
  | some p =>
    let h := s.head n
    if h.frame = p.1 ∧ h.line = p.2.1 then s else
    let s := s.updHead n fun x => { x with frame := p.1, line := p.2.1 }
    let s := if p.2.1 = 1 ∨ h.frame ≠ p.1 then s.destsResume n else s
    let s := s.fetchAhead n p.1 p.2.1
    match activeRow (t.fmt n) p.2.1 with
    | none => s.sdiLine n p.1 p.2.1 none
    | some row => s.flatLine n p.1 p.2.1 row

/-- The line after another. -/
def State.nextLine (s : State) (n : Nat) : Nat × Nat :=
  let h := s.head n
  if rasterT (s.fmt n) ≤ h.line then (h.frame + 1, 1) else (h.frame, h.line + 1)

/-- A head waits for its first line, or for the line at which it restarts (R72, R150). -/
def State.awaits (s : State) (n : Nat) : Bool :=
  let h := s.head n
  s.hst n == 1 || ((s.hst n == 4 || s.hst n == 5) && h.restart && !h.stopPending)

/-- A line start of head n (R148). -/
def headLineOp (n : Nat) (w : LineFaults) (s : State) : State :=
  let h := s.head n
  let st := s.hst n
  if st = 0 ∨ st = 1 then (if st = 0 ∧ !h.everRun then s else s.idleLine n) else
  let p := s.nextLine n
  if s.now < s.lineStart n p.1 p.2 ∨ s.stopDue n ∨ (s.awaits n ∧ p = (h.startFrame, 1)) then s else
  let s := if s.mode = 8 ∧ (st = 2 ∨ st = 3) then s.enterSafe n else s
  s.runLine n p.1 p.2 w

/-- A queue of head n's stream sends through a port that is down (R163). -/
def State.stDown (s : State) (n : Nat) : Bool := (s.stQueues n).any fun q => s.get (F.NP_STAT_LINK (s.qPort q)) == 0

/-- Follow the ports of a running head's stream: ST_FAIL latches and HD_DEST_ST is raised when one is down (R163). -/
def State.stCheck (s : State) (n : Nat) : State :=
  let down := s.running n && s.stDown n
  let was := (s.head n).stFail
  if down = was then s else
  let s := s.updHead n fun h => { h with stFail := down }
  let s := if down then s.withdraw 1 fun c _ => s.get (F.AD_CTRL_SRC c) == n else s
  if down then (s.latch (hdB n) 32).raise (0x082 + 8 * n) n else s

/-- The first line of a head that has started, or that restarts after a re-step (R72, R150, R165). -/
def headFirstOp (n : Nat) (s : State) : State :=
  let h := s.head n
  if !s.awaits n ∨ s.now < s.lineStart n h.startFrame 1 then s else
  let s := s.updHead n fun x => { x with restart := false, stepped := false }
  let s := if s.mode = 8 then ((s.moveHead n 4).latch (hdB n) 4).hidePl n
    else ((s.moveHead n 2).latch (hdB n) 1).headEvent n 9 1 h.startFrame
  (s.stCheck n).runLine n h.startFrame 1 ⟨[], [], [], [], 0, [], 0⟩

/-- A head whose stop is due enters STOPPED (R151). -/
def headStoppedOp (n : Nat) (s : State) : State := if s.stopDue n then s.enterStopped n else s

/-- Sample event i of head n (R166). -/
def sampleOp (n i : Nat) (s : State) : State :=
  let h := s.head n
  let w := s.rdE (.HD_SMP, [n, i])
  let line := bits w 12 0
  let x := bits w 29 16
  match s.raster n with
  | none => s
  | some r =>
    if bits w 31 31 = 1 ∧ line ≠ 0 ∧ line = h.line ∧ x < r.1 ∧ 2 ≤ s.hst n ∧ i ∉ h.raised ∧
        sampleStart r (h.frame * (r.2.1 * r.1) + (line - 1) * r.1 + x + s.delay n r.1) ≤ s.now then
      (s.updHead n fun h => { h with raised := i :: h.raised }).headEvent n (5 + i) line h.frame
    else s

/-! ### Host layers (R175, R176) -/

/-- The head of engine k whose vintage holds layer m, with the layer. -/
def State.layerHead (s : State) (k m : Nat) : Option (Nat × LayerDesc) :=
  [2 * k, 2 * k + 1].findSome? fun n => ((s.head n).applied.bind fun c => c.layer m).map fun d => (n, d)

/-- The completion of a host layer's read of one row (R175): that of the oldest request for the row that is not complete. A poisoned
completion or an abort brings no data (R176, log 40). -/
def hostCompletionOp (k m row : Nat) (ok : Bool) (data : List Byte) (s : State) : State :=
  let l := s.layer k m
  match l.asked.find? fun e => e.2 == row with
  | none => s
  | some e => s.setLayer k m { l with asked := l.asked.erase e, rows := l.rows ++ [⟨e.1, row, if ok then some data else none, false⟩] }

/-! ### Destinations (R161 to R165) -/

/-- A rate-match FIFO leaves its window (R165). On a head that has never run it recentres at once. -/
def fifoOp (n d : Nat) (s : State) : State :=
  if !s.destOn n d then s else
  let s := (s.latch (hdB n) 64).raise (0x083 + 8 * n) n
  if s.ticking n then s.updHead n fun h => { h with fifoOut := h.fifoOut ++ (if d ∈ h.fifoOut then [] else [d]) } else s

/-- DisplayPort training fails, or hot-plug falls (R162). -/
def dpFailOp (n : Nat) (hotPlug : Bool) (s : State) : State :=
  if !s.destOn n 1 then s else
  let was := (s.head n).dpDown
  let s := s.updHead n fun h => { h with dpDown := true, dpHpd := hotPlug, dpResume := false, dpNext := if was then h.dpNext else s.tick + ticksS 1 }
  if was then s else (s.latch (hdB n) 16).raise (0x081 + 8 * n) n

/-- A retry of DisplayPort training (R162). -/
def dpRetrainOp (n : Nat) (ok : Bool) (s : State) : State :=
  let h := s.head n
  if !h.dpDown ∨ h.dpResume ∨ !h.dpHpd ∨ s.tick < h.dpNext then s else
  let s := s.count (F.HD_DP_RETRAIN_COUNT n) 1
  s.updHead n fun h => { h with dpNext := s.tick + ticksS 1, dpResume := ok && s.ticking n, dpDown := !ok || s.ticking n }

/-- A serializer of head n's SDI group, or its PLL, fails (R168). -/
def sdiFailOp (n : Nat) (s : State) : State :=
  if !s.destOn n 0 then s else
  let s := s.withdraw 0 fun c _ => s.get (F.AD_CTRL_SRC c) == n
  ((s.updHead n fun h => { h with sdiFail := true, sdiBack := false }).latch (hdB n) 8).raise (0x080 + 8 * n) n

/-- Every link of head n's SDI group locks: the group resumes at the next line 1, or at once on a head that has never run
(R165, R429). -/
def sdiRelockOp (n : Nat) (s : State) : State :=
  let h := s.head n
  if !(h.sdiFail || h.sdiReset) then s
  else if s.ticking n then s.updHead n fun h => { h with sdiBack := true }
  else s.updHead n fun h => { h with sdiFail := false, sdiReset := false, fifoOut := h.fifoOut.filter (· != 0) }

end Sys2Proof.Machine
end

