-- ==== Sys2Proof/Machine/Ports.lean ====
section
/-! DEFINITION. Network ports: modules (R330), links (R328, R329, R346, R365) and module transactions (R330). -/

namespace Sys2Proof.Machine

/-- A lane of port p runs an out-of-service test (R470). -/
def State.portTested (s : State) (p : Nat) : Bool := (List.range 4).any fun l => s.laneTested (8 + 4 * p + l)

/-- The queues of a port, and the heads that stream through it, follow its link (R163, R365). -/
def State.linkChanged (s : State) (p : Nat) : State :=
  let s := s.latch (npB p) 1
  let s := (s.portQueues p).foldl (fun s q => (s.settle q).showBacklog q) s
  (List.range 16).foldl State.stCheck s

/-- An enabled PTP port without a link is FAULTY (R128; log 74): as the slave port, it ends the use of PTP (R107). -/
def State.ptpFault (s : State) (p : Nat) : State :=
  let x := s.ptp p
  if !x.en ∨ x.faulty then s else
  let s := (s.setPtp p { x with faulty := true }).raise 0x045 p
  if x.slave then (srcLost 1 s).noSlave else s

/-- The link of port p goes down (R346): an enabled port raises NP_LINK_DOWN. -/
def linkDownOp (p : Nat) (s : State) : State :=
  if !s.flag (F.NP_STAT_LINK p) then s else
  let s := (s.set (F.NP_STAT_LINK p) 0).count (F.NP_LINK_DOWN_COUNT p) 1
  let s := if s.flag (F.NP_CTRL_EN p) then s.raise (0x180 + p) p else s
  (s.ptpFault p).linkChanged p

/-- The link of port p comes up (R328, R329): the port is enabled with a PMD, and no test runs on its lanes. -/
def linkUpOp (p : Nat) (s : State) : State :=
  let pmd := s.get (F.NP_CTRL_PMD p)
  if !s.blocksUp ∨ s.flag (F.NP_STAT_LINK p) ∨ !s.flag (F.NP_CTRL_EN p) ∨ pmd = 0 ∨ 6 ≤ pmd ∨ s.portTested p then s
  else ((s.set (F.NP_STAT_LINK p) 1).setPtp p { s.ptp p with faulty := false }).linkChanged p

/-- The module of port p is removed (R330). -/
def moduleOutOp (p : Nat) (s : State) : State :=
  if !s.flag (F.NP_STAT_MOD_PRESENT p) then s else
  linkDownOp p (((s.set (F.NP_STAT_MOD_PRESENT p) 0).latch (npB p) 2).raise (0x190 + p) p)

/-- A module is inserted in port p. -/
def moduleInOp (p : Nat) (s : State) : State :=
  if s.flag (F.NP_STAT_MOD_PRESENT p) then s else (s.set (F.NP_STAT_MOD_PRESENT p) 1).latch (npB p) 2

/-- The IntL line of a module changes. -/
def moduleIntOp (p : Nat) (low : Bool) (s : State) : State :=
  if s.flag (F.NP_STAT_MOD_INT p) = low then s else (s.set (F.NP_STAT_MOD_INT p) (b2n low)).latch (npB p) 4

/-- A transaction of the module's master starts, as NPp_I2C_CMD says (R330). -/
def State.i2cBegin (s : State) (p : Nat) : State :=
  let n := s.get (F.NP_I2C_CMD_LEN p) + 1
  let rd := s.flag (F.NP_I2C_CMD_RD p)
  (s.set (F.NP_I2C_STAT_BUSY p) 1).emit
    (.i2c p (s.get (F.NP_I2C_CMD_DEV p)) rd (s.get (F.NP_I2C_CMD_OFS p)) (s.flag (F.NP_I2C_CMD_FAST p)) n
      (if rd then [] else bytesLE n (s.rd (.NP_I2C_DATA, [p])).toNat))

/-- The bytes of a read, in ascending offset from bits [7:0], over the old word. -/
def i2cWord (old data : Word) (len : Nat) : Word := setBits old (8 * len - 1) 0 data.toNat

/-- A transaction ends (R330). -/
def i2cDoneOp (p : Nat) (ack : Bool) (data : Word) (s : State) : State :=
  if !s.flag (F.NP_I2C_STAT_BUSY p) then s else
  let s := (s.set (F.NP_I2C_STAT_BUSY p) 0).set (F.NP_I2C_STAT_NACK p) (b2n !ack)
  let s := if ack ∧ s.flag (F.NP_I2C_CMD_RD p) then
      s.wr (.NP_I2C_DATA, [p]) (i2cWord (s.rd (.NP_I2C_DATA, [p])) data (s.get (F.NP_I2C_CMD_LEN p) + 1)) else s
  s.latch (npB p) (if ack then 8 else 24)

end Sys2Proof.Machine
end

