-- ==== Sys2Proof/Machine/LinkTest.lean ====
section
/-! DEFINITION. The link test block (22): lanes, patterns and loopbacks allowed, lanes in use, starting and ending tests, the
checker's count of bits, eye scans, and the boundary scan port. -/

namespace Sys2Proof.Machine

def ltB : List Nat := [10, 0]

def State.lt (s : State) (l : Nat) : LtSt := mget ltD s.lts l

def State.updLt (s : State) (l : Nat) (f : LtSt → LtSt) : State := { s with lts := nput ltD s.lts l (f (s.lt l)) }

/-- The kinds of lanes (R463). -/
inductive LaneKind where
  | pcie | eth | sdo | sdi | dp | spemen
  deriving DecidableEq, Repr

def laneKind (l : Nat) : LaneKind :=
  if l < 8 then .pcie else if l < 24 then .eth else if l < 40 then .sdo else if l < 56 then .sdi else if l < 72 then .dp else .spemen

/-- A RATE code exists on a lane (R463). -/
def laneRateOk (l rate : Nat) : Bool :=
  match laneKind l with
  | .pcie | .dp => decide (rate ≤ 4)
  | .eth => rate == 0 || (rate == 1 && decide ((l - 8) % 4 < 2))
  | .sdo | .sdi => decide (rate ≤ 7)
  | .spemen => rate == 0

/-- The rate of a lane in bit/s (R463, R162). -/
def laneBps (l rate : Nat) : Rat :=
  match laneKind l with
  | .pcie => ([2500000000, 5000000000, 8000000000, 16000000000, 32000000000].getD rate 0 : Nat)
  | .eth => ([25781250000, 53125000000].getD rate 0 : Nat)
  | .sdo | .sdi =>
    let b : Rat := ([1485000000, 2970000000, 5940000000, 11880000000].getD (rate % 4) 0 : Nat)
    if rate < 4 then b else b * 1000 / 1001
  | .dp => ([1620000000, 2700000000, 5400000000, 8100000000, 10000000000].getD rate 0 : Nat)
  | .spemen => 125000000

/-- A pattern is allowed on a lane at a rate (R465). -/
def patternOk (l rate pattern : Nat) : Bool :=
  let k := laneKind l
  let pam4 := k == .eth && rate == 1
  match pattern with
  | 0 | 8 | 9 => !pam4
  | 1 | 2 | 4 => !pam4 && k != .spemen
  | 3 => !pam4 && k != .spemen && k != .dp
  | 5 | 6 | 7 => pam4
  | 10 => k == .spemen || (k == .dp && decide (rate ≤ 3))
  | _ => false

/-- A loopback is allowed on a lane (R466). -/
def loopOk (l loop : Nat) : Bool :=
  let k := laneKind l
  decide (loop ≤ 1) || (loop == 2 && (k == .pcie || k == .eth || k == .sdi))

/-- A configuration word is allowed on a lane. -/
def ltCfgOk (l : Nat) (w : Word) : Bool :=
  laneRateOk l (bits w 19 16) && patternOk l (bits w 19 16) (bits w 4 0) && loopOk l (bits w 8 7)

/-- The owner of a lane holds it (R468). -/
def State.laneInUse (s : State) (l : Nat) : Bool :=
  match laneKind l with
  | .pcie => true
  | .eth => s.flag (F.NP_CTRL_EN ((l - 8) / 4))
  | .sdo => (List.range 16).any fun n => s.running n && (s.sdos n).contains (l - 24)
  | .sdi => (List.range 16).any fun i => s.flag (F.NG_SDI_CTRL_EN i) && (s.sdiGroup i).contains (l - 40)
  | .dp => (List.range 16).any fun n => s.running n && (s.dpPorts n).contains ((l - 56) / 4)
  | .spemen => s.flag (F.SPP_CTRL_DATA (l - 72))

/-- The configuration of a lane asks for an out-of-service test. A checker-only run is one on a free lane. -/
def State.asksOos (s : State) (l : Nat) : Bool :=
  s.flag (F.LT_CFG_GEN l) || s.get (F.LT_CFG_LOOP l) == 1 || s.get (F.LT_CFG_LOOP l) == 2 || (s.flag (F.LT_CFG_CHK l) && !s.laneInUse l)

/-- A START on a lane finds a lane that it needs in use or under test (R466, R468). PCIe lanes are judged under R469. -/
def State.startBlocked (s : State) (l : Nat) : Bool :=
  laneKind l != .pcie && s.asksOos l &&
    (s.laneInUse l || s.farEnd l || (laneKind l == .sdi && s.get (F.LT_CFG_LOOP l) == 2 && (s.laneInUse (l - 16) || s.laneTested (l - 16))))

/-- A lane transmits only (R463). -/
def txOnly (l : Nat) : Bool := laneKind l == .sdo || laneKind l == .dp

/-- The checker of a lane is reached (R464): on a lane that transmits only, through near-end loopback alone. -/
def State.checkerOn (s : State) (l : Nat) : Bool :=
  s.flag (F.LT_CFG_CHK l) && (!txOnly l || s.get (F.LT_CFG_LOOP l) == 1)

/-- The bits that the checker of a lane has compared by now (R467). -/
def State.bitsNow (s : State) (l : Nat) : Nat :=
  let x := s.lt l
  match x.sync with
  | some t => x.base + (laneBps l (s.get (F.LT_CFG_RATE l)) * ((s.tick - t : Nat) : Rat) / 400000000).floor.toNat
  | none => x.base

/-- Show a count of bits: its low 48 bits. -/
def State.showBits (s : State) (l n : Nat) : State := (s.set (F.LT_BITS_LO_COUNT l) n).set (F.LT_BITS_HI_COUNT l) (n / 2 ^ 32)

/-- Start a test on a lane: BITS and ERRORS clear (R467, R471). A running test goes on. -/
def State.ltStart (s : State) (l : Nat) : State :=
  if s.get (F.LT_STAT_STATE l) = 1 then s else
  let oos := s.asksOos l
  let s := (s.showBits l 0).wr (.LT_ERRORS, [l]) 0
  let s := (s.set (F.LT_STAT_STATE l) 1).set (F.LT_STAT_SYNC l) 0
  let far := laneKind l == .sdi && s.get (F.LT_CFG_LOOP l) == 2
  s.updLt l fun x => { x with oos := oos, far := far, base := 0, sync := none, stopped := none }

/-- End a test on a lane in a state. -/
def State.ltEnd (s : State) (l st : Nat) : State :=
  let s := s.updLt l fun x => { x with oos := false, sync := none }
  (s.set (F.LT_STAT_STATE l) st).set (F.LT_STAT_SYNC l) 0

/-- A STOP (R471). The errors that the checker has counted by then are for the lane to say: ERRORS grows by a free number. -/
def State.ltStop (s : State) (l : Nat) : State :=
  if s.get (F.LT_STAT_STATE l) ≠ 1 then s else
  let s := s.showBits l (s.bitsNow l)
  let s : State := if s.checkerOn l then let x := s.fresh; x.2.count (F.LT_ERRORS_COUNT l) x.1 else s
  (s.ltEnd l 3).updLt l fun x => { x with stopped := some s.tick }

/-- Every test stops (R471). -/
def State.ltStopAll (s : State) : State := (List.range 80).foldl (fun s l => s.ltStop l) s

/-- A lane test reaches 2^DUR bits; `errs` are the errors beside those of lost syncs. A STOP of this tick loses (R471). -/
def ltDoneOp (l errs : Nat) (s : State) : State :=
  let dur := s.get (F.LT_CFG_DUR l)
  let st := s.get (F.LT_STAT_STATE l)
  let late := st == 3 && (s.lt l).stopped == some s.tick
  if !(st == 1 && decide (2 ^ dur ≤ s.bitsNow l)) && !late || dur = 0 || 48 < dur then s else
  let s := (s.showBits l (2 ^ dur)).count (F.LT_ERRORS_COUNT l) (if late then 0 else errs)
  (s.ltEnd l 2).latch ltB 1

/-- The checker of a lane gets sync (R464, R467). -/
def syncGainOp (l : Nat) (s : State) : State :=
  if s.get (F.LT_STAT_STATE l) = 1 ∧ s.checkerOn l ∧ !s.flag (F.LT_STAT_SYNC l) then
    (s.set (F.LT_STAT_SYNC l) 1).updLt l fun x => { x with sync := some s.tick }
  else s

/-- The checker of a lane loses sync, after 16 errors (R467). -/
def syncLossOp (l : Nat) (s : State) : State :=
  if s.get (F.LT_STAT_STATE l) = 1 ∧ s.flag (F.LT_STAT_SYNC l) then
    let n := s.bitsNow l
    let s := (s.set (F.LT_STAT_SYNC l) 0).updLt l fun x => { x with sync := none, base := n }
    let s := (s.showBits l n).count (F.LT_ERRORS_COUNT l) 16
    (s.count (F.LT_SYNC_LOSS_COUNT l) 1).latch ltB 2
  else s

/-- EYE_GO cannot start a scan on a lane now (R472). -/
def State.eyeBlocked (s : State) (l : Nat) : Bool :=
  s.flag (F.LT_STAT_EYE_BUSY l) || (txOnly l && !(s.get (F.LT_STAT_STATE l) == 1 && s.laneTested l && s.get (F.LT_CFG_LOOP l) == 1))

/-- An eye scan ends (R472). -/
def eyeDoneOp (l err : Nat) (s : State) : State :=
  if s.flag (F.LT_STAT_EYE_BUSY l) then
    ((s.set (F.LT_STAT_EYE_BUSY l) 0).wr (.LT_EYE_ERR, [l]) (w32 (min err 0xFFFFFFFF))).latch ltB 4
  else s

/-- A read of BITS_LO (R467): the count of now, whose upper part is latched. -/
def State.bitsLatch (s : State) (l : Nat) : State :=
  let s := if s.get (F.LT_STAT_STATE l) = 1 then s.showBits l (s.bitsNow l) else s
  s.updLt l fun x => { x with bitsHi := s.get (F.LT_BITS_HI_COUNT l) }

/-- A read of ERRORS during a test: the checker has counted on while in sync, by a free number of errors. -/
def State.errorsNow (s : State) (l : Nat) : State :=
  if s.flag (F.LT_STAT_SYNC l) then let x := s.fresh; x.2.count (F.LT_ERRORS_COUNT l) x.1 else s

/-- Code errors of a lane in use (R473). Those of an SDI lane are counted with its lines. -/
def State.laneErrors (s : State) (l errors : Nat) : State :=
  if s.laneInUse l ∧ (laneKind l = .pcie ∨ laneKind l = .eth ∨ laneKind l = .spemen) then s.count (F.LT_SVC_ERR_COUNT l) errors else s

/-- FEC codewords of a port with a link (R328). -/
def State.fecErrors (s : State) (p corrected uncorrectable : Nat) : State :=
  if !s.flag (F.NP_STAT_LINK p) then s else
  let s := (s.count (F.NP_FEC_CORR_COUNT p) corrected).count (F.NP_FEC_UNCORR_COUNT p) uncorrectable
  if uncorrectable = 0 then s else s.latch (npB p) 32

/-- The IDCODE of R474: version 0, part 0x6480; the BSDL file gives its low bits. -/
def idcode : Word := w32 (0x6480 * 4096 + Config.idcodeLow % 4096)

/-- A JTAG instruction takes the pins (R475). -/
def takesPins : JtagInstr → Bool
  | .extest | .extestPulse | .extestTrain | .clamp | .highz => true
  | .bypass | .idcode | .sample => false

/-- A JTAG instruction update (R475). -/
def jtagOp (ir : JtagInstr) (s : State) : State :=
  if takesPins ir then
    if s.dv.resetLow then { s with jtag := ⟨ir, true⟩ } else { s with jtag := ⟨.bypass, false⟩ }
  else
    let s := { s with jtag := ⟨ir, false⟩ }
    if ir = .idcode then s.emit (.idcode idcode) else s

end Sys2Proof.Machine
end

