-- ==== Sys2Proof/Machine/LockCore.lean ====
section
/-! DEFINITION. The lock domain, first part (18): roles, outcomes, the messages that the agent sends, what it takes from messages
received, membership and elections. What writes registers of other blocks stands in LockDomain. -/

namespace Sys2Proof.Machine

def glB : List Nat := [12, 0]

def State.updGl (s : State) (f : GlSt → GlSt) : State := { s with gl := f s.gl }

/-- GL_STATE.ROLE: 0 OFF, 1 SEEKING, 2 MEMBER, 3 LEADER, 4 CLAIMING, 5 REFUSED. -/
def State.glRole (s : State) : Nat := s.get F.GL_STATE_ROLE

/-- The agent runs: CU19 is ready. -/
def State.glAgent (s : State) : Bool := nbit (s.get F.DV_SVC_READY_READY) 3

/-- The device's own index. -/
def State.glIndex (s : State) : Nat := s.get F.GL_ID_INDEX

/-- Take a role (R409). -/
def State.setRole (s : State) (r : Nat) : State :=
  if s.glRole = r then s else
  let s := (s.set F.GL_STATE_ROLE r).latch glB 1
  s.updGl fun g => { g with since := s.tick, joined := false }

/-- GL_CTRL.EN goes from 0 to 1 (R409). -/
def State.glOn (s : State) : State := if s.flag F.TB_STATE_FIRST_LOCK ∧ s.glRole = 0 then s.setRole 1 else s

/-- GL_CTRL.EN goes from 1 to 0 (R409). A commit in flight at the leader ends under R415. -/
def State.glOff (s : State) : State := (s.setRole 0).updGl fun g => { g with flight := none }

/-- The first lock comes while EN = 1 (R409). -/
def State.glWake (s : State) : State := if s.flag F.GL_CTRL_EN then s.glOn else s

/-! ### Messages sent (R407, R408) -/

/-- Send a message on every port of GL_CTRL.PORTS that it has an address for; `addr` gives its destination, `body` its body, on each
port (log 91). -/
def State.glSend (s : State) (type : Nat) (addr : Nat → Word) (body : Nat → List Byte) : State :=
  let seq := s.gl.seq
  let s := s.updGl fun g => { g with seq := (seq + 1) % 2 ^ 32 }
  let version := if type = 0x0C ∨ type = 0x0D then 2 else 1
  let head := bytesLE 2 0x474C ++ bytesLE 1 version ++ bytesLE 1 type ++ bytesLE 2 (s.get F.GL_ID_DOMAIN) ++ bytesLE 2 s.glIndex ++ bytesLE 4 seq
  ((List.range 4).filter fun p => nbit (s.get F.GL_CTRL_PORTS) p && addr p != 0).foldl (fun s p =>
    let m := head ++ body p
    s.emit (.datagram p (addr p) (m ++ bytesLE 4 (crc32c m)))) s

/-- Send to the group. -/
def State.glCast (s : State) (type : Nat) (body : List Byte) : State :=
  s.glSend type (fun _ => s.rd (.GL_GROUP_ADDR, [])) (fun _ => body)

/-- Send to the leader, at its address on each port. -/
def State.glToLeader (s : State) (type : Nat) (body : List Byte) : State :=
  s.glSend type (fun p => mget (fun _ => 0) s.gl.leaders p) (fun _ => body)

/-- The bitmap of the roster: bit i of byte b for member 8 × b + i. -/
def rosterBytes (roster : List Nat) : List Byte :=
  (List.range 512).map fun b => BitVec.ofNat 8 ((List.range 8).foldl (fun a i => a + b2n (roster.contains (8 * b + i)) * 2 ^ i) 0)

/-- Change the roster (R411): GL_MEMBERS follows. -/
def State.setRoster (s : State) (r : List Nat) : State :=
  if s.gl.roster = r then s else
  (((s.updGl fun g => { g with roster := r }).set F.GL_MEMBERS_COUNT r.length)).latch glB 2

/-- The roster with a member more. -/
def enroll (i : Nat) (r : List Nat) : List Nat :=
  if r.contains i then r else (r.filter fun j => decide (j < i)) ++ [i] ++ r.filter fun j => decide (i < j)

/-! ### Outcomes (R415) -/

/-- Show the outcome of a domain commit, if it is the latest one. -/
def State.glShow (s : State) (cid outcome reason member : Nat) : State :=
  if s.get F.GL_CID_CID = cid then s.wr (.GL_CSTAT, []) (w32 (outcome % 8 + reason % 16 * 16 + member % 4096 * 256)) else s

/-- A domain commit has an outcome on this member: 3 APPLIED, 4 ABORTED, 5 MISSED, 6 CANCELLED. It is counted, latched and raised,
and under version 2 reported to the leader. -/
def State.glOutcome (s : State) (cid outcome reason member : Nat) : State :=
  let s := s.glShow cid outcome reason member
  let s := if outcome = 3 then (s.count F.GL_APPLIED_COUNT 1).latch glB 4 else s.latch glB 8
  let s := if outcome = 4 then (s.count F.GL_ABORTED_COUNT 1).raise 0x1E3 else s
  let s := if outcome = 5 then (s.count F.GL_MISSED_COUNT 1).raise 0x1E4 else s
  if s.glRole = 2 ∧ s.get F.GL_STATE_VER = 2 then s.glToLeader 0x0C (bytesLE 4 cid ++ bytesLE 1 outcome) else s

/-- A head still has the set of a commit: prepared or pending. -/
def State.holdsSet (s : State) (n serial : Nat) : Bool :=
  ((s.head n).prepared.any fun c => c.serial == serial) || ((s.head n).pending.any fun c => c.serial == serial) ||
    ((s.eng (n / 2)).checks.any fun c => c.set.serial == serial && c.set.head == n)

/-- What has become of a share that was acknowledged: APPLIED when its head shows the set, CANCELLED when the head has lost it. -/
def State.glWatch1 (s : State) (h : GlShare) : State :=
  match h.set with
  | some (n, serial) =>
    if !h.answered || h.nak.isSome then s
    else if (s.head n).applied.any fun c => c.serial == serial then
      (s.updGl fun g => { g with shares := g.shares.filter fun x => x.cid != h.cid }).glOutcome h.cid 3 0 0
    else if s.holdsSet n serial then s
    else (s.updGl fun g => { g with shares := g.shares.filter fun x => x.cid != h.cid }).glOutcome h.cid 6 0 0
  | none => s

/-- Watch the shares (R415). -/
def State.glWatch (s : State) : State := s.gl.shares.foldl State.glWatch1 s

/-! ### Messages received (R408) -/

/-- A message arrives: one that is bad or from an index not in the roster is counted, a copy of one received is discarded after
`copy`, any other goes to `f`. `free` marks ROSTER, JOIN and CLAIM. -/
def State.glReceive (s : State) (h : GlHead) (free : Bool) (copy f : State → State) : State :=
  if !s.glAgent || s.glRole == 0 || !nbit (s.get F.GL_CTRL_PORTS) h.port.val then s
  else if !h.ok || h.domain != s.get F.GL_ID_DOMAIN || (!free && !s.gl.roster.contains h.index) then
    (s.count F.GL_RX_BAD_COUNT 1).latch glB 0x20
  else if s.gl.seen.contains (h.index, h.seq) then copy s
  else f (s.updGl fun g => { g with seen := (h.index, h.seq) :: g.seen })

/-- A lower key is the better one (R410). -/
def better (p i q j : Nat) : Bool := decide (p < q) || (p == q && decide (i < j))

/-- JOIN to the leader: versions 1 and 2, PRIO and CANDIDATE. -/
def State.sendJoin (s : State) : State :=
  (s.updGl fun g => { g with joined := true }).glToLeader 0x02 (bytesLE 1 3 ++ bytesLE 1 (s.get F.GL_PRIO_PRIO) ++ bytesLE 1 (s.get F.GL_CTRL_CANDIDATE))

/-- Note the leader's address on a port. -/
def noteLeader (p : Nat) (a : Word) (g : GlSt) : GlSt := { g with leaders := nput (fun _ => 0) g.leaders p a }

/-- A ROSTER that is not a copy (R409): it keeps a member, starts a join, ends a claim or makes a leader step down. -/
def State.takeRoster (s : State) (m : GlRoster) : State :=
  let r := s.glRole
  let i := m.head.index
  if r = 1 ∨ (r = 2 ∧ s.get F.GL_STATE_LEADER = i) then
    let s := (s.updGl (noteLeader m.head.port.val m.leader)).updGl fun g => { g with heard := s.tick }
    let s := s.setRoster m.members
    let s := (s.set F.GL_STATE_VER m.version).set F.GL_STATE_LEADER i
    if r = 1 then s.sendJoin else s
  else if r = 4 then (s.setRole 1).updGl fun g => { g with heard := s.tick }
  else if r = 3 ∧ better m.prio i (s.get F.GL_PRIO_PRIO) s.glIndex then
    let s := ((s.setRole 1).latch glB 0x10).raise 0x1E5
    s.updGl fun g => { g with flight := none, leaderLost := true, heard := s.tick }
  else s

/-- ROSTER. -/
def rosterOp (m : GlRoster) (s : State) : State :=
  s.glReceive m.head true
    (fun s => if s.get F.GL_STATE_LEADER = m.head.index then s.updGl (noteLeader m.head.port.val m.leader) else s)
    (fun s => s.takeRoster m)

/-- ROSTER is sent at each whole TAI second (R408, R410). -/
def rosterSendOp (s : State) : State :=
  if !s.glAgent ∨ s.glRole ≠ 3 ∨ s.gl.rostered = s.tb.sec then s else
  let s := s.updGl fun g => { g with rostered := s.tb.sec }
  let bits := rosterBytes s.gl.roster
  s.glSend 0x01 (fun _ => s.rd (.GL_GROUP_ADDR, [])) fun p =>
    bytesLE 1 (s.get F.GL_STATE_VER) ++ bytesLE 1 (s.get F.GL_PRIO_PRIO) ++ bytesLE 2 s.gl.roster.length ++
      bytesLE 4 (s.get (F.NP_IPV4_ADDR p)) ++ bits

abbrev addrD : Nat → Nat × List Word := fun _ => (0, [])

/-- The source addresses of a message become those held for a member. -/
def keepAddr (key seq : Nat) (a : Word) (g : GlSt) : GlSt := { g with addrs := nput addrD g.addrs key (seq, [a]) }

/-- A further copy of the latest message adds its source address. -/
def addAddr (key seq : Nat) (a : Word) (g : GlSt) : GlSt :=
  let x := mget addrD g.addrs key
  if x.1 = seq ∧ x.2 ≠ [] ∧ !x.2.contains a then { g with addrs := nput addrD g.addrs key (seq, x.2 ++ [a]) } else g

/-- Restart the heartbeat timer of a member. -/
def keepAlive (i tick : Nat) (g : GlSt) : GlSt := { g with alive := nput (fun _ => 0) g.alive i tick }

/-- An address is held for a member (R411). -/
def State.addrHeld (s : State) (i : Nat) (a : Word) : Bool :=
  (mget addrD s.gl.addrs (2 * i)).2.contains a || (mget addrD s.gl.addrs (2 * i + 1)).2.contains a

/-- The ADMIT result of a JOIN (R408, R411). -/
def State.admitResult (s : State) (m : GlJoin) : Nat :=
  let i := m.head.index
  if s.gl.roster.contains i then (if s.addrHeld i m.head.addr then 0 else 1)
  else if !nbit m.versions (s.get F.GL_STATE_VER - 1) then 2
  else if m.candidate ∧ 32 ≤ s.gl.cands.length then 3
  else 0

/-- A JOIN that is not a copy, at the leader (R411). -/
def State.takeJoin (s : State) (m : GlJoin) : State :=
  if s.glRole ≠ 3 then s else
  let i := m.head.index
  let r := s.admitResult m
  let s : State := if r = 0 then
      let s := s.updGl fun g => keepAlive i s.tick (keepAddr (2 * i) m.head.seq m.head.addr g)
      let s := s.updGl fun g => { g with cands := if m.candidate then enroll i g.cands else g.cands.filter (· != i) }
      s.setRoster (enroll i s.gl.roster)
    else s
  s.glSend 0x03 (fun _ => m.head.addr) fun _ => bytesLE 1 r

/-- JOIN. -/
def joinOp (m : GlJoin) (s : State) : State :=
  s.glReceive m.head true (fun s => s.updGl (addAddr (2 * m.head.index) m.head.seq m.head.addr)) (fun s => s.takeJoin m)

/-- An ADMIT reply of the leader that was asked (R409): the device is a member, or refused. -/
def State.takeAdmit (s : State) (m : GlAdmit) : State :=
  if s.glRole ≠ 1 ∨ !s.gl.joined ∨ m.head.index ≠ s.get F.GL_STATE_LEADER then s
  else if m.result = 0 then (s.setRole 2).updGl fun g => { g with leaderLost := false, heard := s.tick }
  else if m.result = 2 then (s.setRole 5).raise 0x014 0 (ifaceOrg 3 0)
  else (s.setRole 5).raise 0x1E2

/-- ADMIT. -/
def admitOp (m : GlAdmit) (s : State) : State := s.glReceive m.head false id (fun s => s.takeAdmit m)

/-- HEARTBEAT, at the leader (R411). -/
def heartbeatOp (m : GlHeartbeat) (s : State) : State :=
  let i := m.head.index
  s.glReceive m.head false (fun s => s.updGl (addAddr (2 * i + 1) m.head.seq m.head.addr))
    (fun s => if s.glRole = 3 then s.updGl fun g => keepAlive i s.tick (keepAddr (2 * i + 1) m.head.seq m.head.addr g) else s)

/-- HEARTBEAT is sent at each even TAI second plus 488 µs × INDEX (R411). -/
def heartbeatSendOp (s : State) : State :=
  let ofs := 488000 * s.glIndex
  let t := s.tb.sec * 1000000000 + s.tb.ns - ofs
  let slot := t / 2000000000
  if !s.glAgent ∨ s.glRole ≠ 2 ∨ s.gl.beat = slot then s else
  let s := s.updGl fun g => { g with beat := slot }
  s.glToLeader 0x04 (bytesLE 1 (s.get F.TB_STATE_STATE) ++ bytesLE 1 s.mode)

/-- A CLAIM that is not a copy, at a claiming device (R409, R410). -/
def State.takeClaim (s : State) (m : GlClaim) : State :=
  if s.glRole ≠ 4 then s else
  let s := s.updGl fun g => { g with claims := (s.tick, m.prio, m.head.index) :: g.claims }
  if better m.prio m.head.index (s.get F.GL_PRIO_PRIO) s.glIndex then s.setRole 1 else s

/-- CLAIM. -/
def claimOp (m : GlClaim) (s : State) : State := s.glReceive m.head true id (fun s => s.takeClaim m)

/-- CLAIM is sent at each odd TAI second (R410). -/
def claimSendOp (s : State) : State :=
  if !s.glAgent ∨ s.glRole ≠ 4 ∨ s.tb.sec % 2 = 0 ∨ s.gl.claimed = s.tb.sec then s else
  let s := s.updGl fun g => { g with claimed := s.tb.sec, claims := (s.tick, s.get F.GL_PRIO_PRIO, s.glIndex) :: g.claims }
  s.glCast 0x05 (bytesLE 1 (s.get F.GL_PRIO_PRIO) ++ bytesLE 1 3)

/-- The election at the following even second, among the CLAIMs of the last 2 s (R410). -/
def claimElectionOp (s : State) : State :=
  if !s.glAgent ∨ s.glRole ≠ 4 ∨ s.tb.sec % 2 = 1 ∨ s.gl.elected = s.tb.sec then s else
  let own := s.glIndex
  let prio := s.get F.GL_PRIO_PRIO
  let recent := s.gl.claims.filter fun c => decide (s.tick ≤ c.1 + ticksS 2)
  let s := s.updGl fun g => { g with elected := s.tb.sec, claims := [] }
  if !recent.any fun c => c.2.2 == own then s
  else if recent.any fun c => better c.2.1 c.2.2 prio own then s.setRole 1
  else
    let s := s.setRole 3
    let s := (s.set F.GL_STATE_VER (if s.flag F.GL_CTRL_V1_ONLY then 1 else 2)).set F.GL_STATE_LEADER own
    (s.updGl fun g => { g with cands := [own], alive := [], addrs := [], leaderLost := false }).setRoster [own]

/-- A member has sent no HEARTBEAT for 6 s, so the leader removes it (R411, R414). -/
def memberTimeoutOp (i : Nat) (s : State) : State :=
  if !s.glAgent ∨ s.glRole ≠ 3 ∨ i = s.glIndex ∨ !s.gl.roster.contains i ∨ s.tick < mget (fun _ => 0) s.gl.alive i + ticksS 6 then s else
  let s := s.updGl fun g => { g with
    cands := g.cands.filter (· != i)
    flight := g.flight.map fun f => { f with acks := f.acks.filter (· != i) } }
  (s.setRoster (s.gl.roster.filter (· != i))).raise 0x1E1 0 ⟨0, i⟩

/-- Three consecutive ROSTERs are missed (R409). -/
def rosterTimeoutOp (s : State) : State :=
  if !s.glAgent ∨ s.glRole ≠ 2 ∨ s.tick < s.gl.heard + ticksS 3 then s else
  ((s.setRole 1).updGl fun g => { g with leaderLost := true }).raise 0x1E0

/-- No ROSTER is heard for 3 s (R409). -/
def seekTimeoutOp (s : State) : State :=
  if s.glAgent ∧ s.glRole = 1 ∧ s.flag F.GL_CTRL_CANDIDATE ∧ max s.gl.since s.gl.heard + ticksS 3 ≤ s.tick then s.setRole 4 else s

end Sys2Proof.Machine
end

