-- ==== Sys2Proof/Machine/Cellar.lean ====
section
/-! DEFINITION. The Cellar and the Sillage log: requesting records (R445, R446), giving entries their SEQ when a tick ends,
losses, the stream ring and SEQ_FLOOR (R440 to R442, R448), and mirroring (R441, R446). -/

namespace Sys2Proof.Machine

def clB : List Nat := [3, 0]

def slB : List Nat := [2, 0]

/-- The Cellar is healthy (R88). -/
def State.healthy (s : State) : Bool := s.flag F.CL_STAT_HEALTHY

/-- Request a record write (R446): in order, but a fault-history entry goes ahead of every record not yet begun, so that a reset
which waits for records waits for it too. With the Cellar unhealthy no record is written (R449). -/
def State.request (s : State) (r : Rec) : State :=
  if !s.healthy then s else
  let q := s.cl.queue
  let q := if r.region = 7 then q.take 1 ++ (q.drop 1).takeWhile (fun x => x.region == 7) ++ [r] ++ (q.drop 1).dropWhile (fun x => x.region == 7)
    else q ++ [r]
  let s := if r.region = 7 then { s with dv := { s.dv with rstReq := s.dv.rstReq.map fun (x : ResetReq) => { x with records := x.records + 1 } } } else s
  { (s.set F.CL_STAT_BUSY 1) with cl := { s.cl with queue := q } }

/-- The key of a record in the store. -/
def recKey (r : Rec) : Nat := if r.region = 8 then 16 + r.head else r.region

abbrev storeD : Nat → Option (RecBody × Nat) := fun _ => none

/-- The copy in force of a record. -/
def State.record (s : State) (k : Nat) : Option RecBody := (mget storeD s.cl.store k).map (·.1)

/-- Request the boot record (R79, R85). -/
def State.requestBoot (s : State) : State :=
  s.request { region := 1, body := .regs [((.DV_BOOT_CFG, []), s.rd (.DV_BOOT_CFG, []))] (s.get F.DV_BOOT_STAT_ATT_A) (s.get F.DV_BOOT_STAT_ATT_B) }

/-- Request the time record (R106, R124). -/
def State.requestTime (s : State) : State :=
  s.request { region := 2, body := .time s.tb.sec s.tb.ns (s.get F.TB_UTC_OFS) (s.flag F.TB_UTC_VALID) }

/-- Request a control record with a SEQ_FLOOR and a seal (R448). -/
def State.requestControl (s : State) (floor : Nat) (sealAt : Option Nat) : State :=
  s.request { region := 6, body := .control (s.flag F.CL_AUTO_RESTORE_EN) floor sealAt }

/-- Request the record of a list of registers. -/
def State.requestRegs (s : State) (region : Nat) (ks : List Key) : State :=
  s.request { region, body := .regs (ks.map fun k => (k, s.rd k)) 0 0 }

/-- The entries in the ring. -/
abbrev entryD : Nat → Entry := fun _ => {}

/-- Account for a lost entry (R441): it is counted, LOSS latches, and SL_LOSS is raised for the first loss since SL_LOST was
last cleared. -/
def State.loseEntry (s : State) : State :=
  let firstLoss := s.get F.SL_LOST_COUNT = 0
  let s := (s.count F.SL_LOST_COUNT 1).latch slB 1
  if firstLoss then s.raise 0x020 else s

/-- Enter an entry into the ring under its SEQ (R441). An entry that it overwrites unmirrored is lost. -/
def State.enterRing (s : State) (q : Nat) (e : Entry) : State :=
  let ring := s.sl.ring ++ [(q, { e with seq := q })]
  if 65536 ≤ q then
    let old := q - 65536
    let s := { s with sl := { s.sl with ring := ring.filter fun x => x.1 != old } }
    if s.sl.mirrored ≤ old then
      let s := { s with sl := { s.sl with mirrored := old + 1 } }
      if s.healthy then
        let s := { s with sl := { s.sl with lost := s.sl.lost <|> some (old, s.tb.sec, s.tb.ns) } }
        s.loseEntry
      else s
    else s
  else { s with sl := { s.sl with ring := ring } }

/-- The 32 bytes of an entry (R439). -/
def Entry.bytes (e : Entry) : List Byte :=
  bytesLE 4 e.seq ++ bytesLE 2 (e.seq / 2 ^ 32) ++ bytesLE 1 e.kind ++ bytesLE 1 e.flags ++ bytesLE 4 e.sec ++
    bytesLE 4 (e.sec / 2 ^ 32 % 65536 + e.be % 16 * 65536) ++ bytesLE 4 e.ns ++
    bytesLE 4 (e.org.cls % 256 + e.org.det % 65536 * 256) ++ bytesLE 4 e.a ++ bytesLE 4 e.b

/-- Give an entry its SEQ (R440). One that would reach SEQ_FLOOR is lost (R448). A FAULT entry of a latch goes into the
fault history (R422, R444). -/
def State.issue (s : State) (e : Entry) : State :=
  let q := s.sl.next
  if s.healthy ∧ s.sl.floor ≤ q then s.loseEntry else
  let s := { s with sl := { s.sl with next := q + 1 } }
  let s := s.enterRing q e
  if e.latch then s.request { region := 7, body := .fault { e with seq := q } } else s

/-- Stream one entry (R442): to local memory, or to the memory of a function. -/
def State.streamOne (s : State) (q : Nat) : State :=
  let s := { s with sl := { s.sl with streamed := q + 1 } }
  let size := 2 ^ s.get F.SL_STREAM_CFG_SIZE
  let wr := s.get F.SL_STREAM_WR_COUNT
  if (wr + 2 ^ 32 - s.get F.SL_STREAM_RD_COUNT) % 2 ^ 32 ≥ size then
    (s.count F.SL_STREAM_LOST_COUNT 1).latch slB 2
  else
    let data := Entry.bytes (mget entryD s.sl.ring q)
    let base := s.get F.SL_STREAM_BASE_LO_ADDR * 4096 + s.get F.SL_STREAM_BASE_HI_ADDR * 2 ^ 32
    let at_ := base + wr % size * 32
    let s := s.set F.SL_STREAM_WR_COUNT (wr + 1)
    if s.flag F.SL_STREAM_CFG_HOST then s.emit (.hostWrite (s.get F.SL_STREAM_CFG_PF) at_ data (!s.flag F.SL_STREAM_CFG_SNOOP))
    else s.memWrite false {} (at_ % memSize) data

/-- Stream the entries issued since the last one streamed. None is streamed before the RESET entry of a boot is complete. -/
def State.streamAll (s : State) : State :=
  if s.sl.resetSeq.isSome ∨ s.sl.holding then s
  else if s.flag F.SL_CTRL_STREAM_EN then
    (List.range (s.sl.next - s.sl.streamed)).foldl (fun s _ => s.streamOne s.sl.streamed) s
  else { s with sl := { s.sl with streamed := s.sl.next } }

/-- A control record that raises SEQ_FLOOR is already requested. -/
def floorAsked (q : List Rec) (next : Nat) : Bool :=
  q.any fun r => match r.body with
    | .control _ f _ => decide (next + 2 ^ 23 < f)
    | _ => false

/-- Request a higher SEQ_FLOOR when the next SEQ comes within 2^23 of it (R448). -/
def State.keepFloor (s : State) : State :=
  if s.sl.floor ≤ s.sl.next + 2 ^ 23 ∧ !floorAsked s.cl.queue s.sl.next then s.requestControl (s.sl.floor + 2 ^ 24) none else s

/-- The end of a tick for the Sillage log: its entries take their SEQ in order and are streamed. -/
def State.flush (s : State) : State :=
  if s.sl.batch = [] then s else
  let b := s.sl.batch
  ((b.foldl State.issue { s with sl := { s.sl with batch := [] } }).streamAll).keepFloor

/-- Release the entries of a boot (R440, R448): the RESET entry and a GAP entry take their SEQ, then the entries held. -/
def State.releaseBoot (s : State) : State :=
  if !s.sl.holding then s else
  let boot := s.sl.boot
  let held := s.sl.held
  let rs := s.sl.next
  let open_ := if s.sl.bootVer.isNone then some rs else none
  let s := { s with sl := { s.sl with holding := false, held := [], boot := [], resetSeq := open_ } }
  let boot := match boot, s.sl.bootVer with
    | e :: es, some v => { e with b := v } :: es
    | es, _ => es
  ((boot ++ held).foldl State.issue s).streamAll

/-- Complete the RESET entry with DV_BOOT_VER (R440). -/
def State.completeReset (s : State) (v : Nat) : State :=
  match s.sl.resetSeq with
  | some q =>
    let e := { mget entryD s.sl.ring q with b := v }
    ({ s with sl := { s.sl with resetSeq := none, ring := nput entryD s.sl.ring q e } }).streamAll
  | none => if s.sl.holding then { s with sl := { s.sl with bootVer := some v } } else s

/-- Count one write of a region (R446): CL_WEARr counts passes in units of 65,536, and CL_WEAR is raised above 9 × 10^9. -/
def State.wear (s : State) (region : Nat) : State :=
  let per := if region = 7 then 2048 else if region = 9 then 262144 else 1
  let n := mget (fun _ => 0) s.cl.writes region + 1
  let s := { s with cl := { s.cl with writes := nput (fun _ => 0) s.cl.writes region n } }
  let s := s.set (F.CL_WEAR_PASSES region) (n / per / 65536)
  if n = 9000000001 * per then (s.latch clB 4).raise 0x1FB else s

abbrev slotD : Nat → Option Entry := fun _ => none

/-- Write an entry into its slot of the audit mirror. -/
def State.mirrorPut (s : State) (q : Nat) (e : Entry) : State :=
  ({ s with cl := { s.cl with mirror := nput slotD s.cl.mirror (q % 262144) (some e), mirrorTop := some q } }).wear 9

/-- Mirror the oldest entry that is not mirrored (R441, R446). Nothing is mirrored while a record write is in progress,
before the RESET entry of a boot is complete, with the Cellar unhealthy, or after the seal. -/
def mirrorStep (s : State) : State :=
  if !s.healthy ∨ s.sl.holding ∨ s.sl.resetSeq.isSome ∨ s.cl.queue ≠ [] ∨ s.fc.clrWait ∨ s.dv.heldWrites ∨ s.sl.next ≤ s.sl.mirrored then s else
  let q := s.sl.mirrored
  let s : State := match s.sl.lost with
    | some (f, sec, ns) =>
      ({ s with sl := { s.sl with lost := none } }).mirrorPut f
        { seq := f, kind := 7, sec := sec, ns := ns, a := min (q - f) 0xFFFFFFFF }
    | none => s
  ({ s with sl := { s.sl with mirrored := q + 1 } }).mirrorPut q (mget entryD s.sl.ring q)

/-- A record goes into the slot that does not hold the newer valid copy, with the next generation, and is in force (R445). -/
def State.putRecord (s : State) (k : Nat) (body : RecBody) : State :=
  let old := mget storeD s.cl.store k
  { s with cl := { s.cl with store := nput storeD s.cl.store k (some (body, (old.map (·.2)).getD 0 + 1)), older := nput storeD s.cl.older k old } }

/-- A record that verifies is in force and ends the cause of CL_WRITE (R434). -/
def State.keepRecord (s : State) (r : Rec) : State :=
  let s := s.putRecord (recKey r) r.body
  { s with cl := { s.cl with failed := false } }

/-- What a record that verifies brings about (R443, R445, R448). -/
def State.recordKept (s : State) (r : Rec) : State :=
  match r.body with
  | .fault e =>
    { s with cl := { s.cl with history := nput slotD s.cl.history (s.cl.historyN % 2048) (some e), historyN := s.cl.historyN + 1, failed := false } }
  | .lastGood _ v _ =>
    (((s.keepRecord r).set (F.CL_LG_VINT_VINTAGE r.head) v).set (F.CL_LG_STAT_VALID r.head) 1).latch clB 1
  | .control _ f none => let s := s.keepRecord r; ({ s with sl := { s.sl with floor := f } }).releaseBoot
  | .control _ _ (some _) => let s := s.keepRecord r; { s with cl := { s.cl with sealDone := true } }
  | .regs _ _ _ =>
    let s := s.keepRecord r
    if r.region = 3 then s.latch [6, 0] 0x80 else if r.region = 4 then s.latch [15, 0] 1 else if r.region = 5 then s.latch [11, 0] 0x40000 else s
  | .time _ _ _ _ => s.keepRecord r

/-- A record write finishes and is read back (R445, R446); none does while the controller is in reset (R429). One that fails its read-back raises CL_WRITE and is written
again; a record that verifies is in force and ends the cause of CL_WRITE (R434). -/
def recordDone (ok : Bool) (s : State) : State :=
  match s.cl.queue with
  | [] => s
  | r :: q =>
    if s.fc.clrWait then s else
    let s := s.wear r.region
    let spoil (c : ClSt) : ClSt := if r.region = 7 then { c with failed := true } else { c with failed := true, older := nput storeD c.older (recKey r) none }
    if !ok then ({ s with cl := spoil s.cl }.latch clB 2).raise 0x1FA else
    let s := { s with cl := { s.cl with queue := q } }
    let s := { s with dv := { s.dv with rstReq := s.dv.rstReq.map fun (x : ResetReq) => { x with records := x.records - 1 } } }
    let s := if q = [] then s.set F.CL_STAT_BUSY 0 else s
    s.recordKept r

end Sys2Proof.Machine
end

