-- ==== Sys2Proof/Machine/RefIO.lean ====
section
/-! DEFINITION. Reference inputs and outputs (05): standards, genlock inputs, linear time code and source 3, PPS, 10 MHz and
ToD, the application of offsets, load, and the configuration record. -/

namespace Sys2Proof.Machine

def rfB : List Nat := [6, 0]

/-- The alignment period of a standard in units of 0.25 ns. -/
def stdQuarters (std : Nat) : Option Rat := (stdPeriod std).map fun p => ((p.1 * p.2.2 * 4000000000 : Nat) : Rat) / ((p.2.1 : Nat) : Rat)

/-- The reference inputs work: from boot step 4 (R31). -/
def State.rfIn (s : State) : Bool := decide (4 ≤ s.dv.step) && !s.dv.railsOff

/-! ### Source 3 (R133, R134) -/

abbrev ltcD : Nat → LtcSt := fun _ => {}

def State.ltc (s : State) (k : Nat) : LtcSt := mget ltcD s.rf.ltc k

def State.setLtc (s : State) (k : Nat) (x : LtcSt) : State := { s with rf := { s.rf with ltc := nput ltcD s.rf.ltc k x } }

/-- Source 3 is usable (R133). -/
def State.src3Ok (s : State) : Bool :=
  s.rf.locked.contains (s.get F.RF_CTRL_TB_IN) && (s.ltc (s.get F.RF_CTRL_TB_LTC)).ok && s.flag F.TB_UTC_VALID

/-- Follow whether source 3 is usable. -/
def State.src3Check (s : State) : State := if s.src3Ok then s.gainSource 3 else srcLost 3 s

/-- A write changed TB_IN or TB_LTC (R134). -/
def State.src3Changed (s : State) : State :=
  (if s.get F.TB_STATE_SRC = 3 then srcLost 3 s else s).src3Check

/-! ### Analogue inputs (R131, R132) -/

/-- Input k locks to a standard, `freq` in units of 10 ppb from nominal (R131). -/
def refLockOp (k std freq : Nat) (s : State) : State :=
  let f := signed 16 freq
  if !s.rfIn ∨ !s.flag (F.RF_IN_CTRL_EN k) ∨ s.rf.locked.contains k ∨ (stdPeriod std).isNone ∨
      (!s.flag (F.RF_IN_CTRL_AUTO k) ∧ s.get (F.RF_IN_CTRL_STD k) ≠ std) ∨ 10000 < f.natAbs then s else
  let s := { s with rf := { s.rf with locked := s.rf.locked ++ [k] } }
  let s := (s.set (F.RF_IN_STAT_DET_STD k) std).set (F.RF_IN_STAT_FREQ k) freq
  (s.latch rfB (2 ^ k)).src3Check

/-- Input k loses lock (R131). -/
def refLossOp (k : Nat) (s : State) : State :=
  if !s.rf.locked.contains k then s else
  let s := { s with rf := { s.rf with locked := s.rf.locked.filter (· != k) } }
  let s := ((s.set (F.RF_IN_STAT_DET_STD k) 0).count (F.RF_IN_LOSS_COUNT k) 1).latch rfB (2 ^ k)
  (s.raise 0x048 k).src3Check

/-- A number wrapped into [−p/2, p/2). -/
def wrapRat (p x : Rat) : Rat := x - p * ((x / p + 1 / 2).floor : Rat)

/-- A number without its fraction. -/
def truncRat (x : Rat) : Int := if 0 ≤ x then x.floor else x.ceil

/-- The count in units of 0.25 ns. -/
def quartersOf (t : Stamp) : Rat := ((unitsOf t : Nat) : Rat) / (2 ^ 30 : Rat)

/-- Input k reports its phase and frequency (R132): `at_` is the alignment point that it measured, and the nearest one computed from
the count is the nearest multiple of the alignment period. -/
def refPhaseOp (k : Nat) (at_ : Stamp) (freq : Int) (s : State) : State :=
  if !s.rf.locked.contains k then s else
  match stdQuarters (s.get (F.RF_IN_STAT_DET_STD k)) with
  | none => s
  | some p =>
    let s := s.set (F.RF_IN_PHASE_PHASE k) (pattern 32 (truncRat (wrapRat p (quartersOf at_))))
    s.set (F.RF_IN_STAT_FREQ k) (pattern 16 (clampI (-32768) 32767 freq))

/-! ### LTC inputs (R133, R138) -/

/-- Labels a second that a rate counts, and the frame rate N / D (R138). -/
def ltcRate (rate : Nat) : Nat × Nat × Nat :=
  match rate with
  | 0 => (24, 24, 1) | 1 => (25, 25, 1) | 2 => (30, 30, 1) | 5 => (24, 24000, 1001) | _ => (30, 30000, 1001)

/-- The number of a label within its day: drop-frame leaves out two numbers each minute but the tenth (R138). -/
def labelNumber (rate h m sec f : Nat) : Nat :=
  let n := ((h * 60 + m) * 60 + sec) * (ltcRate rate).1 + f
  if rate = 3 then n - 2 * (h * 60 + m - (h * 60 + m) / 10) else n

/-- The labels of a day. -/
def labelsPerDay (rate : Nat) : Nat := if rate = 3 then 2589408 else 86400 * (ltcRate rate).1

/-- The number of the label at the daily jam (R138): the clock time of RF_JAM. -/
def State.jamLabel (s : State) (rate : Nat) : Nat :=
  let j := s.get F.RF_JAM_SEC
  labelNumber rate (j / 3600) (j / 60 % 60) (j % 60) (if rate = 3 ∧ j % 60 = 0 ∧ j / 60 % 10 ≠ 0 then 2 else 0)

/-- The number nearest to 0. -/
def nearest0 (x : Rat) (ys : List Rat) : Rat := ys.foldl (fun a b => if b * b < a * a then b else a) x

/-- How far the arrival of a word lies after the TAI instant of its label, in seconds (R133, R138). For a 1/1.001 rate the label
counts frames from the one that began at or after the last jam; a label that comes twice between two jams, once just before the
second, is taken at its nearer instant. -/
def State.labelLag (s : State) (k rate n : Nat) (at_ : Stamp) : Rat :=
  let r := ltcRate rate
  let zone := signed 32 (s.get (F.RF_LTCIN_ZONE_SEC k))
  let ofs : Int := (s.get F.TB_UTC_OFS : Nat)
  let arrival : Rat := ((at_.sec : Nat) : Rat) + ((at_.ns : Nat) : Rat) / 1000000000
  if rate < 3 then wrapRat 86400 (arrival - ((ofs - zone : Int) : Rat) - ((n : Nat) : Rat) / ((r.1 : Nat) : Rat))
  else
    let jam : Int := (s.get F.RF_JAM_SEC : Nat)
    let day : Int := ((at_.sec : Int) - ofs + zone - jam) / 86400
    let d := labelsPerDay rate
    let m := (n + d - s.jamLabel rate) % d
    let firstOf (day : Int) : Int :=
      (((day * 86400 + jam - zone + ofs : Int) : Rat) * ((r.2.1 : Nat) : Rat) / ((r.2.2 : Nat) : Rat)).ceil
    let lag (day : Int) (i : Nat) : List Rat :=
      let f := firstOf day + (m + i * d : Nat)
      if f < firstOf (day + 1) then [arrival - (f : Rat) * ((r.2.2 : Nat) : Rat) / ((r.2.1 : Nat) : Rat)] else []
    nearest0 86400 (lag (day - 1) 0 ++ lag (day - 1) 1 ++ lag day 0 ++ lag day 1 ++ lag (day + 1) 0)

/-- The LTC frame period is the reference frame period or twice it (R133). -/
def State.ltcPairs (s : State) (rate : Nat) : Bool :=
  match stdPeriod (s.get (F.RF_IN_STAT_DET_STD (s.get F.RF_CTRL_TB_IN))) with
  | some p =>
    let r := ltcRate rate
    r.2.1 * p.2.2 == p.2.1 * r.2.2 || 2 * r.2.1 * p.2.2 == p.2.1 * r.2.2
  | none => false

/-- A word is consistent with the time of its arrival and with the label before it (R133). -/
def State.ltcConsistent (s : State) (k : Nat) (w : LtcWord) : Bool :=
  let rate := s.get (F.RF_LTCIN_CTRL_RATE k)
  let r := ltcRate rate
  let n := labelNumber rate w.hours w.minutes w.seconds w.frames
  let diff := s.labelLag k rate n w.arrival
  let half := ((r.2.2 : Nat) : Rat) / ((2 * r.2.1 : Nat) : Rat)
  let next : Bool := match (s.ltc k).last with
    | some l => n == (l + 1) % labelsPerDay rate || (decide (3 ≤ rate) && n == s.jamLabel rate)
    | none => false
  !w.bitErrors && decide (-half ≤ diff) && decide (diff ≤ half) && next && s.ltcPairs rate

/-- LTC input k changes between present and not. -/
def State.ltcTurn (s : State) (k : Nat) (ok : Bool) : State :=
  if (s.ltc k).ok = ok then s else
  let s := (s.setLtc k { s.ltc k with ok := ok }).latch rfB (2 ^ (2 + k))
  let s := if !ok ∧ s.get F.RF_CTRL_TB_LTC = k then s.raise 0x049 k else s
  s.src3Check

/-- A decimal number in BCD. -/
def bcd (n : Nat) : Nat := n / 10 % 10 * 16 + n % 10

/-- LTC input k receives a word (R133). -/
def ltcWordOp (k : Nat) (w : LtcWord) (s : State) : State :=
  if !s.rfIn ∨ !s.flag (F.RF_LTCIN_CTRL_EN k) then s else
  let good := s.ltcConsistent k w
  let label := bcd w.hours * 2 ^ 24 + bcd w.minutes * 2 ^ 16 + bcd w.seconds * 256 + b2n w.dropFrame * 64 + bcd w.frames
  let s := (s.wr (.RF_LTCIN_LABEL, [k]) (w32 label)).wr (.RF_LTCIN_UB, [k]) w.userBits
  let bad := if good then 0 else (s.ltc k).bad + 1
  let n := labelNumber (s.get (F.RF_LTCIN_CTRL_RATE k)) w.hours w.minutes w.seconds w.frames
  let s := s.setLtc k { s.ltc k with last := if w.bitErrors then (s.ltc k).last.map (· + 1) else some n, bad := bad }
  if good then s.ltcTurn k true else if 3 ≤ bad then s.ltcTurn k false else s

/-- Expected words of LTC input k are missing, n of them: with the words before them that were missing or inconsistent, three end its
presence (R133). -/
def ltcMissingOp (k n : Nat) (s : State) : State :=
  let x := s.ltc k
  let rate := s.get (F.RF_LTCIN_CTRL_RATE k)
  let s := s.setLtc k { x with last := x.last.map fun l => (l + n) % labelsPerDay rate, bad := x.bad + n }
  if 3 ≤ x.bad + n then s.ltcTurn k false else s

/-! ### PPS, 10 MHz and ToD (R107, R141, R142) -/

/-- Follow whether source 2 is usable. -/
def State.src2Check (s : State) : State :=
  let ok := s.flag F.RF_PPS_CTRL_IN_EN && s.tb.tenOk && s.rf.ppsOk
  if ok = s.rf.ppsUse then s else
  let s := { s with rf := { s.rf with ppsUse := ok } }
  if ok then s.gainSource 2 else srcLost 2 ((s.latch rfB 0x10).raise 0x04A)

/-- A PPS edge less its compensation, with the count of 10 MHz cycles (R107, R141): it must fall on a whole second of that count
within 10 cycles, and a valid sentence must have followed the edge before it. -/
def ppsEdgeOp (t : Stamp) (ten : Nat) (s : State) : State :=
  if !s.rfIn ∨ !s.flag F.RF_PPS_CTRL_IN_EN then s else
  let comp := s.get F.RF_PPSIN_COMP_DELAY * 2 ^ 30
  let aligned : Bool := match s.rf.edge with
    | some (_, n) => let d := (ten - n) % 10000000; decide (n < ten) && (decide (d ≤ 10) || decide (9999990 ≤ d))
    | none => false
  ({ s with rf := { s.rf with edge := some (ofUnits (unitsOf t - comp), ten), ppsOk := aligned && !s.rf.todDue, todDue := true } }).src2Check

/-- The 10 MHz input leaves tolerance, or a PPS edge fails to come (R107). -/
def ppsLossOp (s : State) : State := ({ s with rf := { s.rf with edge := none, ppsOk := false, todDue := false } }).src2Check

/-- TEN_IN starts or stops meeting the 10 MHz condition (R487): with IN_EN = 1 the time PLL takes it as its reference. -/
def tenMhzOp (ok : Bool) (s : State) : State := ({ s with tb := { s.tb with tenOk := ok } }).src2Check

/-- The reference of the time PLL is TEN_IN, not TOSC_IN (R487). -/
def State.pllOnTen (s : State) : Bool := s.flag F.RF_PPS_CTRL_IN_EN && s.tb.tenOk

def asciiOf (t : String) : List Nat := t.toList.map Char.toNat

/-- Decimal digits of a number, at least `width` of them. -/
def decimals (width n : Nat) : List Nat := (List.range width).reverse.map fun i => 48 + n / 10 ^ i % 10

/-- The shortest decimal digits of a number. -/
def shortDecimal (n : Nat) : List Nat := (toString n).toList.map Char.toNat

/-- An upper-case hexadecimal digit. -/
def hexDigit (n : Nat) : Nat := if n < 10 then 48 + n else 55 + n

/-- The exclusive-OR of characters (R142). -/
def xorAll (cs : List Nat) : Nat := cs.foldl Nat.xor 0

/-- A sentence (R142): the characters from $ to the line feed around its body. -/
def todFrame (body : List Nat) : List Nat :=
  let x := xorAll body
  asciiOf "$" ++ body ++ asciiOf "*" ++ [hexDigit (x / 16), hexDigit (x % 16), 13, 10]

/-- The number of fields that commas part. -/
def fieldsOf (cs : List Nat) : Nat := (cs.filter (· == 44)).length + 1

/-- An input sentence is valid (R142): its frame, checksum and field count are right, and it ends within 500 ms of the edge. -/
def todValid (m : TodSentence) : Bool :=
  let cs := m.chars.map (·.toNat)
  let body := (cs.drop 1).take (cs.length - 6)
  decide (6 ≤ cs.length) && todFrame body == cs && body.take 5 == asciiOf "NTOD," && fieldsOf body == 6 && decide (m.delayMs ≤ 500)

/-- A ToD sentence is received (R142). -/
def todRxOp (m : TodSentence) (s : State) : State :=
  if !s.rfIn ∨ !s.flag F.RF_PPS_CTRL_TOD_IN then s
  else if todValid m ∧ s.rf.edge.isSome then { s with rf := { s.rf with todOk := true, todDue := false } }
  else (({ s with rf := { s.rf with todOk := false } }).latch rfB 0x20).raise 0x04B

/-- The sentence of the UTC second that began at a TAI second (R142). -/
def State.todBody (s : State) (sec : Nat) : List Nat :=
  let u := s.utcOf sec
  let date := dateOf (u.secs / 86400)
  let t := u.secs % 86400
  let leap := if s.flag F.TB_UTC_LEAP61 then "P" else if s.flag F.TB_UTC_LEAP59 then "M" else "0"
  let st := if s.get F.TB_STATE_STATE = 6 then "L" else if s.get F.TB_STATE_STATE = 7 then "H" else if s.get F.TB_STATE_STATE = 5 then "A" else "F"
  asciiOf "NTOD," ++ decimals 4 date.1 ++ decimals 2 date.2.1 ++ decimals 2 date.2.2 ++ asciiOf "," ++ decimals 2 (t / 3600) ++
    decimals 2 (t / 60 % 60) ++ decimals 2 (t % 60 + b2n u.leap) ++ asciiOf "," ++ shortDecimal (s.get F.TB_UTC_OFS) ++ asciiOf "," ++
    asciiOf leap ++ asciiOf "," ++ asciiOf st

/-! ### Outputs (R144) -/

/-- Output k enters current limit (R144). -/
def outLoadOp (k : Nat) (s : State) : State :=
  if !s.flag (F.RF_OUT_CTRL_EN k) ∨ s.rf.load.contains k then s else
  (({ s with rf := { s.rf with load := s.rf.load ++ [k] } }).latch rfB 0x40).raise 0x04C k

/-- Output k leaves current limit. -/
def outLoadEndOp (k : Nat) (s : State) : State := { s with rf := { s.rf with load := s.rf.load.filter (· != k) } }

/-! ### The configuration record (R143) -/

/-- The registers of the reference record: control, offset, jam and zone registers of every output and input. -/
def rfRecord : List Key :=
  [(.RF_CTRL, []), (.RF_JAM, []), (.RF_PPS_CTRL, []), (.RF_PPS_WIDTH, []), (.RF_PPS_OFS, []), (.RF_PPSIN_COMP, [])] ++
    ((List.range 2).flatMap fun k => [(.RF_IN_CTRL, [k]), (.RF_LTCIN_CTRL, [k]), (.RF_LTCIN_ZONE, [k]), (.RF_DARS_CTRL, [k]), (.RF_DARS_OFS, [k])]) ++
    ((List.range 4).flatMap fun k =>
      [(.RF_OUT_CTRL, [k]), (.RF_OUT_OFS, [k]), (.RF_LTCOUT_CTRL, [k]), (.RF_LTCOUT_OFS, [k]), (.RF_LTCOUT_UB, [k])])

end Sys2Proof.Machine
end

