-- ==== Sys2Proof/Machine/Spemen.lean ====
section
/-! DEFINITION. Spemen ports (17): the loop supervisor (R390 to R397) and the link (R398 to R403). -/

namespace Sys2Proof.Machine

def spB : List Nat := [11, 0]

abbrev spD : Nat → SpSt := fun _ => {}

def State.sp (s : State) (n : Nat) : SpSt := mget spD s.sps n
def State.setSp (s : State) (n : Nat) (x : SpSt) : State := { s with sps := nput spD s.sps n x }
def State.updSp (s : State) (n : Nat) (f : SpSt → SpSt) : State := s.setSp n (f (s.sp n))

/-- SPn_STAT.STATE. -/
def State.spSt (s : State) (n : Nat) : Nat := s.get (F.SPP_STAT_STATE n)

/-- The origin of a fault of port n (R406). -/
def spOrg (n : Nat) : Org := ⟨0, n⟩

/-! ### Loop power -/

/-- The ports in one of some states. -/
def State.spIn (s : State) (sts : List Nat) : List Nat := (List.range 8).filter fun n => sts.contains (s.spSt n)

/-- The sum of BUDGET over ports. -/
def State.spBudgets (s : State) (ns : List Nat) : Nat := ns.foldl (fun a n => a + s.get (F.SPP_LIMITS_BUDGET n)) 0

/-- The link of a port goes down with no SP_LINK_LOST (R403). -/
def State.spUnlink (s : State) (n : Nat) : State :=
  let was := s.flag (F.SPP_STAT_LINK n)
  let s := (s.set (F.SPP_STAT_LINK n) 0).set (F.SPP_STAT_VER n) 0
  let s := s.set ⟨(.DV_IFV_SP, []), 2 * n + 1, 2 * n⟩ 0
  let s := s.updSp n fun x => { x with select := false, sync := none, reply := none, missed := 0, latched := false, image := none, timed := false, noCommon := false }
  if was then s.latch spB (2 ^ (8 + n)) else s

/-- Change the supervisor state of a port: PWR_CHG latches when ON changes, GRANT follows, and a port that leaves ON loses its
link. -/
def State.spMove (s : State) (n st : Nat) : State :=
  let was := s.spSt n
  let s := s.set (F.SPP_STAT_STATE n) st
  let s := s.set F.SP_LOOP_GRANT (s.spBudgets (s.spIn [3]))
  let acc := if st = 1 ∨ st = 2 ∨ st = 3 then (s.sp n).acc else 0
  let s := s.updSp n fun x => { x with above := 0, since := s.tick, acc := acc }
  let s := s.set (F.SPP_POWER_I2T_ACC n) (min (acc / 1000000) 65535)
  let s := if (was = 3) = (st = 3) then s else s.latch spB (2 ^ n)
  if was = 3 ∧ st ≠ 3 then s.spUnlink n else s

/-- A port trips or is refused (R393, R395): state 4 or 5, with its cause and source. -/
def State.spFail (s : State) (n st cause src : Nat) : State :=
  let trips := min (s.get (F.SPP_STAT_TRIPS n) + 1) 15
  let s := (s.set (F.SPP_STAT_CAUSE n) cause).set (F.SPP_STAT_TRIPS n) trips
  let s := (s.count (F.SPP_TRIPS_COUNT n) 1).raise src 0 (spOrg n)
  if s.get (F.SPP_LIMITS_MAX_TRIPS n) ≤ trips then (s.spMove n 6).raise 0x1D2 0 (spOrg n) else s.spMove n st

def State.spRefuse (s : State) (n cause : Nat) : State := s.spFail n 5 cause 0x1D1

/-- A port trips (R393). A second cause in the microsecond of the trip replaces a higher one. -/
def State.spTrip (s : State) (n cause : Nat) : State :=
  if s.spSt n = 1 ∨ s.spSt n = 2 ∨ s.spSt n = 3 then (s.updSp n fun x => { x with tripped := some s.tick }).spFail n 4 cause 0x1D0
  else if (s.sp n).tripped.any (fun t => t / 400 == s.tick / 400) ∧ cause < s.get (F.SPP_STAT_CAUSE n) ∧ s.spSt n ≠ 0 then
    s.set (F.SPP_STAT_CAUSE n) cause
  else s

/-- The supply lies in the range for a start. -/
def State.spSupplyOk (s : State) : Bool := decide (2280 ≤ s.get F.SP_VSUP_V) && decide (s.get F.SP_VSUP_V ≤ 2520)

/-- A port enters MEASURE, and the supply and budget checks are made (R390). -/
def State.spMeasure (s : State) (n : Nat) : State :=
  let s := s.spMove n 1
  if !s.spSupplyOk then s.spRefuse n 3
  else if s.get F.SP_LOOP_MAX_LIMIT < s.spBudgets (s.spIn [2, 3]) + s.get (F.SPP_LIMITS_BUDGET n) then s.spRefuse n 4
  else s

/-- Loop power is permitted: from boot step 4, and not in SHUTDOWN (R397). -/
def State.spPowered (s : State) : Bool := decide (4 ≤ s.dv.step) && !s.dv.shutting && !s.fc.shut

/-- An accepted write of EN = 1 (R390, R395). -/
def State.spOn (s : State) (n : Nat) : State := if s.spSt n = 0 ∧ s.spPowered then s.spMeasure n else s

/-- An accepted write of EN = 0 (R395). -/
def State.spOff (s : State) (n : Nat) : State :=
  let s := s.set (F.SPP_STAT_TRIPS n) 0
  if s.spSt n = 0 then s else s.spMove n 0

/-- Every gate is turned off, at the entry to SHUTDOWN (R397). -/
def State.spAllOff (s : State) : State :=
  (List.range 8).foldl (fun s n => if s.spSt n = 0 then s else s.spMove n 0) s

/-- At boot step 4 the ports with EN = 1 start at MEASURE (R397). -/
def State.spBoot (s : State) : State :=
  (List.range 8).foldl (fun s n => if s.flag (F.SPP_CTRL_EN n) then s.spOn n else s) s

/-- The capacitance ramp ends (R391). -/
def spMeasureOp (n : Nat) (r : SpRamp) (s : State) : State :=
  if s.spSt n ≠ 1 then s else
  if 1400 ≤ r.peak then s.spTrip n 5
  else if !r.reached ∨ 700 < r.peak then s.spRefuse n 2
  else
    let c := min (ceilDiv (5 * r.charge - r.hold * r.integral) 2500) 4095
    let s := s.set (F.SPP_CAP_C n) c
    if 694 < c then s.spRefuse n 1 else s.spMove n 2

/-- The 20 ms of ENERGISE end (R392). -/
def spEnergiseOp (n : Nat) (s : State) : State :=
  if s.spSt n = 2 ∧ (s.sp n).since + ticksNs 20000000 ≤ s.tick then s.spMove n 3 else s

/-- A current at or above 1.4 A (R393). -/
def spFastOp (n mA : Nat) (s : State) : State :=
  let s := s.set (F.SPP_MEAS_I n) (min mA 4095)
  if 1400 ≤ mA then s.spTrip n 5 else s

/-- One microsecond of the I2t accumulator (R393). -/
def spI2tOp (n mA cV : Nat) (s : State) : State :=
  let s := (s.set (F.SPP_MEAS_I n) (min mA 4095)).set (F.SPP_MEAS_V n) (min cV 4095)
  if !(s.spSt n = 1 ∨ s.spSt n = 2 ∨ s.spSt n = 3) then s else
  let acc := (s.sp n).acc + mA * mA - 490000
  let s := (s.updSp n fun x => { x with acc := acc }).set (F.SPP_POWER_I2T_ACC n) (min (acc / 1000000) 65535)
  if 1400 ≤ mA then s.spTrip n 5 else if s.get (F.SPP_LIMITS_I2T n) * 1000000 < acc then s.spTrip n 6 else s

/-- Note the supply voltage, in units of 10 mV: SUPPLY latches when it enters or leaves its range. -/
def State.spSetSupply (s : State) (cV : Nat) : State :=
  let was := s.spSupplyOk
  let s := s.set F.SP_VSUP_V (min cV 4095)
  if was = s.spSupplyOk then s else s.latch spB 0x20000

/-- The supply is measured: below 18 V every energised port goes off (R393). -/
def spSupplyOp (cV : Nat) (s : State) : State :=
  let s := s.spSetSupply cV
  if 1800 ≤ cV then s else (s.spIn [1, 2, 3]).foldl (fun s n => s.spTrip n 3) s

/-- One port at a whole TAI second (R393). -/
def State.spSecond1 (s : State) (means : List Nat) (n : Nat) : State :=
  let m := means.getD n 0
  let s := s.set (F.SPP_POWER_MEAN n) (min m 4095)
  if s.spSt n ≠ 3 then s
  else if m ≤ 10 * s.get (F.SPP_LIMITS_BUDGET n) then s.updSp n fun x => { x with above := 0 }
  else if 1 ≤ (s.sp n).above then s.spTrip n 7
  else s.updSp n fun x => { x with above := 1 }

/-- A whole TAI second (R393, R394). -/
def spSecondOp (m : SpSecond) (s : State) : State :=
  let s := spSupplyOp m.supply s
  let total := m.means.foldl (· + ·) 0
  let s := s.set F.SP_LOOP_MEAN (min (total / 10) 1023)
  let s := (List.range 8).foldl (fun s n => s.spSecond1 m.means n) s
  if total ≤ 10 * s.get F.SP_LOOP_MAX_LIMIT then s else
  let on := (s.spIn [3]).reverse
  match (on.find? fun n => decide (10 * s.get (F.SPP_LIMITS_BUDGET n) < m.means.getD n 0)) <|> on.head? with
  | some n => ((s.latch spB 0x10000).raise 0x1D5 0 (spOrg n)).spTrip n 7
  | none => (s.latch spB 0x10000).raise 0x1D5

/-- SP_LOOP_MAX has been lowered: ON ports go off in descending order until the grant sum fits (R394). -/
def State.spLoopMax (s : State) : State :=
  (List.range 8).reverse.foldl (fun s n =>
    if s.spSt n = 3 ∧ s.get F.SP_LOOP_MAX_LIMIT < s.spBudgets (s.spIn [3]) then s.spRefuse n 4 else s) s

/-- RETRY seconds after a trip or refusal (R395). -/
def spRetryOp (n : Nat) (s : State) : State :=
  if (s.spSt n = 4 ∨ s.spSt n = 5) ∧ (s.sp n).since + ticksS (s.get (F.SPP_LIMITS_RETRY n)) ≤ s.tick ∧ s.spPowered then s.spMeasure n else s

/-- 60 s of continuous ON (R395). -/
def spTripsOp (n : Nat) (s : State) : State :=
  if s.spSt n = 3 ∧ (s.sp n).since + ticksS 60 ≤ s.tick then s.set (F.SPP_STAT_TRIPS n) 0 else s

/-- Current flows, or no longer flows, with the gate off (R396). -/
def spGateOp (n : Nat) (live : Bool) (s : State) : State :=
  if !live then s.set (F.SPP_STAT_GATE_FAULT n) 0
  else if s.spSt n = 1 ∨ s.spSt n = 2 ∨ s.spSt n = 3 ∨ s.flag (F.SPP_STAT_GATE_FAULT n) then s
  else (s.set (F.SPP_STAT_GATE_FAULT n) 1).raise 0x1D7 0 (spOrg n)

/-! ### The link -/

/-- Data runs on port n: ON, DATA = 1, outside MAINTENANCE (R397). -/
def State.spData (s : State) (n : Nat) : Bool := s.spSt n == 3 && s.flag (F.SPP_CTRL_DATA n) && !s.dv.maint

/-- The link manager on CU18 is ready. -/
def State.spManager (s : State) : Bool := nbit (s.get F.DV_SVC_READY_READY) 2

/-- Send a frame (R398). -/
def State.spSend (s : State) (n type : Nat) (payload : List Byte) : State :=
  let body := bytesLE 1 type ++ bytesLE 1 (s.sp n).seq ++ bytesLE 2 payload.length ++ payload
  (s.updSp n fun x => { x with seq := (x.seq + 1) % 256 }).emit (.spFrame n (body ++ bytesLE 4 (crc32c body)))

/-- HELLO, every 100 ms while no link is up (R399). -/
def spHelloOp (n : Nat) (s : State) : State :=
  let x := s.sp n
  if !s.spData n ∨ !s.spManager ∨ s.flag (F.SPP_STAT_LINK n) ∨ x.hello.any (fun t => decide (s.tick < t + ticksNs 100000000)) then s
  else (s.setSp n { x with hello := some s.tick, select := false }).spSend n 1 (bytesLE 1 7 ++ bytesLE 1 n)

/-- The highest version that is set in both bytes (R399). -/
def commonVersion (a : Nat) : Nat := if nbit a 2 then 3 else if nbit a 1 then 2 else if nbit a 0 then 1 else 0

/-- A CAPS reply (R399). One whose CRC or length is wrong is discarded and counted (R398). -/
def spCapsOp (n : Nat) (c : SpCaps) (s : State) : State :=
  if !c.crcOk then (if s.spData n then s.count (F.SPP_LINK_ERR_ERRORS n) 1 else s)
  else if !s.spData n ∨ !s.spManager ∨ s.flag (F.SPP_STAT_LINK n) ∨ (s.sp n).hello.isNone then s else
  let s := s.wr (.SPP_HEAD_ID, [n]) c.headId
  let s := (s.wr (.SPP_HEAD_CAP, [n]) (c.cap &&& w32 0xFF00FFFF)).set (F.SPP_HEAD_CAP_VERSIONS n) c.versions
  let v := commonVersion c.versions
  if v = 0 then
    if (s.sp n).noCommon then s else (s.updSp n fun x => { x with noCommon := true, select := false }).raise 0x014 0 (ifaceOrg 2 n)
  else
    let s := (s.set (F.SPP_STAT_VER n) v).set ⟨(.DV_IFV_SP, []), 2 * n + 1, 2 * n⟩ v
    (s.updSp n fun x => { x with select := true, noCommon := false }).spSend n 3 (bytesLE 1 v)

/-- The update rate of port n (R400). -/
def State.spRate (s : State) (n : Nat) : Nat := [10, 25, 50, 100].getD (s.get (F.SPP_CTRL_UPDATE n)) 10

/-- A time after the last SYNC of port n, in microseconds, has come. -/
def State.spAfter (s : State) (n us : Nat) : Bool :=
  (s.sp n).sync.any fun k => decide (ceilDiv (k * 1000000000 * 2 ^ 32) (s.spRate n) + us * 1000 * 2 ^ 32 ≤ s.now)

/-- A STATUS frame: it brings the link up, or reports holdover (R399, R403, R404). A bad one counts as missing, and so does one that
comes after the reply window of R400 (log 90). -/
def spStatusOp (n : Nat) (f : SpStatusFrame) (s : State) : State :=
  if !s.spData n then s
  else if !f.crcOk then
    let s := s.count (F.SPP_LINK_ERR_ERRORS n) 1
    s.updSp n fun x => { x with reply := x.reply <|> some false }
  else
    let hold (s : State) := if nbit f.flags 0 then (s.set (F.SPP_STAT_HOLD n) 1).count (F.SPP_LINK_ERR_HOLDS n) 1 else s
    if s.flag (F.SPP_STAT_LINK n) then
      (if s.spAfter n 250 then s else hold (s.updSp n fun x => { x with reply := some true }))
    else if (s.sp n).select ∧ s.spManager then
      let s := ((s.set (F.SPP_STAT_LINK n) 1).set (F.SPP_STAT_HOLD n) 0).latch spB (2 ^ (8 + n))
      hold (s.updSp n fun x => { x with select := false, missed := 0, reply := none, sync := none })
    else s

/-- The number of the last update instant that has come. -/
def State.spInstant (s : State) (n : Nat) : Nat := s.now * s.spRate n / (1000000000 * 2 ^ 32)

/-- An update instant (R400): the reply of the period that ends is judged (R403), and SYNC goes out. -/
def spSyncOp (n : Nat) (s : State) : State :=
  let x := s.sp n
  let k := s.spInstant n
  if !s.spData n ∨ !s.flag (F.SPP_STAT_LINK n) ∨ x.sync = some k then s else
  let bad := x.sync.isSome && x.reply != some true
  let s := if bad ∧ x.reply = none then s.count (F.SPP_LINK_ERR_ERRORS n) 1 else s
  if bad ∧ 2 ≤ x.missed then (s.spUnlink n).raise 0x1D3 0 (spOrg n)
  else
    (s.setSp n { s.sp n with sync := some k, reply := none, missed := if bad then x.missed + 1 else 0, latched := false, image := none, timed := false }).emit (.spSync n)

/-! ### The image (R401, R402) -/

/-- A 4-bit intensity of a working-space pixel. -/
def intensity (p : Px) : Nat :=
  (15 * (clampQ 0 1 (2627 / 10000 * p.r + 6780 / 10000 * p.g + 593 / 10000 * p.b)).1 + 1 / 2).floor.toNat

/-- Two pixels a byte, the even one in bits [3:0]. -/
def nibbles : List Nat → List Byte
  | [] => []
  | [a] => [BitVec.ofNat 8 a]
  | a :: b :: r => BitVec.ofNat 8 (a + 16 * b) :: nibbles r

/-- The item of port n and its size in pixels (R311, R402). -/
def State.spItem (s : State) (n : Nat) : Nat := s.getE (F.SPP_MAP_ITEM n)

/-- The port shows nothing of its item (R402). -/
def State.spDark (s : State) (n : Nat) : Bool :=
  let i := s.spItem n
  let z := s.dtNative i
  let w := z.1 / 4
  s.getE (F.SPP_MAP_ITEM_EN n) == 0 || w == 0 || z.2 == 0 || decide (s.get (F.SPP_HEAD_CAP_W n) < w) || decide (s.get (F.SPP_HEAD_CAP_H n) < z.2) ||
    decide (256 < w) || decide (64 < z.2) || (s.get (F.SPP_STAT_VER n) == 1 && !(decide (i < 64) && s.get (F.DT_D_SIZE_STYLE i) == 1))

/-- The time shown for update instant k of port n, in seconds. -/
def State.spTime (s : State) (n k : Nat) : Rat := ((k : Nat) : Rat) / ((s.spRate n : Nat) : Rat)

/-- The tally bytes of a frame (R401). -/
def State.spTally (s : State) (n : Nat) : List Byte :=
  let on := tallied (s.dt (16 + n)) (s.getE (F.SPP_MAP_TALLY n))
  if s.get (F.SPP_STAT_VER n) = 3 then
    bytesBE 3 (if on then s.getE (F.SPP_TALLY_ON_RGB n) else s.getE (F.SPP_TALLY_OFF_RGB n))
  else bytesLE 1 (b2n on)

/-- The payload of SEG: cells, segments of each digit, colons, intensity, tally. -/
def State.segPayload (s : State) (n k : Nat) : List Byte :=
  let l := s.dt (16 + n)
  let i := s.spItem n
  if s.spDark n then
    let cells := if Config.darkSix n then 6 else 4
    bytesLE 1 cells ++ List.replicate cells 0 ++ bytesLE 1 0 ++ bytesLE 1 0 ++ s.spTally n
  else
    let ctl : Key := (.DT_D_CTRL, [i])
    let scale := l.f ctl 2 1
    let c := s.clock l (s.spTime n k) scale (l.f ctl 7 3) (l.f (.DT_D_DELAY, [i]) 15 0)
    let cells := segCells c (l.f (.DT_D_SIZE, [i]) 17 17 == 1)
    let off := l.f ctl 0 0 == 0 || s.alertHides scale (l.f ctl 9 8) c.frac
    let digits := cells.filterMap id
    let colons := (cells.filter (·.isNone)).length
    let colour := if s.alert scale ∧ l.f ctl 9 8 = 1 then 4 else 1
    bytesLE 1 digits.length ++ digits.map (fun d => BitVec.ofNat 8 (if off then 0 else segBits d)) ++
      bytesLE 1 (if off then 0 else 2 ^ colons - 1) ++ bytesLE 1 (intensity (dtColour (l.rd (.DT_D_COL, [i, colour])))) ++ s.spTally n

/-- The payload of BITMAP: width, height, tally, pixels. -/
def State.bitmapPayload (s : State) (n k : Nat) : List Byte :=
  let l := s.dt (16 + n)
  let i := s.spItem n
  let dark := s.spDark n
  let z : Nat × Nat := if dark then Config.darkSize n else ((s.dtNative i).1 / 4, (s.dtNative i).2)
  let px (x y : Nat) : Nat := if dark then 0 else intensity (s.itemPixel l i (s.spTime n k) Config.portFrame x y).1
  bytesLE 2 z.1 ++ bytesLE 1 z.2 ++ s.spTally n ++
    nibbles ((List.range z.2).flatMap fun y => (List.range z.1).map fun x => px x y)

/-- 250 microseconds after SYNC: the item, its tally source and the colours are latched and rendered (R400 to R402). -/
def spLatchOp (n : Nat) (s : State) : State :=
  match (s.sp n).sync with
  | none => s
  | some k =>
    if !s.spData n ∨ (s.sp n).latched ∨ !s.spAfter n 250 then s else
    let mine (key : Key) : Bool := key == (.SPP_MAP, [n]) || key == (.SPP_TALLY_ON, [n]) || key == (.SPP_TALLY_OFF, [n])
    let s := s.applyWaiting mine
    let s := s.latchItems (16 + n) [s.spItem n]
    let dark := s.spDark n
    let was := s.flag (F.SPP_STAT_MAP_ERR n)
    let s := s.set (F.SPP_STAT_MAP_ERR n) (b2n dark)
    let s := if dark ∧ !was then s.raise 0x1D4 0 (spOrg n) else s
    let image := if s.get (F.SPP_STAT_VER n) = 1 then s.segPayload n (k + 1) else s.bitmapPayload n (k + 1)
    s.updSp n fun x => { x with latched := true, image := some image }

/-- A v3 port sends TIME in the last period before a whole second (R400). -/
def State.spTimeDue (s : State) (n : Nat) : Bool :=
  s.get (F.SPP_STAT_VER n) == 3 && (s.sp n).sync.any fun k => (k + 1) % s.spRate n == 0

/-- The frame of a port may be sent: its image is latched, 1,000 microseconds have passed since SYNC, and a TIME frame that is due has
gone before it. -/
def State.spSendImage (s : State) (n type : Nat) : State :=
  match (s.sp n).image with
  | some p =>
    if s.spData n && s.spAfter n 1000 && ((s.sp n).timed || !s.spTimeDue n) then (s.updSp n fun x => { x with image := none }).spSend n type p else s
  | none => s

/-- SEG of a v1 port (R401). -/
def spSegOp (n : Nat) (s : State) : State := if s.get (F.SPP_STAT_VER n) = 1 then s.spSendImage n 0x10 else s

/-- BITMAP of a v2 or v3 port (R401). -/
def spBitmapOp (n : Nat) (s : State) : State := if 2 ≤ s.get (F.SPP_STAT_VER n) then s.spSendImage n 0x11 else s

/-- The next change of a zone's offset after a UTC second, in UTC; none without daylight time. -/
def Zone.nextChange (z : Zone) (utc : Nat) : Option Nat :=
  if z.dst = 0 then none else
  let y := (dateOf ((utc + z.std).toNat / 86400)).1
  let all := [y - 1, y, y + 1].flatMap fun y => [ruleInstant z.start y z.std, ruleInstant z.stop y (z.std + z.dst)]
  ((all.filter fun t => decide ((utc : Int) < t)).map (·.toNat)).min?

/-- TIME of a v3 port, in the last period of each second (R398, R400). -/
def spTimeOp (n : Nat) (s : State) : State :=
  let x := s.sp n
  match x.sync with
  | none => s
  | some k =>
    if !s.spTimeDue n ∨ !s.spData n ∨ x.timed ∨ !s.spAfter n 1000 then s else
    let sec := (k + 1) / s.spRate n
    let l := s.dt (16 + n)
    let i := s.spItem n
    let scale := if i < 64 then l.f (.DT_D_CTRL, [i]) 2 1 else l.f (.DT_S_CTRL, [i - 64]) 4 3
    let zone := if i < 64 then l.f (.DT_D_CTRL, [i]) 7 3 else l.f (.DT_S_CTRL, [i - 64]) 9 5
    let z : Zone := ⟨l.rd (.DT_Z_OFS, [zone]), l.rd (.DT_Z_START, [zone]), l.rd (.DT_Z_END, [zone])⟩
    let ofs := s.get F.TB_UTC_OFS
    let utc := (s.utcOf sec).secs
    let minutes : Int := if scale = 2 then (z.std + (if z.daylight utc then z.dst else 0)) / 60 else 0
    let next := if scale = 2 then ((z.nextChange utc).map (· + ofs)).getD 0 else 0
    let payload := bytesLE 6 sec ++ bytesLE 2 ofs ++ bytesLE 1 (b2n (s.flag F.TB_UTC_LEAP61) + 2 * b2n (s.flag F.TB_UTC_LEAP59)) ++
      bytesLE 4 (s.get F.TB_LEAP_AT_SEC) ++ bytesLE 2 (pattern 16 minutes) ++ bytesLE 6 next ++ bytesLE 1 scale ++
      bytesLE 1 (b2n (s.alert scale)) ++ bytesLE 1 60
    (s.setSp n { x with timed := true }).spSend n 0x20 payload

/-- The Spemen configuration record (R405). -/
def spRecord : List Key :=
  (.SP_LOOP_MAX, []) :: (List.range 8).flatMap fun n =>
    [(.SPP_CTRL, [n]), (.SPP_LIMITS, [n]), (.SPP_MAP, [n]), (.SPP_TALLY_ON, [n]), (.SPP_TALLY_OFF, [n])]

end Sys2Proof.Machine
end

