-- ==== Sys2Proof/Machine/Device.lean ====
section
/-! DEFINITION. Modes, resets, boot, restore and shutdown (03), with the boot of the Sillage log (R448) and the hold-up (R447). -/

namespace Sys2Proof.Machine

def dvB : List Nat := [0, 0]

def State.updDv (s : State) (f : DvSt → DvSt) : State := { s with dv := f s.dv }

/-! ### Sessions and mailboxes (R93 to R96) -/

/-- The field of DV_IFV_PLES01 or DV_IFV_PLES23 of a function. -/
def sessionFld (f : Nat) : Fld :=
  match f with
  | 0 => F.DV_IFV_PLES01_PF0 | 1 => F.DV_IFV_PLES01_PF1 | 2 => F.DV_IFV_PLES23_PF2 | _ => F.DV_IFV_PLES23_PF3

abbrev mbxD : Nat → Mbx := fun _ => {}

def State.mb (s : State) (f : Nat) : Mbx := mget mbxD s.mbx f

def State.setMb (s : State) (f : Nat) (m : Mbx) : State := { s with mbx := nput mbxD s.mbx f m }

/-- A doorbell posts the request (R93): the command and its payload as they stand now. -/
def State.mbxPost (s : State) (f tag : Nat) : State :=
  let req := s.rd (.DV_MBX_REQ, [f, 0])
  let words := (List.range (bits req 23 16)).map fun i => s.rd (.DV_MBX_REQ, [f, i + 1])
  let s := (s.set (F.DV_MBX_STAT_STATE f) 1).set (F.DV_MBX_STAT_TAG f) tag
  s.setMb f { posted := some (bits req 15 0, words) }

/-- A command ends with a result and response words (R93): STATE becomes DONE and the completion interrupt is sent. -/
def State.mbxFinish (s : State) (f code : Nat) (words : List Word) : State :=
  let s := s.wr (.DV_MBX_RSP, [f, 0]) (w32 (code + words.length % 256 * 65536))
  let s := (words.zipIdx).foldl (fun s x => s.wr (.DV_MBX_RSP, [f, x.2 + 1]) x.1) s
  let s := ((s.set (F.DV_MBX_RESULT_CODE f) code).set (F.DV_MBX_STAT_STATE f) 2).setMb f {}
  if s.flag (F.DV_MBX_VEC_EN f) then s.interrupt f (s.get (F.DV_MBX_VEC_VECTOR f)) else s

/-- CANCEL of the command in progress (R94): RSP1 bit 0 says whether it has applied. -/
def State.mbxCancel (s : State) (f : Nat) : State :=
  if s.get (F.DV_MBX_STAT_STATE f) ≠ 1 then s else
  let m := s.mb f
  let applied := (m.staged.map (·.2.2)).getD false
  let s := (s.wr (.DV_MBX_RSP, [f, 0]) (w32 (8 + 65536))).wr (.DV_MBX_RSP, [f, 1]) (w32 (b2n applied))
  ((s.set (F.DV_MBX_RESULT_CODE f) 8).set (F.DV_MBX_STAT_STATE f) 3).setMb f { m with cancelled := some s.tick }

/-- Clear a mailbox and its session. -/
def State.clearMbx (s : State) (f : Nat) : State :=
  let mine (k : Key) : Bool := (regDef k.1).blk == .DV && (k.1 == .DV_MBX_DOORBELL || k.1 == .DV_MBX_STAT || k.1 == .DV_MBX_RESULT ||
    k.1 == .DV_MBX_VEC || k.1 == .DV_MBX_REQ || k.1 == .DV_MBX_RSP) && k.2.headD 9 == f
  ({ s with regs := s.regs.filter fun e => !mine e.1 }.setMb f {}).set (sessionFld f) 0

/-! ### Mode (R67 to R75) -/

/-- The shutdown begins (R75): every head finishes its frame, or stops at once when it is forced; tests end, Spemen ports turn off. -/
def State.beginShutdown (s : State) (force : Bool) : State :=
  let s := s.updDv fun d => { d with shutNow := d.shutNow || force, rstReq := none }
  let s := (List.range 16).foldl (fun s n => if s.running n then (if force then s.enterStopped n else s.stopHead n) else s) s
  s.ltStopAll.spAllOff

/-- A critical thermal trip or a supply-loss warning makes a shutdown a forced one (R75). -/
def State.shutForced (s : State) : Bool := s.fc.shut || s.dv.shutNow || s.dv.warnTick.isSome

/-- The mode is evaluated (R71): on entry to SHUTDOWN the shutdown begins, and a shutdown that becomes a forced one stops every head at
once (R75). -/
def State.settleMode (s : State) : State :=
  let was := s.mode
  let s := s.evalMode
  let now := s.mode
  if was ≠ now ∧ now = 11 then s.beginShutdown s.shutForced
  else if now = 11 ∧ s.shutForced then
    (List.range 16).foldl (fun s n => if s.running n then s.enterStopped n else s) (s.updDv fun d => { d with shutNow := true })
  else s

/-! ### Resets (R76) -/

/-- A service reset (R76, R78): CU16 to CU19 and their registers, and every session; commands in progress end with NO_SERVICE. -/
def State.serviceReset (s : State) (cause : Nat) : State :=
  let s := [16, 17, 18, 19].foldl (fun s n => s.resetEngine n) s
  let s := s.set F.DV_SVC_READY_READY 0
  let s : State := (List.range 4).foldl (fun (s : State) (f : Nat) =>
    let s : State := if s.get (F.DV_MBX_STAT_STATE f) = 1 then s.mbxFinish f 4 [] else s
    s.set (sessionFld f) 0) s
  let s : State := { s with tb := { s.tb with servoUp := false, srcs := s.tb.srcs.map fun (e : Nat × SrcSt) =>
    (e.1, { e.2 with wasSelected := false, lost := false, measured := false, usable := e.2.usable && e.1 != 1 }) } }
  let s := s.noSlave
  let s := if s.get F.TB_STATE_STATE = 6 then s.setTb 7 else s
  let s := (s.set F.DV_RST_CAUSE_LAST cause).count F.DV_RST_CAUSE_WARM_CNT 1
  s.updDv fun d => { d with svcSince := some s.tick }

/-- The registers of the DMA rings of the host. -/
def hqKey (k : Key) : Bool := (isHdr k.1 && k.2 == [9, 0]) || (!isHdr k.1 && (regDef k.1).blk == .HQ)

/-- The PCIe fundamental reset (R76): endpoint, MSI-X, HQ, every mailbox and session. PCIE_LINK is raised when the link was up. -/
def State.pcieReset (s : State) : State :=
  let was := s.dv.pcieUp
  let s := { s.clearKeys hqKey with msix := [], hqs := [], irqOwed := s.irqOwed.filter (· != hqB) }
  let s := (List.range 4).foldl (fun s f => s.clearMbx f) s
  let s := s.updDv fun d => { d with pcieUp := false }
  if was then s.raise 0x003 else s

/-- A function-level reset of PFf (R76): its MSI-X, mailbox, session and rings. -/
def State.flrReset (s : State) (f : Nat) : State :=
  let s := { s with msix := s.msix.filter fun e => e.1 / 256 != f }
  let s := s.clearMbx f
  let rings := (List.range 64).filter fun r => s.flag (F.HQ_CTRL_EN r) && s.hqOwner r == f
  let s := rings.foldl (fun s r =>
    (s.clearKeys fun k => !isHdr k.1 && (regDef k.1).blk == Blk.HQ && k.2 == [r]).setHq r {}) s
  let s := s.updDv fun d => { d with flr := if d.flr.contains f then d.flr else d.flr ++ [f] }
  if rings = [] then s else s.latch hqB 8

/-- The Cellar through a reset of its controller: contents stay, requests are lost (R445). -/
def ClSt.kept (c : ClSt) : ClSt :=
  { store := c.store, history := c.history, historyN := c.historyN, mirror := c.mirror, mirrorTop := c.mirrorTop, writes := c.writes }

/-- Contents that every reset but a cold one keeps (R266): local memory and the memories of the cue engines, with CUn_IMG. -/
def State.keepMemories (s t : State) : State :=
  let s := { s with mem := t.mem, bad := t.bad, imem := t.imem, dmem := t.dmem, cregs := t.cregs, scratch := t.scratch, ecc := t.ecc }
  (List.range 24).foldl (fun s n => s.wr (.CU_IMG, [n]) (t.rd (.CU_IMG, [n]))) s

/-- What every reset leaves: the queue and the counters of the model, what has left the device, the Cellar, the boot flash, the
input pins and the scan port. -/
def State.bare (t : State) : State :=
  { State.reset with
    pending := t.pending, tick := t.tick, free := t.free, out := t.out, serial := t.serial, gpi := t.gpi, jtag := t.jtag
    cl := t.cl.kept
    sl := { heldSince := t.tick }
    dv := { slots := t.dv.slots, rom := t.dv.rom, revoked := t.dv.revoked } }

/-- A cold reset (R76). -/
def coldResetOp (t : State) : State := t.bare.set F.DV_RST_CAUSE_LAST 0

/-- A pin reset (R76, R481): RESET_N is held low. -/
def pinResetOp (t : State) : State :=
  let s := ((t.bare.keepMemories t).updDv fun d => { d with resetLow := true, cold := false, att := t.dv.att }).updPs fun p =>
    { p with rails := t.ps.rails }
  (s.set F.DV_RST_CAUSE_WARM_CNT (t.get F.DV_RST_CAUSE_WARM_CNT)).set F.DV_RST_CAUSE_LAST 4

/-- A register that a warm reset keeps: those of PS, TB_STATE and the applied increment (R76, R106). -/
def warmKeeps (k : Key) : Bool :=
  if isHdr k.1 then k.2 == [4, 0] else (regDef k.1).blk == .PS || k.1 == .TB_STATE || k.1 == .TB_INC_LO || k.1 == .TB_INC_HI

/-- A warm (1) or maintenance (3) reset begins (R76, R106). -/
def State.warmReset (t : State) (kind : Nat) : State :=
  let b := t.bare
  let s := { b with
    regs := t.regs.filter fun e => warmKeeps e.1
    w1 := t.w1.filter fun e => warmKeeps e.1
    slowCopy := t.slowCopy.filter fun e => warmKeeps e.1
    ps := t.ps
    tb := { b.tb with
      sec := t.tb.sec, ns := t.tb.ns, frac := t.tb.frac, counting := t.tb.counting, seen1 := t.tb.seen1, seen2 := t.tb.seen2, tenOk := t.tb.tenOk
      lockHist := t.tb.lockHist, holdSince := t.tb.holdSince } }
  let s := (s.keepMemories t).updDv fun d => { d with
    released := true, step := 1, cold := false, warm := true, bootMaint := kind == 3, att := t.dv.att, straps := t.dv.straps
    board := t.dv.board }
  let s := s.set F.DV_RST_CAUSE_WARM_CNT (satAdd 8 (t.get F.DV_RST_CAUSE_WARM_CNT) 1)
  s.set F.DV_RST_CAUSE_LAST kind

/-- Ask for a warm or maintenance reset (R77): it waits for every entry up to that of this tick, and for the records requested. -/
def State.askReset (s : State) (kind : Nat) : State :=
  s.updDv fun d => { d with rstReq := some { kind, since := s.tick, seq := s.sl.next + s.sl.batch.length, records := s.cl.queue.length } }

/-- The conditions of R77 but for the seal. -/
def State.resetReady (s : State) (r : ResetReq) : Bool :=
  decide (r.since + 4000 ≤ s.tick) && (!s.healthy || (decide (r.seq < s.sl.mirrored) && r.records == 0))

/-- Write the seal (R77, R447, R448): no entry is made and no register written from now on. -/
def State.beginSeal (s : State) : State :=
  (s.updDv fun d => { d with heldWrites := true }).requestControl s.sl.floor (some s.sl.next)

/-- Nothing is left to do before the seal of an orderly shutdown (R75, R447). -/
def State.shutIdle (s : State) : Bool :=
  s.mode == 11 && s.dv.warnTick.isNone && !s.anyRunning && (s.cl.queue == []) && (!s.healthy || decide (s.sl.next ≤ s.sl.mirrored))

/-- The seal of a reset or shutdown is requested once what it waits for is complete. -/
def State.sealWatch (s : State) : State :=
  if s.dv.heldWrites ∨ !s.healthy ∨ s.sl.batch ≠ [] then s
  else if (s.dv.rstReq.any s.resetReady) || s.shutIdle then s.beginSeal else s

/-- A warm or maintenance reset begins (R77). -/
def resetBeginOp (s : State) : State :=
  match s.dv.rstReq with
  | some r => if s.resetReady r && (!s.healthy || s.cl.sealDone) && s.mode != 11 then s.warmReset r.kind else s
  | none => s

/-! ### Boot (R31, R80 to R90) -/

/-- The entries of a rail table that are a supply. -/
def railsOf (t : List RailEntry) (r : SupplyRail) : List RailEntry := t.filter fun e => e.rail == r

/-- Every entry of supply a reaches power good before any of supply b starts (R478). -/
def startsBefore (t : List RailEntry) (a b : SupplyRail) : Bool :=
  (railsOf t a).all fun x => (railsOf t b).all fun y => decide (x.order < y.order)

/-- The time from the power good of order a to the start of order b, in units of 0.1 ms: the delays of the orders from a to b. -/
def startGap (t : List RailEntry) (a b : Nat) : Nat :=
  ((List.range 16).map fun o => if a ≤ o ∧ o < b then ((t.filter fun e => e.order == o).map (·.delay)).foldl max 0 else 0).foldl (· + ·) 0

/-- The ranges of a rail entry (R452), and its window inside the recommended range of its supply (R477), in units of 10 µV. -/
def railRange : SupplyRail → Nat × Nat
  | .core | .hphy => (72800, 77200)
  | .hbm => (106700, 113300)
  | .ddqHbm => (38800, 41200)
  | .vppHbm => (174600, 185400)
  | .serdes | .pll => (82500, 87500)
  | .serdesTerm => (116400, 123600)
  | .reference => (313500, 346500)

def railOk (e : RailEntry) : Bool :=
  decide (1 ≤ e.window) && decide (e.window ≤ 10) && decide (e.order ≤ 15) && decide (e.delay ≤ 500) &&
    decide ((railRange e.rail).1 ≤ e.nominal * (100 - e.window)) && decide (e.nominal * (100 + e.window) ≤ (railRange e.rail).2)

/-- A rail table meets R452, R477 and constraints 1 to 5 of R478. -/
def tableOk (t : List RailEntry) : Bool :=
  decide (t.length ≤ 16) && t.all railOk &&
    startsBefore t .core .serdesTerm && startsBefore t .hphy .serdesTerm && startsBefore t .serdes .serdesTerm &&
    ((railsOf t .serdes).all fun x => (railsOf t .pll).all fun y => decide (x.order ≤ y.order) && decide (startGap t x.order y.order ≤ 10)) &&
    startsBefore t .vppHbm .hbm && startsBefore t .hbm .ddqHbm && startsBefore t .hphy .vppHbm

/-- The order in which the rails of a table are turned on: ascending start order (R452). -/
def startOrder (t : List RailEntry) : List Nat :=
  (List.range 16).flatMap fun o => (List.range t.length).filter fun i => (t[i]?).any fun e => e.order == o

/-- Rail r is turned on and reports power good. -/
def State.railOn (s : State) (r : Nat) : State :=
  if s.ps.rails.contains r then s else
  ((s.emit (.rail r true)).set (F.PS_RAIL_STAT_GOOD r) 1).updPs fun p => { p with rails := p.rails ++ [r] }

/-- The rails that are on are turned off in the reverse of their start-up order (R75, R478, R479). -/
def State.railsDown (s : State) : State :=
  (s.ps.rails.reverse.foldl (fun (s : State) (r : Nat) => (s.emit (.rail r false)).set (F.PS_RAIL_STAT_GOOD r) 0) s).updPs fun p =>
    { p with rails := [] }

/-- The reset is released: the straps are sampled, the board block is read, and the pins return from the scan port (R80, R87, R475,
R479). A rail table that breaks a rule counts as a bad board block. -/
def resetReleaseOp (straps : Nat) (board : Option (List RailEntry)) (s : State) : State :=
  if s.dv.step ≠ 0 ∨ s.dv.released then s else
  { (s.updDv fun d => { d with released := true, resetLow := false, straps := straps, board := board.filter tableOk }) with
    jtag := { s.jtag with pins := false } }

/-- The rails come up (R31, R87, R478, R479): those of the board block are turned on in their order and report power good, or, with a
bad board block, POWER_GOOD is high. Not before 100 ms after a supply warning. -/
def railsGoodOp (s : State) : State :=
  if s.dv.step = 0 ∧ s.dv.released ∧ !s.dv.warnLow ∧ (s.dv.warnTick.all fun t => decide (t + 40000000 ≤ s.tick)) then
    let s := (startOrder (s.dv.board.getD [])).foldl State.railOn s
    s.updDv fun d => { d with step := 1, warnTick := none, railsOff := false }
  else s

/-- The value at which SEQ resumes, with the GAP entry of the boot (R448). -/
def State.resumeSeq (s : State) : Nat × Option (Nat × Nat) :=
  let m1 := (s.cl.mirrorTop.map (· + 1)).getD 0
  match s.record 6 with
  | some (.control _ floor sealAt) =>
    match sealAt with
    | some v => (v, if m1 < v then some (v - m1, 0) else none)
    | none => (floor, some (floor - m1, 1))
  | _ => (0, none)

/-- The registers that a record stores return to their stored values. -/
def State.loadRegs (s : State) (region : Nat) : State :=
  match s.record region with
  | some (.regs l _ _) => l.foldl (fun s e => s.wr e.1 e.2) s
  | _ => s

/-- What the Cellar shows of its records after a reset of CL (R444, R446, R450). -/
def State.showRecords (s : State) : State :=
  let s := (List.range 16).foldl (fun s n =>
    match s.record (16 + n) with
    | some (.lastGood _ v _) => (s.set (F.CL_LG_VINT_VINTAGE n) v).set (F.CL_LG_STAT_VALID n) 1
    | _ => s) s
  (List.range 10).foldl (fun s r =>
    let per := if r = 7 then 2048 else if r = 9 then 262144 else 1
    s.set (F.CL_WEAR_PASSES r) (mget (fun _ => 0) s.cl.writes r / per / 65536)) s

/-- A record gives its registers at boot, or, with the Cellar unhealthy or the record failing its CRC, its block reports that (R143, R325,
R405). -/
def State.loadOr (s : State) (region : Nat) (b : List Nat) (mask source : Nat) : State :=
  if s.healthy && !s.cl.corrupt.contains region then s.loadRegs region else (s.latch b mask).raise source

/-- Step 4 of R31: the time base runs. After a cold or pin reset the count starts at the time record (R106). The reference, zone
and Spemen records give their registers (R143, R325, R405). -/
def State.stepFour (s : State) : State :=
  let s := s.updDv fun d => { d with step := 4 }
  let time : Nat × Nat × Nat × Bool := match s.record 2 with
    | some (.time sec ns ofs valid) => (sec, ns, ofs, valid)
    | _ => (0, 0, 0, false)
  let s : State := if s.healthy then
      let s := if s.dv.warm then s else { s with tb := { s.tb with sec := time.1, ns := time.2.1, frac := 0 } }
      (s.set F.TB_UTC_OFS time.2.2.1).set F.TB_UTC_VALID (b2n time.2.2.2)
    else s
  let s := ((s.loadOr 3 rfB 0x100 0x04D).loadOr 4 dtB 2 0x04E).loadOr 5 spB 0x80000 0x1D6
  let d := s.dtime
  ({ s with tb := { s.tb with counting := true, seen1 := d, seen2 := d }, rf := { s.rf with start := unitsOf s.tai } }).spBoot

/-- The slots of records that fail their CRC: k for the slot of the newer copy of record k, 64 + k for the other one. The slot whose
CRC verifies is in force; a record with none is corrupt (R445). -/
def State.dropSlots (s : State) (bad : List Nat) : State :=
  let keys := s.cl.store.map (·.1)
  let older (k : Nat) := if bad.contains (64 + k) then none else mget storeD s.cl.older k
  let one (c : ClSt) (k : Nat) : ClSt :=
    if bad.contains k then
      { c with
        store := nput storeD c.store k (older k)
        older := nput storeD c.older k none
        corrupt := if (mget storeD c.store k).isSome ∧ older k = none then c.corrupt ++ [k] else c.corrupt }
    else { c with older := nput storeD c.older k (older k) }
  { s with cl := keys.foldl one { s.cl with corrupt := [] } }

/-- The Cellar header is checked (R88, R429): at boot steps 2 and 3, where DV_BOOT_CFG and the Sillage log resume, or after a reset
of the Cellar controller. `bad` lists the record slots that fail their CRC. -/
def cellarCheckOp (crcOk : Bool) (layout : Nat) (bad : List Nat) (s : State) : State :=
  let ok := crcOk && layout == 4
  let drop (s : State) : State := s.dropSlots bad
  if s.dv.step = 1 then
    let s := ((drop s).set F.CL_STAT_LAYOUT layout).set F.CL_STAT_HEALTHY (b2n ok)
    let s := (s.set F.DV_BOOT_STAT_CELLAR_OK (b2n ok)).updDv fun d => { d with step := 3, booting := true }
    let s : State := if !ok then s else
      let s := (s.loadRegs 1).showRecords
      let att : Nat × Nat := match s.record 1 with
        | some (.regs _ a b) => if s.dv.cold then (0, 0) else (a, b)
        | _ => (0, 0)
      let auto : Bool := match s.record 6 with
        | some (.control a _ _) => a
        | _ => false
      (s.updDv fun d => { d with att := att }).set F.CL_AUTO_RESTORE_EN (b2n auto)
    let s := (s.set F.DV_BOOT_STAT_ATT_A s.dv.att.1).set F.DV_BOOT_STAT_ATT_B s.dv.att.2
    let s := if s.dv.cold && s.record 1 != none then s.requestBoot else s
    let start : Nat × Nat := match s.record 2 with
      | some (.time sec ns _ _) => if ok then (sec, ns) else (0, 0)
      | _ => (0, 0)
    let s := if s.dv.warm then s else { s with tb := { s.tb with sec := start.1, ns := start.2 } }
    let s := if ok then s else (s.latch slB 4).raise 0x1F8
    let r := if ok then s.resumeSeq else (0, none)
    let reset : Entry := { kind := 5, sec := s.tb.sec, ns := s.tb.ns, a := (s.rd (.DV_RST_CAUSE, [])).toNat }
    let gap : List Entry := match r.2 with
      | some (a, b) => [{ kind := 7, sec := s.tb.sec, ns := s.tb.ns, a := min a 0xFFFFFFFF, b := b }]
      | none => []
    let s := { s with sl := { s.sl with next := r.1, mirrored := r.1, streamed := r.1, boot := reset :: gap, heldSince := s.tick } }
    let s := if r.2.isSome then s.raise 0x020 else s
    let s := if ok then s.requestControl (r.1 + 2 ^ 24) none else s.releaseBoot
    if s.flag F.TB_STATE_PLL_LOCK then s.stepFour else s
  else if s.fc.clrWait then { drop s with fc := { s.fc with clrWait := !ok } }
  else s

/-- The time PLL locks (R31, R429). -/
def pllLockOp (s : State) : State :=
  let s := s.set F.TB_STATE_PLL_LOCK 1
  if s.dv.step = 3 then s.stepFour else s

/-- The time PLL loses lock (R128, R429). -/
def pllUnlockOp (s : State) : State :=
  if s.flag F.TB_STATE_PLL_LOCK then ((s.set F.TB_STATE_PLL_LOCK 0).latch tbB 0x100).raise 0x047 else s

/-- Enter MAINTENANCE with a reason (R71, R84). -/
def State.enterMaint (s : State) (reason : Nat) : State :=
  let s := (s.set F.DV_BOOT_STAT_MAINT reason).updDv fun d => { d with booting := false, maint := true }
  s.completeReset 0

/-- MAX_ATT, where 0 acts as 1. -/
def State.maxAtt (s : State) : Nat := max 1 (s.get F.DV_BOOT_CFG_MAX_ATT)

/-- The failed attempts of a slot. -/
def State.attempts (s : State) (slot : Nat) : Nat := if slot = 0 then s.dv.att.1 else s.dv.att.2

/-- Set the failed attempts of a slot; the boot record follows (R85, R444). -/
def State.setAttempts (s : State) (slot n : Nat) : State :=
  let n := min n 15
  let s := s.updDv fun d => { d with att := if slot = 0 then (n, d.att.2) else (d.att.1, n) }
  ((s.set F.DV_BOOT_STAT_ATT_A s.dv.att.1).set F.DV_BOOT_STAT_ATT_B s.dv.att.2).requestBoot

/-! ### Last-good candidates (R194, R450) -/

/-- Engine k hands the candidates of its heads to the Cellar, each head at most once per second. -/
def handoverOp (k : Nat) (s : State) : State :=
  [2 * k, 2 * k + 1].foldl (fun s n =>
    let h := s.head n
    match h.qualified with
    | some q =>
      if h.handover.any fun t => decide (s.tick < t + ticksS 1) then s else
      (s.updHead n fun h => { h with qualified := none, handover := some s.tick }).request
        { region := 8, head := n, body := .lastGood q.set q.vintage q.regs }
    | none => s) s

/-! ### Power loss and shutdown (R75, R447, R479) -/

/-- SUPPLY_WARN_N asserts: before boot step 3 the rails go off again, later the hold-up begins. -/
def supplyLossOp (s : State) : State :=
  if s.dv.step < 3 then s.railsDown.updDv fun d => { d with step := 0, warnLow := true }
  else if s.dv.warnTick.isSome then s
  else (s.updDv fun d => { d with warnTick := some s.tick, warnLow := true }).raise 0x1F3

/-- SUPPLY_WARN_N is released: before boot step 3 the rails start again 100 ms later (R479). -/
def supplyReleaseOp (s : State) : State :=
  if !s.dv.warnLow then s
  else if s.dv.step < 3 then s.updDv fun d => { d with warnLow := false, warnTick := some s.tick }
  else s.updDv fun d => { d with warnLow := false }

/-- At 9,950 µs after the warning mirroring stops and the seal is written (R447). -/
def holdupSealOp (s : State) : State :=
  if s.dv.step < 3 ∨ s.dv.heldWrites ∨ !s.dv.warnTick.any fun t => decide (t + 3980000 ≤ s.tick) then s else
  let s := s.flush
  let s := s.updDv fun d => { d with heldWrites := true }
  if !s.healthy then s else
  let s := s.putRecord 6 (RecBody.control (s.flag F.CL_AUTO_RESTORE_EN) s.sl.floor (some s.sl.next))
  ({ s with cl := { s.cl with sealDone := true, queue := [] } }).wear 6

/-- Once the flush is complete the rails go off (R75). -/
def railsOffOp (s : State) : State :=
  if s.mode = 11 ∧ !s.dv.railsOff ∧ s.cl.queue = [] ∧ !s.anyRunning ∧ (!s.healthy ∨ s.cl.sealDone) then
    s.railsDown.updDv fun d => { d with railsOff := true, pcieUp := false }
  else s

end Sys2Proof.Machine
end

