-- ==== Sys2Proof/Machine/Judge.lean ====
section
/-! DEFINITION. How the blocks judge a register write beyond permission and width (R15, step 3): the owner rules, the STOP class
(R48), and the refusals that the chapters give for single registers. -/

namespace Sys2Proof.Machine

/-- What a block says to a write: accepted, refused without a fault (R48), or refused under R47. -/
inductive Judge where
  | ok | quiet | viol
  deriving DecidableEq, Repr

/-- The worse of two judgements. -/
def Judge.with (a b : Judge) : Judge :=
  match a, b with
  | .viol, _ => .viol
  | _, .viol => .viol
  | .quiet, _ => .quiet
  | _, b => b

/-! ### Owner rules: the whole write is refused -/

/-- An origin may write as a function. -/
def isPf (o : Org) : Bool := decide (1 ≤ o.cls) && decide (o.cls ≤ 4)

/-- The cue engines and the functions that may write the registers of an enabled ring (R381). -/
def hqWriter (s : State) (r : Nat) (o : Origin) : Bool :=
  match o with
  | .pf f => f.val == s.hqOwner r
  | .cu _ _ => true
  | .powerSteward _ => true
  | _ => false

/-- The registers of the protected layer. -/
def isPl (r : Reg) : Bool :=
  r ∈ [.CE_PL_WIN_LO, .CE_PL_WIN_HI, .CE_PL_CTRL, .CE_PL_S_ADDR_LO, .CE_PL_S_ADDR_HI, .CE_PL_S_SIZE, .CE_PL_S_FMT, .CE_PL_S_REF,
    .CE_PL_S_REF_N, .CE_PL_S_STAT, .CE_PL_PLACE, .CE_PL_COMMIT, .CE_PL_CSTAT, .CE_PL_WR_DENY, .CE_PL_FAILS]

/-- The registers of the servo (R104). -/
def isServo (r : Reg) : Bool := r ∈ [.TB_INC_REQ_LO, .TB_INC_REQ_HI, .TB_OFS, .TB_UTC]

/-- The service engine that a register of CU belongs to (R265). -/
def svcEngine (k : Key) : Bool :=
  let n := if isHdr k.1 then (if k.2.headD 0 = 20 then k.2.getD 1 0 else 0) else if (regDef k.1).blk == .CU then k.2.headD 0 else 0
  decide (16 ≤ n) && decide (n < 20)

/-- The rules on who may write a register at all, beside DV_PERM: R64, R66, R104, R244, R265, R347, R381. -/
def State.ownerRule (s : State) (o : Origin) (k : Key) (v : Word) : Judge :=
  let org := orgOf o
  if svcEngine k then (if org.cls = 0 then .ok else .viol)
  else if isServo k.1 then (if s.flag F.TB_CTRL_SERVO_OWN ∧ org.cls ≠ 0x20 then .viol else .ok)
  else if isPl k.1 then
    (if s.isOwner (2 * k.2.headD 0 + k.2.getD 1 0) org then .ok else .viol)
  else
    match k.1, k.2 with
    | .DV_PERM_LO, i :: _ | .DV_PERM_HI, i :: _ =>
      if org.cls = 1 ∧ i ≠ 0 ∧ !(decide (20 ≤ i) && decide (i < 24)) ∧ i ≠ 31 then .ok else .viol
    | .CE_PL_OWNER, _ => if org.cls = 1 then .ok else .viol
    | .HQ_CTRL, r :: _ =>
      if s.flag (F.HQ_CTRL_EN r) then (if hqWriter s r o then .ok else .viol)
      else if bits v 0 0 = 1 ∧ !isPf org then .viol else .ok
    | r, i :: _ =>
      if (regDef r).blk == .HQ ∧ !isHdr r ∧ s.flag (F.HQ_CTRL_EN i) ∧ !hqWriter s i o then .viol
      else if (regDef r).blk == .NQ ∧ 16376 ≤ i ∧ !([0, 0x20, 0x23].contains org.cls) then .viol
      else .ok
    | _, _ => .ok

/-! ### STOP-class fields (R48) -/

/-- A layer of a set in force names a coefficient half (R211): `vert` the vertical one, of programmable set p. -/
def State.coefInUse (s : State) (k p : Nat) (vert : Bool) : Bool :=
  let names (c : CommitSet) : Bool := c.layers.any fun d => (if vert then d.vfilt else d.hfilt) == p + 2
  [2 * k, 2 * k + 1].any (fun n => (s.liveSets n).any names) || (s.eng k).checks.any (fun c => names c.set) ||
    s.groups.any (fun g => g.passed.any fun c => c.head / 2 == k && names c)

/-- An item of the dial and text generator is named by a set in force or by a Spemen port (R314). -/
def State.itemInUse (s : State) (i : Nat) : Bool :=
  let names (c : CommitSet) : Bool := c.items.contains i
  (List.range 16).any (fun n => (s.liveSets n).any names) || (List.range 8).any (fun k => (s.eng k).checks.any fun c => names c.set) ||
    s.groups.any (fun g => g.passed.any names) || (List.range 8).any fun n => s.flag (F.SPP_MAP_ITEM_EN n) && s.get (F.SPP_MAP_ITEM n) == i

/-- The STOP fields of a register are running (R48). -/
def State.isRunning (s : State) (k : Key) : Bool :=
  let i := k.2.headD 0
  match k.1 with
  | .SL_STREAM_BASE_LO | .SL_STREAM_BASE_HI | .SL_STREAM_CFG => s.flag F.SL_CTRL_STREAM_EN
  | .RF_LTCIN_CTRL => s.flag (F.RF_LTCIN_CTRL_EN i)
  | .RF_OUT_CTRL => s.flag (F.RF_OUT_CTRL_EN i)
  | .RF_LTCOUT_CTRL => s.flag (F.RF_LTCOUT_CTRL_EN i)
  | .RF_PPS_CTRL => s.flag F.RF_PPS_CTRL_TOD_IN || s.flag F.RF_PPS_CTRL_TOD_OUT
  | .LT_EYE_CTRL => s.flag (F.LT_STAT_EYE_BUSY i)
  | .SPP_CTRL => s.flag (F.SPP_CTRL_DATA i)
  | .SPP_LIMITS => s.spSt i != 0 && s.spSt i != 6
  | .CE_JRN_BASE_LO | .CE_JRN_BASE_HI | .CE_JRN_CTRL => s.flag (F.CE_JRN_CTRL_EN i)
  | .CE_HCOEF => s.coefInUse i (k.2.getD 1 0) false
  | .CE_VCOEF => s.coefInUse i (k.2.getD 1 0) true
  | .CE_PL_WIN_LO | .CE_PL_WIN_HI | .CE_PL_CTRL => s.windowRunning (2 * i + k.2.getD 1 0)
  | .DT_D_SIZE => s.itemInUse i
  | .DT_S_SIZE => s.itemInUse (64 + i)
  | .NG_GCL_ADMIN_LEN | .NG_GCL_ADMIN_CYCLE | .NG_GCL_ADMIN_BASE_SL | .NG_GCL_ADMIN_BASE_SH | .NG_GCL_ADMIN_BASE_NS | .NG_GCL_ADMIN =>
    s.flag (F.NG_GCL_STAT_PENDING i)
  | .NG_SDI_CTRL | .NG_SDI_VIDEO | .NG_SDI_BUF_LO | .NG_SDI_BUF_HI => s.flag (F.NG_SDI_CTRL_EN i)
  | r =>
    match (regDef r).blk with
    | .CK => s.get (F.CK_STAT_STATE i) == 1
    | .AD => s.get (F.AD_STAT_STATE i) == 1
    | .HQ => s.get (F.HQ_STAT_STATE i) == 1
    | .LT => s.get (F.LT_STAT_STATE i) == 1
    | .GL => s.glRole != 0
    | .HD => s.running i
    | .CE => s.slotInUse (2 * i + k.2.getD 1 0) (k.2.getD 2 0)
    | .NP => s.flag (F.NP_CTRL_EN i)
    | .NR => s.flag (F.NR_CTRL_EN i)
    | .NQ => s.flag (F.NQ_CTRL_EN i)
    | .CU => s.cst i != 0
    | _ => false

/-! ### Values -/

def inRange (a x b : Nat) : Bool := decide (a ≤ x) && decide (x ≤ b)

/-- An offset lies in [−P/2, P/2), where P is m frames of n/d frames a second, in units of 0.25 ns (R135). -/
def halfPeriod (m n d : Nat) (w : Word) : Bool :=
  let x := signed 32 w.toNat
  let p : Int := ((m * d * 4000000000 : Nat) : Int)
  decide (-p ≤ 2 * x * (n : Int)) && decide (2 * x * (n : Int) < p)

def vio (ok : Bool) : Judge := if ok then .ok else .viol
def quiet (ok : Bool) : Judge := if ok then .ok else .quiet

/-- The judgement of a value by the ranges that the register tables state as refusals. -/
def State.valueRule (s : State) (k : Key) (w : Word) : Judge :=
  let i := k.2.headD 0
  match k.1 with
  | .SL_STREAM_CFG => vio (inRange 8 (bits w 4 0) 20)
  | .PS_LIMITS => vio (inRange 400 (bits w 11 0) 1150 && (bits w 27 16 == 0 || inRange 400 (bits w 27 16) 2110))
  | .PS_SP_FLOOR => vio (decide (bits w 9 0 ≤ 960))
  | .PS_THERM => vio (inRange 70 (bits w 7 0) 105 && inRange 1 (bits w 15 8) 20 && inRange 70 (bits w 23 16) 95)
  | .PS_HOLD => vio (inRange 1 (bits w 7 0) 255)
  | .TB_MAX_SLEW => quiet (inRange 1 (bits w 16 0) 100000)
  | .TB_STEP_THRESH => quiet (decide (1000 ≤ w.toNat))
  | .TB_LOCK_THRESH => quiet (decide (1 ≤ bits w 15 0))
  | .TB_LOCK_TIME => quiet (inRange 1 (bits w 7 0) 255)
  | .TB_HOLD_AVG => quiet (inRange 10 (bits w 15 0) 3600)
  | .TB_INC_NOM_LO => quiet (inRange 10735270757 (s.get F.TB_INC_NOM_HI_INT * 2 ^ 32 + w.toNat) 10739565723)
  | .TB_INC_NOM_HI => quiet (inRange 10735270757 (bits w 7 0 * 2 ^ 32 + s.get F.TB_INC_NOM_LO_FRAC) 10739565723)
  | .TB_UTC => quiet (!(bits w 16 16 == 1 && bits w 17 17 == 1))
  | .RF_IN_CTRL => vio (decide (bits w 7 4 ≤ 13))
  | .RF_LTCIN_CTRL => vio (decide (bits w 3 1 ≤ 5))
  | .RF_OUT_CTRL => vio (decide (bits w 7 4 ≤ 13))
  | .RF_OUT_OFS =>
    match stdPeriod (s.get (F.RF_OUT_CTRL_STD i)) with
    | some p => vio (halfPeriod p.1 p.2.1 p.2.2 w)
    | none => .ok
  | .RF_LTCOUT_CTRL => vio (decide (bits w 3 1 ≤ 5) && bits w 5 4 != 3 && bits w 7 6 != 3)
  | .RF_PPS_CTRL => vio (bits w 3 2 != 3 && bits w 8 7 != 3)
  | .RF_PPS_WIDTH => vio (bits w 7 0 != 0)
  | .CK_CFG => vio (bits w 1 0 != 3)
  | .AD_CTRL => vio (inRange 1 (bits w 11 8) 12 && !(bits w 0 0 == 1 && decide (4 ≤ bits w 3 1)))
  | .AD_SW_IDX =>
    let sw := bits w 15 0
    let hw := s.get (F.AD_HW_IDX_IDX i)
    vio (decide ((if s.get (F.AD_CTRL_MODE i) ≤ 1 then idxDiff sw hw else idxDiff hw sw) ≤ s.adSize i))
  | .HQ_CTRL => vio (bits w 2 1 != 3 && inRange 4 (bits w 6 3) 15)
  | .LT_CFG => vio (ltCfgOk i w)
  | .LT_EYE_CTRL => vio (bits w 17 16 != 3)
  | .SP_LOOP_MAX => vio (decide (bits w 9 0 ≤ 960))
  | .GL_MARGIN => vio (inRange 500 (bits w 19 0) 1000000)
  | .GL_PATH => vio (inRange 10 (bits w 15 0) 50000)
  | .HD_COMMIT_LEAD => quiet (decide (s.get (F.HD_FETCH_LEAD_LINES i) ≤ bits w 7 0))
  | .HD_FETCH_LEAD => quiet (inRange 4 (bits w 6 0) 64 && decide (bits w 6 0 ≤ s.get (F.HD_COMMIT_LEAD_LINES i)))
  | .HD_DEST_SDI => vio (bits w 7 6 != 3)
  | .HD_DEST_DP => vio (decide (bits w 5 3 ≤ 4) && bits w 7 6 != 3 && decide (bits w 10 8 ≤ 3))
  | .HD_DEST_ST => vio (decide (bits w 19 17 ≤ 2))
  | .CE_JRN_CTRL => vio (inRange 6 (bits w 5 1) 16)
  | .CE_PL_WIN_LO | .CE_PL_WIN_HI =>
    let n := 2 * i + k.2.getD 1 0
    let t := (s.wr k w).window n
    vio (decide (t.1 + t.2 ≤ memSize) &&
      !(List.range 16).any fun m => m != n && overlap t.1 t.2 (s.window m).1 (s.window m).2)
  | .DT_D_CTRL => vio (bits w 2 1 != 3)
  | .DT_D_SIZE =>
    let z := bits w 10 0
    vio ((z == 0 || inRange 32 z 1024) && !(bits w 16 16 == 1 && z % 4 != 0))
  | .DT_D_DELAY | .DT_S_DELAY => vio (decide ((signed 16 (bits w 15 0)).natAbs ≤ 1000))
  | .DT_S_CTRL => vio (bits w 2 1 != 3 && bits w 4 3 != 3)
  | .DT_S_SIZE => vio (decide (bits w 13 0 ≤ 8192) && decide (bits w 23 16 ≤ 128))
  | .DT_S_GLYPHS => vio (decide (bits w 22 16 < 65))
  | .SPP_MAP => vio (decide (bits w 16 10 < 65))
  | .NP_CTRL => vio (decide (bits w 3 1 ≤ 5))
  | .NP_RX_CFG => vio (bits w 15 14 != 3)
  | .NP_LATE_TOL => quiet (decide (bits w 19 0 ≤ 1000000))
  | .NP_SAMPLE_PERIOD => quiet (inRange 10 (bits w 19 0) 1000000)
  | .NG_SDI_CTRL => vio (bits w 2 1 != 3)
  | .CU_LATE_WIN => quiet (decide (bits w 24 0 ≤ 16777216))
  | .CU_VBASE => quiet (bits w 2 0 == 0)
  | _ => .ok

end Sys2Proof.Machine
end

