-- ==== Sys2Proof/Machine/Accept.lean ====
section
/-! DEFINITION. What single registers make of a write that the general rules let through: the judgement that goes with a command,
what the command does, and what follows from a stored value. -/

namespace Sys2Proof.Machine

/-- A masked write sets bit i of an MW register (R41). -/
def asksOne (v : Word) (i : Nat) : Bool := nbit v.toNat (16 + i) && nbit v.toNat i

/-- A masked write clears bit i. -/
def asksZero (v : Word) (i : Nat) : Bool := nbit v.toNat (16 + i) && !nbit v.toNat i

/-- Bit i of a word goes from 0 to 1, and from 1 to 0. -/
def rises (old new : Word) (i : Nat) : Bool := !nbit old.toNat i && nbit new.toNat i
def falls (old new : Word) (i : Nat) : Bool := nbit old.toNat i && !nbit new.toNat i

/-- A bit keeps its old value. -/
def keepBit (old new : Word) (i : Nat) : Word := setBits new i i (bits old i i)

/-- The registers of the zone record (R325). -/
def zoneRecord : List Key := (List.range 32).flatMap zoneKeys

/-! ### Link test commands (R468 to R472) -/

/-- A START on one lane by LTl_CMD. -/
def State.ltCommand (s : State) (l : Nat) (org : Org) : State × Judge :=
  if s.get (F.LT_STAT_STATE l) = 1 then (s, .ok)
  else if laneKind l == .pcie && s.asksOos l then
    (if org.cls = 0x30 ∨ org.cls = 0x31 then (s, .quiet) else (s, .viol))
  else if s.startBlocked l then (s.latch ltB 8, .quiet)
  else (s.ltStart l, .ok)

/-- A write of LTl_CMD: STOP, START, EYE_GO in this order. -/
def State.ltCmdWrite (s : State) (l : Nat) (v : Word) (org : Org) : State × Judge :=
  let s := if nbit v.toNat 1 then s.ltStop l else s
  let a : State × Judge := if nbit v.toNat 0 then s.ltCommand l org else (s, .ok)
  let b : State × Judge := if nbit v.toNat 2 then
      (if a.1.eyeBlocked l then (a.1.latch ltB 8, .quiet) else (a.1.set (F.LT_STAT_EYE_BUSY l) 1, .ok)) else (a.1, .ok)
  (b.1.settleMode, a.2.with b.2)

/-- A write of LT_GROUP_CMD: all lanes of the range, or none. -/
def State.ltGroupWrite (s : State) (v : Word) (org : Org) : State × Judge :=
  let first := bits v 6 0
  let count := bits v 13 7
  let lanes := (List.range count).map (first + ·)
  if count = 0 ∨ 80 < first + count then (s, .quiet) else
  let s := if nbit v.toNat 15 then lanes.foldl (fun s l => s.ltStop l) s else s
  if !nbit v.toNat 14 then (s.settleMode, .ok) else
  let pcie := lanes.filter fun l => laneKind l == .pcie && s.asksOos l && s.get (F.LT_STAT_STATE l) != 1
  if pcie ≠ [] ∧ org.cls ≠ 0x30 ∧ org.cls ≠ 0x31 then (s, .viol)
  else if pcie ≠ [] ∧ !(first = 0 ∧ count = 8 ∧ pcie.length = 8) then (s, .quiet)
  else if lanes.any fun l => s.get (F.LT_STAT_STATE l) != 1 && s.startBlocked l then (s.latch ltB 8, .quiet)
  else
    let s := lanes.foldl (fun s l => s.ltStart l) s
    ((if pcie = [] then s else s.pcieReset).settleMode, .ok)

/-! ### Commands: judgement, effect, and the word that is stored -/

/-- The registers whose accepted write is a command or is judged by more than a value. `new` is what the general rules would store. -/
def State.command (s : State) (org : Org) (k : Key) (old new v : Word) : State × Word × Judge :=
  let i := k.2.headD 0
  let j := k.2.getD 1 0
  match k.1 with
  | .DV_SNAP =>
    if s.flag F.DV_SNAP_STAT_BUSY then (s, old, .quiet) else
    let mask := bits v 20 0 ||| (s.dv.snapReq.map (·.1)).getD 0
    let s := s.updDv fun d => { d with snapReq := some (mask, s.tick) }
    (s.set F.DV_SNAP_STAT_BUSY (b2n (bits v 20 17 != 0)), old, .ok)
  | .DV_CTRL => if asksZero v 0 ∧ s.anyRunning then (s, keepBit old new 0, .quiet) else (s, new, .ok)
  | .DV_RESET =>
    let kind := bits v 3 0
    if bits v 31 16 ≠ 0xA5C3 ∨ !(org.cls = 1 ∨ org.cls = 0x31) ∨ !inRange 1 kind 3 ∨ (kind ≠ 2 ∧ s.mode = 11) then (s, old, .quiet)
    else if kind = 2 then (s.serviceReset 2, old, .ok) else (s.askReset kind, old, .ok)
  | .DV_MBX_DOORBELL =>
    if nbit v.toNat 31 then (s.mbxCancel i, old, .ok)
    else if s.get (F.DV_MBX_STAT_STATE i) = 1 then (s, old, .quiet) else (s.mbxPost i (bits v 15 0), old, .ok)
  | .FC_CFG =>
    if (srcClass i).isNone then (s, old, .ok) else
    let a := nbit new.toNat 4 && !nbit old.toNat 4 && !mayReactOff i
    let b := nbit new.toNat 5 && !nbit old.toNat 5 && !mayStop i
    let n1 := if a then keepBit old new 4 else new
    let n2 := if b then keepBit old n1 5 else n1
    (s, n2, vio (!a && !b))
  | .FC_CTRL => (if asksOne v 1 then s.rearm else s, setBits new 1 1 0, .ok)
  | .FC_CLEAR => (if nbit v.toNat 9 then s.clearAll else s.clearSource (bits v 8 0), old, .ok)
  | .CL_LG_ERASE =>
    let s := (List.range 16).foldl (fun s n =>
      if nbit v.toNat n then { (s.set (F.CL_LG_STAT_VALID n) 0) with cl := { s.cl with store := nput storeD s.cl.store (16 + n) none, older := nput storeD s.cl.older (16 + n) none } } else s) s
    (s, old, .ok)
  | .TB_RESTEP =>
    if bits v 15 0 = 0x5E7A ∧ s.flag F.TB_STATE_RESTEP_PEND ∧ s.mayRestep org then
      (({ s with tb := { s.tb with restep := some (org, false), restepLost := false } }).settleMode, old, .ok)
    else (s, old, .quiet)
  | .HD_CTRL =>
    if asksOne v 0 then
      match s.runErr i (nbit new.toNat 1) with
      | none | some 0 => (s, new, .ok)
      | some e => (s.set (F.HD_STAT_START_ERR i) e, keepBit old new 0, .quiet)
    else (s, new, .ok)
  | .CE_COMMIT => if s.commitBusy i v then (s, old, .quiet) else (s.commitWrite i v org, old, .ok)
  | .CE_RELEASE => if s.releaseHeads (namedHead i v) = [] then (s, old, .quiet) else (s.releaseWrite i v, old, .ok)
  | .CE_PL_COMMIT =>
    let n := 2 * i + j
    if (s.pl n).checking.isSome then (s, old, .quiet) else (s.plCommitWrite n v org, old, .ok)
  | .CK_CMD =>
    if nbit v.toNat 0 then
      (if s.get (F.CK_STAT_STATE i) = 1 ∨ (1 < s.get (F.CK_ROWS_ROWS i) ∧ s.get (F.CK_STRIDE_BYTES i) < s.get (F.CK_LEN_BYTES i)) then (s, old, .quiet)
        else (s.ckStartOp i, old, .ok))
    else if nbit v.toNat 1 then let x := s.fresh; (x.2.ckAbortOp i x.1, old, .ok)
    else (s, old, .ok)
  | .AD_CMD => (s.adCommand i (nbit v.toNat 0) (nbit v.toNat 1), old, .ok)
  | .HQ_CMD => (s.hqCommand i (nbit v.toNat 0) (nbit v.toNat 1), old, .ok)
  | .HQ_DB =>
    if idxDiff (bits v 15 0) (s.get (F.HQ_CONS_CONS i)) ≤ s.hqSize i then (s, new, .ok) else (s.latch hqB 16, old, .viol)
  | .LT_CMD => let r := s.ltCmdWrite i v org; (r.1, old, r.2)
  | .LT_GROUP_CMD => let r := s.ltGroupWrite v org; (r.1, old, r.2)
  | .SPP_CTRL => if rises old new 1 ∧ s.laneTested (72 + i) then (s, keepBit old new 1, .quiet) else (s, new, .ok)
  | .NP_CTRL => if rises old new 0 ∧ s.portTested i then (s, keepBit old new 0, .quiet) else (s, new, .ok)
  | .NP_I2C_CMD => if s.flag (F.NP_I2C_STAT_BUSY i) then (s, old, .quiet) else (s, new, .ok)
  | .NR_CTRL =>
    if !rises old new 0 then (s, new, .ok) else
    let e := s.flowErr i new
    if e = 0 then (s, new, .ok) else ((s.set (F.NR_STAT_CFG_ERR i) e).latch ngB 1, keepBit old new 0, .quiet)
  | .NR_POL_RATE | .NR_POL_BURST => (s.setFlow i { s.flow i with tok := s.policeTokens i s.now, tokSince := s.now }, new, .ok)
  | .NG_SDI_CTRL =>
    if !rises old new 0 then (s, new, .ok) else
    let mine := (List.range (2 ^ bits new 2 1)).map (40 + i + ·)
    if mine.any s.laneTested then (s, keepBit old new 0, .quiet) else
    let e := s.sdiErr i new
    if e = 0 then (s, new, .ok) else ((s.set (F.NG_SDI_STAT_CFG_ERR i) e).latch ngB 1, keepBit old new 0, .quiet)
  | .NQ_CTRL =>
    if falls old new 0 ∧ (s.queueHead i).isSome then (s, keepBit old new 0, .quiet)
    else if !rises old new 0 then (s, new, .ok) else
    let e := s.queueErr i new
    if e = 0 then (s, new, .ok) else ((s.set (F.NQ_STAT_CFG_ERR i) e).latch ngB 0x100, keepBit old new 0, .quiet)
  | .NG_GCL_CTRL =>
    if !asksOne v 1 then (s, new, .ok) else
    let e := s.gclErr i (nbit new.toNat 0)
    if e = 0 then (s.gclAccept i, setBits new 1 1 0, .ok) else ((s.set (F.NG_GCL_STAT_CFG_ERR i) e).latch ngB 0x200, old, .quiet)
  | .CU_CTRL =>
    if asksOne v 0 ∧ (s.get (F.CU_IMG_LEVEL i) = 0 ∨ s.cst i = 3) then (s, old, .quiet) else (s, new, .ok)
  | .CU_IMG =>
    if [0, 0x100, 0x101, 0x102].contains (bits new 15 0) then (s, new, .ok)
    else ((s.latch (cuB i) 0x20).raise 0x014 i (ifaceOrg 1 i), old, .quiet)
  | .CU_DOORBELL => (s.event1 i 16 (bits v 15 0), old, .ok)
  | .CU_C_LO =>
    (s.setCreg i (j + 1) (w40 ((s.creg i (j + 1)).toNat / 2 ^ 32 * 2 ^ 32 + new.toNat)), old, .ok)
  | .CU_C_HI =>
    (s.setCreg i (j + 1) (w40 (bits new 7 0 * 2 ^ 32 + (s.creg i (j + 1)).toNat % 2 ^ 32)), old, .ok)
  | .CU_DM_LO => (s.updCue i fun c => { c with dmHold := v }, old, .ok)
  | .CU_DM_HI =>
    let x := s.get (F.CU_DM_IDX_INDEX i)
    let s := s.setDmem i x (w40 (bits v 7 0 * 2 ^ 32 + (s.cue i).dmHold.toNat))
    (s.set (F.CU_DM_IDX_INDEX i) (x + 1), old, .ok)
  | .CUS_SCR_DATA =>
    let x := s.get (F.CUS_SCR_IDX_INDEX i)
    ((s.setScr x v).set (F.CUS_SCR_IDX_INDEX i) (x + 1), old, .ok)
  | .DT_GLY_DATA =>
    let x := s.get F.DT_GLY_IDX_INDEX
    let s := { s with glyphs := (bytesLE 4 v.toNat).zipIdx.foldl (fun (g : Map Nat Byte) (b : Byte × Nat) => nput (fun _ => (0 : Byte)) g (4 * x + b.2) b.1) s.glyphs }
    (s.set F.DT_GLY_IDX_INDEX (x + 1), old, .ok)
  | .DT_CTRL => (if asksOne v 0 then s.requestRegs 4 zoneRecord else s, old, .ok)
  | .DT_S_LAYOUT => (s, setBits new 31 24 0, .ok)
  | _ => (s, new, .ok)

/-! ### What follows from a stored value -/

/-- The loading of an entry by SL_RD_SEQ_HI (R443). -/
def State.loadEntry (s : State) : State :=
  let q := s.get F.SL_RD_SEQ_HI_SEQ * 2 ^ 32 + s.get F.SL_RD_SEQ_LO_SEQ
  let e := s.sl.ring.find? fun e => e.1 == q
  let bs := (e.map fun e => Entry.bytes e.2).getD []
  let s := (List.range 8).foldl (fun s i => s.wr (.SL_RD_W, [i]) (w32 (ofBytesLE ((bs.drop (4 * i)).take 4)))) s
  s.set F.SL_RD_STAT_VALID (b2n e.isSome)

/-- The effects of a register that has been stored. -/
def State.after (s : State) (org : Org) (k : Key) (old new v : Word) : State :=
  let i := k.2.headD 0
  match k.1 with
  | .CE_L_FENCE_SIGNAL =>
    s.updLayer i (k.2.getD 1 0) fun l => if (l.fence.map (·.1)) = some s.tick then l else { l with fence := some (s.tick, old) }
  | .CE_JRN_CTRL => if rises old new 0 then s.wr (.CE_JRN_WR, [i]) 0 else s
  | .xx_INT_EN =>
    let st := s.rd (.xx_STATUS, k.2)
    if new &&& ~~~ old &&& st &&& w32 0xFFFFFF = 0 ∨ k.2 ∈ s.irqOwed then s else { s with irqOwed := s.irqOwed ++ [k.2] }
  | .DV_CTRL => (if asksOne v 1 then s.updDv fun d => { d with shutting := true } else s).settleMode
  | .DV_BOOT_CFG => s.requestBoot
  | .SL_CTRL =>
    if rises old new 0 then { (s.wr (.SL_STREAM_WR, []) 0) with sl := { s.sl with streamed := s.sl.next } } else s
  | .SL_RD_SEQ_HI => s.loadEntry
  | .CL_AUTO_RESTORE => s.requestControl s.sl.floor none
  | .TB_INC_REQ_HI => s.applyInc (s.get F.TB_INC_REQ_HI_INT * 2 ^ 32 + s.get F.TB_INC_REQ_LO_FRAC) org
  | .TB_INC_NOM_LO | .TB_INC_NOM_HI | .TB_MAX_SLEW => s.holdInc
  | .TB_UTC =>
    let s := if bits old 15 0 ≠ bits new 15 0 ∨ bits old 18 18 ≠ bits new 18 18 then s.requestTime else s
    s.src3Check
  | .RF_CTRL =>
    let s := if asksOne v 0 then (s.set F.RF_CTRL_SAVE 0).requestRegs 3 rfRecord else s
    if bits old 2 1 ≠ bits new 2 1 then s.src3Changed else s
  | .RF_IN_CTRL => if falls old new 0 then refLossOp i s else s
  | .RF_PPS_CTRL => s.src2Check
  | .SP_CTRL => if asksOne v 0 then (s.set F.SP_CTRL_SAVE 0).requestRegs 5 spRecord else s
  | .SP_LOOP_MAX => s.spLoopMax
  | .SPP_CTRL =>
    let s := if asksOne v 0 then s.spOn i else if asksZero v 0 then s.spOff i else s
    if falls old new 1 then s.spUnlink i else s
  | .GL_CTRL => if rises old new 0 then s.glOn else if falls old new 0 then s.glOff else s
  | .HD_CTRL => if asksOne v 0 ∧ s.runErr i (nbit new.toNat 1) = some 0 then s.startHead i else if asksZero v 0 then s.stopHead i else s
  | .AD_CTRL => if rises old new 0 then s.adStart i else if falls old new 0 then s.adStop i 0 else s
  | .HQ_CTRL =>
    if rises old new 0 then (s.set (F.HQ_CTRL_OWNER i) org.det).hqStart i else if falls old new 0 then s.hqStop i 0 else s
  | .NP_CTRL => if falls old new 0 then linkDownOp i s else s
  | .NP_I2C_CMD => if s.flag (F.NP_I2C_STAT_BUSY i) then s else s.i2cBegin i
  | .NR_CTRL => if rises old new 0 then s.startFlow i else if falls old new 0 then s.stopFlow i else s
  | .NR_POL_BURST => s.updFlow i fun x => { x with tok := min x.tok (bits new 15 0 * 65536) }
  | .NG_SDI_CTRL => if rises old new 0 then s.startSdi i else if falls old new 0 then s.stopSdi i else s
  | .NQ_CTRL => if rises old new 0 then s.startQueue i else if falls old new 0 then s.stopQueue i else s
  | .NG_GCL_CTRL => if falls old new 0 then s.gclStop i else s
  | .CU_CTRL =>
    if asksOne v 0 then (if s.cst i = 0 ∧ s.get (F.CU_IMG_LEVEL i) ≠ 0 then s.startEngine i (nbit new.toNat 1) (nbit new.toNat 2) else s)
    else if asksZero v 0 then s.haltEngine i else s
  | .CU_PARAM => s.event1 i 17 (k.2.getD 1 0)
  | _ => s

end Sys2Proof.Machine
end

