-- ==== Sys2Proof/Machine/RegWrite.lean ====
section
/-! DEFINITION. The path of every register write (R15): permission, width, the block's rules, the store or the refusal, the
entry (R35 to R53, R58 to R60). -/

namespace Sys2Proof.Machine

/-! ### Judging the fields of a register (R40 to R43, R48) -/

/-- The value a register holds: those of the general registers of a cue engine stand in the engine. -/
def State.held (s : State) (k : Key) : Word :=
  let n := k.2.headD 0
  let c := (s.creg n (k.2.getD 1 0 + 1)).toNat
  match k.1 with
  | .CU_C_LO => w32 c
  | .CU_C_HI => w32 (c / 2 ^ 32)
  | _ => s.rd k

/-- A register of access type MW (R41). -/
def isMw (d : RegDef) : Bool := d.fields.any fun f => f.acc == .mw

/-- The word that a write asks for: of an MW register only the bits under the mask change. -/
def asked (d : RegDef) (old v : Word) : Word :=
  if isMw d then let m := w32 (bits v 31 16); (old &&& ~~~ m) ||| (v &&& m) else v

/-- Rights 0b10 read back as 0b01 (R63). -/
def permWord (v : Word) : Word :=
  (List.range 16).foldl (fun w i => if bits w (2 * i + 1) (2 * i) = 2 then setBits w (2 * i + 1) (2 * i) 1 else w) v

/-- The write as the register takes it. -/
def taken (r : Reg) (v : Word) : Word := if r = .DV_PERM_LO ∨ r = .DV_PERM_HI then permWord v else v

/-- What the judgement of the fields gives: the word to be stored, the judgement, and the bits of written W1 fields. -/
structure Fields where
  word : Word
  judge : Judge := .ok
  marks : Word

/-- Take a field into the word. -/
def Fields.take (r : Fields) (f : FieldDef) (c : Nat) : Fields := { r with word := setBits r.word f.hi f.lo c }

/-- Judge one field. `lock` says whether W1 and LOCK are judged here (R60). -/
def State.judgeField (s : State) (k : Key) (old cand : Word) (lock : Bool) (r : Fields) (f : FieldDef) : Fields :=
  let o := bits old f.hi f.lo
  let c := bits cand f.hi f.lo
  match f.acc with
  | .w1 =>
    if lock ∧ bits r.marks f.hi f.lo ≠ 0 then (if c = o then r else { r with judge := r.judge.with .viol })
    else { r.take f c with marks := setBits r.marks f.hi f.lo (2 ^ (f.hi + 1 - f.lo) - 1) }
  | .rw | .mw =>
    if c = o then r
    else
      match f.app with
      | .lock => if lock ∧ s.flag ⟨(.xx_LOCK, keyHdr k), 0, 0⟩ then { r with judge := r.judge.with .viol } else r.take f c
      | .stop => if s.isRunning k then { r with judge := r.judge.with .quiet } else r.take f c
      | _ => r.take f c
  | _ => r

/-- Judge every field of a register. -/
def State.judgeFields (s : State) (k : Key) (v : Word) (lock : Bool) : Fields :=
  let d := regDef k.1
  let old := s.held k
  d.fields.foldl (s.judgeField k old (asked d old v) lock) ⟨old, .ok, mget (fun _ => 0) s.w1 k⟩

/-! ### Storing (R50) -/

/-- A register with fields of class LINE, FRAME, PKT or PER. -/
def waits (d : RegDef) : Bool := d.fields.any fun f => f.app == .line || f.app == .frame || f.app == .pkt || f.app == .per

/-- The function of a register stands still, so that a write takes effect at once. -/
def State.still (s : State) (k : Key) : Bool :=
  let i := k.2.headD 0
  match (regDef k.1).blk with
  | .HD => s.hst i == 0
  | .CE => s.hst (2 * i + k.2.getD 1 0) == 0
  | .NQ => !s.flag (F.NQ_CTRL_EN i)
  | _ => false

/-- Store a register. A write of a class that waits for an application point keeps the value in effect. -/
def State.store (s : State) (k : Key) (new : Word) : State :=
  if !waits (regDef k.1) then (if new = s.held k then s else s.wr k new)
  else if s.still k then
    { s.wr k new with eff := merase s.eff k, waiting := s.waiting.filter fun e => e.1 != k }
  else if new = s.rd k ∧ !s.waiting.any (fun e => e.1 == k) then s
  else { s.wr k new with eff := mput keyAddr (fun _ => none) s.eff k (some (s.rdE k)), waiting := s.waiting ++ [(k, s.tick, new)] }

/-! ### Refusals (R47, R48) -/

/-- Count a refusal in its instance, and raise REG_LOCK_VIOL for one under R47. -/
def State.refuse (s : State) (hdr : List Nat) (j : Judge) (org : Org) : State :=
  match j with
  | .ok => s
  | .quiet => s.count ⟨(.xx_REFUSED, hdr), 15, 0⟩ 1
  | .viol => (s.count ⟨(.xx_REFUSED, hdr), 15, 0⟩ 1).raise 0x004 0 org

/-- The flags of a WRITE entry (R439). -/
def refusedFlag (j : Judge) : Nat := if j = .ok then 0 else 2

/-! ### The block's part -/

/-- A write of xx_STATUS (R53, R54). -/
def State.statusWrite (s : State) (k : Key) (v : Word) : State :=
  let w := s.rd k
  if s.flag ⟨(.xx_STATUS_MODE, k.2), 0, 0⟩ ∨ bits v 31 24 ≠ bits w 31 24 then s
  else s.wr k (w &&& ~~~ (v &&& w32 0xFFFFFF))

/-- The block takes a write of a register: it judges the fields, the value and the command, stores what it accepts, and acts. -/
def State.blockWrite (s : State) (org : Org) (k : Key) (v : Word) (lock : Bool) : State × Judge :=
  if k.1 = .xx_STATUS then (s.statusWrite k v, .ok) else
  let v := taken k.1 v
  let r := s.judgeFields k v lock
  let j := s.valueRule k r.word
  if j ≠ .ok then (s, r.judge.with j) else
  let old := s.held k
  let s := { s with w1 := mput keyAddr (fun _ => 0) s.w1 k r.marks }
  let c := s.command org k old r.word v
  let s := c.1.store k c.2.1
  (s.after org k old c.2.1 v, r.judge.with c.2.2)

/-- The code of the slow block that a register belongs to (R58). -/
def slowCode (k : Key) : Option Nat :=
  let c := (keyHdr k).headD 0
  if c = 3 ∨ c = 4 ∨ c = 11 then some c else none

abbrev slowD : Nat → List (Org × Nat × Nat) := fun _ => []

/-- A word with the fields that a write asks for. -/
def askedFields (d : RegDef) (w v : Word) : Word :=
  d.fields.foldl (fun x f => if f.acc == .rw || f.acc == .mw || f.acc == .w1 then setBits x f.hi f.lo (bits (asked d w v) f.hi f.lo) else x) w

/-- What a register of a slow block will hold when the writes in its queue have reached it, as the fabric counts it: what only the
block can refuse there is left aside (R46, R60; log 60). -/
def State.slowAhead (s : State) (code : Nat) (k : Key) : Word :=
  (mget slowD s.slowQ code).foldl (fun w e => if e.2.1 = keyAddr k then askedFields (regDef k.1) w (w32 e.2.2) else w) (s.held k)

/-- The fields of a write to a slow block, judged in the fabric as the write enters the queue (R60). -/
def State.slowJudge (s : State) (code : Nat) (k : Key) (v : Word) : Fields :=
  let lk := (Reg.xx_LOCK, keyHdr k)
  ((s.wr lk (s.slowAhead code lk)).wr k (s.slowAhead code k)).judgeFields k v true

/-- A write to a slow block (R59, R60): the fabric judges W1 and LOCK, and marks a W1 field as written (R40); then the write waits
in the queue. -/
def State.slowWrite (s : State) (code : Nat) (org : Org) (addr : Nat) (k : Key) (v : Word) : State × Bool :=
  let r := s.slowJudge code k v
  if r.judge = .viol then ((s.refuse (keyHdr k) .viol org).log 0 2 org addr v.toNat, true)
  else
    let s := { s with
      slowQ := nput slowD s.slowQ code (mget slowD s.slowQ code ++ [(org, addr, v.toNat)])
      w1 := mput keyAddr (fun _ => 0) s.w1 k r.marks }
    (s.set ⟨(.xx_AGE, [code, 0]), 8, 8⟩ 1, false)

abbrev slowHoldD : Nat → List (Origin × Nat × Word × Nat) := fun _ => []

/-- The slow block that an address belongs to, where the 16 entries of its queue are taken (R59). -/
def State.slowFull (s : State) (t : Target) : Option Nat :=
  match t with
  | .reg k =>
    match slowCode k with
    | some c => if 16 ≤ (mget slowD s.slowQ c).length then some c else none
    | none => none
  | _ => none

/-- The fabric holds a write until an entry of the queue frees (R59). -/
def State.holdWrite (s : State) (c : Nat) (o : Origin) (addr : Nat) (v : Word) (be : Nat) : State :=
  { s with slowHold := nput slowHoldD s.slowHold c (mget slowHoldD s.slowHold c ++ [(o, addr, v, be)]) }

/-- A half of an instruction slot is written (R38, R265). -/
def State.slotWrite (s : State) (org : Org) (e i : Nat) (up : Bool) (v : Word) : State × Judge :=
  let old := (s.imemAt e i).toNat
  let new := if up then bits v 7 0 * 2 ^ 32 + old % 2 ^ 32 else old / 2 ^ 32 * 2 ^ 32 + v.toNat
  if 16 ≤ e ∧ e < 20 ∧ org.cls ≠ 0 then (s, .viol)
  else if s.cst e ≠ 0 then (s, if new = old then .ok else .quiet)
  else (s.setImem e i (w40 new), .ok)

/-! ### The fabric's part -/

/-- The header of what lies at an address. -/
def Target.hdr : Target → List Nat
  | .reg k | .hold k => keyHdr k
  | .slot e _ _ => [20, e]
  | .unlisted h => h
  | .reserved => []

/-- The word with the bytes that are not enabled made 0. -/
def maskBytes (v : Word) (be : Nat) : Word :=
  w32 ((bytesLE 4 v.toNat).zipIdx.foldl (fun (a : Nat) (b : Byte × Nat) => a + (if nbit be b.2 then b.1.toNat * 256 ^ b.2 else 0)) 0)

/-- The register fabric runs and takes writes: from boot step 3 until a seal or the rails stop it (R31, R75, R77, R447). -/
def State.served (s : State) : Bool := decide (3 ≤ s.dv.step) && !s.dv.heldWrites && !s.dv.railsOff

/-- A masked write with all mask bits clear (R41). -/
def emptyMask (t : Target) (v : Word) (be : Nat) : Bool :=
  match t with
  | .reg k => be == 15 && isMw (regDef k.1) && bits v 31 16 == 0
  | _ => false

/-- A register write (R15). The second value says whether it was denied or refused, in whole or in part. -/
def State.busWrite (s : State) (o : Origin) (addr : Nat) (v : Word) (be : Nat := 15) : State × Bool :=
  let org := orgOf o
  let t := decodeAddr addr
  let entry (s : State) (flags : Nat) : State := s.log 0 flags org addr (maskBytes v be).toNat be
  if !s.served ∨ be = 0 ∨ emptyMask t v be then (s, false) else
  match s.slowFull t with
  | some c => (s.holdWrite c o addr v be, false)
  | none =>
  if t = .reserved then (entry (s.count F.DV_ACC_ERR_UNMAPPED 1) 2, true)
  else if s.rights o (t.hdr.headD 0) ≠ 3 then (entry ((s.count F.DV_ACC_ERR_DENIED_WR 1).raise 0x004 0 org) 2, true)
  else if be ≠ 15 then (entry (s.count F.DV_ACC_ERR_PARTIAL 1) 1, true)
  else
    match t with
    | .slot e i up =>
      let r := s.slotWrite org e i up v
      (entry (r.1.refuse t.hdr r.2 org) (refusedFlag r.2), r.2 != .ok)
    | .reg k =>
      if s.ownerRule o k v = .viol then (entry (s.refuse t.hdr .viol org) 2, true) else
      match slowCode k with
      | some c => s.slowWrite c org addr k v
      | none =>
        let r := s.blockWrite org k v true
        (entry (r.1.refuse t.hdr r.2 org) (refusedFlag r.2), r.2 != .ok)
    | _ => (entry s 0, false)

/-- A write of the register of a key. -/
def State.keyWrite (s : State) (o : Origin) (k : Key) (v : Word) : State := (s.busWrite o (keyAddr k) v).1

/-! ### The slow domain (R58 to R60) -/

def slowBlkCode : SlowBlk → Nat
  | .cl => 3
  | .ps => 4
  | .sp => 11

/-- The writes that the fabric holds for a slow block enter its queue as far as entries are free, and are judged as they do (R59,
R60). -/
def State.enterHeld (s : State) (c : Nat) : State :=
  let l := mget slowHoldD s.slowHold c
  l.foldl (fun s e => (s.busWrite e.1 e.2.1 e.2.2.1 e.2.2.2).1) { s with slowHold := nput slowHoldD s.slowHold c [] }

/-- The oldest write in the queue of a slow block reaches it, and is applied or refused there. -/
def slowArriveOp (b : SlowBlk) (s : State) : State :=
  let c := slowBlkCode b
  match mget slowD s.slowQ c with
  | [] => s
  | (org, addr, v) :: rest =>
    if s.dv.heldWrites ∨ s.dv.railsOff then s else
    let s := { s with slowQ := nput slowD s.slowQ c rest }
    match decodeAddr addr with
    | .reg k =>
      let r := s.blockWrite org k (w32 v) false
      ((r.1.refuse (keyHdr k) r.2 org).log 0 (refusedFlag r.2) org addr v).enterHeld c
    | _ => s

end Sys2Proof.Machine
end

