-- ==== Sys2Proof/Machine/RegRead.lean ====
section
/-! DEFINITION. Register reads (R37, R44, R51, R53, R54, R58, R65): what registers show that is not stored, what a read leaves
behind, the copies of the slow domain, and snapshots (R61, R62). -/

namespace Sys2Proof.Machine

/-! ### Present conditions (xx_LIVE) -/


/-- Some enabled SDI group, and all of them locked. -/
def State.sdiAllLocked (s : State) : Bool :=
  let on := (List.range 16).filter fun i => s.flag (F.NG_SDI_CTRL_EN i)
  on != [] && on.all fun i => s.flag (F.NG_SDI_STAT_LOCK i)

/-- The present conditions of head n (the table of HDn_STATUS). -/
def State.hdLive (s : State) (n : Nat) : Nat :=
  let h := s.head n
  let st := s.hst n
  ofBits [(0, st == 2), (1, st == 0), (2, st == 4 || st == 5), (3, h.sdiFail), (4, h.dpDown), (5, h.stFail), (6, h.fifoOut != []),
    (7, h.vintDrop)]

/-- The present conditions of a block (the status tables of each chapter). An event without an entry there has none. -/
def State.live (s : State) (b : List Nat) : Nat :=
  let i := b.getD 1 0
  match b.headD 99 with
  | 1 => ofBits [(0, s.flag F.FC_FIRST_ID_VALID), (1, s.flag F.FC_OVF_OVF), (2, s.anyLatched (fun c => c == 1)), (3, s.anyLatched (fun c => c == 2)),
      (4, s.anyLatched (fun c => c == 3)), (6, s.fc.windows != [])]
  | 2 => ofBits [(2, !s.healthy)]
  | 3 => ofBits [(1, s.cl.failed)]
  | 4 => ofBits [(0, s.ps.limited), (2, (List.range 16).any fun r => !s.flag (F.PS_RAIL_STAT_GOOD r)), (3, (List.range 16).any s.warm)]
  | 6 => ofBits [(0, s.rf.locked.contains 0), (1, s.rf.locked.contains 1), (2, (s.ltc 0).ok), (3, (s.ltc 1).ok), (4, s.rf.ppsUse),
      (5, s.rf.todOk), (6, s.rf.load != [])]
  | 7 => ofBits ((List.range 4).map fun u => (4 * u, s.get (F.CK_STAT_STATE u) == 1))
  | 8 => ofBits [(0, (List.range 64).any fun c => s.get (F.AD_STAT_STATE c) == 3)]
  | 9 => ofBits [(0, (List.range 64).any fun r => (s.hq r).busErr)]
  | 10 => ofBits [(0, s.laneTests), (2, (List.range 80).any fun l => s.flag (F.LT_STAT_EYE_BUSY l))]
  | 11 => ofBits (((List.range 8).map fun n => (n, s.spSt n == 3)) ++ ((List.range 8).map fun n => (8 + n, s.flag (F.SPP_STAT_LINK n))) ++
      [(17, s.spSupplyOk)])
  | 12 => ofBits [(0, s.get F.GL_STATE_ROLE == 2 || s.get F.GL_STATE_ROLE == 3)]
  | 13 => s.hdLive i
  | 16 => ofBits [(0, s.flag (F.NP_STAT_LINK i)), (1, s.flag (F.NP_STAT_MOD_PRESENT i)), (2, s.flag (F.NP_STAT_MOD_INT i)),
      (8, s.flag (F.NG_GCL_STAT_PENDING i)), (11, s.flag (F.NP_TX_ACTIVE_HWM i))]
  | 19 => ofBits [(2, s.flows.any fun f => decide (f.1 < 16384) && f.2.down), (3, s.sdiAllLocked)]
  | 20 => ofBits [(0, decide (i < 24) && s.cst i == 0)]
  | _ => 0

/-! ### What registers show -/

/-- A register that has WO fields only reads 0 (R43). -/
def writeOnly (d : RegDef) : Bool := d.fields.all fun f => f.acc == .wo

/-- The times that the other time words hold for an origin class (R102). -/
def State.timeLatch (s : State) (cls : Nat) : Nat × Nat × Nat := mget (fun _ => (0, 0, 0)) s.tb.latches cls

/-- The position of head n that a read finds: frame count, line and sample. -/
def State.posShown (s : State) (n : Nat) : Nat × Nat × Nat := if s.ticking n then (s.accPos n).getD (0, 0, 0) else (0, 0, 0)

/-- The stamps of a port (R122). -/
def State.stamps (s : State) (p : Nat) : List TxStamp := mget (fun _ => []) s.tb.tsq p

/-- What a pop of a stamp queue returns (R122). -/
def popWord (q : List TxStamp) : Word :=
  match q with
  | [] => 0
  | t :: _ => w32 (t.tag % 65536 + t.queue % 16384 * 65536 + 2 ^ 31)

/-- Bit b is 1 where p holds of source 32 i + b. -/
def sourceWord (i : Nat) (p : Nat → Bool) : Word := w32 (ofBits ((List.range 32).map fun b => (b, p (32 * i + b))))

/-- A source is suppressed by an open window, on some unit. -/
def State.supNow (s : State) (id : Nat) : Bool := s.fc.windows.any fun w => (List.range 24).any fun u => consequential w.react w.unit id u

/-- The address that a data memory or scratch port reads: its word, or 0 where it is uncorrectable (R274). -/
def State.dmPort (s : State) (n : Nat) : Word40 :=
  let x := s.get (F.CU_DM_IDX_INDEX n)
  if s.eccAt (dmKey n x) = 2 then 0 else s.dmemAt n x

def State.scrPort (s : State) (p : Nat) : Word :=
  let x := s.get (F.CUS_SCR_IDX_INDEX p)
  if s.eccAt (scrKey x) = 2 then 0 else s.scr x

/-- The protection load of check unit u, in units of 0.1 GB/s rounded up (R257). -/
def State.plLoadShown (s : State) (u : Nat) : Nat := min (ceilDiv (s.protLoad (s.plHeads u)) (100000000 * 1001)) 255

/-- What a register of the fabric domain shows to a reading origin class. -/
def State.shown (s : State) (k : Key) (cls : Nat) : Word :=
  let i := k.2.headD 0
  let w := s.held k
  if writeOnly (regDef k.1) then 0 else
  match k.1 with
  | .xx_LIVE => w32 (s.live k.2)
  | .xx_STATUS => if s.flag ⟨(.xx_STATUS_MODE, k.2), 0, 0⟩ then setBits w 31 24 0 else w
  | .DV_IFV_GL => if s.get F.GL_STATE_ROLE = 2 ∨ s.get F.GL_STATE_ROLE = 3 then w32 (s.get F.GL_STATE_VER) else 0
  | .FC_PINS => w32 (b2n s.faultPin + 2 * b2n s.alarmPin + 4 * min s.fc.windows.length 31)
  | .FC_COND => sourceWord i fun id => (srcClass id).isSome && s.causeLive id
  | .FC_SUP => sourceWord i fun id => (srcClass id).isSome && s.supNow id
  | .SL_SEQ_LO => w32 s.sl.next
  | .SL_SEQ_HI => w32 s.sl.readHi
  | .SL_MIRROR_LAG => w32 (min (s.sl.next - s.sl.mirrored) 65536)
  | .TB_TIME_SL => w32 s.tb.sec
  | .TB_TIME_SH => w32 (s.timeLatch cls).1
  | .TB_TIME_NS => w32 (s.timeLatch cls).2.1
  | .TB_TIME_FR => w32 (s.timeLatch cls).2.2
  | .TB_TSQ_DEPTH => setBits w 6 0 (min (s.stamps i).length 64)
  | .TB_TSQ_POP => popWord (s.stamps i)
  | .CK_PL_LOAD => w32 (s.plLoadShown i)
  | .LT_STAT => setBits w 3 3 (b2n (s.laneInUse i))
  | .LT_BITS_LO => w32 (if s.get (F.LT_STAT_STATE i) = 1 then s.bitsNow i else w.toNat)
  | .LT_BITS_HI => w32 (s.lt i).bitsHi
  | .HD_FRAME_LO => w32 (s.posShown i).1
  | .HD_FRAME_HI => w32 ((s.posShown i).1 / 2 ^ 32 % 65536)
  | .HD_POS =>
    let p := s.posShown i
    w32 (p.2.1 % 8192 + p.2.2 % 16384 * 65536 + b2n (interlaced ((s.onLast i).fmt i) && decide (564 ≤ p.2.1)) * 2 ^ 31)
  | .CE_L_FENCE_STAT =>
    let m := k.2.getD 1 0
    setBits w 0 0 (b2n ((s.layerHead i m).any fun e => e.2.fencePasses (s.get (F.CE_L_FENCE_SIGNAL_VALUE i m))))
  | .NR_STAT => setBits w 8 8 (b2n (s.pathUp i))
  | .NQ_CREDIT => s.creditWord i
  | .CU_STAT =>
    setBits (setBits (setBits w 8 8 (b2n (flate (s.flags i)))) 9 9 (b2n (s.get (F.CU_IMG_LEVEL i) != 0))) 12 10 (s.cue i).kicks.length
  | .CU_C_LO | .CU_C_HI => if s.cst i = 0 then w else 0
  | .CU_EVT_PEND => w32 (ofBits ((List.range 8).map fun c => (c, (s.evtLatch i (16 + c)).any fun e => s.delivered e.2)))
  | .CU_DM_LO => w32 (s.dmPort i).toNat
  | .CU_DM_HI => w32 (s.cue i).dmLatch
  | .CUS_SCR_DATA => s.scrPort i
  | .DT_GLY_DATA => w32 (ofBytesLE ((List.range 4).map fun b => mget (fun _ => (0 : Byte)) s.glyphs (4 * s.get F.DT_GLY_IDX_INDEX + b)))
  | _ => w

/-- What a register shows; those of the slow domain show their copies (R58). -/
def State.copyShown (s : State) (k : Key) : Word :=
  let w := mget resetVal s.slowCopy k
  match k.1 with
  | .xx_ID | .xx_AGE => s.rd k
  | .xx_STATUS => if bits (mget resetVal s.slowCopy (.xx_STATUS_MODE, k.2)) 0 0 = 1 then setBits w 31 24 0 else w
  | _ => if writeOnly (regDef k.1) then 0 else w

/-- What a register shows to a reading origin class. -/
def State.seen (s : State) (k : Key) (cls : Nat) : Word := if (slowCode k).isSome then s.copyShown k else s.shown k cls

/-! ### What a read leaves behind -/

/-- The RC fields of a word, made 0 (R44). -/
def clearRc (d : RegDef) (w : Word) : Word := d.fields.foldl (fun w f => if f.acc == .rc then setBits w f.hi f.lo 0 else w) w

/-- A port read of a word of data memory or scratch (R274). -/
def State.portRead (s : State) (n key : Nat) : State :=
  if s.eccAt key = 2 then (s.count F.CUS_MEM_UNCORR_COUNT 1).raise 0x164 n (s.cuOrg n) else s.corrected n key

/-- A pop of a stamp queue loads the time of the stamp that it removes (R122). -/
def State.popStamp (s : State) (p : Nat) : State :=
  match s.stamps p with
  | [] => s
  | t :: q =>
    let s := { s with tb := { s.tb with tsq := nput (fun _ => []) s.tb.tsq p q } }
    let s := (s.wr (.TB_TSQ_SL, [p]) (w32 t.at_.sec)).wr (.TB_TSQ_NS, [p]) (w32 t.at_.ns)
    s.wr (.TB_TSQ_SH, [p]) (w32 (t.at_.sec / 2 ^ 32 % 65536 + t.at_.frac / 65536 % 65536 * 65536))

/-- The time words of this tick are latched for an origin class (R102). -/
def State.latchTime (s : State) (cls : Nat) : State :=
  { s with tb := { s.tb with latches := nput (fun _ => (0, 0, 0)) s.tb.latches cls (s.tb.sec / 2 ^ 32 % 65536, s.tb.ns, s.tb.frac) } }

/-- What a read of a fabric register does once it has sampled it. `v` is what it returned. -/
def State.afterRead (s : State) (k : Key) (cls : Nat) (v : Word) : State :=
  let i := k.2.headD 0
  let d := regDef k.1
  match k.1 with
  | .xx_STATUS => if s.flag ⟨(.xx_STATUS_MODE, k.2), 0, 0⟩ then s.wr k (s.rd k &&& ~~~ (v &&& w32 0xFFFFFF)) else s
  | .SL_SEQ_LO => { s with sl := { s.sl with readHi := s.sl.next / 2 ^ 32 % 65536 } }
  | .TB_TIME_SL => s.latchTime cls
  | .TB_TSQ_POP => s.popStamp i
  | .LT_BITS_LO => s.bitsLatch i
  | .CU_DM_LO => (s.updCue i fun c => { c with dmLatch := (s.dmPort i).toNat / 2 ^ 32 }).portRead i (dmKey i (s.get (F.CU_DM_IDX_INDEX i)))
  | .CU_DM_HI => s.set (F.CU_DM_IDX_INDEX i) (s.get (F.CU_DM_IDX_INDEX i) + 1)
  | .CUS_SCR_DATA =>
    let x := s.get (F.CUS_SCR_IDX_INDEX i)
    (s.portRead 24 (scrKey x)).set (F.CUS_SCR_IDX_INDEX i) (x + 1)
  | .DT_GLY_DATA => s.set F.DT_GLY_IDX_INDEX (s.get F.DT_GLY_IDX_INDEX + 1)
  | _ => if d.fields.any fun f => f.acc == .rc then s.wr k (clearRc d (s.rd k)) else s

/-- What a read of a register of the slow domain does: what it clears is cleared in the copy and behind it. -/
def State.afterCopyRead (s : State) (k : Key) (v : Word) : State :=
  let d := regDef k.1
  let put (s : State) (w : Word) : State := { s with slowCopy := mput keyAddr resetVal s.slowCopy k w }
  let c := mget resetVal s.slowCopy k
  match k.1 with
  | .xx_STATUS =>
    if bits (mget resetVal s.slowCopy (.xx_STATUS_MODE, k.2)) 0 0 = 1 then
      let m := ~~~ (v &&& w32 0xFFFFFF)
      put (s.wr k (s.rd k &&& m)) (c &&& m)
    else s
  | _ => if d.fields.any fun f => f.acc == .rc then put (s.wr k (clearRc d (s.rd k))) (clearRc d c) else s

/-- A read of RUN during a scan returns the value after `fed` bytes and latches PROG (R259). -/
def State.readRun (s : State) (k : Key) (fed : Nat) : State :=
  if k.1 = .CK_RUN then s.ckRunLatch (k.2.headD 0) fed else if k.1 = .LT_ERRORS then s.errorsNow (k.2.headD 0) else s

/-- The register fabric answers reads. -/
def State.readable (s : State) : Bool := decide (3 ≤ s.dv.step) && !s.dv.railsOff

/-- A register read: the state after it, the data, and whether it was denied (R37, R44, R65). `fed` is what a read of CKu_RUN finds. -/
def State.busReadAt (s : State) (o : Origin) (addr fed : Nat) : State × Word × Bool :=
  let t := decodeAddr addr
  if !s.readable ∨ t = .reserved then (s, 0, false)
  else if s.rights o (t.hdr.headD 0) = 0 then (s.count F.DV_ACC_ERR_DENIED_RD 1, 0, true)
  else
    match t with
    | .reg k =>
      let cls := (orgOf o).cls
      let s := s.readRun k fed
      let v := s.seen k cls
      (if (slowCode k).isSome then s.afterCopyRead k v else s.afterRead k cls v, v, false)
    | .hold k => (s, mget (fun _ => 0) s.holding k, false)
    | .slot e i up => (s, if up then w32 ((s.imemAt e i).toNat / 2 ^ 32) else w32 (s.imemAt e i).toNat, false)
    | _ => (s, 0, false)

/-- A register read. A read of CKu_RUN during a scan finds a free number of bytes fed. -/
def State.busRead (s : State) (o : Origin) (addr : Nat) : State × Word × Bool :=
  match decodeAddr addr with
  | .reg (.CK_RUN, _) => let x := s.fresh; x.2.busReadAt o addr x.1
  | _ => s.busReadAt o addr 0

/-- A read whose data go back to their origin. -/
def State.readOut (s : State) (o : Origin) (addr : Nat) : State :=
  let r := s.busRead o addr
  r.1.emit (.readData (orgOf o) addr r.2.1)

/-! ### The copies of the slow domain (R58, R59) -/

/-- A register of a slow block that its copy follows. -/
def copied (c : Nat) (k : Key) : Bool := slowCode k == some c && k.1 != .xx_AGE

/-- One clock edge of the housekeeping domain: the copy of a block is refreshed, or grows older. -/
def slowRefreshOp (b : SlowBlk) (arrived : Bool) (s : State) : State :=
  let c := slowBlkCode b
  let age := (.xx_AGE, [c, 0])
  if !arrived then s.wr age (setBits (s.rd age) 7 0 (satAdd 8 (bits (s.rd age) 7 0) 1)) else
  let old := s.slowCopy.filter fun e => !copied c e.1
  let new := (s.regs.filter fun e => copied c e.1).foldl (fun (m : Map Key Word) (e : Key × Word) => mput keyAddr resetVal m e.1 e.2) old
  let new := mput keyAddr resetVal new (.xx_LIVE, [c, 0]) (w32 (s.live [c, 0]))
  ({ s with slowCopy := new }).wr age (if mget slowD s.slowQ c = [] then 0 else w32 256)

/-! ### Snapshots (R61, R62) -/

/-- What a snapshot captures of a counter. -/
def State.captured (s : State) (k : Key) : Word :=
  match k.1 with
  | .LT_BITS_LO => w32 (if s.get (F.LT_STAT_STATE (k.2.headD 0)) = 1 then s.bitsNow (k.2.headD 0) else (s.rd k).toNat)
  | .LT_BITS_HI => if s.get (F.LT_STAT_STATE (k.2.headD 0)) = 1 then w32 (s.bitsNow (k.2.headD 0) / 2 ^ 32 % 65536) else s.rd k
  | .TB_TSQ_DEPTH => s.shown k 0
  | _ => s.rd k

/-- All index lists of dimensions. -/
def allIdx : List (Nat × Nat) → List (List Nat)
  | [] => [[]]
  | (n, _) :: ds => (List.range n).flatMap fun i => (allIdx ds).map (i :: ·)

/-- The counters of a block: of its header, and its own. -/
def blkCounters (b : Blk) : List Key :=
  let m := blkMap b
  let own := (blkRegs b).filter isCounter
  let hdr := hdrRegs.filter isCounter
  (List.range m.2.2.2).flatMap fun i =>
    (hdr.map fun r => (r, hdrKey b i)) ++ own.flatMap fun r => (allIdx (regDef r).dims).map fun is => (r, if blkMulti b then i :: is else is)

/-- The part of the capture page that block codes 17 to 20 fill: offset and bytes (R292, R345, R368). -/
def State.pageParts (s : State) (code : Nat) : List (Nat × List Byte) :=
  let words (rs : List Reg) (i : Nat) : List Byte := (rs.map fun r => bytesLE 4 (s.shown (r, [i]) 0).toNat).flatten
  if code = 17 then [(0x10000, ((List.range 16384).map (words [.NR_PKTS, .NR_POL_DROP, .NR_FRAMES, .NR_ERRS])).flatten)]
  else if code = 18 then [(0x60000, ((List.range 16384).map (words [.NQ_FRAMES, .NQ_LATE_DROP, .NQ_OVERSIZE, .NQ_LATE_SENT])).flatten)]
  else if code = 19 then [(0x50000, ((List.range 16).map (words [.NG_SDI_CRC_ERR, .NG_SDI_FRAMES, .NG_SDI_ERRS, .NG_SDI_LAG])).flatten)]
  else if code = 20 then [(0xC00, ((List.range 24).map (words [.CU_RETIRED, .CU_LATE_CNT, .CU_TRAP_CNT, .CU_STAT])).flatten)]
  else []

/-- The blocks of a code below 17 (R35). -/
def holdBlks (code : Nat) : List Blk := allBlks.filter fun b => blkCode b == code && decide (code < 17)

/-- The capture is made on the first tick after the request (R61). -/
def snapCaptureOp (s : State) : State :=
  match s.dv.snapReq with
  | none => s
  | some (mask, t) =>
    if s.tick ≤ t then s else
    let codes := (List.range 21).filter (nbit mask)
    let keys := (codes.flatMap holdBlks).flatMap blkCounters
    let h := keys.foldl (fun (m : Map Key Word) (k : Key) => mput keyAddr (fun _ => 0) m k (s.captured k)) s.holding
    let page := codes.flatMap s.pageParts
    let s := { s with holding := h, dv := { s.dv with snapReq := none, snapPage := page } }
    let s := s.wr (.DV_SNAP_ID, []) (s.rd (.DV_SNAP_ID, []) + 1)
    let s := (s.set F.DV_SNAP_TAI_SL_SEC_LO s.tb.sec).set F.DV_SNAP_TAI_SH_SEC_HI (s.tb.sec / 2 ^ 32)
    (s.set F.DV_SNAP_TAI_NS_NS s.tb.ns).set F.DV_SNAP_STAT_BUSY (b2n (page != []))

/-- The write-out of the capture page is complete (R61). -/
def snapDoneOp (s : State) : State :=
  if !s.flag F.DV_SNAP_STAT_BUSY ∨ s.dv.snapReq.isSome then s else
  let base := s.get F.DV_SNAP_BASE_HI_ADDR * 2 ^ 32 + s.get F.DV_SNAP_BASE_LO_ADDR * 4096
  let s := s.dv.snapPage.foldl (fun (s : State) (p : Nat × List Byte) => s.memWrite false {} ((base + p.1) % memSize) p.2) s
  (s.set F.DV_SNAP_STAT_BUSY 0).updDv fun d => { d with snapPage := [] }

end Sys2Proof.Machine
end

