-- ==== Sys2Proof/Machine/BusCmd.lean ====
section
/-! DEFINITION. The commands of the register fabric (R15, R34, R44 to R65). -/

namespace Sys2Proof.Machine

/-- A host access through BAR2 reaches local memory: the link is up and the function is not in reset (R34, R76). -/
def State.barOpen (s : State) (f : Nat) : Bool := s.dv.pcieUp && !s.dv.flr.contains f && s.blocksUp

/-- A write through BAR2 (R34). -/
def bar2WriteOp (f addr : Nat) (data : List Byte) (s : State) : State :=
  if s.barOpen f then s.memWrite true (pfOrg f) (addr % memSize) data else s

/-- A read through BAR2 (R34): poisoned when it meets an uncorrectable unit. -/
def bar2ReadOp (f addr len : Nat) (s : State) : State :=
  if s.barOpen f then
    s.emit (.bar2Data f addr (if s.badIn (addr % memSize) len then none else some (s.bytes (addr % memSize) len)))
  else s

/-! ### BAR4: the MSI-X table and the pending bits of the function that accesses them (R32, R33; log 5) -/

/-- Word j of vector x: message address, upper address, data, and the vector control with its mask bit. -/
def MsixVec.word (x : MsixVec) (j : Nat) : Word :=
  match j with
  | 0 => w32 x.addr
  | 1 => w32 (x.addr / 2 ^ 32)
  | 2 => w32 x.data
  | _ => w32 (b2n x.masked)

/-- Store word j of a vector. -/
def MsixVec.put (x : MsixVec) (j : Nat) (w : Word) : MsixVec :=
  match j with
  | 0 => { x with addr := x.addr / 2 ^ 32 * 2 ^ 32 + w.toNat }
  | 1 => { x with addr := w.toNat * 2 ^ 32 + x.addr % 2 ^ 32 }
  | 2 => { x with data := w.toNat }
  | _ => { x with masked := nbit w.toNat 0 }

/-- The 32-bit word at an offset of BAR4 of function f. -/
def State.msixWord (s : State) (f off : Nat) : Word :=
  if off < 0x1000 then (s.vec f (off / 16)).word (off % 16 / 4)
  else if off < 0x1020 then w32 (ofBits ((List.range 32).map fun b => (b, (s.vec f (8 * (off - 0x1000) + b)).pending)))
  else 0

/-- A write into BAR4 of function f: the enabled bytes change, and a vector that is unmasked sends the message that pends on it. -/
def State.msixWrite (s : State) (f off : Nat) (v : Word) (be : Nat) : State :=
  if 0x1000 ≤ off then s else
  let i := off / 16
  let x := s.vec f i
  let w := (x.word (off % 16 / 4) &&& ~~~ maskBytes (w32 0xFFFFFFFF) be) ||| maskBytes v be
  let y := x.put (off % 16 / 4) w
  let s := s.setVec f i { y with pending := y.pending && y.masked }
  if y.pending ∧ !y.masked then s.emit (.irq f i y.addr y.data) else s

/-- The function of an origin whose BAR4 answers. -/
def State.bar4 (s : State) (o : Origin) : Option Nat :=
  match o with
  | .pf f => if s.dv.pcieUp && !s.dv.flr.contains f.val then some f.val else none
  | _ => none

/-- The offset of BAR4 behind the 64 MiB of BAR0, as the addresses of these commands have it. -/
def bar4Base : Nat := 2 ^ 26

/-! ### Accesses of any width (R44) -/

/-- A write of one 32-bit word of BAR0 or BAR4. -/
def State.wordWrite (s : State) (o : Origin) (addr : Nat) (v : Word) (be : Nat) : State :=
  if addr < bar4Base then (s.busWrite o addr v be).1
  else
    match s.bar4 o with
    | some f => s.msixWrite f (addr - bar4Base) v be
    | none => s

/-- A write that goes on over the registers behind the first: each is judged on its own, in ascending address. -/
def State.wordWrites (s : State) (o : Origin) (addr : Nat) : List (Word × BitVec 4) → State
  | [] => s
  | (v, be) :: more => State.wordWrites (s.wordWrite o addr v be.toNat) o (addr + 4) more

/-- The byte lanes of the word at a that a read of len bytes at addr takes. -/
def readLanes (addr len a : Nat) : Nat :=
  ofBits ((List.range 4).map fun j => (j, decide (addr ≤ a + j) && decide (a + j < addr + len)))

/-- A read of one word of BAR0 or BAR4, which returns the addressed bytes of it in their lanes. -/
def State.wordRead (s : State) (o : Origin) (addr len a : Nat) : State :=
  if a < bar4Base then
    let r := s.busRead o a
    r.1.emit (.readData (orgOf o) a (maskBytes r.2.1 (readLanes addr len a)))
  else
    match s.bar4 o with
    | some f => s.emit (.readData (orgOf o) a (maskBytes (s.msixWord f (a - bar4Base)) (readLanes addr len a)))
    | none => s

/-- A read of any width and length: the registers that it touches, one after another in ascending address. -/
def State.readSpan (s : State) (o : Origin) (addr len : Nat) : State :=
  (List.range ((addr % 4 + len + 3) / 4)).foldl (fun s i => s.wordRead o addr len (addr / 4 * 4 + 4 * i)) s

/-- REGISTER_WRITE (R15). -/
def execRegisterWrite (o : Origin) (addr : Nat) (v : Word) (be : BitVec 4) (more : List (Word × BitVec 4)) (s : State) :
    Host.Outcome State Fault Refusal :=
  done (fun s => s.wordWrites o addr ((v, be) :: more)) s

/-- READ_CLEAR (R44). -/
def execReadClear (o : Origin) (addr len : Nat) (s : State) : Host.Outcome State Fault Refusal :=
  done (fun s => s.readSpan o addr len) s

/-- STATUS_SEQ_CLEAR (R53). -/
def execStatusSeqClear (o : Origin) (addr : Nat) (v : Word) (s : State) : Host.Outcome State Fault Refusal :=
  done (fun s => (s.busWrite o addr v).1) s

/-- STATUS_COR_READ (R54). -/
def execStatusCorRead (o : Origin) (addr : Nat) (s : State) : Host.Outcome State Fault Refusal :=
  done (fun s => s.readOut o addr) s

/-- REGISTER_READ_DENIED (R65). -/
def execRegisterReadDenied (o : Origin) (addr : Nat) (s : State) : Host.Outcome State Fault Refusal :=
  done (fun s => s.readOut o addr) s

/-- SLOW_WRITE_ARRIVE (R60). -/
def execSlowWriteArrive (b : SlowBlk) (s : State) : Host.Outcome State Fault Refusal :=
  done (fun s => (slowArriveOp b s).settleMode) s

/-- SLOW_COPY_REFRESH (R58). -/
def execSlowCopyRefresh (b : SlowBlk) (arrived : Bool) (s : State) : Host.Outcome State Fault Refusal :=
  done (fun s => slowRefreshOp b arrived s) s

/-- SNAP_REQUEST (R62). -/
def execSnapRequest (o : Origin) (v : Word) (s : State) : Host.Outcome State Fault Refusal :=
  done (fun s => s.keyWrite o (.DV_SNAP, []) v) s

/-- SNAPSHOT_CAPTURE (R61). -/
def execSnapshotCapture (s : State) : Host.Outcome State Fault Refusal :=
  done (fun s => snapCaptureOp s) s

/-- SNAPSHOT_WRITE_OUT_DONE (R61). -/
def execSnapshotWriteOutDone (s : State) : Host.Outcome State Fault Refusal :=
  done (fun s => snapDoneOp s) s

/-- PERM_WRITE (R64). -/
def execPermWrite (o : Origin) (slot : Fin 32) (hi : Bool) (v : Word) (s : State) : Host.Outcome State Fault Refusal :=
  done (fun s => s.keyWrite o (if hi then .DV_PERM_HI else .DV_PERM_LO, [slot.val]) v) s

/-- BAR2_WRITE (R34). -/
def execBar2Write (f : Fin 4) (addr : Nat) (data : List Byte) (s : State) : Host.Outcome State Fault Refusal :=
  done (fun s => bar2WriteOp f.val addr data s) s

/-- BAR2_READ (R34). -/
def execBar2Read (f : Fin 4) (addr len : Nat) (s : State) : Host.Outcome State Fault Refusal :=
  done (fun s => bar2ReadOp f.val addr len s) s

/-- ENTRY_READ (R443). -/
def execEntryRead (o : Origin) (v : Word) (s : State) : Host.Outcome State Fault Refusal :=
  done (fun s => s.keyWrite o (.SL_RD_SEQ_HI, []) v) s

/-- SEQ_LATCH_READ (R440). -/
def execSeqLatchRead (o : Origin) (s : State) : Host.Outcome State Fault Refusal :=
  done (fun s => s.readOut o (keyAddr (.SL_SEQ_LO, []))) s

end Sys2Proof.Machine
end

