-- ==== Sys2Proof/Machine/CueAccess.lean ====
section
/-! DEFINITION. The register-space accesses of the cue engines (R275 to R282), and what other origins do to an engine (R288 to R290,
R297). -/

namespace Sys2Proof.Machine

/-! ### Shared -/

/-- A byte offset that names a register (R275). -/
def regAddrOk (a : Nat) : Bool := a % 4 == 0 && decide (a < 0x4000000)

/-- The origin of an access of engine n by the instruction at a program counter (R275). The shedding step that the power steward
names with a write is the free number x (log 72). -/
def cuOriginAt (n pc x : Nat) : Origin :=
  if n = 17 then .powerSteward (x % 5) else if h : n < 24 then .cu ⟨n, h⟩ pc else .hardware

/-- The oldest kick is judged (R278). -/
def State.judgeKick (s : State) (n : Nat) : State :=
  let c := s.cue n
  match c.kicks with
  | [] => s
  | (a, v, pc) :: ks =>
    let x := s.fresh
    let r := (x.2.setCue n { c with kicks := ks }).busWrite (cuOriginAt n pc x.1) a v
    if !r.2 then r.1 else
    let s := r.1.latch (cuB n) 8
    if s.flag (F.CU_TRAP_EN_KICK n) then s.updCue n fun c => { c with kick := c.kick <|> some a } else s

/-- Every kick is judged before the engine's next access (R277, R278). -/
def State.drainKicks (s : State) (n : Nat) : State := (s.cue n).kicks.foldl (fun s _ => s.judgeKick n) s

/-- An access is complete: Z, the destination, the cost and the next boundary. A refused one latches ACC_REF and may take trap
ACCESS (R276). `pc` is the instruction, `a` the address. -/
def State.endAccess (s : State) (n rd : Nat) (v : Word40) (z : Bool) (a pc cost : Nat) : State :=
  let s := ((s.setFlags n (setZ (s.flags n) z)).setCreg n rd v).spend n cost
  let s := s.wr (.CU_RETIRED, [n]) (s.rd (.CU_RETIRED, [n]) + 1)
  let s := if z then s else s.latch (cuB n) 16
  s.boundary n (if !z && s.flag (F.CU_TRAP_EN_ACC n) then some a else none) pc

/-- Make an access: kicks first, then the program counter moves on, then `f` with the origin and the program counter of the
instruction. -/
def State.access (s : State) (n a : Nat) (f : Origin → Nat → State → State) : State :=
  if !regAddrOk a then s.trapNow n 1 a else
  let s := s.drainKicks n
  if s.cst n ≠ 1 then s else
  let pc := s.cpc n
  let x := s.fresh
  f (cuOriginAt n pc x.1) pc (x.2.setPc n (pc + 1))

/-- RDR of an address. -/
def State.accessRead (s : State) (n rd a : Nat) : State :=
  s.access n a fun o pc s =>
    let x := s.fresh
    let r := x.2.busRead o a
    r.1.endAccess n rd (w40 r.2.1.toNat) (!r.2.2) a pc (4 + x.1 % 37)

/-- WRR of an address. -/
def State.accessWrite (s : State) (n a : Nat) (v : Word) : State :=
  s.access n a fun o pc s =>
    let x := s.fresh
    let r := x.2.busWrite o a v
    r.1.endAccess n 0 0 (!r.2) a pc (4 + x.1 % 37)

/-- The low word of rs2. -/
def State.low2 (s : State) (n : Nat) (w : Word40) : Word := w32 (s.a2 n w).toNat

/-- The address of a layer register (R280). -/
def State.layerAddr (s : State) (n : Nat) (w : Word40) : Nat :=
  0x300000 + 0x20000 * (n / 2) + 0x1000 + 0x100 * ((s.a1 n w).toNat % 32) + iImm w

/-- The offset of a layer register is legal (R280). -/
def layerImmOk (w : Word40) : Bool := iImm w % 4 == 0 && decide (iImm w < 0x100)

/-! ### The instructions -/

/-- RDR: rd ← REG[rs1 + sext(imm19)]. -/
def execCuRdr (n : Fin 24) (s : State) : Host.Outcome State Fault Refusal :=
  done (fun s => s.cueInstr n 0x2C .i 0x100 true always fun w s => s.accessRead n (iRd w) (s.indexOf n w)) s

/-- WRR: REG[rs1 + sext(imm19)] ← rs2[31:0]. -/
def execCuWrr (n : Fin 24) (s : State) : Host.Outcome State Fault Refusal :=
  done (fun s => s.cueInstr n 0x2D .s 0x100 true always fun w s => s.accessWrite n (s.indexOf n w) (s.low2 n w)) s

/-- KICK: a posted write. With four outstanding it waits, so that this command does nothing. -/
def execCuKick (n : Fin 24) (s : State) : Host.Outcome State Fault Refusal :=
  done (fun s => s.cueInstr n 0x2E .s 0x100 true always fun w s =>
    let a := s.indexOf n w
    if !regAddrOk a then s.trapNow n 1 a
    else if 4 ≤ (s.cue n).kicks.length then s
    else (s.updCue n fun c => { c with kicks := c.kicks ++ [(a, s.low2 n w, s.cpc n)] }).retire n 2 (s.cpc n + 1)) s

/-- The oldest kick is judged; a trap that becomes pending is taken at this boundary. -/
def execKickJudged (n : Fin 24) (s : State) : Host.Outcome State Fault Refusal :=
  done (fun s => let s := s.judgeKick n; if s.cst n = 1 then s.takePending n else s) s

/-- WRF: a field of REG[rs1] ← rs2, by a read and a write. -/
def execCuWrf (n : Fin 24) (s : State) : Host.Outcome State Fault Refusal :=
  done (fun s => s.cueInstr n 0x2F .f 0x102 true wrfOk fun w s =>
    let a := (s.a1 n w).toNat
    s.access n a fun o pc s =>
      let x := s.fresh
      let r := x.2.busRead o a
      let v := setBits r.2.1 (wrfLsb w + wrfWidth w - 1) (wrfLsb w) (s.a2 n w).toNat
      let t := r.1.busWrite o a v
      t.1.endAccess n 0 0 (!r.2.2 && !t.2) a pc (8 + x.1 % 73)) s

/-- LYR: rd ← layer register imm19 of layer rs1[4:0]. -/
def execCuLyr (n : Fin 24) (s : State) : Host.Outcome State Fault Refusal :=
  done (fun s => s.cueInstr n 0x34 .i 0x101 true (fun _ => decide (n.val < 16)) fun w s =>
    if layerImmOk w then s.accessRead n (iRd w) (s.layerAddr n w) else s.trapNow n 1 (s.layerAddr n w)) s

/-- LYW: layer register imm19 of layer rs1[4:0] ← rs2[31:0]. -/
def execCuLyw (n : Fin 24) (s : State) : Host.Outcome State Fault Refusal :=
  done (fun s => s.cueInstr n 0x35 .s 0x101 true (fun _ => decide (n.val < 16)) fun w s =>
    if layerImmOk w then s.accessWrite n (s.layerAddr n w) (s.low2 n w) else s.trapNow n 1 (s.layerAddr n w)) s

/-- The engine waits for the check of head h's commit, which may have ended with the write (R281). -/
def State.awaitCommit (s : State) (n rd h : Nat) : State :=
  let st := s.rd (.CE_CSTAT, [h / 2, h % 2])
  s.beginWait n (.commit h) rd (if bits st 2 0 = 1 then none else some (st.toNat, false, s.tick))

/-- COMMIT: a write of CEk_COMMIT, and a wait for the end of its check (R281). -/
def execCuCommit (n : Fin 24) (s : State) : Host.Outcome State Fault Refusal :=
  done (fun s => s.cueInstr n 0x36 .i 0x100 true (fun w => (selHead n w).isSome && iImm w / 128 == 0) fun w s =>
    let h := (selHead n w).getD 0
    let a := keyAddr (.CE_COMMIT, [h / 2])
    let v := w32 (h % 2 + iImm w / 32 % 4 * 2 + (s.a1 n w).toNat % 65536 * 65536)
    s.access n a fun o pc s =>
      let r := s.busWrite o a v
      if r.2 then r.1.endAccess n (iRd w) (w40 (2 ^ 32)) false a pc 4
      else ((r.1.setPc n pc).spend n 3).awaitCommit n (iRd w) h) s

/-- RELEASE: the release time and CEk_RELEASE of a head, in three writes (R282). -/
def execCuRelease (n : Fin 24) (s : State) : Host.Outcome State Fault Refusal :=
  done (fun s => s.cueInstr n 0x37 .s 0x102 true (fun w => (selHead n w).isSome && iImm w / 64 == 0) fun w s =>
    let h := (selHead n w).getD 0
    let t := (s.a2 n w).toNat
    let a1 := keyAddr (.CE_RELEASE_AT_LO, [h / 2, h % 2])
    let a2 := keyAddr (.CE_RELEASE_AT_HI, [h / 2, h % 2])
    let a3 := keyAddr (.CE_RELEASE, [h / 2])
    s.access n a3 fun o pc s =>
      let x := s.fresh
      let r1 := x.2.busWrite o a1 (w32 t)
      let r2 := r1.1.busWrite o a2 (w32 (t / 2 ^ 32))
      let r3 := r2.1.busWrite o a3 (w32 (h % 2 + iImm w / 32 % 2 * 2))
      r3.1.endAccess n 0 0 (!r1.2 && !r2.2 && !r3.2) (if r1.2 then a1 else if r2.2 then a2 else a3) pc (12 + x.1 % 109)) s

/-! ### Control of an engine by other origins -/

/-- A write of RUN = 1 (R288). -/
def execCuStart (o : Origin) (n : Fin 24) (s : State) : Host.Outcome State Fault Refusal :=
  done (fun s => s.keyWrite o (.CU_CTRL, [n.val]) (w32 0x00070001)) s

/-- A write of RUN = 1 with RESUME = 1 (R288). -/
def execCuResume (o : Origin) (n : Fin 24) (s : State) : Host.Outcome State Fault Refusal :=
  done (fun s => s.keyWrite o (.CU_CTRL, [n.val]) (w32 0x00070003)) s

/-- A write of RUN = 1 with STEP = 1 (R288). -/
def execCuStep (o : Origin) (n : Fin 24) (resume : Bool) (s : State) : Host.Outcome State Fault Refusal :=
  done (fun s => s.keyWrite o (.CU_CTRL, [n.val]) (w32 (0x00070005 + 2 * b2n resume))) s

/-- A write of RUN = 0 (R289). -/
def execCuHaltRequest (o : Origin) (n : Fin 24) (s : State) : Host.Outcome State Fault Refusal :=
  done (fun s => s.keyWrite o (.CU_CTRL, [n.val]) (w32 0x00010000)) s

/-- A write of CUn_DOORBELL (R297). -/
def execCuDoorbell (o : Origin) (n : Fin 24) (v : Word) (s : State) : Host.Outcome State Fault Refusal :=
  done (fun s => s.keyWrite o (.CU_DOORBELL, [n.val]) v) s

/-- A write of CUn_PARAMi (R297). -/
def execParamWrite (o : Origin) (n : Fin 24) (i : Fin 16) (v : Word) (s : State) : Host.Outcome State Fault Refusal :=
  done (fun s => s.keyWrite o (.CU_PARAM, [n.val, i.val]) v) s

/-- A read of CUn_DM_LO (R272). -/
def execDmLoRead (o : Origin) (n : Fin 24) (s : State) : Host.Outcome State Fault Refusal :=
  done (fun s => s.readOut o (keyAddr (.CU_DM_LO, [n.val]))) s

/-- A read of CUn_DM_HI (R272). -/
def execDmHiRead (o : Origin) (n : Fin 24) (s : State) : Host.Outcome State Fault Refusal :=
  done (fun s => s.readOut o (keyAddr (.CU_DM_HI, [n.val]))) s

/-- A write of CUn_DM_LO (R272). -/
def execDmLoWrite (o : Origin) (n : Fin 24) (v : Word) (s : State) : Host.Outcome State Fault Refusal :=
  done (fun s => s.keyWrite o (.CU_DM_LO, [n.val]) v) s

/-- A write of CUn_DM_HI (R272). -/
def execDmHiWrite (o : Origin) (n : Fin 24) (v : Word) (s : State) : Host.Outcome State Fault Refusal :=
  done (fun s => s.keyWrite o (.CU_DM_HI, [n.val]) v) s

/-- A read of CU_SCRp_DATA (R273). -/
def execScrDataRead (o : Origin) (p : Fin 4) (s : State) : Host.Outcome State Fault Refusal :=
  done (fun s => s.readOut o (keyAddr (.CUS_SCR_DATA, [p.val]))) s

/-- A write of CU_SCRp_DATA (R273). -/
def execScrDataWrite (o : Origin) (p : Fin 4) (v : Word) (s : State) : Host.Outcome State Fault Refusal :=
  done (fun s => s.keyWrite o (.CUS_SCR_DATA, [p.val]) v) s

/-- A write of CUn_IMG (R290). -/
def execImgLevelWrite (o : Origin) (n : Fin 24) (v : Word) (s : State) : Host.Outcome State Fault Refusal :=
  done (fun s => s.keyWrite o (.CU_IMG, [n.val]) v) s

end Sys2Proof.Machine
end

