-- ==== Sys2Proof/Machine/CueAlu.lean ====
section
/-! DEFINITION. The instructions of the cue engines that compute: arithmetic, logic, shifts and bit fields (R268 to R270). -/

namespace Sys2Proof.Machine

/-- ADD: rd ← rs1 + rs2. -/
def execCuAdd (n : Fin 24) (s : State) : Host.Outcome State Fault Refusal :=
  done (fun s => s.aluOp n 0x04 .r 0x100 always fun w s => (s.a1 n w + s.a2 n w, addFlags (s.flags n) (s.a1 n w) (s.a2 n w))) s

/-- SUB: rd ← rs1 − rs2. -/
def execCuSub (n : Fin 24) (s : State) : Host.Outcome State Fault Refusal :=
  done (fun s => s.aluOp n 0x05 .r 0x100 always fun w s => (s.a1 n w - s.a2 n w, subFlags (s.flags n) (s.a1 n w) (s.a2 n w))) s

/-- AND: rd ← rs1 & rs2. -/
def execCuAnd (n : Fin 24) (s : State) : Host.Outcome State Fault Refusal :=
  done (fun s => s.aluOp n 0x06 .r 0x100 always fun w s => (s.a1 n w &&& s.a2 n w, znFlags (s.flags n) (s.a1 n w &&& s.a2 n w))) s

/-- OR: rd ← rs1 | rs2. -/
def execCuOr (n : Fin 24) (s : State) : Host.Outcome State Fault Refusal :=
  done (fun s => s.aluOp n 0x07 .r 0x100 always fun w s => (s.a1 n w ||| s.a2 n w, znFlags (s.flags n) (s.a1 n w ||| s.a2 n w))) s

/-- XOR: rd ← rs1 ^ rs2. -/
def execCuXor (n : Fin 24) (s : State) : Host.Outcome State Fault Refusal :=
  done (fun s => s.aluOp n 0x08 .r 0x100 always fun w s => (s.a1 n w ^^^ s.a2 n w, znFlags (s.flags n) (s.a1 n w ^^^ s.a2 n w))) s

/-- A shift: its result, with Z, N and C. -/
def State.shiftOp (s : State) (n : Nat) (r : Word40 × Option Bool) : Word40 × Nat := (r.1, zncFlags (s.flags n) r.1 r.2)

/-- The shift amount of a register (R270). -/
def State.amount (s : State) (n : Nat) (w : Word40) : Nat := (s.a2 n w).toNat % 64

/-- SHL: rd ← rs1 << rs2[5:0]. -/
def execCuShl (n : Fin 24) (s : State) : Host.Outcome State Fault Refusal :=
  done (fun s => s.aluOp n 0x09 .r 0x100 always fun w s => s.shiftOp n (shlOp (s.a1 n w) (s.amount n w))) s

/-- SHR: rd ← rs1 >> rs2[5:0], logical. -/
def execCuShr (n : Fin 24) (s : State) : Host.Outcome State Fault Refusal :=
  done (fun s => s.aluOp n 0x0A .r 0x100 always fun w s => s.shiftOp n (shrOp (s.a1 n w) (s.amount n w))) s

/-- SAR: rd ← rs1 >> rs2[5:0], arithmetic. -/
def execCuSar (n : Fin 24) (s : State) : Host.Outcome State Fault Refusal :=
  done (fun s => s.aluOp n 0x0B .r 0x100 always fun w s => s.shiftOp n (sarOp (s.a1 n w) (s.amount n w))) s

/-- The high 40 bits of an unsigned product. -/
def mulHigh (a b : Word40) : Word40 := w40 (a.toNat * b.toNat / 2 ^ 40)

/-- MUL: rd ← (rs1 × rs2)[39:0]. -/
def execCuMul (n : Fin 24) (s : State) : Host.Outcome State Fault Refusal :=
  done (fun s => s.aluOp n 0x0C .r 0x101 always fun w s => (s.a1 n w * s.a2 n w, znFlags (s.flags n) (s.a1 n w * s.a2 n w))) s

/-- MULHU: rd ← (rs1 × rs2)[79:40]. -/
def execCuMulhu (n : Fin 24) (s : State) : Host.Outcome State Fault Refusal :=
  done (fun s => s.aluOp n 0x0D .r 0x101 always fun w s =>
    (mulHigh (s.a1 n w) (s.a2 n w), znFlags (s.flags n) (mulHigh (s.a1 n w) (s.a2 n w)))) s

/-- SEL: rd ← rs1 with Z set, else rs2. -/
def execCuSel (n : Fin 24) (s : State) : Host.Outcome State Fault Refusal :=
  done (fun s => s.aluOp n 0x0E .r 0x102 always fun w s => (if fz (s.flags n) then s.a1 n w else s.a2 n w, s.flags n)) s

/-- ADDI: rd ← rs1 + sext(imm19). -/
def execCuAddi (n : Fin 24) (s : State) : Host.Outcome State Fault Refusal :=
  done (fun s => s.aluOp n 0x10 .i 0x100 always fun w s => (s.a1 n w + iSext w, addFlags (s.flags n) (s.a1 n w) (iSext w))) s

/-- ANDI: rd ← rs1 & zext(imm19). -/
def execCuAndi (n : Fin 24) (s : State) : Host.Outcome State Fault Refusal :=
  done (fun s => s.aluOp n 0x11 .i 0x100 always fun w s => (s.a1 n w &&& iZext w, znFlags (s.flags n) (s.a1 n w &&& iZext w))) s

/-- ORI: rd ← rs1 | zext(imm19). -/
def execCuOri (n : Fin 24) (s : State) : Host.Outcome State Fault Refusal :=
  done (fun s => s.aluOp n 0x12 .i 0x100 always fun w s => (s.a1 n w ||| iZext w, znFlags (s.flags n) (s.a1 n w ||| iZext w))) s

/-- XORI: rd ← rs1 ^ zext(imm19). -/
def execCuXori (n : Fin 24) (s : State) : Host.Outcome State Fault Refusal :=
  done (fun s => s.aluOp n 0x13 .i 0x100 always fun w s => (s.a1 n w ^^^ iZext w, znFlags (s.flags n) (s.a1 n w ^^^ iZext w))) s

/-- SHLI: rd ← rs1 << imm19[5:0]. -/
def execCuShli (n : Fin 24) (s : State) : Host.Outcome State Fault Refusal :=
  done (fun s => s.aluOp n 0x14 .i 0x100 shOk fun w s => s.shiftOp n (shlOp (s.a1 n w) (shImm w))) s

/-- SHRI: rd ← rs1 >> imm19[5:0], logical. -/
def execCuShri (n : Fin 24) (s : State) : Host.Outcome State Fault Refusal :=
  done (fun s => s.aluOp n 0x15 .i 0x100 shOk fun w s => s.shiftOp n (shrOp (s.a1 n w) (shImm w))) s

/-- SARI: rd ← rs1 >> imm19[5:0], arithmetic. -/
def execCuSari (n : Fin 24) (s : State) : Host.Outcome State Fault Refusal :=
  done (fun s => s.aluOp n 0x16 .i 0x100 shOk fun w s => s.shiftOp n (sarOp (s.a1 n w) (shImm w))) s

/-- LI: rd ← sext(imm29). -/
def execCuLi (n : Fin 24) (s : State) : Host.Outcome State Fault Refusal :=
  done (fun s => s.aluOp n 0x17 .u 0x100 always fun w s => (BitVec.ofInt 40 (signed 29 (iImm29 w)), s.flags n)) s

/-- LUI: rd ← imm29 << 11. -/
def execCuLui (n : Fin 24) (s : State) : Host.Outcome State Fault Refusal :=
  done (fun s => s.aluOp n 0x18 .u 0x100 always fun w s => (w40 (iImm29 w * 2048), s.flags n)) s

/-- SUBI: rd ← rs1 − sext(imm19). -/
def execCuSubi (n : Fin 24) (s : State) : Host.Outcome State Fault Refusal :=
  done (fun s => s.aluOp n 0x19 .i 0x100 always fun w s => (s.a1 n w - iSext w, subFlags (s.flags n) (s.a1 n w) (iSext w))) s

/-- The field of rs1 that BFX takes. -/
def bfxOp (w a : Word40) : Word40 := w40 (a.toNat / 2 ^ bfLsb w % 2 ^ bfWidth w)

/-- rd with the low bits of rs1 in the field of BFI. -/
def bfiOp (w d a : Word40) : Word40 :=
  let m := w40 ((2 ^ bfWidth w - 1) * 2 ^ bfLsb w)
  (d &&& ~~~ m) ||| w40 (a.toNat % 2 ^ bfWidth w * 2 ^ bfLsb w)

/-- BFX: rd ← (rs1 >> lsb) & (2^w − 1). -/
def execCuBfx (n : Fin 24) (s : State) : Host.Outcome State Fault Refusal :=
  done (fun s => s.aluOp n 0x1A .i 0x102 bfOk fun w s => (bfxOp w (s.a1 n w), znFlags (s.flags n) (bfxOp w (s.a1 n w)))) s

/-- BFI: rd[lsb + w − 1 : lsb] ← rs1[w − 1 : 0]. -/
def execCuBfi (n : Fin 24) (s : State) : Host.Outcome State Fault Refusal :=
  done (fun s => s.aluOp n 0x1B .i 0x102 bfOk fun w s =>
    (bfiOp w (s.creg n (iRd w)) (s.a1 n w), znFlags (s.flags n) (bfiOp w (s.creg n (iRd w)) (s.a1 n w)))) s

end Sys2Proof.Machine
end

