-- ==== Sys2Proof/Machine/CueFlow.lean ====
section
/-! DEFINITION. The instructions of the cue engines that control the program, and those that read and write data memory, scratch and
special registers (R268, R271 to R273, R284 to R287). -/

namespace Sys2Proof.Machine

/-- ILL: trap ILLEGAL, as every opcode that the engine does not implement. -/
def execCuIll (n : Fin 24) (s : State) : Host.Outcome State Fault Refusal := done (fun s => s.illOp n) s

/-- NOP. -/
def execCuNop (n : Fin 24) (s : State) : Host.Outcome State Fault Refusal :=
  done (fun s => s.cueInstr n 0x01 .r 0x100 true always fun _ s => s.retire n 1 (s.cpc n + 1)) s

/-- HALT with STOP = DONE. -/
def execCuHalt (n : Fin 24) (s : State) : Host.Outcome State Fault Refusal :=
  done (fun s => s.cueInstr n 0x02 .r 0x100 true always fun _ s =>
    let s := (s.setPc n (s.cpc n + 1)).spend n 1
    (s.wr (.CU_RETIRED, [n.val]) (s.rd (.CU_RETIRED, [n.val]) + 1)).haltWith n 1) s

/-- TRAP: trap BREAK with imm19. -/
def execCuTrap (n : Fin 24) (s : State) : Host.Outcome State Fault Refusal :=
  done (fun s => s.cueInstr n 0x03 .i 0x100 false (fun w => iRd w == 0 && iRs1 w == 0) fun w s => (s.spend n 1).trapNow n 6 (iImm w)) s

/-- Bcc: a branch on a condition (R271). -/
def execCuBcc (n : Fin 24) (s : State) : Host.Outcome State Fault Refusal :=
  done (fun s => s.cueInstr n 0x20 .b 0x100 false (fun w => (condHolds (iRd w) 0).isSome) fun w s =>
    s.jump n (if condHolds (iRd w) (s.flags n) = some true then s.branchTo n w else ((s.cpc n + 1 : Nat) : Int)) id) s

/-- CALL: c31 ← PC + 1, and a branch. -/
def execCuCall (n : Fin 24) (s : State) : Host.Outcome State Fault Refusal :=
  done (fun s => s.cueInstr n 0x21 .b 0x100 false (fun w => iRd w == 0) fun w s =>
    s.jump n (s.branchTo n w) fun s => s.setCreg n 31 (w40 (s.cpc n + 1))) s

/-- JALR: rd ← PC + 1, and a jump to rs1 + sext(imm19). -/
def execCuJalr (n : Fin 24) (s : State) : Host.Outcome State Fault Refusal :=
  done (fun s => s.cueInstr n 0x22 .i 0x100 false always fun w s =>
    s.jump n ((s.indexOf n w : Nat) : Int) fun s => s.setCreg n (iRd w) (w40 (s.cpc n + 1))) s

/-- LD: rd ← DM[rs1 + sext(imm19)]. -/
def execCuLd (n : Fin 24) (s : State) : Host.Outcome State Fault Refusal :=
  done (fun s => s.cueInstr n 0x24 .i 0x100 false always fun w s =>
    s.dmOp n w fun i s => s.readWord n (dmKey n i) i fun s => s.finishOp n (iRd w) (s.dmemAt n i) 1) s

/-- ST: DM[rs1 + sext(imm19)] ← rs2. -/
def execCuSt (n : Fin 24) (s : State) : Host.Outcome State Fault Refusal :=
  done (fun s => s.cueInstr n 0x25 .s 0x100 true always fun w s =>
    s.dmOp n w fun i s => (s.setDmem n i (s.a2 n w)).retire n 1 (s.cpc n + 1)) s

/-- LDX: rd ← SCR[rs1 + sext(imm19)]. -/
def execCuLdx (n : Fin 24) (s : State) : Host.Outcome State Fault Refusal :=
  done (fun s => s.cueInstr n 0x26 .i 0x100 false always fun w s => s.atomic n (iRd w) (s.indexOf n w) fun _ => none) s

/-- STX: SCR[rs1 + sext(imm19)] ← rs2[31:0]. -/
def execCuStx (n : Fin 24) (s : State) : Host.Outcome State Fault Refusal :=
  done (fun s => s.cueInstr n 0x27 .s 0x100 true always fun w s =>
    s.scrOp n (s.indexOf n w) fun s =>
      let x := (s.setScr (s.indexOf n w) (w32 (s.a2 n w).toNat)).fresh
      x.2.retire n (4 + x.1 % 37) (s.cpc n + 1)) s

/-- AMOADD: rd ← SCR[rs1]; SCR[rs1] ← SCR[rs1] + rs2[31:0]. -/
def execCuAmoadd (n : Fin 24) (s : State) : Host.Outcome State Fault Refusal :=
  done (fun s => s.cueInstr n 0x28 .r 0x102 false always fun w s =>
    s.atomic n (iRd w) (s.a1 n w).toNat fun o => some (o + w32 (s.a2 n w).toNat)) s

/-- AMOSWP: rd ← SCR[rs1]; SCR[rs1] ← rs2[31:0]. -/
def execCuAmoswp (n : Fin 24) (s : State) : Host.Outcome State Fault Refusal :=
  done (fun s => s.cueInstr n 0x29 .r 0x102 false always fun w s =>
    s.atomic n (iRd w) (s.a1 n w).toNat fun _ => some (w32 (s.a2 n w).toNat)) s

/-- CAS: SCR[rs1] ← rs2[31:0] if it is rd[31:0], which Z says; rd ← the old word. -/
def execCuCas (n : Fin 24) (s : State) : Host.Outcome State Fault Refusal :=
  done (fun s => s.cueInstr n 0x2A .r 0x102 false always fun w s =>
    let i := (s.a1 n w).toNat
    let hit := s.scr i == w32 (s.creg n (iRd w)).toNat
    s.scrOp n i fun s => s.readWord n (scrKey i) i fun s =>
      (s.setFlags n (setZ (s.flags n) hit)).atomic n (iRd w) i fun _ => if hit then some (w32 (s.a2 n w).toNat) else none) s

/-- RDS: rd ← s[imm19]. -/
def execCuRds (n : Fin 24) (s : State) : Host.Outcome State Fault Refusal :=
  done (fun s => s.cueInstr n 0x30 .i 0x100 true (fun w => iRs1 w == 0 && decide (iImm w ≤ 12)) fun w s =>
    s.finishOp n (iRd w) (s.special n (iImm w)) 1) s

/-- WRS: s[imm19] ← rs1. -/
def execCuWrs (n : Fin 24) (s : State) : Host.Outcome State Fault Refusal :=
  done (fun s => s.cueInstr n 0x31 .i 0x100 true (fun w => iRd w == 0 && specialRw (iImm w)) fun w s =>
    (s.setSpecial n (iImm w) (s.a1 n w)).retire n 1 (s.cpc n + 1)) s

/-- RETT: PC ← EPC, FLAGS ← EFLAGS, IE ← 1 (R287). -/
def execCuRett (n : Fin 24) (s : State) : Host.Outcome State Fault Refusal :=
  done (fun s => s.cueInstr n 0x32 .r 0x100 false (fun w => iRd w == 0 && iRs1 w == 0 && iRs2 w == 0) fun _ s =>
    ((s.setFlags n (s.cue n).eflags).set (F.CU_STAT_IE n) 1).retire n 1 (s.get (F.CU_EPC_EPC n))) s

end Sys2Proof.Machine
end

