-- ==== Sys2Proof/Machine/CueWait.lean ====
section
/-! DEFINITION. The waits of the cue engines and their completion (R283, R294 to R305). -/

namespace Sys2Proof.Machine

/-- WAITE: wait for a head event, on CU0 to CU15, or a device event. -/
def execCuWaite (n : Fin 24) (s : State) : Host.Outcome State Fault Refusal :=
  done (fun s => s.cueInstr n 0x38 .i 0x100 true
    (fun w => iRs1 w == 0 && ((decide (iImm w % 256 ≤ 10) && decide (n.val < 16)) || (decide (16 ≤ iImm w % 256) && decide (iImm w % 256 ≤ 23))))
    fun w s => if iImm w % 256 ≤ 10 then s.waitHead n (iRd w) (iImm w % 256) else s.waitDevice n (iRd w) (iImm w % 256)) s

/-- A line number lies in the raster of the bound head (R283). -/
def State.lineOk (s : State) (n l : Nat) : Bool := decide (1 ≤ l) && (s.raster n).all fun r => decide (l ≤ r.2.1)

/-- WAITL: wait for the start of line rs1[12:0] of the bound head. -/
def execCuWaitl (n : Fin 24) (s : State) : Host.Outcome State Fault Refusal :=
  done (fun s => s.cueInstr n 0x39 .i 0x100 true (fun w => decide (n.val < 16) && s.lineOk n ((s.a1 n w).toNat % 8192)) fun w s =>
    s.waitLine n (iRd w) ((s.a1 n w).toNat % 8192)) s

/-- WAITT: wait until domain time rs1. -/
def execCuWaitt (n : Fin 24) (s : State) : Host.Outcome State Fault Refusal :=
  done (fun s => s.cueInstr n 0x3A .i 0x100 true always fun w s => s.waitTime n (iRd w) (s.a1 n w).toNat) s

/-- WAITP: wait for line imm19[12:0] of the bound head's frame rs1. -/
def execCuWaitp (n : Fin 24) (s : State) : Host.Outcome State Fault Refusal :=
  done (fun s => s.cueInstr n 0x3B .i 0x101 true (fun w => decide (n.val < 16) && s.lineOk n (iImm w % 8192)) fun w s =>
    s.waitLineOf n (iRd w) (iImm w % 8192) (s.a1 n w).toNat) s

/-- A wait completes at the delivery point of what satisfies it. -/
def execWaitComplete (n : Fin 24) (s : State) : Host.Outcome State Fault Refusal := done (fun s => waitDone n s) s

end Sys2Proof.Machine
end

