-- ==== Sys2Proof/Machine/Boot.lean ====
section
/-! DEFINITION. Image selection, the start of the services, and the restore of heads (R31, R81 to R90, R450, R451): what the boot
ROM does once the register fabric runs. Its register writes take the path of every write (R15). -/

namespace Sys2Proof.Machine

/-! ### Bundles (R81 to R85) -/

/-- A version lies in a range. -/
def accepts (r : Nat × Nat) (v : Nat) : Bool := decide (r.1 ≤ v) && decide (v ≤ r.2)

/-- Component i of a bundle accepts the silicon, the boot ROM, the Cellar layout unless the Cellar is unhealthy, and the version of
every other component (R83). -/
def State.partOk (s : State) (ps : List BundlePart) (i : Nat) (p : BundlePart) : Bool :=
  accepts p.silicon (s.get F.DV_PART_STEPPING) && accepts p.rom s.dv.rom &&
    (!s.healthy || accepts p.cellar (s.get F.CL_STAT_LAYOUT)) &&
    (List.range ps.length).all fun j => j == i || accepts (p.others.getD j (0, 0)) ((ps.getD j {}).version)

/-- The signature of a bundle verifies, with a key that matches one of the fused digests and is not revoked (R82). -/
def State.slotSigned (s : State) (c : SlotCheck) : Bool := c.sigOk && c.key.any fun k => !s.dv.revoked.contains k.val

/-- A slot qualifies but for its attempts (R83): it holds the loader and the four service images, is signed, and every component
accepts what it runs with. -/
def State.slotSound (s : State) (c : SlotCheck) : Bool :=
  c.present && s.slotSigned c && c.parts.length == 5 && (List.range 5).all fun i => s.partOk c.parts i (c.parts.getD i {})

/-- The slot that the boot ROM takes, if any (R84): 0 A, 1 B. -/
def State.chooseSlot (s : State) (a b : SlotCheck) (forced : Option Nat) : Option Nat :=
  let q (i : Nat) : Bool := s.slotSound (if i = 0 then a else b) && decide (s.attempts i < s.maxAtt)
  match forced with
  | some i => if q i then some i else if q (1 - i) then some (1 - i) else none
  | none =>
    if q 0 && q 1 then some (if a.version.toNat < b.version.toNat then 1 else 0)
    else if q 0 then some 0 else if q 1 then some 1 else none

/-- Image selection (R84, R85). -/
def imageSelectOp (a b : SlotCheck) (s : State) : State :=
  if s.dv.step ≠ 4 ∨ !s.dv.booting ∨ s.dv.svcSince.isSome then s
  else if nbit s.dv.straps 0 then s.enterMaint 1
  else if s.dv.bootMaint then s.enterMaint 4
  else
    let s := if a.present && !s.slotSigned a then s.raise 0x012 else s
    let s := if b.present && !s.slotSigned b then s.raise 0x012 else s
    let forced := if s.flag F.DV_BOOT_CFG_FORCE_EN then some (s.get F.DV_BOOT_CFG_FORCE_SLOT) else none
    let s := if forced.isSome then s.keyWrite .hardware (.DV_BOOT_CFG, []) (setBits (s.rd (.DV_BOOT_CFG, [])) 0 0 0) else s
    match s.chooseSlot a b forced with
    | none => (s.raise 0x010).enterMaint (if s.slotSound a || s.slotSound b then 3 else 2)
    | some i =>
      let c := if i = 0 then a else b
      let o := if i = 0 then b else a
      let s := if o.present && decide (c.version.toNat < o.version.toNat) then (s.raise 0x011).set F.DV_BOOT_STAT_FALLBACK 1 else s
      let s := ((s.set F.DV_BOOT_STAT_SLOT i).set F.DV_BOOT_VER_VERSION c.version.toNat).setAttempts i (s.attempts i + 1)
      (s.updDv fun d => { d with running := i, svcSince := some s.tick }).completeReset c.version.toNat

/-! ### Services (R85, R86) -/

/-- All four services are ready and the Plestonas interface answers (R31, R85). -/
def serviceReadyOp (s : State) : State :=
  match s.dv.svcSince with
  | none => s
  | some t =>
    let boot := s.dv.booting
    if boot ∧ t + ticksS 2 < s.tick then s else
    let s := s.set F.DV_SVC_READY_READY 15
    let s := { s with tb := { s.tb with servoUp := true } }
    let s := s.updDv fun d => { d with svcSince := none }
    if boot then (s.setAttempts s.dv.running 0).updDv fun d => { d with step := 5 } else s

/-- The services are not ready within 2 s: the boot ROM makes a warm reset (R85). -/
def readyTimeoutOp (s : State) : State :=
  if s.mode ≠ 11 ∧ s.dv.booting ∧ (s.dv.svcSince.any fun t => decide (t + ticksS 2 ≤ s.tick)) ∧ s.dv.rstReq.isNone then s.askReset 1 else s

/-- A running service engine, ready or not, misses its watchdog (R86). -/
def svcWdogOp (e : Nat) (s : State) : State :=
  if nbit (s.get F.DV_SVC_READY_READY) e ∨ s.dv.svcSince.isSome then s.raise 0x013 (16 + e) else s

/-- HBM and the output blocks are up: boot ends (R31, R71, R87). -/
def bootCompleteOp (s : State) : State :=
  if s.dv.step ≠ 5 then s else
  let auto := s.healthy && s.flag F.CL_AUTO_RESTORE_EN
  let s := (s.updDv fun d => { d with step := 6, booting := false, bootDone := if auto then some s.tick else none }).setGated []
  if auto then s.keyWrite .hardware (.DV_CTRL, []) (w32 0x10001) else s

/-! ### Restore (R89, R450, R451) -/

/-- A word as it is written to a register: an MW register takes it under a full mask. -/
def restoreWord (k : Key) (w : Word) : Word := if isMw (regDef k.1) then w32 (0xFFFF0000 + bits w 15 0) else w

/-- Restore one register of a last-good record (R450). Of HDn_CTRL only ON_AIR is restored here. -/
def State.restoreReg (s : State) (e : Key × Word) : State :=
  match e.1.1 with
  | .HD_CTRL => s.keyWrite .hardware e.1 (w32 (0x20000 + 2 * bits e.2 1 1))
  | _ => s.keyWrite .hardware e.1 (restoreWord e.1 e.2)

/-- Restore head n from its last-good record and start it (R89, R451). One whose record fails its CRC, or that is refused, is
skipped. -/
def State.restoreHead (s : State) (n : Nat) : State :=
  if s.cl.corrupt.contains (16 + n) then s.raise 0x1F9 0 ⟨0, n⟩ else
  match s.record (16 + n) with
  | some (.lastGood c _ regs) =>
    let s := regs.foldl State.restoreReg s
    let c := { c with restored := true, prep := false, members := [] }
    let r := s.admission c []
    if r.1.reason ≠ 0 then s.raise 0x1F9 0 ⟨0, n⟩ else
    let s := (s.newSerial [n]).applyStopped { c with serial := s.serial + 1, accepted := s.dtime, adm := r.2 }
    if s.runErr n (s.flag (F.HD_CTRL_ON_AIR n)) ≠ some 0 then s.raise 0x1F9 0 ⟨0, n⟩
    else s.keyWrite .hardware (.HD_CTRL, [n]) (w32 0x10001)
  | _ => s

/-- The heads are restored once TB is LOCKED or HOLD has run out (R89). -/
def headRestoreOp (s : State) : State :=
  match s.dv.bootDone with
  | none => s
  | some t =>
    let due := s.get F.TB_STATE_STATE == 6 || decide (t + s.get F.DV_BOOT_CFG_HOLD * 40000000 ≤ s.tick)
    if !due || !s.modeStarts true then s else
    let s := s.updDv fun d => { d with bootDone := none }
    ((List.range 16).foldl State.restoreHead s).set F.DV_BOOT_STAT_RESTORED 1

end Sys2Proof.Machine
end

