-- ==== Sys2Proof/Machine/LockDomain.lean ====
section
/-! DEFINITION. The lock domain, second part (18): domain commits and WRITE, which write registers of other blocks. -/

namespace Sys2Proof.Machine

/-! ### Times and families -/

/-- a − b of two domain times, in ns (R103). -/
def domainDiff (a b : Nat) : Int :=
  let d : Nat := (a % 2 ^ 40 + 2 ^ 40 - b % 2 ^ 40) % 2 ^ 40
  if d < 2 ^ 39 then (d : Int) else (d : Int) - 2 ^ 40

/-- GL_MARGIN and GL_PATH in ns. -/
def State.glMargin (s : State) : Nat := s.get F.GL_MARGIN_US * 1000

def State.glPath (s : State) : Nat := s.get F.GL_PATH_US * 1000

/-- The time left until T − GL_MARGIN, in ns. -/
def State.untilMargin (s : State) (t : Nat) : Int := domainDiff t s.dtime - s.glMargin

/-- The local lock group of a domain group. -/
def State.glLocal (s : State) (g : Nat) : Nat := if g % 16 = 0 then 0 else s.get (F.GL_MAP_LOCAL (g % 16 - 1))

/-- The heads of a local group that are starting or running. -/
def State.glHeads (s : State) (l : Nat) : List Nat := if l = 0 then [] else (s.groupHeads l).filter s.active

/-- The family code of a message (R408). -/
def familyCode (f : Nat) : Nat :=
  if f = 2398 then 0 else if f = 24 then 1 else if f = 25 then 2 else if f = 2997 then 3 else 4

/-- The family of the local group of a domain group, as a REQUEST carries it: a free one where no head gives it. -/
def State.askFamily (s : State) (g : Nat) : Nat × State :=
  match s.groupHeads (s.glLocal g) with
  | n :: _ => if s.glLocal g = 0 then s.fresh else (familyCode (rateFamily (s.rate n)), s)
  | [] => s.fresh

/-! ### A member's share (R413, R415) -/

/-- The origin of the writes of a domain commit (R416). -/
def remoteOrg (i : Nat) : Origin := .remote ⟨i % 4096, Nat.mod_lt _ (by decide)⟩

/-- The group deadline of the frame that T selects lies at least 100 µs after T − GL_MARGIN (R413). -/
def State.glMarginOk (s : State) (ns : List Nat) (t : Nat) : Bool :=
  match s.domainCount t with
  | none => false
  | some u =>
    let low := s.groupRate (ns.headD 0)
    let g := groupFrom low u
    ns.all fun n =>
      let f := s.memberFrame low g n
      decide (u + 100000 * 2 ^ 32 ≤ s.deadlineAt n f (s.leadFor n f) + s.glMargin * 2 ^ 32)

/-- The reason for which a member turns PREPARE down before it writes its commit, 0 for none (R413). -/
def State.glJudge (s : State) (m : GlPrepare) (ns : List Nat) : Nat :=
  let st := s.get F.TB_STATE_STATE
  if ¬ (st = 6 ∨ (st = 7 ∧ s.flag F.GL_CTRL_HOLD_OK)) then 3
  else if familyCode (rateFamily (s.rate (ns.headD 0))) ≠ m.family then 4
  else if !s.glMarginOk ns m.t then 5
  else 0

/-- Keep a share. -/
def State.addShare (s : State) (h : GlShare) : State :=
  s.updGl fun g => { g with shares := (g.shares.filter fun x => x.cid != h.cid) ++ [h] }

/-- A member judges a PREPARE and prepares its share (R413). -/
def State.glPrepareShare (s : State) (m : GlPrepare) : State :=
  let s := ((s.wr (.GL_CID, []) (w32 m.cid)).wr (.GL_T_LO, []) (w32 m.t)).set F.GL_T_HI_T (m.t / 2 ^ 32)
  let s := s.wr (.GL_CSTAT, []) 0
  let ns := s.glHeads (s.glLocal m.group)
  let h : GlShare := { cid := m.cid, t := m.t, p := m.p, requester := m.requester }
  match ns with
  | [] => s.addShare h
  | n :: _ =>
    let r := s.glJudge m ns
    if r ≠ 0 then s.addShare { h with nak := some r } else
    let v := w32 (n % 2 + 2 + 4 + m.cid % 65536 * 65536)
    let w := s.busWrite (remoteOrg m.requester) (keyAddr (.CE_COMMIT, [n / 2])) v
    if w.2 then w.1.addShare { h with nak := some 9 }
    else w.1.addShare { h with set := some (n, (w.1.head n).latest) }

/-- Discard the set of a share (R415). -/
def State.glDiscard (s : State) (h : GlShare) : State :=
  match h.set with
  | some (n, serial) =>
    if (s.head n).prepared.any fun c => c.serial == serial then
      s.keyWrite (remoteOrg h.requester) (.CE_RELEASE, [n / 2]) (w32 (n % 2 + 2))
    else s
  | none => s

/-- A share ends without its commit: its set is discarded, at the end of its check if it is still checked, and the outcome is shown. -/
def State.glEndShare (s : State) (h : GlShare) (outcome reason member : Nat) : State :=
  match h.set with
  | none => s
  | some (n, serial) =>
    let checking := s.holdsSet n serial && !((s.head n).prepared.any fun c => c.serial == serial)
    let s := s.updGl fun g => { g with shares := g.shares.filter fun x => x.cid != h.cid }
    let s := if checking then s.addShare { h with nak := some 0 } else s.glDiscard h
    s.glOutcome h.cid outcome reason member

/-- A share that still waits for COMMIT or ABORT. -/
def GlShare.waits (h : GlShare) : Bool := h.set.isSome && h.nak.isNone && !h.released

/-- A COMMIT reaches a share (R415): in time it is released for T, later it is missed. -/
def State.glTakeCommit (s : State) (cid t : Nat) : State :=
  match s.gl.shares.find? fun h => h.cid == cid && h.waits && h.answered with
  | none => s
  | some h =>
    match h.set with
    | none => s
    | some (n, _) =>
      if s.untilMargin t < 0 then s.glEndShare h 5 0 0 else
      let o := remoteOrg h.requester
      let s := s.addShare { h with released := true }
      let s := s.keyWrite o (.CE_RELEASE_AT_LO, [n / 2, n % 2]) (w32 t)
      let s := s.keyWrite o (.CE_RELEASE_AT_HI, [n / 2, n % 2]) (w32 (t / 2 ^ 32 % 256))
      (s.keyWrite o (.CE_RELEASE, [n / 2]) (w32 (n % 2))).glShow cid 2 0 0

/-- An ABORT reaches a share (R415). -/
def State.glTakeAbort (s : State) (cid reason member : Nat) : State :=
  match s.gl.shares.find? fun h => h.cid == cid && h.waits with
  | none => s
  | some h => s.glEndShare h 4 reason member

/-! ### The leader (R412, R414) -/

/-- The leader aborts a domain commit, and its own share with it. -/
def State.glAbortAll (s : State) (cid reason member : Nat) : State :=
  let s := s.updGl fun g => { g with flight := g.flight.filter fun f => f.cid != cid }
  (s.glCast 0x0B (bytesLE 4 cid ++ bytesLE 1 reason ++ bytesLE 2 member)).glTakeAbort cid reason member

/-- A CID other than the last one. -/
def State.newCid (s : State) : Nat × State :=
  let r := s.fresh
  let c := r.1 % 2 ^ 32
  let c := if c = s.gl.lastCid then (c + 1) % 2 ^ 32 else c
  (c, r.2.updGl fun g => { g with lastCid := c })

/-- The lead of R412 holds between P and T. -/
def State.leadOk (s : State) (t p : Nat) : Bool :=
  let lead := domainDiff t p
  let high := s.gl.roster.foldl max 0
  decide ((256000 * high + s.glMargin + 2 * s.glPath : Nat) ≤ lead) && decide (lead < 60000000000)

/-- The leader judges a REQUEST: busy, then lead; otherwise it sends PREPARE and prepares its own share (R412). -/
def State.glAsk (s : State) (group t family tag requester : Nat) : State :=
  let r := s.newCid
  let cid := r.1
  let s := r.2
  let refuse (reason : Nat) : State := s.glCast 0x0B (bytesLE 4 cid ++ bytesLE 1 reason ++ bytesLE 2 requester)
  if s.gl.flight.isSome then refuse 6
  else
    let p := s.dtime
    if !s.leadOk t p then refuse 8
    else
      let s := s.updGl fun g => { g with flight := some { cid, group, t, p, members := g.roster } }
      let s := s.glCast 0x07 (bytesLE 4 cid ++ bytesLE 1 group ++ bytesLE 1 family ++ bytesLE 5 t ++ bytesLE 5 p ++
        bytesLE 2 requester ++ bytesLE 2 tag)
      s.glPrepareShare ⟨⟨0, true, s.glIndex, 0, 0, 0⟩, cid, group, family, t, p, requester, tag⟩

/-- The leader sends COMMIT once it holds every ACK, in time (R414). -/
def State.glTryCommit (s : State) : State :=
  match s.gl.flight with
  | none => s
  | some f =>
    if f.sent.isNone ∧ (f.members.all f.acks.contains) ∧ (s.glPath : Int) ≤ s.untilMargin f.t then
      let s := s.updGl fun g => { g with flight := some { f with sent := some (s.tick, false) } }
      (s.glCast 0x0A (bytesLE 4 f.cid ++ bytesLE 5 f.t)).glTakeCommit f.cid f.t
    else s

/-- The leader records an ACK. -/
def State.glTakeAck (s : State) (i cid : Nat) : State :=
  match s.gl.flight with
  | some f =>
    if f.cid = cid ∧ f.members.contains i then
      (s.updGl fun g => { g with flight := some { f with acks := enroll i f.acks } }).glTryCommit
    else s
  | none => s

/-- The leader takes a NAK. -/
def State.glTakeNak (s : State) (i cid reason : Nat) : State :=
  if s.gl.flight.any fun f => f.cid == cid && f.sent.isNone && f.members.contains i then s.glAbortAll cid reason i else s

/-! ### The messages and times of a domain commit -/

/-- The agent takes part: it runs and is a member or the leader. -/
def State.glMember (s : State) : Bool := s.glAgent && (s.glRole == 2 || s.glRole == 3)

/-- The member's answer goes to the leader, which may be the device itself. -/
def State.glAnswer (s : State) (h : GlShare) (nak : Option Nat) : State :=
  match nak with
  | none =>
    let s := if h.set.isSome then s.glShow h.cid 1 0 0 else s
    if s.glRole = 3 then s.glTakeAck s.glIndex h.cid else s.glToLeader 0x08 (bytesLE 4 h.cid ++ bytesLE 1 (b2n h.set.isNone))
  | some r =>
    if s.glRole = 3 then s.glTakeNak s.glIndex h.cid r else
    let n := (h.set.map (·.1)).getD 0
    let c := s.rd (.CE_CSTAT, [n / 2, n % 2])
    let d := s.rd (.CE_CDET, [n / 2, n % 2])
    let detail := if r = 1 then (bits c 7 4, bits d 8 0, bits d 15 12) else (0, 0, 0)
    s.glToLeader 0x09 (bytesLE 4 h.cid ++ bytesLE 1 r ++
      (if s.get F.GL_STATE_VER = 2 then bytesLE 1 detail.1 ++ bytesLE 2 detail.2.1 ++ bytesLE 1 detail.2.2 else []))

/-- A share whose check has ended and whose slot has come is answered (R413). -/
def State.glAnswer1 (s : State) (h : GlShare) : State :=
  let drop (s : State) : State := s.updGl fun g => { g with shares := g.shares.filter fun x => x.cid != h.cid }
  let due := decide ((256000 * s.glIndex : Int) ≤ domainDiff s.dtime h.p)
  match h.set, h.nak with
  | some (n, serial), some _ =>
    if (s.head n).prepared.any fun c => c.serial == serial then (drop s).glDiscard h
    else if s.holdsSet n serial then s else drop s
  | none, nak => if due then (drop s).glAnswer h nak else s
  | some (n, serial), none =>
    if h.answered ∨ !due then s
    else if (s.head n).prepared.any fun c => c.serial == serial then (s.addShare { h with answered := true }).glAnswer h none
    else if s.holdsSet n serial then s
    else (drop s).glAnswer h (some 1)

/-- ACK_SEND (R413). -/
def ackSendOp (s : State) : State := if s.glMember then s.gl.shares.foldl State.glAnswer1 s else s

/-- REQUEST, at the leader (R412). -/
def requestOp (m : GlRequest) (s : State) : State :=
  s.glReceive m.head false id fun s => if s.glRole = 3 then s.glAsk m.group m.t m.family m.tag m.head.index else s

/-- The message comes from the leader that the device follows. -/
def State.fromLeader (s : State) (h : GlHead) : Bool := s.glRole == 2 && h.index == s.get F.GL_STATE_LEADER

/-- PREPARE, at a member (R413). -/
def prepareOp (m : GlPrepare) (s : State) : State :=
  s.glReceive m.head false id fun s => if s.fromLeader m.head then s.glPrepareShare m else s

/-- ACK, at the leader (R414). -/
def ackOp (m : GlAck) (s : State) : State :=
  s.glReceive m.head false id fun s => if s.glRole = 3 then s.glTakeAck m.head.index m.cid else s

/-- NAK, at the leader (R414). -/
def nakOp (m : GlNak) (s : State) : State :=
  s.glReceive m.head false id fun s => if s.glRole = 3 then s.glTakeNak m.head.index m.cid m.reason else s

/-- COMMIT is sent again 200 µs after the first one, and the leader is free again (R414). -/
def commitResendOp (s : State) : State :=
  match s.gl.flight with
  | some f =>
    if s.glAgent ∧ s.glRole = 3 ∧ (f.sent.any fun x => decide (x.1 + ticksNs 200000 ≤ s.tick)) then
      (s.updGl fun g => { g with flight := none }).glCast 0x0A (bytesLE 4 f.cid ++ bytesLE 5 f.t)
    else s
  | none => s

/-- An ACK is missing at T − GL_MARGIN − GL_PATH (R414): the lowest index without one is named. -/
def ackDeadlineOp (s : State) : State :=
  match s.gl.flight with
  | some f =>
    if s.glAgent ∧ s.glRole = 3 ∧ f.sent.isNone ∧ s.untilMargin f.t ≤ s.glPath then
      s.glAbortAll f.cid 2 ((f.members.find? fun i => !f.acks.contains i).getD 0)
    else s
  | none => s

/-- COMMIT, at a member (R415). -/
def commitMessageOp (m : GlCommit) (s : State) : State := s.glReceive m.head false id fun s => s.glTakeCommit m.cid m.t

/-- ABORT, at a member (R415). -/
def abortOp (m : GlAbort) (s : State) : State := s.glReceive m.head false id fun s => s.glTakeAbort m.cid m.reason m.member

/-- Neither COMMIT nor ABORT has come by T − GL_MARGIN (R415). -/
def memberCommitTimeoutOp (s : State) : State :=
  if !s.glAgent then s else
  s.gl.shares.foldl (fun s h =>
    if h.waits ∧ s.untilMargin h.t < 0 then s.glEndShare h 5 (if s.gl.leaderLost then 7 else 2) 0 else s) s

/-- REPORT, at the leader, which keeps no record of it (R415). -/
def reportOp (m : GlReport) (s : State) : State := s.glReceive m.head false id id

/-- WRITE (R416): its pairs in order, each judged on its own. -/
def writeOp (m : GlWrite) (s : State) : State :=
  s.glReceive m.head false id fun s =>
    if (s.glRole = 2 ∨ s.glRole = 3) ∧ s.get F.GL_STATE_VER = 2 then
      (m.pairs.take 8).foldl (fun s p => (s.busWrite (remoteOrg m.head.index) p.1.toNat p.2).1) s
    else s

end Sys2Proof.Machine
end

