-- ==== Sys2Proof/Machine/Mailbox.lean ====
section
/-! DEFINITION. The Plestonas commands (R91 to R97), with those of the chapters on time (R117, R118, R123, R124), the lock domain
(R412, R417) and the Cellar (R444, R451). A command is served once its request is posted; MAILBOX_COMPLETE writes its response. -/

namespace Sys2Proof.Machine

/-- What a command makes: the state, its result code, its response words, and whether it applied a change. -/
structure Reply where
  st : State
  code : Nat := 0
  words : List Word := []
  applied : Bool := false

/-- The command is served now: by the boot ROM in MAINTENANCE if it is marked for it, else by the services (R96). -/
def State.mbxServed (s : State) (inMaint : Bool) : Bool :=
  if s.dv.maint then inMaint else s.get F.DV_SVC_READY_READY == 15

/-- The result of a command that does not come to its own judgement, if any: session, service, right, length. -/
def State.mbxTurn (s : State) (f : Nat) (free inMaint : Bool) (blk : Option Nat) (len : Option Nat) (words : List Word) : Option Nat :=
  if !free ∧ s.get (sessionFld f) = 0 then some 3
  else if !s.mbxServed inMaint then some 4
  else if blk.any fun b => s.rights (.pf ⟨f % 4, Nat.mod_lt _ (by decide)⟩) b != 3 then some 5
  else if len.any (· != words.length) then some 2
  else none

/-- The versions of Plestonas that the device supports, highest first (R91). -/
def plesVersions : List Nat := [0x304, 0x303, 0x302, 0x301, 0x300, 0x202, 0x201, 0x200]

/-- The settled version of a function's session has a command (R92): none was introduced after the highest version. -/
def State.mbxKnown (s : State) (f code : Nat) : Bool := decide (plesVersions.getD (Config.plesSince code).val 0 ≤ s.get (sessionFld f))

/-- The result of a command that its function's session does not have (R92), or that does not exist (R93, R96): BAD_COMMAND, unless session or
services are missing. -/
def State.mbxUnknown (s : State) (f : Nat) (words : List Word) : Nat := (s.mbxTurn f false true none none words).getD 1

/-- Serve the posted command of a function if it is `code` and has not been served: `free` needs no session, `inMaint` is marked for
MAINTENANCE, `blk` is the block over which R95 asks for RW, `len` the payload words. -/
def State.mbxServe (s : State) (f code : Nat) (free inMaint : Bool) (blk len : Option Nat) (body : List Word → Reply) : State :=
  let m := s.mb f
  match m.posted with
  | none => s
  | some (c, words) =>
    if s.get (F.DV_MBX_STAT_STATE f) ≠ 1 ∨ c ≠ code ∨ m.staged.isSome then s else
    match (if free || s.mbxKnown f code then s.mbxTurn f free inMaint blk len words else some (s.mbxUnknown f words)) with
    | some e => s.setMb f { m with staged := some (e, [], false) }
    | none =>
      let r := body words
      r.st.setMb f { m with staged := some (r.code, r.words, r.applied) }

/-- A refused argument. -/
def badArg (s : State) : Reply := { st := s, code := 7 }

/-- A command that has applied. -/
def applied (s : State) : Reply := { st := s, applied := true }

/-! ### Sessions (R96) -/

/-- OPEN. -/
def openOp (f : Nat) (s : State) : State :=
  s.mbxServe f 0x0001 true true none (some 1) fun w =>
    let lo := bits (w.headD 0) 15 0
    let hi := bits (w.headD 0) 31 16
    match plesVersions.find? fun v => decide (lo ≤ v) && decide (v ≤ hi) with
    | some v => applied (s.set (sessionFld f) v)
    | none => { st := (s.set (sessionFld f) 0).raise 0x014 0 (ifaceOrg 0 f), code := 6 }

/-- CLOSE. -/
def closeOp (f : Nat) (s : State) : State :=
  s.mbxServe f 0x0002 false true none (some 0) fun _ => applied (s.set (sessionFld f) 0)

/-- GET_INFO. -/
def getInfoOp (f : Nat) (s : State) : State :=
  s.mbxServe f 0x0003 true true none (some 0) fun _ =>
    { st := s, words := Config.mbxWords 0x0003 [s.get F.DV_PART_PART, s.get F.DV_PART_STEPPING, s.dv.rom, s.get F.DV_BOOT_VER_VERSION,
        s.get F.CL_STAT_LAYOUT] }

/-! ### Boot images (R81, R96, R97) -/

/-- Bytes of a slot (R81). -/
def slotSize : Nat := 14 * 1048576

abbrev bootSlotD : Nat → Slot := fun _ => {}

def State.slot (s : State) (i : Nat) : Slot := mget bootSlotD s.dv.slots i

def State.setSlot (s : State) (i : Nat) (x : Slot) : State := s.updDv fun d => { d with slots := nput bootSlotD d.slots i x }

/-- IMG_BEGIN. -/
def imgBeginOp (f : Nat) (s : State) : State :=
  s.mbxServe f 0x0500 false true none (some 2) fun w =>
    let i := (w.headD 0).toNat
    let n := (w.getD 1 0).toNat
    if 1 < i ∨ slotSize < n then badArg s
    else if !s.dv.maint ∧ i = s.dv.running then { st := s, code := 5 }
    else applied ((s.setSlot i { length := n }).updDv fun d => { d with img := some i })

/-- Write bytes into a slot. -/
def slotBytes (m : Map Nat Byte) (a : Nat) (bs : List Byte) : Map Nat Byte :=
  (bs.zipIdx).foldl (fun m b => nput (fun _ => 0xFF) m (a + b.2) b.1) m

/-- IMG_DATA. -/
def imgDataOp (f : Nat) (s : State) : State :=
  s.mbxServe f 0x0501 false true none (some 61) fun w =>
    let a := (w.headD 0).toNat
    match s.dv.img with
    | none => badArg s
    | some i =>
      if slotSize < a + 240 then badArg s else
      let x := s.slot i
      applied (s.setSlot i { x with data := slotBytes x.data a ((w.drop 1).flatMap fun v => bytesLE 4 v.toNat) })

/-- IMG_END: the slot is verified under R83. -/
def imgEndOp (f : Nat) (c : SlotCheck) (s : State) : State :=
  s.mbxServe f 0x0502 false true none (some 0) fun _ =>
    match s.dv.img with
    | none => badArg s
    | some i =>
      let ok := s.slotSound c && decide (s.attempts i < s.maxAtt)
      let s := (s.setSlot i { s.slot i with present := c.present, version := c.version.toNat }).updDv fun d => { d with img := none }
      { st := s, words := [w32 (b2n ok)], applied := true }

/-! ### Time (R117, R118) -/

/-- TIME_STATUS. -/
def timeStatusOp (f : Nat) (s : State) : State :=
  s.mbxServe f 0x0100 false false none (some 0) fun _ =>
    { st := s, words := Config.mbxWords 0x0100 [s.get F.TB_STATE_STATE, s.get F.TB_STATE_SRC, (s.rd (.TB_OFS, [])).toNat,
        (s.tb.pathDelay % 2 ^ 64).toNat, s.tb.gmId, s.clockClass, s.tb.stepsRemoved] }

/-- The ranges of R117. -/
def ptpOk (c : PtpConfig) : Bool :=
  decide (c.domain ≤ 127) && decide (c.profile ≤ 1) && decide (c.priority1 ≤ 255) && decide (c.priority2 ≤ 255) &&
    decide (-7 ≤ c.logSync) && decide (c.logSync ≤ 0) && decide (-3 ≤ c.logAnnounce) && decide (c.logAnnounce ≤ 1) &&
    decide (2 ≤ c.announceTimeout) && decide (c.announceTimeout ≤ 10) && decide (-7 ≤ c.logDelayReq) && decide (c.logDelayReq ≤ 5)

/-- TIME_PTP_CFG. -/
def timePtpCfgOp (f : Nat) (c : PtpConfig) (s : State) : State :=
  s.mbxServe f 0x0101 false false (some 5) none fun _ =>
    if ptpOk c then applied { s with tb := { s.tb with ptp := c } } else badArg s

/-- TIME_PTP_PORT. -/
def timePtpPortOp (f p : Nat) (en : Bool) (role : Nat) (ip : Word) (s : State) : State :=
  s.mbxServe f 0x0102 false false (some 5) none fun _ =>
    let others := s.tb.ports.any fun e => e.1 != p && e.2.en && e.2.role == 2
    if 2 < role ∨ (en ∧ role = 2 ∧ others) then badArg s
    else
      let x := s.ptp p
      let s := s.setPtp p { x with en := en, role := role, ip := ip }
      applied (if x.slave ∧ (!en ∨ role = 1) then (srcLost 1 s).noSlave.settleMode else s)

/-- TIME_LEAP: the servo writes TB_LEAP_AT and TB_UTC. -/
def timeLeapOp (f ofs : Nat) (l61 l59 : Bool) (leapAt : Word) (s : State) : State :=
  s.mbxServe f 0x0103 false false (some 5) none fun _ =>
    if s.get F.TB_STATE_SRC = 1 ∨ (l61 ∧ l59) ∨ 65535 < ofs then badArg s
    else
      let x := s.fresh
      let o : Origin := .cu 16 (x.1 % 65536)
      let s := x.2.keyWrite o (.TB_LEAP_AT, []) leapAt
      applied (s.keyWrite o (.TB_UTC, []) (w32 (ofs + b2n l61 * 0x10000 + b2n l59 * 0x20000 + 0x40000)))

/-- TIME_SERVO: the loop bandwidth in units of 0.01 Hz. -/
def timeServoOp (f bw : Nat) (s : State) : State :=
  s.mbxServe f 0x0104 false false (some 5) none fun _ =>
    if 1 ≤ bw ∧ bw ≤ 100 then applied { s with tb := { s.tb with bw := bw } } else badArg s

/-! ### Lock domain (R412, R417) -/

/-- GL_STATUS. -/
def glStatusOp (f : Nat) (s : State) : State :=
  s.mbxServe f 0x0400 false false none (some 0) fun _ =>
    { st := s, words := Config.mbxWords 0x0400 [s.glRole, s.get F.GL_STATE_VER, s.get F.GL_STATE_LEADER, s.get F.GL_MEMBERS_COUNT,
        s.get F.GL_CID_CID, s.get F.GL_CSTAT_OUTCOME] }

/-- GL_COMMIT: a member sends REQUEST, the leader acts on it itself. -/
def glCommitOp (f g t tag : Nat) (s : State) : State :=
  s.mbxServe f 0x0401 false false (some 12) none fun _ =>
    if !s.glMember ∨ g = 0 ∨ 15 < g ∨ 2 ^ 40 ≤ t then badArg s
    else
      let x := s.askFamily g
      if s.glRole = 3 then applied (x.2.glAsk g t x.1 tag s.glIndex)
      else applied (x.2.glToLeader 0x06 (bytesLE 1 g ++ bytesLE 5 t ++ bytesLE 1 x.1 ++ bytesLE 2 tag))

/-- GL_ROSTER: members from 256 × page upward. -/
def glRosterOp (f page : Nat) (s : State) : State :=
  s.mbxServe f 0x0402 false false none none fun _ =>
    if 15 < page then badArg s
    else { st := s, words := (List.range 8).map fun i => w32 (ofBits ((List.range 32).map fun b => (b, s.gl.roster.contains (256 * page + 32 * i + b)))) }

/-! ### Cellar (R444, R451) -/

/-- A byte of an entry in one of the rings. A mirror slot that holds none is all 0xFF (R448); what a fault-history slot holds that was
never written is open. -/
def State.ringByte (s : State) (region : Nat) (m : Map Nat (Option Entry)) (o : Nat) : Byte :=
  match mget slotD m (o / 32) with
  | some e => e.bytes.getD (o % 32) 0
  | none => if region = 9 then 0xFF else Config.cellarByte region (mget (fun _ => 0) s.cl.writes region) o

/-- The record that an offset below the fault history, or in the last-good region, belongs to: its key in the store. -/
def recAt (o : Nat) : Nat := if o < 0x10000 then o / 0x1000 else 16 + (o - 0x20000) / 0x8000

/-- A byte of the Cellar (R444). -/
def State.cellarAt (s : State) (o : Nat) : Byte :=
  if 0x800000 ≤ o then s.ringByte 9 s.cl.mirror (o - 0x800000)
  else if 0xA0000 ≤ o then 0
  else if 0x10000 ≤ o ∧ o < 0x20000 then s.ringByte 7 s.cl.history (o - 0x10000)
  else Config.cellarByte (recAt o) (((mget storeD s.cl.store (recAt o)).map (·.2)).getD 0) o

/-- CL_READ. -/
def clReadOp (f o len : Nat) (s : State) : State :=
  s.mbxServe f 0x04E0 false false none none fun _ =>
    if len < 4 ∨ 240 < len ∨ len % 4 ≠ 0 ∨ 0x1000000 < o + len then badArg s
    else { st := s, words := (List.range (len / 4)).map fun i => w32 (ofBytesLE ((List.range 4).map fun b => s.cellarAt (o + 4 * i + b))) }

/-! ### Completion (R93, R94) -/

/-- The commands that exist (R96 and the chapters that list service commands). -/
def mbxCodes : List Nat := [1, 2, 3, 0x100, 0x101, 0x102, 0x103, 0x104, 0x400, 0x401, 0x402, 0x4E0, 0x500, 0x501, 0x502]

/-- A command completes: its response is written. One that does not exist is turned away. A cancel of this tick loses. -/
def mailboxCompleteOp (f : Nat) (s : State) : State :=
  let m := s.mb f
  let st := s.get (F.DV_MBX_STAT_STATE f)
  if st = 1 ∨ (st = 3 ∧ m.cancelled = some s.tick) then
    match m.staged, m.posted with
    | some (code, words, _), _ => s.mbxFinish f code words
    | none, some (c, words) =>
      if mbxCodes.contains c then s else s.mbxFinish f (s.mbxUnknown f words) []
    | none, none => s
  else s

end Sys2Proof.Machine
end

