-- ==== Sys2Proof/Machine/DeviceCmd.lean ====
section
/-! DEFINITION. The commands of modes, resets, boot and the Plestonas interface (03). -/

namespace Sys2Proof.Machine

/-- The PCIe link comes up, unless its lanes are under test (R433, R470). -/
def pcieUpOp (s : State) : State :=
  if s.dv.step < 3 ∨ s.dv.railsOff ∨ (List.range 8).any s.laneTested then s else s.updDv fun d => { d with pcieUp := true }

/-- PCIE_LINK_DOWN (R76). -/
def execPcieLinkDown (s : State) : Host.Outcome State Fault Refusal :=
  done (fun s => s.pcieReset) s

/-- FLR (R76). -/
def execFlr (f : Fin 4) (s : State) : Host.Outcome State Fault Refusal :=
  done (fun s => s.flrReset f.val) s

/-- OPERATE (R71). -/
def execOperate (o : Origin) (on : Bool) (s : State) : Host.Outcome State Fault Refusal :=
  done (fun s => s.keyWrite o (.DV_CTRL, []) (w32 (0x10000 + b2n on))) s

/-- SHUTDOWN (R75). -/
def execShutdown (o : Origin) (s : State) : Host.Outcome State Fault Refusal :=
  done (fun s => s.keyWrite o (.DV_CTRL, []) (w32 0x20002)) s

/-- SHUTDOWN_RAILS_OFF (R75). -/
def execShutdownRailsOff (s : State) : Host.Outcome State Fault Refusal :=
  done (fun s => (railsOffOp s).settleMode) s

/-- WARM_RESET (R77). -/
def execWarmReset (o : Origin) (key : BitVec 16) (s : State) : Host.Outcome State Fault Refusal :=
  done (fun s => s.keyWrite o (.DV_RESET, []) (w32 (1 + key.toNat * 65536))) s

/-- MAINTENANCE_RESET (R77). -/
def execMaintenanceReset (o : Origin) (key : BitVec 16) (s : State) : Host.Outcome State Fault Refusal :=
  done (fun s => s.keyWrite o (.DV_RESET, []) (w32 (3 + key.toNat * 65536))) s

/-- SERVICE_RESET (R78). -/
def execServiceReset (o : Origin) (key : BitVec 16) (s : State) : Host.Outcome State Fault Refusal :=
  done (fun s => s.keyWrite o (.DV_RESET, []) (w32 (2 + key.toNat * 65536))) s

/-- RESET_BEGIN (R77). -/
def execResetBegin (s : State) : Host.Outcome State Fault Refusal :=
  done (fun s => resetBeginOp s) s

/-- COLD_RESET (R76). -/
def execColdReset (s : State) : Host.Outcome State Fault Refusal :=
  done (fun s => coldResetOp s) s

/-- PIN_RESET (R481). -/
def execPinReset (s : State) : Host.Outcome State Fault Refusal :=
  done (fun s => pinResetOp s) s

/-- RESET_RELEASE (R80). -/
def execResetRelease (straps : BitVec 4) (board : Option (List RailEntry)) (s : State) : Host.Outcome State Fault Refusal :=
  done (fun s => resetReleaseOp straps.toNat board s) s

/-- RAILS_POWER_GOOD (R87). -/
def execRailsPowerGood (s : State) : Host.Outcome State Fault Refusal :=
  done (fun s => railsGoodOp s) s

/-- CELLAR_HEADER_CHECK (R88). -/
def execCellarHeaderCheck (crcOk : Bool) (layout : Nat) (bad : List Nat) (s : State) : Host.Outcome State Fault Refusal :=
  done (fun s => (cellarCheckOp crcOk layout bad s).settleMode) s

/-- IMAGE_SELECTION (R84). -/
def execImageSelection (a b : SlotCheck) (s : State) : Host.Outcome State Fault Refusal :=
  done (fun s => (imageSelectOp a b s).settleMode) s

/-- SERVICE_READY (R85). -/
def execServiceReady (s : State) : Host.Outcome State Fault Refusal :=
  done (fun s => (serviceReadyOp s).settleMode) s

/-- BOOT_READY_TIMEOUT (R85). -/
def execBootReadyTimeout (s : State) : Host.Outcome State Fault Refusal :=
  done (fun s => readyTimeoutOp s) s

/-- SVC_WDOG (R86). -/
def execSvcWdog (e : Fin 4) (s : State) : Host.Outcome State Fault Refusal :=
  done (fun s => svcWdogOp e.val s) s

/-- BOOT_COMPLETE (R87). -/
def execBootComplete (s : State) : Host.Outcome State Fault Refusal :=
  done (fun s => (bootCompleteOp s).settleMode) s

/-- HEAD_RESTORE (R89). -/
def execHeadRestore (s : State) : Host.Outcome State Fault Refusal :=
  done (fun s => headRestoreOp s) s

/-- OPEN (R96). -/
def execOpenSession (f : Fin 4) (s : State) : Host.Outcome State Fault Refusal :=
  done (fun s => openOp f.val s) s

/-- CLOSE (R96). -/
def execCloseSession (f : Fin 4) (s : State) : Host.Outcome State Fault Refusal :=
  done (fun s => closeOp f.val s) s

/-- GET_INFO (R96). -/
def execGetInfo (f : Fin 4) (s : State) : Host.Outcome State Fault Refusal :=
  done (fun s => getInfoOp f.val s) s

/-- IMG_BEGIN (R97). -/
def execImgBegin (f : Fin 4) (s : State) : Host.Outcome State Fault Refusal :=
  done (fun s => imgBeginOp f.val s) s

/-- IMG_DATA (R96). -/
def execImgData (f : Fin 4) (s : State) : Host.Outcome State Fault Refusal :=
  done (fun s => imgDataOp f.val s) s

/-- IMG_END (R96). -/
def execImgEnd (f : Fin 4) (c : SlotCheck) (s : State) : Host.Outcome State Fault Refusal :=
  done (fun s => imgEndOp f.val c s) s

/-- TIME_STATUS (R118). -/
def execTimeStatus (f : Fin 4) (s : State) : Host.Outcome State Fault Refusal :=
  done (fun s => timeStatusOp f.val s) s

/-- TIME_PTP_CFG (R117). -/
def execTimePtpCfg (f : Fin 4) (c : PtpConfig) (s : State) : Host.Outcome State Fault Refusal :=
  done (fun s => timePtpCfgOp f.val c s) s

/-- TIME_PTP_PORT (R117). -/
def execTimePtpPort (f : Fin 4) (p : Fin 4) (en : Bool) (role : Nat) (ip : Word) (s : State) : Host.Outcome State Fault Refusal :=
  done (fun s => timePtpPortOp f.val p.val en role ip s) s

/-- TIME_LEAP (R124). -/
def execTimeLeap (f : Fin 4) (ofs : Nat) (leap61 leap59 : Bool) (leapAt : Word) (s : State) : Host.Outcome State Fault Refusal :=
  done (fun s => timeLeapOp f.val ofs leap61 leap59 leapAt s) s

/-- TIME_SERVO (R117). -/
def execTimeServo (f : Fin 4) (bw : Nat) (s : State) : Host.Outcome State Fault Refusal :=
  done (fun s => timeServoOp f.val bw s) s

/-- GL_STATUS (R417). -/
def execGlStatus (f : Fin 4) (s : State) : Host.Outcome State Fault Refusal :=
  done (fun s => glStatusOp f.val s) s

/-- GL_COMMIT (R412). -/
def execGlCommit (f : Fin 4) (g : Nat) (t : Nat) (tag : BitVec 16) (s : State) : Host.Outcome State Fault Refusal :=
  done (fun s => glCommitOp f.val g t tag.toNat s) s

/-- GL_ROSTER (R417). -/
def execGlRoster (f : Fin 4) (page : Nat) (s : State) : Host.Outcome State Fault Refusal :=
  done (fun s => glRosterOp f.val page s) s

/-- CL_READ (R451). -/
def execClRead (f : Fin 4) (ofs len : Nat) (s : State) : Host.Outcome State Fault Refusal :=
  done (fun s => clReadOp f.val ofs len s) s

/-- CANCEL (R94). -/
def execCancel (o : Origin) (f : Fin 4) (s : State) : Host.Outcome State Fault Refusal :=
  done (fun s => s.keyWrite o (.DV_MBX_DOORBELL, [f.val]) (w32 0x80000000)) s

/-- MAILBOX_COMPLETE (R93). -/
def execMailboxComplete (f : Fin 4) (s : State) : Host.Outcome State Fault Refusal :=
  done (fun s => mailboxCompleteOp f.val s) s

/-- PCIE_LINK_UP (R433). -/
def execPcieLinkUp (s : State) : Host.Outcome State Fault Refusal :=
  done (fun s => pcieUpOp s) s

end Sys2Proof.Machine
end

