-- ==== Sys2Proof/Machine/DmaCmd.lean ====
section
/-! DEFINITION. The commands of ancillary channels and host rings (16). -/

namespace Sys2Proof.Machine

/-- REG write: it waits for every earlier descriptor, and then writes as the owner (R382). -/
def hqRegOp (r : Nat) (d : HostDesc) (s : State) : State :=
  s.takeDesc r d 3 fun d s =>
    if (s.hq r).flight ≠ [] then s else
    let w := s.busWrite (.pf ⟨s.hqOwner r % 4, Nat.mod_lt _ (by decide)⟩) (dw d 4).toNat (dw d 5)
    if w.1.get (F.HQ_STAT_STATE r) = 1 then w.1.fly r d (some (if w.2 then 3 else 0)) else w.1

/-- AD_ENABLE (R371). -/
def execAdEnable (o : Origin) (c : Fin 64) (v : Word) (s : State) : Host.Outcome State Fault Refusal :=
  done (fun s => s.keyWrite o (.AD_CTRL, [c.val]) (setBits v 0 0 1)) s

/-- AD_DISABLE (R371). -/
def execAdDisable (o : Origin) (c : Fin 64) (v : Word) (s : State) : Host.Outcome State Fault Refusal :=
  done (fun s => s.keyWrite o (.AD_CTRL, [c.val]) (setBits v 0 0 0)) s

/-- AD_SW_IDX_WRITE (R372). -/
def execAdSwIdxWrite (o : Origin) (c : Fin 64) (v : Word) (s : State) : Host.Outcome State Fault Refusal :=
  done (fun s => s.keyWrite o (.AD_SW_IDX, [c.val]) v) s

/-- AD_BURST_DONE (R373). -/
def execAdBurstDone (c : Fin 64) (data : List Byte) (s : State) : Host.Outcome State Fault Refusal :=
  done (fun s => adBurstDoneOp c.val data s) s

/-- AD_START (R379). -/
def execAdStart (o : Origin) (c : Fin 64) (s : State) : Host.Outcome State Fault Refusal :=
  done (fun s => s.keyWrite o (.AD_CMD, [c.val]) (w32 1)) s

/-- AD_ABORT (R380). -/
def execAdAbort (o : Origin) (c : Fin 64) (s : State) : Host.Outcome State Fault Refusal :=
  done (fun s => s.keyWrite o (.AD_CMD, [c.val]) (w32 2)) s

/-- AD_BUS_ERROR (R379). -/
def execAdBusError (c : Fin 64) (s : State) : Host.Outcome State Fault Refusal :=
  done (fun s => adBusErrorOp c.val s) s

/-- HQ_ENABLE (R381). -/
def execHqEnable (o : Origin) (r : Fin 64) (v : Word) (s : State) : Host.Outcome State Fault Refusal :=
  done (fun s => s.keyWrite o (.HQ_CTRL, [r.val]) (setBits v 0 0 1)) s

/-- HQ_DISABLE (R381). -/
def execHqDisable (o : Origin) (r : Fin 64) (v : Word) (s : State) : Host.Outcome State Fault Refusal :=
  done (fun s => s.keyWrite o (.HQ_CTRL, [r.val]) (setBits v 0 0 0)) s

/-- HQ_DOORBELL (R384). -/
def execHqDoorbell (o : Origin) (r : Fin 64) (v : Word) (s : State) : Host.Outcome State Fault Refusal :=
  done (fun s => s.keyWrite o (.HQ_DB, [r.val]) v) s

/-- HQ_START (R385). -/
def execHqStart (o : Origin) (r : Fin 64) (s : State) : Host.Outcome State Fault Refusal :=
  done (fun s => s.keyWrite o (.HQ_CMD, [r.val]) (w32 1)) s

/-- HQ_ABORT (R386). -/
def execHqAbort (o : Origin) (r : Fin 64) (s : State) : Host.Outcome State Fault Refusal :=
  done (fun s => s.keyWrite o (.HQ_CMD, [r.val]) (w32 2)) s

/-- HQ_NOP (R382). -/
def execHqNop (r : Fin 64) (d : HostDesc) (s : State) : Host.Outcome State Fault Refusal :=
  done (fun s => hqNopOp r.val d s) s

/-- HQ_H2L_COPY (R382). -/
def execHqH2lCopy (r : Fin 64) (d : HostDesc) (data : List Byte) (s : State) : Host.Outcome State Fault Refusal :=
  done (fun s => hqH2lOp r.val d data s) s

/-- HQ_L2H_COPY (R382). -/
def execHqL2hCopy (r : Fin 64) (d : HostDesc) (s : State) : Host.Outcome State Fault Refusal :=
  done (fun s => hqL2hOp r.val d s) s

/-- HQ_REG_WRITE (R382). -/
def execHqRegWrite (r : Fin 64) (d : HostDesc) (s : State) : Host.Outcome State Fault Refusal :=
  done (fun s => hqRegOp r.val d s) s

/-- HQ_TX_FRAME (R383). -/
def execHqTxFrame (r : Fin 64) (d : HostDesc) (data : List Byte) (s : State) : Host.Outcome State Fault Refusal :=
  done (fun s => hqTxOp r.val d data s) s

/-- HQ_RX_BUFFER (R383). -/
def execHqRxBuffer (r : Fin 64) (d : HostDesc) (s : State) : Host.Outcome State Fault Refusal :=
  done (fun s => hqRxOp r.val d s) s

/-- HQ_DESC_COMPLETE (R382). -/
def execHqDescComplete (r : Fin 64) (s : State) : Host.Outcome State Fault Refusal :=
  done (fun s => hqCompleteOp r.val s) s

/-- HQ_BUS_ERROR (R385). -/
def execHqBusError (r : Fin 64) (s : State) : Host.Outcome State Fault Refusal :=
  done (fun s => hqBusErrorOp r.val s) s

end Sys2Proof.Machine
end

