-- ==== Sys2Proof/Machine/Power.lean ====
section
/-! DEFINITION. The power steward (21): rails (R452), evaluation periods and shedding (R453, R457 to R462), power domains (R454),
thermal sensors (R455, R456), and the hardware failures that no other chapter raises (R433). -/

namespace Sys2Proof.Machine

def psB : List Nat := [4, 0]


/-- The steward's firmware runs: CU17 is ready (R462). -/
def State.psAgent (s : State) : Bool := nbit (s.get F.DV_SVC_READY_READY) 1

/-! ### Power domains (R454) -/

/-- A cue engine that may be gated: not one of the service engines. -/
def gatedCue (n : Nat) : Bool := decide (n < 16) || decide (20 ≤ n)

/-- A domain may be gated: engines 0 to 7, HBM 8, cue engines from 9, lanes from 33. HBM stays at full rate while a head runs (R20). -/
def State.domainIdle (s : State) (d : Nat) : Bool :=
  if d < 8 then
    s.hst (2 * d) == 0 && s.hst (2 * d + 1) == 0 && !s.checking (2 * d) && !s.checking (2 * d + 1)
  else if d = 8 then
    !s.anyRunning && !((List.range 64).any fun r => s.get (F.HQ_STAT_STATE r) == 1) &&
      !((List.range 64).any fun c => s.get (F.AD_STAT_STATE c) == 1) && !((List.range 4).any fun u => s.get (F.CK_STAT_STATE u) == 1)
  else if d < 33 then gatedCue (d - 9) && s.cst (d - 9) == 0
  else decide (d < 113) && !s.laneInUse (d - 33) && s.get (F.LT_STAT_STATE (d - 33)) != 1


/-- Idle domains are gated, and the others powered. -/
def State.gateIdle (s : State) : State :=
  s.setGated (if s.flag F.PS_CTRL_AUTO_GATE then (List.range 113).filter s.domainIdle else [])

/-- A gated domain that is asked for wakes. -/
def domainWakeOp (d : Nat) (s : State) : State :=
  if s.ps.gated.contains d ∧ (!s.domainIdle d ∨ !s.flag F.PS_CTRL_AUTO_GATE) then s.setGated (s.ps.gated.filter (· != d)) else s

/-! ### Limits (R457, R459) -/

/-- The device or the thermal limit is exceeded. -/
def State.hotOrDevice (s : State) : Bool :=
  decide (s.get F.PS_LIMITS_DEVICE < s.get F.PS_POWER_DEVICE) || (List.range 16).any s.warm

/-- The input limit is exceeded. -/
def State.overInput (s : State) : Bool :=
  s.flag F.PS_LIMITS_INPUT && decide (s.get F.PS_LIMITS_INPUT < s.get F.PS_POWER_INPUT)

/-- The release conditions hold (R459). -/
def State.psCalm (s : State) : Bool :=
  decide (10 * s.get F.PS_POWER_DEVICE ≤ 9 * s.get F.PS_LIMITS_DEVICE) &&
    (!s.flag F.PS_LIMITS_INPUT || decide (10 * s.get F.PS_POWER_INPUT ≤ 9 * s.get F.PS_LIMITS_INPUT)) &&
    (List.range 16).all fun i => decide (s.temp i ≤ 4 * ((s.warnAt i : Int) - s.get F.PS_THERM_HYST))

/-! ### The steps (R457, R458) -/

/-- Enabled ports that step 2 may disable. -/
def State.portSpare (s : State) (p : Nat) : Bool :=
  s.flag (F.NP_CTRL_EN p) && !((s.enabled .NR_CTRL).any fun f => nbit (s.get (F.NR_CTRL_PORTS f)) p) &&
    !((s.portQueues p).any fun q => decide (q < 16376)) && !(mget (fun _ => {}) s.tb.ports p).en && !nbit (s.get F.GL_CTRL_PORTS) p

/-- A running head that step 4 may stop. -/
def State.headSpare (s : State) (n : Nat) : Bool := s.running n && s.flag (F.HD_CTRL_RUN n) && !s.flag (F.HD_CTRL_ON_AIR n)

/-- SP_LOOP_MAX as it stands once the writes that wait for it have arrived (R58). -/
def State.loopMaxAhead (s : State) : Nat :=
  (mget slowD s.slowQ 11).foldl (fun v e => if e.2.1 = keyAddr (.SP_LOOP_MAX, []) ∧ e.2.2 ≤ 960 then e.2.2 else v) (s.get F.SP_LOOP_MAX_LIMIT)

/-- The value to which step 3 lowers SP_LOOP_MAX. -/
def State.stepThree (s : State) : Nat := max (s.get F.PS_SP_FLOOR_FLOOR) (s.get F.SP_LOOP_GRANT - 150)

/-- The last number below n, from the highest down, that satisfies p. -/
def highest (p : Nat → Bool) : Nat → Option Nat
  | 0 => none
  | n + 1 => if p n then some n else highest p n

/-- An applied step is shown and latched. -/
def State.stepDone (s : State) (i : Nat) : State := (s.set F.PS_SHED_STEP i).latch psB 1

/-- Step 1: the DMA cap, and ordinary scans pause (R261, R370). -/
def State.shedOne (s : State) : State :=
  let s := s.updPs fun p => { p with capped := true }
  ((List.range 4).foldl (fun s u => s.pauseUnit u) s).stepDone 1

/-- Step 2 on port p. -/
def State.shedPort (s : State) (p : Nat) : State :=
  let s := s.keyWrite (.powerSteward 2) (.NP_CTRL, [p]) (w32 0x10000)
  (s.set F.PS_SHED_PORTS (Nat.lor (s.get F.PS_SHED_PORTS) (2 ^ p))).stepDone 2

/-- Step 3: SP_LOOP_MAX is lowered; what a release restores is what another origin wrote last. -/
def State.shedLoop (s : State) : State :=
  let v := s.stepThree
  let keep := match s.ps.loopMax with
    | some (k, _) => k
    | none => s.loopMaxAhead
  let s := s.updPs fun p => { p with loopMax := some (keep, v) }
  ((s.keyWrite (.powerSteward 3) (.SP_LOOP_MAX, []) (w32 v)).set F.PS_SHED_SP 1).stepDone 3

/-- Step 4 on head n. -/
def State.shedHead (s : State) (n : Nat) : State :=
  let s := s.keyWrite (.powerSteward 4) (.HD_CTRL, [n]) (w32 0x10000)
  (s.set F.PS_SHED_HEADS (Nat.lor (s.get F.PS_SHED_HEADS) (2 ^ n))).stepDone 4

/-- The next step that can reduce an exceeded limit and has something to act on; the second value says whether there was one. -/
def State.shedStep (s : State) : State × Bool :=
  let dev := s.hotOrDevice
  let port := highest s.portSpare 4
  let head := highest s.headSpare 16
  if dev ∧ !s.ps.capped then (s.shedOne, true)
  else if dev ∧ port.isSome then (s.shedPort (port.getD 0), true)
  else if s.overInput ∧ s.stepThree < s.loopMaxAhead then (s.shedLoop, true)
  else if dev ∧ head.isSome then (s.shedHead (head.getD 0), true)
  else (s, false)

/-- Another origin has written SP_LOOP_MAX while step 3 is in force: the steward lowers it again, and restores that value later (R461). -/
def State.holdLoop (s : State) : State :=
  match s.ps.loopMax with
  | none => s
  | some (_, v) =>
    let now := s.loopMaxAhead
    if now = v then s else
    (s.updPs fun p => { p with loopMax := some (now, v) }).keyWrite (.powerSteward 3) (.SP_LOOP_MAX, []) (w32 v)

/-- A release undoes steps 3, 2 and 1 (R459). -/
def State.psRelease (s : State) : State :=
  let s := match s.ps.loopMax with
    | some (k, v) =>
      let k := if s.loopMaxAhead = v then k else s.loopMaxAhead
      s.keyWrite (.powerSteward 3) (.SP_LOOP_MAX, []) (w32 k)
    | none => s
  let s := ((List.range 4).filter fun p => nbit (s.get F.PS_SHED_PORTS) p).foldl (fun s p =>
    s.keyWrite (.powerSteward 2) (.NP_CTRL, [p]) (w32 0x10001)) s
  let s := s.updPs fun p => { p with limited := false, capped := false, loopMax := none, exhausted := false, calm := none }
  let s := (List.range 4).foldl (fun s u => s.resumeUnit u) s
  (((s.set F.PS_SHED_STEP 0).set F.PS_SHED_SP 0).set F.PS_SHED_PORTS 0).latch psB 2

/-- A period in which a limit is exceeded. -/
def State.psShed (s : State) : State :=
  let s := if s.ps.limited then s else (s.updPs fun p => { p with limited := true }).raise 0x1F1
  let r := s.shedStep
  if r.2 then r.1.updPs fun p => { p with exhausted := false, calm := none }
  else
    let s := if s.ps.exhausted then s else s.raise 0x1F2
    s.updPs fun p => { p with exhausted := true, calm := none }

/-- A period in which no limit is exceeded. -/
def State.psRest (s : State) : State :=
  let s := s.updPs fun p => { p with exhausted := false }
  if !s.ps.limited then s
  else if !s.psCalm then s.updPs fun p => { p with calm := none }
  else
    match s.ps.calm with
    | none => s.updPs fun p => { p with calm := some s.tick }
    | some t => if t + ticksS (s.get F.PS_HOLD_SEC) ≤ s.tick then s.psRelease else s

/-- Device power in units of 0.1 W: the sum over the rails of their mean power over the reads of the period (R453). -/
def State.devicePower (s : State) : Nat :=
  ((s.ps.watts.map fun (e : Nat × Nat × Nat) => ((e.2.1 : Nat) : Rat) / ((e.2.2 : Nat) : Rat)).foldl (· + ·) 0 / 100000).floor.toNat

/-- The end of an evaluation period: PS_POWER takes its means (R453), and CU17 checks the limits (R457, R462). -/
def evaluationOp (s : State) : State :=
  let n := (s.tb.sec * 1000000000 + s.tb.ns) / 100000000
  if s.dv.railsOff ∨ n = s.ps.period then s else
  let power := s.devicePower
  let s := s.updPs fun x => { x with period := n, watts := [] }
  let s := (s.set F.PS_POWER_DEVICE (min power 4095)).set F.PS_POWER_INPUT (min (power + s.get F.SP_LOOP_MEAN) 4095)
  if !s.psAgent then s else
  let s := s.holdLoop
  let s := if s.hotOrDevice || s.overInput then s.psShed else s.psRest
  s.gateIdle.settleMode

/-! ### Rails (R452) -/

/-- The rails that the board block describes: none where it is bad (R452, R479). -/
def State.railTable (s : State) : List RailEntry := s.dv.board.getD []

/-- A voltage in mV lies in the window of rail r (R452). -/
def State.inWindow (s : State) (r mV : Nat) : Bool :=
  (s.railTable[r]?).any fun e => decide (e.nominal * (100 - e.window) ≤ 100 * mV) && decide (100 * mV ≤ e.nominal * (100 + e.window))

/-- A read of a rail that it answers: the state after it. -/
def State.railRead (s : State) (r : Nat) (p : RailReading) : State :=
  let ok := s.inWindow r p.milliVolt
  let n := if ok then 0 else mget (fun _ => 0) s.ps.volts r + 1
  let w := mget (fun _ => (0, 0)) s.ps.watts r
  let w := (w.1 + p.milliVolt * p.milliAmp, w.2 + 1)
  let s := s.updPs fun x => { x with
    volts := nput (fun _ => 0) x.volts r n, silent := nput (fun _ => 0) x.silent r 0, watts := nput (fun _ => (0, 0)) x.watts r w }
  let s := s.wr (.PS_RAIL_VI, [r]) (w32 (min p.milliVolt 65535 + min (p.milliAmp / 10) 65535 * 65536))
  s.wr (.PS_RAIL_STAT, [r]) (w32 (b2n ok + 2 * b2n (p.status % 65536 != 0) + p.status % 65536 * 65536))

/-- A poll of a rail. -/
def railPollOp (r : Nat) (p : RailReading) (s : State) : State :=
  if s.dv.step = 0 ∨ s.dv.railsOff ∨ (s.railTable.length ≤ r) then s else
  let fault := s.flag (F.PS_RAIL_STAT_FAULT r)
  let silent := mget (fun _ => 0) s.ps.silent r + 1
  let bad := if p.ack then
      (!fault && p.status % 65536 != 0) ||
        mget (fun _ => 0) (s.railRead r p).ps.volts r == 2
    else silent == 3
  let s := if p.ack then s.railRead r p else
    let s := s.updPs fun x => { x with silent := nput (fun _ => 0) x.silent r silent }
    if 3 ≤ silent then (s.set (F.PS_RAIL_STAT_NO_ACK r) 1).set (F.PS_RAIL_STAT_GOOD r) 0 else s
  if bad then (s.latch psB 4).raise 0x1F0 else s

/-! ### Temperatures (R455, R456) -/

/-- The critical limit of a sensor in units of 0.25 °C. -/
def critAt (i : Nat) : Int := if i < 14 then 460 else 400

/-- One reading of a sensor. -/
def State.thermal (s : State) (i : Nat) (t : Int) : State :=
  let warm := s.warm i
  let crit := decide (critAt i ≤ s.temp i)
  let s := s.set (F.PS_TEMP_T i) (t % 4096).toNat
  let s := if s.warm i && !warm then (s.latch psB 8).raise 0x1F4 else s
  if decide (critAt i ≤ s.temp i) && !crit then s.raise 0x1F5 else s

/-- The sensors are read (R455). -/
def thermalOp (t : List Int) (s : State) : State :=
  if s.dv.step = 0 ∨ s.dv.railsOff then s else ((List.range 16).zip t).foldl (fun s e => s.thermal e.1 e.2) s

/-! ### Failures of the hardware (R433) -/

/-- An HBM stack fails. -/
def hbmFailOp (k : Nat) (s : State) : State := if s.dv.step < 3 then s else s.raise 0x1F7 k

/-- An uncorrectable error in the register fabric. -/
def fabricUncorrOp (s : State) : State := if s.dv.step < 3 then s else s.raise 0x001

end Sys2Proof.Machine
end

