-- ==== Sys2Proof/Machine/FaultCmd.lean ====
section
/-! DEFINITION. The commands of fault collection, the audit log, the Cellar and the power steward (19 to 21). -/

namespace Sys2Proof.Machine

/-- FAULT_CLEAR (R426). -/
def execFaultClear (o : Origin) (id : Fin 512) (s : State) : Host.Outcome State Fault Refusal :=
  done (fun s => s.keyWrite o (.FC_CLEAR, []) (w32 id.val)) s

/-- FAULT_CLEAR_ALL (R426). -/
def execFaultClearAll (o : Origin) (s : State) : Host.Outcome State Fault Refusal :=
  done (fun s => s.keyWrite o (.FC_CLEAR, []) (w32 0x200)) s

/-- FAULT_REARM (R425). -/
def execFaultRearm (o : Origin) (s : State) : Host.Outcome State Fault Refusal :=
  done (fun s => s.keyWrite o (.FC_CTRL, []) (w32 0x20002)) s

/-- WINDOW_CLOSE (R431). -/
def execWindowClose (react : Reaction) (unit : Nat) (s : State) : Host.Outcome State Fault Refusal :=
  done (fun s => windowCloseOp react unit s) s

/-- MIRROR_ENTRY (R441). -/
def execMirrorEntry (s : State) : Host.Outcome State Fault Refusal :=
  done (fun s => mirrorStep s) s

/-- CELLAR_RECORD_DONE (R445). -/
def execCellarRecordDone (ok : Bool) (s : State) : Host.Outcome State Fault Refusal :=
  done (fun s => recordDone ok s) s

/-- LG_ERASE (R450). -/
def execLgErase (o : Origin) (v : Word) (s : State) : Host.Outcome State Fault Refusal :=
  done (fun s => s.keyWrite o (.CL_LG_ERASE, []) v) s

/-- SUPPLY_LOSS_WARNING (R447). -/
def execSupplyLossWarning (s : State) : Host.Outcome State Fault Refusal :=
  done (fun s => (supplyLossOp s).settleMode) s

/-- HOLDUP_SEAL (R447). -/
def execHoldupSeal (s : State) : Host.Outcome State Fault Refusal :=
  done (fun s => holdupSealOp s) s

/-- EVALUATION_PERIOD (R457). -/
def execEvaluationPeriod (s : State) : Host.Outcome State Fault Refusal :=
  done (fun s => evaluationOp s) s

/-- RAIL_POLL (R452). -/
def execRailPoll (r : Fin 16) (p : RailReading) (s : State) : Host.Outcome State Fault Refusal :=
  done (fun s => railPollOp r.val p s) s

/-- THERMAL_SAMPLE (R455). -/
def execThermalSample (t : List Int) (s : State) : Host.Outcome State Fault Refusal :=
  done (fun s => thermalOp t s) s

/-- DOMAIN_WAKE (R454). -/
def execDomainWake (d : Nat) (s : State) : Host.Outcome State Fault Refusal :=
  done (fun s => domainWakeOp d s) s

/-- HBM_FAIL (R433). -/
def execHbmFail (k : Fin 2) (s : State) : Host.Outcome State Fault Refusal :=
  done (fun s => hbmFailOp k.val s) s

/-- FABRIC_UNCORR (R433). -/
def execFabricUncorr (s : State) : Host.Outcome State Fault Refusal :=
  done (fun s => fabricUncorrOp s) s

/-- SUPPLY_WARN_RELEASE (R479). -/
def execSupplyWarnRelease (s : State) : Host.Outcome State Fault Refusal :=
  done (fun s => supplyReleaseOp s) s

end Sys2Proof.Machine
end

