-- ==== Sys2Proof/Machine/HeadCmd.lean ====
section
/-! DEFINITION. The commands of the output heads, commits, protected layers and check units (06, 07, 10). -/

namespace Sys2Proof.Machine

/-- ABORT of a scan that has been fed `fed` bytes (R260). -/
def ckAbortCmd (o : Origin) (u fed : Nat) (s : State) : State :=
  let t := s.keyWrite o (.CK_CMD, [u]) (w32 2)
  if s.get (F.CK_STAT_STATE u) = 1 ∧ t.get (F.CK_STAT_STATE u) = 3 ∧ !s.flag (F.CK_STAT_PAUSED u) then
    let t := ((t.setCk u (s.ck u)).set (F.CK_RUN_VALUE u) (s.get (F.CK_RUN_VALUE u))).ckFeed u fed
    t.set (F.CK_PROG_BYTES u) (t.ck u).fed
  else t

/-- A read of CKu_RUN when `fed` bytes have been fed (R259). -/
def ckRunReadOp (o : Origin) (u fed : Nat) (s : State) : State :=
  let r := s.busReadAt o (keyAddr (.CK_RUN, [u])) fed
  r.1.emit (.readData (orgOf o) (keyAddr (.CK_RUN, [u])) r.2.1)

/-- HEAD_START (R149). -/
def execHeadStart (o : Origin) (n : Fin 16) (v : Word) (s : State) : Host.Outcome State Fault Refusal :=
  done (fun s => s.keyWrite o (.HD_CTRL, [n.val]) (setBits (setBits v 16 16 1) 0 0 1)) s

/-- HEAD_STOP (R151). -/
def execHeadStop (o : Origin) (n : Fin 16) (s : State) : Host.Outcome State Fault Refusal :=
  done (fun s => s.keyWrite o (.HD_CTRL, [n.val]) (w32 0x10000)) s

/-- HEAD_FIRST_LINE (R150). -/
def execHeadFirstLine (n : Fin 16) (s : State) : Host.Outcome State Fault Refusal :=
  done (fun s => headFirstOp n.val s) s

/-- HEAD_STOPPED (R151). -/
def execHeadStopped (n : Fin 16) (s : State) : Host.Outcome State Fault Refusal :=
  done (fun s => headStoppedOp n.val s) s

/-- HEAD_LINE_START (R148). -/
def execHeadLineStart (n : Fin 16) (w : LineFaults) (s : State) : Host.Outcome State Fault Refusal :=
  done (fun s => headLineOp n.val w s) s

/-- HOST_READ_COMPLETION (R175). -/
def execHostReadCompletion (k : Fin 8) (m : Fin 32) (line : Nat) (ok : Bool) (data : List Byte) (s : State) : Host.Outcome State Fault Refusal :=
  done (fun s => hostCompletionOp k.val m.val line ok data s) s

/-- COMMIT_DEADLINE (R158). -/
def execCommitDeadline (n : Fin 16) (s : State) : Host.Outcome State Fault Refusal :=
  done (fun s => deadlineStep n.val s) s

/-- FRAME_BOUNDARY (R156). -/
def execFrameBoundary (n : Fin 16) (s : State) : Host.Outcome State Fault Refusal :=
  done (fun s => (boundaryStep n.val s).glWatch) s

/-- SAMPLE_EVENT (R166). -/
def execSampleEvent (n : Fin 16) (i : Fin 4) (s : State) : Host.Outcome State Fault Refusal :=
  done (fun s => sampleOp n.val i.val s) s

/-- RATE_FIFO_EXCURSION (R165). -/
def execRateFifoExcursion (n : Fin 16) (d : Fin 3) (s : State) : Host.Outcome State Fault Refusal :=
  done (fun s => fifoOp n.val d.val s) s

/-- DP_LINK_FAIL (R162). -/
def execDpLinkFail (n : Fin 16) (hotPlug : Bool) (s : State) : Host.Outcome State Fault Refusal :=
  done (fun s => dpFailOp n.val hotPlug s) s

/-- DP_RETRAIN (R162). -/
def execDpRetrain (n : Fin 16) (ok : Bool) (s : State) : Host.Outcome State Fault Refusal :=
  done (fun s => dpRetrainOp n.val ok s) s

/-- SDI_SERIALIZER_FAIL (R168). -/
def execSdiSerializerFail (n : Fin 16) (s : State) : Host.Outcome State Fault Refusal :=
  done (fun s => sdiFailOp n.val s) s

/-- CE_COMMIT (R188). -/
def execCeCommit (o : Origin) (k : Fin 8) (v : Word) (s : State) : Host.Outcome State Fault Refusal :=
  done (fun s => s.keyWrite o (.CE_COMMIT, [k.val]) (setBits v 2 1 0)) s

/-- CE_GROUP_COMMIT (R190). -/
def execCeGroupCommit (o : Origin) (k : Fin 8) (v : Word) (s : State) : Host.Outcome State Fault Refusal :=
  done (fun s => s.keyWrite o (.CE_COMMIT, [k.val]) (setBits v 1 1 1)) s

/-- CE_PREP_COMMIT (R191). -/
def execCePrepCommit (o : Origin) (k : Fin 8) (v : Word) (s : State) : Host.Outcome State Fault Refusal :=
  done (fun s => s.keyWrite o (.CE_COMMIT, [k.val]) (setBits v 2 2 1)) s

/-- COMMIT_CHECK_DONE (R186). -/
def execCommitCheckDone (k : Fin 8) (s : State) : Host.Outcome State Fault Refusal :=
  done (fun s => checkDone k.val s) s

/-- CE_RELEASE (R191). -/
def execCeRelease (o : Origin) (k : Fin 8) (v : Word) (s : State) : Host.Outcome State Fault Refusal :=
  done (fun s => s.keyWrite o (.CE_RELEASE, [k.val]) (setBits v 1 1 0)) s

/-- CE_DISCARD (R191). -/
def execCeDiscard (o : Origin) (k : Fin 8) (v : Word) (s : State) : Host.Outcome State Fault Refusal :=
  done (fun s => s.keyWrite o (.CE_RELEASE, [k.val]) (setBits v 1 1 1)) s

/-- LAST_GOOD_HANDOVER (R194). -/
def execLastGoodHandover (k : Fin 8) (s : State) : Host.Outcome State Fault Refusal :=
  done (fun s => handoverOp k.val s) s

/-- PL_OWNER_WRITE (R244). -/
def execPlOwnerWrite (o : Origin) (k : Fin 8) (h : Fin 2) (v : Word) (s : State) : Host.Outcome State Fault Refusal :=
  done (fun s => s.keyWrite o (.CE_PL_OWNER, [k.val, h.val]) v) s

/-- PL_COMMIT (R250). -/
def execPlCommit (o : Origin) (k : Fin 8) (h : Fin 2) (v : Word) (s : State) : Host.Outcome State Fault Refusal :=
  done (fun s => s.keyWrite o (.CE_PL_COMMIT, [k.val, h.val]) v) s

/-- PL_CHECK_DONE (R252). -/
def execPlCheckDone (k : Fin 8) (h : Fin 2) (s : State) : Host.Outcome State Fault Refusal :=
  done (fun s => plCheckDone (2 * k.val + h.val) s) s

/-- PL_SCAN_DONE (R253). -/
def execPlScanDone (k : Fin 8) (h : Fin 2) (s : State) : Host.Outcome State Fault Refusal :=
  done (fun s => plScanDone (2 * k.val + h.val) s) s

/-- CK_START (R259). -/
def execCkStart (o : Origin) (u : Fin 4) (s : State) : Host.Outcome State Fault Refusal :=
  done (fun s => s.keyWrite o (.CK_CMD, [u.val]) (w32 1)) s

/-- CK_ABORT (R260). -/
def execCkAbort (o : Origin) (u : Fin 4) (fed : Nat) (s : State) : Host.Outcome State Fault Refusal :=
  done (fun s => ckAbortCmd o u.val fed s) s

/-- CK_SCAN_DONE (R260). -/
def execCkScanDone (u : Fin 4) (s : State) : Host.Outcome State Fault Refusal :=
  done (fun s => ckDone u.val s) s

/-- CK_RUN_READ (R259). -/
def execCkRunRead (o : Origin) (u : Fin 4) (fed : Nat) (s : State) : Host.Outcome State Fault Refusal :=
  done (fun s => ckRunReadOp o u.val fed s) s

/-- ZONE_SAVE (R325). -/
def execZoneSave (o : Origin) (s : State) : Host.Outcome State Fault Refusal :=
  done (fun s => s.keyWrite o (.DT_CTRL, []) (w32 0x10001)) s

/-- GLY_DATA_WRITE (R323). -/
def execGlyDataWrite (o : Origin) (v : Word) (s : State) : Host.Outcome State Fault Refusal :=
  done (fun s => s.keyWrite o (.DT_GLY_DATA, []) v) s

/-- SDI_GROUP_RELOCK (R429). -/
def execSdiGroupRelock (n : Fin 16) (s : State) : Host.Outcome State Fault Refusal :=
  done (fun s => sdiRelockOp n.val s) s

end Sys2Proof.Machine
end

