-- ==== Sys2Proof/Machine/LockCmd.lean ====
section
/-! DEFINITION. The commands of the lock domain (18). -/

namespace Sys2Proof.Machine

/-- GL_ENABLE (R409). -/
def execGlEnable (o : Origin) (s : State) : Host.Outcome State Fault Refusal :=
  done (fun s => s.keyWrite o (.GL_CTRL, []) (w32 0x10001)) s

/-- GL_DISABLE (R409). -/
def execGlDisable (o : Origin) (s : State) : Host.Outcome State Fault Refusal :=
  done (fun s => s.keyWrite o (.GL_CTRL, []) (w32 0x10000)) s

/-- ROSTER (R409). -/
def execGlRosterRx (m : GlRoster) (s : State) : Host.Outcome State Fault Refusal :=
  done (fun s => rosterOp m s) s

/-- ROSTER_SEND (R410). -/
def execGlRosterSend (s : State) : Host.Outcome State Fault Refusal :=
  done (fun s => rosterSendOp s) s

/-- JOIN (R411). -/
def execGlJoin (m : GlJoin) (s : State) : Host.Outcome State Fault Refusal :=
  done (fun s => joinOp m s) s

/-- ADMIT (R409). -/
def execGlAdmit (m : GlAdmit) (s : State) : Host.Outcome State Fault Refusal :=
  done (fun s => admitOp m s) s

/-- HEARTBEAT (R411). -/
def execGlHeartbeat (m : GlHeartbeat) (s : State) : Host.Outcome State Fault Refusal :=
  done (fun s => heartbeatOp m s) s

/-- HEARTBEAT_SEND (R411). -/
def execGlHeartbeatSend (s : State) : Host.Outcome State Fault Refusal :=
  done (fun s => heartbeatSendOp s) s

/-- CLAIM (R410). -/
def execGlClaim (m : GlClaim) (s : State) : Host.Outcome State Fault Refusal :=
  done (fun s => claimOp m s) s

/-- CLAIM_SEND (R410). -/
def execGlClaimSend (s : State) : Host.Outcome State Fault Refusal :=
  done (fun s => claimSendOp s) s

/-- CLAIM_ELECTION (R410). -/
def execGlClaimElection (s : State) : Host.Outcome State Fault Refusal :=
  done (fun s => claimElectionOp s) s

/-- REQUEST (R412). -/
def execGlRequest (m : GlRequest) (s : State) : Host.Outcome State Fault Refusal :=
  done (fun s => requestOp m s) s

/-- PREPARE (R413). -/
def execGlPrepare (m : GlPrepare) (s : State) : Host.Outcome State Fault Refusal :=
  done (fun s => prepareOp m s) s

/-- ACK_SEND (R413). -/
def execGlAckSend (s : State) : Host.Outcome State Fault Refusal :=
  done (fun s => ackSendOp s) s

/-- ACK (R414). -/
def execGlAck (m : GlAck) (s : State) : Host.Outcome State Fault Refusal :=
  done (fun s => ackOp m s) s

/-- NAK (R414). -/
def execGlNak (m : GlNak) (s : State) : Host.Outcome State Fault Refusal :=
  done (fun s => nakOp m s) s

/-- COMMIT_RESEND (R414). -/
def execGlCommitResend (s : State) : Host.Outcome State Fault Refusal :=
  done (fun s => commitResendOp s) s

/-- ACK_DEADLINE (R414). -/
def execGlAckDeadline (s : State) : Host.Outcome State Fault Refusal :=
  done (fun s => ackDeadlineOp s) s

/-- COMMIT_MESSAGE (R415). -/
def execGlCommitMessage (m : GlCommit) (s : State) : Host.Outcome State Fault Refusal :=
  done (fun s => commitMessageOp m s) s

/-- ABORT (R415). -/
def execGlAbort (m : GlAbort) (s : State) : Host.Outcome State Fault Refusal :=
  done (fun s => abortOp m s) s

/-- MEMBER_COMMIT_TIMEOUT (R415). -/
def execGlMemberCommitTimeout (s : State) : Host.Outcome State Fault Refusal :=
  done (fun s => memberCommitTimeoutOp s) s

/-- REPORT (R415). -/
def execGlReport (m : GlReport) (s : State) : Host.Outcome State Fault Refusal :=
  done (fun s => reportOp m s) s

/-- WRITE (R416). -/
def execGlWrite (m : GlWrite) (s : State) : Host.Outcome State Fault Refusal :=
  done (fun s => writeOp m s) s

/-- MEMBER_TIMEOUT (R411). -/
def execGlMemberTimeout (i : Fin 4096) (s : State) : Host.Outcome State Fault Refusal :=
  done (fun s => memberTimeoutOp i.val s) s

/-- ROSTER_TIMEOUT (R409). -/
def execGlRosterTimeout (s : State) : Host.Outcome State Fault Refusal :=
  done (fun s => rosterTimeoutOp s) s

/-- SEEK_TIMEOUT (R409). -/
def execGlSeekTimeout (s : State) : Host.Outcome State Fault Refusal :=
  done (fun s => seekTimeoutOp s) s

end Sys2Proof.Machine
end

