-- ==== Sys2Proof/Machine/NetCmd.lean ====
section
/-! DEFINITION. The commands of the network ports, flows, SDI inputs and transmit queues (14, 15). -/

namespace Sys2Proof.Machine

/-- A line of an SDI input; a CRC error is also counted for its lane (R344, R473). -/
def sdiInLineOp (i : Nat) (l : SdiLine) (s : State) : State :=
  let t := sdiLineOp i l s
  if l.crcOk ∨ !s.flag (F.NG_SDI_CTRL_EN i) ∨ !s.flag (F.NG_SDI_STAT_LOCK i) then t else t.count (F.LT_SVC_ERR_COUNT (40 + i)) 1

/-- RX_FRAME (R331). -/
def execRxFrame (p : Fin 4) (data : List Byte) (fcsOk : Bool) (stamp : Stamp) (s : State) : Host.Outcome State Fault Refusal :=
  done (fun s => rxFrameOp p.val data fcsOk stamp s) s

/-- MODULE_REMOVED (R330). -/
def execModuleRemoved (p : Fin 4) (s : State) : Host.Outcome State Fault Refusal :=
  done (fun s => (moduleOutOp p.val s).settleMode) s

/-- MODULE_INSERTED (R330). -/
def execModuleInserted (p : Fin 4) (s : State) : Host.Outcome State Fault Refusal :=
  done (fun s => moduleInOp p.val s) s

/-- LINK_UP (R329). -/
def execLinkUp (p : Fin 4) (s : State) : Host.Outcome State Fault Refusal :=
  done (fun s => linkUpOp p.val s) s

/-- LINK_DOWN (R346). -/
def execLinkDown (p : Fin 4) (s : State) : Host.Outcome State Fault Refusal :=
  done (fun s => (linkDownOp p.val s).settleMode) s

/-- I2C_START (R330). -/
def execI2cStart (o : Origin) (p : Fin 4) (v : Word) (s : State) : Host.Outcome State Fault Refusal :=
  done (fun s => s.keyWrite o (.NP_I2C_CMD, [p.val]) v) s

/-- I2C_DONE (R330). -/
def execI2cDone (p : Fin 4) (ack : Bool) (data : Word) (s : State) : Host.Outcome State Fault Refusal :=
  done (fun s => i2cDoneOp p.val ack data s) s

/-- FLOW_ENABLE (R337). -/
def execFlowEnable (o : Origin) (f : Fin 16384) (v : Word) (s : State) : Host.Outcome State Fault Refusal :=
  done (fun s => s.keyWrite o (.NR_CTRL, [f.val]) (setBits v 0 0 1)) s

/-- FLOW_DISABLE (R338). -/
def execFlowDisable (o : Origin) (f : Fin 16384) (v : Word) (s : State) : Host.Outcome State Fault Refusal :=
  done (fun s => s.keyWrite o (.NR_CTRL, [f.val]) (setBits v 0 0 0)) s

/-- PATH_TIMEOUT (R340). -/
def execPathTimeout (f : Fin 16384) (s : State) : Host.Outcome State Fault Refusal :=
  done (fun s => pathTimeoutOp f.val s) s

/-- SDI_IN_LINE (R344). -/
def execSdiInLine (i : Fin 16) (l : SdiLine) (s : State) : Host.Outcome State Fault Refusal :=
  done (fun s => sdiInLineOp i.val l s) s

/-- SDI_IN_LOCK_LOSS (R344). -/
def execSdiInLockLoss (i : Fin 16) (link : Fin 4) (s : State) : Host.Outcome State Fault Refusal :=
  done (fun s => sdiLossOp i.val link.val s) s

/-- QUEUE_ENABLE (R348). -/
def execQueueEnable (o : Origin) (q : Fin 16384) (v : Word) (s : State) : Host.Outcome State Fault Refusal :=
  done (fun s => s.keyWrite o (.NQ_CTRL, [q.val]) (setBits v 0 0 1)) s

/-- QUEUE_DISABLE (R349). -/
def execQueueDisable (o : Origin) (q : Fin 16384) (v : Word) (s : State) : Host.Outcome State Fault Refusal :=
  done (fun s => s.keyWrite o (.NQ_CTRL, [q.val]) (setBits v 0 0 0)) s

/-- TX_FRAME_ENQUEUE (R351). -/
def execTxFrameEnqueue (q : Fin 16384) (fr : TxFrame) (s : State) : Host.Outcome State Fault Refusal :=
  done (fun s => s.enqueue q.val fr.data fr.tag (fr.launch.map unitsOf) none) s

/-- TX_FRAME_START (R351). -/
def execTxFrameStart (p : Fin 4) (s : State) : Host.Outcome State Fault Refusal :=
  done (fun s => txStart p.val s) s

/-- TX_FRAME_DONE (R356). -/
def execTxFrameDone (p : Fin 4) (s : State) : Host.Outcome State Fault Refusal :=
  done (fun s => txDone p.val s) s

/-- LAUNCH_PRESENT (R352). -/
def execLaunchPresent (q : Fin 16384) (s : State) : Host.Outcome State Fault Refusal :=
  done (fun s => launchPresentOp q.val s) s

/-- LATE_DROP (R357). -/
def execLateDrop (q : Fin 16384) (s : State) : Host.Outcome State Fault Refusal :=
  done (fun s => lateDropOp q.val s) s

/-- GCL_ENABLE (R362). -/
def execGclEnable (o : Origin) (p : Fin 4) (v : Word) (s : State) : Host.Outcome State Fault Refusal :=
  done (fun s => s.keyWrite o (.NG_GCL_CTRL, [p.val]) (setBits (setBits v 16 16 1) 0 0 1)) s

/-- GCL_DISABLE (R362). -/
def execGclDisable (o : Origin) (p : Fin 4) (v : Word) (s : State) : Host.Outcome State Fault Refusal :=
  done (fun s => s.keyWrite o (.NG_GCL_CTRL, [p.val]) (setBits (setBits v 16 16 1) 0 0 0)) s

/-- GCL_CHANGE (R363). -/
def execGclChange (o : Origin) (p : Fin 4) (v : Word) (s : State) : Host.Outcome State Fault Refusal :=
  done (fun s => s.keyWrite o (.NG_GCL_CTRL, [p.val]) (setBits (setBits v 17 17 1) 1 1 1)) s

/-- GCL_SWAP (R363). -/
def execGclSwap (p : Fin 4) (s : State) : Host.Outcome State Fault Refusal :=
  done (fun s => gclSwapOp p.val s) s

/-- GATE_ENTRY (R362). -/
def execGateEntry (p : Fin 4) (s : State) : Host.Outcome State Fault Refusal :=
  done (fun s => gateEntryOp p.val s) s

/-- OBS_PERIOD (R366). -/
def execObsPeriod (p : Fin 4) (s : State) : Host.Outcome State Fault Refusal :=
  done (fun s => obsStep p.val s) s

/-- SDI_IN_LOCK_ACQUIRED (R344). -/
def execSdiInLockAcquired (i : Fin 16) (s : State) : Host.Outcome State Fault Refusal :=
  done (fun s => sdiLockOp i.val s) s

/-- MODULE_INT_CHANGE (R330). -/
def execModuleIntChange (p : Fin 4) (low : Bool) (s : State) : Host.Outcome State Fault Refusal :=
  done (fun s => moduleIntOp p.val low s) s

end Sys2Proof.Machine
end

