-- ==== Sys2Proof/Machine/SpemenCmd.lean ====
section
/-! DEFINITION. The commands of the Spemen ports (17). -/

namespace Sys2Proof.Machine

/-- SP_POWER_ON (R390). -/
def execSpPowerOn (o : Origin) (n : Fin 8) (s : State) : Host.Outcome State Fault Refusal :=
  done (fun s => s.keyWrite o (.SPP_CTRL, [n.val]) (w32 0x10001)) s

/-- SP_POWER_OFF (R395). -/
def execSpPowerOff (o : Origin) (n : Fin 8) (s : State) : Host.Outcome State Fault Refusal :=
  done (fun s => s.keyWrite o (.SPP_CTRL, [n.val]) (w32 0x10000)) s

/-- SP_DATA_ENABLE (R399). -/
def execSpDataEnable (o : Origin) (n : Fin 8) (s : State) : Host.Outcome State Fault Refusal :=
  done (fun s => s.keyWrite o (.SPP_CTRL, [n.val]) (w32 0x20002)) s

/-- SP_MEASURE_DONE (R391). -/
def execSpMeasureDone (n : Fin 8) (r : SpRamp) (s : State) : Host.Outcome State Fault Refusal :=
  done (fun s => spMeasureOp n.val r s) s

/-- SP_ENERGISE_DONE (R392). -/
def execSpEnergiseDone (n : Fin 8) (s : State) : Host.Outcome State Fault Refusal :=
  done (fun s => spEnergiseOp n.val s) s

/-- SP_TRIP_FAST (R393). -/
def execSpTripFast (n : Fin 8) (mA : Nat) (s : State) : Host.Outcome State Fault Refusal :=
  done (fun s => spFastOp n.val mA s) s

/-- SP_I2T_SAMPLE (R393). -/
def execSpI2tSample (n : Fin 8) (mA cV : Nat) (s : State) : Host.Outcome State Fault Refusal :=
  done (fun s => spI2tOp n.val mA cV s) s

/-- SP_SECOND_CHECK (R394). -/
def execSpSecondCheck (m : SpSecond) (s : State) : Host.Outcome State Fault Refusal :=
  done (fun s => spSecondOp m s) s

/-- SP_SUPPLY_LOW (R393). -/
def execSpSupplyLow (cV : Nat) (s : State) : Host.Outcome State Fault Refusal :=
  done (fun s => spSupplyOp cV s) s

/-- SP_RETRY (R395). -/
def execSpRetry (n : Fin 8) (s : State) : Host.Outcome State Fault Refusal :=
  done (fun s => spRetryOp n.val s) s

/-- SP_TRIPS_RESET (R395). -/
def execSpTripsReset (n : Fin 8) (s : State) : Host.Outcome State Fault Refusal :=
  done (fun s => spTripsOp n.val s) s

/-- SP_GATE_FAULT (R396). -/
def execSpGateFault (n : Fin 8) (live : Bool) (s : State) : Host.Outcome State Fault Refusal :=
  done (fun s => spGateOp n.val live s) s

/-- LOOP_MAX_WRITE (R394). -/
def execLoopMaxWrite (o : Origin) (v : Word) (s : State) : Host.Outcome State Fault Refusal :=
  done (fun s => s.keyWrite o (.SP_LOOP_MAX, []) v) s

/-- SP_SAVE (R405). -/
def execSpSave (o : Origin) (s : State) : Host.Outcome State Fault Refusal :=
  done (fun s => s.keyWrite o (.SP_CTRL, []) (w32 0x10001)) s

/-- HELLO (R399). -/
def execSpHello (n : Fin 8) (s : State) : Host.Outcome State Fault Refusal :=
  done (fun s => spHelloOp n.val s) s

/-- CAPS (R399). -/
def execSpCaps (n : Fin 8) (c : SpCaps) (s : State) : Host.Outcome State Fault Refusal :=
  done (fun s => spCapsOp n.val c s) s

/-- STATUS (R403). -/
def execSpStatus (n : Fin 8) (st : SpStatusFrame) (s : State) : Host.Outcome State Fault Refusal :=
  done (fun s => spStatusOp n.val st s) s

/-- SYNC (R400). -/
def execSpSync (n : Fin 8) (s : State) : Host.Outcome State Fault Refusal :=
  done (fun s => spSyncOp n.val s) s

/-- SP_LATCH (R400). -/
def execSpLatch (n : Fin 8) (s : State) : Host.Outcome State Fault Refusal :=
  done (fun s => spLatchOp n.val s) s

/-- TIME (R398). -/
def execSpTime (n : Fin 8) (s : State) : Host.Outcome State Fault Refusal :=
  done (fun s => spTimeOp n.val s) s

/-- SEG (R401). -/
def execSpSeg (n : Fin 8) (s : State) : Host.Outcome State Fault Refusal :=
  done (fun s => spSegOp n.val s) s

/-- BITMAP (R401). -/
def execSpBitmap (n : Fin 8) (s : State) : Host.Outcome State Fault Refusal :=
  done (fun s => spBitmapOp n.val s) s

end Sys2Proof.Machine
end

