-- ==== Sys2Proof/Machine/TestCmd.lean ====
section
/-! DEFINITION. The commands of the link test block and the scan port (22, 23). -/

namespace Sys2Proof.Machine

/-- LT_START (R468). -/
def execLtStart (o : Origin) (l : Fin 80) (s : State) : Host.Outcome State Fault Refusal :=
  done (fun s => s.keyWrite o (.LT_CMD, [l.val]) (w32 1)) s

/-- LT_STOP (R471). -/
def execLtStop (o : Origin) (l : Fin 80) (s : State) : Host.Outcome State Fault Refusal :=
  done (fun s => s.keyWrite o (.LT_CMD, [l.val]) (w32 2)) s

/-- EYE_GO (R472). -/
def execEyeGo (o : Origin) (l : Fin 80) (s : State) : Host.Outcome State Fault Refusal :=
  done (fun s => s.keyWrite o (.LT_CMD, [l.val]) (w32 4)) s

/-- LT_GROUP_START (R469). -/
def execLtGroupStart (o : Origin) (v : Word) (s : State) : Host.Outcome State Fault Refusal :=
  done (fun s => s.keyWrite o (.LT_GROUP_CMD, []) (setBits v 14 14 1)) s

/-- LT_GROUP_STOP (R471). -/
def execLtGroupStop (o : Origin) (v : Word) (s : State) : Host.Outcome State Fault Refusal :=
  done (fun s => s.keyWrite o (.LT_GROUP_CMD, []) (setBits v 15 15 1)) s

/-- LT_DONE (R471). -/
def execLtDone (l : Fin 80) (errs : Nat) (s : State) : Host.Outcome State Fault Refusal :=
  done (fun s => (ltDoneOp l.val errs s).settleMode) s

/-- EYE_SCAN_DONE (R472). -/
def execEyeScanDone (l : Fin 80) (err : Nat) (s : State) : Host.Outcome State Fault Refusal :=
  done (fun s => eyeDoneOp l.val err s) s

/-- BITS_LATCH_READ (R467). -/
def execBitsLatchRead (o : Origin) (l : Fin 80) (s : State) : Host.Outcome State Fault Refusal :=
  done (fun s => s.readOut o (keyAddr (.LT_BITS_LO, [l.val]))) s

/-- JTAG_UPDATE (R475). -/
def execJtagUpdate (ir : JtagInstr) (s : State) : Host.Outcome State Fault Refusal :=
  done (fun s => jtagOp ir s) s

/-- CHECKER_SYNC_ACQUIRED (R467). -/
def execCheckerSyncAcquired (l : Fin 80) (s : State) : Host.Outcome State Fault Refusal :=
  done (fun s => syncGainOp l.val s) s

/-- CHECKER_SYNC_LOST (R467). -/
def execCheckerSyncLost (l : Fin 80) (s : State) : Host.Outcome State Fault Refusal :=
  done (fun s => syncLossOp l.val s) s

end Sys2Proof.Machine
end

