-- ==== Sys2Proof/Machine/RefOutput.lean ====
section
/-! DEFINITION. The signals of the reference outputs (R130, R135 to R142): each is computed from the count at the start of its own
period. -/

namespace Sys2Proof.Machine

/-! ### Periods (R135, R136) -/

/-- The frame rate of an output's period, N / D: frames for analogue and LTC outputs, 192-sample blocks for DARS, seconds for PPS. -/
def State.outRate (s : State) (o : RefOut) : Nat × Nat :=
  match o with
  | .video k => match stdPeriod (s.get (F.RF_OUT_CTRL_STD k)) with
    | some p => p.2
    | none => (1, 1)
  | .ltc k => (ltcRate (s.get (F.RF_LTCOUT_CTRL_RATE k))).2
  | .dars _ => (250, 1)
  | .pps => (1, 1)

/-- The offset of an output in effect. -/
def State.outOfs (s : State) (o : RefOut) : Word :=
  match o with
  | .video k => s.rdE (.RF_OUT_OFS, [k])
  | .ltc k => s.rdE (.RF_LTCOUT_OFS, [k])
  | .dars k => s.rdE (.RF_DARS_OFS, [k])
  | .pps => s.rdE (.RF_PPS_OFS, [])

/-- An output runs (R137). -/
def State.outOn (s : State) (o : RefOut) : Bool :=
  s.rfOn && match o with
    | .video k => s.flag (F.RF_OUT_CTRL_EN k) && (stdPeriod (s.get (F.RF_OUT_CTRL_STD k))).isSome
    | .ltc k => s.flag (F.RF_LTCOUT_CTRL_EN k)
    | .dars k => s.flag (F.RF_DARS_CTRL_EN k)
    | .pps => s.flag F.RF_PPS_CTRL_OUT_EN || s.flag F.RF_PPS_CTRL_TEN_OUT || s.flag F.RF_PPS_CTRL_TOD_OUT

/-- The number of the period in which an output is, since the epoch. -/
def State.outPeriod (s : State) (o : RefOut) : Nat :=
  let r := s.outRate o
  (s.lessOfs (s.outOfs o)).toNat * r.1 / (r.2 * secUnits)

/-- The count at which period i starts, without the offset, in units of 2^-32 ns. -/
def periodUnits (r : Nat × Nat) (i : Nat) : Nat := ceilDiv (i * r.2 * secUnits) r.1

/-- The instant at which an output starts period i. -/
def State.outInstant (s : State) (o : RefOut) (i : Nat) : Stamp :=
  ofUnits ((periodUnits (s.outRate o) i : Int) + signed 32 (s.outOfs o).toNat * 2 ^ 30).toNat

/-! ### LTC (R138, R139) -/

/-- The reading of a TAI second in the scale of LTC output k: while UTC is not valid, every scale emits TAI. -/
def State.ltcReading (s : State) (k t : Nat) : Reading :=
  if s.flag F.TB_UTC_VALID then s.reading (s.getE (F.RF_LTCOUT_CTRL_SCALE k)) (s.zone (s.getE (F.RF_LTCOUT_CTRL_ZONE k))) t else ⟨t, false⟩

/-- The TAI second near t that reads x in the scale of output k. -/
def State.ltcSecond (s : State) (k x t : Nat) : Nat :=
  let there (c : Nat) : Nat := x + c - (s.ltcReading k c).secs
  there (there t)

/-- The number, within the day, of the label of frame f of output k: of a whole rate the clock time of its start; of a 1/1.001 rate
counted from the last jam. -/
def State.ltcNumber (s : State) (k f : Nat) : Nat × Bool :=
  let rate := s.get (F.RF_LTCOUT_CTRL_RATE k)
  let r := ltcRate rate
  let u := periodUnits r.2 f
  let t := u / secUnits
  let c := s.ltcReading k t
  if rate < 3 then (c.secs % 86400 * r.1 + (u % secUnits) * r.1 / secUnits, c.leap)
  else
    let jam := s.get F.RF_JAM_SEC
    let at_ := s.ltcSecond k ((c.secs + 86400 - jam) / 86400 * 86400 + jam - 86400) t
    let f0 := ceilDiv (at_ * r.2.1) r.2.2
    ((s.jamLabel rate + (f - f0)) % labelsPerDay rate, false)

/-- Hours, minutes, seconds and frames of a label by its number: drop-frame leaves out frames 0 and 1 of each minute but the tenth. -/
def labelOf (rate n : Nat) : Nat × Nat × Nat × Nat :=
  let fps := (ltcRate rate).1
  let n := if rate = 3 then
      let t := n % 17982
      n + 18 * (n / 17982) + (if t < 1800 then 0 else 2 * ((t - 1800) / 1798 + 1))
    else n
  (n / (fps * 3600), n / (fps * 60) % 60, n / fps % 60, n % fps)

/-- User bits of ST 309: the date as six BCD digits, days first, and the code of the time zone (log 76). -/
def st309 (secs : Nat) (zone : Int) : Word :=
  let d := dateOf (secs / 86400)
  let digits := [d.2.2 % 10, d.2.2 / 10, d.2.1 % 10, d.2.1 / 10, d.1 % 10, d.1 / 10 % 10]
  w32 ((digits.zipIdx.map fun x => x.1 * 16 ^ x.2).foldl (· + ·) 0 + Config.st309Zone (zone / 60) % 256 * 2 ^ 24)

/-- The codeword of frame f of LTC output k. -/
def State.ltcWordOut (s : State) (k f : Nat) : LtcOutWord :=
  let rate := s.get (F.RF_LTCOUT_CTRL_RATE k)
  let n := s.ltcNumber k f
  let l := labelOf rate n.1
  let t := periodUnits (ltcRate rate).2 f / secUnits
  let c := s.ltcReading k t
  let ub := match s.getE (F.RF_LTCOUT_CTRL_UBITS k) with
    | 1 => s.rdE (.RF_LTCOUT_UB, [k])
    | 2 => st309 c.secs ((c.secs : Int) - (if s.flag F.TB_UTC_VALID then (s.utcOf t).secs else t : Nat))
    | _ => 0
  ⟨l.1, l.2.1, l.2.2.1 + b2n n.2, l.2.2.2, rate == 3, ub, !s.flag F.TB_UTC_VALID && s.getE (F.RF_LTCOUT_CTRL_SCALE k) != 1⟩

/-! ### DARS (R140) -/

/-- The check byte of AES3 channel status over its first 23 bytes (log 77). -/
def aesCrc (bs : List Byte) : Nat := bs.foldl (fun r b => iterate (crcStepR 0xB8) 8 (Nat.xor r b.toNat)) 0xFF

/-- The channel status of the block that begins with sample n. -/
def State.darsStatus (s : State) (n : Nat) : List Byte :=
  let local' := n - s.rf.start * 48000 / secUnits
  let t := n / 48000
  let day := (s.utcOf t).secs % 86400 * 48000 + n % 48000
  let bs : List Byte := (List.range 23).map fun i =>
    if i = 4 then Config.darsGrade
    else if 14 ≤ i ∧ i < 18 then (bytesLE 4 (local' % 2 ^ 32)).getD (i - 14) 0
    else if 18 ≤ i ∧ i < 22 then (bytesLE 4 (day % 2 ^ 32)).getD (i - 18) 0
    else Config.darsByte i
  bs ++ [BitVec.ofNat 8 (aesCrc bs)]

/-! ### PPS, 10 MHz and ToD (R141, R142) -/

/-- QUAL lets the PPS and 10 MHz outputs run (R141). -/
def State.qualified (s : State) : Bool :=
  let q := s.get F.RF_PPS_CTRL_QUAL
  let st := s.get F.TB_STATE_STATE
  q == 0 || st == 6 || (q == 1 && st == 7)

/-- The ToD sentence is sent 10 ms after the edge of each whole second plus RF_PPS_OFS (R141, R142). -/
def todTxOp (s : State) : State :=
  let ofs := signed 32 (bits (s.rdE (.RF_PPS_OFS, [])) 31 0)
  let quarters : Int := ((s.tb.sec * 1000000000 + s.tb.ns : Nat) : Int) * 4 - ofs - 40000000
  let sec := (quarters / 4000000000).toNat
  if !s.flag F.RF_PPS_CTRL_TOD_OUT ∨ !s.rfOn ∨ quarters < 0 ∨ s.rf.todSent = sec then s else
  ({ s with rf := { s.rf with todSent := sec } }).emit (.tod ((todFrame (s.todBody sec)).map fun c => BitVec.ofNat 8 c))

/-! ### The start of a period (R136, R137) -/

/-- The registers with fields of class FRAME of an output (R136). -/
def outRegs (o : RefOut) (k : Key) : Bool :=
  match o with
  | .video i => k == (.RF_OUT_OFS, [i.val])
  | .ltc i => k == (.RF_LTCOUT_CTRL, [i.val]) || k == (.RF_LTCOUT_OFS, [i.val]) || k == (.RF_LTCOUT_UB, [i.val])
  | .dars i => k == (.RF_DARS_OFS, [i.val])
  | .pps => k == (.RF_PPS_WIDTH, []) || k == (.RF_PPS_OFS, [])

/-- The number of an output among all. -/
def outCode : RefOut → Nat
  | .video k => k.val
  | .ltc k => 4 + k.val
  | .dars k => 8 + k.val
  | .pps => 10

/-- What an output sends as it starts period i. A muted output resumes at an alignment point once TB is LOCKED (R137). -/
def State.outSignal (s : State) (o : RefOut) (i : Nat) : State :=
  let at_ := s.outInstant o i
  match o with
  | .video k =>
    let p := ((stdPeriod (s.get (F.RF_OUT_CTRL_STD k))).map (·.1)).getD 1
    let s : State := if s.get F.TB_STATE_STATE = 6 ∧ i % p = 0 then { s with rf := { s.rf with muted := s.rf.muted.filter (· != k.val) } } else s
    if s.rf.muted.contains k.val then s
    else s.emit (.refFrame k at_ (s.get (F.RF_OUT_CTRL_STD k)) i (s.get (F.RF_OUT_CTRL_STD k) == 1 && !s.flag (F.RF_OUT_CTRL_NO_SETUP k)))
  | .ltc k => s.emit (.ltc k at_ (s.ltcWordOut k i))
  | .dars k => s.emit (.dars k at_ (192 * i) (s.darsStatus (192 * i)))
  | .pps =>
    let s := if s.flag F.RF_PPS_CTRL_OUT_EN ∧ s.qualified then s.emit (.pps at_ (s.getE F.RF_PPS_WIDTH_MS)) else s
    if s.flag F.RF_PPS_CTRL_TEN_OUT ∧ s.qualified then s.emit (.tenMhz at_) else s

/-- An output starts its next period (R136): writes that wait apply, and its signal of the period begins. An output that does not run
applies them at the command. -/
def outApplyOp (o : RefOut) (s : State) : State :=
  if !s.outOn o then s.applyWaiting (outRegs o) else
  let i := s.outPeriod o
  if mget (fun _ => 0) s.rf.sent (outCode o) = i + 1 then s else
  let s := s.applyWaiting (outRegs o)
  ({ s with rf := { s.rf with sent := nput (fun _ => 0) s.rf.sent (outCode o) (i + 1) } }).outSignal o i

end Sys2Proof.Machine
end

