-- ==== Sys2Proof/Machine/Servo.lean ====
section
/-! DEFINITION. The PTP servo on CU16: its measurements (R107 to R119), the path delay of a PTP port (R120, R121), and what it takes
from announce messages (R118, R124). It writes registers as any origin does (R15). -/

namespace Sys2Proof.Machine

/-- The servo on CU16 writes a register (R15, R104). -/
def State.servoWrite (s : State) (pc : Nat) (k : Key) (w : Word) : State := s.keyWrite (.cu 16 (pc % 65536)) k w

/-! ### Measuring -/

/-- The mean path delay of an end-to-end exchange with the asymmetry of its port, and the offset of the count from the master, in
units of 2^-32 ns (R120, R121). -/
def State.ptpSolve (s : State) (x : PtpSample) : Int × Int :=
  let p := x.port.val
  let t2 : Int := unitsOf (s.rxInstant p x.t2)
  let t3 : Int := (steps8 (s.txInstant p (unitsOf x.t3)) : Nat)
  let there := t2 - unitsOf x.t1 - x.sync * 2 ^ 24
  let back := (unitsOf x.t4 : Int) - t3 - x.delayResp * 2 ^ 24
  let path := (there + back) / 2 + signed 32 (s.get (F.TB_ASYM_ASYM p)) * 2 ^ 24
  (path, path - there)

/-- A port may be in SLAVE state: it is enabled and not master only, without a fault, and its link is up (R107, R117). -/
def State.maySlave (s : State) (p : Nat) : Bool :=
  let x := s.ptp p
  x.en && x.role != 1 && !x.faulty && s.flag (F.NP_STAT_LINK p)

/-- Port p is the one in SLAVE state. -/
def State.slaveTo (s : State) (p : Nat) : State := s.noSlave.setPtp p { s.ptp p with slave := true }

/-- The servo can make a measurement: it runs, and its source is usable. A PTP exchange makes PTP usable (R107). -/
def State.mayMeasure (s : State) (m : ServoMeasure) : Bool :=
  s.tb.servoUp && match m.src with
    | .ptp => m.ptp.any fun x => s.maySlave x.port.val
    | c => (s.src (srcCode c)).usable

/-- The servo takes a measurement: the offset of source time from the count in whole nanoseconds, and for PTP the port and its path
delay. -/
def State.takeSample (s : State) (m : ServoMeasure) : State :=
  let c := srcCode m.src
  match m.src, m.ptp with
  | .ptp, some x =>
    let r := s.ptpSolve x
    let s := s.slaveTo x.port.val
    let s := { s with tb := { s.tb with pathDelay := r.1 / 2 ^ 24 } }
    s.updSrc c fun y => { y with usable := true, usableSince := if y.usable then y.usableSince else s.tick, measured := true, offset := r.2 / 2 ^ 32 }
  | _, _ => s.updSrc c fun y => { y with measured := true, offset := m.offset }

/-! ### Announce messages (R118, R123, R124) -/

/-- TB_LEAP_AT by a master's leap flag: the start of the following UTC day. The inserted second still belongs to its day. -/
def State.leapDay (s : State) (ofs : Nat) (up down : Bool) : Nat :=
  let inserted := s.flag F.TB_UTC_LEAP61 && leapNear s.tb.sec (s.get F.TB_LEAP_AT_SEC) == s.tb.sec + 1
  let utc := s.tb.sec - ofs - b2n inserted
  (utc / 86400 + 1) * 86400 + ofs + b2n up - b2n down

/-- The leap data of announce messages are taken while PTP is selected (R124). A change of OFS without a pending leap, or both flags
at once, raises TB_LEAP_CONFLICT (R123). -/
def State.takeAnnounce (s : State) (pc : Nat) (a : Announce) : State :=
  let s := { s with tb := { s.tb with gmId := a.gm, gmClass := a.clockClass, stepsRemoved := a.steps } }
  if ! a.valid then s else
  let both := a.leap61 && a.leap59
  let l61 := if both then s.flag F.TB_UTC_LEAP61 else a.leap61
  let l59 := if both then s.flag F.TB_UTC_LEAP59 else a.leap59
  let pend := s.flag F.TB_UTC_LEAP61 || s.flag F.TB_UTC_LEAP59
  let at_ := w32 (s.leapDay a.utcOfs l61 l59)
  let t := if both || (s.flag F.TB_UTC_VALID && s.get F.TB_UTC_OFS != a.utcOfs && !pend) then s.raise 0x046 else s
  let w := w32 (a.utcOfs % 65536 + b2n l61 * 0x10000 + b2n l59 * 0x20000 + 0x40000)
  let t := if (l61 || l59) ∧ s.rd (.TB_LEAP_AT, []) ≠ at_ then t.servoWrite pc (.TB_LEAP_AT, []) at_ else t
  if s.rd (.TB_UTC, []) = w then t else t.servoWrite pc (.TB_UTC, []) w

/-! ### A measurement -/

/-- The servo writes its measurement to TB_OFS, saturated (R119). -/
def State.writeOfs (s : State) (pc : Nat) (offset : Int) : State :=
  s.servoWrite pc (.TB_OFS, []) (w32 (pattern 32 (clampI (-2147483648) 2147483647 offset)))

/-- In ACQUIRE and LOCKED the servo writes the result of its control loop to TB_INC_REQ (R119). -/
def State.writeInc (s : State) (m : ServoMeasure) : State :=
  if s.get F.TB_STATE_STATE = 5 ∨ s.get F.TB_STATE_STATE = 6 then
    (s.servoWrite m.pc (.TB_INC_REQ_LO, []) (w32 m.incReq)).servoWrite m.pc (.TB_INC_REQ_HI, []) (w32 (m.incReq / 2 ^ 32 % 256))
  else s

/-- The servo selects its source with a measurement of source c at hand. A change of grandmaster counts as a change of source, and
after the first lock PTP is left for an offset above the threshold (R108, R109). -/
def State.reselect (s : State) (c : Nat) (newMaster : Bool) : State :=
  let change := newMaster && s.get F.TB_STATE_SRC == c
  if change ∧ s.flag F.TB_STATE_FIRST_LOCK ∧ !s.offsetOk c then s.selectSrc s.bestSrc
  else
    let s := s.selectSrc s.choice
    if change ∧ s.get F.TB_STATE_SRC = c then { (s.latch tbB 2) with tb := { s.tb with needStep := true, exceed := 0 } } else s

/-- The first-lock step is due (R114). -/
def State.stepsFirst (s : State) : Bool :=
  s.tb.needStep && !s.flag F.TB_STATE_FIRST_LOCK && s.flag F.TB_CTRL_FIRST_STEP && !s.anyRunning

/-- The measurement of the selected source c: the first-lock step, or the judgement of the offset, and the timing state that
follows (R110, R113, R114). -/
def State.actOn (s : State) (m : ServoMeasure) (c : Nat) (changed : Bool) : State :=
  let off := (s.src c).offset
  let first := s.stepsFirst
  let s := { s with tb := { s.tb with needStep := false } }
  if first then
    let s := ({ s with tb := { s.tb with exceed := 0 } }).stepCount off ⟨0x20, m.pc % 65536⟩
    let s := s.updSrc c fun x => { x with offset := 0 }
    (s.follow changed).lockCheck off
  else
    let s := s.judgeOffset c off
    if s.flag F.TB_STATE_RESTEP_PEND then s else (s.follow changed).lockCheck off

/-- A measurement of the usable source of highest priority while none is selected (R109, R110, R113). `fresh` says that the source
has become usable since its last one. -/
def State.actUnselected (s : State) (c : Nat) (fresh : Bool) : State :=
  let s := if s.get F.TB_STATE_STATE = 4 ∧ s.flag F.TB_STATE_FIRST_LOCK ∧ fresh ∧ !s.offsetOk c then s.setTb 7 else s
  if s.get F.TB_STATE_STATE = 7 then s.judgeOffset c (s.src c).offset else s

/-- One measurement of the servo (R107 to R119, R124). -/
def servoStep (m : ServoMeasure) (s : State) : State :=
  if !s.mayMeasure m then s else
  let c := srcCode m.src
  let fresh := !(s.src c).measured
  let was := s.get F.TB_STATE_SRC
  let s := (s.takeSample m).reselect c m.newMaster
  let sel := s.get F.TB_STATE_SRC
  let changed := was != sel || (m.newMaster && was == c)
  let off := (s.src c).offset
  if sel = 0 then
    let s := s.loseSource
    if s.prios.find? (fun x => (s.src x).usable) = some c then (s.writeOfs m.pc off).actUnselected c fresh else s
  else if sel = c then
    let s := match m.announce with
      | some a => if c = 1 then s.takeAnnounce m.pc a else s
      | none => s
    ((s.writeOfs m.pc off).actOn m c changed).writeInc m
  else s.follow changed

end Sys2Proof.Machine
end

