-- ==== Sys2Proof/Machine/Ptp.lean ====
section
/-! DEFINITION. What the PTP clock on CU16 sends as master (R117, R118). The spec names the messages of IEEE 1588-2019 and ST 2059-2;
their octets stand in those standards (log 75). -/

namespace Sys2Proof.Machine

/-- Port p is in MASTER state (R117): enabled and not follower only, without a fault, and not the slave port. -/
def State.ptpMaster (s : State) (p : Nat) : Bool :=
  let x := s.ptp p
  s.tb.servoUp && x.en && x.role != 2 && !x.slave && !x.faulty && s.flag (F.NP_STAT_LINK p)

/-- An interval of 2^k s in units of 2^-32 ns, for k from −7 to 1. -/
def logInterval (k : Int) : Nat := secUnits * 2 ^ (k + 7).toNat / 128

/-- The announce message of the device: as grandmaster its own clockClass, behind a master those of its grandmaster (R118). -/
def State.announceMsg (s : State) : PtpMsg :=
  let c := s.tb.ptp
  let slave := s.get F.TB_STATE_SRC == 1
  .announce c.domain (s.get F.TB_UTC_OFS) (s.flag F.TB_UTC_VALID) (s.flag F.TB_UTC_LEAP61) (s.flag F.TB_UTC_LEAP59) c.priority1 s.clockClass
    c.priority2 (if slave then some s.tb.gmId else none) (if slave then s.tb.stepsRemoved + 1 else 0)

/-- Sync of port p that starts at a count, with its transmit stamp (R120, R121). -/
def State.syncMsg (s : State) (p u f : Nat) : PtpMsg :=
  .sync s.tb.ptp.domain s.tb.ptp.twoStep (ofUnits (steps8 (s.txInstant p u + stampSlip (s.get (F.NP_CTRL_PMD p)) f)))

/-- The multiples of an interval after count a, up to count b. -/
def multiples (i a b : Nat) : List Nat := (List.range (b / i - a / i)).map fun j => (a / i + 1 + j) * i

/-- Port p sends what falls due after count a, up to count b: announces and Syncs at their intervals, metadata every second. -/
def State.ptpPortSend (a b : Nat) (s : State) (p : Nat) : State :=
  if !s.ptpMaster p then s else
  let s := (multiples (logInterval s.tb.ptp.logAnnounce) a b).foldl (fun s _ => s.emit (.ptp p s.announceMsg)) s
  let s := (multiples (logInterval s.tb.ptp.logSync) a b).foldl (fun s u => let x := s.fresh; x.2.emit (.ptp p (s.syncMsg p u x.1))) s
  (multiples secUnits a b).foldl (fun s _ => s.emit (.ptp p (.metadata s.tb.ptp.domain (s.get F.TB_UTC_OFS) (s.rd (.RF_JAM, []))))) s

/-- What the PTP clock sends between two counts. -/
def State.ptpSend (s : State) (a b : Nat) : State := (List.range 4).foldl (State.ptpPortSend a b) s

end Sys2Proof.Machine
end

