-- ==== Sys2Proof/Machine/Reactions.lean ====
section
/-! DEFINITION. The reactions of the fault collector (R428, R429). -/

namespace Sys2Proof.Machine

/-- A window of a reaction is open for a unit (R428). -/
def State.windowOpen (s : State) (r : Reaction) (u : Nat) : Bool := s.fc.windows.any fun w => w.react == r && w.unit == u

/-- The block that a reaction resets: the head of an SDI reaction, or the only one. -/
def reactUnit (r : Reaction) (id : Nat) : Nat := if r = .sdi then (id - 0x080) / 8 else 0

/-- The action of a reaction on its block. -/
def State.reactOn (s : State) (id : Nat) (r : Reaction) (u : Nat) : State :=
  match r with
  | .none => s
  | .svc => s.serviceReset 5
  | .sdi => s.updHead u fun h => { h with sdiReset := true }
  | .tpll => s
  | .clr => { s with fc := { s.fc with clrWait := true } }
  | .safe => { s with fc := { s.fc with safe := true } }
  | .shut => { s with fc := { s.fc with shut := true } }
  | .stop => s.keyWrite (.faultReaction id) (.HD_CTRL, [(id - 0x080) / 8]) (w32 0x10000)

/-- A reaction with a window. -/
def hasWindow (r : Reaction) : Bool := r == .svc || r == .sdi || r == .tpll || r == .clr

/-- Make one reaction: none while a window of it is open for its block (R428). -/
def State.react (s : State) (e : Nat × Reaction × Nat) : State :=
  let u := reactUnit e.2.1 e.1
  if hasWindow e.2.1 then
    if s.windowOpen e.2.1 u then s else ((s.openWindow e.2.1 u).latch fcB 0x80).reactOn e.1 e.2.1 u
  else (s.latch fcB 0x80).reactOn e.1 e.2.1 u

/-- Make the reactions that are due. -/
def State.reactAll (s : State) : State :=
  s.fc.todo.foldl State.react { s with fc := { s.fc with todo := [] } }

end Sys2Proof.Machine
end

