-- ==== Sys2Proof/Machine/Tick.lean ====
section
/-! DEFINITION. The passage of time: TIME_TICK (R99, R126), with what falls on every tick (R18 to R23, R55, R71, R122, R428, R440). -/

namespace Sys2Proof.Machine

/-! ### The end of a tick -/

/-- The stamps of port p beyond the 64 that its queue holds are discarded (R122). -/
def State.trimStamps (s : State) (p : Nat) : State :=
  let q := s.stamps p
  if q.length ≤ 64 then s else
  let s := { s with tb := { s.tb with tsq := nput (fun _ => []) s.tb.tsq p (q.take 64) } }
  (List.range (q.length - 64)).foldl (fun s _ => ((s.count (F.TB_TSQ_DEPTH_LOST p) 1).latch tbB 0x40).raise 0x043) s

/-- The tick ends: stamps are trimmed, and its audit entries take their SEQ. -/
def State.endTick (s : State) : State := ((List.range 4).foldl State.trimStamps s).flush

/-! ### Counting (R99, R101, R126) -/


/-- Domain time at a count. -/
def domainOf (units : Nat) : Nat := units / 2 ^ 32 % 2 ^ 40

/-- After how many ticks from now a wait for domain time t is satisfied; the cue engines see a tick two ticks later (R294). -/
def State.waitTicks (s : State) (t : Nat) : Nat :=
  let far (now : Nat) : Nat := (t + 2 ^ 40 - now) % 2 ^ 40
  let due (now : Nat) : Bool := far now == 0 || decide (2 ^ 39 ≤ far now)
  if due s.tb.seen1 then 1
  else if due s.dtime then 2
  else 2 + ceilDiv (far s.dtime * 2 ^ 32 - s.tb.frac) s.inc

/-- The next k ticks satisfy the time waits whose target they deliver (R301). -/
def State.endTimeWait (s : State) (k : Nat) (e : Nat × CueSt) : Nat × CueSt :=
  match e.2.wait with
  | some w =>
    match w.kind with
    | .until t =>
      let i := s.waitTicks t
      if i ≤ k then (e.1, { e.2 with wait := some (w.satisfy 0 false (s.tick + i - 2)) }) else e
    | _ => e
  | none => e

/-- The accumulator of a head after k ticks (R126). -/
def State.addPhase (s : State) (k : Nat) (e : Nat × HeadSt) : Nat × HeadSt :=
  match (s.onLast e.1).raster e.1 with
  | some r =>
    if !s.ticking e.1 then e else
    let x : Int := ((e.2.phaseF * 2 ^ 64 + e.2.phase + k * phaseStep r.2.2.1 r.2.2.2 s.inc : Nat) : Int) + e.2.phaseFix
    (e.1, { e.2 with phaseF := x.toNat / 2 ^ 64, phase := x.toNat % 2 ^ 64, phaseFix := 0 })
  | none => e

/-- k ticks without a whole second among them but at their end. -/
def State.runTicks (s : State) (k : Nat) : State :=
  if k = 0 then s else
  let u := unitsOf s.tai
  let t := ofUnits (u + k * s.inc)
  let one := if k = 1 then s.dtime else domainOf (u + (k - 1) * s.inc)
  let two := if k = 1 then s.tb.seen1 else domainOf (u + (k - 2) * s.inc)
  { s with
    tick := s.tick + k
    cues := s.cues.map (s.endTimeWait k)
    heads := s.heads.map (s.addPhase k)
    tb := { s.tb with
      sec := t.sec % 2 ^ 48, ns := t.ns, frac := t.frac, seen1 := one, seen2 := two
      lockHist := if s.get F.TB_STATE_STATE = 6 then histAdd s.tb.lockHist k s.inc else s.tb.lockHist } }

/-- What the accumulator of a head differs by from the exact phase (R126). -/
def State.fixPhase (s : State) (e : Nat × HeadSt) : Nat × HeadSt :=
  match (s.onLast e.1).raster e.1 with
  | some r =>
    if !s.ticking e.1 then e else
    let p := phaseAt r.2.2.1 r.2.2.2 (unitsOf s.tai)
    (e.1, { e.2 with phaseFix := ((p.1 * 2 ^ 64 + p.2 : Nat) : Int) - ((e.2.phaseF * 2 ^ 64 + e.2.phase : Nat) : Int) })
  | none => e

/-- A whole second of the count (R126, R297). -/
def State.second (s : State) : State :=
  ({ s with heads := s.heads.map s.fixPhase }).event 21 (s.tb.sec % 2 ^ 40)

/-- n ticks of a running count, second by second; `fuel` bounds the seconds. -/
def State.countTicks : Nat → Nat → State → State
  | 0, n, s => s.runTicks n
  | fuel + 1, n, s =>
    let k := ceilDiv (secUnits - (s.tb.ns * 2 ^ 32 + s.tb.frac)) s.inc
    if n < k ∨ k = 0 then s.runTicks n
    else State.countTicks fuel (n - k) (s.runTicks k).second

/-- n ticks: the count stands still until boot step 4 and without rails (R31, R75). -/
def State.advance (s : State) (n : Nat) : State :=
  if s.tb.counting ∧ !s.dv.railsOff then State.countTicks (n / 300000000 + 2) n s else { s with tick := s.tick + n }

/-! ### What follows a tick -/

/-- The entries of a boot are issued though their control record has not verified for 1 s (R448). -/
def State.bootPatience (s : State) : State :=
  if s.sl.holding ∧ 3 ≤ s.dv.step ∧ s.sl.heldSince + ticksS 1 ≤ s.tick then s.releaseBoot else s

/-- What the new tick finds due: reactions, the mode, the seal, the entries of a boot, and the lock-domain agent. -/
def State.afterTick (s : State) : State :=
  let s := ((s.reactAll.settleMode).sealWatch).bootPatience
  (s.glWatch.glWake).updDv fun d => { d with flr := [] }

/-- n ticks, with what ends the present one and what follows the last. -/
def State.ticks (s : State) (n : Nat) : State :=
  let t := (s.endTick).advance n
  (t.ptpSend (unitsOf s.tai) (unitsOf t.tai)).afterTick

/-- Corrected errors of an HBM stack: HBM_CORR is raised when their count within a TAI second passes 1,024 (R433). -/
def State.hbmCorrect (s : State) (k errors : Nat) : State :=
  let old := mget (fun _ => (0, 0)) s.fc.hbmCorr k
  let had := if old.1 = s.tb.sec then old.2 else 0
  let s := { s with fc := { s.fc with hbmCorr := nput (fun _ => (0, 0)) s.fc.hbmCorr k (s.tb.sec, had + errors) } }
  if had ≤ 1024 ∧ 1024 < had + errors then s.raise 0x1F6 0 ⟨0, k⟩ else s

/-- An error of the hardware takes hold: a unit or word is marked until it is written (R274, R493), others are counted. -/
def State.upset (s : State) (u : Upset) : State :=
  let mark (k : Nat) (hard : Bool) : State := { s with ecc := nput (fun _ => 0) s.ecc k (1 + b2n hard) }
  match u with
  | .hbm i => { s with bad := nput (fun _ => false) s.bad i true }
  | .imem n i hard => mark (16384 * n.val + i.val) hard
  | .dmem n i hard => mark (dmKey n.val i.val) hard
  | .scratch i hard => mark (scrKey i.val) hard
  | .hbmCorr k n => s.hbmCorrect k.val n
  | .cellarCorr => s.count F.CL_CORR_COUNT 1
  | .lane l n => s.laneErrors l.val n
  | .fec p a b => s.fecErrors p.val a b

/-- TIME_TICK: n + 1 ticks, with the upsets that memories take in them (log 73). The first tick stands alone, since it makes the
reactions that are due. -/
def timeTickOp (n : Nat) (u : List Upset) (s : State) : State :=
  let s := (u.foldl State.upset s).ticks 1
  if n = 0 then s else s.ticks n

end Sys2Proof.Machine
end

