-- ==== Sys2Proof/Machine/TimeCmd.lean ====
section
/-! DEFINITION. The commands of the time base and of the reference inputs and outputs (04, 05). -/

namespace Sys2Proof.Machine


/-- The count reaches TB_LEAP_AT with a leap flag set (R123, R124). -/
def leapApplyOp (s : State) : State :=
  let up := s.flag F.TB_UTC_LEAP61
  if (!up ∧ !s.flag F.TB_UTC_LEAP59) ∨ !s.tb.counting ∨ s.tb.sec < leapNear s.tb.sec (s.get F.TB_LEAP_AT_SEC) then s else
  let ofs := s.get F.TB_UTC_OFS
  let s := s.set F.TB_UTC_OFS (if up then ofs + 1 else ofs + 65535)
  let s := ((s.set F.TB_UTC_LEAP61 0).set F.TB_UTC_LEAP59 0).latch tbB 16
  ({ s with tb := { s.tb with lastLeap := some (s.get F.TB_LEAP_AT_SEC, up) } }).requestTime

/-- The time record is rewritten once per minute (R106). -/
def timeRecordOp (s : State) : State := if s.tb.counting then s.requestTime else s

/-- TIME_TICK (R99). -/
def execTimeTick (n : Nat) (u : List Upset) (s : State) : Host.Outcome State Fault Refusal :=
  done (fun s => timeTickOp n u s) s

/-- INC_TRANSFER (R101). -/
def execIncTransfer (o : Origin) (v : Word) (s : State) : Host.Outcome State Fault Refusal :=
  done (fun s => s.keyWrite o (.TB_INC_REQ_HI, []) v) s

/-- TIME_LATCH_READ (R102). -/
def execTimeLatchRead (o : Origin) (s : State) : Host.Outcome State Fault Refusal :=
  done (fun s => s.readOut o (keyAddr (.TB_TIME_SL, []))) s

/-- SERVO_MEASURE (R119). -/
def execServoMeasure (m : ServoMeasure) (s : State) : Host.Outcome State Fault Refusal :=
  done (fun s => (servoStep m s).glWake.settleMode) s

/-- SOURCE_LOST (R107). -/
def execSourceLost (src : Src) (s : State) : Host.Outcome State Fault Refusal :=
  done (fun s => (srcLost (srcCode src) s).settleMode) s

/-- SOURCE_REQUALIFIED (R108). -/
def execSourceRequalified (src : Src) (s : State) : Host.Outcome State Fault Refusal :=
  done (fun s => (srcRequalified (srcCode src) s).glWake.settleMode) s

/-- TB_RESTEP (R116). -/
def execTbRestep (o : Origin) (key : BitVec 16) (s : State) : Host.Outcome State Fault Refusal :=
  done (fun s => s.keyWrite o (.TB_RESTEP, []) (w32 key.toNat)) s

/-- RESTEP_STEP (R116). -/
def execRestepStep (offset : Int) (s : State) : Host.Outcome State Fault Refusal :=
  done (fun s => (restepStepOp offset s).settleMode) s

/-- HOLD_LIMIT (R110). -/
def execHoldLimit (s : State) : Host.Outcome State Fault Refusal :=
  done (fun s => (holdLimitStep s).settleMode) s

/-- LEAP_APPLY (R123). -/
def execLeapApply (s : State) : Host.Outcome State Fault Refusal :=
  done (fun s => leapApplyOp s) s

/-- TSQ_POP (R122). -/
def execTsqPop (o : Origin) (p : Fin 4) (s : State) : Host.Outcome State Fault Refusal :=
  done (fun s => s.readOut o (keyAddr (.TB_TSQ_POP, [p.val]))) s

/-- TIME_RECORD_WRITE (R106). -/
def execTimeRecordWrite (s : State) : Host.Outcome State Fault Refusal :=
  done (fun s => timeRecordOp s) s

/-- PLL_UNLOCK (R128). -/
def execPllUnlock (s : State) : Host.Outcome State Fault Refusal :=
  done (fun s => pllUnlockOp s) s

/-- PLL_LOCK (R429). -/
def execPllLock (s : State) : Host.Outcome State Fault Refusal :=
  done (fun s => (pllLockOp s).settleMode) s

/-- REF_IN_LOCK (R131). -/
def execRefInLock (k : Fin 2) (std freq : Nat) (s : State) : Host.Outcome State Fault Refusal :=
  done (fun s => refLockOp k.val std freq s) s

/-- REF_IN_LOSS (R131). -/
def execRefInLoss (k : Fin 2) (s : State) : Host.Outcome State Fault Refusal :=
  done (fun s => (refLossOp k.val s).settleMode) s

/-- REF_PHASE_MEASURE (R132). -/
def execRefPhaseMeasure (k : Fin 2) (at_ : Stamp) (freq : Int) (s : State) : Host.Outcome State Fault Refusal :=
  done (fun s => refPhaseOp k.val at_ freq s) s

/-- LTC_WORD (R133). -/
def execLtcWord (k : Fin 2) (w : LtcWord) (s : State) : Host.Outcome State Fault Refusal :=
  done (fun s => (ltcWordOp k.val w s).settleMode) s

/-- SRC3_INPUT_CHANGE (R134). -/
def execSrc3InputChange (o : Origin) (v : Word) (s : State) : Host.Outcome State Fault Refusal :=
  done (fun s => (s.keyWrite o (.RF_CTRL, []) v).settleMode) s

/-- OUTPUT_OFFSET_APPLY (R136). -/
def execOutputOffsetApply (out : RefOut) (s : State) : Host.Outcome State Fault Refusal :=
  done (fun s => outApplyOp out s) s

/-- PPS_EDGE (R141). -/
def execPpsEdge (t : Stamp) (tenCount : Nat) (s : State) : Host.Outcome State Fault Refusal :=
  done (fun s => (ppsEdgeOp t tenCount s).settleMode) s

/-- TOD_SENTENCE_RX (R142). -/
def execTodSentenceRx (m : TodSentence) (s : State) : Host.Outcome State Fault Refusal :=
  done (fun s => (todRxOp m s).settleMode) s

/-- TOD_SENTENCE_TX (R142). -/
def execTodSentenceTx (s : State) : Host.Outcome State Fault Refusal :=
  done (fun s => todTxOp s) s

/-- OUT_LOAD (R144). -/
def execOutLoad (k : Fin 4) (s : State) : Host.Outcome State Fault Refusal :=
  done (fun s => outLoadOp k.val s) s

/-- REF_SAVE (R143). -/
def execRefSave (o : Origin) (s : State) : Host.Outcome State Fault Refusal :=
  done (fun s => s.keyWrite o (.RF_CTRL, []) (w32 0x10001)) s

/-- LTC_WORDS_MISSING (R133). -/
def execLtcWordsMissing (k : Fin 2) (n : Fin 4) (s : State) : Host.Outcome State Fault Refusal :=
  done (fun s => (ltcMissingOp k.val n.val s).settleMode) s

/-- PPS_INPUT_LOSS (R107). -/
def execPpsInputLoss (s : State) : Host.Outcome State Fault Refusal :=
  done (fun s => (ppsLossOp s).settleMode) s

/-- TEN_MHZ_QUALIFY_CHANGE (R487). -/
def execTenMhzQualifyChange (ok : Bool) (s : State) : Host.Outcome State Fault Refusal :=
  done (fun s => (tenMhzOp ok s).settleMode) s

/-- OUT_LOAD_END (R144). -/
def execOutLoadEnd (k : Fin 4) (s : State) : Host.Outcome State Fault Refusal :=
  done (fun s => outLoadEndOp k.val s) s

end Sys2Proof.Machine
end

