-- ==== Sys2Proof/Machine/Dispatch.lean ====
section
/-! DEFINITION. The meaning of each command, arm by arm. -/

namespace Sys2Proof.Machine

def exec (i : Instr) (s : State) : Host.Outcome State Fault Refusal :=
  match i with
  | .registerWrite o addr v be more => Sys2Proof.Machine.execRegisterWrite o addr v be more s
  | .readClear o addr len => Sys2Proof.Machine.execReadClear o addr len s
  | .statusSeqClear o addr v => Sys2Proof.Machine.execStatusSeqClear o addr v s
  | .statusCorRead o addr => Sys2Proof.Machine.execStatusCorRead o addr s
  | .registerReadDenied o addr => Sys2Proof.Machine.execRegisterReadDenied o addr s
  | .slowWriteArrive b => Sys2Proof.Machine.execSlowWriteArrive b s
  | .slowCopyRefresh b arrived => Sys2Proof.Machine.execSlowCopyRefresh b arrived s
  | .snapRequest o v => Sys2Proof.Machine.execSnapRequest o v s
  | .snapshotCapture => Sys2Proof.Machine.execSnapshotCapture s
  | .snapshotWriteOutDone => Sys2Proof.Machine.execSnapshotWriteOutDone s
  | .permWrite o slot hi v => Sys2Proof.Machine.execPermWrite o slot hi v s
  | .bar2Write f addr data => Sys2Proof.Machine.execBar2Write f addr data s
  | .bar2Read f addr len => Sys2Proof.Machine.execBar2Read f addr len s
  | .pcieLinkDown => Sys2Proof.Machine.execPcieLinkDown s
  | .flr f => Sys2Proof.Machine.execFlr f s
  | .operate o on => Sys2Proof.Machine.execOperate o on s
  | .shutdown o => Sys2Proof.Machine.execShutdown o s
  | .shutdownRailsOff => Sys2Proof.Machine.execShutdownRailsOff s
  | .warmReset o key => Sys2Proof.Machine.execWarmReset o key s
  | .maintenanceReset o key => Sys2Proof.Machine.execMaintenanceReset o key s
  | .serviceReset o key => Sys2Proof.Machine.execServiceReset o key s
  | .resetBegin => Sys2Proof.Machine.execResetBegin s
  | .coldReset => Sys2Proof.Machine.execColdReset s
  | .pinReset => Sys2Proof.Machine.execPinReset s
  | .resetRelease straps board => Sys2Proof.Machine.execResetRelease straps board s
  | .railsPowerGood => Sys2Proof.Machine.execRailsPowerGood s
  | .cellarHeaderCheck crcOk layout bad => Sys2Proof.Machine.execCellarHeaderCheck crcOk layout bad s
  | .imageSelection a b => Sys2Proof.Machine.execImageSelection a b s
  | .serviceReady => Sys2Proof.Machine.execServiceReady s
  | .bootReadyTimeout => Sys2Proof.Machine.execBootReadyTimeout s
  | .svcWdog e => Sys2Proof.Machine.execSvcWdog e s
  | .bootComplete => Sys2Proof.Machine.execBootComplete s
  | .headRestore => Sys2Proof.Machine.execHeadRestore s
  | .openSession f => Sys2Proof.Machine.execOpenSession f s
  | .closeSession f => Sys2Proof.Machine.execCloseSession f s
  | .getInfo f => Sys2Proof.Machine.execGetInfo f s
  | .imgBegin f => Sys2Proof.Machine.execImgBegin f s
  | .imgData f => Sys2Proof.Machine.execImgData f s
  | .imgEnd f c => Sys2Proof.Machine.execImgEnd f c s
  | .timeStatus f => Sys2Proof.Machine.execTimeStatus f s
  | .timePtpCfg f c => Sys2Proof.Machine.execTimePtpCfg f c s
  | .timePtpPort f p en role ip => Sys2Proof.Machine.execTimePtpPort f p en role ip s
  | .timeLeap f ofs leap61 leap59 leapAt => Sys2Proof.Machine.execTimeLeap f ofs leap61 leap59 leapAt s
  | .timeServo f bw => Sys2Proof.Machine.execTimeServo f bw s
  | .glStatus f => Sys2Proof.Machine.execGlStatus f s
  | .glCommit f g t tag => Sys2Proof.Machine.execGlCommit f g t tag s
  | .glRoster f page => Sys2Proof.Machine.execGlRoster f page s
  | .clRead f ofs len => Sys2Proof.Machine.execClRead f ofs len s
  | .cancel o f => Sys2Proof.Machine.execCancel o f s
  | .mailboxComplete f => Sys2Proof.Machine.execMailboxComplete f s
  | .timeTick n u => Sys2Proof.Machine.execTimeTick n u s
  | .incTransfer o v => Sys2Proof.Machine.execIncTransfer o v s
  | .timeLatchRead o => Sys2Proof.Machine.execTimeLatchRead o s
  | .servoMeasure m => Sys2Proof.Machine.execServoMeasure m s
  | .sourceLost src => Sys2Proof.Machine.execSourceLost src s
  | .sourceRequalified src => Sys2Proof.Machine.execSourceRequalified src s
  | .tbRestep o key => Sys2Proof.Machine.execTbRestep o key s
  | .restepStep offset => Sys2Proof.Machine.execRestepStep offset s
  | .holdLimit => Sys2Proof.Machine.execHoldLimit s
  | .leapApply => Sys2Proof.Machine.execLeapApply s
  | .tsqPop o p => Sys2Proof.Machine.execTsqPop o p s
  | .timeRecordWrite => Sys2Proof.Machine.execTimeRecordWrite s
  | .pllUnlock => Sys2Proof.Machine.execPllUnlock s
  | .pllLock => Sys2Proof.Machine.execPllLock s
  | .refInLock k std freq => Sys2Proof.Machine.execRefInLock k std freq s
  | .refInLoss k => Sys2Proof.Machine.execRefInLoss k s
  | .refPhaseMeasure k at_ freq => Sys2Proof.Machine.execRefPhaseMeasure k at_ freq s
  | .ltcWord k w => Sys2Proof.Machine.execLtcWord k w s
  | .src3InputChange o v => Sys2Proof.Machine.execSrc3InputChange o v s
  | .outputOffsetApply out => Sys2Proof.Machine.execOutputOffsetApply out s
  | .ppsEdge t tenCount => Sys2Proof.Machine.execPpsEdge t tenCount s
  | .todSentenceRx m => Sys2Proof.Machine.execTodSentenceRx m s
  | .todSentenceTx => Sys2Proof.Machine.execTodSentenceTx s
  | .outLoad k => Sys2Proof.Machine.execOutLoad k s
  | .refSave o => Sys2Proof.Machine.execRefSave o s
  | .headStart o n v => Sys2Proof.Machine.execHeadStart o n v s
  | .headStop o n => Sys2Proof.Machine.execHeadStop o n s
  | .headFirstLine n => Sys2Proof.Machine.execHeadFirstLine n s
  | .headStopped n => Sys2Proof.Machine.execHeadStopped n s
  | .headLineStart n w => Sys2Proof.Machine.execHeadLineStart n w s
  | .hostReadCompletion k m line ok data => Sys2Proof.Machine.execHostReadCompletion k m line ok data s
  | .commitDeadline n => Sys2Proof.Machine.execCommitDeadline n s
  | .frameBoundary n => Sys2Proof.Machine.execFrameBoundary n s
  | .sampleEvent n ix => Sys2Proof.Machine.execSampleEvent n ix s
  | .rateFifoExcursion n d => Sys2Proof.Machine.execRateFifoExcursion n d s
  | .dpLinkFail n hotPlug => Sys2Proof.Machine.execDpLinkFail n hotPlug s
  | .dpRetrain n ok => Sys2Proof.Machine.execDpRetrain n ok s
  | .sdiSerializerFail n => Sys2Proof.Machine.execSdiSerializerFail n s
  | .ceCommit o k v => Sys2Proof.Machine.execCeCommit o k v s
  | .ceGroupCommit o k v => Sys2Proof.Machine.execCeGroupCommit o k v s
  | .cePrepCommit o k v => Sys2Proof.Machine.execCePrepCommit o k v s
  | .commitCheckDone k => Sys2Proof.Machine.execCommitCheckDone k s
  | .ceRelease o k v => Sys2Proof.Machine.execCeRelease o k v s
  | .ceDiscard o k v => Sys2Proof.Machine.execCeDiscard o k v s
  | .lastGoodHandover k => Sys2Proof.Machine.execLastGoodHandover k s
  | .plOwnerWrite o k h v => Sys2Proof.Machine.execPlOwnerWrite o k h v s
  | .plCommit o k h v => Sys2Proof.Machine.execPlCommit o k h v s
  | .plCheckDone k h => Sys2Proof.Machine.execPlCheckDone k h s
  | .plScanDone k h => Sys2Proof.Machine.execPlScanDone k h s
  | .ckStart o u => Sys2Proof.Machine.execCkStart o u s
  | .ckAbort o u fed => Sys2Proof.Machine.execCkAbort o u fed s
  | .ckScanDone u => Sys2Proof.Machine.execCkScanDone u s
  | .ckRunRead o u fed => Sys2Proof.Machine.execCkRunRead o u fed s
  | .cuIll n => Sys2Proof.Machine.execCuIll n s
  | .cuNop n => Sys2Proof.Machine.execCuNop n s
  | .cuHalt n => Sys2Proof.Machine.execCuHalt n s
  | .cuTrap n => Sys2Proof.Machine.execCuTrap n s
  | .cuAdd n => Sys2Proof.Machine.execCuAdd n s
  | .cuSub n => Sys2Proof.Machine.execCuSub n s
  | .cuAnd n => Sys2Proof.Machine.execCuAnd n s
  | .cuOr n => Sys2Proof.Machine.execCuOr n s
  | .cuXor n => Sys2Proof.Machine.execCuXor n s
  | .cuShl n => Sys2Proof.Machine.execCuShl n s
  | .cuShr n => Sys2Proof.Machine.execCuShr n s
  | .cuSar n => Sys2Proof.Machine.execCuSar n s
  | .cuMul n => Sys2Proof.Machine.execCuMul n s
  | .cuMulhu n => Sys2Proof.Machine.execCuMulhu n s
  | .cuSel n => Sys2Proof.Machine.execCuSel n s
  | .cuAddi n => Sys2Proof.Machine.execCuAddi n s
  | .cuAndi n => Sys2Proof.Machine.execCuAndi n s
  | .cuOri n => Sys2Proof.Machine.execCuOri n s
  | .cuXori n => Sys2Proof.Machine.execCuXori n s
  | .cuShli n => Sys2Proof.Machine.execCuShli n s
  | .cuShri n => Sys2Proof.Machine.execCuShri n s
  | .cuSari n => Sys2Proof.Machine.execCuSari n s
  | .cuLi n => Sys2Proof.Machine.execCuLi n s
  | .cuLui n => Sys2Proof.Machine.execCuLui n s
  | .cuSubi n => Sys2Proof.Machine.execCuSubi n s
  | .cuBfx n => Sys2Proof.Machine.execCuBfx n s
  | .cuBfi n => Sys2Proof.Machine.execCuBfi n s
  | .cuBcc n => Sys2Proof.Machine.execCuBcc n s
  | .cuCall n => Sys2Proof.Machine.execCuCall n s
  | .cuJalr n => Sys2Proof.Machine.execCuJalr n s
  | .cuLd n => Sys2Proof.Machine.execCuLd n s
  | .cuSt n => Sys2Proof.Machine.execCuSt n s
  | .cuLdx n => Sys2Proof.Machine.execCuLdx n s
  | .cuStx n => Sys2Proof.Machine.execCuStx n s
  | .cuAmoadd n => Sys2Proof.Machine.execCuAmoadd n s
  | .cuAmoswp n => Sys2Proof.Machine.execCuAmoswp n s
  | .cuCas n => Sys2Proof.Machine.execCuCas n s
  | .cuRdr n => Sys2Proof.Machine.execCuRdr n s
  | .cuWrr n => Sys2Proof.Machine.execCuWrr n s
  | .cuKick n => Sys2Proof.Machine.execCuKick n s
  | .kickJudged n => Sys2Proof.Machine.execKickJudged n s
  | .cuWrf n => Sys2Proof.Machine.execCuWrf n s
  | .cuRds n => Sys2Proof.Machine.execCuRds n s
  | .cuWrs n => Sys2Proof.Machine.execCuWrs n s
  | .cuRett n => Sys2Proof.Machine.execCuRett n s
  | .cuLyr n => Sys2Proof.Machine.execCuLyr n s
  | .cuLyw n => Sys2Proof.Machine.execCuLyw n s
  | .cuCommit n => Sys2Proof.Machine.execCuCommit n s
  | .cuRelease n => Sys2Proof.Machine.execCuRelease n s
  | .cuWaite n => Sys2Proof.Machine.execCuWaite n s
  | .cuWaitl n => Sys2Proof.Machine.execCuWaitl n s
  | .cuWaitt n => Sys2Proof.Machine.execCuWaitt n s
  | .cuWaitp n => Sys2Proof.Machine.execCuWaitp n s
  | .waitComplete n => Sys2Proof.Machine.execWaitComplete n s
  | .cuStart o n => Sys2Proof.Machine.execCuStart o n s
  | .cuResume o n => Sys2Proof.Machine.execCuResume o n s
  | .cuStep o n resume => Sys2Proof.Machine.execCuStep o n resume s
  | .cuHaltRequest o n => Sys2Proof.Machine.execCuHaltRequest o n s
  | .cuDoorbell o n v => Sys2Proof.Machine.execCuDoorbell o n v s
  | .paramWrite o n ix v => Sys2Proof.Machine.execParamWrite o n ix v s
  | .dmLoRead o n => Sys2Proof.Machine.execDmLoRead o n s
  | .dmHiRead o n => Sys2Proof.Machine.execDmHiRead o n s
  | .dmLoWrite o n v => Sys2Proof.Machine.execDmLoWrite o n v s
  | .dmHiWrite o n v => Sys2Proof.Machine.execDmHiWrite o n v s
  | .scrDataRead o p => Sys2Proof.Machine.execScrDataRead o p s
  | .scrDataWrite o p v => Sys2Proof.Machine.execScrDataWrite o p v s
  | .imgLevelWrite o n v => Sys2Proof.Machine.execImgLevelWrite o n v s
  | .zoneSave o => Sys2Proof.Machine.execZoneSave o s
  | .glyDataWrite o v => Sys2Proof.Machine.execGlyDataWrite o v s
  | .rxFrame p data fcsOk stamp => Sys2Proof.Machine.execRxFrame p data fcsOk stamp s
  | .moduleRemoved p => Sys2Proof.Machine.execModuleRemoved p s
  | .moduleInserted p => Sys2Proof.Machine.execModuleInserted p s
  | .linkUp p => Sys2Proof.Machine.execLinkUp p s
  | .linkDown p => Sys2Proof.Machine.execLinkDown p s
  | .i2cStart o p v => Sys2Proof.Machine.execI2cStart o p v s
  | .i2cDone p ack data => Sys2Proof.Machine.execI2cDone p ack data s
  | .flowEnable o f v => Sys2Proof.Machine.execFlowEnable o f v s
  | .flowDisable o f v => Sys2Proof.Machine.execFlowDisable o f v s
  | .pathTimeout f => Sys2Proof.Machine.execPathTimeout f s
  | .sdiInLine ix l => Sys2Proof.Machine.execSdiInLine ix l s
  | .sdiInLockLoss ix link => Sys2Proof.Machine.execSdiInLockLoss ix link s
  | .queueEnable o q v => Sys2Proof.Machine.execQueueEnable o q v s
  | .queueDisable o q v => Sys2Proof.Machine.execQueueDisable o q v s
  | .txFrameEnqueue q fr => Sys2Proof.Machine.execTxFrameEnqueue q fr s
  | .txFrameStart p => Sys2Proof.Machine.execTxFrameStart p s
  | .txFrameDone p => Sys2Proof.Machine.execTxFrameDone p s
  | .launchPresent q => Sys2Proof.Machine.execLaunchPresent q s
  | .lateDrop q => Sys2Proof.Machine.execLateDrop q s
  | .gclEnable o p v => Sys2Proof.Machine.execGclEnable o p v s
  | .gclDisable o p v => Sys2Proof.Machine.execGclDisable o p v s
  | .gclChange o p v => Sys2Proof.Machine.execGclChange o p v s
  | .gclSwap p => Sys2Proof.Machine.execGclSwap p s
  | .gateEntry p => Sys2Proof.Machine.execGateEntry p s
  | .obsPeriod p => Sys2Proof.Machine.execObsPeriod p s
  | .adEnable o c v => Sys2Proof.Machine.execAdEnable o c v s
  | .adDisable o c v => Sys2Proof.Machine.execAdDisable o c v s
  | .adSwIdxWrite o c v => Sys2Proof.Machine.execAdSwIdxWrite o c v s
  | .adBurstDone c data => Sys2Proof.Machine.execAdBurstDone c data s
  | .adStart o c => Sys2Proof.Machine.execAdStart o c s
  | .adAbort o c => Sys2Proof.Machine.execAdAbort o c s
  | .adBusError c => Sys2Proof.Machine.execAdBusError c s
  | .hqEnable o r v => Sys2Proof.Machine.execHqEnable o r v s
  | .hqDisable o r v => Sys2Proof.Machine.execHqDisable o r v s
  | .hqDoorbell o r v => Sys2Proof.Machine.execHqDoorbell o r v s
  | .hqStart o r => Sys2Proof.Machine.execHqStart o r s
  | .hqAbort o r => Sys2Proof.Machine.execHqAbort o r s
  | .hqNop r d => Sys2Proof.Machine.execHqNop r d s
  | .hqH2lCopy r d data => Sys2Proof.Machine.execHqH2lCopy r d data s
  | .hqL2hCopy r d => Sys2Proof.Machine.execHqL2hCopy r d s
  | .hqRegWrite r d => Sys2Proof.Machine.execHqRegWrite r d s
  | .hqTxFrame r d data => Sys2Proof.Machine.execHqTxFrame r d data s
  | .hqRxBuffer r d => Sys2Proof.Machine.execHqRxBuffer r d s
  | .hqDescComplete r => Sys2Proof.Machine.execHqDescComplete r s
  | .hqBusError r => Sys2Proof.Machine.execHqBusError r s
  | .spPowerOn o n => Sys2Proof.Machine.execSpPowerOn o n s
  | .spPowerOff o n => Sys2Proof.Machine.execSpPowerOff o n s
  | .spDataEnable o n => Sys2Proof.Machine.execSpDataEnable o n s
  | .spMeasureDone n r => Sys2Proof.Machine.execSpMeasureDone n r s
  | .spEnergiseDone n => Sys2Proof.Machine.execSpEnergiseDone n s
  | .spTripFast n mA => Sys2Proof.Machine.execSpTripFast n mA s
  | .spI2tSample n mA cV => Sys2Proof.Machine.execSpI2tSample n mA cV s
  | .spSecondCheck m => Sys2Proof.Machine.execSpSecondCheck m s
  | .spSupplyLow cV => Sys2Proof.Machine.execSpSupplyLow cV s
  | .spRetry n => Sys2Proof.Machine.execSpRetry n s
  | .spTripsReset n => Sys2Proof.Machine.execSpTripsReset n s
  | .spGateFault n live => Sys2Proof.Machine.execSpGateFault n live s
  | .loopMaxWrite o v => Sys2Proof.Machine.execLoopMaxWrite o v s
  | .spSave o => Sys2Proof.Machine.execSpSave o s
  | .spHello n => Sys2Proof.Machine.execSpHello n s
  | .spCaps n c => Sys2Proof.Machine.execSpCaps n c s
  | .spStatus n st => Sys2Proof.Machine.execSpStatus n st s
  | .spSync n => Sys2Proof.Machine.execSpSync n s
  | .spLatch n => Sys2Proof.Machine.execSpLatch n s
  | .spTime n => Sys2Proof.Machine.execSpTime n s
  | .spSeg n => Sys2Proof.Machine.execSpSeg n s
  | .spBitmap n => Sys2Proof.Machine.execSpBitmap n s
  | .glEnable o => Sys2Proof.Machine.execGlEnable o s
  | .glDisable o => Sys2Proof.Machine.execGlDisable o s
  | .glRosterRx m => Sys2Proof.Machine.execGlRosterRx m s
  | .glRosterSend => Sys2Proof.Machine.execGlRosterSend s
  | .glJoin m => Sys2Proof.Machine.execGlJoin m s
  | .glAdmit m => Sys2Proof.Machine.execGlAdmit m s
  | .glHeartbeat m => Sys2Proof.Machine.execGlHeartbeat m s
  | .glHeartbeatSend => Sys2Proof.Machine.execGlHeartbeatSend s
  | .glClaim m => Sys2Proof.Machine.execGlClaim m s
  | .glClaimSend => Sys2Proof.Machine.execGlClaimSend s
  | .glClaimElection => Sys2Proof.Machine.execGlClaimElection s
  | .glRequest m => Sys2Proof.Machine.execGlRequest m s
  | .glPrepare m => Sys2Proof.Machine.execGlPrepare m s
  | .glAckSend => Sys2Proof.Machine.execGlAckSend s
  | .glAck m => Sys2Proof.Machine.execGlAck m s
  | .glNak m => Sys2Proof.Machine.execGlNak m s
  | .glCommitResend => Sys2Proof.Machine.execGlCommitResend s
  | .glAckDeadline => Sys2Proof.Machine.execGlAckDeadline s
  | .glCommitMessage m => Sys2Proof.Machine.execGlCommitMessage m s
  | .glAbort m => Sys2Proof.Machine.execGlAbort m s
  | .glMemberCommitTimeout => Sys2Proof.Machine.execGlMemberCommitTimeout s
  | .glReport m => Sys2Proof.Machine.execGlReport m s
  | .glWrite m => Sys2Proof.Machine.execGlWrite m s
  | .glMemberTimeout ix => Sys2Proof.Machine.execGlMemberTimeout ix s
  | .glRosterTimeout => Sys2Proof.Machine.execGlRosterTimeout s
  | .glSeekTimeout => Sys2Proof.Machine.execGlSeekTimeout s
  | .faultClear o id => Sys2Proof.Machine.execFaultClear o id s
  | .faultClearAll o => Sys2Proof.Machine.execFaultClearAll o s
  | .faultRearm o => Sys2Proof.Machine.execFaultRearm o s
  | .windowClose react unit => Sys2Proof.Machine.execWindowClose react unit s
  | .mirrorEntry => Sys2Proof.Machine.execMirrorEntry s
  | .entryRead o v => Sys2Proof.Machine.execEntryRead o v s
  | .seqLatchRead o => Sys2Proof.Machine.execSeqLatchRead o s
  | .cellarRecordDone ok => Sys2Proof.Machine.execCellarRecordDone ok s
  | .lgErase o v => Sys2Proof.Machine.execLgErase o v s
  | .supplyLossWarning => Sys2Proof.Machine.execSupplyLossWarning s
  | .holdupSeal => Sys2Proof.Machine.execHoldupSeal s
  | .evaluationPeriod => Sys2Proof.Machine.execEvaluationPeriod s
  | .railPoll r p => Sys2Proof.Machine.execRailPoll r p s
  | .thermalSample t => Sys2Proof.Machine.execThermalSample t s
  | .domainWake d => Sys2Proof.Machine.execDomainWake d s
  | .hbmFail k => Sys2Proof.Machine.execHbmFail k s
  | .fabricUncorr => Sys2Proof.Machine.execFabricUncorr s
  | .ltStart o l => Sys2Proof.Machine.execLtStart o l s
  | .ltStop o l => Sys2Proof.Machine.execLtStop o l s
  | .eyeGo o l => Sys2Proof.Machine.execEyeGo o l s
  | .ltGroupStart o v => Sys2Proof.Machine.execLtGroupStart o v s
  | .ltGroupStop o v => Sys2Proof.Machine.execLtGroupStop o v s
  | .ltDone l errs => Sys2Proof.Machine.execLtDone l errs s
  | .eyeScanDone l err => Sys2Proof.Machine.execEyeScanDone l err s
  | .bitsLatchRead o l => Sys2Proof.Machine.execBitsLatchRead o l s
  | .jtagUpdate ir => Sys2Proof.Machine.execJtagUpdate ir s
  | .supplyWarnRelease => Sys2Proof.Machine.execSupplyWarnRelease s
  | .pcieLinkUp => Sys2Proof.Machine.execPcieLinkUp s
  | .sdiInLockAcquired ix => Sys2Proof.Machine.execSdiInLockAcquired ix s
  | .sdiGroupRelock n => Sys2Proof.Machine.execSdiGroupRelock n s
  | .moduleIntChange p low => Sys2Proof.Machine.execModuleIntChange p low s
  | .checkerSyncAcquired l => Sys2Proof.Machine.execCheckerSyncAcquired l s
  | .checkerSyncLost l => Sys2Proof.Machine.execCheckerSyncLost l s
  | .ltcWordsMissing k n => Sys2Proof.Machine.execLtcWordsMissing k n s
  | .ppsInputLoss => Sys2Proof.Machine.execPpsInputLoss s
  | .tenMhzQualifyChange ok => Sys2Proof.Machine.execTenMhzQualifyChange ok s
  | .outLoadEnd k => Sys2Proof.Machine.execOutLoadEnd k s

end Sys2Proof.Machine
end

