-- ==== Sys2Proof/Safety.lean ====
section
/-! DEFINITION. What claims call a safe machine and a safe step, and what a step touches. -/

namespace Sys2Proof.Machine

/-- Local memory is in its canonical form: addresses strictly rising, no entry that an unlisted address reads as. -/
def State.MemOk (s : State) : Prop := Memory.wf s.mem = true

/-- Every register stands once in the register file. -/
def State.RegsOk (s : State) : Prop := (s.regs.map (·.1)).Nodup

/-- What every command leaves true of the machine as a whole: the waiting commands stay, the clock never goes back, what has left the
device is not taken back, commits are numbered upward, free values are taken one after another, local memory keeps its canonical
form, and every register stands once. -/
structure Follows (s t : State) : Prop where
  pending : t.pending = s.pending
  tick : s.tick ≤ t.tick
  out : s.out <+: t.out
  serial : s.serial ≤ t.serial
  free : s.free ≤ t.free
  mem : s.MemOk → t.MemOk
  regs : s.RegsOk → t.RegsOk

/-- A part of the state other than the registers: a field of State. -/
inductive Area where
  | pending
  | tick
  | free
  | out
  | irqOwed
  | eff
  | waiting
  | w1
  | slowQ
  | slowHold
  | slowCopy
  | msix
  | mem
  | bad
  | holding
  | dv
  | mbx
  | tb
  | heads
  | engines
  | groups
  | serial
  | vids
  | dts
  | ports
  | queues
  | flows
  | ads
  | hqs
  | glyphs
  | gpi
  | gpo
  | layers
  | pls
  | cks
  | cues
  | cregs
  | imem
  | dmem
  | scratch
  | ecc
  | evt
  | ps
  | rf
  | jtag
  | lts
  | sps
  | gl
  | fc
  | sl
  | cl
  deriving DecidableEq, Repr

/-- Two states agree on a part. -/
def Area.same (s t : State) : Area → Prop
  | .pending => t.pending = s.pending
  | .tick => t.tick = s.tick
  | .free => t.free = s.free
  | .out => t.out = s.out
  | .irqOwed => t.irqOwed = s.irqOwed
  | .eff => t.eff = s.eff
  | .waiting => t.waiting = s.waiting
  | .w1 => t.w1 = s.w1
  | .slowQ => t.slowQ = s.slowQ
  | .slowHold => t.slowHold = s.slowHold
  | .slowCopy => t.slowCopy = s.slowCopy
  | .msix => t.msix = s.msix
  | .mem => t.mem = s.mem
  | .bad => t.bad = s.bad
  | .holding => t.holding = s.holding
  | .dv => t.dv = s.dv
  | .mbx => t.mbx = s.mbx
  | .tb => t.tb = s.tb
  | .heads => t.heads = s.heads
  | .engines => t.engines = s.engines
  | .groups => t.groups = s.groups
  | .serial => t.serial = s.serial
  | .vids => t.vids = s.vids
  | .dts => t.dts = s.dts
  | .ports => t.ports = s.ports
  | .queues => t.queues = s.queues
  | .flows => t.flows = s.flows
  | .ads => t.ads = s.ads
  | .hqs => t.hqs = s.hqs
  | .glyphs => t.glyphs = s.glyphs
  | .gpi => t.gpi = s.gpi
  | .gpo => t.gpo = s.gpo
  | .layers => t.layers = s.layers
  | .pls => t.pls = s.pls
  | .cks => t.cks = s.cks
  | .cues => t.cues = s.cues
  | .cregs => t.cregs = s.cregs
  | .imem => t.imem = s.imem
  | .dmem => t.dmem = s.dmem
  | .scratch => t.scratch = s.scratch
  | .ecc => t.ecc = s.ecc
  | .evt => t.evt = s.evt
  | .ps => t.ps = s.ps
  | .rf => t.rf = s.rf
  | .jtag => t.jtag = s.jtag
  | .lts => t.lts = s.lts
  | .sps => t.sps = s.sps
  | .gl => t.gl = s.gl
  | .fc => t.fc = s.fc
  | .sl => t.sl = s.sl
  | .cl => t.cl = s.cl

/-- The second state follows the first, and differs from it in no part outside the list A and, where R is a list of register
names, in no register of another name. -/
structure Only (A : List Area) (R : Option (List Reg)) (s t : State) : Prop where
  follows : Follows s t
  same : ∀ a, a ∉ A → a.same s t
  regs : ∀ l, R = some l → ∀ r, r ∉ l → ∀ is, t.rd (r, is) = s.rd (r, is)

/-- The parts of the state, and the registers, that the raise of a source touches (R421 to R424). -/
def raiseAreas : List Area := [.irqOwed, .heads, .cues, .evt, .fc, .sl]
def raiseRegs : List Reg :=
  [.CU_EVT_OVR, .FC_CLEAR_REJ, .FC_CNT, .FC_FIRST_ID, .FC_FIRST_ORG, .FC_FIRST_TAI_NS, .FC_FIRST_TAI_SH, .FC_FIRST_TAI_SL, .FC_LAT, .FC_OVF, .FC_SUPPRESSED, .xx_STATUS]

/-- The registers that a trap of a cue engine touches (R286). -/
def trapRegs : List Reg := [.CU_ECAUSE, .CU_EDATA, .CU_EPC, .CU_PC, .CU_STAT, .CU_TRAP_CNT]

/-- Parts, and registers, with those of a raise; and registers with those of a trap, which may raise a source. -/
def raising (A : List Area) : List Area := A ++ raiseAreas
def raisingRegs (R : List Reg) : List Reg := R ++ raiseRegs
def trappingRegs (R : List Reg) : List Reg := R ++ trapRegs ++ raiseRegs

/-- A command that completes leaves every part of the state outside A as it was, and every register whose name is not in R, but for what
leaves the device, the interrupts that it owes and those that are masked. -/
def Touches (c : Instr) (A : List Area) (R : List Reg) : Prop :=
  ∀ s t, exec c s = .next t → Only (.out :: .irqOwed :: .msix :: A) (some R) s t

/-- The same for a command that may touch a register of any name. -/
def TouchesParts (c : Instr) (A : List Area) : Prop := ∀ s t, exec c s = .next t → Only (.out :: .irqOwed :: .msix :: A) none s t

/-- The command completes, and the state that it leaves has a property. -/
def Does (c : Instr) (s : State) (P : State → Prop) : Prop := ∃ t, exec c s = .next t ∧ P t

/-! ### Cue engines -/

/-- The instruction word at the program counter of engine n. -/
def State.word (s : State) (n : Nat) : Word40 := s.imemAt n (s.cpc n)

/-- Engine n runs and is up (R31), and the word at its program counter is good, has the opcode, stands in the form, and its level is within the image
level (R267, R268, R274, R291). -/
structure Runs (s : State) (n op : Nat) (form : Form) (level : Nat) : Prop where
  run : s.cst n = 1
  up : s.cueUp n = true
  good : s.eccAt (16384 * n + s.cpc n) ≠ 2
  op : iOp (s.word n) = op
  form : form.ok (s.word n) = true
  level : level ≤ s.get (F.CU_IMG_LEVEL n)

/-- No trap of engine n is kept, and it does not run a single step. -/
structure Calm (s : State) (n : Nat) : Prop where
  late : (s.cue n).late = none
  kick : (s.cue n).kick = none
  step : (s.cue n).step = false

/-- The instruction of engine n left v in register rd, f in the flags and every other register of every engine as it was; and with no
trap kept and no single step, the engine goes on at the next word. -/
structure Gives (s : State) (n rd : Nat) (v : Word40) (f : Nat) (t : State) : Prop where
  reg : ∀ m r, r < 32 → t.creg m r = if m = n ∧ r = rd ∧ r ≠ 0 then v else s.creg m r
  flags : t.flags n = f
  next : Calm s n → t.cpc n = s.cpc n + 1 ∧ t.cst n = 1

/-- The instruction of engine n left registers and flags as they were and, with no trap kept and no single step, the engine goes on at
a word. -/
structure Goes (s : State) (n pc : Nat) (t : State) : Prop where
  reg : ∀ m r, t.creg m r = s.creg m r
  flags : t.flags n = s.flags n
  next : Calm s n → t.cpc n = pc ∧ t.cst n = 1

/-- A register instruction of engine n: where its word is legal and has a next word, it leaves a result in rd and flags. -/
def Computes (c : Instr) (s : State) (n op : Nat) (form : Form) (level : Nat) (legal : Word40 → Bool) (v : Word40) (f : Nat) : Prop :=
  Runs s n op form level → legal (s.word n) = true → s.cpc n ≠ 16383 → Does c s (Gives s n (iRd (s.word n)) v f)

/-- Engine n took a trap: vector, saved program counter and data; traps are off, and it goes on at the vector (R286). -/
structure Trapped (s : State) (n v epc edata : Nat) (t : State) : Prop where
  epc : t.get (F.CU_EPC_EPC n) = epc
  cause : t.get (F.CU_ECAUSE_VECTOR n) = v
  edata : t.get (F.CU_EDATA_DATA n) = edata % 2 ^ 32
  eflags : (t.cue n).eflags = s.flags n
  off : t.ie n = false
  pc : t.cpc n = (s.get (F.CU_VBASE_PC n) + v) % 2 ^ 14
  counted : t.get (F.CU_TRAP_CNT_COUNT n) = min (s.get (F.CU_TRAP_CNT_COUNT n) + 1) (2 ^ 16 - 1)

/-- A write of a register by an origin reaches its block: the fabric takes writes, the origin may write the block, and no owner rule
is against it (R15). -/
structure Reaches (s : State) (o : Origin) (k : Key) (v : Word) : Prop where
  served : s.served = true
  rights : s.rights o ((keyHdr k).headD 0) = 3
  owner : s.ownerRule o k v ≠ .viol

/-- A read of a register by an origin is answered: the fabric answers, and the origin may read the block (R65). -/
structure Answers (s : State) (o : Origin) (k : Key) : Prop where
  readable : s.readable = true
  rights : s.rights o ((keyHdr k).headD 0) ≠ 0

/-- No field of the register is locked or waits for its function to stop (R47, R48), and its instance holds no LOCK. -/
structure Unlocked (s : State) (k : Key) : Prop where
  lock : s.flag ⟨(.xx_LOCK, keyHdr k), 0, 0⟩ = false
  stop : s.isRunning k = false

/-- Two fields have no bit in common. -/
def apart (f g : FieldDef) : Bool := decide (f.hi < g.lo) || decide (g.hi < f.lo)

/-- The fields of a register lie apart and within 32 bits. -/
def fieldsApart : List FieldDef → Bool
  | [] => true
  | f :: l => decide (f.hi < 32) && (l.all fun g => apart f g && apart g f) && fieldsApart l

/-- The registers whose writes are more than a store of fields: commands, ports, and registers with a rule of their own. -/
def special : List Reg :=
  [.xx_STATUS, .xx_INT_EN, .DV_PERM_LO, .DV_PERM_HI, .DV_SNAP, .DV_CTRL, .DV_RESET, .DV_MBX_DOORBELL, .DV_BOOT_CFG, .FC_CFG, .FC_CTRL,
    .FC_CLEAR, .CL_LG_ERASE, .CL_AUTO_RESTORE, .SL_CTRL, .SL_RD_SEQ_HI, .CE_L_FENCE_SIGNAL, .CE_JRN_CTRL] ++
  [.TB_RESTEP, .TB_INC_REQ_HI, .TB_INC_NOM_LO, .TB_INC_NOM_HI, .TB_MAX_SLEW, .TB_UTC, .RF_CTRL, .RF_IN_CTRL, .RF_PPS_CTRL, .SP_CTRL, .SP_LOOP_MAX, .SPP_CTRL, .GL_CTRL, .HD_CTRL,
    .CE_COMMIT, .CE_RELEASE, .CE_PL_COMMIT, .CK_CMD, .AD_CMD, .AD_CTRL] ++
  [.HQ_CMD, .HQ_DB, .HQ_CTRL, .LT_CMD, .LT_GROUP_CMD, .NP_CTRL, .NP_I2C_CMD, .NR_CTRL, .NR_POL_RATE, .NR_POL_BURST, .NG_SDI_CTRL, .NQ_CTRL,
    .NG_GCL_CTRL, .CU_CTRL, .CU_IMG, .CU_DOORBELL] ++
  [.CU_C_LO, .CU_C_HI, .CU_DM_LO, .CU_DM_HI, .CU_PARAM, .CUS_SCR_DATA, .DT_GLY_DATA, .DT_CTRL, .DT_S_LAYOUT]

/-- No condition of a mode that comes before the modes of DV_CTRL.OPERATE holds (R67, R68). -/
structure Undisturbed (s : State) : Prop where
  up : 3 ≤ s.dv.step
  shutting : s.dv.shutting = false
  shut : s.fc.shut = false
  booting : s.dv.booting = false
  maint : s.dv.maint = false
  safe : s.fc.safe = false
  restep : s.tb.restep = none
  limited : s.ps.limited = false
  lanes : s.laneTests = false

/-- The counter of raises of a source (R421) has gone up by one, where it was not full. -/
def Raised (id : Nat) (s t : State) : Prop := t.get ⟨(.FC_CNT, [id]), 15, 0⟩ = min (s.get ⟨(.FC_CNT, [id]), 15, 0⟩ + 1) 65535

/-- A refusal is counted in the header of a block, and nothing else of the registers changes (R42, R48). -/
def Counted (hdr : List Nat) (s t : State) : Prop :=
  t.get ⟨(.xx_REFUSED, hdr), 15, 0⟩ = min (s.get ⟨(.xx_REFUSED, hdr), 15, 0⟩ + 1) 65535 ∧ ∀ j : Key, j ≠ (.xx_REFUSED, hdr) → t.rd j = s.rd j

/-- A write of bytes at an address from a source: each byte that no protected window keeps from the source is stored, and no other
byte changes (R247). -/
def Stored (host : Bool) (o : Org) (a : Nat) (data : List Byte) (s t : State) : Prop :=
  ∀ x, t.byte x = if a ≤ x ∧ x < a + data.length ∧ x < memSize ∧ s.guarded host o x = false then data.getD (x - a) 0 else s.byte x

/-- The request of mailbox f: a command with its payload words, posted and not yet served (R93). -/
structure Posted (s : State) (f code : Nat) (words : List Word) : Prop where
  posted : (s.mb f).posted = some (code, words)
  busy : s.get (F.DV_MBX_STAT_STATE f) = 1
  fresh : (s.mb f).staged = none

/-- The request of mailbox f is one of a command that the settled version of its session has (R92). -/
structure Asks (s : State) (f code : Nat) (words : List Word) : Prop extends Posted s f code words where
  known : s.mbxKnown f code = true

/-- The services answer function f: they are ready, it has a session, and the device is not in MAINTENANCE (R84, R96). -/
structure Session (s : State) (f : Nat) : Prop where
  ready : s.get F.DV_SVC_READY_READY = 15
  maint : s.dv.maint = false
  session : s.get (sessionFld f) ≠ 0

/-- The command of mailbox f has been served: result code, response words, and whether it applied a change. -/
def Served (t : State) (f code : Nat) (words : List Word) (applied : Bool) : Prop := (t.mb f).staged = some (code, words, applied)

/-- A function holds RW over a block (R63). -/
def MayWrite (s : State) (f : Fin 4) (code : Nat) : Prop := s.rights (.pf f) code = 3

/-- The sender of a lock-domain message that a command brings, and whether it may come from outside the roster (R408). -/
def glHeadOf : Instr → Option (GlHead × Bool)
  | .glRosterRx m => some (m.head, true)
  | .glJoin m => some (m.head, true)
  | .glClaim m => some (m.head, true)
  | .glAdmit m => some (m.head, false)
  | .glHeartbeat m => some (m.head, false)
  | .glRequest m => some (m.head, false)
  | .glPrepare m => some (m.head, false)
  | .glAck m => some (m.head, false)
  | .glNak m => some (m.head, false)
  | .glCommitMessage m => some (m.head, false)
  | .glAbort m => some (m.head, false)
  | .glReport m => some (m.head, false)
  | .glWrite m => some (m.head, false)
  | _ => none

/-- The lock-domain agent listens on a port (R408, R409). -/
def State.listens (s : State) (h : GlHead) : Prop := s.glAgent = true ∧ s.glRole ≠ 0 ∧ nbit (s.get F.GL_CTRL_PORTS) h.port.val = true

/-- A message is good: whole, of this domain, and from the roster unless it is free (R408). -/
def State.wellSent (s : State) (h : GlHead) (free : Bool) : Prop :=
  h.ok = true ∧ h.domain = s.get F.GL_ID_DOMAIN ∧ (free = true ∨ s.gl.roster.contains h.index = true)

/-- The agent takes a message: it listens, the message is good, and it is no copy. -/
structure Hears (s : State) (h : GlHead) (free : Bool) : Prop where
  listens : s.listens h
  good : s.wellSent h free
  new : s.gl.seen.contains (h.index, h.seq) = false

/-- A lock-domain message as the agent sends it now (R408). -/
def State.glBytes (s : State) (type : Nat) (body : List Byte) : List Byte :=
  let m := bytesLE 2 0x474C ++ bytesLE 1 (if type = 0x0C ∨ type = 0x0D then 2 else 1) ++ bytesLE 1 type ++ bytesLE 2 (s.get F.GL_ID_DOMAIN) ++
    bytesLE 2 s.glIndex ++ bytesLE 4 s.gl.seq ++ body
  m ++ bytesLE 4 (crc32c m)

/-- A lock-domain message leaves on every port of GL_CTRL.PORTS that it has an address for (R407; log 91). -/
def Mails (s : State) (type : Nat) (addr : Nat → Word) (body : Nat → List Byte) (t : State) : Prop :=
  ∀ p, p < 4 → nbit (s.get F.GL_CTRL_PORTS) p = true → addr p ≠ 0 → .datagram p (addr p) (s.glBytes type (body p)) ∈ t.out.drop s.out.length

end Sys2Proof.Machine
end

