-- ==== Sys2Proof/Certificates/Slice0/Obligations.lean ====
section
/-! DEFINITION. The statements for the provers. -/

set_option linter.unusedVariables false

open Sys2Proof Sys2Proof.Machine

/-! ### Steps and states -/

/-- A step takes the command at the front of the queue and runs it with the rest of the queue. -/
def Obligations.StepRunsFront : Prop :=
  ∀ (c : Instr) (cs : List Instr) (s : State), step { s with pending := c :: cs } = exec c { s with pending := cs }

/-! ### Cue engines -/

/-- ADD, SUB, MUL, MULHU, SEL, ADDI, SUBI, LI and LUI leave the result of R268 in rd, c0 apart, and the flags that R269 and the tables
of 11 give, and go on at the next word.

The bitwise operations, the shifts and the bit-field instructions leave the result of R268 and R270 in rd, and Z, N and, for a
shift, C; and go on at the next word. -/
def Obligations.CueRegisterResults : Prop :=
  (∀ (n : Fin 24) (s : State),
    let w := s.word n
    let a := s.a1 n w
    let b := s.a2 n w
    let f := s.flags n
    Computes (.cuAdd n) s n 0x04 .r 0x100 always (a + b) (addFlags f a b) ∧
    Computes (.cuSub n) s n 0x05 .r 0x100 always (a - b) (subFlags f a b) ∧
    Computes (.cuMul n) s n 0x0C .r 0x101 always (w40 (a.toNat * b.toNat)) (znFlags f (w40 (a.toNat * b.toNat))) ∧
    Computes (.cuMulhu n) s n 0x0D .r 0x101 always (w40 (a.toNat * b.toNat / 2 ^ 40)) (znFlags f (w40 (a.toNat * b.toNat / 2 ^ 40))) ∧
    Computes (.cuSel n) s n 0x0E .r 0x102 always (if fz f then a else b) f ∧
    Computes (.cuAddi n) s n 0x10 .i 0x100 always (a + iSext w) (addFlags f a (iSext w)) ∧
    Computes (.cuSubi n) s n 0x19 .i 0x100 always (a - iSext w) (subFlags f a (iSext w)) ∧
    Computes (.cuLi n) s n 0x17 .u 0x100 always (BitVec.ofInt 40 (signed 29 (w.toNat % 2 ^ 29))) f ∧
    Computes (.cuLui n) s n 0x18 .u 0x100 always (w40 (w.toNat % 2 ^ 29 * 2 ^ 11)) f) ∧
  (∀ (n : Fin 24) (s : State),
    let w := s.word n
    let a := s.a1 n w
    let b := s.a2 n w
    let f := s.flags n
    let shift (r : Word40 × Option Bool) := zncFlags f r.1 r.2
    let k := b.toNat % 64
    let i := shImm w
    let d := s.creg n (iRd w)
    Computes (.cuAnd n) s n 0x06 .r 0x100 always (a &&& b) (znFlags f (a &&& b)) ∧
    Computes (.cuOr n) s n 0x07 .r 0x100 always (a ||| b) (znFlags f (a ||| b)) ∧
    Computes (.cuXor n) s n 0x08 .r 0x100 always (a ^^^ b) (znFlags f (a ^^^ b)) ∧
    Computes (.cuAndi n) s n 0x11 .i 0x100 always (a &&& iZext w) (znFlags f (a &&& iZext w)) ∧
    Computes (.cuOri n) s n 0x12 .i 0x100 always (a ||| iZext w) (znFlags f (a ||| iZext w)) ∧
    Computes (.cuXori n) s n 0x13 .i 0x100 always (a ^^^ iZext w) (znFlags f (a ^^^ iZext w)) ∧
    Computes (.cuShl n) s n 0x09 .r 0x100 always (a <<< k) (shift (shlOp a k)) ∧
    Computes (.cuShr n) s n 0x0A .r 0x100 always (a >>> k) (shift (shrOp a k)) ∧
    Computes (.cuSar n) s n 0x0B .r 0x100 always (a.sshiftRight k) (shift (sarOp a k)) ∧
    Computes (.cuShli n) s n 0x14 .i 0x100 shOk (a <<< i) (shift (shlOp a i)) ∧
    Computes (.cuShri n) s n 0x15 .i 0x100 shOk (a >>> i) (shift (shrOp a i)) ∧
    Computes (.cuSari n) s n 0x16 .i 0x100 shOk (a.sshiftRight i) (shift (sarOp a i)) ∧
    Computes (.cuBfx n) s n 0x1A .i 0x102 bfOk (w40 (a.toNat / 2 ^ bfLsb w % 2 ^ bfWidth w))
      (znFlags f (w40 (a.toNat / 2 ^ bfLsb w % 2 ^ bfWidth w))) ∧
    Computes (.cuBfi n) s n 0x1B .i 0x102 bfOk (bfiOp w d a) (znFlags f (bfiOp w d a)) ∧
    (bfOk w = true → ∀ j, (bfiOp w d a).getLsbD j =
      if bfLsb w ≤ j ∧ j < bfLsb w + bfWidth w then a.getLsbD (j - bfLsb w) else d.getLsbD j))

/-!  -/

/-- NOP goes on; HALT halts with STOP = DONE behind itself; TRAP and every opcode that the engine does not implement trap where traps are
on, and halt the engine with STOP = DOUBLE where they are off; Bcc, CALL and JALR go to their targets in the instruction memory, and
RETT restores program counter, flags and IE.

RDS reads a special register, and WRS writes one that may be written; the read-only ones hold what R284 lists. -/
def Obligations.CueFlowAndSpecials : Prop :=
  (∀ (n : Fin 24) (s : State),
    let w := s.word n
    let pc := s.cpc n
    let branch (t : Int) := 0 ≤ t ∧ t < 16384
    (Runs s n 0x01 .r 0x100 → pc ≠ 16383 → Does (.cuNop n) s (Goes s n (pc + 1))) ∧
    (Runs s n 0x02 .r 0x100 → pc ≠ 16383 → Does (.cuHalt n) s fun t =>
      t.cst n = 0 ∧ t.get (F.CU_STAT_STOP n) = 1 ∧ t.cpc n = pc + 1 ∧ t.flags n = s.flags n) ∧
    (Runs s n 0x03 .i 0x100 → iRd w = 0 → iRs1 w = 0 → s.ie n = true → Does (.cuTrap n) s (Trapped s n 6 pc (iImm w))) ∧
    (Runs s n 0x03 .i 0x100 → iRd w = 0 → iRs1 w = 0 → s.ie n = false → Does (.cuTrap n) s fun t =>
      t.cst n = 0 ∧ t.get (F.CU_STAT_STOP n) = 4 ∧ t.cpc n = pc) ∧
    (s.cst n = 1 → s.cueUp n = true → s.eccAt (16384 * n + pc) ≠ 2 → opcodes.contains (iOp w) = false → s.ie n = true →
      Does (.cuIll n) s (Trapped s n 0 pc w.toNat)) ∧
    (Runs s n 0x20 .b 0x100 → iRd w ≤ 14 →
      let t : Int := if condHolds (iRd w) (s.flags n) = some true then ((pc + 1 : Nat) : Int) + signed 19 (iImm w) else ((pc + 1 : Nat) : Int)
      branch t → Does (.cuBcc n) s (Goes s n t.toNat)) ∧
    (Runs s n 0x21 .b 0x100 → iRd w = 0 → branch (((pc + 1 : Nat) : Int) + signed 19 (iImm w)) → Does (.cuCall n) s fun t =>
      t.creg n 31 = w40 (pc + 1) ∧ (∀ r, r < 31 → t.creg n r = s.creg n r) ∧ t.flags n = s.flags n ∧
      (Calm s n → t.cpc n = (((pc + 1 : Nat) : Int) + signed 19 (iImm w)).toNat ∧ t.cst n = 1)) ∧
    (Runs s n 0x22 .i 0x100 → (s.a1 n w + iSext w).toNat < 16384 → Does (.cuJalr n) s fun t =>
      (∀ r, r < 32 → t.creg n r = if r = iRd w ∧ r ≠ 0 then w40 (pc + 1) else s.creg n r) ∧ t.flags n = s.flags n ∧
      (Calm s n → t.cpc n = (s.a1 n w + iSext w).toNat ∧ t.cst n = 1)) ∧
    (Runs s n 0x32 .r 0x100 → iRd w = 0 → iRs1 w = 0 → iRs2 w = 0 → Does (.cuRett n) s fun t =>
      t.flags n = (s.cue n).eflags % 32 ∧ (Calm s n → t.cpc n = s.get (F.CU_EPC_EPC n) ∧ t.ie n = true ∧ t.cst n = 1))) ∧
  (∀ (n : Fin 24) (s : State),
    let w := s.word n
    let k := iImm w
    let v := (s.a1 n w).toNat
    (Runs s n 0x30 .i 0x100 → s.cpc n ≠ 16383 → iRs1 w = 0 → k ≤ 12 → Does (.cuRds n) s (Gives s n (iRd w) (s.special n k) (s.flags n))) ∧
    (Runs s n 0x31 .i 0x100 → s.cpc n ≠ 16383 → iRd w = 0 → k ≤ 4 ∨ k = 12 → Calm s n → Does (.cuWrs n) s fun t =>
      t.get (F.CU_EPC_EPC n) = (if k = 0 then v % 2 ^ 14 else s.get (F.CU_EPC_EPC n)) ∧
      t.get (F.CU_ECAUSE_VECTOR n) = (if k = 1 then v % 2 ^ 3 else s.get (F.CU_ECAUSE_VECTOR n)) ∧
      t.get (F.CU_EDATA_DATA n) = (if k = 2 then v % 2 ^ 32 else s.get (F.CU_EDATA_DATA n)) ∧
      (t.cue n).eflags = (if k = 3 then v % 2 ^ 5 else (s.cue n).eflags) ∧
      t.flags n = (if k = 4 then v % 2 ^ 5 else s.flags n) ∧
      t.ie n = (if k = 12 then decide (v % 2 = 1) else s.ie n) ∧
      t.cpc n = s.cpc n + 1 ∧ (∀ m r, t.creg m r = s.creg m r)) ∧
    s.special n 5 = w40 (s.cue n).cycle ∧
    s.special n 7 = w40 n ∧
    s.special n 8 = w40 (if n.val < 16 then n else 31) ∧
    s.special n 9 = w40 (if n.val < 16 then 0x00200000 + 0x10000 * n else 0) ∧
    s.special n 10 = w40 (if n.val < 16 then 0x00300000 + 0x20000 * (n / 2) else 0))

/-- LD reads and ST writes a word of the engine's data memory; LDX, STX, AMOADD, AMOSWP and CAS read and write a word of the scratch; no
other word changes; and an index beyond the memory takes trap RANGE.

The data ports: a read of the low half of a data-memory word latches its high half, a read of the high half moves to the next word, and a write of
the high half stores the word with the low half held; the scratch ports read and write the word at their index and move on (R272, R273). -/
def Obligations.CueMemories : Prop :=
  (∀ (n : Fin 24) (s : State),
    let w := s.word n
    let pc := s.cpc n
    let i := (s.a1 n w + iSext w).toNat
    let a := (s.a1 n w).toNat
    let b := s.a2 n w
    let f := s.flags n
    let old (x : Nat) : Word40 := w40 (s.scr x).toNat
    let keeps (x : Nat) (v : Word) (t : State) := (∀ j, t.scr j = if j = x then v else s.scr j) ∧ ∀ m j, t.dmemAt m j = s.dmemAt m j
    (Runs s n 0x24 .i 0x100 → pc ≠ 16383 → i < 8192 → s.eccAt (dmKey n i) ≠ 2 → Does (.cuLd n) s fun t =>
      Gives s n (iRd w) (s.dmemAt n i) f t ∧ (∀ m j, t.dmemAt m j = s.dmemAt m j) ∧ ∀ j, t.scr j = s.scr j) ∧
    (Runs s n 0x24 .i 0x100 → pc ≠ 16383 → 8192 ≤ i → s.ie n = true → Does (.cuLd n) s (Trapped s n 1 pc i)) ∧
    (Runs s n 0x25 .s 0x100 → pc ≠ 16383 → i < 8192 → Does (.cuSt n) s fun t =>
      Goes s n (pc + 1) t ∧ (∀ m j, j < 8192 → t.dmemAt m j = if m = n ∧ j = i then b else s.dmemAt m j) ∧ ∀ j, t.scr j = s.scr j) ∧
    (Runs s n 0x26 .i 0x100 → pc ≠ 16383 → i < 262144 → s.eccAt (scrKey i) ≠ 2 → Does (.cuLdx n) s fun t =>
      Gives s n (iRd w) (old i) f t ∧ keeps i (s.scr i) t) ∧
    (Runs s n 0x26 .i 0x100 → pc ≠ 16383 → 262144 ≤ i → s.ie n = true → Does (.cuLdx n) s (Trapped s n 1 pc i)) ∧
    (Runs s n 0x27 .s 0x100 → pc ≠ 16383 → i < 262144 → Does (.cuStx n) s fun t => Goes s n (pc + 1) t ∧ keeps i (w32 b.toNat) t) ∧
    (Runs s n 0x28 .r 0x102 → pc ≠ 16383 → a < 262144 → s.eccAt (scrKey a) ≠ 2 → Does (.cuAmoadd n) s fun t =>
      Gives s n (iRd w) (old a) f t ∧ keeps a (s.scr a + w32 b.toNat) t) ∧
    (Runs s n 0x29 .r 0x102 → pc ≠ 16383 → a < 262144 → s.eccAt (scrKey a) ≠ 2 → Does (.cuAmoswp n) s fun t =>
      Gives s n (iRd w) (old a) f t ∧ keeps a (w32 b.toNat) t) ∧
    (Runs s n 0x2A .r 0x102 → pc ≠ 16383 → a < 262144 → s.eccAt (scrKey a) ≠ 2 → Does (.cuCas n) s fun t =>
      let hit := s.scr a == w32 (s.creg n (iRd w)).toNat
      Gives s n (iRd w) (old a) (setZ f hit) t ∧ keeps a (if hit then w32 b.toNat else s.scr a) t)) ∧
  (∀ (o : Origin) (n : Fin 24) (p : Fin 4) (v : Word) (s : State),
    let ix (t : State) := t.get (F.CU_DM_IDX_INDEX n)
    let x := ix s
    let sx (t : State) := t.get (F.CUS_SCR_IDX_INDEX p.val)
    let answers (r : Reg) (i : Nat) (v : Word) (t : State) := s.out ++ [.readData (orgOf o) (keyAddr (r, [i])) v] <+: t.out
    (Answers s o (.CU_DM_LO, [n.val]) → s.eccAt (dmKey n x) ≠ 2 → Does (.dmLoRead o n) s fun t =>
      answers .CU_DM_LO n (w32 (s.dmemAt n x).toNat) t ∧ (t.cue n).dmLatch = (s.dmemAt n x).toNat / 2 ^ 32 ∧ ix t = x) ∧
    (Answers s o (.CU_DM_HI, [n.val]) → Does (.dmHiRead o n) s fun t =>
      answers .CU_DM_HI n (w32 (s.cue n).dmLatch) t ∧ ix t = (x + 1) % 2 ^ 13) ∧
    (Reaches s o (.CU_DM_LO, [n.val]) v → Does (.dmLoWrite o n v) s fun t => (t.cue n).dmHold = v ∧ t.dmem = s.dmem ∧ ix t = x) ∧
    (Reaches s o (.CU_DM_HI, [n.val]) v → Does (.dmHiWrite o n v) s fun t =>
      (∀ m j, j < 8192 → t.dmemAt m j = if m = n ∧ j = x then w40 (bits v 7 0 * 2 ^ 32 + (s.cue n).dmHold.toNat) else s.dmemAt m j) ∧
      ix t = (x + 1) % 2 ^ 13) ∧
    (Answers s o (.CUS_SCR_DATA, [p.val]) → s.eccAt (scrKey (sx s)) ≠ 2 → Does (.scrDataRead o p) s fun t =>
      answers .CUS_SCR_DATA p (s.scr (sx s)) t ∧ sx t = (sx s + 1) % 2 ^ 18 ∧ t.scratch = s.scratch) ∧
    (Reaches s o (.CUS_SCR_DATA, [p.val]) v → Does (.scrDataWrite o p v) s fun t =>
      (∀ j, t.scr j = if j = sx s then v else s.scr j) ∧ sx t = (sx s + 1) % 2 ^ 18))

/-- RDR and LYR read a register with the engine's origin, and WRR, LYW and WRF write one: Z says that the access was made, and the engine goes on. A
read without permission returns 0 with Z clear and latches ACC_REF. An address that names no register takes trap RANGE (R275 to R277, R280).

KICK posts a write and goes on, with at most four outstanding. The oldest is judged as a write with the engine's origin at the KICK; one that is
refused latches KICK_REF and, where enabled, takes trap KICK at a boundary (R278). -/
def Obligations.CueAccesses : Prop :=
  (∀ (n : Fin 24) (k : Key) (s : State),
    let w := s.word n
    let pc := s.cpc n
    let a := (s.a1 n w + iSext w).toNat
    let l := s.layerAddr n w
    let o := cuOriginAt n pc s.fresh.1
    let f := s.flags n
    let v := w32 (s.a2 n w).toNat
    let field := setBits (s.seen k (orgOf o).cls) (wrfLsb w + wrfWidth w - 1) (wrfLsb w) (s.a2 n w).toNat
    let plainRead := ¬ [Reg.SL_SEQ_LO, .TB_TIME_SL, .TB_TSQ_POP, .LT_BITS_LO, .LT_ERRORS, .CK_RUN, .CU_DM_LO, .CU_DM_HI, .CUS_SCR_DATA, .DT_GLY_DATA].contains k.1 ∧
      (keyHdr k).headD 0 ≠ 20
    let reads (t : State) := Gives s n (iRd w) (w40 (s.seen k (orgOf o).cls).toNat) (setZ f true) t
    let denied (t : State) := t.creg n (iRd w) = 0 ∧ t.flags n = setZ f false ∧ (t.rd (.xx_STATUS, [20, n])).getLsbD 4 = true ∧
      (s.get (F.CU_TRAP_EN_ACC n) = 0 → Calm s n → t.cpc n = pc + 1 ∧ t.cst n = 1)
    let plainWrite (v : Word) := special.contains k.1 = false ∧ slowCode k = none ∧ (keyHdr k).headD 0 ≠ 20 ∧ Reaches s o k v ∧ Unlocked s k ∧
      (∀ x ∈ (regDef k.1).fields, x.acc ≠ .w1) ∧ fieldsApart (regDef k.1).fields = true ∧ isMw (regDef k.1) = false ∧ ∀ x, s.valueRule k x = .ok
    let writes (v : Word) (t : State) :=
      (∀ m r, t.creg m r = s.creg m r) ∧ t.flags n = setZ f true ∧ (Calm s n → t.cpc n = pc + 1 ∧ t.cst n = 1) ∧
      ∀ x ∈ (regDef k.1).fields, x.acc = .rw → bits (t.rd k) x.hi x.lo = bits v x.hi x.lo
    pc ≠ 16383 → (s.cue n).kicks = [] →
    (Runs s n 0x2C .i 0x100 → regAddrOk a = true → decodeAddr a = .reg k → Answers s o k → plainRead → Does (.cuRdr n) s reads) ∧
    (Runs s n 0x34 .i 0x101 → n.val < 16 → layerImmOk w = true → decodeAddr l = .reg k → Answers s o k → plainRead → Does (.cuLyr n) s reads) ∧
    (Runs s n 0x2C .i 0x100 → regAddrOk a = true → decodeAddr a = .reg k → s.readable = true → s.rights o ((keyHdr k).headD 0) = 0 →
      iRd w ≠ 0 → Does (.cuRdr n) s denied) ∧
    (Runs s n 0x2D .s 0x100 → regAddrOk a = true → decodeAddr a = .reg k → plainWrite v → Does (.cuWrr n) s (writes v)) ∧
    (Runs s n 0x35 .s 0x101 → n.val < 16 → layerImmOk w = true → decodeAddr l = .reg k → plainWrite v → Does (.cuLyw n) s (writes v)) ∧
    (Runs s n 0x2F .f 0x102 → wrfOk w = true → regAddrOk (s.a1 n w).toNat = true → decodeAddr (s.a1 n w).toNat = .reg k → plainRead →
      Answers s o k → plainWrite field → Does (.cuWrf n) s (writes field)) ∧
    (Runs s n 0x2C .i 0x100 → regAddrOk a = false → s.ie n = true → Does (.cuRdr n) s (Trapped s n 1 pc a)) ∧
    (Runs s n 0x2D .s 0x100 → regAddrOk a = false → s.ie n = true → Does (.cuWrr n) s (Trapped s n 1 pc a)) ∧
    (Runs s n 0x34 .i 0x101 → n.val < 16 → layerImmOk w = false → s.ie n = true → Does (.cuLyr n) s (Trapped s n 1 pc l)) ∧
    (Runs s n 0x35 .s 0x101 → n.val < 16 → layerImmOk w = false → s.ie n = true → Does (.cuLyw n) s (Trapped s n 1 pc l))) ∧
  (∀ (n : Fin 24) (a pc : Nat) (v : Word) (ks : List (Nat × Word × Nat)) (k : Key) (s : State),
    let w := s.word n
    let i := (s.a1 n w + iSext w).toNat
    let o := cuOriginAt n pc s.fresh.1
    let kicks (t : State) := (t.cue n).kicks
    let plainWrite := special.contains k.1 = false ∧ slowCode k = none ∧ (keyHdr k).headD 0 ≠ 20 ∧ Reaches s o k v ∧ Unlocked s k ∧
      (∀ x ∈ (regDef k.1).fields, x.acc ≠ .w1) ∧ fieldsApart (regDef k.1).fields = true ∧ isMw (regDef k.1) = false ∧ ∀ x, s.valueRule k x = .ok
    (Runs s n 0x2E .s 0x100 → s.cpc n ≠ 16383 → regAddrOk i = true → (kicks s).length < 4 → Does (.cuKick n) s fun t =>
      Goes s n (s.cpc n + 1) t ∧ kicks t = kicks s ++ [(i, w32 (s.a2 n w).toNat, s.cpc n)]) ∧
    (Runs s n 0x2E .s 0x100 → s.cpc n ≠ 16383 → regAddrOk i = true → 4 ≤ (kicks s).length → Does (.cuKick n) s fun t =>
      t.cues = s.cues ∧ t.regs = s.regs) ∧
    (Runs s n 0x2E .s 0x100 → s.cpc n ≠ 16383 → regAddrOk i = false → s.ie n = true → Does (.cuKick n) s (Trapped s n 1 (s.cpc n) i)) ∧
    (kicks s = (a, v, pc) :: ks → decodeAddr a = .reg k → plainWrite → Calm s n → Does (.kickJudged n) s fun t =>
      kicks t = ks ∧ t.cpc n = s.cpc n ∧ t.cst n = s.cst n ∧ ∀ x ∈ (regDef k.1).fields, x.acc = .rw → bits (t.rd k) x.hi x.lo = bits v x.hi x.lo) ∧
    (kicks s = (a, v, pc) :: ks → decodeAddr a = .reg k → isMw (regDef k.1) = false → s.served = true → s.rights o ((keyHdr k).headD 0) ≠ 3 → Calm s n →
      s.get (F.CU_TRAP_EN_KICK n) = 1 → s.cst n = 1 → s.ie n = true → Does (.kickJudged n) s fun t =>
        kicks t = ks ∧ (t.rd (.xx_STATUS, [20, n])).getLsbD 3 = true ∧ Trapped s n 4 (s.cpc n) a t) ∧
    (kicks s = [] → Calm s n → Does (.kickJudged n) s fun t => t.cues = s.cues ∧ t.regs = s.regs))

/-- COMMIT writes CEk_COMMIT for a head and waits for the end of its check, or goes on with rd = 2^32 and Z clear where the write is refused; RELEASE
writes the release time of a head and then CEk_RELEASE, and Z says that all three writes were accepted (R281, R282). -/
def Obligations.CueCommitsAndReleases : Prop :=
  ∀ (n : Fin 24) (h : Nat) (c : CommitSet) (s : State),
    let w := s.word n
    let pc := s.cpc n
    let o := cuOriginAt n pc s.fresh.1
    let time := (s.a2 n w).toNat
    let stat (t : State) := t.rd (.CE_CSTAT, [h / 2, h % 2])
    let held (t : State) := t.get (F.CE_RELEASE_AT_LO_T (h / 2) (h % 2)) = time % 2 ^ 32 ∧ t.get (F.CE_RELEASE_AT_HI_T (h / 2) (h % 2)) = time / 2 ^ 32 % 2 ^ 8
    pc ≠ 16383 → (s.cue n).kicks = [] → selHead n w = some h → s.served = true → s.rights o 14 = 3 →
    (Runs s n 0x36 .i 0x100 → iImm w < 64 → iImm w / 32 = 0 → s.checking h = false → Does (.cuCommit n) s fun t =>
      t.cst n = 2 ∧ t.cpc n = pc ∧ (t.cue n).wait = some ⟨.commit h, iRd w, s.tick, none⟩ ∧
      stat t = w32 (1 + (s.a1 n w).toNat % 65536 * 65536) ∧ ∀ m r, t.creg m r = s.creg m r) ∧
    (Runs s n 0x36 .i 0x100 → iImm w < 128 → s.checking h = true → s.get (F.CU_TRAP_EN_ACC n) = 0 → Does (.cuCommit n) s fun t =>
      Gives s n (iRd w) (w40 (2 ^ 32)) (setZ (s.flags n) false) t ∧ stat t = stat s ∧ (t.rd (.xx_STATUS, [20, n])).getLsbD 4 = true) ∧
    (Runs s n 0x37 .s 0x102 → iImm w < 64 → (s.head h).prepared = none → s.get (F.CU_TRAP_EN_ACC n) = 0 → Does (.cuRelease n) s fun t =>
      held t ∧ t.flags n = setZ (s.flags n) false ∧ (t.rd (.xx_STATUS, [20, n])).getLsbD 4 = true ∧ ∀ m r, t.creg m r = s.creg m r) ∧
    (Runs s n 0x37 .s 0x102 → iImm w / 32 = 1 → (s.head h).prepared = some c → c.head = h → c.members = [] → (s.head h).latest = c.serial →
      Does (.cuRelease n) s fun t =>
        held t ∧ t.flags n = setZ (s.flags n) true ∧ (t.head h).prepared = none ∧ bits (stat t) 2 0 = 7 ∧ bits (stat t) 7 4 = 14 ∧
        (∀ m r, t.creg m r = s.creg m r) ∧ (Calm s n → t.cpc n = pc + 1 ∧ t.cst n = 1))

/-- The waits: one for an event that has occurred, for a head that does not run, or for a time that is past goes on at once with the result that its
rule gives; any other waits. A time or line that is past sets LATE and is counted within the late window, and takes trap LATE beyond it (R283, R294,
R298 to R304).

A wait completes once what satisfies it has been delivered: the engine goes on, rd takes the data, a time or line wait takes the domain time, and a
COMMIT sets Z by the state of the commit; a halt that waited for a COMMIT is made then. Before its delivery nothing happens (R281, R289, R294, R301). -/
def Obligations.CueWaits : Prop :=
  (∀ (n : Fin 24) (s : State),
    let w := s.word n
    let pc := s.cpc n
    let rd := iRd w
    let f := s.flags n
    let code := iImm w % 256
    let line := (s.a1 n w).toNat % 8192
    let waits (kind : WaitKind) (hit : Option (Nat × Bool × Nat)) (t : State) :=
      t.cst n = 2 ∧ t.cpc n = pc ∧ (t.cue n).wait = some ⟨kind, rd, s.tick, hit⟩ ∧ ∀ m r, t.creg m r = s.creg m r
    let d := ((s.a1 n w).toNat + 2 ^ 40 - s.cueTime) % 2 ^ 40
    let goal := targetOf (s.head n).frame (s.a1 n w).toNat
    let l := iImm w % 8192
    pc ≠ 16383 →
    (∀ x, Runs s n 0x38 .i 0x100 → iRs1 w = 0 → 16 ≤ code → code ≤ 23 → s.evtLatch n code = some x → s.delivered x.2 = true → Does (.cuWaite n) s fun t =>
      Gives s n rd (w40 x.1) f t ∧ (Calm s n → t.evtLatch n code = none)) ∧
    (∀ x, Runs s n 0x38 .i 0x100 → iRs1 w = 0 → 16 ≤ code → code ≤ 23 → s.evtLatch n code = some x → s.delivered x.2 = false →
      Does (.cuWaite n) s fun t => waits (.device code) (some (x.1, false, x.2)) t ∧ t.evtLatch n code = none) ∧
    (Runs s n 0x38 .i 0x100 → iRs1 w = 0 → 16 ≤ code → code ≤ 23 → s.evtLatch n code = none → Does (.cuWaite n) s (waits (.device code) none)) ∧
    (Runs s n 0x38 .i 0x100 → iRs1 w = 0 → code ≤ 8 → n.val < 16 → s.hst n ≤ 1 → Does (.cuWaite n) s (Gives s n rd (w40 (2 ^ 40 - 1)) f)) ∧
    (Runs s n 0x38 .i 0x100 → iRs1 w = 0 → code ≤ 10 → n.val < 16 → 1 < s.hst n ∨ 8 < code → s.undelivered n code none none = none →
      Does (.cuWaite n) s (waits (.head code) none)) ∧
    (Runs s n 0x39 .i 0x100 → n.val < 16 → s.lineOk n line = true → s.hst n ≤ 1 → Does (.cuWaitl n) s (Gives s n rd (w40 (2 ^ 40 - 1)) f)) ∧
    (Runs s n 0x39 .i 0x100 → n.val < 16 → s.lineOk n line = true → 1 < s.hst n → s.undelivered n 0 (some line) none = none →
      Does (.cuWaitl n) s (waits (.line line) none)) ∧
    (Runs s n 0x3A .i 0x100 → d = 0 → Does (.cuWaitt n) s (Gives s n rd (w40 s.cueTime) (setLate f false))) ∧
    (Runs s n 0x3A .i 0x100 → d ≠ 0 → d < 2 ^ 39 → Does (.cuWaitt n) s (waits (.until (s.a1 n w).toNat) none)) ∧
    (Runs s n 0x3A .i 0x100 → 2 ^ 39 ≤ d → 2 ^ 40 - d ≤ s.lateWindow n → Does (.cuWaitt n) s fun t =>
      Gives s n rd (w40 s.cueTime) (setLate f true) t ∧ t.get (F.CU_LATE_CNT_COUNT n) = min (s.get (F.CU_LATE_CNT_COUNT n) + 1) 65535) ∧
    (Runs s n 0x3A .i 0x100 → 2 ^ 39 ≤ d → s.lateWindow n < 2 ^ 40 - d → Calm s n → s.ie n = true → Does (.cuWaitt n) s fun t =>
      t.get (F.CU_ECAUSE_VECTOR n) = 2 ∧ t.get (F.CU_EPC_EPC n) = pc + 1 ∧ t.get (F.CU_EDATA_DATA n) = min (2 ^ 40 - d) 0xFFFFFFFF ∧
      (t.cue n).eflags = setLate f true ∧ t.ie n = false ∧ t.cpc n = (s.get (F.CU_VBASE_PC n) + 2) % 2 ^ 14) ∧
    (Runs s n 0x3B .i 0x101 → n.val < 16 → s.lineOk n l = true → s.hst n ≤ 1 → Does (.cuWaitp n) s (Gives s n rd (w40 (2 ^ 40 - 1)) f)) ∧
    (Runs s n 0x3B .i 0x101 → n.val < 16 → s.lineOk n l = true → 1 < s.hst n → s.undelivered n 0 (some l) (some goal.toNat) = none →
      ((s.head n).frame : Int) < goal ∨ (goal = ((s.head n).frame : Int) ∧ (s.head n).line < l) →
      Does (.cuWaitp n) s (waits (.frameLine goal.toNat l) none))) ∧
  (∀ (n : Fin 24) (kind : WaitKind) (rd since data at_ : Nat) (s : State),
    let f := s.flags n
    let hit := (s.cue n).wait = some ⟨kind, rd, since, some (data, false, at_)⟩ ∧ at_ + 2 ≤ s.tick
    let timed := (∃ t, kind = .until t) ∨ ∃ x y, kind = .frameLine x y
    rd < 32 → s.cpc n ≠ 16383 →
    (hit → s.cst n = 2 → ¬ timed → (∀ h, kind ≠ .commit h) → Does (.waitComplete n) s fun t =>
      Gives s n rd (w40 data) f t ∧ (t.cue n).wait = none) ∧
    (hit → s.cst n = 2 → timed → data ≠ 2 ^ 40 - 1 → Does (.waitComplete n) s fun t =>
      Gives s n rd (w40 s.cueTime) (setLate f false) t ∧ (t.cue n).wait = none) ∧
    (∀ h, hit → s.cst n = 2 → kind = .commit h → Does (.waitComplete n) s (Gives s n rd (w40 data) (setZ f (2 ≤ data % 8 && data % 8 ≤ 4)))) ∧
    (hit → s.cst n = 3 → Does (.waitComplete n) s fun t => t.cst n = 0 ∧ t.get (F.CU_STAT_STOP n) = 2) ∧
    ((s.cue n).wait = none ∨ (∃ k r t, (s.cue n).wait = some ⟨k, r, t, none⟩) → Does (.waitComplete n) s fun t => t.cues = s.cues ∧ t.regs = s.regs))

/-- What others do to an engine: RUN = 1 starts a halted engine whose image level is set, from its entry or, with RESUME, where it stands; RUN = 0 halts
it at its next boundary, abandons a wait, and lets a COMMIT end first; and a doorbell or a parameter is a device event for it (R288 to R290, R297). -/
def Obligations.CueEnginesAreControlled : Prop :=
  ∀ (o : Origin) (n : Fin 24) (resume : Bool) (i : Fin 16) (v : Word) (s : State),
    let may (w : Word) := Reaches s o (.CU_CTRL, [n.val]) w
    let ready := s.cst n = 0 ∧ s.get (F.CU_IMG_LEVEL n) ≠ 0
    let fresh (step : Bool) (t : State) := t.cst n = 1 ∧ t.ie n = true ∧ t.cpc n = s.get (F.CU_ENTRY_PC n) ∧ t.flags n = 0 ∧
      (t.cue n).cycle = 0 ∧ (t.cue n).late = none ∧ (t.cue n).kick = none ∧ (t.cue n).step = step ∧
      ∀ c, 16 ≤ c → c < 24 → t.evtLatch n c = none
    let resumes (step : Bool) (t : State) := t.cst n = 1 ∧ t.ie n = true ∧ t.cpc n = s.cpc n ∧ t.flags n = s.flags n ∧ (t.cue n).step = step ∧
      (t.cue n).cycle = (s.cue n).cycle
    let off := s.get (F.CU_IMG_LEVEL n) = 0 ∨ s.cst n = 3
    (may (w32 0x70001) → ready → Does (.cuStart o n) s (fresh false)) ∧
    (may (w32 0x70001) → off → Does (.cuStart o n) s (Counted [20, n.val] s)) ∧
    (may (w32 0x70003) → ready → Does (.cuResume o n) s (resumes false)) ∧
    (may (w32 0x70003) → off → Does (.cuResume o n) s (Counted [20, n.val] s)) ∧
    (may (w32 (0x70005 + 2 * b2n resume)) → ready → Does (.cuStep o n resume) s (if resume then resumes true else fresh true)) ∧
    (may (w32 0x10000) → s.cst n = 1 → Does (.cuHaltRequest o n) s fun t => t.cst n = 0 ∧ t.get (F.CU_STAT_STOP n) = 2) ∧
    (may (w32 0x10000) → s.cst n = 2 → (∀ x h, (s.cue n).wait = some x → x.kind ≠ .commit h) → Does (.cuHaltRequest o n) s fun t =>
      t.cst n = 0 ∧ t.get (F.CU_STAT_STOP n) = 2 ∧ (t.cue n).wait = none ∧ (Calm s n → t.cpc n = s.cpc n)) ∧
    (∀ x h, may (w32 0x10000) → s.cst n = 2 → (s.cue n).wait = some x → x.kind = .commit h → Does (.cuHaltRequest o n) s fun t =>
      t.cst n = 3 ∧ (t.cue n).wait = some x) ∧
    (may (w32 0x10000) → s.cst n = 0 → Does (.cuHaltRequest o n) s fun t => t.cst n = 0 ∧ t.cues = s.cues) ∧
    (Reaches s o (.CU_DOORBELL, [n.val]) v → (s.cue n).wait = none → Does (.cuDoorbell o n v) s fun t =>
      t.evtLatch n 16 = some (bits v 15 0, s.tick) ∧
      t.get ⟨(.CU_EVT_OVR, [n.val]), 15, 0⟩ = if s.evtLatch n 16 = none then s.get ⟨(.CU_EVT_OVR, [n.val]), 15, 0⟩
        else min (s.get ⟨(.CU_EVT_OVR, [n.val]), 15, 0⟩ + 1) 65535) ∧
    (∀ rd since, Reaches s o (.CU_DOORBELL, [n.val]) v → (s.cue n).wait = some ⟨.device 16, rd, since, none⟩ → Does (.cuDoorbell o n v) s fun t =>
      (t.cue n).wait = some ⟨.device 16, rd, since, some (bits v 15 0, false, s.tick)⟩ ∧ t.evt = s.evt) ∧
    (Reaches s o (.CU_PARAM, [n.val, i.val]) v → (s.cue n).wait = none → Does (.paramWrite o n i v) s fun t =>
      t.rd (.CU_PARAM, [n.val, i.val]) = v ∧ t.evtLatch n 17 = some (i.val, s.tick)) ∧
    (Reaches s o (.CU_IMG, [n.val]) v → s.cst n = 0 → bits v 15 0 ∈ [0, 0x100, 0x101, 0x102] → Does (.imgLevelWrite o n v) s fun t =>
      t.get (F.CU_IMG_LEVEL n) = bits v 15 0) ∧
    (Reaches s o (.CU_IMG, [n.val]) v → s.cst n = 0 → bits v 15 0 ∉ [0, 0x100, 0x101, 0x102] → Does (.imgLevelWrite o n v) s fun t =>
      t.get (F.CU_IMG_LEVEL n) = s.get (F.CU_IMG_LEVEL n) ∧ (t.rd (.xx_STATUS, [20, n])).getLsbD 5 = true ∧ Raised 0x014 s t)

/-! ### The register fabric -/

/-- An accepted write of a register that is no command stores each writable field as asked, under the mask where the register has one,
and touches no other register (R15, R40 to R42).

A write that the fabric turns away stores nothing: a reserved address is counted as unmapped, a write without permission is counted
and raised, a write of part of a word is counted, and a write of no byte, or before the fabric serves, does nothing. A longer write is the
writes of its words, each judged on its own, in ascending address (R44). -/
def Obligations.WritesStoreOrAreTurnedAway : Prop :=
  (∀ (o : Origin) (a : Nat) (v : Word) (s : State) (k : Key),
    decodeAddr a = .reg k → a < 2 ^ 26 → special.contains k.1 = false → slowCode k = none → Reaches s o k v → Unlocked s k →
    (∀ f ∈ (regDef k.1).fields, f.acc ≠ .w1) → fieldsApart (regDef k.1).fields = true → emptyMask (.reg k) v 15 = false →
    (∀ w, s.valueRule k w = .ok) →
    Does (.registerWrite o a v 15 []) s fun t =>
      (∀ f ∈ (regDef k.1).fields, f.acc = .rw → isMw (regDef k.1) = false → bits (t.rd k) f.hi f.lo = bits v f.hi f.lo) ∧
      (∀ f ∈ (regDef k.1).fields, f.acc = .mw → f.hi = f.lo → f.hi < 16 →
        bits (t.rd k) f.hi f.lo = if v.getLsbD (16 + f.lo) then bits v f.hi f.lo else bits (s.rd k) f.hi f.lo) ∧
      (∀ j, j ≠ k → t.rd j = s.rd j) ∧
      Only [.out, .irqOwed, .msix, .eff, .waiting, .w1, .sl] (some [k.1]) s t) ∧
  (∀ (o : Origin) (a : Nat) (v : Word) (be : BitVec 4) (s : State),
    let up (f : Fld) := min (s.get f + 1) 255
    (∀ more, Does (.registerWrite o a v be more) s fun t =>
      t = (((v, be) :: more).zipIdx.foldl (fun (u : State) e => u.wordWrite o (a + 4 * e.2) e.1.1 e.1.2.toNat) s).finish) ∧
    (a < 2 ^ 26 → s.served = true → be.toNat ≠ 0 → decodeAddr a = .reserved → Does (.registerWrite o a v be []) s fun t =>
      t.get F.DV_ACC_ERR_UNMAPPED = up F.DV_ACC_ERR_UNMAPPED ∧ Only [.out, .irqOwed, .msix, .sl] (some [.DV_ACC_ERR]) s t) ∧
    (∀ k, a < 2 ^ 26 → s.served = true → be.toNat = 15 → decodeAddr a = .reg k → emptyMask (.reg k) v 15 = false → s.slowFull (.reg k) = none → s.rights o ((keyHdr k).headD 0) ≠ 3 →
      Does (.registerWrite o a v be []) s fun t =>
        t.get F.DV_ACC_ERR_DENIED_WR = up F.DV_ACC_ERR_DENIED_WR ∧
        t.get ⟨(.FC_CNT, [4]), 15, 0⟩ = min (s.get ⟨(.FC_CNT, [4]), 15, 0⟩ + 1) 65535 ∧
        Only [.out, .irqOwed, .msix, .heads, .cues, .evt, .fc, .sl] (some [.DV_ACC_ERR, .CU_EVT_OVR, .FC_CNT, .FC_FIRST_ID, .FC_FIRST_ORG,
          .FC_FIRST_TAI_NS, .FC_FIRST_TAI_SH, .FC_FIRST_TAI_SL, .FC_LAT, .FC_OVF, .FC_SUPPRESSED, .xx_STATUS]) s t) ∧
    (∀ k, a < 2 ^ 26 → s.served = true → be.toNat ≠ 0 → be.toNat ≠ 15 → decodeAddr a = .reg k → s.slowFull (.reg k) = none → s.rights o ((keyHdr k).headD 0) = 3 →
      Does (.registerWrite o a v be []) s fun t =>
        t.get F.DV_ACC_ERR_PARTIAL = up F.DV_ACC_ERR_PARTIAL ∧ Only [.out, .irqOwed, .msix, .sl] (some [.DV_ACC_ERR]) s t) ∧
    (a < 2 ^ 26 → be.toNat = 0 ∨ s.served = false → Does (.registerWrite o a v be []) s fun t => Only [.out, .irqOwed, .msix] (some []) s t))

/-- A read returns the bytes asked of what the register shows; the fields that a read clears are 0 after it, a status word in clear-on-read mode loses the
bits that it returned, and a read without permission returns 0 and is counted.

A status word clears the bits written as 1 where the write names its present SEQ, and stays where it names another (R53). -/
def Obligations.ReadsAndStatusWords : Prop :=
  (∀ (o : Origin) (a : Nat) (s : State) (k : Key),
    decodeAddr a = .reg k →
    let answers (v : Word) (t : State) := s.out ++ [.readData (orgOf o) a v] <+: t.out
    let seen := s.shown k (orgOf o).cls
    (∀ i n, a % 4 = 0 → a < 2 ^ 26 → 0 < n → i + n ≤ 4 → Answers s o k → slowCode k = none → k.1 ≠ .xx_STATUS →
      ¬ [Reg.SL_SEQ_LO, .TB_TIME_SL, .TB_TSQ_POP, .LT_BITS_LO, .LT_ERRORS, .CK_RUN].contains k.1 →
      ¬ [Reg.CU_DM_LO, .CU_DM_HI, .CUS_SCR_DATA, .DT_GLY_DATA].contains k.1 →
      fieldsApart (regDef k.1).fields = true → Does (.readClear o (a + i) n) s fun t =>
        (∃ w, answers w t ∧ ∀ j, j < 4 → bits w (8 * j + 7) (8 * j) = if i ≤ j ∧ j < i + n then bits seen (8 * j + 7) (8 * j) else 0) ∧
        (∀ f ∈ (regDef k.1).fields, bits (t.rd k) f.hi f.lo = if f.acc = .rc then 0 else bits (s.rd k) f.hi f.lo) ∧
        Only [.out, .irqOwed, .msix] (some [k.1]) s t) ∧
    (Answers s o k → slowCode k = none → k.1 = .xx_STATUS → s.get ⟨(.xx_STATUS_MODE, k.2), 0, 0⟩ = 1 → Does (.statusCorRead o a) s fun t =>
      answers (setBits (s.rd k) 31 24 0) t ∧ bits (t.rd k) 23 0 = 0 ∧ bits (t.rd k) 31 24 = bits (s.rd k) 31 24 ∧
      Only [.out, .irqOwed, .msix] (some [.xx_STATUS]) s t) ∧
    (s.readable = true → s.rights o ((keyHdr k).headD 0) = 0 → k.1 ≠ .CK_RUN → Does (.registerReadDenied o a) s fun t =>
      answers 0 t ∧ t.get F.DV_ACC_ERR_DENIED_RD = min (s.get F.DV_ACC_ERR_DENIED_RD + 1) 255 ∧
      Only [.out, .irqOwed, .msix] (some [.DV_ACC_ERR]) s t)) ∧
  (∀ (o : Origin) (a : Nat) (v : Word) (s : State) (b : List Nat),
    decodeAddr a = .reg (.xx_STATUS, b) → Reaches s o (.xx_STATUS, b) v → slowCode (.xx_STATUS, b) = none →
    s.get ⟨(.xx_STATUS_MODE, b), 0, 0⟩ = 0 →
    Does (.statusSeqClear o a v) s fun t =>
      (∀ i, i < 24 → (t.rd (.xx_STATUS, b)).getLsbD i =
        ((s.rd (.xx_STATUS, b)).getLsbD i && !(v.getLsbD i && decide (bits v 31 24 = bits (s.rd (.xx_STATUS, b)) 31 24)))) ∧
      bits (t.rd (.xx_STATUS, b)) 31 24 = bits (s.rd (.xx_STATUS, b)) 31 24 ∧ ∀ j, j ≠ (.xx_STATUS, b) → t.rd j = s.rd j)

/-- A write of a slow block that the fabric lets through waits in the queue of its block; one that it refuses is counted and raised, and one
that comes while the queue is full is held. When a write arrives it stores the fields asked of a register that is no command; and the
copies that reads show are taken, or grow older, at a clock edge (R58 to R60). -/
def Obligations.SlowWritesWaitAndArrive : Prop :=
  (∀ (o : Origin) (a : Nat) (v : Word) (s : State) (k : Key) (c : Nat),
    decodeAddr a = .reg k → a < 2 ^ 26 → slowCode k = some c → Reaches s o k v → emptyMask (.reg k) v 15 = false →
    ((mget slowD s.slowQ c).length < 16 → (s.slowJudge c k v).judge ≠ .viol → k.1 ≠ .xx_AGE → Does (.registerWrite o a v 15 []) s fun t =>
      mget slowD t.slowQ c = mget slowD s.slowQ c ++ [(orgOf o, a, v.toNat)] ∧ t.rd k = s.rd k ∧
      t.get ⟨(.xx_AGE, [c, 0]), 8, 8⟩ = 1) ∧
    ((mget slowD s.slowQ c).length < 16 → (s.slowJudge c k v).judge = .viol → k.1 ≠ .xx_REFUSED → Does (.registerWrite o a v 15 []) s fun t =>
      t.slowQ = s.slowQ ∧ t.rd k = s.rd k ∧
      t.get ⟨(.xx_REFUSED, keyHdr k), 15, 0⟩ = min (s.get ⟨(.xx_REFUSED, keyHdr k), 15, 0⟩ + 1) 65535) ∧
    (16 ≤ (mget slowD s.slowQ c).length → Does (.registerWrite o a v 15 []) s fun t =>
      t.slowQ = s.slowQ ∧ t.regs = s.regs ∧ mget slowHoldD t.slowHold c = mget slowHoldD s.slowHold c ++ [(o, a, v, 15)])) ∧
  (∀ (b : SlowBlk) (s : State) (g : Org) (a : Nat) (v : Word) (rest : List (Org × Nat × Nat)) (k : Key),
    mget slowD s.slowQ (slowBlkCode b) = (g, a, v.toNat) :: rest → mget slowHoldD s.slowHold (slowBlkCode b) = [] → s.dv.heldWrites = false → s.dv.railsOff = false →
    decodeAddr a = .reg k → special.contains k.1 = false → Unlocked s k → (∀ f ∈ (regDef k.1).fields, f.acc ≠ .w1) →
    slowCode k = some (slowBlkCode b) → fieldsApart (regDef k.1).fields = true → (∀ w, s.valueRule k w = .ok) →
    Does (.slowWriteArrive b) s fun t =>
      mget slowD t.slowQ (slowBlkCode b) = rest ∧
      ∀ f ∈ (regDef k.1).fields, f.acc = .rw → isMw (regDef k.1) = false → bits (t.rd k) f.hi f.lo = bits v f.hi f.lo) ∧
  (∀ (b : SlowBlk) (s : State),
    let age (f : Nat × Nat) : Fld := ⟨(.xx_AGE, [slowBlkCode b, 0]), f.1, f.2⟩
    Does (.slowCopyRefresh b true) s (fun t => t.get (age (7, 0)) = 0 ∧
      ((s.regs.map (·.1)).Nodup → ∀ k, copied (slowBlkCode b) k = true → k.1 ≠ .xx_LIVE → mget resetVal t.slowCopy k = s.rd k)) ∧
    Does (.slowCopyRefresh b false) s fun t =>
      t.get (age (7, 0)) = min (s.get (age (7, 0)) + 1) 255 ∧ t.slowCopy = s.slowCopy)

/-!  -/

/-- A write of DV_SNAP asks for a capture of the blocks that it names, and is refused and counted while a write-out goes on (R61, R62).

On the first tick after the request every counter of the blocks asked for is held, DV_SNAP_ID counts, and the time of the tick is
recorded; no counter changes (R61, R62).

A write-out that completes leaves the capture page in local memory at its base, one part after another, and BUSY ends (R61). -/
def Obligations.Snapshots : Prop :=
  (∀ (o : Origin) (v : Word) (s : State), Reaches s o (.DV_SNAP, []) v →
    (s.flag F.DV_SNAP_STAT_BUSY = false → Does (.snapRequest o v) s fun t =>
      t.dv.snapReq = some (bits v 20 0 ||| (s.dv.snapReq.map (·.1)).getD 0, s.tick) ∧
      t.get F.DV_SNAP_STAT_BUSY = b2n (bits v 20 17 != 0) ∧ ∀ j : Key, j.1 ≠ .DV_SNAP_STAT → t.rd j = s.rd j) ∧
    (s.flag F.DV_SNAP_STAT_BUSY = true → Does (.snapRequest o v) s fun t =>
      t.dv = s.dv ∧ t.get ⟨(.xx_REFUSED, [0, 0]), 15, 0⟩ = min (s.get ⟨(.xx_REFUSED, [0, 0]), 15, 0⟩ + 1) 65535 ∧
      t.fc = s.fc ∧ ∀ j : Key, j.1 ≠ .xx_REFUSED → t.rd j = s.rd j)) ∧
  (∀ (s : State) (mask t0 : Nat), s.dv.snapReq = some (mask, t0) →
    (s.tick ≤ t0 → Does .snapshotCapture s fun t => t.dv = s.dv ∧ t.holding = s.holding) ∧
    (t0 < s.tick → Does .snapshotCapture s fun t =>
      (∀ c b k, c < 17 → nbit mask c = true → b ∈ holdBlks c → k ∈ blkCounters b → mget (fun _ => 0) t.holding k = s.captured k) ∧
      (∀ k, (∀ c b, c < 17 → nbit mask c = true → b ∈ holdBlks c → k ∉ blkCounters b) →
        mget (fun _ => 0) t.holding k = mget (fun _ => 0) s.holding k) ∧
      t.rd (.DV_SNAP_ID, []) = s.rd (.DV_SNAP_ID, []) + 1 ∧
      t.get F.DV_SNAP_TAI_SL_SEC_LO = s.tb.sec % 2 ^ 32 ∧ t.get F.DV_SNAP_TAI_SH_SEC_HI = s.tb.sec / 2 ^ 32 % 2 ^ 16 ∧
      t.get F.DV_SNAP_TAI_NS_NS = s.tb.ns % 2 ^ 32 ∧ t.dv.snapReq = none ∧
      Only [.out, .irqOwed, .msix, .holding, .dv] (some [.DV_SNAP_ID, .DV_SNAP_TAI_SL, .DV_SNAP_TAI_SH, .DV_SNAP_TAI_NS, .DV_SNAP_STAT]) s t)) ∧
  (∀ (s : State), s.flag F.DV_SNAP_STAT_BUSY = true → s.dv.snapReq = none →
    let base := s.get F.DV_SNAP_BASE_HI_ADDR * 2 ^ 32 + s.get F.DV_SNAP_BASE_LO_ADDR * 4096
    Does .snapshotWriteOutDone s fun t =>
      t.get F.DV_SNAP_STAT_BUSY = 0 ∧ t.dv.snapPage = [] ∧
      (∀ p, s.dv.snapPage = [p] → Stored false {} ((base + p.1) % memSize) p.2 s t) ∧
      (∀ x, (∀ p ∈ s.dv.snapPage, ¬ ((base + p.1) % memSize ≤ x ∧ x < (base + p.1) % memSize + p.2.length)) → t.byte x = s.byte x))

/-- PF0 may write the rights of each slot but 0, 20 to 23 and 31, once; a pair of bits 2 is kept as 1; another origin, a fixed slot and a
second write that would change the slot are refused and raised (R63, R64). -/
def Obligations.PermissionsAreWrittenOnce : Prop :=
  ∀ (o : Origin) (slot : Fin 32) (hi : Bool) (v : Word) (s : State),
    let k : Key := (if hi then .DV_PERM_HI else .DV_PERM_LO, [slot.val])
    let n := if hi then 5 else 16
    let pairs (w : Word) (i : Nat) := bits w (2 * i + 1) (2 * i)
    let kept (i : Nat) := if pairs v i = 2 then 1 else pairs v i
    let marks := bits (mget (fun _ => 0) s.w1 k) (2 * n - 1) 0
    let fixed := slot.val = 0 ∨ (20 ≤ slot.val ∧ slot.val < 24) ∨ slot.val = 31
    let refused (t : State) := t.rd k = s.rd k ∧ t.get ⟨(.FC_CNT, [4]), 15, 0⟩ = min (s.get ⟨(.FC_CNT, [4]), 15, 0⟩ + 1) 65535
    s.served = true →
    (o = .pf 0 → s.rights o 0 = 3 → ¬ fixed → marks = 0 → Does (.permWrite o slot hi v) s fun t =>
      (∀ i, i < n → pairs (t.rd k) i = kept i) ∧ (∀ j, j ≠ k → t.rd j = s.rd j)) ∧
    (o = .pf 0 → s.rights o 0 = 3 → ¬ fixed → marks ≠ 0 → (∃ i, i < n ∧ kept i ≠ pairs (s.rd k) i) → Does (.permWrite o slot hi v) s refused) ∧
    ((orgOf o).cls ≠ 1 ∨ fixed → Does (.permWrite o slot hi v) s refused)

/-- A host writes and reads local memory through BAR2 where the link is up and its function is not in reset: the bytes that no
protected window keeps are stored; a read returns the bytes, or is poisoned where it meets an uncorrectable unit. Otherwise nothing
is stored and nothing is answered (R34, R247). Through BAR4 it writes the words of its MSI-X table, one word after another; a vector
that is unmasked sends the message that pends on it; a read returns the word or the pending bits (R32; log 5).

The PCIe link: a fall clears the host rings, every mailbox and session, and is raised; a function-level reset clears what belongs to
its function and no other mailbox; and the link comes up from boot step 3 on, unless a lane of it is under test (R76, R433, R470). -/
def Obligations.PcieFunctions : Prop :=
  ((∀ (f : Fin 4) (a n : Nat) (data : List Byte) (s : State),
    (s.barOpen f.val = true → Does (.bar2Write f a data) s fun t => Stored true (pfOrg f.val) (a % memSize) data s t) ∧
    (s.barOpen f.val = false → Does (.bar2Write f a data) s fun t => t.mem = s.mem ∧ t.regs = s.regs) ∧
    (s.barOpen f.val = true → s.badIn (a % memSize) n = false → Does (.bar2Read f a n) s fun t =>
      s.out ++ [.bar2Data f.val a (some (s.bytes (a % memSize) n))] <+: t.out ∧ Only [.out, .irqOwed, .msix] (some []) s t) ∧
    (s.barOpen f.val = true → s.badIn (a % memSize) n = true → Does (.bar2Read f a n) s fun t =>
      s.out ++ [.bar2Data f.val a none] <+: t.out ∧ Only [.out, .irqOwed, .msix] (some []) s t)) ∧
  (∀ (f : Fin 4) (i j : Nat) (v : Word) (s : State), i < 256 → j < 4 → s.dv.pcieUp = true → f.val ∉ s.dv.flr →
    let a := 2 ^ 26 + 16 * i + 4 * j
    (s.irqOwed = [] → Does (.registerWrite (.pf f) a v 15 []) s fun t =>
      (t.vec f.val i).word j = (if j = 3 then v &&& 1 else v) ∧ (∀ m, m < 4 → m ≠ j → (t.vec f.val i).word m = (s.vec f.val i).word m) ∧
      (∀ g m, m < 256 → (g, m) ≠ (f.val, i) → t.vec g m = s.vec g m) ∧ t.regs = s.regs ∧
      (t.vec f.val i).pending = ((s.vec f.val i).pending && (t.vec f.val i).masked) ∧
      ((s.vec f.val i).pending = true → (t.vec f.val i).masked = false →
        t.out = s.out ++ [.irq f.val i (t.vec f.val i).addr (t.vec f.val i).data])) ∧
    Does (.readClear (.pf f) a 4) s fun t =>
      s.out ++ [.readData (orgOf (.pf f)) a ((s.vec f.val i).word j)] <+: t.out ∧ Only [.out, .irqOwed, .msix] (some []) s t) ∧
  (∀ (f : Fin 4) (i b : Nat) (s : State), i < 8 → b < 32 → s.dv.pcieUp = true → f.val ∉ s.dv.flr →
    Does (.readClear (.pf f) (2 ^ 26 + 4096 + 4 * i) 4) s fun t => ∃ w,
      s.out ++ [.readData (orgOf (.pf f)) (2 ^ 26 + 4096 + 4 * i) w] <+: t.out ∧ w.getLsbD b = (s.vec f.val (32 * i + b)).pending)) ∧
  (∀ (s : State) (f : Fin 4),
    let idle (g : Nat) (t : State) := t.get (F.DV_MBX_STAT_STATE g) = 0 ∧ t.get (sessionFld g) = 0 ∧ (t.mb g).posted = none
    (s.dv.pcieUp = true → Does .pcieLinkDown s fun t =>
      t.dv.pcieUp = false ∧ t.msix = [] ∧ t.hqs = [] ∧ (∀ g, g < 4 → idle g t) ∧ Raised 0x003 s t ∧
      (∀ k, hqKey k = true → t.rd k = resetVal k) ∧ t.mem = s.mem) ∧
    (s.dv.pcieUp = false → Does .pcieLinkDown s fun t => t.dv.pcieUp = false ∧ (∀ g, g < 4 → idle g t) ∧ t.fc = s.fc) ∧
    (Does (.flr f) s fun t =>
      idle f.val t ∧ f.val ∈ t.dv.flr ∧ (∀ v ∈ t.msix, v.1 / 256 ≠ f.val) ∧
      (∀ g : Fin 4, g ≠ f → t.get (F.DV_MBX_STAT_STATE g.val) = s.get (F.DV_MBX_STAT_STATE g.val) ∧ t.get (sessionFld g.val) = s.get (sessionFld g.val)) ∧
      ∀ r, r < 64 → s.flag (F.HQ_CTRL_EN r) = true → s.hqOwner r = f.val → t.get (F.HQ_CTRL_EN r) = 0 ∧ t.get (F.HQ_STAT_STATE r) = 0) ∧
    (3 ≤ s.dv.step → s.dv.railsOff = false → (List.range 8).any s.laneTested = false → Does .pcieLinkUp s fun t =>
      t.dv = { s.dv with pcieUp := true } ∧ t.regs = s.regs) ∧
    (s.dv.step < 3 ∨ s.dv.railsOff = true ∨ (List.range 8).any s.laneTested = true → Does .pcieLinkUp s fun t => t.dv = s.dv))

/-- A write of SL_RD_SEQ_HI loads the entry with the SEQ asked for where the ring holds it, and says where it does not; a read of
SL_SEQ_LO returns the number of the next entry and keeps its high half for SL_SEQ_HI (R440, R443).

Entries are mirrored in the order of SEQ while no record is written; a record goes into the slot that does not
hold the newer copy, is in force once it verifies, and one that does not raises CL_WRITE and
is written again; the erase of last-good records waits for the slow domain and invalidates the heads named (R441, R445, R446, R450). -/
def Obligations.LogAndCellar : Prop :=
  ((∀ (o : Origin) (v : Word) (s : State), Reaches s o (.SL_RD_SEQ_HI, []) v →
    let q := bits v 15 0 * 2 ^ 32 + s.get F.SL_RD_SEQ_LO_SEQ
    (∀ e, s.sl.ring.find? (fun e => e.1 == q) = some e → Does (.entryRead o v) s fun t =>
      t.get F.SL_RD_STAT_VALID = 1 ∧ ∀ i, i < 8 → t.rd (.SL_RD_W, [i]) = w32 (ofBytesLE (((Entry.bytes e.2).drop (4 * i)).take 4))) ∧
    (s.sl.ring.find? (fun e => e.1 == q) = none → Does (.entryRead o v) s fun t =>
      t.get F.SL_RD_STAT_VALID = 0 ∧ ∀ i, i < 8 → t.rd (.SL_RD_W, [i]) = 0)) ∧
  (∀ (o : Origin) (s : State), Answers s o (.SL_SEQ_LO, []) → Does (.seqLatchRead o) s fun t =>
    s.out ++ [.readData (orgOf o) (keyAddr (.SL_SEQ_LO, [])) (w32 s.sl.next)] <+: t.out ∧
    t.sl = { s.sl with readHi := s.sl.next / 2 ^ 32 % 65536 } ∧ t.regs = s.regs)) ∧
  (∀ (o : Origin) (v : Word) (g : Org) (a : Nat) (rest : List (Org × Nat × Nat)) (r : Rec) (q : List Rec) (s : State),
    let idle := s.sl.holding = false ∧ s.sl.resetSeq = none ∧ s.cl.queue = [] ∧ s.fc.clrWait = false ∧ s.dv.heldWrites = false
    let writes := s.cl.queue = r :: q ∧ s.fc.clrWait = false
    let slow (t : State) := mget slowD t.slowQ 3
    let older (n : Nat) (t : State) := mget storeD t.cl.older n
    let entry (n : Nat) (t : State) := mget slotD t.cl.mirror (n % 262144)
    (s.healthy = true → idle → s.sl.mirrored < s.sl.next → Does .mirrorEntry s fun t =>
      t.sl.mirrored = s.sl.mirrored + 1 ∧ entry s.sl.mirrored t = some (mget entryD s.sl.ring s.sl.mirrored) ∧ t.sl.lost = none) ∧
    (s.healthy = false ∨ s.sl.next ≤ s.sl.mirrored ∨ s.cl.queue ≠ [] → Does .mirrorEntry s fun t => t.sl = s.sl ∧ t.cl = s.cl) ∧
    (∀ ok, s.cl.queue = [] ∨ s.fc.clrWait = true → Does (.cellarRecordDone ok) s fun t => t.cl = s.cl ∧ t.regs = s.regs) ∧
    (writes → Does (.cellarRecordDone false) s fun t =>
      t.cl.queue = s.cl.queue ∧ t.cl.store = s.cl.store ∧ t.cl.failed = true ∧ (r.region ≠ 7 → older (recKey r) t = none) ∧ (t.rd (.xx_STATUS, [3, 0])).getLsbD 1 = true ∧ Raised 0x1FA s t) ∧
    (writes → (∀ b f x, r.body ≠ .control b f x) → Does (.cellarRecordDone true) s fun t =>
      t.cl.queue = q ∧ (q = [] → t.get F.CL_STAT_BUSY = 0) ∧
      (∀ e, r.body = .fault e → mget slotD t.cl.history (s.cl.historyN % 2048) = some e ∧ t.cl.historyN = s.cl.historyN + 1) ∧
      ((∀ e, r.body ≠ .fault e) → t.record (recKey r) = some r.body ∧ older (recKey r) t = mget storeD s.cl.store (recKey r) ∧ t.cl.failed = false) ∧
      (∀ c n regs, r.body = .lastGood c n regs → t.get (F.CL_LG_STAT_VALID r.head) = 1 ∧ t.get (F.CL_LG_VINT_VINTAGE r.head) = n % 65536)) ∧
    (Reaches s o (.CL_LG_ERASE, []) v → (slow s).length < 16 → Does (.lgErase o v) s fun t =>
      slow t = slow s ++ [(orgOf o, keyAddr (.CL_LG_ERASE, []), v.toNat)] ∧ t.cl = s.cl) ∧
    (slow s = (g, a, v.toNat) :: rest → decodeAddr a = .reg (.CL_LG_ERASE, []) → mget slowHoldD s.slowHold 3 = [] → s.dv.heldWrites = false → s.dv.railsOff = false →
      Does (.slowWriteArrive .cl) s fun t =>
        slow t = rest ∧ ∀ n, n < 16 →
          t.get (F.CL_LG_STAT_VALID n) = (if v.getLsbD n then 0 else s.get (F.CL_LG_STAT_VALID n)) ∧
          t.record (16 + n) = if v.getLsbD n then none else s.record (16 + n)))

/-! ### Modes, resets and boot -/

/-- DV_CTRL.OPERATE brings the device into the mode of the time base, and back to STANDBY once no head runs; while one runs it stays; and
SHUTDOWN begins the shutdown, which stops no head at once unless it is a forced one (R68, R71, R75).

Once the heads have stopped, the Cellar's queue is empty and the seal is written, the rails go off in the reverse of the order in which
they went on, and no register is served (R75, R478).

The supply warning begins the hold-up and raises PS_SUPPLY_LOSS, or before boot step 3 stops the start; 9,950 µs later register writes and mirroring
stop and the seal is written; a release before boot step 3 lets the rails start again (R71, R447, R479). -/
def Obligations.ShutdownAndPowerLoss : Prop :=
  (∀ (o : Origin) (s : State),
    (∀ v, Reaches s o (.DV_CTRL, []) v) →
    (Undisturbed s → Does (.operate o true) s fun t => t.get F.DV_CTRL_OPERATE = 1 ∧ t.mode = s.get F.TB_STATE_STATE) ∧
    (Undisturbed s → s.anyRunning = false → Does (.operate o false) s fun t => t.get F.DV_CTRL_OPERATE = 0 ∧ t.mode = 3) ∧
    (s.anyRunning = true → Does (.operate o false) s fun t => t.get F.DV_CTRL_OPERATE = s.get F.DV_CTRL_OPERATE) ∧
    (s.shutForced = true → s.mode ≠ 11 → Does (.shutdown o) s fun t =>
      t.mode = 11 ∧ ∀ n, n < 16 → t.hst n = if s.running n then 0 else s.hst n) ∧
    (s.shutForced = false → s.mode ≠ 11 → Does (.shutdown o) s fun t =>
      t.dv.shutting = true ∧ t.mode = 11 ∧
      (∀ n, n < 16 → t.hst n = if s.hst n = 1 then 0 else if s.hst n = 2 then 3 else s.hst n) ∧
      (∀ n, n < 8 → t.spSt n = 0) ∧ ∀ l, l < 80 → t.get (F.LT_STAT_STATE l) ≠ 1)) ∧
  (∀ (s : State),
    (s.mode = 11 → s.modeNow = 11 → s.dv.railsOff = false → s.cl.queue = [] → s.anyRunning = false → s.healthy = false ∨ s.cl.sealDone = true →
      Does .shutdownRailsOff s fun t =>
        t.dv.railsOff = true ∧ t.dv.pcieUp = false ∧ t.served = false ∧ t.readable = false ∧
        s.out ++ s.ps.rails.reverse.map (fun r => .rail r false) <+: t.out ∧ t.ps.rails = [] ∧
        ∀ r ∈ s.ps.rails, r < 16 → t.get (F.PS_RAIL_STAT_GOOD r) = 0) ∧
    (s.mode = 11 → s.modeNow = 11 → s.anyRunning = true ∨ s.cl.queue ≠ [] ∨ (s.healthy = true ∧ s.cl.sealDone = false) →
      Does .shutdownRailsOff s fun t => t.dv = s.dv ∧ t.regs = s.regs)) ∧
  (∀ s : State,
    let due := ∃ t0, s.dv.warnTick = some t0 ∧ t0 + 3980000 ≤ s.tick
    (s.dv.step < 3 → Does .supplyLossWarning s fun t => t.dv.step = 0 ∧ t.dv.warnLow = true) ∧
    (3 ≤ s.dv.step → s.dv.warnTick = none → Does .supplyLossWarning s fun t =>
      t.dv.warnTick = some s.tick ∧ t.dv.warnLow = true ∧ t.dv.step = s.dv.step ∧ Raised 0x1F3 s t) ∧
    (3 ≤ s.dv.step → s.dv.warnTick ≠ none → Does .supplyLossWarning s fun t => t.dv.warnTick = s.dv.warnTick ∧ t.fc = s.fc) ∧
    (s.dv.warnLow = false → Does .supplyWarnRelease s fun t => t.dv = s.dv ∧ t.regs = s.regs) ∧
    (s.dv.warnLow = true → Does .supplyWarnRelease s fun t =>
      t.dv.warnLow = false ∧ t.dv.warnTick = (if s.dv.step < 3 then some s.tick else s.dv.warnTick) ∧ t.regs = s.regs) ∧
    (3 ≤ s.dv.step → s.dv.heldWrites = false → due → Does .holdupSeal s fun t =>
      t.dv.heldWrites = true ∧ t.served = false ∧
      (t.healthy = true → t.cl.sealDone = true ∧ t.cl.queue = [] ∧
        t.record 6 = some (.control (t.flag F.CL_AUTO_RESTORE_EN) t.sl.floor (some t.sl.next)))) ∧
    (s.dv.step < 3 ∨ s.dv.heldWrites = true ∨ ¬ due → Does .holdupSeal s fun t => t.dv = s.dv ∧ t.cl = s.cl ∧ t.regs = s.regs))

/-- A warm or maintenance reset is asked for by PF0 or JTAG with the key, and waits; a service reset is made at once: the services are
not ready, no session is left, a command in progress ends with NO_SERVICE, the engines of the services are reset, and a locked time
base holds over. Another key or another origin is refused, and so are the first two in SHUTDOWN (R71, R77, R78).

A reset that was asked for begins once it is ready and, with a healthy Cellar, the seal is written: every register but those it keeps
shows its reset value, local memory and the memories of the cue engines stay, the count stays, and boot starts at step 1 (R76, R77,
R106, R266).

A cold reset leaves every register at its reset value and no local memory; a pin reset leaves the memories and the count of warm
resets; both leave the Cellar and the boot slots, and hold the device before boot step 1 (R76, R266, R481). -/
def Obligations.Resets : Prop :=
  (∀ (o : Origin) (key : BitVec 16) (s : State),
    (∀ v, Reaches s o (.DV_RESET, []) v) →
    let may := (orgOf o).cls = 1 ∨ (orgOf o).cls = 0x31
    let ask (kind : Nat) (t : State) :=
      t.dv.rstReq = some { kind, since := s.tick, seq := s.sl.next + s.sl.batch.length, records := s.cl.queue.length } ∧ t.regs = s.regs
    let refused (t : State) := t.dv = s.dv ∧ Counted [0, 0] s t
    (key = 0xA5C3 → may → s.mode ≠ 11 → Does (.warmReset o key) s (ask 1) ∧ Does (.maintenanceReset o key) s (ask 3)) ∧
    (key = 0xA5C3 → s.mode = 11 → Does (.warmReset o key) s refused ∧ Does (.maintenanceReset o key) s refused) ∧
    (key = 0xA5C3 → may → Does (.serviceReset o key) s fun t =>
        t.get F.DV_SVC_READY_READY = 0 ∧ t.get F.DV_RST_CAUSE_LAST = 2 ∧
        t.get F.DV_RST_CAUSE_WARM_CNT = min (s.get F.DV_RST_CAUSE_WARM_CNT + 1) 255 ∧ t.dv.svcSince = some s.tick ∧
        (∀ f, f < 4 → t.get (sessionFld f) = 0) ∧
        (∀ f, f < 4 → s.get (F.DV_MBX_STAT_STATE f) = 1 → t.get (F.DV_MBX_STAT_STATE f) = 2 ∧ t.get (F.DV_MBX_RESULT_CODE f) = 4) ∧
        (∀ n, 16 ≤ n → n < 20 → t.cst n = 0 ∧ t.cpc n = 0 ∧ t.rd (.CU_IMG, [n]) = s.rd (.CU_IMG, [n])) ∧
        (s.get F.TB_STATE_STATE = 6 → t.get F.TB_STATE_STATE = 7)) ∧
    (key ≠ 0xA5C3 ∨ ¬ may → Does (.warmReset o key) s refused ∧ Does (.maintenanceReset o key) s refused ∧ Does (.serviceReset o key) s refused)) ∧
  (∀ (s : State) (r : ResetReq), s.dv.rstReq = some r → r.kind = 1 ∨ r.kind = 3 →
    (s.resetReady r = true → s.healthy = false ∨ s.cl.sealDone = true → s.mode ≠ 11 → Does .resetBegin s fun t =>
      (∀ k : Key, warmKeeps k = false → k.1 ≠ .DV_RST_CAUSE → k.1 ≠ .CU_IMG → t.rd k = resetVal k) ∧
      (∀ k : Key, warmKeeps k = true → t.rd k = s.rd k) ∧ (∀ n, n < 24 → t.rd (.CU_IMG, [n]) = s.rd (.CU_IMG, [n])) ∧
      t.get F.DV_RST_CAUSE_LAST = r.kind ∧ t.get F.DV_RST_CAUSE_WARM_CNT = min (s.get F.DV_RST_CAUSE_WARM_CNT + 1) 255 ∧
      t.mem = s.mem ∧ t.imem = s.imem ∧ t.dmem = s.dmem ∧ t.scratch = s.scratch ∧
      t.tai = s.tai ∧ t.dv.step = 1 ∧ t.dv.warm = true ∧ t.dv.bootMaint = (r.kind == 3) ∧ t.heads = [] ∧ t.pending = s.pending) ∧
    (s.resetReady r = false ∨ s.mode = 11 → Does .resetBegin s fun t => t.dv = s.dv ∧ t.regs = s.regs)) ∧
  (∀ (s : State),
    (Does .coldReset s fun t => (∀ k, t.rd k = resetVal k) ∧ t.mem = [] ∧ t.imem = [] ∧ t.dv = { slots := s.dv.slots, rom := s.dv.rom, revoked := s.dv.revoked } ∧ t.cl = s.cl.kept ∧
      t.heads = [] ∧ t.pls = [] ∧ t.sps = [] ∧ t.tb = {}) ∧
    Does .pinReset s fun t =>
      (∀ k : Key, k.1 ≠ .DV_RST_CAUSE → k.1 ≠ .CU_IMG → t.rd k = resetVal k) ∧ (∀ n, n < 24 → t.rd (.CU_IMG, [n]) = s.rd (.CU_IMG, [n])) ∧
      t.get F.DV_RST_CAUSE_LAST = 4 ∧ t.get F.DV_RST_CAUSE_WARM_CNT = s.get F.DV_RST_CAUSE_WARM_CNT ∧
      t.mem = s.mem ∧ t.imem = s.imem ∧ t.dmem = s.dmem ∧ t.scratch = s.scratch ∧
      t.dv = { slots := s.dv.slots, rom := s.dv.rom, revoked := s.dv.revoked, resetLow := true, cold := false, att := s.dv.att } ∧
      t.ps.rails = s.ps.rails ∧ t.cl = s.cl.kept ∧ t.heads = [])

/-- The first steps of boot: a release of the reset samples the straps and takes a rail table that keeps the rules; where no supply
warning stands the rails of the table go on in their start order, and step 1 is made; and the check of the Cellar header makes steps 2
and 3, or ends a reset of the Cellar controller (R31, R80, R87, R88, R429, R452, R478).

The boot ROM takes the newer of two good slots with attempts left, or the only good one, and counts an attempt; a slot that is forced
it takes where that one is good, whatever the versions; with the strap, a maintenance reset or no slot it enters MAINTENANCE and says
why; a service that answers within two seconds ends the attempt; one that does not leads to a warm reset; and a missed watchdog of a
running service is raised (R83 to R86).

Boot ends with step 6, and with CL_AUTO_RESTORE on a healthy Cellar OPERATE is set; the heads are restored once, when the time base is
locked or HOLD has run out in a mode that starts heads, and not before (R71, R87, R89). -/
def Obligations.BootRunsInOrder : Prop :=
  (∀ (s : State) (straps : BitVec 4) (board : Option (List RailEntry)) (crcOk : Bool) (layout : Nat) (bad : List Nat),
    (s.dv.step = 0 → s.dv.released = false → Does (.resetRelease straps board) s fun t =>
      t.dv = { s.dv with released := true, resetLow := false, straps := straps.toNat, board := board.filter tableOk } ∧
      t.jtag.pins = false ∧ t.regs = s.regs) ∧
    (s.dv.step = 0 → s.dv.released = true → s.dv.warnLow = false → s.dv.warnTick = none → s.ps.rails = [] → Does .railsPowerGood s fun t =>
      let on := startOrder (s.dv.board.getD [])
      t.dv = { s.dv with step := 1, warnTick := none, railsOff := false } ∧ (∀ r ∈ on, r < 16 → t.get (F.PS_RAIL_STAT_GOOD r) = 1) ∧
      s.out ++ on.map (fun r => .rail r true) <+: t.out ∧ t.ps.rails = on) ∧
    (∀ w, s.dv.step = 0 → s.dv.warnTick = some w → s.tick < w + 40000000 → Does .railsPowerGood s fun t => t.dv = s.dv ∧ t.regs = s.regs) ∧
    (s.dv.step = 1 → layout < 256 → s.get F.TB_STATE_PLL_LOCK = 0 →
      (∀ l x y, (s.dropSlots bad).record 1 = some (.regs l x y) → ∀ e ∈ l, e.1 = (.DV_BOOT_CFG, [])) →
      Does (.cellarHeaderCheck crcOk layout bad) s fun t =>
      t.dv.step = 3 ∧ t.dv.booting = true ∧ t.get F.CL_STAT_LAYOUT = layout ∧ t.get F.CL_STAT_HEALTHY = b2n (crcOk && layout == 4) ∧
      t.get F.DV_BOOT_STAT_CELLAR_OK = b2n (crcOk && layout == 4) ∧ t.get F.DV_BOOT_STAT_ATT_A = t.dv.att.1 % 16 ∧
      (s.dv.cold = true → t.dv.att = if crcOk && layout == 4 then (0, 0) else s.dv.att) ∧
      (t.dv.shutting = false → t.fc.shut = false → t.mode = 1)) ∧
    (s.dv.step = 6 → s.fc.clrWait = true → Does (.cellarHeaderCheck crcOk layout bad) s fun t =>
      t.fc.clrWait = (!(crcOk && layout == 4)) ∧
      (∀ k, k ∉ bad → t.record k = s.record k) ∧ ∀ k, k ∈ bad → t.record k = none ∨ t.record k = (mget storeD s.cl.older k).map (·.1))) ∧
  (∀ (s : State) (a b : SlotCheck),
    let waits := s.dv.step = 4 ∧ s.dv.booting = true ∧ s.dv.svcSince = none ∧ s.dv.shutting = false ∧ s.fc.shut = false
    let good (i : Nat) (c : SlotCheck) := s.slotSound c = true ∧ s.attempts i < s.maxAtt
    let taken (i : Nat) (c : SlotCheck) (t : State) :=
      t.get F.DV_BOOT_STAT_SLOT = i ∧ t.get F.DV_BOOT_VER_VERSION = c.version.toNat ∧ t.attempts i = min (s.attempts i + 1) 15 ∧
      t.dv.running = i ∧ t.dv.svcSince = some s.tick
    let stopped (why : Nat) (t : State) := t.get F.DV_BOOT_STAT_MAINT = why ∧ t.dv.maint = true ∧ t.dv.booting = false ∧ t.mode = 2
    (waits → nbit s.dv.straps 0 = true → Does (.imageSelection a b) s (stopped 1)) ∧
    (waits → nbit s.dv.straps 0 = false → s.dv.bootMaint = true → Does (.imageSelection a b) s (stopped 4)) ∧
    (waits → nbit s.dv.straps 0 = false → s.dv.bootMaint = false → s.flag F.DV_BOOT_CFG_FORCE_EN = false →
      (good 0 a → good 1 b → b.version.toNat ≤ a.version.toNat → Does (.imageSelection a b) s (taken 0 a)) ∧
      (good 0 a → good 1 b → a.version.toNat < b.version.toNat → Does (.imageSelection a b) s (taken 1 b)) ∧
      (good 0 a → ¬ good 1 b → Does (.imageSelection a b) s (taken 0 a)) ∧ (¬ good 0 a → good 1 b → Does (.imageSelection a b) s (taken 1 b)) ∧
      (s.slotSound a = false → s.slotSound b = false → Does (.imageSelection a b) s (stopped 2)) ∧
      (¬ good 0 a → ¬ good 1 b → s.slotSound a = true ∨ s.slotSound b = true → Does (.imageSelection a b) s (stopped 3))) ∧
    (waits → nbit s.dv.straps 0 = false → s.dv.bootMaint = false → s.flag F.DV_BOOT_CFG_FORCE_EN = true →
      let i := s.get F.DV_BOOT_CFG_FORCE_SLOT
      let c (j : Nat) := if j = 0 then a else b
      (good i (c i) → Does (.imageSelection a b) s (taken i (c i))) ∧
      (¬ good i (c i) → good (1 - i) (c (1 - i)) → Does (.imageSelection a b) s (taken (1 - i) (c (1 - i))))) ∧
    (∀ t0, s.dv.svcSince = some t0 → s.tick ≤ t0 + ticksS 2 → s.dv.booting = true → Does .serviceReady s fun t =>
      t.get F.DV_SVC_READY_READY = 15 ∧ t.dv.step = 5 ∧ t.attempts s.dv.running = 0 ∧ t.dv.svcSince = none ∧ t.tb.servoUp = true) ∧
    (∀ t0, s.dv.svcSince = some t0 → t0 + ticksS 2 ≤ s.tick → s.dv.booting = true → s.dv.rstReq = none → s.mode ≠ 11 → Does .bootReadyTimeout s fun t =>
      t.dv.rstReq = some { kind := 1, since := s.tick, seq := s.sl.next + s.sl.batch.length, records := s.cl.queue.length } ∧ t.regs = s.regs) ∧
    (∀ e : Fin 4, nbit (s.get F.DV_SVC_READY_READY) e.val = true ∨ s.dv.svcSince.isSome = true → Does (.svcWdog e) s (Raised 0x013 s))) ∧
  (∀ (s : State),
    let auto := s.healthy && s.flag F.CL_AUTO_RESTORE_EN
    (s.dv.step = 5 → Does .bootComplete s fun t =>
      t.dv.step = 6 ∧ t.dv.booting = false ∧ t.dv.bootDone = (if auto then some s.tick else none) ∧
      t.get F.DV_CTRL_OPERATE = if auto then 1 else s.get F.DV_CTRL_OPERATE) ∧
    (∀ t0, s.dv.bootDone = some t0 → s.modeStarts true = true →
      s.get F.TB_STATE_STATE = 6 ∨ t0 + s.get F.DV_BOOT_CFG_HOLD * 40000000 ≤ s.tick → Does .headRestore s fun t =>
        t.get F.DV_BOOT_STAT_RESTORED = 1 ∧ t.dv.bootDone = none ∧
        ((∀ n, n < 16 → s.record (16 + n) = none) → (∀ n, n < 16 → 16 + n ∉ s.cl.corrupt) → t.heads = s.heads ∧ ∀ n, n < 16 → t.hst n = s.hst n) ∧
        (∀ n, n < 16 → 16 + n ∈ s.cl.corrupt → s.get ⟨(.FC_CNT, [0x1F9]), 15, 0⟩ < 65535 →
          s.get ⟨(.FC_CNT, [0x1F9]), 15, 0⟩ < t.get ⟨(.FC_CNT, [0x1F9]), 15, 0⟩)) ∧
    (∀ t0, s.dv.bootDone = some t0 → s.get F.TB_STATE_STATE ≠ 6 → s.tick < t0 + s.get F.DV_BOOT_CFG_HOLD * 40000000 →
      Does .headRestore s fun t => t.regs = s.regs ∧ t.dv = s.dv ∧ t.heads = s.heads))

/-! ### The Plestonas interface -/

/-- OPEN takes the highest version that both sides support, or ends the session and is raised where there is none; CLOSE ends the
session; GET_INFO answers and changes no register; each in MAINTENANCE too (R91, R96).

A command is turned away, without effect, with NO_SESSION before its function has a session, with NO_SERVICE while the services are not
ready, with DENIED without the right over its block, with BAD_LENGTH where its payload has another length, and with BAD_ARG where its
operands are out of range; a command that its session's version does not have, or that does not exist, ends with BAD_COMMAND (R92, R93, R95,
R96).

A command that has been served completes: STATE becomes DONE, the result and the response words are written, the mailbox is free, and the
completion interrupt is sent where it is enabled; a CANCEL of a command in progress says whether it has applied, and has no effect on
a mailbox without one (R93, R94). -/
def Obligations.MailboxSessions : Prop :=
  (∀ (f : Fin 4) (w : Word) (s : State), s.mbxServed true = true →
    let lo := bits w 15 0
    let hi := bits w 31 16
    (∀ v, Posted s f.val 1 [w] → v ∈ plesVersions → lo ≤ v → v ≤ hi → (∀ u ∈ plesVersions, lo ≤ u → u ≤ hi → u ≤ v) →
      Does (.openSession f) s fun t => t.get (sessionFld f.val) = v ∧ Served t f.val 0 [] true ∧
        ∀ g : Fin 4, g ≠ f → t.get (sessionFld g.val) = s.get (sessionFld g.val)) ∧
    (Posted s f.val 1 [w] → (∀ v ∈ plesVersions, ¬ (lo ≤ v ∧ v ≤ hi)) → Does (.openSession f) s fun t =>
      t.get (sessionFld f.val) = 0 ∧ Served t f.val 6 [] false ∧ Raised 0x014 s t) ∧
    (Asks s f.val 2 [] → s.get (sessionFld f.val) ≠ 0 → Does (.closeSession f) s fun t =>
      t.get (sessionFld f.val) = 0 ∧ Served t f.val 0 [] true) ∧
    (Posted s f.val 3 [] → Does (.getInfo f) s fun t =>
      t.regs = s.regs ∧ Served t f.val 0 (Config.mbxWords 3 [s.get F.DV_PART_PART, s.get F.DV_PART_STEPPING, s.dv.rom, s.get F.DV_BOOT_VER_VERSION,
        s.get F.CL_STAT_LAYOUT]) false)) ∧
  (∀ (f : Fin 4) (bw code : Nat) (words : List Word) (s : State),
    let away (n : Nat) (t : State) := Served t f.val n [] false ∧ t.regs = s.regs ∧ t.tb = s.tb
    (Posted s f.val 0x104 words → s.get (sessionFld f.val) = 0 → Does (.timeServo f bw) s (away 3)) ∧
    (Asks s f.val 0x104 words → s.get (sessionFld f.val) ≠ 0 → s.dv.maint = true ∨ s.get F.DV_SVC_READY_READY ≠ 15 →
      Does (.timeServo f bw) s (away 4)) ∧
    (Posted s f.val 0x104 words → Session s f.val → s.mbxKnown f.val 0x104 = false → Does (.timeServo f bw) s (away 1)) ∧
    (Asks s f.val 0x104 words → Session s f.val → ¬ MayWrite s f 5 → Does (.timeServo f bw) s (away 5)) ∧
    (Asks s f.val 0x104 words → Session s f.val → MayWrite s f 5 → bw = 0 ∨ 100 < bw → Does (.timeServo f bw) s (away 7)) ∧
    (Asks s f.val 0x100 words → Session s f.val → words ≠ [] → Does (.timeStatus f) s (away 2)) ∧
    (Posted s f.val code words → Session s f.val → code ∉ mbxCodes → Does (.mailboxComplete f) s fun t =>
      t.get (F.DV_MBX_STAT_STATE f.val) = 2 ∧ t.get (F.DV_MBX_RESULT_CODE f.val) = 1 ∧ (t.mb f.val).posted = none)) ∧
  (∀ (o : Origin) (f : Fin 4) (code : Nat) (words : List Word) (did : Bool) (s : State),
    let rsp (t : State) (i : Nat) := t.rd (.DV_MBX_RSP, [f.val, i])
    let busy := s.get (F.DV_MBX_STAT_STATE f.val) = 1
    (busy → (s.mb f.val).staged = some (code, words, did) → code < 65536 → Does (.mailboxComplete f) s fun t =>
      t.get (F.DV_MBX_STAT_STATE f.val) = 2 ∧ t.get (F.DV_MBX_RESULT_CODE f.val) = code ∧
      rsp t 0 = w32 (code + words.length % 256 * 65536) ∧ (∀ i, i < words.length → rsp t (i + 1) = words.getD i 0) ∧
      (t.mb f.val).posted = none ∧
      (s.flag (F.DV_MBX_VEC_EN f.val) = true →
        let x := s.vec f.val (s.get (F.DV_MBX_VEC_VECTOR f.val))
        if x.masked then (t.vec f.val (s.get (F.DV_MBX_VEC_VECTOR f.val))).pending = true
        else s.out ++ [.irq f.val (s.get (F.DV_MBX_VEC_VECTOR f.val)) x.addr x.data] <+: t.out)) ∧
    (busy → (s.mb f.val).staged = none → (∀ p, (s.mb f.val).posted = some p → p.1 ∈ mbxCodes) → Does (.mailboxComplete f) s fun t =>
      t.regs = s.regs ∧ t.mbx = s.mbx) ∧
    (Reaches s o (.DV_MBX_DOORBELL, [f.val]) 0x80000000 → busy → Does (.cancel o f) s fun t =>
      t.get (F.DV_MBX_STAT_STATE f.val) = 3 ∧ t.get (F.DV_MBX_RESULT_CODE f.val) = 8 ∧
      rsp t 1 = w32 (b2n (((s.mb f.val).staged.map (·.2.2)).getD false))) ∧
    (Reaches s o (.DV_MBX_DOORBELL, [f.val]) 0x80000000 → ¬ busy → Does (.cancel o f) s fun t => t.regs = s.regs ∧ t.mbx = s.mbx))

/-- Boot images: IMG_BEGIN opens a slot of at most 14 MiB that does not run, IMG_DATA writes 240 bytes into it, and IMG_END closes it and says
whether it verifies (R81, R96, R97).

The time commands: TIME_PTP_CFG, TIME_PTP_PORT and TIME_SERVO set what they carry where it is in range, at most one port being preferred, and a
slave port that may not be one any more ending as such;
TIME_LEAP writes the leap registers unless PTP gives them; TIME_STATUS answers and changes nothing (R117, R118, R123, R124).

The commands that read: GL_STATUS answers; GL_ROSTER gives the 256 members of a page as bits; CL_READ gives bytes of the Cellar, word by
word, where length and offset are in range; none changes a register (R417, R444, R451). -/
def Obligations.MailboxCommands : Prop :=
  (∀ (f : Fin 4) (i a n : Word) (ws : List Word) (c : SlotCheck) (s : State),
    s.get (sessionFld f.val) ≠ 0 → s.mbxServed true = true →
    (Asks s f.val 0x500 [i, n] → i.toNat < 2 → n.toNat ≤ slotSize → s.dv.maint = true ∨ i.toNat ≠ s.dv.running →
      Does (.imgBegin f) s fun t => Served t f.val 0 [] true ∧ t.dv.img = some i.toNat ∧ t.slot i.toNat = { length := n.toNat }) ∧
    (Asks s f.val 0x500 [i, n] → 2 ≤ i.toNat ∨ slotSize < n.toNat → Does (.imgBegin f) s fun t => Served t f.val 7 [] false ∧ t.dv = s.dv) ∧
    (Asks s f.val 0x500 [i, n] → i.toNat < 2 → n.toNat ≤ slotSize → s.dv.maint = false → i.toNat = s.dv.running →
      Does (.imgBegin f) s fun t => Served t f.val 5 [] false ∧ t.dv = s.dv) ∧
    (∀ j, Asks s f.val 0x501 (a :: ws) → ws.length = 60 → s.dv.img = some j → a.toNat + 240 ≤ slotSize → Does (.imgData f) s fun t =>
      Served t f.val 0 [] true ∧
      ∀ x, mget (fun _ => (0xFF : Byte)) (t.slot j).data x =
        if a.toNat ≤ x ∧ x < a.toNat + 240 then (ws.flatMap fun v => bytesLE 4 v.toNat).getD (x - a.toNat) 0
        else mget (fun _ => (0xFF : Byte)) (s.slot j).data x) ∧
    (∀ j, Asks s f.val 0x502 [] → s.dv.img = some j → Does (.imgEnd f c) s fun t =>
      Served t f.val 0 [w32 (b2n (s.slotSound c && decide (s.attempts j < s.maxAtt)))] true ∧ t.dv.img = none ∧
      (t.slot j).present = c.present ∧ (t.slot j).version = c.version.toNat) ∧
    (Asks s f.val 0x502 [] → s.dv.img = none → Does (.imgEnd f c) s fun t => Served t f.val 7 [] false ∧ t.dv = s.dv)) ∧
  (∀ (f p : Fin 4) (c : PtpConfig) (en : Bool) (role ofs bw : Nat) (ip leapAt : Word) (l61 l59 : Bool) (words : List Word) (s : State),
    Session s f.val → MayWrite s f 5 →
    let held (g : Nat) : PtpPort := s.ptp g
    (Asks s f.val 0x100 [] → Does (.timeStatus f) s fun t => t.regs = s.regs ∧ t.tb = s.tb ∧
      Served t f.val 0 (Config.mbxWords 0x100 [s.get F.TB_STATE_STATE, s.get F.TB_STATE_SRC, (s.rd (.TB_OFS, [])).toNat,
        (s.tb.pathDelay % 2 ^ 64).toNat, s.tb.gmId, s.clockClass, s.tb.stepsRemoved]) false) ∧
    (Asks s f.val 0x101 words → ptpOk c = true → Does (.timePtpCfg f c) s fun t =>
      Served t f.val 0 [] true ∧ t.tb = { s.tb with ptp := c } ∧ t.regs = s.regs) ∧
    (Asks s f.val 0x101 words → ptpOk c = false → Does (.timePtpCfg f c) s fun t => Served t f.val 7 [] false ∧ t.tb = s.tb) ∧
    (Asks s f.val 0x102 words → role ≤ 2 → (en = true → role = 2 → ∀ e ∈ s.tb.ports, e.1 ≠ p.val → ¬ (e.2.en = true ∧ e.2.role = 2)) →
      Does (.timePtpPort f p en role ip) s fun t =>
        let ends := (held p.val).slave && (!en || role == 1)
        let now (g : Nat) : PtpPort := if g = p.val then { held g with en := en, role := role, ip := ip } else held g
        Served t f.val 0 [] true ∧ ∀ g, t.ptp g = { now g with slave := (held g).slave && !ends }) ∧
    (Asks s f.val 0x102 words → 2 < role → Does (.timePtpPort f p en role ip) s fun t => Served t f.val 7 [] false ∧ t.tb = s.tb) ∧
    (Asks s f.val 0x103 words → s.get F.TB_STATE_SRC ≠ 1 → ¬ (l61 = true ∧ l59 = true) → ofs < 65536 →
      (∀ pc k v, k = (.TB_LEAP_AT, []) ∨ k = (.TB_UTC, []) → Reaches s (.cu 16 pc) k v) → Does (.timeLeap f ofs l61 l59 leapAt) s fun t =>
        Served t f.val 0 [] true ∧ t.rd (.TB_LEAP_AT, []) = leapAt ∧ t.get F.TB_UTC_OFS = ofs ∧ t.get F.TB_UTC_LEAP61 = b2n l61 ∧
        t.get F.TB_UTC_LEAP59 = b2n l59 ∧ t.get F.TB_UTC_VALID = 1) ∧
    (Asks s f.val 0x103 words → s.get F.TB_STATE_SRC = 1 ∨ (l61 = true ∧ l59 = true) ∨ 65536 ≤ ofs →
      Does (.timeLeap f ofs l61 l59 leapAt) s fun t => Served t f.val 7 [] false ∧ t.regs = s.regs) ∧
    (Asks s f.val 0x104 words → 1 ≤ bw → bw ≤ 100 → Does (.timeServo f bw) s fun t =>
      Served t f.val 0 [] true ∧ t.tb = { s.tb with bw := bw } ∧ t.regs = s.regs)) ∧
  (∀ (f : Fin 4) (page ofs len : Nat) (words : List Word) (s : State), Session s f.val →
    (Asks s f.val 0x400 [] → Does (.glStatus f) s fun t => t.regs = s.regs ∧ t.gl = s.gl ∧
      Served t f.val 0 (Config.mbxWords 0x400 [s.glRole, s.get F.GL_STATE_VER, s.get F.GL_STATE_LEADER, s.get F.GL_MEMBERS_COUNT,
        s.get F.GL_CID_CID, s.get F.GL_CSTAT_OUTCOME]) false) ∧
    (Asks s f.val 0x402 words → page ≤ 15 → Does (.glRoster f page) s fun t => t.regs = s.regs ∧ t.gl = s.gl ∧
      ∃ ws : List Word, Served t f.val 0 ws false ∧ ws.length = 8 ∧
        ∀ i b, i < 8 → b < 32 → (ws.getD i 0).getLsbD b = s.gl.roster.contains (256 * page + 32 * i + b)) ∧
    (Asks s f.val 0x402 words → 15 < page → Does (.glRoster f page) s fun t => Served t f.val 7 [] false ∧ t.regs = s.regs) ∧
    (Asks s f.val 0x4E0 words → 4 ≤ len → len ≤ 240 → len % 4 = 0 → ofs + len ≤ 0x1000000 → Does (.clRead f ofs len) s fun t =>
      t.regs = s.regs ∧ t.cl = s.cl ∧ ∃ ws : List Word, Served t f.val 0 ws false ∧ ws.length = len / 4 ∧
        ∀ i, i < len / 4 → ws.getD i 0 = w32 (ofBytesLE ((List.range 4).map fun b => s.cellarAt (ofs + 4 * i + b)))) ∧
    (Asks s f.val 0x4E0 words → len < 4 ∨ 240 < len ∨ len % 4 ≠ 0 ∨ 0x1000000 < ofs + len → Does (.clRead f ofs len) s fun t =>
      Served t f.val 7 [] false ∧ t.regs = s.regs))

/-! ### The time base -/

/-- A tick adds the applied increment to the count, which carries into nanoseconds and seconds, and what the count was becomes what the
cue engines see one and two ticks later; before boot step 4, and without rails, the count stands still (R31, R75, R99, R294).

A write of TB_INC_REQ_HI applies the increment asked for by both halves at once, or the nearest limit, which is counted and raised
(R100, R101). -/
def Obligations.TheCountAdvances : Prop :=
  (∀ (n : Nat) (u : List Upset) (s : State),
    Does (.timeTick n u) s (fun t => t.tick = s.tick + n + 1 ∧ t.pending = s.pending) ∧
    (s.tb.counting = true → s.dv.railsOff = false → Does (.timeTick 0 u) s fun t =>
      t.tb.sec = (unitsOf s.tai + s.inc) / 2 ^ 32 / 1000000000 % 2 ^ 48 ∧ t.tb.ns = (unitsOf s.tai + s.inc) / 2 ^ 32 % 1000000000 ∧
      t.tb.frac = (unitsOf s.tai + s.inc) % 2 ^ 32 ∧ t.tb.seen1 = s.dtime ∧ t.tb.seen2 = s.tb.seen1) ∧
    (s.tb.counting = false ∨ s.dv.railsOff = true → Does (.timeTick n u) s fun t => t.tai = s.tai)) ∧
  (∀ (o : Origin) (v : Word) (s : State), Reaches s o (.TB_INC_REQ_HI, []) v →
    let req := bits v 7 0 * 2 ^ 32 + s.get F.TB_INC_REQ_LO_FRAC
    let l := s.incLimits
    (l.1 ≤ req → req ≤ l.2 → Does (.incTransfer o v) s fun t => t.inc = req ∧ t.get F.TB_CLAMP_COUNT = s.get F.TB_CLAMP_COUNT) ∧
    (req < l.1 → l.1 < 2 ^ 40 → Does (.incTransfer o v) s fun t =>
      t.inc = l.1 ∧ t.get F.TB_CLAMP_COUNT = min (s.get F.TB_CLAMP_COUNT + 1) 65535 ∧ Raised 0x044 s t) ∧
    (l.1 ≤ req → l.2 < req → Does (.incTransfer o v) s fun t =>
      t.inc = l.2 ∧ t.get F.TB_CLAMP_COUNT = min (s.get F.TB_CLAMP_COUNT + 1) 65535 ∧ Raised 0x044 s t))

/-- A read of TB_TIME_SL returns the low seconds and latches the rest of the same count for its origin class alone; a pop of a stamp queue
returns the tag and queue of its oldest stamp, loads the time of that stamp and removes it, or returns 0 from an empty queue
(R102, R122).

HOLDOVER ends after TB_HOLD_MAX seconds, and not with 0; a leap applies when the count reaches TB_LEAP_AT with a leap flag set, moves the
UTC offset by one second and clears both flags; and the time record holds the count and the UTC offset (R106, R110, R123, R124). -/
def Obligations.TimeIsReadAndRecorded : Prop :=
  (∀ (o : Origin) (p : Fin 4) (s : State),
    let answers (k : Key) (v : Word) (t : State) := s.out ++ [.readData (orgOf o) (keyAddr k) v] <+: t.out
    (Answers s o (.TB_TIME_SL, []) → Does (.timeLatchRead o) s fun t =>
      answers (.TB_TIME_SL, []) (w32 s.tb.sec) t ∧ t.timeLatch (orgOf o).cls = (s.tb.sec / 2 ^ 32 % 65536, s.tb.ns, s.tb.frac) ∧
      (∀ c, c ≠ (orgOf o).cls → t.timeLatch c = s.timeLatch c) ∧ t.regs = s.regs) ∧
    (∀ x q, Answers s o (.TB_TSQ_POP, [p.val]) → s.stamps p.val = x :: q → Does (.tsqPop o p) s fun t =>
      answers (.TB_TSQ_POP, [p.val]) (w32 (x.tag % 65536 + x.queue % 16384 * 65536 + 2 ^ 31)) t ∧ t.stamps p.val = q ∧
      t.rd (.TB_TSQ_SL, [p.val]) = w32 x.at_.sec ∧ t.rd (.TB_TSQ_NS, [p.val]) = w32 x.at_.ns ∧
      (∀ j : Fin 4, j ≠ p → t.stamps j.val = s.stamps j.val)) ∧
    (Answers s o (.TB_TSQ_POP, [p.val]) → s.stamps p.val = [] → Does (.tsqPop o p) s fun t =>
      answers (.TB_TSQ_POP, [p.val]) 0 t ∧ t.regs = s.regs ∧ t.tb = s.tb)) ∧
  (∀ (s : State),
    let m := s.get F.TB_HOLD_MAX_SEC
    let rec' (ofs : Nat) (ok : Bool) : Rec := { region := 2, body := .time s.tb.sec s.tb.ns ofs ok }
    (s.get F.TB_STATE_STATE = 7 → m ≠ 0 → s.tb.holdSince + ticksS m ≤ s.tick → Does .holdLimit s fun t =>
      t.get F.TB_STATE_STATE = 4 ∧ Raised 0x042 s t) ∧
    (s.get F.TB_STATE_STATE ≠ 7 ∨ m = 0 ∨ s.tick < s.tb.holdSince + ticksS m → Does .holdLimit s fun t =>
      t.get F.TB_STATE_STATE = s.get F.TB_STATE_STATE ∧ t.tb = s.tb) ∧
    (s.flag F.TB_UTC_LEAP61 = true → s.tb.counting = true → leapNear s.tb.sec (s.get F.TB_LEAP_AT_SEC) ≤ s.tb.sec → Does .leapApply s fun t =>
      t.get F.TB_UTC_OFS = (s.get F.TB_UTC_OFS + 1) % 65536 ∧ t.get F.TB_UTC_LEAP61 = 0 ∧ t.get F.TB_UTC_LEAP59 = 0 ∧ t.tai = s.tai) ∧
    (s.flag F.TB_UTC_LEAP61 = false → s.flag F.TB_UTC_LEAP59 = true → s.tb.counting = true → leapNear s.tb.sec (s.get F.TB_LEAP_AT_SEC) ≤ s.tb.sec →
      Does .leapApply s fun t =>
        t.get F.TB_UTC_OFS = (s.get F.TB_UTC_OFS + 65535) % 65536 ∧ t.get F.TB_UTC_LEAP61 = 0 ∧ t.get F.TB_UTC_LEAP59 = 0 ∧ t.tai = s.tai) ∧
    ((s.flag F.TB_UTC_LEAP61 = false ∧ s.flag F.TB_UTC_LEAP59 = false) ∨ s.tb.sec < leapNear s.tb.sec (s.get F.TB_LEAP_AT_SEC) → Does .leapApply s fun t =>
      t.regs = s.regs ∧ t.tb = s.tb) ∧
    (s.tb.counting = true → s.healthy = true → Does .timeRecordWrite s fun t =>
      t.cl.queue = s.cl.queue ++ [rec' (s.get F.TB_UTC_OFS) (s.flag F.TB_UTC_VALID)] ∧ t.get F.CL_STAT_BUSY = 1) ∧
    (s.tb.counting = false → Does .timeRecordWrite s fun t => t.cl = s.cl))

/-- A measurement of the selected source: the first one before the first lock steps the count; within the thresholds it steers the locked
time base, and after the lock time it locks it; above the step threshold the third in a row ends the lock and asks for a re-step; and
the firmware writes the offset it measured. A measurement that cannot be made changes nothing of the time base (R107, R110, R113,
R114, R119).

The last usable source is lost: a locked time base holds over and the loss is raised, one that acquires for the first time is free again;
and a source that was lost may be chosen again after 30 seconds of use, not before (R108, R110). -/
def Obligations.SourcesSteerTheTimeBase : Prop :=
  (∀ (m : ServoMeasure) (s : State), s.served = true → s.rights (.cu 16 0) 5 = 3 →
    let c := srcCode m.src
    let off : Int := match m.src, m.ptp with
      | .ptp, some x => (s.ptpSolve x).2 / 2 ^ 32
      | _, _ => m.offset
    let keeps := s.mayMeasure m = true ∧ s.get F.TB_STATE_SRC = c ∧ s.flag F.TB_CTRL_REVERT = false ∧ m.newMaster = false ∧ m.announce = none
    let plain := keeps ∧ s.tb.needStep = false
    let small := off.natAbs ≤ s.stepThresh ∧ off.natAbs ≤ s.get F.TB_LOCK_THRESH_NS
    let steers (t : State) := s.incLimits.1 ≤ m.incReq % 2 ^ 40 → m.incReq % 2 ^ 40 ≤ s.incLimits.2 → t.inc = m.incReq % 2 ^ 40
    let said (t : State) := t.rd (.TB_OFS, []) = w32 (pattern 32 (clampI (-2147483648) 2147483647 off))
    (keeps → s.tb.needStep = true → s.flag F.TB_STATE_FIRST_LOCK = false → s.flag F.TB_CTRL_FIRST_STEP = true → s.anyRunning = false →
      s.get F.TB_STATE_STATE = 4 → Does (.servoMeasure m) s fun t =>
        t.tai = (let x := ofUnits (((unitsOf s.tai : Int) + off * (2 ^ 32 : Nat)).toNat); ⟨x.sec % 2 ^ 48, x.ns, x.frac⟩) ∧
        t.get F.TB_STEP_CNT_COUNT = min (s.get F.TB_STEP_CNT_COUNT + 1) 65535 ∧ t.get F.TB_STATE_STATE = 5 ∧ said t ∧ steers t) ∧
    (plain → small → s.get F.TB_STATE_STATE = 6 → Does (.servoMeasure m) s fun t =>
      t.get F.TB_STATE_STATE = 6 ∧ t.get F.TB_STATE_SRC = c ∧ said t ∧ steers t) ∧
    (∀ t0, plain → small → s.get F.TB_STATE_STATE = 5 → s.tb.within = some t0 → t0 + ticksS (s.get F.TB_LOCK_TIME_SEC) ≤ s.tick →
      Does (.servoMeasure m) s fun t => t.get F.TB_STATE_STATE = 6 ∧ t.get F.TB_STATE_FIRST_LOCK = 1 ∧ said t ∧ steers t) ∧
    (plain → small → s.get F.TB_STATE_STATE = 5 → s.tb.within = none → Does (.servoMeasure m) s fun t =>
      t.get F.TB_STATE_STATE = 5 ∧ t.tb.within = some s.tick ∧ said t ∧ steers t) ∧
    (plain → s.stepThresh < off.natAbs → s.get F.TB_STATE_STATE = 6 → s.tb.exceed = 2 → s.tb.exceedSrc = c →
      Does (.servoMeasure m) s fun t => t.get F.TB_STATE_STATE = 7 ∧ t.get F.TB_STATE_RESTEP_PEND = 1 ∧ said t ∧ Raised 0x041 s t) ∧
    (plain → s.stepThresh < off.natAbs → s.tb.exceed < 2 → s.tb.exceedSrc = c → s.flag F.TB_STATE_RESTEP_PEND = true →
      s.get F.TB_STATE_STATE = 7 → Does (.servoMeasure m) s fun t =>
        t.get F.TB_STATE_STATE = 7 ∧ t.tb.exceed = s.tb.exceed + 1 ∧ said t) ∧
    (∀ x, plain → m.src = .ptp → m.ptp = some x → Does (.servoMeasure m) s fun t =>
      (t.ptp x.port.val).slave = true ∧ (t.src 1).usable = true ∧ t.tb.pathDelay = (s.ptpSolve x).1 / 2 ^ 24) ∧
    (s.mayMeasure m = false → Does (.servoMeasure m) s fun t => t.tb = s.tb ∧ t.inc = s.inc)) ∧
  (∀ (src : Src) (s : State),
    let c := srcCode src
    let last := (s.src c).usable = true ∧ s.get F.TB_STATE_SRC = c ∧ ∀ d, d ≠ c → (s.src d).usable = false
    (last → s.get F.TB_STATE_STATE = 6 → Does (.sourceLost src) s fun t =>
      t.get F.TB_STATE_STATE = 7 ∧ t.get F.TB_STATE_SRC = 0 ∧ (t.src c).usable = false ∧ t.tb.holdSince = s.tick ∧ Raised 0x040 s t) ∧
    (last → s.get F.TB_STATE_STATE = 5 → s.flag F.TB_STATE_FIRST_LOCK = false → s.tb.restep = none → Does (.sourceLost src) s fun t =>
      t.get F.TB_STATE_STATE = 4 ∧ t.get F.TB_STATE_SRC = 0 ∧ (t.src c).usable = false) ∧
    ((s.src c).usable = false → Does (.sourceLost src) s fun t => t.tb = s.tb ∧ t.get F.TB_STATE_STATE = s.get F.TB_STATE_STATE) ∧
    ((s.src c).usable = true → s.get F.TB_STATE_SRC ≠ c → Does (.sourceLost src) s fun t =>
      (t.src c).usable = false ∧ t.get F.TB_STATE_STATE = s.get F.TB_STATE_STATE ∧ t.get F.TB_STATE_SRC = s.get F.TB_STATE_SRC) ∧
    ((s.src c).usable = true → (s.src c).lost = true → (s.src c).usableSince + ticksS 30 ≤ s.tick → Does (.sourceRequalified src) s fun t =>
      (t.src c).lost = false) ∧
    (s.tick < (s.src c).usableSince + ticksS 30 → Does (.sourceRequalified src) s fun t => t.tb = s.tb))

/-- A re-step is authorised with its key by an origin that may, while one is asked for, and the device is then safe; it steps the count by
the offset, which is counted and logged; without the request, the key or the right it is refused, and a
re-step whose source was lost waits for a new one (R71, R114 to R116).

The time PLL: a loss of lock shows and is raised once; a lock shows, and at boot step 3 the time base then starts at the stored time where the
Cellar holds one and the reset was not warm, while the reference, zone and Spemen records that it cannot give are raised (R31, R106,
R128, R143, R429). -/
def Obligations.ReStepsAndTheTimePll : Prop :=
  (∀ (o : Origin) (key : BitVec 16) (offset : Int) (org : Org) (s : State),
    let may := key = 0x5E7A ∧ s.flag F.TB_STATE_RESTEP_PEND = true ∧ s.mayRestep (orgOf o) = true
    (Reaches s o (.TB_RESTEP, []) (w32 key.toNat) → may → Does (.tbRestep o key) s fun t =>
      t.tb.restep = some (orgOf o, false) ∧ (Undisturbed s → t.mode = 8)) ∧
    (Reaches s o (.TB_RESTEP, []) (w32 key.toNat) → ¬ may → Does (.tbRestep o key) s fun t => t.tb = s.tb ∧ Counted [5, 0] s t) ∧
    (s.tb.restep = some (org, false) → s.tb.restepLost = false → s.get F.TB_STATE_STATE = 7 → Does (.restepStep offset) s fun t =>
      t.tai = (let x := ofUnits (((unitsOf s.tai : Int) + offset * (2 ^ 32 : Nat)).toNat); ⟨x.sec % 2 ^ 48, x.ns, x.frac⟩) ∧
      t.get F.TB_STEP_CNT_COUNT = min (s.get F.TB_STEP_CNT_COUNT + 1) 65535 ∧ t.get F.TB_STATE_STATE = 5 ∧
      t.get F.TB_STATE_RESTEP_PEND = 0 ∧ t.tb.restep = some (org, true) ∧
      ∀ n, n < 16 → t.hst n = 0 ∨ t.hst n = 5) ∧
    (s.tb.restep = none ∨ s.tb.restepLost = true → Does (.restepStep offset) s fun t => t.tai = s.tai ∧ t.get F.TB_STATE_STATE = s.get F.TB_STATE_STATE)) ∧
  (∀ (s : State),
    (s.flag F.TB_STATE_PLL_LOCK = true → Does .pllUnlock s fun t => t.get F.TB_STATE_PLL_LOCK = 0 ∧ Raised 0x047 s t) ∧
    (s.flag F.TB_STATE_PLL_LOCK = false → Does .pllUnlock s fun t => t.regs = s.regs) ∧
    (s.dv.step ≠ 3 → Does .pllLock s fun t => t.get F.TB_STATE_PLL_LOCK = 1 ∧ t.dv.step = s.dv.step ∧ t.tb = s.tb) ∧
    (s.dv.step = 3 → Does .pllLock s fun t => t.dv.step = 4 ∧ t.tb.counting = true) ∧
    (∀ sec ns ofs ok, s.dv.step = 3 → s.healthy = true → s.dv.warm = false → s.record 2 = some (.time sec ns ofs ok) →
      Does .pllLock s fun t => t.tai = ⟨sec, ns, 0⟩) ∧
    (s.dv.step = 3 → s.healthy = false → Does .pllLock s fun t => t.tai = s.tai ∧ Raised 0x04D s t ∧ Raised 0x04E s t ∧ Raised 0x1D6 s t) ∧
    (s.dv.step = 3 → s.healthy = true → 3 ∈ s.cl.corrupt → Does .pllLock s (Raised 0x04D s)))

/-! ### Reference inputs and outputs -/

/-- An analogue input that is enabled, from boot step 4 on, locks to a standard within 100 ppm that it may take, and shows standard and frequency; a loss of lock
is counted and raised; and a locked input shows its phase, the distance of the point that it measured from the nearest alignment point of the count, and its
frequency (R31, R131, R132).

An LTC input that is enabled shows every word that it receives; a consistent word makes it present, the third bad or missing word in a
row makes it absent, which is raised where it serves the time base (R133, R138). -/
def Obligations.AnalogueAndLtcInputs : Prop :=
  (∀ (k : Fin 2) (std freq : Nat) (point : Stamp) (f : Int) (s : State),
    let on := s.rfIn = true ∧ s.flag (F.RF_IN_CTRL_EN k.val) = true
    let fits := (stdPeriod std).isSome = true ∧ (s.flag (F.RF_IN_CTRL_AUTO k.val) = true ∨ s.get (F.RF_IN_CTRL_STD k.val) = std) ∧
      (signed 16 freq).natAbs ≤ 10000
    let locked (t : State) := t.rf.locked.contains k.val
    (on → locked s = false → fits → Does (.refInLock k std freq) s fun t =>
      locked t = true ∧ t.get (F.RF_IN_STAT_DET_STD k.val) = std ∧ t.get (F.RF_IN_STAT_FREQ k.val) = freq % 65536) ∧
    (¬ on ∨ ¬ fits → Does (.refInLock k std freq) s fun t => t.rf = s.rf ∧ t.regs = s.regs) ∧
    (locked s = true → Does (.refInLoss k) s fun t =>
      locked t = false ∧ t.get (F.RF_IN_STAT_DET_STD k.val) = 0 ∧
      t.get (F.RF_IN_LOSS_COUNT k.val) = min (s.get (F.RF_IN_LOSS_COUNT k.val) + 1) 65535 ∧ Raised 0x048 s t) ∧
    (locked s = false → Does (.refInLoss k) s fun t => t.rf = s.rf) ∧
    (∀ p, locked s = true → stdQuarters (s.get (F.RF_IN_STAT_DET_STD k.val)) = some p → Does (.refPhaseMeasure k point f) s fun t =>
      t.get (F.RF_IN_PHASE_PHASE k.val) = pattern 32 (truncRat (wrapRat p (quartersOf point))) ∧
      t.get (F.RF_IN_STAT_FREQ k.val) = pattern 16 (clampI (-32768) 32767 f) ∧ Only [.out, .irqOwed, .msix] (some [.RF_IN_PHASE, .RF_IN_STAT]) s t) ∧
    (locked s = false → Does (.refPhaseMeasure k point f) s fun t => t.regs = s.regs)) ∧
  (∀ (k : Fin 2) (n : Fin 4) (w : LtcWord) (s : State),
    let on := s.rfIn = true ∧ s.flag (F.RF_LTCIN_CTRL_EN k.val) = true
    let label := bcd w.hours * 2 ^ 24 + bcd w.minutes * 2 ^ 16 + bcd w.seconds * 256 + b2n w.dropFrame * 64 + bcd w.frames
    let shows (t : State) := t.rd (.RF_LTCIN_LABEL, [k.val]) = w32 label ∧ t.rd (.RF_LTCIN_UB, [k.val]) = w.userBits
    let serves := (s.ltc k.val).ok = true ∧ s.get F.RF_CTRL_TB_LTC = k.val
    (on → s.ltcConsistent k.val w = true → Does (.ltcWord k w) s fun t => shows t ∧ (t.ltc k.val).ok = true ∧ (t.ltc k.val).bad = 0) ∧
    (on → s.ltcConsistent k.val w = false → (s.ltc k.val).bad < 2 → Does (.ltcWord k w) s fun t =>
      shows t ∧ (t.ltc k.val).ok = (s.ltc k.val).ok ∧ (t.ltc k.val).bad = (s.ltc k.val).bad + 1) ∧
    (on → s.ltcConsistent k.val w = false → 2 ≤ (s.ltc k.val).bad → Does (.ltcWord k w) s fun t =>
      shows t ∧ (t.ltc k.val).ok = false ∧ (serves → Raised 0x049 s t)) ∧
    (¬ on → Does (.ltcWord k w) s fun t => t.rf = s.rf ∧ t.rd (.RF_LTCIN_LABEL, [k.val]) = s.rd (.RF_LTCIN_LABEL, [k.val])) ∧
    Does (.ltcWordsMissing k n) s (fun t =>
      let bad := (s.ltc k.val).bad + n.val
      (t.ltc k.val).bad = bad ∧ (t.ltc k.val).ok = ((s.ltc k.val).ok && decide (bad < 3)) ∧ (3 ≤ bad → serves → Raised 0x049 s t)))

/-- A write of RF_CTRL that names another input while source 3 is selected and no other source is usable ends its selection, and a locked time
base holds over; RF_CTRL.SAVE asks for the record of the reference registers as they stand (R134, R143).

A PPS edge a whole second of 10 MHz cycles after the one before, with a valid sentence between them, makes source 2 usable; a wrong
edge, a missing one, or the loss of the 10 MHz input ends its use, which is raised; sentences count while they are enabled, and a bad one is
raised; the sentence of a second is sent once, after its edge (R107, R141, R142, R487). -/
def Obligations.PpsAndSourceThree : Prop :=
  (∀ (o : Origin) (v : Word) (s : State),
    (Reaches s o (.RF_CTRL, []) v → bits v 31 16 ≠ 0 → Does (.src3InputChange o v) s fun t =>
      t.get F.RF_CTRL_TB_IN = (if v.getLsbD 17 then bits v 1 1 else s.get F.RF_CTRL_TB_IN) ∧
      t.get F.RF_CTRL_TB_LTC = (if v.getLsbD 18 then bits v 2 2 else s.get F.RF_CTRL_TB_LTC) ∧
      ((s.src 3).usable = true → s.get F.TB_STATE_SRC = 3 → (∀ d, d ≠ 3 → (s.src d).usable = false) → bits (t.rd (.RF_CTRL, [])) 2 1 ≠ bits (s.rd (.RF_CTRL, [])) 2 1 →
        t.get F.TB_STATE_SRC = 0 ∧ (s.get F.TB_STATE_STATE = 6 → t.get F.TB_STATE_STATE = 7))) ∧
    (Reaches s o (.RF_CTRL, []) (w32 0x10001) → s.healthy = true → Does (.refSave o) s fun t =>
      t.get F.RF_CTRL_SAVE = 0 ∧ t.cl.queue = s.cl.queue ++ [{ region := 3, body := .regs (rfRecord.map fun k => (k, t.rd k)) 0 0 }]) ∧
    (Reaches s o (.RF_CTRL, []) (w32 0x10001) → s.healthy = false → Does (.refSave o) s fun t => t.get F.RF_CTRL_SAVE = 0 ∧ t.cl = s.cl)) ∧
  (∀ (t1 : Stamp) (ten n : Nat) (m : TodSentence) (s : State),
    let on := s.rfIn = true ∧ s.flag F.RF_PPS_CTRL_IN_EN = true
    let hears := s.rfIn = true ∧ s.flag F.RF_PPS_CTRL_TOD_IN = true
    let d := (ten - n) % 10000000
    let ends (t : State) := t.rf.ppsUse = false ∧ (t.src 2).usable = false ∧ Raised 0x04A s t
    (∀ e, on → s.rf.edge = some (e, n) → n < ten → d ≤ 10 ∨ 9999990 ≤ d → s.rf.todDue = false → s.tb.tenOk = true → s.rf.ppsUse = false →
      Does (.ppsEdge t1 ten) s fun t =>
        t.rf.ppsUse = true ∧ (t.src 2).usable = true ∧
        t.rf.edge = some (ofUnits (unitsOf t1 - s.get F.RF_PPSIN_COMP_DELAY * 2 ^ 30), ten) ∧ t.rf.todDue = true) ∧
    (∀ e, on → s.rf.edge = some (e, n) → 10 < d → d < 9999990 → s.rf.ppsUse = true → Does (.ppsEdge t1 ten) s ends) ∧
    (¬ on → Does (.ppsEdge t1 ten) s fun t => t.rf = s.rf) ∧
    (s.rf.ppsUse = true → Does .ppsInputLoss s fun t => t.rf.edge = none ∧ ends t) ∧
    (s.rf.ppsUse = false → Does .ppsInputLoss s fun t => t.rf.edge = none ∧ t.fc = s.fc) ∧
    (s.rf.ppsUse = true → Does (.tenMhzQualifyChange false) s fun t => t.tb.tenOk = false ∧ ends t) ∧
    (s.flag F.RF_PPS_CTRL_IN_EN = true → s.rf.ppsOk = true → s.rf.ppsUse = false → Does (.tenMhzQualifyChange true) s fun t =>
      t.tb.tenOk = true ∧ t.rf.ppsUse = true ∧ (t.src 2).usable = true) ∧
    (hears → todValid m = true → s.rf.edge.isSome = true → Does (.todSentenceRx m) s fun t =>
      t.rf.todOk = true ∧ t.rf.todDue = false ∧ t.fc = s.fc) ∧
    (hears → todValid m = false ∨ s.rf.edge = none → Does (.todSentenceRx m) s fun t => t.rf.todOk = false ∧ Raised 0x04B s t) ∧
    (¬ hears → Does (.todSentenceRx m) s fun t => t.rf = s.rf) ∧
    (let q : Int := ((s.tb.sec * 1000000000 + s.tb.ns : Nat) : Int) * 4 - signed 32 (s.rdE (.RF_PPS_OFS, [])).toNat - 40000000
      let sec := (q / 4000000000).toNat
      (s.flag F.RF_PPS_CTRL_TOD_OUT = true → s.rfOn = true → 0 ≤ q → s.rf.todSent ≠ sec → Does .todSentenceTx s fun t =>
        s.out ++ [.tod ((todFrame (s.todBody sec)).map fun c => BitVec.ofNat 8 c)] <+: t.out ∧ t.rf.todSent = sec) ∧
      (s.flag F.RF_PPS_CTRL_TOD_OUT = false ∨ s.rfOn = false ∨ q < 0 ∨ s.rf.todSent = sec → s.irqOwed = [] → Does .todSentenceTx s fun t =>
        t.out = s.out)))

/-- An enabled output that enters current limit is raised once, and leaves it again; at the start of its period the writes of an output that were
accepted before this tick take effect, and it sends the signal of the period once: a frame of a video output, the word of an LTC
output, a block of a DARS output, the pulse and the 10 MHz of PPS. A video output that a step muted resumes at an alignment point of a
locked time base (R136 to R141, R144). -/
def Obligations.OutputsApplyAndLimit : Prop :=
  ∀ (k : Fin 4) (out : RefOut) (s : State),
    (s.flag (F.RF_OUT_CTRL_EN k.val) = true → s.rf.load.contains k.val = false → Does (.outLoad k) s fun t =>
      t.rf.load.contains k.val = true ∧ Raised 0x04C s t) ∧
    (s.flag (F.RF_OUT_CTRL_EN k.val) = false ∨ s.rf.load.contains k.val = true → Does (.outLoad k) s fun t => t.rf = s.rf ∧ t.regs = s.regs) ∧
    Does (.outLoadEnd k) s (fun t => t.rf.load.contains k.val = false ∧ ∀ j : Fin 4, j ≠ k → t.rf.load.contains j.val = s.rf.load.contains j.val) ∧
    (let i := s.outPeriod out
      let begun := mget (fun _ => 0) s.rf.sent (outCode out) = i + 1
      let applies (t : State) :=
        (∀ key, outRegs out key = true → (∃ e ∈ s.waiting, e.1 = key) → (∀ e ∈ s.waiting, e.1 = key → e.2.1 < s.tick) → t.rdE key = s.rd key) ∧
        (∀ key, outRegs out key = false → t.rdE key = s.rdE key) ∧ t.regs = s.regs
      let sends (x : List Out) (t : State) := s.out ++ x <+: t.out
      (s.outOn out = true → begun → Does (.outputOffsetApply out) s fun t => t.eff = s.eff ∧ t.rf = s.rf ∧ t.regs = s.regs) ∧
      (s.outOn out = false → Does (.outputOffsetApply out) s fun t => applies t ∧ t.rf = s.rf) ∧
      (s.outOn out = true → ¬ begun → Does (.outputOffsetApply out) s fun t =>
        applies t ∧ mget (fun _ => 0) t.rf.sent (outCode out) = i + 1 ∧
        (∀ j, out = .video j →
          let std := s.get (F.RF_OUT_CTRL_STD j)
          let free : Bool := !s.rf.muted.contains j.val || (s.get F.TB_STATE_STATE == 6 && i % ((stdPeriod std).map (·.1)).getD 1 == 0)
          t.rf.muted.contains j.val = !free ∧
          (free = true → sends [.refFrame j (t.outInstant out i) std i (std == 1 && !s.flag (F.RF_OUT_CTRL_NO_SETUP j))] t)) ∧
        (∀ j, out = .ltc j → sends [.ltc j (t.outInstant out i) (t.ltcWordOut j i)] t) ∧
        (∀ j, out = .dars j → sends [.dars j (t.outInstant out i) (192 * i) (s.darsStatus (192 * i))] t) ∧
        (out = .pps → sends ((if s.flag F.RF_PPS_CTRL_OUT_EN && s.qualified then [Out.pps (t.outInstant out i) (t.getE F.RF_PPS_WIDTH_MS)] else []) ++
          (if s.flag F.RF_PPS_CTRL_TEN_OUT && s.qualified then [Out.tenMhz (t.outInstant out i)] else [])) t)))

/-! ### Output heads -/

/-- A write of RUN = 1 starts a stopped head whose checks pass, is refused with the number of the first check that fails, or with 8 while the head
stops, and has no effect on a head that starts or runs (R69, R149, R153).

A write of RUN = 0 stops a head that starts at once, lets a running head end its frame, marks a head in SAFE or HELD to stop, and has no effect
on a stopped one; a stop that is due ends in STOPPED, and not before (R151). -/
def Obligations.HeadsStartAndStop : Prop :=
  (∀ (o : Origin) (n : Fin 16) (v : Word) (s : State),
    let onAir := if v.getLsbD 17 then v.getLsbD 1 else s.flag (F.HD_CTRL_ON_AIR n.val)
    let refused (e : Nat) := Does (.headStart o n v) s fun t =>
      t.get (F.HD_STAT_START_ERR n.val) = e ∧ t.get (F.HD_CTRL_RUN n.val) = s.get (F.HD_CTRL_RUN n.val) ∧ t.hst n.val = s.hst n.val ∧
      t.get ⟨(.xx_REFUSED, [13, n.val]), 15, 0⟩ = min (s.get ⟨(.xx_REFUSED, [13, n.val]), 15, 0⟩ + 1) 65535
    (∀ w, Reaches s o (.HD_CTRL, [n.val]) w) →
    (s.hst n.val = 0 → s.startErr n.val onAir = 0 → Does (.headStart o n v) s fun t =>
      t.hst n.val = 1 ∧ t.get (F.HD_STAT_START_ERR n.val) = 0 ∧ t.get (F.HD_CTRL_RUN n.val) = 1 ∧ (t.head n.val).startTick = s.tick ∧
      (t.head n.val).startFrame = t.firstFrame n.val ∧ ∀ m, m < 16 → m ≠ n.val → t.hst m = s.hst m) ∧
    (∀ e, s.hst n.val = 0 → s.startErr n.val onAir = e → e ≠ 0 → refused e) ∧
    (s.hst n.val = 3 → refused 8) ∧ (4 ≤ s.hst n.val → refused 1) ∧
    (s.hst n.val = 1 ∨ s.hst n.val = 2 → Does (.headStart o n v) s fun t =>
      t.hst n.val = s.hst n.val ∧ t.get (F.HD_CTRL_RUN n.val) = 1 ∧ t.heads = s.heads)) ∧
  (∀ (o : Origin) (n : Fin 16) (s : State),
    let f := ((s.pos n.val).getD (0, 1, 0)).1
    let h (t : State) := t.head n.val
    Reaches s o (.HD_CTRL, [n.val]) (w32 0x10000) →
    (s.hst n.val = 1 → Does (.headStop o n) s fun t => t.hst n.val = 0 ∧ t.get (F.HD_CTRL_RUN n.val) = 0) ∧
    (s.hst n.val = 2 → Does (.headStop o n) s fun t => t.hst n.val = 3 ∧ t.get (F.HD_CTRL_RUN n.val) = 0 ∧ (h t).stopFrame = f) ∧
    (s.hst n.val = 4 ∨ s.hst n.val = 5 → (h s).stopPending = false → Does (.headStop o n) s fun t =>
      t.hst n.val = s.hst n.val ∧ (h t).stopPending = true ∧ (h t).stopFrame = f) ∧
    (s.hst n.val = 0 ∨ s.hst n.val = 3 → Does (.headStop o n) s fun t => t.hst n.val = s.hst n.val ∧ t.heads = s.heads) ∧
    (s.hst n.val = 3 → s.lineStart n.val ((h s).stopFrame + 1) 1 ≤ s.now → Does (.headStopped n) s fun t =>
      t.hst n.val = 0 ∧ (h t).stopPending = false) ∧
    (s.stopDue n.val = false → Does (.headStopped n) s fun t => t.heads = s.heads ∧ t.regs = s.regs))

/-- A started head shows its first line when its time has come, in RUNNING, or in SAFE in mode SAFE, and not before; each later line begins with its
own time, in order, wrapping after the last line of a frame, and serves a wait of the engine bound to the head for any line or for
that one; a stopped head that has never run starts no line (R148, R150, R165, R166).

A sample event is raised once on the line that it names, when its sample has come, on a head whose lines go out, and serves the wait of the engine bound to
the head (R166, R299). -/
def Obligations.LinesAndSamples : Prop :=
  (∀ (n : Fin 16) (w : LineFaults) (s : State),
    let h (t : State) := t.head n.val
    let at_ (t : State) := ((h t).frame, (h t).line)
    let next := if rasterT (s.fmt n.val) ≤ (h s).line then ((h s).frame + 1, 1) else ((h s).frame, (h s).line + 1)
    (s.hst n.val = 1 → s.lineStart n.val (h s).startFrame 1 ≤ s.now → s.mode ≠ 8 → Does (.headFirstLine n) s fun t =>
      t.hst n.val = 2 ∧ at_ t = ((h s).startFrame, 1) ∧ (h t).everRun = true) ∧
    (s.hst n.val = 1 → s.lineStart n.val (h s).startFrame 1 ≤ s.now → s.mode = 8 → Does (.headFirstLine n) s fun t =>
      t.hst n.val = 4 ∧ at_ t = ((h s).startFrame, 1)) ∧
    (s.awaits n.val = false ∨ s.now < s.lineStart n.val (h s).startFrame 1 → Does (.headFirstLine n) s fun t =>
      t.heads = s.heads ∧ t.regs = s.regs) ∧
    (s.hst n.val = 2 → s.lineStart n.val next.1 next.2 ≤ s.now → s.mode ≠ 8 → Does (.headLineStart n w) s fun t =>
      t.hst n.val = 2 ∧ at_ t = next ∧ (h t).raised = [] ∧
      ∀ x : Wait, (s.cue n.val).wait = some x → x.hit = none →
        (x.kind = .head 0 → (t.cue n.val).wait = some { x with hit := some (next.2 + next.1 % 2 ^ 27 * 2 ^ 13, false, s.tick) }) ∧
        (x.kind = .line next.2 → (t.cue n.val).wait = some { x with hit := some (next.1 % 2 ^ 40, false, s.tick) })) ∧
    (s.hst n.val = 2 → s.lineStart n.val next.1 next.2 ≤ s.now → s.mode = 8 → Does (.headLineStart n w) s fun t => t.hst n.val = 4 ∧ at_ t = next) ∧
    (s.hst n.val = 2 → s.now < s.lineStart n.val next.1 next.2 → Does (.headLineStart n w) s fun t => t.heads = s.heads ∧ t.regs = s.regs) ∧
    (s.hst n.val = 0 → (h s).everRun = false → Does (.headLineStart n w) s fun t => t.heads = s.heads ∧ t.regs = s.regs)) ∧
  (∀ (n : Fin 16) (i : Fin 4) (r : Nat × Nat × Nat × Nat) (s : State),
    let h (t : State) := t.head n.val
    let w := s.rdE (.HD_SMP, [n.val, i.val])
    let line := bits w 12 0
    let due := sampleStart r ((h s).frame * (r.2.1 * r.1) + (line - 1) * r.1 + bits w 29 16 + s.delay n.val r.1) ≤ s.now
    let named := bits w 31 31 = 1 ∧ line ≠ 0 ∧ line = (h s).line ∧ bits w 29 16 < r.1 ∧ 2 ≤ s.hst n.val
    s.raster n.val = some r →
    (named → due → i.val ∉ (h s).raised → Does (.sampleEvent n i) s fun t =>
      (h t).raised = i.val :: (h s).raised ∧ t.regs = s.regs ∧
      ∀ x : Wait, (s.cue n.val).wait = some x → x.kind = .head (5 + i.val) → x.hit = none →
        (t.cue n.val).wait = some { x with hit := some (line + (h s).frame % 2 ^ 27 * 2 ^ 13, false, s.tick) }) ∧
    (¬ named ∨ ¬ due ∨ i.val ∈ (h s).raised → Does (.sampleEvent n i) s fun t => t.heads = s.heads ∧ t.cues = s.cues ∧ t.regs = s.regs))

/-- The deadline tick of a head that starts, runs or stops fixes what its next boundary will show and moves to the deadline after; before its time it
does nothing (R158, R177).

At the boundary of its frame a running head applies the last pending set that is due, which becomes its vintage; without one it keeps its vintage;
before line 7 of the frame nothing changes (R156, R189). -/
def Obligations.DeadlinesAndBoundaries : Prop :=
  (∀ (n : Fin 16) (s : State),
    let h (t : State) := t.head n.val
    let active := s.hst n.val = 1 ∨ s.hst n.val = 2 ∨ s.hst n.val = 3
    let due := s.deadlineAt n.val (h s).dlNext (s.leadFor n.val (h s).dlNext) ≤ s.now
    (active → due → Does (.commitDeadline n) s fun t =>
      (h t).dlNext = (h s).dlNext + 1 ∧ (h t).bndNext = (h s).bndNext ∧ t.hst n.val = s.hst n.val ∧
      (∀ c, s.setFor n.val (h s).dlNext = some c → (h t).dlShown = some c)) ∧
    ((¬ active ∧ (h s).restart = false) ∨ ¬ due → Does (.commitDeadline n) s fun t => t.heads = s.heads ∧ t.layers = s.layers ∧ t.regs = s.regs)) ∧
  (∀ (n : Fin 16) (s : State),
    let h (t : State) := t.head n.val
    let f := (h s).bndNext
    let runs := s.hst n.val = 2 ∨ s.hst n.val = 3
    let due := (h s).pending.filter fun c => decide (c.target ≤ f)
    let vint (t : State) := t.get (F.CE_VINT_APP_VINTAGE (n.val / 2) (n.val % 2))
    (∀ c, runs → s.lineStart n.val f 7 ≤ s.now → due.getLast? = some c → c.head = n.val → Does (.frameBoundary n) s fun t =>
      (h t).applied = some c ∧ (h t).pending = (h s).pending.filter (fun c => decide (f < c.target)) ∧ (h t).bndNext = f + 1 ∧
      vint t = (if c.restored then 1 else nextVintage (vint s))) ∧
    (runs → s.lineStart n.val f 7 ≤ s.now → due = [] → Does (.frameBoundary n) s fun t =>
      (h t).applied = (h s).applied ∧ (h t).pending = (h s).pending ∧ (h t).bndNext = f + 1 ∧ vint t = vint s) ∧
    (¬ runs ∨ s.now < s.lineStart n.val f 7 → Does (.frameBoundary n) s fun t => (h t).bndNext = f ∧ (h t).applied = (h s).applied ∧ vint t = vint s))

/-- The completion of a host layer's read brings its row to the oldest request for the row that is not complete, with its bytes or, where it is
poisoned, without them; one that nothing asked for is dropped (R175, R176; log 40).

The destinations of a head: a serializer of an enabled SDI group that fails, DisplayPort training that fails, and a FIFO of an enabled destination
that leaves its window are raised for the head; DisplayPort is trained again once a second while the plug is in; and a group whose links lock
resumes at the next line 1, or at once on a head that has never run (R162, R165, R168, R429). -/
def Obligations.RowsAndDestinations : Prop :=
  (∀ (k : Fin 8) (m : Fin 32) (row : Nat) (ok : Bool) (data : List Byte) (e : Nat × Nat) (s : State),
    let had := (s.layer k.val m.val).rows
    let asked := (s.layer k.val m.val).asked
    (asked.find? (fun e => e.2 == row) = some e → Does (.hostReadCompletion k m row ok data) s fun t =>
      (t.layer k.val m.val).rows = had ++ [⟨e.1, row, if ok then some data else none, false⟩] ∧
      (t.layer k.val m.val).asked = asked.erase e ∧ Only [.out, .irqOwed, .msix, .layers] (some []) s t) ∧
    ((∀ e ∈ asked, e.2 ≠ row) → Does (.hostReadCompletion k m row ok data) s fun t => t.layers = s.layers)) ∧
  (∀ (n : Fin 16) (d : Fin 3) (plug ok : Bool) (s : State),
    let h (t : State) := t.head n.val
    (s.destOn n.val 0 = true → Does (.sdiSerializerFail n) s fun t =>
      (h t).sdiFail = true ∧ (h t).sdiBack = false ∧ Raised (0x080 + 8 * n.val) s t) ∧
    (s.destOn n.val 0 = false → Does (.sdiSerializerFail n) s fun t => t.heads = s.heads ∧ t.regs = s.regs) ∧
    (s.destOn n.val 1 = true → (h s).dpDown = false → Does (.dpLinkFail n plug) s fun t =>
      (h t).dpDown = true ∧ (h t).dpHpd = plug ∧ (h t).dpNext = s.tick + ticksS 1 ∧ Raised (0x081 + 8 * n.val) s t) ∧
    (s.destOn n.val 1 = true → (h s).dpDown = true → Does (.dpLinkFail n plug) s fun t =>
      (h t).dpDown = true ∧ (h t).dpHpd = plug ∧ (h t).dpNext = (h s).dpNext ∧ t.fc = s.fc) ∧
    (s.destOn n.val d.val = true → Does (.rateFifoExcursion n d) s fun t =>
      Raised (0x083 + 8 * n.val) s t ∧ (s.ticking n.val = true → d.val ∈ (h t).fifoOut)) ∧
    (s.destOn n.val d.val = false → Does (.rateFifoExcursion n d) s fun t => t.heads = s.heads ∧ t.fc = s.fc) ∧
    ((h s).dpDown = true → (h s).dpResume = false → (h s).dpHpd = true → (h s).dpNext ≤ s.tick → Does (.dpRetrain n ok) s fun t =>
      t.get (F.HD_DP_RETRAIN_COUNT n.val) = min (s.get (F.HD_DP_RETRAIN_COUNT n.val) + 1) 65535 ∧ (h t).dpNext = s.tick + ticksS 1 ∧
      (h t).dpResume = (ok && s.ticking n.val) ∧ (h t).dpDown = (!ok || s.ticking n.val)) ∧
    ((h s).dpDown = false ∨ (h s).dpHpd = false ∨ s.tick < (h s).dpNext → Does (.dpRetrain n ok) s fun t => t.heads = s.heads ∧ t.regs = s.regs) ∧
    ((h s).sdiFail = true ∨ (h s).sdiReset = true → s.ticking n.val = true → Does (.sdiGroupRelock n) s fun t =>
      (h t).sdiBack = true ∧ (h t).sdiFail = (h s).sdiFail) ∧
    ((h s).sdiFail = true ∨ (h s).sdiReset = true → s.ticking n.val = false → Does (.sdiGroupRelock n) s fun t =>
      (h t).sdiFail = false ∧ (h t).sdiReset = false ∧ 0 ∉ (h t).fifoOut))

/-! ### Commits, the protected layer, check units -/

/-- A write to CEk_COMMIT for a head whose latest commit is being checked is refused; otherwise it forms the set of the head that it names, queues
its check and shows CHECKING. A group commit forms the sets of every starting or running head of the lock group, and fails STATE on the addressed head
alone where that head is not one of them (R185, R190, R191).

When the check of a single commit ends, a set that failed is rejected: its status shows REJECTED with the reason, the rejections are counted and
HD_COMMIT_REJECT is raised. One that passed is prepared with PREP, becomes the next vintage at once on a stopped head, and otherwise pends for its
target frame. With no check, and before the blocks of the last boot step run, nothing happens (R31, R186 to R188, R191). -/
def Obligations.CommitsAreChecked : Prop :=
  (∀ (o : Origin) (k : Fin 8) (v : Word) (s : State),
    let h := bits v 0 0
    let n := 2 * k.val + h
    let g := s.get (F.HD_GROUP_GROUP n)
    let tag := bits v 31 16
    let last (t : State) := ((t.eng k.val).checks.getLast?).map (·.set)
    let enters (prep : Bool) (t : State) :=
      t.rd (.CE_CSTAT, [k.val, h]) = w32 (1 + tag * 65536) ∧ t.rd (.CE_CDET, [k.val, h]) = 0 ∧
      (t.eng k.val).checks.length = (s.eng k.val).checks.length + 1 ∧ (t.head n).latest = s.serial + 1 ∧
      ∀ c, last t = some c → c.head = n ∧ c.tag = tag ∧ c.prep = prep ∧ c.members = [] ∧ c.layers = s.shadowLayers n ∧ c.serial = s.serial + 1
    (∀ w, Reaches s o (.CE_COMMIT, [k.val]) w) →
    (s.checking n = true → Does (.ceCommit o k v) s (Counted [14, k.val] s) ∧ Does (.ceGroupCommit o k v) s (Counted [14, k.val] s) ∧
      Does (.cePrepCommit o k v) s (Counted [14, k.val] s)) ∧
    (s.checking n = false → Does (.ceCommit o k v) s (enters false)) ∧
    (s.checking n = false → bits v 1 1 = 0 ∨ g = 0 → Does (.cePrepCommit o k v) s (enters true)) ∧
    (s.checking n = false → g = 0 → bits v 2 2 = 0 → Does (.ceGroupCommit o k v) s (enters false)) ∧
    (g ≠ 0 → s.active n = true → (∀ m, m < 16 → s.get (F.HD_GROUP_GROUP m) = g → s.active m = true → s.checking m = false) →
      Does (.ceGroupCommit o k v) s fun t => ∀ m, m < 16 → s.get (F.HD_GROUP_GROUP m) = g → s.active m = true →
        t.rd (.CE_CSTAT, [m / 2, m % 2]) = w32 (1 + tag * 65536) ∧ (t.head m).latest = s.serial + 1) ∧
    (g ≠ 0 → s.active n = true → (∃ m, m < 16 ∧ s.get (F.HD_GROUP_GROUP m) = g ∧ s.active m = true ∧ s.checking m = true) →
      Does (.ceGroupCommit o k v) s (Counted [14, k.val] s)) ∧
    (g ≠ 0 → s.active n = false → s.checking n = false → (∀ m, m < 16 → s.checking m = false) → Does (.ceGroupCommit o k v) s fun t =>
      t.rd (.CE_CSTAT, [k.val, h]) = w32 (5 + 8 * 16 + tag * 65536) ∧ t.rd (.CE_CDET, [k.val, h]) = w32 (n * 4096) ∧
      Raised (0x086 + 8 * n) s t ∧ t.engines = s.engines)) ∧
  (∀ (k : Fin 8) (h : Fin 2) (c : Check) (cs : List Check) (s : State),
    let n := 2 * k.val + h.val
    let v : Verdict := if c.left then { reason := 8 } else c.verdict.getD {}
    let state (t : State) := t.get (F.CE_CSTAT_STATE k.val h.val)
    let vint (t : State) := t.get (F.CE_VINT_APP_VINTAGE k.val h.val)
    let mine := s.blocksUp = true ∧ c.set.head = n ∧ c.set.members = [] ∧ (s.head n).latest = c.set.serial
    ((s.eng k.val).checks = [] ∨ s.blocksUp = false → Does (.commitCheckDone k) s fun t => t.regs = s.regs ∧ t.heads = s.heads ∧ t.engines = s.engines) ∧
    ((s.eng k.val).checks = c :: cs → mine → v.reason ≠ 0 → v.reason < 16 → Does (.commitCheckDone k) s fun t =>
      state t = 5 ∧ t.get ⟨(.CE_CSTAT, [k.val, h.val]), 7, 4⟩ = v.reason ∧ vint t = vint s ∧ (t.head n).applied = (s.head n).applied ∧
      (t.head n).pending = (s.head n).pending ∧
      t.get (F.CE_CREJ_COUNT k.val h.val) = min (s.get (F.CE_CREJ_COUNT k.val h.val) + 1) 65535 ∧ Raised (0x086 + 8 * n) s t) ∧
    ((s.eng k.val).checks = c :: cs → mine → v.reason = 0 → c.set.prep = true → Does (.commitCheckDone k) s fun t =>
      state t = 2 ∧ (t.head n).prepared = some { c.set with accepted := s.dtime } ∧ vint t = vint s) ∧
    ((s.eng k.val).checks = c :: cs → mine → v.reason = 0 → c.set.prep = false → c.set.restored = false → s.hst n = 0 →
      Does (.commitCheckDone k) s fun t =>
        state t = 4 ∧ (t.head n).applied = some { c.set with accepted := s.dtime } ∧ vint t = nextVintage (vint s)) ∧
    ((s.eng k.val).checks = c :: cs → mine → v.reason = 0 → c.set.prep = false → s.hst n ≠ 0 → Does (.commitCheckDone k) s fun t =>
      state t = 3 ∧ { c.set with accepted := s.dtime, target := s.targetFrame n } ∈ (t.head n).pending ∧ vint t = vint s))

/-- A release or a discard is refused where the head that it names holds no prepared set. A discard cancels the set; a release applies it at once on a
stopped head, cancels it as late where its time or the deadline of its frame has passed, and otherwise makes it pend for the first frame at or after
its time (R191).

The last-good candidate of a head is handed to the Cellar and is then no candidate any more, at most once a second for each head (R194, R450). -/
def Obligations.SetsAreReleasedAndKept : Prop :=
  (∀ (o : Origin) (k : Fin 8) (v : Word) (c : CommitSet) (s : State),
    let h := bits v 0 0
    let n := 2 * k.val + h
    let at_ := s.get (F.CE_RELEASE_AT_HI_T k.val h) * 2 ^ 32 + s.get (F.CE_RELEASE_AT_LO_T k.val h)
    let state (t : State) := t.get (F.CE_CSTAT_STATE k.val h)
    let reason (t : State) := t.get ⟨(.CE_CSTAT, [k.val, h]), 7, 4⟩
    let mine := (s.head n).prepared = some c ∧ c.head = n ∧ c.members = [] ∧ (s.head n).latest = c.serial
    (∀ w, Reaches s o (.CE_RELEASE, [k.val]) w) →
    ((s.head n).prepared = none → Does (.ceRelease o k v) s (Counted [14, k.val] s) ∧ Does (.ceDiscard o k v) s (Counted [14, k.val] s)) ∧
    (mine → Does (.ceDiscard o k v) s fun t => (t.head n).prepared = none ∧ state t = 7 ∧ reason t = 14 ∧ (t.head n).pending = (s.head n).pending) ∧
    (mine → s.hst n = 0 → c.restored = false → Does (.ceRelease o k v) s fun t =>
      (t.head n).prepared = none ∧ (t.head n).applied = some { c with released := true } ∧ state t = 4 ∧
      t.get (F.CE_VINT_APP_VINTAGE k.val h) = nextVintage (s.get (F.CE_VINT_APP_VINTAGE k.val h))) ∧
    (mine → s.hst n ≠ 0 → s.domainCount at_ = none → Does (.ceRelease o k v) s fun t =>
      (t.head n).prepared = none ∧ state t = 7 ∧ reason t = 13 ∧ (t.head n).pending = (s.head n).pending) ∧
    (∀ u, mine → s.hst n ≠ 0 → s.domainCount at_ = some u → s.deadlinePassed n (s.frameFrom n u) = true → Does (.ceRelease o k v) s fun t =>
      (t.head n).prepared = none ∧ state t = 7 ∧ reason t = 13) ∧
    (∀ u, mine → s.hst n ≠ 0 → s.domainCount at_ = some u → s.deadlinePassed n (s.frameFrom n u) = false → Does (.ceRelease o k v) s fun t =>
      (t.head n).prepared = none ∧ state t = 3 ∧ { c with released := true, target := s.frameFrom n u } ∈ (t.head n).pending)) ∧
  (∀ (k : Fin 8) (q : LastGood) (s : State),
    let n := 2 * k.val
    let other := 2 * k.val + 1
    (s.head other).qualified = none →
    ((s.head n).qualified = some q → (∀ x, (s.head n).handover = some x → x + ticksS 1 ≤ s.tick) → Does (.lastGoodHandover k) s fun t =>
      (t.head n).qualified = none ∧ (t.head n).handover = some s.tick ∧
      (s.healthy = true → ∃ r, r ∈ t.cl.queue ∧ r.region = 8 ∧ r.head = n ∧ r.body = .lastGood q.set q.vintage q.regs)) ∧
    (∀ x, (s.head n).handover = some x → s.tick < x + ticksS 1 → Does (.lastGoodHandover k) s fun t => t.heads = s.heads ∧ t.cl = s.cl))

/-- The owner of a protected layer is written once, by function 0 alone. The owner's commit of the layer enters CHECKING with the tag and the placement,
and a second one is refused while the first is checked (R42, R244, R250).

The check of a protected-layer commit ends in REJECTED with its reason, in APPLIED at once on a stopped head, in PENDING for the slot that is
selected already, and else in VERIFYING. The end of the slot's scan records the verdict: a bad slot rejects the commit and raises PROT_BAD, a good one
lets it pend; and an uncorrectable unit in the slot is raised for the check unit. A commit that passes its checks supersedes one that
pends, and starts the window (R246, R250, R252, R253, R255, R262). -/
def Obligations.TheProtectedLayer : Prop :=
  (∀ (o : Origin) (k : Fin 8) (h : Fin 2) (v : Word) (s : State),
    let key : Key := (.CE_PL_OWNER, [k.val, h.val])
    let n := 2 * k.val + h.val
    let marks := mget (fun _ => (0 : Word)) s.w1 key
    let refused (t : State) := t.rd key = s.rd key ∧ Raised 4 s t
    let c : PlCommit := { slot := bits v 0 0, en := v.getLsbD 1, tag := bits v 31 16, place := s.rd (.CE_PL_PLACE, [k.val, h.val]), org := orgOf o }
    s.served = true → s.rights o 14 = 3 →
    ((orgOf o).cls = 1 → marks = 0 → Does (.plOwnerWrite o k h v) s fun t => bits (t.rd key) 24 0 = bits v 24 0 ∧ ∀ j, j ≠ key → t.rd j = s.rd j) ∧
    ((orgOf o).cls = 1 → marks = w32 0x1FFFFFF → bits v 24 0 ≠ bits (s.rd key) 24 0 → Does (.plOwnerWrite o k h v) s refused) ∧
    ((orgOf o).cls ≠ 1 → Does (.plOwnerWrite o k h v) s refused) ∧
    (s.isOwner n (orgOf o) = false → Does (.plCommit o k h v) s fun t => t.pls = s.pls ∧ Raised 4 s t) ∧
    (s.isOwner n (orgOf o) = true → (s.pl n).checking ≠ none → Does (.plCommit o k h v) s fun t => t.pls = s.pls ∧ Counted [14, k.val] s t) ∧
    (s.isOwner n (orgOf o) = true → (s.pl n).checking = none → Does (.plCommit o k h v) s fun t =>
      (t.pl n).checking = some { c with reason := s.plJudge n c } ∧ t.get (F.CE_PL_CSTAT_STATE k.val h.val) = 1 ∧
      t.get (F.CE_PL_CSTAT_REASON k.val h.val) = 0 ∧ t.get (F.CE_PL_CSTAT_TAG k.val h.val) = bits v 31 16)) ∧
  (∀ (k : Fin 8) (h : Fin 2) (c : PlCommit) (sc : PlScan) (s : State),
    let n := 2 * k.val + h.val
    let state (t : State) := t.get (F.CE_PL_CSTAT_STATE k.val h.val)
    let reason (t : State) := t.get (F.CE_PL_CSTAT_REASON k.val h.val)
    let checked := s.blocksUp = true ∧ (s.pl n).checking = some c ∧ (s.pl n).verifying = false
    let same := (s.pl n).enabled = true ∧ s.plMode n ≠ 3 ∧ (s.pl n).sel = c.slot
    let verdict (t : State) := t.get (F.CE_PL_S_STAT_VERDICT k.val h.val sc.slot)
    let scanned (forCommit : Bool) := s.blocksUp = true ∧ (s.pl n).scan = some sc ∧ (s.pl n).queued = none ∧ sc.forCommit = forCommit ∧ sc.slot < 2
    ((s.pl n).checking = none ∨ s.blocksUp = false → Does (.plCheckDone k h) s fun t => t.pls = s.pls ∧ t.regs = s.regs) ∧
    (checked → c.reason ≠ 0 → c.reason < 16 → s.hst n < 3 → Does (.plCheckDone k h) s fun t =>
      state t = 5 ∧ reason t = c.reason ∧ (t.pl n).checking = none ∧ (t.pl n).enabled = (s.pl n).enabled ∧ (t.pl n).sel = (s.pl n).sel) ∧
    (checked → 3 ≤ s.hst n → Does (.plCheckDone k h) s fun t => state t = 5 ∧ reason t = 5 ∧ (t.pl n).checking = none) ∧
    (checked → c.reason = 0 → s.hst n = 0 → Does (.plCheckDone k h) s fun t =>
      (c.latest = true → state t = 4) ∧ (t.pl n).checking = none ∧ (t.pl n).pending = none ∧ (t.pl n).enabled = c.en ∧ (t.pl n).sel = c.slot ∧
      (t.pl n).place = c.place) ∧
    (checked → c.reason = 0 → s.hst n = 1 ∨ s.hst n = 2 → same → Does (.plCheckDone k h) s fun t =>
      state t = 3 ∧ (t.pl n).pending = some { c with target := s.targetFrame n } ∧ (t.pl n).checking = none ∧
      (t.pl n).windowOn = ((s.pl n).windowOn || c.en)) ∧
    (checked → c.reason = 0 → s.hst n = 1 ∨ s.hst n = 2 → ¬ same → Does (.plCheckDone k h) s fun t =>
      state t = 2 ∧ (t.pl n).verifying = true ∧ (t.pl n).pending = none ∧ (t.pl n).windowOn = ((s.pl n).windowOn || c.en) ∧ ((s.pl n).scan = none → (t.pl n).scan = some ⟨c.slot, true⟩)) ∧
    ((s.pl n).scan = none ∨ s.blocksUp = false → Does (.plScanDone k h) s fun t => t.pls = s.pls ∧ t.regs = s.regs) ∧
    (scanned false → Does (.plScanDone k h) s fun t =>
      verdict t = s.slotVerdict n sc.slot ∧ (t.pl n).verdict = some (s.slotVerdict n sc.slot) ∧ (t.pl n).scan = none) ∧
    (scanned true → (s.pl n).checking = some c → s.slotVerdict n sc.slot = 3 → Does (.plScanDone k h) s fun t =>
      verdict t = 3 ∧ state t = 5 ∧ reason t = 6 ∧ (t.pl n).checking = none ∧ (t.pl n).pending = (s.pl n).pending ∧ Raised 0x140 s t ∧
      (s.slotBad n sc.slot = true → Raised (0x14C + s.plUnit n) s t)) ∧
    (scanned true → (s.pl n).checking = some c → s.slotVerdict n sc.slot = 1 → s.active n = true → Does (.plScanDone k h) s fun t =>
      verdict t = 1 ∧ state t = 3 ∧ (t.pl n).checking = none ∧ (t.pl n).pending = some { c with target := s.targetFrame n, verdict := some 1 }))

/-- A check unit starts on its command, unless it is busy or its rows overlap, and stops on an abort with the bytes that it has been fed; a read of its
running value during a scan returns the value after the bytes fed and shows their number; a scan that is paused is fed nothing; and the
end of a scan gives the result and compares it (R259 to R261).

A save of the zones asks the Cellar for a zone record with the zone registers as they stand, and a write of the glyph port stores its four bytes at
the index, which moves to the next word (R323, R325). -/
def Obligations.CheckUnitsAndDialText : Prop :=
  (∀ (o : Origin) (u : Fin 4) (fed : Nat) (s : State),
    let state (t : State) := t.get (F.CK_STAT_STATE u.val)
    let run (t : State) := t.get (F.CK_RUN_VALUE u.val)
    let prog (t : State) := t.get (F.CK_PROG_BYTES u.val)
    let poly := s.get (F.CK_CFG_POLY u.val)
    let blocked := state s = 1 ∨ (1 < s.get (F.CK_ROWS_ROWS u.val) ∧ s.get (F.CK_STRIDE_BYTES u.val) < s.get (F.CK_LEN_BYTES u.val))
    let n := if s.get (F.CK_STAT_PAUSED u.val) = 1 then (s.ck u.val).fed else min (max fed (s.ck u.val).fed) (s.ckTotal u.val)
    let r := s.ckRegion u.val
    let bad := s.regionBad r.1 r.2.1 r.2.2.1 r.2.2.2
    let cmp := s.get (F.CK_CFG_CMP u.val)
    let result := Nat.xor (s.ckRunAt u.val (s.ckTotal u.val) % 2 ^ 32) (crcXorOut poly)
    let ends := s.blocksUp = true ∧ state s = 1 ∧ s.get (F.CK_STAT_PAUSED u.val) = 0 ∧ (s.ck u.val).fed ≤ s.ckTotal u.val
    (Reaches s o (.CK_CMD, [u.val]) (w32 1) → blocked → Does (.ckStart o u) s (Counted [7, 0] s)) ∧
    (Reaches s o (.CK_CMD, [u.val]) (w32 1) → ¬ blocked → Does (.ckStart o u) s fun t =>
      state t = 1 ∧ prog t = 0 ∧ (t.ck u.val).fed = 0 ∧ run t = if s.get (F.CK_CFG_CONT u.val) = 1 then run s else crcInit poly) ∧
    (Reaches s o (.CK_CMD, [u.val]) (w32 2) → state s = 1 → Does (.ckAbort o u fed) s fun t =>
      state t = 3 ∧ (t.ck u.val).fed = n ∧ prog t = n % 2 ^ 32 ∧ run t = s.ckRunAt u.val n % 2 ^ 32) ∧
    (Reaches s o (.CK_CMD, [u.val]) (w32 2) → state s ≠ 1 → Does (.ckAbort o u fed) s fun t => t.regs = s.regs ∧ t.cks = s.cks) ∧
    (Answers s o (.CK_RUN, [u.val]) → state s = 1 → Does (.ckRunRead o u fed) s fun t =>
      s.out ++ [.readData (orgOf o) (keyAddr (.CK_RUN, [u.val])) (w32 (s.ckRunAt u.val n))] <+: t.out ∧ prog t = n % 2 ^ 32 ∧ state t = 1) ∧
    (Answers s o (.CK_RUN, [u.val]) → state s ≠ 1 → Does (.ckRunRead o u fed) s fun t =>
      s.out ++ [.readData (orgOf o) (keyAddr (.CK_RUN, [u.val])) (s.rd (.CK_RUN, [u.val]))] <+: t.out ∧ t.regs = s.regs) ∧
    (s.blocksUp = false ∨ state s ≠ 1 ∨ s.get (F.CK_STAT_PAUSED u.val) = 1 → Does (.ckScanDone u) s fun t => t.regs = s.regs ∧ t.cks = s.cks) ∧
    (ends → bad = true → Does (.ckScanDone u) s fun t => state t = 2 ∧ t.get (F.CK_STAT_ERR u.val) = 1 ∧ Raised (0x14C + u.val) s t) ∧
    (ends → bad = false → Does (.ckScanDone u) s fun t =>
      state t = 2 ∧ t.get (F.CK_RESULT_VALUE u.val) = result % 2 ^ 32 ∧ prog t = s.ckTotal u.val % 2 ^ 32 ∧
      (t.rd (.xx_STATUS, [7, 0])).getLsbD (4 * u.val) = true) ∧
    (ends → bad = false → cmp = 1 → s.get (F.CK_EXPECT_VALUE u.val) = result → Does (.ckScanDone u) s fun t => t.get (F.CK_STAT_CMP u.val) = 1) ∧
    (ends → bad = false → cmp = 1 → s.get (F.CK_EXPECT_VALUE u.val) ≠ result → Does (.ckScanDone u) s fun t =>
      t.get (F.CK_STAT_CMP u.val) = 2 ∧ Raised (0x148 + u.val) s t)) ∧
  (∀ (o : Origin) (v : Word) (s : State),
    let glyph (t : State) (a : Nat) := mget (fun _ => (0 : Byte)) t.glyphs a
    let i := s.get F.DT_GLY_IDX_INDEX
    (Reaches s o (.DT_CTRL, []) (w32 0x10001) → s.healthy = true → Does (.zoneSave o) s fun t =>
      t.rd (.DT_CTRL, []) = s.rd (.DT_CTRL, []) ∧ t.get F.CL_STAT_BUSY = 1 ∧
      ∃ r, r ∈ t.cl.queue ∧ r.region = 4 ∧ r.body = .regs (zoneRecord.map fun k => (k, s.rd k)) 0 0) ∧
    (Reaches s o (.DT_GLY_DATA, []) v → Does (.glyDataWrite o v) s fun t =>
      (∀ a, glyph t a = if 4 * i ≤ a ∧ a < 4 * i + 4 then (bytesLE 4 v.toNat).getD (a - 4 * i) 0 else glyph s a) ∧
      t.get F.DT_GLY_IDX_INDEX = (i + 1) % 2 ^ 18 ∧ Only [.out, .irqOwed, .msix, .w1, .sl, .glyphs] (some [.DT_GLY_IDX]) s t))

/-! ### Network ports, flows, transmit queues -/

/-- The link of a port: it comes up where the port is enabled with a PMD and no lane is under test, and goes down with a count and, on an enabled
port, NP_LINK_DOWN; an enabled PTP port without a link is faulty. Removing the module takes it down and raises NP_MODULE. The module's lines show in NPp_STAT, and a transaction leaves for the module
at its command and runs to its end (R328 to R330, R346; log 74).

A received frame is dropped and counted where its FCS is bad, where its length is wrong, or where it fails the filter, judged in that order, and
nothing is received on a port without a link. A frame that passes is counted and takes its class: control frames pass a bucket, frames of a flow its
policer, and the rest go to the default ring or are counted (R331 to R333, R335, R339). -/
def Obligations.PortsReceive : Prop :=
  (∀ (o : Origin) (p : Fin 4) (v data : Word) (b : Bool) (s : State),
    let link (t : State) := t.get (F.NP_STAT_LINK p.val)
    let present (t : State) := t.get (F.NP_STAT_MOD_PRESENT p.val)
    let int (t : State) := t.get (F.NP_STAT_MOD_INT p.val)
    let busy (t : State) := t.get (F.NP_I2C_STAT_BUSY p.val)
    let pmd := s.get (F.NP_CTRL_PMD p.val)
    let en := s.get (F.NP_CTRL_EN p.val)
    let may := s.blocksUp = true ∧ en = 1 ∧ 1 ≤ pmd ∧ pmd ≤ 5 ∧ s.portTested p.val = false
    let ptp := s.ptp p.val
    let event (i : Nat) (t : State) := (t.rd (.xx_STATUS, [16, p.val])).getLsbD i = true
    let stays (t : State) := t.regs = s.regs
    let kept (t : State) := link t = link s ∧ present t = present s ∧ t.ports = s.ports ∧ t.queues = s.queues ∧
      t.get (F.NP_LINK_DOWN_COUNT p.val) = s.get (F.NP_LINK_DOWN_COUNT p.val)
    let down (t : State) := link t = 0 ∧ event 0 t ∧ t.get (F.NP_LINK_DOWN_COUNT p.val) = min (s.get (F.NP_LINK_DOWN_COUNT p.val) + 1) 65535 ∧
      (en = 1 → Raised (0x180 + p.val) s t) ∧
      (ptp.en = true → ptp.faulty = false → (t.ptp p.val).faulty = true ∧ Raised 0x045 s t)
    (link s = 0 → may → Does (.linkUp p) s fun t => link t = 1 ∧ event 0 t ∧ (t.ptp p.val).faulty = false) ∧
    (link s = 1 ∨ ¬ may → Does (.linkUp p) s stays) ∧
    (link s = 1 → Does (.linkDown p) s down) ∧ (link s = 0 → Does (.linkDown p) s kept) ∧
    (present s = 1 → link s = 1 → Does (.moduleRemoved p) s fun t => present t = 0 ∧ down t ∧ event 1 t ∧ Raised (0x190 + p.val) s t) ∧
    (present s = 1 → link s = 0 → Does (.moduleRemoved p) s fun t => present t = 0 ∧ link t = 0 ∧ event 1 t ∧ Raised (0x190 + p.val) s t) ∧
    (present s = 0 → Does (.moduleRemoved p) s kept) ∧
    (present s = 0 → Does (.moduleInserted p) s fun t => present t = 1 ∧ event 1 t ∧ link t = link s) ∧
    (present s = 1 → Does (.moduleInserted p) s stays) ∧
    (int s ≠ b2n b → Does (.moduleIntChange p b) s fun t => int t = b2n b ∧ event 2 t) ∧
    (int s = b2n b → Does (.moduleIntChange p b) s stays) ∧
    (Reaches s o (.NP_I2C_CMD, [p.val]) v → busy s = 1 → Does (.i2cStart o p v) s (Counted [16, p.val] s)) ∧
    (Reaches s o (.NP_I2C_CMD, [p.val]) v → busy s = 0 → Does (.i2cStart o p v) s fun t =>
      busy t = 1 ∧ bits (t.rd (.NP_I2C_CMD, [p.val])) 18 0 = bits v 18 0 ∧
      s.out ++ [.i2c p.val (bits v 6 0) (nbit v.toNat 7) (bits v 15 8) (nbit v.toNat 18) (bits v 17 16 + 1)
        (if nbit v.toNat 7 then [] else bytesLE (bits v 17 16 + 1) (s.rd (.NP_I2C_DATA, [p.val])).toNat)] <+: t.out) ∧
    (busy s = 0 → Does (.i2cDone p b data) s stays) ∧
    (busy s = 1 → Does (.i2cDone p b data) s fun t =>
      busy t = 0 ∧ t.get (F.NP_I2C_STAT_NACK p.val) = b2n !b ∧ event 3 t ∧ (b = false → event 4 t) ∧
      (let n := 8 * (s.get (F.NP_I2C_CMD_LEN p.val) + 1)
       let got := bits (t.rd (.NP_I2C_DATA, [p.val])) (n - 1) 0
       if b = true ∧ s.get (F.NP_I2C_CMD_RD p.val) = 1 then got = bits data (n - 1) 0 else t.rd (.NP_I2C_DATA, [p.val]) = s.rd (.NP_I2C_DATA, [p.val])))) ∧
  (∀ (p : Fin 4) (data : List Byte) (stamp : Stamp) (i : Ip) (f : Nat) (s : State),
    let up (x : Fld) := min (s.get x + 1) (2 ^ 32 - 1)
    let one (r : Reg) (x : Fld) (t : State) := t.get x = up x ∧ Only [.out, .irqOwed, .msix] (some [r]) s t
    let live := s.get (F.NP_STAT_LINK p.val) = 1 ∧ s.get (F.NP_CTRL_EN p.val) = 1
    let long := 64 ≤ data.length + 4 ∧ data.length + 4 ≤ s.get (F.NP_RX_CFG_MTU p.val)
    let d := (untag data).2
    let pass := live ∧ long ∧ s.filterPasses p.val (untag data).1 d = true
    let at_ := unitsOf (s.rxInstant p.val stamp)
    let flow := pass ∧ parseIp d = some i ∧ i.whole = true ∧ i.udp = true ∧ s.controlClass p.val i.dst i.dport = false ∧ s.flowFor p.val i = some f
    let frames (t : State) := t.get (F.NP_RX_FRAMES_COUNT p.val) = up (F.NP_RX_FRAMES_COUNT p.val)
    (∀ ok, ¬ live → Does (.rxFrame p data ok stamp) s fun t => t.regs = s.regs ∧ t.flows = s.flows) ∧
    (live → Does (.rxFrame p data false stamp) s (one .NP_RX_FCS (F.NP_RX_FCS_COUNT p.val))) ∧
    (live → ¬ long → Does (.rxFrame p data true stamp) s (one .NP_RX_LEN (F.NP_RX_LEN_COUNT p.val))) ∧
    (live → long → s.filterPasses p.val (untag data).1 d = false → Does (.rxFrame p data true stamp) s (one .NP_RX_FILTERED (F.NP_RX_FILTERED_COUNT p.val))) ∧
    (pass → parseIp d = none → s.get (F.NP_DEFAULT_EN p.val) = 0 → Does (.rxFrame p data true stamp) s fun t =>
      frames t ∧ t.get (F.NP_RX_NODEST_COUNT p.val) = up (F.NP_RX_NODEST_COUNT p.val) ∧ t.hqs = s.hqs) ∧
    (pass → parseIp d = some i → i.whole = true → i.udp = true → s.controlClass p.val i.dst i.dport = true → Does (.rxFrame p data true stamp) s fun t =>
      frames t ∧ t.flows = s.flows ∧ t.hqs = s.hqs ∧
      t.get (F.NP_CTL_DROP_COUNT p.val) = if (s.ctlBucket p.val (d.length + 4) at_).2 then s.get (F.NP_CTL_DROP_COUNT p.val) else up (F.NP_CTL_DROP_COUNT p.val)) ∧
    (flow → (s.police f (d.length + 4) at_).2 = true → Does (.rxFrame p data true stamp) s fun t =>
      frames t ∧ t.get (F.NR_PKTS_COUNT f) = up (F.NR_PKTS_COUNT f) ∧ (t.flow f).seen = some s.tick) ∧
    (flow → (s.police f (d.length + 4) at_).2 = false → Does (.rxFrame p data true stamp) s fun t =>
      frames t ∧ t.get (F.NR_POL_DROP_COUNT f) = up (F.NR_POL_DROP_COUNT f) ∧ t.get (F.NR_PKTS_COUNT f) = s.get (F.NR_PKTS_COUNT f) ∧
      (s.get (F.NR_POL_DROP_COUNT f) = 0 → Raised 0x195 s t)))

/-- A flow context is enabled where its checks pass, and starts with a full bucket and no sequence; else the first failing check is recorded and EN
stays 0. A disable takes effect at once and ends an open frame incomplete. A path of a merge that delivers nothing while its partner does is raised
once (R337, R338, R340).

An SDI input group: it locks once; a link that loses lock ends the frame in progress and, on an enabled group, is raised; and a line of an enabled
and locked group shows its payload ID, whether that disagrees with the settings, and a CRC error (R344). -/
def Obligations.FlowsAndSdiInputs : Prop :=
  (∀ (o : Origin) (f : Fin 16384) (g : Nat) (v : Word) (s : State),
    let en (t : State) := t.get (F.NR_CTRL_EN f.val)
    let err := s.flowErr f.val v
    (∀ w, Reaches s o (.NR_CTRL, [f.val]) w) →
    (en s = 0 → err = 0 → Does (.flowEnable o f v) s fun t =>
      en t = 1 ∧ t.get (F.NR_STAT_CFG_ERR f.val) = 0 ∧ t.get (F.NR_STAT_NEWEST f.val) = 3 ∧ t.get (F.NR_STAT_WRITING f.val) = 3 ∧
      bits (t.rd (.NR_CTRL, [f.val])) 9 1 = bits v 9 1 ∧ (t.flow f.val).tok = s.get (F.NR_POL_BURST_UNITS f.val) * 65536 ∧ (t.flow f.val).hi = none) ∧
    (en s = 0 → err ≠ 0 → Does (.flowEnable o f v) s fun t =>
      en t = 0 ∧ t.get (F.NR_STAT_CFG_ERR f.val) = err ∧ (t.rd (.xx_STATUS, [19, 0])).getLsbD 0 = true ∧ t.flows = s.flows) ∧
    (en s = 1 → Does (.flowDisable o f v) s fun t =>
      en t = 0 ∧ (t.flow f.val).frame = none ∧ t.get (F.NR_STAT_WRITING f.val) = 3 ∧ t.mem = s.mem ∧
      t.get (F.NR_ERRS_INCOMPLETE f.val) = if (s.flow f.val).frame.any (·.live) then min (s.get (F.NR_ERRS_INCOMPLETE f.val) + 1) 65535
        else s.get (F.NR_ERRS_INCOMPLETE f.val)) ∧
    (en s = 1 → s.mergePartner f.val = some g → s.pathUp f.val = false → s.pathUp g = true → (s.flow f.val).down = false →
      Does (.pathTimeout f) s fun t => (t.flow f.val).down = true ∧ Raised 0x196 s t) ∧
    (en s = 0 ∨ s.mergePartner f.val = none ∨ s.pathUp f.val = true ∨ (s.flow f.val).down = true → Does (.pathTimeout f) s fun t =>
      t.flows = s.flows ∧ t.regs = s.regs)) ∧
  (∀ (i : Fin 16) (link : Fin 4) (l : SdiLine) (s : State),
    let lock (t : State) := t.get (F.NG_SDI_STAT_LOCK i.val)
    let en := s.get (F.NG_SDI_CTRL_EN i.val)
    let fl (t : State) := t.flow (16384 + i.val)
    let event (t : State) := (t.rd (.xx_STATUS, [19, 0])).getLsbD 3 = true
    (lock s = 0 → s.blocksUp = true → Does (.sdiInLockAcquired i) s fun t => lock t = 1 ∧ event t ∧ (fl t).links = List.range (2 ^ s.get (F.NG_SDI_CTRL_LINKS i.val))) ∧
    (lock s = 1 ∨ s.blocksUp = false → Does (.sdiInLockAcquired i) s fun t => t.regs = s.regs ∧ t.flows = s.flows) ∧
    (link.val ∉ (fl s).links → Does (.sdiInLockLoss i link) s fun t => t.regs = s.regs ∧ t.flows = s.flows) ∧
    (link.val ∈ (fl s).links → Does (.sdiInLockLoss i link) s fun t =>
      lock t = 0 ∧ event t ∧ link.val ∉ (fl t).links ∧ (en = 1 → Raised (0x1A0 + i.val) s t ∧ (fl t).frame.any (·.live) = false)) ∧
    (en = 0 ∨ lock s = 0 → Does (.sdiInLine i l) s fun t => t.regs = s.regs ∧ t.flows = s.flows) ∧
    (en = 1 → lock s = 1 → Does (.sdiInLine i l) s fun t =>
      t.rd (.NG_SDI_PID, [i.val]) = l.payloadId ∧
      t.get (F.NG_SDI_STAT_MISMATCH i.val) = b2n (!Config.pidAgrees (s.get (F.NG_SDI_VIDEO_FMT i.val)) (s.get (F.NG_SDI_VIDEO_RATE i.val)) l.payloadId) ∧
      t.get (F.NG_SDI_CRC_ERR_COUNT i.val) = (if l.crcOk then s.get (F.NG_SDI_CRC_ERR_COUNT i.val) else min (s.get (F.NG_SDI_CRC_ERR_COUNT i.val) + 1) (2 ^ 32 - 1)) ∧
      t.get (F.LT_SVC_ERR_COUNT (40 + i.val)) = if l.crcOk then s.get (F.LT_SVC_ERR_COUNT (40 + i.val)) else min (s.get (F.LT_SVC_ERR_COUNT (40 + i.val)) + 1) (2 ^ 32 - 1)))

/-- A transmit queue is enabled empty where its checks pass, and disabled, with its frames discarded, unless a running head streams through it. A frame
enters an enabled queue with the launch time that its LAUNCH gives; the head of a MEDIA queue is presented 2 µs before its launch, and its
frames are dropped and counted once they are later than tolerated, wherever they wait (R347 to R349, R351 to R353, R357).

A free port with a link starts the earliest ready MEDIA frame, else a ready CONTROL frame, else the next BEST_EFFORT frame, and nothing where none
is ready or a frame is being sent. The frame leaves the device; at its end it is counted, its tag shows, and where asked it is stamped (R351, R356,
R361, R367). -/
def Obligations.QueuesAndPortsSend : Prop :=
  (∀ (o : Origin) (q : Fin 16384) (v : Word) (fr : TxFrame) (e : TxEnt) (rest : List TxEnt) (s : State),
    let en (t : State) := t.get (F.NQ_CTRL_EN q.val)
    let qs (t : State) := (t.queue q.val).waiting
    let err := s.queueErr q.val v
    let p := s.qPort q.val
    let x := s.queue q.val
    let launch := s.get (F.NQ_CTRL_LAUNCH q.val)
    let media := s.get (F.NQ_CTRL_CLASS q.val) = 0
    let soon := ∃ t, e.launch = some t ∧ t ≤ s.now + 2000 * nsUnits
    let late := (qs s).filter (s.tooLate p)
    let up (x : Fld) := min (s.get x + late.length) (2 ^ 32 - 1)
    let may := ∀ w, Reaches s o (.NQ_CTRL, [q.val]) w
    (may → en s = 0 → err = 0 → Does (.queueEnable o q v) s fun t => en t = 1 ∧ qs t = [] ∧ t.get (F.NQ_STAT_CFG_ERR q.val) = 0 ∧
      bits (t.rd (.NQ_CTRL, [q.val])) 13 1 = bits v 13 1) ∧
    (may → en s = 0 → err ≠ 0 → Does (.queueEnable o q v) s fun t =>
      en t = 0 ∧ t.get (F.NQ_STAT_CFG_ERR q.val) = err ∧ (t.rd (.xx_STATUS, [19, 0])).getLsbD 8 = true ∧ t.queues = s.queues) ∧
    (may → en s = 1 → s.queueHead q.val ≠ none → Does (.queueDisable o q v) s fun t => en t = 1 ∧ t.queues = s.queues) ∧
    (may → en s = 1 → s.queueHead q.val = none → Does (.queueDisable o q v) s fun t => en t = 0 ∧ qs t = [] ∧ t.get (F.NQ_STAT_BACKLOG q.val) = 0) ∧
    (en s = 0 → Does (.txFrameEnqueue q fr) s fun t => t.queues = s.queues ∧ t.regs = s.regs) ∧
    (en s = 1 → s.get (F.NP_STAT_LINK p) = 1 → (s.port p).oper = none → Does (.txFrameEnqueue q fr) s fun t =>
      t.get (F.NQ_STAT_BACKLOG q.val) = 1 ∧ ∃ y, qs t = qs s ++ [y] ∧ y.data = fr.data ∧ y.at_ = s.now ∧
        (launch = 0 → y.launch = none) ∧ (launch = 3 → y.launch = fr.launch.map unitsOf) ∧
        (launch = 2 → y.launch = some ((x.index * s.get (F.NQ_PERIOD_UNITS q.val) + s.get (F.NQ_PHASE_UNITS q.val)) * 2 ^ 24) ∧
          y.tag = x.index % 65536 ∧ (t.queue q.val).index = x.index + 1)) ∧
    (qs s = e :: rest → media → soon → Does (.launchPresent q) s fun t => (t.queue q.val).presented = true ∧ qs t = qs s) ∧
    (qs s = [] ∨ ¬ media → Does (.launchPresent q) s fun t => t.queues = s.queues) ∧
    (qs s = e :: rest → ¬ soon → Does (.launchPresent q) s fun t => t.queues = s.queues) ∧
    (media → late ≠ [] → (s.port p).oper = none → s.get (F.NP_STAT_LINK p) = 1 → Does (.lateDrop q) s fun t =>
      qs t = (qs s).filter (fun y => !s.tooLate p y) ∧ t.get (F.NQ_LATE_DROP_COUNT q.val) = up (F.NQ_LATE_DROP_COUNT q.val) ∧
      t.get (F.NP_TX_LATE_DROP_COUNT p) = up (F.NP_TX_LATE_DROP_COUNT p) ∧ t.get (F.NQ_STAT_BACKLOG q.val) = b2n !(qs t).isEmpty ∧
      (s.get (F.NQ_LATE_DROP_COUNT q.val) = 0 → Raised 0x189 s t)) ∧
    (¬ media ∨ late = [] → Does (.lateDrop q) s fun t => t.queues = s.queues ∧ t.regs = s.regs)) ∧
  (∀ (p : Fin 4) (q : Nat) (e : TxEnt) (start stop : Nat) (s : State),
    let runs := s.blocksUp = true
    let link := s.get (F.NP_STAT_LINK p.val) = 1
    let free := (s.port p.val).sending = none
    let wire := wireUnits (e.data.length + 4 + s.getE (F.NP_NQ_OVERHEAD_BYTES p.val))
    let sends (t : State) := (t.port p.val).sending = some (q, e, s.now, s.now + wire) ∧ s.out ++ [.frame p.val e.data] <+: t.out
    let up (x : Fld) := min (s.get x + 1) (2 ^ 32 - 1)
    let tsq (t : State) := (mget (fun _ => []) t.tb.tsq p.val).length
    let stays (t : State) := t.queues = s.queues ∧ t.ports = s.ports ∧ t.regs = s.regs
    (runs → link → free → s.mediaReady p.val = [(q, e)] → Does (.txFrameStart p) s sends) ∧
    (runs → link → free → s.mediaReady p.val = [] → s.controlReady p.val = some (q, e) → Does (.txFrameStart p) s sends) ∧
    (runs → link → free → s.mediaReady p.val = [] → s.controlReady p.val = none → (s.bestReady p.val).1 = some (q, e) → Does (.txFrameStart p) s sends) ∧
    (runs → link → free → s.mediaReady p.val = [] → s.controlReady p.val = none → (s.bestReady p.val).1 = none → Does (.txFrameStart p) s stays) ∧
    (runs → link → ¬ free → Does (.txFrameStart p) s stays) ∧
    (free → Does (.txFrameDone p) s stays) ∧
    ((s.port p.val).sending = some (q, e, start, stop) → s.now < stop → Does (.txFrameDone p) s stays) ∧
    ((s.port p.val).sending = some (q, e, start, stop) → stop ≤ s.now → Does (.txFrameDone p) s fun t =>
      (t.port p.val).sending = none ∧ t.get (F.NP_TX_FRAMES_COUNT p.val) = up (F.NP_TX_FRAMES_COUNT p.val) ∧
      t.get (F.NQ_FRAMES_COUNT q) = up (F.NQ_FRAMES_COUNT q) ∧ t.get (F.NQ_STAT_TAG q) = e.tag % 2 ^ 16 ∧
      tsq t = tsq s + b2n (e.stamp && decide (q < 16376))))

/-- A gate control list: EN = 0 discards it; CHANGE takes the admin list as pending, from a base at least 2 µs ahead on the grid of its cycle, where its
checks pass, and records the first failing one else; at its base it becomes operational; and the entry shown is the one of the present time (R362,
R363).

The start of an observation period shows for each queue of a port how many frames wait: as they stand while at most 1,024 queues are active, and
else as the highest seen (R366). -/
def Obligations.GatesAndQueuesAreWatched : Prop :=
  (∀ (o : Origin) (p : Fin 4) (v : Word) (l : Gcl) (s : State),
    let en (t : State) := t.get ⟨(.NG_GCL_CTRL, [p.val]), 0, 0⟩
    let err := s.gclErr p.val (s.flag ⟨(.NG_GCL_CTRL, [p.val]), 0, 0⟩)
    let cycle := s.get (F.NG_GCL_ADMIN_CYCLE_NS p.val)
    let base := (s.get (F.NG_GCL_ADMIN_BASE_SH_SEC_HI p.val) * 2 ^ 32 + s.get (F.NG_GCL_ADMIN_BASE_SL_SEC_LO p.val)) * 1000000000 +
      s.get (F.NG_GCL_ADMIN_BASE_NS_NS p.val)
    let least := ceilDiv s.now nsUnits + 2000
    let pending (t : State) := t.get (F.NG_GCL_STAT_PENDING p.val)
    let may := ∀ w, Reaches s o (.NG_GCL_CTRL, [p.val]) w
    let alone := (v.getLsbD 17 && v.getLsbD 1) = false
    (may → alone → Does (.gclEnable o p v) s fun t => en t = 1 ∧ t.ports = s.ports) ∧
    (may → alone → en s = 1 → Does (.gclDisable o p v) s fun t =>
      en t = 0 ∧ (t.port p.val).oper = none ∧ (t.port p.val).pend = none ∧ pending t = 0 ∧ t.get (F.NG_GCL_STAT_OPER p.val) = 0) ∧
    (may → v.getLsbD 16 = false → err ≠ 0 → Does (.gclChange o p v) s fun t =>
      t.get (F.NG_GCL_STAT_CFG_ERR p.val) = err ∧ t.ports = s.ports ∧ en t = en s ∧ (t.rd (.xx_STATUS, [19, 0])).getLsbD 9 = true) ∧
    (may → v.getLsbD 16 = false → err = 0 → Does (.gclChange o p v) s fun t =>
      pending t = 1 ∧ t.get (F.NG_GCL_STAT_CFG_ERR p.val) = 0 ∧ ∃ x, (t.port p.val).pend = some x ∧ x.cycle = cycle ∧ least ≤ x.base ∧
        (least ≤ base → x.base = base) ∧ (x.base - base) % cycle = 0 ∧ x.entries.length = s.get (F.NG_GCL_ADMIN_LEN_LEN p.val) ∧
        ∀ i, i < x.entries.length → x.entries.getD i (0, 0) = (s.get (F.NG_GCL_ADMIN_GATES p.val i), s.get (F.NG_GCL_ADMIN_INTERVAL p.val i))) ∧
    ((s.port p.val).pend = some l → l.base * nsUnits ≤ s.now → Does (.gclSwap p) s fun t =>
      (t.port p.val).oper = some l ∧ (t.port p.val).pend = none ∧ pending t = 0 ∧ t.get (F.NG_GCL_STAT_OPER p.val) = 1 ∧
      t.get (F.NG_GCL_OPER_CYCLE_NS p.val) = l.cycle % 2 ^ 30 ∧ (t.rd (.xx_STATUS, [16, p.val])).getLsbD 8 = true) ∧
    ((s.port p.val).pend = none ∨ (∃ x, (s.port p.val).pend = some x ∧ s.now < x.base * nsUnits) → Does (.gclSwap p) s fun t =>
      t.ports = s.ports ∧ t.regs = s.regs) ∧
    ((s.port p.val).oper = some l → Does (.gateEntry p) s fun t =>
      t.get (F.NG_GCL_STAT_ENTRY p.val) = (l.at' s.now).1 % 2 ^ 8 ∧ t.ports = s.ports) ∧
    ((s.port p.val).oper = none → Does (.gateEntry p) s fun t => t.ports = s.ports ∧ t.regs = s.regs)) ∧
  (∀ (p : Fin 4) (q : Nat) (s : State),
    let depth (t : State) := t.get (F.NQ_OBS_DEPTH_DEPTH q)
    let waits := min (s.queue q).waiting.length 32767
    let many := decide (1024 < (s.portQueues p.val).length)
    q ∈ s.portQueues p.val → Does (.obsPeriod p) s fun t =>
      t.get (F.NP_TX_ACTIVE_HWM p.val) = b2n many ∧ t.get (F.NQ_OBS_DEPTH_HWM q) = b2n many ∧
      depth t = (if many then max waits (depth s) else waits) ∧ t.queues = s.queues ∧
      (many = true → s.get (F.NP_TX_ACTIVE_HWM p.val) = 0 → (t.rd (.xx_STATUS, [16, p.val])).getLsbD 11 = true))

/-! ### Ancillary channels and host rings -/

/-- An ancillary channel is enabled with a legal mode and size and becomes ACTIVE, and is disabled at once; its software index may run at most one ring
ahead; START leaves ABORTED or ERROR, and ABORT leaves ACTIVE without consuming a slot (R371, R372, R379, R380).

A burst of a channel ends: a received slot goes into the ring; a slot to be sent is consumed, and is orphaned where its output is gone; each moves
the hardware index and is counted. A bus error takes every active channel to ERROR (R373, R378, R379). -/
def Obligations.AncillaryChannels : Prop :=
  (∀ (o : Origin) (c : Fin 64) (v : Word) (s : State),
    let en (t : State) := t.get ⟨(.AD_CTRL, [c.val]), 0, 0⟩
    let st (t : State) := t.get (F.AD_STAT_STATE c.val)
    let last (t : State) := t.get (F.AD_STAT_LAST c.val)
    let idle (t : State) := (t.ad c.val).burst = none ∧ (t.ad c.val).rx = [] ∧ t.get (F.AD_STAT_BUSY c.val) = 0
    let legal := 1 ≤ bits v 11 8 ∧ bits v 11 8 ≤ 12 ∧ bits v 3 1 < 4
    let hw := s.get (F.AD_HW_IDX_IDX c.val)
    let sw (t : State) := t.get (F.AD_SW_IDX_IDX c.val)
    let ahead := if s.get (F.AD_CTRL_MODE c.val) ≤ 1 then idxDiff (bits v 15 0) hw else idxDiff hw (bits v 15 0)
    let may (r : Reg) := ∀ w, Reaches s o (r, [c.val]) w
    let stays (t : State) := t.regs = s.regs ∧ t.ads = s.ads
    (may .AD_CTRL → en s = 0 → st s ≠ 1 → legal → Does (.adEnable o c v) s fun t =>
      en t = 1 ∧ st t = 1 ∧ bits (t.rd (.AD_CTRL, [c.val])) 18 1 = bits v 18 1) ∧
    (may .AD_CTRL → en s = 0 → st s ≠ 1 → ¬ legal → Does (.adEnable o c v) s fun t => en t = 0 ∧ st t = st s ∧ Raised 4 s t) ∧
    (may .AD_CTRL → en s = 1 → st s = 1 → 1 ≤ s.get (F.AD_CTRL_SIZE c.val) → s.get (F.AD_CTRL_SIZE c.val) ≤ 12 → Does (.adDisable o c v) s fun t =>
      en t = 0 ∧ st t = 0 ∧ idle t ∧ t.get (F.AD_HW_IDX_IDX c.val) = hw) ∧
    (may .AD_SW_IDX → ahead ≤ 2 ^ s.get (F.AD_CTRL_SIZE c.val) → Does (.adSwIdxWrite o c v) s fun t => sw t = bits v 15 0) ∧
    (may .AD_SW_IDX → 2 ^ s.get (F.AD_CTRL_SIZE c.val) < ahead → Does (.adSwIdxWrite o c v) s fun t => sw t = sw s ∧ Raised 4 s t) ∧
    (may .AD_CMD → st s = 2 ∨ st s = 3 → Does (.adStart o c) s fun t => st t = 1 ∧ t.ads = s.ads) ∧
    (may .AD_CMD → st s = 0 ∨ st s = 1 → Does (.adStart o c) s stays) ∧
    (may .AD_CMD → st s = 1 → (s.ad c.val).doneAt ≠ some s.tick → Does (.adAbort o c) s fun t =>
      st t = 2 ∧ last t = 2 ∧ idle t ∧ t.get (F.AD_HW_IDX_IDX c.val) = hw) ∧
    (may .AD_CMD → st s ≠ 1 ∨ (s.ad c.val).doneAt = some s.tick → Does (.adAbort o c) s stays)) ∧
  (∀ (c : Fin 64) (data slot : List Byte) (rest : List (List Byte)) (b : AdBurst) (s : State),
    let hw (t : State) := t.get (F.AD_HW_IDX_IDX c.val)
    let a := s.slotAddr c.val (hw s)
    let host := s.get (F.AD_CTRL_HOST c.val)
    let bad := s.badIn a (32 + (parseSlot (s.bytes a 32)).len) = true
    let done (t : State) := hw t = (hw s + 1) % 2 ^ 16 ∧ t.get (F.AD_STAT_LAST c.val) = 1 ∧ (t.ad c.val).burst = none ∧
      t.get (F.AD_BURSTS_COUNT c.val) = min (s.get (F.AD_BURSTS_COUNT c.val) + 1) (2 ^ 32 - 1)
    let orphan (t : State) := t.get (F.AD_ORPHAN_COUNT c.val)
    let state (t : State) (i : Nat) := bits (t.rd (.AD_STAT, [i])) 3 0
    let receives := (s.ad c.val).burst = none ∧ (s.ad c.val).rx = slot :: rest
    ((s.ad c.val).burst = none → (s.ad c.val).rx = [] → Does (.adBurstDone c data) s fun t => t.ads = s.ads ∧ t.regs = s.regs ∧ t.mem = s.mem) ∧
    (receives → host = 0 → s.MemOk → Does (.adBurstDone c data) s fun t => done t ∧ Stored false {} a slot s t ∧ (t.ad c.val).rx = rest) ∧
    (receives → host = 1 → Does (.adBurstDone c data) s fun t =>
      done t ∧ s.out ++ [.hostWrite (s.get (F.AD_CTRL_HOST_PF c.val)) a slot (!s.flag (F.AD_CTRL_SNOOP c.val))] <+: t.out ∧ (t.ad c.val).rx = rest ∧ t.mem = s.mem) ∧
    ((s.ad c.val).burst = some b → host = 0 → ¬ bad → s.withdrawn c.val b = true → Does (.adBurstDone c data) s fun t =>
      done t ∧ orphan t = min (orphan s + 1) 65535 ∧ (t.rd (.xx_STATUS, [8, 0])).getLsbD 3 = true) ∧
    ((s.ad c.val).burst = some b → host = 0 → ¬ bad → s.withdrawn c.val b = false → Does (.adBurstDone c data) s fun t => done t ∧ orphan t = orphan s) ∧
    ((s.ad c.val).burst = some b → host = 1 → s.slotMatches c.val (parseSlot data) b.line b.frame = false → Does (.adBurstDone c data) s fun t =>
      hw t = hw s ∧ (t.ad c.val).burst = none ∧ t.get (F.AD_BURSTS_COUNT c.val) = s.get (F.AD_BURSTS_COUNT c.val)) ∧
    Does (.adBusError c) s fun t =>
      (∀ i, i < 64 → state t i = if bits (s.rd (.AD_STAT, [i])) 1 0 = 1 then 15 else state s i) ∧
      (∀ i, i < 64 → bits (s.rd (.AD_STAT, [i])) 1 0 = 1 → (t.ad i).burst = none ∧ (t.ad i).rx = []) ∧
      (t.rd (.xx_STATUS, [8, 0])).getLsbD 0 = true ∧ Raised 0x1C0 s t)

/-- A host ring is enabled by a function, which becomes its owner, and is disabled at once; its doorbell may run at most one ring ahead of CONS; START
leaves ABORTED or ERROR, and ABORT leaves ACTIVE with the oldest descriptor marked (R381, R384 to R386).

An active ring reads its next descriptor from its owner and takes it up: NOP completes; a copy to local memory reads the bytes and stores them as the owner, and one to the host sends them; a
register write is made as the owner once no descriptor is ahead of it; a transmit frame enters the ring's queue, or is discarded with result 5 where
it has none; a receive buffer is posted. A descriptor whose operation the ring does not take fails with result 2 (R382, R383).

The oldest descriptor of a ring completes: its result is written back, CONS moves on, and the ring stays active; a descriptor error takes it to
ERROR, and a bus error every active ring (R382, R384, R385). -/
def Obligations.HostRings : Prop :=
  (∀ (f : Fin 4) (r : Fin 64) (v : Word) (s : State),
    let o : Origin := .pf f
    let en (t : State) := t.get (F.HQ_CTRL_EN r.val)
    let st (t : State) := t.get (F.HQ_STAT_STATE r.val)
    let last (t : State) := t.get (F.HQ_STAT_LAST r.val)
    let cons (t : State) := t.get (F.HQ_CONS_CONS r.val)
    let flight (t : State) := (t.hq r.val).flight
    let prod (t : State) := t.get (F.HQ_DB_PROD r.val)
    let legal := bits v 2 1 ≠ 3 ∧ 4 ≤ bits v 6 3 ∧ bits v 6 3 ≤ 15
    let kept := s.get (F.HQ_CTRL_KIND r.val) ≠ 3 ∧ 4 ≤ s.get (F.HQ_CTRL_SIZE r.val)
    let may (k : Reg) := ∀ w, Reaches s o (k, [r.val]) w
    let ahead := idxDiff (bits v 15 0) (cons s)
    (may .HQ_CTRL → en s = 0 → st s ≠ 1 → legal → Does (.hqEnable o r v) s fun t =>
      en t = 1 ∧ st t = 1 ∧ t.hqOwner r.val = f.val ∧ bits (t.rd (.HQ_CTRL, [r.val])) 9 1 = bits v 9 1) ∧
    (may .HQ_CTRL → en s = 0 → st s ≠ 1 → ¬ legal → Does (.hqEnable o r v) s fun t => en t = 0 ∧ st t = st s ∧ Raised 4 s t) ∧
    (may .HQ_CTRL → en s = 1 → st s = 1 → kept → Does (.hqDisable o r v) s fun t => en t = 0 ∧ st t = 0 ∧ flight t = [] ∧ cons t = cons s) ∧
    (may .HQ_DB → ahead ≤ s.hqSize r.val → Does (.hqDoorbell o r v) s fun t => prod t = bits v 15 0) ∧
    (may .HQ_DB → s.hqSize r.val < ahead → Does (.hqDoorbell o r v) s fun t =>
      prod t = prod s ∧ (t.rd (.xx_STATUS, [9, 0])).getLsbD 4 = true ∧ Raised 4 s t) ∧
    (may .HQ_CMD → st s = 2 ∨ st s = 3 → Does (.hqStart o r) s fun t => st t = 1 ∧ flight t = flight s ∧ cons t = cons s) ∧
    (may .HQ_CMD → st s = 0 ∨ st s = 1 → Does (.hqStart o r) s fun t => t.regs = s.regs ∧ t.hqs = s.hqs) ∧
    (may .HQ_CMD → st s = 1 → (s.hq r.val).doneAt ≠ some s.tick → Does (.hqAbort o r) s fun t =>
      st t = 2 ∧ last t = 2 ∧ flight t = [] ∧ (t.rd (.xx_STATUS, [9, 0])).getLsbD 2 = true ∧
      cons t = if flight s = [] then cons s else (cons s + 1) % 2 ^ 16) ∧
    (may .HQ_CMD → st s ≠ 1 ∨ (s.hq r.val).doneAt = some s.tick → Does (.hqAbort o r) s fun t => t.regs = s.regs ∧ t.hqs = s.hqs)) ∧
  (∀ (r : Fin 64) (d : HostDesc) (ds : List Word) (data : List Byte) (k : Key) (f : Fin 4) (q : Nat) (s : State),
    let kind := s.get (F.HQ_CTRL_KIND r.val)
    let flight (t : State) := (t.hq r.val).flight
    let read (a n : Nat) : Out := .hostRead (s.hqOwner r.val) a n (!s.flag (F.HQ_CTRL_SNOOP r.val))
    let fetched := s.out ++ [read (s.descAddr r.val (s.get (F.HQ_CONS_CONS r.val) + (flight s).length)) 32]
    let flies (res : Option Nat) (t : State) := flight t = flight s ++ [⟨ds, res⟩] ∧ t.get (F.HQ_STAT_BUSY r.val) = 1 ∧ fetched <+: t.out
    let next (op : Nat) := s.nextDesc r.val d = some ds ∧ s.get (F.HQ_CTRL_LOCAL r.val) = 0 ∧ descOp ds = op
    let stays (t : State) := t.hqs = s.hqs ∧ t.regs = s.regs ∧ t.mem = s.mem
    let v := dw ds 5
    let plainWrite := decodeAddr (dw ds 4).toNat = .reg k ∧ special.contains k.1 = false ∧ slowCode k = none ∧ (keyHdr k).headD 0 ≠ 9 ∧
      Reaches s (.pf f) k v ∧ Unlocked s k ∧ (∀ x ∈ (regDef k.1).fields, x.acc ≠ .w1) ∧ fieldsApart (regDef k.1).fields = true ∧
      isMw (regDef k.1) = false ∧ ∀ x, s.valueRule k x = .ok
    f.val = s.hqOwner r.val →
    (s.nextDesc r.val d = none → Does (.hqNop r d) s stays ∧ Does (.hqH2lCopy r d data) s stays ∧ Does (.hqL2hCopy r d) s stays ∧
      Does (.hqRegWrite r d) s stays ∧ Does (.hqTxFrame r d data) s stays ∧ Does (.hqRxBuffer r d) s stays) ∧
    (next 0 → kind = 0 ∨ kind = 2 → Does (.hqNop r d) s (flies (some 0))) ∧
    (∀ op, next op → op = 0 ∧ kind = 1 ∨ 6 ≤ op → Does (.hqNop r d) s (flies (some 2))) ∧
    (next 1 → kind = 0 → data.length = descLen ds → s.MemOk → Does (.hqH2lCopy r d data) s fun t =>
      flies (some 0) t ∧ Stored true (pfOrg f) (descLocal ds) data s t ∧ fetched ++ [read (descHost ds) (descLen ds)] <+: t.out) ∧
    (next 1 → kind ≠ 0 → Does (.hqH2lCopy r d data) s fun t => flies (some 2) t ∧ t.mem = s.mem) ∧
    (next 2 → kind = 0 → s.badIn (descLocal ds) (descLen ds) = false → Does (.hqL2hCopy r d) s fun t =>
      flies (some 0) t ∧ fetched ++ [.hostWrite f (descHost ds) (s.bytes (descLocal ds) (descLen ds)) false] <+: t.out) ∧
    (next 2 → kind ≠ 0 → Does (.hqL2hCopy r d) s (flies (some 2))) ∧
    (next 3 → kind = 0 ∨ kind = 2 → flight s = [] → plainWrite → Does (.hqRegWrite r d) s fun t =>
      flies (some 0) t ∧ ∀ x ∈ (regDef k.1).fields, x.acc = .rw → bits (t.rd k) x.hi x.lo = bits v x.hi x.lo) ∧
    (next 3 → kind = 0 ∨ kind = 2 → flight s ≠ [] → Does (.hqRegWrite r d) s stays) ∧
    (next 3 → kind = 1 → Does (.hqRegWrite r d) s (flies (some 2))) ∧
    (next 4 → kind = 2 → data.length = descLen ds → s.queueOf 2 r.val = none → Does (.hqTxFrame r d data) s (flies (some 5))) ∧
    (next 4 → kind = 2 → data.length = descLen ds → s.queueOf 2 r.val = some q → s.get (F.NQ_CTRL_EN q) = 1 →
      s.get (F.NP_STAT_LINK (s.qPort q)) = 1 → (s.port (s.qPort q)).oper = none → Does (.hqTxFrame r d data) s fun t =>
        flies none t ∧ ∃ e, (t.queue q).waiting = (s.queue q).waiting ++ [e] ∧ e.data = data) ∧
    (next 4 → kind ≠ 2 → Does (.hqTxFrame r d data) s (flies (some 2))) ∧
    (next 5 → kind = 1 → Does (.hqRxBuffer r d) s (flies none)) ∧
    (next 5 → kind ≠ 1 → Does (.hqRxBuffer r d) s (flies (some 2)))) ∧
  (∀ (r : Fin 64) (d : List Word) (res : Nat) (fs : List HqFlight) (s : State),
    let cons (t : State) := t.get (F.HQ_CONS_CONS r.val)
    let stat (t : State) (i : Nat) := bits (t.rd (.HQ_STAT, [i])) 3 0
    let flight (t : State) := (t.hq r.val).flight
    let a := s.descAddr r.val (cons s) + 28
    let word := setBits (setBits (dw d 7) 7 0 res) 31 31 1
    let first := flight s = ⟨d, some res⟩ :: fs
    ((flight s = [] ∨ ∃ e es, flight s = ⟨e, none⟩ :: es) → Does (.hqDescComplete r) s fun t => t.hqs = s.hqs ∧ t.regs = s.regs) ∧
    (first → res ≠ 2 → Does (.hqDescComplete r) s fun t =>
      flight t = fs ∧ cons t = (cons s + 1) % 2 ^ 16 ∧ t.get (F.HQ_STAT_LAST r.val) = 1 ∧ t.get (F.HQ_STAT_STATE r.val) = s.get (F.HQ_STAT_STATE r.val) ∧
      t.get (F.HQ_STAT_BUSY r.val) = b2n (decide (fs ≠ []))) ∧
    (first → s.get (F.HQ_CTRL_LOCAL r.val) = 0 → descOp d ≠ 5 → Does (.hqDescComplete r) s fun t =>
      s.out ++ [.hostWrite (s.hqOwner r.val) a (bytesLE 4 word.toNat) false] <+: t.out) ∧
    (first → res = 2 → Does (.hqDescComplete r) s fun t =>
      flight t = [] ∧ cons t = (cons s + 1) % 2 ^ 16 ∧ stat t r.val = 15 ∧ (t.rd (.xx_STATUS, [9, 0])).getLsbD 1 = true ∧ Raised 0x1C9 s t) ∧
    Does (.hqBusError r) s fun t =>
      (∀ i, i < 64 → stat t i = if bits (s.rd (.HQ_STAT, [i])) 1 0 = 1 then 15 else stat s i) ∧
      (∀ i, i < 64 → bits (s.rd (.HQ_STAT, [i])) 1 0 = 1 → (t.hq i).flight = []) ∧
      (t.rd (.xx_STATUS, [9, 0])).getLsbD 0 = true ∧ Raised 0x1C8 s t)

/-! ### Spemen ports -/

/-- The writes of the Spemen registers wait in the queue of the slow domain. On arrival, EN = 1 starts a port at MEASURE where the supply and the
budgets allow it and refuses it else, EN = 0 turns it off and clears its trips, DATA = 1 is kept unless the lane is under test, a lowered SP_LOOP_MAX
turns ports off until the granted budgets fit, and a save asks the Cellar for the Spemen record (R59, R390, R394, R395, R397, R399, R405). -/
def Obligations.SpemenWritesArrive : Prop :=
  ∀ (o : Origin) (g : Org) (n : Fin 8) (v a : Nat) (w : Word) (rest : List (Org × Nat × Nat)) (s : State),
    let q (t : State) := mget slowD t.slowQ 11
    let waits (k : Key) (w : Word) (t : State) := q t = q s ++ [(orgOf o, keyAddr k, w.toNat)] ∧ t.sps = s.sps
    let may (k : Key) (w : Word) := Reaches s o k w ∧ bits (s.slowAhead 11 (.xx_LOCK, [11, 0])) 0 0 = 0 ∧ (q s).length < 16
    let front (k : Key) := q s = (g, a, v) :: rest ∧ mget slowHoldD s.slowHold 11 = [] ∧ decodeAddr a = .reg k ∧ s.dv.heldWrites = false ∧ s.dv.railsOff = false
    let ctl : Key := (.SPP_CTRL, [n.val])
    let arrives (P : State → Prop) := Does (.slowWriteArrive .sp) s fun t => q t = rest ∧ P t
    let st (t : State) := t.spSt n.val
    let trips := min (s.get (F.SPP_STAT_TRIPS n.val) + 1) 15
    let refused (cause : Nat) (t : State) := st t = (if s.get (F.SPP_LIMITS_MAX_TRIPS n.val) ≤ trips then 6 else 5) ∧
      t.get (F.SPP_STAT_CAUSE n.val) = cause ∧ t.get (F.SPP_STAT_TRIPS n.val) = trips ∧ Raised 0x1D1 s t
    let fits := s.spBudgets (s.spIn [2, 3]) + s.get (F.SPP_LIMITS_BUDGET n.val) ≤ s.get F.SP_LOOP_MAX_LIMIT
    (may ctl (w32 0x10001) → Does (.spPowerOn o n) s (waits ctl (w32 0x10001))) ∧
    (may ctl (w32 0x10000) → Does (.spPowerOff o n) s (waits ctl (w32 0x10000))) ∧
    (may ctl (w32 0x20002) → Does (.spDataEnable o n) s (waits ctl (w32 0x20002))) ∧
    (may (.SP_LOOP_MAX, []) w → Does (.loopMaxWrite o w) s (waits (.SP_LOOP_MAX, []) w)) ∧
    (may (.SP_CTRL, []) (w32 0x10001) → Does (.spSave o) s (waits (.SP_CTRL, []) (w32 0x10001))) ∧
    (front ctl → v = 0x10001 → st s = 0 → s.spPowered = true → s.spSupplyOk = true → fits → arrives fun t => st t = 1) ∧
    (front ctl → v = 0x10001 → st s = 0 → s.spPowered = true → s.spSupplyOk = false → arrives (refused 3)) ∧
    (front ctl → v = 0x10001 → st s = 0 → s.spPowered = true → s.spSupplyOk = true → ¬ fits → arrives (refused 4)) ∧
    (front ctl → v = 0x10001 → st s ≠ 0 ∨ s.spPowered = false → arrives fun t => st t = st s) ∧
    (front ctl → v = 0x10000 → arrives fun t => st t = 0 ∧ t.get (F.SPP_STAT_TRIPS n.val) = 0) ∧
    (front ctl → v = 0x20002 → s.laneTested (72 + n.val) = false → arrives fun t => t.get (F.SPP_CTRL_DATA n.val) = 1 ∧ st t = st s) ∧
    (front ctl → v = 0x20002 → s.laneTested (72 + n.val) = true → arrives fun t => t.get (F.SPP_CTRL_DATA n.val) = s.get (F.SPP_CTRL_DATA n.val)) ∧
    (front (.SP_LOOP_MAX, []) → bits (w32 v) 9 0 ≤ 960 → arrives fun t =>
      t.get F.SP_LOOP_MAX_LIMIT = bits (w32 v) 9 0 ∧ t.spBudgets (t.spIn [3]) ≤ t.get F.SP_LOOP_MAX_LIMIT) ∧
    (front (.SP_LOOP_MAX, []) → 960 < bits (w32 v) 9 0 → arrives fun t => t.get F.SP_LOOP_MAX_LIMIT = s.get F.SP_LOOP_MAX_LIMIT ∧ Raised 4 s t) ∧
    (front (.SP_CTRL, []) → v = 0x10001 → s.healthy = true → arrives fun t => ∃ r, r ∈ t.cl.queue ∧ r.region = 5)

/-- The loop supervisor: the end of MEASURE goes on to ENERGISE with the capacitance measured, or refuses or trips the port; ENERGISE ends after 20 ms;
1.4 A (a sample of it included), the accumulator above its limit, two seconds above the budget, and a supply below 18 V trip a port that is energised; a port starts again
after RETRY seconds; 60 s of ON clear its trips; and current with the gate off is a gate fault (R391 to R396).

At a whole second every port shows its mean power; with the supply at 18 V or above and the total within SP_LOOP_MAX, a port in ON that was above its budget for two seconds trips
with cause 7, one above it for the first second is noted, and one within it is cleared; a total above SP_LOOP_MAX is raised (R393, R394). -/
def Obligations.SpemenLoops : Prop :=
  (∀ (n : Fin 8) (r : SpRamp) (mA cV : Nat) (live : Bool) (s : State),
    let st (t : State) := t.spSt n.val
    let trips := min (s.get (F.SPP_STAT_TRIPS n.val) + 1) 15
    let fails (goal cause src : Nat) (t : State) := st t = (if s.get (F.SPP_LIMITS_MAX_TRIPS n.val) ≤ trips then 6 else goal) ∧
      t.get (F.SPP_STAT_CAUSE n.val) = cause ∧ t.get (F.SPP_STAT_TRIPS n.val) = trips ∧ Raised src s t
    let on := st s = 1 ∨ st s = 2 ∨ st s = 3
    let c := min (ceilDiv (5 * r.charge - r.hold * r.integral) 2500) 4095
    let acc := (s.sp n.val).acc + mA * mA - 490000
    let limit := s.get (F.SPP_LIMITS_I2T n.val) * 1000000
    let since := (s.sp n.val).since
    let fits := s.spBudgets (s.spIn [2, 3]) + s.get (F.SPP_LIMITS_BUDGET n.val) ≤ s.get F.SP_LOOP_MAX_LIMIT
    let retry := (st s = 4 ∨ st s = 5) ∧ since + ticksS (s.get (F.SPP_LIMITS_RETRY n.val)) ≤ s.tick ∧ s.spPowered = true
    let gate (t : State) := t.get (F.SPP_STAT_GATE_FAULT n.val)
    (st s ≠ 1 → Does (.spMeasureDone n r) s fun t => t.regs = s.regs ∧ t.sps = s.sps) ∧
    (st s = 1 → 1400 ≤ r.peak → Does (.spMeasureDone n r) s (fails 4 5 0x1D0)) ∧
    (st s = 1 → r.peak < 1400 → r.reached = false ∨ 700 < r.peak → Does (.spMeasureDone n r) s (fails 5 2 0x1D1)) ∧
    (st s = 1 → r.peak ≤ 700 → r.reached = true → 694 < c → Does (.spMeasureDone n r) s fun t => fails 5 1 0x1D1 t ∧ t.get (F.SPP_CAP_C n.val) = c) ∧
    (st s = 1 → r.peak ≤ 700 → r.reached = true → c ≤ 694 → Does (.spMeasureDone n r) s fun t => st t = 2 ∧ t.get (F.SPP_CAP_C n.val) = c) ∧
    (st s = 2 → since + ticksNs 20000000 ≤ s.tick → Does (.spEnergiseDone n) s fun t =>
      st t = 3 ∧ (t.rd (.xx_STATUS, [11, 0])).getLsbD n.val = true ∧ t.get F.SP_LOOP_GRANT = t.spBudgets (t.spIn [3]) % 2 ^ 10) ∧
    (st s ≠ 2 ∨ s.tick < since + ticksNs 20000000 → Does (.spEnergiseDone n) s fun t => t.regs = s.regs ∧ t.sps = s.sps) ∧
    (on → 1400 ≤ mA → Does (.spTripFast n mA) s (fails 4 5 0x1D0)) ∧
    (¬ on ∨ mA < 1400 → Does (.spTripFast n mA) s fun t => st t = st s ∧ t.get (F.SPP_MEAS_I n.val) = min mA 4095) ∧
    (on → mA < 1400 → limit < acc → Does (.spI2tSample n mA cV) s fun t => fails 4 6 0x1D0 t ∧ (t.sp n.val).acc = 0) ∧
    (on → 1400 ≤ mA → Does (.spI2tSample n mA cV) s (fails 4 5 0x1D0)) ∧
    (on → mA < 1400 → acc ≤ limit → Does (.spI2tSample n mA cV) s fun t =>
      st t = st s ∧ (t.sp n.val).acc = acc ∧ t.get (F.SPP_POWER_I2T_ACC n.val) = min (acc / 1000000) 65535 ∧
      t.get (F.SPP_MEAS_I n.val) = min mA 4095 ∧ t.get (F.SPP_MEAS_V n.val) = min cV 4095) ∧
    (¬ on → Does (.spI2tSample n mA cV) s fun t => st t = st s ∧ t.sps = s.sps) ∧
    (on → cV < 1800 → Does (.spSupplyLow cV) s fun t => st t = (if s.get (F.SPP_LIMITS_MAX_TRIPS n.val) ≤ trips then 6 else 4) ∧
      t.get (F.SPP_STAT_CAUSE n.val) = 3 ∧ t.get F.SP_VSUP_V = cV) ∧
    (¬ on ∨ 1800 ≤ cV → Does (.spSupplyLow cV) s fun t => st t = st s ∧ t.get F.SP_VSUP_V = min cV 4095) ∧
    (retry → s.spSupplyOk = true → fits → Does (.spRetry n) s fun t => st t = 1 ∧ (t.sp n.val).since = s.tick) ∧
    (retry → s.spSupplyOk = false → Does (.spRetry n) s (fails 5 3 0x1D1)) ∧
    (retry → s.spSupplyOk = true → ¬ fits → Does (.spRetry n) s (fails 5 4 0x1D1)) ∧
    (¬ retry → Does (.spRetry n) s fun t => t.regs = s.regs ∧ t.sps = s.sps) ∧
    (Does (.spTripsReset n) s fun t => t.get (F.SPP_STAT_TRIPS n.val) =
      if st s = 3 ∧ since + ticksS 60 ≤ s.tick then 0 else s.get (F.SPP_STAT_TRIPS n.val)) ∧
    (on ∨ gate s = 1 → Does (.spGateFault n true) s fun t => t.regs = s.regs) ∧
    (¬ on → gate s = 0 → Does (.spGateFault n true) s fun t => gate t = 1 ∧ Raised 0x1D7 s t) ∧
    Does (.spGateFault n false) s fun t => gate t = 0 ∧ st t = st s) ∧
  (∀ (m : SpSecond) (s : State),
    let total := m.means.foldl (· + ·) 0
    let mean (n : Nat) := m.means.getD n 0
    let above (n : Nat) := 10 * s.get (F.SPP_LIMITS_BUDGET n) < mean n
    (1800 ≤ m.supply → total ≤ 10 * s.get F.SP_LOOP_MAX_LIMIT → Does (.spSecondCheck m) s fun t =>
      t.get F.SP_VSUP_V = min m.supply 4095 ∧ t.get F.SP_LOOP_MEAN = min (total / 10) 1023 ∧
      ∀ n, n < 8 → t.get (F.SPP_POWER_MEAN n) = min (mean n) 4095 ∧
        (s.spSt n ≠ 3 → t.spSt n = s.spSt n) ∧
        (s.spSt n = 3 → ¬ above n → t.spSt n = 3 ∧ (t.sp n).above = 0) ∧
        (s.spSt n = 3 → above n → (s.sp n).above = 0 → t.spSt n = 3 ∧ (t.sp n).above = 1) ∧
        (s.spSt n = 3 → above n → 1 ≤ (s.sp n).above → (t.spSt n = 4 ∨ t.spSt n = 6) ∧ t.get (F.SPP_STAT_CAUSE n) = 7)) ∧
    (10 * s.get F.SP_LOOP_MAX_LIMIT < total → Does (.spSecondCheck m) s fun t => Raised 0x1D5 s t ∧ (t.rd (.xx_STATUS, [11, 0])).getLsbD 16 = true))

/-- The link of a Spemen port: HELLO goes out every 100 ms while no link is up; CAPS selects the highest common version, or is raised where there is
none, and a bad one is counted; a STATUS in answer to the selection brings the link up, and one of a linked port counts within 250 µs of
SYNC; at each update instant SYNC goes out, and the third period without an answer takes
the link down (R398 to R400, R403; log 90).

What a linked port is sent in a period: its item is latched 250 µs after SYNC, an item that it cannot show is raised once, and from 1,000 µs on a
v1 port is sent SEG, and a v2 or v3 port BITMAP, once; in the last period of each second a v3 port is sent TIME before
it (R398, R400 to R402). -/
def Obligations.SpemenLinks : Prop :=
  (∀ (n : Fin 8) (c : SpCaps) (f : SpStatusFrame) (s : State),
    let x (t : State) := t.sp n.val
    let link (t : State) := t.get (F.SPP_STAT_LINK n.val)
    let data := s.spData n.val = true
    let ready := data ∧ s.spManager = true ∧ link s = 0
    let calls := (x s).hello.all fun t => decide (t + ticksNs 100000000 ≤ s.tick)
    let frame (type : Nat) (p : List Byte) : List Byte := bytesLE 1 type ++ bytesLE 1 (x s).seq ++ bytesLE 2 p.length ++ p
    let sent (type : Nat) (p : List Byte) (t : State) :=
      s.out ++ [.spFrame n.val (frame type p ++ bytesLE 4 (crc32c (frame type p)))] <+: t.out ∧ (x t).seq = ((x s).seq + 1) % 256
    let v := commonVersion c.versions
    let errors (t : State) := t.get (F.SPP_LINK_ERR_ERRORS n.val)
    let due := s.spData n.val = true ∧ link s = 1 ∧ (∀ j, (x s).sync = some j → j < s.spInstant n.val)
    let good := (x s).sync = none ∨ (x s).reply = some true
    let syncs (missed : Nat) (t : State) := s.out ++ [.spSync n.val] <+: t.out ∧ (x t).sync = some (s.spInstant n.val) ∧ (x t).reply = none ∧
      (x t).missed = missed ∧ (x t).image = none ∧ link t = 1
    let stays (t : State) := t.regs = s.regs ∧ t.sps = s.sps
    (ready → calls = true → Does (.spHello n) s fun t => sent 1 (bytesLE 1 7 ++ bytesLE 1 n) t ∧ (x t).hello = some s.tick ∧ (x t).select = false) ∧
    (¬ ready ∨ calls = false → Does (.spHello n) s stays) ∧
    (c.crcOk = false → Does (.spCaps n c) s fun t =>
      errors t = (if data then min (errors s + 1) 65535 else errors s) ∧ t.sps = s.sps ∧ link t = link s) ∧
    (c.crcOk = true → ready → (x s).hello ≠ none → v ≠ 0 → Does (.spCaps n c) s fun t =>
      sent 3 (bytesLE 1 v) t ∧ t.get (F.SPP_STAT_VER n.val) = v ∧ (x t).select = true ∧ t.rd (.SPP_HEAD_ID, [n.val]) = c.headId ∧ link t = 0) ∧
    (c.crcOk = true → ready → (x s).hello ≠ none → v = 0 → (x s).noCommon = false → Does (.spCaps n c) s fun t => Raised 0x014 s t ∧ (x t).noCommon = true ∧ link t = 0) ∧
    (c.crcOk = true → ¬ ready ∨ (x s).hello = none → Does (.spCaps n c) s stays) ∧
    (¬ data → Does (.spStatus n f) s stays) ∧
    (data → f.crcOk = false → Does (.spStatus n f) s fun t => errors t = min (errors s + 1) 65535 ∧ link t = link s) ∧
    (data → f.crcOk = true → link s = 1 → s.spAfter n.val 250 = true → Does (.spStatus n f) s stays) ∧
    (data → f.crcOk = true → link s = 1 → s.spAfter n.val 250 = false → Does (.spStatus n f) s fun t =>
      (x t).reply = some true ∧ link t = 1 ∧ (nbit f.flags 0 = true → t.get (F.SPP_STAT_HOLD n.val) = 1)) ∧
    (data → f.crcOk = true → link s = 0 → (x s).select = true → s.spManager = true → Does (.spStatus n f) s fun t =>
      link t = 1 ∧ (x t).select = false ∧ t.get (F.SPP_STAT_HOLD n.val) = b2n (nbit f.flags 0) ∧ (t.rd (.xx_STATUS, [11, 0])).getLsbD (8 + n.val) = true) ∧
    (due → good → Does (.spSync n) s (syncs 0)) ∧
    (due → ¬ good → (x s).missed < 2 → Does (.spSync n) s fun t => syncs ((x s).missed + 1) t ∧
      errors t = if (x s).reply = none then min (errors s + 1) 65535 else errors s) ∧
    (due → ¬ good → 2 ≤ (x s).missed → Does (.spSync n) s fun t =>
      link t = 0 ∧ t.get (F.SPP_STAT_VER n.val) = 0 ∧ (x t).sync = none ∧ Raised 0x1D3 s t ∧ (t.rd (.xx_STATUS, [11, 0])).getLsbD (8 + n.val) = true) ∧
    (¬ due → Does (.spSync n) s stays)) ∧
  (∀ (n : Fin 8) (p : List Byte) (k : Nat) (s : State),
    let x (t : State) := t.sp n.val
    let frame (type : Nat) (p : List Byte) : List Byte := bytesLE 1 type ++ bytesLE 1 (x s).seq ++ bytesLE 2 p.length ++ p
    let sent (type : Nat) (p : List Byte) (t : State) :=
      s.out ++ [.spFrame n.val (frame type p ++ bytesLE 4 (crc32c (frame type p)))] <+: t.out ∧ (x t).seq = ((x s).seq + 1) % 256
    let ver := s.get (F.SPP_STAT_VER n.val)
    let go := s.spData n.val = true ∧ s.spAfter n.val 1000 = true
    let due := go ∧ ((x s).timed = true ∨ s.spTimeDue n.val = false)
    let latch := (x s).sync = some k ∧ s.spData n.val = true ∧ (x s).latched = false ∧ s.spAfter n.val 250 = true
    let last := (x s).sync = some k ∧ ver = 3 ∧ go ∧ (x s).timed = false ∧ (k + 1) % s.spRate n.val = 0
    let stays (t : State) := ∀ a b, .spFrame a b ∉ t.out.drop s.out.length
    (latch → Does (.spLatch n) s fun t => (x t).latched = true ∧ (x t).image ≠ none ∧
      t.get (F.SPP_STAT_MAP_ERR n.val) ≤ 1 ∧ (t.get (F.SPP_STAT_MAP_ERR n.val) = 1 → s.get (F.SPP_STAT_MAP_ERR n.val) = 0 → Raised 0x1D4 s t)) ∧
    (¬ latch → (x s).sync = some k → Does (.spLatch n) s fun t => t.sps = s.sps ∧ t.regs = s.regs) ∧
    (ver = 1 → due → (x s).image = some p → Does (.spSeg n) s fun t => sent 0x10 p t ∧ (x t).image = none) ∧
    (ver ≠ 1 ∨ ¬ due ∨ (x s).image = none → Does (.spSeg n) s fun t => stays t ∧ t.sps = s.sps) ∧
    (2 ≤ ver → due → (x s).image = some p → Does (.spBitmap n) s fun t => sent 0x11 p t ∧ (x t).image = none) ∧
    (ver < 2 ∨ ¬ due ∨ (x s).image = none → Does (.spBitmap n) s fun t => stays t ∧ t.sps = s.sps) ∧
    (last → Does (.spTime n) s fun t => (x t).timed = true ∧ (x t).seq = ((x s).seq + 1) % 256 ∧
      ∃ y, y.length = 24 ∧ y.take 8 = bytesLE 6 ((k + 1) / s.spRate n.val) ++ bytesLE 2 (s.get F.TB_UTC_OFS) ∧ y.drop 23 = [60] ∧ sent 0x20 y t) ∧
    ((x s).sync = some k → ¬ last → Does (.spTime n) s fun t => stays t ∧ t.sps = s.sps))

/-! ### The lock domain -/

/-- A message of the lock domain is ignored where the agent does not listen, counted in GL_RX_BAD where it is bad, of another domain or from outside
the roster, and has no effect on registers when it is a copy; a REPORT has none at all (R408, R415).

The role of the device in its lock domain: EN = 1 makes it seek once the time base has locked, EN = 0 ends it; a ROSTER is followed and, of a seeking device, answered by JOIN, ends a claim,
or makes a leader of higher key step down; ADMIT from the leader that was asked makes a member or refuses; a better CLAIM ends a claim and the election makes a leader; and missed
ROSTERs end a membership or start a claim (R409 to R411).

Membership: the leader answers a JOIN with ADMIT and enrolls a device that it admits, notes HEARTBEATs, removes a member that is silent for 6 s, and
sends ROSTER each second; a member sends HEARTBEAT to the leader in its slot, and a claiming device CLAIM at each odd second (R408, R410, R411). -/
def Obligations.DomainMembership : Prop :=
  (∀ (c : Instr) (h : GlHead) (free : Bool) (m : GlReport) (s : State),
    glHeadOf c = some (h, free) →
    (¬ s.listens h → Does c s fun t => t.regs = s.regs ∧ t.gl = s.gl) ∧
    (s.listens h → ¬ s.wellSent h free → Does c s fun t =>
      t.get F.GL_RX_BAD_COUNT = min (s.get F.GL_RX_BAD_COUNT + 1) 65535 ∧ (t.rd (.xx_STATUS, [12, 0])).getLsbD 5 = true ∧ t.gl = s.gl) ∧
    (s.listens h → s.wellSent h free → s.gl.seen.contains (h.index, h.seq) = true → Does c s fun t => t.regs = s.regs) ∧
    (Hears s m.head false → Does (.glReport m) s fun t => t.regs = s.regs ∧ t.gl = { s.gl with seen := (m.head.index, m.head.seq) :: s.gl.seen })) ∧
  (∀ (o : Origin) (m : GlRoster) (a : GlAdmit) (c : GlClaim) (s : State),
    let role (t : State) := t.glRole
    let prio := s.get F.GL_PRIO_PRIO
    let recent := s.gl.claims.filter fun x => decide (s.tick ≤ x.1 + ticksS 2)
    let polls := s.glAgent = true ∧ role s = 4 ∧ s.tb.sec % 2 = 0 ∧ s.gl.elected ≠ s.tb.sec
    let entered := recent.any fun x => x.2.2 == s.glIndex
    let beaten := recent.any fun x => better x.2.1 x.2.2 prio s.glIndex
    let follows (t : State) := t.gl.roster = m.members ∧ t.get F.GL_STATE_VER = m.version % 16 ∧ t.get F.GL_STATE_LEADER = m.head.index % 4096 ∧
      t.gl.heard = s.tick
    let asked := Hears s a.head false ∧ role s = 1 ∧ s.gl.joined = true ∧ a.head.index = s.get F.GL_STATE_LEADER
    let leader (p : Nat) := if p = m.head.port.val then m.leader else mget (fun _ => 0) s.gl.leaders p
    let stays (t : State) := t.regs = s.regs ∧ t.gl = s.gl
    (Reaches s o (.GL_CTRL, []) (w32 0x10001) → s.get F.GL_CTRL_EN = 0 → role s = 0 → s.get F.TB_STATE_FIRST_LOCK = 1 → Does (.glEnable o) s fun t =>
      role t = 1 ∧ t.get F.GL_CTRL_EN = 1 ∧ t.gl.since = s.tick ∧ (t.rd (.xx_STATUS, [12, 0])).getLsbD 0 = true) ∧
    (Reaches s o (.GL_CTRL, []) (w32 0x10001) → s.get F.TB_STATE_FIRST_LOCK = 0 → Does (.glEnable o) s fun t => role t = role s ∧ t.get F.GL_CTRL_EN = 1) ∧
    (Reaches s o (.GL_CTRL, []) (w32 0x10000) → s.get F.GL_CTRL_EN = 1 → Does (.glDisable o) s fun t =>
      role t = 0 ∧ t.get F.GL_CTRL_EN = 0 ∧ t.gl.flight = none) ∧
    (Hears s m.head true → role s = 1 ∨ (role s = 2 ∧ s.get F.GL_STATE_LEADER = m.head.index) → Does (.glRosterRx m) s fun t =>
      follows t ∧ role t = role s ∧ (role s = 1 → t.gl.joined = true ∧
        Mails s 0x02 leader (fun _ => bytesLE 1 3 ++ bytesLE 1 prio ++ bytesLE 1 (s.get F.GL_CTRL_CANDIDATE)) t)) ∧
    (Hears s m.head true → role s = 4 → Does (.glRosterRx m) s fun t => role t = 1 ∧ t.gl.heard = s.tick) ∧
    (Hears s m.head true → role s = 3 → better m.prio m.head.index prio s.glIndex = true → Does (.glRosterRx m) s fun t =>
      role t = 1 ∧ t.gl.flight = none ∧ Raised 0x1E5 s t) ∧
    (Hears s m.head true → role s = 3 → better m.prio m.head.index prio s.glIndex = false → Does (.glRosterRx m) s fun t => t.regs = s.regs) ∧
    (asked → a.result = 0 → Does (.glAdmit a) s fun t => role t = 2 ∧ t.gl.leaderLost = false) ∧
    (asked → a.result = 2 → Does (.glAdmit a) s fun t => role t = 5 ∧ Raised 0x014 s t) ∧
    (asked → a.result ≠ 0 → a.result ≠ 2 → Does (.glAdmit a) s fun t => role t = 5 ∧ Raised 0x1E2 s t) ∧
    (Hears s a.head false → role s ≠ 1 ∨ s.gl.joined = false ∨ a.head.index ≠ s.get F.GL_STATE_LEADER → Does (.glAdmit a) s fun t => t.regs = s.regs) ∧
    (Hears s c.head true → role s = 4 → Does (.glClaim c) s fun t =>
      role t = (if better c.prio c.head.index prio s.glIndex then 1 else 4) ∧ (s.tick, c.prio, c.head.index) ∈ t.gl.claims) ∧
    (Hears s c.head true → role s ≠ 4 → Does (.glClaim c) s fun t => t.regs = s.regs) ∧
    (polls → entered = true → beaten = false → Does .glClaimElection s fun t =>
      role t = 3 ∧ t.get F.GL_STATE_LEADER = s.glIndex ∧ t.get F.GL_STATE_VER = (if s.get F.GL_CTRL_V1_ONLY = 1 then 1 else 2) ∧
      t.gl.roster = [s.glIndex] ∧ t.gl.leaderLost = false) ∧
    (polls → entered = true → beaten = true → Does .glClaimElection s fun t => role t = 1) ∧
    (polls → entered = false → Does .glClaimElection s fun t => role t = 4) ∧
    (¬ polls → Does .glClaimElection s stays) ∧
    (s.glAgent = true → role s = 2 → s.gl.heard + ticksS 3 ≤ s.tick → Does .glRosterTimeout s fun t =>
      role t = 1 ∧ t.gl.leaderLost = true ∧ Raised 0x1E0 s t) ∧
    (role s ≠ 2 ∨ s.tick < s.gl.heard + ticksS 3 → Does .glRosterTimeout s stays) ∧
    (s.glAgent = true → role s = 1 → s.get F.GL_CTRL_CANDIDATE = 1 → max s.gl.since s.gl.heard + ticksS 3 ≤ s.tick → Does .glSeekTimeout s fun t => role t = 4) ∧
    (role s ≠ 1 ∨ s.get F.GL_CTRL_CANDIDATE = 0 ∨ s.tick < max s.gl.since s.gl.heard + ticksS 3 → Does .glSeekTimeout s stays)) ∧
  (∀ (j : GlJoin) (b : GlHeartbeat) (i : Fin 4096) (s : State),
    let role := s.glRole
    let r := s.admitResult j
    let group (_ : Nat) := s.rd (.GL_GROUP_ADDR, [])
    let slot := (s.tb.sec * 1000000000 + s.tb.ns - 488000 * s.glIndex) / 2000000000
    let alive (g : GlSt) (i : Nat) := mget (fun _ => 0) g.alive i
    let silent := s.glAgent = true ∧ role = 3 ∧ i.val ≠ s.glIndex ∧ s.gl.roster.contains i.val = true ∧ alive s.gl i.val + ticksS 6 ≤ s.tick
    let stays (t : State) := t.regs = s.regs ∧ t.gl = s.gl
    let beats := s.glAgent = true ∧ role = 2 ∧ s.gl.beat ≠ slot
    let claims := s.glAgent = true ∧ role = 4 ∧ s.tb.sec % 2 = 1 ∧ s.gl.claimed ≠ s.tb.sec
    let rosters := s.glAgent = true ∧ role = 3 ∧ s.gl.rostered ≠ s.tb.sec
    (Hears s j.head true → role = 3 → r = 0 → Does (.glJoin j) s fun t =>
      Mails s 0x03 (fun _ => j.head.addr) (fun _ => bytesLE 1 0) t ∧ t.gl.roster = enroll j.head.index s.gl.roster ∧ alive t.gl j.head.index = s.tick ∧
      t.gl.cands = if j.candidate then enroll j.head.index s.gl.cands else s.gl.cands) ∧
    (Hears s j.head true → role = 3 → r ≠ 0 → Does (.glJoin j) s fun t =>
      Mails s 0x03 (fun _ => j.head.addr) (fun _ => bytesLE 1 r) t ∧ t.gl.roster = s.gl.roster ∧ t.gl.cands = s.gl.cands) ∧
    (Hears s j.head true → role ≠ 3 → Does (.glJoin j) s fun t => t.regs = s.regs) ∧
    (Hears s b.head false → role = 3 → Does (.glHeartbeat b) s fun t => alive t.gl b.head.index = s.tick ∧ t.regs = s.regs) ∧
    (Hears s b.head false → role ≠ 3 → Does (.glHeartbeat b) s fun t => t.regs = s.regs) ∧
    (silent → Does (.glMemberTimeout i) s fun t =>
      t.gl.roster = s.gl.roster.filter (· != i.val) ∧ i.val ∉ t.gl.cands ∧ Raised 0x1E1 s t ∧
      t.get F.GL_MEMBERS_COUNT = (s.gl.roster.filter (· != i.val)).length % 2 ^ 13) ∧
    (¬ silent → Does (.glMemberTimeout i) s stays) ∧
    (beats → Does .glHeartbeatSend s fun t => t.gl.beat = slot ∧
      Mails s 0x04 (fun p => mget (fun _ => 0) s.gl.leaders p) (fun _ => bytesLE 1 (s.get F.TB_STATE_STATE) ++ bytesLE 1 s.mode) t) ∧
    (¬ beats → Does .glHeartbeatSend s stays) ∧
    (claims → Does .glClaimSend s fun t => t.gl.claimed = s.tb.sec ∧ Mails s 0x05 group (fun _ => bytesLE 1 (s.get F.GL_PRIO_PRIO) ++ bytesLE 1 3) t) ∧
    (¬ claims → Does .glClaimSend s stays) ∧
    (rosters → Does .glRosterSend s fun t => t.gl.rostered = s.tb.sec ∧
      Mails s 0x01 group (fun p => bytesLE 1 (s.get F.GL_STATE_VER) ++ bytesLE 1 (s.get F.GL_PRIO_PRIO) ++ bytesLE 2 s.gl.roster.length ++
        bytesLE 4 (s.get (F.NP_IPV4_ADDR p)) ++ rosterBytes s.gl.roster) t) ∧
    (¬ rosters → Does .glRosterSend s stays))

/-- A domain commit at the leader: the host's command or a REQUEST starts it, unless one runs or its lead is wrong, which ABORT answers; it holds the
roster of its start, and every member's ACK in time makes it COMMIT; a NAK, or an ACK that is missing in time, aborts it; and COMMIT is sent a second
time (R412, R414). -/
def Obligations.DomainCommitsAreLed : Prop :=
  ∀ (q : GlRequest) (a : GlAck) (k : GlNak) (f : GlFlight) (p : Fin 4) (g time : Nat) (tag : BitVec 16) (words : List Word) (s : State),
    let lead := s.glRole = 3
    let flight (t : State) := t.gl.flight
    let group (_ : Nat) := s.rd (.GL_GROUP_ADDR, [])
    let aborts (cid reason member : Nat) (t : State) := Mails s 0x0B group (fun _ => bytesLE 4 cid ++ bytesLE 1 reason ++ bytesLE 2 member) t
    let commits (t : State) := Mails s 0x0A group (fun _ => bytesLE 4 f.cid ++ bytesLE 5 f.t) t
    let acks := enroll a.head.index f.acks
    let whole := f.members.all acks.contains = true ∧ (s.glPath : Int) ≤ s.untilMargin f.t
    let takes := Hears s a.head false ∧ lead ∧ flight s = some f ∧ a.cid = f.cid ∧ f.members.contains a.head.index = true ∧ f.sent = none
    let called := Asks s p.val 0x401 words ∧ Session s p.val ∧ MayWrite s p 12
    let legal := 1 ≤ g ∧ g ≤ 15 ∧ time < 2 ^ 40
    (Hears s q.head false → lead → flight s ≠ none → Does (.glRequest q) s fun t => flight t = flight s ∧ ∃ cid, aborts cid 6 q.head.index t) ∧
    (Hears s q.head false → lead → flight s = none → s.leadOk q.t s.dtime = false → Does (.glRequest q) s fun t =>
      flight t = none ∧ ∃ cid, aborts cid 8 q.head.index t) ∧
    (Hears s q.head false → lead → flight s = none → s.leadOk q.t s.dtime = true → Does (.glRequest q) s fun t =>
      ∃ x, flight t = some x ∧ x.group = q.group ∧ x.t = q.t ∧ x.p = s.dtime ∧ x.members = s.gl.roster ∧ x.acks = [] ∧ x.sent = none ∧
        Mails s 0x07 group (fun _ => bytesLE 4 x.cid ++ bytesLE 1 q.group ++ bytesLE 1 q.family ++ bytesLE 5 q.t ++ bytesLE 5 s.dtime ++
          bytesLE 2 q.head.index ++ bytesLE 2 q.tag) t) ∧
    (Hears s q.head false → ¬ lead → Does (.glRequest q) s fun t => t.regs = s.regs ∧ flight t = flight s) ∧
    (takes → whole → Does (.glAck a) s fun t => flight t = some { f with acks := acks, sent := some (s.tick, false) } ∧ commits t) ∧
    (takes → ¬ whole → Does (.glAck a) s fun t => flight t = some { f with acks := acks }) ∧
    (Hears s a.head false → ¬ lead ∨ flight s = none → Does (.glAck a) s fun t => t.regs = s.regs ∧ flight t = flight s) ∧
    (Hears s k.head false → lead → flight s = some f → k.cid = f.cid → f.sent = none → f.members.contains k.head.index = true → Does (.glNak k) s fun t =>
      flight t = none ∧ aborts f.cid k.reason k.head.index t) ∧
    (Hears s k.head false → ¬ lead ∨ flight s = none → Does (.glNak k) s fun t => t.regs = s.regs ∧ flight t = flight s) ∧
    (∀ x b, s.glAgent = true → lead → flight s = some f → f.sent = some (x, b) → x + ticksNs 200000 ≤ s.tick → Does .glCommitResend s fun t =>
      flight t = none ∧ commits t) ∧
    (flight s = none ∨ ¬ lead → Does .glCommitResend s fun t => t.regs = s.regs ∧ t.gl = s.gl) ∧
    (s.glAgent = true → lead → flight s = some f → f.sent = none → s.untilMargin f.t ≤ s.glPath → Does .glAckDeadline s fun t =>
      flight t = none ∧ aborts f.cid 2 ((f.members.find? fun i => !f.acks.contains i).getD 0) t) ∧
    (flight s = none ∨ ¬ lead ∨ (∃ x, flight s = some x ∧ s.glPath < s.untilMargin x.t) → Does .glAckDeadline s fun t => t.regs = s.regs ∧ t.gl = s.gl) ∧
    (called → s.glAgent = true → s.glRole = 2 → legal → Does (.glCommit p g time tag) s fun t => Served t p.val 0 [] true ∧
      Mails s 0x06 (fun p => mget (fun _ => 0) s.gl.leaders p) (fun _ => bytesLE 1 g ++ bytesLE 5 time ++ bytesLE 1 (s.askFamily g).1 ++ bytesLE 2 tag.toNat) t) ∧
    (called → s.glAgent = true → lead → legal → flight s = none → s.leadOk time s.dtime = true → Does (.glCommit p g time tag) s fun t =>
      Served t p.val 0 [] true ∧ ∃ x, flight t = some x ∧ x.group = g ∧ x.t = time ∧ x.p = s.dtime ∧ x.members = s.gl.roster ∧ x.acks = [] ∧ x.sent = none ∧
        Mails s 0x07 group (fun _ => bytesLE 4 x.cid ++ bytesLE 1 g ++ bytesLE 1 (s.askFamily g).1 ++ bytesLE 5 time ++ bytesLE 5 s.dtime ++
          bytesLE 2 s.glIndex ++ bytesLE 2 tag.toNat) t) ∧
    (called → s.glAgent = true → lead → legal → flight s ≠ none → Does (.glCommit p g time tag) s fun t =>
      Served t p.val 0 [] true ∧ flight t = flight s ∧ ∃ cid, aborts cid 6 s.glIndex t) ∧
    (called → s.glMember = false ∨ ¬ legal → Does (.glCommit p g time tag) s fun t => Served t p.val 7 [] false ∧ t.gl = s.gl)

/-- A domain commit at a member: PREPARE writes the group commit of its heads, or notes why it is turned down; the answer goes out in the member's slot,
ACK for a prepared set or a group without heads and NAK else; COMMIT in time releases the set for T, and a COMMIT that is late or missing, and ABORT,
discard it with their outcomes. WRITE writes registers as the remote origin under version 2 (R413, R415, R416). -/
def Obligations.DomainCommitsAreFollowed : Prop :=
  ∀ (m : GlPrepare) (x : GlCommit) (b : GlAbort) (w : GlWrite) (h : GlShare) (n serial : Nat) (rest : List Nat) (r : Nat) (k : Key) (v : Word) (a : Word)
    (s : State),
    let shares (t : State) := t.gl.shares
    let share : GlShare := { cid := m.cid, t := m.t, p := m.p, requester := m.requester }
    let ns := s.glHeads (s.glLocal m.group)
    let hears := Hears s m.head false ∧ s.glRole = 2 ∧ m.head.index = s.get F.GL_STATE_LEADER
    let shows (t : State) := t.rd (.GL_CID, []) = w32 m.cid ∧ t.rd (.GL_T_LO, []) = w32 m.t ∧ t.rd (.GL_CSTAT, []) = 0
    let o := remoteOrg m.requester
    let due := (256000 * s.glIndex : Int) ≤ domainDiff s.dtime h.p
    let prepared := ((s.head n).prepared.any fun c => c.serial == serial) = true
    let leader (p : Nat) := mget (fun _ => 0) s.gl.leaders p
    let one := shares s = [h]
    let mine := s.glMember = true ∧ s.glRole = 2 ∧ s.get F.GL_STATE_VER = 1
    let waits := h.set = some (n, serial) ∧ h.nak = none ∧ h.released = false
    let acked := one ∧ waits ∧ h.answered = true
    let up (f : Fld) := min (s.get f + 1) 65535
    let missed (t : State) := shares t = [] ∧ t.get F.GL_MISSED_COUNT = up F.GL_MISSED_COUNT ∧ Raised 0x1E4 s t
    let reach (key : Key) (w : Word) := Reaches s (remoteOrg h.requester) key w
    let may := ∀ w, reach (.CE_RELEASE_AT_LO, [n / 2, n % 2]) w ∧ reach (.CE_RELEASE_AT_HI, [n / 2, n % 2]) w ∧ reach (.CE_RELEASE, [n / 2]) w
    let plainWrite := decodeAddr a.toNat = .reg k ∧ special.contains k.1 = false ∧ slowCode k = none ∧ (keyHdr k).headD 0 ≠ 12 ∧
      Reaches s (remoteOrg w.head.index) k v ∧ Unlocked s k ∧ (∀ x ∈ (regDef k.1).fields, x.acc ≠ .w1) ∧ fieldsApart (regDef k.1).fields = true ∧
      isMw (regDef k.1) = false ∧ ∀ x, s.valueRule k x = .ok
    (hears → ns = [] → Does (.glPrepare m) s fun t => shows t ∧ share ∈ shares t) ∧
    (hears → ns = n :: rest → s.glJudge m ns = r → r ≠ 0 → Does (.glPrepare m) s fun t => shows t ∧ { share with nak := some r } ∈ shares t) ∧
    (hears → ns = n :: rest → s.glJudge m ns = 0 → s.served = true → s.rights o 14 = 3 → (∀ i ∈ ns, s.checking i = false) → Does (.glPrepare m) s fun t =>
      shows t ∧ { share with set := some (n, s.serial + 1) } ∈ shares t ∧ ∀ i ∈ ns, t.get (F.CE_CSTAT_STATE (i / 2) (i % 2)) = 1) ∧
    (hears → ns = n :: rest → s.glJudge m ns = 0 → s.served = true → s.rights o 14 ≠ 3 ∨ s.checking n = true → Does (.glPrepare m) s fun t =>
      shows t ∧ { share with nak := some 9 } ∈ shares t) ∧
    (Hears s m.head false → s.glRole ≠ 2 ∨ m.head.index ≠ s.get F.GL_STATE_LEADER → Does (.glPrepare m) s fun t => t.regs = s.regs ∧ shares t = shares s) ∧
    (one → mine → due → h.set = none → h.nak = none → Does .glAckSend s fun t =>
      shares t = [] ∧ Mails s 0x08 leader (fun _ => bytesLE 4 h.cid ++ bytesLE 1 1) t) ∧
    (one → mine → due → h.set = none → h.nak = some r → Does .glAckSend s fun t =>
      shares t = [] ∧ Mails s 0x09 leader (fun _ => bytesLE 4 h.cid ++ bytesLE 1 r) t) ∧
    (one → mine → due → waits → h.answered = false → prepared → Does .glAckSend s fun t =>
      shares t = [{ h with answered := true }] ∧ Mails s 0x08 leader (fun _ => bytesLE 4 h.cid ++ bytesLE 1 0) t ∧
      (s.get F.GL_CID_CID = h.cid → t.get F.GL_CSTAT_OUTCOME = 1)) ∧
    (one → mine → due → waits → h.answered = false → s.holdsSet n serial = false → Does .glAckSend s fun t =>
      shares t = [] ∧ Mails s 0x09 leader (fun _ => bytesLE 4 h.cid ++ bytesLE 1 1) t) ∧
    (one → ¬ due → h.nak = none → Does .glAckSend s fun t => t.regs = s.regs ∧ t.gl = s.gl) ∧
    (Hears s x.head false → acked → h.cid = x.cid → prepared → s.untilMargin x.t < 0 → Does (.glCommitMessage x) s missed) ∧
    (Hears s x.head false → acked → h.cid = x.cid → 0 ≤ s.untilMargin x.t → n < 16 → may → Does (.glCommitMessage x) s fun t =>
        shares t = [{ h with released := true }] ∧ t.rd (.CE_RELEASE_AT_LO, [n / 2, n % 2]) = w32 x.t ∧
        t.get (F.CE_RELEASE_AT_HI_T (n / 2) (n % 2)) = x.t / 2 ^ 32 % 256 ∧ (prepared → (s.head n).prepared.all (fun c => c.members.isEmpty || c.members.contains n) = true → (t.head n).prepared = none)) ∧
    (Hears s x.head false → one → h.cid ≠ x.cid → Does (.glCommitMessage x) s fun t => t.regs = s.regs ∧ shares t = shares s) ∧
    (Hears s b.head false → one → waits → h.cid = b.cid → prepared → Does (.glAbort b) s fun t =>
      shares t = [] ∧ t.get F.GL_ABORTED_COUNT = up F.GL_ABORTED_COUNT ∧ Raised 0x1E3 s t) ∧
    (Hears s b.head false → one → h.cid ≠ b.cid → Does (.glAbort b) s fun t => t.regs = s.regs ∧ shares t = shares s) ∧
    (s.glAgent = true → one → waits → prepared → s.untilMargin h.t < 0 → Does .glMemberCommitTimeout s fun t =>
      missed t ∧ (s.get F.GL_CID_CID = h.cid → t.get F.GL_CSTAT_OUTCOME = 5 ∧ t.get ⟨(.GL_CSTAT, []), 7, 4⟩ = if s.gl.leaderLost then 7 else 2)) ∧
    (one → 0 ≤ s.untilMargin h.t → Does .glMemberCommitTimeout s fun t => t.regs = s.regs ∧ t.gl = s.gl) ∧
    (Hears s w.head false → s.glRole = 2 ∨ s.glRole = 3 → s.get F.GL_STATE_VER = 2 → w.pairs = [(a, v)] → plainWrite → Does (.glWrite w) s fun t =>
      ∀ f ∈ (regDef k.1).fields, f.acc = .rw → bits (t.rd k) f.hi f.lo = bits v f.hi f.lo) ∧
    (Hears s w.head false → s.get F.GL_STATE_VER ≠ 2 → Does (.glWrite w) s fun t => t.regs = s.regs)

/-! ### Faults, the Cellar and the supply -/

/-- FC_CLEAR clears the latch of a minor or major source whose cause is not live and that is not raised on this tick; it rejects the clear of any other
latched source, counts the rejection and latches CLEAR_REJ; of a source that is not latched it does nothing. ALL does so for every latched source. REARM
clears the first fault and the overflow, and takes the sources that latched on its tick after it (R425 to R427).

A suppression window closes once its block is ready and 64 µs have passed, or after 1 s, and raises each condition source that it suppressed and
that is still live, but no event source (R430, R431). -/
def Obligations.FaultsAndWindows : Prop :=
  (∀ (o : Origin) (id : Fin 512) (s : State),
    let may (k : Key) := ∀ w, Reaches s o k w
    let stays (i : Nat) : Bool := match srcClass i with
      | none | some 0 => true
      | some c => decide (c = 3) || s.causeLive i || s.raisedNow i
    let rejected (i : Nat) : Bool := s.latched i && stays i && (srcClass i).any (· != 0)
    let rej (t : State) := t.get F.FC_CLEAR_REJ_COUNT
    let flagged (t : State) := (t.rd (.xx_STATUS, [1, 0])).getLsbD 5
    let latches (t : State) (keeps : Nat → Bool) := ∀ i, i < 512 → t.latched i = (s.latched i && keeps i)
    let new := if s.fc.now.1 = s.tick then s.fc.now.2.filter (·.2.2) else []
    (may (.FC_CLEAR, []) → s.latched id = false ∨ stays id = true ∧ rejected id = false → Does (.faultClear o id) s fun t => t.regs = s.regs ∧ t.fc = s.fc) ∧
    (may (.FC_CLEAR, []) → s.latched id = true → stays id = false → Does (.faultClear o id) s fun t =>
      latches t (· != id.val) ∧ rej t = rej s ∧ flagged t = flagged s) ∧
    (may (.FC_CLEAR, []) → rejected id = true → Does (.faultClear o id) s fun t =>
      latches t (fun _ => true) ∧ rej t = min (rej s + 1) 65535 ∧ flagged t = true) ∧
    (may (.FC_CLEAR, []) → Does (.faultClearAll o) s fun t =>
      latches t stays ∧ rej t = min (rej s + ((List.range 512).filter rejected).length) 65535) ∧
    (may (.FC_CTRL, []) → new = [] → Does (.faultRearm o) s fun t =>
      bits (t.rd (.FC_FIRST_ID, [])) 16 16 = 0 ∧ t.rd (.FC_OVF, []) = 0 ∧ latches t (fun _ => true)) ∧
    (∀ i g c, may (.FC_CTRL, []) → new = [(i, g, true)] → srcClass i = some c → i < 512 → Does (.faultRearm o) s fun t =>
      bits (t.rd (.FC_FIRST_ID, [])) 16 16 = 1 ∧ bits (t.rd (.FC_FIRST_ID, [])) 8 0 = i ∧ bits (t.rd (.FC_FIRST_ID, [])) 13 12 = c ∧
      t.rd (.FC_OVF, []) = 0 ∧ latches t (fun _ => true))) ∧
  (∀ (r : Reaction) (u : Nat) (w : Window) (s : State),
    let found := s.fc.windows.find? fun x => x.react == r && x.unit == u
    (found = none → Does (.windowClose r u) s fun t => t.regs = s.regs ∧ t.fc = s.fc) ∧
    (found = some w → s.tick < w.since + 25600 ∨ s.blockReady w = false → s.tick < w.since + ticksS 1 → Does (.windowClose r u) s fun t =>
      t.regs = s.regs ∧ t.fc = s.fc) ∧
    (∀ i v, found = some w → w.since + 25600 ≤ s.tick → s.blockReady w = true → w.held = [(i, v)] → Does (.windowClose r u) s fun t =>
      t.windowOpen r u = false ∧ (isEvent i = true ∨ s.causeLive i = false → t.regs = s.regs) ∧
      (isEvent i = false → s.causeLive i = true → (srcClass i).isSome = true → Raised i s t)) ∧
    (found = some w → w.since + ticksS 1 ≤ s.tick → Does (.windowClose r u) s fun t => t.windowOpen r u = false))

/-! ### The power steward -/

/-- At the end of an evaluation period PS_POWER holds the period's means, the device's being the sum over the rails of their
mean power. Where the device or the thermal limit is exceeded, or the input limit, one
step of shedding is made: the DMA cap, then a spare port, then SP_LOOP_MAX, then a spare head, the highest number before the others; with no step
left PS_ONAIR_LIMIT is raised (R453, R457, R458).

With every limit met at its release margin for PS_HOLD seconds, the steps are undone; before that nothing is (R459). -/
def Obligations.LoadIsShedAndRestored : Prop :=
  (∀ s : State,
    let n := (s.tb.sec * 1000000000 + s.tb.ns) / 100000000
    let ends := s.dv.railsOff = false ∧ s.ps.period ≠ n
    let due := ends ∧ s.psAgent = true
    let dev := min s.devicePower 4095
    let inp := min (s.devicePower + s.get F.SP_LOOP_MEAN) 4095
    let hot := s.get F.PS_LIMITS_DEVICE < dev ∨ ∃ i, i < 16 ∧ s.warm i = true
    let most := s.get F.PS_LIMITS_INPUT ≠ 0 ∧ s.get F.PS_LIMITS_INPUT < inp
    let lower := most ∧ s.stepThree < s.loopMaxAhead ∧ s.ps.loopMax = none
    let step (t : State) := t.get F.PS_SHED_STEP
    let shown (t : State) := (t.rd (.xx_STATUS, [4, 0])).getLsbD 0 = true ∧ t.ps.exhausted = false ∧ t.ps.limited = true
    let does (P : State → Prop) := Does .evaluationPeriod s P
    (¬ ends → does fun t => t.ps = s.ps ∧ t.regs = s.regs) ∧
    (ends → does fun t => t.ps.period = n ∧ t.ps.watts = [] ∧ t.get F.PS_POWER_DEVICE = dev ∧ t.get F.PS_POWER_INPUT = inp ∧
      (s.psAgent = false → t.ps.gated = s.ps.gated ∧ t.ps.limited = s.ps.limited)) ∧
    (due → does fun t =>
      (∀ k, k < 8 → (t.get F.PS_DOMAINS_ENGINES).testBit k = !t.ps.gated.contains k) ∧ t.get F.PS_DOMAINS_HBM = b2n !t.ps.gated.contains 8 ∧
      (s.get F.PS_CTRL_AUTO_GATE = 0 → t.ps.gated = [])) ∧
    (due → hot ∨ most → s.ps.limited = false → does fun t => t.ps.limited = true ∧ Raised 0x1F1 s t) ∧
    (due → hot → s.ps.capped = false → does fun t => t.ps.capped = true ∧ step t = 1 ∧ shown t) ∧
    (∀ x, due → hot → s.ps.capped = true → highest s.portSpare 4 = some x → does fun t =>
      (t.get F.PS_SHED_PORTS).testBit x = true ∧ step t = 2 ∧ shown t) ∧
    (due → ¬ hot ∨ s.ps.capped = true ∧ highest s.portSpare 4 = none → lower → does fun t =>
      t.ps.loopMax = some (s.loopMaxAhead, s.stepThree) ∧ t.get F.PS_SHED_SP = 1 ∧ step t = 3 ∧ shown t) ∧
    (∀ x, due → hot → s.ps.capped = true → highest s.portSpare 4 = none → ¬ most → highest s.headSpare 16 = some x → does fun t =>
      (t.get F.PS_SHED_HEADS).testBit x = true ∧ step t = 4 ∧ shown t) ∧
    (due → hot → s.ps.capped = true → highest s.portSpare 4 = none → ¬ most → highest s.headSpare 16 = none → s.ps.exhausted = false →
      does fun t => t.ps.exhausted = true ∧ Raised 0x1F2 s t)) ∧
  (∀ (t0 : Nat) (s : State),
    let n := (s.tb.sec * 1000000000 + s.tb.ns) / 100000000
    let ends := s.dv.railsOff = false ∧ s.ps.period ≠ n
    let due := ends ∧ s.psAgent = true
    let dev := min s.devicePower 4095
    let inp := min (s.devicePower + s.get F.SP_LOOP_MEAN) 4095
    let limit := s.get F.PS_LIMITS_DEVICE
    let input := s.get F.PS_LIMITS_INPUT
    let met := dev ≤ limit ∧ (input = 0 ∨ inp ≤ input) ∧ ∀ i, i < 16 → s.warm i = false
    let calm := 10 * dev ≤ 9 * limit ∧ (input = 0 ∨ 10 * inp ≤ 9 * input) ∧
      ∀ i, i < 16 → s.temp i ≤ 4 * ((s.warnAt i : Int) - s.get F.PS_THERM_HYST)
    let hold := ticksS (s.get F.PS_HOLD_SEC)
    let does (P : State → Prop) := Does .evaluationPeriod s P
    (due → met → s.ps.limited = false → does fun t => t.ps.limited = false ∧ t.ps.exhausted = false) ∧
    (due → met → s.ps.limited = true → ¬ calm → does fun t => t.ps.limited = true ∧ t.ps.calm = none) ∧
    (due → met → s.ps.limited = true → calm → s.ps.calm = none → does fun t => t.ps.limited = true ∧ t.ps.calm = some s.tick) ∧
    (due → met → s.ps.limited = true → calm → s.ps.calm = some t0 → s.tick < t0 + hold → does fun t => t.ps.limited = true ∧ t.ps.calm = some t0) ∧
    (due → met → s.ps.limited = true → calm → s.ps.calm = some t0 → t0 + hold ≤ s.tick → does fun t =>
      t.ps.limited = false ∧ t.ps.capped = false ∧ t.ps.loopMax = none ∧ t.ps.exhausted = false ∧ t.get F.PS_SHED_STEP = 0 ∧ t.get F.PS_SHED_SP = 0 ∧
      t.get F.PS_SHED_PORTS = 0 ∧ (t.rd (.xx_STATUS, [4, 0])).getLsbD 1 = true))

/-- The readings of a rail of the board's table are shown; a new fault of it, its second reading in a row outside the window, and its third read without an answer raise PS_RAIL.
A sensor that passes its limit raises THERM_WARN or THERM_CRIT. A gated domain wakes when it is asked for. A failed stack, and an uncorrectable fabric
error, are raised (R433, R452, R454, R455). -/
def Obligations.RailsSensorsAndDomains : Prop :=
  ∀ (r : Fin 16) (p : RailReading) (l : List Int) (d : Nat) (k : Fin 2) (s : State),
    let powered := 0 < s.dv.step ∧ s.dv.railsOff = false
    let on := powered ∧ r.val < s.railTable.length
    let good := s.inWindow r.val p.milliVolt = true
    let volts (t : State) := mget (fun _ => 0) t.ps.volts r.val
    let watts (t : State) := mget (fun _ => (0, 0)) t.ps.watts r.val
    let silent (t : State) := mget (fun _ => 0) t.ps.silent r.val
    let fault := p.status % 65536 ≠ 0 ∧ s.get (F.PS_RAIL_STAT_FAULT r.val) = 0
    let raises (t : State) := Raised 0x1F0 s t ∧ (t.rd (.xx_STATUS, [4, 0])).getLsbD 2 = true
    let shows (t : State) := t.get (F.PS_RAIL_STAT_GOOD r.val) = (if good then 1 else 0) ∧
      bits (t.rd (.PS_RAIL_STAT, [r.val])) 31 16 = p.status % 65536 ∧ bits (t.rd (.PS_RAIL_VI, [r.val])) 15 0 = min p.milliVolt 65535 ∧
      bits (t.rd (.PS_RAIL_VI, [r.val])) 31 16 = min (p.milliAmp / 10) 65535 ∧ volts t = (if good then 0 else volts s + 1) ∧ silent t = 0 ∧
      watts t = ((watts s).1 + p.milliVolt * p.milliAmp, (watts s).2 + 1)
    let quiet (t : State) := t.fc = s.fc
    let crosses (lim : Nat → Int) : Nat := ((List.range 16).filter fun i => decide (s.temp i < lim i) && decide (lim i ≤ signed 12 (l.getD i 0 % 4096).toNat)).length
    let raised (id n : Nat) (t : State) := t.get ⟨(.FC_CNT, [id]), 15, 0⟩ = min (s.get ⟨(.FC_CNT, [id]), 15, 0⟩ + n) 65535
    let wakes := s.domainIdle d = false ∨ s.get F.PS_CTRL_AUTO_GATE = 0
    (¬ on → Does (.railPoll r p) s fun t => t.regs = s.regs ∧ t.ps = s.ps) ∧
    (on → p.ack = true → Does (.railPoll r p) s shows) ∧
    (on → p.ack = true → fault ∨ ¬ good ∧ volts s = 1 → Does (.railPoll r p) s raises) ∧
    (on → p.ack = true → ¬ fault → good ∨ volts s ≠ 1 → Does (.railPoll r p) s quiet) ∧
    (on → p.ack = false → silent s ≠ 2 → Does (.railPoll r p) s fun t => silent t = silent s + 1 ∧ quiet t) ∧
    (on → p.ack = false → silent s = 2 → Does (.railPoll r p) s fun t =>
      t.get (F.PS_RAIL_STAT_NO_ACK r.val) = 1 ∧ t.get (F.PS_RAIL_STAT_GOOD r.val) = 0 ∧ raises t) ∧
    (¬ powered → Does (.thermalSample l) s fun t => t.regs = s.regs) ∧
    (powered → l.length = 16 → Does (.thermalSample l) s fun t =>
      (∀ i, i < 16 → t.get (F.PS_TEMP_T i) = (l.getD i 0 % 4096).toNat) ∧
      raised 0x1F4 (crosses fun i => 4 * (s.warnAt i : Int) + 1) t ∧ raised 0x1F5 (crosses critAt) t) ∧
    (d ∈ s.ps.gated → wakes → Does (.domainWake d) s fun t => (∀ x, x ∈ t.ps.gated ↔ x ∈ s.ps.gated ∧ x ≠ d) ∧
      t.get F.PS_DOMAINS_HBM = b2n !t.ps.gated.contains 8) ∧
    (d ∉ s.ps.gated ∨ ¬ wakes → Does (.domainWake d) s fun t => t.ps = s.ps ∧ t.regs = s.regs) ∧
    (3 ≤ s.dv.step → Does (.hbmFail k) s (Raised 0x1F7 s) ∧ Does .fabricUncorr s (Raised 0x001 s)) ∧
    (s.dv.step < 3 → Does (.hbmFail k) s (fun t => t.regs = s.regs) ∧ Does .fabricUncorr s fun t => t.regs = s.regs)

/-! ### Link tests -/

/-- START runs a test on a lane from cleared counters, where no lane that it needs is in use and the origin of a PCIe test may start it; STOP ends a
running test; a group command does so for every lane of its range or for none; EYE_GO starts a scan (R467 to R472).

A test with DUR ends DONE once 2^DUR bits are compared, and a STOP of the same tick loses; the checker counts from the sync that it gains to the
one that it loses, and on a lane that only transmits through near-end loopback alone; an eye scan leaves its mismatches; a read of BITS_LO latches the upper bits; and the instructions of the scan port that take the
pins are taken only in reset, and IDCODE is shifted out (R467, R471, R472, R475). -/
def Obligations.LaneTests : Prop :=
  (∀ (o : Origin) (l : Fin 80) (v : Word) (s : State),
    let calm := s.mode = 11 ∨ s.dv.shutting = false ∧ s.fc.shut = false
    let may (k : Key) := calm ∧ ∀ w, Reaches s o k w
    let cmd : Key := (.LT_CMD, [l.val])
    let st (t : State) (i : Nat) := t.get (F.LT_STAT_STATE i)
    let stat (i : Nat) (t : State) := (t.rd (.xx_STATUS, [10, 0])).getLsbD i = true
    let local_ := (orgOf o).cls = 0x30 ∨ (orgOf o).cls = 0x31
    let pcie (i : Nat) := laneKind i = .pcie ∧ s.asksOos i = true ∧ st s i ≠ 1
    let fresh (t : State) (i : Nat) := st t i = 1 ∧ t.get (F.LT_STAT_SYNC i) = 0 ∧ t.get (F.LT_BITS_LO_COUNT i) = 0 ∧ t.get (F.LT_BITS_HI_COUNT i) = 0 ∧
      t.get (F.LT_ERRORS_COUNT i) = 0 ∧ (t.lt i).oos = s.asksOos i
    let ends (t : State) (i : Nat) := st t i = 3 ∧ (t.lt i).oos = false ∧ t.get (F.LT_BITS_LO_COUNT i) = s.bitsNow i % 2 ^ 32 ∧
      t.get (F.LT_BITS_HI_COUNT i) = s.bitsNow i / 2 ^ 32 % 2 ^ 16 ∧ s.get (F.LT_ERRORS_COUNT i) ≤ t.get (F.LT_ERRORS_COUNT i)
    let same (t : State) := ∀ i, i < 80 → st t i = st s i ∧ (t.lt i).oos = (s.lt i).oos
    let lo := bits v 6 0
    let n := bits v 13 7
    let range := 1 ≤ n ∧ lo + n ≤ 80
    let inside (i : Nat) := lo ≤ i ∧ i < lo + n
    let whole := lo = 0 ∧ n = 8 ∧ ∀ i, i < 8 → pcie i
    let refused (hdr : List Nat) (t : State) := t.get ⟨(.xx_REFUSED, hdr), 15, 0⟩ = min (s.get ⟨(.xx_REFUSED, hdr), 15, 0⟩ + 1) 65535
    (may cmd → st s l = 1 → Does (.ltStart o l) s same) ∧
    (may cmd → pcie l → local_ → Does (.ltStart o l) s fun t => same t ∧ refused [10, 0] t) ∧
    (may cmd → pcie l → ¬ local_ → Does (.ltStart o l) s fun t => same t ∧ refused [10, 0] t ∧ Raised 4 s t) ∧
    (may cmd → st s l ≠ 1 → s.startBlocked l = true → Does (.ltStart o l) s fun t => same t ∧ stat 3 t ∧ refused [10, 0] t) ∧
    (may cmd → st s l ≠ 1 → ¬ pcie l → s.startBlocked l = false → Does (.ltStart o l) s fun t => fresh t l) ∧
    (may cmd → st s l ≠ 1 → Does (.ltStop o l) s same) ∧
    (may cmd → st s l = 1 → Does (.ltStop o l) s fun t => ends t l) ∧
    (may cmd → s.eyeBlocked l = true → Does (.eyeGo o l) s fun t =>
      t.get (F.LT_STAT_EYE_BUSY l) = s.get (F.LT_STAT_EYE_BUSY l) ∧ stat 3 t ∧ refused [10, 0] t) ∧
    (may cmd → s.eyeBlocked l = false → Does (.eyeGo o l) s fun t => t.get (F.LT_STAT_EYE_BUSY l) = 1 ∧ same t) ∧
    (may (.LT_GROUP_CMD, []) → ¬ range → Does (.ltGroupStart o v) s (fun t => same t ∧ refused [10, 0] t) ∧
      Does (.ltGroupStop o v) s fun t => same t ∧ refused [10, 0] t) ∧
    (may (.LT_GROUP_CMD, []) → range → v.getLsbD 14 = false → Does (.ltGroupStop o v) s fun t =>
      ∀ i, i < 80 → (inside i → st s i = 1 → ends t i) ∧ (¬ inside i ∨ st s i ≠ 1 → st t i = st s i)) ∧
    (may (.LT_GROUP_CMD, []) → range → v.getLsbD 15 = false → (∃ i, inside i ∧ pcie i) → ¬ local_ → Does (.ltGroupStart o v) s fun t =>
      same t ∧ Raised 4 s t) ∧
    (may (.LT_GROUP_CMD, []) → range → v.getLsbD 15 = false → (∃ i, inside i ∧ pcie i) → local_ → ¬ whole → Does (.ltGroupStart o v) s fun t =>
      same t ∧ refused [10, 0] t) ∧
    (may (.LT_GROUP_CMD, []) → range → v.getLsbD 15 = false → (∀ i, inside i → ¬ pcie i) →
      (∃ i, inside i ∧ st s i ≠ 1 ∧ s.startBlocked i = true) → Does (.ltGroupStart o v) s fun t => same t ∧ stat 3 t ∧ refused [10, 0] t) ∧
    (may (.LT_GROUP_CMD, []) → range → v.getLsbD 15 = false → whole ∧ local_ ∨ (∀ i, inside i → ¬ pcie i) →
      (∀ i, inside i → st s i ≠ 1 → s.startBlocked i = false) → Does (.ltGroupStart o v) s fun t =>
        ∀ i, i < 80 → (inside i → st s i ≠ 1 → fresh t i) ∧ (¬ inside i ∨ st s i = 1 → st t i = st s i))) ∧
  (∀ (o : Origin) (l : Fin 80) (n : Nat) (ir : JtagInstr) (s : State),
    let calm := s.mode = 11 ∨ s.dv.shutting = false ∧ s.fc.shut = false
    let st (t : State) := t.get (F.LT_STAT_STATE l)
    let sync (t : State) := t.get (F.LT_STAT_SYNC l)
    let errs (t : State) := t.get (F.LT_ERRORS_COUNT l)
    let stat (i : Nat) (t : State) := (t.rd (.xx_STATUS, [10, 0])).getLsbD i = true
    let count (x : Nat) (t : State) := t.get (F.LT_BITS_LO_COUNT l) = x % 2 ^ 32 ∧ t.get (F.LT_BITS_HI_COUNT l) = x / 2 ^ 32 % 2 ^ 16
    let dur := s.get (F.LT_CFG_DUR l)
    let timed := 1 ≤ dur ∧ dur ≤ 48
    let late := st s = 3 ∧ (s.lt l).stopped = some s.tick
    let busy (t : State) := t.get (F.LT_STAT_EYE_BUSY l)
    let addr := keyAddr (.LT_BITS_LO, [l.val])
    let answers := s.readable = true ∧ s.rights o 10 ≠ 0
    let same (t : State) := t.regs = s.regs ∧ t.lts = s.lts
    (timed → st s = 1 → 2 ^ dur ≤ s.bitsNow l → Does (.ltDone l n) s fun t =>
      st t = 2 ∧ stat 0 t ∧ count (2 ^ dur) t ∧ errs t = min (errs s + n) (2 ^ 32 - 1) ∧ (t.lt l).oos = false) ∧
    (timed → late → Does (.ltDone l n) s fun t => st t = 2 ∧ count (2 ^ dur) t ∧ errs t = errs s) ∧
    (¬ timed ∨ ¬ late ∧ (st s ≠ 1 ∨ s.bitsNow l < 2 ^ dur) → calm → Does (.ltDone l n) s fun t => st t = st s ∧ t.lts = s.lts) ∧
    (st s = 1 → s.checkerOn l = true → sync s = 0 → Does (.checkerSyncAcquired l) s fun t => sync t = 1 ∧ (t.lt l).sync = some s.tick) ∧
    (st s ≠ 1 ∨ s.checkerOn l = false ∨ sync s = 1 → Does (.checkerSyncAcquired l) s same) ∧
    (st s = 1 → sync s = 1 → Does (.checkerSyncLost l) s fun t =>
      sync t = 0 ∧ (t.lt l).sync = none ∧ (t.lt l).base = s.bitsNow l ∧ count (s.bitsNow l) t ∧ errs t = min (errs s + 16) (2 ^ 32 - 1) ∧
      t.get (F.LT_SYNC_LOSS_COUNT l) = min (s.get (F.LT_SYNC_LOSS_COUNT l) + 1) 65535 ∧ stat 1 t) ∧
    (st s ≠ 1 ∨ sync s = 0 → Does (.checkerSyncLost l) s same) ∧
    (busy s = 1 → Does (.eyeScanDone l n) s fun t =>
      busy t = 0 ∧ t.rd (.LT_EYE_ERR, [l.val]) = BitVec.ofNat 32 (min n (2 ^ 32 - 1)) ∧ stat 2 t) ∧
    (busy s = 0 → Does (.eyeScanDone l n) s same) ∧
    (answers → st s = 1 → Does (.bitsLatchRead o l) s fun t =>
      s.out ++ [.readData (orgOf o) addr (BitVec.ofNat 32 (s.bitsNow l))] <+: t.out ∧ (t.lt l).bitsHi = s.bitsNow l / 2 ^ 32 % 2 ^ 16) ∧
    (answers → st s ≠ 1 → Does (.bitsLatchRead o l) s fun t =>
      s.out ++ [.readData (orgOf o) addr (s.rd (.LT_BITS_LO, [l.val]))] <+: t.out ∧ (t.lt l).bitsHi = s.get (F.LT_BITS_HI_COUNT l) ∧ t.regs = s.regs) ∧
    Does (.jtagUpdate ir) s fun t =>
      t.jtag = (if takesPins ir then (if s.dv.resetLow then ⟨ir, true⟩ else ⟨.bypass, false⟩) else ⟨ir, false⟩) ∧ t.regs = s.regs ∧
        (ir = .idcode → s.out ++ [.idcode idcode] <+: t.out))

/-! ### Frames -/

/-- A cue instruction that makes no access leaves every part of the device but its engine, and where it raises a source the fault collector and the log,
as it was: no block register, no byte of local memory, and of the cue memories only those that it writes (R267, R279 to R290). -/
def Obligations.CueFrames : Prop :=
  (∀ n, ∀ c ∈ [Instr.cuNop n, Instr.cuHalt n, Instr.cuKick n], Touches c (raising []) (trappingRegs [.CU_RETIRED])) ∧
  (∀ n, ∀ c ∈ [Instr.cuTrap n, Instr.cuIll n], Touches c (raising []) (trappingRegs [])) ∧
  (∀ n, ∀ c ∈ [Instr.cuAdd n, Instr.cuSub n, Instr.cuAnd n, Instr.cuOr n, Instr.cuXor n, Instr.cuShl n, Instr.cuShr n, Instr.cuSar n, Instr.cuMul n,
    Instr.cuMulhu n, Instr.cuSel n, Instr.cuAddi n, Instr.cuAndi n, Instr.cuOri n, Instr.cuXori n, Instr.cuShli n, Instr.cuShri n, Instr.cuSari n,
    Instr.cuLi n, Instr.cuLui n, Instr.cuSubi n, Instr.cuBfx n, Instr.cuBfi n], Touches c (raising [.cregs]) (trappingRegs [.CU_FLAGS, .CU_RETIRED])) ∧
  (∀ n, ∀ c ∈ [Instr.cuBcc n, Instr.cuCall n, Instr.cuJalr n, Instr.cuRds n, Instr.cuWaite n, Instr.cuWaitl n], Touches c (raising [.cregs])
    (trappingRegs [.CU_RETIRED])) ∧
  (∀ n, ∀ c ∈ [Instr.cuLd n], Touches c (raising [.cregs, .ecc]) (trappingRegs [.CUS_MEM_CORR, .CUS_MEM_UNCORR, .CU_RETIRED])) ∧
  (∀ n, ∀ c ∈ [Instr.cuSt n], Touches c (raising [.dmem, .ecc]) (trappingRegs [.CU_RETIRED])) ∧
  (∀ n, ∀ c ∈ [Instr.cuLdx n, Instr.cuAmoadd n, Instr.cuAmoswp n], Touches c (raising [.free, .cregs, .scratch, .ecc]) (trappingRegs [.CUS_MEM_CORR,
    .CUS_MEM_UNCORR, .CU_RETIRED])) ∧
  (∀ n, ∀ c ∈ [Instr.cuStx n], Touches c (raising [.free, .scratch, .ecc]) (trappingRegs [.CU_RETIRED])) ∧
  (∀ n, ∀ c ∈ [Instr.cuCas n], Touches c (raising [.free, .cregs, .scratch, .ecc]) (trappingRegs [.CUS_MEM_CORR, .CUS_MEM_UNCORR, .CU_FLAGS,
    .CU_RETIRED])) ∧
  (∀ n, ∀ c ∈ [Instr.cuWrs n, Instr.cuRett n], Touches c (raising []) (trappingRegs [.CU_FLAGS, .CU_RETIRED])) ∧
  (∀ n, ∀ c ∈ [Instr.cuWaitt n, Instr.cuWaitp n], Touches c (raising [.cregs]) (trappingRegs [.CU_FLAGS, .CU_LATE_CNT, .CU_RETIRED]))

/-- A register command leaves every part of the device outside its block and the parts that its effect reaches as it was, whether it is taken or refused
(R15, R42, R48). -/
def Obligations.WriteFrames : Prop :=
  (∀ x0 x1, Touches (.snapRequest x0 x1) (raising [.w1, .dv]) (raisingRegs [.DV_ACC_ERR, .DV_SNAP, .DV_SNAP_STAT, .xx_REFUSED])) ∧
  (∀ x0 x1 x2 x3, Touches (.permWrite x0 x1 x2 x3) (raising [.w1]) (raisingRegs [.DV_ACC_ERR, .DV_PERM_HI, .DV_PERM_LO, .xx_REFUSED])) ∧
  (∀ x0 x1, Touches (.operate x0 x1) (raising [.free, .w1, .dv, .engines, .groups, .ads, .layers, .pls, .lts, .sps]) (raisingRegs [.CE_CDET,
    .CE_CSTAT, .CE_L_FENCE_STAT, .CE_L_SHOWN_HI, .CE_L_SHOWN_LO, .CE_PL_CSTAT, .CK_STAT, .DV_ACC_ERR, .DV_CTRL, .DV_IFV_SP, .DV_MODE, .HD_STAT,
    .LT_BITS_HI, .LT_BITS_LO, .LT_ERRORS, .LT_STAT, .SPP_POWER, .SPP_STAT, .SP_LOOP, .xx_REFUSED])) ∧
  (∀ x0, Touches (.shutdown x0) (raising [.free, .w1, .dv, .engines, .groups, .ads, .layers, .pls, .lts, .sps]) (raisingRegs [.CE_CDET, .CE_CSTAT,
    .CE_L_FENCE_STAT, .CE_L_SHOWN_HI, .CE_L_SHOWN_LO, .CE_PL_CSTAT, .CK_STAT, .DV_ACC_ERR, .DV_CTRL, .DV_IFV_SP, .DV_MODE, .HD_STAT, .LT_BITS_HI,
    .LT_BITS_LO, .LT_ERRORS, .LT_STAT, .SPP_POWER, .SPP_STAT, .SP_LOOP, .xx_REFUSED])) ∧
  (∀ x0 x1, TouchesParts (.warmReset x0 x1) (raising [.eff, .waiting, .w1, .dv, .mbx, .tb])) ∧
  (∀ x0 x1, TouchesParts (.maintenanceReset x0 x1) (raising [.eff, .waiting, .w1, .dv, .mbx, .tb])) ∧
  (∀ x0 x1, TouchesParts (.serviceReset x0 x1) (raising [.eff, .waiting, .w1, .dv, .mbx, .tb])) ∧
  (∀ x0 x1, Touches (.cancel x0 x1) (raising [.w1, .mbx]) (raisingRegs [.DV_ACC_ERR, .DV_MBX_DOORBELL, .DV_MBX_RESULT, .DV_MBX_RSP, .DV_MBX_STAT,
    .xx_REFUSED])) ∧
  (∀ x0 x1, Touches (.incTransfer x0 x1) (raising [.w1]) (raisingRegs [.DV_ACC_ERR, .TB_CLAMP, .TB_INC_HI, .TB_INC_LO, .TB_INC_REQ_HI,
    .xx_REFUSED])) ∧
  (∀ x0 x1, Touches (.tbRestep x0 x1) (raising [.free, .w1, .dv, .tb, .engines, .groups, .ads, .layers, .pls, .lts, .sps]) (raisingRegs [.CE_CDET,
    .CE_CSTAT, .CE_L_FENCE_STAT, .CE_L_SHOWN_HI, .CE_L_SHOWN_LO, .CE_PL_CSTAT, .CK_STAT, .DV_ACC_ERR, .DV_IFV_SP, .DV_MODE, .HD_STAT, .LT_BITS_HI,
    .LT_BITS_LO, .LT_ERRORS, .LT_STAT, .SPP_POWER, .SPP_STAT, .SP_LOOP, .TB_RESTEP, .xx_REFUSED])) ∧
  (∀ x0 x1, Touches (.src3InputChange x0 x1) (raising [.free, .w1, .dv, .tb, .engines, .groups, .ads, .layers, .pls, .lts, .sps, .cl]) (raisingRegs
    [.CE_CDET, .CE_CSTAT, .CE_L_FENCE_STAT, .CE_L_SHOWN_HI, .CE_L_SHOWN_LO, .CE_PL_CSTAT, .CK_STAT, .CL_STAT, .DV_ACC_ERR, .DV_IFV_SP, .DV_MODE,
    .HD_STAT, .LT_BITS_HI, .LT_BITS_LO, .LT_ERRORS, .LT_STAT, .RF_CTRL, .SPP_POWER, .SPP_STAT, .SP_LOOP, .TB_CLAMP, .TB_INC_HI, .TB_INC_LO, .TB_STATE,
    .xx_REFUSED])) ∧
  (∀ x0, Touches (.refSave x0) (raising [.w1, .dv, .tb, .cl]) (raisingRegs [.CL_STAT, .DV_ACC_ERR, .RF_CTRL, .TB_CLAMP, .TB_INC_HI, .TB_INC_LO,
    .TB_STATE, .xx_REFUSED])) ∧
  (∀ x0 x1 x2, Touches (.headStart x0 x1 x2) (raising [.free, .eff, .waiting, .w1, .engines, .groups, .dts, .ads, .layers, .pls, .cks, .ps])
    (raisingRegs [.CE_ADM_CULL, .CE_ADM_PEAK_B, .CE_ADM_PEAK_LP, .CE_ADM_PEAK_RES, .CE_CDET, .CE_CSTAT, .CE_L_FENCE_STAT, .CE_L_SHOWN_HI,
    .CE_L_SHOWN_LO, .CE_PL_CSTAT, .CE_PL_S_STAT, .CK_RUN, .CK_STAT, .DV_ACC_ERR, .HD_CTRL, .HD_PHASE, .HD_RASTER, .HD_STAT, .PS_DOMAINS,
    .xx_REFUSED])) ∧
  (∀ x0 x1, Touches (.headStop x0 x1) (raising [.free, .eff, .waiting, .w1, .engines, .groups, .dts, .ads, .layers, .pls, .cks, .ps]) (raisingRegs
    [.CE_ADM_CULL, .CE_ADM_PEAK_B, .CE_ADM_PEAK_LP, .CE_ADM_PEAK_RES, .CE_CDET, .CE_CSTAT, .CE_L_FENCE_STAT, .CE_L_SHOWN_HI, .CE_L_SHOWN_LO,
    .CE_PL_CSTAT, .CE_PL_S_STAT, .CK_RUN, .CK_STAT, .DV_ACC_ERR, .HD_CTRL, .HD_PHASE, .HD_RASTER, .HD_STAT, .PS_DOMAINS, .xx_REFUSED])) ∧
  (∀ x0 x1 x2, Touches (.ceCommit x0 x1 x2) (raising [.eff, .waiting, .w1, .engines, .groups, .serial]) (raisingRegs [.CE_ADM_FAIL_LIMIT,
    .CE_ADM_FAIL_NEED, .CE_CDET, .CE_COMMIT, .CE_CREJ, .CE_CSTAT, .DV_ACC_ERR, .xx_REFUSED])) ∧
  (∀ x0 x1 x2, Touches (.ceGroupCommit x0 x1 x2) (raising [.eff, .waiting, .w1, .engines, .groups, .serial]) (raisingRegs [.CE_ADM_FAIL_LIMIT,
    .CE_ADM_FAIL_NEED, .CE_CDET, .CE_COMMIT, .CE_CREJ, .CE_CSTAT, .DV_ACC_ERR, .xx_REFUSED])) ∧
  (∀ x0 x1 x2, Touches (.cePrepCommit x0 x1 x2) (raising [.eff, .waiting, .w1, .engines, .groups, .serial]) (raisingRegs [.CE_ADM_FAIL_LIMIT,
    .CE_ADM_FAIL_NEED, .CE_CDET, .CE_COMMIT, .CE_CREJ, .CE_CSTAT, .DV_ACC_ERR, .xx_REFUSED])) ∧
  (∀ x0 x1 x2, Touches (.ceRelease x0 x1 x2) (raising [.eff, .waiting, .w1, .mem, .bad, .layers, .pls]) (raisingRegs [.CE_ADM_CULL, .CE_ADM_PEAK_B,
    .CE_ADM_PEAK_LP, .CE_ADM_PEAK_RES, .CE_CDET, .CE_CSTAT, .CE_JRN_WR, .CE_L_FENCE_STAT, .CE_L_SHOWN_HI, .CE_L_SHOWN_LO, .CE_PL_S_STAT,
    .CE_PL_WR_DENY, .CE_RELEASE, .CE_VINT_APP, .DV_ACC_ERR, .xx_REFUSED])) ∧
  (∀ x0 x1 x2, Touches (.ceDiscard x0 x1 x2) (raising [.eff, .waiting, .w1, .mem, .bad, .layers, .pls]) (raisingRegs [.CE_ADM_CULL, .CE_ADM_PEAK_B,
    .CE_ADM_PEAK_LP, .CE_ADM_PEAK_RES, .CE_CDET, .CE_CSTAT, .CE_JRN_WR, .CE_L_FENCE_STAT, .CE_L_SHOWN_HI, .CE_L_SHOWN_LO, .CE_PL_S_STAT,
    .CE_PL_WR_DENY, .CE_RELEASE, .CE_VINT_APP, .DV_ACC_ERR, .xx_REFUSED])) ∧
  (∀ x0 x1 x2 x3, Touches (.plOwnerWrite x0 x1 x2 x3) (raising [.eff, .waiting, .w1]) (raisingRegs [.CE_PL_OWNER, .DV_ACC_ERR, .xx_REFUSED])) ∧
  (∀ x0 x1 x2 x3, Touches (.plCommit x0 x1 x2 x3) (raising [.eff, .waiting, .w1, .pls]) (raisingRegs [.CE_PL_COMMIT, .CE_PL_CSTAT, .DV_ACC_ERR,
    .xx_REFUSED])) ∧
  (∀ x0 x1, Touches (.ckStart x0 x1) (raising [.free, .w1, .cks]) (raisingRegs [.CK_CMD, .CK_PROG, .CK_RUN, .CK_STAT, .DV_ACC_ERR, .xx_REFUSED])) ∧
  (∀ x0 x1, Touches (.cuStart x0 x1) (raising [.w1]) (trappingRegs [.CU_CTRL, .CU_FLAGS, .DV_ACC_ERR, .xx_REFUSED])) ∧
  (∀ x0 x1, Touches (.cuResume x0 x1) (raising [.w1]) (trappingRegs [.CU_CTRL, .CU_FLAGS, .DV_ACC_ERR, .xx_REFUSED])) ∧
  (∀ x0 x1 x2, Touches (.cuStep x0 x1 x2) (raising [.w1]) (trappingRegs [.CU_CTRL, .CU_FLAGS, .DV_ACC_ERR, .xx_REFUSED])) ∧
  (∀ x0 x1, Touches (.cuHaltRequest x0 x1) (raising [.w1]) (trappingRegs [.CU_CTRL, .CU_FLAGS, .DV_ACC_ERR, .xx_REFUSED])) ∧
  (∀ x0 x1 x2, Touches (.cuDoorbell x0 x1 x2) (raising [.w1]) (raisingRegs [.CU_DOORBELL, .DV_ACC_ERR, .xx_REFUSED])) ∧
  (∀ x0 x1 x2 x3, Touches (.paramWrite x0 x1 x2 x3) (raising [.w1]) (raisingRegs [.CU_PARAM, .DV_ACC_ERR, .xx_REFUSED])) ∧
  (∀ x0 x1 x2, Touches (.dmLoWrite x0 x1 x2) (raising [.w1]) (raisingRegs [.CU_DM_LO, .DV_ACC_ERR, .xx_REFUSED])) ∧
  (∀ x0 x1 x2, Touches (.dmHiWrite x0 x1 x2) (raising [.w1, .dmem, .ecc]) (raisingRegs [.CU_DM_HI, .CU_DM_IDX, .DV_ACC_ERR, .xx_REFUSED])) ∧
  (∀ x0 x1 x2, Touches (.scrDataWrite x0 x1 x2) (raising [.w1, .scratch, .ecc]) (raisingRegs [.CUS_SCR_DATA, .CUS_SCR_IDX, .DV_ACC_ERR,
    .xx_REFUSED])) ∧
  (∀ x0 x1 x2, Touches (.imgLevelWrite x0 x1 x2) (raising [.w1]) (raisingRegs [.CU_IMG, .DV_ACC_ERR, .xx_REFUSED])) ∧
  (∀ x0, Touches (.zoneSave x0) (raising [.w1, .dv, .cl]) (raisingRegs [.CL_STAT, .DT_CTRL, .DV_ACC_ERR, .xx_REFUSED])) ∧
  (∀ x0 x1, Touches (.glyDataWrite x0 x1) (raising [.w1, .glyphs]) (raisingRegs [.DT_GLY_DATA, .DT_GLY_IDX, .DV_ACC_ERR, .xx_REFUSED])) ∧
  (∀ x0 x1 x2, Touches (.i2cStart x0 x1 x2) (raising [.w1]) (raisingRegs [.DV_ACC_ERR, .NP_I2C_CMD, .NP_I2C_STAT, .xx_REFUSED])) ∧
  (∀ x0 x1 x2, TouchesParts (.flowEnable x0 x1 x2) (raising [.w1, .vids, .flows])) ∧
  (∀ x0 x1 x2, TouchesParts (.flowDisable x0 x1 x2) (raising [.w1, .vids, .flows])) ∧
  (∀ x0 x1 x2, Touches (.queueEnable x0 x1 x2) (raising [.eff, .waiting, .w1, .queues, .ads, .hqs]) (raisingRegs [.DV_ACC_ERR, .HQ_DROP,
    .NP_MEDIA_RATE, .NP_TX_ACTIVE, .NQ_CTRL, .NQ_STAT, .xx_REFUSED])) ∧
  (∀ x0 x1 x2, Touches (.queueDisable x0 x1 x2) (raising [.eff, .waiting, .w1, .queues, .ads, .hqs]) (raisingRegs [.DV_ACC_ERR, .HQ_DROP,
    .NP_MEDIA_RATE, .NP_TX_ACTIVE, .NQ_CTRL, .NQ_STAT, .xx_REFUSED])) ∧
  (∀ x0 x1 x2, Touches (.gclEnable x0 x1 x2) (raising [.w1, .ports, .queues]) (raisingRegs [.DV_ACC_ERR, .NG_GCL_CTRL, .NG_GCL_OPER,
    .NG_GCL_OPER_BASE_NS, .NG_GCL_OPER_BASE_SH, .NG_GCL_OPER_BASE_SL, .NG_GCL_OPER_CYCLE, .NG_GCL_OPER_LEN, .NG_GCL_STAT, .xx_REFUSED])) ∧
  (∀ x0 x1 x2, Touches (.gclDisable x0 x1 x2) (raising [.w1, .ports, .queues]) (raisingRegs [.DV_ACC_ERR, .NG_GCL_CTRL, .NG_GCL_OPER,
    .NG_GCL_OPER_BASE_NS, .NG_GCL_OPER_BASE_SH, .NG_GCL_OPER_BASE_SL, .NG_GCL_OPER_CYCLE, .NG_GCL_OPER_LEN, .NG_GCL_STAT, .xx_REFUSED])) ∧
  (∀ x0 x1 x2, Touches (.gclChange x0 x1 x2) (raising [.w1, .ports, .queues]) (raisingRegs [.DV_ACC_ERR, .NG_GCL_CTRL, .NG_GCL_OPER,
    .NG_GCL_OPER_BASE_NS, .NG_GCL_OPER_BASE_SH, .NG_GCL_OPER_BASE_SL, .NG_GCL_OPER_CYCLE, .NG_GCL_OPER_LEN, .NG_GCL_STAT, .xx_REFUSED])) ∧
  (∀ x0 x1 x2, Touches (.adEnable x0 x1 x2) (raising [.w1, .ads]) (raisingRegs [.AD_CTRL, .AD_STAT, .DV_ACC_ERR, .xx_REFUSED])) ∧
  (∀ x0 x1 x2, Touches (.adDisable x0 x1 x2) (raising [.w1, .ads]) (raisingRegs [.AD_CTRL, .AD_STAT, .DV_ACC_ERR, .xx_REFUSED])) ∧
  (∀ x0 x1 x2, Touches (.adSwIdxWrite x0 x1 x2) (raising [.w1]) (raisingRegs [.AD_SW_IDX, .DV_ACC_ERR, .xx_REFUSED])) ∧
  (∀ x0 x1, Touches (.adStart x0 x1) (raising [.w1, .ads]) (raisingRegs [.AD_CMD, .AD_STAT, .DV_ACC_ERR, .xx_REFUSED])) ∧
  (∀ x0 x1, Touches (.adAbort x0 x1) (raising [.w1, .ads]) (raisingRegs [.AD_CMD, .AD_STAT, .DV_ACC_ERR, .xx_REFUSED])) ∧
  (∀ x0 x1 x2, Touches (.hqEnable x0 x1 x2) (raising [.w1, .hqs]) (raisingRegs [.DV_ACC_ERR, .HQ_CTRL, .HQ_STAT, .xx_REFUSED])) ∧
  (∀ x0 x1 x2, Touches (.hqDisable x0 x1 x2) (raising [.w1, .hqs]) (raisingRegs [.DV_ACC_ERR, .HQ_CTRL, .HQ_STAT, .xx_REFUSED])) ∧
  (∀ x0 x1 x2, Touches (.hqDoorbell x0 x1 x2) (raising [.w1]) (raisingRegs [.DV_ACC_ERR, .HQ_DB, .xx_REFUSED])) ∧
  (∀ x0 x1, Touches (.hqStart x0 x1) (raising [.w1, .mem, .bad, .hqs, .pls]) (raisingRegs [.CE_PL_S_STAT, .CE_PL_WR_DENY, .DV_ACC_ERR, .HQ_CMD,
    .HQ_CONS, .HQ_STAT, .xx_REFUSED])) ∧
  (∀ x0 x1, Touches (.hqAbort x0 x1) (raising [.w1, .mem, .bad, .hqs, .pls]) (raisingRegs [.CE_PL_S_STAT, .CE_PL_WR_DENY, .DV_ACC_ERR, .HQ_CMD,
    .HQ_CONS, .HQ_STAT, .xx_REFUSED])) ∧
  (∀ x0 x1, Touches (.spPowerOn x0 x1) (raising [.w1, .slowQ, .slowHold]) (raisingRegs [.DV_ACC_ERR, .xx_AGE, .xx_REFUSED])) ∧
  (∀ x0 x1, Touches (.spPowerOff x0 x1) (raising [.w1, .slowQ, .slowHold]) (raisingRegs [.DV_ACC_ERR, .xx_AGE, .xx_REFUSED])) ∧
  (∀ x0 x1, Touches (.spDataEnable x0 x1) (raising [.w1, .slowQ, .slowHold]) (raisingRegs [.DV_ACC_ERR, .xx_AGE, .xx_REFUSED])) ∧
  (∀ x0 x1, Touches (.loopMaxWrite x0 x1) (raising [.w1, .slowQ, .slowHold]) (raisingRegs [.DV_ACC_ERR, .xx_AGE, .xx_REFUSED])) ∧
  (∀ x0, Touches (.spSave x0) (raising [.w1, .slowQ, .slowHold]) (raisingRegs [.DV_ACC_ERR, .xx_AGE, .xx_REFUSED])) ∧
  (∀ x0, Touches (.glEnable x0) (raising [.w1, .gl]) (raisingRegs [.DV_ACC_ERR, .GL_CTRL, .GL_STATE, .xx_REFUSED])) ∧
  (∀ x0, Touches (.glDisable x0) (raising [.w1, .gl]) (raisingRegs [.DV_ACC_ERR, .GL_CTRL, .GL_STATE, .xx_REFUSED])) ∧
  (∀ x0 x1, Touches (.faultClear x0 x1) (raising [.w1]) (raisingRegs [.DV_ACC_ERR, .FC_CLEAR, .xx_REFUSED])) ∧
  (∀ x0, Touches (.faultClearAll x0) (raising [.w1]) (raisingRegs [.DV_ACC_ERR, .FC_CLEAR, .xx_REFUSED])) ∧
  (∀ x0, Touches (.faultRearm x0) (raising [.w1]) (raisingRegs [.DV_ACC_ERR, .FC_CTRL, .xx_REFUSED])) ∧
  (∀ x0 x1, Touches (.entryRead x0 x1) (raising [.w1]) (raisingRegs [.DV_ACC_ERR, .SL_RD_SEQ_HI, .SL_RD_STAT, .SL_RD_W, .xx_REFUSED])) ∧
  (∀ x0 x1, Touches (.lgErase x0 x1) (raising [.w1, .slowQ, .slowHold]) (raisingRegs [.DV_ACC_ERR, .xx_AGE, .xx_REFUSED])) ∧
  (∀ x0 x1, Touches (.ltStart x0 x1) (raising [.free, .w1, .dv, .engines, .groups, .ads, .layers, .pls, .lts, .sps]) (raisingRegs [.CE_CDET,
    .CE_CSTAT, .CE_L_FENCE_STAT, .CE_L_SHOWN_HI, .CE_L_SHOWN_LO, .CE_PL_CSTAT, .CK_STAT, .DV_ACC_ERR, .DV_IFV_SP, .DV_MODE, .HD_STAT, .LT_BITS_HI,
    .LT_BITS_LO, .LT_CMD, .LT_ERRORS, .LT_STAT, .SPP_POWER, .SPP_STAT, .SP_LOOP, .xx_REFUSED])) ∧
  (∀ x0 x1, Touches (.ltStop x0 x1) (raising [.free, .w1, .dv, .engines, .groups, .ads, .layers, .pls, .lts, .sps]) (raisingRegs [.CE_CDET,
    .CE_CSTAT, .CE_L_FENCE_STAT, .CE_L_SHOWN_HI, .CE_L_SHOWN_LO, .CE_PL_CSTAT, .CK_STAT, .DV_ACC_ERR, .DV_IFV_SP, .DV_MODE, .HD_STAT, .LT_BITS_HI,
    .LT_BITS_LO, .LT_CMD, .LT_ERRORS, .LT_STAT, .SPP_POWER, .SPP_STAT, .SP_LOOP, .xx_REFUSED])) ∧
  (∀ x0 x1, Touches (.eyeGo x0 x1) (raising [.free, .w1, .dv, .engines, .groups, .ads, .layers, .pls, .lts, .sps]) (raisingRegs [.CE_CDET,
    .CE_CSTAT, .CE_L_FENCE_STAT, .CE_L_SHOWN_HI, .CE_L_SHOWN_LO, .CE_PL_CSTAT, .CK_STAT, .DV_ACC_ERR, .DV_IFV_SP, .DV_MODE, .HD_STAT, .LT_BITS_HI,
    .LT_BITS_LO, .LT_CMD, .LT_ERRORS, .LT_STAT, .SPP_POWER, .SPP_STAT, .SP_LOOP, .xx_REFUSED])) ∧
  (∀ x0 x1, TouchesParts (.ltGroupStart x0 x1) (raising [.free, .eff, .waiting, .w1, .dv, .mbx, .engines, .groups, .ads, .hqs, .layers, .pls, .lts,
    .sps])) ∧
  (∀ x0 x1, TouchesParts (.ltGroupStop x0 x1) (raising [.free, .eff, .waiting, .w1, .dv, .mbx, .engines, .groups, .ads, .hqs, .layers, .pls, .lts,
    .sps]))

/-- An event of the device, its time, its outputs or its inputs leaves every part and register that its effect does not reach as it was.

An event of the network, the transfer engines, the ports, the lock domain, faults or the power supply leaves every part and register that its effect
does not reach as it was. -/
def Obligations.EventFrames : Prop :=
  ((∀ x0 x1 x2, TouchesParts (.readClear x0 x1 x2) (raising [.free, .slowCopy, .tb, .cks, .ecc, .lts])) ∧
  (∀ x0 x1, TouchesParts (.statusCorRead x0 x1) (raising [.free, .slowCopy, .tb, .cks, .ecc, .lts])) ∧
  (∀ x0 x1, TouchesParts (.registerReadDenied x0 x1) (raising [.free, .slowCopy, .tb, .cks, .ecc, .lts])) ∧
  (∀ x0 x1, Touches (.slowCopyRefresh x0 x1) [.slowCopy] [.xx_AGE]) ∧
  Touches .snapshotCapture [.holding, .dv] [.DV_SNAP_ID, .DV_SNAP_STAT, .DV_SNAP_TAI_NS, .DV_SNAP_TAI_SH, .DV_SNAP_TAI_SL] ∧
  Touches .snapshotWriteOutDone (raising [.mem, .bad, .dv, .pls]) (raisingRegs [.CE_PL_S_STAT, .CE_PL_WR_DENY, .DV_SNAP_STAT]) ∧
  (∀ x0 x1 x2, Touches (.bar2Write x0 x1 x2) (raising [.mem, .bad, .pls]) (raisingRegs [.CE_PL_S_STAT, .CE_PL_WR_DENY])) ∧
  (∀ x0 x1 x2, Touches (.bar2Read x0 x1 x2) [] []) ∧
  TouchesParts .pcieLinkDown (raising [.eff, .waiting, .w1, .dv, .mbx, .hqs]) ∧
  (∀ x0, TouchesParts (.flr x0) [.eff, .waiting, .w1, .dv, .mbx, .hqs]) ∧
  Touches .shutdownRailsOff [.free, .dv, .heads, .engines, .groups, .ads, .layers, .pls, .cues, .evt, .ps, .lts, .sps, .sl] [.CE_CDET, .CE_CSTAT,
    .CE_L_FENCE_STAT, .CE_L_SHOWN_HI, .CE_L_SHOWN_LO, .CE_PL_CSTAT, .CK_STAT, .CU_EVT_OVR, .DV_IFV_SP, .DV_MODE, .HD_STAT, .LT_BITS_HI, .LT_BITS_LO,
    .LT_ERRORS, .LT_STAT, .PS_RAIL_STAT, .SPP_POWER, .SPP_STAT, .SP_LOOP, .xx_STATUS] ∧
  (∀ x0 x1, Touches (.resetRelease x0 x1) [.dv, .jtag] []) ∧
  Touches .railsPowerGood [.dv, .ps] [.PS_RAIL_STAT] ∧
  (∀ x0 x1 x2, TouchesParts (.cellarHeaderCheck x0 x1 x2) (raising [.free, .mem, .bad, .dv, .tb, .engines, .groups, .ads, .layers, .pls, .rf, .lts,
    .sps, .cl])) ∧
  Touches .serviceReady [.free, .dv, .tb, .heads, .engines, .groups, .ads, .layers, .pls, .cues, .evt, .lts, .sps, .sl, .cl] [.CE_CDET, .CE_CSTAT,
    .CE_L_FENCE_STAT, .CE_L_SHOWN_HI, .CE_L_SHOWN_LO, .CE_PL_CSTAT, .CK_STAT, .CL_STAT, .CU_EVT_OVR, .DV_BOOT_STAT, .DV_IFV_SP, .DV_MODE,
    .DV_SVC_READY, .HD_STAT, .LT_BITS_HI, .LT_BITS_LO, .LT_ERRORS, .LT_STAT, .SPP_POWER, .SPP_STAT, .SP_LOOP, .xx_STATUS] ∧
  Touches .bootReadyTimeout [.dv] [] ∧
  (∀ x0, Touches (.svcWdog x0) (raising []) (raisingRegs [])) ∧
  (∀ x0, TouchesParts (.openSession x0) (raising [.mbx])) ∧
  (∀ x0, TouchesParts (.closeSession x0) [.mbx]) ∧
  (∀ x0, Touches (.getInfo x0) [.mbx] []) ∧
  (∀ x0, Touches (.imgBegin x0) [.dv, .mbx] []) ∧
  (∀ x0, Touches (.imgData x0) [.dv, .mbx] []) ∧
  (∀ x0 x1, Touches (.imgEnd x0 x1) [.dv, .mbx] []) ∧
  (∀ x0, Touches (.timeStatus x0) [.mbx] []) ∧
  (∀ x0 x1, Touches (.timePtpCfg x0 x1) [.mbx, .tb] []) ∧
  (∀ x0 x1 x2 x3 x4, TouchesParts (.timePtpPort x0 x1 x2 x3 x4) (raising [.free, .dv, .mbx, .tb, .engines, .groups, .ads, .layers, .pls, .lts,
    .sps])) ∧
  (∀ x0 x1, Touches (.timeServo x0 x1) [.mbx, .tb] []) ∧
  (∀ x0, Touches (.glStatus x0) [.mbx] []) ∧
  (∀ x0 x1, Touches (.glRoster x0 x1) [.mbx] []) ∧
  (∀ x0 x1 x2, Touches (.clRead x0 x1 x2) [.mbx] []) ∧
  (∀ x0, Touches (.mailboxComplete x0) [.mbx] [.DV_MBX_RESULT, .DV_MBX_RSP, .DV_MBX_STAT]) ∧
  (∀ x0, TouchesParts (.timeLatchRead x0) (raising [.free, .slowCopy, .tb, .cks, .ecc, .lts])) ∧
  (∀ x0, Touches (.sourceLost x0) (raising [.free, .dv, .tb, .engines, .groups, .ads, .layers, .pls, .lts, .sps]) (raisingRegs [.CE_CDET, .CE_CSTAT,
    .CE_L_FENCE_STAT, .CE_L_SHOWN_HI, .CE_L_SHOWN_LO, .CE_PL_CSTAT, .CK_STAT, .DV_IFV_SP, .DV_MODE, .HD_STAT, .LT_BITS_HI, .LT_BITS_LO, .LT_ERRORS,
    .LT_STAT, .SPP_POWER, .SPP_STAT, .SP_LOOP, .TB_CLAMP, .TB_INC_HI, .TB_INC_LO, .TB_STATE])) ∧
  (∀ x0, Touches (.sourceRequalified x0) (raising [.free, .dv, .tb, .engines, .groups, .ads, .layers, .pls, .lts, .sps, .gl]) (raisingRegs
    [.CE_CDET, .CE_CSTAT, .CE_L_FENCE_STAT, .CE_L_SHOWN_HI, .CE_L_SHOWN_LO, .CE_PL_CSTAT, .CK_STAT, .DV_IFV_SP, .DV_MODE, .GL_STATE, .HD_STAT,
    .LT_BITS_HI, .LT_BITS_LO, .LT_ERRORS, .LT_STAT, .SPP_POWER, .SPP_STAT, .SP_LOOP, .TB_CLAMP, .TB_INC_HI, .TB_INC_LO, .TB_STATE])) ∧
  (∀ x0, Touches (.restepStep x0) (raising [.free, .dv, .tb, .engines, .groups, .ads, .layers, .pls, .rf, .lts, .sps]) (raisingRegs [.CE_CDET,
    .CE_CSTAT, .CE_L_FENCE_STAT, .CE_L_SHOWN_HI, .CE_L_SHOWN_LO, .CE_PL_CSTAT, .CK_STAT, .DV_IFV_SP, .DV_MODE, .HD_PHASE, .HD_RASTER, .HD_STAT,
    .LT_BITS_HI, .LT_BITS_LO, .LT_ERRORS, .LT_STAT, .SPP_POWER, .SPP_STAT, .SP_LOOP, .TB_CLAMP, .TB_INC_HI, .TB_INC_LO, .TB_STATE, .TB_STEP_CNT])) ∧
  Touches .holdLimit (raising [.free, .dv, .tb, .engines, .groups, .ads, .layers, .pls, .lts, .sps]) (raisingRegs [.CE_CDET, .CE_CSTAT,
    .CE_L_FENCE_STAT, .CE_L_SHOWN_HI, .CE_L_SHOWN_LO, .CE_PL_CSTAT, .CK_STAT, .DV_IFV_SP, .DV_MODE, .HD_STAT, .LT_BITS_HI, .LT_BITS_LO, .LT_ERRORS,
    .LT_STAT, .SPP_POWER, .SPP_STAT, .SP_LOOP, .TB_CLAMP, .TB_INC_HI, .TB_INC_LO, .TB_STATE]) ∧
  Touches .leapApply [.dv, .tb, .cl] [.CL_STAT, .TB_UTC, .xx_STATUS] ∧
  (∀ x0 x1, TouchesParts (.tsqPop x0 x1) (raising [.free, .slowCopy, .tb, .cks, .ecc, .lts])) ∧
  Touches .timeRecordWrite [.dv, .cl] [.CL_STAT] ∧
  Touches .pllUnlock (raising []) (raisingRegs [.TB_STATE]) ∧
  TouchesParts .pllLock (raising [.free, .dv, .tb, .engines, .groups, .ads, .layers, .pls, .rf, .lts, .sps]) ∧
  (∀ x0 x1 x2, Touches (.refInLock x0 x1 x2) (raising [.tb, .rf]) (raisingRegs [.RF_IN_STAT, .TB_CLAMP, .TB_INC_HI, .TB_INC_LO, .TB_STATE])) ∧
  (∀ x0, Touches (.refInLoss x0) (raising [.free, .dv, .tb, .engines, .groups, .ads, .layers, .pls, .rf, .lts, .sps]) (raisingRegs [.CE_CDET,
    .CE_CSTAT, .CE_L_FENCE_STAT, .CE_L_SHOWN_HI, .CE_L_SHOWN_LO, .CE_PL_CSTAT, .CK_STAT, .DV_IFV_SP, .DV_MODE, .HD_STAT, .LT_BITS_HI, .LT_BITS_LO,
    .LT_ERRORS, .LT_STAT, .RF_IN_LOSS, .RF_IN_STAT, .SPP_POWER, .SPP_STAT, .SP_LOOP, .TB_CLAMP, .TB_INC_HI, .TB_INC_LO, .TB_STATE])) ∧
  (∀ x0 x1 x2, Touches (.refPhaseMeasure x0 x1 x2) [] [.RF_IN_PHASE, .RF_IN_STAT]) ∧
  (∀ x0 x1, Touches (.ltcWord x0 x1) (raising [.free, .dv, .tb, .engines, .groups, .ads, .layers, .pls, .rf, .lts, .sps]) (raisingRegs [.CE_CDET,
    .CE_CSTAT, .CE_L_FENCE_STAT, .CE_L_SHOWN_HI, .CE_L_SHOWN_LO, .CE_PL_CSTAT, .CK_STAT, .DV_IFV_SP, .DV_MODE, .HD_STAT, .LT_BITS_HI, .LT_BITS_LO,
    .LT_ERRORS, .LT_STAT, .RF_LTCIN_LABEL, .RF_LTCIN_UB, .SPP_POWER, .SPP_STAT, .SP_LOOP, .TB_CLAMP, .TB_INC_HI, .TB_INC_LO, .TB_STATE])) ∧
  (∀ x0, Touches (.outputOffsetApply x0) [.eff, .waiting, .rf] []) ∧
  (∀ x0 x1, Touches (.ppsEdge x0 x1) (raising [.free, .dv, .tb, .engines, .groups, .ads, .layers, .pls, .rf, .lts, .sps]) (raisingRegs [.CE_CDET,
    .CE_CSTAT, .CE_L_FENCE_STAT, .CE_L_SHOWN_HI, .CE_L_SHOWN_LO, .CE_PL_CSTAT, .CK_STAT, .DV_IFV_SP, .DV_MODE, .HD_STAT, .LT_BITS_HI, .LT_BITS_LO,
    .LT_ERRORS, .LT_STAT, .SPP_POWER, .SPP_STAT, .SP_LOOP, .TB_CLAMP, .TB_INC_HI, .TB_INC_LO, .TB_STATE])) ∧
  (∀ x0, Touches (.todSentenceRx x0) (raising [.free, .dv, .engines, .groups, .ads, .layers, .pls, .rf, .lts, .sps]) (raisingRegs [.CE_CDET,
    .CE_CSTAT, .CE_L_FENCE_STAT, .CE_L_SHOWN_HI, .CE_L_SHOWN_LO, .CE_PL_CSTAT, .CK_STAT, .DV_IFV_SP, .DV_MODE, .HD_STAT, .LT_BITS_HI, .LT_BITS_LO,
    .LT_ERRORS, .LT_STAT, .SPP_POWER, .SPP_STAT, .SP_LOOP])) ∧
  Touches .todSentenceTx [.rf] [] ∧
  (∀ x0, Touches (.outLoad x0) (raising [.rf]) (raisingRegs [])) ∧
  (∀ x0, TouchesParts (.headFirstLine x0) (raising [.free, .eff, .waiting, .engines, .groups, .dts, .queues, .ads, .hqs, .layers, .pls])) ∧
  (∀ x0, Touches (.headStopped x0) [.heads, .engines, .groups, .ads, .layers, .pls, .cues, .evt] [.CE_CDET, .CE_CSTAT, .CE_L_FENCE_STAT,
    .CE_L_SHOWN_HI, .CE_L_SHOWN_LO, .CE_PL_CSTAT, .CK_STAT, .CU_EVT_OVR, .HD_STAT, .xx_STATUS]) ∧
  (∀ x0 x1, TouchesParts (.headLineStart x0 x1) (raising [.free, .eff, .waiting, .engines, .groups, .dts, .queues, .ads, .hqs, .layers, .pls])) ∧
  (∀ x0 x1 x2 x3 x4, Touches (.hostReadCompletion x0 x1 x2 x3 x4) [.layers] []) ∧
  (∀ x0, Touches (.commitDeadline x0) [.eff, .waiting, .heads, .dts, .layers, .pls, .cues] [.CE_PL_S_STAT, .xx_STATUS]) ∧
  (∀ x0, TouchesParts (.frameBoundary x0) (raising [.free, .eff, .waiting, .mem, .bad, .dts, .layers, .pls, .cks, .gl])) ∧
  (∀ x0 x1, Touches (.sampleEvent x0 x1) [.heads, .cues] []) ∧
  (∀ x0 x1, Touches (.rateFifoExcursion x0 x1) (raising []) (raisingRegs [])) ∧
  (∀ x0 x1, Touches (.dpLinkFail x0 x1) (raising []) (raisingRegs [])) ∧
  (∀ x0 x1, Touches (.dpRetrain x0 x1) [.heads] [.HD_DP_RETRAIN]) ∧
  (∀ x0, Touches (.sdiSerializerFail x0) (raising [.ads]) (raisingRegs [])) ∧
  (∀ x0, Touches (.commitCheckDone x0) (raising [.mem, .bad, .engines, .groups, .layers, .pls]) (raisingRegs [.CE_ADM_CULL, .CE_ADM_FAIL_LIMIT,
    .CE_ADM_FAIL_NEED, .CE_ADM_PEAK_B, .CE_ADM_PEAK_LP, .CE_ADM_PEAK_RES, .CE_CDET, .CE_CREJ, .CE_CSTAT, .CE_JRN_WR, .CE_L_FENCE_STAT, .CE_L_SHOWN_HI,
    .CE_L_SHOWN_LO, .CE_PL_S_STAT, .CE_PL_WR_DENY, .CE_VINT_APP])) ∧
  (∀ x0, Touches (.lastGoodHandover x0) [.dv, .heads, .cl] [.CL_STAT]) ∧
  (∀ x0 x1, Touches (.plCheckDone x0 x1) [.free, .pls, .cks, .sl] [.CE_PL_CSTAT, .CE_PL_S_STAT, .CK_RUN, .CK_STAT]) ∧
  (∀ x0 x1, Touches (.plScanDone x0 x1) (raising [.free, .pls, .cks]) (raisingRegs [.CE_PL_CSTAT, .CE_PL_S_STAT, .CK_RUN, .CK_STAT])) ∧
  (∀ x0, Touches (.ckScanDone x0) (raising [.free, .cks]) (raisingRegs [.CK_PROG, .CK_RESULT, .CK_RUN, .CK_STAT])) ∧
  (∀ x0 x1 x2, TouchesParts (.ckRunRead x0 x1 x2) (raising [.free, .slowCopy, .tb, .cks, .ecc, .lts])) ∧
  (∀ x0 x1, TouchesParts (.dmLoRead x0 x1) (raising [.free, .slowCopy, .tb, .cks, .ecc, .lts])) ∧
  (∀ x0 x1, TouchesParts (.dmHiRead x0 x1) (raising [.free, .slowCopy, .tb, .cks, .ecc, .lts])) ∧
  (∀ x0 x1, TouchesParts (.scrDataRead x0 x1) (raising [.free, .slowCopy, .tb, .cks, .ecc, .lts])) ∧
  (∀ x0 x1 x2 x3, TouchesParts (.rxFrame x0 x1 x2 x3) (raising [.free, .mem, .bad, .vids, .ports, .flows, .ads, .hqs, .pls])) ∧
  (∀ x0, Touches (.moduleRemoved x0) (raising [.free, .dv, .tb, .engines, .groups, .queues, .ads, .hqs, .layers, .pls, .lts, .sps]) (raisingRegs
    [.CE_CDET, .CE_CSTAT, .CE_L_FENCE_STAT, .CE_L_SHOWN_HI, .CE_L_SHOWN_LO, .CE_PL_CSTAT, .CK_STAT, .DV_IFV_SP, .DV_MODE, .HD_STAT, .HQ_DROP,
    .LT_BITS_HI, .LT_BITS_LO, .LT_ERRORS, .LT_STAT, .NP_LINK_DOWN, .NP_STAT, .NP_TX_DOWN_DROP, .NP_TX_OVERSIZE, .NQ_OVERSIZE, .NQ_STAT, .SPP_POWER,
    .SPP_STAT, .SP_LOOP, .TB_CLAMP, .TB_INC_HI, .TB_INC_LO, .TB_STATE])) ∧
  (∀ x0, Touches (.moduleInserted x0) [] [.NP_STAT, .xx_STATUS]) ∧
  (∀ x0, Touches (.linkUp x0) (raising [.tb, .queues, .ads, .hqs]) (raisingRegs [.HQ_DROP, .NP_STAT, .NP_TX_DOWN_DROP, .NP_TX_OVERSIZE,
    .NQ_OVERSIZE, .NQ_STAT])) ∧
  (∀ x0, Touches (.linkDown x0) (raising [.free, .dv, .tb, .engines, .groups, .queues, .ads, .hqs, .layers, .pls, .lts, .sps]) (raisingRegs
    [.CE_CDET, .CE_CSTAT, .CE_L_FENCE_STAT, .CE_L_SHOWN_HI, .CE_L_SHOWN_LO, .CE_PL_CSTAT, .CK_STAT, .DV_IFV_SP, .DV_MODE, .HD_STAT, .HQ_DROP,
    .LT_BITS_HI, .LT_BITS_LO, .LT_ERRORS, .LT_STAT, .NP_LINK_DOWN, .NP_STAT, .NP_TX_DOWN_DROP, .NP_TX_OVERSIZE, .NQ_OVERSIZE, .NQ_STAT, .SPP_POWER,
    .SPP_STAT, .SP_LOOP, .TB_CLAMP, .TB_INC_HI, .TB_INC_LO, .TB_STATE])) ∧
  (∀ x0 x1 x2, Touches (.i2cDone x0 x1 x2) [] [.NP_I2C_DATA, .NP_I2C_STAT, .xx_STATUS])) ∧
  ((∀ x0, Touches (.pathTimeout x0) (raising [.flows]) (raisingRegs [])) ∧
  (∀ x0 x1, TouchesParts (.sdiInLine x0 x1) (raising [.mem, .bad, .vids, .flows, .ads, .pls])) ∧
  (∀ x0 x1, TouchesParts (.sdiInLockLoss x0 x1) (raising [.flows])) ∧
  (∀ x0 x1, Touches (.txFrameEnqueue x0 x1) (raising [.queues, .hqs]) (raisingRegs [.HQ_DROP, .NP_TX_DOWN_DROP, .NP_TX_OVERSIZE, .NQ_OBS_DEPTH,
    .NQ_OVERSIZE, .NQ_STAT])) ∧
  (∀ x0, Touches (.txFrameStart x0) (raising [.eff, .waiting, .ports, .queues, .hqs]) (raisingRegs [.HQ_DROP, .NP_TX_DOWN_DROP, .NP_TX_OVERSIZE,
    .NQ_LATE_SENT, .NQ_OBS_DELAY, .NQ_OVERSIZE, .NQ_STAT])) ∧
  (∀ x0, Touches (.txFrameDone x0) [.free, .tb, .ports, .queues, .hqs] [.HQ_DROP, .NP_TX_FRAMES, .NQ_FRAMES, .NQ_STAT, .xx_STATUS]) ∧
  (∀ x0, Touches (.launchPresent x0) [.queues] []) ∧
  (∀ x0, Touches (.lateDrop x0) (raising [.queues, .hqs]) (raisingRegs [.HQ_DROP, .NP_TX_DOWN_DROP, .NP_TX_LATE_DROP, .NP_TX_OVERSIZE,
    .NQ_LATE_DROP, .NQ_OVERSIZE, .NQ_STAT])) ∧
  (∀ x0, Touches (.gclSwap x0) (raising [.ports, .queues, .hqs]) (raisingRegs [.HQ_DROP, .NG_GCL_OPER, .NG_GCL_OPER_BASE_NS, .NG_GCL_OPER_BASE_SH,
    .NG_GCL_OPER_BASE_SL, .NG_GCL_OPER_CYCLE, .NG_GCL_OPER_LEN, .NG_GCL_STAT, .NP_TX_DOWN_DROP, .NP_TX_OVERSIZE, .NQ_OVERSIZE, .NQ_STAT])) ∧
  (∀ x0, Touches (.gateEntry x0) [.queues] [.NG_GCL_STAT]) ∧
  (∀ x0, Touches (.obsPeriod x0) [] [.NP_TX_ACTIVE, .NQ_OBS_DELAY, .NQ_OBS_DEPTH, .xx_STATUS]) ∧
  (∀ x0 x1, Touches (.adBurstDone x0 x1) (raising [.mem, .bad, .queues, .ads, .hqs, .pls]) (raisingRegs [.AD_BURSTS, .AD_HW_IDX, .AD_LOST,
    .AD_ORPHAN, .AD_STAT, .CE_PL_S_STAT, .CE_PL_WR_DENY, .HQ_DROP, .NP_TX_DOWN_DROP, .NP_TX_OVERSIZE, .NQ_OBS_DEPTH, .NQ_OVERSIZE, .NQ_STAT])) ∧
  (∀ x0, Touches (.adBusError x0) (raising [.ads]) (raisingRegs [.AD_STAT])) ∧
  (∀ x0 x1, Touches (.hqNop x0 x1) (raising [.hqs]) (raisingRegs [.HQ_STAT])) ∧
  (∀ x0 x1 x2, Touches (.hqH2lCopy x0 x1 x2) (raising [.mem, .bad, .hqs, .pls]) (raisingRegs [.CE_PL_S_STAT, .CE_PL_WR_DENY, .HQ_STAT])) ∧
  (∀ x0 x1, Touches (.hqL2hCopy x0 x1) (raising [.hqs]) (raisingRegs [.HQ_STAT])) ∧
  (∀ x0 x1 x2, Touches (.hqTxFrame x0 x1 x2) (raising [.queues, .hqs]) (raisingRegs [.HQ_DROP, .HQ_STAT, .NP_TX_DOWN_DROP, .NP_TX_OVERSIZE,
    .NQ_OBS_DEPTH, .NQ_OVERSIZE, .NQ_STAT])) ∧
  (∀ x0 x1, Touches (.hqRxBuffer x0 x1) (raising [.hqs]) (raisingRegs [.HQ_STAT])) ∧
  (∀ x0, Touches (.hqDescComplete x0) (raising [.mem, .bad, .hqs, .pls]) (raisingRegs [.CE_PL_S_STAT, .CE_PL_WR_DENY, .HQ_CONS, .HQ_STAT])) ∧
  (∀ x0, Touches (.hqBusError x0) (raising [.hqs]) (raisingRegs [.HQ_STAT])) ∧
  (∀ x0 x1, Touches (.spMeasureDone x0 x1) (raising [.sps]) (raisingRegs [.DV_IFV_SP, .SPP_CAP, .SPP_POWER, .SPP_STAT, .SPP_TRIPS, .SP_LOOP])) ∧
  (∀ x0, Touches (.spEnergiseDone x0) [.sps] [.DV_IFV_SP, .SPP_POWER, .SPP_STAT, .SP_LOOP, .xx_STATUS]) ∧
  (∀ x0 x1, Touches (.spTripFast x0 x1) (raising [.sps]) (raisingRegs [.DV_IFV_SP, .SPP_MEAS, .SPP_POWER, .SPP_STAT, .SPP_TRIPS, .SP_LOOP])) ∧
  (∀ x0 x1 x2, Touches (.spI2tSample x0 x1 x2) (raising [.sps]) (raisingRegs [.DV_IFV_SP, .SPP_MEAS, .SPP_POWER, .SPP_STAT, .SPP_TRIPS, .SP_LOOP])) ∧
  (∀ x0, Touches (.spSecondCheck x0) (raising [.sps]) (raisingRegs [.DV_IFV_SP, .SPP_POWER, .SPP_STAT, .SPP_TRIPS, .SP_LOOP, .SP_VSUP])) ∧
  (∀ x0, Touches (.spSupplyLow x0) (raising [.sps]) (raisingRegs [.DV_IFV_SP, .SPP_POWER, .SPP_STAT, .SPP_TRIPS, .SP_LOOP, .SP_VSUP])) ∧
  (∀ x0, Touches (.spRetry x0) (raising [.sps]) (raisingRegs [.DV_IFV_SP, .SPP_POWER, .SPP_STAT, .SPP_TRIPS, .SP_LOOP])) ∧
  (∀ x0, Touches (.spTripsReset x0) [] [.SPP_STAT]) ∧
  (∀ x0 x1, Touches (.spGateFault x0 x1) (raising []) (raisingRegs [.SPP_STAT])) ∧
  (∀ x0, Touches (.spHello x0) [.sps] []) ∧
  (∀ x0 x1, Touches (.spCaps x0 x1) (raising [.sps]) (raisingRegs [.DV_IFV_SP, .SPP_HEAD_CAP, .SPP_HEAD_ID, .SPP_LINK_ERR, .SPP_STAT])) ∧
  (∀ x0 x1, Touches (.spStatus x0 x1) [.sps] [.SPP_LINK_ERR, .SPP_STAT, .xx_STATUS]) ∧
  (∀ x0, Touches (.spSync x0) (raising [.sps]) (raisingRegs [.DV_IFV_SP, .SPP_LINK_ERR, .SPP_STAT])) ∧
  (∀ x0, Touches (.spLatch x0) (raising [.eff, .waiting, .dts, .sps]) (raisingRegs [.SPP_STAT])) ∧
  (∀ x0, Touches (.spTime x0) [.sps] []) ∧
  (∀ x0, Touches (.spSeg x0) [.sps] []) ∧
  (∀ x0, Touches (.spBitmap x0) [.sps] []) ∧
  (∀ x0, Touches (.glRosterRx x0) (raising [.gl]) (raisingRegs [.GL_MEMBERS, .GL_RX_BAD, .GL_STATE])) ∧
  Touches .glRosterSend [.gl] [] ∧
  (∀ x0, Touches (.glJoin x0) [.gl] [.GL_MEMBERS, .GL_RX_BAD, .xx_STATUS]) ∧
  (∀ x0, Touches (.glAdmit x0) (raising [.gl]) (raisingRegs [.GL_RX_BAD, .GL_STATE])) ∧
  (∀ x0, Touches (.glHeartbeat x0) [.gl] [.GL_RX_BAD, .xx_STATUS]) ∧
  Touches .glHeartbeatSend [.gl] [] ∧
  (∀ x0, Touches (.glClaim x0) [.gl] [.GL_RX_BAD, .GL_STATE, .xx_STATUS]) ∧
  Touches .glClaimSend [.gl] [] ∧
  Touches .glClaimElection [.gl] [.GL_MEMBERS, .GL_STATE, .xx_STATUS] ∧
  Touches .glCommitResend [.gl] [] ∧
  (∀ x0, Touches (.glReport x0) [.gl] [.GL_RX_BAD, .xx_STATUS]) ∧
  (∀ x0, Touches (.glMemberTimeout x0) (raising [.gl]) (raisingRegs [.GL_MEMBERS])) ∧
  Touches .glRosterTimeout (raising [.gl]) (raisingRegs [.GL_STATE]) ∧
  Touches .glSeekTimeout [.gl] [.GL_STATE, .xx_STATUS] ∧
  (∀ x0 x1, Touches (.windowClose x0 x1) (raising []) (raisingRegs [])) ∧
  Touches .mirrorEntry (raising [.cl]) (raisingRegs [.CL_WEAR]) ∧
  (∀ x0, TouchesParts (.seqLatchRead x0) (raising [.free, .slowCopy, .tb, .cks, .ecc, .lts])) ∧
  (∀ x0, Touches (.cellarRecordDone x0) (raising [.mem, .bad, .dv, .pls, .cl]) (raisingRegs [.CE_PL_S_STAT, .CE_PL_WR_DENY, .CL_LG_STAT,
    .CL_LG_VINT, .CL_STAT, .CL_WEAR, .SL_LOST, .SL_STREAM_LOST, .SL_STREAM_WR])) ∧
  Touches .supplyLossWarning (raising [.free, .dv, .engines, .groups, .ads, .layers, .pls, .ps, .lts, .sps]) (raisingRegs [.CE_CDET, .CE_CSTAT,
    .CE_L_FENCE_STAT, .CE_L_SHOWN_HI, .CE_L_SHOWN_LO, .CE_PL_CSTAT, .CK_STAT, .DV_IFV_SP, .DV_MODE, .HD_STAT, .LT_BITS_HI, .LT_BITS_LO, .LT_ERRORS,
    .LT_STAT, .PS_RAIL_STAT, .SPP_POWER, .SPP_STAT, .SP_LOOP]) ∧
  Touches .holdupSeal (raising [.mem, .bad, .dv, .pls, .cl]) (raisingRegs [.CE_PL_S_STAT, .CE_PL_WR_DENY, .CL_STAT, .CL_WEAR, .SL_LOST,
    .SL_STREAM_LOST, .SL_STREAM_WR]) ∧
  (∀ x0 x1, Touches (.railPoll x0 x1) (raising [.ps]) (raisingRegs [.PS_RAIL_STAT, .PS_RAIL_VI])) ∧
  (∀ x0, Touches (.thermalSample x0) (raising []) (raisingRegs [.PS_TEMP])) ∧
  (∀ x0, Touches (.domainWake x0) [.ps] [.PS_DOMAINS]) ∧
  (∀ x0, Touches (.hbmFail x0) (raising []) (raisingRegs [])) ∧
  Touches .fabricUncorr (raising []) (raisingRegs []) ∧
  (∀ x0 x1, Touches (.ltDone x0 x1) [.free, .dv, .heads, .engines, .groups, .ads, .layers, .pls, .cues, .evt, .lts, .sps, .sl] [.CE_CDET, .CE_CSTAT,
    .CE_L_FENCE_STAT, .CE_L_SHOWN_HI, .CE_L_SHOWN_LO, .CE_PL_CSTAT, .CK_STAT, .CU_EVT_OVR, .DV_IFV_SP, .DV_MODE, .HD_STAT, .LT_BITS_HI, .LT_BITS_LO,
    .LT_ERRORS, .LT_STAT, .SPP_POWER, .SPP_STAT, .SP_LOOP, .xx_STATUS]) ∧
  (∀ x0 x1, Touches (.eyeScanDone x0 x1) [] [.LT_EYE_ERR, .LT_STAT, .xx_STATUS]) ∧
  (∀ x0 x1, TouchesParts (.bitsLatchRead x0 x1) (raising [.free, .slowCopy, .tb, .cks, .ecc, .lts])) ∧
  (∀ x0, Touches (.jtagUpdate x0) [.jtag] []) ∧
  Touches .supplyWarnRelease [.dv] [] ∧
  Touches .pcieLinkUp [.dv] [] ∧
  (∀ x0, Touches (.sdiInLockAcquired x0) [.flows] [.NG_SDI_STAT, .xx_STATUS]) ∧
  (∀ x0, Touches (.sdiGroupRelock x0) [.heads] []) ∧
  (∀ x0 x1, Touches (.moduleIntChange x0 x1) [] [.NP_STAT, .xx_STATUS]) ∧
  (∀ x0, Touches (.checkerSyncAcquired x0) [.lts] [.LT_STAT]) ∧
  (∀ x0, Touches (.checkerSyncLost x0) [.lts] [.LT_BITS_HI, .LT_BITS_LO, .LT_ERRORS, .LT_STAT, .LT_SYNC_LOSS, .xx_STATUS]) ∧
  (∀ x0 x1, Touches (.ltcWordsMissing x0 x1) (raising [.free, .dv, .tb, .engines, .groups, .ads, .layers, .pls, .rf, .lts, .sps]) (raisingRegs
    [.CE_CDET, .CE_CSTAT, .CE_L_FENCE_STAT, .CE_L_SHOWN_HI, .CE_L_SHOWN_LO, .CE_PL_CSTAT, .CK_STAT, .DV_IFV_SP, .DV_MODE, .HD_STAT, .LT_BITS_HI,
    .LT_BITS_LO, .LT_ERRORS, .LT_STAT, .SPP_POWER, .SPP_STAT, .SP_LOOP, .TB_CLAMP, .TB_INC_HI, .TB_INC_LO, .TB_STATE])) ∧
  Touches .ppsInputLoss (raising [.free, .dv, .tb, .engines, .groups, .ads, .layers, .pls, .rf, .lts, .sps]) (raisingRegs [.CE_CDET, .CE_CSTAT,
    .CE_L_FENCE_STAT, .CE_L_SHOWN_HI, .CE_L_SHOWN_LO, .CE_PL_CSTAT, .CK_STAT, .DV_IFV_SP, .DV_MODE, .HD_STAT, .LT_BITS_HI, .LT_BITS_LO, .LT_ERRORS,
    .LT_STAT, .SPP_POWER, .SPP_STAT, .SP_LOOP, .TB_CLAMP, .TB_INC_HI, .TB_INC_LO, .TB_STATE]) ∧
  (∀ x0, Touches (.tenMhzQualifyChange x0) (raising [.free, .dv, .tb, .engines, .groups, .ads, .layers, .pls, .rf, .lts, .sps]) (raisingRegs
    [.CE_CDET, .CE_CSTAT, .CE_L_FENCE_STAT, .CE_L_SHOWN_HI, .CE_L_SHOWN_LO, .CE_PL_CSTAT, .CK_STAT, .DV_IFV_SP, .DV_MODE, .HD_STAT, .LT_BITS_HI,
    .LT_BITS_LO, .LT_ERRORS, .LT_STAT, .SPP_POWER, .SPP_STAT, .SP_LOOP, .TB_CLAMP, .TB_INC_HI, .TB_INC_LO, .TB_STATE])) ∧
  (∀ x0, Touches (.outLoadEnd x0) [.rf] []))

/-! ### The machine as a whole -/

/-- With no command waiting the block idles (the model's choice, log 1).

After power-on every register holds its reset value (those that the spec leaves open, and local memory, are the model's choice, logs 6 and 9), DV_MODE is RESET, no head, cue
engine, flow, queue or link test runs, no command waits, nothing has left the device, and the fabric takes no write (R52, R67, R76).

Local memory and the register file are in their canonical forms after power-on. -/
def Obligations.RestAndReset : Prop :=
  (∀ s : State, s.pending = [] → step s = .next s) ∧
  ((∀ k, State.reset.rd k = resetVal k) ∧ State.reset.mode = 0 ∧ (∀ n, State.reset.hst n = 0 ∧ State.reset.cst n = 0) ∧
    State.reset.pending = [] ∧ State.reset.out = [] ∧ State.reset.served = false ∧ (∀ a, a < memSize → State.reset.byte a = 0) ∧
    (∀ id, State.reset.latched id = false) ∧ State.reset.faultPin = false) ∧
  (State.reset.MemOk ∧ State.reset.RegsOk)

/-- Every command completes in every state, and leaves the waiting commands, the clock, what has left the device, the numbers of commits and the
canonical forms of local memory and of the register file as a command may. -/
def Obligations.EveryCommandCompletes : Prop := ∀ (c : Instr) (s : State), Does c s fun t => Follows s t

/-- Every step keeps local memory and the register file in their canonical forms and takes exactly the front of the queue. -/
def Obligations.StepKeepsInvariants : Prop :=
  ∀ s t : State, step s = .next t → s.MemOk ∧ s.RegsOk → t.MemOk ∧ t.RegsOk ∧ t.pending = s.pending.tail ∧ s.tick ≤ t.tick ∧ s.out <+: t.out

/-- The scan port takes the pins only by EXTEST, EXTEST_PULSE, EXTEST_TRAIN, CLAMP and HIGHZ while RESET_N is held low, and gives them back when it
is released; at any other time these select BYPASS and the pins stay; the other instructions never take the pins (R475). -/
def Obligations.ScanPortTakesPinsInReset : Prop :=
  ∀ (ir : JtagInstr) (straps : BitVec 4) (board : Option (List RailEntry)) (s : State),
    let takes := ir = .extest ∨ ir = .extestPulse ∨ ir = .extestTrain ∨ ir = .clamp ∨ ir = .highz
    let update (j : JtagSt) := Does (.jtagUpdate ir) s fun t => t.jtag = j ∧ t.regs = s.regs ∧ t.dv = s.dv
    (takes → s.dv.resetLow = true → update ⟨ir, true⟩) ∧ (takes → s.dv.resetLow = false → update ⟨.bypass, false⟩) ∧ (¬ takes → update ⟨ir, false⟩) ∧
    (s.dv.step = 0 → s.dv.released = false → Does (.resetRelease straps board) s fun t => t.dv.resetLow = false ∧ t.jtag.pins = false)

/-- In COR mode a read of a status word returns the latched bits and then clears every bit that it returned, behind the copy too where the block lies
in the slow domain; a write has no effect and is no refusal (R54). -/
def Obligations.StatusClearsOnRead : Prop :=
  ∀ (o : Origin) (a : Nat) (v : Word) (b : List Nat) (s : State),
    let k : Key := (.xx_STATUS, b)
    let cor (s : State) := s.get ⟨(.xx_STATUS_MODE, b), 0, 0⟩ = 1
    let copy (t : State) := mget resetVal t.slowCopy k
    let returns (t : State) (w : Word) := ∃ d, s.out ++ [.readData (orgOf o) a d] <+: t.out ∧ bits d 23 0 = bits w 23 0
    let left (old w new : Word) := ∀ i, i < 24 → new.getLsbD i = (old.getLsbD i && !w.getLsbD i)
    decodeAddr a = .reg k →
    (Answers s o k → slowCode k = none → cor s → Does (.statusCorRead o a) s fun t =>
      returns t (s.rd k) ∧ left (s.rd k) (s.rd k) (t.rd k) ∧ ∀ j, j ≠ k → t.rd j = s.rd j) ∧
    (Answers s o k → (slowCode k).isSome = true → bits (mget resetVal s.slowCopy (.xx_STATUS_MODE, b)) 0 0 = 1 → Does (.statusCorRead o a) s fun t =>
      returns t (copy s) ∧ left (s.rd k) (copy s) (t.rd k) ∧ left (copy s) (copy s) (copy t) ∧ ∀ j, j ≠ k → t.rd j = s.rd j) ∧
    (Reaches s o k v → slowCode k = none → cor s → Does (.registerWrite o a v 15 []) s fun t => t.regs = s.regs ∧ t.fc = s.fc) ∧
    (∀ g rest (c : SlowBlk), mget slowD s.slowQ (slowBlkCode c) = (g, a, v.toNat) :: rest → s.dv.heldWrites = false → s.dv.railsOff = false →
      slowCode k = some (slowBlkCode c) → mget slowHoldD s.slowHold (slowBlkCode c) = [] → cor s → s.mode = s.modeNow → Does (.slowWriteArrive c) s fun t => t.regs = s.regs ∧ t.fc = s.fc)

/-- A write of RUN = 1 during STOPPING is refused with START_ERR = STOPPING (8), and the head finishes stopping (R153). -/
def Obligations.StoppingHeadRefusesRun : Prop :=
  ∀ (o : Origin) (n : Fin 16) (v : Word) (s : State), (∀ w, Reaches s o (.HD_CTRL, [n.val]) w) → s.hst n.val = 3 →
    Does (.headStart o n v) s fun t =>
      t.get (F.HD_STAT_START_ERR n.val) = 8 ∧ t.hst n.val = 3 ∧ t.heads = s.heads ∧ t.get (F.HD_CTRL_RUN n.val) = s.get (F.HD_CTRL_RUN n.val) ∧
      t.get ⟨(.xx_REFUSED, [13, n.val]), 15, 0⟩ = min (s.get ⟨(.xx_REFUSED, [13, n.val]), 15, 0⟩ + 1) 65535 ∧
      (t.lineStart n.val ((t.head n.val).stopFrame + 1) 1 ≤ t.now → Does (.headStopped n) t fun u => u.hst n.val = 0)
end

