-- ==== Sys2Proof/Laws/Base.lean ====
section
/-! SUPPORT. Laws of the sparse maps, of memory, and of what an operation touches (Only): how it is put together. -/

namespace Sys2Proof.Machine

/-! ### Sparse maps -/

section Maps
variable {κ α : Type} [DecidableEq κ]

theorem mget_merase_ne (d : κ → α) (m : Map κ α) {k j : κ} (h : j ≠ k) : mget d (merase m k) j = mget d m j := by
  induction m with
  | nil => rfl
  | cons e m ih =>
    obtain ⟨a, v⟩ := e
    by_cases ha : a = k
    · subst ha; simp [merase, mget, ih, Ne.symm h]
    · simp [merase, ha, mget, ih]

theorem mget_merase_self (d : κ → α) (m : Map κ α) (k : κ) : mget d (merase m k) k = d k := by
  induction m with
  | nil => rfl
  | cons e m ih =>
    obtain ⟨a, v⟩ := e
    by_cases ha : a = k
    · subst ha; simp [merase, ih]
    · simp [merase, ha, mget, ih]

theorem mget_minsert_ne (rank : κ → Nat) (d : κ → α) (m : Map κ α) {k j : κ} (v : α) (h : j ≠ k) :
    mget d (minsert rank k v m) j = mget d m j := by
  induction m with
  | nil => simp [minsert, mget, Ne.symm h]
  | cons e m ih =>
    obtain ⟨a, w⟩ := e
    by_cases hr : rank k < rank a
    · simp [minsert, hr, mget, Ne.symm h]
    · simp [minsert, hr, mget, ih]

/-- A key that is not listed reads as the value with which it is entered. -/
theorem mget_minsert_self (rank : κ → Nat) (d : κ → α) (m : Map κ α) (k : κ) (v : α) (h : ∀ e ∈ m, e.1 ≠ k) :
    mget d (minsert rank k v m) k = v := by
  induction m with
  | nil => simp [minsert, mget]
  | cons e m ih =>
    obtain ⟨a, w⟩ := e
    have ha : a ≠ k := h (a, w) (by simp)
    by_cases hr : rank k < rank a
    · simp [minsert, hr, mget]
    · simp [minsert, hr, mget, ha, ih fun e he => h e (by simp [he])]

theorem merase_notin (m : Map κ α) (k : κ) : ∀ e ∈ merase m k, e.1 ≠ k := by
  induction m with
  | nil => simp [merase]
  | cons e m ih =>
    obtain ⟨a, w⟩ := e
    by_cases ha : a = k
    · simpa [merase, ha] using ih
    · simp only [merase, ha, if_false, List.mem_cons]
      rintro e (rfl | he)
      · exact ha
      · exact ih e he

/-- What is written is read. -/
@[simp] theorem mget_mput_self [DecidableEq α] (rank : κ → Nat) (d : κ → α) (m : Map κ α) (k : κ) (v : α) : mget d (mput rank d m k v) k = v := by
  unfold mput
  split
  · rename_i h; rw [mget_merase_self, h]
  · exact mget_minsert_self rank d _ k v (merase_notin m k)

/-- A write leaves every other place alone. -/
theorem mget_mput_ne [DecidableEq α] (rank : κ → Nat) (d : κ → α) (m : Map κ α) {k j : κ} (v : α) (h : j ≠ k) :
    mget d (mput rank d m k v) j = mget d m j := by
  unfold mput
  split
  · exact mget_merase_ne d m h
  · rw [mget_minsert_ne rank d _ v h, mget_merase_ne d m h]

end Maps

section NatMaps
variable {α : Type}

@[simp] theorem mget_nput_self [DecidableEq α] (d : Nat → α) (m : Map Nat α) (k : Nat) (v : α) : mget d (nput d m k v) k = v := mget_mput_self ..

theorem mget_nput_ne [DecidableEq α] (d : Nat → α) (m : Map Nat α) {k j : Nat} (v : α) (h : j ≠ k) : mget d (nput d m k v) j = mget d m j :=
  mget_mput_ne _ d m v h

theorem mget_nput [DecidableEq α] (d : Nat → α) (m : Map Nat α) (k j : Nat) (v : α) :
    mget d (nput d m k v) j = if j = k then v else mget d m j := by
  split
  · subst_vars; exact mget_nput_self ..
  · exact mget_nput_ne d m v ‹_›

theorem nwf_tail [DecidableEq α] {d : Nat → α} {k : Nat} {v : α} {m : Map Nat α} (h : nwf d ((k, v) :: m) = true) :
    v ≠ d k ∧ (∀ e ∈ m, k < e.1) ∧ nwf d m = true := by
  simpa [nwf, and_assoc] using h

theorem nwf_cons [DecidableEq α] {d : Nat → α} {k : Nat} {v : α} {m : Map Nat α} (hv : v ≠ d k) (hk : ∀ e ∈ m, k < e.1) (hm : nwf d m = true) :
    nwf d ((k, v) :: m) = true := by
  simpa [nwf, and_assoc] using ⟨hv, fun a b h => hk (a, b) h, hm⟩

theorem mem_merase {m : Map Nat α} {k : Nat} {e : Nat × α} (h : e ∈ merase m k) : e ∈ m := by
  induction m with
  | nil => simp [merase] at h
  | cons a m ih =>
    obtain ⟨a, w⟩ := a
    by_cases ha : a = k
    · exact List.mem_cons_of_mem _ (ih (by simpa [merase, ha] using h))
    · simp only [merase, ha, if_false, List.mem_cons] at h
      rcases h with h | h
      · simp [h]
      · exact List.mem_cons_of_mem _ (ih h)

theorem mem_minsert {m : Map Nat α} {k : Nat} {v : α} {e : Nat × α} (h : e ∈ minsert id k v m) : e = (k, v) ∨ e ∈ m := by
  induction m with
  | nil => simpa [minsert] using h
  | cons a m ih =>
    obtain ⟨a, w⟩ := a
    by_cases ha : k < a
    · simpa [minsert, ha] using h
    · simp only [minsert, id, ha, if_false, List.mem_cons] at h
      rcases h with h | h
      · simp [h]
      · rcases ih h with h | h <;> simp [h]

theorem nwf_merase [DecidableEq α] {d : Nat → α} {m : Map Nat α} (k : Nat) (h : nwf d m = true) : nwf d (merase m k) = true := by
  induction m with
  | nil => rfl
  | cons a m ih =>
    obtain ⟨a, w⟩ := a
    obtain ⟨h1, h2, h3⟩ := nwf_tail h
    by_cases ha : a = k
    · simpa [merase, ha] using ih h3
    · simp only [merase, ha, if_false]
      exact nwf_cons h1 (fun e he => h2 e (mem_merase he)) (ih h3)

theorem nwf_minsert [DecidableEq α] {d : Nat → α} {m : Map Nat α} {k : Nat} {v : α} (hv : v ≠ d k) (hk : ∀ e ∈ m, e.1 ≠ k) (h : nwf d m = true) :
    nwf d (minsert id k v m) = true := by
  induction m with
  | nil => exact nwf_cons hv (by simp) rfl
  | cons a m ih =>
    obtain ⟨a, w⟩ := a
    obtain ⟨h1, h2, h3⟩ := nwf_tail h
    have ha : a ≠ k := hk (a, w) (by simp)
    by_cases hr : k < a
    · simp only [minsert, id, hr, if_true]
      refine nwf_cons hv (fun e he => ?_) h
      rcases List.mem_cons.mp he with rfl | he
      · exact hr
      · exact hr.trans (h2 e he)
    · simp only [minsert, id, hr, if_false]
      refine nwf_cons h1 (fun e he => ?_) (ih (fun e he => hk e (by simp [he])) h3)
      rcases mem_minsert he with rfl | he
      · exact lt_of_le_of_ne (not_lt.mp hr) ha
      · exact h2 e he

/-- A write keeps the canonical form. -/
theorem nwf_nput [DecidableEq α] {d : Nat → α} {m : Map Nat α} (k : Nat) (v : α) (h : nwf d m = true) : nwf d (nput d m k v) = true := by
  unfold nput mput
  split
  · exact nwf_merase k h
  · exact nwf_minsert ‹_› (merase_notin m k) (nwf_merase k h)

/-- Two maps in canonical form that read alike are the same map. -/
theorem nwf_ext [DecidableEq α] {d : Nat → α} {m n : Map Nat α} (hm : nwf d m = true) (hn : nwf d n = true) (h : ∀ k, mget d m k = mget d n k) :
    m = n := by
  have low : ∀ {m : Map Nat α} {k : Nat}, (∀ e ∈ m, k < e.1) → mget d m k = d k := by
    intro m
    induction m with
    | nil => intros; rfl
    | cons a m ih =>
      intro k hk
      obtain ⟨a, w⟩ := a
      have : a ≠ k := (hk (a, w) (by simp)).ne'
      simpa [mget, this] using ih fun e he => hk e (by simp [he])
  induction m generalizing n with
  | nil =>
    cases n with
    | nil => rfl
    | cons b n =>
      obtain ⟨b, w⟩ := b
      exact absurd (by simpa [mget] using (h b).symm) (nwf_tail hn).1
  | cons a m ih =>
    obtain ⟨a, v⟩ := a
    obtain ⟨h1, h2, h3⟩ := nwf_tail hm
    cases n with
    | nil => exact absurd (by simpa [mget] using h a) h1
    | cons b n =>
      obtain ⟨b, w⟩ := b
      obtain ⟨k1, k2, k3⟩ := nwf_tail hn
      have hab : a = b := by
        rcases lt_trichotomy a b with hlt | he | hlt
        · have := h a
          rw [low (m := (b, w) :: n)] at this
          · exact absurd (by simpa [mget] using this) h1
          · intro e he
            rcases List.mem_cons.mp he with rfl | he
            · exact hlt
            · exact hlt.trans (k2 e he)
        · exact he
        · have := h b
          rw [low (m := (a, v) :: m)] at this
          · exact absurd (by simpa [mget] using this.symm) k1
          · intro e he
            rcases List.mem_cons.mp he with rfl | he
            · exact hlt
            · exact hlt.trans (h2 e he)
      subst hab
      have hvw : v = w := by simpa [mget] using h a
      subst hvw
      congr 1
      refine ih h3 k3 fun k => ?_
      by_cases hk : k = a
      · subst hk; rw [low h2, low k2]
      · simpa [mget, Ne.symm hk] using h k

end NatMaps

/-! ### Memory -/

theorem wf_putByte {m : List Host.Cell} (a : Nat) (b : Byte) (h : Memory.wf m = true) : Memory.wf (putByte m a b) = true := by
  unfold putByte
  split
  · exact nwf_nput a b h
  · exact h

theorem wf_putBytes {m : List Host.Cell} (a : Nat) (bs : List Byte) (h : Memory.wf m = true) : Memory.wf (putBytes m a bs) = true := by
  induction bs generalizing m a with
  | nil => exact h
  | cons b bs ih => exact ih (a + 1) (wf_putByte a b h)

theorem wf_putKept (s : State) (host : Bool) (o : Org) {m : List Host.Cell} (a : Nat) (bs : List Byte) (h : Memory.wf m = true) :
    Memory.wf (putKept s host o m a bs) = true := by
  induction bs generalizing m a with
  | nil => exact h
  | cons b bs ih =>
    refine ih (a + 1) ?_
    split
    · exact h
    · exact wf_putByte a b h

/-- A byte after a write of bytes: the one written, or the one before. -/
theorem mget_putBytes (m : List Host.Cell) (a : Nat) (bs : List Byte) (hb : a + bs.length ≤ memSize) (x : Nat) :
    mget memDefault (putBytes m a bs) x = if a ≤ x ∧ x < a + bs.length then bs.getD (x - a) 0 else mget memDefault m x := by
  induction bs generalizing m a with
  | nil => rw [putBytes, if_neg (by simp only [List.length_nil]; omega)]
  | cons b bs ih =>
    simp only [List.length_cons] at hb ⊢
    rw [putBytes, ih _ _ (by omega)]
    have hp : putByte m a b = nput memDefault m a b := by simp [putByte]; intro h; omega
    by_cases h1 : a + 1 ≤ x ∧ x < a + 1 + bs.length
    · have h2 : a ≤ x ∧ x < a + (bs.length + 1) := by omega
      have h3 : x - a = (x - (a + 1)) + 1 := by omega
      simp [h1, h2, h3]
    · rw [if_neg h1, hp, mget_nput]
      by_cases h2 : x = a
      · subst h2; simp
      · have h3 : ¬ (a ≤ x ∧ x < a + (bs.length + 1)) := by omega
        simp [h2, h3]

/-! ### Follows and Only -/

theorem out_merase {κ α : Type} [DecidableEq κ] {m : Map κ α} {k : κ} {e : κ × α} (h : e ∈ merase m k) : e ∈ m ∧ e.1 ≠ k := by
  induction m with
  | nil => simp [merase] at h
  | cons a m ih =>
    unfold merase at h
    split at h
    · exact ⟨List.mem_cons_of_mem _ (ih h).1, (ih h).2⟩
    · rcases List.mem_cons.mp h with rfl | h
      · exact ⟨List.mem_cons_self, ‹_›⟩
      · exact ⟨List.mem_cons_of_mem _ (ih h).1, (ih h).2⟩

theorem of_minsert {κ α : Type} (rank : κ → Nat) {m : Map κ α} {k : κ} {v : α} {e : κ × α} (h : e ∈ minsert rank k v m) :
    e = (k, v) ∨ e ∈ m := by
  induction m with
  | nil => simpa [minsert] using h
  | cons a m ih =>
    unfold minsert at h
    split at h
    · simpa using h
    · rcases List.mem_cons.mp h with rfl | h
      · exact .inr List.mem_cons_self
      · exact (ih h).imp_right (List.mem_cons_of_mem _)

/-- A map in which every key stands once, without a key. -/
theorem nodup_merase {κ α : Type} [DecidableEq κ] {m : Map κ α} (k : κ) (h : (m.map (·.1)).Nodup) : ((merase m k).map (·.1)).Nodup := by
  induction m with
  | nil => exact h
  | cons a m ih =>
    rw [List.map_cons, List.nodup_cons] at h
    unfold merase
    split
    · exact ih h.2
    · refine List.nodup_cons.mpr ⟨fun hm => ?_, ih h.2⟩
      obtain ⟨e, he, hk⟩ := List.mem_map.mp hm
      exact h.1 (List.mem_map.mpr ⟨e, (out_merase he).1, hk⟩)

theorem nodup_minsert {κ α : Type} (rank : κ → Nat) {m : Map κ α} {k : κ} (v : α) (h : (m.map (·.1)).Nodup) (hk : ∀ e ∈ m, e.1 ≠ k) :
    ((minsert rank k v m).map (·.1)).Nodup := by
  have hout : k ∉ m.map (·.1) := fun hm => by
    obtain ⟨e, he, hek⟩ := List.mem_map.mp hm
    exact hk e he hek
  induction m with
  | nil => exact List.nodup_singleton _
  | cons a m ih =>
    unfold minsert
    split
    · exact List.nodup_cons.mpr ⟨hout, h⟩
    · rw [List.map_cons, List.nodup_cons] at h
      refine List.nodup_cons.mpr ⟨fun hm => ?_, ih h.2 (fun e he => hk e (List.mem_cons_of_mem _ he)) fun hm => hout (List.mem_cons_of_mem _ hm)⟩
      obtain ⟨e, he, hek⟩ := List.mem_map.mp hm
      rcases of_minsert rank he with rfl | he
      · exact hk a List.mem_cons_self hek.symm
      · exact h.1 (List.mem_map.mpr ⟨e, he, hek⟩)

/-- A write keeps every key standing once. -/
theorem nodup_mput {κ α : Type} [DecidableEq κ] [DecidableEq α] (rank : κ → Nat) (d : κ → α) {m : Map κ α} (k : κ) (v : α)
    (h : (m.map (·.1)).Nodup) : ((mput rank d m k v).map (·.1)).Nodup := by
  unfold mput
  split
  · exact nodup_merase k h
  · exact nodup_minsert rank v (nodup_merase k h) fun _ he => (out_merase he).2

/-- A part of a map in which every key stands once. -/
theorem nodup_filter {κ α : Type} {m : Map κ α} (p : κ × α → Bool) (h : (m.map (·.1)).Nodup) : ((m.filter p).map (·.1)).Nodup :=
  h.sublist (List.Sublist.map _ List.filter_sublist)

theorem State.RegsOk.wr {s : State} (k : Key) (w : Word) (h : s.RegsOk) : (s.wr k w).RegsOk := nodup_mput _ _ _ _ h

theorem Follows.refl (s : State) : Follows s s := ⟨rfl, Nat.le_refl _, List.prefix_refl _, Nat.le_refl _, Nat.le_refl _, id, id⟩

theorem Follows.trans {s t u : State} (h : Follows s t) (k : Follows t u) : Follows s u :=
  ⟨k.pending.trans h.pending, h.tick.trans k.tick, h.out.trans k.out, h.serial.trans k.serial, h.free.trans k.free,
    fun x => k.mem (h.mem x), fun x => k.regs (h.regs x)⟩

theorem Area.same_refl (s : State) (a : Area) : a.same s s := by
  cases a <;> rfl

theorem Area.same_trans {s t u : State} {a : Area} (h : a.same s t) (k : a.same t u) : a.same s u := by
  cases a <;> exact Eq.trans k h

theorem Only.refl {A : List Area} {R : Option (List Reg)} (s : State) : Only A R s s :=
  ⟨.refl s, fun a _ => a.same_refl s, fun _ _ _ _ _ => rfl⟩

/-- The elements of a list whose places are the set bits of a number, in order. -/
def keep {α : Type} : List α → Nat → List α
  | [], _ => []
  | a :: l, n => bif n % 2 == 1 then a :: keep l (n / 2) else keep l (n / 2)

theorem mem_keep {α : Type} {l : List α} {n : Nat} {a : α} (h : a ∈ keep l n) : a ∈ l := by
  induction l generalizing n with
  | nil => simp [keep] at h
  | cons b l ih =>
    unfold keep at h
    cases hb : (n % 2 == 1) <;> rw [hb] at h
    · exact List.mem_cons_of_mem _ (ih h)
    · rcases List.mem_cons.mp h with rfl | h
      · exact List.mem_cons_self
      · exact List.mem_cons_of_mem _ (ih h)

/-- Every part of the state but the queue. -/
def allAreas : List Area :=
  [.tick, .free, .out, .irqOwed, .eff, .waiting, .w1, .slowQ, .slowHold, .slowCopy, .msix, .mem, .bad, .holding, .dv, .mbx, .tb, .heads, .engines, .groups, .serial, .vids, .dts, .ports, .queues, .flows, .ads, .hqs, .glyphs, .gpi, .gpo, .layers, .pls, .cks, .cues, .cregs, .imem, .dmem, .scratch, .ecc, .evt, .ps, .rf, .jtag, .lts, .sps, .gl, .fc, .sl, .cl]

/-- The element at a place. -/
def nth {α : Type} : List α → Nat → Option α
  | [], _ => none
  | a :: _, 0 => some a
  | _ :: l, n + 1 => nth l n

theorem mem_nth {α : Type} {l : List α} {n : Nat} {a : α} (h : nth l n = some a) : a ∈ l := by
  induction l generalizing n with
  | nil => simp [nth] at h
  | cons b l ih =>
    cases n with
    | zero => simp [nth] at h; simp [h]
    | succ n => exact List.mem_cons_of_mem _ (ih h)

/-- Every part of B and Q is in A and R. -/
structure Covers (A : List Area) (R : Option (List Reg)) (B : List Area) (Q : Option (List Reg)) : Prop where
  parts : ∀ b ∈ B, b ∈ A
  regs : ∀ l, R = some l → ∃ q, Q = some q ∧ ∀ r ∈ q, r ∈ l

theorem Covers.some {A B : List Area} {R Q : List Reg} (n m : Nat) (hA : B = keep A n) (hR : Q = keep R m) :
    Covers A (some R) B (some Q) :=
  ⟨fun _ hb => mem_keep (hA ▸ hb), fun l hl => ⟨Q, rfl, fun _ hr => by cases hl; exact mem_keep (hR ▸ hr)⟩⟩

theorem Covers.any {A B : List Area} {Q : Option (List Reg)} (n : Nat) (hA : B = keep A n) : Covers A none B Q :=
  ⟨fun _ hb => mem_keep (hA ▸ hb), nofun⟩

theorem Covers.trans {A B C : List Area} {R Q P : Option (List Reg)} (h : Covers A R B Q) (k : Covers B Q C P) : Covers A R C P :=
  ⟨fun c hc => h.parts c (k.parts c hc), fun l hl => by
    obtain ⟨q, hq, hs⟩ := h.regs l hl
    obtain ⟨p, hp, ht⟩ := k.regs q hq
    exact ⟨p, hp, fun r hr => hs r (ht r hr)⟩⟩

/-- A following operation that touches no more. -/
theorem Only.over {A B : List Area} {R Q : Option (List Reg)} {s x y : State} (k : Only B Q x y) (hc : Covers A R B Q)
    (h : Only A R s x) : Only A R s y :=
  ⟨h.follows.trans k.follows, fun a ha => Area.same_trans (h.same a ha) (k.same a fun hb => ha (hc.parts a hb)),
    fun l hl r hr is => by
      obtain ⟨q, hq, hs⟩ := hc.regs l hl
      exact (k.regs q hq r (fun hb => hr (hs r hb)) is).trans (h.regs l hl r hr is)⟩

section
variable {A : List Area} {R : Option (List Reg)}

theorem Only.ite {s a b : State} {c : Prop} [Decidable c] (h : Only A R s a) (k : Only A R s b) :
    Only A R s (if c then a else b) := by split <;> assumption

theorem Only.foldl {s x : State} {α : Type} {f : State → α → State} {l : List α} (h : Only A R s x)
    (hf : ∀ y e, Only A R s y → Only A R s (f y e)) : Only A R s (l.foldl f x) := by
  induction l generalizing x with
  | nil => exact h
  | cons e l ih => exact ih (hf x e h)

theorem Only.foldlFst {s : State} {α β : Type} {f : State × β → α → State × β} {l : List α} {x : State × β}
    (h : Only A R s x.1) (hf : ∀ (y : State × β) e, Only A R s y.1 → Only A R s (f y e).1) : Only A R s (l.foldl f x).1 := by
  induction l generalizing x with
  | nil => exact h
  | cons e l ih => exact ih (hf x e h)

theorem Only.foldlSnd {s : State} {α β : Type} {f : β × State → α → β × State} {l : List α} {x : β × State}
    (h : Only A R s x.2) (hf : ∀ (y : β × State) e, Only A R s y.2 → Only A R s (f y e).2) : Only A R s (l.foldl f x).2 := by
  induction l generalizing x with
  | nil => exact h
  | cons e l ih => exact ih (hf x e h)

theorem Only.ofId {s a : State} (h : Only A R s a) : Only A R s (id a) := h

/-- A change of the parts of A whose places are the set bits of n. -/
theorem Only.upd {s x y : State} (n : Nat) (hf : Follows x y) (hr : R = none ∨ y.regs = x.regs)
    (hs : ∀ a, a ∉ keep A n → a.same x y) (h : Only A R s x) : Only A R s y :=
  ⟨h.follows.trans hf, fun a ha => Area.same_trans (h.same a ha) (hs a fun hc => ha (mem_keep hc)), fun l hl r hl' is => by
    rcases hr with hr | hr
    · rw [hr] at hl; cases hl
    · refine Eq.trans ?_ (h.regs l hl r hl' is)
      unfold State.rd
      rw [hr]⟩

theorem Only.have (y : State) {s e : State} (h : Only A R s y) (k : Only A R s y → Only A R s e) : Only A R s e := k h

section Pairs
variable {s a z : State} {α : Type}

theorem Only.fst {v : α} (h : Only A R s a) : Only A R s (a, v).1 := h

theorem Only.snd {v : α} (h : Only A R s a) : Only A R s (v, a).2 := h

theorem Only.eq1 {l : State × α} {v : α} (e : l = (a, v)) (h : Only A R s l.1) (k : Only A R s a → Only A R s z) : Only A R s z :=
  k (by rw [e] at h; exact h)

theorem Only.eq2 {l : α × State} {v : α} (e : l = (v, a)) (h : Only A R s l.2) (k : Only A R s a → Only A R s z) : Only A R s z :=
  k (by rw [e] at h; exact h)

theorem Only.ite1 {c : Prop} [Decidable c] {p q : State × α} (h : Only A R s p.1) (k : Only A R s q.1) :
    Only A R s (if c then p else q).1 := by split <;> assumption

theorem Only.ite2 {c : Prop} [Decidable c] {p q : α × State} (h : Only A R s p.2) (k : Only A R s q.2) :
    Only A R s (if c then p else q).2 := by split <;> assumption

theorem Only.st {n : Nat} {w : List Word} {v : Bool} (h : Only A R s a) : Only A R s (Reply.mk a n w v).st := h

theorem Only.itest {c : Prop} [Decidable c] {p q : Reply} (h : Only A R s p.st) (k : Only A R s q.st) :
    Only A R s (if c then p else q).st := by split <;> assumption

end Pairs

/-! ### Updates of one field -/

theorem out_of {a : Area} {i : Nat} {P : Prop} (h : a ∉ A) (hA : nth A i = some a) : P := absurd (mem_nth hA) h

theorem Only.irqOwed {s x : State} {v} (i : Nat) (hA : nth A i = some .irqOwed) (h : Only A R s x) : Only A R s { x with irqOwed := v } :=
  ⟨h.follows.trans ⟨rfl, Nat.le_refl _, List.prefix_refl _, Nat.le_refl _, Nat.le_refl _, id, id⟩, fun a ha => by
    cases a <;> first | exact h.same _ ha | exact out_of ha hA, h.regs⟩

theorem Only.eff {s x : State} {v} (i : Nat) (hA : nth A i = some .eff) (h : Only A R s x) : Only A R s { x with eff := v } :=
  ⟨h.follows.trans ⟨rfl, Nat.le_refl _, List.prefix_refl _, Nat.le_refl _, Nat.le_refl _, id, id⟩, fun a ha => by
    cases a <;> first | exact h.same _ ha | exact out_of ha hA, h.regs⟩

theorem Only.waiting {s x : State} {v} (i : Nat) (hA : nth A i = some .waiting) (h : Only A R s x) : Only A R s { x with waiting := v } :=
  ⟨h.follows.trans ⟨rfl, Nat.le_refl _, List.prefix_refl _, Nat.le_refl _, Nat.le_refl _, id, id⟩, fun a ha => by
    cases a <;> first | exact h.same _ ha | exact out_of ha hA, h.regs⟩

theorem Only.w1 {s x : State} {v} (i : Nat) (hA : nth A i = some .w1) (h : Only A R s x) : Only A R s { x with w1 := v } :=
  ⟨h.follows.trans ⟨rfl, Nat.le_refl _, List.prefix_refl _, Nat.le_refl _, Nat.le_refl _, id, id⟩, fun a ha => by
    cases a <;> first | exact h.same _ ha | exact out_of ha hA, h.regs⟩

theorem Only.slowQ {s x : State} {v} (i : Nat) (hA : nth A i = some .slowQ) (h : Only A R s x) : Only A R s { x with slowQ := v } :=
  ⟨h.follows.trans ⟨rfl, Nat.le_refl _, List.prefix_refl _, Nat.le_refl _, Nat.le_refl _, id, id⟩, fun a ha => by
    cases a <;> first | exact h.same _ ha | exact out_of ha hA, h.regs⟩

theorem Only.slowHold {s x : State} {v} (i : Nat) (hA : nth A i = some .slowHold) (h : Only A R s x) : Only A R s { x with slowHold := v } :=
  ⟨h.follows.trans ⟨rfl, Nat.le_refl _, List.prefix_refl _, Nat.le_refl _, Nat.le_refl _, id, id⟩, fun a ha => by
    cases a <;> first | exact h.same _ ha | exact out_of ha hA, h.regs⟩

theorem Only.slowCopy {s x : State} {v} (i : Nat) (hA : nth A i = some .slowCopy) (h : Only A R s x) : Only A R s { x with slowCopy := v } :=
  ⟨h.follows.trans ⟨rfl, Nat.le_refl _, List.prefix_refl _, Nat.le_refl _, Nat.le_refl _, id, id⟩, fun a ha => by
    cases a <;> first | exact h.same _ ha | exact out_of ha hA, h.regs⟩

theorem Only.msix {s x : State} {v} (i : Nat) (hA : nth A i = some .msix) (h : Only A R s x) : Only A R s { x with msix := v } :=
  ⟨h.follows.trans ⟨rfl, Nat.le_refl _, List.prefix_refl _, Nat.le_refl _, Nat.le_refl _, id, id⟩, fun a ha => by
    cases a <;> first | exact h.same _ ha | exact out_of ha hA, h.regs⟩

theorem Only.bad {s x : State} {v} (i : Nat) (hA : nth A i = some .bad) (h : Only A R s x) : Only A R s { x with bad := v } :=
  ⟨h.follows.trans ⟨rfl, Nat.le_refl _, List.prefix_refl _, Nat.le_refl _, Nat.le_refl _, id, id⟩, fun a ha => by
    cases a <;> first | exact h.same _ ha | exact out_of ha hA, h.regs⟩

theorem Only.holding {s x : State} {v} (i : Nat) (hA : nth A i = some .holding) (h : Only A R s x) : Only A R s { x with holding := v } :=
  ⟨h.follows.trans ⟨rfl, Nat.le_refl _, List.prefix_refl _, Nat.le_refl _, Nat.le_refl _, id, id⟩, fun a ha => by
    cases a <;> first | exact h.same _ ha | exact out_of ha hA, h.regs⟩

theorem Only.dv {s x : State} {v} (i : Nat) (hA : nth A i = some .dv) (h : Only A R s x) : Only A R s { x with dv := v } :=
  ⟨h.follows.trans ⟨rfl, Nat.le_refl _, List.prefix_refl _, Nat.le_refl _, Nat.le_refl _, id, id⟩, fun a ha => by
    cases a <;> first | exact h.same _ ha | exact out_of ha hA, h.regs⟩

theorem Only.mbx {s x : State} {v} (i : Nat) (hA : nth A i = some .mbx) (h : Only A R s x) : Only A R s { x with mbx := v } :=
  ⟨h.follows.trans ⟨rfl, Nat.le_refl _, List.prefix_refl _, Nat.le_refl _, Nat.le_refl _, id, id⟩, fun a ha => by
    cases a <;> first | exact h.same _ ha | exact out_of ha hA, h.regs⟩

theorem Only.tb {s x : State} {v} (i : Nat) (hA : nth A i = some .tb) (h : Only A R s x) : Only A R s { x with tb := v } :=
  ⟨h.follows.trans ⟨rfl, Nat.le_refl _, List.prefix_refl _, Nat.le_refl _, Nat.le_refl _, id, id⟩, fun a ha => by
    cases a <;> first | exact h.same _ ha | exact out_of ha hA, h.regs⟩

theorem Only.heads {s x : State} {v} (i : Nat) (hA : nth A i = some .heads) (h : Only A R s x) : Only A R s { x with heads := v } :=
  ⟨h.follows.trans ⟨rfl, Nat.le_refl _, List.prefix_refl _, Nat.le_refl _, Nat.le_refl _, id, id⟩, fun a ha => by
    cases a <;> first | exact h.same _ ha | exact out_of ha hA, h.regs⟩

theorem Only.engines {s x : State} {v} (i : Nat) (hA : nth A i = some .engines) (h : Only A R s x) : Only A R s { x with engines := v } :=
  ⟨h.follows.trans ⟨rfl, Nat.le_refl _, List.prefix_refl _, Nat.le_refl _, Nat.le_refl _, id, id⟩, fun a ha => by
    cases a <;> first | exact h.same _ ha | exact out_of ha hA, h.regs⟩

theorem Only.groups {s x : State} {v} (i : Nat) (hA : nth A i = some .groups) (h : Only A R s x) : Only A R s { x with groups := v } :=
  ⟨h.follows.trans ⟨rfl, Nat.le_refl _, List.prefix_refl _, Nat.le_refl _, Nat.le_refl _, id, id⟩, fun a ha => by
    cases a <;> first | exact h.same _ ha | exact out_of ha hA, h.regs⟩

theorem Only.vids {s x : State} {v} (i : Nat) (hA : nth A i = some .vids) (h : Only A R s x) : Only A R s { x with vids := v } :=
  ⟨h.follows.trans ⟨rfl, Nat.le_refl _, List.prefix_refl _, Nat.le_refl _, Nat.le_refl _, id, id⟩, fun a ha => by
    cases a <;> first | exact h.same _ ha | exact out_of ha hA, h.regs⟩

theorem Only.dts {s x : State} {v} (i : Nat) (hA : nth A i = some .dts) (h : Only A R s x) : Only A R s { x with dts := v } :=
  ⟨h.follows.trans ⟨rfl, Nat.le_refl _, List.prefix_refl _, Nat.le_refl _, Nat.le_refl _, id, id⟩, fun a ha => by
    cases a <;> first | exact h.same _ ha | exact out_of ha hA, h.regs⟩

theorem Only.ports {s x : State} {v} (i : Nat) (hA : nth A i = some .ports) (h : Only A R s x) : Only A R s { x with ports := v } :=
  ⟨h.follows.trans ⟨rfl, Nat.le_refl _, List.prefix_refl _, Nat.le_refl _, Nat.le_refl _, id, id⟩, fun a ha => by
    cases a <;> first | exact h.same _ ha | exact out_of ha hA, h.regs⟩

theorem Only.queues {s x : State} {v} (i : Nat) (hA : nth A i = some .queues) (h : Only A R s x) : Only A R s { x with queues := v } :=
  ⟨h.follows.trans ⟨rfl, Nat.le_refl _, List.prefix_refl _, Nat.le_refl _, Nat.le_refl _, id, id⟩, fun a ha => by
    cases a <;> first | exact h.same _ ha | exact out_of ha hA, h.regs⟩

theorem Only.flows {s x : State} {v} (i : Nat) (hA : nth A i = some .flows) (h : Only A R s x) : Only A R s { x with flows := v } :=
  ⟨h.follows.trans ⟨rfl, Nat.le_refl _, List.prefix_refl _, Nat.le_refl _, Nat.le_refl _, id, id⟩, fun a ha => by
    cases a <;> first | exact h.same _ ha | exact out_of ha hA, h.regs⟩

theorem Only.ads {s x : State} {v} (i : Nat) (hA : nth A i = some .ads) (h : Only A R s x) : Only A R s { x with ads := v } :=
  ⟨h.follows.trans ⟨rfl, Nat.le_refl _, List.prefix_refl _, Nat.le_refl _, Nat.le_refl _, id, id⟩, fun a ha => by
    cases a <;> first | exact h.same _ ha | exact out_of ha hA, h.regs⟩

theorem Only.hqs {s x : State} {v} (i : Nat) (hA : nth A i = some .hqs) (h : Only A R s x) : Only A R s { x with hqs := v } :=
  ⟨h.follows.trans ⟨rfl, Nat.le_refl _, List.prefix_refl _, Nat.le_refl _, Nat.le_refl _, id, id⟩, fun a ha => by
    cases a <;> first | exact h.same _ ha | exact out_of ha hA, h.regs⟩

theorem Only.glyphs {s x : State} {v} (i : Nat) (hA : nth A i = some .glyphs) (h : Only A R s x) : Only A R s { x with glyphs := v } :=
  ⟨h.follows.trans ⟨rfl, Nat.le_refl _, List.prefix_refl _, Nat.le_refl _, Nat.le_refl _, id, id⟩, fun a ha => by
    cases a <;> first | exact h.same _ ha | exact out_of ha hA, h.regs⟩

theorem Only.gpi {s x : State} {v} (i : Nat) (hA : nth A i = some .gpi) (h : Only A R s x) : Only A R s { x with gpi := v } :=
  ⟨h.follows.trans ⟨rfl, Nat.le_refl _, List.prefix_refl _, Nat.le_refl _, Nat.le_refl _, id, id⟩, fun a ha => by
    cases a <;> first | exact h.same _ ha | exact out_of ha hA, h.regs⟩

theorem Only.gpo {s x : State} {v} (i : Nat) (hA : nth A i = some .gpo) (h : Only A R s x) : Only A R s { x with gpo := v } :=
  ⟨h.follows.trans ⟨rfl, Nat.le_refl _, List.prefix_refl _, Nat.le_refl _, Nat.le_refl _, id, id⟩, fun a ha => by
    cases a <;> first | exact h.same _ ha | exact out_of ha hA, h.regs⟩

theorem Only.layers {s x : State} {v} (i : Nat) (hA : nth A i = some .layers) (h : Only A R s x) : Only A R s { x with layers := v } :=
  ⟨h.follows.trans ⟨rfl, Nat.le_refl _, List.prefix_refl _, Nat.le_refl _, Nat.le_refl _, id, id⟩, fun a ha => by
    cases a <;> first | exact h.same _ ha | exact out_of ha hA, h.regs⟩

theorem Only.pls {s x : State} {v} (i : Nat) (hA : nth A i = some .pls) (h : Only A R s x) : Only A R s { x with pls := v } :=
  ⟨h.follows.trans ⟨rfl, Nat.le_refl _, List.prefix_refl _, Nat.le_refl _, Nat.le_refl _, id, id⟩, fun a ha => by
    cases a <;> first | exact h.same _ ha | exact out_of ha hA, h.regs⟩

theorem Only.cks {s x : State} {v} (i : Nat) (hA : nth A i = some .cks) (h : Only A R s x) : Only A R s { x with cks := v } :=
  ⟨h.follows.trans ⟨rfl, Nat.le_refl _, List.prefix_refl _, Nat.le_refl _, Nat.le_refl _, id, id⟩, fun a ha => by
    cases a <;> first | exact h.same _ ha | exact out_of ha hA, h.regs⟩

theorem Only.cues {s x : State} {v} (i : Nat) (hA : nth A i = some .cues) (h : Only A R s x) : Only A R s { x with cues := v } :=
  ⟨h.follows.trans ⟨rfl, Nat.le_refl _, List.prefix_refl _, Nat.le_refl _, Nat.le_refl _, id, id⟩, fun a ha => by
    cases a <;> first | exact h.same _ ha | exact out_of ha hA, h.regs⟩

theorem Only.cregs {s x : State} {v} (i : Nat) (hA : nth A i = some .cregs) (h : Only A R s x) : Only A R s { x with cregs := v } :=
  ⟨h.follows.trans ⟨rfl, Nat.le_refl _, List.prefix_refl _, Nat.le_refl _, Nat.le_refl _, id, id⟩, fun a ha => by
    cases a <;> first | exact h.same _ ha | exact out_of ha hA, h.regs⟩

theorem Only.imem {s x : State} {v} (i : Nat) (hA : nth A i = some .imem) (h : Only A R s x) : Only A R s { x with imem := v } :=
  ⟨h.follows.trans ⟨rfl, Nat.le_refl _, List.prefix_refl _, Nat.le_refl _, Nat.le_refl _, id, id⟩, fun a ha => by
    cases a <;> first | exact h.same _ ha | exact out_of ha hA, h.regs⟩

theorem Only.dmem {s x : State} {v} (i : Nat) (hA : nth A i = some .dmem) (h : Only A R s x) : Only A R s { x with dmem := v } :=
  ⟨h.follows.trans ⟨rfl, Nat.le_refl _, List.prefix_refl _, Nat.le_refl _, Nat.le_refl _, id, id⟩, fun a ha => by
    cases a <;> first | exact h.same _ ha | exact out_of ha hA, h.regs⟩

theorem Only.scratch {s x : State} {v} (i : Nat) (hA : nth A i = some .scratch) (h : Only A R s x) : Only A R s { x with scratch := v } :=
  ⟨h.follows.trans ⟨rfl, Nat.le_refl _, List.prefix_refl _, Nat.le_refl _, Nat.le_refl _, id, id⟩, fun a ha => by
    cases a <;> first | exact h.same _ ha | exact out_of ha hA, h.regs⟩

theorem Only.ecc {s x : State} {v} (i : Nat) (hA : nth A i = some .ecc) (h : Only A R s x) : Only A R s { x with ecc := v } :=
  ⟨h.follows.trans ⟨rfl, Nat.le_refl _, List.prefix_refl _, Nat.le_refl _, Nat.le_refl _, id, id⟩, fun a ha => by
    cases a <;> first | exact h.same _ ha | exact out_of ha hA, h.regs⟩

theorem Only.evt {s x : State} {v} (i : Nat) (hA : nth A i = some .evt) (h : Only A R s x) : Only A R s { x with evt := v } :=
  ⟨h.follows.trans ⟨rfl, Nat.le_refl _, List.prefix_refl _, Nat.le_refl _, Nat.le_refl _, id, id⟩, fun a ha => by
    cases a <;> first | exact h.same _ ha | exact out_of ha hA, h.regs⟩

theorem Only.ps {s x : State} {v} (i : Nat) (hA : nth A i = some .ps) (h : Only A R s x) : Only A R s { x with ps := v } :=
  ⟨h.follows.trans ⟨rfl, Nat.le_refl _, List.prefix_refl _, Nat.le_refl _, Nat.le_refl _, id, id⟩, fun a ha => by
    cases a <;> first | exact h.same _ ha | exact out_of ha hA, h.regs⟩

theorem Only.rf {s x : State} {v} (i : Nat) (hA : nth A i = some .rf) (h : Only A R s x) : Only A R s { x with rf := v } :=
  ⟨h.follows.trans ⟨rfl, Nat.le_refl _, List.prefix_refl _, Nat.le_refl _, Nat.le_refl _, id, id⟩, fun a ha => by
    cases a <;> first | exact h.same _ ha | exact out_of ha hA, h.regs⟩

theorem Only.jtag {s x : State} {v} (i : Nat) (hA : nth A i = some .jtag) (h : Only A R s x) : Only A R s { x with jtag := v } :=
  ⟨h.follows.trans ⟨rfl, Nat.le_refl _, List.prefix_refl _, Nat.le_refl _, Nat.le_refl _, id, id⟩, fun a ha => by
    cases a <;> first | exact h.same _ ha | exact out_of ha hA, h.regs⟩

theorem Only.lts {s x : State} {v} (i : Nat) (hA : nth A i = some .lts) (h : Only A R s x) : Only A R s { x with lts := v } :=
  ⟨h.follows.trans ⟨rfl, Nat.le_refl _, List.prefix_refl _, Nat.le_refl _, Nat.le_refl _, id, id⟩, fun a ha => by
    cases a <;> first | exact h.same _ ha | exact out_of ha hA, h.regs⟩

theorem Only.sps {s x : State} {v} (i : Nat) (hA : nth A i = some .sps) (h : Only A R s x) : Only A R s { x with sps := v } :=
  ⟨h.follows.trans ⟨rfl, Nat.le_refl _, List.prefix_refl _, Nat.le_refl _, Nat.le_refl _, id, id⟩, fun a ha => by
    cases a <;> first | exact h.same _ ha | exact out_of ha hA, h.regs⟩

theorem Only.gl {s x : State} {v} (i : Nat) (hA : nth A i = some .gl) (h : Only A R s x) : Only A R s { x with gl := v } :=
  ⟨h.follows.trans ⟨rfl, Nat.le_refl _, List.prefix_refl _, Nat.le_refl _, Nat.le_refl _, id, id⟩, fun a ha => by
    cases a <;> first | exact h.same _ ha | exact out_of ha hA, h.regs⟩

theorem Only.fc {s x : State} {v} (i : Nat) (hA : nth A i = some .fc) (h : Only A R s x) : Only A R s { x with fc := v } :=
  ⟨h.follows.trans ⟨rfl, Nat.le_refl _, List.prefix_refl _, Nat.le_refl _, Nat.le_refl _, id, id⟩, fun a ha => by
    cases a <;> first | exact h.same _ ha | exact out_of ha hA, h.regs⟩

theorem Only.sl {s x : State} {v} (i : Nat) (hA : nth A i = some .sl) (h : Only A R s x) : Only A R s { x with sl := v } :=
  ⟨h.follows.trans ⟨rfl, Nat.le_refl _, List.prefix_refl _, Nat.le_refl _, Nat.le_refl _, id, id⟩, fun a ha => by
    cases a <;> first | exact h.same _ ha | exact out_of ha hA, h.regs⟩

theorem Only.cl {s x : State} {v} (i : Nat) (hA : nth A i = some .cl) (h : Only A R s x) : Only A R s { x with cl := v } :=
  ⟨h.follows.trans ⟨rfl, Nat.le_refl _, List.prefix_refl _, Nat.le_refl _, Nat.le_refl _, id, id⟩, fun a ha => by
    cases a <;> first | exact h.same _ ha | exact out_of ha hA, h.regs⟩

/-- Something leaves the device. -/
theorem Only.out {s x : State} {l : List Out} (i : Nat) (hA : nth A i = some .out) (h : Only A R s x) :
    Only A R s { x with out := x.out ++ l } :=
  ⟨h.follows.trans ⟨rfl, Nat.le_refl _, List.prefix_append .., Nat.le_refl _, Nat.le_refl _, id, id⟩, fun a ha => by
    cases a <;> first | exact h.same _ ha | exact out_of ha hA, h.regs⟩

theorem Only.tick {s x : State} {n : Nat} (i : Nat) (hA : nth A i = some .tick) (h : Only A R s x) :
    Only A R s { x with tick := x.tick + n } :=
  ⟨h.follows.trans ⟨rfl, Nat.le_add_right .., List.prefix_refl _, Nat.le_refl _, Nat.le_refl _, id, id⟩, fun a ha => by
    cases a <;> first | exact h.same _ ha | exact out_of ha hA, h.regs⟩

theorem Only.free {s x : State} {n : Nat} (i : Nat) (hA : nth A i = some .free) (h : Only A R s x) :
    Only A R s { x with free := x.free + n } :=
  ⟨h.follows.trans ⟨rfl, Nat.le_refl _, List.prefix_refl _, Nat.le_refl _, Nat.le_add_right .., id, id⟩, fun a ha => by
    cases a <;> first | exact h.same _ ha | exact out_of ha hA, h.regs⟩

theorem Only.serial {s x : State} {n : Nat} (i : Nat) (hA : nth A i = some .serial) (h : Only A R s x) :
    Only A R s { x with serial := x.serial + n } :=
  ⟨h.follows.trans ⟨rfl, Nat.le_refl _, List.prefix_refl _, Nat.le_add_right .., Nat.le_refl _, id, id⟩, fun a ha => by
    cases a <;> first | exact h.same _ ha | exact out_of ha hA, h.regs⟩

theorem Only.mem {s x : State} {m : List Host.Cell} (i : Nat) (hA : nth A i = some .mem)
    (hm : Memory.wf x.mem = true → Memory.wf m = true) (h : Only A R s x) : Only A R s { x with mem := m } :=
  ⟨h.follows.trans ⟨rfl, Nat.le_refl _, List.prefix_refl _, Nat.le_refl _, Nat.le_refl _, hm, id⟩, fun a ha => by
    cases a <;> first | exact h.same _ ha | exact out_of ha hA, h.regs⟩

end

/-! ### Registers -/

theorem Only.wr {A : List Area} {R : List Reg} {s x : State} {k : Key} {w : Word} (r : Reg) (i : Nat) (hr : k.1 = r)
    (hR : nth R i = some r) (h : Only A (some R) s x) : Only A (some R) s (x.wr k w) :=
  ⟨h.follows.trans ⟨rfl, Nat.le_refl _, List.prefix_refl _, Nat.le_refl _, Nat.le_refl _, id, State.RegsOk.wr k w⟩, fun a ha => by
    cases a <;> exact h.same _ ha,
  fun l hl r' hr' is => by
    have hne : (r', is) ≠ k := by
      rintro rfl
      subst hr
      cases hl
      exact hr' (mem_nth hR)
    exact (mget_mput_ne _ _ _ _ hne).trans (h.regs l hl r' hr' is)⟩

theorem Only.set {A : List Area} {R : List Reg} {s x : State} {f : Fld} {v : Nat} (r : Reg) (i : Nat) (hr : f.key.1 = r)
    (hR : nth R i = some r) (h : Only A (some R) s x) : Only A (some R) s (x.set f v) := h.wr r i hr hR

theorem Only.count {A : List Area} {R : List Reg} {s x : State} {f : Fld} {n : Nat} (r : Reg) (i : Nat) (hr : f.key.1 = r)
    (hR : nth R i = some r) (h : Only A (some R) s x) : Only A (some R) s (x.count f n) := h.set r i hr hR

theorem Only.regs' {A : List Area} {s x : State} {m : Map Key Word} (hm : (x.regs.map (·.1)).Nodup → (m.map (·.1)).Nodup)
    (h : Only A none s x) : Only A none s { x with regs := m } :=
  ⟨h.follows.trans ⟨rfl, Nat.le_refl _, List.prefix_refl _, Nat.le_refl _, Nat.le_refl _, id, hm⟩, fun a ha => by
    cases a <;> exact h.same _ ha, nofun⟩

theorem Only.wrAny {A : List Area} {s x : State} {k : Key} {w : Word} (h : Only A none s x) : Only A none s (x.wr k w) := h.regs' (nodup_mput _ _ _ _)

theorem Only.setAny {A : List Area} {s x : State} {f : Fld} {v : Nat} (h : Only A none s x) : Only A none s (x.set f v) := h.wrAny

theorem Only.countAny {A : List Area} {s x : State} {f : Fld} {n : Nat} (h : Only A none s x) : Only A none s (x.count f n) := h.wrAny

/-- A field reads as before when nothing touches its register. -/
theorem Only.get {A : List Area} {R : List Reg} {s t : State} (h : Only A (some R) s t) (f : Fld) (hf : f.key.1 ∉ R) :
    t.get f = s.get f := by
  have := h.regs R rfl f.key.1 hf f.key.2
  unfold State.get
  rw [show f.key = (f.key.1, f.key.2) from rfl, this]

end Sys2Proof.Machine
end

