-- ==== Sys2Proof/Laws/Regs.lean ====
section
/-! SUPPORT. Laws of bit fields and of reading and storing registers. -/

namespace Sys2Proof.Machine

theorem testBit_bits (w : Word) (hi lo j : Nat) : (bits w hi lo).testBit j = (decide (j < hi + 1 - lo) && w.getLsbD (lo + j)) := by
  unfold bits
  rw [Nat.testBit_mod_two_pow, Nat.testBit_div_two_pow, BitVec.getLsbD, Nat.add_comm lo j]

theorem getLsbD_fieldMask (hi lo i : Nat) (hh : hi < 32) : (fieldMask hi lo).getLsbD i = decide (lo ≤ i ∧ i ≤ hi) := by
  unfold fieldMask
  rw [BitVec.getLsbD_ofNat, Nat.mul_comm, Nat.testBit_two_pow_mul, Nat.testBit_two_pow_sub_one]
  by_cases h1 : lo ≤ i <;> by_cases h2 : i ≤ hi <;> simp [h1, h2] <;> omega

theorem getLsbD_setBits (w : Word) (hi lo v i : Nat) (hh : hi < 32) :
    (setBits w hi lo v).getLsbD i = if lo ≤ i ∧ i ≤ hi then v.testBit (i - lo) else w.getLsbD i := by
  unfold setBits
  rw [BitVec.getLsbD_or, BitVec.getLsbD_and, BitVec.getLsbD_not, getLsbD_fieldMask _ _ _ hh, BitVec.getLsbD_ofNat, Nat.mul_comm,
    Nat.testBit_two_pow_mul, Nat.testBit_mod_two_pow]
  by_cases h1 : lo ≤ i <;> by_cases h2 : i ≤ hi
  · have h3 : i < 32 := by omega
    have h4 : i - lo < hi + 1 - lo := by omega
    simp [h1, h2, h3, h4]
  · have h4 : ¬ i - lo < hi + 1 - lo := by omega
    simp [h1, h2, h4]
    intro h; exact w.lt_of_getLsbD h
  · simp [h1, h2]
    intro h; exact w.lt_of_getLsbD h
  · simp [h1]
    intro h; exact w.lt_of_getLsbD h

/-- A field reads what was put into it. -/
theorem bits_setBits_self (w : Word) (hi lo v : Nat) (hh : hi < 32) : bits (setBits w hi lo v) hi lo = v % 2 ^ (hi + 1 - lo) := by
  apply Nat.eq_of_testBit_eq
  intro j
  rw [testBit_bits, getLsbD_setBits _ _ _ _ _ hh, Nat.testBit_mod_two_pow]
  by_cases h : j < hi + 1 - lo
  · have : lo ≤ lo + j ∧ lo + j ≤ hi := by omega
    simp [h, this]
  · simp [h]

/-- The bits outside a field stay. -/
theorem bits_setBits_ne (w : Word) (hi lo v h l : Nat) (hh : hi < 32) (hd : h < lo ∨ hi < l) :
    bits (setBits w hi lo v) h l = bits w h l := by
  apply Nat.eq_of_testBit_eq
  intro j
  rw [testBit_bits, testBit_bits, getLsbD_setBits _ _ _ _ _ hh]
  by_cases hj : j < h + 1 - l
  · have : ¬ (lo ≤ l + j ∧ l + j ≤ hi) := by omega
    rw [if_neg this]
  · simp [hj]

theorem bits_zero (h l : Nat) : bits 0 h l = 0 := by simp [bits]

@[simp] theorem rd_wr_self (s : State) (k : Key) (w : Word) : (s.wr k w).rd k = w := mget_mput_self ..

theorem rd_wr_ne (s : State) {j k : Key} (w : Word) (h : j ≠ k) : (s.wr k w).rd j = s.rd j := mget_mput_ne _ _ _ _ h

/-- A field holds what is stored in it, as far as it has bits. -/
theorem get_set_self (s : State) (f : Fld) (v : Nat) (hf : f.hi < 32) : (s.set f v).get f = v % 2 ^ (f.hi + 1 - f.lo) := by
  unfold State.set State.get
  rw [rd_wr_self, bits_setBits_self _ _ _ _ hf]

/-- A field keeps its value when another is stored. -/
theorem get_set_ne (s : State) (f g : Fld) (v : Nat) (hf : f.hi < 32) (hd : g.key ≠ f.key ∨ g.hi < f.lo ∨ f.hi < g.lo) :
    (s.set f v).get g = s.get g := by
  unfold State.set State.get
  by_cases hk : g.key = f.key
  · rw [hk, rd_wr_self, bits_setBits_ne _ _ _ _ _ _ hf (hd.resolve_left (not_not.mpr hk))]
  · rw [rd_wr_ne _ _ hk]

theorem get_wr_self (s : State) (f : Fld) (w : Word) : (s.wr f.key w).get f = bits w f.hi f.lo := by
  unfold State.get
  rw [rd_wr_self]

theorem get_wr_ne (s : State) (f : Fld) (k : Key) (w : Word) (h : f.key ≠ k) : (s.wr k w).get f = s.get f := by
  unfold State.get
  rw [rd_wr_ne _ _ h]

/-- A count goes up by what is counted, and stops at the greatest value of its field. -/
theorem get_count_self (s : State) (f : Fld) (n : Nat) (hf : f.hi < 32) :
    (s.count f n).get f = satAdd (f.hi + 1 - f.lo) (s.get f) n := by
  unfold State.count
  rw [get_set_self _ _ _ hf]
  unfold satAdd
  apply Nat.mod_eq_of_lt
  have := Nat.two_pow_pos (f.hi + 1 - f.lo)
  omega

theorem get_count_ne (s : State) (f g : Fld) (n : Nat) (hf : f.hi < 32) (hd : g.key ≠ f.key ∨ g.hi < f.lo ∨ f.hi < g.lo) :
    (s.count f n).get g = s.get g := get_set_ne _ _ _ _ hf hd

theorem get_lt (s : State) (f : Fld) : s.get f < 2 ^ (f.hi + 1 - f.lo) := Nat.mod_lt _ (Nat.two_pow_pos _)

/-- An interrupt sends a message or marks a vector pending, and changes nothing else. -/
theorem interrupt_eq (s : State) (f v : Nat) :
    s.interrupt f v = { s with out := (s.interrupt f v).out, msix := (s.interrupt f v).msix } := by
  unfold State.interrupt
  extract_lets x
  split <;> rfl

/-- The end of a command sends what interrupts are owed, and changes nothing else. -/
theorem finish_eq (s : State) : s.finish = { s with out := s.finish.out, msix := s.finish.msix, irqOwed := [] } := by
  have h : ∀ (l : List (List Nat)) (u : State), (∃ o m, u = { s with out := o, msix := m }) →
      ∃ o m, l.foldl (fun s b => s.interrupt (s.get ⟨(.xx_INT_VEC, b), 9, 8⟩) (s.get ⟨(.xx_INT_VEC, b), 7, 0⟩)) u = { s with out := o, msix := m } := by
    intro l
    induction l with
    | nil => exact fun u hu => hu
    | cons b l ih =>
      rintro u ⟨o, m, rfl⟩
      exact ih _ ⟨_, _, interrupt_eq _ _ _⟩
  obtain ⟨o, m, e⟩ := h s.irqOwed s ⟨s.out, s.msix, rfl⟩
  unfold State.finish
  rw [e]

@[simp] theorem irqOwed_finish (s : State) : s.finish.irqOwed = [] := (rfl)

@[simp] theorem get_finish (s : State) (f : Fld) : s.finish.get f = s.get f := by rw [finish_eq]; rfl

@[simp] theorem rd_finish (s : State) (k : Key) : s.finish.rd k = s.rd k := by rw [finish_eq]; rfl

/-- What a field holds once another one, or the same one, is stored. -/
theorem get_set (s : State) (f g : Fld) (v : Nat) (hf : f.hi < 32) : (s.set f v).get g =
  if g.key = f.key then (if g.hi < f.lo ∨ f.hi < g.lo then s.get g else if g.hi = f.hi ∧ g.lo = f.lo then v % 2 ^ (f.hi + 1 - f.lo) else
     bits (setBits (s.rd f.key) f.hi f.lo v) g.hi g.lo) else s.get g := by
  split
  · split
    · exact get_set_ne _ _ _ _ hf (Or.inr ‹_›)
    · split
      · rename_i h1 h2 h3
        obtain ⟨k, h, l⟩ := g; obtain ⟨k', h', l'⟩ := f
        simp at h1 h3; obtain ⟨rfl, rfl⟩ := h3; subst h1
        exact get_set_self _ _ _ hf
      · rename_i h1 h2 h3
        unfold State.get State.set; rw [h1, rd_wr_self]
  · exact get_set_ne _ _ _ _ hf (Or.inl ‹_›)

/-- What a field holds once a count has gone up. -/
theorem get_count (s : State) (f g : Fld) (v : Nat) (hf : f.hi < 32) : (s.count f v).get g =
  if g.key = f.key then (if g.hi < f.lo ∨ f.hi < g.lo then s.get g else if g.hi = f.hi ∧ g.lo = f.lo then satAdd (f.hi + 1 - f.lo) (s.get f) v else
     bits (setBits (s.rd f.key) f.hi f.lo (satAdd (f.hi + 1 - f.lo) (s.get f) v)) g.hi g.lo) else s.get g := by
  rw [State.count, get_set _ _ _ _ hf]
  split
  · split
    · rfl
    · split
      · rename_i h1 h2 h3
        have := get_count_self s f v hf
        rw [← this, State.count, get_set_self _ _ _ hf, Nat.mod_mod]
      · rfl
  · rfl

/-- What a field holds once a register is stored. -/
theorem get_wr (s : State) (k : Key) (g : Fld) (w : Word) : (s.wr k w).get g = if g.key = k then bits w g.hi g.lo else s.get g := by
  split
  · rename_i h; subst h; exact get_wr_self ..
  · exact get_wr_ne _ _ _ _ ‹_›

/-- What a register holds once a register, or a field, is stored. -/
theorem rd_wr (s : State) (j k : Key) (w : Word) : (s.wr k w).rd j = if j = k then w else s.rd j := by
  split
  · rename_i h; subst h; exact rd_wr_self ..
  · exact rd_wr_ne _ _ ‹_›

theorem rd_set (s : State) (f : Fld) (j : Key) (v : Nat) : (s.set f v).rd j = if j = f.key then setBits (s.rd f.key) f.hi f.lo v else s.rd j := by
  unfold State.set; exact rd_wr ..

end Sys2Proof.Machine
end

