-- ==== Sys2Proof/Laws/State.lean ====
section
/-! SUPPORT. Every update of one part of the state beside every other part: the part stays. Each is true by unfolding; the proof is `(rfl)`, so that simp leaves a term that the kernel need not search for. -/

namespace Sys2Proof.Machine

/-! ### wr -/

@[simp] theorem pending_wr (s : State) (k w) : (s.wr k w).pending = s.pending := (rfl)
@[simp] theorem tick_wr (s : State) (k w) : (s.wr k w).tick = s.tick := (rfl)
@[simp] theorem free_wr (s : State) (k w) : (s.wr k w).free = s.free := (rfl)
@[simp] theorem out_wr (s : State) (k w) : (s.wr k w).out = s.out := (rfl)
@[simp] theorem irqOwed_wr (s : State) (k w) : (s.wr k w).irqOwed = s.irqOwed := (rfl)
@[simp] theorem eff_wr (s : State) (k w) : (s.wr k w).eff = s.eff := (rfl)
@[simp] theorem waiting_wr (s : State) (k w) : (s.wr k w).waiting = s.waiting := (rfl)
@[simp] theorem w1_wr (s : State) (k w) : (s.wr k w).w1 = s.w1 := (rfl)
@[simp] theorem slowQ_wr (s : State) (k w) : (s.wr k w).slowQ = s.slowQ := (rfl)
@[simp] theorem slowHold_wr (s : State) (k w) : (s.wr k w).slowHold = s.slowHold := (rfl)
@[simp] theorem slowCopy_wr (s : State) (k w) : (s.wr k w).slowCopy = s.slowCopy := (rfl)
@[simp] theorem msix_wr (s : State) (k w) : (s.wr k w).msix = s.msix := (rfl)
@[simp] theorem mem_wr (s : State) (k w) : (s.wr k w).mem = s.mem := (rfl)
@[simp] theorem bad_wr (s : State) (k w) : (s.wr k w).bad = s.bad := (rfl)
@[simp] theorem holding_wr (s : State) (k w) : (s.wr k w).holding = s.holding := (rfl)
@[simp] theorem dv_wr (s : State) (k w) : (s.wr k w).dv = s.dv := (rfl)
@[simp] theorem mbx_wr (s : State) (k w) : (s.wr k w).mbx = s.mbx := (rfl)
@[simp] theorem tb_wr (s : State) (k w) : (s.wr k w).tb = s.tb := (rfl)
@[simp] theorem heads_wr (s : State) (k w) : (s.wr k w).heads = s.heads := (rfl)
@[simp] theorem engines_wr (s : State) (k w) : (s.wr k w).engines = s.engines := (rfl)
@[simp] theorem groups_wr (s : State) (k w) : (s.wr k w).groups = s.groups := (rfl)
@[simp] theorem serial_wr (s : State) (k w) : (s.wr k w).serial = s.serial := (rfl)
@[simp] theorem vids_wr (s : State) (k w) : (s.wr k w).vids = s.vids := (rfl)
@[simp] theorem dts_wr (s : State) (k w) : (s.wr k w).dts = s.dts := (rfl)
@[simp] theorem ports_wr (s : State) (k w) : (s.wr k w).ports = s.ports := (rfl)
@[simp] theorem queues_wr (s : State) (k w) : (s.wr k w).queues = s.queues := (rfl)
@[simp] theorem flows_wr (s : State) (k w) : (s.wr k w).flows = s.flows := (rfl)
@[simp] theorem ads_wr (s : State) (k w) : (s.wr k w).ads = s.ads := (rfl)
@[simp] theorem hqs_wr (s : State) (k w) : (s.wr k w).hqs = s.hqs := (rfl)
@[simp] theorem glyphs_wr (s : State) (k w) : (s.wr k w).glyphs = s.glyphs := (rfl)
@[simp] theorem gpi_wr (s : State) (k w) : (s.wr k w).gpi = s.gpi := (rfl)
@[simp] theorem gpo_wr (s : State) (k w) : (s.wr k w).gpo = s.gpo := (rfl)
@[simp] theorem layers_wr (s : State) (k w) : (s.wr k w).layers = s.layers := (rfl)
@[simp] theorem pls_wr (s : State) (k w) : (s.wr k w).pls = s.pls := (rfl)
@[simp] theorem cks_wr (s : State) (k w) : (s.wr k w).cks = s.cks := (rfl)
@[simp] theorem cues_wr (s : State) (k w) : (s.wr k w).cues = s.cues := (rfl)
@[simp] theorem cregs_wr (s : State) (k w) : (s.wr k w).cregs = s.cregs := (rfl)
@[simp] theorem imem_wr (s : State) (k w) : (s.wr k w).imem = s.imem := (rfl)
@[simp] theorem dmem_wr (s : State) (k w) : (s.wr k w).dmem = s.dmem := (rfl)
@[simp] theorem scratch_wr (s : State) (k w) : (s.wr k w).scratch = s.scratch := (rfl)
@[simp] theorem ecc_wr (s : State) (k w) : (s.wr k w).ecc = s.ecc := (rfl)
@[simp] theorem evt_wr (s : State) (k w) : (s.wr k w).evt = s.evt := (rfl)
@[simp] theorem ps_wr (s : State) (k w) : (s.wr k w).ps = s.ps := (rfl)
@[simp] theorem rf_wr (s : State) (k w) : (s.wr k w).rf = s.rf := (rfl)
@[simp] theorem jtag_wr (s : State) (k w) : (s.wr k w).jtag = s.jtag := (rfl)
@[simp] theorem lts_wr (s : State) (k w) : (s.wr k w).lts = s.lts := (rfl)
@[simp] theorem sps_wr (s : State) (k w) : (s.wr k w).sps = s.sps := (rfl)
@[simp] theorem gl_wr (s : State) (k w) : (s.wr k w).gl = s.gl := (rfl)
@[simp] theorem fc_wr (s : State) (k w) : (s.wr k w).fc = s.fc := (rfl)
@[simp] theorem sl_wr (s : State) (k w) : (s.wr k w).sl = s.sl := (rfl)
@[simp] theorem cl_wr (s : State) (k w) : (s.wr k w).cl = s.cl := (rfl)

/-! ### set -/

@[simp] theorem pending_set (s : State) (f v) : (s.set f v).pending = s.pending := (rfl)
@[simp] theorem tick_set (s : State) (f v) : (s.set f v).tick = s.tick := (rfl)
@[simp] theorem free_set (s : State) (f v) : (s.set f v).free = s.free := (rfl)
@[simp] theorem out_set (s : State) (f v) : (s.set f v).out = s.out := (rfl)
@[simp] theorem irqOwed_set (s : State) (f v) : (s.set f v).irqOwed = s.irqOwed := (rfl)
@[simp] theorem eff_set (s : State) (f v) : (s.set f v).eff = s.eff := (rfl)
@[simp] theorem waiting_set (s : State) (f v) : (s.set f v).waiting = s.waiting := (rfl)
@[simp] theorem w1_set (s : State) (f v) : (s.set f v).w1 = s.w1 := (rfl)
@[simp] theorem slowQ_set (s : State) (f v) : (s.set f v).slowQ = s.slowQ := (rfl)
@[simp] theorem slowHold_set (s : State) (f v) : (s.set f v).slowHold = s.slowHold := (rfl)
@[simp] theorem slowCopy_set (s : State) (f v) : (s.set f v).slowCopy = s.slowCopy := (rfl)
@[simp] theorem msix_set (s : State) (f v) : (s.set f v).msix = s.msix := (rfl)
@[simp] theorem mem_set (s : State) (f v) : (s.set f v).mem = s.mem := (rfl)
@[simp] theorem bad_set (s : State) (f v) : (s.set f v).bad = s.bad := (rfl)
@[simp] theorem holding_set (s : State) (f v) : (s.set f v).holding = s.holding := (rfl)
@[simp] theorem dv_set (s : State) (f v) : (s.set f v).dv = s.dv := (rfl)
@[simp] theorem mbx_set (s : State) (f v) : (s.set f v).mbx = s.mbx := (rfl)
@[simp] theorem tb_set (s : State) (f v) : (s.set f v).tb = s.tb := (rfl)
@[simp] theorem heads_set (s : State) (f v) : (s.set f v).heads = s.heads := (rfl)
@[simp] theorem engines_set (s : State) (f v) : (s.set f v).engines = s.engines := (rfl)
@[simp] theorem groups_set (s : State) (f v) : (s.set f v).groups = s.groups := (rfl)
@[simp] theorem serial_set (s : State) (f v) : (s.set f v).serial = s.serial := (rfl)
@[simp] theorem vids_set (s : State) (f v) : (s.set f v).vids = s.vids := (rfl)
@[simp] theorem dts_set (s : State) (f v) : (s.set f v).dts = s.dts := (rfl)
@[simp] theorem ports_set (s : State) (f v) : (s.set f v).ports = s.ports := (rfl)
@[simp] theorem queues_set (s : State) (f v) : (s.set f v).queues = s.queues := (rfl)
@[simp] theorem flows_set (s : State) (f v) : (s.set f v).flows = s.flows := (rfl)
@[simp] theorem ads_set (s : State) (f v) : (s.set f v).ads = s.ads := (rfl)
@[simp] theorem hqs_set (s : State) (f v) : (s.set f v).hqs = s.hqs := (rfl)
@[simp] theorem glyphs_set (s : State) (f v) : (s.set f v).glyphs = s.glyphs := (rfl)
@[simp] theorem gpi_set (s : State) (f v) : (s.set f v).gpi = s.gpi := (rfl)
@[simp] theorem gpo_set (s : State) (f v) : (s.set f v).gpo = s.gpo := (rfl)
@[simp] theorem layers_set (s : State) (f v) : (s.set f v).layers = s.layers := (rfl)
@[simp] theorem pls_set (s : State) (f v) : (s.set f v).pls = s.pls := (rfl)
@[simp] theorem cks_set (s : State) (f v) : (s.set f v).cks = s.cks := (rfl)
@[simp] theorem cues_set (s : State) (f v) : (s.set f v).cues = s.cues := (rfl)
@[simp] theorem cregs_set (s : State) (f v) : (s.set f v).cregs = s.cregs := (rfl)
@[simp] theorem imem_set (s : State) (f v) : (s.set f v).imem = s.imem := (rfl)
@[simp] theorem dmem_set (s : State) (f v) : (s.set f v).dmem = s.dmem := (rfl)
@[simp] theorem scratch_set (s : State) (f v) : (s.set f v).scratch = s.scratch := (rfl)
@[simp] theorem ecc_set (s : State) (f v) : (s.set f v).ecc = s.ecc := (rfl)
@[simp] theorem evt_set (s : State) (f v) : (s.set f v).evt = s.evt := (rfl)
@[simp] theorem ps_set (s : State) (f v) : (s.set f v).ps = s.ps := (rfl)
@[simp] theorem rf_set (s : State) (f v) : (s.set f v).rf = s.rf := (rfl)
@[simp] theorem jtag_set (s : State) (f v) : (s.set f v).jtag = s.jtag := (rfl)
@[simp] theorem lts_set (s : State) (f v) : (s.set f v).lts = s.lts := (rfl)
@[simp] theorem sps_set (s : State) (f v) : (s.set f v).sps = s.sps := (rfl)
@[simp] theorem gl_set (s : State) (f v) : (s.set f v).gl = s.gl := (rfl)
@[simp] theorem fc_set (s : State) (f v) : (s.set f v).fc = s.fc := (rfl)
@[simp] theorem sl_set (s : State) (f v) : (s.set f v).sl = s.sl := (rfl)
@[simp] theorem cl_set (s : State) (f v) : (s.set f v).cl = s.cl := (rfl)

/-! ### count -/

@[simp] theorem pending_count (s : State) (f n) : (s.count f n).pending = s.pending := (rfl)
@[simp] theorem tick_count (s : State) (f n) : (s.count f n).tick = s.tick := (rfl)
@[simp] theorem free_count (s : State) (f n) : (s.count f n).free = s.free := (rfl)
@[simp] theorem out_count (s : State) (f n) : (s.count f n).out = s.out := (rfl)
@[simp] theorem irqOwed_count (s : State) (f n) : (s.count f n).irqOwed = s.irqOwed := (rfl)
@[simp] theorem eff_count (s : State) (f n) : (s.count f n).eff = s.eff := (rfl)
@[simp] theorem waiting_count (s : State) (f n) : (s.count f n).waiting = s.waiting := (rfl)
@[simp] theorem w1_count (s : State) (f n) : (s.count f n).w1 = s.w1 := (rfl)
@[simp] theorem slowQ_count (s : State) (f n) : (s.count f n).slowQ = s.slowQ := (rfl)
@[simp] theorem slowHold_count (s : State) (f n) : (s.count f n).slowHold = s.slowHold := (rfl)
@[simp] theorem slowCopy_count (s : State) (f n) : (s.count f n).slowCopy = s.slowCopy := (rfl)
@[simp] theorem msix_count (s : State) (f n) : (s.count f n).msix = s.msix := (rfl)
@[simp] theorem mem_count (s : State) (f n) : (s.count f n).mem = s.mem := (rfl)
@[simp] theorem bad_count (s : State) (f n) : (s.count f n).bad = s.bad := (rfl)
@[simp] theorem holding_count (s : State) (f n) : (s.count f n).holding = s.holding := (rfl)
@[simp] theorem dv_count (s : State) (f n) : (s.count f n).dv = s.dv := (rfl)
@[simp] theorem mbx_count (s : State) (f n) : (s.count f n).mbx = s.mbx := (rfl)
@[simp] theorem tb_count (s : State) (f n) : (s.count f n).tb = s.tb := (rfl)
@[simp] theorem heads_count (s : State) (f n) : (s.count f n).heads = s.heads := (rfl)
@[simp] theorem engines_count (s : State) (f n) : (s.count f n).engines = s.engines := (rfl)
@[simp] theorem groups_count (s : State) (f n) : (s.count f n).groups = s.groups := (rfl)
@[simp] theorem serial_count (s : State) (f n) : (s.count f n).serial = s.serial := (rfl)
@[simp] theorem vids_count (s : State) (f n) : (s.count f n).vids = s.vids := (rfl)
@[simp] theorem dts_count (s : State) (f n) : (s.count f n).dts = s.dts := (rfl)
@[simp] theorem ports_count (s : State) (f n) : (s.count f n).ports = s.ports := (rfl)
@[simp] theorem queues_count (s : State) (f n) : (s.count f n).queues = s.queues := (rfl)
@[simp] theorem flows_count (s : State) (f n) : (s.count f n).flows = s.flows := (rfl)
@[simp] theorem ads_count (s : State) (f n) : (s.count f n).ads = s.ads := (rfl)
@[simp] theorem hqs_count (s : State) (f n) : (s.count f n).hqs = s.hqs := (rfl)
@[simp] theorem glyphs_count (s : State) (f n) : (s.count f n).glyphs = s.glyphs := (rfl)
@[simp] theorem gpi_count (s : State) (f n) : (s.count f n).gpi = s.gpi := (rfl)
@[simp] theorem gpo_count (s : State) (f n) : (s.count f n).gpo = s.gpo := (rfl)
@[simp] theorem layers_count (s : State) (f n) : (s.count f n).layers = s.layers := (rfl)
@[simp] theorem pls_count (s : State) (f n) : (s.count f n).pls = s.pls := (rfl)
@[simp] theorem cks_count (s : State) (f n) : (s.count f n).cks = s.cks := (rfl)
@[simp] theorem cues_count (s : State) (f n) : (s.count f n).cues = s.cues := (rfl)
@[simp] theorem cregs_count (s : State) (f n) : (s.count f n).cregs = s.cregs := (rfl)
@[simp] theorem imem_count (s : State) (f n) : (s.count f n).imem = s.imem := (rfl)
@[simp] theorem dmem_count (s : State) (f n) : (s.count f n).dmem = s.dmem := (rfl)
@[simp] theorem scratch_count (s : State) (f n) : (s.count f n).scratch = s.scratch := (rfl)
@[simp] theorem ecc_count (s : State) (f n) : (s.count f n).ecc = s.ecc := (rfl)
@[simp] theorem evt_count (s : State) (f n) : (s.count f n).evt = s.evt := (rfl)
@[simp] theorem ps_count (s : State) (f n) : (s.count f n).ps = s.ps := (rfl)
@[simp] theorem rf_count (s : State) (f n) : (s.count f n).rf = s.rf := (rfl)
@[simp] theorem jtag_count (s : State) (f n) : (s.count f n).jtag = s.jtag := (rfl)
@[simp] theorem lts_count (s : State) (f n) : (s.count f n).lts = s.lts := (rfl)
@[simp] theorem sps_count (s : State) (f n) : (s.count f n).sps = s.sps := (rfl)
@[simp] theorem gl_count (s : State) (f n) : (s.count f n).gl = s.gl := (rfl)
@[simp] theorem fc_count (s : State) (f n) : (s.count f n).fc = s.fc := (rfl)
@[simp] theorem sl_count (s : State) (f n) : (s.count f n).sl = s.sl := (rfl)
@[simp] theorem cl_count (s : State) (f n) : (s.count f n).cl = s.cl := (rfl)

/-! ### emit -/

@[simp] theorem pending_emit (s : State) (o) : (s.emit o).pending = s.pending := (rfl)
@[simp] theorem tick_emit (s : State) (o) : (s.emit o).tick = s.tick := (rfl)
@[simp] theorem free_emit (s : State) (o) : (s.emit o).free = s.free := (rfl)
@[simp] theorem irqOwed_emit (s : State) (o) : (s.emit o).irqOwed = s.irqOwed := (rfl)
@[simp] theorem regs_emit (s : State) (o) : (s.emit o).regs = s.regs := (rfl)
@[simp] theorem eff_emit (s : State) (o) : (s.emit o).eff = s.eff := (rfl)
@[simp] theorem waiting_emit (s : State) (o) : (s.emit o).waiting = s.waiting := (rfl)
@[simp] theorem w1_emit (s : State) (o) : (s.emit o).w1 = s.w1 := (rfl)
@[simp] theorem slowQ_emit (s : State) (o) : (s.emit o).slowQ = s.slowQ := (rfl)
@[simp] theorem slowHold_emit (s : State) (o) : (s.emit o).slowHold = s.slowHold := (rfl)
@[simp] theorem slowCopy_emit (s : State) (o) : (s.emit o).slowCopy = s.slowCopy := (rfl)
@[simp] theorem msix_emit (s : State) (o) : (s.emit o).msix = s.msix := (rfl)
@[simp] theorem mem_emit (s : State) (o) : (s.emit o).mem = s.mem := (rfl)
@[simp] theorem bad_emit (s : State) (o) : (s.emit o).bad = s.bad := (rfl)
@[simp] theorem holding_emit (s : State) (o) : (s.emit o).holding = s.holding := (rfl)
@[simp] theorem dv_emit (s : State) (o) : (s.emit o).dv = s.dv := (rfl)
@[simp] theorem mbx_emit (s : State) (o) : (s.emit o).mbx = s.mbx := (rfl)
@[simp] theorem tb_emit (s : State) (o) : (s.emit o).tb = s.tb := (rfl)
@[simp] theorem heads_emit (s : State) (o) : (s.emit o).heads = s.heads := (rfl)
@[simp] theorem engines_emit (s : State) (o) : (s.emit o).engines = s.engines := (rfl)
@[simp] theorem groups_emit (s : State) (o) : (s.emit o).groups = s.groups := (rfl)
@[simp] theorem serial_emit (s : State) (o) : (s.emit o).serial = s.serial := (rfl)
@[simp] theorem vids_emit (s : State) (o) : (s.emit o).vids = s.vids := (rfl)
@[simp] theorem dts_emit (s : State) (o) : (s.emit o).dts = s.dts := (rfl)
@[simp] theorem ports_emit (s : State) (o) : (s.emit o).ports = s.ports := (rfl)
@[simp] theorem queues_emit (s : State) (o) : (s.emit o).queues = s.queues := (rfl)
@[simp] theorem flows_emit (s : State) (o) : (s.emit o).flows = s.flows := (rfl)
@[simp] theorem ads_emit (s : State) (o) : (s.emit o).ads = s.ads := (rfl)
@[simp] theorem hqs_emit (s : State) (o) : (s.emit o).hqs = s.hqs := (rfl)
@[simp] theorem glyphs_emit (s : State) (o) : (s.emit o).glyphs = s.glyphs := (rfl)
@[simp] theorem gpi_emit (s : State) (o) : (s.emit o).gpi = s.gpi := (rfl)
@[simp] theorem gpo_emit (s : State) (o) : (s.emit o).gpo = s.gpo := (rfl)
@[simp] theorem layers_emit (s : State) (o) : (s.emit o).layers = s.layers := (rfl)
@[simp] theorem pls_emit (s : State) (o) : (s.emit o).pls = s.pls := (rfl)
@[simp] theorem cks_emit (s : State) (o) : (s.emit o).cks = s.cks := (rfl)
@[simp] theorem cues_emit (s : State) (o) : (s.emit o).cues = s.cues := (rfl)
@[simp] theorem cregs_emit (s : State) (o) : (s.emit o).cregs = s.cregs := (rfl)
@[simp] theorem imem_emit (s : State) (o) : (s.emit o).imem = s.imem := (rfl)
@[simp] theorem dmem_emit (s : State) (o) : (s.emit o).dmem = s.dmem := (rfl)
@[simp] theorem scratch_emit (s : State) (o) : (s.emit o).scratch = s.scratch := (rfl)
@[simp] theorem ecc_emit (s : State) (o) : (s.emit o).ecc = s.ecc := (rfl)
@[simp] theorem evt_emit (s : State) (o) : (s.emit o).evt = s.evt := (rfl)
@[simp] theorem ps_emit (s : State) (o) : (s.emit o).ps = s.ps := (rfl)
@[simp] theorem rf_emit (s : State) (o) : (s.emit o).rf = s.rf := (rfl)
@[simp] theorem jtag_emit (s : State) (o) : (s.emit o).jtag = s.jtag := (rfl)
@[simp] theorem lts_emit (s : State) (o) : (s.emit o).lts = s.lts := (rfl)
@[simp] theorem sps_emit (s : State) (o) : (s.emit o).sps = s.sps := (rfl)
@[simp] theorem gl_emit (s : State) (o) : (s.emit o).gl = s.gl := (rfl)
@[simp] theorem fc_emit (s : State) (o) : (s.emit o).fc = s.fc := (rfl)
@[simp] theorem sl_emit (s : State) (o) : (s.emit o).sl = s.sl := (rfl)
@[simp] theorem cl_emit (s : State) (o) : (s.emit o).cl = s.cl := (rfl)

@[simp] theorem rd_emit (s : State) (o) (k') : (s.emit o).rd k' = s.rd k' := (rfl)
@[simp] theorem get_emit (s : State) (o) (g) : (s.emit o).get g = s.get g := (rfl)

/-! ### finish -/

@[simp] theorem pending_finish (s : State) : (s.finish).pending = s.pending := by rw [finish_eq]
@[simp] theorem tick_finish (s : State) : (s.finish).tick = s.tick := by rw [finish_eq]
@[simp] theorem free_finish (s : State) : (s.finish).free = s.free := by rw [finish_eq]
@[simp] theorem regs_finish (s : State) : (s.finish).regs = s.regs := by rw [finish_eq]
@[simp] theorem eff_finish (s : State) : (s.finish).eff = s.eff := by rw [finish_eq]
@[simp] theorem waiting_finish (s : State) : (s.finish).waiting = s.waiting := by rw [finish_eq]
@[simp] theorem w1_finish (s : State) : (s.finish).w1 = s.w1 := by rw [finish_eq]
@[simp] theorem slowQ_finish (s : State) : (s.finish).slowQ = s.slowQ := by rw [finish_eq]
@[simp] theorem slowHold_finish (s : State) : (s.finish).slowHold = s.slowHold := by rw [finish_eq]
@[simp] theorem slowCopy_finish (s : State) : (s.finish).slowCopy = s.slowCopy := by rw [finish_eq]
@[simp] theorem mem_finish (s : State) : (s.finish).mem = s.mem := by rw [finish_eq]
@[simp] theorem bad_finish (s : State) : (s.finish).bad = s.bad := by rw [finish_eq]
@[simp] theorem holding_finish (s : State) : (s.finish).holding = s.holding := by rw [finish_eq]
@[simp] theorem dv_finish (s : State) : (s.finish).dv = s.dv := by rw [finish_eq]
@[simp] theorem mbx_finish (s : State) : (s.finish).mbx = s.mbx := by rw [finish_eq]
@[simp] theorem tb_finish (s : State) : (s.finish).tb = s.tb := by rw [finish_eq]
@[simp] theorem heads_finish (s : State) : (s.finish).heads = s.heads := by rw [finish_eq]
@[simp] theorem engines_finish (s : State) : (s.finish).engines = s.engines := by rw [finish_eq]
@[simp] theorem groups_finish (s : State) : (s.finish).groups = s.groups := by rw [finish_eq]
@[simp] theorem serial_finish (s : State) : (s.finish).serial = s.serial := by rw [finish_eq]
@[simp] theorem vids_finish (s : State) : (s.finish).vids = s.vids := by rw [finish_eq]
@[simp] theorem dts_finish (s : State) : (s.finish).dts = s.dts := by rw [finish_eq]
@[simp] theorem ports_finish (s : State) : (s.finish).ports = s.ports := by rw [finish_eq]
@[simp] theorem queues_finish (s : State) : (s.finish).queues = s.queues := by rw [finish_eq]
@[simp] theorem flows_finish (s : State) : (s.finish).flows = s.flows := by rw [finish_eq]
@[simp] theorem ads_finish (s : State) : (s.finish).ads = s.ads := by rw [finish_eq]
@[simp] theorem hqs_finish (s : State) : (s.finish).hqs = s.hqs := by rw [finish_eq]
@[simp] theorem glyphs_finish (s : State) : (s.finish).glyphs = s.glyphs := by rw [finish_eq]
@[simp] theorem gpi_finish (s : State) : (s.finish).gpi = s.gpi := by rw [finish_eq]
@[simp] theorem gpo_finish (s : State) : (s.finish).gpo = s.gpo := by rw [finish_eq]
@[simp] theorem layers_finish (s : State) : (s.finish).layers = s.layers := by rw [finish_eq]
@[simp] theorem pls_finish (s : State) : (s.finish).pls = s.pls := by rw [finish_eq]
@[simp] theorem cks_finish (s : State) : (s.finish).cks = s.cks := by rw [finish_eq]
@[simp] theorem cues_finish (s : State) : (s.finish).cues = s.cues := by rw [finish_eq]
@[simp] theorem cregs_finish (s : State) : (s.finish).cregs = s.cregs := by rw [finish_eq]
@[simp] theorem imem_finish (s : State) : (s.finish).imem = s.imem := by rw [finish_eq]
@[simp] theorem dmem_finish (s : State) : (s.finish).dmem = s.dmem := by rw [finish_eq]
@[simp] theorem scratch_finish (s : State) : (s.finish).scratch = s.scratch := by rw [finish_eq]
@[simp] theorem ecc_finish (s : State) : (s.finish).ecc = s.ecc := by rw [finish_eq]
@[simp] theorem evt_finish (s : State) : (s.finish).evt = s.evt := by rw [finish_eq]
@[simp] theorem ps_finish (s : State) : (s.finish).ps = s.ps := by rw [finish_eq]
@[simp] theorem rf_finish (s : State) : (s.finish).rf = s.rf := by rw [finish_eq]
@[simp] theorem jtag_finish (s : State) : (s.finish).jtag = s.jtag := by rw [finish_eq]
@[simp] theorem lts_finish (s : State) : (s.finish).lts = s.lts := by rw [finish_eq]
@[simp] theorem sps_finish (s : State) : (s.finish).sps = s.sps := by rw [finish_eq]
@[simp] theorem gl_finish (s : State) : (s.finish).gl = s.gl := by rw [finish_eq]
@[simp] theorem fc_finish (s : State) : (s.finish).fc = s.fc := by rw [finish_eq]
@[simp] theorem sl_finish (s : State) : (s.finish).sl = s.sl := by rw [finish_eq]
@[simp] theorem cl_finish (s : State) : (s.finish).cl = s.cl := by rw [finish_eq]

/-! ### updDv -/

@[simp] theorem pending_updDv (s : State) (f) : (s.updDv f).pending = s.pending := (rfl)
@[simp] theorem tick_updDv (s : State) (f) : (s.updDv f).tick = s.tick := (rfl)
@[simp] theorem free_updDv (s : State) (f) : (s.updDv f).free = s.free := (rfl)
@[simp] theorem out_updDv (s : State) (f) : (s.updDv f).out = s.out := (rfl)
@[simp] theorem irqOwed_updDv (s : State) (f) : (s.updDv f).irqOwed = s.irqOwed := (rfl)
@[simp] theorem regs_updDv (s : State) (f) : (s.updDv f).regs = s.regs := (rfl)
@[simp] theorem eff_updDv (s : State) (f) : (s.updDv f).eff = s.eff := (rfl)
@[simp] theorem waiting_updDv (s : State) (f) : (s.updDv f).waiting = s.waiting := (rfl)
@[simp] theorem w1_updDv (s : State) (f) : (s.updDv f).w1 = s.w1 := (rfl)
@[simp] theorem slowQ_updDv (s : State) (f) : (s.updDv f).slowQ = s.slowQ := (rfl)
@[simp] theorem slowHold_updDv (s : State) (f) : (s.updDv f).slowHold = s.slowHold := (rfl)
@[simp] theorem slowCopy_updDv (s : State) (f) : (s.updDv f).slowCopy = s.slowCopy := (rfl)
@[simp] theorem msix_updDv (s : State) (f) : (s.updDv f).msix = s.msix := (rfl)
@[simp] theorem mem_updDv (s : State) (f) : (s.updDv f).mem = s.mem := (rfl)
@[simp] theorem bad_updDv (s : State) (f) : (s.updDv f).bad = s.bad := (rfl)
@[simp] theorem holding_updDv (s : State) (f) : (s.updDv f).holding = s.holding := (rfl)
@[simp] theorem mbx_updDv (s : State) (f) : (s.updDv f).mbx = s.mbx := (rfl)
@[simp] theorem tb_updDv (s : State) (f) : (s.updDv f).tb = s.tb := (rfl)
@[simp] theorem heads_updDv (s : State) (f) : (s.updDv f).heads = s.heads := (rfl)
@[simp] theorem engines_updDv (s : State) (f) : (s.updDv f).engines = s.engines := (rfl)
@[simp] theorem groups_updDv (s : State) (f) : (s.updDv f).groups = s.groups := (rfl)
@[simp] theorem serial_updDv (s : State) (f) : (s.updDv f).serial = s.serial := (rfl)
@[simp] theorem vids_updDv (s : State) (f) : (s.updDv f).vids = s.vids := (rfl)
@[simp] theorem dts_updDv (s : State) (f) : (s.updDv f).dts = s.dts := (rfl)
@[simp] theorem ports_updDv (s : State) (f) : (s.updDv f).ports = s.ports := (rfl)
@[simp] theorem queues_updDv (s : State) (f) : (s.updDv f).queues = s.queues := (rfl)
@[simp] theorem flows_updDv (s : State) (f) : (s.updDv f).flows = s.flows := (rfl)
@[simp] theorem ads_updDv (s : State) (f) : (s.updDv f).ads = s.ads := (rfl)
@[simp] theorem hqs_updDv (s : State) (f) : (s.updDv f).hqs = s.hqs := (rfl)
@[simp] theorem glyphs_updDv (s : State) (f) : (s.updDv f).glyphs = s.glyphs := (rfl)
@[simp] theorem gpi_updDv (s : State) (f) : (s.updDv f).gpi = s.gpi := (rfl)
@[simp] theorem gpo_updDv (s : State) (f) : (s.updDv f).gpo = s.gpo := (rfl)
@[simp] theorem layers_updDv (s : State) (f) : (s.updDv f).layers = s.layers := (rfl)
@[simp] theorem pls_updDv (s : State) (f) : (s.updDv f).pls = s.pls := (rfl)
@[simp] theorem cks_updDv (s : State) (f) : (s.updDv f).cks = s.cks := (rfl)
@[simp] theorem cues_updDv (s : State) (f) : (s.updDv f).cues = s.cues := (rfl)
@[simp] theorem cregs_updDv (s : State) (f) : (s.updDv f).cregs = s.cregs := (rfl)
@[simp] theorem imem_updDv (s : State) (f) : (s.updDv f).imem = s.imem := (rfl)
@[simp] theorem dmem_updDv (s : State) (f) : (s.updDv f).dmem = s.dmem := (rfl)
@[simp] theorem scratch_updDv (s : State) (f) : (s.updDv f).scratch = s.scratch := (rfl)
@[simp] theorem ecc_updDv (s : State) (f) : (s.updDv f).ecc = s.ecc := (rfl)
@[simp] theorem evt_updDv (s : State) (f) : (s.updDv f).evt = s.evt := (rfl)
@[simp] theorem ps_updDv (s : State) (f) : (s.updDv f).ps = s.ps := (rfl)
@[simp] theorem rf_updDv (s : State) (f) : (s.updDv f).rf = s.rf := (rfl)
@[simp] theorem jtag_updDv (s : State) (f) : (s.updDv f).jtag = s.jtag := (rfl)
@[simp] theorem lts_updDv (s : State) (f) : (s.updDv f).lts = s.lts := (rfl)
@[simp] theorem sps_updDv (s : State) (f) : (s.updDv f).sps = s.sps := (rfl)
@[simp] theorem gl_updDv (s : State) (f) : (s.updDv f).gl = s.gl := (rfl)
@[simp] theorem fc_updDv (s : State) (f) : (s.updDv f).fc = s.fc := (rfl)
@[simp] theorem sl_updDv (s : State) (f) : (s.updDv f).sl = s.sl := (rfl)
@[simp] theorem cl_updDv (s : State) (f) : (s.updDv f).cl = s.cl := (rfl)

@[simp] theorem rd_updDv (s : State) (f) (k') : (s.updDv f).rd k' = s.rd k' := (rfl)
@[simp] theorem get_updDv (s : State) (f) (g) : (s.updDv f).get g = s.get g := (rfl)

/-! ### updGl -/

@[simp] theorem pending_updGl (s : State) (f) : (s.updGl f).pending = s.pending := (rfl)
@[simp] theorem tick_updGl (s : State) (f) : (s.updGl f).tick = s.tick := (rfl)
@[simp] theorem free_updGl (s : State) (f) : (s.updGl f).free = s.free := (rfl)
@[simp] theorem out_updGl (s : State) (f) : (s.updGl f).out = s.out := (rfl)
@[simp] theorem irqOwed_updGl (s : State) (f) : (s.updGl f).irqOwed = s.irqOwed := (rfl)
@[simp] theorem regs_updGl (s : State) (f) : (s.updGl f).regs = s.regs := (rfl)
@[simp] theorem eff_updGl (s : State) (f) : (s.updGl f).eff = s.eff := (rfl)
@[simp] theorem waiting_updGl (s : State) (f) : (s.updGl f).waiting = s.waiting := (rfl)
@[simp] theorem w1_updGl (s : State) (f) : (s.updGl f).w1 = s.w1 := (rfl)
@[simp] theorem slowQ_updGl (s : State) (f) : (s.updGl f).slowQ = s.slowQ := (rfl)
@[simp] theorem slowHold_updGl (s : State) (f) : (s.updGl f).slowHold = s.slowHold := (rfl)
@[simp] theorem slowCopy_updGl (s : State) (f) : (s.updGl f).slowCopy = s.slowCopy := (rfl)
@[simp] theorem msix_updGl (s : State) (f) : (s.updGl f).msix = s.msix := (rfl)
@[simp] theorem mem_updGl (s : State) (f) : (s.updGl f).mem = s.mem := (rfl)
@[simp] theorem bad_updGl (s : State) (f) : (s.updGl f).bad = s.bad := (rfl)
@[simp] theorem holding_updGl (s : State) (f) : (s.updGl f).holding = s.holding := (rfl)
@[simp] theorem dv_updGl (s : State) (f) : (s.updGl f).dv = s.dv := (rfl)
@[simp] theorem mbx_updGl (s : State) (f) : (s.updGl f).mbx = s.mbx := (rfl)
@[simp] theorem tb_updGl (s : State) (f) : (s.updGl f).tb = s.tb := (rfl)
@[simp] theorem heads_updGl (s : State) (f) : (s.updGl f).heads = s.heads := (rfl)
@[simp] theorem engines_updGl (s : State) (f) : (s.updGl f).engines = s.engines := (rfl)
@[simp] theorem groups_updGl (s : State) (f) : (s.updGl f).groups = s.groups := (rfl)
@[simp] theorem serial_updGl (s : State) (f) : (s.updGl f).serial = s.serial := (rfl)
@[simp] theorem vids_updGl (s : State) (f) : (s.updGl f).vids = s.vids := (rfl)
@[simp] theorem dts_updGl (s : State) (f) : (s.updGl f).dts = s.dts := (rfl)
@[simp] theorem ports_updGl (s : State) (f) : (s.updGl f).ports = s.ports := (rfl)
@[simp] theorem queues_updGl (s : State) (f) : (s.updGl f).queues = s.queues := (rfl)
@[simp] theorem flows_updGl (s : State) (f) : (s.updGl f).flows = s.flows := (rfl)
@[simp] theorem ads_updGl (s : State) (f) : (s.updGl f).ads = s.ads := (rfl)
@[simp] theorem hqs_updGl (s : State) (f) : (s.updGl f).hqs = s.hqs := (rfl)
@[simp] theorem glyphs_updGl (s : State) (f) : (s.updGl f).glyphs = s.glyphs := (rfl)
@[simp] theorem gpi_updGl (s : State) (f) : (s.updGl f).gpi = s.gpi := (rfl)
@[simp] theorem gpo_updGl (s : State) (f) : (s.updGl f).gpo = s.gpo := (rfl)
@[simp] theorem layers_updGl (s : State) (f) : (s.updGl f).layers = s.layers := (rfl)
@[simp] theorem pls_updGl (s : State) (f) : (s.updGl f).pls = s.pls := (rfl)
@[simp] theorem cks_updGl (s : State) (f) : (s.updGl f).cks = s.cks := (rfl)
@[simp] theorem cues_updGl (s : State) (f) : (s.updGl f).cues = s.cues := (rfl)
@[simp] theorem cregs_updGl (s : State) (f) : (s.updGl f).cregs = s.cregs := (rfl)
@[simp] theorem imem_updGl (s : State) (f) : (s.updGl f).imem = s.imem := (rfl)
@[simp] theorem dmem_updGl (s : State) (f) : (s.updGl f).dmem = s.dmem := (rfl)
@[simp] theorem scratch_updGl (s : State) (f) : (s.updGl f).scratch = s.scratch := (rfl)
@[simp] theorem ecc_updGl (s : State) (f) : (s.updGl f).ecc = s.ecc := (rfl)
@[simp] theorem evt_updGl (s : State) (f) : (s.updGl f).evt = s.evt := (rfl)
@[simp] theorem ps_updGl (s : State) (f) : (s.updGl f).ps = s.ps := (rfl)
@[simp] theorem rf_updGl (s : State) (f) : (s.updGl f).rf = s.rf := (rfl)
@[simp] theorem jtag_updGl (s : State) (f) : (s.updGl f).jtag = s.jtag := (rfl)
@[simp] theorem lts_updGl (s : State) (f) : (s.updGl f).lts = s.lts := (rfl)
@[simp] theorem sps_updGl (s : State) (f) : (s.updGl f).sps = s.sps := (rfl)
@[simp] theorem fc_updGl (s : State) (f) : (s.updGl f).fc = s.fc := (rfl)
@[simp] theorem sl_updGl (s : State) (f) : (s.updGl f).sl = s.sl := (rfl)
@[simp] theorem cl_updGl (s : State) (f) : (s.updGl f).cl = s.cl := (rfl)

@[simp] theorem rd_updGl (s : State) (f) (k') : (s.updGl f).rd k' = s.rd k' := (rfl)
@[simp] theorem get_updGl (s : State) (f) (g) : (s.updGl f).get g = s.get g := (rfl)

/-! ### setHead -/

@[simp] theorem pending_setHead (s : State) (n h) : (s.setHead n h).pending = s.pending := (rfl)
@[simp] theorem tick_setHead (s : State) (n h) : (s.setHead n h).tick = s.tick := (rfl)
@[simp] theorem free_setHead (s : State) (n h) : (s.setHead n h).free = s.free := (rfl)
@[simp] theorem out_setHead (s : State) (n h) : (s.setHead n h).out = s.out := (rfl)
@[simp] theorem irqOwed_setHead (s : State) (n h) : (s.setHead n h).irqOwed = s.irqOwed := (rfl)
@[simp] theorem regs_setHead (s : State) (n h) : (s.setHead n h).regs = s.regs := (rfl)
@[simp] theorem eff_setHead (s : State) (n h) : (s.setHead n h).eff = s.eff := (rfl)
@[simp] theorem waiting_setHead (s : State) (n h) : (s.setHead n h).waiting = s.waiting := (rfl)
@[simp] theorem w1_setHead (s : State) (n h) : (s.setHead n h).w1 = s.w1 := (rfl)
@[simp] theorem slowQ_setHead (s : State) (n h) : (s.setHead n h).slowQ = s.slowQ := (rfl)
@[simp] theorem slowHold_setHead (s : State) (n h) : (s.setHead n h).slowHold = s.slowHold := (rfl)
@[simp] theorem slowCopy_setHead (s : State) (n h) : (s.setHead n h).slowCopy = s.slowCopy := (rfl)
@[simp] theorem msix_setHead (s : State) (n h) : (s.setHead n h).msix = s.msix := (rfl)
@[simp] theorem mem_setHead (s : State) (n h) : (s.setHead n h).mem = s.mem := (rfl)
@[simp] theorem bad_setHead (s : State) (n h) : (s.setHead n h).bad = s.bad := (rfl)
@[simp] theorem holding_setHead (s : State) (n h) : (s.setHead n h).holding = s.holding := (rfl)
@[simp] theorem dv_setHead (s : State) (n h) : (s.setHead n h).dv = s.dv := (rfl)
@[simp] theorem mbx_setHead (s : State) (n h) : (s.setHead n h).mbx = s.mbx := (rfl)
@[simp] theorem tb_setHead (s : State) (n h) : (s.setHead n h).tb = s.tb := (rfl)
@[simp] theorem engines_setHead (s : State) (n h) : (s.setHead n h).engines = s.engines := (rfl)
@[simp] theorem groups_setHead (s : State) (n h) : (s.setHead n h).groups = s.groups := (rfl)
@[simp] theorem serial_setHead (s : State) (n h) : (s.setHead n h).serial = s.serial := (rfl)
@[simp] theorem vids_setHead (s : State) (n h) : (s.setHead n h).vids = s.vids := (rfl)
@[simp] theorem dts_setHead (s : State) (n h) : (s.setHead n h).dts = s.dts := (rfl)
@[simp] theorem ports_setHead (s : State) (n h) : (s.setHead n h).ports = s.ports := (rfl)
@[simp] theorem queues_setHead (s : State) (n h) : (s.setHead n h).queues = s.queues := (rfl)
@[simp] theorem flows_setHead (s : State) (n h) : (s.setHead n h).flows = s.flows := (rfl)
@[simp] theorem ads_setHead (s : State) (n h) : (s.setHead n h).ads = s.ads := (rfl)
@[simp] theorem hqs_setHead (s : State) (n h) : (s.setHead n h).hqs = s.hqs := (rfl)
@[simp] theorem glyphs_setHead (s : State) (n h) : (s.setHead n h).glyphs = s.glyphs := (rfl)
@[simp] theorem gpi_setHead (s : State) (n h) : (s.setHead n h).gpi = s.gpi := (rfl)
@[simp] theorem gpo_setHead (s : State) (n h) : (s.setHead n h).gpo = s.gpo := (rfl)
@[simp] theorem layers_setHead (s : State) (n h) : (s.setHead n h).layers = s.layers := (rfl)
@[simp] theorem pls_setHead (s : State) (n h) : (s.setHead n h).pls = s.pls := (rfl)
@[simp] theorem cks_setHead (s : State) (n h) : (s.setHead n h).cks = s.cks := (rfl)
@[simp] theorem cues_setHead (s : State) (n h) : (s.setHead n h).cues = s.cues := (rfl)
@[simp] theorem cregs_setHead (s : State) (n h) : (s.setHead n h).cregs = s.cregs := (rfl)
@[simp] theorem imem_setHead (s : State) (n h) : (s.setHead n h).imem = s.imem := (rfl)
@[simp] theorem dmem_setHead (s : State) (n h) : (s.setHead n h).dmem = s.dmem := (rfl)
@[simp] theorem scratch_setHead (s : State) (n h) : (s.setHead n h).scratch = s.scratch := (rfl)
@[simp] theorem ecc_setHead (s : State) (n h) : (s.setHead n h).ecc = s.ecc := (rfl)
@[simp] theorem evt_setHead (s : State) (n h) : (s.setHead n h).evt = s.evt := (rfl)
@[simp] theorem ps_setHead (s : State) (n h) : (s.setHead n h).ps = s.ps := (rfl)
@[simp] theorem rf_setHead (s : State) (n h) : (s.setHead n h).rf = s.rf := (rfl)
@[simp] theorem jtag_setHead (s : State) (n h) : (s.setHead n h).jtag = s.jtag := (rfl)
@[simp] theorem lts_setHead (s : State) (n h) : (s.setHead n h).lts = s.lts := (rfl)
@[simp] theorem sps_setHead (s : State) (n h) : (s.setHead n h).sps = s.sps := (rfl)
@[simp] theorem gl_setHead (s : State) (n h) : (s.setHead n h).gl = s.gl := (rfl)
@[simp] theorem fc_setHead (s : State) (n h) : (s.setHead n h).fc = s.fc := (rfl)
@[simp] theorem sl_setHead (s : State) (n h) : (s.setHead n h).sl = s.sl := (rfl)
@[simp] theorem cl_setHead (s : State) (n h) : (s.setHead n h).cl = s.cl := (rfl)

@[simp] theorem rd_setHead (s : State) (n h) (k') : (s.setHead n h).rd k' = s.rd k' := (rfl)
@[simp] theorem get_setHead (s : State) (n h) (g) : (s.setHead n h).get g = s.get g := (rfl)

/-! ### setCue -/

@[simp] theorem pending_setCue (s : State) (n c) : (s.setCue n c).pending = s.pending := (rfl)
@[simp] theorem tick_setCue (s : State) (n c) : (s.setCue n c).tick = s.tick := (rfl)
@[simp] theorem free_setCue (s : State) (n c) : (s.setCue n c).free = s.free := (rfl)
@[simp] theorem out_setCue (s : State) (n c) : (s.setCue n c).out = s.out := (rfl)
@[simp] theorem irqOwed_setCue (s : State) (n c) : (s.setCue n c).irqOwed = s.irqOwed := (rfl)
@[simp] theorem regs_setCue (s : State) (n c) : (s.setCue n c).regs = s.regs := (rfl)
@[simp] theorem eff_setCue (s : State) (n c) : (s.setCue n c).eff = s.eff := (rfl)
@[simp] theorem waiting_setCue (s : State) (n c) : (s.setCue n c).waiting = s.waiting := (rfl)
@[simp] theorem w1_setCue (s : State) (n c) : (s.setCue n c).w1 = s.w1 := (rfl)
@[simp] theorem slowQ_setCue (s : State) (n c) : (s.setCue n c).slowQ = s.slowQ := (rfl)
@[simp] theorem slowHold_setCue (s : State) (n c) : (s.setCue n c).slowHold = s.slowHold := (rfl)
@[simp] theorem slowCopy_setCue (s : State) (n c) : (s.setCue n c).slowCopy = s.slowCopy := (rfl)
@[simp] theorem msix_setCue (s : State) (n c) : (s.setCue n c).msix = s.msix := (rfl)
@[simp] theorem mem_setCue (s : State) (n c) : (s.setCue n c).mem = s.mem := (rfl)
@[simp] theorem bad_setCue (s : State) (n c) : (s.setCue n c).bad = s.bad := (rfl)
@[simp] theorem holding_setCue (s : State) (n c) : (s.setCue n c).holding = s.holding := (rfl)
@[simp] theorem dv_setCue (s : State) (n c) : (s.setCue n c).dv = s.dv := (rfl)
@[simp] theorem mbx_setCue (s : State) (n c) : (s.setCue n c).mbx = s.mbx := (rfl)
@[simp] theorem tb_setCue (s : State) (n c) : (s.setCue n c).tb = s.tb := (rfl)
@[simp] theorem heads_setCue (s : State) (n c) : (s.setCue n c).heads = s.heads := (rfl)
@[simp] theorem engines_setCue (s : State) (n c) : (s.setCue n c).engines = s.engines := (rfl)
@[simp] theorem groups_setCue (s : State) (n c) : (s.setCue n c).groups = s.groups := (rfl)
@[simp] theorem serial_setCue (s : State) (n c) : (s.setCue n c).serial = s.serial := (rfl)
@[simp] theorem vids_setCue (s : State) (n c) : (s.setCue n c).vids = s.vids := (rfl)
@[simp] theorem dts_setCue (s : State) (n c) : (s.setCue n c).dts = s.dts := (rfl)
@[simp] theorem ports_setCue (s : State) (n c) : (s.setCue n c).ports = s.ports := (rfl)
@[simp] theorem queues_setCue (s : State) (n c) : (s.setCue n c).queues = s.queues := (rfl)
@[simp] theorem flows_setCue (s : State) (n c) : (s.setCue n c).flows = s.flows := (rfl)
@[simp] theorem ads_setCue (s : State) (n c) : (s.setCue n c).ads = s.ads := (rfl)
@[simp] theorem hqs_setCue (s : State) (n c) : (s.setCue n c).hqs = s.hqs := (rfl)
@[simp] theorem glyphs_setCue (s : State) (n c) : (s.setCue n c).glyphs = s.glyphs := (rfl)
@[simp] theorem gpi_setCue (s : State) (n c) : (s.setCue n c).gpi = s.gpi := (rfl)
@[simp] theorem gpo_setCue (s : State) (n c) : (s.setCue n c).gpo = s.gpo := (rfl)
@[simp] theorem layers_setCue (s : State) (n c) : (s.setCue n c).layers = s.layers := (rfl)
@[simp] theorem pls_setCue (s : State) (n c) : (s.setCue n c).pls = s.pls := (rfl)
@[simp] theorem cks_setCue (s : State) (n c) : (s.setCue n c).cks = s.cks := (rfl)
@[simp] theorem cregs_setCue (s : State) (n c) : (s.setCue n c).cregs = s.cregs := (rfl)
@[simp] theorem imem_setCue (s : State) (n c) : (s.setCue n c).imem = s.imem := (rfl)
@[simp] theorem dmem_setCue (s : State) (n c) : (s.setCue n c).dmem = s.dmem := (rfl)
@[simp] theorem scratch_setCue (s : State) (n c) : (s.setCue n c).scratch = s.scratch := (rfl)
@[simp] theorem ecc_setCue (s : State) (n c) : (s.setCue n c).ecc = s.ecc := (rfl)
@[simp] theorem evt_setCue (s : State) (n c) : (s.setCue n c).evt = s.evt := (rfl)
@[simp] theorem ps_setCue (s : State) (n c) : (s.setCue n c).ps = s.ps := (rfl)
@[simp] theorem rf_setCue (s : State) (n c) : (s.setCue n c).rf = s.rf := (rfl)
@[simp] theorem jtag_setCue (s : State) (n c) : (s.setCue n c).jtag = s.jtag := (rfl)
@[simp] theorem lts_setCue (s : State) (n c) : (s.setCue n c).lts = s.lts := (rfl)
@[simp] theorem sps_setCue (s : State) (n c) : (s.setCue n c).sps = s.sps := (rfl)
@[simp] theorem gl_setCue (s : State) (n c) : (s.setCue n c).gl = s.gl := (rfl)
@[simp] theorem fc_setCue (s : State) (n c) : (s.setCue n c).fc = s.fc := (rfl)
@[simp] theorem sl_setCue (s : State) (n c) : (s.setCue n c).sl = s.sl := (rfl)
@[simp] theorem cl_setCue (s : State) (n c) : (s.setCue n c).cl = s.cl := (rfl)

@[simp] theorem rd_setCue (s : State) (n c) (k') : (s.setCue n c).rd k' = s.rd k' := (rfl)
@[simp] theorem get_setCue (s : State) (n c) (g) : (s.setCue n c).get g = s.get g := (rfl)

/-! ### setFlow -/

@[simp] theorem pending_setFlow (s : State) (v x) : (s.setFlow v x).pending = s.pending := (rfl)
@[simp] theorem tick_setFlow (s : State) (v x) : (s.setFlow v x).tick = s.tick := (rfl)
@[simp] theorem free_setFlow (s : State) (v x) : (s.setFlow v x).free = s.free := (rfl)
@[simp] theorem out_setFlow (s : State) (v x) : (s.setFlow v x).out = s.out := (rfl)
@[simp] theorem irqOwed_setFlow (s : State) (v x) : (s.setFlow v x).irqOwed = s.irqOwed := (rfl)
@[simp] theorem regs_setFlow (s : State) (v x) : (s.setFlow v x).regs = s.regs := (rfl)
@[simp] theorem eff_setFlow (s : State) (v x) : (s.setFlow v x).eff = s.eff := (rfl)
@[simp] theorem waiting_setFlow (s : State) (v x) : (s.setFlow v x).waiting = s.waiting := (rfl)
@[simp] theorem w1_setFlow (s : State) (v x) : (s.setFlow v x).w1 = s.w1 := (rfl)
@[simp] theorem slowQ_setFlow (s : State) (v x) : (s.setFlow v x).slowQ = s.slowQ := (rfl)
@[simp] theorem slowHold_setFlow (s : State) (v x) : (s.setFlow v x).slowHold = s.slowHold := (rfl)
@[simp] theorem slowCopy_setFlow (s : State) (v x) : (s.setFlow v x).slowCopy = s.slowCopy := (rfl)
@[simp] theorem msix_setFlow (s : State) (v x) : (s.setFlow v x).msix = s.msix := (rfl)
@[simp] theorem mem_setFlow (s : State) (v x) : (s.setFlow v x).mem = s.mem := (rfl)
@[simp] theorem bad_setFlow (s : State) (v x) : (s.setFlow v x).bad = s.bad := (rfl)
@[simp] theorem holding_setFlow (s : State) (v x) : (s.setFlow v x).holding = s.holding := (rfl)
@[simp] theorem dv_setFlow (s : State) (v x) : (s.setFlow v x).dv = s.dv := (rfl)
@[simp] theorem mbx_setFlow (s : State) (v x) : (s.setFlow v x).mbx = s.mbx := (rfl)
@[simp] theorem tb_setFlow (s : State) (v x) : (s.setFlow v x).tb = s.tb := (rfl)
@[simp] theorem heads_setFlow (s : State) (v x) : (s.setFlow v x).heads = s.heads := (rfl)
@[simp] theorem engines_setFlow (s : State) (v x) : (s.setFlow v x).engines = s.engines := (rfl)
@[simp] theorem groups_setFlow (s : State) (v x) : (s.setFlow v x).groups = s.groups := (rfl)
@[simp] theorem serial_setFlow (s : State) (v x) : (s.setFlow v x).serial = s.serial := (rfl)
@[simp] theorem vids_setFlow (s : State) (v x) : (s.setFlow v x).vids = s.vids := (rfl)
@[simp] theorem dts_setFlow (s : State) (v x) : (s.setFlow v x).dts = s.dts := (rfl)
@[simp] theorem ports_setFlow (s : State) (v x) : (s.setFlow v x).ports = s.ports := (rfl)
@[simp] theorem queues_setFlow (s : State) (v x) : (s.setFlow v x).queues = s.queues := (rfl)
@[simp] theorem ads_setFlow (s : State) (v x) : (s.setFlow v x).ads = s.ads := (rfl)
@[simp] theorem hqs_setFlow (s : State) (v x) : (s.setFlow v x).hqs = s.hqs := (rfl)
@[simp] theorem glyphs_setFlow (s : State) (v x) : (s.setFlow v x).glyphs = s.glyphs := (rfl)
@[simp] theorem gpi_setFlow (s : State) (v x) : (s.setFlow v x).gpi = s.gpi := (rfl)
@[simp] theorem gpo_setFlow (s : State) (v x) : (s.setFlow v x).gpo = s.gpo := (rfl)
@[simp] theorem layers_setFlow (s : State) (v x) : (s.setFlow v x).layers = s.layers := (rfl)
@[simp] theorem pls_setFlow (s : State) (v x) : (s.setFlow v x).pls = s.pls := (rfl)
@[simp] theorem cks_setFlow (s : State) (v x) : (s.setFlow v x).cks = s.cks := (rfl)
@[simp] theorem cues_setFlow (s : State) (v x) : (s.setFlow v x).cues = s.cues := (rfl)
@[simp] theorem cregs_setFlow (s : State) (v x) : (s.setFlow v x).cregs = s.cregs := (rfl)
@[simp] theorem imem_setFlow (s : State) (v x) : (s.setFlow v x).imem = s.imem := (rfl)
@[simp] theorem dmem_setFlow (s : State) (v x) : (s.setFlow v x).dmem = s.dmem := (rfl)
@[simp] theorem scratch_setFlow (s : State) (v x) : (s.setFlow v x).scratch = s.scratch := (rfl)
@[simp] theorem ecc_setFlow (s : State) (v x) : (s.setFlow v x).ecc = s.ecc := (rfl)
@[simp] theorem evt_setFlow (s : State) (v x) : (s.setFlow v x).evt = s.evt := (rfl)
@[simp] theorem ps_setFlow (s : State) (v x) : (s.setFlow v x).ps = s.ps := (rfl)
@[simp] theorem rf_setFlow (s : State) (v x) : (s.setFlow v x).rf = s.rf := (rfl)
@[simp] theorem jtag_setFlow (s : State) (v x) : (s.setFlow v x).jtag = s.jtag := (rfl)
@[simp] theorem lts_setFlow (s : State) (v x) : (s.setFlow v x).lts = s.lts := (rfl)
@[simp] theorem sps_setFlow (s : State) (v x) : (s.setFlow v x).sps = s.sps := (rfl)
@[simp] theorem gl_setFlow (s : State) (v x) : (s.setFlow v x).gl = s.gl := (rfl)
@[simp] theorem fc_setFlow (s : State) (v x) : (s.setFlow v x).fc = s.fc := (rfl)
@[simp] theorem sl_setFlow (s : State) (v x) : (s.setFlow v x).sl = s.sl := (rfl)
@[simp] theorem cl_setFlow (s : State) (v x) : (s.setFlow v x).cl = s.cl := (rfl)

@[simp] theorem rd_setFlow (s : State) (v x) (k') : (s.setFlow v x).rd k' = s.rd k' := (rfl)
@[simp] theorem get_setFlow (s : State) (v x) (g) : (s.setFlow v x).get g = s.get g := (rfl)

/-! ### setQueue -/

@[simp] theorem pending_setQueue (s : State) (q x) : (s.setQueue q x).pending = s.pending := (rfl)
@[simp] theorem tick_setQueue (s : State) (q x) : (s.setQueue q x).tick = s.tick := (rfl)
@[simp] theorem free_setQueue (s : State) (q x) : (s.setQueue q x).free = s.free := (rfl)
@[simp] theorem out_setQueue (s : State) (q x) : (s.setQueue q x).out = s.out := (rfl)
@[simp] theorem irqOwed_setQueue (s : State) (q x) : (s.setQueue q x).irqOwed = s.irqOwed := (rfl)
@[simp] theorem regs_setQueue (s : State) (q x) : (s.setQueue q x).regs = s.regs := (rfl)
@[simp] theorem eff_setQueue (s : State) (q x) : (s.setQueue q x).eff = s.eff := (rfl)
@[simp] theorem waiting_setQueue (s : State) (q x) : (s.setQueue q x).waiting = s.waiting := (rfl)
@[simp] theorem w1_setQueue (s : State) (q x) : (s.setQueue q x).w1 = s.w1 := (rfl)
@[simp] theorem slowQ_setQueue (s : State) (q x) : (s.setQueue q x).slowQ = s.slowQ := (rfl)
@[simp] theorem slowHold_setQueue (s : State) (q x) : (s.setQueue q x).slowHold = s.slowHold := (rfl)
@[simp] theorem slowCopy_setQueue (s : State) (q x) : (s.setQueue q x).slowCopy = s.slowCopy := (rfl)
@[simp] theorem msix_setQueue (s : State) (q x) : (s.setQueue q x).msix = s.msix := (rfl)
@[simp] theorem mem_setQueue (s : State) (q x) : (s.setQueue q x).mem = s.mem := (rfl)
@[simp] theorem bad_setQueue (s : State) (q x) : (s.setQueue q x).bad = s.bad := (rfl)
@[simp] theorem holding_setQueue (s : State) (q x) : (s.setQueue q x).holding = s.holding := (rfl)
@[simp] theorem dv_setQueue (s : State) (q x) : (s.setQueue q x).dv = s.dv := (rfl)
@[simp] theorem mbx_setQueue (s : State) (q x) : (s.setQueue q x).mbx = s.mbx := (rfl)
@[simp] theorem tb_setQueue (s : State) (q x) : (s.setQueue q x).tb = s.tb := (rfl)
@[simp] theorem heads_setQueue (s : State) (q x) : (s.setQueue q x).heads = s.heads := (rfl)
@[simp] theorem engines_setQueue (s : State) (q x) : (s.setQueue q x).engines = s.engines := (rfl)
@[simp] theorem groups_setQueue (s : State) (q x) : (s.setQueue q x).groups = s.groups := (rfl)
@[simp] theorem serial_setQueue (s : State) (q x) : (s.setQueue q x).serial = s.serial := (rfl)
@[simp] theorem vids_setQueue (s : State) (q x) : (s.setQueue q x).vids = s.vids := (rfl)
@[simp] theorem dts_setQueue (s : State) (q x) : (s.setQueue q x).dts = s.dts := (rfl)
@[simp] theorem ports_setQueue (s : State) (q x) : (s.setQueue q x).ports = s.ports := (rfl)
@[simp] theorem flows_setQueue (s : State) (q x) : (s.setQueue q x).flows = s.flows := (rfl)
@[simp] theorem ads_setQueue (s : State) (q x) : (s.setQueue q x).ads = s.ads := (rfl)
@[simp] theorem hqs_setQueue (s : State) (q x) : (s.setQueue q x).hqs = s.hqs := (rfl)
@[simp] theorem glyphs_setQueue (s : State) (q x) : (s.setQueue q x).glyphs = s.glyphs := (rfl)
@[simp] theorem gpi_setQueue (s : State) (q x) : (s.setQueue q x).gpi = s.gpi := (rfl)
@[simp] theorem gpo_setQueue (s : State) (q x) : (s.setQueue q x).gpo = s.gpo := (rfl)
@[simp] theorem layers_setQueue (s : State) (q x) : (s.setQueue q x).layers = s.layers := (rfl)
@[simp] theorem pls_setQueue (s : State) (q x) : (s.setQueue q x).pls = s.pls := (rfl)
@[simp] theorem cks_setQueue (s : State) (q x) : (s.setQueue q x).cks = s.cks := (rfl)
@[simp] theorem cues_setQueue (s : State) (q x) : (s.setQueue q x).cues = s.cues := (rfl)
@[simp] theorem cregs_setQueue (s : State) (q x) : (s.setQueue q x).cregs = s.cregs := (rfl)
@[simp] theorem imem_setQueue (s : State) (q x) : (s.setQueue q x).imem = s.imem := (rfl)
@[simp] theorem dmem_setQueue (s : State) (q x) : (s.setQueue q x).dmem = s.dmem := (rfl)
@[simp] theorem scratch_setQueue (s : State) (q x) : (s.setQueue q x).scratch = s.scratch := (rfl)
@[simp] theorem ecc_setQueue (s : State) (q x) : (s.setQueue q x).ecc = s.ecc := (rfl)
@[simp] theorem evt_setQueue (s : State) (q x) : (s.setQueue q x).evt = s.evt := (rfl)
@[simp] theorem ps_setQueue (s : State) (q x) : (s.setQueue q x).ps = s.ps := (rfl)
@[simp] theorem rf_setQueue (s : State) (q x) : (s.setQueue q x).rf = s.rf := (rfl)
@[simp] theorem jtag_setQueue (s : State) (q x) : (s.setQueue q x).jtag = s.jtag := (rfl)
@[simp] theorem lts_setQueue (s : State) (q x) : (s.setQueue q x).lts = s.lts := (rfl)
@[simp] theorem sps_setQueue (s : State) (q x) : (s.setQueue q x).sps = s.sps := (rfl)
@[simp] theorem gl_setQueue (s : State) (q x) : (s.setQueue q x).gl = s.gl := (rfl)
@[simp] theorem fc_setQueue (s : State) (q x) : (s.setQueue q x).fc = s.fc := (rfl)
@[simp] theorem sl_setQueue (s : State) (q x) : (s.setQueue q x).sl = s.sl := (rfl)
@[simp] theorem cl_setQueue (s : State) (q x) : (s.setQueue q x).cl = s.cl := (rfl)

@[simp] theorem rd_setQueue (s : State) (q x) (k') : (s.setQueue q x).rd k' = s.rd k' := (rfl)
@[simp] theorem get_setQueue (s : State) (q x) (g) : (s.setQueue q x).get g = s.get g := (rfl)

/-! ### setPort -/

@[simp] theorem pending_setPort (s : State) (p x) : (s.setPort p x).pending = s.pending := (rfl)
@[simp] theorem tick_setPort (s : State) (p x) : (s.setPort p x).tick = s.tick := (rfl)
@[simp] theorem free_setPort (s : State) (p x) : (s.setPort p x).free = s.free := (rfl)
@[simp] theorem out_setPort (s : State) (p x) : (s.setPort p x).out = s.out := (rfl)
@[simp] theorem irqOwed_setPort (s : State) (p x) : (s.setPort p x).irqOwed = s.irqOwed := (rfl)
@[simp] theorem regs_setPort (s : State) (p x) : (s.setPort p x).regs = s.regs := (rfl)
@[simp] theorem eff_setPort (s : State) (p x) : (s.setPort p x).eff = s.eff := (rfl)
@[simp] theorem waiting_setPort (s : State) (p x) : (s.setPort p x).waiting = s.waiting := (rfl)
@[simp] theorem w1_setPort (s : State) (p x) : (s.setPort p x).w1 = s.w1 := (rfl)
@[simp] theorem slowQ_setPort (s : State) (p x) : (s.setPort p x).slowQ = s.slowQ := (rfl)
@[simp] theorem slowHold_setPort (s : State) (p x) : (s.setPort p x).slowHold = s.slowHold := (rfl)
@[simp] theorem slowCopy_setPort (s : State) (p x) : (s.setPort p x).slowCopy = s.slowCopy := (rfl)
@[simp] theorem msix_setPort (s : State) (p x) : (s.setPort p x).msix = s.msix := (rfl)
@[simp] theorem mem_setPort (s : State) (p x) : (s.setPort p x).mem = s.mem := (rfl)
@[simp] theorem bad_setPort (s : State) (p x) : (s.setPort p x).bad = s.bad := (rfl)
@[simp] theorem holding_setPort (s : State) (p x) : (s.setPort p x).holding = s.holding := (rfl)
@[simp] theorem dv_setPort (s : State) (p x) : (s.setPort p x).dv = s.dv := (rfl)
@[simp] theorem mbx_setPort (s : State) (p x) : (s.setPort p x).mbx = s.mbx := (rfl)
@[simp] theorem tb_setPort (s : State) (p x) : (s.setPort p x).tb = s.tb := (rfl)
@[simp] theorem heads_setPort (s : State) (p x) : (s.setPort p x).heads = s.heads := (rfl)
@[simp] theorem engines_setPort (s : State) (p x) : (s.setPort p x).engines = s.engines := (rfl)
@[simp] theorem groups_setPort (s : State) (p x) : (s.setPort p x).groups = s.groups := (rfl)
@[simp] theorem serial_setPort (s : State) (p x) : (s.setPort p x).serial = s.serial := (rfl)
@[simp] theorem vids_setPort (s : State) (p x) : (s.setPort p x).vids = s.vids := (rfl)
@[simp] theorem dts_setPort (s : State) (p x) : (s.setPort p x).dts = s.dts := (rfl)
@[simp] theorem queues_setPort (s : State) (p x) : (s.setPort p x).queues = s.queues := (rfl)
@[simp] theorem flows_setPort (s : State) (p x) : (s.setPort p x).flows = s.flows := (rfl)
@[simp] theorem ads_setPort (s : State) (p x) : (s.setPort p x).ads = s.ads := (rfl)
@[simp] theorem hqs_setPort (s : State) (p x) : (s.setPort p x).hqs = s.hqs := (rfl)
@[simp] theorem glyphs_setPort (s : State) (p x) : (s.setPort p x).glyphs = s.glyphs := (rfl)
@[simp] theorem gpi_setPort (s : State) (p x) : (s.setPort p x).gpi = s.gpi := (rfl)
@[simp] theorem gpo_setPort (s : State) (p x) : (s.setPort p x).gpo = s.gpo := (rfl)
@[simp] theorem layers_setPort (s : State) (p x) : (s.setPort p x).layers = s.layers := (rfl)
@[simp] theorem pls_setPort (s : State) (p x) : (s.setPort p x).pls = s.pls := (rfl)
@[simp] theorem cks_setPort (s : State) (p x) : (s.setPort p x).cks = s.cks := (rfl)
@[simp] theorem cues_setPort (s : State) (p x) : (s.setPort p x).cues = s.cues := (rfl)
@[simp] theorem cregs_setPort (s : State) (p x) : (s.setPort p x).cregs = s.cregs := (rfl)
@[simp] theorem imem_setPort (s : State) (p x) : (s.setPort p x).imem = s.imem := (rfl)
@[simp] theorem dmem_setPort (s : State) (p x) : (s.setPort p x).dmem = s.dmem := (rfl)
@[simp] theorem scratch_setPort (s : State) (p x) : (s.setPort p x).scratch = s.scratch := (rfl)
@[simp] theorem ecc_setPort (s : State) (p x) : (s.setPort p x).ecc = s.ecc := (rfl)
@[simp] theorem evt_setPort (s : State) (p x) : (s.setPort p x).evt = s.evt := (rfl)
@[simp] theorem ps_setPort (s : State) (p x) : (s.setPort p x).ps = s.ps := (rfl)
@[simp] theorem rf_setPort (s : State) (p x) : (s.setPort p x).rf = s.rf := (rfl)
@[simp] theorem jtag_setPort (s : State) (p x) : (s.setPort p x).jtag = s.jtag := (rfl)
@[simp] theorem lts_setPort (s : State) (p x) : (s.setPort p x).lts = s.lts := (rfl)
@[simp] theorem sps_setPort (s : State) (p x) : (s.setPort p x).sps = s.sps := (rfl)
@[simp] theorem gl_setPort (s : State) (p x) : (s.setPort p x).gl = s.gl := (rfl)
@[simp] theorem fc_setPort (s : State) (p x) : (s.setPort p x).fc = s.fc := (rfl)
@[simp] theorem sl_setPort (s : State) (p x) : (s.setPort p x).sl = s.sl := (rfl)
@[simp] theorem cl_setPort (s : State) (p x) : (s.setPort p x).cl = s.cl := (rfl)

@[simp] theorem rd_setPort (s : State) (p x) (k') : (s.setPort p x).rd k' = s.rd k' := (rfl)
@[simp] theorem get_setPort (s : State) (p x) (g) : (s.setPort p x).get g = s.get g := (rfl)

/-! ### setSp -/

@[simp] theorem pending_setSp (s : State) (n x) : (s.setSp n x).pending = s.pending := (rfl)
@[simp] theorem tick_setSp (s : State) (n x) : (s.setSp n x).tick = s.tick := (rfl)
@[simp] theorem free_setSp (s : State) (n x) : (s.setSp n x).free = s.free := (rfl)
@[simp] theorem out_setSp (s : State) (n x) : (s.setSp n x).out = s.out := (rfl)
@[simp] theorem irqOwed_setSp (s : State) (n x) : (s.setSp n x).irqOwed = s.irqOwed := (rfl)
@[simp] theorem regs_setSp (s : State) (n x) : (s.setSp n x).regs = s.regs := (rfl)
@[simp] theorem eff_setSp (s : State) (n x) : (s.setSp n x).eff = s.eff := (rfl)
@[simp] theorem waiting_setSp (s : State) (n x) : (s.setSp n x).waiting = s.waiting := (rfl)
@[simp] theorem w1_setSp (s : State) (n x) : (s.setSp n x).w1 = s.w1 := (rfl)
@[simp] theorem slowQ_setSp (s : State) (n x) : (s.setSp n x).slowQ = s.slowQ := (rfl)
@[simp] theorem slowHold_setSp (s : State) (n x) : (s.setSp n x).slowHold = s.slowHold := (rfl)
@[simp] theorem slowCopy_setSp (s : State) (n x) : (s.setSp n x).slowCopy = s.slowCopy := (rfl)
@[simp] theorem msix_setSp (s : State) (n x) : (s.setSp n x).msix = s.msix := (rfl)
@[simp] theorem mem_setSp (s : State) (n x) : (s.setSp n x).mem = s.mem := (rfl)
@[simp] theorem bad_setSp (s : State) (n x) : (s.setSp n x).bad = s.bad := (rfl)
@[simp] theorem holding_setSp (s : State) (n x) : (s.setSp n x).holding = s.holding := (rfl)
@[simp] theorem dv_setSp (s : State) (n x) : (s.setSp n x).dv = s.dv := (rfl)
@[simp] theorem mbx_setSp (s : State) (n x) : (s.setSp n x).mbx = s.mbx := (rfl)
@[simp] theorem tb_setSp (s : State) (n x) : (s.setSp n x).tb = s.tb := (rfl)
@[simp] theorem heads_setSp (s : State) (n x) : (s.setSp n x).heads = s.heads := (rfl)
@[simp] theorem engines_setSp (s : State) (n x) : (s.setSp n x).engines = s.engines := (rfl)
@[simp] theorem groups_setSp (s : State) (n x) : (s.setSp n x).groups = s.groups := (rfl)
@[simp] theorem serial_setSp (s : State) (n x) : (s.setSp n x).serial = s.serial := (rfl)
@[simp] theorem vids_setSp (s : State) (n x) : (s.setSp n x).vids = s.vids := (rfl)
@[simp] theorem dts_setSp (s : State) (n x) : (s.setSp n x).dts = s.dts := (rfl)
@[simp] theorem ports_setSp (s : State) (n x) : (s.setSp n x).ports = s.ports := (rfl)
@[simp] theorem queues_setSp (s : State) (n x) : (s.setSp n x).queues = s.queues := (rfl)
@[simp] theorem flows_setSp (s : State) (n x) : (s.setSp n x).flows = s.flows := (rfl)
@[simp] theorem ads_setSp (s : State) (n x) : (s.setSp n x).ads = s.ads := (rfl)
@[simp] theorem hqs_setSp (s : State) (n x) : (s.setSp n x).hqs = s.hqs := (rfl)
@[simp] theorem glyphs_setSp (s : State) (n x) : (s.setSp n x).glyphs = s.glyphs := (rfl)
@[simp] theorem gpi_setSp (s : State) (n x) : (s.setSp n x).gpi = s.gpi := (rfl)
@[simp] theorem gpo_setSp (s : State) (n x) : (s.setSp n x).gpo = s.gpo := (rfl)
@[simp] theorem layers_setSp (s : State) (n x) : (s.setSp n x).layers = s.layers := (rfl)
@[simp] theorem pls_setSp (s : State) (n x) : (s.setSp n x).pls = s.pls := (rfl)
@[simp] theorem cks_setSp (s : State) (n x) : (s.setSp n x).cks = s.cks := (rfl)
@[simp] theorem cues_setSp (s : State) (n x) : (s.setSp n x).cues = s.cues := (rfl)
@[simp] theorem cregs_setSp (s : State) (n x) : (s.setSp n x).cregs = s.cregs := (rfl)
@[simp] theorem imem_setSp (s : State) (n x) : (s.setSp n x).imem = s.imem := (rfl)
@[simp] theorem dmem_setSp (s : State) (n x) : (s.setSp n x).dmem = s.dmem := (rfl)
@[simp] theorem scratch_setSp (s : State) (n x) : (s.setSp n x).scratch = s.scratch := (rfl)
@[simp] theorem ecc_setSp (s : State) (n x) : (s.setSp n x).ecc = s.ecc := (rfl)
@[simp] theorem evt_setSp (s : State) (n x) : (s.setSp n x).evt = s.evt := (rfl)
@[simp] theorem ps_setSp (s : State) (n x) : (s.setSp n x).ps = s.ps := (rfl)
@[simp] theorem rf_setSp (s : State) (n x) : (s.setSp n x).rf = s.rf := (rfl)
@[simp] theorem jtag_setSp (s : State) (n x) : (s.setSp n x).jtag = s.jtag := (rfl)
@[simp] theorem lts_setSp (s : State) (n x) : (s.setSp n x).lts = s.lts := (rfl)
@[simp] theorem gl_setSp (s : State) (n x) : (s.setSp n x).gl = s.gl := (rfl)
@[simp] theorem fc_setSp (s : State) (n x) : (s.setSp n x).fc = s.fc := (rfl)
@[simp] theorem sl_setSp (s : State) (n x) : (s.setSp n x).sl = s.sl := (rfl)
@[simp] theorem cl_setSp (s : State) (n x) : (s.setSp n x).cl = s.cl := (rfl)

@[simp] theorem rd_setSp (s : State) (n x) (k') : (s.setSp n x).rd k' = s.rd k' := (rfl)
@[simp] theorem get_setSp (s : State) (n x) (g) : (s.setSp n x).get g = s.get g := (rfl)

/-! ### setCk -/

@[simp] theorem pending_setCk (s : State) (u c) : (s.setCk u c).pending = s.pending := (rfl)
@[simp] theorem tick_setCk (s : State) (u c) : (s.setCk u c).tick = s.tick := (rfl)
@[simp] theorem free_setCk (s : State) (u c) : (s.setCk u c).free = s.free := (rfl)
@[simp] theorem out_setCk (s : State) (u c) : (s.setCk u c).out = s.out := (rfl)
@[simp] theorem irqOwed_setCk (s : State) (u c) : (s.setCk u c).irqOwed = s.irqOwed := (rfl)
@[simp] theorem regs_setCk (s : State) (u c) : (s.setCk u c).regs = s.regs := (rfl)
@[simp] theorem eff_setCk (s : State) (u c) : (s.setCk u c).eff = s.eff := (rfl)
@[simp] theorem waiting_setCk (s : State) (u c) : (s.setCk u c).waiting = s.waiting := (rfl)
@[simp] theorem w1_setCk (s : State) (u c) : (s.setCk u c).w1 = s.w1 := (rfl)
@[simp] theorem slowQ_setCk (s : State) (u c) : (s.setCk u c).slowQ = s.slowQ := (rfl)
@[simp] theorem slowHold_setCk (s : State) (u c) : (s.setCk u c).slowHold = s.slowHold := (rfl)
@[simp] theorem slowCopy_setCk (s : State) (u c) : (s.setCk u c).slowCopy = s.slowCopy := (rfl)
@[simp] theorem msix_setCk (s : State) (u c) : (s.setCk u c).msix = s.msix := (rfl)
@[simp] theorem mem_setCk (s : State) (u c) : (s.setCk u c).mem = s.mem := (rfl)
@[simp] theorem bad_setCk (s : State) (u c) : (s.setCk u c).bad = s.bad := (rfl)
@[simp] theorem holding_setCk (s : State) (u c) : (s.setCk u c).holding = s.holding := (rfl)
@[simp] theorem dv_setCk (s : State) (u c) : (s.setCk u c).dv = s.dv := (rfl)
@[simp] theorem mbx_setCk (s : State) (u c) : (s.setCk u c).mbx = s.mbx := (rfl)
@[simp] theorem tb_setCk (s : State) (u c) : (s.setCk u c).tb = s.tb := (rfl)
@[simp] theorem heads_setCk (s : State) (u c) : (s.setCk u c).heads = s.heads := (rfl)
@[simp] theorem engines_setCk (s : State) (u c) : (s.setCk u c).engines = s.engines := (rfl)
@[simp] theorem groups_setCk (s : State) (u c) : (s.setCk u c).groups = s.groups := (rfl)
@[simp] theorem serial_setCk (s : State) (u c) : (s.setCk u c).serial = s.serial := (rfl)
@[simp] theorem vids_setCk (s : State) (u c) : (s.setCk u c).vids = s.vids := (rfl)
@[simp] theorem dts_setCk (s : State) (u c) : (s.setCk u c).dts = s.dts := (rfl)
@[simp] theorem ports_setCk (s : State) (u c) : (s.setCk u c).ports = s.ports := (rfl)
@[simp] theorem queues_setCk (s : State) (u c) : (s.setCk u c).queues = s.queues := (rfl)
@[simp] theorem flows_setCk (s : State) (u c) : (s.setCk u c).flows = s.flows := (rfl)
@[simp] theorem ads_setCk (s : State) (u c) : (s.setCk u c).ads = s.ads := (rfl)
@[simp] theorem hqs_setCk (s : State) (u c) : (s.setCk u c).hqs = s.hqs := (rfl)
@[simp] theorem glyphs_setCk (s : State) (u c) : (s.setCk u c).glyphs = s.glyphs := (rfl)
@[simp] theorem gpi_setCk (s : State) (u c) : (s.setCk u c).gpi = s.gpi := (rfl)
@[simp] theorem gpo_setCk (s : State) (u c) : (s.setCk u c).gpo = s.gpo := (rfl)
@[simp] theorem layers_setCk (s : State) (u c) : (s.setCk u c).layers = s.layers := (rfl)
@[simp] theorem pls_setCk (s : State) (u c) : (s.setCk u c).pls = s.pls := (rfl)
@[simp] theorem cues_setCk (s : State) (u c) : (s.setCk u c).cues = s.cues := (rfl)
@[simp] theorem cregs_setCk (s : State) (u c) : (s.setCk u c).cregs = s.cregs := (rfl)
@[simp] theorem imem_setCk (s : State) (u c) : (s.setCk u c).imem = s.imem := (rfl)
@[simp] theorem dmem_setCk (s : State) (u c) : (s.setCk u c).dmem = s.dmem := (rfl)
@[simp] theorem scratch_setCk (s : State) (u c) : (s.setCk u c).scratch = s.scratch := (rfl)
@[simp] theorem ecc_setCk (s : State) (u c) : (s.setCk u c).ecc = s.ecc := (rfl)
@[simp] theorem evt_setCk (s : State) (u c) : (s.setCk u c).evt = s.evt := (rfl)
@[simp] theorem ps_setCk (s : State) (u c) : (s.setCk u c).ps = s.ps := (rfl)
@[simp] theorem rf_setCk (s : State) (u c) : (s.setCk u c).rf = s.rf := (rfl)
@[simp] theorem jtag_setCk (s : State) (u c) : (s.setCk u c).jtag = s.jtag := (rfl)
@[simp] theorem lts_setCk (s : State) (u c) : (s.setCk u c).lts = s.lts := (rfl)
@[simp] theorem sps_setCk (s : State) (u c) : (s.setCk u c).sps = s.sps := (rfl)
@[simp] theorem gl_setCk (s : State) (u c) : (s.setCk u c).gl = s.gl := (rfl)
@[simp] theorem fc_setCk (s : State) (u c) : (s.setCk u c).fc = s.fc := (rfl)
@[simp] theorem sl_setCk (s : State) (u c) : (s.setCk u c).sl = s.sl := (rfl)
@[simp] theorem cl_setCk (s : State) (u c) : (s.setCk u c).cl = s.cl := (rfl)

@[simp] theorem rd_setCk (s : State) (u c) (k') : (s.setCk u c).rd k' = s.rd k' := (rfl)
@[simp] theorem get_setCk (s : State) (u c) (g) : (s.setCk u c).get g = s.get g := (rfl)

/-! ### setPl -/

@[simp] theorem pending_setPl (s : State) (n p) : (s.setPl n p).pending = s.pending := (rfl)
@[simp] theorem tick_setPl (s : State) (n p) : (s.setPl n p).tick = s.tick := (rfl)
@[simp] theorem free_setPl (s : State) (n p) : (s.setPl n p).free = s.free := (rfl)
@[simp] theorem out_setPl (s : State) (n p) : (s.setPl n p).out = s.out := (rfl)
@[simp] theorem irqOwed_setPl (s : State) (n p) : (s.setPl n p).irqOwed = s.irqOwed := (rfl)
@[simp] theorem regs_setPl (s : State) (n p) : (s.setPl n p).regs = s.regs := (rfl)
@[simp] theorem eff_setPl (s : State) (n p) : (s.setPl n p).eff = s.eff := (rfl)
@[simp] theorem waiting_setPl (s : State) (n p) : (s.setPl n p).waiting = s.waiting := (rfl)
@[simp] theorem w1_setPl (s : State) (n p) : (s.setPl n p).w1 = s.w1 := (rfl)
@[simp] theorem slowQ_setPl (s : State) (n p) : (s.setPl n p).slowQ = s.slowQ := (rfl)
@[simp] theorem slowHold_setPl (s : State) (n p) : (s.setPl n p).slowHold = s.slowHold := (rfl)
@[simp] theorem slowCopy_setPl (s : State) (n p) : (s.setPl n p).slowCopy = s.slowCopy := (rfl)
@[simp] theorem msix_setPl (s : State) (n p) : (s.setPl n p).msix = s.msix := (rfl)
@[simp] theorem mem_setPl (s : State) (n p) : (s.setPl n p).mem = s.mem := (rfl)
@[simp] theorem bad_setPl (s : State) (n p) : (s.setPl n p).bad = s.bad := (rfl)
@[simp] theorem holding_setPl (s : State) (n p) : (s.setPl n p).holding = s.holding := (rfl)
@[simp] theorem dv_setPl (s : State) (n p) : (s.setPl n p).dv = s.dv := (rfl)
@[simp] theorem mbx_setPl (s : State) (n p) : (s.setPl n p).mbx = s.mbx := (rfl)
@[simp] theorem tb_setPl (s : State) (n p) : (s.setPl n p).tb = s.tb := (rfl)
@[simp] theorem heads_setPl (s : State) (n p) : (s.setPl n p).heads = s.heads := (rfl)
@[simp] theorem engines_setPl (s : State) (n p) : (s.setPl n p).engines = s.engines := (rfl)
@[simp] theorem groups_setPl (s : State) (n p) : (s.setPl n p).groups = s.groups := (rfl)
@[simp] theorem serial_setPl (s : State) (n p) : (s.setPl n p).serial = s.serial := (rfl)
@[simp] theorem vids_setPl (s : State) (n p) : (s.setPl n p).vids = s.vids := (rfl)
@[simp] theorem dts_setPl (s : State) (n p) : (s.setPl n p).dts = s.dts := (rfl)
@[simp] theorem ports_setPl (s : State) (n p) : (s.setPl n p).ports = s.ports := (rfl)
@[simp] theorem queues_setPl (s : State) (n p) : (s.setPl n p).queues = s.queues := (rfl)
@[simp] theorem flows_setPl (s : State) (n p) : (s.setPl n p).flows = s.flows := (rfl)
@[simp] theorem ads_setPl (s : State) (n p) : (s.setPl n p).ads = s.ads := (rfl)
@[simp] theorem hqs_setPl (s : State) (n p) : (s.setPl n p).hqs = s.hqs := (rfl)
@[simp] theorem glyphs_setPl (s : State) (n p) : (s.setPl n p).glyphs = s.glyphs := (rfl)
@[simp] theorem gpi_setPl (s : State) (n p) : (s.setPl n p).gpi = s.gpi := (rfl)
@[simp] theorem gpo_setPl (s : State) (n p) : (s.setPl n p).gpo = s.gpo := (rfl)
@[simp] theorem layers_setPl (s : State) (n p) : (s.setPl n p).layers = s.layers := (rfl)
@[simp] theorem cks_setPl (s : State) (n p) : (s.setPl n p).cks = s.cks := (rfl)
@[simp] theorem cues_setPl (s : State) (n p) : (s.setPl n p).cues = s.cues := (rfl)
@[simp] theorem cregs_setPl (s : State) (n p) : (s.setPl n p).cregs = s.cregs := (rfl)
@[simp] theorem imem_setPl (s : State) (n p) : (s.setPl n p).imem = s.imem := (rfl)
@[simp] theorem dmem_setPl (s : State) (n p) : (s.setPl n p).dmem = s.dmem := (rfl)
@[simp] theorem scratch_setPl (s : State) (n p) : (s.setPl n p).scratch = s.scratch := (rfl)
@[simp] theorem ecc_setPl (s : State) (n p) : (s.setPl n p).ecc = s.ecc := (rfl)
@[simp] theorem evt_setPl (s : State) (n p) : (s.setPl n p).evt = s.evt := (rfl)
@[simp] theorem ps_setPl (s : State) (n p) : (s.setPl n p).ps = s.ps := (rfl)
@[simp] theorem rf_setPl (s : State) (n p) : (s.setPl n p).rf = s.rf := (rfl)
@[simp] theorem jtag_setPl (s : State) (n p) : (s.setPl n p).jtag = s.jtag := (rfl)
@[simp] theorem lts_setPl (s : State) (n p) : (s.setPl n p).lts = s.lts := (rfl)
@[simp] theorem sps_setPl (s : State) (n p) : (s.setPl n p).sps = s.sps := (rfl)
@[simp] theorem gl_setPl (s : State) (n p) : (s.setPl n p).gl = s.gl := (rfl)
@[simp] theorem fc_setPl (s : State) (n p) : (s.setPl n p).fc = s.fc := (rfl)
@[simp] theorem sl_setPl (s : State) (n p) : (s.setPl n p).sl = s.sl := (rfl)
@[simp] theorem cl_setPl (s : State) (n p) : (s.setPl n p).cl = s.cl := (rfl)

@[simp] theorem rd_setPl (s : State) (n p) (k') : (s.setPl n p).rd k' = s.rd k' := (rfl)
@[simp] theorem get_setPl (s : State) (n p) (g) : (s.setPl n p).get g = s.get g := (rfl)

/-! ### setHq -/

@[simp] theorem pending_setHq (s : State) (r x) : (s.setHq r x).pending = s.pending := (rfl)
@[simp] theorem tick_setHq (s : State) (r x) : (s.setHq r x).tick = s.tick := (rfl)
@[simp] theorem free_setHq (s : State) (r x) : (s.setHq r x).free = s.free := (rfl)
@[simp] theorem out_setHq (s : State) (r x) : (s.setHq r x).out = s.out := (rfl)
@[simp] theorem irqOwed_setHq (s : State) (r x) : (s.setHq r x).irqOwed = s.irqOwed := (rfl)
@[simp] theorem regs_setHq (s : State) (r x) : (s.setHq r x).regs = s.regs := (rfl)
@[simp] theorem eff_setHq (s : State) (r x) : (s.setHq r x).eff = s.eff := (rfl)
@[simp] theorem waiting_setHq (s : State) (r x) : (s.setHq r x).waiting = s.waiting := (rfl)
@[simp] theorem w1_setHq (s : State) (r x) : (s.setHq r x).w1 = s.w1 := (rfl)
@[simp] theorem slowQ_setHq (s : State) (r x) : (s.setHq r x).slowQ = s.slowQ := (rfl)
@[simp] theorem slowHold_setHq (s : State) (r x) : (s.setHq r x).slowHold = s.slowHold := (rfl)
@[simp] theorem slowCopy_setHq (s : State) (r x) : (s.setHq r x).slowCopy = s.slowCopy := (rfl)
@[simp] theorem msix_setHq (s : State) (r x) : (s.setHq r x).msix = s.msix := (rfl)
@[simp] theorem mem_setHq (s : State) (r x) : (s.setHq r x).mem = s.mem := (rfl)
@[simp] theorem bad_setHq (s : State) (r x) : (s.setHq r x).bad = s.bad := (rfl)
@[simp] theorem holding_setHq (s : State) (r x) : (s.setHq r x).holding = s.holding := (rfl)
@[simp] theorem dv_setHq (s : State) (r x) : (s.setHq r x).dv = s.dv := (rfl)
@[simp] theorem mbx_setHq (s : State) (r x) : (s.setHq r x).mbx = s.mbx := (rfl)
@[simp] theorem tb_setHq (s : State) (r x) : (s.setHq r x).tb = s.tb := (rfl)
@[simp] theorem heads_setHq (s : State) (r x) : (s.setHq r x).heads = s.heads := (rfl)
@[simp] theorem engines_setHq (s : State) (r x) : (s.setHq r x).engines = s.engines := (rfl)
@[simp] theorem groups_setHq (s : State) (r x) : (s.setHq r x).groups = s.groups := (rfl)
@[simp] theorem serial_setHq (s : State) (r x) : (s.setHq r x).serial = s.serial := (rfl)
@[simp] theorem vids_setHq (s : State) (r x) : (s.setHq r x).vids = s.vids := (rfl)
@[simp] theorem dts_setHq (s : State) (r x) : (s.setHq r x).dts = s.dts := (rfl)
@[simp] theorem ports_setHq (s : State) (r x) : (s.setHq r x).ports = s.ports := (rfl)
@[simp] theorem queues_setHq (s : State) (r x) : (s.setHq r x).queues = s.queues := (rfl)
@[simp] theorem flows_setHq (s : State) (r x) : (s.setHq r x).flows = s.flows := (rfl)
@[simp] theorem ads_setHq (s : State) (r x) : (s.setHq r x).ads = s.ads := (rfl)
@[simp] theorem glyphs_setHq (s : State) (r x) : (s.setHq r x).glyphs = s.glyphs := (rfl)
@[simp] theorem gpi_setHq (s : State) (r x) : (s.setHq r x).gpi = s.gpi := (rfl)
@[simp] theorem gpo_setHq (s : State) (r x) : (s.setHq r x).gpo = s.gpo := (rfl)
@[simp] theorem layers_setHq (s : State) (r x) : (s.setHq r x).layers = s.layers := (rfl)
@[simp] theorem pls_setHq (s : State) (r x) : (s.setHq r x).pls = s.pls := (rfl)
@[simp] theorem cks_setHq (s : State) (r x) : (s.setHq r x).cks = s.cks := (rfl)
@[simp] theorem cues_setHq (s : State) (r x) : (s.setHq r x).cues = s.cues := (rfl)
@[simp] theorem cregs_setHq (s : State) (r x) : (s.setHq r x).cregs = s.cregs := (rfl)
@[simp] theorem imem_setHq (s : State) (r x) : (s.setHq r x).imem = s.imem := (rfl)
@[simp] theorem dmem_setHq (s : State) (r x) : (s.setHq r x).dmem = s.dmem := (rfl)
@[simp] theorem scratch_setHq (s : State) (r x) : (s.setHq r x).scratch = s.scratch := (rfl)
@[simp] theorem ecc_setHq (s : State) (r x) : (s.setHq r x).ecc = s.ecc := (rfl)
@[simp] theorem evt_setHq (s : State) (r x) : (s.setHq r x).evt = s.evt := (rfl)
@[simp] theorem ps_setHq (s : State) (r x) : (s.setHq r x).ps = s.ps := (rfl)
@[simp] theorem rf_setHq (s : State) (r x) : (s.setHq r x).rf = s.rf := (rfl)
@[simp] theorem jtag_setHq (s : State) (r x) : (s.setHq r x).jtag = s.jtag := (rfl)
@[simp] theorem lts_setHq (s : State) (r x) : (s.setHq r x).lts = s.lts := (rfl)
@[simp] theorem sps_setHq (s : State) (r x) : (s.setHq r x).sps = s.sps := (rfl)
@[simp] theorem gl_setHq (s : State) (r x) : (s.setHq r x).gl = s.gl := (rfl)
@[simp] theorem fc_setHq (s : State) (r x) : (s.setHq r x).fc = s.fc := (rfl)
@[simp] theorem sl_setHq (s : State) (r x) : (s.setHq r x).sl = s.sl := (rfl)
@[simp] theorem cl_setHq (s : State) (r x) : (s.setHq r x).cl = s.cl := (rfl)

@[simp] theorem rd_setHq (s : State) (r x) (k') : (s.setHq r x).rd k' = s.rd k' := (rfl)
@[simp] theorem get_setHq (s : State) (r x) (g) : (s.setHq r x).get g = s.get g := (rfl)

/-! ### setAd -/

@[simp] theorem pending_setAd (s : State) (c x) : (s.setAd c x).pending = s.pending := (rfl)
@[simp] theorem tick_setAd (s : State) (c x) : (s.setAd c x).tick = s.tick := (rfl)
@[simp] theorem free_setAd (s : State) (c x) : (s.setAd c x).free = s.free := (rfl)
@[simp] theorem out_setAd (s : State) (c x) : (s.setAd c x).out = s.out := (rfl)
@[simp] theorem irqOwed_setAd (s : State) (c x) : (s.setAd c x).irqOwed = s.irqOwed := (rfl)
@[simp] theorem regs_setAd (s : State) (c x) : (s.setAd c x).regs = s.regs := (rfl)
@[simp] theorem eff_setAd (s : State) (c x) : (s.setAd c x).eff = s.eff := (rfl)
@[simp] theorem waiting_setAd (s : State) (c x) : (s.setAd c x).waiting = s.waiting := (rfl)
@[simp] theorem w1_setAd (s : State) (c x) : (s.setAd c x).w1 = s.w1 := (rfl)
@[simp] theorem slowQ_setAd (s : State) (c x) : (s.setAd c x).slowQ = s.slowQ := (rfl)
@[simp] theorem slowHold_setAd (s : State) (c x) : (s.setAd c x).slowHold = s.slowHold := (rfl)
@[simp] theorem slowCopy_setAd (s : State) (c x) : (s.setAd c x).slowCopy = s.slowCopy := (rfl)
@[simp] theorem msix_setAd (s : State) (c x) : (s.setAd c x).msix = s.msix := (rfl)
@[simp] theorem mem_setAd (s : State) (c x) : (s.setAd c x).mem = s.mem := (rfl)
@[simp] theorem bad_setAd (s : State) (c x) : (s.setAd c x).bad = s.bad := (rfl)
@[simp] theorem holding_setAd (s : State) (c x) : (s.setAd c x).holding = s.holding := (rfl)
@[simp] theorem dv_setAd (s : State) (c x) : (s.setAd c x).dv = s.dv := (rfl)
@[simp] theorem mbx_setAd (s : State) (c x) : (s.setAd c x).mbx = s.mbx := (rfl)
@[simp] theorem tb_setAd (s : State) (c x) : (s.setAd c x).tb = s.tb := (rfl)
@[simp] theorem heads_setAd (s : State) (c x) : (s.setAd c x).heads = s.heads := (rfl)
@[simp] theorem engines_setAd (s : State) (c x) : (s.setAd c x).engines = s.engines := (rfl)
@[simp] theorem groups_setAd (s : State) (c x) : (s.setAd c x).groups = s.groups := (rfl)
@[simp] theorem serial_setAd (s : State) (c x) : (s.setAd c x).serial = s.serial := (rfl)
@[simp] theorem vids_setAd (s : State) (c x) : (s.setAd c x).vids = s.vids := (rfl)
@[simp] theorem dts_setAd (s : State) (c x) : (s.setAd c x).dts = s.dts := (rfl)
@[simp] theorem ports_setAd (s : State) (c x) : (s.setAd c x).ports = s.ports := (rfl)
@[simp] theorem queues_setAd (s : State) (c x) : (s.setAd c x).queues = s.queues := (rfl)
@[simp] theorem flows_setAd (s : State) (c x) : (s.setAd c x).flows = s.flows := (rfl)
@[simp] theorem hqs_setAd (s : State) (c x) : (s.setAd c x).hqs = s.hqs := (rfl)
@[simp] theorem glyphs_setAd (s : State) (c x) : (s.setAd c x).glyphs = s.glyphs := (rfl)
@[simp] theorem gpi_setAd (s : State) (c x) : (s.setAd c x).gpi = s.gpi := (rfl)
@[simp] theorem gpo_setAd (s : State) (c x) : (s.setAd c x).gpo = s.gpo := (rfl)
@[simp] theorem layers_setAd (s : State) (c x) : (s.setAd c x).layers = s.layers := (rfl)
@[simp] theorem pls_setAd (s : State) (c x) : (s.setAd c x).pls = s.pls := (rfl)
@[simp] theorem cks_setAd (s : State) (c x) : (s.setAd c x).cks = s.cks := (rfl)
@[simp] theorem cues_setAd (s : State) (c x) : (s.setAd c x).cues = s.cues := (rfl)
@[simp] theorem cregs_setAd (s : State) (c x) : (s.setAd c x).cregs = s.cregs := (rfl)
@[simp] theorem imem_setAd (s : State) (c x) : (s.setAd c x).imem = s.imem := (rfl)
@[simp] theorem dmem_setAd (s : State) (c x) : (s.setAd c x).dmem = s.dmem := (rfl)
@[simp] theorem scratch_setAd (s : State) (c x) : (s.setAd c x).scratch = s.scratch := (rfl)
@[simp] theorem ecc_setAd (s : State) (c x) : (s.setAd c x).ecc = s.ecc := (rfl)
@[simp] theorem evt_setAd (s : State) (c x) : (s.setAd c x).evt = s.evt := (rfl)
@[simp] theorem ps_setAd (s : State) (c x) : (s.setAd c x).ps = s.ps := (rfl)
@[simp] theorem rf_setAd (s : State) (c x) : (s.setAd c x).rf = s.rf := (rfl)
@[simp] theorem jtag_setAd (s : State) (c x) : (s.setAd c x).jtag = s.jtag := (rfl)
@[simp] theorem lts_setAd (s : State) (c x) : (s.setAd c x).lts = s.lts := (rfl)
@[simp] theorem sps_setAd (s : State) (c x) : (s.setAd c x).sps = s.sps := (rfl)
@[simp] theorem gl_setAd (s : State) (c x) : (s.setAd c x).gl = s.gl := (rfl)
@[simp] theorem fc_setAd (s : State) (c x) : (s.setAd c x).fc = s.fc := (rfl)
@[simp] theorem sl_setAd (s : State) (c x) : (s.setAd c x).sl = s.sl := (rfl)
@[simp] theorem cl_setAd (s : State) (c x) : (s.setAd c x).cl = s.cl := (rfl)

@[simp] theorem rd_setAd (s : State) (c x) (k') : (s.setAd c x).rd k' = s.rd k' := (rfl)
@[simp] theorem get_setAd (s : State) (c x) (g) : (s.setAd c x).get g = s.get g := (rfl)

/-! ### setMb -/

@[simp] theorem pending_setMb (s : State) (f m) : (s.setMb f m).pending = s.pending := (rfl)
@[simp] theorem tick_setMb (s : State) (f m) : (s.setMb f m).tick = s.tick := (rfl)
@[simp] theorem free_setMb (s : State) (f m) : (s.setMb f m).free = s.free := (rfl)
@[simp] theorem out_setMb (s : State) (f m) : (s.setMb f m).out = s.out := (rfl)
@[simp] theorem irqOwed_setMb (s : State) (f m) : (s.setMb f m).irqOwed = s.irqOwed := (rfl)
@[simp] theorem regs_setMb (s : State) (f m) : (s.setMb f m).regs = s.regs := (rfl)
@[simp] theorem eff_setMb (s : State) (f m) : (s.setMb f m).eff = s.eff := (rfl)
@[simp] theorem waiting_setMb (s : State) (f m) : (s.setMb f m).waiting = s.waiting := (rfl)
@[simp] theorem w1_setMb (s : State) (f m) : (s.setMb f m).w1 = s.w1 := (rfl)
@[simp] theorem slowQ_setMb (s : State) (f m) : (s.setMb f m).slowQ = s.slowQ := (rfl)
@[simp] theorem slowHold_setMb (s : State) (f m) : (s.setMb f m).slowHold = s.slowHold := (rfl)
@[simp] theorem slowCopy_setMb (s : State) (f m) : (s.setMb f m).slowCopy = s.slowCopy := (rfl)
@[simp] theorem msix_setMb (s : State) (f m) : (s.setMb f m).msix = s.msix := (rfl)
@[simp] theorem mem_setMb (s : State) (f m) : (s.setMb f m).mem = s.mem := (rfl)
@[simp] theorem bad_setMb (s : State) (f m) : (s.setMb f m).bad = s.bad := (rfl)
@[simp] theorem holding_setMb (s : State) (f m) : (s.setMb f m).holding = s.holding := (rfl)
@[simp] theorem dv_setMb (s : State) (f m) : (s.setMb f m).dv = s.dv := (rfl)
@[simp] theorem tb_setMb (s : State) (f m) : (s.setMb f m).tb = s.tb := (rfl)
@[simp] theorem heads_setMb (s : State) (f m) : (s.setMb f m).heads = s.heads := (rfl)
@[simp] theorem engines_setMb (s : State) (f m) : (s.setMb f m).engines = s.engines := (rfl)
@[simp] theorem groups_setMb (s : State) (f m) : (s.setMb f m).groups = s.groups := (rfl)
@[simp] theorem serial_setMb (s : State) (f m) : (s.setMb f m).serial = s.serial := (rfl)
@[simp] theorem vids_setMb (s : State) (f m) : (s.setMb f m).vids = s.vids := (rfl)
@[simp] theorem dts_setMb (s : State) (f m) : (s.setMb f m).dts = s.dts := (rfl)
@[simp] theorem ports_setMb (s : State) (f m) : (s.setMb f m).ports = s.ports := (rfl)
@[simp] theorem queues_setMb (s : State) (f m) : (s.setMb f m).queues = s.queues := (rfl)
@[simp] theorem flows_setMb (s : State) (f m) : (s.setMb f m).flows = s.flows := (rfl)
@[simp] theorem ads_setMb (s : State) (f m) : (s.setMb f m).ads = s.ads := (rfl)
@[simp] theorem hqs_setMb (s : State) (f m) : (s.setMb f m).hqs = s.hqs := (rfl)
@[simp] theorem glyphs_setMb (s : State) (f m) : (s.setMb f m).glyphs = s.glyphs := (rfl)
@[simp] theorem gpi_setMb (s : State) (f m) : (s.setMb f m).gpi = s.gpi := (rfl)
@[simp] theorem gpo_setMb (s : State) (f m) : (s.setMb f m).gpo = s.gpo := (rfl)
@[simp] theorem layers_setMb (s : State) (f m) : (s.setMb f m).layers = s.layers := (rfl)
@[simp] theorem pls_setMb (s : State) (f m) : (s.setMb f m).pls = s.pls := (rfl)
@[simp] theorem cks_setMb (s : State) (f m) : (s.setMb f m).cks = s.cks := (rfl)
@[simp] theorem cues_setMb (s : State) (f m) : (s.setMb f m).cues = s.cues := (rfl)
@[simp] theorem cregs_setMb (s : State) (f m) : (s.setMb f m).cregs = s.cregs := (rfl)
@[simp] theorem imem_setMb (s : State) (f m) : (s.setMb f m).imem = s.imem := (rfl)
@[simp] theorem dmem_setMb (s : State) (f m) : (s.setMb f m).dmem = s.dmem := (rfl)
@[simp] theorem scratch_setMb (s : State) (f m) : (s.setMb f m).scratch = s.scratch := (rfl)
@[simp] theorem ecc_setMb (s : State) (f m) : (s.setMb f m).ecc = s.ecc := (rfl)
@[simp] theorem evt_setMb (s : State) (f m) : (s.setMb f m).evt = s.evt := (rfl)
@[simp] theorem ps_setMb (s : State) (f m) : (s.setMb f m).ps = s.ps := (rfl)
@[simp] theorem rf_setMb (s : State) (f m) : (s.setMb f m).rf = s.rf := (rfl)
@[simp] theorem jtag_setMb (s : State) (f m) : (s.setMb f m).jtag = s.jtag := (rfl)
@[simp] theorem lts_setMb (s : State) (f m) : (s.setMb f m).lts = s.lts := (rfl)
@[simp] theorem sps_setMb (s : State) (f m) : (s.setMb f m).sps = s.sps := (rfl)
@[simp] theorem gl_setMb (s : State) (f m) : (s.setMb f m).gl = s.gl := (rfl)
@[simp] theorem fc_setMb (s : State) (f m) : (s.setMb f m).fc = s.fc := (rfl)
@[simp] theorem sl_setMb (s : State) (f m) : (s.setMb f m).sl = s.sl := (rfl)
@[simp] theorem cl_setMb (s : State) (f m) : (s.setMb f m).cl = s.cl := (rfl)

@[simp] theorem rd_setMb (s : State) (f m) (k') : (s.setMb f m).rd k' = s.rd k' := (rfl)
@[simp] theorem get_setMb (s : State) (f m) (g) : (s.setMb f m).get g = s.get g := (rfl)

/-! ### The part that is updated -/

@[simp] theorem head_setHead (s : State) (i x) : (s.setHead i x).head i = x := mget_nput_self ..

theorem head_setHead_ne (s : State) {i j : Nat} (x) (h : j ≠ i) : (s.setHead i x).head j = s.head j := mget_nput_ne _ _ _ h

@[simp] theorem cue_setCue (s : State) (i x) : (s.setCue i x).cue i = x := mget_nput_self ..

theorem cue_setCue_ne (s : State) {i j : Nat} (x) (h : j ≠ i) : (s.setCue i x).cue j = s.cue j := mget_nput_ne _ _ _ h

@[simp] theorem flow_setFlow (s : State) (i x) : (s.setFlow i x).flow i = x := mget_nput_self ..

theorem flow_setFlow_ne (s : State) {i j : Nat} (x) (h : j ≠ i) : (s.setFlow i x).flow j = s.flow j := mget_nput_ne _ _ _ h

@[simp] theorem queue_setQueue (s : State) (i x) : (s.setQueue i x).queue i = x := mget_nput_self ..

theorem queue_setQueue_ne (s : State) {i j : Nat} (x) (h : j ≠ i) : (s.setQueue i x).queue j = s.queue j := mget_nput_ne _ _ _ h

@[simp] theorem port_setPort (s : State) (i x) : (s.setPort i x).port i = x := mget_nput_self ..

theorem port_setPort_ne (s : State) {i j : Nat} (x) (h : j ≠ i) : (s.setPort i x).port j = s.port j := mget_nput_ne _ _ _ h

@[simp] theorem sp_setSp (s : State) (i x) : (s.setSp i x).sp i = x := mget_nput_self ..

theorem sp_setSp_ne (s : State) {i j : Nat} (x) (h : j ≠ i) : (s.setSp i x).sp j = s.sp j := mget_nput_ne _ _ _ h

@[simp] theorem ck_setCk (s : State) (i x) : (s.setCk i x).ck i = x := mget_nput_self ..

theorem ck_setCk_ne (s : State) {i j : Nat} (x) (h : j ≠ i) : (s.setCk i x).ck j = s.ck j := mget_nput_ne _ _ _ h

@[simp] theorem pl_setPl (s : State) (i x) : (s.setPl i x).pl i = x := mget_nput_self ..

theorem pl_setPl_ne (s : State) {i j : Nat} (x) (h : j ≠ i) : (s.setPl i x).pl j = s.pl j := mget_nput_ne _ _ _ h

@[simp] theorem hq_setHq (s : State) (i x) : (s.setHq i x).hq i = x := mget_nput_self ..

theorem hq_setHq_ne (s : State) {i j : Nat} (x) (h : j ≠ i) : (s.setHq i x).hq j = s.hq j := mget_nput_ne _ _ _ h

@[simp] theorem ad_setAd (s : State) (i x) : (s.setAd i x).ad i = x := mget_nput_self ..

theorem ad_setAd_ne (s : State) {i j : Nat} (x) (h : j ≠ i) : (s.setAd i x).ad j = s.ad j := mget_nput_ne _ _ _ h

@[simp] theorem mb_setMb (s : State) (i x) : (s.setMb i x).mb i = x := mget_nput_self ..

theorem mb_setMb_ne (s : State) {i j : Nat} (x) (h : j ≠ i) : (s.setMb i x).mb j = s.mb j := mget_nput_ne _ _ _ h

@[simp] theorem dv_updDv (s : State) (f) : (s.updDv f).dv = f s.dv := (rfl)

@[simp] theorem gl_updGl (s : State) (f) : (s.updGl f).gl = f s.gl := (rfl)

@[simp] theorem out_emit (s : State) (o) : (s.emit o).out = s.out ++ [o] := (rfl)

/-- A byte of memory does not depend on what else the state holds. -/
theorem byte_congr {s t : State} (h : t.mem = s.mem) (a : Nat) : t.byte a = s.byte a := by
  unfold State.byte
  rw [h]

end Sys2Proof.Machine
end

