-- ==== Sys2Proof/Laws/Address.lean ====
section
/-! SUPPORT. The registers that commands are addressed to, each at its address (R35 to R39): the address of a register decodes to it. -/

set_option Elab.async false

namespace Sys2Proof.Machine

theorem addr_DV_SNAP : decodeAddr (keyAddr (.DV_SNAP, [])) = .reg (.DV_SNAP, []) := by decide +kernel

theorem addr_SL_RD_SEQ_HI : decodeAddr (keyAddr (.SL_RD_SEQ_HI, [])) = .reg (.SL_RD_SEQ_HI, []) := by decide +kernel

theorem addr_SL_SEQ_LO : decodeAddr (keyAddr (.SL_SEQ_LO, [])) = .reg (.SL_SEQ_LO, []) := by decide +kernel

theorem addr_DV_CTRL : decodeAddr (keyAddr (.DV_CTRL, [])) = .reg (.DV_CTRL, []) := by decide +kernel

theorem addr_DV_RESET : decodeAddr (keyAddr (.DV_RESET, [])) = .reg (.DV_RESET, []) := by decide +kernel

theorem addr_TB_INC_REQ_HI : decodeAddr (keyAddr (.TB_INC_REQ_HI, [])) = .reg (.TB_INC_REQ_HI, []) := by decide +kernel

theorem addr_TB_RESTEP : decodeAddr (keyAddr (.TB_RESTEP, [])) = .reg (.TB_RESTEP, []) := by decide +kernel

theorem addr_TB_TIME_SL : decodeAddr (keyAddr (.TB_TIME_SL, [])) = .reg (.TB_TIME_SL, []) := by decide +kernel

theorem addr_RF_CTRL : decodeAddr (keyAddr (.RF_CTRL, [])) = .reg (.RF_CTRL, []) := by decide +kernel

theorem addr_DT_CTRL : decodeAddr (keyAddr (.DT_CTRL, [])) = .reg (.DT_CTRL, []) := by decide +kernel

theorem addr_DT_GLY_DATA : decodeAddr (keyAddr (.DT_GLY_DATA, [])) = .reg (.DT_GLY_DATA, []) := by decide +kernel

theorem addr_SP_LOOP_MAX : decodeAddr (keyAddr (.SP_LOOP_MAX, [])) = .reg (.SP_LOOP_MAX, []) := by decide +kernel

theorem addr_SP_CTRL : decodeAddr (keyAddr (.SP_CTRL, [])) = .reg (.SP_CTRL, []) := by decide +kernel

theorem addr_CL_LG_ERASE : decodeAddr (keyAddr (.CL_LG_ERASE, [])) = .reg (.CL_LG_ERASE, []) := by decide +kernel

theorem addr_GL_CTRL : decodeAddr (keyAddr (.GL_CTRL, [])) = .reg (.GL_CTRL, []) := by decide +kernel

theorem addr_FC_CLEAR : decodeAddr (keyAddr (.FC_CLEAR, [])) = .reg (.FC_CLEAR, []) := by decide +kernel

theorem addr_FC_CTRL : decodeAddr (keyAddr (.FC_CTRL, [])) = .reg (.FC_CTRL, []) := by decide +kernel

theorem addr_LT_GROUP_CMD : decodeAddr (keyAddr (.LT_GROUP_CMD, [])) = .reg (.LT_GROUP_CMD, []) := by decide +kernel

theorem addr_DV_PERM_LO : ∀ i : Fin 32, decodeAddr (keyAddr (.DV_PERM_LO, [i.val])) = .reg (.DV_PERM_LO, [i.val]) := by decide +kernel

theorem addr_DV_PERM_HI : ∀ i : Fin 32, decodeAddr (keyAddr (.DV_PERM_HI, [i.val])) = .reg (.DV_PERM_HI, [i.val]) := by decide +kernel

theorem addr_DV_MBX_DOORBELL : ∀ i : Fin 4, decodeAddr (keyAddr (.DV_MBX_DOORBELL, [i.val])) = .reg (.DV_MBX_DOORBELL, [i.val]) := by decide +kernel

theorem addr_TB_TSQ_POP : ∀ i : Fin 4, decodeAddr (keyAddr (.TB_TSQ_POP, [i.val])) = .reg (.TB_TSQ_POP, [i.val]) := by decide +kernel

theorem addr_HD_CTRL : ∀ i : Fin 16, decodeAddr (keyAddr (.HD_CTRL, [i.val])) = .reg (.HD_CTRL, [i.val]) := by decide +kernel

theorem addr_CE_COMMIT : ∀ i : Fin 8, decodeAddr (keyAddr (.CE_COMMIT, [i.val])) = .reg (.CE_COMMIT, [i.val]) := by decide +kernel

theorem addr_CE_RELEASE : ∀ i : Fin 8, decodeAddr (keyAddr (.CE_RELEASE, [i.val])) = .reg (.CE_RELEASE, [i.val]) := by decide +kernel

theorem addr_CK_CMD : ∀ i : Fin 4, decodeAddr (keyAddr (.CK_CMD, [i.val])) = .reg (.CK_CMD, [i.val]) := by decide +kernel

theorem addr_CK_RUN : ∀ i : Fin 4, decodeAddr (keyAddr (.CK_RUN, [i.val])) = .reg (.CK_RUN, [i.val]) := by decide +kernel

theorem addr_NP_I2C_CMD : ∀ i : Fin 4, decodeAddr (keyAddr (.NP_I2C_CMD, [i.val])) = .reg (.NP_I2C_CMD, [i.val]) := by decide +kernel

theorem addr_NG_GCL_CTRL : ∀ i : Fin 4, decodeAddr (keyAddr (.NG_GCL_CTRL, [i.val])) = .reg (.NG_GCL_CTRL, [i.val]) := by decide +kernel

theorem addr_AD_CTRL : ∀ i : Fin 64, decodeAddr (keyAddr (.AD_CTRL, [i.val])) = .reg (.AD_CTRL, [i.val]) := by decide +kernel

theorem addr_AD_SW_IDX : ∀ i : Fin 64, decodeAddr (keyAddr (.AD_SW_IDX, [i.val])) = .reg (.AD_SW_IDX, [i.val]) := by decide +kernel

theorem addr_AD_CMD : ∀ i : Fin 64, decodeAddr (keyAddr (.AD_CMD, [i.val])) = .reg (.AD_CMD, [i.val]) := by decide +kernel

theorem addr_HQ_CTRL : ∀ i : Fin 64, decodeAddr (keyAddr (.HQ_CTRL, [i.val])) = .reg (.HQ_CTRL, [i.val]) := by decide +kernel

theorem addr_HQ_DB : ∀ i : Fin 64, decodeAddr (keyAddr (.HQ_DB, [i.val])) = .reg (.HQ_DB, [i.val]) := by decide +kernel

theorem addr_HQ_CMD : ∀ i : Fin 64, decodeAddr (keyAddr (.HQ_CMD, [i.val])) = .reg (.HQ_CMD, [i.val]) := by decide +kernel

theorem addr_SPP_CTRL : ∀ i : Fin 8, decodeAddr (keyAddr (.SPP_CTRL, [i.val])) = .reg (.SPP_CTRL, [i.val]) := by decide +kernel

theorem addr_LT_CMD : ∀ i : Fin 80, decodeAddr (keyAddr (.LT_CMD, [i.val])) = .reg (.LT_CMD, [i.val]) := by decide +kernel

theorem addr_LT_BITS_LO : ∀ i : Fin 80, decodeAddr (keyAddr (.LT_BITS_LO, [i.val])) = .reg (.LT_BITS_LO, [i.val]) := by decide +kernel

theorem addr_CU_CTRL : ∀ i : Fin 24, decodeAddr (keyAddr (.CU_CTRL, [i.val])) = .reg (.CU_CTRL, [i.val]) := by decide +kernel

theorem addr_CU_DOORBELL : ∀ i : Fin 24, decodeAddr (keyAddr (.CU_DOORBELL, [i.val])) = .reg (.CU_DOORBELL, [i.val]) := by decide +kernel

theorem addr_CU_DM_LO : ∀ i : Fin 24, decodeAddr (keyAddr (.CU_DM_LO, [i.val])) = .reg (.CU_DM_LO, [i.val]) := by decide +kernel

theorem addr_CU_DM_HI : ∀ i : Fin 24, decodeAddr (keyAddr (.CU_DM_HI, [i.val])) = .reg (.CU_DM_HI, [i.val]) := by decide +kernel

theorem addr_CU_IMG : ∀ i : Fin 24, decodeAddr (keyAddr (.CU_IMG, [i.val])) = .reg (.CU_IMG, [i.val]) := by decide +kernel

theorem addr_CUS_SCR_DATA : ∀ i : Fin 4, decodeAddr (keyAddr (.CUS_SCR_DATA, [i.val])) = .reg (.CUS_SCR_DATA, [i.val]) := by decide +kernel

theorem addr_CE_PL_OWNER : ∀ (i : Fin 8) (j : Fin 2), decodeAddr (keyAddr (.CE_PL_OWNER, [i.val, j.val])) = .reg (.CE_PL_OWNER, [i.val, j.val]) := by
  decide +kernel

theorem addr_CE_PL_COMMIT : ∀ (i : Fin 8) (j : Fin 2), decodeAddr (keyAddr (.CE_PL_COMMIT, [i.val, j.val])) = .reg (.CE_PL_COMMIT, [i.val, j.val]) := by
  decide +kernel

theorem addr_CU_PARAM : ∀ (i : Fin 24) (j : Fin 16), decodeAddr (keyAddr (.CU_PARAM, [i.val, j.val])) = .reg (.CU_PARAM, [i.val, j.val]) := by
  decide +kernel

theorem findBlk_skip {a : Nat} {b : Blk} {bs : List Blk}
    (h : a < (blkMap b).2.1 ∨ (blkMap b).2.1 + (blkMap b).2.2.1 * (blkMap b).2.2.2 ≤ a) : findBlk a (b :: bs) = findBlk a bs := by
  rw [findBlk]
  refine if_neg ?_
  rintro ⟨h1, h2⟩
  rcases h with h | h
  · exact absurd h1 (Nat.not_le.mpr h)
  · exact absurd h2 (Nat.not_lt.mpr h)

theorem findBlk_here {a : Nat} {b : Blk} {bs : List Blk} (h : (blkMap b).2.1 ≤ a)
    (h' : a < (blkMap b).2.1 + (blkMap b).2.2.1 * (blkMap b).2.2.2) :
    findBlk a (b :: bs) = some (b, (a - (blkMap b).2.1) / (blkMap b).2.2.1, (a - (blkMap b).2.1) % (blkMap b).2.2.1) := by
  rw [findBlk]
  exact if_pos ⟨h, h'⟩

/-- An address of a context of NR. -/
theorem findBlk_NR (f o : Nat) (hf : f < 16384) (ho : o < 64) : findBlk (0x600000 + 64 * f + o) allBlks = some (.NR, f, o) := by
  have h1 : (64 * f + o) / 64 = f := by omega
  have h2 : (64 * f + o) % 64 = o := by omega
  unfold allBlks
  iterate 17 rw [findBlk_skip (by simp only [blkMap]; omega)]
  rw [findBlk_here (by simp only [blkMap]; omega) (by simp only [blkMap]; omega)]
  simp only [blkMap, show 0x600000 + 64 * f + o - 0x600000 = 64 * f + o by omega, h1, h2]

/-- An address of a queue of NQ. -/
theorem findBlk_NQ (q o : Nat) (hq : q < 16384) (ho : o < 64) : findBlk (0x700000 + 64 * q + o) allBlks = some (.NQ, q, o) := by
  have h1 : (64 * q + o) / 64 = q := by omega
  have h2 : (64 * q + o) % 64 = o := by omega
  unfold allBlks
  iterate 18 rw [findBlk_skip (by simp only [blkMap]; omega)]
  rw [findBlk_here (by simp only [blkMap]; omega) (by simp only [blkMap]; omega)]
  simp only [blkMap, show 0x700000 + 64 * q + o - 0x700000 = 64 * q + o by omega, h1, h2]

theorem addr_NR_CTRL (f : Fin 16384) : decodeAddr (keyAddr (.NR_CTRL, [f.val])) = .reg (.NR_CTRL, [f.val]) := by
  have hf := f.isLt
  have ha : keyAddr (.NR_CTRL, [f.val]) = 0x600000 + 64 * f.val + 0 := rfl
  rw [ha]
  unfold decodeAddr
  rw [if_neg (by omega), findBlk_NR f.val 0 hf (by omega)]
  rfl

theorem addr_NQ_CTRL (q : Fin 16384) : decodeAddr (keyAddr (.NQ_CTRL, [q.val])) = .reg (.NQ_CTRL, [q.val]) := by
  have hq := q.isLt
  have ha : keyAddr (.NQ_CTRL, [q.val]) = 0x700000 + 64 * q.val + 0 := rfl
  rw [ha]
  unfold decodeAddr
  rw [if_neg (by omega), findBlk_NQ q.val 0 hq (by omega)]
  rfl

end Sys2Proof.Machine
end

