-- ==== Sys2Proof/Laws/Touch1.lean ====
section
/-! SUPPORT. What each operation touches, part 1 of 7: for every operation the parts of the state and the registers that it
may change. All else stays, and the operation follows the state before it (Only). -/

namespace Sys2Proof.Machine

theorem only_setFlow (s : State) (v) (x) : Only [.flows] (some []) s (State.setFlow s v x) := by
  unfold State.setFlow
  refine Only.flows 0 rfl ?_
  exact Only.refl _

theorem only_endIncomplete (s : State) (c) : Only [] none s (State.endIncomplete s c) := by
  unfold State.endIncomplete
  refine Only.countAny ?_
  exact Only.refl _

theorem only_abandonFrame (s : State) (c) : Only [.flows] none s (State.abandonFrame s c) := by
  unfold State.abandonFrame
  extract_lets +onlyGivenNames y0
  clear_value y0
  extract_lets +onlyGivenNames y1
  clear_value y1
  extract_lets +onlyGivenNames y2
  refine Only.have y2 ?_ fun hy2 => ?_
  · subst y2
    refine Only.setAny ?_
    refine (only_setFlow ..).over (Covers.any 1 rfl) ?_
    exact Only.refl _
  clear_value y2
  refine Only.ite ?_ ?_
  · refine (only_endIncomplete ..).over (Covers.any 0 rfl) ?_
    exact hy2
  · exact hy2

theorem only_showState (s : State) (c) (st) (v) (member) :
    Only [.cues] (some [.CE_CDET, .CE_CSTAT]) s (State.showState s c st v member) := by
  unfold State.showState
  extract_lets +onlyGivenNames y0
  clear_value y0
  extract_lets +onlyGivenNames y1
  clear_value y1
  refine Only.ite ?_ ?_
  · exact Only.refl _
  · extract_lets +onlyGivenNames y2
    clear_value y2
    extract_lets +onlyGivenNames y3
    refine Only.have y3 ?_ fun hy3 => ?_
    · subst y3
      refine Only.wr .CE_CSTAT 1 rfl rfl ?_
      exact Only.refl _
    clear_value y3
    extract_lets +onlyGivenNames y4
    refine Only.have y4 ?_ fun hy4 => ?_
    · subst y4
      refine Only.wr .CE_CDET 0 rfl rfl ?_
      exact hy3
    clear_value y4
    refine Only.ite ?_ ?_
    · refine Only.cues 0 rfl ?_
      exact hy4
    · exact hy4

theorem only_setHead (s : State) (n) (h) : Only [.heads] (some []) s (State.setHead s n h) := by
  unfold State.setHead
  refine Only.heads 0 rfl ?_
  exact Only.refl _

theorem only_updHead (s : State) (n) (f) : Only [.heads] (some []) s (State.updHead s n f) := by
  unfold State.updHead
  refine (only_setHead ..).over (Covers.some 1 0 rfl rfl) ?_
  exact Only.refl _

theorem only_addPending (s : State) (c) : Only [.heads, .cues] (some [.CE_CDET, .CE_CSTAT]) s (State.addPending s c) := by
  unfold State.addPending
  extract_lets +onlyGivenNames y0
  clear_value y0
  extract_lets +onlyGivenNames y1
  refine Only.have y1 ?_ fun hy1 => ?_
  · subst y1
    refine Only.foldl ?_ fun y2 _ hy2 => ?_
    · exact Only.refl _
    · refine (only_showState ..).over (Covers.some 2 3 rfl rfl) ?_
      exact hy2
  clear_value y1
  extract_lets +onlyGivenNames y3
  refine Only.have y3 ?_ fun hy3 => ?_
  · subst y3
    refine (only_updHead ..).over (Covers.some 1 0 rfl rfl) ?_
    exact hy1
  clear_value y3
  refine (only_showState ..).over (Covers.some 2 3 rfl rfl) ?_
  exact hy3

theorem only_acceptGroup (s : State) (sets) (members) :
    Only [.heads, .cues] (some [.CE_CDET, .CE_CSTAT]) s (State.acceptGroup s sets members) := by
  unfold State.acceptGroup
  extract_lets +onlyGivenNames y0
  subst y0
  extract_lets +onlyGivenNames y1
  clear_value y1
  refine Only.foldl ?_ fun y2 _ hy2 => ?_
  · exact Only.refl _
  · extract_lets +onlyGivenNames y3
    clear_value y3
    refine Only.ite ?_ ?_
    · refine (only_showState ..).over (Covers.some 2 3 rfl rfl) ?_
      refine (only_updHead ..).over (Covers.some 1 0 rfl rfl) ?_
      exact hy2
    · refine (only_addPending ..).over (Covers.some 3 3 rfl rfl) ?_
      exact hy2

theorem only_setPl (s : State) (n) (p) : Only [.pls] (some []) s (State.setPl s n p) := by
  unfold State.setPl
  refine Only.pls 0 rfl ?_
  exact Only.refl _

theorem only_updPl (s : State) (n) (f) : Only [.pls] (some []) s (State.updPl s n f) := by
  unfold State.updPl
  refine (only_setPl ..).over (Covers.some 1 0 rfl rfl) ?_
  exact Only.refl _

theorem only_acceptPl (s : State) (n) (c) : Only [.pls] (some []) s (State.acceptPl s n c) := by
  unfold State.acceptPl
  refine (only_updPl ..).over (Covers.some 1 0 rfl rfl) ?_
  exact Only.refl _

theorem only_setLayer (s : State) (k) (m) (l) : Only [.layers] (some []) s (State.setLayer s k m l) := by
  unfold State.setLayer
  refine Only.layers 0 rfl ?_
  exact Only.refl _

theorem only_dropLayer (s : State) (k) (m) :
    Only [.layers] (some [.CE_L_FENCE_STAT, .CE_L_SHOWN_HI, .CE_L_SHOWN_LO]) s (State.dropLayer s k m) := by
  unfold State.dropLayer
  extract_lets +onlyGivenNames y0
  refine Only.have y0 ?_ fun hy0 => ?_
  · subst y0
    refine (only_setLayer ..).over (Covers.some 1 0 rfl rfl) ?_
    exact Only.refl _
  clear_value y0
  extract_lets +onlyGivenNames y1
  refine Only.have y1 ?_ fun hy1 => ?_
  · subst y1
    refine Only.wr .CE_L_SHOWN_LO 2 rfl rfl ?_
    refine Only.set .CE_L_FENCE_STAT 0 rfl rfl ?_
    refine Only.set .CE_L_FENCE_STAT 0 rfl rfl ?_
    exact hy0
  clear_value y1
  refine Only.wr .CE_L_SHOWN_HI 1 rfl rfl ?_
  exact hy1

theorem only_updLayer (s : State) (k) (m) (f) : Only [.layers] (some []) s (State.updLayer s k m f) := by
  unfold State.updLayer
  refine (only_setLayer ..).over (Covers.some 1 0 rfl rfl) ?_
  exact Only.refl _

theorem only_enterLayer (s : State) (k) (d) (old) : Only [.layers] (some []) s (State.enterLayer s k d old) := by
  unfold State.enterLayer
  refine Only.ite ?_ ?_
  · refine (only_updLayer ..).over (Covers.some 1 0 rfl rfl) ?_
    exact Only.refl _
  · exact Only.refl _

theorem only_swapLayers (s : State) (k) (old) (new) :
    Only [.layers] (some [.CE_L_FENCE_STAT, .CE_L_SHOWN_HI, .CE_L_SHOWN_LO]) s (State.swapLayers s k old new) := by
  unfold State.swapLayers
  extract_lets +onlyGivenNames y0
  refine Only.have y0 ?_ fun hy0 => ?_
  · subst y0
    refine Only.foldl ?_ fun y1 _ hy1 => ?_
    · exact Only.refl _
    · refine Only.ite ?_ ?_
      · exact hy1
      · refine (only_dropLayer ..).over (Covers.some 1 7 rfl rfl) ?_
        exact hy1
  clear_value y0
  refine Only.foldl ?_ fun y2 _ hy2 => ?_
  · exact hy0
  · refine (only_enterLayer ..).over (Covers.some 1 0 rfl rfl) ?_
    exact hy2

theorem only_setReport (s : State) (c) :
    Only [] (some [.CE_ADM_CULL, .CE_ADM_PEAK_B, .CE_ADM_PEAK_LP, .CE_ADM_PEAK_RES]) s (State.setReport s c) := by
  unfold State.setReport
  extract_lets +onlyGivenNames y0
  clear_value y0
  extract_lets +onlyGivenNames y1
  clear_value y1
  extract_lets +onlyGivenNames y2
  subst y2
  extract_lets +onlyGivenNames y3
  refine Only.have y3 ?_ fun hy3 => ?_
  · subst y3
    refine Only.wr .CE_ADM_PEAK_B 1 rfl rfl ?_
    exact Only.refl _
  clear_value y3
  extract_lets +onlyGivenNames y4
  refine Only.have y4 ?_ fun hy4 => ?_
  · subst y4
    refine Only.wr .CE_ADM_PEAK_LP 2 rfl rfl ?_
    exact hy3
  clear_value y4
  extract_lets +onlyGivenNames y5
  refine Only.have y5 ?_ fun hy5 => ?_
  · subst y5
    refine Only.wr .CE_ADM_PEAK_RES 3 rfl rfl ?_
    exact hy4
  clear_value y5
  refine Only.wr .CE_ADM_CULL 0 rfl rfl ?_
  exact hy5

theorem only_logEntry (s : State) (e) : Only [.sl] (some []) s (State.logEntry s e) := by
  unfold State.logEntry
  extract_lets +onlyGivenNames y0
  clear_value y0
  refine Only.ite ?_ ?_
  · exact Only.refl _
  · refine Only.ite ?_ ?_
    · refine Only.sl 0 rfl ?_
      exact Only.refl _
    · refine Only.sl 0 rfl ?_
      exact Only.refl _

theorem only_log (s : State) (kind) (flags) (org) (a) (b) (be) : Only [.sl] (some []) s (State.log s kind flags org a b be) := by
  unfold State.log
  refine (only_logEntry ..).over (Covers.some 1 0 rfl rfl) ?_
  exact Only.refl _

theorem only_applySet (s : State) (c) :
    Only [.heads, .layers, .cues, .sl] (some [.CE_ADM_CULL, .CE_ADM_PEAK_B, .CE_ADM_PEAK_LP, .CE_ADM_PEAK_RES, .CE_CDET,
      .CE_CSTAT, .CE_L_FENCE_STAT, .CE_L_SHOWN_HI, .CE_L_SHOWN_LO, .CE_VINT_APP]) s (State.applySet s c) := by
  unfold State.applySet
  extract_lets +onlyGivenNames y0
  clear_value y0
  extract_lets +onlyGivenNames y1
  clear_value y1
  extract_lets +onlyGivenNames y2
  clear_value y2
  extract_lets +onlyGivenNames y3
  clear_value y3
  extract_lets +onlyGivenNames y4
  refine Only.have y4 ?_ fun hy4 => ?_
  · subst y4
    refine (only_swapLayers ..).over (Covers.some 2 448 rfl rfl) ?_
    exact Only.refl _
  clear_value y4
  extract_lets +onlyGivenNames y5
  refine Only.have y5 ?_ fun hy5 => ?_
  · subst y5
    refine (only_updHead ..).over (Covers.some 1 0 rfl rfl) ?_
    exact hy4
  clear_value y5
  extract_lets +onlyGivenNames y6
  refine Only.have y6 ?_ fun hy6 => ?_
  · subst y6
    refine Only.wr .CE_VINT_APP 9 rfl rfl ?_
    exact hy5
  clear_value y6
  extract_lets +onlyGivenNames y7
  refine Only.have y7 ?_ fun hy7 => ?_
  · subst y7
    refine (only_setReport ..).over (Covers.some 0 15 rfl rfl) ?_
    refine (only_showState ..).over (Covers.some 4 48 rfl rfl) ?_
    exact hy6
  clear_value y7
  refine (only_log ..).over (Covers.some 8 0 rfl rfl) ?_
  exact hy7

theorem only_dirtySlots (s : State) (host) (o) (a) (n) : Only [] (some [.CE_PL_S_STAT]) s (State.dirtySlots s host o a n) := by
  unfold State.dirtySlots
  refine Only.foldl ?_ fun y0 _ hy0 => ?_
  · exact Only.refl _
  · extract_lets +onlyGivenNames y1
    subst y1
    refine Only.ite ?_ ?_
    · refine Only.foldl ?_ fun y2 _ hy2 => ?_
      · exact hy0
      · refine Only.ite ?_ ?_
        · refine Only.set .CE_PL_S_STAT 0 rfl rfl ?_
          refine Only.set .CE_PL_S_STAT 0 rfl rfl ?_
          exact hy2
        · exact hy2
    · exact hy0

theorem only_latch (s : State) (b) (mask) : Only [.irqOwed] (some [.xx_STATUS]) s (State.latch s b mask) := by
  unfold State.latch
  refine Only.ite ?_ ?_
  · exact Only.refl _
  · extract_lets +onlyGivenNames y0
    clear_value y0
    extract_lets +onlyGivenNames y1
    clear_value y1
    extract_lets +onlyGivenNames y2
    clear_value y2
    extract_lets +onlyGivenNames y3
    refine Only.have y3 ?_ fun hy3 => ?_
    · subst y3
      refine Only.wr .xx_STATUS 0 rfl rfl ?_
      exact Only.refl _
    clear_value y3
    refine Only.ite ?_ ?_
    · exact hy3
    · refine Only.irqOwed 0 rfl ?_
      exact hy3

theorem only_unclear (s : State) (id) :
    Only [.irqOwed, .fc] (some [.FC_CLEAR_REJ, .FC_LAT, .xx_STATUS]) s (State.unclear s id) := by
  unfold State.unclear
  refine Only.ite ?_ ?_
  · extract_lets +onlyGivenNames y0
    refine Only.have y0 ?_ fun hy0 => ?_
    · subst y0
      refine Only.set .FC_LAT 1 rfl rfl ?_
      exact Only.refl _
    clear_value y0
    extract_lets +onlyGivenNames y1
    clear_value y1
    extract_lets +onlyGivenNames y2
    refine Only.have y2 ?_ fun hy2 => ?_
    · subst y2
      refine Only.fc 1 rfl ?_
      exact hy0
    clear_value y2
    refine (only_latch ..).over (Covers.some 1 4 rfl rfl) ?_
    refine Only.count .FC_CLEAR_REJ 0 rfl rfl ?_
    exact hy2
  · exact Only.refl _

theorem only_noteRaise (s : State) (id) (org) (new) : Only [.fc] (some []) s (State.noteRaise s id org new) := by
  unfold State.noteRaise
  extract_lets +onlyGivenNames y0
  clear_value y0
  refine Only.fc 0 rfl ?_
  exact Only.refl _

theorem only_setFirst (s : State) (id) (cls) (org) :
    Only [.fc] (some [.FC_FIRST_ID, .FC_FIRST_ORG, .FC_FIRST_TAI_NS, .FC_FIRST_TAI_SH, .FC_FIRST_TAI_SL]) s (State.setFirst s id
      cls org) := by
  unfold State.setFirst
  extract_lets +onlyGivenNames y0
  refine Only.have y0 ?_ fun hy0 => ?_
  · subst y0
    refine Only.wr .FC_FIRST_ID 0 rfl rfl ?_
    exact Only.refl _
  clear_value y0
  extract_lets +onlyGivenNames y1
  refine Only.have y1 ?_ fun hy1 => ?_
  · subst y1
    refine Only.wr .FC_FIRST_TAI_SL 4 rfl rfl ?_
    exact hy0
  clear_value y1
  extract_lets +onlyGivenNames y2
  refine Only.have y2 ?_ fun hy2 => ?_
  · subst y2
    refine Only.wr .FC_FIRST_TAI_SH 3 rfl rfl ?_
    exact hy1
  clear_value y2
  extract_lets +onlyGivenNames y3
  refine Only.have y3 ?_ fun hy3 => ?_
  · subst y3
    refine Only.wr .FC_FIRST_TAI_NS 2 rfl rfl ?_
    exact hy2
  clear_value y3
  extract_lets +onlyGivenNames y4
  refine Only.have y4 ?_ fun hy4 => ?_
  · subst y4
    refine Only.wr .FC_FIRST_ORG 1 rfl rfl ?_
    exact hy3
  clear_value y4
  refine Only.fc 0 rfl ?_
  exact hy4

theorem only_takeFirst (s : State) (id) (cls) (org) :
    Only [.irqOwed, .fc] (some [.FC_FIRST_ID, .FC_FIRST_ORG, .FC_FIRST_TAI_NS, .FC_FIRST_TAI_SH, .FC_FIRST_TAI_SL, .FC_OVF,
      .xx_STATUS]) s (State.takeFirst s id cls org) := by
  unfold State.takeFirst
  refine Only.ite ?_ ?_
  · extract_lets +onlyGivenNames y0
    clear_value y0
    extract_lets +onlyGivenNames y1
    refine Only.have y1 ?_ fun hy1 => ?_
    · subst y1
      refine Only.set .FC_OVF 5 rfl rfl ?_
      exact Only.refl _
    clear_value y1
    extract_lets +onlyGivenNames y2
    refine Only.have y2 ?_ fun hy2 => ?_
    · subst y2
      refine Only.count .FC_OVF 5 rfl rfl ?_
      exact hy1
    clear_value y2
    extract_lets +onlyGivenNames y3
    refine Only.have y3 ?_ fun hy3 => ?_
    · subst y3
      refine (only_latch ..).over (Covers.some 1 64 rfl rfl) ?_
      exact hy2
    clear_value y3
    refine Only.ite ?_ ?_
    · refine (only_setFirst ..).over (Covers.some 2 31 rfl rfl) ?_
      exact hy3
    · exact hy3
  · refine (only_latch ..).over (Covers.some 1 64 rfl rfl) ?_
    refine (only_setFirst ..).over (Covers.some 2 31 rfl rfl) ?_
    exact Only.refl _

theorem only_latchSource (s : State) (id) (cls) (org) :
    Only [.irqOwed, .fc] (some [.FC_FIRST_ID, .FC_FIRST_ORG, .FC_FIRST_TAI_NS, .FC_FIRST_TAI_SH, .FC_FIRST_TAI_SL, .FC_LAT,
      .FC_OVF, .xx_STATUS]) s (State.latchSource s id cls org) := by
  unfold State.latchSource
  extract_lets +onlyGivenNames y0
  refine Only.have y0 ?_ fun hy0 => ?_
  · subst y0
    refine Only.set .FC_LAT 5 rfl rfl ?_
    exact Only.refl _
  clear_value y0
  refine (only_takeFirst ..).over (Covers.some 3 223 rfl rfl) ?_
  refine (only_latch ..).over (Covers.some 1 128 rfl rfl) ?_
  exact hy0

theorem only_setCue (s : State) (n) (c) : Only [.cues] (some []) s (State.setCue s n c) := by
  unfold State.setCue
  refine Only.cues 0 rfl ?_
  exact Only.refl _

theorem only_setEvt (s : State) (n) (code) (v) : Only [.evt] (some []) s (State.setEvt s n code v) := by
  unfold State.setEvt
  refine Only.evt 0 rfl ?_
  exact Only.refl _

theorem only_latchEvt (s : State) (n) (code) (data) : Only [.evt] (some [.CU_EVT_OVR]) s (State.latchEvt s n code data) := by
  unfold State.latchEvt
  extract_lets +onlyGivenNames y0
  refine Only.have y0 ?_ fun hy0 => ?_
  · subst y0
    refine Only.ite ?_ ?_
    · refine Only.count .CU_EVT_OVR 0 rfl rfl ?_
      exact Only.refl _
    · exact Only.refl _
  clear_value y0
  refine (only_setEvt ..).over (Covers.some 1 0 rfl rfl) ?_
  exact hy0

theorem only_event1 (s : State) (n) (code) (data) : Only [.cues, .evt] (some [.CU_EVT_OVR]) s (State.event1 s n code data) := by
  unfold State.event1
  extract_lets +onlyGivenNames y0
  clear_value y0
  split
  · refine Only.ite ?_ ?_
    · refine (only_setCue ..).over (Covers.some 1 0 rfl rfl) ?_
      exact Only.refl _
    · refine (only_latchEvt ..).over (Covers.some 2 1 rfl rfl) ?_
      exact Only.refl _
  · refine (only_latchEvt ..).over (Covers.some 2 1 rfl rfl) ?_
    exact Only.refl _

theorem only_event (s : State) (code) (data) : Only [.cues, .evt] (some [.CU_EVT_OVR]) s (State.event s code data) := by
  unfold State.event
  refine Only.foldl ?_ fun y0 _ hy0 => ?_
  · exact Only.refl _
  · refine (only_event1 ..).over (Covers.some 3 1 rfl rfl) ?_
    exact hy0

theorem only_raise (s : State) (id) (unit) (org) :
    Only [.irqOwed, .heads, .cues, .evt, .fc, .sl] (some [.CU_EVT_OVR, .FC_CLEAR_REJ, .FC_CNT, .FC_FIRST_ID, .FC_FIRST_ORG,
      .FC_FIRST_TAI_NS, .FC_FIRST_TAI_SH, .FC_FIRST_TAI_SL, .FC_LAT, .FC_OVF, .FC_SUPPRESSED, .xx_STATUS]) s (State.raise s id
      unit org) := by
  unfold State.raise
  split
  · exact Only.refl _
  · extract_lets +onlyGivenNames y0
    refine Only.have y0 ?_ fun hy0 => ?_
    · subst y0
      refine Only.count .FC_CNT 2 rfl rfl ?_
      exact Only.refl _
    clear_value y0
    refine Only.ite ?_ ?_
    · extract_lets +onlyGivenNames y1
      refine Only.have y1 ?_ fun hy1 => ?_
      · subst y1
        refine Only.count .FC_SUPPRESSED 10 rfl rfl ?_
        exact hy0
      clear_value y1
      extract_lets +onlyGivenNames y2
      clear_value y2
      extract_lets +onlyGivenNames y3
      refine Only.have y3 ?_ fun hy3 => ?_
      · subst y3
        refine Only.fc 4 rfl ?_
        exact hy1
      clear_value y3
      refine (only_log ..).over (Covers.some 32 0 rfl rfl) ?_
      exact hy3
    · extract_lets +onlyGivenNames y4
      refine Only.have y4 ?_ fun hy4 => ?_
      · subst y4
        refine (only_unclear ..).over (Covers.some 17 2306 rfl rfl) ?_
        exact hy0
      clear_value y4
      extract_lets +onlyGivenNames y5
      clear_value y5
      extract_lets +onlyGivenNames y6
      refine Only.have y6 ?_ fun hy6 => ?_
      · subst y6
        refine (only_logEntry ..).over (Covers.some 32 0 rfl rfl) ?_
        exact hy4
      clear_value y6
      refine Only.ite ?_ ?_
      · exact hy6
      · extract_lets +onlyGivenNames y7
        refine Only.have y7 ?_ fun hy7 => ?_
        · subst y7
          refine Only.heads 1 rfl ?_
          exact hy6
        clear_value y7
        extract_lets +onlyGivenNames y8
        refine Only.have y8 ?_ fun hy8 => ?_
        · subst y8
          refine (only_noteRaise ..).over (Covers.some 16 0 rfl rfl) ?_
          exact hy7
        clear_value y8
        extract_lets +onlyGivenNames y9
        refine Only.have y9 ?_ fun hy9 => ?_
        · subst y9
          refine Only.ite ?_ ?_
          · exact hy8
          · refine (only_latchSource ..).over (Covers.some 17 3064 rfl rfl) ?_
            exact hy8
        clear_value y9
        extract_lets +onlyGivenNames y10
        refine Only.have y10 ?_ fun hy10 => ?_
        · subst y10
          refine (only_event ..).over (Covers.some 12 1 rfl rfl) ?_
          exact hy9
        clear_value y10
        extract_lets +onlyGivenNames y11
        clear_value y11
        refine Only.ite ?_ ?_
        · exact hy10
        · refine Only.fc 4 rfl ?_
          exact hy10

theorem only_dropped (s : State) (n) (o) (a) :
    Only [.irqOwed, .heads, .pls, .cues, .evt, .fc, .sl] (some [.CE_PL_WR_DENY, .CU_EVT_OVR, .FC_CLEAR_REJ, .FC_CNT,
      .FC_FIRST_ID, .FC_FIRST_ORG, .FC_FIRST_TAI_NS, .FC_FIRST_TAI_SH, .FC_FIRST_TAI_SL, .FC_LAT, .FC_OVF, .FC_SUPPRESSED,
      .xx_STATUS]) s (State.dropped s n o a) := by
  unfold State.dropped
  extract_lets +onlyGivenNames y0
  refine Only.have y0 ?_ fun hy0 => ?_
  · subst y0
    refine Only.count .CE_PL_WR_DENY 0 rfl rfl ?_
    exact Only.refl _
  clear_value y0
  extract_lets +onlyGivenNames y1
  clear_value y1
  refine Only.ite ?_ ?_
  · exact hy0
  · extract_lets +onlyGivenNames y2
    refine Only.have y2 ?_ fun hy2 => ?_
    · subst y2
      refine (only_setPl ..).over (Covers.some 4 0 rfl rfl) ?_
      exact hy0
    clear_value y2
    refine (only_raise ..).over (Covers.some 123 8190 rfl rfl) ?_
    refine (only_log ..).over (Covers.some 64 0 rfl rfl) ?_
    exact hy2

theorem only_memWrite (s : State) (host o a data) :
    Only [.irqOwed, .mem, .bad, .heads, .pls, .cues, .evt, .fc, .sl] (some [.CE_PL_S_STAT, .CE_PL_WR_DENY, .CU_EVT_OVR,
      .FC_CLEAR_REJ, .FC_CNT, .FC_FIRST_ID, .FC_FIRST_ORG, .FC_FIRST_TAI_NS, .FC_FIRST_TAI_SH, .FC_FIRST_TAI_SL, .FC_LAT,
      .FC_OVF, .FC_SUPPRESSED, .xx_STATUS]) s (s.memWrite host o a data) := by
  have h1 : ∀ m b, (Memory.wf s.mem = true → Memory.wf m = true) → Only [.irqOwed, .mem, .bad, .heads, .pls, .cues, .evt, .fc, .sl] (some [.CE_PL_S_STAT, .CE_PL_WR_DENY, .CU_EVT_OVR, .FC_CLEAR_REJ, .FC_CNT, .FC_FIRST_ID, .FC_FIRST_ORG, .FC_FIRST_TAI_NS, .FC_FIRST_TAI_SH, .FC_FIRST_TAI_SL, .FC_LAT, .FC_OVF, .FC_SUPPRESSED, .xx_STATUS]) s { s with mem := m, bad := b } :=
    fun m b hm => Only.bad (x := { s with mem := m }) 2 rfl (Only.mem 1 rfl hm (Only.refl _))
  unfold State.memWrite
  extract_lets +onlyGivenNames hit
  clear_value hit
  split
  · exact (only_dirtySlots ..).over (Covers.some 0 1 rfl rfl) (h1 _ _ (wf_putBytes _ _))
  · refine Only.foldl ((only_dirtySlots ..).over (Covers.some 0 1 rfl rfl) (h1 _ _ (wf_putKept _ _ _ _ _))) fun y e hy => ?_
    exact (only_dropped ..).over (Covers.some 505 16382 rfl rfl) hy

theorem only_journal (s : State) (k) (data) :
    Only [.irqOwed, .mem, .bad, .heads, .pls, .cues, .evt, .fc, .sl] (some [.CE_JRN_WR, .CE_PL_S_STAT, .CE_PL_WR_DENY,
      .CU_EVT_OVR, .FC_CLEAR_REJ, .FC_CNT, .FC_FIRST_ID, .FC_FIRST_ORG, .FC_FIRST_TAI_NS, .FC_FIRST_TAI_SH, .FC_FIRST_TAI_SL,
      .FC_LAT, .FC_OVF, .FC_SUPPRESSED, .xx_STATUS]) s (State.journal s k data) := by
  unfold State.journal
  refine Only.ite ?_ ?_
  · exact Only.refl _
  · extract_lets +onlyGivenNames y0
    clear_value y0
    extract_lets +onlyGivenNames y1
    clear_value y1
    extract_lets +onlyGivenNames y2
    refine Only.have y2 ?_ fun hy2 => ?_
    · subst y2
      refine (only_memWrite ..).over (Covers.some 511 32766 rfl rfl) ?_
      exact Only.refl _
    clear_value y2
    refine Only.set .CE_JRN_WR 0 rfl rfl ?_
    exact hy2

theorem only_applyStopped (s : State) (c) :
    Only [.irqOwed, .mem, .bad, .heads, .layers, .pls, .cues, .evt, .fc, .sl] (some [.CE_ADM_CULL, .CE_ADM_PEAK_B,
      .CE_ADM_PEAK_LP, .CE_ADM_PEAK_RES, .CE_CDET, .CE_CSTAT, .CE_JRN_WR, .CE_L_FENCE_STAT, .CE_L_SHOWN_HI, .CE_L_SHOWN_LO,
      .CE_PL_S_STAT, .CE_PL_WR_DENY, .CE_VINT_APP, .CU_EVT_OVR, .FC_CLEAR_REJ, .FC_CNT, .FC_FIRST_ID, .FC_FIRST_ORG,
      .FC_FIRST_TAI_NS, .FC_FIRST_TAI_SH, .FC_FIRST_TAI_SL, .FC_LAT, .FC_OVF, .FC_SUPPRESSED, .xx_STATUS]) s (State.applyStopped
      s c) := by
  unfold State.applyStopped
  extract_lets +onlyGivenNames y0
  refine Only.have y0 ?_ fun hy0 => ?_
  · subst y0
    refine (only_applySet ..).over (Covers.some 600 5055 rfl rfl) ?_
    exact Only.refl _
  clear_value y0
  refine (only_journal ..).over (Covers.some 1007 33549376 rfl rfl) ?_
  exact hy0

theorem only_acceptSet (s : State) (c) :
    Only [.irqOwed, .mem, .bad, .heads, .layers, .pls, .cues, .evt, .fc, .sl] (some [.CE_ADM_CULL, .CE_ADM_PEAK_B,
      .CE_ADM_PEAK_LP, .CE_ADM_PEAK_RES, .CE_CDET, .CE_CSTAT, .CE_JRN_WR, .CE_L_FENCE_STAT, .CE_L_SHOWN_HI, .CE_L_SHOWN_LO,
      .CE_PL_S_STAT, .CE_PL_WR_DENY, .CE_VINT_APP, .CU_EVT_OVR, .FC_CLEAR_REJ, .FC_CNT, .FC_FIRST_ID, .FC_FIRST_ORG,
      .FC_FIRST_TAI_NS, .FC_FIRST_TAI_SH, .FC_FIRST_TAI_SL, .FC_LAT, .FC_OVF, .FC_SUPPRESSED, .xx_STATUS]) s (State.acceptSet s
      c) := by
  unfold State.acceptSet
  extract_lets +onlyGivenNames y0
  clear_value y0
  refine Only.ite ?_ ?_
  · refine (only_showState ..).over (Covers.some 64 48 rfl rfl) ?_
    refine (only_updHead ..).over (Covers.some 8 0 rfl rfl) ?_
    exact Only.refl _
  · refine Only.ite ?_ ?_
    · refine (only_applyStopped ..).over (Covers.some 1023 33554431 rfl rfl) ?_
      exact Only.refl _
    · refine (only_addPending ..).over (Covers.some 72 48 rfl rfl) ?_
      exact Only.refl _

theorem only_updCue (s : State) (n) (f) : Only [.cues] (some []) s (State.updCue s n f) := by
  unfold State.updCue
  refine (only_setCue ..).over (Covers.some 1 0 rfl rfl) ?_
  exact Only.refl _

theorem only_haltWith (s : State) (n) (stop) :
    Only [.irqOwed, .cues] (some [.CU_STAT, .xx_STATUS]) s (State.haltWith s n stop) := by
  unfold State.haltWith
  extract_lets +onlyGivenNames y0
  refine Only.have y0 ?_ fun hy0 => ?_
  · subst y0
    refine (only_updCue ..).over (Covers.some 2 0 rfl rfl) ?_
    refine Only.set .CU_STAT 0 rfl rfl ?_
    refine Only.set .CU_STAT 0 rfl rfl ?_
    exact Only.refl _
  clear_value y0
  refine (only_latch ..).over (Covers.some 1 2 rfl rfl) ?_
  exact hy0

theorem only_haltDue (s : State) (n) : Only [.irqOwed, .cues] (some [.CU_STAT, .xx_STATUS]) s (State.haltDue s n) := by
  unfold State.haltDue
  refine Only.ite ?_ ?_
  · refine (only_haltWith ..).over (Covers.some 3 3 rfl rfl) ?_
    exact Only.refl _
  · refine Only.ite ?_ ?_
    · refine (only_haltWith ..).over (Covers.some 3 3 rfl rfl) ?_
      exact Only.refl _
    · exact Only.refl _

theorem only_spend (s : State) (n) (k) : Only [.cues] (some []) s (State.spend s n k) := by
  unfold State.spend
  refine (only_updCue ..).over (Covers.some 1 0 rfl rfl) ?_
  exact Only.refl _

theorem only_setPc (s : State) (n) (pc) : Only [] (some [.CU_PC]) s (State.setPc s n pc) := by
  unfold State.setPc
  refine Only.set .CU_PC 0 rfl rfl ?_
  exact Only.refl _

theorem only_enterTrap (s : State) (n) (v) (epc) (edata) :
    Only [.irqOwed, .heads, .cues, .evt, .fc, .sl] (some [.CU_ECAUSE, .CU_EDATA, .CU_EPC, .CU_EVT_OVR, .CU_PC, .CU_STAT,
      .CU_TRAP_CNT, .FC_CLEAR_REJ, .FC_CNT, .FC_FIRST_ID, .FC_FIRST_ORG, .FC_FIRST_TAI_NS, .FC_FIRST_TAI_SH, .FC_FIRST_TAI_SL,
      .FC_LAT, .FC_OVF, .FC_SUPPRESSED, .xx_STATUS]) s (State.enterTrap s n v epc edata) := by
  unfold State.enterTrap
  extract_lets +onlyGivenNames y0
  clear_value y0
  extract_lets +onlyGivenNames y1
  clear_value y1
  extract_lets +onlyGivenNames y2
  refine Only.have y2 ?_ fun hy2 => ?_
  · subst y2
    refine Only.set .CU_EDATA 1 rfl rfl ?_
    refine Only.set .CU_ECAUSE 0 rfl rfl ?_
    refine Only.set .CU_EPC 2 rfl rfl ?_
    exact Only.refl _
  clear_value y2
  extract_lets +onlyGivenNames y3
  refine Only.have y3 ?_ fun hy3 => ?_
  · subst y3
    refine (only_updCue ..).over (Covers.some 4 0 rfl rfl) ?_
    exact hy2
  clear_value y3
  extract_lets +onlyGivenNames y4
  refine Only.have y4 ?_ fun hy4 => ?_
  · subst y4
    refine (only_spend ..).over (Covers.some 4 0 rfl rfl) ?_
    refine (only_setPc ..).over (Covers.some 0 16 rfl rfl) ?_
    refine Only.set .CU_STAT 5 rfl rfl ?_
    exact hy3
  clear_value y4
  extract_lets +onlyGivenNames y5
  refine Only.have y5 ?_ fun hy5 => ?_
  · subst y5
    refine (only_latch ..).over (Covers.some 1 131072 rfl rfl) ?_
    refine Only.count .CU_TRAP_CNT 6 rfl rfl ?_
    exact hy4
  clear_value y5
  refine Only.ite ?_ ?_
  · refine (only_raise ..).over (Covers.some 63 262024 rfl rfl) ?_
    exact hy5
  · refine Only.ite ?_ ?_
    · refine (only_raise ..).over (Covers.some 63 262024 rfl rfl) ?_
      exact hy5
    · exact hy5

theorem only_doubleHalt (s : State) (n) (pc) :
    Only [.irqOwed, .heads, .cues, .evt, .fc, .sl] (some [.CU_EVT_OVR, .CU_PC, .CU_STAT, .FC_CLEAR_REJ, .FC_CNT, .FC_FIRST_ID,
      .FC_FIRST_ORG, .FC_FIRST_TAI_NS, .FC_FIRST_TAI_SH, .FC_FIRST_TAI_SL, .FC_LAT, .FC_OVF, .FC_SUPPRESSED, .xx_STATUS]) s
      (State.doubleHalt s n pc) := by
  unfold State.doubleHalt
  extract_lets +onlyGivenNames y0
  refine Only.have y0 ?_ fun hy0 => ?_
  · subst y0
    refine (only_setPc ..).over (Covers.some 0 2 rfl rfl) ?_
    exact Only.refl _
  clear_value y0
  extract_lets +onlyGivenNames y1
  clear_value y1
  refine (only_raise ..).over (Covers.some 63 16377 rfl rfl) ?_
  refine (only_haltWith ..).over (Covers.some 5 8196 rfl rfl) ?_
  exact hy0

theorem only_trapNow (s : State) (n) (v) (edata) :
    Only [.irqOwed, .heads, .cues, .evt, .fc, .sl] (some [.CU_ECAUSE, .CU_EDATA, .CU_EPC, .CU_EVT_OVR, .CU_PC, .CU_STAT,
      .CU_TRAP_CNT, .FC_CLEAR_REJ, .FC_CNT, .FC_FIRST_ID, .FC_FIRST_ORG, .FC_FIRST_TAI_NS, .FC_FIRST_TAI_SH, .FC_FIRST_TAI_SL,
      .FC_LAT, .FC_OVF, .FC_SUPPRESSED, .xx_STATUS]) s (State.trapNow s n v edata) := by
  unfold State.trapNow
  extract_lets +onlyGivenNames y0
  clear_value y0
  refine Only.ite ?_ ?_
  · refine (only_haltDue ..).over (Covers.some 5 131104 rfl rfl) ?_
    refine (only_enterTrap ..).over (Covers.some 63 262143 rfl rfl) ?_
    exact Only.refl _
  · refine (only_doubleHalt ..).over (Covers.some 63 262072 rfl rfl) ?_
    exact Only.refl _

theorem only_fresh (s : State) : Only [.free] (some []) s s.fresh.2 := Only.free 0 rfl (Only.refl _)

theorem only_holdWrite (s : State) (c) (o) (addr) (v) (be) : Only [.slowHold] (some []) s (State.holdWrite s c o addr v be) := by
  unfold State.holdWrite
  refine Only.slowHold 0 rfl ?_
  exact Only.refl _

theorem only_setImem (s : State) (n) (i) (v) : Only [.imem, .ecc] (some []) s (State.setImem s n i v) := by
  unfold State.setImem
  refine Only.upd (x := s) 3 ⟨rfl, Nat.le_refl _, List.prefix_refl _, Nat.le_refl _, Nat.le_refl _, id, id⟩ (.inr rfl) (fun a ha => by cases a <;> first | rfl | exact absurd (by decide) ha) ?_
  exact Only.refl _

theorem only_slotWrite (s : State) (org) (e) (i) (up) (v) :
    Only [.imem, .ecc] (some []) s (State.slotWrite s org e i up v).1 := by
  unfold State.slotWrite
  extract_lets +onlyGivenNames y0
  clear_value y0
  extract_lets +onlyGivenNames y1
  clear_value y1
  refine Only.ite1 ?_ ?_
  · refine Only.fst ?_
    exact Only.refl _
  · refine Only.ite1 ?_ ?_
    · refine Only.fst ?_
      exact Only.refl _
    · refine Only.fst ?_
      refine (only_setImem ..).over (Covers.some 3 0 rfl rfl) ?_
      exact Only.refl _

theorem only_refuse (s : State) (hdr) (j) (org) :
    Only [.irqOwed, .heads, .cues, .evt, .fc, .sl] (some [.CU_EVT_OVR, .FC_CLEAR_REJ, .FC_CNT, .FC_FIRST_ID, .FC_FIRST_ORG,
      .FC_FIRST_TAI_NS, .FC_FIRST_TAI_SH, .FC_FIRST_TAI_SL, .FC_LAT, .FC_OVF, .FC_SUPPRESSED, .xx_REFUSED, .xx_STATUS]) s
      (State.refuse s hdr j org) := by
  unfold State.refuse
  split
  · exact Only.refl _
  · refine Only.count .xx_REFUSED 11 rfl rfl ?_
    exact Only.refl _
  · refine (only_raise ..).over (Covers.some 63 6143 rfl rfl) ?_
    refine Only.count .xx_REFUSED 11 rfl rfl ?_
    exact Only.refl _

theorem only_slowWrite (s : State) (code) (org) (addr) (k) (v) :
    Only [.irqOwed, .w1, .slowQ, .heads, .cues, .evt, .fc, .sl] (some [.CU_EVT_OVR, .FC_CLEAR_REJ, .FC_CNT, .FC_FIRST_ID,
      .FC_FIRST_ORG, .FC_FIRST_TAI_NS, .FC_FIRST_TAI_SH, .FC_FIRST_TAI_SL, .FC_LAT, .FC_OVF, .FC_SUPPRESSED, .xx_AGE,
      .xx_REFUSED, .xx_STATUS]) s (State.slowWrite s code org addr k v).1 := by
  unfold State.slowWrite
  extract_lets +onlyGivenNames y0
  clear_value y0
  refine Only.ite1 ?_ ?_
  · refine Only.fst ?_
    refine (only_log ..).over (Covers.some 128 0 rfl rfl) ?_
    refine (only_refuse ..).over (Covers.some 249 14335 rfl rfl) ?_
    exact Only.refl _
  · extract_lets +onlyGivenNames y1
    refine Only.have y1 ?_ fun hy1 => ?_
    · subst y1
      refine Only.upd (x := s) 6 ⟨rfl, Nat.le_refl _, List.prefix_refl _, Nat.le_refl _, Nat.le_refl _, id, id⟩ (.inr rfl) (fun a ha => by cases a <;> first | rfl | exact absurd (by decide) ha) ?_
      exact Only.refl _
    clear_value y1
    refine Only.fst ?_
    refine Only.set .xx_AGE 11 rfl rfl ?_
    exact hy1

theorem only_statusWrite (s : State) (k) (v) : Only [] none s (State.statusWrite s k v) := by
  unfold State.statusWrite
  extract_lets +onlyGivenNames y0
  clear_value y0
  refine Only.ite ?_ ?_
  · exact Only.refl _
  · refine Only.wrAny ?_
    exact Only.refl _

theorem only_updDv (s : State) (f) : Only [.dv] (some []) s (State.updDv s f) := by
  unfold State.updDv
  refine Only.dv 0 rfl ?_
  exact Only.refl _

theorem only_clearKeys (s : State) (p) : Only [.eff, .waiting, .w1] none s (State.clearKeys s p) := by
  unfold State.clearKeys
  refine Only.upd (x := s) 7 ⟨rfl, Nat.le_refl _, List.prefix_refl _, Nat.le_refl _, Nat.le_refl _, id, nodup_filter _⟩ (.inl rfl) (fun a ha => by cases a <;> first | rfl | exact absurd (by decide) ha) ?_
  exact Only.refl _

theorem only_resetEngine (s : State) (n) : Only [.eff, .waiting, .w1, .cues, .evt] none s (State.resetEngine s n) := by
  unfold State.resetEngine
  extract_lets +onlyGivenNames y0
  clear_value y0
  extract_lets +onlyGivenNames y1
  refine Only.have y1 ?_ fun hy1 => ?_
  · subst y1
    refine (only_clearKeys ..).over (Covers.any 7 rfl) ?_
    exact Only.refl _
  clear_value y1
  extract_lets +onlyGivenNames y2
  refine Only.have y2 ?_ fun hy2 => ?_
  · subst y2
    refine (only_setCue ..).over (Covers.any 8 rfl) ?_
    refine Only.wrAny ?_
    exact hy1
  clear_value y2
  refine Only.foldl ?_ fun y3 _ hy3 => ?_
  · exact hy2
  · refine (only_setEvt ..).over (Covers.any 16 rfl) ?_
    exact hy3

theorem only_setMb (s : State) (f) (m) : Only [.mbx] (some []) s (State.setMb s f m) := by
  unfold State.setMb
  refine Only.mbx 0 rfl ?_
  exact Only.refl _

theorem only_setVec (s : State) (f) (v) (x) : Only [.msix] (some []) s (State.setVec s f v x) := by
  unfold State.setVec
  refine Only.msix 0 rfl ?_
  exact Only.refl _

theorem only_emit (s : State) (o) : Only [.out] (some []) s (s.emit o) := Only.out 0 rfl (Only.refl _)

theorem only_interrupt (s : State) (f) (v) : Only [.out, .msix] (some []) s (State.interrupt s f v) := by
  unfold State.interrupt
  extract_lets +onlyGivenNames y0
  clear_value y0
  refine Only.ite ?_ ?_
  · refine (only_setVec ..).over (Covers.some 2 0 rfl rfl) ?_
    exact Only.refl _
  · refine (only_emit ..).over (Covers.some 1 0 rfl rfl) ?_
    exact Only.refl _

theorem only_mbxFinish (s : State) (f) (code) (words) :
    Only [.out, .msix, .mbx] (some [.DV_MBX_RESULT, .DV_MBX_RSP, .DV_MBX_STAT]) s (State.mbxFinish s f code words) := by
  unfold State.mbxFinish
  extract_lets +onlyGivenNames y0
  refine Only.have y0 ?_ fun hy0 => ?_
  · subst y0
    refine Only.wr .DV_MBX_RSP 1 rfl rfl ?_
    exact Only.refl _
  clear_value y0
  extract_lets +onlyGivenNames y1
  refine Only.have y1 ?_ fun hy1 => ?_
  · subst y1
    refine Only.foldl ?_ fun y2 _ hy2 => ?_
    · exact hy0
    · refine Only.wr .DV_MBX_RSP 1 rfl rfl ?_
      exact hy2
  clear_value y1
  extract_lets +onlyGivenNames y3
  refine Only.have y3 ?_ fun hy3 => ?_
  · subst y3
    refine (only_setMb ..).over (Covers.some 4 0 rfl rfl) ?_
    refine Only.set .DV_MBX_STAT 2 rfl rfl ?_
    refine Only.set .DV_MBX_RESULT 0 rfl rfl ?_
    exact hy1
  clear_value y3
  refine Only.ite ?_ ?_
  · refine (only_interrupt ..).over (Covers.some 3 0 rfl rfl) ?_
    exact hy3
  · exact hy3

theorem only_noSlave (s : State) : Only [.tb] (some []) s (State.noSlave s) := by
  unfold State.noSlave
  refine Only.tb 0 rfl ?_
  exact Only.refl _

theorem only_applyInc (s : State) (req) (org) :
    Only [.irqOwed, .heads, .cues, .evt, .fc, .sl] (some [.CU_EVT_OVR, .FC_CLEAR_REJ, .FC_CNT, .FC_FIRST_ID, .FC_FIRST_ORG,
      .FC_FIRST_TAI_NS, .FC_FIRST_TAI_SH, .FC_FIRST_TAI_SL, .FC_LAT, .FC_OVF, .FC_SUPPRESSED, .TB_CLAMP, .TB_INC_HI, .TB_INC_LO,
      .xx_STATUS]) s (State.applyInc s req org) := by
  unfold State.applyInc
  extract_lets +onlyGivenNames y0
  subst y0
  extract_lets +onlyGivenNames y1
  clear_value y1
  extract_lets +onlyGivenNames y2
  refine Only.have y2 ?_ fun hy2 => ?_
  · subst y2
    refine Only.set .TB_INC_LO 13 rfl rfl ?_
    refine Only.set .TB_INC_HI 12 rfl rfl ?_
    exact Only.refl _
  clear_value y2
  refine Only.ite ?_ ?_
  · exact hy2
  · refine (only_raise ..).over (Covers.some 63 18431 rfl rfl) ?_
    refine (only_latch ..).over (Covers.some 1 16384 rfl rfl) ?_
    refine Only.count .TB_CLAMP 11 rfl rfl ?_
    exact hy2

theorem only_letGo (s : State) (n) : Only [.heads] (some []) s (letGo s n) := by
  unfold letGo
  refine Only.ite ?_ ?_
  · extract_lets +onlyGivenNames y0
    clear_value y0
    refine (only_updHead ..).over (Covers.some 1 0 rfl rfl) ?_
    exact Only.refl _
  · exact Only.refl _

theorem only_setTb (s : State) (st) :
    Only [.irqOwed, .tb, .heads, .cues, .evt, .fc, .sl] (some [.CU_EVT_OVR, .FC_CLEAR_REJ, .FC_CNT, .FC_FIRST_ID, .FC_FIRST_ORG,
      .FC_FIRST_TAI_NS, .FC_FIRST_TAI_SH, .FC_FIRST_TAI_SL, .FC_LAT, .FC_OVF, .FC_SUPPRESSED, .TB_CLAMP, .TB_INC_HI, .TB_INC_LO,
      .TB_STATE, .xx_STATUS]) s (State.setTb s st) := by
  unfold State.setTb
  extract_lets +onlyGivenNames y0
  clear_value y0
  refine Only.ite ?_ ?_
  · exact Only.refl _
  · extract_lets +onlyGivenNames y1
    refine Only.have y1 ?_ fun hy1 => ?_
    · subst y1
      refine (only_latch ..).over (Covers.some 1 32768 rfl rfl) ?_
      refine Only.set .TB_STATE 14 rfl rfl ?_
      exact Only.refl _
    clear_value y1
    extract_lets +onlyGivenNames y2
    refine Only.have y2 ?_ fun hy2 => ?_
    · subst y2
      refine (only_event ..).over (Covers.some 24 1 rfl rfl) ?_
      exact hy1
    clear_value y2
    extract_lets +onlyGivenNames y3
    clear_value y3
    extract_lets +onlyGivenNames y4
    refine Only.have y4 ?_ fun hy4 => ?_
    · subst y4
      refine Only.ite ?_ ?_
      · refine Only.tb 1 rfl ?_
        exact hy2
      · exact hy2
    clear_value y4
    extract_lets +onlyGivenNames y5
    clear_value y5
    extract_lets +onlyGivenNames y6
    refine Only.have y6 ?_ fun hy6 => ?_
    · subst y6
      refine Only.ite ?_ ?_
      · refine Only.tb 1 rfl ?_
        exact hy4
      · exact hy4
    clear_value y6
    extract_lets +onlyGivenNames y7
    subst y7
    extract_lets +onlyGivenNames y8
    refine Only.have y8 ?_ fun hy8 => ?_
    · subst y8
      refine Only.ite ?_ ?_
      · refine Only.ite ?_ ?_
        · exact hy6
        · refine (only_applyInc ..).over (Covers.some 125 49151 rfl rfl) ?_
          exact hy6
      · exact hy6
    clear_value y8
    refine Only.ite ?_ ?_
    · extract_lets +onlyGivenNames y9
      refine Only.have y9 ?_ fun hy9 => ?_
      · subst y9
        refine Only.set .TB_STATE 14 rfl rfl ?_
        exact hy8
      clear_value y9
      extract_lets +onlyGivenNames y10
      clear_value y10
      extract_lets +onlyGivenNames y11
      refine Only.have y11 ?_ fun hy11 => ?_
      · subst y11
        refine Only.tb 1 rfl ?_
        exact hy9
      clear_value y11
      split
      · refine Only.ite ?_ ?_
        · exact hy11
        · extract_lets +onlyGivenNames y12
          clear_value y12
          extract_lets +onlyGivenNames y13
          refine Only.have y13 ?_ fun hy13 => ?_
          · subst y13
            refine Only.tb 1 rfl ?_
            exact hy11
          clear_value y13
          refine Only.foldl ?_ fun y14 _ hy14 => ?_
          · exact hy13
          · refine (only_letGo ..).over (Covers.some 4 0 rfl rfl) ?_
            exact hy14
      · exact hy11
    · exact hy8

theorem only_serviceReset (s : State) (cause) :
    Only [.out, .irqOwed, .eff, .waiting, .w1, .msix, .dv, .mbx, .tb, .heads, .cues, .evt, .fc, .sl] none s (State.serviceReset
      s cause) := by
  unfold State.serviceReset
  extract_lets +onlyGivenNames y0
  refine Only.have y0 ?_ fun hy0 => ?_
  · subst y0
    refine Only.foldl ?_ fun y1 _ hy1 => ?_
    · exact Only.refl _
    · refine (only_resetEngine ..).over (Covers.any 3100 rfl) ?_
      exact hy1
  clear_value y0
  extract_lets +onlyGivenNames y2
  refine Only.have y2 ?_ fun hy2 => ?_
  · subst y2
    refine Only.setAny ?_
    exact hy0
  clear_value y2
  extract_lets +onlyGivenNames y3
  refine Only.have y3 ?_ fun hy3 => ?_
  · subst y3
    refine Only.foldl ?_ fun y4 _ hy4 => ?_
    · exact hy2
    · extract_lets +onlyGivenNames y5
      refine Only.have y5 ?_ fun hy5 => ?_
      · subst y5
        refine Only.ite ?_ ?_
        · refine (only_mbxFinish ..).over (Covers.any 161 rfl) ?_
          exact hy4
        · exact hy4
      clear_value y5
      refine Only.setAny ?_
      exact hy5
  clear_value y3
  extract_lets +onlyGivenNames y6
  clear_value y6
  extract_lets +onlyGivenNames y7
  refine Only.have y7 ?_ fun hy7 => ?_
  · subst y7
    refine Only.tb 8 rfl ?_
    exact hy3
  clear_value y7
  extract_lets +onlyGivenNames y8
  refine Only.have y8 ?_ fun hy8 => ?_
  · subst y8
    refine (only_noSlave ..).over (Covers.any 256 rfl) ?_
    exact hy7
  clear_value y8
  extract_lets +onlyGivenNames y9
  refine Only.have y9 ?_ fun hy9 => ?_
  · subst y9
    refine Only.ite ?_ ?_
    · refine (only_setTb ..).over (Covers.any 16130 rfl) ?_
      exact hy8
    · exact hy8
  clear_value y9
  extract_lets +onlyGivenNames y10
  refine Only.have y10 ?_ fun hy10 => ?_
  · subst y10
    refine Only.countAny ?_
    refine Only.setAny ?_
    exact hy9
  clear_value y10
  refine (only_updDv ..).over (Covers.any 64 rfl) ?_
  exact hy10

theorem only_askReset (s : State) (kind) : Only [.dv] (some []) s (State.askReset s kind) := by
  unfold State.askReset
  refine (only_updDv ..).over (Covers.some 1 0 rfl rfl) ?_
  exact Only.refl _

theorem only_mbxCancel (s : State) (f) :
    Only [.mbx] (some [.DV_MBX_RESULT, .DV_MBX_RSP, .DV_MBX_STAT]) s (State.mbxCancel s f) := by
  unfold State.mbxCancel
  refine Only.ite ?_ ?_
  · exact Only.refl _
  · extract_lets +onlyGivenNames y0
    clear_value y0
    extract_lets +onlyGivenNames y1
    clear_value y1
    extract_lets +onlyGivenNames y2
    refine Only.have y2 ?_ fun hy2 => ?_
    · subst y2
      refine Only.wr .DV_MBX_RSP 1 rfl rfl ?_
      refine Only.wr .DV_MBX_RSP 1 rfl rfl ?_
      exact Only.refl _
    clear_value y2
    refine (only_setMb ..).over (Covers.some 1 0 rfl rfl) ?_
    refine Only.set .DV_MBX_STAT 2 rfl rfl ?_
    refine Only.set .DV_MBX_RESULT 0 rfl rfl ?_
    exact hy2

theorem only_mbxPost (s : State) (f) (tag) : Only [.mbx] (some [.DV_MBX_STAT]) s (State.mbxPost s f tag) := by
  unfold State.mbxPost
  extract_lets +onlyGivenNames y0
  clear_value y0
  extract_lets +onlyGivenNames y1
  clear_value y1
  extract_lets +onlyGivenNames y2
  refine Only.have y2 ?_ fun hy2 => ?_
  · subst y2
    refine Only.set .DV_MBX_STAT 0 rfl rfl ?_
    refine Only.set .DV_MBX_STAT 0 rfl rfl ?_
    exact Only.refl _
  clear_value y2
  refine (only_setMb ..).over (Covers.some 1 0 rfl rfl) ?_
  exact hy2

theorem only_rearm (s : State) :
    Only [.irqOwed, .fc] (some [.FC_FIRST_ID, .FC_FIRST_ORG, .FC_FIRST_TAI_NS, .FC_FIRST_TAI_SH, .FC_FIRST_TAI_SL, .FC_OVF,
      .xx_STATUS]) s (State.rearm s) := by
  unfold State.rearm
  extract_lets +onlyGivenNames y0
  refine Only.have y0 ?_ fun hy0 => ?_
  · subst y0
    refine Only.wr .FC_OVF 5 rfl rfl ?_
    refine Only.set .FC_FIRST_ID 0 rfl rfl ?_
    exact Only.refl _
  extract_lets +onlyGivenNames y1
  subst y1
  extract_lets +onlyGivenNames y2
  refine Only.have y2 ?_ fun hy2 => ?_
  · subst y2
    refine Only.fc 1 rfl ?_
    exact hy0
  refine Only.ite ?_ ?_
  · refine Only.foldl ?_ fun y3 _ hy3 => ?_
    · exact hy2
    · refine (only_takeFirst ..).over (Covers.some 3 127 rfl rfl) ?_
      exact hy3
  · exact hy2

theorem only_clearSource (s : State) (id) :
    Only [.irqOwed, .fc] (some [.FC_CLEAR_REJ, .FC_LAT, .xx_STATUS]) s (State.clearSource s id) := by
  unfold State.clearSource
  split
  · exact Only.refl _
  · exact Only.refl _
  · refine Only.ite ?_ ?_
    · exact Only.refl _
    · refine Only.ite ?_ ?_
      · refine (only_latch ..).over (Covers.some 1 4 rfl rfl) ?_
        refine Only.count .FC_CLEAR_REJ 0 rfl rfl ?_
        exact Only.refl _
      · extract_lets +onlyGivenNames y0
        clear_value y0
        extract_lets +onlyGivenNames y1
        refine Only.have y1 ?_ fun hy1 => ?_
        · subst y1
          refine Only.set .FC_LAT 1 rfl rfl ?_
          exact Only.refl _
        clear_value y1
        refine Only.fc 1 rfl ?_
        exact hy1

theorem only_clearAll (s : State) : Only [.irqOwed, .fc] (some [.FC_CLEAR_REJ, .FC_LAT, .xx_STATUS]) s (State.clearAll s) := by
  unfold State.clearAll
  refine Only.foldl ?_ fun y0 _ hy0 => ?_
  · exact Only.refl _
  · refine (only_clearSource ..).over (Covers.some 3 7 rfl rfl) ?_
    exact hy0

theorem only_evalMode (s : State) : Only [.cues, .evt, .sl] (some [.CU_EVT_OVR, .DV_MODE]) s (State.evalMode s) := by
  unfold State.evalMode
  extract_lets +onlyGivenNames y0
  clear_value y0
  extract_lets +onlyGivenNames y1
  clear_value y1
  refine Only.ite ?_ ?_
  · exact Only.refl _
  · refine (only_event ..).over (Covers.some 3 1 rfl rfl) ?_
    refine (only_log ..).over (Covers.some 4 0 rfl rfl) ?_
    refine Only.set .DV_MODE 1 rfl rfl ?_
    exact Only.refl _

theorem only_withdraw (s : State) (mode) (p) : Only [.ads] (some []) s (State.withdraw s mode p) := by
  unfold State.withdraw
  refine Only.ads 0 rfl ?_
  exact Only.refl _

theorem only_withdrawHead (s : State) (n) (st) : Only [.ads] (some []) s (State.withdrawHead s n st) := by
  unfold State.withdrawHead
  extract_lets +onlyGivenNames y0
  clear_value y0
  refine (only_withdraw ..).over (Covers.some 1 0 rfl rfl) ?_
  refine (only_withdraw ..).over (Covers.some 1 0 rfl rfl) ?_
  exact Only.refl _

theorem only_setHst (s : State) (n) (st) : Only [.ads, .cues, .evt] (some [.CU_EVT_OVR, .HD_STAT]) s (State.setHst s n st) := by
  unfold State.setHst
  refine Only.ite ?_ ?_
  · exact Only.refl _
  · refine (only_event ..).over (Covers.some 6 1 rfl rfl) ?_
    refine Only.set .HD_STAT 1 rfl rfl ?_
    refine (only_withdrawHead ..).over (Covers.some 1 0 rfl rfl) ?_
    exact Only.refl _

theorem only_cancelPl (s : State) (n) : Only [.pls] (some [.CE_PL_CSTAT]) s (State.cancelPl s n) := by
  unfold State.cancelPl
  extract_lets +onlyGivenNames y0
  clear_value y0
  split
  · exact Only.refl _
  · extract_lets +onlyGivenNames y1
    refine Only.have y1 ?_ fun hy1 => ?_
    · subst y1
      refine (only_setPl ..).over (Covers.some 1 0 rfl rfl) ?_
      exact Only.refl _
    clear_value y1
    refine Only.ite ?_ ?_
    · refine Only.set .CE_PL_CSTAT 0 rfl rfl ?_
      refine Only.set .CE_PL_CSTAT 0 rfl rfl ?_
      exact hy1
    · exact hy1

theorem only_setChecks (s : State) (k) (cs) : Only [.engines] (some []) s (State.setChecks s k cs) := by
  unfold State.setChecks
  refine Only.engines 0 rfl ?_
  exact Only.refl _

theorem only_takePrepared {A : List Area} {R : Option (List Reg)} {s x : State} {ns f} (hc : Covers A R [.heads] (some [])) (h :
    Only A R s x)
    (hf : ∀ y, Only A R s y → ∀ c, Only A R s (f y c)) : Only A R s (x.takePrepared ns f) := by
  unfold State.takePrepared
  refine Only.foldl h fun y e hy => ?_
  split
  · exact hf _ ((only_updHead ..).over hc hy) _
  · exact hy

theorem only_cancelSet (s : State) (c) (reason) : Only [.cues] (some [.CE_CDET, .CE_CSTAT]) s (State.cancelSet s c reason) := by
  unfold State.cancelSet
  refine (only_showState ..).over (Covers.some 1 3 rfl rfl) ?_
  exact Only.refl _

theorem only_leaveActive (s : State) (n) :
    Only [.heads, .engines, .groups, .cues] (some [.CE_CDET, .CE_CSTAT]) s (State.leaveActive s n) := by
  unfold State.leaveActive
  extract_lets +onlyGivenNames y0
  refine Only.have y0 ?_ fun hy0 => ?_
  · subst y0
    refine Only.foldl ?_ fun y1 _ hy1 => ?_
    · exact Only.refl _
    · refine (only_setChecks ..).over (Covers.some 2 0 rfl rfl) ?_
      exact hy1
  clear_value y0
  extract_lets +onlyGivenNames y2
  refine Only.have y2 ?_ fun hy2 => ?_
  · subst y2
    refine Only.groups 2 rfl ?_
    exact hy0
  clear_value y2
  refine only_takePrepared (Covers.some 1 0 rfl rfl) ?_ fun y3 hy3 _ => ?_
  · exact hy2
  · refine (only_cancelSet ..).over (Covers.some 8 3 rfl rfl) ?_
    exact hy3

theorem only_dropPending (s : State) (n) :
    Only [.heads, .layers, .cues] (some [.CE_CDET, .CE_CSTAT, .CE_L_FENCE_STAT, .CE_L_SHOWN_HI, .CE_L_SHOWN_LO]) s
      (State.dropPending s n) := by
  unfold State.dropPending
  extract_lets +onlyGivenNames y0
  clear_value y0
  extract_lets +onlyGivenNames y1
  refine Only.have y1 ?_ fun hy1 => ?_
  · subst y1
    refine (only_updHead ..).over (Covers.some 1 0 rfl rfl) ?_
    exact Only.refl _
  clear_value y1
  extract_lets +onlyGivenNames y2
  refine Only.have y2 ?_ fun hy2 => ?_
  · subst y2
    refine Only.foldl ?_ fun y3 _ hy3 => ?_
    · exact hy1
    · refine (only_cancelSet ..).over (Covers.some 4 3 rfl rfl) ?_
      exact hy3
  clear_value y2
  refine Only.foldl ?_ fun y4 _ hy4 => ?_
  · exact hy2
  · extract_lets +onlyGivenNames y5
    clear_value y5
    refine (only_setLayer ..).over (Covers.some 2 0 rfl rfl) ?_
    refine (only_dropLayer ..).over (Covers.some 2 28 rfl rfl) ?_
    exact hy4

theorem only_moveHead (s : State) (n) (st) :
    Only [.heads, .engines, .groups, .ads, .layers, .pls, .cues, .evt] (some [.CE_CDET, .CE_CSTAT, .CE_L_FENCE_STAT,
      .CE_L_SHOWN_HI, .CE_L_SHOWN_LO, .CE_PL_CSTAT, .CU_EVT_OVR, .HD_STAT]) s (State.moveHead s n st) := by
  unfold State.moveHead
  extract_lets +onlyGivenNames y0
  clear_value y0
  extract_lets +onlyGivenNames y1
  refine Only.have y1 ?_ fun hy1 => ?_
  · subst y1
    refine (only_setHst ..).over (Covers.some 200 192 rfl rfl) ?_
    exact Only.refl _
  clear_value y1
  extract_lets +onlyGivenNames y2
  refine Only.have y2 ?_ fun hy2 => ?_
  · subst y2
    refine Only.ite ?_ ?_
    · refine (only_cancelPl ..).over (Covers.some 32 32 rfl rfl) ?_
      refine (only_leaveActive ..).over (Covers.some 71 3 rfl rfl) ?_
      exact hy1
    · exact hy1
  clear_value y2
  refine Only.ite ?_ ?_
  · refine (only_dropPending ..).over (Covers.some 81 31 rfl rfl) ?_
    exact hy2
  · exact hy2

theorem only_resumeUnit (s : State) (u) : Only [] (some [.CK_STAT]) s (State.resumeUnit s u) := by
  unfold State.resumeUnit
  refine Only.ite ?_ ?_
  · exact Only.refl _
  · refine Only.set .CK_STAT 0 rfl rfl ?_
    exact Only.refl _

theorem only_setPlMode (s : State) (n) (m) : Only [] (some [.CE_PL_CSTAT]) s (State.setPlMode s n m) := by
  unfold State.setPlMode
  refine Only.set .CE_PL_CSTAT 0 rfl rfl ?_
  exact Only.refl _

theorem only_hidePl (s : State) (n) : Only [.pls] (some [.CE_PL_CSTAT, .CK_STAT]) s (State.hidePl s n) := by
  unfold State.hidePl
  extract_lets +onlyGivenNames y0
  clear_value y0
  extract_lets +onlyGivenNames y1
  refine Only.have y1 ?_ fun hy1 => ?_
  · subst y1
    refine (only_updPl ..).over (Covers.some 1 0 rfl rfl) ?_
    exact Only.refl _
  clear_value y1
  refine (only_resumeUnit ..).over (Covers.some 0 2 rfl rfl) ?_
  refine (only_setPlMode ..).over (Covers.some 0 1 rfl rfl) ?_
  exact hy1

theorem only_endHeadWaits (s : State) (n) : Only [.cues] (some []) s (State.endHeadWaits s n) := by
  unfold State.endHeadWaits
  extract_lets +onlyGivenNames y0
  clear_value y0
  split
  · exact Only.refl _
  · extract_lets +onlyGivenNames y1
    refine Only.have y1 ?_ fun hy1 => ?_
    · subst y1
      refine (only_setCue ..).over (Covers.some 1 0 rfl rfl) ?_
      exact Only.refl _
    clear_value y1
    split
    · refine Only.ite ?_ ?_
      · exact hy1
      · exact Only.refl _
    · exact hy1
    · exact hy1
    · exact Only.refl _

theorem only_headEvent (s : State) (n) (code) (line) (f) :
    Only [.heads, .cues] (some []) s (State.headEvent s n code line f) := by
  unfold State.headEvent
  extract_lets +onlyGivenNames y0
  refine Only.have y0 ?_ fun hy0 => ?_
  · subst y0
    refine (only_updHead ..).over (Covers.some 1 0 rfl rfl) ?_
    exact Only.refl _
  clear_value y0
  extract_lets +onlyGivenNames y1
  clear_value y1
  split
  · exact hy0
  · extract_lets +onlyGivenNames y2
    subst y2
    beta_reduce
    split
    · refine Only.ite ?_ ?_
      · refine (only_setCue ..).over (Covers.some 2 0 rfl rfl) ?_
        exact hy0
      · exact hy0
    · refine Only.ite ?_ ?_
      · refine (only_setCue ..).over (Covers.some 2 0 rfl rfl) ?_
        exact hy0
      · exact hy0
    · refine Only.ite ?_ ?_
      · refine (only_setCue ..).over (Covers.some 2 0 rfl rfl) ?_
        exact hy0
      · exact hy0
    · exact hy0

theorem only_destsResume (s : State) (n) : Only [.heads] (some []) s (State.destsResume s n) := by
  unfold State.destsResume
  refine (only_updHead ..).over (Covers.some 1 0 rfl rfl) ?_
  exact Only.refl _

theorem only_enterStopped (s : State) (n) :
    Only [.irqOwed, .heads, .engines, .groups, .ads, .layers, .pls, .cues, .evt] (some [.CE_CDET, .CE_CSTAT, .CE_L_FENCE_STAT,
      .CE_L_SHOWN_HI, .CE_L_SHOWN_LO, .CE_PL_CSTAT, .CK_STAT, .CU_EVT_OVR, .HD_STAT, .xx_STATUS]) s (State.enterStopped s n) :=
      by
  unfold State.enterStopped
  extract_lets +onlyGivenNames y0
  clear_value y0
  extract_lets +onlyGivenNames y1
  refine Only.have y1 ?_ fun hy1 => ?_
  · subst y1
    refine (only_moveHead ..).over (Covers.some 510 447 rfl rfl) ?_
    exact Only.refl _
  clear_value y1
  extract_lets +onlyGivenNames y2
  refine Only.have y2 ?_ fun hy2 => ?_
  · subst y2
    refine (only_latch ..).over (Covers.some 1 512 rfl rfl) ?_
    exact hy1
  clear_value y2
  extract_lets +onlyGivenNames y3
  refine Only.have y3 ?_ fun hy3 => ?_
  · subst y3
    refine (only_hidePl ..).over (Covers.some 64 96 rfl rfl) ?_
    refine (only_endHeadWaits ..).over (Covers.some 128 0 rfl rfl) ?_
    refine (only_headEvent ..).over (Covers.some 130 0 rfl rfl) ?_
    exact hy2
  clear_value y3
  extract_lets +onlyGivenNames y4
  refine Only.have y4 ?_ fun hy4 => ?_
  · subst y4
    refine Only.ite ?_ ?_
    · exact hy3
    · refine (only_destsResume ..).over (Covers.some 2 0 rfl rfl) ?_
      exact hy3
  clear_value y4
  refine (only_updHead ..).over (Covers.some 2 0 rfl rfl) ?_
  exact hy4

theorem only_stopHead (s : State) (n) :
    Only [.irqOwed, .heads, .engines, .groups, .ads, .layers, .pls, .cues, .evt] (some [.CE_CDET, .CE_CSTAT, .CE_L_FENCE_STAT,
      .CE_L_SHOWN_HI, .CE_L_SHOWN_LO, .CE_PL_CSTAT, .CK_STAT, .CU_EVT_OVR, .HD_STAT, .xx_STATUS]) s (State.stopHead s n) := by
  unfold State.stopHead
  extract_lets +onlyGivenNames y0
  clear_value y0
  split
  · refine (only_enterStopped ..).over (Covers.some 511 1023 rfl rfl) ?_
    exact Only.refl _
  · refine (only_updHead ..).over (Covers.some 2 0 rfl rfl) ?_
    refine (only_moveHead ..).over (Covers.some 510 447 rfl rfl) ?_
    exact Only.refl _
  · refine Only.ite ?_ ?_
    · exact Only.refl _
    · refine (only_updHead ..).over (Covers.some 2 0 rfl rfl) ?_
      exact Only.refl _
  · refine Only.ite ?_ ?_
    · exact Only.refl _
    · refine (only_updHead ..).over (Covers.some 2 0 rfl rfl) ?_
      exact Only.refl _
  · exact Only.refl _

theorem only_setSp (s : State) (n) (x) : Only [.sps] (some []) s (State.setSp s n x) := by
  unfold State.setSp
  refine Only.sps 0 rfl ?_
  exact Only.refl _

theorem only_updSp (s : State) (n) (f) : Only [.sps] (some []) s (State.updSp s n f) := by
  unfold State.updSp
  refine (only_setSp ..).over (Covers.some 1 0 rfl rfl) ?_
  exact Only.refl _

theorem only_spUnlink (s : State) (n) :
    Only [.irqOwed, .sps] (some [.DV_IFV_SP, .SPP_STAT, .xx_STATUS]) s (State.spUnlink s n) := by
  unfold State.spUnlink
  extract_lets +onlyGivenNames y0
  clear_value y0
  extract_lets +onlyGivenNames y1
  refine Only.have y1 ?_ fun hy1 => ?_
  · subst y1
    refine Only.set .SPP_STAT 1 rfl rfl ?_
    refine Only.set .SPP_STAT 1 rfl rfl ?_
    exact Only.refl _
  clear_value y1
  extract_lets +onlyGivenNames y2
  refine Only.have y2 ?_ fun hy2 => ?_
  · subst y2
    refine Only.set .DV_IFV_SP 0 rfl rfl ?_
    exact hy1
  clear_value y2
  extract_lets +onlyGivenNames y3
  refine Only.have y3 ?_ fun hy3 => ?_
  · subst y3
    refine (only_updSp ..).over (Covers.some 2 0 rfl rfl) ?_
    exact hy2
  clear_value y3
  refine Only.ite ?_ ?_
  · refine (only_latch ..).over (Covers.some 1 4 rfl rfl) ?_
    exact hy3
  · exact hy3

theorem only_spMove (s : State) (n) (st) :
    Only [.irqOwed, .sps] (some [.DV_IFV_SP, .SPP_POWER, .SPP_STAT, .SP_LOOP, .xx_STATUS]) s (State.spMove s n st) := by
  unfold State.spMove
  extract_lets +onlyGivenNames y0
  clear_value y0
  extract_lets +onlyGivenNames y1
  refine Only.have y1 ?_ fun hy1 => ?_
  · subst y1
    refine Only.set .SPP_STAT 2 rfl rfl ?_
    exact Only.refl _
  clear_value y1
  extract_lets +onlyGivenNames y2
  refine Only.have y2 ?_ fun hy2 => ?_
  · subst y2
    refine Only.set .SP_LOOP 3 rfl rfl ?_
    exact hy1
  clear_value y2
  extract_lets +onlyGivenNames y3
  clear_value y3
  extract_lets +onlyGivenNames y4
  refine Only.have y4 ?_ fun hy4 => ?_
  · subst y4
    refine (only_updSp ..).over (Covers.some 2 0 rfl rfl) ?_
    exact hy2
  clear_value y4
  extract_lets +onlyGivenNames y5
  refine Only.have y5 ?_ fun hy5 => ?_
  · subst y5
    refine Only.set .SPP_POWER 1 rfl rfl ?_
    exact hy4
  clear_value y5
  extract_lets +onlyGivenNames y6
  refine Only.have y6 ?_ fun hy6 => ?_
  · subst y6
    refine Only.ite ?_ ?_
    · exact hy5
    · refine (only_latch ..).over (Covers.some 1 16 rfl rfl) ?_
      exact hy5
  clear_value y6
  refine Only.ite ?_ ?_
  · refine (only_spUnlink ..).over (Covers.some 3 21 rfl rfl) ?_
    exact hy6
  · exact hy6

theorem only_spAllOff (s : State) :
    Only [.irqOwed, .sps] (some [.DV_IFV_SP, .SPP_POWER, .SPP_STAT, .SP_LOOP, .xx_STATUS]) s (State.spAllOff s) := by
  unfold State.spAllOff
  refine Only.foldl ?_ fun y0 _ hy0 => ?_
  · exact Only.refl _
  · refine Only.ite ?_ ?_
    · exact hy0
    · refine (only_spMove ..).over (Covers.some 3 31 rfl rfl) ?_
      exact hy0

theorem only_showBits (s : State) (l) (n) : Only [] (some [.LT_BITS_HI, .LT_BITS_LO]) s (State.showBits s l n) := by
  unfold State.showBits
  refine Only.set .LT_BITS_HI 0 rfl rfl ?_
  refine Only.set .LT_BITS_LO 1 rfl rfl ?_
  exact Only.refl _

theorem only_updLt (s : State) (l) (f) : Only [.lts] (some []) s (State.updLt s l f) := by
  unfold State.updLt
  refine Only.lts 0 rfl ?_
  exact Only.refl _

theorem only_ltEnd (s : State) (l) (st) : Only [.lts] (some [.LT_STAT]) s (State.ltEnd s l st) := by
  unfold State.ltEnd
  extract_lets +onlyGivenNames y0
  refine Only.have y0 ?_ fun hy0 => ?_
  · subst y0
    refine (only_updLt ..).over (Covers.some 1 0 rfl rfl) ?_
    exact Only.refl _
  clear_value y0
  refine Only.set .LT_STAT 0 rfl rfl ?_
  refine Only.set .LT_STAT 0 rfl rfl ?_
  exact hy0

theorem only_ltStop (s : State) (l) :
    Only [.free, .lts] (some [.LT_BITS_HI, .LT_BITS_LO, .LT_ERRORS, .LT_STAT]) s (State.ltStop s l) := by
  unfold State.ltStop
  refine Only.ite ?_ ?_
  · exact Only.refl _
  · extract_lets +onlyGivenNames y0
    refine Only.have y0 ?_ fun hy0 => ?_
    · subst y0
      refine (only_showBits ..).over (Covers.some 0 3 rfl rfl) ?_
      exact Only.refl _
    clear_value y0
    extract_lets +onlyGivenNames y1
    refine Only.have y1.2 ?_ fun hy1 => ?_
    · subst y1
      refine (only_fresh ..).over (Covers.some 1 0 rfl rfl) ?_
      exact hy0
    clear_value y1
    extract_lets +onlyGivenNames y2
    refine Only.have y2 ?_ fun hy2 => ?_
    · subst y2
      refine Only.ite ?_ ?_
      · refine Only.count .LT_ERRORS 2 rfl rfl ?_
        exact hy1
      · exact hy0
    clear_value y2
    refine (only_updLt ..).over (Covers.some 2 0 rfl rfl) ?_
    refine (only_ltEnd ..).over (Covers.some 2 8 rfl rfl) ?_
    exact hy2

theorem only_ltStopAll (s : State) :
    Only [.free, .lts] (some [.LT_BITS_HI, .LT_BITS_LO, .LT_ERRORS, .LT_STAT]) s (State.ltStopAll s) := by
  unfold State.ltStopAll
  refine Only.foldl ?_ fun y0 _ hy0 => ?_
  · exact Only.refl _
  · refine (only_ltStop ..).over (Covers.some 3 15 rfl rfl) ?_
    exact hy0

theorem only_beginShutdown (s : State) (force) :
    Only [.free, .irqOwed, .dv, .heads, .engines, .groups, .ads, .layers, .pls, .cues, .evt, .lts, .sps] (some [.CE_CDET,
      .CE_CSTAT, .CE_L_FENCE_STAT, .CE_L_SHOWN_HI, .CE_L_SHOWN_LO, .CE_PL_CSTAT, .CK_STAT, .CU_EVT_OVR, .DV_IFV_SP, .HD_STAT,
      .LT_BITS_HI, .LT_BITS_LO, .LT_ERRORS, .LT_STAT, .SPP_POWER, .SPP_STAT, .SP_LOOP, .xx_STATUS]) s (State.beginShutdown s
      force) := by
  unfold State.beginShutdown
  extract_lets +onlyGivenNames y0
  refine Only.have y0 ?_ fun hy0 => ?_
  · subst y0
    refine (only_updDv ..).over (Covers.some 4 0 rfl rfl) ?_
    exact Only.refl _
  clear_value y0
  extract_lets +onlyGivenNames y1
  refine Only.have y1 ?_ fun hy1 => ?_
  · subst y1
    refine Only.foldl ?_ fun y2 _ hy2 => ?_
    · exact hy0
    · refine Only.ite ?_ ?_
      · refine Only.ite ?_ ?_
        · refine (only_enterStopped ..).over (Covers.some 2042 131839 rfl rfl) ?_
          exact hy2
        · refine (only_stopHead ..).over (Covers.some 2042 131839 rfl rfl) ?_
          exact hy2
      · exact hy2
  clear_value y1
  refine (only_spAllOff ..).over (Covers.some 4098 246016 rfl rfl) ?_
  refine (only_ltStopAll ..).over (Covers.some 2049 15360 rfl rfl) ?_
  exact hy1

theorem only_settleMode (s : State) :
    Only [.free, .irqOwed, .dv, .heads, .engines, .groups, .ads, .layers, .pls, .cues, .evt, .lts, .sps, .sl] (some [.CE_CDET,
      .CE_CSTAT, .CE_L_FENCE_STAT, .CE_L_SHOWN_HI, .CE_L_SHOWN_LO, .CE_PL_CSTAT, .CK_STAT, .CU_EVT_OVR, .DV_IFV_SP, .DV_MODE,
      .HD_STAT, .LT_BITS_HI, .LT_BITS_LO, .LT_ERRORS, .LT_STAT, .SPP_POWER, .SPP_STAT, .SP_LOOP, .xx_STATUS]) s
      (State.settleMode s) := by
  unfold State.settleMode
  extract_lets +onlyGivenNames y0
  clear_value y0
  extract_lets +onlyGivenNames y1
  refine Only.have y1 ?_ fun hy1 => ?_
  · subst y1
    refine (only_evalMode ..).over (Covers.some 9728 640 rfl rfl) ?_
    exact Only.refl _
  clear_value y1
  extract_lets +onlyGivenNames y2
  clear_value y2
  refine Only.ite ?_ ?_
  · refine (only_beginShutdown ..).over (Covers.some 8191 523775 rfl rfl) ?_
    exact hy1
  · refine Only.ite ?_ ?_
    · refine Only.foldl ?_ fun y3 _ hy3 => ?_
      · refine (only_updDv ..).over (Covers.some 4 0 rfl rfl) ?_
        exact hy1
      · refine Only.ite ?_ ?_
        · refine (only_enterStopped ..).over (Covers.some 2042 263423 rfl rfl) ?_
          exact hy3
        · exact hy3
    · exact hy1

theorem only_newSerial (s : State) (ns) : Only [.heads, .serial] (some []) s (s.newSerial ns) := by
  unfold State.newSerial
  extract_lets n
  refine Only.foldl (Only.serial 1 rfl (Only.refl _)) fun y e hy => ?_
  exact (only_updHead ..).over (Covers.some 1 0 rfl rfl) hy

theorem only_rejectSet (s : State) (c) (v) (member) :
    Only [.irqOwed, .heads, .cues, .evt, .fc, .sl] (some [.CE_ADM_FAIL_LIMIT, .CE_ADM_FAIL_NEED, .CE_CDET, .CE_CREJ, .CE_CSTAT,
      .CU_EVT_OVR, .FC_CLEAR_REJ, .FC_CNT, .FC_FIRST_ID, .FC_FIRST_ORG, .FC_FIRST_TAI_NS, .FC_FIRST_TAI_SH, .FC_FIRST_TAI_SL,
      .FC_LAT, .FC_OVF, .FC_SUPPRESSED, .xx_STATUS]) s (State.rejectSet s c v member) := by
  unfold State.rejectSet
  extract_lets +onlyGivenNames y0
  clear_value y0
  extract_lets +onlyGivenNames y1
  clear_value y1
  extract_lets +onlyGivenNames y2
  refine Only.have y2 ?_ fun hy2 => ?_
  · subst y2
    refine (only_showState ..).over (Covers.some 4 20 rfl rfl) ?_
    exact Only.refl _
  clear_value y2
  extract_lets +onlyGivenNames y3
  refine Only.have y3 ?_ fun hy3 => ?_
  · subst y3
    refine Only.count .CE_CREJ 3 rfl rfl ?_
    exact hy2
  clear_value y3
  extract_lets +onlyGivenNames y4
  refine Only.have y4 ?_ fun hy4 => ?_
  · subst y4
    refine Only.ite ?_ ?_
    · refine Only.set .CE_ADM_FAIL_LIMIT 0 rfl rfl ?_
      refine Only.set .CE_ADM_FAIL_NEED 1 rfl rfl ?_
      exact hy3
    · exact hy3
  clear_value y4
  extract_lets +onlyGivenNames y5
  refine Only.have y5 ?_ fun hy5 => ?_
  · subst y5
    refine (only_log ..).over (Covers.some 32 0 rfl rfl) ?_
    exact hy4
  clear_value y5
  refine (only_raise ..).over (Covers.some 63 131040 rfl rfl) ?_
  exact hy5

theorem only_latchMapErr (s : State) (c) : Only [.irqOwed] (some [.xx_STATUS]) s (State.latchMapErr s c) := by
  unfold State.latchMapErr
  refine Only.ite ?_ ?_
  · refine (only_latch ..).over (Covers.some 1 1 rfl rfl) ?_
    exact Only.refl _
  · exact Only.refl _

theorem only_startCheck (s : State) (k) : Only [.irqOwed, .engines] (some [.xx_STATUS]) s (State.startCheck s k) := by
  unfold State.startCheck
  split
  · exact Only.refl _
  · refine Only.ite ?_ ?_
    · exact Only.refl _
    · extract_lets +onlyGivenNames y0
      subst y0
      extract_lets +onlyGivenNames y1
      subst y1
      extract_lets +onlyGivenNames y2
      refine Only.have y2 ?_ fun hy2 => ?_
      · subst y2
        refine Only.ite ?_ ?_
        · exact Only.refl _
        · refine (only_latchMapErr ..).over (Covers.some 1 1 rfl rfl) ?_
          exact Only.refl _
      clear_value y2
      refine (only_setChecks ..).over (Covers.some 2 0 rfl rfl) ?_
      exact hy2

theorem only_queueChecks (s : State) (sets) : Only [.irqOwed, .engines] (some [.xx_STATUS]) s (State.queueChecks s sets) := by
  unfold State.queueChecks
  extract_lets +onlyGivenNames y0
  refine Only.have y0 ?_ fun hy0 => ?_
  · subst y0
    refine Only.foldl ?_ fun y1 _ hy1 => ?_
    · exact Only.refl _
    · refine (only_setChecks ..).over (Covers.some 2 0 rfl rfl) ?_
      exact hy1
  clear_value y0
  refine Only.foldl ?_ fun y2 _ hy2 => ?_
  · exact hy0
  · refine (only_startCheck ..).over (Covers.some 3 1 rfl rfl) ?_
    exact hy2

theorem only_commitWrite (s : State) (k) (v) (org) :
    Only [.irqOwed, .heads, .engines, .groups, .serial, .cues, .evt, .fc, .sl] (some [.CE_ADM_FAIL_LIMIT, .CE_ADM_FAIL_NEED,
      .CE_CDET, .CE_CREJ, .CE_CSTAT, .CU_EVT_OVR, .FC_CLEAR_REJ, .FC_CNT, .FC_FIRST_ID, .FC_FIRST_ORG, .FC_FIRST_TAI_NS,
      .FC_FIRST_TAI_SH, .FC_FIRST_TAI_SL, .FC_LAT, .FC_OVF, .FC_SUPPRESSED, .xx_STATUS]) s (State.commitWrite s k v org) := by
  unfold State.commitWrite
  extract_lets +onlyGivenNames y0
  clear_value y0
  extract_lets +onlyGivenNames y1
  clear_value y1
  extract_lets +onlyGivenNames y2
  clear_value y2
  extract_lets +onlyGivenNames y3
  clear_value y3
  refine Only.ite ?_ ?_
  · extract_lets +onlyGivenNames y4
    refine Only.have y4 ?_ fun hy4 => ?_
    · subst y4
      refine (only_newSerial ..).over (Covers.some 18 0 rfl rfl) ?_
      exact Only.refl _
    clear_value y4
    refine (only_rejectSet ..).over (Covers.some 483 131071 rfl rfl) ?_
    exact hy4
  · extract_lets +onlyGivenNames y5
    clear_value y5
    extract_lets +onlyGivenNames y6
    refine Only.have y6 ?_ fun hy6 => ?_
    · subst y6
      refine (only_newSerial ..).over (Covers.some 18 0 rfl rfl) ?_
      exact Only.refl _
    clear_value y6
    extract_lets +onlyGivenNames y7
    clear_value y7
    extract_lets +onlyGivenNames y8
    refine Only.have y8 ?_ fun hy8 => ?_
    · subst y8
      refine Only.ite ?_ ?_
      · exact hy6
      · refine Only.groups 3 rfl ?_
        exact hy6
    clear_value y8
    extract_lets +onlyGivenNames y9
    refine Only.have y9 ?_ fun hy9 => ?_
    · subst y9
      refine Only.foldl ?_ fun y10 _ hy10 => ?_
      · exact hy8
      · refine (only_showState ..).over (Covers.some 32 20 rfl rfl) ?_
        exact hy10
    clear_value y9
    refine (only_queueChecks ..).over (Covers.some 5 65536 rfl rfl) ?_
    exact hy9

theorem only_releaseSet (s : State) (n) :
    Only [.irqOwed, .mem, .bad, .heads, .layers, .pls, .cues, .evt, .fc, .sl] (some [.CE_ADM_CULL, .CE_ADM_PEAK_B,
      .CE_ADM_PEAK_LP, .CE_ADM_PEAK_RES, .CE_CDET, .CE_CSTAT, .CE_JRN_WR, .CE_L_FENCE_STAT, .CE_L_SHOWN_HI, .CE_L_SHOWN_LO,
      .CE_PL_S_STAT, .CE_PL_WR_DENY, .CE_VINT_APP, .CU_EVT_OVR, .FC_CLEAR_REJ, .FC_CNT, .FC_FIRST_ID, .FC_FIRST_ORG,
      .FC_FIRST_TAI_NS, .FC_FIRST_TAI_SH, .FC_FIRST_TAI_SL, .FC_LAT, .FC_OVF, .FC_SUPPRESSED, .xx_STATUS]) s (State.releaseSet s
      n) := by
  unfold State.releaseSet
  extract_lets +onlyGivenNames y0
  clear_value y0
  extract_lets +onlyGivenNames y1
  clear_value y1
  refine Only.ite ?_ ?_
  · refine only_takePrepared (Covers.some 8 0 rfl rfl) ?_ fun y2 hy2 _ => ?_
    · exact Only.refl _
    · refine (only_applyStopped ..).over (Covers.some 1023 33554431 rfl rfl) ?_
      exact hy2
  · split
    · refine only_takePrepared (Covers.some 8 0 rfl rfl) ?_ fun y3 hy3 _ => ?_
      · exact Only.refl _
      · refine (only_cancelSet ..).over (Covers.some 64 48 rfl rfl) ?_
        exact hy3
    · split
      · exact Only.refl _
      · refine Only.ite ?_ ?_
        · extract_lets +onlyGivenNames y4
          clear_value y4
          refine Only.ite ?_ ?_
          · refine only_takePrepared (Covers.some 8 0 rfl rfl) ?_ fun y5 hy5 _ => ?_
            · exact Only.refl _
            · refine (only_cancelSet ..).over (Covers.some 64 48 rfl rfl) ?_
              exact hy5
          · refine only_takePrepared (Covers.some 8 0 rfl rfl) ?_ fun y6 hy6 _ => ?_
            · exact Only.refl _
            · refine (only_addPending ..).over (Covers.some 72 48 rfl rfl) ?_
              exact hy6
        · extract_lets +onlyGivenNames y7
          subst y7
          extract_lets +onlyGivenNames y8
          clear_value y8
          refine Only.ite ?_ ?_
          · refine only_takePrepared (Covers.some 8 0 rfl rfl) ?_ fun y9 hy9 _ => ?_
            · exact Only.refl _
            · refine (only_cancelSet ..).over (Covers.some 64 48 rfl rfl) ?_
              exact hy9
          · refine only_takePrepared (Covers.some 8 0 rfl rfl) ?_ fun y10 hy10 _ => ?_
            · exact Only.refl _
            · refine (only_addPending ..).over (Covers.some 72 48 rfl rfl) ?_
              exact hy10

theorem only_releaseWrite (s : State) (k) (v) :
    Only [.irqOwed, .mem, .bad, .heads, .layers, .pls, .cues, .evt, .fc, .sl] (some [.CE_ADM_CULL, .CE_ADM_PEAK_B,
      .CE_ADM_PEAK_LP, .CE_ADM_PEAK_RES, .CE_CDET, .CE_CSTAT, .CE_JRN_WR, .CE_L_FENCE_STAT, .CE_L_SHOWN_HI, .CE_L_SHOWN_LO,
      .CE_PL_S_STAT, .CE_PL_WR_DENY, .CE_VINT_APP, .CU_EVT_OVR, .FC_CLEAR_REJ, .FC_CNT, .FC_FIRST_ID, .FC_FIRST_ORG,
      .FC_FIRST_TAI_NS, .FC_FIRST_TAI_SH, .FC_FIRST_TAI_SL, .FC_LAT, .FC_OVF, .FC_SUPPRESSED, .xx_STATUS]) s (State.releaseWrite
      s k v) := by
  unfold State.releaseWrite
  extract_lets +onlyGivenNames y0
  clear_value y0
  refine Only.ite ?_ ?_
  · refine only_takePrepared (Covers.some 8 0 rfl rfl) ?_ fun y1 hy1 _ => ?_
    · exact Only.refl _
    · refine (only_cancelSet ..).over (Covers.some 64 48 rfl rfl) ?_
      exact hy1
  · refine (only_releaseSet ..).over (Covers.some 1023 33554431 rfl rfl) ?_
    exact Only.refl _

theorem only_setPlState (s : State) (n) (st) (reason) : Only [] (some [.CE_PL_CSTAT]) s (State.setPlState s n st reason) := by
  unfold State.setPlState
  refine Only.set .CE_PL_CSTAT 0 rfl rfl ?_
  refine Only.set .CE_PL_CSTAT 0 rfl rfl ?_
  exact Only.refl _

theorem only_plCommitWrite (s : State) (n) (v) (org) : Only [.pls] (some [.CE_PL_CSTAT]) s (State.plCommitWrite s n v org) := by
  unfold State.plCommitWrite
  extract_lets +onlyGivenNames y0
  clear_value y0
  extract_lets +onlyGivenNames y1
  refine Only.have y1 ?_ fun hy1 => ?_
  · subst y1
    refine (only_updPl ..).over (Covers.some 1 0 rfl rfl) ?_
    exact Only.refl _
  clear_value y1
  refine (only_setPlState ..).over (Covers.some 0 1 rfl rfl) ?_
  refine Only.set .CE_PL_CSTAT 0 rfl rfl ?_
  exact hy1

theorem only_setCk (s : State) (u) (c) : Only [.cks] (some []) s (State.setCk s u c) := by
  unfold State.setCk
  refine Only.cks 0 rfl ?_
  exact Only.refl _

theorem only_ckStartOp (s : State) (u) : Only [.cks] (some [.CK_PROG, .CK_RUN, .CK_STAT]) s (State.ckStartOp s u) := by
  unfold State.ckStartOp
  extract_lets +onlyGivenNames y0
  refine Only.have y0 ?_ fun hy0 => ?_
  · subst y0
    refine Only.ite ?_ ?_
    · exact Only.refl _
    · refine Only.set .CK_RUN 1 rfl rfl ?_
      exact Only.refl _
  clear_value y0
  extract_lets +onlyGivenNames y1
  refine Only.have y1 ?_ fun hy1 => ?_
  · subst y1
    refine (only_setCk ..).over (Covers.some 1 0 rfl rfl) ?_
    exact hy0
  clear_value y1
  extract_lets +onlyGivenNames y2
  refine Only.have y2 ?_ fun hy2 => ?_
  · subst y2
    refine Only.wr .CK_STAT 2 rfl rfl ?_
    refine Only.set .CK_PROG 0 rfl rfl ?_
    exact hy1
  clear_value y2
  refine Only.ite ?_ ?_
  · refine Only.set .CK_STAT 2 rfl rfl ?_
    exact hy2
  · exact hy2

end Sys2Proof.Machine
end

