-- ==== Sys2Proof/Laws/Touch2.lean ====
section
/-! SUPPORT. What each operation touches, part 2 of 7: for every operation the parts of the state and the registers that it
may change. All else stays, and the operation follows the state before it (Only). -/

namespace Sys2Proof.Machine

theorem only_ckFeed (s : State) (u) (n) : Only [.cks] (some [.CK_RUN]) s (State.ckFeed s u n) := by
  unfold State.ckFeed
  refine Only.ite ?_ ?_
  · exact Only.refl _
  · extract_lets +onlyGivenNames y0
    clear_value y0
    extract_lets +onlyGivenNames y1
    refine Only.have y1 ?_ fun hy1 => ?_
    · subst y1
      refine Only.set .CK_RUN 0 rfl rfl ?_
      exact Only.refl _
    clear_value y1
    refine (only_setCk ..).over (Covers.some 1 0 rfl rfl) ?_
    exact hy1

theorem only_ckAbortOp (s : State) (u) (fed) : Only [.cks] (some [.CK_PROG, .CK_RUN, .CK_STAT]) s (State.ckAbortOp s u fed) := by
  unfold State.ckAbortOp
  refine Only.ite ?_ ?_
  · exact Only.refl _
  · extract_lets +onlyGivenNames y0
    refine Only.have y0 ?_ fun hy0 => ?_
    · subst y0
      refine (only_ckFeed ..).over (Covers.some 1 2 rfl rfl) ?_
      exact Only.refl _
    clear_value y0
    refine Only.set .CK_STAT 2 rfl rfl ?_
    refine Only.set .CK_STAT 2 rfl rfl ?_
    refine Only.set .CK_PROG 0 rfl rfl ?_
    exact hy0

theorem only_adStart (s : State) (c) : Only [] (some [.AD_STAT]) s (State.adStart s c) := by
  unfold State.adStart
  refine Only.set .AD_STAT 0 rfl rfl ?_
  exact Only.refl _

theorem only_setAd (s : State) (c) (x) : Only [.ads] (some []) s (State.setAd s c x) := by
  unfold State.setAd
  refine Only.ads 0 rfl ?_
  exact Only.refl _

theorem only_updAd (s : State) (c) (f) : Only [.ads] (some []) s (State.updAd s c f) := by
  unfold State.updAd
  refine (only_setAd ..).over (Covers.some 1 0 rfl rfl) ?_
  exact Only.refl _

theorem only_adStop (s : State) (c) (st) : Only [.ads] (some [.AD_STAT]) s (State.adStop s c st) := by
  unfold State.adStop
  refine Only.set .AD_STAT 0 rfl rfl ?_
  refine Only.set .AD_STAT 0 rfl rfl ?_
  refine (only_updAd ..).over (Covers.some 1 0 rfl rfl) ?_
  exact Only.refl _

theorem only_adCommand (s : State) (c) (start) (abort) : Only [.ads] (some [.AD_STAT]) s (State.adCommand s c start abort) := by
  unfold State.adCommand
  extract_lets +onlyGivenNames y0
  clear_value y0
  extract_lets +onlyGivenNames y1
  refine Only.have y1 ?_ fun hy1 => ?_
  · subst y1
    refine Only.ite ?_ ?_
    · refine (only_adStart ..).over (Covers.some 0 1 rfl rfl) ?_
      exact Only.refl _
    · exact Only.refl _
  clear_value y1
  refine Only.ite ?_ ?_
  · refine Only.set .AD_STAT 0 rfl rfl ?_
    refine (only_adStop ..).over (Covers.some 1 1 rfl rfl) ?_
    exact hy1
  · exact hy1

theorem only_setHq (s : State) (r) (x) : Only [.hqs] (some []) s (State.setHq s r x) := by
  unfold State.setHq
  refine Only.hqs 0 rfl ?_
  exact Only.refl _

theorem only_updHq (s : State) (r) (f) : Only [.hqs] (some []) s (State.updHq s r f) := by
  unfold State.updHq
  refine (only_setHq ..).over (Covers.some 1 0 rfl rfl) ?_
  exact Only.refl _

theorem only_hqStart (s : State) (r) : Only [.hqs] (some [.HQ_STAT]) s (State.hqStart s r) := by
  unfold State.hqStart
  refine (only_updHq ..).over (Covers.some 1 0 rfl rfl) ?_
  refine Only.set .HQ_STAT 0 rfl rfl ?_
  exact Only.refl _

theorem only_ringWrite (s : State) (r) (a) (data) :
    Only [.out, .irqOwed, .mem, .bad, .heads, .pls, .cues, .evt, .fc, .sl] (some [.CE_PL_S_STAT, .CE_PL_WR_DENY, .CU_EVT_OVR,
      .FC_CLEAR_REJ, .FC_CNT, .FC_FIRST_ID, .FC_FIRST_ORG, .FC_FIRST_TAI_NS, .FC_FIRST_TAI_SH, .FC_FIRST_TAI_SL, .FC_LAT,
      .FC_OVF, .FC_SUPPRESSED, .xx_STATUS]) s (State.ringWrite s r a data) := by
  unfold State.ringWrite
  refine Only.ite ?_ ?_
  · refine (only_memWrite ..).over (Covers.some 1022 16383 rfl rfl) ?_
    exact Only.refl _
  · refine (only_emit ..).over (Covers.some 1 0 rfl rfl) ?_
    exact Only.refl _

theorem only_writeBack (s : State) (r) (d) (result) :
    Only [.out, .irqOwed, .msix, .mem, .bad, .heads, .pls, .cues, .evt, .fc, .sl] (some [.CE_PL_S_STAT, .CE_PL_WR_DENY,
      .CU_EVT_OVR, .FC_CLEAR_REJ, .FC_CNT, .FC_FIRST_ID, .FC_FIRST_ORG, .FC_FIRST_TAI_NS, .FC_FIRST_TAI_SH, .FC_FIRST_TAI_SL,
      .FC_LAT, .FC_OVF, .FC_SUPPRESSED, .HQ_CONS, .xx_STATUS]) s (State.writeBack s r d result) := by
  unfold State.writeBack
  extract_lets +onlyGivenNames y0
  clear_value y0
  extract_lets +onlyGivenNames y1
  clear_value y1
  extract_lets +onlyGivenNames y2
  refine Only.have y2 ?_ fun hy2 => ?_
  · subst y2
    refine Only.ite ?_ ?_
    · refine (only_ringWrite ..).over (Covers.some 2043 24575 rfl rfl) ?_
      refine (only_ringWrite ..).over (Covers.some 2043 24575 rfl rfl) ?_
      exact Only.refl _
    · exact Only.refl _
  clear_value y2
  extract_lets +onlyGivenNames y3
  refine Only.have y3 ?_ fun hy3 => ?_
  · subst y3
    refine (only_ringWrite ..).over (Covers.some 2043 24575 rfl rfl) ?_
    exact hy2
  clear_value y3
  extract_lets +onlyGivenNames y4
  refine Only.have y4 ?_ fun hy4 => ?_
  · subst y4
    refine Only.set .HQ_CONS 13 rfl rfl ?_
    exact hy3
  clear_value y4
  refine Only.ite ?_ ?_
  · refine (only_interrupt ..).over (Covers.some 5 0 rfl rfl) ?_
    exact hy4
  · exact hy4

theorem only_hqStop (s : State) (r) (st) : Only [.hqs] (some [.HQ_STAT]) s (State.hqStop s r st) := by
  unfold State.hqStop
  refine Only.set .HQ_STAT 0 rfl rfl ?_
  refine Only.set .HQ_STAT 0 rfl rfl ?_
  refine (only_setHq ..).over (Covers.some 1 0 rfl rfl) ?_
  exact Only.refl _

theorem only_hqCommand (s : State) (r) (start) (abort) :
    Only [.out, .irqOwed, .msix, .mem, .bad, .heads, .hqs, .pls, .cues, .evt, .fc, .sl] (some [.CE_PL_S_STAT, .CE_PL_WR_DENY,
      .CU_EVT_OVR, .FC_CLEAR_REJ, .FC_CNT, .FC_FIRST_ID, .FC_FIRST_ORG, .FC_FIRST_TAI_NS, .FC_FIRST_TAI_SH, .FC_FIRST_TAI_SL,
      .FC_LAT, .FC_OVF, .FC_SUPPRESSED, .HQ_CONS, .HQ_STAT, .xx_STATUS]) s (State.hqCommand s r start abort) := by
  unfold State.hqCommand
  extract_lets +onlyGivenNames y0
  clear_value y0
  extract_lets +onlyGivenNames y1
  refine Only.have y1 ?_ fun hy1 => ?_
  · subst y1
    refine Only.ite ?_ ?_
    · refine (only_hqStart ..).over (Covers.some 64 16384 rfl rfl) ?_
      exact Only.refl _
    · exact Only.refl _
  clear_value y1
  refine Only.ite ?_ ?_
  · extract_lets +onlyGivenNames y2
    refine Only.have y2 ?_ fun hy2 => ?_
    · subst y2
      split
      · refine (only_writeBack ..).over (Covers.some 4031 49151 rfl rfl) ?_
        exact hy1
      · exact hy1
    clear_value y2
    refine (only_latch ..).over (Covers.some 2 32768 rfl rfl) ?_
    refine Only.set .HQ_STAT 14 rfl rfl ?_
    refine (only_hqStop ..).over (Covers.some 64 16384 rfl rfl) ?_
    exact hy2
  · exact hy1

theorem only_ltStart (s : State) (l) :
    Only [.lts] (some [.LT_BITS_HI, .LT_BITS_LO, .LT_ERRORS, .LT_STAT]) s (State.ltStart s l) := by
  unfold State.ltStart
  refine Only.ite ?_ ?_
  · exact Only.refl _
  · extract_lets +onlyGivenNames y0
    clear_value y0
    extract_lets +onlyGivenNames y1
    refine Only.have y1 ?_ fun hy1 => ?_
    · subst y1
      refine Only.wr .LT_ERRORS 2 rfl rfl ?_
      refine (only_showBits ..).over (Covers.some 0 3 rfl rfl) ?_
      exact Only.refl _
    clear_value y1
    extract_lets +onlyGivenNames y2
    refine Only.have y2 ?_ fun hy2 => ?_
    · subst y2
      refine Only.set .LT_STAT 3 rfl rfl ?_
      refine Only.set .LT_STAT 3 rfl rfl ?_
      exact hy1
    clear_value y2
    extract_lets +onlyGivenNames y3
    clear_value y3
    refine (only_updLt ..).over (Covers.some 1 0 rfl rfl) ?_
    exact hy2

theorem only_ltCommand (s : State) (l) (org) :
    Only [.irqOwed, .lts] (some [.LT_BITS_HI, .LT_BITS_LO, .LT_ERRORS, .LT_STAT, .xx_STATUS]) s (State.ltCommand s l org).1 := by
  unfold State.ltCommand
  refine Only.ite1 ?_ ?_
  · refine Only.fst ?_
    exact Only.refl _
  · refine Only.ite1 ?_ ?_
    · refine Only.ite1 ?_ ?_
      · refine Only.fst ?_
        exact Only.refl _
      · refine Only.fst ?_
        exact Only.refl _
    · refine Only.ite1 ?_ ?_
      · refine Only.fst ?_
        refine (only_latch ..).over (Covers.some 1 16 rfl rfl) ?_
        exact Only.refl _
      · refine Only.fst ?_
        refine (only_ltStart ..).over (Covers.some 2 15 rfl rfl) ?_
        exact Only.refl _

theorem only_ltCmdWrite (s : State) (l) (v) (org) :
    Only [.free, .irqOwed, .dv, .heads, .engines, .groups, .ads, .layers, .pls, .cues, .evt, .lts, .sps, .sl] (some [.CE_CDET,
      .CE_CSTAT, .CE_L_FENCE_STAT, .CE_L_SHOWN_HI, .CE_L_SHOWN_LO, .CE_PL_CSTAT, .CK_STAT, .CU_EVT_OVR, .DV_IFV_SP, .DV_MODE,
      .HD_STAT, .LT_BITS_HI, .LT_BITS_LO, .LT_ERRORS, .LT_STAT, .SPP_POWER, .SPP_STAT, .SP_LOOP, .xx_STATUS]) s
      (State.ltCmdWrite s l v org).1 := by
  unfold State.ltCmdWrite
  extract_lets +onlyGivenNames y0
  refine Only.have y0 ?_ fun hy0 => ?_
  · subst y0
    refine Only.ite ?_ ?_
    · refine (only_ltStop ..).over (Covers.some 2049 30720 rfl rfl) ?_
      exact Only.refl _
    · exact Only.refl _
  clear_value y0
  extract_lets +onlyGivenNames y1
  refine Only.have y1.1 ?_ fun hy1 => ?_
  · subst y1
    refine Only.ite1 ?_ ?_
    · refine (only_ltCommand ..).over (Covers.some 2050 292864 rfl rfl) ?_
      exact hy0
    · refine Only.fst ?_
      exact hy0
  clear_value y1
  extract_lets +onlyGivenNames y2
  refine Only.have y2.1 ?_ fun hy2 => ?_
  · subst y2
    refine Only.ite1 ?_ ?_
    · refine Only.ite1 ?_ ?_
      · refine Only.fst ?_
        refine (only_latch ..).over (Covers.some 2 262144 rfl rfl) ?_
        exact hy1
      · refine Only.fst ?_
        refine Only.set .LT_STAT 14 rfl rfl ?_
        exact hy1
    · refine Only.fst ?_
      exact hy1
  clear_value y2
  refine Only.fst ?_
  refine (only_settleMode ..).over (Covers.some 16383 524287 rfl rfl) ?_
  exact hy2

theorem only_clearMbx (s : State) (f) : Only [.mbx] none s (State.clearMbx s f) := by
  unfold State.clearMbx
  extract_lets +onlyGivenNames y0
  clear_value y0
  refine Only.setAny ?_
  refine (only_setMb ..).over (Covers.any 1 rfl) ?_
  refine Only.regs' (nodup_filter _) ?_
  exact Only.refl _

theorem only_pcieReset (s : State) :
    Only [.irqOwed, .eff, .waiting, .w1, .msix, .dv, .mbx, .heads, .hqs, .cues, .evt, .fc, .sl] none s (State.pcieReset s) := by
  unfold State.pcieReset
  extract_lets +onlyGivenNames y0
  clear_value y0
  extract_lets +onlyGivenNames y1
  refine Only.have y1 ?_ fun hy1 => ?_
  · subst y1
    refine (only_clearKeys ..).over (Covers.any 14 rfl) ?_
    exact Only.refl _
  clear_value y1
  extract_lets +onlyGivenNames y2
  refine Only.have y2 ?_ fun hy2 => ?_
  · subst y2
    refine Only.upd (x := y1) 273 ⟨rfl, Nat.le_refl _, List.prefix_refl _, Nat.le_refl _, Nat.le_refl _, id, id⟩ (.inr rfl) (fun a ha => by cases a <;> first | rfl | exact absurd (by decide) ha) ?_
    exact hy1
  clear_value y2
  extract_lets +onlyGivenNames y3
  refine Only.have y3 ?_ fun hy3 => ?_
  · subst y3
    refine Only.foldl ?_ fun y4 _ hy4 => ?_
    · exact hy2
    · refine (only_clearMbx ..).over (Covers.any 64 rfl) ?_
      exact hy4
  clear_value y3
  extract_lets +onlyGivenNames y5
  refine Only.have y5 ?_ fun hy5 => ?_
  · subst y5
    refine (only_updDv ..).over (Covers.any 32 rfl) ?_
    exact hy3
  clear_value y5
  refine Only.ite ?_ ?_
  · refine (only_raise ..).over (Covers.any 7809 rfl) ?_
    exact hy5
  · exact hy5

theorem only_ltGroupWrite (s : State) (v) (org) :
    Only [.free, .irqOwed, .eff, .waiting, .w1, .msix, .dv, .mbx, .heads, .engines, .groups, .ads, .hqs, .layers, .pls, .cues,
      .evt, .lts, .sps, .fc, .sl] none s (State.ltGroupWrite s v org).1 := by
  unfold State.ltGroupWrite
  extract_lets +onlyGivenNames y0
  clear_value y0
  extract_lets +onlyGivenNames y1
  clear_value y1
  extract_lets +onlyGivenNames y2
  clear_value y2
  refine Only.ite1 ?_ ?_
  · refine Only.fst ?_
    exact Only.refl _
  · extract_lets +onlyGivenNames y3
    refine Only.have y3 ?_ fun hy3 => ?_
    · subst y3
      refine Only.ite ?_ ?_
      · refine Only.foldl ?_ fun y4 _ hy4 => ?_
        · exact Only.refl _
        · refine (only_ltStop ..).over (Covers.any 131073 rfl) ?_
          exact hy4
      · exact Only.refl _
    clear_value y3
    refine Only.ite1 ?_ ?_
    · refine Only.fst ?_
      refine (only_settleMode ..).over (Covers.any 1568579 rfl) ?_
      exact hy3
    · extract_lets +onlyGivenNames y5
      clear_value y5
      refine Only.ite1 ?_ ?_
      · refine Only.fst ?_
        exact hy3
      · refine Only.ite1 ?_ ?_
        · refine Only.fst ?_
          exact hy3
        · refine Only.ite1 ?_ ?_
          · refine Only.fst ?_
            refine (only_latch ..).over (Covers.any 2 rfl) ?_
            exact hy3
          · extract_lets +onlyGivenNames y6
            refine Only.have y6 ?_ fun hy6 => ?_
            · subst y6
              refine Only.foldl ?_ fun y7 _ hy7 => ?_
              · exact hy3
              · refine (only_ltStart ..).over (Covers.any 131072 rfl) ?_
                exact hy7
            clear_value y6
            refine Only.fst ?_
            refine (only_settleMode ..).over (Covers.any 1568579 rfl) ?_
            refine Only.ite ?_ ?_
            · exact hy6
            · refine (only_pcieReset ..).over (Covers.any 1675774 rfl) ?_
              exact hy6

theorem only_setPort (s : State) (p) (x) : Only [.ports] (some []) s (State.setPort s p x) := by
  unfold State.setPort
  refine Only.ports 0 rfl ?_
  exact Only.refl _

theorem only_updPort (s : State) (p) (f) : Only [.ports] (some []) s (State.updPort s p f) := by
  unfold State.updPort
  refine (only_setPort ..).over (Covers.some 1 0 rfl rfl) ?_
  exact Only.refl _

theorem only_gclAccept (s : State) (p) : Only [.ports] (some [.NG_GCL_STAT]) s (State.gclAccept s p) := by
  unfold State.gclAccept
  extract_lets +onlyGivenNames y0
  clear_value y0
  extract_lets +onlyGivenNames y1
  clear_value y1
  extract_lets +onlyGivenNames y2
  clear_value y2
  extract_lets +onlyGivenNames y3
  clear_value y3
  extract_lets +onlyGivenNames y4
  clear_value y4
  extract_lets +onlyGivenNames y5
  refine Only.have y5 ?_ fun hy5 => ?_
  · subst y5
    refine (only_updPort ..).over (Covers.some 1 0 rfl rfl) ?_
    exact Only.refl _
  clear_value y5
  refine Only.set .NG_GCL_STAT 0 rfl rfl ?_
  refine Only.set .NG_GCL_STAT 0 rfl rfl ?_
  exact hy5

theorem only_setCreg (s : State) (n) (r) (v) : Only [.cregs] (some []) s (State.setCreg s n r v) := by
  unfold State.setCreg
  refine Only.ite ?_ ?_
  · exact Only.refl _
  · refine Only.cregs 0 rfl ?_
    exact Only.refl _

theorem only_clearEcc (s : State) (k) : Only [.ecc] (some []) s (State.clearEcc s k) := by
  unfold State.clearEcc
  refine Only.ecc 0 rfl ?_
  exact Only.refl _

theorem only_setDmem (s : State) (n) (i) (v) : Only [.dmem, .ecc] (some []) s (State.setDmem s n i v) := by
  unfold State.setDmem
  refine (only_clearEcc ..).over (Covers.some 2 0 rfl rfl) ?_
  refine Only.dmem 0 rfl ?_
  exact Only.refl _

theorem only_setScr (s : State) (i) (v) : Only [.scratch, .ecc] (some []) s (State.setScr s i v) := by
  unfold State.setScr
  refine (only_clearEcc ..).over (Covers.some 2 0 rfl rfl) ?_
  refine Only.scratch 0 rfl ?_
  exact Only.refl _

theorem only_request (s : State) (r) : Only [.dv, .cl] (some [.CL_STAT]) s (State.request s r) := by
  unfold State.request
  refine Only.ite ?_ ?_
  · exact Only.refl _
  · extract_lets +onlyGivenNames y0
    clear_value y0
    extract_lets +onlyGivenNames y1
    clear_value y1
    extract_lets +onlyGivenNames y2
    clear_value y2
    extract_lets +onlyGivenNames y3
    refine Only.have y3 ?_ fun hy3 => ?_
    · subst y3
      refine Only.ite ?_ ?_
      · refine Only.dv 0 rfl ?_
        exact Only.refl _
      · exact Only.refl _
    clear_value y3
    extract_lets +onlyGivenNames y4
    refine Only.have y4 ?_ fun hy4 => ?_
    · subst y4
      refine Only.set .CL_STAT 0 rfl rfl ?_
      exact hy3
    clear_value y4
    refine Only.cl 1 rfl ?_
    exact hy4

theorem only_requestRegs (s : State) (region) (ks) : Only [.dv, .cl] (some [.CL_STAT]) s (State.requestRegs s region ks) := by
  unfold State.requestRegs
  refine (only_request ..).over (Covers.some 3 1 rfl rfl) ?_
  exact Only.refl _

theorem only_command (s : State) (org) (k) (old) (new) (v) : Only allAreas none s (State.command s org k old new v).1 := by
  unfold State.command
  extract_lets +onlyGivenNames y0
  clear_value y0
  extract_lets +onlyGivenNames y1
  clear_value y1
  split
  · refine Only.ite1 ?_ ?_
    · refine Only.fst ?_
      exact Only.refl _
    · extract_lets +onlyGivenNames y2
      clear_value y2
      extract_lets +onlyGivenNames y3
      refine Only.have y3 ?_ fun hy3 => ?_
      · subst y3
        refine (only_updDv ..).over (Covers.any 16384 rfl) ?_
        exact Only.refl _
      clear_value y3
      refine Only.fst ?_
      refine Only.setAny ?_
      exact hy3
  · refine Only.ite1 ?_ ?_
    · refine Only.fst ?_
      exact Only.refl _
    · refine Only.fst ?_
      exact Only.refl _
  · extract_lets +onlyGivenNames y4
    clear_value y4
    refine Only.ite1 ?_ ?_
    · refine Only.fst ?_
      exact Only.refl _
    · refine Only.ite1 ?_ ?_
      · refine Only.fst ?_
        refine (only_serviceReset ..).over (Covers.any 423329156809852 rfl) ?_
        exact Only.refl _
      · refine Only.fst ?_
        refine (only_askReset ..).over (Covers.any 16384 rfl) ?_
        exact Only.refl _
  · refine Only.ite1 ?_ ?_
    · refine Only.fst ?_
      refine (only_mbxCancel ..).over (Covers.any 32768 rfl) ?_
      exact Only.refl _
    · refine Only.ite1 ?_ ?_
      · refine Only.fst ?_
        exact Only.refl _
      · refine Only.fst ?_
        refine (only_mbxPost ..).over (Covers.any 32768 rfl) ?_
        exact Only.refl _
  · refine Only.ite1 ?_ ?_
    · refine Only.fst ?_
      exact Only.refl _
    · extract_lets +onlyGivenNames y5
      clear_value y5
      extract_lets +onlyGivenNames y6
      clear_value y6
      extract_lets +onlyGivenNames y7
      clear_value y7
      extract_lets +onlyGivenNames y8
      clear_value y8
      refine Only.fst ?_
      exact Only.refl _
  · refine Only.fst ?_
    refine Only.ite ?_ ?_
    · refine (only_rearm ..).over (Covers.any 140737488355336 rfl) ?_
      exact Only.refl _
    · exact Only.refl _
  · refine Only.fst ?_
    refine Only.ite ?_ ?_
    · refine (only_clearAll ..).over (Covers.any 140737488355336 rfl) ?_
      exact Only.refl _
    · refine (only_clearSource ..).over (Covers.any 140737488355336 rfl) ?_
      exact Only.refl _
  · extract_lets +onlyGivenNames y9
    refine Only.have y9 ?_ fun hy9 => ?_
    · subst y9
      refine Only.foldl ?_ fun y10 _ hy10 => ?_
      · exact Only.refl _
      · refine Only.ite ?_ ?_
        · extract_lets +onlyGivenNames y11
          refine Only.have y11 ?_ fun hy11 => ?_
          · subst y11
            refine Only.setAny ?_
            exact hy10
          clear_value y11
          refine Only.cl 49 rfl ?_
          exact hy11
        · exact hy10
    clear_value y9
    refine Only.fst ?_
    exact hy9
  · refine Only.ite1 ?_ ?_
    · refine Only.fst ?_
      refine (only_settleMode ..).over (Covers.any 335374736834570 rfl) ?_
      refine Only.tb 16 rfl ?_
      exact Only.refl _
    · refine Only.fst ?_
      exact Only.refl _
  · refine Only.ite1 ?_ ?_
    · split
      · refine Only.fst ?_
        exact Only.refl _
      · refine Only.fst ?_
        exact Only.refl _
      · refine Only.fst ?_
        refine Only.setAny ?_
        exact Only.refl _
    · refine Only.fst ?_
      exact Only.refl _
  · refine Only.ite1 ?_ ?_
    · refine Only.fst ?_
      exact Only.refl _
    · refine Only.fst ?_
      refine (only_commitWrite ..).over (Covers.any 423329158529032 rfl) ?_
      exact Only.refl _
  · refine Only.ite1 ?_ ?_
    · refine Only.fst ?_
      exact Only.refl _
    · refine Only.fst ?_
      refine (only_releaseWrite ..).over (Covers.any 423335599151112 rfl) ?_
      exact Only.refl _
  · extract_lets +onlyGivenNames y12
    clear_value y12
    refine Only.ite1 ?_ ?_
    · refine Only.fst ?_
      exact Only.refl _
    · refine Only.fst ?_
      refine (only_plCommitWrite ..).over (Covers.any 4294967296 rfl) ?_
      exact Only.refl _
  · refine Only.ite1 ?_ ?_
    · refine Only.ite1 ?_ ?_
      · refine Only.fst ?_
        exact Only.refl _
      · refine Only.fst ?_
        refine (only_ckStartOp ..).over (Covers.any 8589934592 rfl) ?_
        exact Only.refl _
    · refine Only.ite1 ?_ ?_
      · extract_lets +onlyGivenNames y13
        refine Only.have y13.2 ?_ fun hy13 => ?_
        · subst y13
          refine (only_fresh ..).over (Covers.any 2 rfl) ?_
          exact Only.refl _
        clear_value y13
        refine Only.fst ?_
        refine (only_ckAbortOp ..).over (Covers.any 8589934592 rfl) ?_
        exact hy13
      · refine Only.fst ?_
        exact Only.refl _
  · refine Only.fst ?_
    refine (only_adCommand ..).over (Covers.any 67108864 rfl) ?_
    exact Only.refl _
  · refine Only.fst ?_
    refine (only_hqCommand ..).over (Covers.any 423333585886220 rfl) ?_
    exact Only.refl _
  · refine Only.ite1 ?_ ?_
    · refine Only.fst ?_
      exact Only.refl _
    · refine Only.fst ?_
      refine (only_latch ..).over (Covers.any 8 rfl) ?_
      exact Only.refl _
  · extract_lets +onlyGivenNames y14
    refine Only.have y14.1 ?_ fun hy14 => ?_
    · subst y14
      refine (only_ltCmdWrite ..).over (Covers.any 335374736834570 rfl) ?_
      exact Only.refl _
    clear_value y14
    refine Only.fst ?_
    exact hy14
  · extract_lets +onlyGivenNames y15
    refine Only.have y15.1 ?_ fun hy15 => ?_
    · subst y15
      refine (only_ltGroupWrite ..).over (Covers.any 476112359441530 rfl) ?_
      exact Only.refl _
    clear_value y15
    refine Only.fst ?_
    exact hy15
  · refine Only.ite1 ?_ ?_
    · refine Only.fst ?_
      exact Only.refl _
    · refine Only.fst ?_
      exact Only.refl _
  · refine Only.ite1 ?_ ?_
    · refine Only.fst ?_
      exact Only.refl _
    · refine Only.fst ?_
      exact Only.refl _
  · refine Only.ite1 ?_ ?_
    · refine Only.fst ?_
      exact Only.refl _
    · refine Only.fst ?_
      exact Only.refl _
  · refine Only.ite1 ?_ ?_
    · refine Only.fst ?_
      exact Only.refl _
    · extract_lets +onlyGivenNames y16
      clear_value y16
      refine Only.ite1 ?_ ?_
      · refine Only.fst ?_
        exact Only.refl _
      · refine Only.fst ?_
        refine (only_latch ..).over (Covers.any 8 rfl) ?_
        refine Only.setAny ?_
        exact Only.refl _
  · refine Only.fst ?_
    refine (only_setFlow ..).over (Covers.any 33554432 rfl) ?_
    exact Only.refl _
  · refine Only.fst ?_
    refine (only_setFlow ..).over (Covers.any 33554432 rfl) ?_
    exact Only.refl _
  · refine Only.ite1 ?_ ?_
    · refine Only.fst ?_
      exact Only.refl _
    · extract_lets +onlyGivenNames y17
      clear_value y17
      refine Only.ite1 ?_ ?_
      · refine Only.fst ?_
        exact Only.refl _
      · extract_lets +onlyGivenNames y18
        clear_value y18
        refine Only.ite1 ?_ ?_
        · refine Only.fst ?_
          exact Only.refl _
        · refine Only.fst ?_
          refine (only_latch ..).over (Covers.any 8 rfl) ?_
          refine Only.setAny ?_
          exact Only.refl _
  · refine Only.ite1 ?_ ?_
    · refine Only.fst ?_
      exact Only.refl _
    · refine Only.ite1 ?_ ?_
      · refine Only.fst ?_
        exact Only.refl _
      · extract_lets +onlyGivenNames y19
        clear_value y19
        refine Only.ite1 ?_ ?_
        · refine Only.fst ?_
          exact Only.refl _
        · refine Only.fst ?_
          refine (only_latch ..).over (Covers.any 8 rfl) ?_
          refine Only.setAny ?_
          exact Only.refl _
  · refine Only.ite1 ?_ ?_
    · refine Only.fst ?_
      exact Only.refl _
    · extract_lets +onlyGivenNames y20
      clear_value y20
      refine Only.ite1 ?_ ?_
      · refine Only.fst ?_
        refine (only_gclAccept ..).over (Covers.any 8388608 rfl) ?_
        exact Only.refl _
      · refine Only.fst ?_
        refine (only_latch ..).over (Covers.any 8 rfl) ?_
        refine Only.setAny ?_
        exact Only.refl _
  · refine Only.ite1 ?_ ?_
    · refine Only.fst ?_
      exact Only.refl _
    · refine Only.fst ?_
      exact Only.refl _
  · refine Only.ite1 ?_ ?_
    · refine Only.fst ?_
      exact Only.refl _
    · refine Only.fst ?_
      refine (only_raise ..).over (Covers.any 423329156694024 rfl) ?_
      refine (only_latch ..).over (Covers.any 8 rfl) ?_
      exact Only.refl _
  · refine Only.fst ?_
    refine (only_event1 ..).over (Covers.any 1116691496960 rfl) ?_
    exact Only.refl _
  · refine Only.fst ?_
    refine (only_setCreg ..).over (Covers.any 34359738368 rfl) ?_
    exact Only.refl _
  · refine Only.fst ?_
    refine (only_setCreg ..).over (Covers.any 34359738368 rfl) ?_
    exact Only.refl _
  · refine Only.fst ?_
    refine (only_updCue ..).over (Covers.any 17179869184 rfl) ?_
    exact Only.refl _
  · extract_lets +onlyGivenNames y21
    clear_value y21
    extract_lets +onlyGivenNames y22
    refine Only.have y22 ?_ fun hy22 => ?_
    · subst y22
      refine (only_setDmem ..).over (Covers.any 687194767360 rfl) ?_
      exact Only.refl _
    clear_value y22
    refine Only.fst ?_
    refine Only.setAny ?_
    exact hy22
  · extract_lets +onlyGivenNames y23
    clear_value y23
    refine Only.fst ?_
    refine Only.setAny ?_
    refine (only_setScr ..).over (Covers.any 824633720832 rfl) ?_
    exact Only.refl _
  · extract_lets +onlyGivenNames y24
    clear_value y24
    extract_lets +onlyGivenNames y25
    refine Only.have y25 ?_ fun hy25 => ?_
    · subst y25
      refine Only.glyphs 28 rfl ?_
      exact Only.refl _
    clear_value y25
    refine Only.fst ?_
    refine Only.setAny ?_
    exact hy25
  · refine Only.fst ?_
    refine Only.ite ?_ ?_
    · refine (only_requestRegs ..).over (Covers.any 562949953437696 rfl) ?_
      exact Only.refl _
    · exact Only.refl _
  · refine Only.fst ?_
    exact Only.refl _
  · refine Only.fst ?_
    exact Only.refl _

theorem only_store (s : State) (k) (new) : Only [.eff, .waiting] none s (State.store s k new) := by
  unfold State.store
  refine Only.ite ?_ ?_
  · refine Only.ite ?_ ?_
    · exact Only.refl _
    · refine Only.wrAny ?_
      exact Only.refl _
  · refine Only.ite ?_ ?_
    · extract_lets +onlyGivenNames y0
      refine Only.have y0 ?_ fun hy0 => ?_
      · subst y0
        refine Only.wrAny ?_
        exact Only.refl _
      clear_value y0
      refine Only.upd (x := y0) 3 ⟨rfl, Nat.le_refl _, List.prefix_refl _, Nat.le_refl _, Nat.le_refl _, id, id⟩ (.inr rfl) (fun a ha => by cases a <;> first | rfl | exact absurd (by decide) ha) ?_
      exact hy0
    · refine Only.ite ?_ ?_
      · exact Only.refl _
      · extract_lets +onlyGivenNames y1
        refine Only.have y1 ?_ fun hy1 => ?_
        · subst y1
          refine Only.wrAny ?_
          exact Only.refl _
        clear_value y1
        refine Only.upd (x := y1) 3 ⟨rfl, Nat.le_refl _, List.prefix_refl _, Nat.le_refl _, Nat.le_refl _, id, id⟩ (.inr rfl) (fun a ha => by cases a <;> first | rfl | exact absurd (by decide) ha) ?_
        exact hy1

theorem only_requestBoot (s : State) : Only [.dv, .cl] (some [.CL_STAT]) s (State.requestBoot s) := by
  unfold State.requestBoot
  refine (only_request ..).over (Covers.some 3 1 rfl rfl) ?_
  exact Only.refl _

theorem only_loadEntry (s : State) : Only [] (some [.SL_RD_STAT, .SL_RD_W]) s (State.loadEntry s) := by
  unfold State.loadEntry
  extract_lets +onlyGivenNames y0
  clear_value y0
  extract_lets +onlyGivenNames y1
  clear_value y1
  extract_lets +onlyGivenNames y2
  clear_value y2
  extract_lets +onlyGivenNames y3
  refine Only.have y3 ?_ fun hy3 => ?_
  · subst y3
    refine Only.foldl ?_ fun y4 _ hy4 => ?_
    · exact Only.refl _
    · refine Only.wr .SL_RD_W 1 rfl rfl ?_
      exact hy4
  clear_value y3
  refine Only.set .SL_RD_STAT 0 rfl rfl ?_
  exact hy3

theorem only_requestControl (s : State) (floor) (sealAt) :
    Only [.dv, .cl] (some [.CL_STAT]) s (State.requestControl s floor sealAt) := by
  unfold State.requestControl
  refine (only_request ..).over (Covers.some 3 1 rfl rfl) ?_
  exact Only.refl _

theorem only_holdInc (s : State) : Only [] (some [.TB_INC_HI, .TB_INC_LO]) s (State.holdInc s) := by
  unfold State.holdInc
  extract_lets +onlyGivenNames y0
  subst y0
  extract_lets +onlyGivenNames y1
  clear_value y1
  refine Only.set .TB_INC_LO 1 rfl rfl ?_
  refine Only.set .TB_INC_HI 0 rfl rfl ?_
  exact Only.refl _

theorem only_requestTime (s : State) : Only [.dv, .cl] (some [.CL_STAT]) s (State.requestTime s) := by
  unfold State.requestTime
  refine (only_request ..).over (Covers.some 3 1 rfl rfl) ?_
  exact Only.refl _

theorem only_updSrc (s : State) (c) (f) : Only [.tb] (some []) s (State.updSrc s c f) := by
  unfold State.updSrc
  refine Only.tb 0 rfl ?_
  exact Only.refl _

theorem only_gainSource (s : State) (c) : Only [.tb] (some []) s (State.gainSource s c) := by
  unfold State.gainSource
  refine Only.ite ?_ ?_
  · exact Only.refl _
  · refine (only_updSrc ..).over (Covers.some 1 0 rfl rfl) ?_
    exact Only.refl _

theorem only_selectSrc (s : State) (c) : Only [.irqOwed, .tb] (some [.TB_STATE, .xx_STATUS]) s (State.selectSrc s c) := by
  unfold State.selectSrc
  extract_lets +onlyGivenNames y0
  refine Only.have y0 ?_ fun hy0 => ?_
  · subst y0
    refine Only.ite ?_ ?_
    · exact Only.refl _
    · refine (only_updSrc ..).over (Covers.some 2 0 rfl rfl) ?_
      exact Only.refl _
  clear_value y0
  refine Only.ite ?_ ?_
  · exact hy0
  · extract_lets +onlyGivenNames y1
    refine Only.have y1 ?_ fun hy1 => ?_
    · subst y1
      refine (only_latch ..).over (Covers.some 1 2 rfl rfl) ?_
      refine Only.set .TB_STATE 0 rfl rfl ?_
      exact hy0
    clear_value y1
    refine Only.tb 1 rfl ?_
    exact hy1

theorem only_loseSource (s : State) :
    Only [.irqOwed, .tb, .heads, .cues, .evt, .fc, .sl] (some [.CU_EVT_OVR, .FC_CLEAR_REJ, .FC_CNT, .FC_FIRST_ID, .FC_FIRST_ORG,
      .FC_FIRST_TAI_NS, .FC_FIRST_TAI_SH, .FC_FIRST_TAI_SL, .FC_LAT, .FC_OVF, .FC_SUPPRESSED, .TB_CLAMP, .TB_INC_HI, .TB_INC_LO,
      .TB_STATE, .xx_STATUS]) s (State.loseSource s) := by
  unfold State.loseSource
  extract_lets +onlyGivenNames y0
  subst y0
  extract_lets +onlyGivenNames y1
  subst y1
  extract_lets +onlyGivenNames y2
  refine Only.have y2 ?_ fun hy2 => ?_
  · subst y2
    refine Only.tb 1 rfl ?_
    exact Only.refl _
  refine Only.ite ?_ ?_
  · extract_lets +onlyGivenNames y3
    refine Only.have y3 ?_ fun hy3 => ?_
    · subst y3
      refine (only_setTb ..).over (Covers.some 127 65535 rfl rfl) ?_
      exact hy2
    clear_value y3
    refine Only.ite ?_ ?_
    · exact hy3
    · refine (only_raise ..).over (Covers.some 125 34815 rfl rfl) ?_
      exact hy3
  · refine Only.ite ?_ ?_
    · refine (only_setTb ..).over (Covers.some 127 65535 rfl rfl) ?_
      exact hy2
    · exact hy2

theorem only_follow (s : State) (changed) :
    Only [.irqOwed, .tb, .heads, .cues, .evt, .fc, .sl] (some [.CU_EVT_OVR, .FC_CLEAR_REJ, .FC_CNT, .FC_FIRST_ID, .FC_FIRST_ORG,
      .FC_FIRST_TAI_NS, .FC_FIRST_TAI_SH, .FC_FIRST_TAI_SL, .FC_LAT, .FC_OVF, .FC_SUPPRESSED, .TB_CLAMP, .TB_INC_HI, .TB_INC_LO,
      .TB_STATE, .xx_STATUS]) s (State.follow s changed) := by
  unfold State.follow
  extract_lets +onlyGivenNames y0
  clear_value y0
  extract_lets +onlyGivenNames y1
  clear_value y1
  refine Only.ite ?_ ?_
  · exact Only.refl _
  · refine Only.ite ?_ ?_
    · refine Only.ite ?_ ?_
      · exact Only.refl _
      · refine (only_setTb ..).over (Covers.some 127 65535 rfl rfl) ?_
        exact Only.refl _
    · refine Only.ite ?_ ?_
      · refine Only.ite ?_ ?_
        · refine (only_setTb ..).over (Covers.some 127 65535 rfl rfl) ?_
          exact Only.refl _
        · exact Only.refl _
      · refine Only.ite ?_ ?_
        · refine (only_setTb ..).over (Covers.some 127 65535 rfl rfl) ?_
          exact Only.refl _
        · exact Only.refl _

theorem only_srcLost (c) (s : State) :
    Only [.irqOwed, .tb, .heads, .cues, .evt, .fc, .sl] (some [.CU_EVT_OVR, .FC_CLEAR_REJ, .FC_CNT, .FC_FIRST_ID, .FC_FIRST_ORG,
      .FC_FIRST_TAI_NS, .FC_FIRST_TAI_SH, .FC_FIRST_TAI_SL, .FC_LAT, .FC_OVF, .FC_SUPPRESSED, .TB_CLAMP, .TB_INC_HI, .TB_INC_LO,
      .TB_STATE, .xx_STATUS]) s (srcLost c s) := by
  unfold srcLost
  refine Only.ite ?_ ?_
  · exact Only.refl _
  · extract_lets +onlyGivenNames y0
    refine Only.have y0 ?_ fun hy0 => ?_
    · subst y0
      refine (only_updSrc ..).over (Covers.some 2 0 rfl rfl) ?_
      exact Only.refl _
    clear_value y0
    extract_lets +onlyGivenNames y1
    refine Only.have y1 ?_ fun hy1 => ?_
    · subst y1
      refine Only.ite ?_ ?_
      · refine (only_noSlave ..).over (Covers.some 2 0 rfl rfl) ?_
        exact hy0
      · exact hy0
    clear_value y1
    extract_lets +onlyGivenNames y2
    refine Only.have y2 ?_ fun hy2 => ?_
    · subst y2
      refine Only.set .TB_STATE 14 rfl rfl ?_
      exact hy1
    clear_value y2
    extract_lets +onlyGivenNames y3
    clear_value y3
    extract_lets +onlyGivenNames y4
    refine Only.have y4 ?_ fun hy4 => ?_
    · subst y4
      refine Only.ite ?_ ?_
      · refine Only.tb 1 rfl ?_
        exact hy2
      · exact hy1
    clear_value y4
    refine Only.ite ?_ ?_
    · exact hy4
    · extract_lets +onlyGivenNames y5
      refine Only.have y5 ?_ fun hy5 => ?_
      · subst y5
        refine (only_selectSrc ..).over (Covers.some 3 49152 rfl rfl) ?_
        exact hy4
      clear_value y5
      refine Only.ite ?_ ?_
      · refine (only_loseSource ..).over (Covers.some 127 65535 rfl rfl) ?_
        exact hy5
      · refine (only_follow ..).over (Covers.some 127 65535 rfl rfl) ?_
        exact hy5

theorem only_src3Check (s : State) :
    Only [.irqOwed, .tb, .heads, .cues, .evt, .fc, .sl] (some [.CU_EVT_OVR, .FC_CLEAR_REJ, .FC_CNT, .FC_FIRST_ID, .FC_FIRST_ORG,
      .FC_FIRST_TAI_NS, .FC_FIRST_TAI_SH, .FC_FIRST_TAI_SL, .FC_LAT, .FC_OVF, .FC_SUPPRESSED, .TB_CLAMP, .TB_INC_HI, .TB_INC_LO,
      .TB_STATE, .xx_STATUS]) s (State.src3Check s) := by
  unfold State.src3Check
  refine Only.ite ?_ ?_
  · refine (only_gainSource ..).over (Covers.some 2 0 rfl rfl) ?_
    exact Only.refl _
  · refine (only_srcLost ..).over (Covers.some 127 65535 rfl rfl) ?_
    exact Only.refl _

theorem only_src3Changed (s : State) :
    Only [.irqOwed, .tb, .heads, .cues, .evt, .fc, .sl] (some [.CU_EVT_OVR, .FC_CLEAR_REJ, .FC_CNT, .FC_FIRST_ID, .FC_FIRST_ORG,
      .FC_FIRST_TAI_NS, .FC_FIRST_TAI_SH, .FC_FIRST_TAI_SL, .FC_LAT, .FC_OVF, .FC_SUPPRESSED, .TB_CLAMP, .TB_INC_HI, .TB_INC_LO,
      .TB_STATE, .xx_STATUS]) s (State.src3Changed s) := by
  unfold State.src3Changed
  refine (only_src3Check ..).over (Covers.some 127 65535 rfl rfl) ?_
  refine Only.ite ?_ ?_
  · refine (only_srcLost ..).over (Covers.some 127 65535 rfl rfl) ?_
    exact Only.refl _
  · exact Only.refl _

theorem only_refLossOp (k) (s : State) :
    Only [.irqOwed, .tb, .heads, .cues, .evt, .rf, .fc, .sl] (some [.CU_EVT_OVR, .FC_CLEAR_REJ, .FC_CNT, .FC_FIRST_ID,
      .FC_FIRST_ORG, .FC_FIRST_TAI_NS, .FC_FIRST_TAI_SH, .FC_FIRST_TAI_SL, .FC_LAT, .FC_OVF, .FC_SUPPRESSED, .RF_IN_LOSS,
      .RF_IN_STAT, .TB_CLAMP, .TB_INC_HI, .TB_INC_LO, .TB_STATE, .xx_STATUS]) s (refLossOp k s) := by
  unfold refLossOp
  refine Only.ite ?_ ?_
  · exact Only.refl _
  · extract_lets +onlyGivenNames y0
    clear_value y0
    extract_lets +onlyGivenNames y1
    refine Only.have y1 ?_ fun hy1 => ?_
    · subst y1
      refine Only.rf 5 rfl ?_
      exact Only.refl _
    clear_value y1
    extract_lets +onlyGivenNames y2
    refine Only.have y2 ?_ fun hy2 => ?_
    · subst y2
      refine (only_latch ..).over (Covers.some 1 131072 rfl rfl) ?_
      refine Only.count .RF_IN_LOSS 11 rfl rfl ?_
      refine Only.set .RF_IN_STAT 12 rfl rfl ?_
      exact hy1
    clear_value y2
    refine (only_src3Check ..).over (Covers.some 223 255999 rfl rfl) ?_
    refine (only_raise ..).over (Covers.some 221 133119 rfl rfl) ?_
    exact hy2

theorem only_src2Check (s : State) :
    Only [.irqOwed, .tb, .heads, .cues, .evt, .rf, .fc, .sl] (some [.CU_EVT_OVR, .FC_CLEAR_REJ, .FC_CNT, .FC_FIRST_ID,
      .FC_FIRST_ORG, .FC_FIRST_TAI_NS, .FC_FIRST_TAI_SH, .FC_FIRST_TAI_SL, .FC_LAT, .FC_OVF, .FC_SUPPRESSED, .TB_CLAMP,
      .TB_INC_HI, .TB_INC_LO, .TB_STATE, .xx_STATUS]) s (State.src2Check s) := by
  unfold State.src2Check
  extract_lets +onlyGivenNames y0
  clear_value y0
  refine Only.ite ?_ ?_
  · exact Only.refl _
  · extract_lets +onlyGivenNames y1
    clear_value y1
    extract_lets +onlyGivenNames y2
    refine Only.have y2 ?_ fun hy2 => ?_
    · subst y2
      refine Only.rf 5 rfl ?_
      exact Only.refl _
    clear_value y2
    refine Only.ite ?_ ?_
    · refine (only_gainSource ..).over (Covers.some 2 0 rfl rfl) ?_
      exact hy2
    · refine (only_srcLost ..).over (Covers.some 223 65535 rfl rfl) ?_
      refine (only_raise ..).over (Covers.some 221 34815 rfl rfl) ?_
      refine (only_latch ..).over (Covers.some 1 32768 rfl rfl) ?_
      exact hy2

theorem only_spFail (s : State) (n) (st) (cause) (src) :
    Only [.irqOwed, .heads, .cues, .evt, .sps, .fc, .sl] (some [.CU_EVT_OVR, .DV_IFV_SP, .FC_CLEAR_REJ, .FC_CNT, .FC_FIRST_ID,
      .FC_FIRST_ORG, .FC_FIRST_TAI_NS, .FC_FIRST_TAI_SH, .FC_FIRST_TAI_SL, .FC_LAT, .FC_OVF, .FC_SUPPRESSED, .SPP_POWER,
      .SPP_STAT, .SPP_TRIPS, .SP_LOOP, .xx_STATUS]) s (State.spFail s n st cause src) := by
  unfold State.spFail
  extract_lets +onlyGivenNames y0
  clear_value y0
  extract_lets +onlyGivenNames y1
  refine Only.have y1 ?_ fun hy1 => ?_
  · subst y1
    refine Only.set .SPP_STAT 13 rfl rfl ?_
    refine Only.set .SPP_STAT 13 rfl rfl ?_
    exact Only.refl _
  clear_value y1
  extract_lets +onlyGivenNames y2
  refine Only.have y2 ?_ fun hy2 => ?_
  · subst y2
    refine (only_raise ..).over (Covers.some 111 69629 rfl rfl) ?_
    refine Only.count .SPP_TRIPS 14 rfl rfl ?_
    exact hy1
  clear_value y2
  refine Only.ite ?_ ?_
  · refine (only_raise ..).over (Covers.some 111 69629 rfl rfl) ?_
    refine (only_spMove ..).over (Covers.some 17 110594 rfl rfl) ?_
    exact hy2
  · refine (only_spMove ..).over (Covers.some 17 110594 rfl rfl) ?_
    exact hy2

theorem only_spRefuse (s : State) (n) (cause) :
    Only [.irqOwed, .heads, .cues, .evt, .sps, .fc, .sl] (some [.CU_EVT_OVR, .DV_IFV_SP, .FC_CLEAR_REJ, .FC_CNT, .FC_FIRST_ID,
      .FC_FIRST_ORG, .FC_FIRST_TAI_NS, .FC_FIRST_TAI_SH, .FC_FIRST_TAI_SL, .FC_LAT, .FC_OVF, .FC_SUPPRESSED, .SPP_POWER,
      .SPP_STAT, .SPP_TRIPS, .SP_LOOP, .xx_STATUS]) s (State.spRefuse s n cause) := by
  unfold State.spRefuse
  refine (only_spFail ..).over (Covers.some 127 131071 rfl rfl) ?_
  exact Only.refl _

theorem only_spLoopMax (s : State) :
    Only [.irqOwed, .heads, .cues, .evt, .sps, .fc, .sl] (some [.CU_EVT_OVR, .DV_IFV_SP, .FC_CLEAR_REJ, .FC_CNT, .FC_FIRST_ID,
      .FC_FIRST_ORG, .FC_FIRST_TAI_NS, .FC_FIRST_TAI_SH, .FC_FIRST_TAI_SL, .FC_LAT, .FC_OVF, .FC_SUPPRESSED, .SPP_POWER,
      .SPP_STAT, .SPP_TRIPS, .SP_LOOP, .xx_STATUS]) s (State.spLoopMax s) := by
  unfold State.spLoopMax
  refine Only.foldl ?_ fun y0 _ hy0 => ?_
  · exact Only.refl _
  · refine Only.ite ?_ ?_
    · refine (only_spRefuse ..).over (Covers.some 127 131071 rfl rfl) ?_
      exact hy0
    · exact hy0

theorem only_spMeasure (s : State) (n) :
    Only [.irqOwed, .heads, .cues, .evt, .sps, .fc, .sl] (some [.CU_EVT_OVR, .DV_IFV_SP, .FC_CLEAR_REJ, .FC_CNT, .FC_FIRST_ID,
      .FC_FIRST_ORG, .FC_FIRST_TAI_NS, .FC_FIRST_TAI_SH, .FC_FIRST_TAI_SL, .FC_LAT, .FC_OVF, .FC_SUPPRESSED, .SPP_POWER,
      .SPP_STAT, .SPP_TRIPS, .SP_LOOP, .xx_STATUS]) s (State.spMeasure s n) := by
  unfold State.spMeasure
  extract_lets +onlyGivenNames y0
  refine Only.have y0 ?_ fun hy0 => ?_
  · subst y0
    refine (only_spMove ..).over (Covers.some 17 110594 rfl rfl) ?_
    exact Only.refl _
  clear_value y0
  refine Only.ite ?_ ?_
  · refine (only_spRefuse ..).over (Covers.some 127 131071 rfl rfl) ?_
    exact hy0
  · refine Only.ite ?_ ?_
    · refine (only_spRefuse ..).over (Covers.some 127 131071 rfl rfl) ?_
      exact hy0
    · exact hy0

theorem only_spOn (s : State) (n) :
    Only [.irqOwed, .heads, .cues, .evt, .sps, .fc, .sl] (some [.CU_EVT_OVR, .DV_IFV_SP, .FC_CLEAR_REJ, .FC_CNT, .FC_FIRST_ID,
      .FC_FIRST_ORG, .FC_FIRST_TAI_NS, .FC_FIRST_TAI_SH, .FC_FIRST_TAI_SL, .FC_LAT, .FC_OVF, .FC_SUPPRESSED, .SPP_POWER,
      .SPP_STAT, .SPP_TRIPS, .SP_LOOP, .xx_STATUS]) s (State.spOn s n) := by
  unfold State.spOn
  refine Only.ite ?_ ?_
  · refine (only_spMeasure ..).over (Covers.some 127 131071 rfl rfl) ?_
    exact Only.refl _
  · exact Only.refl _

theorem only_spOff (s : State) (n) :
    Only [.irqOwed, .sps] (some [.DV_IFV_SP, .SPP_POWER, .SPP_STAT, .SP_LOOP, .xx_STATUS]) s (State.spOff s n) := by
  unfold State.spOff
  extract_lets +onlyGivenNames y0
  refine Only.have y0 ?_ fun hy0 => ?_
  · subst y0
    refine Only.set .SPP_STAT 2 rfl rfl ?_
    exact Only.refl _
  clear_value y0
  refine Only.ite ?_ ?_
  · exact hy0
  · refine (only_spMove ..).over (Covers.some 3 31 rfl rfl) ?_
    exact hy0

theorem only_updGl (s : State) (f) : Only [.gl] (some []) s (State.updGl s f) := by
  unfold State.updGl
  refine Only.gl 0 rfl ?_
  exact Only.refl _

theorem only_setRole (s : State) (r) : Only [.irqOwed, .gl] (some [.GL_STATE, .xx_STATUS]) s (State.setRole s r) := by
  unfold State.setRole
  refine Only.ite ?_ ?_
  · exact Only.refl _
  · extract_lets +onlyGivenNames y0
    refine Only.have y0 ?_ fun hy0 => ?_
    · subst y0
      refine (only_latch ..).over (Covers.some 1 2 rfl rfl) ?_
      refine Only.set .GL_STATE 0 rfl rfl ?_
      exact Only.refl _
    clear_value y0
    refine (only_updGl ..).over (Covers.some 2 0 rfl rfl) ?_
    exact hy0

theorem only_glOn (s : State) : Only [.irqOwed, .gl] (some [.GL_STATE, .xx_STATUS]) s (State.glOn s) := by
  unfold State.glOn
  refine Only.ite ?_ ?_
  · refine (only_setRole ..).over (Covers.some 3 3 rfl rfl) ?_
    exact Only.refl _
  · exact Only.refl _

theorem only_glOff (s : State) : Only [.irqOwed, .gl] (some [.GL_STATE, .xx_STATUS]) s (State.glOff s) := by
  unfold State.glOff
  refine (only_updGl ..).over (Covers.some 2 0 rfl rfl) ?_
  refine (only_setRole ..).over (Covers.some 3 3 rfl rfl) ?_
  exact Only.refl _

theorem only_updPs (s : State) (f) : Only [.ps] (some []) s (State.updPs s f) := by
  unfold State.updPs
  refine Only.ps 0 rfl ?_
  exact Only.refl _

theorem only_setGated (s : State) (l) : Only [.ps] (some [.PS_DOMAINS]) s (State.setGated s l) := by
  unfold State.setGated
  extract_lets +onlyGivenNames y0
  refine Only.have y0 ?_ fun hy0 => ?_
  · subst y0
    refine (only_updPs ..).over (Covers.some 1 0 rfl rfl) ?_
    exact Only.refl _
  clear_value y0
  extract_lets +onlyGivenNames y1
  refine Only.have y1 ?_ fun hy1 => ?_
  · subst y1
    refine Only.set .PS_DOMAINS 0 rfl rfl ?_
    exact hy0
  clear_value y1
  refine Only.set .PS_DOMAINS 0 rfl rfl ?_
  exact hy1

theorem only_wake (s : State) (ds) : Only [.ps] (some [.PS_DOMAINS]) s (State.wake s ds) := by
  unfold State.wake
  refine (only_setGated ..).over (Covers.some 1 1 rfl rfl) ?_
  exact Only.refl _

theorem only_startCheck155 (s : State) (n) :
    Only [.irqOwed, .heads, .layers, .cues] (some [.CE_ADM_CULL, .CE_ADM_PEAK_B, .CE_ADM_PEAK_LP, .CE_ADM_PEAK_RES, .CE_CDET,
      .CE_CSTAT, .CE_L_FENCE_STAT, .CE_L_SHOWN_HI, .CE_L_SHOWN_LO, .HD_STAT, .xx_STATUS]) s (State.startCheck155 s n) := by
  unfold State.startCheck155
  extract_lets +onlyGivenNames y0
  clear_value y0
  extract_lets +onlyGivenNames y1
  refine Only.have y1 ?_ fun hy1 => ?_
  · subst y1
    split
    · extract_lets +onlyGivenNames y2
      subst y2
      extract_lets +onlyGivenNames y3
      refine Only.have y3 ?_ fun hy3 => ?_
      · subst y3
        refine (only_latchMapErr ..).over (Covers.some 1 1024 rfl rfl) ?_
        exact Only.refl _
      clear_value y3
      refine Only.ite ?_ ?_
      · refine (only_updHead ..).over (Covers.some 2 0 rfl rfl) ?_
        exact hy3
      · refine (only_cancelSet ..).over (Covers.some 8 48 rfl rfl) ?_
        refine (only_updHead ..).over (Covers.some 2 0 rfl rfl) ?_
        exact hy3
    · exact Only.refl _
  clear_value y1
  split
  · refine Only.set .HD_STAT 9 rfl rfl ?_
    exact hy1
  · extract_lets +onlyGivenNames y4
    subst y4
    extract_lets +onlyGivenNames y5
    refine Only.have y5 ?_ fun hy5 => ?_
    · subst y5
      refine (only_latchMapErr ..).over (Covers.some 1 1024 rfl rfl) ?_
      exact hy1
    clear_value y5
    refine Only.ite ?_ ?_
    · extract_lets +onlyGivenNames y6
      clear_value y6
      refine (only_setReport ..).over (Covers.some 0 15 rfl rfl) ?_
      refine (only_updHead ..).over (Covers.some 2 0 rfl rfl) ?_
      refine Only.set .HD_STAT 9 rfl rfl ?_
      exact hy5
    · extract_lets +onlyGivenNames y7
      refine Only.have y7 ?_ fun hy7 => ?_
      · subst y7
        refine Only.foldl ?_ fun y8 _ hy8 => ?_
        · exact hy5
        · refine (only_dropLayer ..).over (Covers.some 4 448 rfl rfl) ?_
          exact hy8
      clear_value y7
      extract_lets +onlyGivenNames y9
      refine Only.have y9 ?_ fun hy9 => ?_
      · subst y9
        refine (only_updHead ..).over (Covers.some 2 0 rfl rfl) ?_
        exact hy7
      clear_value y9
      refine (only_latch ..).over (Covers.some 1 1024 rfl rfl) ?_
      refine Only.set .HD_STAT 9 rfl rfl ?_
      exact hy9

theorem only_onLast (s : State) (n) : Only [] (some [.HD_PHASE, .HD_RASTER]) s (State.onLast s n) := by
  unfold State.onLast
  split
  · refine Only.ite ?_ ?_
    · refine Only.wr .HD_PHASE 0 rfl rfl ?_
      refine Only.wr .HD_RASTER 1 rfl rfl ?_
      exact Only.refl _
    · exact Only.refl _
  · exact Only.refl _

theorem only_loadPhase (s : State) (n) : Only [.heads] (some [.HD_PHASE, .HD_RASTER]) s (State.loadPhase s n) := by
  unfold State.loadPhase
  split
  · extract_lets +onlyGivenNames y0
    subst y0
    refine (only_updHead ..).over (Covers.some 1 0 rfl rfl) ?_
    exact Only.refl _
  · exact Only.refl _

theorem only_pauseUnit (s : State) (u) : Only [.free, .cks] (some [.CK_RUN, .CK_STAT]) s (State.pauseUnit s u) := by
  unfold State.pauseUnit
  refine Only.ite ?_ ?_
  · exact Only.refl _
  · extract_lets +onlyGivenNames y0
    refine Only.have y0.2 ?_ fun hy0 => ?_
    · subst y0
      refine (only_fresh ..).over (Covers.some 1 0 rfl rfl) ?_
      exact Only.refl _
    clear_value y0
    extract_lets +onlyGivenNames y1
    refine Only.have y1 ?_ fun hy1 => ?_
    · subst y1
      refine (only_ckFeed ..).over (Covers.some 2 1 rfl rfl) ?_
      exact hy0
    clear_value y1
    refine Only.set .CK_STAT 1 rfl rfl ?_
    exact hy1

theorem only_beginScan (s : State) (n) (c) :
    Only [.free, .pls, .cks] (some [.CE_PL_S_STAT, .CK_RUN, .CK_STAT]) s (State.beginScan s n c) := by
  unfold State.beginScan
  extract_lets +onlyGivenNames y0
  refine Only.have y0 ?_ fun hy0 => ?_
  · subst y0
    refine (only_updPl ..).over (Covers.some 2 0 rfl rfl) ?_
    exact Only.refl _
  clear_value y0
  extract_lets +onlyGivenNames y1
  refine Only.have y1 ?_ fun hy1 => ?_
  · subst y1
    refine Only.set .CE_PL_S_STAT 0 rfl rfl ?_
    exact hy0
  clear_value y1
  refine (only_pauseUnit ..).over (Covers.some 5 6 rfl rfl) ?_
  exact hy1

theorem only_askScan (s : State) (n) (c) :
    Only [.free, .pls, .cks] (some [.CE_PL_S_STAT, .CK_RUN, .CK_STAT]) s (State.askScan s n c) := by
  unfold State.askScan
  refine Only.ite ?_ ?_
  · refine (only_beginScan ..).over (Covers.some 7 7 rfl rfl) ?_
    exact Only.refl _
  · refine (only_updPl ..).over (Covers.some 2 0 rfl rfl) ?_
    exact Only.refl _

theorem only_plFrameScan (s : State) (n) :
    Only [.free, .pls, .cks] (some [.CE_PL_S_STAT, .CK_RUN, .CK_STAT]) s (State.plFrameScan s n) := by
  unfold State.plFrameScan
  extract_lets +onlyGivenNames y0
  clear_value y0
  extract_lets +onlyGivenNames y1
  refine Only.have y1 ?_ fun hy1 => ?_
  · subst y1
    refine (only_updPl ..).over (Covers.some 2 0 rfl rfl) ?_
    exact Only.refl _
  clear_value y1
  extract_lets +onlyGivenNames y2
  clear_value y2
  refine Only.ite ?_ ?_
  · refine (only_askScan ..).over (Covers.some 7 7 rfl rfl) ?_
    refine (only_setPl ..).over (Covers.some 2 0 rfl rfl) ?_
    exact hy1
  · exact hy1

theorem only_layerDeadline (s : State) (k) (old) (d) : Only [.layers] (some []) s (State.layerDeadline s k old d) := by
  unfold State.layerDeadline
  refine Only.ite ?_ ?_
  · extract_lets +onlyGivenNames y0
    clear_value y0
    refine Only.ite ?_ ?_
    · refine (only_setLayer ..).over (Covers.some 1 0 rfl rfl) ?_
      exact Only.refl _
    · split
      · refine Only.ite ?_ ?_
        · refine (only_setLayer ..).over (Covers.some 1 0 rfl rfl) ?_
          exact Only.refl _
        · refine (only_setLayer ..).over (Covers.some 1 0 rfl rfl) ?_
          exact Only.refl _
      · refine (only_setLayer ..).over (Covers.some 1 0 rfl rfl) ?_
        exact Only.refl _
  · refine (only_updLayer ..).over (Covers.some 1 0 rfl rfl) ?_
    exact Only.refl _

theorem only_applyWaiting (s : State) (p) : Only [.eff, .waiting] (some []) s (State.applyWaiting s p) := by
  unfold State.applyWaiting
  extract_lets +onlyGivenNames y0
  clear_value y0
  extract_lets +onlyGivenNames y1
  refine Only.have y1 ?_ fun hy1 => ?_
  · subst y1
    refine Only.waiting 1 rfl ?_
    exact Only.refl _
  clear_value y1
  refine Only.foldl ?_ fun y2 _ hy2 => ?_
  · exact hy1
  · extract_lets +onlyGivenNames y3
    clear_value y3
    refine Only.eff 0 rfl ?_
    exact hy2

theorem only_latchItems (s : State) (n) (items) :
    Only [.irqOwed, .eff, .waiting, .dts] (some [.xx_STATUS]) s (State.latchItems s n items) := by
  unfold State.latchItems
  extract_lets +onlyGivenNames y0
  refine Only.have y0 ?_ fun hy0 => ?_
  · subst y0
    refine (only_applyWaiting ..).over (Covers.some 6 0 rfl rfl) ?_
    exact Only.refl _
  clear_value y0
  extract_lets +onlyGivenNames y1
  clear_value y1
  extract_lets +onlyGivenNames y2
  clear_value y2
  extract_lets +onlyGivenNames y3
  clear_value y3
  extract_lets +onlyGivenNames y4
  clear_value y4
  extract_lets +onlyGivenNames y5
  clear_value y5
  extract_lets +onlyGivenNames y6
  refine Only.have y6 ?_ fun hy6 => ?_
  · subst y6
    refine Only.dts 3 rfl ?_
    exact hy0
  clear_value y6
  refine Only.ite ?_ ?_
  · refine (only_latch ..).over (Covers.some 1 1 rfl rfl) ?_
    exact hy6
  · exact hy6

theorem only_deadlineActs (s : State) (n) (f) :
    Only [.irqOwed, .eff, .waiting, .heads, .dts, .layers] (some [.xx_STATUS]) s (State.deadlineActs s n f) := by
  unfold State.deadlineActs
  split
  · exact Only.refl _
  · extract_lets +onlyGivenNames y0
    clear_value y0
    extract_lets +onlyGivenNames y1
    refine Only.have y1 ?_ fun hy1 => ?_
    · subst y1
      refine Only.foldl ?_ fun y2 _ hy2 => ?_
      · exact Only.refl _
      · refine (only_layerDeadline ..).over (Covers.some 32 0 rfl rfl) ?_
        exact hy2
    clear_value y1
    extract_lets +onlyGivenNames y3
    refine Only.have y3 ?_ fun hy3 => ?_
    · subst y3
      refine Only.ite ?_ ?_
      · exact hy1
      · refine (only_latchItems ..).over (Covers.some 23 1 rfl rfl) ?_
        exact hy1
    clear_value y3
    refine (only_updHead ..).over (Covers.some 8 0 rfl rfl) ?_
    exact hy3

theorem only_aimHead (s : State) (n) (f) :
    Only [.irqOwed, .eff, .waiting, .heads, .dts, .layers] (some [.xx_STATUS]) s (State.aimHead s n f) := by
  unfold State.aimHead
  extract_lets +onlyGivenNames y0
  refine Only.have y0 ?_ fun hy0 => ?_
  · subst y0
    refine (only_updHead ..).over (Covers.some 8 0 rfl rfl) ?_
    exact Only.refl _
  clear_value y0
  refine Only.ite ?_ ?_
  · refine (only_updHead ..).over (Covers.some 8 0 rfl rfl) ?_
    refine (only_deadlineActs ..).over (Covers.some 63 1 rfl rfl) ?_
    exact hy0
  · exact hy0

theorem only_startHead (s : State) (n) :
    Only [.free, .irqOwed, .eff, .waiting, .heads, .engines, .groups, .dts, .ads, .layers, .pls, .cks, .cues, .evt, .ps] (some
      [.CE_ADM_CULL, .CE_ADM_PEAK_B, .CE_ADM_PEAK_LP, .CE_ADM_PEAK_RES, .CE_CDET, .CE_CSTAT, .CE_L_FENCE_STAT, .CE_L_SHOWN_HI,
      .CE_L_SHOWN_LO, .CE_PL_CSTAT, .CE_PL_S_STAT, .CK_RUN, .CK_STAT, .CU_EVT_OVR, .HD_PHASE, .HD_RASTER, .HD_STAT, .PS_DOMAINS,
      .xx_STATUS]) s (State.startHead s n) := by
  unfold State.startHead
  extract_lets +onlyGivenNames y0
  refine Only.have y0 ?_ fun hy0 => ?_
  · subst y0
    refine (only_wake ..).over (Covers.some 16384 131072 rfl rfl) ?_
    refine Only.set .HD_STAT 16 rfl rfl ?_
    exact Only.refl _
  clear_value y0
  extract_lets +onlyGivenNames y1
  refine Only.have y1 ?_ fun hy1 => ?_
  · subst y1
    refine (only_moveHead ..).over (Covers.some 14192 74736 rfl rfl) ?_
    refine (only_startCheck155 ..).over (Covers.some 4626 328191 rfl rfl) ?_
    exact hy0
  clear_value y1
  extract_lets +onlyGivenNames y2
  subst y2
  extract_lets +onlyGivenNames y3
  refine Only.have y3 ?_ fun hy3 => ?_
  · subst y3
    refine Only.ite ?_ ?_
    · exact hy1
    · refine (only_loadPhase ..).over (Covers.some 16 49152 rfl rfl) ?_
      exact hy1
  clear_value y3
  extract_lets +onlyGivenNames y4
  subst y4
  extract_lets +onlyGivenNames y5
  refine Only.have y5 ?_ fun hy5 => ?_
  · subst y5
    refine (only_updHead ..).over (Covers.some 16 0 rfl rfl) ?_
    exact hy3
  clear_value y5
  refine (only_plFrameScan ..).over (Covers.some 3073 7168 rfl rfl) ?_
  refine (only_aimHead ..).over (Covers.some 670 262144 rfl rfl) ?_
  exact hy5

theorem only_showBacklog (s : State) (q) : Only [] (some [.NQ_STAT]) s (State.showBacklog s q) := by
  unfold State.showBacklog
  refine Only.set .NQ_STAT 0 rfl rfl ?_
  exact Only.refl _

theorem only_ringOutcome (s : State) (e) (result) :
    Only [.irqOwed, .hqs] (some [.HQ_DROP, .xx_STATUS]) s (State.ringOutcome s e result) := by
  unfold State.ringOutcome
  split
  · exact Only.refl _
  · extract_lets +onlyGivenNames y0
    clear_value y0
    extract_lets +onlyGivenNames y1
    refine Only.have y1 ?_ fun hy1 => ?_
    · subst y1
      refine Only.hqs 1 rfl ?_
      exact Only.refl _
    clear_value y1
    refine Only.ite ?_ ?_
    · refine (only_latch ..).over (Covers.some 1 2 rfl rfl) ?_
      refine Only.count .HQ_DROP 0 rfl rfl ?_
      exact hy1
    · exact hy1

theorem only_setQueue (s : State) (q) (x) : Only [.queues] (some []) s (State.setQueue s q x) := by
  unfold State.setQueue
  refine Only.queues 0 rfl ?_
  exact Only.refl _

theorem only_accrue (s : State) (q) : Only [.queues] (some []) s (State.accrue s q) := by
  unfold State.accrue
  extract_lets +onlyGivenNames y0
  clear_value y0
  extract_lets +onlyGivenNames y1
  clear_value y1
  extract_lets +onlyGivenNames y2
  clear_value y2
  extract_lets +onlyGivenNames y3
  clear_value y3
  extract_lets +onlyGivenNames y4
  clear_value y4
  extract_lets +onlyGivenNames y5
  clear_value y5
  extract_lets +onlyGivenNames y6
  clear_value y6
  refine (only_setQueue ..).over (Covers.some 1 0 rfl rfl) ?_
  exact Only.refl _

theorem only_updQueue (s : State) (q) (f) : Only [.queues] (some []) s (State.updQueue s q f) := by
  unfold State.updQueue
  refine (only_setQueue ..).over (Covers.some 1 0 rfl rfl) ?_
  exact Only.refl _

theorem only_popFrame (s : State) (q) : Only [.queues] (some []) s (State.popFrame s q) := by
  unfold State.popFrame
  extract_lets +onlyGivenNames y0
  refine Only.have y0 ?_ fun hy0 => ?_
  · subst y0
    refine (only_accrue ..).over (Covers.some 1 0 rfl rfl) ?_
    exact Only.refl _
  clear_value y0
  refine (only_updQueue ..).over (Covers.some 1 0 rfl rfl) ?_
  exact hy0

theorem only_dropDown (s : State) (p) (q) (e) :
    Only [.irqOwed, .queues, .hqs] (some [.HQ_DROP, .NP_TX_DOWN_DROP, .xx_STATUS]) s (State.dropDown s p q e) := by
  unfold State.dropDown
  refine Only.count .NP_TX_DOWN_DROP 1 rfl rfl ?_
  refine (only_ringOutcome ..).over (Covers.some 5 5 rfl rfl) ?_
  refine (only_popFrame ..).over (Covers.some 2 0 rfl rfl) ?_
  exact Only.refl _

theorem only_dropOversize (s : State) (p) (q) (e) :
    Only [.irqOwed, .heads, .queues, .hqs, .cues, .evt, .fc, .sl] (some [.CU_EVT_OVR, .FC_CLEAR_REJ, .FC_CNT, .FC_FIRST_ID,
      .FC_FIRST_ORG, .FC_FIRST_TAI_NS, .FC_FIRST_TAI_SH, .FC_FIRST_TAI_SL, .FC_LAT, .FC_OVF, .FC_SUPPRESSED, .HQ_DROP,
      .NP_TX_OVERSIZE, .NQ_OVERSIZE, .xx_STATUS]) s (State.dropOversize s p q e) := by
  unfold State.dropOversize
  extract_lets +onlyGivenNames y0
  refine Only.have y0 ?_ fun hy0 => ?_
  · subst y0
    refine (only_ringOutcome ..).over (Covers.some 9 18432 rfl rfl) ?_
    refine (only_popFrame ..).over (Covers.some 4 0 rfl rfl) ?_
    exact Only.refl _
  clear_value y0
  extract_lets +onlyGivenNames y1
  refine Only.have y1 ?_ fun hy1 => ?_
  · subst y1
    refine Only.count .NP_TX_OVERSIZE 12 rfl rfl ?_
    refine Only.count .NQ_OVERSIZE 13 rfl rfl ?_
    exact hy0
  clear_value y1
  refine (only_raise ..).over (Covers.some 243 18431 rfl rfl) ?_
  refine (only_latch ..).over (Covers.some 1 16384 rfl rfl) ?_
  exact hy1

theorem only_atHead (s : State) (q n) :
    Only [.irqOwed, .heads, .queues, .hqs, .cues, .evt, .fc, .sl] (some [.CU_EVT_OVR, .FC_CLEAR_REJ, .FC_CNT, .FC_FIRST_ID,
      .FC_FIRST_ORG, .FC_FIRST_TAI_NS, .FC_FIRST_TAI_SH, .FC_FIRST_TAI_SL, .FC_LAT, .FC_OVF, .FC_SUPPRESSED, .HQ_DROP,
      .NP_TX_DOWN_DROP, .NP_TX_OVERSIZE, .NQ_OVERSIZE, .xx_STATUS]) s (s.atHead q n) := by
  induction n generalizing s with
  | zero => exact Only.refl _
  | succ n ih =>
    unfold State.atHead
    extract_lets +onlyGivenNames p
    clear_value p
    split
    · exact Only.refl _
    · split
      · exact (ih _).over (Covers.some 255 65535 rfl rfl) ((only_dropDown ..).over (Covers.some 13 38912 rfl rfl) (Only.refl _))
      · split
        · exact (ih _).over (Covers.some 255 65535 rfl rfl) ((only_dropOversize ..).over (Covers.some 255 61439 rfl rfl) (Only.refl _))
        · exact Only.refl _

theorem only_settle (s : State) (q) :
    Only [.irqOwed, .heads, .queues, .hqs, .cues, .evt, .fc, .sl] (some [.CU_EVT_OVR, .FC_CLEAR_REJ, .FC_CNT, .FC_FIRST_ID,
      .FC_FIRST_ORG, .FC_FIRST_TAI_NS, .FC_FIRST_TAI_SH, .FC_FIRST_TAI_SL, .FC_LAT, .FC_OVF, .FC_SUPPRESSED, .HQ_DROP,
      .NP_TX_DOWN_DROP, .NP_TX_OVERSIZE, .NQ_OVERSIZE, .xx_STATUS]) s (State.settle s q) := by
  unfold State.settle
  refine (only_atHead ..).over (Covers.some 255 65535 rfl rfl) ?_
  exact Only.refl _

theorem only_stCheck (s : State) (n) :
    Only [.irqOwed, .heads, .ads, .cues, .evt, .fc, .sl] (some [.CU_EVT_OVR, .FC_CLEAR_REJ, .FC_CNT, .FC_FIRST_ID,
      .FC_FIRST_ORG, .FC_FIRST_TAI_NS, .FC_FIRST_TAI_SH, .FC_FIRST_TAI_SL, .FC_LAT, .FC_OVF, .FC_SUPPRESSED, .xx_STATUS]) s
      (State.stCheck s n) := by
  unfold State.stCheck
  extract_lets +onlyGivenNames y0
  clear_value y0
  extract_lets +onlyGivenNames y1
  clear_value y1
  refine Only.ite ?_ ?_
  · exact Only.refl _
  · extract_lets +onlyGivenNames y2
    refine Only.have y2 ?_ fun hy2 => ?_
    · subst y2
      refine (only_updHead ..).over (Covers.some 2 0 rfl rfl) ?_
      exact Only.refl _
    clear_value y2
    extract_lets +onlyGivenNames y3
    refine Only.have y3 ?_ fun hy3 => ?_
    · subst y3
      refine Only.ite ?_ ?_
      · refine (only_withdraw ..).over (Covers.some 4 0 rfl rfl) ?_
        exact hy2
      · exact hy2
    clear_value y3
    refine Only.ite ?_ ?_
    · refine (only_raise ..).over (Covers.some 123 4095 rfl rfl) ?_
      refine (only_latch ..).over (Covers.some 1 2048 rfl rfl) ?_
      exact hy3
    · exact hy3

theorem only_linkChanged (s : State) (p) :
    Only [.irqOwed, .heads, .queues, .ads, .hqs, .cues, .evt, .fc, .sl] (some [.CU_EVT_OVR, .FC_CLEAR_REJ, .FC_CNT,
      .FC_FIRST_ID, .FC_FIRST_ORG, .FC_FIRST_TAI_NS, .FC_FIRST_TAI_SH, .FC_FIRST_TAI_SL, .FC_LAT, .FC_OVF, .FC_SUPPRESSED,
      .HQ_DROP, .NP_TX_DOWN_DROP, .NP_TX_OVERSIZE, .NQ_OVERSIZE, .NQ_STAT, .xx_STATUS]) s (State.linkChanged s p) := by
  unfold State.linkChanged
  extract_lets +onlyGivenNames y0
  refine Only.have y0 ?_ fun hy0 => ?_
  · subst y0
    refine (only_latch ..).over (Covers.some 1 65536 rfl rfl) ?_
    exact Only.refl _
  clear_value y0
  extract_lets +onlyGivenNames y1
  refine Only.have y1 ?_ fun hy1 => ?_
  · subst y1
    refine Only.foldl ?_ fun y2 _ hy2 => ?_
    · exact hy0
    · refine (only_showBacklog ..).over (Covers.some 0 32768 rfl rfl) ?_
      refine (only_settle ..).over (Covers.some 503 98303 rfl rfl) ?_
      exact hy2
  clear_value y1
  refine Only.foldl ?_ fun y3 _ hy3 => ?_
  · exact hy1
  · refine (only_stCheck ..).over (Covers.some 491 67583 rfl rfl) ?_
    exact hy3

theorem only_setPtp (s : State) (p) (x) : Only [.tb] (some []) s (State.setPtp s p x) := by
  unfold State.setPtp
  refine Only.tb 0 rfl ?_
  exact Only.refl _

theorem only_ptpFault (s : State) (p) :
    Only [.irqOwed, .tb, .heads, .cues, .evt, .fc, .sl] (some [.CU_EVT_OVR, .FC_CLEAR_REJ, .FC_CNT, .FC_FIRST_ID, .FC_FIRST_ORG,
      .FC_FIRST_TAI_NS, .FC_FIRST_TAI_SH, .FC_FIRST_TAI_SL, .FC_LAT, .FC_OVF, .FC_SUPPRESSED, .TB_CLAMP, .TB_INC_HI, .TB_INC_LO,
      .TB_STATE, .xx_STATUS]) s (State.ptpFault s p) := by
  unfold State.ptpFault
  extract_lets +onlyGivenNames y0
  clear_value y0
  refine Only.ite ?_ ?_
  · exact Only.refl _
  · extract_lets +onlyGivenNames y1
    refine Only.have y1 ?_ fun hy1 => ?_
    · subst y1
      refine (only_raise ..).over (Covers.some 125 34815 rfl rfl) ?_
      refine (only_setPtp ..).over (Covers.some 2 0 rfl rfl) ?_
      exact Only.refl _
    clear_value y1
    refine Only.ite ?_ ?_
    · refine (only_noSlave ..).over (Covers.some 2 0 rfl rfl) ?_
      refine (only_srcLost ..).over (Covers.some 127 65535 rfl rfl) ?_
      exact hy1
    · exact hy1

theorem only_linkDownOp (p) (s : State) :
    Only [.irqOwed, .tb, .heads, .queues, .ads, .hqs, .cues, .evt, .fc, .sl] (some [.CU_EVT_OVR, .FC_CLEAR_REJ, .FC_CNT,
      .FC_FIRST_ID, .FC_FIRST_ORG, .FC_FIRST_TAI_NS, .FC_FIRST_TAI_SH, .FC_FIRST_TAI_SL, .FC_LAT, .FC_OVF, .FC_SUPPRESSED,
      .HQ_DROP, .NP_LINK_DOWN, .NP_STAT, .NP_TX_DOWN_DROP, .NP_TX_OVERSIZE, .NQ_OVERSIZE, .NQ_STAT, .TB_CLAMP, .TB_INC_HI,
      .TB_INC_LO, .TB_STATE, .xx_STATUS]) s (linkDownOp p s) := by
  unfold linkDownOp
  refine Only.ite ?_ ?_
  · exact Only.refl _
  · extract_lets +onlyGivenNames y0
    refine Only.have y0 ?_ fun hy0 => ?_
    · subst y0
      refine Only.count .NP_LINK_DOWN 12 rfl rfl ?_
      refine Only.set .NP_STAT 13 rfl rfl ?_
      exact Only.refl _
    clear_value y0
    extract_lets +onlyGivenNames y1
    refine Only.have y1 ?_ fun hy1 => ?_
    · subst y1
      refine Only.ite ?_ ?_
      · refine (only_raise ..).over (Covers.some 965 4196351 rfl rfl) ?_
        exact hy0
      · exact hy0
    clear_value y1
    refine (only_linkChanged ..).over (Covers.some 1021 4444159 rfl rfl) ?_
    refine (only_ptpFault ..).over (Covers.some 967 8128511 rfl rfl) ?_
    exact hy1

theorem only_i2cBegin (s : State) (p) : Only [.out] (some [.NP_I2C_STAT]) s (State.i2cBegin s p) := by
  unfold State.i2cBegin
  extract_lets +onlyGivenNames y0
  clear_value y0
  extract_lets +onlyGivenNames y1
  clear_value y1
  refine (only_emit ..).over (Covers.some 1 0 rfl rfl) ?_
  refine Only.set .NP_I2C_STAT 0 rfl rfl ?_
  exact Only.refl _

theorem only_updVid (s : State) (v) (f) : Only [.vids] (some []) s (State.updVid s v f) := by
  unfold State.updVid
  refine Only.vids 0 rfl ?_
  exact Only.refl _

theorem only_startFlow (s : State) (f) : Only [.vids, .flows] (some [.NR_STAT]) s (State.startFlow s f) := by
  unfold State.startFlow
  extract_lets +onlyGivenNames y0
  refine Only.have y0 ?_ fun hy0 => ?_
  · subst y0
    refine (only_setFlow ..).over (Covers.some 2 0 rfl rfl) ?_
    exact Only.refl _
  clear_value y0
  extract_lets +onlyGivenNames y1
  refine Only.have y1 ?_ fun hy1 => ?_
  · subst y1
    refine (only_updVid ..).over (Covers.some 1 0 rfl rfl) ?_
    exact hy0
  clear_value y1
  refine Only.set .NR_STAT 0 rfl rfl ?_
  refine Only.set .NR_STAT 0 rfl rfl ?_
  refine Only.set .NR_STAT 0 rfl rfl ?_
  exact hy1

theorem only_updFlow (s : State) (v) (f) : Only [.flows] (some []) s (State.updFlow s v f) := by
  unfold State.updFlow
  refine (only_setFlow ..).over (Covers.some 1 0 rfl rfl) ?_
  exact Only.refl _

theorem only_stopFlow (s : State) (f) : Only [.flows] none s (State.stopFlow s f) := by
  unfold State.stopFlow
  refine (only_updFlow ..).over (Covers.any 1 rfl) ?_
  refine (only_abandonFrame ..).over (Covers.any 1 rfl) ?_
  exact Only.refl _

theorem only_startSdi (s : State) (i) : Only [.vids, .flows] (some [.NG_SDI_STAT]) s (State.startSdi s i) := by
  unfold State.startSdi
  extract_lets +onlyGivenNames y0
  refine Only.have y0 ?_ fun hy0 => ?_
  · subst y0
    refine (only_updFlow ..).over (Covers.some 2 0 rfl rfl) ?_
    exact Only.refl _
  clear_value y0
  extract_lets +onlyGivenNames y1
  refine Only.have y1 ?_ fun hy1 => ?_
  · subst y1
    refine (only_updVid ..).over (Covers.some 1 0 rfl rfl) ?_
    exact hy0
  clear_value y1
  refine Only.set .NG_SDI_STAT 0 rfl rfl ?_
  refine Only.set .NG_SDI_STAT 0 rfl rfl ?_
  refine Only.set .NG_SDI_STAT 0 rfl rfl ?_
  exact hy1

theorem only_stopSdi (s : State) (i) : Only [.flows] none s (State.stopSdi s i) := by
  unfold State.stopSdi
  refine (only_updFlow ..).over (Covers.any 1 rfl) ?_
  refine (only_abandonFrame ..).over (Covers.any 1 rfl) ?_
  exact Only.refl _

theorem only_portSums (s : State) (p) : Only [] (some [.NP_MEDIA_RATE, .NP_TX_ACTIVE]) s (State.portSums s p) := by
  unfold State.portSums
  refine Only.set .NP_MEDIA_RATE 0 rfl rfl ?_
  refine Only.set .NP_TX_ACTIVE 1 rfl rfl ?_
  exact Only.refl _

theorem only_startQueue (s : State) (q) :
    Only [.queues] (some [.NP_MEDIA_RATE, .NP_TX_ACTIVE, .NQ_STAT]) s (State.startQueue s q) := by
  unfold State.startQueue
  extract_lets +onlyGivenNames y0
  refine Only.have y0 ?_ fun hy0 => ?_
  · subst y0
    refine (only_setQueue ..).over (Covers.some 1 0 rfl rfl) ?_
    exact Only.refl _
  clear_value y0
  refine (only_showBacklog ..).over (Covers.some 0 4 rfl rfl) ?_
  refine (only_portSums ..).over (Covers.some 0 3 rfl rfl) ?_
  refine Only.set .NQ_STAT 2 rfl rfl ?_
  exact hy0

theorem only_stopQueue (s : State) (q) :
    Only [.irqOwed, .queues, .ads, .hqs] (some [.HQ_DROP, .NP_MEDIA_RATE, .NP_TX_ACTIVE, .NQ_STAT, .xx_STATUS]) s
      (State.stopQueue s q) := by
  unfold State.stopQueue
  extract_lets +onlyGivenNames y0
  clear_value y0
  extract_lets +onlyGivenNames y1
  refine Only.have y1 ?_ fun hy1 => ?_
  · subst y1
    refine (only_setQueue ..).over (Covers.some 2 0 rfl rfl) ?_
    exact Only.refl _
  clear_value y1
  extract_lets +onlyGivenNames y2
  refine Only.have y2 ?_ fun hy2 => ?_
  · subst y2
    refine (only_withdraw ..).over (Covers.some 4 0 rfl rfl) ?_
    exact hy1
  clear_value y2
  extract_lets +onlyGivenNames y3
  refine Only.have y3 ?_ fun hy3 => ?_
  · subst y3
    refine Only.foldl ?_ fun y4 _ hy4 => ?_
    · exact hy2
    · refine (only_ringOutcome ..).over (Covers.some 9 17 rfl rfl) ?_
      exact hy4
  clear_value y3
  refine (only_showBacklog ..).over (Covers.some 0 8 rfl rfl) ?_
  refine (only_portSums ..).over (Covers.some 0 6 rfl rfl) ?_
  exact hy3

theorem only_accruePort (s : State) (p) : Only [.queues] (some []) s (State.accruePort s p) := by
  unfold State.accruePort
  refine Only.foldl ?_ fun y0 _ hy0 => ?_
  · exact Only.refl _
  · refine (only_accrue ..).over (Covers.some 1 0 rfl rfl) ?_
    exact hy0

theorem only_showOper (s : State) (p) (l) :
    Only [] (some [.NG_GCL_OPER, .NG_GCL_OPER_BASE_NS, .NG_GCL_OPER_BASE_SH, .NG_GCL_OPER_BASE_SL, .NG_GCL_OPER_CYCLE,
      .NG_GCL_OPER_LEN, .NG_GCL_STAT]) s (State.showOper s p l) := by
  unfold State.showOper
  extract_lets +onlyGivenNames y0
  clear_value y0
  extract_lets +onlyGivenNames y1
  refine Only.have y1 ?_ fun hy1 => ?_
  · subst y1
    refine Only.set .NG_GCL_OPER_LEN 5 rfl rfl ?_
    exact Only.refl _
  clear_value y1
  extract_lets +onlyGivenNames y2
  refine Only.have y2 ?_ fun hy2 => ?_
  · subst y2
    refine Only.set .NG_GCL_OPER_CYCLE 4 rfl rfl ?_
    exact hy1
  clear_value y2
  extract_lets +onlyGivenNames y3
  refine Only.have y3 ?_ fun hy3 => ?_
  · subst y3
    refine Only.set .NG_GCL_OPER_BASE_SL 3 rfl rfl ?_
    exact hy2
  clear_value y3
  extract_lets +onlyGivenNames y4
  refine Only.have y4 ?_ fun hy4 => ?_
  · subst y4
    refine Only.set .NG_GCL_OPER_BASE_SH 2 rfl rfl ?_
    exact hy3
  clear_value y4
  extract_lets +onlyGivenNames y5
  refine Only.have y5 ?_ fun hy5 => ?_
  · subst y5
    refine Only.set .NG_GCL_OPER_BASE_NS 1 rfl rfl ?_
    exact hy4
  clear_value y5
  extract_lets +onlyGivenNames y6
  refine Only.have y6 ?_ fun hy6 => ?_
  · subst y6
    refine Only.set .NG_GCL_STAT 6 rfl rfl ?_
    refine Only.set .NG_GCL_STAT 6 rfl rfl ?_
    exact hy5
  clear_value y6
  refine Only.foldl ?_ fun y7 _ hy7 => ?_
  · exact hy6
  · extract_lets +onlyGivenNames y8
    subst y8
    refine Only.wr .NG_GCL_OPER 0 rfl rfl ?_
    exact hy7

theorem only_gclStop (s : State) (p) :
    Only [.ports, .queues] (some [.NG_GCL_OPER, .NG_GCL_OPER_BASE_NS, .NG_GCL_OPER_BASE_SH, .NG_GCL_OPER_BASE_SL,
      .NG_GCL_OPER_CYCLE, .NG_GCL_OPER_LEN, .NG_GCL_STAT]) s (State.gclStop s p) := by
  unfold State.gclStop
  extract_lets +onlyGivenNames y0
  refine Only.have y0 ?_ fun hy0 => ?_
  · subst y0
    refine (only_updPort ..).over (Covers.some 1 0 rfl rfl) ?_
    refine (only_accruePort ..).over (Covers.some 2 0 rfl rfl) ?_
    exact Only.refl _
  clear_value y0
  refine Only.set .NG_GCL_STAT 6 rfl rfl ?_
  refine (only_showOper ..).over (Covers.some 0 127 rfl rfl) ?_
  exact hy0

theorem only_setFlags (s : State) (n) (f) : Only [] (some [.CU_FLAGS]) s (State.setFlags s n f) := by
  unfold State.setFlags
  refine Only.set .CU_FLAGS 0 rfl rfl ?_
  exact Only.refl _

theorem only_startEngine (s : State) (n) (resume) (step) :
    Only [.cues, .evt] (some [.CU_FLAGS, .CU_PC, .CU_STAT]) s (State.startEngine s n resume step) := by
  unfold State.startEngine
  extract_lets +onlyGivenNames y0
  clear_value y0
  extract_lets +onlyGivenNames y1
  refine Only.have y1 ?_ fun hy1 => ?_
  · subst y1
    refine Only.set .CU_STAT 2 rfl rfl ?_
    refine Only.set .CU_STAT 2 rfl rfl ?_
    exact Only.refl _
  clear_value y1
  refine Only.ite ?_ ?_
  · refine (only_setCue ..).over (Covers.some 1 0 rfl rfl) ?_
    exact hy1
  · extract_lets +onlyGivenNames y2
    refine Only.have y2 ?_ fun hy2 => ?_
    · subst y2
      refine (only_setFlags ..).over (Covers.some 0 1 rfl rfl) ?_
      refine (only_setPc ..).over (Covers.some 0 2 rfl rfl) ?_
      exact hy1
    clear_value y2
    extract_lets +onlyGivenNames y3
    refine Only.have y3 ?_ fun hy3 => ?_
    · subst y3
      refine (only_setCue ..).over (Covers.some 1 0 rfl rfl) ?_
      exact hy2
    clear_value y3
    refine Only.foldl ?_ fun y4 _ hy4 => ?_
    · exact hy3
    · refine (only_setEvt ..).over (Covers.some 2 0 rfl rfl) ?_
      exact hy4

end Sys2Proof.Machine
end

