-- ==== Sys2Proof/Laws/Touch3.lean ====
section
/-! SUPPORT. What each operation touches, part 3 of 7: for every operation the parts of the state and the registers that it
may change. All else stays, and the operation follows the state before it (Only). -/

namespace Sys2Proof.Machine

theorem only_takePending (s : State) (n) :
    Only [.irqOwed, .heads, .cues, .evt, .fc, .sl] (some [.CU_ECAUSE, .CU_EDATA, .CU_EPC, .CU_EVT_OVR, .CU_PC, .CU_STAT,
      .CU_TRAP_CNT, .FC_CLEAR_REJ, .FC_CNT, .FC_FIRST_ID, .FC_FIRST_ORG, .FC_FIRST_TAI_NS, .FC_FIRST_TAI_SH, .FC_FIRST_TAI_SL,
      .FC_LAT, .FC_OVF, .FC_SUPPRESSED, .xx_STATUS]) s (State.takePending s n) := by
  unfold State.takePending
  refine Only.ite ?_ ?_
  · exact Only.refl _
  · extract_lets +onlyGivenNames y0
    clear_value y0
    split
    · refine (only_enterTrap ..).over (Covers.some 63 262143 rfl rfl) ?_
      refine (only_setCue ..).over (Covers.some 4 0 rfl rfl) ?_
      exact Only.refl _
    · split
      · refine (only_enterTrap ..).over (Covers.some 63 262143 rfl rfl) ?_
        refine (only_setCue ..).over (Covers.some 4 0 rfl rfl) ?_
        exact Only.refl _
      · exact Only.refl _

theorem only_boundary (s : State) (n) (acc) (pc) :
    Only [.irqOwed, .heads, .cues, .evt, .fc, .sl] (some [.CU_ECAUSE, .CU_EDATA, .CU_EPC, .CU_EVT_OVR, .CU_PC, .CU_STAT,
      .CU_TRAP_CNT, .FC_CLEAR_REJ, .FC_CNT, .FC_FIRST_ID, .FC_FIRST_ORG, .FC_FIRST_TAI_NS, .FC_FIRST_TAI_SH, .FC_FIRST_TAI_SL,
      .FC_LAT, .FC_OVF, .FC_SUPPRESSED, .xx_STATUS]) s (State.boundary s n acc pc) := by
  unfold State.boundary
  refine Only.ite ?_ ?_
  · exact Only.refl _
  · split
    · refine Only.ite ?_ ?_
      · refine (only_haltDue ..).over (Covers.some 5 131104 rfl rfl) ?_
        refine (only_enterTrap ..).over (Covers.some 63 262143 rfl rfl) ?_
        exact Only.refl _
      · refine (only_doubleHalt ..).over (Covers.some 63 262072 rfl rfl) ?_
        exact Only.refl _
    · refine (only_haltDue ..).over (Covers.some 5 131104 rfl rfl) ?_
      refine (only_takePending ..).over (Covers.some 63 262143 rfl rfl) ?_
      exact Only.refl _

theorem only_haltEngine (s : State) (n) :
    Only [.irqOwed, .heads, .cues, .evt, .fc, .sl] (some [.CU_ECAUSE, .CU_EDATA, .CU_EPC, .CU_EVT_OVR, .CU_PC, .CU_STAT,
      .CU_TRAP_CNT, .FC_CLEAR_REJ, .FC_CNT, .FC_FIRST_ID, .FC_FIRST_ORG, .FC_FIRST_TAI_NS, .FC_FIRST_TAI_SH, .FC_FIRST_TAI_SL,
      .FC_LAT, .FC_OVF, .FC_SUPPRESSED, .xx_STATUS]) s (State.haltEngine s n) := by
  unfold State.haltEngine
  extract_lets +onlyGivenNames y0
  clear_value y0
  refine Only.ite ?_ ?_
  · refine (only_boundary ..).over (Covers.some 63 262143 rfl rfl) ?_
    refine Only.set .CU_STAT 5 rfl rfl ?_
    exact Only.refl _
  · refine Only.ite ?_ ?_
    · split
      · split
        · refine Only.set .CU_STAT 5 rfl rfl ?_
          exact Only.refl _
        · refine (only_boundary ..).over (Covers.some 63 262143 rfl rfl) ?_
          refine (only_updCue ..).over (Covers.some 4 0 rfl rfl) ?_
          refine Only.set .CU_STAT 5 rfl rfl ?_
          exact Only.refl _
      · refine (only_boundary ..).over (Covers.some 63 262143 rfl rfl) ?_
        refine Only.set .CU_STAT 5 rfl rfl ?_
        exact Only.refl _
    · exact Only.refl _

theorem only_after (s : State) (org) (k) (old) (new) (v) : Only allAreas none s (State.after s org k old new v) := by
  unfold State.after
  extract_lets +onlyGivenNames y0
  clear_value y0
  split
  · refine (only_updLayer ..).over (Covers.any 2147483648 rfl) ?_
    exact Only.refl _
  · refine Only.ite ?_ ?_
    · refine Only.wrAny ?_
      exact Only.refl _
    · exact Only.refl _
  · extract_lets +onlyGivenNames y1
    clear_value y1
    refine Only.ite ?_ ?_
    · exact Only.refl _
    · refine Only.irqOwed 3 rfl ?_
      exact Only.refl _
  · refine (only_settleMode ..).over (Covers.any 335374736834570 rfl) ?_
    refine Only.ite ?_ ?_
    · refine (only_updDv ..).over (Covers.any 16384 rfl) ?_
      exact Only.refl _
    · exact Only.refl _
  · refine (only_requestBoot ..).over (Covers.any 562949953437696 rfl) ?_
    exact Only.refl _
  · refine Only.ite ?_ ?_
    · extract_lets +onlyGivenNames y2
      refine Only.have y2 ?_ fun hy2 => ?_
      · subst y2
        refine Only.wrAny ?_
        exact Only.refl _
      clear_value y2
      refine Only.sl 48 rfl ?_
      exact hy2
    · exact Only.refl _
  · refine (only_loadEntry ..).over (Covers.any 0 rfl) ?_
    exact Only.refl _
  · refine (only_requestControl ..).over (Covers.any 562949953437696 rfl) ?_
    exact Only.refl _
  · refine (only_applyInc ..).over (Covers.any 423329156694024 rfl) ?_
    exact Only.refl _
  · refine (only_holdInc ..).over (Covers.any 0 rfl) ?_
    exact Only.refl _
  · refine (only_holdInc ..).over (Covers.any 0 rfl) ?_
    exact Only.refl _
  · refine (only_holdInc ..).over (Covers.any 0 rfl) ?_
    exact Only.refl _
  · extract_lets +onlyGivenNames y3
    refine Only.have y3 ?_ fun hy3 => ?_
    · subst y3
      refine Only.ite ?_ ?_
      · refine (only_requestTime ..).over (Covers.any 562949953437696 rfl) ?_
        exact Only.refl _
      · exact Only.refl _
    clear_value y3
    refine (only_src3Check ..).over (Covers.any 423329156759560 rfl) ?_
    exact hy3
  · extract_lets +onlyGivenNames y4
    refine Only.have y4 ?_ fun hy4 => ?_
    · subst y4
      refine Only.ite ?_ ?_
      · refine (only_requestRegs ..).over (Covers.any 562949953437696 rfl) ?_
        refine Only.setAny ?_
        exact Only.refl _
      · exact Only.refl _
    clear_value y4
    refine Only.ite ?_ ?_
    · refine (only_src3Changed ..).over (Covers.any 423329156759560 rfl) ?_
      exact hy4
    · exact hy4
  · refine Only.ite ?_ ?_
    · refine (only_refLossOp ..).over (Covers.any 427727203270664 rfl) ?_
      exact Only.refl _
    · exact Only.refl _
  · refine (only_src2Check ..).over (Covers.any 427727203270664 rfl) ?_
    exact Only.refl _
  · refine Only.ite ?_ ?_
    · refine (only_requestRegs ..).over (Covers.any 562949953437696 rfl) ?_
      refine Only.setAny ?_
      exact Only.refl _
    · exact Only.refl _
  · refine (only_spLoopMax ..).over (Covers.any 458513528782856 rfl) ?_
    exact Only.refl _
  · extract_lets +onlyGivenNames y5
    refine Only.have y5 ?_ fun hy5 => ?_
    · subst y5
      refine Only.ite ?_ ?_
      · refine (only_spOn ..).over (Covers.any 458513528782856 rfl) ?_
        exact Only.refl _
      · refine Only.ite ?_ ?_
        · refine (only_spOff ..).over (Covers.any 35184372088840 rfl) ?_
          exact Only.refl _
        · exact Only.refl _
    clear_value y5
    refine Only.ite ?_ ?_
    · refine (only_spUnlink ..).over (Covers.any 35184372088840 rfl) ?_
      exact hy5
    · exact hy5
  · refine Only.ite ?_ ?_
    · refine (only_glOn ..).over (Covers.any 70368744177672 rfl) ?_
      exact Only.refl _
    · refine Only.ite ?_ ?_
      · refine (only_glOff ..).over (Covers.any 70368744177672 rfl) ?_
        exact Only.refl _
      · exact Only.refl _
  · refine Only.ite ?_ ?_
    · refine (only_startHead ..).over (Covers.any 3330819358778 rfl) ?_
      exact Only.refl _
    · refine Only.ite ?_ ?_
      · refine (only_stopHead ..).over (Covers.any 1123201974280 rfl) ?_
        exact Only.refl _
      · exact Only.refl _
  · refine Only.ite ?_ ?_
    · refine (only_adStart ..).over (Covers.any 0 rfl) ?_
      exact Only.refl _
    · refine Only.ite ?_ ?_
      · refine (only_adStop ..).over (Covers.any 67108864 rfl) ?_
        exact Only.refl _
      · exact Only.refl _
  · refine Only.ite ?_ ?_
    · refine (only_hqStart ..).over (Covers.any 134217728 rfl) ?_
      refine Only.setAny ?_
      exact Only.refl _
    · refine Only.ite ?_ ?_
      · refine (only_hqStop ..).over (Covers.any 134217728 rfl) ?_
        exact Only.refl _
      · exact Only.refl _
  · refine Only.ite ?_ ?_
    · refine (only_linkDownOp ..).over (Covers.any 423329374863368 rfl) ?_
      exact Only.refl _
    · exact Only.refl _
  · refine Only.ite ?_ ?_
    · exact Only.refl _
    · refine (only_i2cBegin ..).over (Covers.any 4 rfl) ?_
      exact Only.refl _
  · refine Only.ite ?_ ?_
    · refine (only_startFlow ..).over (Covers.any 35651584 rfl) ?_
      exact Only.refl _
    · refine Only.ite ?_ ?_
      · refine (only_stopFlow ..).over (Covers.any 33554432 rfl) ?_
        exact Only.refl _
      · exact Only.refl _
  · refine (only_updFlow ..).over (Covers.any 33554432 rfl) ?_
    exact Only.refl _
  · refine Only.ite ?_ ?_
    · refine (only_startSdi ..).over (Covers.any 35651584 rfl) ?_
      exact Only.refl _
    · refine Only.ite ?_ ?_
      · refine (only_stopSdi ..).over (Covers.any 33554432 rfl) ?_
        exact Only.refl _
      · exact Only.refl _
  · refine Only.ite ?_ ?_
    · refine (only_startQueue ..).over (Covers.any 16777216 rfl) ?_
      exact Only.refl _
    · refine Only.ite ?_ ?_
      · refine (only_stopQueue ..).over (Covers.any 218103816 rfl) ?_
        exact Only.refl _
      · exact Only.refl _
  · refine Only.ite ?_ ?_
    · refine (only_gclStop ..).over (Covers.any 25165824 rfl) ?_
      exact Only.refl _
    · exact Only.refl _
  · refine Only.ite ?_ ?_
    · refine Only.ite ?_ ?_
      · refine (only_startEngine ..).over (Covers.any 1116691496960 rfl) ?_
        exact Only.refl _
      · exact Only.refl _
    · refine Only.ite ?_ ?_
      · refine (only_haltEngine ..).over (Covers.any 423329156694024 rfl) ?_
        exact Only.refl _
      · exact Only.refl _
  · refine (only_event1 ..).over (Covers.any 1116691496960 rfl) ?_
    exact Only.refl _
  · exact Only.refl _

theorem only_blockWrite (s : State) (org) (k) (v) (lock) : Only allAreas none s (State.blockWrite s org k v lock).1 := by
  unfold State.blockWrite
  refine Only.ite1 ?_ ?_
  · refine Only.fst ?_
    refine (only_statusWrite ..).over (Covers.any 0 rfl) ?_
    exact Only.refl _
  · extract_lets +onlyGivenNames y0
    clear_value y0
    extract_lets +onlyGivenNames y1
    clear_value y1
    extract_lets +onlyGivenNames y2
    clear_value y2
    refine Only.ite1 ?_ ?_
    · refine Only.fst ?_
      exact Only.refl _
    · extract_lets +onlyGivenNames y3
      clear_value y3
      extract_lets +onlyGivenNames y4
      refine Only.have y4 ?_ fun hy4 => ?_
      · subst y4
        refine Only.w1 6 rfl ?_
        exact Only.refl _
      clear_value y4
      extract_lets +onlyGivenNames y5
      refine Only.have y5.1 ?_ fun hy5 => ?_
      · subst y5
        refine (only_command ..).over (Covers.any 1125899906842623 rfl) ?_
        exact hy4
      clear_value y5
      extract_lets +onlyGivenNames y6
      refine Only.have y6 ?_ fun hy6 => ?_
      · subst y6
        refine (only_store ..).over (Covers.any 48 rfl) ?_
        exact hy5
      clear_value y6
      refine Only.fst ?_
      refine (only_after ..).over (Covers.any 1125899906842623 rfl) ?_
      exact hy6

theorem only_busWrite (s : State) (o) (addr) (v) (be) : Only allAreas none s (State.busWrite s o addr v be).1 := by
  unfold State.busWrite
  extract_lets +onlyGivenNames y0
  clear_value y0
  extract_lets +onlyGivenNames y1
  clear_value y1
  extract_lets +onlyGivenNames y2
  subst y2
  beta_reduce
  refine Only.ite1 ?_ ?_
  · refine Only.fst ?_
    exact Only.refl _
  · split
    · refine Only.fst ?_
      refine (only_holdWrite ..).over (Covers.any 256 rfl) ?_
      exact Only.refl _
    · refine Only.ite1 ?_ ?_
      · refine Only.fst ?_
        refine (only_log ..).over (Covers.any 281474976710656 rfl) ?_
        refine Only.countAny ?_
        exact Only.refl _
      · refine Only.ite1 ?_ ?_
        · refine Only.fst ?_
          refine (only_log ..).over (Covers.any 281474976710656 rfl) ?_
          refine (only_raise ..).over (Covers.any 423329156694024 rfl) ?_
          refine Only.countAny ?_
          exact Only.refl _
        · refine Only.ite1 ?_ ?_
          · refine Only.fst ?_
            refine (only_log ..).over (Covers.any 281474976710656 rfl) ?_
            refine Only.countAny ?_
            exact Only.refl _
          · split
            · extract_lets +onlyGivenNames y3
              refine Only.have y3.1 ?_ fun hy3 => ?_
              · subst y3
                refine (only_slotWrite ..).over (Covers.any 618475290624 rfl) ?_
                exact Only.refl _
              clear_value y3
              refine Only.fst ?_
              refine (only_log ..).over (Covers.any 281474976710656 rfl) ?_
              refine (only_refuse ..).over (Covers.any 423329156694024 rfl) ?_
              exact hy3
            · refine Only.ite1 ?_ ?_
              · refine Only.fst ?_
                refine (only_log ..).over (Covers.any 281474976710656 rfl) ?_
                refine (only_refuse ..).over (Covers.any 423329156694024 rfl) ?_
                exact Only.refl _
              · split
                · refine (only_slowWrite ..).over (Covers.any 423329156694216 rfl) ?_
                  exact Only.refl _
                · extract_lets +onlyGivenNames y4
                  refine Only.have y4.1 ?_ fun hy4 => ?_
                  · subst y4
                    refine (only_blockWrite ..).over (Covers.any 1125899906842623 rfl) ?_
                    exact Only.refl _
                  clear_value y4
                  refine Only.fst ?_
                  refine (only_log ..).over (Covers.any 281474976710656 rfl) ?_
                  refine (only_refuse ..).over (Covers.any 423329156694024 rfl) ?_
                  exact hy4
            · refine Only.fst ?_
              refine (only_log ..).over (Covers.any 281474976710656 rfl) ?_
              exact Only.refl _

theorem only_judgeKick (s : State) (n) : Only allAreas none s (State.judgeKick s n) := by
  unfold State.judgeKick
  extract_lets +onlyGivenNames y0
  clear_value y0
  split
  · exact Only.refl _
  · extract_lets +onlyGivenNames y1
    refine Only.have y1.2 ?_ fun hy1 => ?_
    · subst y1
      refine (only_fresh ..).over (Covers.any 2 rfl) ?_
      exact Only.refl _
    clear_value y1
    extract_lets +onlyGivenNames y2
    refine Only.have y2.1 ?_ fun hy2 => ?_
    · subst y2
      refine (only_busWrite ..).over (Covers.any 1125899906842623 rfl) ?_
      refine (only_setCue ..).over (Covers.any 17179869184 rfl) ?_
      exact hy1
    clear_value y2
    refine Only.ite ?_ ?_
    · exact hy2
    · extract_lets +onlyGivenNames y3
      refine Only.have y3 ?_ fun hy3 => ?_
      · subst y3
        refine (only_latch ..).over (Covers.any 8 rfl) ?_
        exact hy2
      clear_value y3
      refine Only.ite ?_ ?_
      · refine (only_updCue ..).over (Covers.any 17179869184 rfl) ?_
        exact hy3
      · exact hy3

theorem only_drainKicks (s : State) (n) : Only allAreas none s (State.drainKicks s n) := by
  unfold State.drainKicks
  refine Only.foldl ?_ fun y0 _ hy0 => ?_
  · exact Only.refl _
  · refine (only_judgeKick ..).over (Covers.any 1125899906842623 rfl) ?_
    exact hy0

theorem only_access {A : List Area} {R : Option (List Reg)} {s x : State} {n a f} (hc : Covers A R allAreas none) (h :
    Only A R s x)
    (hf : ∀ y, Only A R s y → ∀ o pc, Only A R s (f o pc y)) : Only A R s (x.access n a f) := by
  unfold State.access
  split
  · exact (show Only allAreas none x (x.trapNow n 1 a) from (only_trapNow ..).over (Covers.any 423329156694024 rfl) (Only.refl _)).over hc h
  · have hd := (show Only allAreas none x (x.drainKicks n) from (only_drainKicks ..).over (Covers.any 1125899906842623 rfl) (Only.refl _)).over hc h
    extract_lets +onlyGivenNames y
    have hy : Only A R s y := hd
    clear_value y
    split
    · exact hy
    · extract_lets +onlyGivenNames pc z
      clear_value pc
      have hz : Only A R s z.2 := (show Only allAreas none y y.fresh.2 from (only_fresh ..).over (Covers.any 2 rfl) (Only.refl _)).over hc hy
      clear_value z
      exact hf _ ((show Only allAreas none z.2 (z.2.setPc n _) from (only_setPc ..).over (Covers.any 0 rfl) (Only.refl _)).over hc hz) _ _

theorem only_ckRunLatch (s : State) (u) (fed) : Only [.cks] (some [.CK_PROG, .CK_RUN]) s (State.ckRunLatch s u fed) := by
  unfold State.ckRunLatch
  refine Only.ite ?_ ?_
  · exact Only.refl _
  · extract_lets +onlyGivenNames y0
    refine Only.have y0 ?_ fun hy0 => ?_
    · subst y0
      refine (only_ckFeed ..).over (Covers.some 1 2 rfl rfl) ?_
      exact Only.refl _
    clear_value y0
    refine Only.set .CK_PROG 0 rfl rfl ?_
    exact hy0

theorem only_errorsNow (s : State) (l) : Only [.free] (some [.LT_ERRORS]) s (State.errorsNow s l) := by
  unfold State.errorsNow
  refine Only.ite ?_ ?_
  · extract_lets +onlyGivenNames y0
    refine Only.have y0.2 ?_ fun hy0 => ?_
    · subst y0
      refine (only_fresh ..).over (Covers.some 1 0 rfl rfl) ?_
      exact Only.refl _
    clear_value y0
    refine Only.count .LT_ERRORS 0 rfl rfl ?_
    exact hy0
  · exact Only.refl _

theorem only_readRun (s : State) (k) (fed) :
    Only [.free, .cks] (some [.CK_PROG, .CK_RUN, .LT_ERRORS]) s (State.readRun s k fed) := by
  unfold State.readRun
  refine Only.ite ?_ ?_
  · refine (only_ckRunLatch ..).over (Covers.some 2 3 rfl rfl) ?_
    exact Only.refl _
  · refine Only.ite ?_ ?_
    · refine (only_errorsNow ..).over (Covers.some 1 4 rfl rfl) ?_
      exact Only.refl _
    · exact Only.refl _

theorem only_afterCopyRead (s : State) (k) (v) : Only [.slowCopy] none s (State.afterCopyRead s k v) := by
  unfold State.afterCopyRead
  extract_lets +onlyGivenNames y0
  clear_value y0
  extract_lets +onlyGivenNames y1
  subst y1
  beta_reduce
  extract_lets +onlyGivenNames y2
  clear_value y2
  split
  · refine Only.ite ?_ ?_
    · extract_lets +onlyGivenNames y3
      clear_value y3
      refine Only.slowCopy 0 rfl ?_
      refine Only.wrAny ?_
      exact Only.refl _
    · exact Only.refl _
  · refine Only.ite ?_ ?_
    · refine Only.slowCopy 0 rfl ?_
      refine Only.wrAny ?_
      exact Only.refl _
    · exact Only.refl _

theorem only_latchTime (s : State) (cls) : Only [.tb] (some []) s (State.latchTime s cls) := by
  unfold State.latchTime
  refine Only.tb 0 rfl ?_
  exact Only.refl _

theorem only_popStamp (s : State) (p) : Only [.tb] (some [.TB_TSQ_NS, .TB_TSQ_SH, .TB_TSQ_SL]) s (State.popStamp s p) := by
  unfold State.popStamp
  split
  · exact Only.refl _
  · extract_lets +onlyGivenNames y0
    clear_value y0
    extract_lets +onlyGivenNames y1
    refine Only.have y1 ?_ fun hy1 => ?_
    · subst y1
      refine Only.tb 0 rfl ?_
      exact Only.refl _
    clear_value y1
    extract_lets +onlyGivenNames y2
    refine Only.have y2 ?_ fun hy2 => ?_
    · subst y2
      refine Only.wr .TB_TSQ_NS 0 rfl rfl ?_
      refine Only.wr .TB_TSQ_SL 2 rfl rfl ?_
      exact hy1
    clear_value y2
    refine Only.wr .TB_TSQ_SH 1 rfl rfl ?_
    exact hy2

theorem only_bitsLatch (s : State) (l) : Only [.lts] (some [.LT_BITS_HI, .LT_BITS_LO]) s (State.bitsLatch s l) := by
  unfold State.bitsLatch
  extract_lets +onlyGivenNames y0
  refine Only.have y0 ?_ fun hy0 => ?_
  · subst y0
    refine Only.ite ?_ ?_
    · refine (only_showBits ..).over (Covers.some 0 3 rfl rfl) ?_
      exact Only.refl _
    · exact Only.refl _
  clear_value y0
  refine (only_updLt ..).over (Covers.some 1 0 rfl rfl) ?_
  exact hy0

theorem only_corrected (s : State) (n) (key) :
    Only [.irqOwed, .ecc] (some [.CUS_MEM_CORR, .xx_STATUS]) s (State.corrected s n key) := by
  unfold State.corrected
  refine Only.ite ?_ ?_
  · refine (only_clearEcc ..).over (Covers.some 2 0 rfl rfl) ?_
    refine (only_latch ..).over (Covers.some 1 2 rfl rfl) ?_
    refine Only.count .CUS_MEM_CORR 0 rfl rfl ?_
    exact Only.refl _
  · exact Only.refl _

theorem only_portRead (s : State) (n) (key) :
    Only [.irqOwed, .heads, .cues, .ecc, .evt, .fc, .sl] (some [.CUS_MEM_CORR, .CUS_MEM_UNCORR, .CU_EVT_OVR, .FC_CLEAR_REJ,
      .FC_CNT, .FC_FIRST_ID, .FC_FIRST_ORG, .FC_FIRST_TAI_NS, .FC_FIRST_TAI_SH, .FC_FIRST_TAI_SL, .FC_LAT, .FC_OVF,
      .FC_SUPPRESSED, .xx_STATUS]) s (State.portRead s n key) := by
  unfold State.portRead
  refine Only.ite ?_ ?_
  · refine (only_raise ..).over (Covers.some 119 16380 rfl rfl) ?_
    refine Only.count .CUS_MEM_UNCORR 1 rfl rfl ?_
    exact Only.refl _
  · refine (only_corrected ..).over (Covers.some 9 8193 rfl rfl) ?_
    exact Only.refl _

theorem only_afterRead (s : State) (k) (cls) (v) :
    Only [.irqOwed, .tb, .heads, .cues, .ecc, .evt, .lts, .fc, .sl] none s (State.afterRead s k cls v) := by
  unfold State.afterRead
  extract_lets +onlyGivenNames y0
  clear_value y0
  extract_lets +onlyGivenNames y1
  clear_value y1
  split
  · refine Only.ite ?_ ?_
    · refine Only.wrAny ?_
      exact Only.refl _
    · exact Only.refl _
  · refine Only.sl 8 rfl ?_
    exact Only.refl _
  · refine (only_latchTime ..).over (Covers.any 2 rfl) ?_
    exact Only.refl _
  · refine (only_popStamp ..).over (Covers.any 2 rfl) ?_
    exact Only.refl _
  · refine (only_bitsLatch ..).over (Covers.any 64 rfl) ?_
    exact Only.refl _
  · refine (only_portRead ..).over (Covers.any 445 rfl) ?_
    refine (only_updCue ..).over (Covers.any 8 rfl) ?_
    exact Only.refl _
  · refine Only.setAny ?_
    exact Only.refl _
  · extract_lets +onlyGivenNames y2
    clear_value y2
    refine Only.setAny ?_
    refine (only_portRead ..).over (Covers.any 445 rfl) ?_
    exact Only.refl _
  · refine Only.setAny ?_
    exact Only.refl _
  · refine Only.ite ?_ ?_
    · refine Only.wrAny ?_
      exact Only.refl _
    · exact Only.refl _

theorem only_busReadAt (s : State) (o) (addr) (fed) :
    Only [.free, .irqOwed, .slowCopy, .tb, .heads, .cks, .cues, .ecc, .evt, .lts, .fc, .sl] none s (State.busReadAt s o addr
      fed).1 := by
  unfold State.busReadAt
  extract_lets +onlyGivenNames y0
  clear_value y0
  refine Only.ite1 ?_ ?_
  · refine Only.fst ?_
    exact Only.refl _
  · refine Only.ite1 ?_ ?_
    · refine Only.fst ?_
      refine Only.countAny ?_
      exact Only.refl _
    · split
      · extract_lets +onlyGivenNames y1
        clear_value y1
        extract_lets +onlyGivenNames y2
        refine Only.have y2 ?_ fun hy2 => ?_
        · subst y2
          refine (only_readRun ..).over (Covers.any 33 rfl) ?_
          exact Only.refl _
        clear_value y2
        extract_lets +onlyGivenNames y3
        clear_value y3
        refine Only.fst ?_
        refine Only.ite ?_ ?_
        · refine (only_afterCopyRead ..).over (Covers.any 4 rfl) ?_
          exact hy2
        · refine (only_afterRead ..).over (Covers.any 4058 rfl) ?_
          exact hy2
      · refine Only.fst ?_
        exact Only.refl _
      · refine Only.fst ?_
        exact Only.refl _
      · refine Only.fst ?_
        exact Only.refl _

theorem only_busRead (s : State) (o) (addr) :
    Only [.free, .irqOwed, .slowCopy, .tb, .heads, .cks, .cues, .ecc, .evt, .lts, .fc, .sl] none s (State.busRead s o addr).1 :=
      by
  unfold State.busRead
  split
  · extract_lets +onlyGivenNames y0
    refine Only.have y0.2 ?_ fun hy0 => ?_
    · subst y0
      refine (only_fresh ..).over (Covers.any 1 rfl) ?_
      exact Only.refl _
    clear_value y0
    refine (only_busReadAt ..).over (Covers.any 4095 rfl) ?_
    exact hy0
  · refine (only_busReadAt ..).over (Covers.any 4095 rfl) ?_
    exact Only.refl _

theorem only_endAccess (s : State) (n) (rd) (v) (z) (a) (pc) (cost) :
    Only [.irqOwed, .heads, .cues, .cregs, .evt, .fc, .sl] (some [.CU_ECAUSE, .CU_EDATA, .CU_EPC, .CU_EVT_OVR, .CU_FLAGS,
      .CU_PC, .CU_RETIRED, .CU_STAT, .CU_TRAP_CNT, .FC_CLEAR_REJ, .FC_CNT, .FC_FIRST_ID, .FC_FIRST_ORG, .FC_FIRST_TAI_NS,
      .FC_FIRST_TAI_SH, .FC_FIRST_TAI_SL, .FC_LAT, .FC_OVF, .FC_SUPPRESSED, .xx_STATUS]) s (State.endAccess s n rd v z a pc
      cost) := by
  unfold State.endAccess
  extract_lets +onlyGivenNames y0
  refine Only.have y0 ?_ fun hy0 => ?_
  · subst y0
    refine (only_spend ..).over (Covers.some 4 0 rfl rfl) ?_
    refine (only_setCreg ..).over (Covers.some 8 0 rfl rfl) ?_
    refine (only_setFlags ..).over (Covers.some 0 16 rfl rfl) ?_
    exact Only.refl _
  clear_value y0
  extract_lets +onlyGivenNames y1
  refine Only.have y1 ?_ fun hy1 => ?_
  · subst y1
    refine Only.wr .CU_RETIRED 6 rfl rfl ?_
    exact hy0
  clear_value y1
  extract_lets +onlyGivenNames y2
  refine Only.have y2 ?_ fun hy2 => ?_
  · subst y2
    refine Only.ite ?_ ?_
    · exact hy1
    · refine (only_latch ..).over (Covers.some 1 524288 rfl rfl) ?_
      exact hy1
  clear_value y2
  refine (only_boundary ..).over (Covers.some 119 1048495 rfl rfl) ?_
  exact hy2

theorem only_accessRead (s : State) (n) (rd) (a) : Only allAreas none s (State.accessRead s n rd a) := by
  unfold State.accessRead
  refine only_access (Covers.any 1125899906842623 rfl) ?_ fun y0 hy0 _ _ => ?_
  · exact Only.refl _
  · extract_lets +onlyGivenNames y1
    refine Only.have y1.2 ?_ fun hy1 => ?_
    · subst y1
      refine (only_fresh ..).over (Covers.any 2 rfl) ?_
      exact hy0
    clear_value y1
    extract_lets +onlyGivenNames y2
    refine Only.have y2.1 ?_ fun hy2 => ?_
    · subst y2
      refine (only_busRead ..).over (Covers.any 441479688552970 rfl) ?_
      exact hy1
    clear_value y2
    refine (only_endAccess ..).over (Covers.any 423363516432392 rfl) ?_
    exact hy2

theorem only_accessWrite (s : State) (n) (a) (v) : Only allAreas none s (State.accessWrite s n a v) := by
  unfold State.accessWrite
  refine only_access (Covers.any 1125899906842623 rfl) ?_ fun y0 hy0 _ _ => ?_
  · exact Only.refl _
  · extract_lets +onlyGivenNames y1
    refine Only.have y1.2 ?_ fun hy1 => ?_
    · subst y1
      refine (only_fresh ..).over (Covers.any 2 rfl) ?_
      exact hy0
    clear_value y1
    extract_lets +onlyGivenNames y2
    refine Only.have y2.1 ?_ fun hy2 => ?_
    · subst y2
      refine (only_busWrite ..).over (Covers.any 1125899906842623 rfl) ?_
      exact hy1
    clear_value y2
    refine (only_endAccess ..).over (Covers.any 423363516432392 rfl) ?_
    exact hy2

theorem only_cutLine (s : State) (k) : Only [.out] (some []) s (State.cutLine s k) := by
  unfold State.cutLine
  split
  · extract_lets +onlyGivenNames y0
    clear_value y0
    extract_lets +onlyGivenNames y1
    clear_value y1
    refine (only_emit ..).over (Covers.some 1 0 rfl rfl) ?_
    exact Only.refl _
  · exact Only.refl _

theorem only_stepCount (s : State) (offset) (org) :
    Only [.out, .irqOwed, .tb, .heads, .cues, .evt, .rf, .sl] (some [.CU_EVT_OVR, .HD_PHASE, .HD_RASTER, .TB_STEP_CNT,
      .xx_STATUS]) s (State.stepCount s offset org) := by
  unfold State.stepCount
  extract_lets +onlyGivenNames y0
  clear_value y0
  extract_lets +onlyGivenNames y1
  clear_value y1
  extract_lets +onlyGivenNames y2
  clear_value y2
  extract_lets +onlyGivenNames y3
  refine Only.have y3 ?_ fun hy3 => ?_
  · subst y3
    refine Only.tb 2 rfl ?_
    exact Only.refl _
  clear_value y3
  extract_lets +onlyGivenNames y4
  refine Only.have y4 ?_ fun hy4 => ?_
  · subst y4
    refine (only_latch ..).over (Covers.some 2 16 rfl rfl) ?_
    refine Only.count .TB_STEP_CNT 3 rfl rfl ?_
    exact hy3
  clear_value y4
  extract_lets +onlyGivenNames y5
  refine Only.have y5 ?_ fun hy5 => ?_
  · subst y5
    refine (only_log ..).over (Covers.some 128 0 rfl rfl) ?_
    exact hy4
  clear_value y5
  extract_lets +onlyGivenNames y6
  refine Only.have y6 ?_ fun hy6 => ?_
  · subst y6
    refine (only_event ..).over (Covers.some 48 1 rfl rfl) ?_
    exact hy5
  clear_value y6
  extract_lets +onlyGivenNames y7
  refine Only.have y7 ?_ fun hy7 => ?_
  · subst y7
    refine Only.foldl ?_ fun y8 _ hy8 => ?_
    · exact hy6
    · refine Only.ite ?_ ?_
      · refine (only_loadPhase ..).over (Covers.some 8 6 rfl rfl) ?_
        exact hy8
      · exact hy8
  clear_value y7
  extract_lets +onlyGivenNames y9
  clear_value y9
  extract_lets +onlyGivenNames y10
  clear_value y10
  extract_lets +onlyGivenNames y11
  refine Only.have y11 ?_ fun hy11 => ?_
  · subst y11
    refine Only.foldl ?_ fun y12 _ hy12 => ?_
    · exact hy7
    · refine (only_cutLine ..).over (Covers.some 1 0 rfl rfl) ?_
      exact hy12
  clear_value y11
  refine Only.upd (x := y11) 80 ⟨rfl, Nat.le_refl _, List.prefix_refl _, Nat.le_refl _, Nat.le_refl _, id, id⟩ (.inr rfl) (fun a ha => by cases a <;> first | rfl | exact absurd (by decide) ha) ?_
  exact hy11

theorem only_lockCheck (s : State) (offset) :
    Only [.irqOwed, .tb, .heads, .cues, .evt, .fc, .sl] (some [.CU_EVT_OVR, .FC_CLEAR_REJ, .FC_CNT, .FC_FIRST_ID, .FC_FIRST_ORG,
      .FC_FIRST_TAI_NS, .FC_FIRST_TAI_SH, .FC_FIRST_TAI_SL, .FC_LAT, .FC_OVF, .FC_SUPPRESSED, .TB_CLAMP, .TB_INC_HI, .TB_INC_LO,
      .TB_STATE, .xx_STATUS]) s (State.lockCheck s offset) := by
  unfold State.lockCheck
  refine Only.ite ?_ ?_
  · exact Only.refl _
  · refine Only.ite ?_ ?_
    · refine Only.tb 1 rfl ?_
      exact Only.refl _
    · split
      · refine Only.tb 1 rfl ?_
        exact Only.refl _
      · refine Only.ite ?_ ?_
        · refine (only_setTb ..).over (Covers.some 127 65535 rfl rfl) ?_
          exact Only.refl _
        · exact Only.refl _

theorem only_judgeOffset (s : State) (c) (offset) :
    Only [.irqOwed, .tb, .heads, .cues, .evt, .fc, .sl] (some [.CU_EVT_OVR, .FC_CLEAR_REJ, .FC_CNT, .FC_FIRST_ID, .FC_FIRST_ORG,
      .FC_FIRST_TAI_NS, .FC_FIRST_TAI_SH, .FC_FIRST_TAI_SL, .FC_LAT, .FC_OVF, .FC_SUPPRESSED, .TB_CLAMP, .TB_INC_HI, .TB_INC_LO,
      .TB_STATE, .xx_STATUS]) s (State.judgeOffset s c offset) := by
  unfold State.judgeOffset
  refine Only.ite ?_ ?_
  · extract_lets +onlyGivenNames y0
    refine Only.have y0 ?_ fun hy0 => ?_
    · subst y0
      refine Only.set .TB_STATE 14 rfl rfl ?_
      exact Only.refl _
    clear_value y0
    refine Only.tb 1 rfl ?_
    exact hy0
  · extract_lets +onlyGivenNames y1
    clear_value y1
    extract_lets +onlyGivenNames y2
    clear_value y2
    extract_lets +onlyGivenNames y3
    refine Only.have y3 ?_ fun hy3 => ?_
    · subst y3
      refine Only.tb 1 rfl ?_
      exact Only.refl _
    clear_value y3
    refine Only.ite ?_ ?_
    · exact hy3
    · extract_lets +onlyGivenNames y4
      refine Only.have y4 ?_ fun hy4 => ?_
      · subst y4
        refine Only.set .TB_STATE 14 rfl rfl ?_
        exact hy3
      clear_value y4
      extract_lets +onlyGivenNames y5
      refine Only.have y5 ?_ fun hy5 => ?_
      · subst y5
        refine (only_setTb ..).over (Covers.some 127 65535 rfl rfl) ?_
        exact hy4
      clear_value y5
      refine (only_raise ..).over (Covers.some 125 34815 rfl rfl) ?_
      refine (only_latch ..).over (Covers.some 1 32768 rfl rfl) ?_
      exact hy5

theorem only_actOn (s : State) (m) (c) (changed) :
    Only [.out, .irqOwed, .tb, .heads, .cues, .evt, .rf, .fc, .sl] (some [.CU_EVT_OVR, .FC_CLEAR_REJ, .FC_CNT, .FC_FIRST_ID,
      .FC_FIRST_ORG, .FC_FIRST_TAI_NS, .FC_FIRST_TAI_SH, .FC_FIRST_TAI_SL, .FC_LAT, .FC_OVF, .FC_SUPPRESSED, .HD_PHASE,
      .HD_RASTER, .TB_CLAMP, .TB_INC_HI, .TB_INC_LO, .TB_STATE, .TB_STEP_CNT, .xx_STATUS]) s (State.actOn s m c changed) := by
  unfold State.actOn
  extract_lets +onlyGivenNames y0
  clear_value y0
  extract_lets +onlyGivenNames y1
  clear_value y1
  extract_lets +onlyGivenNames y2
  clear_value y2
  extract_lets +onlyGivenNames y3
  refine Only.have y3 ?_ fun hy3 => ?_
  · subst y3
    refine Only.tb 2 rfl ?_
    exact Only.refl _
  clear_value y3
  refine Only.ite ?_ ?_
  · extract_lets +onlyGivenNames y4
    clear_value y4
    extract_lets +onlyGivenNames y5
    refine Only.have y5 ?_ fun hy5 => ?_
    · subst y5
      refine (only_stepCount ..).over (Covers.some 383 399361 rfl rfl) ?_
      refine Only.tb 2 rfl ?_
      exact hy3
    clear_value y5
    extract_lets +onlyGivenNames y6
    refine Only.have y6 ?_ fun hy6 => ?_
    · subst y6
      refine (only_updSrc ..).over (Covers.some 4 0 rfl rfl) ?_
      exact hy5
    clear_value y6
    refine (only_lockCheck ..).over (Covers.some 446 387071 rfl rfl) ?_
    refine (only_follow ..).over (Covers.some 446 387071 rfl rfl) ?_
    exact hy6
  · extract_lets +onlyGivenNames y7
    refine Only.have y7 ?_ fun hy7 => ?_
    · subst y7
      refine (only_judgeOffset ..).over (Covers.some 446 387071 rfl rfl) ?_
      exact hy3
    clear_value y7
    refine Only.ite ?_ ?_
    · exact hy7
    · refine (only_lockCheck ..).over (Covers.some 446 387071 rfl rfl) ?_
      refine (only_follow ..).over (Covers.some 446 387071 rfl rfl) ?_
      exact hy7

theorem only_actUnselected (s : State) (c) (fresh) :
    Only [.irqOwed, .tb, .heads, .cues, .evt, .fc, .sl] (some [.CU_EVT_OVR, .FC_CLEAR_REJ, .FC_CNT, .FC_FIRST_ID, .FC_FIRST_ORG,
      .FC_FIRST_TAI_NS, .FC_FIRST_TAI_SH, .FC_FIRST_TAI_SL, .FC_LAT, .FC_OVF, .FC_SUPPRESSED, .TB_CLAMP, .TB_INC_HI, .TB_INC_LO,
      .TB_STATE, .xx_STATUS]) s (State.actUnselected s c fresh) := by
  unfold State.actUnselected
  extract_lets +onlyGivenNames y0
  refine Only.have y0 ?_ fun hy0 => ?_
  · subst y0
    refine Only.ite ?_ ?_
    · refine (only_setTb ..).over (Covers.some 127 65535 rfl rfl) ?_
      exact Only.refl _
    · exact Only.refl _
  clear_value y0
  refine Only.ite ?_ ?_
  · refine (only_judgeOffset ..).over (Covers.some 127 65535 rfl rfl) ?_
    exact hy0
  · exact hy0

theorem only_adExpire (s : State) (c) (line) :
    Only [.free, .irqOwed, .ads] (some [.AD_HW_IDX, .AD_LOST, .AD_STAT, .xx_STATUS]) s (State.adExpire s c line) := by
  unfold State.adExpire
  extract_lets +onlyGivenNames y0
  clear_value y0
  split
  · refine Only.ite ?_ ?_
    · exact Only.refl _
    · extract_lets +onlyGivenNames y1
      clear_value y1
      extract_lets +onlyGivenNames y2
      refine Only.have y2 ?_ fun hy2 => ?_
      · subst y2
        refine Only.set .AD_HW_IDX 0 rfl rfl ?_
        refine Only.set .AD_STAT 2 rfl rfl ?_
        refine (only_setAd ..).over (Covers.some 4 0 rfl rfl) ?_
        exact Only.refl _
      clear_value y2
      extract_lets +onlyGivenNames y3
      refine Only.have y3.2 ?_ fun hy3 => ?_
      · subst y3
        refine Only.ite2 ?_ ?_
        · refine Only.snd ?_
          exact hy2
        · refine Only.ite2 ?_ ?_
          · refine (only_fresh ..).over (Covers.some 1 0 rfl rfl) ?_
            exact hy2
          · refine Only.snd ?_
            exact hy2
      clear_value y3
      refine (only_latch ..).over (Covers.some 2 8 rfl rfl) ?_
      refine Only.count .AD_LOST 1 rfl rfl ?_
      exact hy3
  · exact Only.refl _

theorem only_adFinish (s : State) (c) : Only [.ads] (some [.AD_BURSTS, .AD_HW_IDX, .AD_STAT]) s (State.adFinish s c) := by
  unfold State.adFinish
  extract_lets +onlyGivenNames y0
  clear_value y0
  extract_lets +onlyGivenNames y1
  refine Only.have y1 ?_ fun hy1 => ?_
  · subst y1
    refine (only_setAd ..).over (Covers.some 1 0 rfl rfl) ?_
    exact Only.refl _
  clear_value y1
  extract_lets +onlyGivenNames y2
  refine Only.have y2 ?_ fun hy2 => ?_
  · subst y2
    refine Only.count .AD_BURSTS 0 rfl rfl ?_
    refine Only.set .AD_STAT 2 rfl rfl ?_
    refine Only.set .AD_HW_IDX 1 rfl rfl ?_
    exact hy1
  clear_value y2
  refine Only.set .AD_STAT 2 rfl rfl ?_
  exact hy2

theorem only_adBusErrorOp (c) (s : State) :
    Only [.irqOwed, .heads, .ads, .cues, .evt, .fc, .sl] (some [.AD_STAT, .CU_EVT_OVR, .FC_CLEAR_REJ, .FC_CNT, .FC_FIRST_ID,
      .FC_FIRST_ORG, .FC_FIRST_TAI_NS, .FC_FIRST_TAI_SH, .FC_FIRST_TAI_SL, .FC_LAT, .FC_OVF, .FC_SUPPRESSED, .xx_STATUS]) s
      (adBusErrorOp c s) := by
  unfold adBusErrorOp
  extract_lets +onlyGivenNames y0
  refine Only.have y0 ?_ fun hy0 => ?_
  · subst y0
    refine Only.foldl ?_ fun y1 _ hy1 => ?_
    · exact Only.refl _
    · refine Only.ite ?_ ?_
      · refine (only_updAd ..).over (Covers.some 4 0 rfl rfl) ?_
        refine Only.wr .AD_STAT 0 rfl rfl ?_
        exact hy1
      · exact hy1
  clear_value y0
  refine (only_raise ..).over (Covers.some 123 8190 rfl rfl) ?_
  refine (only_latch ..).over (Covers.some 1 4096 rfl rfl) ?_
  exact hy0

theorem only_adRequest (s : State) (n) (c) (line) (frame) :
    Only [.out, .irqOwed, .heads, .ads, .cues, .evt, .fc, .sl] (some [.AD_STAT, .CU_EVT_OVR, .FC_CLEAR_REJ, .FC_CNT,
      .FC_FIRST_ID, .FC_FIRST_ORG, .FC_FIRST_TAI_NS, .FC_FIRST_TAI_SH, .FC_FIRST_TAI_SL, .FC_LAT, .FC_OVF, .FC_SUPPRESSED,
      .xx_STATUS]) s (State.adRequest s n c line frame) := by
  unfold State.adRequest
  extract_lets +onlyGivenNames y0
  clear_value y0
  extract_lets +onlyGivenNames y1
  clear_value y1
  extract_lets +onlyGivenNames y2
  clear_value y2
  extract_lets +onlyGivenNames y3
  subst y3
  beta_reduce
  refine Only.ite ?_ ?_
  · exact Only.refl _
  · refine Only.ite ?_ ?_
    · refine Only.set .AD_STAT 0 rfl rfl ?_
      refine (only_setAd ..).over (Covers.some 8 0 rfl rfl) ?_
      refine (only_emit ..).over (Covers.some 1 0 rfl rfl) ?_
      exact Only.refl _
    · refine Only.ite ?_ ?_
      · refine (only_adBusErrorOp ..).over (Covers.some 254 8191 rfl rfl) ?_
        exact Only.refl _
      · refine Only.ite ?_ ?_
        · refine Only.set .AD_STAT 0 rfl rfl ?_
          refine (only_setAd ..).over (Covers.some 8 0 rfl rfl) ?_
          exact Only.refl _
        · exact Only.refl _

theorem only_adLine (s : State) (n) (f) (l) :
    Only [.free, .out, .irqOwed, .heads, .ads, .cues, .evt, .fc, .sl] (some [.AD_HW_IDX, .AD_LOST, .AD_STAT, .CU_EVT_OVR,
      .FC_CLEAR_REJ, .FC_CNT, .FC_FIRST_ID, .FC_FIRST_ORG, .FC_FIRST_TAI_NS, .FC_FIRST_TAI_SH, .FC_FIRST_TAI_SL, .FC_LAT,
      .FC_OVF, .FC_SUPPRESSED, .xx_STATUS]) s (State.adLine s n f l) := by
  unfold State.adLine
  extract_lets +onlyGivenNames y0
  clear_value y0
  extract_lets +onlyGivenNames y1
  clear_value y1
  extract_lets +onlyGivenNames y2
  refine Only.have y2 ?_ fun hy2 => ?_
  · subst y2
    refine Only.foldl ?_ fun y3 _ hy3 => ?_
    · exact Only.refl _
    · refine (only_adExpire ..).over (Covers.some 21 16391 rfl rfl) ?_
      exact hy3
  clear_value y2
  refine Only.ite ?_ ?_
  · extract_lets +onlyGivenNames y4
    subst y4
    refine Only.foldl ?_ fun y5 _ hy5 => ?_
    · exact hy2
    · refine (only_adRequest ..).over (Covers.some 510 32764 rfl rfl) ?_
      exact hy5
  · exact hy2

theorem only_adLose (s : State) (c) (n) : Only [.irqOwed] (some [.AD_LOST, .xx_STATUS]) s (State.adLose s c n) := by
  unfold State.adLose
  refine Only.ite ?_ ?_
  · exact Only.refl _
  · refine (only_latch ..).over (Covers.some 1 2 rfl rfl) ?_
    refine Only.count .AD_LOST 0 rfl rfl ?_
    exact Only.refl _

theorem only_adReceive (s : State) (c) (slot) :
    Only [.irqOwed, .heads, .ads, .cues, .evt, .fc, .sl] (some [.AD_LOST, .AD_OVF, .AD_STAT, .CU_EVT_OVR, .FC_CLEAR_REJ,
      .FC_CNT, .FC_FIRST_ID, .FC_FIRST_ORG, .FC_FIRST_TAI_NS, .FC_FIRST_TAI_SH, .FC_FIRST_TAI_SL, .FC_LAT, .FC_OVF,
      .FC_SUPPRESSED, .xx_STATUS]) s (State.adReceive s c slot) := by
  unfold State.adReceive
  refine Only.ite ?_ ?_
  · exact Only.refl _
  · refine Only.ite ?_ ?_
    · refine (only_latch ..).over (Covers.some 1 16384 rfl rfl) ?_
      refine Only.count .AD_LOST 0 rfl rfl ?_
      exact Only.refl _
    · extract_lets +onlyGivenNames y0
      clear_value y0
      refine Only.ite ?_ ?_
      · extract_lets +onlyGivenNames y1
        subst y1
        extract_lets +onlyGivenNames y2
        refine Only.have y2 ?_ fun hy2 => ?_
        · subst y2
          refine (only_latch ..).over (Covers.some 1 16384 rfl rfl) ?_
          refine Only.count .AD_OVF 1 rfl rfl ?_
          exact Only.refl _
        clear_value y2
        refine Only.ite ?_ ?_
        · refine (only_raise ..).over (Covers.some 123 32760 rfl rfl) ?_
          exact hy2
        · exact hy2
      · refine Only.set .AD_STAT 2 rfl rfl ?_
        refine (only_setAd ..).over (Covers.some 4 0 rfl rfl) ?_
        exact Only.refl _

theorem only_insertAnc (s : State) (c) (n) (line) (hanc) (p) :
    Only [.out, .irqOwed, .heads] (some [.AD_LOST, .xx_STATUS]) s (State.insertAnc s c n line hanc p) := by
  unfold State.insertAnc
  extract_lets +onlyGivenNames y0
  clear_value y0
  extract_lets +onlyGivenNames y1
  subst y1
  extract_lets +onlyGivenNames y2
  clear_value y2
  refine Only.ite ?_ ?_
  · extract_lets +onlyGivenNames y3
    subst y3
    refine (only_emit ..).over (Covers.some 1 0 rfl rfl) ?_
    refine (only_setHead ..).over (Covers.some 4 0 rfl rfl) ?_
    exact Only.refl _
  · refine (only_adLose ..).over (Covers.some 2 3 rfl rfl) ?_
    exact Only.refl _

theorem only_insertSlot (s : State) (c) (n) (sl) :
    Only [.out, .irqOwed, .heads] (some [.AD_LOST, .xx_STATUS]) s (State.insertSlot s c n sl) := by
  unfold State.insertSlot
  extract_lets +onlyGivenNames y0
  clear_value y0
  refine Only.ite ?_ ?_
  · refine (only_adLose ..).over (Covers.some 2 3 rfl rfl) ?_
    exact Only.refl _
  · refine Only.foldl ?_ fun y1 _ hy1 => ?_
    · exact Only.refl _
    · refine (only_insertAnc ..).over (Covers.some 7 3 rfl rfl) ?_
      exact hy1

theorem only_highDepth (s : State) (q) : Only [] (some [.NQ_OBS_DEPTH]) s (State.highDepth s q) := by
  unfold State.highDepth
  refine Only.set .NQ_OBS_DEPTH 0 rfl rfl ?_
  exact Only.refl _

theorem only_enqueue (s : State) (q) (data) (tag) (desc) (ring) :
    Only [.irqOwed, .heads, .queues, .hqs, .cues, .evt, .fc, .sl] (some [.CU_EVT_OVR, .FC_CLEAR_REJ, .FC_CNT, .FC_FIRST_ID,
      .FC_FIRST_ORG, .FC_FIRST_TAI_NS, .FC_FIRST_TAI_SH, .FC_FIRST_TAI_SL, .FC_LAT, .FC_OVF, .FC_SUPPRESSED, .HQ_DROP,
      .NP_TX_DOWN_DROP, .NP_TX_OVERSIZE, .NQ_OBS_DEPTH, .NQ_OVERSIZE, .NQ_STAT, .xx_STATUS]) s (State.enqueue s q data tag desc
      ring) := by
  unfold State.enqueue
  refine Only.ite ?_ ?_
  · exact Only.refl _
  · extract_lets +onlyGivenNames y0
    refine Only.have y0 ?_ fun hy0 => ?_
    · subst y0
      refine (only_accrue ..).over (Covers.some 4 0 rfl rfl) ?_
      exact Only.refl _
    clear_value y0
    extract_lets +onlyGivenNames y1
    subst y1
    extract_lets +onlyGivenNames y2
    clear_value y2
    extract_lets +onlyGivenNames y3
    clear_value y3
    extract_lets +onlyGivenNames y4
    clear_value y4
    extract_lets +onlyGivenNames y5
    clear_value y5
    extract_lets +onlyGivenNames y6
    refine Only.have y6 ?_ fun hy6 => ?_
    · subst y6
      refine (only_setQueue ..).over (Covers.some 4 0 rfl rfl) ?_
      exact hy0
    clear_value y6
    extract_lets +onlyGivenNames y7
    refine Only.have y7 ?_ fun hy7 => ?_
    · subst y7
      refine Only.ite ?_ ?_
      · refine (only_highDepth ..).over (Covers.some 0 16384 rfl rfl) ?_
        exact hy6
      · exact hy6
    clear_value y7
    refine (only_showBacklog ..).over (Covers.some 0 65536 rfl rfl) ?_
    refine Only.ite ?_ ?_
    · refine (only_settle ..).over (Covers.some 255 180223 rfl rfl) ?_
      exact hy7
    · exact hy7

theorem only_submit (s : State) (src) (target) (data) (tag) (launch) (ring) :
    Only [.irqOwed, .heads, .queues, .hqs, .cues, .evt, .fc, .sl] (some [.CU_EVT_OVR, .FC_CLEAR_REJ, .FC_CNT, .FC_FIRST_ID,
      .FC_FIRST_ORG, .FC_FIRST_TAI_NS, .FC_FIRST_TAI_SH, .FC_FIRST_TAI_SL, .FC_LAT, .FC_OVF, .FC_SUPPRESSED, .HQ_DROP,
      .NP_TX_DOWN_DROP, .NP_TX_OVERSIZE, .NQ_OBS_DEPTH, .NQ_OVERSIZE, .NQ_STAT, .xx_STATUS]) s (State.submit s src target data
      tag launch ring).1 := by
  unfold State.submit
  split
  · refine Only.fst ?_
    refine (only_enqueue ..).over (Covers.some 255 262143 rfl rfl) ?_
    exact Only.refl _
  · refine Only.fst ?_
    exact Only.refl _

theorem only_adSendDone (s : State) (c) (b) (bs) :
    Only [.out, .irqOwed, .heads, .queues, .ads, .hqs, .cues, .evt, .fc, .sl] (some [.AD_BURSTS, .AD_HW_IDX, .AD_LOST,
      .AD_ORPHAN, .AD_STAT, .CU_EVT_OVR, .FC_CLEAR_REJ, .FC_CNT, .FC_FIRST_ID, .FC_FIRST_ORG, .FC_FIRST_TAI_NS,
      .FC_FIRST_TAI_SH, .FC_FIRST_TAI_SL, .FC_LAT, .FC_OVF, .FC_SUPPRESSED, .HQ_DROP, .NP_TX_DOWN_DROP, .NP_TX_OVERSIZE,
      .NQ_OBS_DEPTH, .NQ_OVERSIZE, .NQ_STAT, .xx_STATUS]) s (State.adSendDone s c b bs) := by
  unfold State.adSendDone
  extract_lets +onlyGivenNames y0
  clear_value y0
  extract_lets +onlyGivenNames y1
  clear_value y1
  refine Only.ite ?_ ?_
  · refine Only.set .AD_STAT 4 rfl rfl ?_
    refine (only_updAd ..).over (Covers.some 16 0 rfl rfl) ?_
    exact Only.refl _
  · refine Only.ite ?_ ?_
    · refine (only_latch ..).over (Covers.some 2 4194304 rfl rfl) ?_
      refine Only.count .AD_ORPHAN 3 rfl rfl ?_
      refine (only_adFinish ..).over (Covers.some 16 19 rfl rfl) ?_
      exact Only.refl _
    · refine Only.ite ?_ ?_
      · refine (only_insertSlot ..).over (Covers.some 7 4194308 rfl rfl) ?_
        refine (only_adFinish ..).over (Covers.some 16 19 rfl rfl) ?_
        exact Only.refl _
      · refine (only_submit ..).over (Covers.some 1006 8388576 rfl rfl) ?_
        refine (only_adFinish ..).over (Covers.some 16 19 rfl rfl) ?_
        exact Only.refl _

theorem only_addShare (s : State) (h) : Only [.gl] (some []) s (State.addShare s h) := by
  unfold State.addShare
  refine (only_updGl ..).over (Covers.some 1 0 rfl rfl) ?_
  exact Only.refl _

theorem only_addStamp (s : State) (p) (q) (tag) (start) : Only [.free, .tb] (some []) s (State.addStamp s p q tag start) := by
  unfold State.addStamp
  extract_lets +onlyGivenNames y0
  refine Only.have y0.2 ?_ fun hy0 => ?_
  · subst y0
    refine (only_fresh ..).over (Covers.some 1 0 rfl rfl) ?_
    exact Only.refl _
  clear_value y0
  extract_lets +onlyGivenNames y1
  refine Only.have y1 ?_ fun hy1 => ?_
  · subst y1
    exact hy0
  clear_value y1
  extract_lets +onlyGivenNames y2
  clear_value y2
  refine Only.ite ?_ ?_
  · refine Only.tb 1 rfl ?_
    exact hy1
  · refine Only.tb 1 rfl ?_
    exact hy1

theorem only_runTicks (s : State) (k) : Only [.tick, .tb, .heads, .cues] (some []) s (s.runTicks k) := by
  unfold State.runTicks
  split
  · exact Only.refl _
  · refine Only.tb (x := { s with tick := s.tick + k, cues := _, heads := _ }) 1 (by rfl) ?_
    refine Only.heads (x := { s with tick := s.tick + k, cues := _ }) 2 (by rfl) ?_
    refine Only.cues (x := { s with tick := s.tick + k }) 3 (by rfl) ?_
    exact Only.tick 0 rfl (Only.refl _)

theorem only_second (s : State) : Only [.heads, .cues, .evt] (some [.CU_EVT_OVR]) s (State.second s) := by
  unfold State.second
  refine (only_event ..).over (Covers.some 6 1 rfl rfl) ?_
  refine Only.heads 0 rfl ?_
  exact Only.refl _

theorem only_countTicks (f n) (s : State) :
    Only [.tick, .tb, .heads, .cues, .evt] (some [.CU_EVT_OVR]) s (State.countTicks f n s) := by
  induction f generalizing n s with
  | zero => exact (only_runTicks ..).over (Covers.some 15 0 rfl rfl) (Only.refl _)
  | succ f ih =>
    unfold State.countTicks
    extract_lets +onlyGivenNames k
    clear_value k
    split
    · exact (only_runTicks ..).over (Covers.some 15 0 rfl rfl) (Only.refl _)
    · exact (ih _ _).over (Covers.some 31 1 rfl rfl) ((only_second ..).over (Covers.some 28 1 rfl rfl) ((only_runTicks ..).over (Covers.some 15 0 rfl rfl) (Only.refl _)))

theorem only_advance (s : State) (n) : Only [.tick, .tb, .heads, .cues, .evt] (some [.CU_EVT_OVR]) s (State.advance s n) := by
  unfold State.advance
  refine Only.ite ?_ ?_
  · refine (only_countTicks ..).over (Covers.some 31 1 rfl rfl) ?_
    exact Only.refl _
  · refine Only.tick 0 rfl ?_
    exact Only.refl _

theorem only_streamOne (s : State) (q) :
    Only [.out, .irqOwed, .mem, .bad, .heads, .pls, .cues, .evt, .fc, .sl] (some [.CE_PL_S_STAT, .CE_PL_WR_DENY, .CU_EVT_OVR,
      .FC_CLEAR_REJ, .FC_CNT, .FC_FIRST_ID, .FC_FIRST_ORG, .FC_FIRST_TAI_NS, .FC_FIRST_TAI_SH, .FC_FIRST_TAI_SL, .FC_LAT,
      .FC_OVF, .FC_SUPPRESSED, .SL_STREAM_LOST, .SL_STREAM_WR, .xx_STATUS]) s (State.streamOne s q) := by
  unfold State.streamOne
  extract_lets +onlyGivenNames y0
  clear_value y0
  extract_lets +onlyGivenNames y1
  refine Only.have y1 ?_ fun hy1 => ?_
  · subst y1
    refine Only.sl 9 rfl ?_
    exact Only.refl _
  extract_lets +onlyGivenNames y2
  subst y2
  extract_lets +onlyGivenNames y3
  subst y3
  refine Only.ite ?_ ?_
  · refine (only_latch ..).over (Covers.some 2 32768 rfl rfl) ?_
    refine Only.count .SL_STREAM_LOST 13 rfl rfl ?_
    exact hy1
  · extract_lets +onlyGivenNames y4
    clear_value y4
    extract_lets +onlyGivenNames y5
    clear_value y5
    extract_lets +onlyGivenNames y6
    clear_value y6
    extract_lets +onlyGivenNames y7
    refine Only.have y7 ?_ fun hy7 => ?_
    · subst y7
      refine Only.set .SL_STREAM_WR 14 rfl rfl ?_
      exact hy1
    clear_value y7
    refine Only.ite ?_ ?_
    · refine (only_emit ..).over (Covers.some 1 0 rfl rfl) ?_
      exact hy7
    · refine (only_memWrite ..).over (Covers.some 1022 40959 rfl rfl) ?_
      exact hy7

theorem only_streamAll (s : State) :
    Only [.out, .irqOwed, .mem, .bad, .heads, .pls, .cues, .evt, .fc, .sl] (some [.CE_PL_S_STAT, .CE_PL_WR_DENY, .CU_EVT_OVR,
      .FC_CLEAR_REJ, .FC_CNT, .FC_FIRST_ID, .FC_FIRST_ORG, .FC_FIRST_TAI_NS, .FC_FIRST_TAI_SH, .FC_FIRST_TAI_SL, .FC_LAT,
      .FC_OVF, .FC_SUPPRESSED, .SL_STREAM_LOST, .SL_STREAM_WR, .xx_STATUS]) s (State.streamAll s) := by
  unfold State.streamAll
  refine Only.ite ?_ ?_
  · exact Only.refl _
  · refine Only.ite ?_ ?_
    · refine Only.foldl ?_ fun y0 _ hy0 => ?_
      · exact Only.refl _
      · refine (only_streamOne ..).over (Covers.some 1023 65535 rfl rfl) ?_
        exact hy0
    · refine Only.sl 9 rfl ?_
      exact Only.refl _

theorem only_loseEntry (s : State) :
    Only [.irqOwed, .heads, .cues, .evt, .fc, .sl] (some [.CU_EVT_OVR, .FC_CLEAR_REJ, .FC_CNT, .FC_FIRST_ID, .FC_FIRST_ORG,
      .FC_FIRST_TAI_NS, .FC_FIRST_TAI_SH, .FC_FIRST_TAI_SL, .FC_LAT, .FC_OVF, .FC_SUPPRESSED, .SL_LOST, .xx_STATUS]) s
      (State.loseEntry s) := by
  unfold State.loseEntry
  extract_lets +onlyGivenNames y0
  subst y0
  extract_lets +onlyGivenNames y1
  refine Only.have y1 ?_ fun hy1 => ?_
  · subst y1
    refine (only_latch ..).over (Covers.some 1 4096 rfl rfl) ?_
    refine Only.count .SL_LOST 11 rfl rfl ?_
    exact Only.refl _
  clear_value y1
  refine Only.ite ?_ ?_
  · refine (only_raise ..).over (Covers.some 63 6143 rfl rfl) ?_
    exact hy1
  · exact hy1

theorem only_enterRing (s : State) (q) (e) :
    Only [.irqOwed, .heads, .cues, .evt, .fc, .sl] (some [.CU_EVT_OVR, .FC_CLEAR_REJ, .FC_CNT, .FC_FIRST_ID, .FC_FIRST_ORG,
      .FC_FIRST_TAI_NS, .FC_FIRST_TAI_SH, .FC_FIRST_TAI_SL, .FC_LAT, .FC_OVF, .FC_SUPPRESSED, .SL_LOST, .xx_STATUS]) s
      (State.enterRing s q e) := by
  unfold State.enterRing
  extract_lets +onlyGivenNames y0
  clear_value y0
  refine Only.ite ?_ ?_
  · extract_lets +onlyGivenNames y1
    clear_value y1
    extract_lets +onlyGivenNames y2
    clear_value y2
    extract_lets +onlyGivenNames y3
    refine Only.have y3 ?_ fun hy3 => ?_
    · subst y3
      refine Only.sl 5 rfl ?_
      exact Only.refl _
    clear_value y3
    refine Only.ite ?_ ?_
    · extract_lets +onlyGivenNames y4
      clear_value y4
      extract_lets +onlyGivenNames y5
      refine Only.have y5 ?_ fun hy5 => ?_
      · subst y5
        refine Only.sl 5 rfl ?_
        exact hy3
      clear_value y5
      refine Only.ite ?_ ?_
      · extract_lets +onlyGivenNames y6
        clear_value y6
        extract_lets +onlyGivenNames y7
        refine Only.have y7 ?_ fun hy7 => ?_
        · subst y7
          refine Only.sl 5 rfl ?_
          exact hy5
        clear_value y7
        refine (only_loseEntry ..).over (Covers.some 63 8191 rfl rfl) ?_
        exact hy7
      · exact hy5
    · exact hy3
  · refine Only.sl 5 rfl ?_
    exact Only.refl _

theorem only_issue (s : State) (e) :
    Only [.irqOwed, .dv, .heads, .cues, .evt, .fc, .sl, .cl] (some [.CL_STAT, .CU_EVT_OVR, .FC_CLEAR_REJ, .FC_CNT, .FC_FIRST_ID,
      .FC_FIRST_ORG, .FC_FIRST_TAI_NS, .FC_FIRST_TAI_SH, .FC_FIRST_TAI_SL, .FC_LAT, .FC_OVF, .FC_SUPPRESSED, .SL_LOST,
      .xx_STATUS]) s (State.issue s e) := by
  unfold State.issue
  extract_lets +onlyGivenNames y0
  clear_value y0
  refine Only.ite ?_ ?_
  · refine (only_loseEntry ..).over (Covers.some 125 16382 rfl rfl) ?_
    exact Only.refl _
  · extract_lets +onlyGivenNames y1
    clear_value y1
    extract_lets +onlyGivenNames y2
    refine Only.have y2 ?_ fun hy2 => ?_
    · subst y2
      refine Only.sl 6 rfl ?_
      exact Only.refl _
    clear_value y2
    extract_lets +onlyGivenNames y3
    refine Only.have y3 ?_ fun hy3 => ?_
    · subst y3
      refine (only_enterRing ..).over (Covers.some 125 16382 rfl rfl) ?_
      exact hy2
    clear_value y3
    refine Only.ite ?_ ?_
    · refine (only_request ..).over (Covers.some 130 1 rfl rfl) ?_
      exact hy3
    · exact hy3

theorem only_releaseBoot (s : State) :
    Only [.out, .irqOwed, .mem, .bad, .dv, .heads, .pls, .cues, .evt, .fc, .sl, .cl] (some [.CE_PL_S_STAT, .CE_PL_WR_DENY,
      .CL_STAT, .CU_EVT_OVR, .FC_CLEAR_REJ, .FC_CNT, .FC_FIRST_ID, .FC_FIRST_ORG, .FC_FIRST_TAI_NS, .FC_FIRST_TAI_SH,
      .FC_FIRST_TAI_SL, .FC_LAT, .FC_OVF, .FC_SUPPRESSED, .SL_LOST, .SL_STREAM_LOST, .SL_STREAM_WR, .xx_STATUS]) s
      (State.releaseBoot s) := by
  unfold State.releaseBoot
  refine Only.ite ?_ ?_
  · exact Only.refl _
  · extract_lets +onlyGivenNames y0
    clear_value y0
    extract_lets +onlyGivenNames y1
    clear_value y1
    extract_lets +onlyGivenNames y2
    clear_value y2
    extract_lets +onlyGivenNames y3
    clear_value y3
    extract_lets +onlyGivenNames y4
    clear_value y4
    extract_lets +onlyGivenNames y5
    refine Only.have y5 ?_ fun hy5 => ?_
    · subst y5
      refine Only.sl 10 rfl ?_
      exact Only.refl _
    clear_value y5
    extract_lets +onlyGivenNames y6
    clear_value y6
    refine (only_streamAll ..).over (Covers.some 2031 245755 rfl rfl) ?_
    refine Only.foldl ?_ fun y7 _ hy7 => ?_
    · exact hy5
    · refine (only_issue ..).over (Covers.some 4018 163836 rfl rfl) ?_
      exact hy7

theorem only_bootPatience (s : State) :
    Only [.out, .irqOwed, .mem, .bad, .dv, .heads, .pls, .cues, .evt, .fc, .sl, .cl] (some [.CE_PL_S_STAT, .CE_PL_WR_DENY,
      .CL_STAT, .CU_EVT_OVR, .FC_CLEAR_REJ, .FC_CNT, .FC_FIRST_ID, .FC_FIRST_ORG, .FC_FIRST_TAI_NS, .FC_FIRST_TAI_SH,
      .FC_FIRST_TAI_SL, .FC_LAT, .FC_OVF, .FC_SUPPRESSED, .SL_LOST, .SL_STREAM_LOST, .SL_STREAM_WR, .xx_STATUS]) s
      (State.bootPatience s) := by
  unfold State.bootPatience
  refine Only.ite ?_ ?_
  · refine (only_releaseBoot ..).over (Covers.some 4095 262143 rfl rfl) ?_
    exact Only.refl _
  · exact Only.refl _

theorem only_beginSeal (s : State) : Only [.dv, .cl] (some [.CL_STAT]) s (State.beginSeal s) := by
  unfold State.beginSeal
  refine (only_requestControl ..).over (Covers.some 3 1 rfl rfl) ?_
  refine (only_updDv ..).over (Covers.some 1 0 rfl rfl) ?_
  exact Only.refl _

theorem only_sealWatch (s : State) : Only [.dv, .cl] (some [.CL_STAT]) s (State.sealWatch s) := by
  unfold State.sealWatch
  refine Only.ite ?_ ?_
  · exact Only.refl _
  · refine Only.ite ?_ ?_
    · refine (only_beginSeal ..).over (Covers.some 3 1 rfl rfl) ?_
      exact Only.refl _
    · exact Only.refl _

theorem only_keyWrite (s : State) (o) (k) (v) : Only allAreas none s (State.keyWrite s o k v) := by
  unfold State.keyWrite
  refine (only_busWrite ..).over (Covers.any 1125899906842623 rfl) ?_
  exact Only.refl _

theorem only_reactOn (s : State) (id) (r) (u) : Only allAreas none s (State.reactOn s id r u) := by
  unfold State.reactOn
  split
  · exact Only.refl _
  · refine (only_serviceReset ..).over (Covers.any 423329156809852 rfl) ?_
    exact Only.refl _
  · refine (only_updHead ..).over (Covers.any 131072 rfl) ?_
    exact Only.refl _
  · exact Only.refl _
  · refine Only.fc 47 rfl ?_
    exact Only.refl _
  · refine Only.fc 47 rfl ?_
    exact Only.refl _
  · refine Only.fc 47 rfl ?_
    exact Only.refl _
  · refine (only_keyWrite ..).over (Covers.any 1125899906842623 rfl) ?_
    exact Only.refl _

theorem only_openWindow (s : State) (r) (u) : Only [.irqOwed, .fc] (some [.xx_STATUS]) s (State.openWindow s r u) := by
  unfold State.openWindow
  extract_lets +onlyGivenNames y0
  refine Only.have y0 ?_ fun hy0 => ?_
  · subst y0
    refine (only_latch ..).over (Covers.some 1 1 rfl rfl) ?_
    exact Only.refl _
  clear_value y0
  refine Only.fc 1 rfl ?_
  exact hy0

theorem only_react (s : State) (e) : Only allAreas none s (State.react s e) := by
  unfold State.react
  extract_lets +onlyGivenNames y0
  clear_value y0
  refine Only.ite ?_ ?_
  · refine Only.ite ?_ ?_
    · exact Only.refl _
    · refine (only_reactOn ..).over (Covers.any 1125899906842623 rfl) ?_
      refine (only_latch ..).over (Covers.any 8 rfl) ?_
      refine (only_openWindow ..).over (Covers.any 140737488355336 rfl) ?_
      exact Only.refl _
  · refine (only_reactOn ..).over (Covers.any 1125899906842623 rfl) ?_
    refine (only_latch ..).over (Covers.any 8 rfl) ?_
    exact Only.refl _

theorem only_reactAll (s : State) : Only allAreas none s (State.reactAll s) := by
  unfold State.reactAll
  refine Only.foldl ?_ fun y0 _ hy0 => ?_
  · refine Only.fc 47 rfl ?_
    exact Only.refl _
  · refine (only_react ..).over (Covers.any 1125899906842623 rfl) ?_
    exact hy0

theorem only_glWake (s : State) : Only [.irqOwed, .gl] (some [.GL_STATE, .xx_STATUS]) s (State.glWake s) := by
  unfold State.glWake
  refine Only.ite ?_ ?_
  · refine (only_glOn ..).over (Covers.some 3 3 rfl rfl) ?_
    exact Only.refl _
  · exact Only.refl _

theorem only_glShow (s : State) (cid) (outcome) (reason) (member) :
    Only [] (some [.GL_CSTAT]) s (State.glShow s cid outcome reason member) := by
  unfold State.glShow
  refine Only.ite ?_ ?_
  · refine Only.wr .GL_CSTAT 0 rfl rfl ?_
    exact Only.refl _
  · exact Only.refl _

theorem only_glSend (s : State) (type) (addr) (body) : Only [.out, .gl] (some []) s (State.glSend s type addr body) := by
  unfold State.glSend
  extract_lets +onlyGivenNames y0
  clear_value y0
  extract_lets +onlyGivenNames y1
  refine Only.have y1 ?_ fun hy1 => ?_
  · subst y1
    refine (only_updGl ..).over (Covers.some 2 0 rfl rfl) ?_
    exact Only.refl _
  clear_value y1
  extract_lets +onlyGivenNames y2
  clear_value y2
  extract_lets +onlyGivenNames y3
  clear_value y3
  refine Only.foldl ?_ fun y4 _ hy4 => ?_
  · exact hy1
  · extract_lets +onlyGivenNames y5
    clear_value y5
    refine (only_emit ..).over (Covers.some 1 0 rfl rfl) ?_
    exact hy4

theorem only_glToLeader (s : State) (type) (body) : Only [.out, .gl] (some []) s (State.glToLeader s type body) := by
  unfold State.glToLeader
  refine (only_glSend ..).over (Covers.some 3 0 rfl rfl) ?_
  exact Only.refl _

theorem only_glOutcome (s : State) (cid) (outcome) (reason) (member) :
    Only [.out, .irqOwed, .heads, .cues, .evt, .gl, .fc, .sl] (some [.CU_EVT_OVR, .FC_CLEAR_REJ, .FC_CNT, .FC_FIRST_ID,
      .FC_FIRST_ORG, .FC_FIRST_TAI_NS, .FC_FIRST_TAI_SH, .FC_FIRST_TAI_SL, .FC_LAT, .FC_OVF, .FC_SUPPRESSED, .GL_ABORTED,
      .GL_APPLIED, .GL_CSTAT, .GL_MISSED, .xx_STATUS]) s (State.glOutcome s cid outcome reason member) := by
  unfold State.glOutcome
  extract_lets +onlyGivenNames y0
  refine Only.have y0 ?_ fun hy0 => ?_
  · subst y0
    refine (only_glShow ..).over (Covers.some 0 8192 rfl rfl) ?_
    exact Only.refl _
  clear_value y0
  extract_lets +onlyGivenNames y1
  refine Only.have y1 ?_ fun hy1 => ?_
  · subst y1
    refine Only.ite ?_ ?_
    · refine (only_latch ..).over (Covers.some 2 32768 rfl rfl) ?_
      refine Only.count .GL_APPLIED 12 rfl rfl ?_
      exact hy0
    · refine (only_latch ..).over (Covers.some 2 32768 rfl rfl) ?_
      exact hy0
  clear_value y1
  extract_lets +onlyGivenNames y2
  refine Only.have y2 ?_ fun hy2 => ?_
  · subst y2
    refine Only.ite ?_ ?_
    · refine (only_raise ..).over (Covers.some 222 34815 rfl rfl) ?_
      refine Only.count .GL_ABORTED 11 rfl rfl ?_
      exact hy1
    · exact hy1
  clear_value y2
  extract_lets +onlyGivenNames y3
  refine Only.have y3 ?_ fun hy3 => ?_
  · subst y3
    refine Only.ite ?_ ?_
    · refine (only_raise ..).over (Covers.some 222 34815 rfl rfl) ?_
      refine Only.count .GL_MISSED 14 rfl rfl ?_
      exact hy2
    · exact hy2
  clear_value y3
  refine Only.ite ?_ ?_
  · refine (only_glToLeader ..).over (Covers.some 33 0 rfl rfl) ?_
    exact hy3
  · exact hy3

theorem only_glWatch1 (s : State) (h) :
    Only [.out, .irqOwed, .heads, .cues, .evt, .gl, .fc, .sl] (some [.CU_EVT_OVR, .FC_CLEAR_REJ, .FC_CNT, .FC_FIRST_ID,
      .FC_FIRST_ORG, .FC_FIRST_TAI_NS, .FC_FIRST_TAI_SH, .FC_FIRST_TAI_SL, .FC_LAT, .FC_OVF, .FC_SUPPRESSED, .GL_ABORTED,
      .GL_APPLIED, .GL_CSTAT, .GL_MISSED, .xx_STATUS]) s (State.glWatch1 s h) := by
  unfold State.glWatch1
  split
  · refine Only.ite ?_ ?_
    · exact Only.refl _
    · refine Only.ite ?_ ?_
      · refine (only_glOutcome ..).over (Covers.some 255 65535 rfl rfl) ?_
        refine (only_updGl ..).over (Covers.some 32 0 rfl rfl) ?_
        exact Only.refl _
      · refine Only.ite ?_ ?_
        · exact Only.refl _
        · refine (only_glOutcome ..).over (Covers.some 255 65535 rfl rfl) ?_
          refine (only_updGl ..).over (Covers.some 32 0 rfl rfl) ?_
          exact Only.refl _
  · exact Only.refl _

theorem only_glWatch (s : State) :
    Only [.out, .irqOwed, .heads, .cues, .evt, .gl, .fc, .sl] (some [.CU_EVT_OVR, .FC_CLEAR_REJ, .FC_CNT, .FC_FIRST_ID,
      .FC_FIRST_ORG, .FC_FIRST_TAI_NS, .FC_FIRST_TAI_SH, .FC_FIRST_TAI_SL, .FC_LAT, .FC_OVF, .FC_SUPPRESSED, .GL_ABORTED,
      .GL_APPLIED, .GL_CSTAT, .GL_MISSED, .xx_STATUS]) s (State.glWatch s) := by
  unfold State.glWatch
  refine Only.foldl ?_ fun y0 _ hy0 => ?_
  · exact Only.refl _
  · refine (only_glWatch1 ..).over (Covers.some 255 65535 rfl rfl) ?_
    exact hy0

theorem only_afterTick (s : State) : Only allAreas none s (State.afterTick s) := by
  unfold State.afterTick
  extract_lets +onlyGivenNames y0
  refine Only.have y0 ?_ fun hy0 => ?_
  · subst y0
    refine (only_bootPatience ..).over (Covers.any 986283405105164 rfl) ?_
    refine (only_sealWatch ..).over (Covers.any 562949953437696 rfl) ?_
    refine (only_settleMode ..).over (Covers.any 335374736834570 rfl) ?_
    refine (only_reactAll ..).over (Covers.any 1125899906842623 rfl) ?_
    exact Only.refl _
  clear_value y0
  refine (only_updDv ..).over (Covers.any 16384 rfl) ?_
  refine (only_glWake ..).over (Covers.any 70368744177672 rfl) ?_
  refine (only_glWatch ..).over (Covers.any 493697900871692 rfl) ?_
  exact hy0

theorem only_cueInstr {A : List Area} {R : Option (List Reg)} {s x : State} {n op form level seq legal f} (hc : Covers A R [.irqOwed, .heads, .cues, .evt, .fc, .sl] (some [.CU_ECAUSE, .CU_EDATA, .CU_EPC, .CU_EVT_OVR, .CU_PC, .CU_STAT, .CU_TRAP_CNT, .FC_CLEAR_REJ, .FC_CNT, .FC_FIRST_ID, .FC_FIRST_ORG, .FC_FIRST_TAI_NS, .FC_FIRST_TAI_SH, .FC_FIRST_TAI_SL, .FC_LAT, .FC_OVF, .FC_SUPPRESSED, .xx_STATUS]))
    (h : Only A R s x) (hf : ∀ y, Only A R s y → ∀ w, Only A R s (f w y)) : Only A R s (x.cueInstr n op form level seq legal f) := by
  have hr : ∀ y, Only A R s y → ∀ n cls org, Only A R s ((y.haltWith n 5).raise cls n org) := fun y hy n cls org =>
    (show Only [.irqOwed, .heads, .cues, .evt, .fc, .sl] (some [.CU_ECAUSE, .CU_EDATA, .CU_EPC, .CU_EVT_OVR, .CU_PC, .CU_STAT, .CU_TRAP_CNT, .FC_CLEAR_REJ, .FC_CNT, .FC_FIRST_ID, .FC_FIRST_ORG, .FC_FIRST_TAI_NS, .FC_FIRST_TAI_SH, .FC_FIRST_TAI_SL, .FC_LAT, .FC_OVF, .FC_SUPPRESSED, .xx_STATUS]) y ((y.haltWith n 5).raise cls n org) from
      (only_raise ..).over (Covers.some 63 262024 rfl rfl) ((only_haltWith ..).over (Covers.some 5 131104 rfl rfl) (Only.refl _))).over hc hy
  have ht : ∀ y, Only A R s y → ∀ n c v, Only A R s (y.trapNow n c v) := fun y hy n c v =>
    (show Only [.irqOwed, .heads, .cues, .evt, .fc, .sl] (some [.CU_ECAUSE, .CU_EDATA, .CU_EPC, .CU_EVT_OVR, .CU_PC, .CU_STAT, .CU_TRAP_CNT, .FC_CLEAR_REJ, .FC_CNT, .FC_FIRST_ID, .FC_FIRST_ORG, .FC_FIRST_TAI_NS, .FC_FIRST_TAI_SH, .FC_FIRST_TAI_SL, .FC_LAT, .FC_OVF, .FC_SUPPRESSED, .xx_STATUS]) y (y.trapNow n c v) from (only_trapNow ..).over (Covers.some 63 262143 rfl rfl) (Only.refl _)).over hc hy
  unfold State.cueInstr
  split
  · exact h
  · extract_lets +onlyGivenNames pc
    clear_value pc
    split
    · exact hr _ h ..
    · extract_lets +onlyGivenNames w
      clear_value w
      split
      · exact h
      · split
        · exact ht _ h ..
        · split
          · exact ht _ h ..
          · exact hf _ h _

theorem only_retire (s : State) (n) (cost) (next) :
    Only [.irqOwed, .heads, .cues, .evt, .fc, .sl] (some [.CU_ECAUSE, .CU_EDATA, .CU_EPC, .CU_EVT_OVR, .CU_PC, .CU_RETIRED,
      .CU_STAT, .CU_TRAP_CNT, .FC_CLEAR_REJ, .FC_CNT, .FC_FIRST_ID, .FC_FIRST_ORG, .FC_FIRST_TAI_NS, .FC_FIRST_TAI_SH,
      .FC_FIRST_TAI_SL, .FC_LAT, .FC_OVF, .FC_SUPPRESSED, .xx_STATUS]) s (State.retire s n cost next) := by
  unfold State.retire
  extract_lets +onlyGivenNames y0
  clear_value y0
  extract_lets +onlyGivenNames y1
  refine Only.have y1 ?_ fun hy1 => ?_
  · subst y1
    refine (only_spend ..).over (Covers.some 4 0 rfl rfl) ?_
    refine (only_setPc ..).over (Covers.some 0 16 rfl rfl) ?_
    exact Only.refl _
  clear_value y1
  extract_lets +onlyGivenNames y2
  refine Only.have y2 ?_ fun hy2 => ?_
  · subst y2
    refine Only.wr .CU_RETIRED 5 rfl rfl ?_
    exact hy1
  clear_value y2
  refine (only_boundary ..).over (Covers.some 63 524255 rfl rfl) ?_
  exact hy2

theorem only_finishOp (s : State) (n) (rd) (v) (cost) :
    Only [.irqOwed, .heads, .cues, .cregs, .evt, .fc, .sl] (some [.CU_ECAUSE, .CU_EDATA, .CU_EPC, .CU_EVT_OVR, .CU_PC,
      .CU_RETIRED, .CU_STAT, .CU_TRAP_CNT, .FC_CLEAR_REJ, .FC_CNT, .FC_FIRST_ID, .FC_FIRST_ORG, .FC_FIRST_TAI_NS,
      .FC_FIRST_TAI_SH, .FC_FIRST_TAI_SL, .FC_LAT, .FC_OVF, .FC_SUPPRESSED, .xx_STATUS]) s (State.finishOp s n rd v cost) := by
  unfold State.finishOp
  refine (only_retire ..).over (Covers.some 119 524287 rfl rfl) ?_
  refine (only_setCreg ..).over (Covers.some 8 0 rfl rfl) ?_
  exact Only.refl _

theorem only_aluOp {A : List Area} {R : Option (List Reg)} {s x : State} {n op form level legal f} (hc : Covers A R [.irqOwed, .heads, .cues, .cregs, .evt, .fc, .sl] (some [.CU_ECAUSE, .CU_EDATA, .CU_EPC, .CU_EVT_OVR, .CU_FLAGS, .CU_PC, .CU_RETIRED, .CU_STAT, .CU_TRAP_CNT, .FC_CLEAR_REJ, .FC_CNT, .FC_FIRST_ID, .FC_FIRST_ORG, .FC_FIRST_TAI_NS, .FC_FIRST_TAI_SH, .FC_FIRST_TAI_SL, .FC_LAT, .FC_OVF, .FC_SUPPRESSED, .xx_STATUS]))
    (h : Only A R s x) : Only A R s (x.aluOp n op form level legal f) := by
  unfold State.aluOp
  refine only_cueInstr (hc.trans (Covers.some 119 1048495 rfl rfl)) h fun y hy w => ?_
  exact (show Only [.irqOwed, .heads, .cues, .cregs, .evt, .fc, .sl] (some [.CU_ECAUSE, .CU_EDATA, .CU_EPC, .CU_EVT_OVR, .CU_FLAGS, .CU_PC, .CU_RETIRED, .CU_STAT, .CU_TRAP_CNT, .FC_CLEAR_REJ, .FC_CNT, .FC_FIRST_ID, .FC_FIRST_ORG, .FC_FIRST_TAI_NS, .FC_FIRST_TAI_SH, .FC_FIRST_TAI_SL, .FC_LAT, .FC_OVF, .FC_SUPPRESSED, .xx_STATUS]) y ((y.setFlags n (f w y).2).finishOp n (iRd w) (f w y).1 1) from
      (only_finishOp ..).over (Covers.some 127 1048559 rfl rfl) ((only_setFlags ..).over (Covers.some 0 16 rfl rfl) (Only.refl _))).over hc hy

theorem only_applyPending (s : State) (n) (f) :
    Only [.heads, .layers, .cues, .sl] (some [.CE_ADM_CULL, .CE_ADM_PEAK_B, .CE_ADM_PEAK_LP, .CE_ADM_PEAK_RES, .CE_CDET,
      .CE_CSTAT, .CE_L_FENCE_STAT, .CE_L_SHOWN_HI, .CE_L_SHOWN_LO, .CE_VINT_APP]) s (State.applyPending s n f).1 := by
  unfold State.applyPending
  extract_lets +onlyGivenNames y0
  clear_value y0
  split
  · refine Only.fst ?_
    exact Only.refl _
  · extract_lets +onlyGivenNames y1
    refine Only.have y1 ?_ fun hy1 => ?_
    · subst y1
      refine (only_updHead ..).over (Covers.some 1 0 rfl rfl) ?_
      exact Only.refl _
    clear_value y1
    extract_lets +onlyGivenNames y2
    refine Only.have y2 ?_ fun hy2 => ?_
    · subst y2
      refine Only.foldl ?_ fun y3 _ hy3 => ?_
      · exact hy1
      · refine (only_showState ..).over (Covers.some 4 48 rfl rfl) ?_
        exact hy3
    clear_value y2
    refine Only.fst ?_
    refine (only_applySet ..).over (Covers.some 15 1023 rfl rfl) ?_
    exact hy2

theorem only_logPl (s : State) (n) (c) (st) (reason) : Only [.sl] (some []) s (State.logPl s n c st reason) := by
  unfold State.logPl
  refine (only_log ..).over (Covers.some 1 0 rfl rfl) ?_
  exact Only.refl _

theorem only_applyPl (s : State) (n) (c) : Only [.pls, .sl] (some [.CE_PL_CSTAT]) s (State.applyPl s n c) := by
  unfold State.applyPl
  extract_lets +onlyGivenNames y0
  refine Only.have y0 ?_ fun hy0 => ?_
  · subst y0
    refine (only_updPl ..).over (Covers.some 1 0 rfl rfl) ?_
    exact Only.refl _
  clear_value y0
  extract_lets +onlyGivenNames y1
  refine Only.have y1 ?_ fun hy1 => ?_
  · subst y1
    refine Only.ite ?_ ?_
    · exact hy0
    · refine (only_setPlMode ..).over (Covers.some 0 1 rfl rfl) ?_
      refine (only_updPl ..).over (Covers.some 1 0 rfl rfl) ?_
      exact hy0
  clear_value y1
  refine (only_logPl ..).over (Covers.some 2 0 rfl rfl) ?_
  refine Only.ite ?_ ?_
  · refine (only_setPlState ..).over (Covers.some 0 1 rfl rfl) ?_
    exact hy1
  · exact hy1

theorem only_askFamily (s : State) (g) : Only [.free] (some []) s (State.askFamily s g).2 := by
  unfold State.askFamily
  split
  · refine Only.ite2 ?_ ?_
    · refine (only_fresh ..).over (Covers.some 1 0 rfl rfl) ?_
      exact Only.refl _
    · refine Only.snd ?_
      exact Only.refl _
  · refine (only_fresh ..).over (Covers.some 1 0 rfl rfl) ?_
    exact Only.refl _

theorem only_askRow (s : State) (n) (u) (d) (b) (cols) (r) :
    Only [.out, .layers] (some []) s (State.askRow s n u d b cols r) := by
  unfold State.askRow
  extract_lets +onlyGivenNames y0
  clear_value y0
  extract_lets +onlyGivenNames y1
  clear_value y1
  refine Only.ite ?_ ?_
  · exact Only.refl _
  · extract_lets +onlyGivenNames y2
    refine Only.have y2 ?_ fun hy2 => ?_
    · subst y2
      refine (only_updLayer ..).over (Covers.some 2 0 rfl rfl) ?_
      exact Only.refl _
    clear_value y2
    refine Only.foldl ?_ fun y3 _ hy3 => ?_
    · exact hy2
    · refine (only_emit ..).over (Covers.some 1 0 rfl rfl) ?_
      exact hy3

theorem only_scrOp {A : List Area} {R : Option (List Reg)} {s x : State} {n i f} (hc : Covers A R [.irqOwed, .heads, .cues,
    .evt, .fc, .sl] (some [.CU_ECAUSE, .CU_EDATA, .CU_EPC, .CU_EVT_OVR, .CU_PC, .CU_STAT, .CU_TRAP_CNT, .FC_CLEAR_REJ, .FC_CNT,
    .FC_FIRST_ID, .FC_FIRST_ORG, .FC_FIRST_TAI_NS, .FC_FIRST_TAI_SH, .FC_FIRST_TAI_SL, .FC_LAT, .FC_OVF, .FC_SUPPRESSED,
    .xx_STATUS])) (h :
    Only A R s x)
    (hf : ∀ y, Only A R s y → Only A R s (f y)) : Only A R s (x.scrOp n i f) := by
  unfold State.scrOp
  split
  · exact (show Only [.irqOwed, .heads, .cues, .evt, .fc, .sl] (some [.CU_ECAUSE, .CU_EDATA, .CU_EPC, .CU_EVT_OVR, .CU_PC, .CU_STAT, .CU_TRAP_CNT, .FC_CLEAR_REJ, .FC_CNT, .FC_FIRST_ID, .FC_FIRST_ORG, .FC_FIRST_TAI_NS, .FC_FIRST_TAI_SH, .FC_FIRST_TAI_SL, .FC_LAT, .FC_OVF, .FC_SUPPRESSED, .xx_STATUS]) x (x.trapNow n 1 i) from (only_trapNow ..).over (Covers.some 63 262143 rfl rfl) (Only.refl _)).over hc h
  · exact hf _ h

end Sys2Proof.Machine
end

