-- ==== Sys2Proof/Laws/Touch4.lean ====
section
/-! SUPPORT. What each operation touches, part 4 of 7: for every operation the parts of the state and the registers that it
may change. All else stays, and the operation follows the state before it (Only). -/

namespace Sys2Proof.Machine

theorem only_readWord {A : List Area} {R : Option (List Reg)} {s x : State} {n key i f} (hc : Covers A R [.irqOwed, .heads,
    .cues, .ecc, .evt, .fc, .sl] (some [.CUS_MEM_CORR, .CUS_MEM_UNCORR, .CU_ECAUSE, .CU_EDATA, .CU_EPC, .CU_EVT_OVR, .CU_PC,
    .CU_STAT, .CU_TRAP_CNT, .FC_CLEAR_REJ, .FC_CNT, .FC_FIRST_ID, .FC_FIRST_ORG, .FC_FIRST_TAI_NS, .FC_FIRST_TAI_SH,
    .FC_FIRST_TAI_SL, .FC_LAT, .FC_OVF, .FC_SUPPRESSED, .xx_STATUS])) (h :
    Only A R s x)
    (hf : ∀ y, Only A R s y → Only A R s (f y)) : Only A R s (x.readWord n key i f) := by
  unfold State.readWord
  split
  · refine (show Only [.irqOwed, .heads, .cues, .ecc, .evt, .fc, .sl] (some [.CUS_MEM_CORR, .CUS_MEM_UNCORR, .CU_ECAUSE, .CU_EDATA, .CU_EPC, .CU_EVT_OVR, .CU_PC, .CU_STAT, .CU_TRAP_CNT, .FC_CLEAR_REJ, .FC_CNT, .FC_FIRST_ID, .FC_FIRST_ORG, .FC_FIRST_TAI_NS, .FC_FIRST_TAI_SH, .FC_FIRST_TAI_SL, .FC_LAT, .FC_OVF, .FC_SUPPRESSED, .xx_STATUS]) x ((((x.count F.CUS_MEM_UNCORR_COUNT 1).raise 0x164 n (x.cuOrg n))).trapNow n 5 i) from ?_).over hc h
    refine (only_trapNow ..).over (Covers.some 119 1048572 rfl rfl) ((only_raise ..).over (Covers.some 119 1048096 rfl rfl) ?_)
    exact Only.count .CUS_MEM_UNCORR 1 rfl rfl (Only.refl _)
  · split
    · exact (show Only [.irqOwed, .heads, .cues, .ecc, .evt, .fc, .sl] (some [.CUS_MEM_CORR, .CUS_MEM_UNCORR, .CU_ECAUSE, .CU_EDATA, .CU_EPC, .CU_EVT_OVR, .CU_PC, .CU_STAT, .CU_TRAP_CNT, .FC_CLEAR_REJ, .FC_CNT, .FC_FIRST_ID, .FC_FIRST_ORG, .FC_FIRST_TAI_NS, .FC_FIRST_TAI_SH, .FC_FIRST_TAI_SL, .FC_LAT, .FC_OVF, .FC_SUPPRESSED, .xx_STATUS]) x (x.trapNow n 1 16384) from (only_trapNow ..).over (Covers.some 119 1048572 rfl rfl) (Only.refl _)).over hc h
    · exact hf _ ((show Only [.irqOwed, .heads, .cues, .ecc, .evt, .fc, .sl] (some [.CUS_MEM_CORR, .CUS_MEM_UNCORR, .CU_ECAUSE, .CU_EDATA, .CU_EPC, .CU_EVT_OVR, .CU_PC, .CU_STAT, .CU_TRAP_CNT, .FC_CLEAR_REJ, .FC_CNT, .FC_FIRST_ID, .FC_FIRST_ORG, .FC_FIRST_TAI_NS, .FC_FIRST_TAI_SH, .FC_FIRST_TAI_SL, .FC_LAT, .FC_OVF, .FC_SUPPRESSED, .xx_STATUS]) x (x.corrected n key) from (only_corrected ..).over (Covers.some 9 524289 rfl rfl) (Only.refl _)).over hc h)

theorem only_atomic (s : State) (n) (rd) (i) (upd) :
    Only [.free, .irqOwed, .heads, .cues, .cregs, .scratch, .ecc, .evt, .fc, .sl] (some [.CUS_MEM_CORR, .CUS_MEM_UNCORR,
      .CU_ECAUSE, .CU_EDATA, .CU_EPC, .CU_EVT_OVR, .CU_PC, .CU_RETIRED, .CU_STAT, .CU_TRAP_CNT, .FC_CLEAR_REJ, .FC_CNT,
      .FC_FIRST_ID, .FC_FIRST_ORG, .FC_FIRST_TAI_NS, .FC_FIRST_TAI_SH, .FC_FIRST_TAI_SL, .FC_LAT, .FC_OVF, .FC_SUPPRESSED,
      .xx_STATUS]) s (State.atomic s n rd i upd) := by
  unfold State.atomic
  refine only_scrOp (Covers.some 910 2097020 rfl rfl) ?_ fun y0 hy0 => ?_
  · exact Only.refl _
  · refine only_readWord (Covers.some 974 2097023 rfl rfl) ?_ fun y1 hy1 => ?_
    · exact hy0
    · extract_lets +onlyGivenNames y2
      clear_value y2
      extract_lets +onlyGivenNames y3
      refine Only.have y3 ?_ fun hy3 => ?_
      · subst y3
        split
        · refine (only_setScr ..).over (Covers.some 96 0 rfl rfl) ?_
          exact hy1
        · exact hy1
      clear_value y3
      extract_lets +onlyGivenNames y4
      refine Only.have y4.2 ?_ fun hy4 => ?_
      · subst y4
        refine (only_fresh ..).over (Covers.some 1 0 rfl rfl) ?_
        exact hy3
      clear_value y4
      refine (only_finishOp ..).over (Covers.some 926 2097148 rfl rfl) ?_
      exact hy4

theorem only_beginWait (s : State) (n) (kind) (rd) (hit) :
    Only [.cues] (some [.CU_STAT]) s (State.beginWait s n kind rd hit) := by
  unfold State.beginWait
  refine (only_updCue ..).over (Covers.some 1 0 rfl rfl) ?_
  refine Only.set .CU_STAT 0 rfl rfl ?_
  exact Only.refl _

theorem only_awaitCommit (s : State) (n) (rd) (h) : Only [.cues] (some [.CU_STAT]) s (State.awaitCommit s n rd h) := by
  unfold State.awaitCommit
  extract_lets +onlyGivenNames y0
  clear_value y0
  refine (only_beginWait ..).over (Covers.some 1 1 rfl rfl) ?_
  exact Only.refl _

theorem only_badPl (s : State) (n) :
    Only [.irqOwed, .heads, .pls, .cues, .evt, .fc, .sl] (some [.CE_PL_CSTAT, .CE_PL_FAILS, .CU_EVT_OVR, .FC_CLEAR_REJ, .FC_CNT,
      .FC_FIRST_ID, .FC_FIRST_ORG, .FC_FIRST_TAI_NS, .FC_FIRST_TAI_SH, .FC_FIRST_TAI_SL, .FC_LAT, .FC_OVF, .FC_SUPPRESSED,
      .xx_STATUS]) s (State.badPl s n) := by
  unfold State.badPl
  extract_lets +onlyGivenNames y0
  clear_value y0
  extract_lets +onlyGivenNames y1
  clear_value y1
  extract_lets +onlyGivenNames y2
  clear_value y2
  extract_lets +onlyGivenNames y3
  refine Only.have y3 ?_ fun hy3 => ?_
  · subst y3
    refine Only.count .CE_PL_FAILS 1 rfl rfl ?_
    exact Only.refl _
  clear_value y3
  extract_lets +onlyGivenNames y4
  refine Only.have y4 ?_ fun hy4 => ?_
  · subst y4
    refine (only_updPl ..).over (Covers.some 4 0 rfl rfl) ?_
    exact hy3
  clear_value y4
  extract_lets +onlyGivenNames y5
  refine Only.have y5 ?_ fun hy5 => ?_
  · subst y5
    refine (only_raise ..).over (Covers.some 123 16380 rfl rfl) ?_
    exact hy4
  clear_value y5
  refine Only.ite ?_ ?_
  · extract_lets +onlyGivenNames y6
    refine Only.have y6 ?_ fun hy6 => ?_
    · subst y6
      refine (only_updPl ..).over (Covers.some 4 0 rfl rfl) ?_
      exact hy5
    clear_value y6
    refine (only_setPlMode ..).over (Covers.some 0 1 rfl rfl) ?_
    refine Only.set .CE_PL_CSTAT 0 rfl rfl ?_
    exact hy6
  · refine (only_setPlMode ..).over (Covers.some 0 1 rfl rfl) ?_
    exact hy5

theorem only_bare (t : State) : Only allAreas none t t.bare :=
  ⟨⟨rfl, Nat.le_refl _, List.prefix_refl _, Nat.le_refl _, Nat.le_refl _, fun _ => rfl, fun _ => List.nodup_nil⟩, fun a ha => by
    cases a <;> first | rfl | exact absurd (by decide) ha, nofun⟩

theorem only_bestEffort (s : State) (p fr l) : Only [.ports, .queues] (some []) s (s.bestEffort p fr l).2 := by
  induction l generalizing s fr with
  | nil => exact Only.refl _
  | cons q qs ih =>
    unfold State.bestEffort
    split
    · exact ih _ _
    · extract_lets +onlyGivenNames y
      refine Only.have y ?_ fun hy => ?_
      · subst y
        exact Only.ite ((only_updQueue ..).over (Covers.some 2 0 rfl rfl) (Only.refl _)) (Only.refl _)
      clear_value y
      refine Only.ite2 ?_ ?_
      · exact Only.snd ((only_updPort ..).over (Covers.some 1 0 rfl rfl) hy)
      · exact (ih _ _).over (Covers.some 3 0 rfl rfl) hy

theorem only_bestReady (s : State) (p) : Only [.ports, .queues] (some []) s (State.bestReady s p).2 := by
  unfold State.bestReady
  extract_lets +onlyGivenNames y0
  clear_value y0
  extract_lets +onlyGivenNames y1
  clear_value y1
  extract_lets +onlyGivenNames y2
  clear_value y2
  extract_lets +onlyGivenNames y3
  clear_value y3
  split
  · rename_i e4
    refine Only.eq2 e4 ?_ fun h5 => ?_
    · refine (only_bestEffort ..).over (Covers.some 3 0 rfl rfl) ?_
      exact Only.refl _
    · refine Only.snd ?_
      exact h5
  · rename_i e6
    refine Only.eq2 e6 ?_ fun h7 => ?_
    · refine (only_bestEffort ..).over (Covers.some 3 0 rfl rfl) ?_
      exact Only.refl _
    · refine (only_bestEffort ..).over (Covers.some 3 0 rfl rfl) ?_
      exact h7

theorem only_completeFrame (s : State) (c) (f) : Only [.vids, .flows] none s (State.completeFrame s c f) := by
  unfold State.completeFrame
  extract_lets +onlyGivenNames y0
  refine Only.have y0 ?_ fun hy0 => ?_
  · subst y0
    refine (only_updFlow ..).over (Covers.any 2 rfl) ?_
    exact Only.refl _
  clear_value y0
  refine Only.ite ?_ ?_
  · exact hy0
  · refine Only.ite ?_ ?_
    · refine Only.setAny ?_
      refine (only_endIncomplete ..).over (Covers.any 0 rfl) ?_
      exact hy0
    · extract_lets +onlyGivenNames y1
      refine Only.have y1 ?_ fun hy1 => ?_
      · subst y1
        refine Only.setAny ?_
        refine Only.countAny ?_
        exact hy0
      clear_value y1
      refine Only.ite ?_ ?_
      · exact hy1
      · extract_lets +onlyGivenNames y2
        refine Only.have y2 ?_ fun hy2 => ?_
        · subst y2
          refine (only_updVid ..).over (Covers.any 1 rfl) ?_
          exact hy1
        clear_value y2
        refine Only.setAny ?_
        refine Only.setAny ?_
        exact hy2

theorem only_completeReset (s : State) (v) :
    Only [.out, .irqOwed, .mem, .bad, .heads, .pls, .cues, .evt, .fc, .sl] (some [.CE_PL_S_STAT, .CE_PL_WR_DENY, .CU_EVT_OVR,
      .FC_CLEAR_REJ, .FC_CNT, .FC_FIRST_ID, .FC_FIRST_ORG, .FC_FIRST_TAI_NS, .FC_FIRST_TAI_SH, .FC_FIRST_TAI_SL, .FC_LAT,
      .FC_OVF, .FC_SUPPRESSED, .SL_STREAM_LOST, .SL_STREAM_WR, .xx_STATUS]) s (State.completeReset s v) := by
  unfold State.completeReset
  split
  · extract_lets +onlyGivenNames y0
    clear_value y0
    extract_lets +onlyGivenNames y1
    clear_value y1
    refine (only_streamAll ..).over (Covers.some 1023 65535 rfl rfl) ?_
    refine Only.sl 9 rfl ?_
    exact Only.refl _
  · refine Only.ite ?_ ?_
    · refine Only.sl 9 rfl ?_
      exact Only.refl _
    · exact Only.refl _

theorem only_setShown (s : State) (k) (m) (x) :
    Only [.layers] (some [.CE_L_SHOWN_HI, .CE_L_SHOWN_LO]) s (State.setShown s k m x) := by
  unfold State.setShown
  extract_lets +onlyGivenNames y0
  clear_value y0
  refine Only.wr .CE_L_SHOWN_HI 0 rfl rfl ?_
  refine Only.wr .CE_L_SHOWN_LO 1 rfl rfl ?_
  refine (only_updLayer ..).over (Covers.some 1 0 rfl rfl) ?_
  exact Only.refl _

theorem only_layerBoundary (s : State) (n) (d) :
    Only [.irqOwed, .heads, .layers, .cues, .evt, .fc, .sl] (some [.CE_L_FENCE_STAT, .CE_L_INGEST_AGE, .CE_L_NOTREADY_CNT,
      .CE_L_SHOWN_HI, .CE_L_SHOWN_LO, .CU_EVT_OVR, .FC_CLEAR_REJ, .FC_CNT, .FC_FIRST_ID, .FC_FIRST_ORG, .FC_FIRST_TAI_NS,
      .FC_FIRST_TAI_SH, .FC_FIRST_TAI_SL, .FC_LAT, .FC_OVF, .FC_SUPPRESSED, .xx_STATUS]) s (State.layerBoundary s n d) := by
  unfold State.layerBoundary
  extract_lets +onlyGivenNames y0
  clear_value y0
  extract_lets +onlyGivenNames y1
  clear_value y1
  extract_lets +onlyGivenNames y2
  clear_value y2
  extract_lets +onlyGivenNames y3
  refine Only.have y3 ?_ fun hy3 => ?_
  · subst y3
    refine (only_updLayer ..).over (Covers.some 4 0 rfl rfl) ?_
    exact Only.refl _
  clear_value y3
  extract_lets +onlyGivenNames y4
  clear_value y4
  extract_lets +onlyGivenNames y5
  refine Only.have y5 ?_ fun hy5 => ?_
  · subst y5
    refine Only.set .CE_L_INGEST_AGE 1 rfl rfl ?_
    exact hy3
  clear_value y5
  extract_lets +onlyGivenNames y6
  refine Only.have y6 ?_ fun hy6 => ?_
  · subst y6
    refine Only.ite ?_ ?_
    · refine Only.ite ?_ ?_
      · refine (only_raise ..).over (Covers.some 123 131040 rfl rfl) ?_
        exact hy5
      · exact hy5
    · exact hy3
  clear_value y6
  refine Only.ite ?_ ?_
  · extract_lets +onlyGivenNames y7
    refine Only.have y7 ?_ fun hy7 => ?_
    · subst y7
      refine Only.set .CE_L_FENCE_STAT 0 rfl rfl ?_
      refine Only.set .CE_L_FENCE_STAT 0 rfl rfl ?_
      exact hy6
    clear_value y7
    refine (only_setShown ..).over (Covers.some 4 24 rfl rfl) ?_
    exact hy7
  · extract_lets +onlyGivenNames y8
    refine Only.have y8 ?_ fun hy8 => ?_
    · subst y8
      refine Only.count .CE_L_NOTREADY_CNT 2 rfl rfl ?_
      exact hy6
    clear_value y8
    extract_lets +onlyGivenNames y9
    refine Only.have y9 ?_ fun hy9 => ?_
    · subst y9
      refine Only.set .CE_L_FENCE_STAT 0 rfl rfl ?_
      exact hy8
    clear_value y9
    extract_lets +onlyGivenNames y10
    clear_value y10
    extract_lets +onlyGivenNames y11
    refine Only.have y11 ?_ fun hy11 => ?_
    · subst y11
      refine Only.set .CE_L_FENCE_STAT 0 rfl rfl ?_
      exact hy9
    clear_value y11
    refine (only_setShown ..).over (Covers.some 4 24 rfl rfl) ?_
    exact hy11

theorem only_showPl (s : State) (n) : Only [.pls] (some [.CE_PL_CSTAT]) s (State.showPl s n) := by
  unfold State.showPl
  extract_lets +onlyGivenNames y0
  refine Only.have y0 ?_ fun hy0 => ?_
  · subst y0
    refine (only_updPl ..).over (Covers.some 1 0 rfl rfl) ?_
    exact Only.refl _
  clear_value y0
  refine (only_setPlMode ..).over (Covers.some 0 1 rfl rfl) ?_
  refine Only.set .CE_PL_CSTAT 0 rfl rfl ?_
  exact hy0

theorem only_plBoundary (s : State) (n) (f) :
    Only [.irqOwed, .heads, .pls, .cues, .evt, .fc, .sl] (some [.CE_PL_CSTAT, .CE_PL_FAILS, .CU_EVT_OVR, .FC_CLEAR_REJ, .FC_CNT,
      .FC_FIRST_ID, .FC_FIRST_ORG, .FC_FIRST_TAI_NS, .FC_FIRST_TAI_SH, .FC_FIRST_TAI_SL, .FC_LAT, .FC_OVF, .FC_SUPPRESSED,
      .xx_STATUS]) s (State.plBoundary s n f) := by
  unfold State.plBoundary
  extract_lets +onlyGivenNames y0
  refine Only.have y0 ?_ fun hy0 => ?_
  · subst y0
    split
    · refine Only.ite ?_ ?_
      · extract_lets +onlyGivenNames y1
        refine Only.have y1 ?_ fun hy1 => ?_
        · subst y1
          refine (only_applyPl ..).over (Covers.some 68 1 rfl rfl) ?_
          exact Only.refl _
        clear_value y1
        split
        · refine Only.ite ?_ ?_
          · refine (only_updPl ..).over (Covers.some 4 0 rfl rfl) ?_
            exact hy1
          · exact hy1
        · exact hy1
      · exact Only.refl _
    · exact Only.refl _
  clear_value y0
  extract_lets +onlyGivenNames y2
  clear_value y2
  refine Only.ite ?_ ?_
  · exact hy0
  · extract_lets +onlyGivenNames y3
    refine Only.have y3 ?_ fun hy3 => ?_
    · subst y3
      refine (only_updPl ..).over (Covers.some 4 0 rfl rfl) ?_
      exact hy0
    clear_value y3
    split
    · exact hy3
    · refine (only_showPl ..).over (Covers.some 4 1 rfl rfl) ?_
      exact hy3
    · refine (only_raise ..).over (Covers.some 123 16380 rfl rfl) ?_
      refine (only_showPl ..).over (Covers.some 4 1 rfl rfl) ?_
      exact hy3
    · extract_lets +onlyGivenNames y4
      refine Only.have y4 ?_ fun hy4 => ?_
      · subst y4
        refine (only_raise ..).over (Covers.some 123 16380 rfl rfl) ?_
        refine (only_updPl ..).over (Covers.some 4 0 rfl rfl) ?_
        exact hy3
      clear_value y4
      refine Only.ite ?_ ?_
      · refine (only_badPl ..).over (Covers.some 127 16383 rfl rfl) ?_
        exact hy4
      · exact hy4
    · refine (only_badPl ..).over (Covers.some 127 16383 rfl rfl) ?_
      exact hy3

theorem only_takeBoundary (s : State) (n) (f) :
    Only [.irqOwed, .eff, .waiting, .heads, .dts, .layers, .pls, .cues, .evt, .fc, .sl] (some [.CE_ADM_CULL, .CE_ADM_PEAK_B,
      .CE_ADM_PEAK_LP, .CE_ADM_PEAK_RES, .CE_CDET, .CE_CSTAT, .CE_L_FENCE_STAT, .CE_L_INGEST_AGE, .CE_L_NOTREADY_CNT,
      .CE_L_SHOWN_HI, .CE_L_SHOWN_LO, .CE_PL_CSTAT, .CE_PL_FAILS, .CE_VINT_APP, .CU_EVT_OVR, .FC_CLEAR_REJ, .FC_CNT,
      .FC_FIRST_ID, .FC_FIRST_ORG, .FC_FIRST_TAI_NS, .FC_FIRST_TAI_SH, .FC_FIRST_TAI_SL, .FC_LAT, .FC_OVF, .FC_SUPPRESSED,
      .xx_STATUS]) s (State.takeBoundary s n f).1 := by
  unfold State.takeBoundary
  extract_lets +onlyGivenNames y0
  refine Only.have y0 ?_ fun hy0 => ?_
  · subst y0
    refine (only_applyWaiting ..).over (Covers.some 6 0 rfl rfl) ?_
    exact Only.refl _
  clear_value y0
  extract_lets +onlyGivenNames y1
  refine Only.have y1.1 ?_ fun hy1 => ?_
  · subst y1
    refine (only_applyPending ..).over (Covers.some 1192 9855 rfl rfl) ?_
    exact hy0
  clear_value y1
  extract_lets +onlyGivenNames y2
  refine Only.have y2 ?_ fun hy2 => ?_
  · subst y2
    exact hy1
  clear_value y2
  extract_lets +onlyGivenNames y3
  clear_value y3
  extract_lets +onlyGivenNames y4
  clear_value y4
  extract_lets +onlyGivenNames y5
  refine Only.have y5 ?_ fun hy5 => ?_
  · subst y5
    refine Only.foldl ?_ fun y6 _ hy6 => ?_
    · exact hy2
    · refine (only_layerBoundary ..).over (Covers.some 1961 67094464 rfl rfl) ?_
      exact hy6
  clear_value y5
  extract_lets +onlyGivenNames y7
  refine Only.have y7 ?_ fun hy7 => ?_
  · subst y7
    refine Only.dts 4 rfl ?_
    exact hy5
  clear_value y7
  refine Only.fst ?_
  refine (only_plBoundary ..).over (Covers.some 1993 67098624 rfl rfl) ?_
  exact hy7

theorem only_debit (s : State) (n) (bytes) : Only [.heads] (some []) s (State.debit s n bytes) := by
  unfold State.debit
  refine (only_updHead ..).over (Covers.some 1 0 rfl rfl) ?_
  exact Only.refl _

theorem only_fetchRow (s : State) (n) (u) (d) (b) (cols) (paid) (r) :
    Only [.heads, .layers] (some []) s (State.fetchRow s n u d b cols paid r) := by
  unfold State.fetchRow
  extract_lets +onlyGivenNames y0
  clear_value y0
  refine Only.ite ?_ ?_
  · exact Only.refl _
  · extract_lets +onlyGivenNames y1
    clear_value y1
    extract_lets +onlyGivenNames y2
    clear_value y2
    extract_lets +onlyGivenNames y3
    clear_value y3
    extract_lets +onlyGivenNames y4
    refine Only.have y4 ?_ fun hy4 => ?_
    · subst y4
      refine (only_updLayer ..).over (Covers.some 2 0 rfl rfl) ?_
      exact Only.refl _
    clear_value y4
    refine Only.ite ?_ ?_
    · refine (only_debit ..).over (Covers.some 1 0 rfl rfl) ?_
      exact hy4
    · exact hy4

theorem only_fetchLayer (s : State) (n) (u) (d) (b) (g) (row) (y) :
    Only [.out, .heads, .layers] (some []) s (State.fetchLayer s n u d b g row y) := by
  unfold State.fetchLayer
  extract_lets +onlyGivenNames y0
  clear_value y0
  extract_lets +onlyGivenNames y1
  clear_value y1
  refine Only.ite ?_ ?_
  · exact Only.refl _
  · refine Only.ite ?_ ?_
    · refine Only.foldl ?_ fun y2 _ hy2 => ?_
      · exact Only.refl _
      · refine (only_askRow ..).over (Covers.some 5 0 rfl rfl) ?_
        exact hy2
    · refine Only.foldl ?_ fun y3 _ hy3 => ?_
      · exact Only.refl _
      · refine (only_fetchRow ..).over (Covers.some 6 0 rfl rfl) ?_
        exact hy3

theorem only_fetchPl (s : State) (n) (u) (row) (src) (x) : Only [.heads] (some []) s (State.fetchPl s n u row src x) := by
  unfold State.fetchPl
  split
  · exact Only.refl _
  · extract_lets +onlyGivenNames y0
    clear_value y0
    extract_lets +onlyGivenNames y1
    subst y1
    refine Only.ite ?_ ?_
    · exact Only.refl _
    · extract_lets +onlyGivenNames y2
      subst y2
      extract_lets +onlyGivenNames y3
      subst y3
      extract_lets +onlyGivenNames y4
      subst y4
      extract_lets +onlyGivenNames y5
      clear_value y5
      refine (only_debit ..).over (Covers.some 1 0 rfl rfl) ?_
      refine (only_updHead ..).over (Covers.some 1 0 rfl rfl) ?_
      exact Only.refl _

theorem only_fetchLine (s : State) (n) (f) (l) :
    Only [.out, .irqOwed, .eff, .waiting, .heads, .dts, .layers, .pls, .cues, .evt, .fc, .sl] (some [.CE_ADM_CULL,
      .CE_ADM_PEAK_B, .CE_ADM_PEAK_LP, .CE_ADM_PEAK_RES, .CE_CDET, .CE_CSTAT, .CE_L_FENCE_STAT, .CE_L_INGEST_AGE,
      .CE_L_NOTREADY_CNT, .CE_L_SHOWN_HI, .CE_L_SHOWN_LO, .CE_PL_CSTAT, .CE_PL_FAILS, .CE_VINT_APP, .CU_EVT_OVR, .FC_CLEAR_REJ,
      .FC_CNT, .FC_FIRST_ID, .FC_FIRST_ORG, .FC_FIRST_TAI_NS, .FC_FIRST_TAI_SH, .FC_FIRST_TAI_SL, .FC_LAT, .FC_OVF,
      .FC_SUPPRESSED, .xx_STATUS]) s (State.fetchLine s n f l) := by
  unfold State.fetchLine
  split
  · exact Only.refl _
  · refine Only.ite ?_ ?_
    · exact Only.refl _
    · extract_lets +onlyGivenNames y0
      refine Only.have y0 ?_ fun hy0 => ?_
      · subst y0
        refine Only.ite ?_ ?_
        · refine (only_takeBoundary ..).over (Covers.some 4094 67108863 rfl rfl) ?_
          exact Only.refl _
        · exact Only.refl _
      clear_value y0
      extract_lets +onlyGivenNames y1
      clear_value y1
      extract_lets +onlyGivenNames y2
      refine Only.have y2 ?_ fun hy2 => ?_
      · subst y2
        refine (only_updHead ..).over (Covers.some 16 0 rfl rfl) ?_
        exact Only.refl _
      clear_value y2
      extract_lets +onlyGivenNames y3
      refine Only.have y3 ?_ fun hy3 => ?_
      · subst y3
        split
        · exact hy2
        · refine Only.foldl ?_ fun y4 _ hy4 => ?_
          · exact hy2
          · extract_lets +onlyGivenNames y5
            clear_value y5
            split
            · refine Only.ite ?_ ?_
              · refine (only_fetchLayer ..).over (Covers.some 81 0 rfl rfl) ?_
                exact hy4
              · exact hy4
            · exact hy4
      clear_value y3
      refine (only_fetchPl ..).over (Covers.some 16 0 rfl rfl) ?_
      exact hy3

theorem only_countSram (s : State) (n) (w) :
    Only [.irqOwed, .heads, .cues, .evt, .fc, .sl] (some [.CE_LB_CORR, .CE_SRAM_UNCORR, .CU_EVT_OVR, .FC_CLEAR_REJ, .FC_CNT,
      .FC_FIRST_ID, .FC_FIRST_ORG, .FC_FIRST_TAI_NS, .FC_FIRST_TAI_SH, .FC_FIRST_TAI_SL, .FC_LAT, .FC_OVF, .FC_SUPPRESSED,
      .xx_STATUS]) s (State.countSram s n w) := by
  unfold State.countSram
  extract_lets +onlyGivenNames y0
  clear_value y0
  extract_lets +onlyGivenNames y1
  refine Only.have y1 ?_ fun hy1 => ?_
  · subst y1
    refine Only.ite ?_ ?_
    · exact Only.refl _
    · refine (only_latch ..).over (Covers.some 1 8192 rfl rfl) ?_
      refine Only.count .CE_LB_CORR 0 rfl rfl ?_
      exact Only.refl _
  clear_value y1
  refine Only.foldl ?_ fun y2 _ hy2 => ?_
  · exact hy1
  · refine (only_raise ..).over (Covers.some 63 16380 rfl rfl) ?_
    refine (only_latch ..).over (Covers.some 1 8192 rfl rfl) ?_
    refine Only.count .CE_SRAM_UNCORR 1 rfl rfl ?_
    exact hy2

theorem only_countLine (s : State) (n) (f) (ls) (plLost) (w) :
    Only [.irqOwed, .heads, .layers, .cues, .evt, .fc, .sl] (some [.CE_HBM_ERR, .CE_L_LATE_LINES, .CE_UNDERRUN, .CU_EVT_OVR,
      .DT_SRAM_CORR, .DT_SRAM_UNCORR, .FC_CLEAR_REJ, .FC_CNT, .FC_FIRST_ID, .FC_FIRST_ORG, .FC_FIRST_TAI_NS, .FC_FIRST_TAI_SH,
      .FC_FIRST_TAI_SL, .FC_LAT, .FC_OVF, .FC_SUPPRESSED, .xx_STATUS]) s (State.countLine s n f ls plLost w) := by
  unfold State.countLine
  extract_lets +onlyGivenNames y0
  clear_value y0
  extract_lets +onlyGivenNames y1
  clear_value y1
  extract_lets +onlyGivenNames y2
  refine Only.have y2 ?_ fun hy2 => ?_
  · subst y2
    refine Only.foldl ?_ fun y3 _ hy3 => ?_
    · exact Only.refl _
    · refine Only.count .CE_L_LATE_LINES 1 rfl rfl ?_
      exact hy3
  clear_value y2
  extract_lets +onlyGivenNames y4
  refine Only.have y4 ?_ fun hy4 => ?_
  · subst y4
    refine Only.ite ?_ ?_
    · refine (only_raise ..).over (Covers.some 123 131016 rfl rfl) ?_
      refine (only_updHead ..).over (Covers.some 2 0 rfl rfl) ?_
      exact hy2
    · exact hy2
  clear_value y4
  extract_lets +onlyGivenNames y5
  refine Only.have y5 ?_ fun hy5 => ?_
  · subst y5
    refine Only.foldl ?_ fun y6 _ hy6 => ?_
    · exact hy4
    · split
      · refine Only.ite ?_ ?_
        · refine (only_updLayer ..).over (Covers.some 4 0 rfl rfl) ?_
          exact hy6
        · exact hy6
      · exact hy6
  clear_value y5
  extract_lets +onlyGivenNames y7
  refine Only.have y7 ?_ fun hy7 => ?_
  · subst y7
    refine Only.ite ?_ ?_
    · refine (only_raise ..).over (Covers.some 123 131016 rfl rfl) ?_
      refine (only_latch ..).over (Covers.some 1 65536 rfl rfl) ?_
      refine Only.count .CE_UNDERRUN 2 rfl rfl ?_
      exact hy5
    · exact hy5
  clear_value y7
  extract_lets +onlyGivenNames y8
  refine Only.have y8 ?_ fun hy8 => ?_
  · subst y8
    refine Only.foldl ?_ fun y9 _ hy9 => ?_
    · exact hy7
    · refine (only_raise ..).over (Covers.some 123 131016 rfl rfl) ?_
      refine (only_latch ..).over (Covers.some 1 65536 rfl rfl) ?_
      refine Only.count .CE_HBM_ERR 0 rfl rfl ?_
      exact hy9
  clear_value y8
  extract_lets +onlyGivenNames y10
  clear_value y10
  extract_lets +onlyGivenNames y11
  refine Only.have y11 ?_ fun hy11 => ?_
  · subst y11
    refine Only.ite ?_ ?_
    · refine (only_latch ..).over (Covers.some 1 65536 rfl rfl) ?_
      exact hy8
    · exact hy8
  clear_value y11
  extract_lets +onlyGivenNames y12
  clear_value y12
  extract_lets +onlyGivenNames y13
  refine Only.have y13 ?_ fun hy13 => ?_
  · subst y13
    refine Only.ite ?_ ?_
    · exact hy11
    · refine (only_latch ..).over (Covers.some 1 65536 rfl rfl) ?_
      refine Only.count .DT_SRAM_CORR 4 rfl rfl ?_
      exact hy11
  clear_value y13
  refine Only.foldl ?_ fun y14 _ hy14 => ?_
  · exact hy13
  · refine (only_raise ..).over (Covers.some 123 131016 rfl rfl) ?_
    refine (only_latch ..).over (Covers.some 1 65536 rfl rfl) ?_
    refine Only.count .DT_SRAM_UNCORR 5 rfl rfl ?_
    exact hy14

theorem only_sdiLine (s : State) (n) (f) (line) (active) :
    Only [.out] (some [.HD_PHASE, .HD_RASTER]) s (State.sdiLine s n f line active) := by
  unfold State.sdiLine
  refine Only.ite ?_ ?_
  · exact Only.refl _
  · extract_lets +onlyGivenNames y0
    refine Only.have y0 ?_ fun hy0 => ?_
    · subst y0
      refine (only_onLast ..).over (Covers.some 0 3 rfl rfl) ?_
      exact Only.refl _
    clear_value y0
    extract_lets +onlyGivenNames y1
    clear_value y1
    refine Only.foldl ?_ fun y2 _ hy2 => ?_
    · exact Only.refl _
    · refine (only_emit ..).over (Covers.some 1 0 rfl rfl) ?_
      exact hy2

theorem only_dpLine (s : State) (n) (f) (line) (codes) : Only [.out] (some []) s (State.dpLine s n f line codes) := by
  unfold State.dpLine
  extract_lets +onlyGivenNames y0
  subst y0
  extract_lets +onlyGivenNames y1
  subst y1
  refine (only_emit ..).over (Covers.some 1 0 rfl rfl) ?_
  exact Only.refl _

theorem only_holdRow (s : State) (n) (d) (row) (codes) : Only [.heads] (some []) s (State.holdRow s n d row codes) := by
  unfold State.holdRow
  refine Only.ite ?_ ?_
  · refine (only_updHead ..).over (Covers.some 1 0 rfl rfl) ?_
    exact Only.refl _
  · exact Only.refl _

theorem only_sendRow (s : State) (n) (d) (f) (line) (row) (codes) :
    Only [.out, .heads] (some [.HD_PHASE, .HD_RASTER]) s (State.sendRow s n d f line row codes) := by
  unfold State.sendRow
  split
  · refine (only_sdiLine ..).over (Covers.some 1 3 rfl rfl) ?_
    exact Only.refl _
  · refine (only_dpLine ..).over (Covers.some 1 0 rfl rfl) ?_
    exact Only.refl _
  · refine (only_holdRow ..).over (Covers.some 2 0 rfl rfl) ?_
    exact Only.refl _

theorem only_renderDest (s : State) (n) (f) (line) (row) (ps) (d) :
    Only [.out, .heads] (some [.HD_PHASE, .HD_RASTER]) s (State.renderDest s n f line row ps d).1 := by
  unfold State.renderDest
  refine Only.ite1 ?_ ?_
  · refine Only.fst ?_
    exact Only.refl _
  · extract_lets +onlyGivenNames y0
    subst y0
    extract_lets +onlyGivenNames y1
    clear_value y1
    extract_lets +onlyGivenNames y2
    clear_value y2
    extract_lets +onlyGivenNames y3
    clear_value y3
    extract_lets +onlyGivenNames y4
    clear_value y4
    extract_lets +onlyGivenNames y5
    clear_value y5
    extract_lets +onlyGivenNames y6
    subst y6
    extract_lets +onlyGivenNames y7
    refine Only.have y7 ?_ fun hy7 => ?_
    · subst y7
      refine Only.ite ?_ ?_
      · refine (only_updHead ..).over (Covers.some 2 0 rfl rfl) ?_
        exact Only.refl _
      · exact Only.refl _
    clear_value y7
    extract_lets +onlyGivenNames y8
    refine Only.have y8 ?_ fun hy8 => ?_
    · subst y8
      refine (only_updHead ..).over (Covers.some 2 0 rfl rfl) ?_
      exact hy7
    clear_value y8
    refine Only.fst ?_
    refine (only_sendRow ..).over (Covers.some 3 3 rfl rfl) ?_
    exact hy8

theorem only_composeLine (s : State) (n) (f) (line) (row) (w) :
    Only [.out, .irqOwed, .eff, .waiting, .heads, .dts, .layers, .pls, .cues, .evt, .fc, .sl] none s (State.composeLine s n f
      line row w) := by
  unfold State.composeLine
  extract_lets +onlyGivenNames y0
  refine Only.have y0 ?_ fun hy0 => ?_
  · subst y0
    refine (only_fetchLine ..).over (Covers.any 4095 rfl) ?_
    exact Only.refl _
  clear_value y0
  extract_lets +onlyGivenNames y1
  clear_value y1
  extract_lets +onlyGivenNames y2
  clear_value y2
  extract_lets +onlyGivenNames y3
  clear_value y3
  extract_lets +onlyGivenNames y4
  refine Only.have y4 ?_ fun hy4 => ?_
  · subst y4
    refine (only_countSram ..).over (Covers.any 3858 rfl) ?_
    refine (only_countLine ..).over (Covers.any 3922 rfl) ?_
    exact hy0
  clear_value y4
  extract_lets +onlyGivenNames y5
  refine Only.have y5 ?_ fun hy5 => ?_
  · subst y5
    refine (only_updHead ..).over (Covers.any 16 rfl) ?_
    exact hy4
  clear_value y5
  extract_lets +onlyGivenNames y6
  refine Only.have y6.1 ?_ fun hy6 => ?_
  · subst y6
    refine Only.foldlFst ?_ fun y7 _ hy7 => ?_
    · refine Only.fst ?_
      exact hy5
    · extract_lets +onlyGivenNames y8
      refine Only.have y8.1 ?_ fun hy8 => ?_
      · subst y8
        refine (only_renderDest ..).over (Covers.any 17 rfl) ?_
        exact hy7
      clear_value y8
      refine Only.fst ?_
      exact hy8
  clear_value y6
  extract_lets +onlyGivenNames y9
  clear_value y9
  refine Only.ite ?_ ?_
  · exact hy6
  · refine (only_latch ..).over (Covers.any 2 rfl) ?_
    refine Only.countAny ?_
    exact hy6

theorem only_countLate (s : State) (p) (q) (e) :
    Only [.irqOwed, .heads, .hqs, .cues, .evt, .fc, .sl] (some [.CU_EVT_OVR, .FC_CLEAR_REJ, .FC_CNT, .FC_FIRST_ID,
      .FC_FIRST_ORG, .FC_FIRST_TAI_NS, .FC_FIRST_TAI_SH, .FC_FIRST_TAI_SL, .FC_LAT, .FC_OVF, .FC_SUPPRESSED, .HQ_DROP,
      .NP_TX_LATE_DROP, .NQ_LATE_DROP, .xx_STATUS]) s (State.countLate s p q e) := by
  unfold State.countLate
  extract_lets +onlyGivenNames y0
  subst y0
  extract_lets +onlyGivenNames y1
  refine Only.have y1 ?_ fun hy1 => ?_
  · subst y1
    refine (only_ringOutcome ..).over (Covers.some 5 18432 rfl rfl) ?_
    exact Only.refl _
  clear_value y1
  extract_lets +onlyGivenNames y2
  refine Only.have y2 ?_ fun hy2 => ?_
  · subst y2
    refine Only.count .NP_TX_LATE_DROP 12 rfl rfl ?_
    refine Only.count .NQ_LATE_DROP 13 rfl rfl ?_
    exact hy1
  clear_value y2
  refine Only.ite ?_ ?_
  · refine (only_raise ..).over (Covers.some 123 18431 rfl rfl) ?_
    refine (only_latch ..).over (Covers.some 1 16384 rfl rfl) ?_
    exact hy2
  · exact hy2

theorem only_ctlBucket (s : State) (p) (l) (t) : Only [.ports] (some [.NP_CTL_DROP]) s (State.ctlBucket s p l t).1 := by
  unfold State.ctlBucket
  extract_lets +onlyGivenNames y0
  clear_value y0
  extract_lets +onlyGivenNames y1
  clear_value y1
  extract_lets +onlyGivenNames y2
  clear_value y2
  extract_lets +onlyGivenNames y3
  clear_value y3
  refine Only.ite1 ?_ ?_
  · refine Only.fst ?_
    refine (only_setPort ..).over (Covers.some 1 0 rfl rfl) ?_
    exact Only.refl _
  · refine Only.fst ?_
    refine Only.count .NP_CTL_DROP 0 rfl rfl ?_
    refine (only_setPort ..).over (Covers.some 1 0 rfl rfl) ?_
    exact Only.refl _

theorem only_ringReceive_drop (r) (s : State) :
    Only [.irqOwed, .heads, .cues, .evt, .fc, .sl] (some [.CU_EVT_OVR, .FC_CLEAR_REJ, .FC_CNT, .FC_FIRST_ID, .FC_FIRST_ORG,
      .FC_FIRST_TAI_NS, .FC_FIRST_TAI_SH, .FC_FIRST_TAI_SL, .FC_LAT, .FC_OVF, .FC_SUPPRESSED, .HQ_DROP, .xx_STATUS]) s
      (State.ringReceive.drop r s) := by
  unfold State.ringReceive.drop
  extract_lets +onlyGivenNames y0
  subst y0
  extract_lets +onlyGivenNames y1
  refine Only.have y1 ?_ fun hy1 => ?_
  · subst y1
    refine (only_latch ..).over (Covers.some 1 4096 rfl rfl) ?_
    refine Only.count .HQ_DROP 11 rfl rfl ?_
    exact Only.refl _
  clear_value y1
  refine Only.ite ?_ ?_
  · refine (only_raise ..).over (Covers.some 63 6143 rfl rfl) ?_
    exact hy1
  · exact hy1

theorem only_ringReceive (s : State) (r) (data) (t) :
    Only [.out, .irqOwed, .heads, .hqs, .cues, .evt, .fc, .sl] (some [.CU_EVT_OVR, .FC_CLEAR_REJ, .FC_CNT, .FC_FIRST_ID,
      .FC_FIRST_ORG, .FC_FIRST_TAI_NS, .FC_FIRST_TAI_SH, .FC_FIRST_TAI_SL, .FC_LAT, .FC_OVF, .FC_SUPPRESSED, .HQ_DROP,
      .xx_STATUS]) s (State.ringReceive s r data t) := by
  unfold State.ringReceive
  extract_lets +onlyGivenNames y0
  clear_value y0
  extract_lets +onlyGivenNames y1
  clear_value y1
  split
  · refine Only.ite ?_ ?_
    · refine (only_ringReceive_drop ..).over (Covers.some 246 8191 rfl rfl) ?_
      exact Only.refl _
    · extract_lets +onlyGivenNames y2
      clear_value y2
      extract_lets +onlyGivenNames y3
      clear_value y3
      refine (only_emit ..).over (Covers.some 1 0 rfl rfl) ?_
      refine (only_setHq ..).over (Covers.some 8 0 rfl rfl) ?_
      exact Only.refl _
  · refine (only_ringReceive_drop ..).over (Covers.some 246 8191 rfl rfl) ?_
    exact Only.refl _

theorem only_defaultFrame (s : State) (p) (d) (t) :
    Only [.out, .irqOwed, .heads, .hqs, .cues, .evt, .fc, .sl] (some [.CU_EVT_OVR, .FC_CLEAR_REJ, .FC_CNT, .FC_FIRST_ID,
      .FC_FIRST_ORG, .FC_FIRST_TAI_NS, .FC_FIRST_TAI_SH, .FC_FIRST_TAI_SL, .FC_LAT, .FC_OVF, .FC_SUPPRESSED, .HQ_DROP,
      .NP_RX_NODEST, .xx_STATUS]) s (State.defaultFrame s p d t) := by
  unfold State.defaultFrame
  refine Only.ite ?_ ?_
  · refine (only_ringReceive ..).over (Covers.some 255 12287 rfl rfl) ?_
    exact Only.refl _
  · refine Only.count .NP_RX_NODEST 12 rfl rfl ?_
    exact Only.refl _

theorem only_writeRow (s : State) (c) (row) (o) (data) :
    Only [.irqOwed, .mem, .bad, .heads, .flows, .pls, .cues, .evt, .fc, .sl] (some [.CE_PL_S_STAT, .CE_PL_WR_DENY, .CU_EVT_OVR,
      .FC_CLEAR_REJ, .FC_CNT, .FC_FIRST_ID, .FC_FIRST_ORG, .FC_FIRST_TAI_NS, .FC_FIRST_TAI_SH, .FC_FIRST_TAI_SL, .FC_LAT,
      .FC_OVF, .FC_SUPPRESSED, .xx_STATUS]) s (State.writeRow s c row o data) := by
  unfold State.writeRow
  extract_lets +onlyGivenNames y0
  clear_value y0
  split
  · exact Only.refl _
  · split
    · exact Only.refl _
    · extract_lets +onlyGivenNames y1
      clear_value y1
      extract_lets +onlyGivenNames y2
      clear_value y2
      extract_lets +onlyGivenNames y3
      refine Only.have y3 ?_ fun hy3 => ?_
      · subst y3
        refine (only_memWrite ..).over (Covers.some 1007 16383 rfl rfl) ?_
        exact Only.refl _
      clear_value y3
      extract_lets +onlyGivenNames y4
      clear_value y4
      extract_lets +onlyGivenNames y5
      clear_value y5
      extract_lets +onlyGivenNames y6
      clear_value y6
      refine (only_setFlow ..).over (Covers.some 16 0 rfl rfl) ?_
      exact hy3

theorem only_writeSrds (s : State) (c l d) :
    Only [.irqOwed, .mem, .bad, .heads, .flows, .pls, .cues, .evt, .fc, .sl] (some [.CE_PL_S_STAT, .CE_PL_WR_DENY, .CU_EVT_OVR,
      .FC_CLEAR_REJ, .FC_CNT, .FC_FIRST_ID, .FC_FIRST_ORG, .FC_FIRST_TAI_NS, .FC_FIRST_TAI_SH, .FC_FIRST_TAI_SL, .FC_LAT,
      .FC_OVF, .FC_SUPPRESSED, .xx_STATUS]) s (s.writeSrds c l d) := by
  induction l generalizing s d with
  | nil => exact Only.refl _
  | cons h hs ih => exact (ih ..).over (Covers.some 1023 16383 rfl rfl) ((only_writeRow ..).over (Covers.some 1023 16383 rfl rfl) (Only.refl _))

theorem only_updFrame (s : State) (v) (g) : Only [.flows] (some []) s (State.updFrame s v g) := by
  unfold State.updFrame
  refine (only_updFlow ..).over (Covers.some 1 0 rfl rfl) ?_
  exact Only.refl _

theorem only_tryComplete (s : State) (c) : Only [.vids, .flows] none s (State.tryComplete s c) := by
  unfold State.tryComplete
  split
  · refine Only.ite ?_ ?_
    · refine (only_completeFrame ..).over (Covers.any 3 rfl) ?_
      exact Only.refl _
    · exact Only.refl _
  · exact Only.refl _

theorem only_openFrame (s : State) (c) (ts) (field2) : Only [.flows] none s (State.openFrame s c ts field2) := by
  unfold State.openFrame
  extract_lets +onlyGivenNames y0
  clear_value y0
  extract_lets +onlyGivenNames y1
  clear_value y1
  extract_lets +onlyGivenNames y2
  refine Only.have y2 ?_ fun hy2 => ?_
  · subst y2
    split
    · refine Only.ite ?_ ?_
      · refine (only_endIncomplete ..).over (Covers.any 0 rfl) ?_
        exact Only.refl _
      · exact Only.refl _
    · exact Only.refl _
  clear_value y2
  extract_lets +onlyGivenNames y3
  clear_value y3
  extract_lets +onlyGivenNames y4
  clear_value y4
  extract_lets +onlyGivenNames y5
  clear_value y5
  refine Only.ite ?_ ?_
  · refine (only_updFlow ..).over (Covers.any 1 rfl) ?_
    exact hy2
  · extract_lets +onlyGivenNames y6
    clear_value y6
    extract_lets +onlyGivenNames y7
    refine Only.have y7 ?_ fun hy7 => ?_
    · subst y7
      refine (only_updFlow ..).over (Covers.any 1 rfl) ?_
      exact hy2
    clear_value y7
    split
    · refine Only.setAny ?_
      exact hy7
    · refine (only_endIncomplete ..).over (Covers.any 0 rfl) ?_
      refine Only.setAny ?_
      exact hy7

theorem only_videoPacket (s : State) (f) (d) (i) (e) :
    Only [.irqOwed, .mem, .bad, .heads, .vids, .flows, .pls, .cues, .evt, .fc, .sl] none s (State.videoPacket s f d i e) := by
  unfold State.videoPacket
  extract_lets +onlyGivenNames y0
  clear_value y0
  extract_lets +onlyGivenNames y1
  clear_value y1
  extract_lets +onlyGivenNames y2
  clear_value y2
  extract_lets +onlyGivenNames y3
  clear_value y3
  extract_lets +onlyGivenNames y4
  clear_value y4
  extract_lets +onlyGivenNames y5
  clear_value y5
  extract_lets +onlyGivenNames y6
  clear_value y6
  extract_lets +onlyGivenNames y7
  subst y7
  beta_reduce
  split
  · extract_lets +onlyGivenNames y8
    refine Only.have y8 ?_ fun hy8 => ?_
    · subst y8
      split
      · refine Only.ite ?_ ?_
        · refine (only_writeSrds ..).over (Covers.any 2031 rfl) ?_
          refine (only_openFrame ..).over (Covers.any 32 rfl) ?_
          exact Only.refl _
        · refine (only_updFrame ..).over (Covers.any 32 rfl) ?_
          refine (only_openFrame ..).over (Covers.any 32 rfl) ?_
          exact Only.refl _
      · refine (only_updFrame ..).over (Covers.any 32 rfl) ?_
        refine (only_openFrame ..).over (Covers.any 32 rfl) ?_
        exact Only.refl _
    clear_value y8
    refine (only_tryComplete ..).over (Covers.any 48 rfl) ?_
    refine (only_updFrame ..).over (Covers.any 32 rfl) ?_
    exact hy8
  · refine Only.ite ?_ ?_
    · refine Only.ite ?_ ?_
      · extract_lets +onlyGivenNames y9
        refine Only.have y9 ?_ fun hy9 => ?_
        · subst y9
          split
          · refine Only.ite ?_ ?_
            · refine (only_writeSrds ..).over (Covers.any 2031 rfl) ?_
              exact Only.refl _
            · refine (only_updFrame ..).over (Covers.any 32 rfl) ?_
              exact Only.refl _
          · refine (only_updFrame ..).over (Covers.any 32 rfl) ?_
            exact Only.refl _
        clear_value y9
        refine (only_tryComplete ..).over (Covers.any 48 rfl) ?_
        refine (only_updFrame ..).over (Covers.any 32 rfl) ?_
        exact hy9
      · exact Only.refl _
    · refine Only.ite ?_ ?_
      · exact Only.refl _
      · extract_lets +onlyGivenNames y10
        refine Only.have y10 ?_ fun hy10 => ?_
        · subst y10
          split
          · refine Only.ite ?_ ?_
            · refine (only_writeSrds ..).over (Covers.any 2031 rfl) ?_
              refine (only_openFrame ..).over (Covers.any 32 rfl) ?_
              exact Only.refl _
            · refine (only_updFrame ..).over (Covers.any 32 rfl) ?_
              refine (only_openFrame ..).over (Covers.any 32 rfl) ?_
              exact Only.refl _
          · refine (only_updFrame ..).over (Covers.any 32 rfl) ?_
            refine (only_openFrame ..).over (Covers.any 32 rfl) ?_
            exact Only.refl _
        clear_value y10
        refine (only_tryComplete ..).over (Covers.any 48 rfl) ?_
        refine (only_updFrame ..).over (Covers.any 32 rfl) ?_
        exact hy10

theorem only_deliver (s : State) (f) (p) (d) (i) (t) :
    Only [.free, .irqOwed, .mem, .bad, .heads, .vids, .flows, .ads, .pls, .cues, .evt, .fc, .sl] none s (State.deliver s f p d i
      t) := by
  unfold State.deliver
  refine Only.ite ?_ ?_
  · refine (only_videoPacket ..).over (Covers.any 8062 rfl) ?_
    exact Only.refl _
  · extract_lets +onlyGivenNames y0
    refine Only.have y0.2 ?_ fun hy0 => ?_
    · subst y0
      refine (only_fresh ..).over (Covers.any 1 rfl) ?_
      exact Only.refl _
    clear_value y0
    refine (only_adReceive ..).over (Covers.any 7826 rfl) ?_
    exact hy0

theorem only_dmOp {A : List Area} {R : Option (List Reg)} {s x : State} {n w f} (hc : Covers A R [.irqOwed, .heads, .cues, .evt,
    .fc, .sl] (some [.CU_ECAUSE, .CU_EDATA, .CU_EPC, .CU_EVT_OVR, .CU_PC, .CU_STAT, .CU_TRAP_CNT, .FC_CLEAR_REJ, .FC_CNT,
    .FC_FIRST_ID, .FC_FIRST_ORG, .FC_FIRST_TAI_NS, .FC_FIRST_TAI_SH, .FC_FIRST_TAI_SL, .FC_LAT, .FC_OVF, .FC_SUPPRESSED,
    .xx_STATUS])) (h :
    Only A R s x)
    (hf : ∀ y, Only A R s y → ∀ i, Only A R s (f i y)) : Only A R s (x.dmOp n w f) := by
  unfold State.dmOp
  extract_lets +onlyGivenNames i
  clear_value i
  split
  · exact (show Only [.irqOwed, .heads, .cues, .evt, .fc, .sl] (some [.CU_ECAUSE, .CU_EDATA, .CU_EPC, .CU_EVT_OVR, .CU_PC, .CU_STAT, .CU_TRAP_CNT, .FC_CLEAR_REJ, .FC_CNT, .FC_FIRST_ID, .FC_FIRST_ORG, .FC_FIRST_TAI_NS, .FC_FIRST_TAI_SH, .FC_FIRST_TAI_SL, .FC_LAT, .FC_OVF, .FC_SUPPRESSED, .xx_STATUS]) x (x.trapNow n 1 i) from (only_trapNow ..).over (Covers.some 63 262143 rfl rfl) (Only.refl _)).over hc h
  · exact hf _ h _

theorem only_dropSlots (s : State) (bad) : Only [.cl] (some []) s (State.dropSlots s bad) := by
  unfold State.dropSlots
  extract_lets +onlyGivenNames y0
  clear_value y0
  extract_lets +onlyGivenNames y1
  clear_value y1
  extract_lets +onlyGivenNames y2
  clear_value y2
  refine Only.cl 0 rfl ?_
  exact Only.refl _

theorem only_keepFloor (s : State) : Only [.dv, .cl] (some [.CL_STAT]) s (State.keepFloor s) := by
  unfold State.keepFloor
  refine Only.ite ?_ ?_
  · refine (only_requestControl ..).over (Covers.some 3 1 rfl rfl) ?_
    exact Only.refl _
  · exact Only.refl _

theorem only_flush (s : State) :
    Only [.out, .irqOwed, .mem, .bad, .dv, .heads, .pls, .cues, .evt, .fc, .sl, .cl] (some [.CE_PL_S_STAT, .CE_PL_WR_DENY,
      .CL_STAT, .CU_EVT_OVR, .FC_CLEAR_REJ, .FC_CNT, .FC_FIRST_ID, .FC_FIRST_ORG, .FC_FIRST_TAI_NS, .FC_FIRST_TAI_SH,
      .FC_FIRST_TAI_SL, .FC_LAT, .FC_OVF, .FC_SUPPRESSED, .SL_LOST, .SL_STREAM_LOST, .SL_STREAM_WR, .xx_STATUS]) s (State.flush
      s) := by
  unfold State.flush
  refine Only.ite ?_ ?_
  · exact Only.refl _
  · extract_lets +onlyGivenNames y0
    clear_value y0
    refine (only_keepFloor ..).over (Covers.some 2064 4 rfl rfl) ?_
    refine (only_streamAll ..).over (Covers.some 2031 245755 rfl rfl) ?_
    refine Only.foldl ?_ fun y1 _ hy1 => ?_
    · refine Only.sl 10 rfl ?_
      exact Only.refl _
    · refine (only_issue ..).over (Covers.some 4018 163836 rfl rfl) ?_
      exact hy1

theorem only_trimStamps (s : State) (p) :
    Only [.irqOwed, .tb, .heads, .cues, .evt, .fc, .sl] (some [.CU_EVT_OVR, .FC_CLEAR_REJ, .FC_CNT, .FC_FIRST_ID, .FC_FIRST_ORG,
      .FC_FIRST_TAI_NS, .FC_FIRST_TAI_SH, .FC_FIRST_TAI_SL, .FC_LAT, .FC_OVF, .FC_SUPPRESSED, .TB_TSQ_DEPTH, .xx_STATUS]) s
      (State.trimStamps s p) := by
  unfold State.trimStamps
  extract_lets +onlyGivenNames y0
  clear_value y0
  refine Only.ite ?_ ?_
  · exact Only.refl _
  · extract_lets +onlyGivenNames y1
    clear_value y1
    extract_lets +onlyGivenNames y2
    refine Only.have y2 ?_ fun hy2 => ?_
    · subst y2
      refine Only.tb 1 rfl ?_
      exact Only.refl _
    clear_value y2
    refine Only.foldl ?_ fun y3 _ hy3 => ?_
    · exact hy2
    · refine (only_raise ..).over (Covers.some 125 6143 rfl rfl) ?_
      refine (only_latch ..).over (Covers.some 1 4096 rfl rfl) ?_
      refine Only.count .TB_TSQ_DEPTH 11 rfl rfl ?_
      exact hy3

theorem only_endTick (s : State) :
    Only [.out, .irqOwed, .mem, .bad, .dv, .tb, .heads, .pls, .cues, .evt, .fc, .sl, .cl] (some [.CE_PL_S_STAT, .CE_PL_WR_DENY,
      .CL_STAT, .CU_EVT_OVR, .FC_CLEAR_REJ, .FC_CNT, .FC_FIRST_ID, .FC_FIRST_ORG, .FC_FIRST_TAI_NS, .FC_FIRST_TAI_SH,
      .FC_FIRST_TAI_SL, .FC_LAT, .FC_OVF, .FC_SUPPRESSED, .SL_LOST, .SL_STREAM_LOST, .SL_STREAM_WR, .TB_TSQ_DEPTH, .xx_STATUS])
      s (State.endTick s) := by
  unfold State.endTick
  refine (only_flush ..).over (Covers.some 8159 393215 rfl rfl) ?_
  refine Only.foldl ?_ fun y0 _ hy0 => ?_
  · exact Only.refl _
  · refine (only_trimStamps ..).over (Covers.some 3938 409592 rfl rfl) ?_
    exact hy0

theorem only_enterHeld (s : State) (c) : Only allAreas none s (State.enterHeld s c) := by
  unfold State.enterHeld
  extract_lets +onlyGivenNames y0
  clear_value y0
  refine Only.foldl ?_ fun y1 _ hy1 => ?_
  · refine Only.slowHold 8 rfl ?_
    exact Only.refl _
  · refine (only_busWrite ..).over (Covers.any 1125899906842623 rfl) ?_
    exact hy1

theorem only_enterMaint (s : State) (reason) :
    Only [.out, .irqOwed, .mem, .bad, .dv, .heads, .pls, .cues, .evt, .fc, .sl] (some [.CE_PL_S_STAT, .CE_PL_WR_DENY,
      .CU_EVT_OVR, .DV_BOOT_STAT, .FC_CLEAR_REJ, .FC_CNT, .FC_FIRST_ID, .FC_FIRST_ORG, .FC_FIRST_TAI_NS, .FC_FIRST_TAI_SH,
      .FC_FIRST_TAI_SL, .FC_LAT, .FC_OVF, .FC_SUPPRESSED, .SL_STREAM_LOST, .SL_STREAM_WR, .xx_STATUS]) s (State.enterMaint s
      reason) := by
  unfold State.enterMaint
  extract_lets +onlyGivenNames y0
  refine Only.have y0 ?_ fun hy0 => ?_
  · subst y0
    refine (only_updDv ..).over (Covers.some 16 0 rfl rfl) ?_
    refine Only.set .DV_BOOT_STAT 3 rfl rfl ?_
    exact Only.refl _
  clear_value y0
  refine (only_completeReset ..).over (Covers.some 2031 131063 rfl rfl) ?_
  exact hy0

theorem only_enterSafe (s : State) (n) :
    Only [.irqOwed, .heads, .engines, .groups, .ads, .layers, .pls, .cues, .evt] (some [.CE_CDET, .CE_CSTAT, .CE_L_FENCE_STAT,
      .CE_L_SHOWN_HI, .CE_L_SHOWN_LO, .CE_PL_CSTAT, .CK_STAT, .CU_EVT_OVR, .HD_STAT, .xx_STATUS]) s (State.enterSafe s n) := by
  unfold State.enterSafe
  extract_lets +onlyGivenNames y0
  clear_value y0
  extract_lets +onlyGivenNames y1
  refine Only.have y1 ?_ fun hy1 => ?_
  · subst y1
    refine (only_hidePl ..).over (Covers.some 64 96 rfl rfl) ?_
    refine (only_latch ..).over (Covers.some 1 512 rfl rfl) ?_
    refine (only_moveHead ..).over (Covers.some 510 447 rfl rfl) ?_
    exact Only.refl _
  clear_value y1
  refine (only_updHead ..).over (Covers.some 2 0 rfl rfl) ?_
  exact hy1

theorem only_extractAnc (s : State) (i) (l) :
    Only [.irqOwed, .heads, .ads, .cues, .evt, .fc, .sl] (some [.AD_LOST, .AD_OVF, .AD_STAT, .CU_EVT_OVR, .FC_CLEAR_REJ,
      .FC_CNT, .FC_FIRST_ID, .FC_FIRST_ORG, .FC_FIRST_TAI_NS, .FC_FIRST_TAI_SH, .FC_FIRST_TAI_SL, .FC_LAT, .FC_OVF,
      .FC_SUPPRESSED, .xx_STATUS]) s (State.extractAnc s i l) := by
  unfold State.extractAnc
  refine Only.foldl ?_ fun y0 _ hy0 => ?_
  · exact Only.refl _
  · refine Only.ite ?_ ?_
    · extract_lets +onlyGivenNames y1
      clear_value y1
      refine Only.ite ?_ ?_
      · exact hy0
      · refine (only_adReceive ..).over (Covers.some 127 32767 rfl rfl) ?_
        exact hy0
    · exact hy0

theorem only_failGroup (s : State) (members) (sets) (serial) (bad) (v) :
    Only [.irqOwed, .heads, .engines, .groups, .cues, .evt, .fc, .sl] (some [.CE_ADM_FAIL_LIMIT, .CE_ADM_FAIL_NEED, .CE_CDET,
      .CE_CREJ, .CE_CSTAT, .CU_EVT_OVR, .FC_CLEAR_REJ, .FC_CNT, .FC_FIRST_ID, .FC_FIRST_ORG, .FC_FIRST_TAI_NS, .FC_FIRST_TAI_SH,
      .FC_FIRST_TAI_SL, .FC_LAT, .FC_OVF, .FC_SUPPRESSED, .xx_STATUS]) s (State.failGroup s members sets serial bad v) := by
  unfold State.failGroup
  extract_lets +onlyGivenNames y0
  refine Only.have y0 ?_ fun hy0 => ?_
  · subst y0
    refine Only.foldl ?_ fun y1 _ hy1 => ?_
    · exact Only.refl _
    · refine (only_setChecks ..).over (Covers.some 4 0 rfl rfl) ?_
      exact hy1
  clear_value y0
  extract_lets +onlyGivenNames y2
  refine Only.have y2 ?_ fun hy2 => ?_
  · subst y2
    refine Only.groups 3 rfl ?_
    exact hy0
  clear_value y2
  extract_lets +onlyGivenNames y3
  refine Only.have y3 ?_ fun hy3 => ?_
  · subst y3
    refine Only.foldl ?_ fun y4 _ hy4 => ?_
    · exact hy2
    · split
      · refine Only.ite ?_ ?_
        · refine (only_rejectSet ..).over (Covers.some 243 131071 rfl rfl) ?_
          exact hy4
        · refine (only_rejectSet ..).over (Covers.some 243 131071 rfl rfl) ?_
          exact hy4
      · exact hy4
  clear_value y3
  refine Only.foldl ?_ fun y5 _ hy5 => ?_
  · exact hy3
  · refine (only_startCheck ..).over (Covers.some 5 65536 rfl rfl) ?_
    exact hy5

theorem only_fecErrors (s : State) (p) (corrected) (uncorrectable) :
    Only [.irqOwed] (some [.NP_FEC_CORR, .NP_FEC_UNCORR, .xx_STATUS]) s (State.fecErrors s p corrected uncorrectable) := by
  unfold State.fecErrors
  refine Only.ite ?_ ?_
  · exact Only.refl _
  · extract_lets +onlyGivenNames y0
    refine Only.have y0 ?_ fun hy0 => ?_
    · subst y0
      refine Only.count .NP_FEC_UNCORR 1 rfl rfl ?_
      refine Only.count .NP_FEC_CORR 0 rfl rfl ?_
      exact Only.refl _
    clear_value y0
    refine Only.ite ?_ ?_
    · exact hy0
    · refine (only_latch ..).over (Covers.some 1 4 rfl rfl) ?_
      exact hy0

theorem only_fetchAhead (s : State) (n) (f) (l) :
    Only [.out, .irqOwed, .eff, .waiting, .heads, .dts, .layers, .pls, .cues, .evt, .fc, .sl] (some [.CE_ADM_CULL,
      .CE_ADM_PEAK_B, .CE_ADM_PEAK_LP, .CE_ADM_PEAK_RES, .CE_CDET, .CE_CSTAT, .CE_L_FENCE_STAT, .CE_L_INGEST_AGE,
      .CE_L_NOTREADY_CNT, .CE_L_SHOWN_HI, .CE_L_SHOWN_LO, .CE_PL_CSTAT, .CE_PL_FAILS, .CE_VINT_APP, .CU_EVT_OVR, .FC_CLEAR_REJ,
      .FC_CNT, .FC_FIRST_ID, .FC_FIRST_ORG, .FC_FIRST_TAI_NS, .FC_FIRST_TAI_SH, .FC_FIRST_TAI_SL, .FC_LAT, .FC_OVF,
      .FC_SUPPRESSED, .xx_STATUS]) s (State.fetchAhead s n f l) := by
  unfold State.fetchAhead
  extract_lets +onlyGivenNames y0
  clear_value y0
  extract_lets +onlyGivenNames y1
  clear_value y1
  extract_lets +onlyGivenNames y2
  clear_value y2
  extract_lets +onlyGivenNames y3
  subst y3
  extract_lets +onlyGivenNames y4
  clear_value y4
  extract_lets +onlyGivenNames y5
  clear_value y5
  extract_lets +onlyGivenNames y6
  clear_value y6
  refine Only.ite ?_ ?_
  · refine (only_fetchLine ..).over (Covers.some 4095 67108863 rfl rfl) ?_
    exact Only.refl _
  · exact Only.refl _

theorem only_finish (s : State) : Only [.out, .irqOwed, .msix] (some []) s s.finish := by
  unfold State.finish
  refine Only.irqOwed 1 rfl ?_
  exact Only.foldl (Only.refl _) fun y b hy => (only_interrupt ..).over (Covers.some 5 0 rfl rfl) hy

theorem only_setVerdict (s : State) (n) (i) (v) : Only [] (some [.CE_PL_S_STAT]) s (State.setVerdict s n i v) := by
  unfold State.setVerdict
  refine Only.set .CE_PL_S_STAT 0 rfl rfl ?_
  refine Only.set .CE_PL_S_STAT 0 rfl rfl ?_
  exact Only.refl _

theorem only_fixVerdict (s : State) (n) : Only [.pls] (some [.CE_PL_S_STAT]) s (State.fixVerdict s n) := by
  unfold State.fixVerdict
  extract_lets +onlyGivenNames y0
  clear_value y0
  refine Only.ite ?_ ?_
  · exact Only.refl _
  · split
    · refine (only_setPl ..).over (Covers.some 1 0 rfl rfl) ?_
      exact Only.refl _
    · refine Only.ite ?_ ?_
      · refine (only_setVerdict ..).over (Covers.some 0 1 rfl rfl) ?_
        refine (only_setPl ..).over (Covers.some 1 0 rfl rfl) ?_
        exact Only.refl _
      · exact Only.refl _

theorem only_flatLine (s : State) (n) (f) (line) (row) :
    Only [.out, .heads] (some [.HD_PHASE, .HD_RASTER]) s (State.flatLine s n f line row) := by
  unfold State.flatLine
  extract_lets +onlyGivenNames y0
  clear_value y0
  refine Only.ite ?_ ?_
  · refine Only.foldl ?_ fun y1 _ hy1 => ?_
    · exact Only.refl _
    · refine Only.ite ?_ ?_
      · refine (only_sendRow ..).over (Covers.some 3 3 rfl rfl) ?_
        exact hy1
      · exact hy1
  · refine (only_sdiLine ..).over (Covers.some 1 3 rfl rfl) ?_
    exact Only.refl _

theorem only_police (s : State) (f) (l) (t) :
    Only [.irqOwed, .heads, .flows, .cues, .evt, .fc, .sl] (some [.CU_EVT_OVR, .FC_CLEAR_REJ, .FC_CNT, .FC_FIRST_ID,
      .FC_FIRST_ORG, .FC_FIRST_TAI_NS, .FC_FIRST_TAI_SH, .FC_FIRST_TAI_SL, .FC_LAT, .FC_OVF, .FC_SUPPRESSED, .NR_POL_DROP,
      .xx_STATUS]) s (State.police s f l t).1 := by
  unfold State.police
  refine Only.ite1 ?_ ?_
  · refine Only.fst ?_
    exact Only.refl _
  · extract_lets +onlyGivenNames y0
    clear_value y0
    refine Only.ite1 ?_ ?_
    · refine Only.fst ?_
      refine (only_updFlow ..).over (Covers.some 4 0 rfl rfl) ?_
      exact Only.refl _
    · extract_lets +onlyGivenNames y1
      subst y1
      extract_lets +onlyGivenNames y2
      refine Only.have y2 ?_ fun hy2 => ?_
      · subst y2
        refine Only.count .NR_POL_DROP 11 rfl rfl ?_
        refine (only_updFlow ..).over (Covers.some 4 0 rfl rfl) ?_
        exact Only.refl _
      clear_value y2
      refine Only.fst ?_
      refine Only.ite ?_ ?_
      · refine (only_raise ..).over (Covers.some 123 6143 rfl rfl) ?_
        refine (only_latch ..).over (Covers.some 1 4096 rfl rfl) ?_
        exact hy2
      · exact hy2

theorem only_missing (s : State) (f) (n) : Only [] (some [.NR_ERRS]) s (State.missing s f n) := by
  unfold State.missing
  refine Only.count .NR_ERRS 0 rfl rfl ?_
  exact Only.refl _

theorem only_merge (s : State) (f) (range) (n) : Only [.flows] (some [.NR_ERRS]) s (State.merge s f range n).1 := by
  unfold State.merge
  extract_lets +onlyGivenNames y0
  clear_value y0
  split
  · refine Only.fst ?_
    refine (only_setFlow ..).over (Covers.some 1 0 rfl rfl) ?_
    exact Only.refl _
  · extract_lets +onlyGivenNames y1
    clear_value y1
    extract_lets +onlyGivenNames y2
    clear_value y2
    refine Only.ite1 ?_ ?_
    · refine Only.fst ?_
      exact Only.refl _
    · refine Only.ite1 ?_ ?_
      · extract_lets +onlyGivenNames y3
        clear_value y3
        extract_lets +onlyGivenNames y4
        clear_value y4
        extract_lets +onlyGivenNames y5
        refine Only.have y5 ?_ fun hy5 => ?_
        · subst y5
          refine (only_setFlow ..).over (Covers.some 1 0 rfl rfl) ?_
          exact Only.refl _
        clear_value y5
        extract_lets +onlyGivenNames y6
        clear_value y6
        refine Only.fst ?_
        refine Only.ite ?_ ?_
        · exact hy5
        · refine (only_missing ..).over (Covers.some 0 1 rfl rfl) ?_
          exact hy5
      · extract_lets +onlyGivenNames y7
        clear_value y7
        refine Only.ite1 ?_ ?_
        · refine Only.fst ?_
          exact Only.refl _
        · refine Only.fst ?_
          refine (only_setFlow ..).over (Covers.some 1 0 rfl rfl) ?_
          exact Only.refl _

theorem only_mergeInto (s : State) (f) (p) (d) (i) (t) :
    Only [.free, .irqOwed, .mem, .bad, .heads, .vids, .flows, .ads, .pls, .cues, .evt, .fc, .sl] none s (State.mergeInto s f p d
      i t) := by
  unfold State.mergeInto
  extract_lets +onlyGivenNames y0
  subst y0
  extract_lets +onlyGivenNames y1
  clear_value y1
  extract_lets +onlyGivenNames y2
  refine Only.have y2.1 ?_ fun hy2 => ?_
  · subst y2
    refine Only.ite1 ?_ ?_
    · refine (only_merge ..).over (Covers.any 64 rfl) ?_
      exact Only.refl _
    · refine (only_merge ..).over (Covers.any 64 rfl) ?_
      exact Only.refl _
  clear_value y2
  refine Only.ite ?_ ?_
  · refine (only_deliver ..).over (Covers.any 8191 rfl) ?_
    exact hy2
  · exact hy2

theorem only_flowFrame (s : State) (f) (p) (l) (d) (i) (t) :
    Only [.free, .out, .irqOwed, .mem, .bad, .heads, .vids, .flows, .ads, .hqs, .pls, .cues, .evt, .fc, .sl] none s
      (State.flowFrame s f p l d i t) := by
  unfold State.flowFrame
  extract_lets +onlyGivenNames y0
  refine Only.have y0.1 ?_ fun hy0 => ?_
  · subst y0
    refine (only_police ..).over (Covers.any 30884 rfl) ?_
    exact Only.refl _
  clear_value y0
  extract_lets +onlyGivenNames y1
  refine Only.have y1 ?_ fun hy1 => ?_
  · subst y1
    exact hy0
  clear_value y1
  refine Only.ite ?_ ?_
  · exact hy1
  · extract_lets +onlyGivenNames y2
    refine Only.have y2 ?_ fun hy2 => ?_
    · subst y2
      refine (only_updFlow ..).over (Covers.any 128 rfl) ?_
      refine Only.countAny ?_
      exact hy1
    clear_value y2
    split
    · refine (only_mergeInto ..).over (Covers.any 32253 rfl) ?_
      exact hy2
    · refine (only_mergeInto ..).over (Covers.any 32253 rfl) ?_
      exact hy2
    · refine (only_ringReceive ..).over (Covers.any 31270 rfl) ?_
      exact hy2
    · extract_lets +onlyGivenNames y3
      clear_value y3
      refine Only.ite ?_ ?_
      · refine (only_mergeInto ..).over (Covers.any 32253 rfl) ?_
        exact hy2
      · exact hy2
    · exact hy2

theorem only_flrReset (s : State) (f) :
    Only [.irqOwed, .eff, .waiting, .w1, .msix, .dv, .mbx, .hqs] none s (State.flrReset s f) := by
  unfold State.flrReset
  extract_lets +onlyGivenNames y0
  refine Only.have y0 ?_ fun hy0 => ?_
  · subst y0
    refine Only.msix 4 rfl ?_
    exact Only.refl _
  clear_value y0
  extract_lets +onlyGivenNames y1
  refine Only.have y1 ?_ fun hy1 => ?_
  · subst y1
    refine (only_clearMbx ..).over (Covers.any 64 rfl) ?_
    exact hy0
  clear_value y1
  extract_lets +onlyGivenNames y2
  clear_value y2
  extract_lets +onlyGivenNames y3
  refine Only.have y3 ?_ fun hy3 => ?_
  · subst y3
    refine Only.foldl ?_ fun y4 _ hy4 => ?_
    · exact hy1
    · refine (only_setHq ..).over (Covers.any 128 rfl) ?_
      refine (only_clearKeys ..).over (Covers.any 14 rfl) ?_
      exact hy4
  clear_value y3
  extract_lets +onlyGivenNames y5
  refine Only.have y5 ?_ fun hy5 => ?_
  · subst y5
    refine (only_updDv ..).over (Covers.any 32 rfl) ?_
    exact hy3
  clear_value y5
  refine Only.ite ?_ ?_
  · exact hy5
  · refine (only_latch ..).over (Covers.any 1 rfl) ?_
    exact hy5

theorem only_fly (s : State) (r) (d) (result) : Only [.hqs] (some [.HQ_STAT]) s (State.fly s r d result) := by
  unfold State.fly
  refine Only.set .HQ_STAT 0 rfl rfl ?_
  refine (only_updHq ..).over (Covers.some 1 0 rfl rfl) ?_
  exact Only.refl _

theorem only_gateIdle (s : State) : Only [.ps] (some [.PS_DOMAINS]) s (State.gateIdle s) := by
  unfold State.gateIdle
  refine (only_setGated ..).over (Covers.some 1 1 rfl rfl) ?_
  exact Only.refl _

theorem only_glDiscard (s : State) (h) : Only allAreas none s (State.glDiscard s h) := by
  unfold State.glDiscard
  split
  · refine Only.ite ?_ ?_
    · refine (only_keyWrite ..).over (Covers.any 1125899906842623 rfl) ?_
      exact Only.refl _
    · exact Only.refl _
  · exact Only.refl _

theorem only_glEndShare (s : State) (h) (outcome) (reason) (member) :
    Only allAreas none s (State.glEndShare s h outcome reason member) := by
  unfold State.glEndShare
  split
  · exact Only.refl _
  · extract_lets +onlyGivenNames y0
    clear_value y0
    extract_lets +onlyGivenNames y1
    refine Only.have y1 ?_ fun hy1 => ?_
    · subst y1
      refine (only_updGl ..).over (Covers.any 70368744177664 rfl) ?_
      exact Only.refl _
    clear_value y1
    extract_lets +onlyGivenNames y2
    refine Only.have y2 ?_ fun hy2 => ?_
    · subst y2
      refine Only.ite ?_ ?_
      · refine (only_addShare ..).over (Covers.any 70368744177664 rfl) ?_
        exact hy1
      · refine (only_glDiscard ..).over (Covers.any 1125899906842623 rfl) ?_
        exact hy1
    clear_value y2
    refine (only_glOutcome ..).over (Covers.any 493697900871692 rfl) ?_
    exact hy2

theorem only_glTakeAbort (s : State) (cid) (reason) (member) : Only allAreas none s (State.glTakeAbort s cid reason member) := by
  unfold State.glTakeAbort
  split
  · exact Only.refl _
  · refine (only_glEndShare ..).over (Covers.any 1125899906842623 rfl) ?_
    exact Only.refl _

theorem only_glCast (s : State) (type) (body) : Only [.out, .gl] (some []) s (State.glCast s type body) := by
  unfold State.glCast
  refine (only_glSend ..).over (Covers.some 3 0 rfl rfl) ?_
  exact Only.refl _

theorem only_glAbortAll (s : State) (cid) (reason) (member) : Only allAreas none s (State.glAbortAll s cid reason member) := by
  unfold State.glAbortAll
  extract_lets +onlyGivenNames y0
  refine Only.have y0 ?_ fun hy0 => ?_
  · subst y0
    refine (only_updGl ..).over (Covers.any 70368744177664 rfl) ?_
    exact Only.refl _
  clear_value y0
  refine (only_glTakeAbort ..).over (Covers.any 1125899906842623 rfl) ?_
  refine (only_glCast ..).over (Covers.any 70368744177668 rfl) ?_
  exact hy0

theorem only_glTakeCommit (s : State) (cid) (t) : Only allAreas none s (State.glTakeCommit s cid t) := by
  unfold State.glTakeCommit
  split
  · exact Only.refl _
  · split
    · exact Only.refl _
    · refine Only.ite ?_ ?_
      · refine (only_glEndShare ..).over (Covers.any 1125899906842623 rfl) ?_
        exact Only.refl _
      · extract_lets +onlyGivenNames y0
        clear_value y0
        extract_lets +onlyGivenNames y1
        refine Only.have y1 ?_ fun hy1 => ?_
        · subst y1
          refine (only_addShare ..).over (Covers.any 70368744177664 rfl) ?_
          exact Only.refl _
        clear_value y1
        extract_lets +onlyGivenNames y2
        refine Only.have y2 ?_ fun hy2 => ?_
        · subst y2
          refine (only_keyWrite ..).over (Covers.any 1125899906842623 rfl) ?_
          exact hy1
        clear_value y2
        extract_lets +onlyGivenNames y3
        refine Only.have y3 ?_ fun hy3 => ?_
        · subst y3
          refine (only_keyWrite ..).over (Covers.any 1125899906842623 rfl) ?_
          exact hy2
        clear_value y3
        refine (only_glShow ..).over (Covers.any 0 rfl) ?_
        refine (only_keyWrite ..).over (Covers.any 1125899906842623 rfl) ?_
        exact hy3

theorem only_glTryCommit (s : State) : Only allAreas none s (State.glTryCommit s) := by
  unfold State.glTryCommit
  split
  · exact Only.refl _
  · refine Only.ite ?_ ?_
    · extract_lets +onlyGivenNames y0
      refine Only.have y0 ?_ fun hy0 => ?_
      · subst y0
        refine (only_updGl ..).over (Covers.any 70368744177664 rfl) ?_
        exact Only.refl _
      clear_value y0
      refine (only_glTakeCommit ..).over (Covers.any 1125899906842623 rfl) ?_
      refine (only_glCast ..).over (Covers.any 70368744177668 rfl) ?_
      exact hy0
    · exact Only.refl _

theorem only_glTakeAck (s : State) (i) (cid) : Only allAreas none s (State.glTakeAck s i cid) := by
  unfold State.glTakeAck
  split
  · refine Only.ite ?_ ?_
    · refine (only_glTryCommit ..).over (Covers.any 1125899906842623 rfl) ?_
      refine (only_updGl ..).over (Covers.any 70368744177664 rfl) ?_
      exact Only.refl _
    · exact Only.refl _
  · exact Only.refl _

theorem only_glTakeNak (s : State) (i) (cid) (reason) : Only allAreas none s (State.glTakeNak s i cid reason) := by
  unfold State.glTakeNak
  refine Only.ite ?_ ?_
  · refine (only_glAbortAll ..).over (Covers.any 1125899906842623 rfl) ?_
    exact Only.refl _
  · exact Only.refl _

theorem only_glAnswer (s : State) (h) (nak) : Only allAreas none s (State.glAnswer s h nak) := by
  unfold State.glAnswer
  split
  · extract_lets +onlyGivenNames y0
    refine Only.have y0 ?_ fun hy0 => ?_
    · subst y0
      refine Only.ite ?_ ?_
      · refine (only_glShow ..).over (Covers.any 0 rfl) ?_
        exact Only.refl _
      · exact Only.refl _
    clear_value y0
    refine Only.ite ?_ ?_
    · refine (only_glTakeAck ..).over (Covers.any 1125899906842623 rfl) ?_
      exact hy0
    · refine (only_glToLeader ..).over (Covers.any 70368744177668 rfl) ?_
      exact hy0
  · refine Only.ite ?_ ?_
    · refine (only_glTakeNak ..).over (Covers.any 1125899906842623 rfl) ?_
      exact Only.refl _
    · extract_lets +onlyGivenNames y1
      clear_value y1
      extract_lets +onlyGivenNames y2
      clear_value y2
      extract_lets +onlyGivenNames y3
      clear_value y3
      extract_lets +onlyGivenNames y4
      subst y4
      refine (only_glToLeader ..).over (Covers.any 70368744177668 rfl) ?_
      exact Only.refl _

theorem only_glAnswer1 (s : State) (h) : Only allAreas none s (State.glAnswer1 s h) := by
  unfold State.glAnswer1
  extract_lets +onlyGivenNames y0
  subst y0
  beta_reduce
  extract_lets +onlyGivenNames y1
  clear_value y1
  split
  · refine Only.ite ?_ ?_
    · refine (only_glDiscard ..).over (Covers.any 1125899906842623 rfl) ?_
      refine (only_updGl ..).over (Covers.any 70368744177664 rfl) ?_
      exact Only.refl _
    · refine Only.ite ?_ ?_
      · exact Only.refl _
      · refine (only_updGl ..).over (Covers.any 70368744177664 rfl) ?_
        exact Only.refl _
  · refine Only.ite ?_ ?_
    · refine (only_glAnswer ..).over (Covers.any 1125899906842623 rfl) ?_
      refine (only_updGl ..).over (Covers.any 70368744177664 rfl) ?_
      exact Only.refl _
    · exact Only.refl _
  · refine Only.ite ?_ ?_
    · exact Only.refl _
    · refine Only.ite ?_ ?_
      · refine (only_glAnswer ..).over (Covers.any 1125899906842623 rfl) ?_
        refine (only_addShare ..).over (Covers.any 70368744177664 rfl) ?_
        exact Only.refl _
      · refine Only.ite ?_ ?_
        · exact Only.refl _
        · refine (only_glAnswer ..).over (Covers.any 1125899906842623 rfl) ?_
          refine (only_updGl ..).over (Covers.any 70368744177664 rfl) ?_
          exact Only.refl _

theorem only_newCid (s : State) : Only [.free, .gl] (some []) s (State.newCid s).2 := by
  unfold State.newCid
  extract_lets +onlyGivenNames y0
  refine Only.have y0.2 ?_ fun hy0 => ?_
  · subst y0
    refine (only_fresh ..).over (Covers.some 1 0 rfl rfl) ?_
    exact Only.refl _
  clear_value y0
  extract_lets +onlyGivenNames y1
  clear_value y1
  extract_lets +onlyGivenNames y2
  clear_value y2
  refine Only.snd ?_
  refine (only_updGl ..).over (Covers.some 2 0 rfl rfl) ?_
  exact hy0

theorem only_glPrepareShare (s : State) (m) : Only allAreas none s (State.glPrepareShare s m) := by
  unfold State.glPrepareShare
  extract_lets +onlyGivenNames y0
  refine Only.have y0 ?_ fun hy0 => ?_
  · subst y0
    refine Only.setAny ?_
    refine Only.wrAny ?_
    refine Only.wrAny ?_
    exact Only.refl _
  clear_value y0
  extract_lets +onlyGivenNames y1
  refine Only.have y1 ?_ fun hy1 => ?_
  · subst y1
    refine Only.wrAny ?_
    exact hy0
  clear_value y1
  extract_lets +onlyGivenNames y2
  clear_value y2
  extract_lets +onlyGivenNames y3
  clear_value y3
  split
  · refine (only_addShare ..).over (Covers.any 70368744177664 rfl) ?_
    exact hy1
  · extract_lets +onlyGivenNames y4
    clear_value y4
    refine Only.ite ?_ ?_
    · refine (only_addShare ..).over (Covers.any 70368744177664 rfl) ?_
      exact hy1
    · extract_lets +onlyGivenNames y5
      clear_value y5
      extract_lets +onlyGivenNames y6
      refine Only.have y6.1 ?_ fun hy6 => ?_
      · subst y6
        refine (only_busWrite ..).over (Covers.any 1125899906842623 rfl) ?_
        exact hy1
      clear_value y6
      refine Only.ite ?_ ?_
      · refine (only_addShare ..).over (Covers.any 70368744177664 rfl) ?_
        exact hy6
      · refine (only_addShare ..).over (Covers.any 70368744177664 rfl) ?_
        exact hy6

theorem only_glAsk (s : State) (group) (t) (family) (tag) (requester) :
    Only allAreas none s (State.glAsk s group t family tag requester) := by
  unfold State.glAsk
  extract_lets +onlyGivenNames y0
  refine Only.have y0.2 ?_ fun hy0 => ?_
  · subst y0
    refine (only_newCid ..).over (Covers.any 70368744177666 rfl) ?_
    exact Only.refl _
  clear_value y0
  extract_lets +onlyGivenNames y1
  clear_value y1
  extract_lets +onlyGivenNames y2
  refine Only.have y2 ?_ fun hy2 => ?_
  · subst y2
    exact hy0
  clear_value y2
  extract_lets +onlyGivenNames y3
  subst y3
  beta_reduce
  refine Only.ite ?_ ?_
  · refine (only_glCast ..).over (Covers.any 70368744177668 rfl) ?_
    exact hy2
  · extract_lets +onlyGivenNames y4
    clear_value y4
    refine Only.ite ?_ ?_
    · refine (only_glCast ..).over (Covers.any 70368744177668 rfl) ?_
      exact hy2
    · extract_lets +onlyGivenNames y5
      refine Only.have y5 ?_ fun hy5 => ?_
      · subst y5
        refine (only_updGl ..).over (Covers.any 70368744177664 rfl) ?_
        exact hy2
      clear_value y5
      extract_lets +onlyGivenNames y6
      refine Only.have y6 ?_ fun hy6 => ?_
      · subst y6
        refine (only_glCast ..).over (Covers.any 70368744177668 rfl) ?_
        exact hy5
      clear_value y6
      refine (only_glPrepareShare ..).over (Covers.any 1125899906842623 rfl) ?_
      exact hy6

theorem only_glReceive {A : List Area} {R : Option (List Reg)} {s x : State} {h free copy f} (hc : Covers A R [.irqOwed, .gl]
    (some [.GL_RX_BAD, .xx_STATUS])) (hx :
    Only A R s x)
    (h1 : ∀ y, Only A R s y → Only A R s (copy y)) (h2 : ∀ y, Only A R s y → Only A R s (f y)) :
    Only A R s (x.glReceive h free copy f) := by
  unfold State.glReceive
  split
  · exact hx
  · split
    · exact (show Only [.irqOwed, .gl] (some [.GL_RX_BAD, .xx_STATUS]) x ((x.count F.GL_RX_BAD_COUNT 1).latch glB 0x20) from
        (only_latch ..).over (Covers.some 1 2 rfl rfl) (Only.count .GL_RX_BAD 0 rfl rfl (Only.refl _))).over hc hx
    · split
      · exact h1 _ hx
      · exact h2 _ ((show Only [.irqOwed, .gl] (some [.GL_RX_BAD, .xx_STATUS]) x (x.updGl _) from (only_updGl ..).over (Covers.some 2 0 rfl rfl) (Only.refl _)).over hc hx)

theorem only_hbmCorrect (s : State) (k) (errors) :
    Only [.irqOwed, .heads, .cues, .evt, .fc, .sl] (some [.CU_EVT_OVR, .FC_CLEAR_REJ, .FC_CNT, .FC_FIRST_ID, .FC_FIRST_ORG,
      .FC_FIRST_TAI_NS, .FC_FIRST_TAI_SH, .FC_FIRST_TAI_SL, .FC_LAT, .FC_OVF, .FC_SUPPRESSED, .xx_STATUS]) s (State.hbmCorrect s
      k errors) := by
  unfold State.hbmCorrect
  extract_lets +onlyGivenNames y0
  subst y0
  extract_lets +onlyGivenNames y1
  clear_value y1
  extract_lets +onlyGivenNames y2
  clear_value y2
  extract_lets +onlyGivenNames y3
  refine Only.have y3 ?_ fun hy3 => ?_
  · subst y3
    refine Only.fc 4 rfl ?_
    exact Only.refl _
  clear_value y3
  refine Only.ite ?_ ?_
  · refine (only_raise ..).over (Covers.some 63 4095 rfl rfl) ?_
    exact hy3
  · exact hy3

theorem only_headLineEvents (s : State) (n) (codes) (line) (f) :
    Only [.heads, .cues] (some []) s (State.headLineEvents s n codes line f) := by
  unfold State.headLineEvents
  refine Only.foldl ?_ fun y0 _ hy0 => ?_
  · exact Only.refl _
  · refine (only_headEvent ..).over (Covers.some 3 0 rfl rfl) ?_
    exact hy0

theorem only_headWait {A : List Area} {R : Option (List Reg)} {s x : State} {n rd f} (hc : Covers A R [.irqOwed, .heads, .cues,
    .cregs, .evt, .fc, .sl] (some [.CU_ECAUSE, .CU_EDATA, .CU_EPC, .CU_EVT_OVR, .CU_PC, .CU_RETIRED, .CU_STAT, .CU_TRAP_CNT,
    .FC_CLEAR_REJ, .FC_CNT, .FC_FIRST_ID, .FC_FIRST_ORG, .FC_FIRST_TAI_NS, .FC_FIRST_TAI_SH, .FC_FIRST_TAI_SL, .FC_LAT, .FC_OVF,
    .FC_SUPPRESSED, .xx_STATUS])) (h :
    Only A R s x)
    (hf : ∀ y, Only A R s y → Only A R s (f y)) : Only A R s (x.headWait n rd f) := by
  unfold State.headWait
  split
  · exact (show Only [.irqOwed, .heads, .cues, .cregs, .evt, .fc, .sl] (some [.CU_ECAUSE, .CU_EDATA, .CU_EPC, .CU_EVT_OVR, .CU_PC, .CU_RETIRED, .CU_STAT, .CU_TRAP_CNT, .FC_CLEAR_REJ, .FC_CNT, .FC_FIRST_ID, .FC_FIRST_ORG, .FC_FIRST_TAI_NS, .FC_FIRST_TAI_SH, .FC_FIRST_TAI_SL, .FC_LAT, .FC_OVF, .FC_SUPPRESSED, .xx_STATUS]) x (x.finishOp n rd (w40 allOnes) 1) from (only_finishOp ..).over (Covers.some 127 524287 rfl rfl) (Only.refl _)).over hc h
  · exact hf _ h

end Sys2Proof.Machine
end

