-- ==== Sys2Proof/Laws/Touch5.lean ====
section
/-! SUPPORT. What each operation touches, part 5 of 7: for every operation the parts of the state and the registers that it
may change. All else stays, and the operation follows the state before it (Only). -/

namespace Sys2Proof.Machine

theorem only_holdHead (s : State) (n) :
    Only [.irqOwed, .heads, .engines, .groups, .ads, .layers, .pls, .cues, .evt] (some [.CE_CDET, .CE_CSTAT, .CE_L_FENCE_STAT,
      .CE_L_SHOWN_HI, .CE_L_SHOWN_LO, .CE_PL_CSTAT, .CK_STAT, .CU_EVT_OVR, .HD_STAT, .xx_STATUS]) s (State.holdHead s n) := by
  unfold State.holdHead
  extract_lets +onlyGivenNames y0
  clear_value y0
  extract_lets +onlyGivenNames y1
  clear_value y1
  refine Only.ite ?_ ?_
  · exact Only.refl _
  · refine Only.ite ?_ ?_
    · refine (only_enterStopped ..).over (Covers.some 511 1023 rfl rfl) ?_
      exact Only.refl _
    · extract_lets +onlyGivenNames y2
      subst y2
      extract_lets +onlyGivenNames y3
      refine Only.have y3 ?_ fun hy3 => ?_
      · subst y3
        refine (only_updHead ..).over (Covers.some 2 0 rfl rfl) ?_
        refine (only_hidePl ..).over (Covers.some 64 96 rfl rfl) ?_
        refine (only_moveHead ..).over (Covers.some 510 447 rfl rfl) ?_
        exact Only.refl _
      clear_value y3
      refine Only.ite ?_ ?_
      · refine (only_latch ..).over (Covers.some 1 512 rfl rfl) ?_
        exact hy3
      · exact hy3

theorem only_holdLoop (s : State) : Only allAreas none s (State.holdLoop s) := by
  unfold State.holdLoop
  split
  · exact Only.refl _
  · extract_lets +onlyGivenNames y0
    clear_value y0
    refine Only.ite ?_ ?_
    · exact Only.refl _
    · refine (only_keyWrite ..).over (Covers.any 1125899906842623 rfl) ?_
      refine (only_updPs ..).over (Covers.any 2199023255552 rfl) ?_
      exact Only.refl _

theorem only_idleLine (s : State) (n) :
    Only [.out, .irqOwed, .eff, .waiting, .heads, .dts, .layers, .pls, .cues, .evt, .fc, .sl] (some [.CE_ADM_CULL,
      .CE_ADM_PEAK_B, .CE_ADM_PEAK_LP, .CE_ADM_PEAK_RES, .CE_CDET, .CE_CSTAT, .CE_L_FENCE_STAT, .CE_L_INGEST_AGE,
      .CE_L_NOTREADY_CNT, .CE_L_SHOWN_HI, .CE_L_SHOWN_LO, .CE_PL_CSTAT, .CE_PL_FAILS, .CE_VINT_APP, .CU_EVT_OVR, .FC_CLEAR_REJ,
      .FC_CNT, .FC_FIRST_ID, .FC_FIRST_ORG, .FC_FIRST_TAI_NS, .FC_FIRST_TAI_SH, .FC_FIRST_TAI_SL, .FC_LAT, .FC_OVF,
      .FC_SUPPRESSED, .HD_PHASE, .HD_RASTER, .xx_STATUS]) s (State.idleLine s n) := by
  unfold State.idleLine
  extract_lets +onlyGivenNames y0
  refine Only.have y0 ?_ fun hy0 => ?_
  · subst y0
    refine (only_onLast ..).over (Covers.some 0 100663296 rfl rfl) ?_
    exact Only.refl _
  clear_value y0
  split
  · exact Only.refl _
  · extract_lets +onlyGivenNames y1
    clear_value y1
    refine Only.ite ?_ ?_
    · exact Only.refl _
    · extract_lets +onlyGivenNames y2
      refine Only.have y2 ?_ fun hy2 => ?_
      · subst y2
        refine (only_updHead ..).over (Covers.some 16 0 rfl rfl) ?_
        exact Only.refl _
      clear_value y2
      extract_lets +onlyGivenNames y3
      refine Only.have y3 ?_ fun hy3 => ?_
      · subst y3
        refine Only.ite ?_ ?_
        · refine (only_destsResume ..).over (Covers.some 16 0 rfl rfl) ?_
          exact hy2
        · exact hy2
      clear_value y3
      extract_lets +onlyGivenNames y4
      refine Only.have y4 ?_ fun hy4 => ?_
      · subst y4
        refine (only_fetchAhead ..).over (Covers.some 4095 167772159 rfl rfl) ?_
        exact hy3
      clear_value y4
      split
      · refine (only_sdiLine ..).over (Covers.some 1 100663296 rfl rfl) ?_
        exact hy4
      · refine (only_flatLine ..).over (Covers.some 17 100663296 rfl rfl) ?_
        exact hy4

theorem only_illOp (s : State) (n) :
    Only [.irqOwed, .heads, .cues, .evt, .fc, .sl] (some [.CU_ECAUSE, .CU_EDATA, .CU_EPC, .CU_EVT_OVR, .CU_PC, .CU_STAT,
      .CU_TRAP_CNT, .FC_CLEAR_REJ, .FC_CNT, .FC_FIRST_ID, .FC_FIRST_ORG, .FC_FIRST_TAI_NS, .FC_FIRST_TAI_SH, .FC_FIRST_TAI_SL,
      .FC_LAT, .FC_OVF, .FC_SUPPRESSED, .xx_STATUS]) s (State.illOp s n) := by
  unfold State.illOp
  extract_lets +onlyGivenNames y0
  clear_value y0
  refine Only.ite ?_ ?_
  · exact Only.refl _
  · refine only_cueInstr (Covers.some 63 262143 rfl rfl) ?_ fun y1 hy1 _ => ?_
    · exact Only.refl _
    · exact hy1

theorem only_jump {A : List Area} {R : Option (List Reg)} {s x : State} {n t f} (hc : Covers A R [.irqOwed, .heads, .cues, .evt,
    .fc, .sl] (some [.CU_ECAUSE, .CU_EDATA, .CU_EPC, .CU_EVT_OVR, .CU_PC, .CU_RETIRED, .CU_STAT, .CU_TRAP_CNT, .FC_CLEAR_REJ,
    .FC_CNT, .FC_FIRST_ID, .FC_FIRST_ORG, .FC_FIRST_TAI_NS, .FC_FIRST_TAI_SH, .FC_FIRST_TAI_SL, .FC_LAT, .FC_OVF,
    .FC_SUPPRESSED, .xx_STATUS])) (h :
    Only A R s x)
    (hf : ∀ y, Only A R s y → Only A R s (f y)) : Only A R s (x.jump n t f) := by
  unfold State.jump
  split
  · exact (show Only [.irqOwed, .heads, .cues, .evt, .fc, .sl] (some [.CU_ECAUSE, .CU_EDATA, .CU_EPC, .CU_EVT_OVR, .CU_PC, .CU_RETIRED, .CU_STAT, .CU_TRAP_CNT, .FC_CLEAR_REJ, .FC_CNT, .FC_FIRST_ID, .FC_FIRST_ORG, .FC_FIRST_TAI_NS, .FC_FIRST_TAI_SH, .FC_FIRST_TAI_SL, .FC_LAT, .FC_OVF, .FC_SUPPRESSED, .xx_STATUS]) x (x.trapNow n 1 (pattern 32 t)) from (only_trapNow ..).over (Covers.some 63 524255 rfl rfl) (Only.refl _)).over hc h
  · exact (show Only [.irqOwed, .heads, .cues, .evt, .fc, .sl] (some [.CU_ECAUSE, .CU_EDATA, .CU_EPC, .CU_EVT_OVR, .CU_PC, .CU_RETIRED, .CU_STAT, .CU_TRAP_CNT, .FC_CLEAR_REJ, .FC_CNT, .FC_FIRST_ID, .FC_FIRST_ORG, .FC_FIRST_TAI_NS, .FC_FIRST_TAI_SH, .FC_FIRST_TAI_SL, .FC_LAT, .FC_OVF, .FC_SUPPRESSED, .xx_STATUS]) (f x) ((f x).retire n 1 t.toNat) from (only_retire ..).over (Covers.some 63 524287 rfl rfl) (Only.refl _)).over hc (hf _ h)

theorem only_keepMemories {t x : State} (h : Only allAreas none t x) : Only allAreas none t (x.keepMemories t) := by
  unfold State.keepMemories
  extract_lets +onlyGivenNames y
  refine Only.have y ?_ fun hy => ?_
  · subst y
    exact ⟨⟨h.follows.pending, h.follows.tick, h.follows.out, h.follows.serial, h.follows.free, id, h.follows.regs⟩, fun a ha => by
      cases a <;> first | exact h.same _ ha | exact absurd (by decide) ha, nofun⟩
  · clear_value y
    exact Only.foldl hy fun z e hz => hz.wrAny

theorem only_putRecord (s : State) (k) (body) : Only [.cl] (some []) s (State.putRecord s k body) := by
  unfold State.putRecord
  extract_lets +onlyGivenNames y0
  clear_value y0
  refine Only.cl 0 rfl ?_
  exact Only.refl _

theorem only_keepRecord (s : State) (r) : Only [.cl] (some []) s (State.keepRecord s r) := by
  unfold State.keepRecord
  extract_lets +onlyGivenNames y0
  refine Only.have y0 ?_ fun hy0 => ?_
  · subst y0
    refine (only_putRecord ..).over (Covers.some 1 0 rfl rfl) ?_
    exact Only.refl _
  clear_value y0
  refine Only.cl 0 rfl ?_
  exact hy0

theorem only_laneErrors (s : State) (l) (errors) : Only [] (some [.LT_SVC_ERR]) s (State.laneErrors s l errors) := by
  unfold State.laneErrors
  refine Only.ite ?_ ?_
  · refine Only.count .LT_SVC_ERR 0 rfl rfl ?_
    exact Only.refl _
  · exact Only.refl _

theorem only_lateWait (s : State) (n) (rd) (late) :
    Only [.irqOwed, .heads, .cues, .cregs, .evt, .fc, .sl] (some [.CU_ECAUSE, .CU_EDATA, .CU_EPC, .CU_EVT_OVR, .CU_FLAGS,
      .CU_LATE_CNT, .CU_PC, .CU_RETIRED, .CU_STAT, .CU_TRAP_CNT, .FC_CLEAR_REJ, .FC_CNT, .FC_FIRST_ID, .FC_FIRST_ORG,
      .FC_FIRST_TAI_NS, .FC_FIRST_TAI_SH, .FC_FIRST_TAI_SL, .FC_LAT, .FC_OVF, .FC_SUPPRESSED, .xx_STATUS]) s (State.lateWait s n
      rd late) := by
  unfold State.lateWait
  extract_lets +onlyGivenNames y0
  clear_value y0
  extract_lets +onlyGivenNames y1
  refine Only.have y1 ?_ fun hy1 => ?_
  · subst y1
    refine (only_setCreg ..).over (Covers.some 8 0 rfl rfl) ?_
    refine (only_setFlags ..).over (Covers.some 0 16 rfl rfl) ?_
    exact Only.refl _
  clear_value y1
  extract_lets +onlyGivenNames y2
  refine Only.have y2 ?_ fun hy2 => ?_
  · subst y2
    refine Only.ite ?_ ?_
    · exact hy1
    · refine Only.ite ?_ ?_
      · refine (only_latch ..).over (Covers.some 1 1048576 rfl rfl) ?_
        refine Only.count .CU_LATE_CNT 5 rfl rfl ?_
        exact hy1
      · refine (only_updCue ..).over (Covers.some 4 0 rfl rfl) ?_
        refine Only.count .CU_LATE_CNT 5 rfl rfl ?_
        exact hy1
  clear_value y2
  refine (only_retire ..).over (Covers.some 119 2097103 rfl rfl) ?_
  exact hy2

theorem only_loadNoise (s : State) (n) (f) : Only [.heads] (some []) s (State.loadNoise s n f) := by
  unfold State.loadNoise
  refine (only_updHead ..).over (Covers.some 1 0 rfl rfl) ?_
  exact Only.refl _

theorem only_loadRegs (s : State) (region) : Only [] none s (State.loadRegs s region) := by
  unfold State.loadRegs
  split
  · refine Only.foldl ?_ fun y0 _ hy0 => ?_
    · exact Only.refl _
    · refine Only.wrAny ?_
      exact hy0
  · exact Only.refl _

theorem only_loadOr (s : State) (region) (b) (mask) (source) :
    Only [.irqOwed, .heads, .cues, .evt, .fc, .sl] none s (State.loadOr s region b mask source) := by
  unfold State.loadOr
  refine Only.ite ?_ ?_
  · refine (only_loadRegs ..).over (Covers.any 0 rfl) ?_
    exact Only.refl _
  · refine (only_raise ..).over (Covers.any 63 rfl) ?_
    refine (only_latch ..).over (Covers.any 1 rfl) ?_
    exact Only.refl _

theorem only_setLtc (s : State) (k) (x) : Only [.rf] (some []) s (State.setLtc s k x) := by
  unfold State.setLtc
  refine Only.rf 0 rfl ?_
  exact Only.refl _

theorem only_ltcTurn (s : State) (k) (ok) :
    Only [.irqOwed, .tb, .heads, .cues, .evt, .rf, .fc, .sl] (some [.CU_EVT_OVR, .FC_CLEAR_REJ, .FC_CNT, .FC_FIRST_ID,
      .FC_FIRST_ORG, .FC_FIRST_TAI_NS, .FC_FIRST_TAI_SH, .FC_FIRST_TAI_SL, .FC_LAT, .FC_OVF, .FC_SUPPRESSED, .TB_CLAMP,
      .TB_INC_HI, .TB_INC_LO, .TB_STATE, .xx_STATUS]) s (State.ltcTurn s k ok) := by
  unfold State.ltcTurn
  refine Only.ite ?_ ?_
  · exact Only.refl _
  · extract_lets +onlyGivenNames y0
    clear_value y0
    extract_lets +onlyGivenNames y1
    refine Only.have y1 ?_ fun hy1 => ?_
    · subst y1
      refine (only_latch ..).over (Covers.some 1 32768 rfl rfl) ?_
      refine (only_setLtc ..).over (Covers.some 32 0 rfl rfl) ?_
      exact Only.refl _
    clear_value y1
    extract_lets +onlyGivenNames y2
    refine Only.have y2 ?_ fun hy2 => ?_
    · subst y2
      refine Only.ite ?_ ?_
      · refine (only_raise ..).over (Covers.some 221 34815 rfl rfl) ?_
        exact hy1
      · exact hy1
    clear_value y2
    refine (only_src3Check ..).over (Covers.some 223 65535 rfl rfl) ?_
    exact hy2

theorem only_mbxServe {A : List Area} {R : Option (List Reg)} {s x : State} {f code free inMaint blk len body} (hc : Covers A R [.mbx] (some []))
    (h : Only A R s x) (hf : ∀ w, Only A R s (body w).st) : Only A R s (x.mbxServe f code free inMaint blk len body) := by
  unfold State.mbxServe
  extract_lets +onlyGivenNames m
  clear_value m
  split
  · exact h
  · split
    · exact h
    · split
      · exact (only_setMb ..).over hc h
      · exact (only_setMb ..).over hc (hf _)

theorem only_wear (s : State) (region) :
    Only [.irqOwed, .heads, .cues, .evt, .fc, .sl, .cl] (some [.CL_WEAR, .CU_EVT_OVR, .FC_CLEAR_REJ, .FC_CNT, .FC_FIRST_ID,
      .FC_FIRST_ORG, .FC_FIRST_TAI_NS, .FC_FIRST_TAI_SH, .FC_FIRST_TAI_SL, .FC_LAT, .FC_OVF, .FC_SUPPRESSED, .xx_STATUS]) s
      (State.wear s region) := by
  unfold State.wear
  extract_lets +onlyGivenNames y0
  clear_value y0
  extract_lets +onlyGivenNames y1
  clear_value y1
  extract_lets +onlyGivenNames y2
  clear_value y2
  extract_lets +onlyGivenNames y3
  refine Only.have y3 ?_ fun hy3 => ?_
  · subst y3
    refine Only.cl 6 rfl ?_
    exact Only.refl _
  clear_value y3
  extract_lets +onlyGivenNames y4
  refine Only.have y4 ?_ fun hy4 => ?_
  · subst y4
    refine Only.set .CL_WEAR 0 rfl rfl ?_
    exact hy3
  clear_value y4
  refine Only.ite ?_ ?_
  · refine (only_raise ..).over (Covers.some 63 8190 rfl rfl) ?_
    refine (only_latch ..).over (Covers.some 1 4096 rfl rfl) ?_
    exact hy4
  · exact hy4

theorem only_mirrorPut (s : State) (q) (e) :
    Only [.irqOwed, .heads, .cues, .evt, .fc, .sl, .cl] (some [.CL_WEAR, .CU_EVT_OVR, .FC_CLEAR_REJ, .FC_CNT, .FC_FIRST_ID,
      .FC_FIRST_ORG, .FC_FIRST_TAI_NS, .FC_FIRST_TAI_SH, .FC_FIRST_TAI_SL, .FC_LAT, .FC_OVF, .FC_SUPPRESSED, .xx_STATUS]) s
      (State.mirrorPut s q e) := by
  unfold State.mirrorPut
  refine (only_wear ..).over (Covers.some 127 8191 rfl rfl) ?_
  refine Only.cl 6 rfl ?_
  exact Only.refl _

theorem only_msixWrite (s : State) (f) (off) (v) (be) : Only [.out, .msix] (some []) s (State.msixWrite s f off v be) := by
  unfold State.msixWrite
  refine Only.ite ?_ ?_
  · exact Only.refl _
  · extract_lets +onlyGivenNames y0
    clear_value y0
    extract_lets +onlyGivenNames y1
    clear_value y1
    extract_lets +onlyGivenNames y2
    clear_value y2
    extract_lets +onlyGivenNames y3
    clear_value y3
    extract_lets +onlyGivenNames y4
    refine Only.have y4 ?_ fun hy4 => ?_
    · subst y4
      refine (only_setVec ..).over (Covers.some 2 0 rfl rfl) ?_
      exact Only.refl _
    clear_value y4
    refine Only.ite ?_ ?_
    · refine (only_emit ..).over (Covers.some 1 0 rfl rfl) ?_
      exact hy4
    · exact hy4

theorem only_outSignal (s : State) (o) (i) : Only [.out, .rf] (some []) s (State.outSignal s o i) := by
  unfold State.outSignal
  extract_lets +onlyGivenNames y0
  clear_value y0
  split
  · extract_lets +onlyGivenNames y1
    clear_value y1
    extract_lets +onlyGivenNames y2
    clear_value y2
    extract_lets +onlyGivenNames y3
    refine Only.have y3 ?_ fun hy3 => ?_
    · subst y3
      refine Only.ite ?_ ?_
      · refine Only.rf 1 rfl ?_
        exact Only.refl _
      · exact Only.refl _
    clear_value y3
    refine Only.ite ?_ ?_
    · exact hy3
    · refine (only_emit ..).over (Covers.some 1 0 rfl rfl) ?_
      exact hy3
  · refine (only_emit ..).over (Covers.some 1 0 rfl rfl) ?_
    exact Only.refl _
  · refine (only_emit ..).over (Covers.some 1 0 rfl rfl) ?_
    exact Only.refl _
  · extract_lets +onlyGivenNames y4
    refine Only.have y4 ?_ fun hy4 => ?_
    · subst y4
      refine Only.ite ?_ ?_
      · refine (only_emit ..).over (Covers.some 1 0 rfl rfl) ?_
        exact Only.refl _
      · exact Only.refl _
    clear_value y4
    refine Only.ite ?_ ?_
    · refine (only_emit ..).over (Covers.some 1 0 rfl rfl) ?_
      exact hy4
    · exact hy4

theorem only_sendPacket (s : State) (n) (last) (field2) (row) (offset) (payload) :
    Only [.irqOwed, .heads, .queues, .hqs, .cues, .evt, .fc, .sl] (some [.CU_EVT_OVR, .FC_CLEAR_REJ, .FC_CNT, .FC_FIRST_ID,
      .FC_FIRST_ORG, .FC_FIRST_TAI_NS, .FC_FIRST_TAI_SH, .FC_FIRST_TAI_SL, .FC_LAT, .FC_OVF, .FC_SUPPRESSED, .HQ_DROP,
      .NP_TX_DOWN_DROP, .NP_TX_OVERSIZE, .NQ_OBS_DEPTH, .NQ_OVERSIZE, .NQ_STAT, .xx_STATUS]) s (State.sendPacket s n last field2
      row offset payload) := by
  unfold State.sendPacket
  extract_lets +onlyGivenNames y0
  clear_value y0
  extract_lets +onlyGivenNames y1
  clear_value y1
  extract_lets +onlyGivenNames y2
  refine Only.have y2 ?_ fun hy2 => ?_
  · subst y2
    refine Only.foldl ?_ fun y3 _ hy3 => ?_
    · exact Only.refl _
    · refine (only_enqueue ..).over (Covers.some 255 262143 rfl rfl) ?_
      exact hy3
  clear_value y2
  refine (only_updHead ..).over (Covers.some 2 0 rfl rfl) ?_
  exact hy2

theorem only_packRow (s : State) (n) :
    Only [.irqOwed, .heads, .queues, .hqs, .cues, .evt, .fc, .sl] (some [.CU_EVT_OVR, .FC_CLEAR_REJ, .FC_CNT, .FC_FIRST_ID,
      .FC_FIRST_ORG, .FC_FIRST_TAI_NS, .FC_FIRST_TAI_SH, .FC_FIRST_TAI_SL, .FC_LAT, .FC_OVF, .FC_SUPPRESSED, .HQ_DROP,
      .NP_TX_DOWN_DROP, .NP_TX_OVERSIZE, .NQ_OBS_DEPTH, .NQ_OVERSIZE, .NQ_STAT, .xx_STATUS]) s (State.packRow s n) := by
  unfold State.packRow
  split
  · exact Only.refl _
  · extract_lets +onlyGivenNames y0
    refine Only.have y0 ?_ fun hy0 => ?_
    · subst y0
      refine (only_updHead ..).over (Covers.some 2 0 rfl rfl) ?_
      exact Only.refl _
    clear_value y0
    extract_lets +onlyGivenNames y1
    clear_value y1
    extract_lets +onlyGivenNames y2
    subst y2
    extract_lets +onlyGivenNames y3
    clear_value y3
    extract_lets +onlyGivenNames y4
    clear_value y4
    extract_lets +onlyGivenNames y5
    clear_value y5
    extract_lets +onlyGivenNames y6
    subst y6
    beta_reduce
    refine Only.ite ?_ ?_
    · extract_lets +onlyGivenNames y7
      subst y7
      extract_lets +onlyGivenNames y8
      clear_value y8
      extract_lets +onlyGivenNames y9
      clear_value y9
      extract_lets +onlyGivenNames y10
      clear_value y10
      extract_lets +onlyGivenNames y11
      refine Only.have y11 ?_ fun hy11 => ?_
      · subst y11
        refine Only.foldl ?_ fun y12 _ hy12 => ?_
        · exact hy0
        · refine (only_sendPacket ..).over (Covers.some 255 262143 rfl rfl) ?_
          exact hy12
      clear_value y11
      refine (only_updHead ..).over (Covers.some 2 0 rfl rfl) ?_
      exact hy11
    · extract_lets +onlyGivenNames y13
      clear_value y13
      extract_lets +onlyGivenNames y14
      clear_value y14
      refine Only.foldl ?_ fun y15 _ hy15 => ?_
      · exact hy0
      · refine (only_sendPacket ..).over (Covers.some 255 262143 rfl rfl) ?_
        exact hy15

theorem only_packetBoundary (s : State) (q) : Only [.eff, .waiting, .queues] (some []) s (State.packetBoundary s q) := by
  unfold State.packetBoundary
  extract_lets +onlyGivenNames y0
  refine Only.have y0 ?_ fun hy0 => ?_
  · subst y0
    refine (only_applyWaiting ..).over (Covers.some 3 0 rfl rfl) ?_
    exact Only.refl _
  clear_value y0
  refine (only_updQueue ..).over (Covers.some 4 0 rfl rfl) ?_
  exact hy0

theorem only_pendPl (s : State) (n) (c) : Only [.pls] (some [.CE_PL_CSTAT]) s (State.pendPl s n c) := by
  unfold State.pendPl
  refine (only_setPlState ..).over (Covers.some 0 1 rfl rfl) ?_
  refine (only_updPl ..).over (Covers.some 1 0 rfl rfl) ?_
  exact Only.refl _

theorem only_psRelease (s : State) : Only allAreas none s (State.psRelease s) := by
  unfold State.psRelease
  extract_lets +onlyGivenNames y0
  refine Only.have y0 ?_ fun hy0 => ?_
  · subst y0
    split
    · extract_lets +onlyGivenNames y1
      clear_value y1
      refine (only_keyWrite ..).over (Covers.any 1125899906842623 rfl) ?_
      exact Only.refl _
    · exact Only.refl _
  clear_value y0
  extract_lets +onlyGivenNames y2
  refine Only.have y2 ?_ fun hy2 => ?_
  · subst y2
    refine Only.foldl ?_ fun y3 _ hy3 => ?_
    · exact hy0
    · refine (only_keyWrite ..).over (Covers.any 1125899906842623 rfl) ?_
      exact hy3
  clear_value y2
  extract_lets +onlyGivenNames y4
  refine Only.have y4 ?_ fun hy4 => ?_
  · subst y4
    refine (only_updPs ..).over (Covers.any 2199023255552 rfl) ?_
    exact hy2
  clear_value y4
  extract_lets +onlyGivenNames y5
  refine Only.have y5 ?_ fun hy5 => ?_
  · subst y5
    refine Only.foldl ?_ fun y6 _ hy6 => ?_
    · exact hy4
    · refine (only_resumeUnit ..).over (Covers.any 0 rfl) ?_
      exact hy6
  clear_value y5
  refine (only_latch ..).over (Covers.any 8 rfl) ?_
  refine Only.setAny ?_
  refine Only.setAny ?_
  refine Only.setAny ?_
  exact hy5

theorem only_psRest (s : State) : Only allAreas none s (State.psRest s) := by
  unfold State.psRest
  extract_lets +onlyGivenNames y0
  refine Only.have y0 ?_ fun hy0 => ?_
  · subst y0
    refine (only_updPs ..).over (Covers.any 2199023255552 rfl) ?_
    exact Only.refl _
  clear_value y0
  refine Only.ite ?_ ?_
  · exact hy0
  · refine Only.ite ?_ ?_
    · refine (only_updPs ..).over (Covers.any 2199023255552 rfl) ?_
      exact hy0
    · split
      · refine (only_updPs ..).over (Covers.any 2199023255552 rfl) ?_
        exact hy0
      · refine Only.ite ?_ ?_
        · refine (only_psRelease ..).over (Covers.any 1125899906842623 rfl) ?_
          exact hy0
        · exact hy0

theorem only_stepDone (s : State) (i) : Only [.irqOwed] (some [.PS_SHED, .xx_STATUS]) s (State.stepDone s i) := by
  unfold State.stepDone
  refine (only_latch ..).over (Covers.some 1 2 rfl rfl) ?_
  refine Only.set .PS_SHED 0 rfl rfl ?_
  exact Only.refl _

theorem only_shedOne (s : State) :
    Only [.free, .irqOwed, .cks, .ps] (some [.CK_RUN, .CK_STAT, .PS_SHED, .xx_STATUS]) s (State.shedOne s) := by
  unfold State.shedOne
  extract_lets +onlyGivenNames y0
  refine Only.have y0 ?_ fun hy0 => ?_
  · subst y0
    refine (only_updPs ..).over (Covers.some 8 0 rfl rfl) ?_
    exact Only.refl _
  clear_value y0
  refine (only_stepDone ..).over (Covers.some 2 12 rfl rfl) ?_
  refine Only.foldl ?_ fun y1 _ hy1 => ?_
  · exact hy0
  · refine (only_pauseUnit ..).over (Covers.some 5 3 rfl rfl) ?_
    exact hy1

theorem only_shedPort (s : State) (p) : Only allAreas none s (State.shedPort s p) := by
  unfold State.shedPort
  extract_lets +onlyGivenNames y0
  refine Only.have y0 ?_ fun hy0 => ?_
  · subst y0
    refine (only_keyWrite ..).over (Covers.any 1125899906842623 rfl) ?_
    exact Only.refl _
  clear_value y0
  refine (only_stepDone ..).over (Covers.any 8 rfl) ?_
  refine Only.setAny ?_
  exact hy0

theorem only_shedLoop (s : State) : Only allAreas none s (State.shedLoop s) := by
  unfold State.shedLoop
  extract_lets +onlyGivenNames y0
  clear_value y0
  extract_lets +onlyGivenNames y1
  clear_value y1
  extract_lets +onlyGivenNames y2
  refine Only.have y2 ?_ fun hy2 => ?_
  · subst y2
    refine (only_updPs ..).over (Covers.any 2199023255552 rfl) ?_
    exact Only.refl _
  clear_value y2
  refine (only_stepDone ..).over (Covers.any 8 rfl) ?_
  refine Only.setAny ?_
  refine (only_keyWrite ..).over (Covers.any 1125899906842623 rfl) ?_
  exact hy2

theorem only_shedHead (s : State) (n) : Only allAreas none s (State.shedHead s n) := by
  unfold State.shedHead
  extract_lets +onlyGivenNames y0
  refine Only.have y0 ?_ fun hy0 => ?_
  · subst y0
    refine (only_keyWrite ..).over (Covers.any 1125899906842623 rfl) ?_
    exact Only.refl _
  clear_value y0
  refine (only_stepDone ..).over (Covers.any 8 rfl) ?_
  refine Only.setAny ?_
  exact hy0

theorem only_shedStep (s : State) : Only allAreas none s (State.shedStep s).1 := by
  unfold State.shedStep
  extract_lets +onlyGivenNames y0
  clear_value y0
  extract_lets +onlyGivenNames y1
  clear_value y1
  extract_lets +onlyGivenNames y2
  clear_value y2
  refine Only.ite1 ?_ ?_
  · refine Only.fst ?_
    refine (only_shedOne ..).over (Covers.any 2207613190154 rfl) ?_
    exact Only.refl _
  · refine Only.ite1 ?_ ?_
    · refine Only.fst ?_
      refine (only_shedPort ..).over (Covers.any 1125899906842623 rfl) ?_
      exact Only.refl _
    · refine Only.ite1 ?_ ?_
      · refine Only.fst ?_
        refine (only_shedLoop ..).over (Covers.any 1125899906842623 rfl) ?_
        exact Only.refl _
      · refine Only.ite1 ?_ ?_
        · refine Only.fst ?_
          refine (only_shedHead ..).over (Covers.any 1125899906842623 rfl) ?_
          exact Only.refl _
        · refine Only.fst ?_
          exact Only.refl _

theorem only_psShed (s : State) : Only allAreas none s (State.psShed s) := by
  unfold State.psShed
  extract_lets +onlyGivenNames y0
  refine Only.have y0 ?_ fun hy0 => ?_
  · subst y0
    refine Only.ite ?_ ?_
    · exact Only.refl _
    · refine (only_raise ..).over (Covers.any 423329156694024 rfl) ?_
      refine (only_updPs ..).over (Covers.any 2199023255552 rfl) ?_
      exact Only.refl _
  clear_value y0
  extract_lets +onlyGivenNames y1
  refine Only.have y1.1 ?_ fun hy1 => ?_
  · subst y1
    refine (only_shedStep ..).over (Covers.any 1125899906842623 rfl) ?_
    exact hy0
  clear_value y1
  refine Only.ite ?_ ?_
  · refine (only_updPs ..).over (Covers.any 2199023255552 rfl) ?_
    exact hy1
  · extract_lets +onlyGivenNames y2
    refine Only.have y2 ?_ fun hy2 => ?_
    · subst y2
      refine Only.ite ?_ ?_
      · exact hy0
      · refine (only_raise ..).over (Covers.any 423329156694024 rfl) ?_
        exact hy0
    clear_value y2
    refine (only_updPs ..).over (Covers.any 2199023255552 rfl) ?_
    exact hy2

theorem only_ptpPortSend (a) (b) (s : State) (p) : Only [.free, .out] (some []) s (State.ptpPortSend a b s p) := by
  unfold State.ptpPortSend
  refine Only.ite ?_ ?_
  · exact Only.refl _
  · extract_lets +onlyGivenNames y0
    refine Only.have y0 ?_ fun hy0 => ?_
    · subst y0
      refine Only.foldl ?_ fun y1 _ hy1 => ?_
      · exact Only.refl _
      · refine (only_emit ..).over (Covers.some 2 0 rfl rfl) ?_
        exact hy1
    clear_value y0
    extract_lets +onlyGivenNames y2
    refine Only.have y2 ?_ fun hy2 => ?_
    · subst y2
      refine Only.foldl ?_ fun y3 _ hy3 => ?_
      · exact hy0
      · extract_lets +onlyGivenNames y4
        refine Only.have y4.2 ?_ fun hy4 => ?_
        · subst y4
          refine (only_fresh ..).over (Covers.some 1 0 rfl rfl) ?_
          exact hy3
        clear_value y4
        refine (only_emit ..).over (Covers.some 2 0 rfl rfl) ?_
        exact hy4
    clear_value y2
    refine Only.foldl ?_ fun y5 _ hy5 => ?_
    · exact hy2
    · refine (only_emit ..).over (Covers.some 2 0 rfl rfl) ?_
      exact hy5

theorem only_ptpSend (s : State) (a) (b) : Only [.free, .out] (some []) s (State.ptpSend s a b) := by
  unfold State.ptpSend
  refine Only.foldl ?_ fun y0 _ hy0 => ?_
  · exact Only.refl _
  · refine (only_ptpPortSend ..).over (Covers.some 3 0 rfl rfl) ?_
    exact hy0

theorem only_railOn (s : State) (r) : Only [.out, .ps] (some [.PS_RAIL_STAT]) s (State.railOn s r) := by
  unfold State.railOn
  refine Only.ite ?_ ?_
  · exact Only.refl _
  · refine (only_updPs ..).over (Covers.some 2 0 rfl rfl) ?_
    refine Only.set .PS_RAIL_STAT 0 rfl rfl ?_
    refine (only_emit ..).over (Covers.some 1 0 rfl rfl) ?_
    exact Only.refl _

theorem only_railRead (s : State) (r) (p) : Only [.ps] (some [.PS_RAIL_STAT, .PS_RAIL_VI]) s (State.railRead s r p) := by
  unfold State.railRead
  extract_lets +onlyGivenNames y0
  clear_value y0
  extract_lets +onlyGivenNames y1
  clear_value y1
  extract_lets +onlyGivenNames y2
  subst y2
  extract_lets +onlyGivenNames y3
  subst y3
  extract_lets +onlyGivenNames y4
  refine Only.have y4 ?_ fun hy4 => ?_
  · subst y4
    refine (only_updPs ..).over (Covers.some 1 0 rfl rfl) ?_
    exact Only.refl _
  clear_value y4
  extract_lets +onlyGivenNames y5
  refine Only.have y5 ?_ fun hy5 => ?_
  · subst y5
    refine Only.wr .PS_RAIL_VI 1 rfl rfl ?_
    exact hy4
  clear_value y5
  refine Only.wr .PS_RAIL_STAT 0 rfl rfl ?_
  exact hy5

theorem only_railsDown (s : State) : Only [.out, .ps] (some [.PS_RAIL_STAT]) s (State.railsDown s) := by
  unfold State.railsDown
  refine (only_updPs ..).over (Covers.some 2 0 rfl rfl) ?_
  refine Only.foldl ?_ fun y0 _ hy0 => ?_
  · exact Only.refl _
  · refine Only.set .PS_RAIL_STAT 0 rfl rfl ?_
    refine (only_emit ..).over (Covers.some 1 0 rfl rfl) ?_
    exact hy0

theorem only_rateShown (s : State) (n) (new) : Only [.heads] (some []) s (State.rateShown s n new) := by
  unfold State.rateShown
  extract_lets +onlyGivenNames y0
  clear_value y0
  refine (only_updHead ..).over (Covers.some 1 0 rfl rfl) ?_
  exact Only.refl _

theorem only_readOut (s : State) (o) (addr) :
    Only [.free, .out, .irqOwed, .slowCopy, .tb, .heads, .cks, .cues, .ecc, .evt, .lts, .fc, .sl] none s (State.readOut s o
      addr) := by
  unfold State.readOut
  extract_lets +onlyGivenNames y0
  refine Only.have y0.1 ?_ fun hy0 => ?_
  · subst y0
    refine (only_busRead ..).over (Covers.any 8189 rfl) ?_
    exact Only.refl _
  clear_value y0
  refine (only_emit ..).over (Covers.any 2 rfl) ?_
  exact hy0

theorem only_wordRead (s : State) (o) (addr) (len) (a) :
    Only [.free, .out, .irqOwed, .slowCopy, .tb, .heads, .cks, .cues, .ecc, .evt, .lts, .fc, .sl] none s (State.wordRead s o
      addr len a) := by
  unfold State.wordRead
  refine Only.ite ?_ ?_
  · extract_lets +onlyGivenNames y0
    refine Only.have y0.1 ?_ fun hy0 => ?_
    · subst y0
      refine (only_busRead ..).over (Covers.any 8189 rfl) ?_
      exact Only.refl _
    clear_value y0
    refine (only_emit ..).over (Covers.any 2 rfl) ?_
    exact hy0
  · split
    · refine (only_emit ..).over (Covers.any 2 rfl) ?_
      exact Only.refl _
    · exact Only.refl _

theorem only_readSpan (s : State) (o) (addr) (len) :
    Only [.free, .out, .irqOwed, .slowCopy, .tb, .heads, .cks, .cues, .ecc, .evt, .lts, .fc, .sl] none s (State.readSpan s o
      addr len) := by
  unfold State.readSpan
  refine Only.foldl ?_ fun y0 _ hy0 => ?_
  · exact Only.refl _
  · refine (only_wordRead ..).over (Covers.any 8191 rfl) ?_
    exact hy0

theorem only_recordKept (s : State) (r) :
    Only [.out, .irqOwed, .mem, .bad, .dv, .heads, .pls, .cues, .evt, .fc, .sl, .cl] (some [.CE_PL_S_STAT, .CE_PL_WR_DENY,
      .CL_LG_STAT, .CL_LG_VINT, .CL_STAT, .CU_EVT_OVR, .FC_CLEAR_REJ, .FC_CNT, .FC_FIRST_ID, .FC_FIRST_ORG, .FC_FIRST_TAI_NS,
      .FC_FIRST_TAI_SH, .FC_FIRST_TAI_SL, .FC_LAT, .FC_OVF, .FC_SUPPRESSED, .SL_LOST, .SL_STREAM_LOST, .SL_STREAM_WR,
      .xx_STATUS]) s (State.recordKept s r) := by
  unfold State.recordKept
  split
  · refine Only.cl 11 rfl ?_
    exact Only.refl _
  · refine (only_latch ..).over (Covers.some 2 524288 rfl rfl) ?_
    refine Only.set .CL_LG_STAT 2 rfl rfl ?_
    refine Only.set .CL_LG_VINT 3 rfl rfl ?_
    refine (only_keepRecord ..).over (Covers.some 2048 0 rfl rfl) ?_
    exact Only.refl _
  · extract_lets +onlyGivenNames y0
    refine Only.have y0 ?_ fun hy0 => ?_
    · subst y0
      refine (only_keepRecord ..).over (Covers.some 2048 0 rfl rfl) ?_
      exact Only.refl _
    clear_value y0
    refine (only_releaseBoot ..).over (Covers.some 4095 1048563 rfl rfl) ?_
    refine Only.sl 10 rfl ?_
    exact hy0
  · extract_lets +onlyGivenNames y1
    refine Only.have y1 ?_ fun hy1 => ?_
    · subst y1
      refine (only_keepRecord ..).over (Covers.some 2048 0 rfl rfl) ?_
      exact Only.refl _
    clear_value y1
    refine Only.cl 11 rfl ?_
    exact hy1
  · extract_lets +onlyGivenNames y2
    refine Only.have y2 ?_ fun hy2 => ?_
    · subst y2
      refine (only_keepRecord ..).over (Covers.some 2048 0 rfl rfl) ?_
      exact Only.refl _
    clear_value y2
    refine Only.ite ?_ ?_
    · refine (only_latch ..).over (Covers.some 2 524288 rfl rfl) ?_
      exact hy2
    · refine Only.ite ?_ ?_
      · refine (only_latch ..).over (Covers.some 2 524288 rfl rfl) ?_
        exact hy2
      · refine Only.ite ?_ ?_
        · refine (only_latch ..).over (Covers.some 2 524288 rfl rfl) ?_
          exact hy2
        · exact hy2
  · refine (only_keepRecord ..).over (Covers.some 2048 0 rfl rfl) ?_
    exact Only.refl _

theorem only_reselect (s : State) (c) (newMaster) :
    Only [.irqOwed, .tb] (some [.TB_STATE, .xx_STATUS]) s (State.reselect s c newMaster) := by
  unfold State.reselect
  extract_lets +onlyGivenNames y0
  clear_value y0
  refine Only.ite ?_ ?_
  · refine (only_selectSrc ..).over (Covers.some 3 3 rfl rfl) ?_
    exact Only.refl _
  · extract_lets +onlyGivenNames y1
    refine Only.have y1 ?_ fun hy1 => ?_
    · subst y1
      refine (only_selectSrc ..).over (Covers.some 3 3 rfl rfl) ?_
      exact Only.refl _
    clear_value y1
    refine Only.ite ?_ ?_
    · extract_lets +onlyGivenNames y2
      refine Only.have y2 ?_ fun hy2 => ?_
      · subst y2
        refine (only_latch ..).over (Covers.some 1 2 rfl rfl) ?_
        exact hy1
      clear_value y2
      refine Only.tb 1 rfl ?_
      exact hy2
    · exact hy1

theorem only_restoreReg (s : State) (e) : Only allAreas none s (State.restoreReg s e) := by
  unfold State.restoreReg
  split
  · refine (only_keyWrite ..).over (Covers.any 1125899906842623 rfl) ?_
    exact Only.refl _
  · refine (only_keyWrite ..).over (Covers.any 1125899906842623 rfl) ?_
    exact Only.refl _

theorem only_restoreHead (s : State) (n) : Only allAreas none s (State.restoreHead s n) := by
  unfold State.restoreHead
  refine Only.ite ?_ ?_
  · refine (only_raise ..).over (Covers.any 423329156694024 rfl) ?_
    exact Only.refl _
  · split
    · extract_lets +onlyGivenNames y0
      refine Only.have y0 ?_ fun hy0 => ?_
      · subst y0
        refine Only.foldl ?_ fun y1 _ hy1 => ?_
        · exact Only.refl _
        · refine (only_restoreReg ..).over (Covers.any 1125899906842623 rfl) ?_
          exact hy1
      clear_value y0
      extract_lets +onlyGivenNames y2
      clear_value y2
      extract_lets +onlyGivenNames y3
      subst y3
      refine Only.ite ?_ ?_
      · refine (only_raise ..).over (Covers.any 423329156694024 rfl) ?_
        exact hy0
      · extract_lets +onlyGivenNames y4
        refine Only.have y4 ?_ fun hy4 => ?_
        · subst y4
          refine (only_applyStopped ..).over (Covers.any 423335599151112 rfl) ?_
          refine (only_newSerial ..).over (Covers.any 1179648 rfl) ?_
          exact hy0
        clear_value y4
        refine Only.ite ?_ ?_
        · refine (only_raise ..).over (Covers.any 423329156694024 rfl) ?_
          exact hy4
        · refine (only_keyWrite ..).over (Covers.any 1125899906842623 rfl) ?_
          exact hy4
    · exact Only.refl _

theorem only_ringRead (s : State) (r) (a) (len) : Only [.out] (some []) s (State.ringRead s r a len) := by
  unfold State.ringRead
  refine (only_emit ..).over (Covers.some 1 0 rfl rfl) ?_
  exact Only.refl _

theorem only_runLine (s : State) (n) (f) (l) (w) :
    Only [.free, .out, .irqOwed, .eff, .waiting, .heads, .dts, .queues, .ads, .hqs, .layers, .pls, .cues, .evt, .fc, .sl] none s
      (State.runLine s n f l w) := by
  unfold State.runLine
  extract_lets +onlyGivenNames y0
  refine Only.have y0 ?_ fun hy0 => ?_
  · subst y0
    refine (only_applyWaiting ..).over (Covers.any 24 rfl) ?_
    exact Only.refl _
  clear_value y0
  extract_lets +onlyGivenNames y1
  refine Only.have y1 ?_ fun hy1 => ?_
  · subst y1
    refine (only_updHead ..).over (Covers.any 32 rfl) ?_
    exact hy0
  clear_value y1
  extract_lets +onlyGivenNames y2
  refine Only.have y2 ?_ fun hy2 => ?_
  · subst y2
    refine (only_headLineEvents ..).over (Covers.any 4128 rfl) ?_
    exact hy1
  clear_value y2
  extract_lets +onlyGivenNames y3
  refine Only.have y3 ?_ fun hy3 => ?_
  · subst y3
    refine Only.ite ?_ ?_
    · refine (only_loadNoise ..).over (Covers.any 32 rfl) ?_
      refine (only_destsResume ..).over (Covers.any 32 rfl) ?_
      exact hy2
    · exact hy2
  clear_value y3
  extract_lets +onlyGivenNames y4
  refine Only.have y4 ?_ fun hy4 => ?_
  · subst y4
    refine (only_fetchAhead ..).over (Covers.any 64638 rfl) ?_
    refine (only_adLine ..).over (Covers.any 61735 rfl) ?_
    refine (only_packRow ..).over (Covers.any 62116 rfl) ?_
    exact hy3
  clear_value y4
  split
  · refine (only_sdiLine ..).over (Covers.any 2 rfl) ?_
    exact hy4
  · refine Only.ite ?_ ?_
    · refine (only_composeLine ..).over (Covers.any 64638 rfl) ?_
      exact hy4
    · refine (only_flatLine ..).over (Covers.any 34 rfl) ?_
      exact hy4

theorem only_sendFrame (s : State) (p) (q) (e) :
    Only [.out, .irqOwed, .eff, .waiting, .heads, .ports, .queues, .hqs, .cues, .evt, .fc, .sl] (some [.CU_EVT_OVR,
      .FC_CLEAR_REJ, .FC_CNT, .FC_FIRST_ID, .FC_FIRST_ORG, .FC_FIRST_TAI_NS, .FC_FIRST_TAI_SH, .FC_FIRST_TAI_SL, .FC_LAT,
      .FC_OVF, .FC_SUPPRESSED, .HQ_DROP, .NP_TX_DOWN_DROP, .NP_TX_OVERSIZE, .NQ_LATE_SENT, .NQ_OBS_DELAY, .NQ_OVERSIZE,
      .NQ_STAT, .xx_STATUS]) s (State.sendFrame s p q e) := by
  unfold State.sendFrame
  extract_lets +onlyGivenNames y0
  clear_value y0
  extract_lets +onlyGivenNames y1
  clear_value y1
  extract_lets +onlyGivenNames y2
  refine Only.have y2 ?_ fun hy2 => ?_
  · subst y2
    refine (only_accrue ..).over (Covers.some 64 0 rfl rfl) ?_
    exact Only.refl _
  clear_value y2
  extract_lets +onlyGivenNames y3
  clear_value y3
  extract_lets +onlyGivenNames y4
  clear_value y4
  extract_lets +onlyGivenNames y5
  refine Only.have y5 ?_ fun hy5 => ?_
  · subst y5
    refine (only_updQueue ..).over (Covers.some 64 0 rfl rfl) ?_
    exact hy2
  clear_value y5
  extract_lets +onlyGivenNames y6
  refine Only.have y6 ?_ fun hy6 => ?_
  · subst y6
    refine Only.ite ?_ ?_
    · refine (only_updQueue ..).over (Covers.some 64 0 rfl rfl) ?_
      exact hy5
    · exact hy5
  clear_value y6
  extract_lets +onlyGivenNames y7
  refine Only.have y7 ?_ fun hy7 => ?_
  · subst y7
    refine Only.ite ?_ ?_
    · refine Only.count .NQ_LATE_SENT 14 rfl rfl ?_
      exact hy6
    · exact hy6
  clear_value y7
  extract_lets +onlyGivenNames y8
  refine Only.have y8 ?_ fun hy8 => ?_
  · subst y8
    refine (only_updPort ..).over (Covers.some 32 0 rfl rfl) ?_
    exact hy7
  clear_value y8
  extract_lets +onlyGivenNames y9
  refine Only.have y9 ?_ fun hy9 => ?_
  · subst y9
    refine (only_applyWaiting ..).over (Covers.some 12 0 rfl rfl) ?_
    exact hy8
  clear_value y9
  extract_lets +onlyGivenNames y10
  clear_value y10
  extract_lets +onlyGivenNames y11
  refine Only.have y11 ?_ fun hy11 => ?_
  · subst y11
    refine Only.ite ?_ ?_
    · refine Only.set .NQ_OBS_DELAY 15 rfl rfl ?_
      exact hy9
    · exact hy9
  clear_value y11
  refine (only_emit ..).over (Covers.some 1 0 rfl rfl) ?_
  refine (only_showBacklog ..).over (Covers.some 0 131072 rfl rfl) ?_
  refine (only_settle ..).over (Covers.some 4050 344063 rfl rfl) ?_
  refine (only_packetBoundary ..).over (Covers.some 76 0 rfl rfl) ?_
  exact hy11

theorem only_sendJoin (s : State) : Only [.out, .gl] (some []) s (State.sendJoin s) := by
  unfold State.sendJoin
  refine (only_glToLeader ..).over (Covers.some 3 0 rfl rfl) ?_
  refine (only_updGl ..).over (Covers.some 2 0 rfl rfl) ?_
  exact Only.refl _

theorem only_servoWrite (s : State) (pc) (k) (w) : Only allAreas none s (State.servoWrite s pc k w) := by
  unfold State.servoWrite
  refine (only_keyWrite ..).over (Covers.any 1125899906842623 rfl) ?_
  exact Only.refl _

theorem only_setAttempts (s : State) (slot) (n) :
    Only [.dv, .cl] (some [.CL_STAT, .DV_BOOT_STAT]) s (State.setAttempts s slot n) := by
  unfold State.setAttempts
  extract_lets +onlyGivenNames y0
  clear_value y0
  extract_lets +onlyGivenNames y1
  refine Only.have y1 ?_ fun hy1 => ?_
  · subst y1
    refine (only_updDv ..).over (Covers.some 1 0 rfl rfl) ?_
    exact Only.refl _
  clear_value y1
  refine (only_requestBoot ..).over (Covers.some 3 1 rfl rfl) ?_
  refine Only.set .DV_BOOT_STAT 1 rfl rfl ?_
  refine Only.set .DV_BOOT_STAT 1 rfl rfl ?_
  exact hy1

theorem only_setRoster (s : State) (r) : Only [.irqOwed, .gl] (some [.GL_MEMBERS, .xx_STATUS]) s (State.setRoster s r) := by
  unfold State.setRoster
  refine Only.ite ?_ ?_
  · exact Only.refl _
  · refine (only_latch ..).over (Covers.some 1 2 rfl rfl) ?_
    refine Only.set .GL_MEMBERS 0 rfl rfl ?_
    refine (only_updGl ..).over (Covers.some 2 0 rfl rfl) ?_
    exact Only.refl _

theorem only_setSlot (s : State) (i) (x) : Only [.dv] (some []) s (State.setSlot s i x) := by
  unfold State.setSlot
  refine (only_updDv ..).over (Covers.some 1 0 rfl rfl) ?_
  exact Only.refl _

theorem only_setSpecial (s : State) (n) (k) (v) :
    Only [.cues] (some [.CU_ECAUSE, .CU_EDATA, .CU_EPC, .CU_FLAGS, .CU_STAT]) s (State.setSpecial s n k v) := by
  unfold State.setSpecial
  split
  · refine Only.set .CU_EPC 2 rfl rfl ?_
    exact Only.refl _
  · refine Only.set .CU_ECAUSE 0 rfl rfl ?_
    exact Only.refl _
  · refine Only.set .CU_EDATA 1 rfl rfl ?_
    exact Only.refl _
  · refine (only_updCue ..).over (Covers.some 1 0 rfl rfl) ?_
    exact Only.refl _
  · refine (only_setFlags ..).over (Covers.some 0 8 rfl rfl) ?_
    exact Only.refl _
  · refine Only.set .CU_STAT 4 rfl rfl ?_
    exact Only.refl _
  · exact Only.refl _

theorem only_showRecords (s : State) : Only [] (some [.CL_LG_STAT, .CL_LG_VINT, .CL_WEAR]) s (State.showRecords s) := by
  unfold State.showRecords
  extract_lets +onlyGivenNames y0
  refine Only.have y0 ?_ fun hy0 => ?_
  · subst y0
    refine Only.foldl ?_ fun y1 _ hy1 => ?_
    · exact Only.refl _
    · split
      · refine Only.set .CL_LG_STAT 0 rfl rfl ?_
        refine Only.set .CL_LG_VINT 1 rfl rfl ?_
        exact hy1
      · exact hy1
  clear_value y0
  refine Only.foldl ?_ fun y2 _ hy2 => ?_
  · exact hy0
  · extract_lets +onlyGivenNames y3
    clear_value y3
    refine Only.set .CL_WEAR 2 rfl rfl ?_
    exact hy2

theorem only_slaveTo (s : State) (p) : Only [.tb] (some []) s (State.slaveTo s p) := by
  unfold State.slaveTo
  refine (only_setPtp ..).over (Covers.some 1 0 rfl rfl) ?_
  refine (only_noSlave ..).over (Covers.some 1 0 rfl rfl) ?_
  exact Only.refl _

theorem only_spBoot (s : State) :
    Only [.irqOwed, .heads, .cues, .evt, .sps, .fc, .sl] (some [.CU_EVT_OVR, .DV_IFV_SP, .FC_CLEAR_REJ, .FC_CNT, .FC_FIRST_ID,
      .FC_FIRST_ORG, .FC_FIRST_TAI_NS, .FC_FIRST_TAI_SH, .FC_FIRST_TAI_SL, .FC_LAT, .FC_OVF, .FC_SUPPRESSED, .SPP_POWER,
      .SPP_STAT, .SPP_TRIPS, .SP_LOOP, .xx_STATUS]) s (State.spBoot s) := by
  unfold State.spBoot
  refine Only.foldl ?_ fun y0 _ hy0 => ?_
  · exact Only.refl _
  · refine Only.ite ?_ ?_
    · refine (only_spOn ..).over (Covers.some 127 131071 rfl rfl) ?_
      exact hy0
    · exact hy0

theorem only_spTrip (s : State) (n) (cause) :
    Only [.irqOwed, .heads, .cues, .evt, .sps, .fc, .sl] (some [.CU_EVT_OVR, .DV_IFV_SP, .FC_CLEAR_REJ, .FC_CNT, .FC_FIRST_ID,
      .FC_FIRST_ORG, .FC_FIRST_TAI_NS, .FC_FIRST_TAI_SH, .FC_FIRST_TAI_SL, .FC_LAT, .FC_OVF, .FC_SUPPRESSED, .SPP_POWER,
      .SPP_STAT, .SPP_TRIPS, .SP_LOOP, .xx_STATUS]) s (State.spTrip s n cause) := by
  unfold State.spTrip
  refine Only.ite ?_ ?_
  · refine (only_spFail ..).over (Covers.some 127 131071 rfl rfl) ?_
    refine (only_updSp ..).over (Covers.some 16 0 rfl rfl) ?_
    exact Only.refl _
  · refine Only.ite ?_ ?_
    · refine Only.set .SPP_STAT 13 rfl rfl ?_
      exact Only.refl _
    · exact Only.refl _

theorem only_spSecond1 (s : State) (means) (n) :
    Only [.irqOwed, .heads, .cues, .evt, .sps, .fc, .sl] (some [.CU_EVT_OVR, .DV_IFV_SP, .FC_CLEAR_REJ, .FC_CNT, .FC_FIRST_ID,
      .FC_FIRST_ORG, .FC_FIRST_TAI_NS, .FC_FIRST_TAI_SH, .FC_FIRST_TAI_SL, .FC_LAT, .FC_OVF, .FC_SUPPRESSED, .SPP_POWER,
      .SPP_STAT, .SPP_TRIPS, .SP_LOOP, .xx_STATUS]) s (State.spSecond1 s means n) := by
  unfold State.spSecond1
  extract_lets +onlyGivenNames y0
  clear_value y0
  extract_lets +onlyGivenNames y1
  refine Only.have y1 ?_ fun hy1 => ?_
  · subst y1
    refine Only.set .SPP_POWER 12 rfl rfl ?_
    exact Only.refl _
  clear_value y1
  refine Only.ite ?_ ?_
  · exact hy1
  · refine Only.ite ?_ ?_
    · refine (only_updSp ..).over (Covers.some 16 0 rfl rfl) ?_
      exact hy1
    · refine Only.ite ?_ ?_
      · refine (only_spTrip ..).over (Covers.some 127 131071 rfl rfl) ?_
        exact hy1
      · refine (only_updSp ..).over (Covers.some 16 0 rfl rfl) ?_
        exact hy1

theorem only_spSend (s : State) (n) (type) (payload) : Only [.out, .sps] (some []) s (State.spSend s n type payload) := by
  unfold State.spSend
  extract_lets +onlyGivenNames y0
  clear_value y0
  refine (only_emit ..).over (Covers.some 1 0 rfl rfl) ?_
  refine (only_updSp ..).over (Covers.some 2 0 rfl rfl) ?_
  exact Only.refl _

theorem only_spSendImage (s : State) (n) (type) : Only [.out, .sps] (some []) s (State.spSendImage s n type) := by
  unfold State.spSendImage
  split
  · refine Only.ite ?_ ?_
    · refine (only_spSend ..).over (Covers.some 3 0 rfl rfl) ?_
      refine (only_updSp ..).over (Covers.some 2 0 rfl rfl) ?_
      exact Only.refl _
    · exact Only.refl _
  · exact Only.refl _

theorem only_spSetSupply (s : State) (cV) : Only [.irqOwed] (some [.SP_VSUP, .xx_STATUS]) s (State.spSetSupply s cV) := by
  unfold State.spSetSupply
  extract_lets +onlyGivenNames y0
  clear_value y0
  extract_lets +onlyGivenNames y1
  refine Only.have y1 ?_ fun hy1 => ?_
  · subst y1
    refine Only.set .SP_VSUP 0 rfl rfl ?_
    exact Only.refl _
  clear_value y1
  refine Only.ite ?_ ?_
  · exact hy1
  · refine (only_latch ..).over (Covers.some 1 2 rfl rfl) ?_
    exact hy1

theorem only_spendFree (s : State) (n) (lo) (hi) : Only [.free, .cues] (some []) s (State.spendFree s n lo hi) := by
  unfold State.spendFree
  extract_lets +onlyGivenNames y0
  refine Only.have y0.2 ?_ fun hy0 => ?_
  · subst y0
    refine (only_fresh ..).over (Covers.some 1 0 rfl rfl) ?_
    exact Only.refl _
  clear_value y0
  refine (only_spend ..).over (Covers.some 2 0 rfl rfl) ?_
  exact hy0

theorem only_stepFour (s : State) :
    Only [.irqOwed, .dv, .tb, .heads, .cues, .evt, .rf, .sps, .fc, .sl] none s (State.stepFour s) := by
  unfold State.stepFour
  extract_lets +onlyGivenNames y0
  refine Only.have y0 ?_ fun hy0 => ?_
  · subst y0
    refine (only_updDv ..).over (Covers.any 2 rfl) ?_
    exact Only.refl _
  clear_value y0
  extract_lets +onlyGivenNames y1
  subst y1
  extract_lets +onlyGivenNames y2
  clear_value y2
  extract_lets +onlyGivenNames y3
  refine Only.have y3 ?_ fun hy3 => ?_
  · subst y3
    refine Only.ite ?_ ?_
    · exact hy0
    · refine Only.tb 2 rfl ?_
      exact hy0
  clear_value y3
  extract_lets +onlyGivenNames y4
  refine Only.have y4 ?_ fun hy4 => ?_
  · subst y4
    refine Only.ite ?_ ?_
    · refine Only.setAny ?_
      refine Only.setAny ?_
      exact hy3
    · exact hy0
  clear_value y4
  extract_lets +onlyGivenNames y5
  refine Only.have y5 ?_ fun hy5 => ?_
  · subst y5
    refine (only_loadOr ..).over (Covers.any 825 rfl) ?_
    refine (only_loadOr ..).over (Covers.any 825 rfl) ?_
    refine (only_loadOr ..).over (Covers.any 825 rfl) ?_
    exact hy4
  clear_value y5
  extract_lets +onlyGivenNames y6
  clear_value y6
  refine (only_spBoot ..).over (Covers.any 953 rfl) ?_
  refine Only.upd (x := y5) 68 ⟨rfl, Nat.le_refl _, List.prefix_refl _, Nat.le_refl _, Nat.le_refl _, id, id⟩ (.inr rfl) (fun a ha => by cases a <;> first | rfl | exact absurd (by decide) ha) ?_
  exact hy5

theorem only_takeAdmit (s : State) (m) :
    Only [.irqOwed, .heads, .cues, .evt, .gl, .fc, .sl] (some [.CU_EVT_OVR, .FC_CLEAR_REJ, .FC_CNT, .FC_FIRST_ID, .FC_FIRST_ORG,
      .FC_FIRST_TAI_NS, .FC_FIRST_TAI_SH, .FC_FIRST_TAI_SL, .FC_LAT, .FC_OVF, .FC_SUPPRESSED, .GL_STATE, .xx_STATUS]) s
      (State.takeAdmit s m) := by
  unfold State.takeAdmit
  refine Only.ite ?_ ?_
  · exact Only.refl _
  · refine Only.ite ?_ ?_
    · refine (only_updGl ..).over (Covers.some 16 0 rfl rfl) ?_
      refine (only_setRole ..).over (Covers.some 17 6144 rfl rfl) ?_
      exact Only.refl _
    · refine Only.ite ?_ ?_
      · refine (only_raise ..).over (Covers.some 111 6143 rfl rfl) ?_
        refine (only_setRole ..).over (Covers.some 17 6144 rfl rfl) ?_
        exact Only.refl _
      · refine (only_raise ..).over (Covers.some 111 6143 rfl rfl) ?_
        refine (only_setRole ..).over (Covers.some 17 6144 rfl rfl) ?_
        exact Only.refl _

theorem only_takeAnnounce (s : State) (pc) (a) : Only allAreas none s (State.takeAnnounce s pc a) := by
  unfold State.takeAnnounce
  extract_lets +onlyGivenNames y0
  clear_value y0
  extract_lets +onlyGivenNames y1
  refine Only.have y1 ?_ fun hy1 => ?_
  · subst y1
    refine Only.tb 16 rfl ?_
    exact Only.refl _
  clear_value y1
  refine Only.ite ?_ ?_
  · exact hy1
  · extract_lets +onlyGivenNames y2
    clear_value y2
    extract_lets +onlyGivenNames y3
    clear_value y3
    extract_lets +onlyGivenNames y4
    clear_value y4
    extract_lets +onlyGivenNames y5
    clear_value y5
    extract_lets +onlyGivenNames y6
    clear_value y6
    extract_lets +onlyGivenNames y7
    refine Only.have y7 ?_ fun hy7 => ?_
    · subst y7
      refine Only.ite ?_ ?_
      · refine (only_raise ..).over (Covers.any 423329156694024 rfl) ?_
        exact hy1
      · exact hy1
    clear_value y7
    extract_lets +onlyGivenNames y8
    clear_value y8
    extract_lets +onlyGivenNames y9
    refine Only.have y9 ?_ fun hy9 => ?_
    · subst y9
      refine Only.ite ?_ ?_
      · refine (only_servoWrite ..).over (Covers.any 1125899906842623 rfl) ?_
        exact hy7
      · exact hy7
    clear_value y9
    refine Only.ite ?_ ?_
    · exact hy9
    · refine (only_servoWrite ..).over (Covers.any 1125899906842623 rfl) ?_
      exact hy9

theorem only_takeClaim (s : State) (m) : Only [.irqOwed, .gl] (some [.GL_STATE, .xx_STATUS]) s (State.takeClaim s m) := by
  unfold State.takeClaim
  refine Only.ite ?_ ?_
  · exact Only.refl _
  · extract_lets +onlyGivenNames y0
    refine Only.have y0 ?_ fun hy0 => ?_
    · subst y0
      refine (only_updGl ..).over (Covers.some 2 0 rfl rfl) ?_
      exact Only.refl _
    clear_value y0
    refine Only.ite ?_ ?_
    · refine (only_setRole ..).over (Covers.some 3 3 rfl rfl) ?_
      exact hy0
    · exact hy0

theorem only_hqBusErrorOp (r) (s : State) :
    Only [.irqOwed, .heads, .hqs, .cues, .evt, .fc, .sl] (some [.CU_EVT_OVR, .FC_CLEAR_REJ, .FC_CNT, .FC_FIRST_ID,
      .FC_FIRST_ORG, .FC_FIRST_TAI_NS, .FC_FIRST_TAI_SH, .FC_FIRST_TAI_SL, .FC_LAT, .FC_OVF, .FC_SUPPRESSED, .HQ_STAT,
      .xx_STATUS]) s (hqBusErrorOp r s) := by
  unfold hqBusErrorOp
  extract_lets +onlyGivenNames y0
  refine Only.have y0 ?_ fun hy0 => ?_
  · subst y0
    refine Only.foldl ?_ fun y1 _ hy1 => ?_
    · exact Only.refl _
    · refine Only.ite ?_ ?_
      · refine (only_setHq ..).over (Covers.some 4 0 rfl rfl) ?_
        refine Only.wr .HQ_STAT 11 rfl rfl ?_
        exact hy1
      · exact hy1
  clear_value y0
  refine (only_raise ..).over (Covers.some 123 6143 rfl rfl) ?_
  refine (only_latch ..).over (Covers.some 1 4096 rfl rfl) ?_
  exact hy0

theorem only_takeDesc {A : List Area} {R : Option (List Reg)} {s x : State} {r d op f} (hc : Covers A R [.out, .irqOwed, .heads,
    .hqs, .cues, .evt, .fc, .sl] (some [.CU_EVT_OVR, .FC_CLEAR_REJ, .FC_CNT, .FC_FIRST_ID, .FC_FIRST_ORG, .FC_FIRST_TAI_NS,
    .FC_FIRST_TAI_SH, .FC_FIRST_TAI_SL, .FC_LAT, .FC_OVF, .FC_SUPPRESSED, .HQ_STAT, .xx_STATUS])) (h :
    Only A R s x)
    (hf : ∀ y, Only A R s y → ∀ d, Only A R s (f d y)) : Only A R s (x.takeDesc r d op f) := by
  unfold State.takeDesc
  split
  · exact h
  · extract_lets +onlyGivenNames i y
    have hy : Only A R s y := by
      subst y
      split
      · exact h
      · exact (show Only [.out, .irqOwed, .heads, .hqs, .cues, .evt, .fc, .sl] (some [.CU_EVT_OVR, .FC_CLEAR_REJ, .FC_CNT, .FC_FIRST_ID, .FC_FIRST_ORG, .FC_FIRST_TAI_NS, .FC_FIRST_TAI_SH, .FC_FIRST_TAI_SL, .FC_LAT, .FC_OVF, .FC_SUPPRESSED, .HQ_STAT, .xx_STATUS]) x (x.ringRead r _ 32) from (only_ringRead ..).over (Covers.some 1 0 rfl rfl) (Only.refl _)).over hc h
    clear_value y i
    split
    · exact (show Only [.out, .irqOwed, .heads, .hqs, .cues, .evt, .fc, .sl] (some [.CU_EVT_OVR, .FC_CLEAR_REJ, .FC_CNT, .FC_FIRST_ID, .FC_FIRST_ORG, .FC_FIRST_TAI_NS, .FC_FIRST_TAI_SH, .FC_FIRST_TAI_SL, .FC_LAT, .FC_OVF, .FC_SUPPRESSED, .HQ_STAT, .xx_STATUS]) y (hqBusErrorOp r y) from (only_hqBusErrorOp ..).over (Covers.some 254 8191 rfl rfl) (Only.refl _)).over hc hy
    · split
      · split
        · exact hf _ hy _
        · exact (show Only [.out, .irqOwed, .heads, .hqs, .cues, .evt, .fc, .sl] (some [.CU_EVT_OVR, .FC_CLEAR_REJ, .FC_CNT, .FC_FIRST_ID, .FC_FIRST_ORG, .FC_FIRST_TAI_NS, .FC_FIRST_TAI_SH, .FC_FIRST_TAI_SL, .FC_LAT, .FC_OVF, .FC_SUPPRESSED, .HQ_STAT, .xx_STATUS]) y (y.fly r _ (some 2)) from (only_fly ..).over (Covers.some 8 2048 rfl rfl) (Only.refl _)).over hc hy
      · exact hy

theorem only_takeJoin (s : State) (m) : Only [.out, .irqOwed, .gl] (some [.GL_MEMBERS, .xx_STATUS]) s (State.takeJoin s m) := by
  unfold State.takeJoin
  refine Only.ite ?_ ?_
  · exact Only.refl _
  · extract_lets +onlyGivenNames y0
    clear_value y0
    extract_lets +onlyGivenNames y1
    clear_value y1
    extract_lets +onlyGivenNames y2
    refine Only.have y2 ?_ fun hy2 => ?_
    · subst y2
      refine (only_updGl ..).over (Covers.some 4 0 rfl rfl) ?_
      exact Only.refl _
    clear_value y2
    extract_lets +onlyGivenNames y3
    refine Only.have y3 ?_ fun hy3 => ?_
    · subst y3
      refine (only_updGl ..).over (Covers.some 4 0 rfl rfl) ?_
      exact hy2
    clear_value y3
    extract_lets +onlyGivenNames y4
    refine Only.have y4 ?_ fun hy4 => ?_
    · subst y4
      refine Only.ite ?_ ?_
      · refine (only_setRoster ..).over (Covers.some 6 3 rfl rfl) ?_
        exact hy3
      · exact Only.refl _
    clear_value y4
    refine (only_glSend ..).over (Covers.some 5 0 rfl rfl) ?_
    exact hy4

theorem only_takeRoster (s : State) (m) :
    Only [.out, .irqOwed, .heads, .cues, .evt, .gl, .fc, .sl] (some [.CU_EVT_OVR, .FC_CLEAR_REJ, .FC_CNT, .FC_FIRST_ID,
      .FC_FIRST_ORG, .FC_FIRST_TAI_NS, .FC_FIRST_TAI_SH, .FC_FIRST_TAI_SL, .FC_LAT, .FC_OVF, .FC_SUPPRESSED, .GL_MEMBERS,
      .GL_STATE, .xx_STATUS]) s (State.takeRoster s m) := by
  unfold State.takeRoster
  extract_lets +onlyGivenNames y0
  clear_value y0
  extract_lets +onlyGivenNames y1
  clear_value y1
  refine Only.ite ?_ ?_
  · extract_lets +onlyGivenNames y2
    refine Only.have y2 ?_ fun hy2 => ?_
    · subst y2
      refine (only_updGl ..).over (Covers.some 32 0 rfl rfl) ?_
      refine (only_updGl ..).over (Covers.some 32 0 rfl rfl) ?_
      exact Only.refl _
    clear_value y2
    extract_lets +onlyGivenNames y3
    refine Only.have y3 ?_ fun hy3 => ?_
    · subst y3
      refine (only_setRoster ..).over (Covers.some 34 10240 rfl rfl) ?_
      exact hy2
    clear_value y3
    extract_lets +onlyGivenNames y4
    refine Only.have y4 ?_ fun hy4 => ?_
    · subst y4
      refine Only.set .GL_STATE 12 rfl rfl ?_
      refine Only.set .GL_STATE 12 rfl rfl ?_
      exact hy3
    clear_value y4
    refine Only.ite ?_ ?_
    · refine (only_sendJoin ..).over (Covers.some 33 0 rfl rfl) ?_
      exact hy4
    · exact hy4
  · refine Only.ite ?_ ?_
    · refine (only_updGl ..).over (Covers.some 32 0 rfl rfl) ?_
      refine (only_setRole ..).over (Covers.some 34 12288 rfl rfl) ?_
      exact Only.refl _
    · refine Only.ite ?_ ?_
      · extract_lets +onlyGivenNames y5
        refine Only.have y5 ?_ fun hy5 => ?_
        · subst y5
          refine (only_raise ..).over (Covers.some 222 10239 rfl rfl) ?_
          refine (only_latch ..).over (Covers.some 2 8192 rfl rfl) ?_
          refine (only_setRole ..).over (Covers.some 34 12288 rfl rfl) ?_
          exact Only.refl _
        clear_value y5
        refine (only_updGl ..).over (Covers.some 32 0 rfl rfl) ?_
        exact hy5
      · exact Only.refl _

theorem only_takeSample (s : State) (m) : Only [.tb] (some []) s (State.takeSample s m) := by
  unfold State.takeSample
  extract_lets +onlyGivenNames y0
  clear_value y0
  split
  · extract_lets +onlyGivenNames y1
    subst y1
    extract_lets +onlyGivenNames y2
    refine Only.have y2 ?_ fun hy2 => ?_
    · subst y2
      refine (only_slaveTo ..).over (Covers.some 1 0 rfl rfl) ?_
      exact Only.refl _
    clear_value y2
    extract_lets +onlyGivenNames y3
    clear_value y3
    extract_lets +onlyGivenNames y4
    refine Only.have y4 ?_ fun hy4 => ?_
    · subst y4
      refine Only.tb 0 rfl ?_
      exact hy2
    clear_value y4
    refine (only_updSrc ..).over (Covers.some 1 0 rfl rfl) ?_
    exact hy4
  · refine (only_updSrc ..).over (Covers.some 1 0 rfl rfl) ?_
    exact Only.refl _

theorem only_thermal (s : State) (i) (t) :
    Only [.irqOwed, .heads, .cues, .evt, .fc, .sl] (some [.CU_EVT_OVR, .FC_CLEAR_REJ, .FC_CNT, .FC_FIRST_ID, .FC_FIRST_ORG,
      .FC_FIRST_TAI_NS, .FC_FIRST_TAI_SH, .FC_FIRST_TAI_SL, .FC_LAT, .FC_OVF, .FC_SUPPRESSED, .PS_TEMP, .xx_STATUS]) s
      (State.thermal s i t) := by
  unfold State.thermal
  extract_lets +onlyGivenNames y0
  clear_value y0
  extract_lets +onlyGivenNames y1
  clear_value y1
  extract_lets +onlyGivenNames y2
  refine Only.have y2 ?_ fun hy2 => ?_
  · subst y2
    refine Only.set .PS_TEMP 11 rfl rfl ?_
    exact Only.refl _
  clear_value y2
  extract_lets +onlyGivenNames y3
  refine Only.have y3 ?_ fun hy3 => ?_
  · subst y3
    refine Only.ite ?_ ?_
    · refine (only_raise ..).over (Covers.some 63 6143 rfl rfl) ?_
      refine (only_latch ..).over (Covers.some 1 4096 rfl rfl) ?_
      exact hy2
    · exact hy2
  clear_value y3
  refine Only.ite ?_ ?_
  · refine (only_raise ..).over (Covers.some 63 6143 rfl rfl) ?_
    exact hy3
  · exact hy3

theorem only_ticks (s : State) (n) : Only allAreas none s (State.ticks s n) := by
  unfold State.ticks
  extract_lets +onlyGivenNames y0
  refine Only.have y0 ?_ fun hy0 => ?_
  · subst y0
    refine (only_advance ..).over (Covers.any 1116691693569 rfl) ?_
    refine (only_endTick ..).over (Covers.any 986283405170700 rfl) ?_
    exact Only.refl _
  clear_value y0
  refine (only_afterTick ..).over (Covers.any 1125899906842623 rfl) ?_
  refine (only_ptpSend ..).over (Covers.any 6 rfl) ?_
  exact hy0

theorem only_upset (s : State) (u) :
    Only [.irqOwed, .bad, .heads, .cues, .ecc, .evt, .fc, .sl] (some [.CL_CORR, .CU_EVT_OVR, .FC_CLEAR_REJ, .FC_CNT,
      .FC_FIRST_ID, .FC_FIRST_ORG, .FC_FIRST_TAI_NS, .FC_FIRST_TAI_SH, .FC_FIRST_TAI_SL, .FC_LAT, .FC_OVF, .FC_SUPPRESSED,
      .LT_SVC_ERR, .NP_FEC_CORR, .NP_FEC_UNCORR, .xx_STATUS]) s (State.upset s u) := by
  unfold State.upset
  extract_lets +onlyGivenNames y0
  subst y0
  beta_reduce
  split
  · refine Only.bad 1 rfl ?_
    exact Only.refl _
  · refine Only.ecc 4 rfl ?_
    exact Only.refl _
  · refine Only.ecc 4 rfl ?_
    exact Only.refl _
  · refine Only.ecc 4 rfl ?_
    exact Only.refl _
  · refine (only_hbmCorrect ..).over (Covers.some 237 36862 rfl rfl) ?_
    exact Only.refl _
  · refine Only.count .CL_CORR 0 rfl rfl ?_
    exact Only.refl _
  · refine (only_laneErrors ..).over (Covers.some 0 4096 rfl rfl) ?_
    exact Only.refl _
  · refine (only_fecErrors ..).over (Covers.some 1 57344 rfl rfl) ?_
    exact Only.refl _

theorem only_waitDevice (s : State) (n) (rd) (code) :
    Only [.irqOwed, .heads, .cues, .cregs, .evt, .fc, .sl] (some [.CU_ECAUSE, .CU_EDATA, .CU_EPC, .CU_EVT_OVR, .CU_PC,
      .CU_RETIRED, .CU_STAT, .CU_TRAP_CNT, .FC_CLEAR_REJ, .FC_CNT, .FC_FIRST_ID, .FC_FIRST_ORG, .FC_FIRST_TAI_NS,
      .FC_FIRST_TAI_SH, .FC_FIRST_TAI_SL, .FC_LAT, .FC_OVF, .FC_SUPPRESSED, .xx_STATUS]) s (State.waitDevice s n rd code) := by
  unfold State.waitDevice
  split
  · refine Only.ite ?_ ?_
    · refine (only_finishOp ..).over (Covers.some 127 524287 rfl rfl) ?_
      refine (only_setEvt ..).over (Covers.some 16 0 rfl rfl) ?_
      exact Only.refl _
    · refine (only_beginWait ..).over (Covers.some 4 64 rfl rfl) ?_
      refine (only_setEvt ..).over (Covers.some 16 0 rfl rfl) ?_
      exact Only.refl _
  · refine (only_beginWait ..).over (Covers.some 4 64 rfl rfl) ?_
    exact Only.refl _

theorem only_waitHead (s : State) (n) (rd) (code) :
    Only [.irqOwed, .heads, .cues, .cregs, .evt, .fc, .sl] (some [.CU_ECAUSE, .CU_EDATA, .CU_EPC, .CU_EVT_OVR, .CU_PC,
      .CU_RETIRED, .CU_STAT, .CU_TRAP_CNT, .FC_CLEAR_REJ, .FC_CNT, .FC_FIRST_ID, .FC_FIRST_ORG, .FC_FIRST_TAI_NS,
      .FC_FIRST_TAI_SH, .FC_FIRST_TAI_SL, .FC_LAT, .FC_OVF, .FC_SUPPRESSED, .xx_STATUS]) s (State.waitHead s n rd code) := by
  unfold State.waitHead
  extract_lets +onlyGivenNames y0
  subst y0
  beta_reduce
  refine Only.ite ?_ ?_
  · refine only_headWait (Covers.some 127 524287 rfl rfl) ?_ fun y1 hy1 => ?_
    · exact Only.refl _
    · refine (only_beginWait ..).over (Covers.some 4 64 rfl rfl) ?_
      exact hy1
  · refine (only_beginWait ..).over (Covers.some 4 64 rfl rfl) ?_
    exact Only.refl _

theorem only_waitLine (s : State) (n) (rd) (l) :
    Only [.irqOwed, .heads, .cues, .cregs, .evt, .fc, .sl] (some [.CU_ECAUSE, .CU_EDATA, .CU_EPC, .CU_EVT_OVR, .CU_PC,
      .CU_RETIRED, .CU_STAT, .CU_TRAP_CNT, .FC_CLEAR_REJ, .FC_CNT, .FC_FIRST_ID, .FC_FIRST_ORG, .FC_FIRST_TAI_NS,
      .FC_FIRST_TAI_SH, .FC_FIRST_TAI_SL, .FC_LAT, .FC_OVF, .FC_SUPPRESSED, .xx_STATUS]) s (State.waitLine s n rd l) := by
  unfold State.waitLine
  refine only_headWait (Covers.some 127 524287 rfl rfl) ?_ fun y0 hy0 => ?_
  · exact Only.refl _
  · refine (only_beginWait ..).over (Covers.some 4 64 rfl rfl) ?_
    exact hy0

theorem only_waitLineOf (s : State) (n) (rd) (l) (t) :
    Only [.irqOwed, .heads, .cues, .cregs, .evt, .fc, .sl] (some [.CU_ECAUSE, .CU_EDATA, .CU_EPC, .CU_EVT_OVR, .CU_FLAGS,
      .CU_LATE_CNT, .CU_PC, .CU_RETIRED, .CU_STAT, .CU_TRAP_CNT, .FC_CLEAR_REJ, .FC_CNT, .FC_FIRST_ID, .FC_FIRST_ORG,
      .FC_FIRST_TAI_NS, .FC_FIRST_TAI_SH, .FC_FIRST_TAI_SL, .FC_LAT, .FC_OVF, .FC_SUPPRESSED, .xx_STATUS]) s (State.waitLineOf s
      n rd l t) := by
  unfold State.waitLineOf
  refine only_headWait (Covers.some 127 2097103 rfl rfl) ?_ fun y0 hy0 => ?_
  · exact Only.refl _
  · extract_lets +onlyGivenNames y1
    clear_value y1
    extract_lets +onlyGivenNames y2
    clear_value y2
    extract_lets +onlyGivenNames y3
    clear_value y3
    split
    · refine (only_beginWait ..).over (Covers.some 4 256 rfl rfl) ?_
      exact hy0
    · refine Only.ite ?_ ?_
      · refine (only_lateWait ..).over (Covers.some 127 2097151 rfl rfl) ?_
        exact hy0
      · refine (only_beginWait ..).over (Covers.some 4 256 rfl rfl) ?_
        exact hy0

theorem only_waitTime (s : State) (n) (rd) (t) :
    Only [.irqOwed, .heads, .cues, .cregs, .evt, .fc, .sl] (some [.CU_ECAUSE, .CU_EDATA, .CU_EPC, .CU_EVT_OVR, .CU_FLAGS,
      .CU_LATE_CNT, .CU_PC, .CU_RETIRED, .CU_STAT, .CU_TRAP_CNT, .FC_CLEAR_REJ, .FC_CNT, .FC_FIRST_ID, .FC_FIRST_ORG,
      .FC_FIRST_TAI_NS, .FC_FIRST_TAI_SH, .FC_FIRST_TAI_SL, .FC_LAT, .FC_OVF, .FC_SUPPRESSED, .xx_STATUS]) s (State.waitTime s n
      rd t) := by
  unfold State.waitTime
  extract_lets +onlyGivenNames y0
  clear_value y0
  refine Only.ite ?_ ?_
  · refine (only_lateWait ..).over (Covers.some 127 2097151 rfl rfl) ?_
    exact Only.refl _
  · refine Only.ite ?_ ?_
    · refine (only_beginWait ..).over (Covers.some 4 256 rfl rfl) ?_
      exact Only.refl _
    · refine (only_lateWait ..).over (Covers.some 127 2097151 rfl rfl) ?_
      exact Only.refl _

theorem only_warmReset (t : State) (kind) : Only allAreas none t (State.warmReset t kind) := by
  unfold State.warmReset
  extract_lets +onlyGivenNames y0
  refine Only.have y0 ?_ fun hy0 => ?_
  · subst y0
    exact (only_bare ..).over (Covers.any 1125899906842623 rfl) (Only.refl _)
  clear_value y0
  extract_lets +onlyGivenNames y1
  clear_value y1
  extract_lets +onlyGivenNames y2
  refine Only.have y2 ?_ fun hy2 => ?_
  · subst y2
    exact ⟨⟨hy0.follows.pending, hy0.follows.tick, hy0.follows.out, hy0.follows.serial, hy0.follows.free, hy0.follows.mem, nodup_filter _⟩, fun a ha => by
      cases a <;> first | exact hy0.same _ ha | exact absurd (by decide) ha, nofun⟩
  clear_value y2
  extract_lets +onlyGivenNames y3
  refine Only.have y3 ?_ fun hy3 => ?_
  · subst y3
    refine (only_updDv ..).over (Covers.any 16384 rfl) ?_
    refine only_keepMemories ?_
    exact hy2
  clear_value y3
  extract_lets +onlyGivenNames y4
  refine Only.have y4 ?_ fun hy4 => ?_
  · subst y4
    refine Only.setAny ?_
    exact hy3
  clear_value y4
  refine Only.setAny ?_
  exact hy4

theorem only_wordWrite (s : State) (o) (addr) (v) (be) : Only allAreas none s (State.wordWrite s o addr v be) := by
  unfold State.wordWrite
  refine Only.ite ?_ ?_
  · refine (only_busWrite ..).over (Covers.any 1125899906842623 rfl) ?_
    exact Only.refl _
  · split
    · refine (only_msixWrite ..).over (Covers.any 1028 rfl) ?_
      exact Only.refl _
    · exact Only.refl _

theorem only_wordWrites (s : State) (o addr) (l : List (Word × BitVec 4)) : Only allAreas none s (s.wordWrites o addr l) := by
  induction l generalizing s addr with
  | nil => exact Only.refl _
  | cons x l ih => exact (ih ..).over (Covers.any 1125899906842623 rfl) ((only_wordWrite ..).over (Covers.any 1125899906842623 rfl) (Only.refl _))

theorem only_writeInc (s : State) (m) : Only allAreas none s (State.writeInc s m) := by
  unfold State.writeInc
  refine Only.ite ?_ ?_
  · refine (only_servoWrite ..).over (Covers.any 1125899906842623 rfl) ?_
    refine (only_servoWrite ..).over (Covers.any 1125899906842623 rfl) ?_
    exact Only.refl _
  · exact Only.refl _

theorem only_writeOfs (s : State) (pc) (offset) : Only allAreas none s (State.writeOfs s pc offset) := by
  unfold State.writeOfs
  refine (only_servoWrite ..).over (Covers.any 1125899906842623 rfl) ?_
  exact Only.refl _

theorem only_abortOp (m) (s : State) : Only allAreas none s (abortOp m s) := by
  unfold abortOp
  refine only_glReceive (Covers.any 70368744177672 rfl) ?_ (fun y0 hy0 => ?_) fun y0 hy0 => ?_
  · exact Only.refl _
  · refine Only.ofId ?_
    exact hy0
  · refine (only_glTakeAbort ..).over (Covers.any 1125899906842623 rfl) ?_
    exact hy0

theorem only_ackDeadlineOp (s : State) : Only allAreas none s (ackDeadlineOp s) := by
  unfold ackDeadlineOp
  split
  · refine Only.ite ?_ ?_
    · refine (only_glAbortAll ..).over (Covers.any 1125899906842623 rfl) ?_
      exact Only.refl _
    · exact Only.refl _
  · exact Only.refl _

theorem only_ackOp (m) (s : State) : Only allAreas none s (ackOp m s) := by
  unfold ackOp
  refine only_glReceive (Covers.any 70368744177672 rfl) ?_ (fun y0 hy0 => ?_) fun y0 hy0 => ?_
  · exact Only.refl _
  · refine Only.ofId ?_
    exact hy0
  · refine Only.ite ?_ ?_
    · refine (only_glTakeAck ..).over (Covers.any 1125899906842623 rfl) ?_
      exact hy0
    · exact hy0

theorem only_ackSendOp (s : State) : Only allAreas none s (ackSendOp s) := by
  unfold ackSendOp
  refine Only.ite ?_ ?_
  · refine Only.foldl ?_ fun y0 _ hy0 => ?_
    · exact Only.refl _
    · refine (only_glAnswer1 ..).over (Covers.any 1125899906842623 rfl) ?_
      exact hy0
  · exact Only.refl _

theorem only_adBurstDoneOp (c) (data) (s : State) :
    Only [.out, .irqOwed, .mem, .bad, .heads, .queues, .ads, .hqs, .pls, .cues, .evt, .fc, .sl] (some [.AD_BURSTS, .AD_HW_IDX,
      .AD_LOST, .AD_ORPHAN, .AD_STAT, .CE_PL_S_STAT, .CE_PL_WR_DENY, .CU_EVT_OVR, .FC_CLEAR_REJ, .FC_CNT, .FC_FIRST_ID,
      .FC_FIRST_ORG, .FC_FIRST_TAI_NS, .FC_FIRST_TAI_SH, .FC_FIRST_TAI_SL, .FC_LAT, .FC_OVF, .FC_SUPPRESSED, .HQ_DROP,
      .NP_TX_DOWN_DROP, .NP_TX_OVERSIZE, .NQ_OBS_DEPTH, .NQ_OVERSIZE, .NQ_STAT, .xx_STATUS]) s (adBurstDoneOp c data s) := by
  unfold adBurstDoneOp
  extract_lets +onlyGivenNames y0
  clear_value y0
  extract_lets +onlyGivenNames y1
  clear_value y1
  split
  · refine Only.ite ?_ ?_
    · refine (only_adSendDone ..).over (Covers.some 7923 33554335 rfl rfl) ?_
      exact Only.refl _
    · refine Only.ite ?_ ?_
      · refine (only_adBusErrorOp ..).over (Covers.some 7762 17039248 rfl rfl) ?_
        exact Only.refl _
      · refine (only_adSendDone ..).over (Covers.some 7923 33554335 rfl rfl) ?_
        exact Only.refl _
  · split
    · exact Only.refl _
    · extract_lets +onlyGivenNames y2
      refine Only.have y2 ?_ fun hy2 => ?_
      · subst y2
        refine Only.ite ?_ ?_
        · refine (only_emit ..).over (Covers.some 1 0 rfl rfl) ?_
          exact Only.refl _
        · refine (only_memWrite ..).over (Covers.some 7966 17039328 rfl rfl) ?_
          exact Only.refl _
      clear_value y2
      refine (only_adFinish ..).over (Covers.some 64 19 rfl rfl) ?_
      exact hy2

theorem only_admitOp (m) (s : State) :
    Only [.irqOwed, .heads, .cues, .evt, .gl, .fc, .sl] (some [.CU_EVT_OVR, .FC_CLEAR_REJ, .FC_CNT, .FC_FIRST_ID, .FC_FIRST_ORG,
      .FC_FIRST_TAI_NS, .FC_FIRST_TAI_SH, .FC_FIRST_TAI_SL, .FC_LAT, .FC_OVF, .FC_SUPPRESSED, .GL_RX_BAD, .GL_STATE,
      .xx_STATUS]) s (admitOp m s) := by
  unfold admitOp
  refine only_glReceive (Covers.some 17 10240 rfl rfl) ?_ (fun y0 hy0 => ?_) fun y0 hy0 => ?_
  · exact Only.refl _
  · refine Only.ofId ?_
    exact hy0
  · refine (only_takeAdmit ..).over (Covers.some 127 14335 rfl rfl) ?_
    exact hy0

theorem only_applied (s : State) : Only [] (some []) s (applied s).st := by
  unfold applied
  refine Only.st ?_
  exact Only.refl _

theorem only_badArg (s : State) : Only [] (some []) s (badArg s).st := by
  unfold badArg
  refine Only.st ?_
  exact Only.refl _

theorem only_bar2ReadOp (f) (addr) (len) (s : State) : Only [.out] (some []) s (bar2ReadOp f addr len s) := by
  unfold bar2ReadOp
  refine Only.ite ?_ ?_
  · refine (only_emit ..).over (Covers.some 1 0 rfl rfl) ?_
    exact Only.refl _
  · exact Only.refl _

theorem only_bar2WriteOp (f) (addr) (data) (s : State) :
    Only [.irqOwed, .mem, .bad, .heads, .pls, .cues, .evt, .fc, .sl] (some [.CE_PL_S_STAT, .CE_PL_WR_DENY, .CU_EVT_OVR,
      .FC_CLEAR_REJ, .FC_CNT, .FC_FIRST_ID, .FC_FIRST_ORG, .FC_FIRST_TAI_NS, .FC_FIRST_TAI_SH, .FC_FIRST_TAI_SL, .FC_LAT,
      .FC_OVF, .FC_SUPPRESSED, .xx_STATUS]) s (bar2WriteOp f addr data s) := by
  unfold bar2WriteOp
  refine Only.ite ?_ ?_
  · refine (only_memWrite ..).over (Covers.some 511 16383 rfl rfl) ?_
    exact Only.refl _
  · exact Only.refl _

theorem only_bootCompleteOp (s : State) : Only allAreas none s (bootCompleteOp s) := by
  unfold bootCompleteOp
  refine Only.ite ?_ ?_
  · exact Only.refl _
  · extract_lets +onlyGivenNames y0
    clear_value y0
    extract_lets +onlyGivenNames y1
    refine Only.have y1 ?_ fun hy1 => ?_
    · subst y1
      refine (only_setGated ..).over (Covers.any 2199023255552 rfl) ?_
      refine (only_updDv ..).over (Covers.any 16384 rfl) ?_
      exact Only.refl _
    clear_value y1
    refine Only.ite ?_ ?_
    · refine (only_keyWrite ..).over (Covers.any 1125899906842623 rfl) ?_
      exact hy1
    · exact hy1

theorem only_boundaryStep (n) (s : State) :
    Only [.free, .irqOwed, .eff, .waiting, .mem, .bad, .heads, .dts, .layers, .pls, .cks, .cues, .evt, .fc, .sl] none s
      (boundaryStep n s) := by
  unfold boundaryStep
  extract_lets +onlyGivenNames y0
  clear_value y0
  extract_lets +onlyGivenNames y1
  clear_value y1
  extract_lets +onlyGivenNames y2
  clear_value y2
  refine Only.ite ?_ ?_
  · exact Only.refl _
  · extract_lets +onlyGivenNames y3
    refine Only.have y3.1 ?_ fun hy3 => ?_
    · subst y3
      refine (only_takeBoundary ..).over (Covers.any 31694 rfl) ?_
      exact Only.refl _
    clear_value y3
    extract_lets +onlyGivenNames y4
    refine Only.have y4 ?_ fun hy4 => ?_
    · subst y4
      exact hy3
    clear_value y4
    extract_lets +onlyGivenNames y5
    refine Only.have y5 ?_ fun hy5 => ?_
    · subst y5
      refine Only.ite ?_ ?_
      · exact hy4
      · refine (only_raise ..).over (Covers.any 30786 rfl) ?_
        exact hy4
    clear_value y5
    extract_lets +onlyGivenNames y6
    refine Only.have y6 ?_ fun hy6 => ?_
    · subst y6
      split
      · refine (only_journal ..).over (Covers.any 31346 rfl) ?_
        exact hy5
      · exact hy5
    clear_value y6
    extract_lets +onlyGivenNames y7
    refine Only.have y7 ?_ fun hy7 => ?_
    · subst y7
      refine (only_rateShown ..).over (Covers.any 64 rfl) ?_
      exact hy6
    clear_value y7
    extract_lets +onlyGivenNames y8
    refine Only.have y8 ?_ fun hy8 => ?_
    · subst y8
      refine (only_plFrameScan ..).over (Covers.any 1537 rfl) ?_
      exact hy7
    clear_value y8
    extract_lets +onlyGivenNames y9
    refine Only.have y9 ?_ fun hy9 => ?_
    · subst y9
      refine (only_updHead ..).over (Covers.any 64 rfl) ?_
      exact hy8
    clear_value y9
    refine (only_headEvent ..).over (Covers.any 2112 rfl) ?_
    exact hy9

end Sys2Proof.Machine
end

