-- ==== Sys2Proof/Laws/Touch6.lean ====
section
/-! SUPPORT. What each operation touches, part 6 of 7: for every operation the parts of the state and the registers that it
may change. All else stays, and the operation follows the state before it (Only). -/

namespace Sys2Proof.Machine

theorem only_cellarCheckOp (crcOk) (layout) (bad) (s : State) :
    Only [.out, .irqOwed, .mem, .bad, .dv, .tb, .heads, .pls, .cues, .evt, .rf, .sps, .fc, .sl, .cl] none s (cellarCheckOp crcOk
      layout bad s) := by
  unfold cellarCheckOp
  extract_lets +onlyGivenNames y0
  clear_value y0
  extract_lets +onlyGivenNames y1
  subst y1
  beta_reduce
  refine Only.ite ?_ ?_
  · extract_lets +onlyGivenNames y2
    refine Only.have y2 ?_ fun hy2 => ?_
    · subst y2
      refine Only.setAny ?_
      refine Only.setAny ?_
      refine (only_dropSlots ..).over (Covers.any 16384 rfl) ?_
      exact Only.refl _
    clear_value y2
    extract_lets +onlyGivenNames y3
    refine Only.have y3 ?_ fun hy3 => ?_
    · subst y3
      refine (only_updDv ..).over (Covers.any 16 rfl) ?_
      refine Only.setAny ?_
      exact hy2
    clear_value y3
    extract_lets +onlyGivenNames y4
    refine Only.have y4 ?_ fun hy4 => ?_
    · subst y4
      refine (only_showRecords ..).over (Covers.any 0 rfl) ?_
      refine (only_loadRegs ..).over (Covers.any 0 rfl) ?_
      exact hy3
    clear_value y4
    extract_lets +onlyGivenNames y5
    subst y5
    extract_lets +onlyGivenNames y6
    clear_value y6
    extract_lets +onlyGivenNames y7
    refine Only.have y7 ?_ fun hy7 => ?_
    · subst y7
      refine Only.ite ?_ ?_
      · exact hy3
      · refine Only.setAny ?_
        refine (only_updDv ..).over (Covers.any 16 rfl) ?_
        exact hy4
    clear_value y7
    extract_lets +onlyGivenNames y8
    refine Only.have y8 ?_ fun hy8 => ?_
    · subst y8
      refine Only.setAny ?_
      refine Only.setAny ?_
      exact hy7
    clear_value y8
    extract_lets +onlyGivenNames y9
    refine Only.have y9 ?_ fun hy9 => ?_
    · subst y9
      refine Only.ite ?_ ?_
      · refine (only_requestBoot ..).over (Covers.any 16400 rfl) ?_
        exact hy8
      · exact hy8
    clear_value y9
    extract_lets +onlyGivenNames y10
    subst y10
    extract_lets +onlyGivenNames y11
    clear_value y11
    extract_lets +onlyGivenNames y12
    refine Only.have y12 ?_ fun hy12 => ?_
    · subst y12
      refine Only.ite ?_ ?_
      · exact hy9
      · refine Only.tb 5 rfl ?_
        exact hy9
    clear_value y12
    extract_lets +onlyGivenNames y13
    refine Only.have y13 ?_ fun hy13 => ?_
    · subst y13
      refine Only.ite ?_ ?_
      · exact hy12
      · refine (only_raise ..).over (Covers.any 13122 rfl) ?_
        refine (only_latch ..).over (Covers.any 2 rfl) ?_
        exact hy12
    clear_value y13
    extract_lets +onlyGivenNames y14
    subst y14
    extract_lets +onlyGivenNames y15
    clear_value y15
    extract_lets +onlyGivenNames y16
    clear_value y16
    extract_lets +onlyGivenNames y17
    clear_value y17
    extract_lets +onlyGivenNames y18
    refine Only.have y18 ?_ fun hy18 => ?_
    · subst y18
      refine Only.sl 13 rfl ?_
      exact hy13
    clear_value y18
    extract_lets +onlyGivenNames y19
    refine Only.have y19 ?_ fun hy19 => ?_
    · subst y19
      refine Only.ite ?_ ?_
      · refine (only_raise ..).over (Covers.any 13122 rfl) ?_
        exact hy18
      · exact hy18
    clear_value y19
    extract_lets +onlyGivenNames y20
    refine Only.have y20 ?_ fun hy20 => ?_
    · subst y20
      refine Only.ite ?_ ?_
      · refine (only_requestControl ..).over (Covers.any 16400 rfl) ?_
        exact hy19
      · refine (only_releaseBoot ..).over (Covers.any 29663 rfl) ?_
        exact hy19
    clear_value y20
    refine Only.ite ?_ ?_
    · refine (only_stepFour ..).over (Covers.any 16242 rfl) ?_
      exact hy20
    · exact hy20
  · refine Only.ite ?_ ?_
    · extract_lets +onlyGivenNames y21
      refine Only.have y21 ?_ fun hy21 => ?_
      · subst y21
        refine (only_dropSlots ..).over (Covers.any 16384 rfl) ?_
        exact Only.refl _
      clear_value y21
      refine Only.fc 12 rfl ?_
      exact hy21
    · exact Only.refl _

theorem only_checkDone (k) (s : State) :
    Only [.irqOwed, .mem, .bad, .heads, .engines, .groups, .layers, .pls, .cues, .evt, .fc, .sl] (some [.CE_ADM_CULL,
      .CE_ADM_FAIL_LIMIT, .CE_ADM_FAIL_NEED, .CE_ADM_PEAK_B, .CE_ADM_PEAK_LP, .CE_ADM_PEAK_RES, .CE_CDET, .CE_CREJ, .CE_CSTAT,
      .CE_JRN_WR, .CE_L_FENCE_STAT, .CE_L_SHOWN_HI, .CE_L_SHOWN_LO, .CE_PL_S_STAT, .CE_PL_WR_DENY, .CE_VINT_APP, .CU_EVT_OVR,
      .FC_CLEAR_REJ, .FC_CNT, .FC_FIRST_ID, .FC_FIRST_ORG, .FC_FIRST_TAI_NS, .FC_FIRST_TAI_SH, .FC_FIRST_TAI_SL, .FC_LAT,
      .FC_OVF, .FC_SUPPRESSED, .xx_STATUS]) s (checkDone k s) := by
  unfold checkDone
  refine Only.ite ?_ ?_
  · exact Only.refl _
  · split
    · exact Only.refl _
    · extract_lets +onlyGivenNames y0
      clear_value y0
      refine Only.ite ?_ ?_
      · extract_lets +onlyGivenNames y1
        refine Only.have y1 ?_ fun hy1 => ?_
        · subst y1
          refine (only_setChecks ..).over (Covers.some 16 0 rfl rfl) ?_
          exact Only.refl _
        clear_value y1
        extract_lets +onlyGivenNames y2
        refine Only.have y2 ?_ fun hy2 => ?_
        · subst y2
          refine Only.ite ?_ ?_
          · refine (only_acceptSet ..).over (Covers.some 4047 268435321 rfl rfl) ?_
            exact hy1
          · refine (only_rejectSet ..).over (Covers.some 3849 268370374 rfl rfl) ?_
            exact hy1
        clear_value y2
        refine (only_startCheck ..).over (Covers.some 17 134217728 rfl rfl) ?_
        exact hy2
      · split
        · refine (only_startCheck ..).over (Covers.some 17 134217728 rfl rfl) ?_
          refine (only_setChecks ..).over (Covers.some 16 0 rfl rfl) ?_
          exact Only.refl _
        · extract_lets +onlyGivenNames y3
          clear_value y3
          refine Only.ite ?_ ?_
          · refine (only_failGroup ..).over (Covers.some 3897 268370374 rfl rfl) ?_
            exact Only.refl _
          · extract_lets +onlyGivenNames y4
            refine Only.have y4 ?_ fun hy4 => ?_
            · subst y4
              refine (only_setChecks ..).over (Covers.some 16 0 rfl rfl) ?_
              exact Only.refl _
            clear_value y4
            extract_lets +onlyGivenNames y5
            clear_value y5
            refine Only.ite ?_ ?_
            · refine (only_startCheck ..).over (Covers.some 17 134217728 rfl rfl) ?_
              refine Only.groups 5 rfl ?_
              exact hy4
            · split
              · refine (only_failGroup ..).over (Covers.some 3897 268370374 rfl rfl) ?_
                exact hy4
              · extract_lets +onlyGivenNames y6
                refine Only.have y6 ?_ fun hy6 => ?_
                · subst y6
                  refine Only.groups 5 rfl ?_
                  exact hy4
                clear_value y6
                refine (only_startCheck ..).over (Covers.some 17 134217728 rfl rfl) ?_
                refine (only_acceptGroup ..).over (Covers.some 264 320 rfl rfl) ?_
                exact hy6

theorem only_ckAbortCmd (o) (u) (fed) (s : State) : Only allAreas none s (ckAbortCmd o u fed s) := by
  unfold ckAbortCmd
  extract_lets +onlyGivenNames y0
  refine Only.have y0 ?_ fun hy0 => ?_
  · subst y0
    refine (only_keyWrite ..).over (Covers.any 1125899906842623 rfl) ?_
    exact Only.refl _
  clear_value y0
  refine Only.ite ?_ ?_
  · extract_lets +onlyGivenNames y1
    refine Only.have y1 ?_ fun hy1 => ?_
    · subst y1
      refine (only_ckFeed ..).over (Covers.any 8589934592 rfl) ?_
      refine Only.setAny ?_
      refine (only_setCk ..).over (Covers.any 8589934592 rfl) ?_
      exact hy0
    clear_value y1
    refine Only.setAny ?_
    exact hy1
  · exact hy0

theorem only_ckDone (u) (s : State) :
    Only [.free, .irqOwed, .heads, .cks, .cues, .evt, .fc, .sl] (some [.CK_PROG, .CK_RESULT, .CK_RUN, .CK_STAT, .CU_EVT_OVR,
      .FC_CLEAR_REJ, .FC_CNT, .FC_FIRST_ID, .FC_FIRST_ORG, .FC_FIRST_TAI_NS, .FC_FIRST_TAI_SH, .FC_FIRST_TAI_SL, .FC_LAT,
      .FC_OVF, .FC_SUPPRESSED, .xx_STATUS]) s (ckDone u s) := by
  unfold ckDone
  refine Only.ite ?_ ?_
  · exact Only.refl _
  · extract_lets +onlyGivenNames y0
    subst y0
    refine Only.ite ?_ ?_
    · extract_lets +onlyGivenNames y1
      refine Only.have y1.2 ?_ fun hy1 => ?_
      · subst y1
        refine (only_fresh ..).over (Covers.some 1 0 rfl rfl) ?_
        exact Only.refl _
      clear_value y1
      extract_lets +onlyGivenNames y2
      refine Only.have y2 ?_ fun hy2 => ?_
      · subst y2
        refine Only.set .CK_RESULT 1 rfl rfl ?_
        exact hy1
      clear_value y2
      extract_lets +onlyGivenNames y3
      refine Only.have y3 ?_ fun hy3 => ?_
      · subst y3
        refine Only.set .CK_STAT 3 rfl rfl ?_
        refine Only.set .CK_STAT 3 rfl rfl ?_
        exact hy2
      clear_value y3
      refine (only_raise ..).over (Covers.some 246 65520 rfl rfl) ?_
      refine (only_latch ..).over (Covers.some 2 32768 rfl rfl) ?_
      refine Only.set .CK_STAT 3 rfl rfl ?_
      exact hy3
    · extract_lets +onlyGivenNames y4
      refine Only.have y4 ?_ fun hy4 => ?_
      · subst y4
        refine (only_ckFeed ..).over (Covers.some 8 4 rfl rfl) ?_
        exact Only.refl _
      clear_value y4
      extract_lets +onlyGivenNames y5
      clear_value y5
      extract_lets +onlyGivenNames y6
      clear_value y6
      extract_lets +onlyGivenNames y7
      refine Only.have y7 ?_ fun hy7 => ?_
      · subst y7
        refine Only.set .CK_RESULT 1 rfl rfl ?_
        exact hy4
      clear_value y7
      extract_lets +onlyGivenNames y8
      refine Only.have y8 ?_ fun hy8 => ?_
      · subst y8
        refine Only.set .CK_STAT 3 rfl rfl ?_
        refine Only.set .CK_STAT 3 rfl rfl ?_
        exact hy7
      clear_value y8
      extract_lets +onlyGivenNames y9
      refine Only.have y9 ?_ fun hy9 => ?_
      · subst y9
        refine Only.set .CK_PROG 0 rfl rfl ?_
        exact hy8
      clear_value y9
      extract_lets +onlyGivenNames y10
      refine Only.have y10 ?_ fun hy10 => ?_
      · subst y10
        refine (only_latch ..).over (Covers.some 2 32768 rfl rfl) ?_
        exact hy9
      clear_value y10
      refine Only.ite ?_ ?_
      · exact hy10
      · refine Only.ite ?_ ?_
        · refine Only.set .CK_STAT 3 rfl rfl ?_
          exact hy10
        · refine (only_raise ..).over (Covers.some 246 65520 rfl rfl) ?_
          refine (only_latch ..).over (Covers.some 2 32768 rfl rfl) ?_
          refine Only.set .CK_STAT 3 rfl rfl ?_
          exact hy10

theorem only_ckRunReadOp (o) (u) (fed) (s : State) :
    Only [.free, .out, .irqOwed, .slowCopy, .tb, .heads, .cks, .cues, .ecc, .evt, .lts, .fc, .sl] none s (ckRunReadOp o u fed s)
      := by
  unfold ckRunReadOp
  extract_lets +onlyGivenNames y0
  refine Only.have y0.1 ?_ fun hy0 => ?_
  · subst y0
    refine (only_busReadAt ..).over (Covers.any 8189 rfl) ?_
    exact Only.refl _
  clear_value y0
  refine (only_emit ..).over (Covers.any 2 rfl) ?_
  exact hy0

theorem only_clReadOp (f) (o) (len) (s : State) : Only [.mbx] (some []) s (clReadOp f o len s) := by
  unfold clReadOp
  refine only_mbxServe (Covers.some 1 0 rfl rfl) ?_ fun _ => ?_
  · exact Only.refl _
  · refine Only.itest ?_ ?_
    · refine Only.st ?_
      exact Only.refl _
    · refine Only.st ?_
      exact Only.refl _

theorem only_claimElectionOp (s : State) :
    Only [.irqOwed, .gl] (some [.GL_MEMBERS, .GL_STATE, .xx_STATUS]) s (claimElectionOp s) := by
  unfold claimElectionOp
  refine Only.ite ?_ ?_
  · exact Only.refl _
  · extract_lets +onlyGivenNames y0
    clear_value y0
    extract_lets +onlyGivenNames y1
    clear_value y1
    extract_lets +onlyGivenNames y2
    clear_value y2
    extract_lets +onlyGivenNames y3
    refine Only.have y3 ?_ fun hy3 => ?_
    · subst y3
      refine (only_updGl ..).over (Covers.some 2 0 rfl rfl) ?_
      exact Only.refl _
    clear_value y3
    refine Only.ite ?_ ?_
    · exact hy3
    · refine Only.ite ?_ ?_
      · refine (only_setRole ..).over (Covers.some 3 6 rfl rfl) ?_
        exact hy3
      · extract_lets +onlyGivenNames y4
        refine Only.have y4 ?_ fun hy4 => ?_
        · subst y4
          refine (only_setRole ..).over (Covers.some 3 6 rfl rfl) ?_
          exact hy3
        clear_value y4
        extract_lets +onlyGivenNames y5
        refine Only.have y5 ?_ fun hy5 => ?_
        · subst y5
          refine Only.set .GL_STATE 1 rfl rfl ?_
          refine Only.set .GL_STATE 1 rfl rfl ?_
          exact hy4
        clear_value y5
        refine (only_setRoster ..).over (Covers.some 3 5 rfl rfl) ?_
        refine (only_updGl ..).over (Covers.some 2 0 rfl rfl) ?_
        exact hy5

theorem only_claimOp (m) (s : State) : Only [.irqOwed, .gl] (some [.GL_RX_BAD, .GL_STATE, .xx_STATUS]) s (claimOp m s) := by
  unfold claimOp
  refine only_glReceive (Covers.some 3 5 rfl rfl) ?_ (fun y0 hy0 => ?_) fun y0 hy0 => ?_
  · exact Only.refl _
  · refine Only.ofId ?_
    exact hy0
  · refine (only_takeClaim ..).over (Covers.some 3 6 rfl rfl) ?_
    exact hy0

theorem only_claimSendOp (s : State) : Only [.out, .gl] (some []) s (claimSendOp s) := by
  unfold claimSendOp
  refine Only.ite ?_ ?_
  · exact Only.refl _
  · extract_lets +onlyGivenNames y0
    refine Only.have y0 ?_ fun hy0 => ?_
    · subst y0
      refine (only_updGl ..).over (Covers.some 2 0 rfl rfl) ?_
      exact Only.refl _
    clear_value y0
    refine (only_glCast ..).over (Covers.some 3 0 rfl rfl) ?_
    exact hy0

theorem only_closeOp (f) (s : State) : Only [.mbx] none s (closeOp f s) := by
  unfold closeOp
  refine only_mbxServe (Covers.any 1 rfl) ?_ fun _ => ?_
  · exact Only.refl _
  · refine Only.st ?_
    refine Only.setAny ?_
    exact Only.refl _

theorem only_coldResetOp (t : State) : Only allAreas none t (coldResetOp t) := by
  unfold coldResetOp
  refine Only.setAny ?_
  refine (only_bare ..).over (Covers.any 1125899906842623 rfl) ?_
  exact Only.refl _

theorem only_commitMessageOp (m) (s : State) : Only allAreas none s (commitMessageOp m s) := by
  unfold commitMessageOp
  refine only_glReceive (Covers.any 70368744177672 rfl) ?_ (fun y0 hy0 => ?_) fun y0 hy0 => ?_
  · exact Only.refl _
  · refine Only.ofId ?_
    exact hy0
  · refine (only_glTakeCommit ..).over (Covers.any 1125899906842623 rfl) ?_
    exact hy0

theorem only_commitResendOp (s : State) : Only [.out, .gl] (some []) s (commitResendOp s) := by
  unfold commitResendOp
  split
  · refine Only.ite ?_ ?_
    · refine (only_glCast ..).over (Covers.some 3 0 rfl rfl) ?_
      refine (only_updGl ..).over (Covers.some 2 0 rfl rfl) ?_
      exact Only.refl _
    · exact Only.refl _
  · exact Only.refl _

theorem only_deadlineStep (n) (s : State) :
    Only [.irqOwed, .eff, .waiting, .heads, .dts, .layers, .pls, .cues] (some [.CE_PL_S_STAT, .xx_STATUS]) s (deadlineStep n s)
      := by
  unfold deadlineStep
  extract_lets +onlyGivenNames y0
  clear_value y0
  extract_lets +onlyGivenNames y1
  clear_value y1
  refine Only.ite ?_ ?_
  · exact Only.refl _
  · extract_lets +onlyGivenNames y2
    refine Only.have y2 ?_ fun hy2 => ?_
    · subst y2
      refine (only_fixVerdict ..).over (Covers.some 64 1 rfl rfl) ?_
      refine (only_deadlineActs ..).over (Covers.some 63 2 rfl rfl) ?_
      exact Only.refl _
    clear_value y2
    extract_lets +onlyGivenNames y3
    refine Only.have y3 ?_ fun hy3 => ?_
    · subst y3
      refine (only_updHead ..).over (Covers.some 8 0 rfl rfl) ?_
      exact hy2
    clear_value y3
    refine Only.ite ?_ ?_
    · exact hy3
    · refine (only_headEvent ..).over (Covers.some 136 0 rfl rfl) ?_
      exact hy3

theorem only_domainWakeOp (d) (s : State) : Only [.ps] (some [.PS_DOMAINS]) s (domainWakeOp d s) := by
  unfold domainWakeOp
  refine Only.ite ?_ ?_
  · refine (only_setGated ..).over (Covers.some 1 1 rfl rfl) ?_
    exact Only.refl _
  · exact Only.refl _

theorem only_dpFailOp (n) (hotPlug) (s : State) :
    Only [.irqOwed, .heads, .cues, .evt, .fc, .sl] (some [.CU_EVT_OVR, .FC_CLEAR_REJ, .FC_CNT, .FC_FIRST_ID, .FC_FIRST_ORG,
      .FC_FIRST_TAI_NS, .FC_FIRST_TAI_SH, .FC_FIRST_TAI_SL, .FC_LAT, .FC_OVF, .FC_SUPPRESSED, .xx_STATUS]) s (dpFailOp n hotPlug
      s) := by
  unfold dpFailOp
  refine Only.ite ?_ ?_
  · exact Only.refl _
  · extract_lets +onlyGivenNames y0
    clear_value y0
    extract_lets +onlyGivenNames y1
    refine Only.have y1 ?_ fun hy1 => ?_
    · subst y1
      refine (only_updHead ..).over (Covers.some 2 0 rfl rfl) ?_
      exact Only.refl _
    clear_value y1
    refine Only.ite ?_ ?_
    · exact hy1
    · refine (only_raise ..).over (Covers.some 63 4095 rfl rfl) ?_
      refine (only_latch ..).over (Covers.some 1 2048 rfl rfl) ?_
      exact hy1

theorem only_dpRetrainOp (n) (ok) (s : State) : Only [.heads] (some [.HD_DP_RETRAIN]) s (dpRetrainOp n ok s) := by
  unfold dpRetrainOp
  extract_lets +onlyGivenNames y0
  clear_value y0
  refine Only.ite ?_ ?_
  · exact Only.refl _
  · extract_lets +onlyGivenNames y1
    refine Only.have y1 ?_ fun hy1 => ?_
    · subst y1
      refine Only.count .HD_DP_RETRAIN 0 rfl rfl ?_
      exact Only.refl _
    clear_value y1
    refine (only_updHead ..).over (Covers.some 1 0 rfl rfl) ?_
    exact hy1

theorem only_evaluationOp (s : State) : Only allAreas none s (evaluationOp s) := by
  unfold evaluationOp
  extract_lets +onlyGivenNames y0
  clear_value y0
  refine Only.ite ?_ ?_
  · exact Only.refl _
  · extract_lets +onlyGivenNames y1
    clear_value y1
    extract_lets +onlyGivenNames y2
    refine Only.have y2 ?_ fun hy2 => ?_
    · subst y2
      refine (only_updPs ..).over (Covers.any 2199023255552 rfl) ?_
      exact Only.refl _
    clear_value y2
    extract_lets +onlyGivenNames y3
    refine Only.have y3 ?_ fun hy3 => ?_
    · subst y3
      refine Only.setAny ?_
      refine Only.setAny ?_
      exact hy2
    clear_value y3
    refine Only.ite ?_ ?_
    · exact hy3
    · extract_lets +onlyGivenNames y4
      refine Only.have y4 ?_ fun hy4 => ?_
      · subst y4
        refine (only_holdLoop ..).over (Covers.any 1125899906842623 rfl) ?_
        exact hy3
      clear_value y4
      extract_lets +onlyGivenNames y5
      refine Only.have y5 ?_ fun hy5 => ?_
      · subst y5
        refine Only.ite ?_ ?_
        · refine (only_psShed ..).over (Covers.any 1125899906842623 rfl) ?_
          exact hy4
        · refine (only_psRest ..).over (Covers.any 1125899906842623 rfl) ?_
          exact hy4
      clear_value y5
      refine (only_settleMode ..).over (Covers.any 335374736834570 rfl) ?_
      refine (only_gateIdle ..).over (Covers.any 2199023255552 rfl) ?_
      exact hy5

theorem only_eyeDoneOp (l) (err) (s : State) :
    Only [.irqOwed] (some [.LT_EYE_ERR, .LT_STAT, .xx_STATUS]) s (eyeDoneOp l err s) := by
  unfold eyeDoneOp
  refine Only.ite ?_ ?_
  · refine (only_latch ..).over (Covers.some 1 4 rfl rfl) ?_
    refine Only.wr .LT_EYE_ERR 0 rfl rfl ?_
    refine Only.set .LT_STAT 1 rfl rfl ?_
    exact Only.refl _
  · exact Only.refl _

theorem only_fabricUncorrOp (s : State) :
    Only [.irqOwed, .heads, .cues, .evt, .fc, .sl] (some [.CU_EVT_OVR, .FC_CLEAR_REJ, .FC_CNT, .FC_FIRST_ID, .FC_FIRST_ORG,
      .FC_FIRST_TAI_NS, .FC_FIRST_TAI_SH, .FC_FIRST_TAI_SL, .FC_LAT, .FC_OVF, .FC_SUPPRESSED, .xx_STATUS]) s (fabricUncorrOp s)
      := by
  unfold fabricUncorrOp
  refine Only.ite ?_ ?_
  · exact Only.refl _
  · refine (only_raise ..).over (Covers.some 63 4095 rfl rfl) ?_
    exact Only.refl _

theorem only_fifoOp (n) (d) (s : State) :
    Only [.irqOwed, .heads, .cues, .evt, .fc, .sl] (some [.CU_EVT_OVR, .FC_CLEAR_REJ, .FC_CNT, .FC_FIRST_ID, .FC_FIRST_ORG,
      .FC_FIRST_TAI_NS, .FC_FIRST_TAI_SH, .FC_FIRST_TAI_SL, .FC_LAT, .FC_OVF, .FC_SUPPRESSED, .xx_STATUS]) s (fifoOp n d s) :=
      by
  unfold fifoOp
  refine Only.ite ?_ ?_
  · exact Only.refl _
  · extract_lets +onlyGivenNames y0
    refine Only.have y0 ?_ fun hy0 => ?_
    · subst y0
      refine (only_raise ..).over (Covers.some 63 4095 rfl rfl) ?_
      refine (only_latch ..).over (Covers.some 1 2048 rfl rfl) ?_
      exact Only.refl _
    clear_value y0
    refine Only.ite ?_ ?_
    · refine (only_updHead ..).over (Covers.some 2 0 rfl rfl) ?_
      exact hy0
    · exact hy0

theorem only_gateEntryOp (p) (s : State) : Only [.queues] (some [.NG_GCL_STAT]) s (gateEntryOp p s) := by
  unfold gateEntryOp
  split
  · exact Only.refl _
  · refine Only.set .NG_GCL_STAT 0 rfl rfl ?_
    refine (only_accruePort ..).over (Covers.some 1 0 rfl rfl) ?_
    exact Only.refl _

theorem only_gclSwapOp (p) (s : State) :
    Only [.irqOwed, .heads, .ports, .queues, .hqs, .cues, .evt, .fc, .sl] (some [.CU_EVT_OVR, .FC_CLEAR_REJ, .FC_CNT,
      .FC_FIRST_ID, .FC_FIRST_ORG, .FC_FIRST_TAI_NS, .FC_FIRST_TAI_SH, .FC_FIRST_TAI_SL, .FC_LAT, .FC_OVF, .FC_SUPPRESSED,
      .HQ_DROP, .NG_GCL_OPER, .NG_GCL_OPER_BASE_NS, .NG_GCL_OPER_BASE_SH, .NG_GCL_OPER_BASE_SL, .NG_GCL_OPER_CYCLE,
      .NG_GCL_OPER_LEN, .NG_GCL_STAT, .NP_TX_DOWN_DROP, .NP_TX_OVERSIZE, .NQ_OVERSIZE, .NQ_STAT, .xx_STATUS]) s (gclSwapOp p s)
      := by
  unfold gclSwapOp
  split
  · exact Only.refl _
  · refine Only.ite ?_ ?_
    · exact Only.refl _
    · extract_lets +onlyGivenNames y0
      refine Only.have y0 ?_ fun hy0 => ?_
      · subst y0
        refine (only_updPort ..).over (Covers.some 4 0 rfl rfl) ?_
        refine (only_accruePort ..).over (Covers.some 8 0 rfl rfl) ?_
        exact Only.refl _
      clear_value y0
      extract_lets +onlyGivenNames y1
      refine Only.have y1 ?_ fun hy1 => ?_
      · subst y1
        refine (only_latch ..).over (Covers.some 1 8388608 rfl rfl) ?_
        refine Only.set .NG_GCL_STAT 18 rfl rfl ?_
        refine (only_showOper ..).over (Covers.some 0 520192 rfl rfl) ?_
        exact hy0
      clear_value y1
      refine Only.foldl ?_ fun y2 _ hy2 => ?_
      · exact hy1
      · refine (only_showBacklog ..).over (Covers.some 0 4194304 rfl rfl) ?_
        refine (only_settle ..).over (Covers.some 507 12062719 rfl rfl) ?_
        exact hy2

theorem only_getInfoOp (f) (s : State) : Only [.mbx] (some []) s (getInfoOp f s) := by
  unfold getInfoOp
  refine only_mbxServe (Covers.some 1 0 rfl rfl) ?_ fun _ => ?_
  · exact Only.refl _
  · refine Only.st ?_
    exact Only.refl _

theorem only_glCommitOp (f) (g) (t) (tag) (s : State) : Only allAreas none s (glCommitOp f g t tag s) := by
  unfold glCommitOp
  refine only_mbxServe (Covers.any 32768 rfl) ?_ fun _ => ?_
  · exact Only.refl _
  · refine Only.itest ?_ ?_
    · refine Only.st ?_
      exact Only.refl _
    · extract_lets +onlyGivenNames y1
      refine Only.have y1.2 ?_ fun hy1 => ?_
      · subst y1
        refine (only_askFamily ..).over (Covers.any 2 rfl) ?_
        exact Only.refl _
      clear_value y1
      refine Only.itest ?_ ?_
      · refine Only.st ?_
        refine (only_glAsk ..).over (Covers.any 1125899906842623 rfl) ?_
        exact hy1
      · refine Only.st ?_
        refine (only_glToLeader ..).over (Covers.any 70368744177668 rfl) ?_
        exact hy1

theorem only_glRosterOp (f) (page) (s : State) : Only [.mbx] (some []) s (glRosterOp f page s) := by
  unfold glRosterOp
  refine only_mbxServe (Covers.some 1 0 rfl rfl) ?_ fun _ => ?_
  · exact Only.refl _
  · refine Only.itest ?_ ?_
    · refine Only.st ?_
      exact Only.refl _
    · refine Only.st ?_
      exact Only.refl _

theorem only_glStatusOp (f) (s : State) : Only [.mbx] (some []) s (glStatusOp f s) := by
  unfold glStatusOp
  refine only_mbxServe (Covers.some 1 0 rfl rfl) ?_ fun _ => ?_
  · exact Only.refl _
  · refine Only.st ?_
    exact Only.refl _

theorem only_handoverOp (k) (s : State) : Only [.dv, .heads, .cl] (some [.CL_STAT]) s (handoverOp k s) := by
  unfold handoverOp
  refine Only.foldl ?_ fun y0 _ hy0 => ?_
  · exact Only.refl _
  · extract_lets +onlyGivenNames y1
    clear_value y1
    split
    · refine Only.ite ?_ ?_
      · exact hy0
      · refine (only_request ..).over (Covers.some 5 1 rfl rfl) ?_
        refine (only_updHead ..).over (Covers.some 2 0 rfl rfl) ?_
        exact hy0
    · exact hy0

theorem only_hbmFailOp (k) (s : State) :
    Only [.irqOwed, .heads, .cues, .evt, .fc, .sl] (some [.CU_EVT_OVR, .FC_CLEAR_REJ, .FC_CNT, .FC_FIRST_ID, .FC_FIRST_ORG,
      .FC_FIRST_TAI_NS, .FC_FIRST_TAI_SH, .FC_FIRST_TAI_SL, .FC_LAT, .FC_OVF, .FC_SUPPRESSED, .xx_STATUS]) s (hbmFailOp k s) :=
      by
  unfold hbmFailOp
  refine Only.ite ?_ ?_
  · exact Only.refl _
  · refine (only_raise ..).over (Covers.some 63 4095 rfl rfl) ?_
    exact Only.refl _

theorem only_headFirstOp (n) (s : State) :
    Only [.free, .out, .irqOwed, .eff, .waiting, .heads, .engines, .groups, .dts, .queues, .ads, .hqs, .layers, .pls, .cues,
      .evt, .fc, .sl] none s (headFirstOp n s) := by
  unfold headFirstOp
  extract_lets +onlyGivenNames y0
  clear_value y0
  refine Only.ite ?_ ?_
  · exact Only.refl _
  · extract_lets +onlyGivenNames y1
    refine Only.have y1 ?_ fun hy1 => ?_
    · subst y1
      refine (only_updHead ..).over (Covers.any 32 rfl) ?_
      exact Only.refl _
    clear_value y1
    extract_lets +onlyGivenNames y2
    refine Only.have y2 ?_ fun hy2 => ?_
    · subst y2
      refine Only.ite ?_ ?_
      · refine (only_hidePl ..).over (Covers.any 8192 rfl) ?_
        refine (only_latch ..).over (Covers.any 4 rfl) ?_
        refine (only_moveHead ..).over (Covers.any 62688 rfl) ?_
        exact hy1
      · refine (only_headEvent ..).over (Covers.any 16416 rfl) ?_
        refine (only_latch ..).over (Covers.any 4 rfl) ?_
        refine (only_moveHead ..).over (Covers.any 62688 rfl) ?_
        exact hy1
    clear_value y2
    refine (only_runLine ..).over (Covers.any 261951 rfl) ?_
    refine (only_stCheck ..).over (Covers.any 246820 rfl) ?_
    exact hy2

theorem only_headLineOp (n) (w) (s : State) :
    Only [.free, .out, .irqOwed, .eff, .waiting, .heads, .engines, .groups, .dts, .queues, .ads, .hqs, .layers, .pls, .cues,
      .evt, .fc, .sl] none s (headLineOp n w s) := by
  unfold headLineOp
  extract_lets +onlyGivenNames y0
  clear_value y0
  extract_lets +onlyGivenNames y1
  clear_value y1
  refine Only.ite ?_ ?_
  · refine Only.ite ?_ ?_
    · exact Only.refl _
    · refine (only_idleLine ..).over (Covers.any 258366 rfl) ?_
      exact Only.refl _
  · extract_lets +onlyGivenNames y2
    subst y2
    refine Only.ite ?_ ?_
    · exact Only.refl _
    · extract_lets +onlyGivenNames y3
      refine Only.have y3 ?_ fun hy3 => ?_
      · subst y3
        refine Only.ite ?_ ?_
        · refine (only_enterSafe ..).over (Covers.any 62692 rfl) ?_
          exact Only.refl _
        · exact Only.refl _
      clear_value y3
      refine (only_runLine ..).over (Covers.any 261951 rfl) ?_
      exact hy3

theorem only_headRestoreOp (s : State) : Only allAreas none s (headRestoreOp s) := by
  unfold headRestoreOp
  split
  · exact Only.refl _
  · extract_lets +onlyGivenNames y0
    clear_value y0
    refine Only.ite ?_ ?_
    · exact Only.refl _
    · extract_lets +onlyGivenNames y1
      refine Only.have y1 ?_ fun hy1 => ?_
      · subst y1
        refine (only_updDv ..).over (Covers.any 16384 rfl) ?_
        exact Only.refl _
      clear_value y1
      refine Only.setAny ?_
      refine Only.foldl ?_ fun y2 _ hy2 => ?_
      · exact hy1
      · refine (only_restoreHead ..).over (Covers.any 1125899906842623 rfl) ?_
        exact hy2

theorem only_headStoppedOp (n) (s : State) :
    Only [.irqOwed, .heads, .engines, .groups, .ads, .layers, .pls, .cues, .evt] (some [.CE_CDET, .CE_CSTAT, .CE_L_FENCE_STAT,
      .CE_L_SHOWN_HI, .CE_L_SHOWN_LO, .CE_PL_CSTAT, .CK_STAT, .CU_EVT_OVR, .HD_STAT, .xx_STATUS]) s (headStoppedOp n s) := by
  unfold headStoppedOp
  refine Only.ite ?_ ?_
  · refine (only_enterStopped ..).over (Covers.some 511 1023 rfl rfl) ?_
    exact Only.refl _
  · exact Only.refl _

theorem only_heartbeatOp (m) (s : State) : Only [.irqOwed, .gl] (some [.GL_RX_BAD, .xx_STATUS]) s (heartbeatOp m s) := by
  unfold heartbeatOp
  extract_lets +onlyGivenNames y0
  clear_value y0
  refine only_glReceive (Covers.some 3 3 rfl rfl) ?_ (fun y1 hy1 => ?_) fun y1 hy1 => ?_
  · exact Only.refl _
  · refine (only_updGl ..).over (Covers.some 2 0 rfl rfl) ?_
    exact hy1
  · refine Only.ite ?_ ?_
    · refine (only_updGl ..).over (Covers.some 2 0 rfl rfl) ?_
      exact hy1
    · exact hy1

theorem only_heartbeatSendOp (s : State) : Only [.out, .gl] (some []) s (heartbeatSendOp s) := by
  unfold heartbeatSendOp
  extract_lets +onlyGivenNames y0
  clear_value y0
  extract_lets +onlyGivenNames y1
  clear_value y1
  extract_lets +onlyGivenNames y2
  clear_value y2
  refine Only.ite ?_ ?_
  · exact Only.refl _
  · extract_lets +onlyGivenNames y3
    refine Only.have y3 ?_ fun hy3 => ?_
    · subst y3
      refine (only_updGl ..).over (Covers.some 2 0 rfl rfl) ?_
      exact Only.refl _
    clear_value y3
    refine (only_glToLeader ..).over (Covers.some 3 0 rfl rfl) ?_
    exact hy3

theorem only_holdLimitStep (s : State) :
    Only [.irqOwed, .tb, .heads, .cues, .evt, .fc, .sl] (some [.CU_EVT_OVR, .FC_CLEAR_REJ, .FC_CNT, .FC_FIRST_ID, .FC_FIRST_ORG,
      .FC_FIRST_TAI_NS, .FC_FIRST_TAI_SH, .FC_FIRST_TAI_SL, .FC_LAT, .FC_OVF, .FC_SUPPRESSED, .TB_CLAMP, .TB_INC_HI, .TB_INC_LO,
      .TB_STATE, .xx_STATUS]) s (holdLimitStep s) := by
  unfold holdLimitStep
  extract_lets +onlyGivenNames y0
  clear_value y0
  refine Only.ite ?_ ?_
  · refine (only_raise ..).over (Covers.some 125 34815 rfl rfl) ?_
    refine (only_latch ..).over (Covers.some 1 32768 rfl rfl) ?_
    refine (only_setTb ..).over (Covers.some 127 65535 rfl rfl) ?_
    exact Only.refl _
  · exact Only.refl _

theorem only_holdupSealOp (s : State) :
    Only [.out, .irqOwed, .mem, .bad, .dv, .heads, .pls, .cues, .evt, .fc, .sl, .cl] (some [.CE_PL_S_STAT, .CE_PL_WR_DENY,
      .CL_STAT, .CL_WEAR, .CU_EVT_OVR, .FC_CLEAR_REJ, .FC_CNT, .FC_FIRST_ID, .FC_FIRST_ORG, .FC_FIRST_TAI_NS, .FC_FIRST_TAI_SH,
      .FC_FIRST_TAI_SL, .FC_LAT, .FC_OVF, .FC_SUPPRESSED, .SL_LOST, .SL_STREAM_LOST, .SL_STREAM_WR, .xx_STATUS]) s (holdupSealOp
      s) := by
  unfold holdupSealOp
  refine Only.ite ?_ ?_
  · exact Only.refl _
  · extract_lets +onlyGivenNames y0
    refine Only.have y0 ?_ fun hy0 => ?_
    · subst y0
      refine (only_flush ..).over (Covers.some 4095 524279 rfl rfl) ?_
      exact Only.refl _
    clear_value y0
    extract_lets +onlyGivenNames y1
    refine Only.have y1 ?_ fun hy1 => ?_
    · subst y1
      refine (only_updDv ..).over (Covers.some 16 0 rfl rfl) ?_
      exact hy0
    clear_value y1
    refine Only.ite ?_ ?_
    · exact hy1
    · extract_lets +onlyGivenNames y2
      refine Only.have y2 ?_ fun hy2 => ?_
      · subst y2
        refine (only_putRecord ..).over (Covers.some 2048 0 rfl rfl) ?_
        exact hy1
      clear_value y2
      refine (only_wear ..).over (Covers.some 4002 294904 rfl rfl) ?_
      refine Only.cl 11 rfl ?_
      exact hy2

theorem only_hostCompletionOp (k) (m) (row) (ok) (data) (s : State) :
    Only [.layers] (some []) s (hostCompletionOp k m row ok data s) := by
  unfold hostCompletionOp
  extract_lets +onlyGivenNames y0
  clear_value y0
  split
  · exact Only.refl _
  · refine (only_setLayer ..).over (Covers.some 1 0 rfl rfl) ?_
    exact Only.refl _

theorem only_hqCompleteOp (r) (s : State) :
    Only [.out, .irqOwed, .msix, .mem, .bad, .heads, .hqs, .pls, .cues, .evt, .fc, .sl] (some [.CE_PL_S_STAT, .CE_PL_WR_DENY,
      .CU_EVT_OVR, .FC_CLEAR_REJ, .FC_CNT, .FC_FIRST_ID, .FC_FIRST_ORG, .FC_FIRST_TAI_NS, .FC_FIRST_TAI_SH, .FC_FIRST_TAI_SL,
      .FC_LAT, .FC_OVF, .FC_SUPPRESSED, .HQ_CONS, .HQ_STAT, .xx_STATUS]) s (hqCompleteOp r s) := by
  unfold hqCompleteOp
  extract_lets +onlyGivenNames y0
  clear_value y0
  split
  · extract_lets +onlyGivenNames y1
    refine Only.have y1 ?_ fun hy1 => ?_
    · subst y1
      refine (only_setHq ..).over (Covers.some 64 0 rfl rfl) ?_
      refine (only_writeBack ..).over (Covers.some 4031 49151 rfl rfl) ?_
      exact Only.refl _
    clear_value y1
    extract_lets +onlyGivenNames y2
    refine Only.have y2 ?_ fun hy2 => ?_
    · subst y2
      refine Only.set .HQ_STAT 14 rfl rfl ?_
      exact hy1
    clear_value y2
    refine Only.ite ?_ ?_
    · extract_lets +onlyGivenNames y3
      refine Only.have y3 ?_ fun hy3 => ?_
      · subst y3
        refine (only_setHq ..).over (Covers.some 64 0 rfl rfl) ?_
        refine Only.wr .HQ_STAT 14 rfl rfl ?_
        exact hy2
      clear_value y3
      refine (only_raise ..).over (Covers.some 3874 40956 rfl rfl) ?_
      refine (only_latch ..).over (Covers.some 2 32768 rfl rfl) ?_
      exact hy3
    · refine Only.set .HQ_STAT 14 rfl rfl ?_
      exact hy2
  · exact Only.refl _

theorem only_hqH2lOp (r) (d) (data) (s : State) :
    Only [.out, .irqOwed, .mem, .bad, .heads, .hqs, .pls, .cues, .evt, .fc, .sl] (some [.CE_PL_S_STAT, .CE_PL_WR_DENY,
      .CU_EVT_OVR, .FC_CLEAR_REJ, .FC_CNT, .FC_FIRST_ID, .FC_FIRST_ORG, .FC_FIRST_TAI_NS, .FC_FIRST_TAI_SH, .FC_FIRST_TAI_SL,
      .FC_LAT, .FC_OVF, .FC_SUPPRESSED, .HQ_STAT, .xx_STATUS]) s (hqH2lOp r d data s) := by
  unfold hqH2lOp
  refine only_takeDesc (Covers.some 1971 32764 rfl rfl) ?_ fun y0 hy0 _ => ?_
  · exact Only.refl _
  · refine Only.ite ?_ ?_
    · exact hy0
    · refine (only_fly ..).over (Covers.some 32 8192 rfl rfl) ?_
      refine (only_memWrite ..).over (Covers.some 2014 24575 rfl rfl) ?_
      refine (only_ringRead ..).over (Covers.some 1 0 rfl rfl) ?_
      exact hy0

theorem only_hqL2hOp (r) (d) (s : State) :
    Only [.out, .irqOwed, .heads, .hqs, .cues, .evt, .fc, .sl] (some [.CU_EVT_OVR, .FC_CLEAR_REJ, .FC_CNT, .FC_FIRST_ID,
      .FC_FIRST_ORG, .FC_FIRST_TAI_NS, .FC_FIRST_TAI_SH, .FC_FIRST_TAI_SL, .FC_LAT, .FC_OVF, .FC_SUPPRESSED, .HQ_STAT,
      .xx_STATUS]) s (hqL2hOp r d s) := by
  unfold hqL2hOp
  refine only_takeDesc (Covers.some 255 8191 rfl rfl) ?_ fun y0 hy0 _ => ?_
  · exact Only.refl _
  · refine Only.ite ?_ ?_
    · refine (only_hqBusErrorOp ..).over (Covers.some 254 8191 rfl rfl) ?_
      exact hy0
    · refine (only_fly ..).over (Covers.some 8 2048 rfl rfl) ?_
      refine (only_emit ..).over (Covers.some 1 0 rfl rfl) ?_
      exact hy0

theorem only_hqNopOp (r) (d) (s : State) :
    Only [.out, .irqOwed, .heads, .hqs, .cues, .evt, .fc, .sl] (some [.CU_EVT_OVR, .FC_CLEAR_REJ, .FC_CNT, .FC_FIRST_ID,
      .FC_FIRST_ORG, .FC_FIRST_TAI_NS, .FC_FIRST_TAI_SH, .FC_FIRST_TAI_SL, .FC_LAT, .FC_OVF, .FC_SUPPRESSED, .HQ_STAT,
      .xx_STATUS]) s (hqNopOp r d s) := by
  unfold hqNopOp
  refine only_takeDesc (Covers.some 255 8191 rfl rfl) ?_ fun y0 hy0 _ => ?_
  · exact Only.refl _
  · refine (only_fly ..).over (Covers.some 8 2048 rfl rfl) ?_
    exact hy0

theorem only_hqRegOp (r) (d) (s : State) : Only allAreas none s (hqRegOp r d s) := by
  unfold hqRegOp
  refine only_takeDesc (Covers.any 423329290911756 rfl) ?_ fun y0 hy0 _ => ?_
  · exact Only.refl _
  · refine Only.ite ?_ ?_
    · exact hy0
    · extract_lets +onlyGivenNames y1
      refine Only.have y1.1 ?_ fun hy1 => ?_
      · subst y1
        refine (only_busWrite ..).over (Covers.any 1125899906842623 rfl) ?_
        exact hy0
      clear_value y1
      refine Only.ite ?_ ?_
      · refine (only_fly ..).over (Covers.any 134217728 rfl) ?_
        exact hy1
      · exact hy1

theorem only_hqRxOp (r) (d) (s : State) :
    Only [.out, .irqOwed, .heads, .hqs, .cues, .evt, .fc, .sl] (some [.CU_EVT_OVR, .FC_CLEAR_REJ, .FC_CNT, .FC_FIRST_ID,
      .FC_FIRST_ORG, .FC_FIRST_TAI_NS, .FC_FIRST_TAI_SH, .FC_FIRST_TAI_SL, .FC_LAT, .FC_OVF, .FC_SUPPRESSED, .HQ_STAT,
      .xx_STATUS]) s (hqRxOp r d s) := by
  unfold hqRxOp
  refine only_takeDesc (Covers.some 255 8191 rfl rfl) ?_ fun y0 hy0 _ => ?_
  · exact Only.refl _
  · refine (only_fly ..).over (Covers.some 8 2048 rfl rfl) ?_
    exact hy0

theorem only_hqTxOp (r) (d) (data) (s : State) :
    Only [.out, .irqOwed, .heads, .queues, .hqs, .cues, .evt, .fc, .sl] (some [.CU_EVT_OVR, .FC_CLEAR_REJ, .FC_CNT,
      .FC_FIRST_ID, .FC_FIRST_ORG, .FC_FIRST_TAI_NS, .FC_FIRST_TAI_SH, .FC_FIRST_TAI_SL, .FC_LAT, .FC_OVF, .FC_SUPPRESSED,
      .HQ_DROP, .HQ_STAT, .NP_TX_DOWN_DROP, .NP_TX_OVERSIZE, .NQ_OBS_DEPTH, .NQ_OVERSIZE, .NQ_STAT, .xx_STATUS]) s (hqTxOp r d
      data s) := by
  unfold hqTxOp
  refine only_takeDesc (Covers.some 503 268287 rfl rfl) ?_ fun y0 hy0 _ => ?_
  · exact Only.refl _
  · refine Only.ite ?_ ?_
    · exact hy0
    · extract_lets +onlyGivenNames y1
      refine Only.have y1 ?_ fun hy1 => ?_
      · subst y1
        refine (only_ringRead ..).over (Covers.some 1 0 rfl rfl) ?_
        exact hy0
      clear_value y1
      extract_lets +onlyGivenNames y2
      clear_value y2
      extract_lets +onlyGivenNames y3
      refine Only.have y3.1 ?_ fun hy3 => ?_
      · subst y3
        refine (only_submit ..).over (Covers.some 510 520191 rfl rfl) ?_
        refine (only_fly ..).over (Covers.some 16 4096 rfl rfl) ?_
        exact hy1
      clear_value y3
      refine Only.ite ?_ ?_
      · exact hy3
      · refine (only_fly ..).over (Covers.some 16 4096 rfl rfl) ?_
        exact hy1

theorem only_i2cDoneOp (p) (ack) (data) (s : State) :
    Only [.irqOwed] (some [.NP_I2C_DATA, .NP_I2C_STAT, .xx_STATUS]) s (i2cDoneOp p ack data s) := by
  unfold i2cDoneOp
  refine Only.ite ?_ ?_
  · exact Only.refl _
  · extract_lets +onlyGivenNames y0
    refine Only.have y0 ?_ fun hy0 => ?_
    · subst y0
      refine Only.set .NP_I2C_STAT 1 rfl rfl ?_
      refine Only.set .NP_I2C_STAT 1 rfl rfl ?_
      exact Only.refl _
    clear_value y0
    extract_lets +onlyGivenNames y1
    refine Only.have y1 ?_ fun hy1 => ?_
    · subst y1
      refine Only.ite ?_ ?_
      · refine Only.wr .NP_I2C_DATA 0 rfl rfl ?_
        exact hy0
      · exact hy0
    clear_value y1
    refine (only_latch ..).over (Covers.some 1 4 rfl rfl) ?_
    exact hy1

theorem only_imageSelectOp (a) (b) (s : State) : Only allAreas none s (imageSelectOp a b s) := by
  unfold imageSelectOp
  refine Only.ite ?_ ?_
  · exact Only.refl _
  · refine Only.ite ?_ ?_
    · refine (only_enterMaint ..).over (Covers.any 423333451683852 rfl) ?_
      exact Only.refl _
    · refine Only.ite ?_ ?_
      · refine (only_enterMaint ..).over (Covers.any 423333451683852 rfl) ?_
        exact Only.refl _
      · extract_lets +onlyGivenNames y0
        refine Only.have y0 ?_ fun hy0 => ?_
        · subst y0
          refine Only.ite ?_ ?_
          · refine (only_raise ..).over (Covers.any 423329156694024 rfl) ?_
            exact Only.refl _
          · exact Only.refl _
        clear_value y0
        extract_lets +onlyGivenNames y1
        refine Only.have y1 ?_ fun hy1 => ?_
        · subst y1
          refine Only.ite ?_ ?_
          · refine (only_raise ..).over (Covers.any 423329156694024 rfl) ?_
            exact hy0
          · exact hy0
        clear_value y1
        extract_lets +onlyGivenNames y2
        clear_value y2
        extract_lets +onlyGivenNames y3
        refine Only.have y3 ?_ fun hy3 => ?_
        · subst y3
          refine Only.ite ?_ ?_
          · refine (only_keyWrite ..).over (Covers.any 1125899906842623 rfl) ?_
            exact hy1
          · exact hy1
        clear_value y3
        split
        · refine (only_enterMaint ..).over (Covers.any 423333451683852 rfl) ?_
          refine (only_raise ..).over (Covers.any 423329156694024 rfl) ?_
          exact hy3
        · extract_lets +onlyGivenNames y4
          clear_value y4
          extract_lets +onlyGivenNames y5
          clear_value y5
          extract_lets +onlyGivenNames y6
          refine Only.have y6 ?_ fun hy6 => ?_
          · subst y6
            refine Only.ite ?_ ?_
            · refine Only.setAny ?_
              refine (only_raise ..).over (Covers.any 423329156694024 rfl) ?_
              exact hy3
            · exact hy3
          clear_value y6
          extract_lets +onlyGivenNames y7
          refine Only.have y7 ?_ fun hy7 => ?_
          · subst y7
            refine (only_setAttempts ..).over (Covers.any 562949953437696 rfl) ?_
            refine Only.setAny ?_
            refine Only.setAny ?_
            exact hy6
          clear_value y7
          refine (only_completeReset ..).over (Covers.any 423333451667468 rfl) ?_
          refine (only_updDv ..).over (Covers.any 16384 rfl) ?_
          exact hy7

theorem only_imgBeginOp (f) (s : State) : Only [.dv, .mbx] (some []) s (imgBeginOp f s) := by
  unfold imgBeginOp
  refine only_mbxServe (Covers.some 2 0 rfl rfl) ?_ fun _ => ?_
  · exact Only.refl _
  · extract_lets +onlyGivenNames y1
    clear_value y1
    extract_lets +onlyGivenNames y2
    clear_value y2
    refine Only.itest ?_ ?_
    · refine Only.st ?_
      exact Only.refl _
    · refine Only.itest ?_ ?_
      · refine Only.st ?_
        exact Only.refl _
      · refine Only.st ?_
        refine (only_updDv ..).over (Covers.some 1 0 rfl rfl) ?_
        refine (only_setSlot ..).over (Covers.some 1 0 rfl rfl) ?_
        exact Only.refl _

theorem only_imgDataOp (f) (s : State) : Only [.dv, .mbx] (some []) s (imgDataOp f s) := by
  unfold imgDataOp
  refine only_mbxServe (Covers.some 2 0 rfl rfl) ?_ fun _ => ?_
  · exact Only.refl _
  · extract_lets +onlyGivenNames y1
    clear_value y1
    split
    · refine Only.st ?_
      exact Only.refl _
    · refine Only.itest ?_ ?_
      · refine Only.st ?_
        exact Only.refl _
      · extract_lets +onlyGivenNames y2
        clear_value y2
        refine Only.st ?_
        refine (only_setSlot ..).over (Covers.some 1 0 rfl rfl) ?_
        exact Only.refl _

theorem only_imgEndOp (f) (c) (s : State) : Only [.dv, .mbx] (some []) s (imgEndOp f c s) := by
  unfold imgEndOp
  refine only_mbxServe (Covers.some 2 0 rfl rfl) ?_ fun _ => ?_
  · exact Only.refl _
  · split
    · refine Only.st ?_
      exact Only.refl _
    · extract_lets +onlyGivenNames y1
      clear_value y1
      extract_lets +onlyGivenNames y2
      clear_value y2
      extract_lets +onlyGivenNames y3
      refine Only.have y3 ?_ fun hy3 => ?_
      · subst y3
        refine (only_updDv ..).over (Covers.some 1 0 rfl rfl) ?_
        refine (only_setSlot ..).over (Covers.some 1 0 rfl rfl) ?_
        exact Only.refl _
      clear_value y3
      refine Only.st ?_
      exact hy3

theorem only_joinOp (m) (s : State) : Only [.out, .irqOwed, .gl] (some [.GL_MEMBERS, .GL_RX_BAD, .xx_STATUS]) s (joinOp m s) := by
  unfold joinOp
  refine only_glReceive (Covers.some 6 6 rfl rfl) ?_ (fun y0 hy0 => ?_) fun y0 hy0 => ?_
  · exact Only.refl _
  · refine (only_updGl ..).over (Covers.some 4 0 rfl rfl) ?_
    exact hy0
  · refine (only_takeJoin ..).over (Covers.some 7 5 rfl rfl) ?_
    exact hy0

theorem only_jtagOp (ir) (s : State) : Only [.out, .jtag] (some []) s (jtagOp ir s) := by
  unfold jtagOp
  refine Only.ite ?_ ?_
  · refine Only.ite ?_ ?_
    · refine Only.jtag 1 rfl ?_
      exact Only.refl _
    · refine Only.jtag 1 rfl ?_
      exact Only.refl _
  · extract_lets +onlyGivenNames y0
    refine Only.have y0 ?_ fun hy0 => ?_
    · subst y0
      refine Only.jtag 1 rfl ?_
      exact Only.refl _
    clear_value y0
    refine Only.ite ?_ ?_
    · refine (only_emit ..).over (Covers.some 1 0 rfl rfl) ?_
      exact hy0
    · exact hy0

theorem only_lateDropOp (q) (s : State) :
    Only [.irqOwed, .heads, .queues, .hqs, .cues, .evt, .fc, .sl] (some [.CU_EVT_OVR, .FC_CLEAR_REJ, .FC_CNT, .FC_FIRST_ID,
      .FC_FIRST_ORG, .FC_FIRST_TAI_NS, .FC_FIRST_TAI_SH, .FC_FIRST_TAI_SL, .FC_LAT, .FC_OVF, .FC_SUPPRESSED, .HQ_DROP,
      .NP_TX_DOWN_DROP, .NP_TX_LATE_DROP, .NP_TX_OVERSIZE, .NQ_LATE_DROP, .NQ_OVERSIZE, .NQ_STAT, .xx_STATUS]) s (lateDropOp q
      s) := by
  unfold lateDropOp
  extract_lets +onlyGivenNames y0
  clear_value y0
  extract_lets +onlyGivenNames y1
  clear_value y1
  extract_lets +onlyGivenNames y2
  clear_value y2
  refine Only.ite ?_ ?_
  · exact Only.refl _
  · extract_lets +onlyGivenNames y3
    refine Only.have y3 ?_ fun hy3 => ?_
    · subst y3
      refine (only_updQueue ..).over (Covers.some 4 0 rfl rfl) ?_
      refine (only_accrue ..).over (Covers.some 4 0 rfl rfl) ?_
      exact Only.refl _
    clear_value y3
    refine (only_showBacklog ..).over (Covers.some 0 131072 rfl rfl) ?_
    refine (only_settle ..).over (Covers.some 255 352255 rfl rfl) ?_
    refine Only.foldl ?_ fun y4 _ hy4 => ?_
    · exact hy3
    · refine (only_countLate ..).over (Covers.some 251 307199 rfl rfl) ?_
      exact hy4

theorem only_launchPresentOp (q) (s : State) : Only [.queues] (some []) s (launchPresentOp q s) := by
  unfold launchPresentOp
  split
  · exact Only.refl _
  · refine Only.ite ?_ ?_
    · refine (only_updQueue ..).over (Covers.some 1 0 rfl rfl) ?_
      exact Only.refl _
    · exact Only.refl _

theorem only_leapApplyOp (s : State) :
    Only [.irqOwed, .dv, .tb, .cl] (some [.CL_STAT, .TB_UTC, .xx_STATUS]) s (leapApplyOp s) := by
  unfold leapApplyOp
  extract_lets +onlyGivenNames y0
  clear_value y0
  refine Only.ite ?_ ?_
  · exact Only.refl _
  · extract_lets +onlyGivenNames y1
    clear_value y1
    extract_lets +onlyGivenNames y2
    refine Only.have y2 ?_ fun hy2 => ?_
    · subst y2
      refine Only.set .TB_UTC 1 rfl rfl ?_
      exact Only.refl _
    clear_value y2
    extract_lets +onlyGivenNames y3
    refine Only.have y3 ?_ fun hy3 => ?_
    · subst y3
      refine (only_latch ..).over (Covers.some 1 4 rfl rfl) ?_
      refine Only.set .TB_UTC 1 rfl rfl ?_
      refine Only.set .TB_UTC 1 rfl rfl ?_
      exact hy2
    clear_value y3
    refine (only_requestTime ..).over (Covers.some 10 1 rfl rfl) ?_
    refine Only.tb 2 rfl ?_
    exact hy3

theorem only_linkUpOp (p) (s : State) :
    Only [.irqOwed, .tb, .heads, .queues, .ads, .hqs, .cues, .evt, .fc, .sl] (some [.CU_EVT_OVR, .FC_CLEAR_REJ, .FC_CNT,
      .FC_FIRST_ID, .FC_FIRST_ORG, .FC_FIRST_TAI_NS, .FC_FIRST_TAI_SH, .FC_FIRST_TAI_SL, .FC_LAT, .FC_OVF, .FC_SUPPRESSED,
      .HQ_DROP, .NP_STAT, .NP_TX_DOWN_DROP, .NP_TX_OVERSIZE, .NQ_OVERSIZE, .NQ_STAT, .xx_STATUS]) s (linkUpOp p s) := by
  unfold linkUpOp
  extract_lets +onlyGivenNames y0
  clear_value y0
  refine Only.ite ?_ ?_
  · exact Only.refl _
  · refine (only_linkChanged ..).over (Covers.some 1021 258047 rfl rfl) ?_
    refine (only_setPtp ..).over (Covers.some 2 0 rfl rfl) ?_
    refine Only.set .NP_STAT 12 rfl rfl ?_
    exact Only.refl _

theorem only_ltDoneOp (l) (errs) (s : State) :
    Only [.irqOwed, .lts] (some [.LT_BITS_HI, .LT_BITS_LO, .LT_ERRORS, .LT_STAT, .xx_STATUS]) s (ltDoneOp l errs s) := by
  unfold ltDoneOp
  extract_lets +onlyGivenNames y0
  clear_value y0
  extract_lets +onlyGivenNames y1
  clear_value y1
  extract_lets +onlyGivenNames y2
  clear_value y2
  refine Only.ite ?_ ?_
  · exact Only.refl _
  · extract_lets +onlyGivenNames y3
    refine Only.have y3 ?_ fun hy3 => ?_
    · subst y3
      refine Only.count .LT_ERRORS 2 rfl rfl ?_
      refine (only_showBits ..).over (Covers.some 0 3 rfl rfl) ?_
      exact Only.refl _
    clear_value y3
    refine (only_latch ..).over (Covers.some 1 16 rfl rfl) ?_
    refine (only_ltEnd ..).over (Covers.some 2 8 rfl rfl) ?_
    exact hy3

theorem only_ltcMissingOp (k) (n) (s : State) :
    Only [.irqOwed, .tb, .heads, .cues, .evt, .rf, .fc, .sl] (some [.CU_EVT_OVR, .FC_CLEAR_REJ, .FC_CNT, .FC_FIRST_ID,
      .FC_FIRST_ORG, .FC_FIRST_TAI_NS, .FC_FIRST_TAI_SH, .FC_FIRST_TAI_SL, .FC_LAT, .FC_OVF, .FC_SUPPRESSED, .TB_CLAMP,
      .TB_INC_HI, .TB_INC_LO, .TB_STATE, .xx_STATUS]) s (ltcMissingOp k n s) := by
  unfold ltcMissingOp
  extract_lets +onlyGivenNames y0
  clear_value y0
  extract_lets +onlyGivenNames y1
  clear_value y1
  extract_lets +onlyGivenNames y2
  refine Only.have y2 ?_ fun hy2 => ?_
  · subst y2
    refine (only_setLtc ..).over (Covers.some 32 0 rfl rfl) ?_
    exact Only.refl _
  clear_value y2
  refine Only.ite ?_ ?_
  · refine (only_ltcTurn ..).over (Covers.some 255 65535 rfl rfl) ?_
    exact hy2
  · exact hy2

theorem only_ltcWordOp (k) (w) (s : State) :
    Only [.irqOwed, .tb, .heads, .cues, .evt, .rf, .fc, .sl] (some [.CU_EVT_OVR, .FC_CLEAR_REJ, .FC_CNT, .FC_FIRST_ID,
      .FC_FIRST_ORG, .FC_FIRST_TAI_NS, .FC_FIRST_TAI_SH, .FC_FIRST_TAI_SL, .FC_LAT, .FC_OVF, .FC_SUPPRESSED, .RF_LTCIN_LABEL,
      .RF_LTCIN_UB, .TB_CLAMP, .TB_INC_HI, .TB_INC_LO, .TB_STATE, .xx_STATUS]) s (ltcWordOp k w s) := by
  unfold ltcWordOp
  refine Only.ite ?_ ?_
  · exact Only.refl _
  · extract_lets +onlyGivenNames y0
    clear_value y0
    extract_lets +onlyGivenNames y1
    clear_value y1
    extract_lets +onlyGivenNames y2
    refine Only.have y2 ?_ fun hy2 => ?_
    · subst y2
      refine Only.wr .RF_LTCIN_UB 12 rfl rfl ?_
      refine Only.wr .RF_LTCIN_LABEL 11 rfl rfl ?_
      exact Only.refl _
    clear_value y2
    extract_lets +onlyGivenNames y3
    clear_value y3
    extract_lets +onlyGivenNames y4
    clear_value y4
    extract_lets +onlyGivenNames y5
    clear_value y5
    extract_lets +onlyGivenNames y6
    refine Only.have y6 ?_ fun hy6 => ?_
    · subst y6
      refine (only_setLtc ..).over (Covers.some 32 0 rfl rfl) ?_
      exact hy2
    clear_value y6
    refine Only.ite ?_ ?_
    · refine (only_ltcTurn ..).over (Covers.some 255 255999 rfl rfl) ?_
      exact hy6
    · refine Only.ite ?_ ?_
      · refine (only_ltcTurn ..).over (Covers.some 255 255999 rfl rfl) ?_
        exact hy6
      · exact hy6

theorem only_mailboxCompleteOp (f) (s : State) :
    Only [.out, .msix, .mbx] (some [.DV_MBX_RESULT, .DV_MBX_RSP, .DV_MBX_STAT]) s (mailboxCompleteOp f s) := by
  unfold mailboxCompleteOp
  extract_lets +onlyGivenNames y0
  clear_value y0
  extract_lets +onlyGivenNames y1
  clear_value y1
  refine Only.ite ?_ ?_
  · split
    · refine (only_mbxFinish ..).over (Covers.some 7 7 rfl rfl) ?_
      exact Only.refl _
    · refine Only.ite ?_ ?_
      · exact Only.refl _
      · refine (only_mbxFinish ..).over (Covers.some 7 7 rfl rfl) ?_
        exact Only.refl _
    · exact Only.refl _
  · exact Only.refl _

theorem only_memberCommitTimeoutOp (s : State) : Only allAreas none s (memberCommitTimeoutOp s) := by
  unfold memberCommitTimeoutOp
  refine Only.ite ?_ ?_
  · exact Only.refl _
  · refine Only.foldl ?_ fun y0 _ hy0 => ?_
    · exact Only.refl _
    · refine Only.ite ?_ ?_
      · refine (only_glEndShare ..).over (Covers.any 1125899906842623 rfl) ?_
        exact hy0
      · exact hy0

theorem only_memberTimeoutOp (i) (s : State) :
    Only [.irqOwed, .heads, .cues, .evt, .gl, .fc, .sl] (some [.CU_EVT_OVR, .FC_CLEAR_REJ, .FC_CNT, .FC_FIRST_ID, .FC_FIRST_ORG,
      .FC_FIRST_TAI_NS, .FC_FIRST_TAI_SH, .FC_FIRST_TAI_SL, .FC_LAT, .FC_OVF, .FC_SUPPRESSED, .GL_MEMBERS, .xx_STATUS]) s
      (memberTimeoutOp i s) := by
  unfold memberTimeoutOp
  refine Only.ite ?_ ?_
  · exact Only.refl _
  · extract_lets +onlyGivenNames y0
    refine Only.have y0 ?_ fun hy0 => ?_
    · subst y0
      refine (only_updGl ..).over (Covers.some 16 0 rfl rfl) ?_
      exact Only.refl _
    clear_value y0
    refine (only_raise ..).over (Covers.some 111 6143 rfl rfl) ?_
    refine (only_setRoster ..).over (Covers.some 17 6144 rfl rfl) ?_
    exact hy0

theorem only_mirrorStep (s : State) :
    Only [.irqOwed, .heads, .cues, .evt, .fc, .sl, .cl] (some [.CL_WEAR, .CU_EVT_OVR, .FC_CLEAR_REJ, .FC_CNT, .FC_FIRST_ID,
      .FC_FIRST_ORG, .FC_FIRST_TAI_NS, .FC_FIRST_TAI_SH, .FC_FIRST_TAI_SL, .FC_LAT, .FC_OVF, .FC_SUPPRESSED, .xx_STATUS]) s
      (mirrorStep s) := by
  unfold mirrorStep
  refine Only.ite ?_ ?_
  · exact Only.refl _
  · extract_lets +onlyGivenNames y0
    clear_value y0
    extract_lets +onlyGivenNames y1
    clear_value y1
    extract_lets +onlyGivenNames y2
    refine Only.have y2 ?_ fun hy2 => ?_
    · subst y2
      split
      · refine (only_mirrorPut ..).over (Covers.some 127 8191 rfl rfl) ?_
        refine Only.sl 5 rfl ?_
        exact Only.refl _
      · exact Only.refl _
    clear_value y2
    refine (only_mirrorPut ..).over (Covers.some 127 8191 rfl rfl) ?_
    refine Only.sl 5 rfl ?_
    exact hy2

theorem only_moduleInOp (p) (s : State) : Only [.irqOwed] (some [.NP_STAT, .xx_STATUS]) s (moduleInOp p s) := by
  unfold moduleInOp
  refine Only.ite ?_ ?_
  · exact Only.refl _
  · refine (only_latch ..).over (Covers.some 1 2 rfl rfl) ?_
    refine Only.set .NP_STAT 0 rfl rfl ?_
    exact Only.refl _

theorem only_moduleIntOp (p) (low) (s : State) : Only [.irqOwed] (some [.NP_STAT, .xx_STATUS]) s (moduleIntOp p low s) := by
  unfold moduleIntOp
  refine Only.ite ?_ ?_
  · exact Only.refl _
  · refine (only_latch ..).over (Covers.some 1 2 rfl rfl) ?_
    refine Only.set .NP_STAT 0 rfl rfl ?_
    exact Only.refl _

theorem only_moduleOutOp (p) (s : State) :
    Only [.irqOwed, .tb, .heads, .queues, .ads, .hqs, .cues, .evt, .fc, .sl] (some [.CU_EVT_OVR, .FC_CLEAR_REJ, .FC_CNT,
      .FC_FIRST_ID, .FC_FIRST_ORG, .FC_FIRST_TAI_NS, .FC_FIRST_TAI_SH, .FC_FIRST_TAI_SL, .FC_LAT, .FC_OVF, .FC_SUPPRESSED,
      .HQ_DROP, .NP_LINK_DOWN, .NP_STAT, .NP_TX_DOWN_DROP, .NP_TX_OVERSIZE, .NQ_OVERSIZE, .NQ_STAT, .TB_CLAMP, .TB_INC_HI,
      .TB_INC_LO, .TB_STATE, .xx_STATUS]) s (moduleOutOp p s) := by
  unfold moduleOutOp
  refine Only.ite ?_ ?_
  · exact Only.refl _
  · refine (only_linkDownOp ..).over (Covers.some 1023 8388607 rfl rfl) ?_
    refine (only_raise ..).over (Covers.some 965 4196351 rfl rfl) ?_
    refine (only_latch ..).over (Covers.some 1 4194304 rfl rfl) ?_
    refine Only.set .NP_STAT 13 rfl rfl ?_
    exact Only.refl _

theorem only_nakOp (m) (s : State) : Only allAreas none s (nakOp m s) := by
  unfold nakOp
  refine only_glReceive (Covers.any 70368744177672 rfl) ?_ (fun y0 hy0 => ?_) fun y0 hy0 => ?_
  · exact Only.refl _
  · refine Only.ofId ?_
    exact hy0
  · refine Only.ite ?_ ?_
    · refine (only_glTakeNak ..).over (Covers.any 1125899906842623 rfl) ?_
      exact hy0
    · exact hy0

theorem only_obsStep (p) (s : State) :
    Only [.irqOwed] (some [.NP_TX_ACTIVE, .NQ_OBS_DELAY, .NQ_OBS_DEPTH, .xx_STATUS]) s (obsStep p s) := by
  unfold obsStep
  extract_lets +onlyGivenNames y0
  clear_value y0
  extract_lets +onlyGivenNames y1
  clear_value y1
  extract_lets +onlyGivenNames y2
  refine Only.have y2 ?_ fun hy2 => ?_
  · subst y2
    refine Only.ite ?_ ?_
    · exact Only.refl _
    · refine (only_latch ..).over (Covers.some 1 8 rfl rfl) ?_
      refine Only.set .NP_TX_ACTIVE 0 rfl rfl ?_
      exact Only.refl _
  clear_value y2
  refine Only.foldl ?_ fun y3 _ hy3 => ?_
  · exact hy2
  · extract_lets +onlyGivenNames y4
    refine Only.have y4 ?_ fun hy4 => ?_
    · subst y4
      refine Only.set .NQ_OBS_DEPTH 2 rfl rfl ?_
      exact hy3
    clear_value y4
    refine Only.ite ?_ ?_
    · refine (only_highDepth ..).over (Covers.some 0 4 rfl rfl) ?_
      exact hy4
    · refine Only.set .NQ_OBS_DELAY 1 rfl rfl ?_
      refine Only.set .NQ_OBS_DEPTH 2 rfl rfl ?_
      exact hy4

theorem only_openOp (f) (s : State) : Only [.irqOwed, .mbx, .heads, .cues, .evt, .fc, .sl] none s (openOp f s) := by
  unfold openOp
  refine only_mbxServe (Covers.any 2 rfl) ?_ fun _ => ?_
  · exact Only.refl _
  · extract_lets +onlyGivenNames y1
    clear_value y1
    extract_lets +onlyGivenNames y2
    clear_value y2
    split
    · refine Only.st ?_
      refine Only.setAny ?_
      exact Only.refl _
    · refine Only.st ?_
      refine (only_raise ..).over (Covers.any 125 rfl) ?_
      refine Only.setAny ?_
      exact Only.refl _

theorem only_outApplyOp (o) (s : State) : Only [.out, .eff, .waiting, .rf] (some []) s (outApplyOp o s) := by
  unfold outApplyOp
  refine Only.ite ?_ ?_
  · refine (only_applyWaiting ..).over (Covers.some 6 0 rfl rfl) ?_
    exact Only.refl _
  · extract_lets +onlyGivenNames y0
    clear_value y0
    refine Only.ite ?_ ?_
    · exact Only.refl _
    · extract_lets +onlyGivenNames y1
      refine Only.have y1 ?_ fun hy1 => ?_
      · subst y1
        refine (only_applyWaiting ..).over (Covers.some 6 0 rfl rfl) ?_
        exact Only.refl _
      clear_value y1
      refine (only_outSignal ..).over (Covers.some 9 0 rfl rfl) ?_
      refine Only.rf 3 rfl ?_
      exact hy1

theorem only_outLoadEndOp (k) (s : State) : Only [.rf] (some []) s (outLoadEndOp k s) := by
  unfold outLoadEndOp
  refine Only.rf 0 rfl ?_
  exact Only.refl _

theorem only_outLoadOp (k) (s : State) :
    Only [.irqOwed, .heads, .cues, .evt, .rf, .fc, .sl] (some [.CU_EVT_OVR, .FC_CLEAR_REJ, .FC_CNT, .FC_FIRST_ID, .FC_FIRST_ORG,
      .FC_FIRST_TAI_NS, .FC_FIRST_TAI_SH, .FC_FIRST_TAI_SL, .FC_LAT, .FC_OVF, .FC_SUPPRESSED, .xx_STATUS]) s (outLoadOp k s) :=
      by
  unfold outLoadOp
  refine Only.ite ?_ ?_
  · exact Only.refl _
  · refine (only_raise ..).over (Covers.some 111 4095 rfl rfl) ?_
    refine (only_latch ..).over (Covers.some 1 2048 rfl rfl) ?_
    refine Only.rf 4 rfl ?_
    exact Only.refl _

theorem only_pathTimeoutOp (f) (s : State) :
    Only [.irqOwed, .heads, .flows, .cues, .evt, .fc, .sl] (some [.CU_EVT_OVR, .FC_CLEAR_REJ, .FC_CNT, .FC_FIRST_ID,
      .FC_FIRST_ORG, .FC_FIRST_TAI_NS, .FC_FIRST_TAI_SH, .FC_FIRST_TAI_SL, .FC_LAT, .FC_OVF, .FC_SUPPRESSED, .xx_STATUS]) s
      (pathTimeoutOp f s) := by
  unfold pathTimeoutOp
  split
  · exact Only.refl _
  · refine Only.ite ?_ ?_
    · exact Only.refl _
    · refine (only_raise ..).over (Covers.some 123 4095 rfl rfl) ?_
      refine (only_latch ..).over (Covers.some 1 2048 rfl rfl) ?_
      refine (only_updFlow ..).over (Covers.some 4 0 rfl rfl) ?_
      exact Only.refl _

theorem only_pcieUpOp (s : State) : Only [.dv] (some []) s (pcieUpOp s) := by
  unfold pcieUpOp
  refine Only.ite ?_ ?_
  · exact Only.refl _
  · refine (only_updDv ..).over (Covers.some 1 0 rfl rfl) ?_
    exact Only.refl _

theorem only_pinResetOp (t : State) : Only allAreas none t (pinResetOp t) := by
  unfold pinResetOp
  extract_lets +onlyGivenNames y0
  refine Only.have y0 ?_ fun hy0 => ?_
  · subst y0
    refine (only_updPs ..).over (Covers.any 2199023255552 rfl) ?_
    refine (only_updDv ..).over (Covers.any 16384 rfl) ?_
    refine only_keepMemories ?_
    refine (only_bare ..).over (Covers.any 1125899906842623 rfl) ?_
    exact Only.refl _
  clear_value y0
  refine Only.setAny ?_
  refine Only.setAny ?_
  exact hy0

theorem only_plCheckDone (n) (s : State) :
    Only [.free, .pls, .cks, .sl] (some [.CE_PL_CSTAT, .CE_PL_S_STAT, .CK_RUN, .CK_STAT]) s (plCheckDone n s) := by
  unfold plCheckDone
  refine Only.ite ?_ ?_
  · exact Only.refl _
  · split
    · exact Only.refl _
    · refine Only.ite ?_ ?_
      · exact Only.refl _
      · extract_lets +onlyGivenNames y0
        clear_value y0
        refine Only.ite ?_ ?_
        · refine (only_logPl ..).over (Covers.some 8 0 rfl rfl) ?_
          refine (only_setPlState ..).over (Covers.some 0 1 rfl rfl) ?_
          refine (only_updPl ..).over (Covers.some 2 0 rfl rfl) ?_
          exact Only.refl _
        · extract_lets +onlyGivenNames y1
          refine Only.have y1 ?_ fun hy1 => ?_
          · subst y1
            refine (only_acceptPl ..).over (Covers.some 2 0 rfl rfl) ?_
            exact Only.refl _
          clear_value y1
          refine Only.ite ?_ ?_
          · refine (only_applyPl ..).over (Covers.some 10 1 rfl rfl) ?_
            refine (only_updPl ..).over (Covers.some 2 0 rfl rfl) ?_
            exact hy1
          · refine Only.ite ?_ ?_
            · refine (only_pendPl ..).over (Covers.some 2 1 rfl rfl) ?_
              exact hy1
            · refine (only_askScan ..).over (Covers.some 7 14 rfl rfl) ?_
              refine (only_setPlState ..).over (Covers.some 0 1 rfl rfl) ?_
              refine (only_updPl ..).over (Covers.some 2 0 rfl rfl) ?_
              exact hy1

theorem only_plScanDone (n) (s : State) :
    Only [.free, .irqOwed, .heads, .pls, .cks, .cues, .evt, .fc, .sl] (some [.CE_PL_CSTAT, .CE_PL_S_STAT, .CK_RUN, .CK_STAT,
      .CU_EVT_OVR, .FC_CLEAR_REJ, .FC_CNT, .FC_FIRST_ID, .FC_FIRST_ORG, .FC_FIRST_TAI_NS, .FC_FIRST_TAI_SH, .FC_FIRST_TAI_SL,
      .FC_LAT, .FC_OVF, .FC_SUPPRESSED, .xx_STATUS]) s (plScanDone n s) := by
  unfold plScanDone
  refine Only.ite ?_ ?_
  · exact Only.refl _
  · split
    · exact Only.refl _
    · extract_lets +onlyGivenNames y0
      clear_value y0
      extract_lets +onlyGivenNames y1
      refine Only.have y1 ?_ fun hy1 => ?_
      · subst y1
        refine Only.ite ?_ ?_
        · refine (only_raise ..).over (Covers.some 486 65520 rfl rfl) ?_
          exact Only.refl _
        · exact Only.refl _
      clear_value y1
      extract_lets +onlyGivenNames y2
      refine Only.have y2 ?_ fun hy2 => ?_
      · subst y2
        refine (only_setVerdict ..).over (Covers.some 0 2 rfl rfl) ?_
        exact hy1
      clear_value y2
      extract_lets +onlyGivenNames y3
      refine Only.have y3 ?_ fun hy3 => ?_
      · subst y3
        refine (only_updPl ..).over (Covers.some 8 0 rfl rfl) ?_
        exact hy2
      clear_value y3
      extract_lets +onlyGivenNames y4
      refine Only.have y4 ?_ fun hy4 => ?_
      · subst y4
        refine (only_updPl ..).over (Covers.some 8 0 rfl rfl) ?_
        exact hy3
      clear_value y4
      extract_lets +onlyGivenNames y5
      refine Only.have y5 ?_ fun hy5 => ?_
      · subst y5
        refine Only.ite ?_ ?_
        · refine (only_raise ..).over (Covers.some 486 65520 rfl rfl) ?_
          exact hy4
        · exact hy4
      clear_value y5
      extract_lets +onlyGivenNames y6
      refine Only.have y6 ?_ fun hy6 => ?_
      · subst y6
        refine Only.ite ?_ ?_
        · split
          · exact hy3
          · refine Only.ite ?_ ?_
            · refine (only_raise ..).over (Covers.some 486 65520 rfl rfl) ?_
              refine (only_logPl ..).over (Covers.some 256 0 rfl rfl) ?_
              refine (only_setPlState ..).over (Covers.some 0 1 rfl rfl) ?_
              exact hy4
            · refine Only.ite ?_ ?_
              · refine (only_pendPl ..).over (Covers.some 8 1 rfl rfl) ?_
                exact hy5
              · refine (only_setPlState ..).over (Covers.some 0 1 rfl rfl) ?_
                exact hy5
        · refine (only_updPl ..).over (Covers.some 8 0 rfl rfl) ?_
          exact hy3
      clear_value y6
      split
      · refine (only_beginScan ..).over (Covers.some 25 14 rfl rfl) ?_
        refine (only_updPl ..).over (Covers.some 8 0 rfl rfl) ?_
        exact hy6
      · refine (only_resumeUnit ..).over (Covers.some 0 8 rfl rfl) ?_
        exact hy6

theorem only_pllLockOp (s : State) :
    Only [.irqOwed, .dv, .tb, .heads, .cues, .evt, .rf, .sps, .fc, .sl] none s (pllLockOp s) := by
  unfold pllLockOp
  extract_lets +onlyGivenNames y0
  refine Only.have y0 ?_ fun hy0 => ?_
  · subst y0
    refine Only.setAny ?_
    exact Only.refl _
  clear_value y0
  refine Only.ite ?_ ?_
  · refine (only_stepFour ..).over (Covers.any 1023 rfl) ?_
    exact hy0
  · exact hy0

theorem only_pllUnlockOp (s : State) :
    Only [.irqOwed, .heads, .cues, .evt, .fc, .sl] (some [.CU_EVT_OVR, .FC_CLEAR_REJ, .FC_CNT, .FC_FIRST_ID, .FC_FIRST_ORG,
      .FC_FIRST_TAI_NS, .FC_FIRST_TAI_SH, .FC_FIRST_TAI_SL, .FC_LAT, .FC_OVF, .FC_SUPPRESSED, .TB_STATE, .xx_STATUS]) s
      (pllUnlockOp s) := by
  unfold pllUnlockOp
  refine Only.ite ?_ ?_
  · refine (only_raise ..).over (Covers.some 63 6143 rfl rfl) ?_
    refine (only_latch ..).over (Covers.some 1 4096 rfl rfl) ?_
    refine Only.set .TB_STATE 11 rfl rfl ?_
    exact Only.refl _
  · exact Only.refl _

theorem only_ppsEdgeOp (t) (ten) (s : State) :
    Only [.irqOwed, .tb, .heads, .cues, .evt, .rf, .fc, .sl] (some [.CU_EVT_OVR, .FC_CLEAR_REJ, .FC_CNT, .FC_FIRST_ID,
      .FC_FIRST_ORG, .FC_FIRST_TAI_NS, .FC_FIRST_TAI_SH, .FC_FIRST_TAI_SL, .FC_LAT, .FC_OVF, .FC_SUPPRESSED, .TB_CLAMP,
      .TB_INC_HI, .TB_INC_LO, .TB_STATE, .xx_STATUS]) s (ppsEdgeOp t ten s) := by
  unfold ppsEdgeOp
  refine Only.ite ?_ ?_
  · exact Only.refl _
  · extract_lets +onlyGivenNames y0
    clear_value y0
    extract_lets +onlyGivenNames y1
    clear_value y1
    refine (only_src2Check ..).over (Covers.some 255 65535 rfl rfl) ?_
    refine Only.rf 5 rfl ?_
    exact Only.refl _

theorem only_ppsLossOp (s : State) :
    Only [.irqOwed, .tb, .heads, .cues, .evt, .rf, .fc, .sl] (some [.CU_EVT_OVR, .FC_CLEAR_REJ, .FC_CNT, .FC_FIRST_ID,
      .FC_FIRST_ORG, .FC_FIRST_TAI_NS, .FC_FIRST_TAI_SH, .FC_FIRST_TAI_SL, .FC_LAT, .FC_OVF, .FC_SUPPRESSED, .TB_CLAMP,
      .TB_INC_HI, .TB_INC_LO, .TB_STATE, .xx_STATUS]) s (ppsLossOp s) := by
  unfold ppsLossOp
  refine (only_src2Check ..).over (Covers.some 255 65535 rfl rfl) ?_
  refine Only.rf 5 rfl ?_
  exact Only.refl _

theorem only_prepareOp (m) (s : State) : Only allAreas none s (prepareOp m s) := by
  unfold prepareOp
  refine only_glReceive (Covers.any 70368744177672 rfl) ?_ (fun y0 hy0 => ?_) fun y0 hy0 => ?_
  · exact Only.refl _
  · refine Only.ofId ?_
    exact hy0
  · refine Only.ite ?_ ?_
    · refine (only_glPrepareShare ..).over (Covers.any 1125899906842623 rfl) ?_
      exact hy0
    · exact hy0

theorem only_railPollOp (r) (p) (s : State) :
    Only [.irqOwed, .heads, .cues, .evt, .ps, .fc, .sl] (some [.CU_EVT_OVR, .FC_CLEAR_REJ, .FC_CNT, .FC_FIRST_ID, .FC_FIRST_ORG,
      .FC_FIRST_TAI_NS, .FC_FIRST_TAI_SH, .FC_FIRST_TAI_SL, .FC_LAT, .FC_OVF, .FC_SUPPRESSED, .PS_RAIL_STAT, .PS_RAIL_VI,
      .xx_STATUS]) s (railPollOp r p s) := by
  unfold railPollOp
  refine Only.ite ?_ ?_
  · exact Only.refl _
  · extract_lets +onlyGivenNames y0
    clear_value y0
    extract_lets +onlyGivenNames y1
    clear_value y1
    extract_lets +onlyGivenNames y2
    clear_value y2
    extract_lets +onlyGivenNames y3
    refine Only.have y3 ?_ fun hy3 => ?_
    · subst y3
      refine (only_updPs ..).over (Covers.some 16 0 rfl rfl) ?_
      exact Only.refl _
    clear_value y3
    extract_lets +onlyGivenNames y4
    refine Only.have y4 ?_ fun hy4 => ?_
    · subst y4
      refine Only.ite ?_ ?_
      · refine (only_railRead ..).over (Covers.some 16 6144 rfl rfl) ?_
        exact Only.refl _
      · refine Only.ite ?_ ?_
        · refine Only.set .PS_RAIL_STAT 11 rfl rfl ?_
          refine Only.set .PS_RAIL_STAT 11 rfl rfl ?_
          exact hy3
        · exact hy3
    clear_value y4
    refine Only.ite ?_ ?_
    · refine (only_raise ..).over (Covers.some 111 10239 rfl rfl) ?_
      refine (only_latch ..).over (Covers.some 1 8192 rfl rfl) ?_
      exact hy4
    · exact hy4

theorem only_railsGoodOp (s : State) : Only [.out, .dv, .ps] (some [.PS_RAIL_STAT]) s (railsGoodOp s) := by
  unfold railsGoodOp
  refine Only.ite ?_ ?_
  · extract_lets +onlyGivenNames y0
    refine Only.have y0 ?_ fun hy0 => ?_
    · subst y0
      refine Only.foldl ?_ fun y1 _ hy1 => ?_
      · exact Only.refl _
      · refine (only_railOn ..).over (Covers.some 5 1 rfl rfl) ?_
        exact hy1
    clear_value y0
    refine (only_updDv ..).over (Covers.some 2 0 rfl rfl) ?_
    exact hy0
  · exact Only.refl _

theorem only_railsOffOp (s : State) : Only [.out, .dv, .ps] (some [.PS_RAIL_STAT]) s (railsOffOp s) := by
  unfold railsOffOp
  refine Only.ite ?_ ?_
  · refine (only_updDv ..).over (Covers.some 2 0 rfl rfl) ?_
    refine (only_railsDown ..).over (Covers.some 5 1 rfl rfl) ?_
    exact Only.refl _
  · exact Only.refl _

theorem only_readyTimeoutOp (s : State) : Only [.dv] (some []) s (readyTimeoutOp s) := by
  unfold readyTimeoutOp
  refine Only.ite ?_ ?_
  · refine (only_askReset ..).over (Covers.some 1 0 rfl rfl) ?_
    exact Only.refl _
  · exact Only.refl _

theorem only_recordDone (ok) (s : State) :
    Only [.out, .irqOwed, .mem, .bad, .dv, .heads, .pls, .cues, .evt, .fc, .sl, .cl] (some [.CE_PL_S_STAT, .CE_PL_WR_DENY,
      .CL_LG_STAT, .CL_LG_VINT, .CL_STAT, .CL_WEAR, .CU_EVT_OVR, .FC_CLEAR_REJ, .FC_CNT, .FC_FIRST_ID, .FC_FIRST_ORG,
      .FC_FIRST_TAI_NS, .FC_FIRST_TAI_SH, .FC_FIRST_TAI_SL, .FC_LAT, .FC_OVF, .FC_SUPPRESSED, .SL_LOST, .SL_STREAM_LOST,
      .SL_STREAM_WR, .xx_STATUS]) s (recordDone ok s) := by
  unfold recordDone
  split
  · exact Only.refl _
  · refine Only.ite ?_ ?_
    · exact Only.refl _
    · extract_lets +onlyGivenNames y0
      refine Only.have y0 ?_ fun hy0 => ?_
      · subst y0
        refine (only_wear ..).over (Covers.some 4002 1179616 rfl rfl) ?_
        exact Only.refl _
      clear_value y0
      extract_lets +onlyGivenNames y1
      clear_value y1
      refine Only.ite ?_ ?_
      · refine (only_raise ..).over (Covers.some 1954 1179584 rfl rfl) ?_
        refine (only_latch ..).over (Covers.some 2 1048576 rfl rfl) ?_
        refine Only.cl 11 rfl ?_
        exact hy0
      · extract_lets +onlyGivenNames y2
        clear_value y2
        extract_lets +onlyGivenNames y3
        refine Only.have y3 ?_ fun hy3 => ?_
        · subst y3
          refine Only.cl 11 rfl ?_
          exact hy0
        clear_value y3
        extract_lets +onlyGivenNames y4
        clear_value y4
        extract_lets +onlyGivenNames y5
        refine Only.have y5 ?_ fun hy5 => ?_
        · subst y5
          refine Only.dv 4 rfl ?_
          exact hy3
        clear_value y5
        extract_lets +onlyGivenNames y6
        refine Only.have y6 ?_ fun hy6 => ?_
        · subst y6
          refine Only.ite ?_ ?_
          · refine Only.set .CL_STAT 4 rfl rfl ?_
            exact hy5
          · exact hy5
        clear_value y6
        refine (only_recordKept ..).over (Covers.some 4095 2097119 rfl rfl) ?_
        exact hy6

theorem only_refLockOp (k) (std) (freq) (s : State) :
    Only [.irqOwed, .tb, .heads, .cues, .evt, .rf, .fc, .sl] (some [.CU_EVT_OVR, .FC_CLEAR_REJ, .FC_CNT, .FC_FIRST_ID,
      .FC_FIRST_ORG, .FC_FIRST_TAI_NS, .FC_FIRST_TAI_SH, .FC_FIRST_TAI_SL, .FC_LAT, .FC_OVF, .FC_SUPPRESSED, .RF_IN_STAT,
      .TB_CLAMP, .TB_INC_HI, .TB_INC_LO, .TB_STATE, .xx_STATUS]) s (refLockOp k std freq s) := by
  unfold refLockOp
  extract_lets +onlyGivenNames y0
  clear_value y0
  refine Only.ite ?_ ?_
  · exact Only.refl _
  · extract_lets +onlyGivenNames y1
    clear_value y1
    extract_lets +onlyGivenNames y2
    refine Only.have y2 ?_ fun hy2 => ?_
    · subst y2
      refine Only.rf 5 rfl ?_
      exact Only.refl _
    clear_value y2
    extract_lets +onlyGivenNames y3
    refine Only.have y3 ?_ fun hy3 => ?_
    · subst y3
      refine Only.set .RF_IN_STAT 11 rfl rfl ?_
      refine Only.set .RF_IN_STAT 11 rfl rfl ?_
      exact hy2
    clear_value y3
    refine (only_src3Check ..).over (Covers.some 223 129023 rfl rfl) ?_
    refine (only_latch ..).over (Covers.some 1 65536 rfl rfl) ?_
    exact hy3

theorem only_refPhaseOp (k) (at_) (freq) (s : State) :
    Only [] (some [.RF_IN_PHASE, .RF_IN_STAT]) s (refPhaseOp k at_ freq s) := by
  unfold refPhaseOp
  refine Only.ite ?_ ?_
  · exact Only.refl _
  · split
    · exact Only.refl _
    · extract_lets +onlyGivenNames y0
      refine Only.have y0 ?_ fun hy0 => ?_
      · subst y0
        refine Only.set .RF_IN_PHASE 0 rfl rfl ?_
        exact Only.refl _
      clear_value y0
      refine Only.set .RF_IN_STAT 1 rfl rfl ?_
      exact hy0

end Sys2Proof.Machine
end

