-- ==== Sys2Proof/Laws/Touch7.lean ====
section
/-! SUPPORT. What each operation touches, part 7 of 7: for every operation the parts of the state and the registers that it
may change. All else stays, and the operation follows the state before it (Only). -/

namespace Sys2Proof.Machine

theorem only_reportOp (m) (s : State) : Only [.irqOwed, .gl] (some [.GL_RX_BAD, .xx_STATUS]) s (reportOp m s) := by
  unfold reportOp
  refine only_glReceive (Covers.some 3 3 rfl rfl) ?_ (fun y0 hy0 => ?_) fun y0 hy0 => ?_
  · exact Only.refl _
  · refine Only.ofId ?_
    exact hy0
  · refine Only.ofId ?_
    exact hy0

theorem only_requestOp (m) (s : State) : Only allAreas none s (requestOp m s) := by
  unfold requestOp
  refine only_glReceive (Covers.any 70368744177672 rfl) ?_ (fun y0 hy0 => ?_) fun y0 hy0 => ?_
  · exact Only.refl _
  · refine Only.ofId ?_
    exact hy0
  · refine Only.ite ?_ ?_
    · refine (only_glAsk ..).over (Covers.any 1125899906842623 rfl) ?_
      exact hy0
    · exact hy0

theorem only_resetBeginOp (s : State) : Only allAreas none s (resetBeginOp s) := by
  unfold resetBeginOp
  split
  · refine Only.ite ?_ ?_
    · refine (only_warmReset ..).over (Covers.any 1125899906842623 rfl) ?_
      exact Only.refl _
    · exact Only.refl _
  · exact Only.refl _

theorem only_resetReleaseOp (straps) (board) (s : State) : Only [.dv, .jtag] (some []) s (resetReleaseOp straps board s) := by
  unfold resetReleaseOp
  refine Only.ite ?_ ?_
  · exact Only.refl _
  · extract_lets +onlyGivenNames y0
    refine Only.have y0 ?_ fun hy0 => ?_
    · subst y0
      refine (only_updDv ..).over (Covers.some 1 0 rfl rfl) ?_
      exact Only.refl _
    clear_value y0
    refine Only.jtag 1 rfl ?_
    exact hy0

theorem only_restepStepOp (offset) (s : State) :
    Only [.out, .irqOwed, .tb, .heads, .engines, .groups, .ads, .layers, .pls, .cues, .evt, .rf, .fc, .sl] (some [.CE_CDET,
      .CE_CSTAT, .CE_L_FENCE_STAT, .CE_L_SHOWN_HI, .CE_L_SHOWN_LO, .CE_PL_CSTAT, .CK_STAT, .CU_EVT_OVR, .FC_CLEAR_REJ, .FC_CNT,
      .FC_FIRST_ID, .FC_FIRST_ORG, .FC_FIRST_TAI_NS, .FC_FIRST_TAI_SH, .FC_FIRST_TAI_SL, .FC_LAT, .FC_OVF, .FC_SUPPRESSED,
      .HD_PHASE, .HD_RASTER, .HD_STAT, .TB_CLAMP, .TB_INC_HI, .TB_INC_LO, .TB_STATE, .TB_STEP_CNT, .xx_STATUS]) s (restepStepOp
      offset s) := by
  unfold restepStepOp
  split
  · refine Only.ite ?_ ?_
    · exact Only.refl _
    · extract_lets +onlyGivenNames y0
      refine Only.have y0 ?_ fun hy0 => ?_
      · subst y0
        refine (only_stepCount ..).over (Covers.some 11791 101449856 rfl rfl) ?_
        exact Only.refl _
      clear_value y0
      extract_lets +onlyGivenNames y1
      refine Only.have y1 ?_ fun hy1 => ?_
      · subst y1
        refine Only.set .TB_STATE 24 rfl rfl ?_
        exact hy0
      clear_value y1
      extract_lets +onlyGivenNames y2
      clear_value y2
      extract_lets +onlyGivenNames y3
      refine Only.have y3 ?_ fun hy3 => ?_
      · subst y3
        refine Only.tb 2 rfl ?_
        exact hy1
      clear_value y3
      extract_lets +onlyGivenNames y4
      refine Only.have y4 ?_ fun hy4 => ?_
      · subst y4
        refine Only.foldl ?_ fun y5 _ hy5 => ?_
        · exact hy3
        · refine (only_holdHead ..).over (Covers.some 2042 68157695 rfl rfl) ?_
          exact hy5
      clear_value y4
      extract_lets +onlyGivenNames y6
      refine Only.have y6 ?_ fun hy6 => ?_
      · subst y6
        refine (only_setTb ..).over (Covers.some 13838 98828160 rfl rfl) ?_
        exact hy4
      clear_value y6
      refine (only_updSrc ..).over (Covers.some 4 0 rfl rfl) ?_
      exact hy6
  · exact Only.refl _

theorem only_rosterOp (m) (s : State) :
    Only [.out, .irqOwed, .heads, .cues, .evt, .gl, .fc, .sl] (some [.CU_EVT_OVR, .FC_CLEAR_REJ, .FC_CNT, .FC_FIRST_ID,
      .FC_FIRST_ORG, .FC_FIRST_TAI_NS, .FC_FIRST_TAI_SH, .FC_FIRST_TAI_SL, .FC_LAT, .FC_OVF, .FC_SUPPRESSED, .GL_MEMBERS,
      .GL_RX_BAD, .GL_STATE, .xx_STATUS]) s (rosterOp m s) := by
  unfold rosterOp
  refine only_glReceive (Covers.some 34 20480 rfl rfl) ?_ (fun y0 hy0 => ?_) fun y0 hy0 => ?_
  · exact Only.refl _
  · refine Only.ite ?_ ?_
    · refine (only_updGl ..).over (Covers.some 32 0 rfl rfl) ?_
      exact hy0
    · exact hy0
  · refine (only_takeRoster ..).over (Covers.some 255 28671 rfl rfl) ?_
    exact hy0

theorem only_rosterSendOp (s : State) : Only [.out, .gl] (some []) s (rosterSendOp s) := by
  unfold rosterSendOp
  refine Only.ite ?_ ?_
  · exact Only.refl _
  · extract_lets +onlyGivenNames y0
    refine Only.have y0 ?_ fun hy0 => ?_
    · subst y0
      refine (only_updGl ..).over (Covers.some 2 0 rfl rfl) ?_
      exact Only.refl _
    clear_value y0
    extract_lets +onlyGivenNames y1
    clear_value y1
    refine (only_glSend ..).over (Covers.some 3 0 rfl rfl) ?_
    exact hy0

theorem only_rosterTimeoutOp (s : State) :
    Only [.irqOwed, .heads, .cues, .evt, .gl, .fc, .sl] (some [.CU_EVT_OVR, .FC_CLEAR_REJ, .FC_CNT, .FC_FIRST_ID, .FC_FIRST_ORG,
      .FC_FIRST_TAI_NS, .FC_FIRST_TAI_SH, .FC_FIRST_TAI_SL, .FC_LAT, .FC_OVF, .FC_SUPPRESSED, .GL_STATE, .xx_STATUS]) s
      (rosterTimeoutOp s) := by
  unfold rosterTimeoutOp
  refine Only.ite ?_ ?_
  · exact Only.refl _
  · refine (only_raise ..).over (Covers.some 111 6143 rfl rfl) ?_
    refine (only_updGl ..).over (Covers.some 16 0 rfl rfl) ?_
    refine (only_setRole ..).over (Covers.some 17 6144 rfl rfl) ?_
    exact Only.refl _

theorem only_rxFrameOp (p) (data) (fcsOk) (taken) (s : State) :
    Only [.free, .out, .irqOwed, .mem, .bad, .heads, .vids, .ports, .flows, .ads, .hqs, .pls, .cues, .evt, .fc, .sl] none s
      (rxFrameOp p data fcsOk taken s) := by
  unfold rxFrameOp
  extract_lets +onlyGivenNames y0
  clear_value y0
  refine Only.ite ?_ ?_
  · exact Only.refl _
  · refine Only.ite ?_ ?_
    · refine Only.countAny ?_
      exact Only.refl _
    · refine Only.ite ?_ ?_
      · refine Only.countAny ?_
        exact Only.refl _
      · extract_lets +onlyGivenNames y1
        subst y1
        extract_lets +onlyGivenNames y2
        clear_value y2
        refine Only.ite ?_ ?_
        · refine Only.countAny ?_
          exact Only.refl _
        · extract_lets +onlyGivenNames y3
          refine Only.have y3 ?_ fun hy3 => ?_
          · subst y3
            refine Only.countAny ?_
            exact Only.refl _
          clear_value y3
          split
          · refine (only_defaultFrame ..).over (Covers.any 62502 rfl) ?_
            exact hy3
          · refine Only.ite ?_ ?_
            · refine (only_defaultFrame ..).over (Covers.any 62502 rfl) ?_
              exact hy3
            · refine Only.ite ?_ ?_
              · refine (only_ctlBucket ..).over (Covers.any 128 rfl) ?_
                exact hy3
              · split
                · refine (only_flowFrame ..).over (Covers.any 65407 rfl) ?_
                  exact hy3
                · refine (only_defaultFrame ..).over (Covers.any 62502 rfl) ?_
                  exact hy3

theorem only_sampleOp (n) (i) (s : State) : Only [.heads, .cues] (some []) s (sampleOp n i s) := by
  unfold sampleOp
  extract_lets +onlyGivenNames y0
  clear_value y0
  extract_lets +onlyGivenNames y1
  clear_value y1
  extract_lets +onlyGivenNames y2
  clear_value y2
  extract_lets +onlyGivenNames y3
  clear_value y3
  split
  · exact Only.refl _
  · refine Only.ite ?_ ?_
    · refine (only_headEvent ..).over (Covers.some 3 0 rfl rfl) ?_
      refine (only_updHead ..).over (Covers.some 1 0 rfl rfl) ?_
      exact Only.refl _
    · exact Only.refl _

theorem only_sdiFailOp (n) (s : State) :
    Only [.irqOwed, .heads, .ads, .cues, .evt, .fc, .sl] (some [.CU_EVT_OVR, .FC_CLEAR_REJ, .FC_CNT, .FC_FIRST_ID,
      .FC_FIRST_ORG, .FC_FIRST_TAI_NS, .FC_FIRST_TAI_SH, .FC_FIRST_TAI_SL, .FC_LAT, .FC_OVF, .FC_SUPPRESSED, .xx_STATUS]) s
      (sdiFailOp n s) := by
  unfold sdiFailOp
  refine Only.ite ?_ ?_
  · exact Only.refl _
  · extract_lets +onlyGivenNames y0
    refine Only.have y0 ?_ fun hy0 => ?_
    · subst y0
      refine (only_withdraw ..).over (Covers.some 4 0 rfl rfl) ?_
      exact Only.refl _
    clear_value y0
    refine (only_raise ..).over (Covers.some 123 4095 rfl rfl) ?_
    refine (only_latch ..).over (Covers.some 1 2048 rfl rfl) ?_
    refine (only_updHead ..).over (Covers.some 2 0 rfl rfl) ?_
    exact hy0

theorem only_sdiLineOp (i) (l) (s : State) :
    Only [.irqOwed, .mem, .bad, .heads, .vids, .flows, .ads, .pls, .cues, .evt, .fc, .sl] none s (sdiLineOp i l s) := by
  unfold sdiLineOp
  refine Only.ite ?_ ?_
  · exact Only.refl _
  · extract_lets +onlyGivenNames y0
    clear_value y0
    extract_lets +onlyGivenNames y1
    refine Only.have y1 ?_ fun hy1 => ?_
    · subst y1
      refine Only.ite ?_ ?_
      · exact Only.refl _
      · refine Only.countAny ?_
        exact Only.refl _
    clear_value y1
    extract_lets +onlyGivenNames y2
    refine Only.have y2 ?_ fun hy2 => ?_
    · subst y2
      refine Only.setAny ?_
      exact hy1
    clear_value y2
    extract_lets +onlyGivenNames y3
    clear_value y3
    extract_lets +onlyGivenNames y4
    refine Only.have y4 ?_ fun hy4 => ?_
    · subst y4
      refine Only.setAny ?_
      exact hy2
    clear_value y4
    extract_lets +onlyGivenNames y5
    refine Only.have y5 ?_ fun hy5 => ?_
    · subst y5
      refine (only_extractAnc ..).over (Covers.any 3913 rfl) ?_
      exact hy4
    clear_value y5
    refine Only.ite ?_ ?_
    · exact hy5
    · split
      · exact hy5
      · extract_lets +onlyGivenNames y6
        refine Only.have y6 ?_ fun hy6 => ?_
        · subst y6
          split
          · refine Only.ite ?_ ?_
            · refine (only_updFrame ..).over (Covers.any 32 rfl) ?_
              refine (only_openFrame ..).over (Covers.any 32 rfl) ?_
              exact hy5
            · refine (only_updFrame ..).over (Covers.any 32 rfl) ?_
              exact hy5
          · refine (only_updFrame ..).over (Covers.any 32 rfl) ?_
            refine (only_openFrame ..).over (Covers.any 32 rfl) ?_
            exact hy5
        clear_value y6
        refine Only.ite ?_ ?_
        · exact hy6
        · refine Only.ite ?_ ?_
          · refine (only_updFrame ..).over (Covers.any 32 rfl) ?_
            exact hy6
          · extract_lets +onlyGivenNames y7
            refine Only.have y7 ?_ fun hy7 => ?_
            · subst y7
              refine (only_writeRow ..).over (Covers.any 4015 rfl) ?_
              exact hy6
            clear_value y7
            split
            · refine Only.ite ?_ ?_
              · refine (only_completeFrame ..).over (Covers.any 48 rfl) ?_
                exact hy7
              · exact hy7
            · exact hy7

theorem only_sdiInLineOp (i) (l) (s : State) :
    Only [.irqOwed, .mem, .bad, .heads, .vids, .flows, .ads, .pls, .cues, .evt, .fc, .sl] none s (sdiInLineOp i l s) := by
  unfold sdiInLineOp
  extract_lets +onlyGivenNames y0
  refine Only.have y0 ?_ fun hy0 => ?_
  · subst y0
    refine (only_sdiLineOp ..).over (Covers.any 4095 rfl) ?_
    exact Only.refl _
  clear_value y0
  refine Only.ite ?_ ?_
  · exact hy0
  · refine Only.countAny ?_
    exact hy0

theorem only_sdiLockOp (i) (s : State) : Only [.irqOwed, .flows] (some [.NG_SDI_STAT, .xx_STATUS]) s (sdiLockOp i s) := by
  unfold sdiLockOp
  refine Only.ite ?_ ?_
  · exact Only.refl _
  · extract_lets +onlyGivenNames y0
    clear_value y0
    refine (only_latch ..).over (Covers.some 1 2 rfl rfl) ?_
    refine Only.set .NG_SDI_STAT 0 rfl rfl ?_
    refine (only_updFlow ..).over (Covers.some 2 0 rfl rfl) ?_
    exact Only.refl _

theorem only_sdiLossOp (i) (link) (s : State) :
    Only [.irqOwed, .heads, .flows, .cues, .evt, .fc, .sl] none s (sdiLossOp i link s) := by
  unfold sdiLossOp
  refine Only.ite ?_ ?_
  · exact Only.refl _
  · extract_lets +onlyGivenNames y0
    refine Only.have y0 ?_ fun hy0 => ?_
    · subst y0
      refine Only.setAny ?_
      refine (only_updFlow ..).over (Covers.any 4 rfl) ?_
      exact Only.refl _
    clear_value y0
    extract_lets +onlyGivenNames y1
    refine Only.have y1 ?_ fun hy1 => ?_
    · subst y1
      refine (only_latch ..).over (Covers.any 1 rfl) ?_
      exact hy0
    clear_value y1
    refine Only.ite ?_ ?_
    · refine (only_raise ..).over (Covers.any 123 rfl) ?_
      refine (only_abandonFrame ..).over (Covers.any 4 rfl) ?_
      exact hy1
    · exact hy1

theorem only_sdiRelockOp (n) (s : State) : Only [.heads] (some []) s (sdiRelockOp n s) := by
  unfold sdiRelockOp
  extract_lets +onlyGivenNames y0
  clear_value y0
  refine Only.ite ?_ ?_
  · exact Only.refl _
  · refine Only.ite ?_ ?_
    · refine (only_updHead ..).over (Covers.some 1 0 rfl rfl) ?_
      exact Only.refl _
    · refine (only_updHead ..).over (Covers.some 1 0 rfl rfl) ?_
      exact Only.refl _

theorem only_seekTimeoutOp (s : State) : Only [.irqOwed, .gl] (some [.GL_STATE, .xx_STATUS]) s (seekTimeoutOp s) := by
  unfold seekTimeoutOp
  refine Only.ite ?_ ?_
  · refine (only_setRole ..).over (Covers.some 3 3 rfl rfl) ?_
    exact Only.refl _
  · exact Only.refl _

theorem only_serviceReadyOp (s : State) :
    Only [.dv, .tb, .cl] (some [.CL_STAT, .DV_BOOT_STAT, .DV_SVC_READY]) s (serviceReadyOp s) := by
  unfold serviceReadyOp
  split
  · exact Only.refl _
  · extract_lets +onlyGivenNames y0
    clear_value y0
    refine Only.ite ?_ ?_
    · exact Only.refl _
    · extract_lets +onlyGivenNames y1
      refine Only.have y1 ?_ fun hy1 => ?_
      · subst y1
        refine Only.set .DV_SVC_READY 2 rfl rfl ?_
        exact Only.refl _
      clear_value y1
      extract_lets +onlyGivenNames y2
      clear_value y2
      extract_lets +onlyGivenNames y3
      refine Only.have y3 ?_ fun hy3 => ?_
      · subst y3
        refine Only.tb 1 rfl ?_
        exact hy1
      clear_value y3
      extract_lets +onlyGivenNames y4
      refine Only.have y4 ?_ fun hy4 => ?_
      · subst y4
        refine (only_updDv ..).over (Covers.some 1 0 rfl rfl) ?_
        exact hy3
      clear_value y4
      refine Only.ite ?_ ?_
      · refine (only_updDv ..).over (Covers.some 1 0 rfl rfl) ?_
        refine (only_setAttempts ..).over (Covers.some 5 3 rfl rfl) ?_
        exact hy4
      · exact hy4

theorem only_servoStep (m) (s : State) : Only allAreas none s (servoStep m s) := by
  unfold servoStep
  refine Only.ite ?_ ?_
  · exact Only.refl _
  · extract_lets +onlyGivenNames y0
    clear_value y0
    extract_lets +onlyGivenNames y1
    clear_value y1
    extract_lets +onlyGivenNames y2
    clear_value y2
    extract_lets +onlyGivenNames y3
    refine Only.have y3 ?_ fun hy3 => ?_
    · subst y3
      refine (only_reselect ..).over (Covers.any 65544 rfl) ?_
      refine (only_takeSample ..).over (Covers.any 65536 rfl) ?_
      exact Only.refl _
    clear_value y3
    extract_lets +onlyGivenNames y4
    clear_value y4
    extract_lets +onlyGivenNames y5
    clear_value y5
    extract_lets +onlyGivenNames y6
    clear_value y6
    refine Only.ite ?_ ?_
    · extract_lets +onlyGivenNames y7
      refine Only.have y7 ?_ fun hy7 => ?_
      · subst y7
        refine (only_loseSource ..).over (Covers.any 423329156759560 rfl) ?_
        exact hy3
      clear_value y7
      refine Only.ite ?_ ?_
      · refine (only_actUnselected ..).over (Covers.any 423329156759560 rfl) ?_
        refine (only_writeOfs ..).over (Covers.any 1125899906842623 rfl) ?_
        exact hy7
      · exact hy7
    · refine Only.ite ?_ ?_
      · extract_lets +onlyGivenNames y8
        refine Only.have y8 ?_ fun hy8 => ?_
        · subst y8
          split
          · refine Only.ite ?_ ?_
            · refine (only_takeAnnounce ..).over (Covers.any 1125899906842623 rfl) ?_
              exact hy3
            · exact hy3
          · exact hy3
        clear_value y8
        refine (only_writeInc ..).over (Covers.any 1125899906842623 rfl) ?_
        refine (only_actOn ..).over (Covers.any 427727203270668 rfl) ?_
        refine (only_writeOfs ..).over (Covers.any 1125899906842623 rfl) ?_
        exact hy8
      · refine (only_follow ..).over (Covers.any 423329156759560 rfl) ?_
        exact hy3

theorem only_slowArriveOp (b) (s : State) : Only allAreas none s (slowArriveOp b s) := by
  unfold slowArriveOp
  extract_lets +onlyGivenNames y0
  clear_value y0
  split
  · exact Only.refl _
  · refine Only.ite ?_ ?_
    · exact Only.refl _
    · extract_lets +onlyGivenNames y1
      refine Only.have y1 ?_ fun hy1 => ?_
      · subst y1
        refine Only.slowQ 7 rfl ?_
        exact Only.refl _
      clear_value y1
      split
      · extract_lets +onlyGivenNames y2
        refine Only.have y2.1 ?_ fun hy2 => ?_
        · subst y2
          refine (only_blockWrite ..).over (Covers.any 1125899906842623 rfl) ?_
          exact hy1
        clear_value y2
        refine (only_enterHeld ..).over (Covers.any 1125899906842623 rfl) ?_
        refine (only_log ..).over (Covers.any 281474976710656 rfl) ?_
        refine (only_refuse ..).over (Covers.any 423329156694024 rfl) ?_
        exact hy2
      · exact hy1

theorem only_slowRefreshOp (b) (arrived) (s : State) : Only [.slowCopy] (some [.xx_AGE]) s (slowRefreshOp b arrived s) := by
  unfold slowRefreshOp
  extract_lets +onlyGivenNames y0
  clear_value y0
  extract_lets +onlyGivenNames y1
  subst y1
  refine Only.ite ?_ ?_
  · refine Only.wr .xx_AGE 0 rfl rfl ?_
    exact Only.refl _
  · extract_lets +onlyGivenNames y2
    clear_value y2
    extract_lets +onlyGivenNames y3
    clear_value y3
    extract_lets +onlyGivenNames y4
    clear_value y4
    refine Only.wr .xx_AGE 0 rfl rfl ?_
    refine Only.slowCopy 0 rfl ?_
    exact Only.refl _

theorem only_snapCaptureOp (s : State) :
    Only [.holding, .dv] (some [.DV_SNAP_ID, .DV_SNAP_STAT, .DV_SNAP_TAI_NS, .DV_SNAP_TAI_SH, .DV_SNAP_TAI_SL]) s (snapCaptureOp
      s) := by
  unfold snapCaptureOp
  split
  · exact Only.refl _
  · refine Only.ite ?_ ?_
    · exact Only.refl _
    · extract_lets +onlyGivenNames y0
      clear_value y0
      extract_lets +onlyGivenNames y1
      clear_value y1
      extract_lets +onlyGivenNames y2
      clear_value y2
      extract_lets +onlyGivenNames y3
      clear_value y3
      extract_lets +onlyGivenNames y4
      clear_value y4
      extract_lets +onlyGivenNames y5
      refine Only.have y5 ?_ fun hy5 => ?_
      · subst y5
        refine Only.upd (x := s) 3 ⟨rfl, Nat.le_refl _, List.prefix_refl _, Nat.le_refl _, Nat.le_refl _, id, id⟩ (.inr rfl) (fun a ha => by cases a <;> first | rfl | exact absurd (by decide) ha) ?_
        exact Only.refl _
      clear_value y5
      extract_lets +onlyGivenNames y6
      refine Only.have y6 ?_ fun hy6 => ?_
      · subst y6
        refine Only.wr .DV_SNAP_ID 0 rfl rfl ?_
        exact hy5
      clear_value y6
      extract_lets +onlyGivenNames y7
      refine Only.have y7 ?_ fun hy7 => ?_
      · subst y7
        refine Only.set .DV_SNAP_TAI_SH 3 rfl rfl ?_
        refine Only.set .DV_SNAP_TAI_SL 4 rfl rfl ?_
        exact hy6
      clear_value y7
      refine Only.set .DV_SNAP_STAT 1 rfl rfl ?_
      refine Only.set .DV_SNAP_TAI_NS 2 rfl rfl ?_
      exact hy7

theorem only_snapDoneOp (s : State) :
    Only [.irqOwed, .mem, .bad, .dv, .heads, .pls, .cues, .evt, .fc, .sl] (some [.CE_PL_S_STAT, .CE_PL_WR_DENY, .CU_EVT_OVR,
      .DV_SNAP_STAT, .FC_CLEAR_REJ, .FC_CNT, .FC_FIRST_ID, .FC_FIRST_ORG, .FC_FIRST_TAI_NS, .FC_FIRST_TAI_SH, .FC_FIRST_TAI_SL,
      .FC_LAT, .FC_OVF, .FC_SUPPRESSED, .xx_STATUS]) s (snapDoneOp s) := by
  unfold snapDoneOp
  refine Only.ite ?_ ?_
  · exact Only.refl _
  · extract_lets +onlyGivenNames y0
    clear_value y0
    extract_lets +onlyGivenNames y1
    refine Only.have y1 ?_ fun hy1 => ?_
    · subst y1
      refine Only.foldl ?_ fun y2 _ hy2 => ?_
      · exact Only.refl _
      · refine (only_memWrite ..).over (Covers.some 1015 32759 rfl rfl) ?_
        exact hy2
    clear_value y1
    refine (only_updDv ..).over (Covers.some 8 0 rfl rfl) ?_
    refine Only.set .DV_SNAP_STAT 3 rfl rfl ?_
    exact hy1

theorem only_spBitmapOp (n) (s : State) : Only [.out, .sps] (some []) s (spBitmapOp n s) := by
  unfold spBitmapOp
  refine Only.ite ?_ ?_
  · refine (only_spSendImage ..).over (Covers.some 3 0 rfl rfl) ?_
    exact Only.refl _
  · exact Only.refl _

theorem only_spCapsOp (n) (c) (s : State) :
    Only [.out, .irqOwed, .heads, .cues, .evt, .sps, .fc, .sl] (some [.CU_EVT_OVR, .DV_IFV_SP, .FC_CLEAR_REJ, .FC_CNT,
      .FC_FIRST_ID, .FC_FIRST_ORG, .FC_FIRST_TAI_NS, .FC_FIRST_TAI_SH, .FC_FIRST_TAI_SL, .FC_LAT, .FC_OVF, .FC_SUPPRESSED,
      .SPP_HEAD_CAP, .SPP_HEAD_ID, .SPP_LINK_ERR, .SPP_STAT, .xx_STATUS]) s (spCapsOp n c s) := by
  unfold spCapsOp
  refine Only.ite ?_ ?_
  · refine Only.ite ?_ ?_
    · refine Only.count .SPP_LINK_ERR 14 rfl rfl ?_
      exact Only.refl _
    · exact Only.refl _
  · refine Only.ite ?_ ?_
    · exact Only.refl _
    · extract_lets +onlyGivenNames y0
      refine Only.have y0 ?_ fun hy0 => ?_
      · subst y0
        refine Only.wr .SPP_HEAD_ID 13 rfl rfl ?_
        exact Only.refl _
      clear_value y0
      extract_lets +onlyGivenNames y1
      refine Only.have y1 ?_ fun hy1 => ?_
      · subst y1
        refine Only.set .SPP_HEAD_CAP 12 rfl rfl ?_
        refine Only.wr .SPP_HEAD_CAP 12 rfl rfl ?_
        exact hy0
      clear_value y1
      extract_lets +onlyGivenNames y2
      clear_value y2
      refine Only.ite ?_ ?_
      · refine Only.ite ?_ ?_
        · exact hy1
        · refine (only_raise ..).over (Covers.some 222 69629 rfl rfl) ?_
          refine (only_updSp ..).over (Covers.some 32 0 rfl rfl) ?_
          exact hy1
      · extract_lets +onlyGivenNames y3
        refine Only.have y3 ?_ fun hy3 => ?_
        · subst y3
          refine Only.set .DV_IFV_SP 1 rfl rfl ?_
          refine Only.set .SPP_STAT 15 rfl rfl ?_
          exact hy1
        clear_value y3
        refine (only_spSend ..).over (Covers.some 33 0 rfl rfl) ?_
        refine (only_updSp ..).over (Covers.some 32 0 rfl rfl) ?_
        exact hy3

theorem only_spEnergiseOp (n) (s : State) :
    Only [.irqOwed, .sps] (some [.DV_IFV_SP, .SPP_POWER, .SPP_STAT, .SP_LOOP, .xx_STATUS]) s (spEnergiseOp n s) := by
  unfold spEnergiseOp
  refine Only.ite ?_ ?_
  · refine (only_spMove ..).over (Covers.some 3 31 rfl rfl) ?_
    exact Only.refl _
  · exact Only.refl _

theorem only_spFastOp (n) (mA) (s : State) :
    Only [.irqOwed, .heads, .cues, .evt, .sps, .fc, .sl] (some [.CU_EVT_OVR, .DV_IFV_SP, .FC_CLEAR_REJ, .FC_CNT, .FC_FIRST_ID,
      .FC_FIRST_ORG, .FC_FIRST_TAI_NS, .FC_FIRST_TAI_SH, .FC_FIRST_TAI_SL, .FC_LAT, .FC_OVF, .FC_SUPPRESSED, .SPP_MEAS,
      .SPP_POWER, .SPP_STAT, .SPP_TRIPS, .SP_LOOP, .xx_STATUS]) s (spFastOp n mA s) := by
  unfold spFastOp
  extract_lets +onlyGivenNames y0
  refine Only.have y0 ?_ fun hy0 => ?_
  · subst y0
    refine Only.set .SPP_MEAS 12 rfl rfl ?_
    exact Only.refl _
  clear_value y0
  refine Only.ite ?_ ?_
  · refine (only_spTrip ..).over (Covers.some 127 258047 rfl rfl) ?_
    exact hy0
  · exact hy0

theorem only_spGateOp (n) (live) (s : State) :
    Only [.irqOwed, .heads, .cues, .evt, .fc, .sl] (some [.CU_EVT_OVR, .FC_CLEAR_REJ, .FC_CNT, .FC_FIRST_ID, .FC_FIRST_ORG,
      .FC_FIRST_TAI_NS, .FC_FIRST_TAI_SH, .FC_FIRST_TAI_SL, .FC_LAT, .FC_OVF, .FC_SUPPRESSED, .SPP_STAT, .xx_STATUS]) s
      (spGateOp n live s) := by
  unfold spGateOp
  refine Only.ite ?_ ?_
  · refine Only.set .SPP_STAT 11 rfl rfl ?_
    exact Only.refl _
  · refine Only.ite ?_ ?_
    · exact Only.refl _
    · refine (only_raise ..).over (Covers.some 63 6143 rfl rfl) ?_
      refine Only.set .SPP_STAT 11 rfl rfl ?_
      exact Only.refl _

theorem only_spHelloOp (n) (s : State) : Only [.out, .sps] (some []) s (spHelloOp n s) := by
  unfold spHelloOp
  extract_lets +onlyGivenNames y0
  clear_value y0
  refine Only.ite ?_ ?_
  · exact Only.refl _
  · refine (only_spSend ..).over (Covers.some 3 0 rfl rfl) ?_
    refine (only_setSp ..).over (Covers.some 2 0 rfl rfl) ?_
    exact Only.refl _

theorem only_spI2tOp (n) (mA) (cV) (s : State) :
    Only [.irqOwed, .heads, .cues, .evt, .sps, .fc, .sl] (some [.CU_EVT_OVR, .DV_IFV_SP, .FC_CLEAR_REJ, .FC_CNT, .FC_FIRST_ID,
      .FC_FIRST_ORG, .FC_FIRST_TAI_NS, .FC_FIRST_TAI_SH, .FC_FIRST_TAI_SL, .FC_LAT, .FC_OVF, .FC_SUPPRESSED, .SPP_MEAS,
      .SPP_POWER, .SPP_STAT, .SPP_TRIPS, .SP_LOOP, .xx_STATUS]) s (spI2tOp n mA cV s) := by
  unfold spI2tOp
  extract_lets +onlyGivenNames y0
  refine Only.have y0 ?_ fun hy0 => ?_
  · subst y0
    refine Only.set .SPP_MEAS 12 rfl rfl ?_
    refine Only.set .SPP_MEAS 12 rfl rfl ?_
    exact Only.refl _
  clear_value y0
  refine Only.ite ?_ ?_
  · exact hy0
  · extract_lets +onlyGivenNames y1
    clear_value y1
    extract_lets +onlyGivenNames y2
    refine Only.have y2 ?_ fun hy2 => ?_
    · subst y2
      refine Only.set .SPP_POWER 13 rfl rfl ?_
      refine (only_updSp ..).over (Covers.some 16 0 rfl rfl) ?_
      exact hy0
    clear_value y2
    refine Only.ite ?_ ?_
    · refine (only_spTrip ..).over (Covers.some 127 258047 rfl rfl) ?_
      exact hy2
    · refine Only.ite ?_ ?_
      · refine (only_spTrip ..).over (Covers.some 127 258047 rfl rfl) ?_
        exact hy2
      · exact hy2

theorem only_spLatchOp (n) (s : State) :
    Only [.irqOwed, .eff, .waiting, .heads, .dts, .cues, .evt, .sps, .fc, .sl] (some [.CU_EVT_OVR, .FC_CLEAR_REJ, .FC_CNT,
      .FC_FIRST_ID, .FC_FIRST_ORG, .FC_FIRST_TAI_NS, .FC_FIRST_TAI_SH, .FC_FIRST_TAI_SL, .FC_LAT, .FC_OVF, .FC_SUPPRESSED,
      .SPP_STAT, .xx_STATUS]) s (spLatchOp n s) := by
  unfold spLatchOp
  split
  · exact Only.refl _
  · refine Only.ite ?_ ?_
    · exact Only.refl _
    · extract_lets +onlyGivenNames y0
      clear_value y0
      extract_lets +onlyGivenNames y1
      refine Only.have y1 ?_ fun hy1 => ?_
      · subst y1
        refine (only_applyWaiting ..).over (Covers.some 6 0 rfl rfl) ?_
        exact Only.refl _
      clear_value y1
      extract_lets +onlyGivenNames y2
      refine Only.have y2 ?_ fun hy2 => ?_
      · subst y2
        refine (only_latchItems ..).over (Covers.some 23 4096 rfl rfl) ?_
        exact hy1
      clear_value y2
      extract_lets +onlyGivenNames y3
      clear_value y3
      extract_lets +onlyGivenNames y4
      clear_value y4
      extract_lets +onlyGivenNames y5
      refine Only.have y5 ?_ fun hy5 => ?_
      · subst y5
        refine Only.set .SPP_STAT 11 rfl rfl ?_
        exact hy2
      clear_value y5
      extract_lets +onlyGivenNames y6
      refine Only.have y6 ?_ fun hy6 => ?_
      · subst y6
        refine Only.ite ?_ ?_
        · refine (only_raise ..).over (Covers.some 873 6143 rfl rfl) ?_
          exact hy5
        · exact hy5
      clear_value y6
      extract_lets +onlyGivenNames y7
      clear_value y7
      refine (only_updSp ..).over (Covers.some 128 0 rfl rfl) ?_
      exact hy6

theorem only_spMeasureOp (n) (r) (s : State) :
    Only [.irqOwed, .heads, .cues, .evt, .sps, .fc, .sl] (some [.CU_EVT_OVR, .DV_IFV_SP, .FC_CLEAR_REJ, .FC_CNT, .FC_FIRST_ID,
      .FC_FIRST_ORG, .FC_FIRST_TAI_NS, .FC_FIRST_TAI_SH, .FC_FIRST_TAI_SL, .FC_LAT, .FC_OVF, .FC_SUPPRESSED, .SPP_CAP,
      .SPP_POWER, .SPP_STAT, .SPP_TRIPS, .SP_LOOP, .xx_STATUS]) s (spMeasureOp n r s) := by
  unfold spMeasureOp
  refine Only.ite ?_ ?_
  · exact Only.refl _
  · refine Only.ite ?_ ?_
    · refine (only_spTrip ..).over (Covers.some 127 258047 rfl rfl) ?_
      exact Only.refl _
    · refine Only.ite ?_ ?_
      · refine (only_spRefuse ..).over (Covers.some 127 258047 rfl rfl) ?_
        exact Only.refl _
      · extract_lets +onlyGivenNames y0
        clear_value y0
        extract_lets +onlyGivenNames y1
        refine Only.have y1 ?_ fun hy1 => ?_
        · subst y1
          refine Only.set .SPP_CAP 12 rfl rfl ?_
          exact Only.refl _
        clear_value y1
        refine Only.ite ?_ ?_
        · refine (only_spRefuse ..).over (Covers.some 127 258047 rfl rfl) ?_
          exact hy1
        · refine (only_spMove ..).over (Covers.some 17 221186 rfl rfl) ?_
          exact hy1

theorem only_spRetryOp (n) (s : State) :
    Only [.irqOwed, .heads, .cues, .evt, .sps, .fc, .sl] (some [.CU_EVT_OVR, .DV_IFV_SP, .FC_CLEAR_REJ, .FC_CNT, .FC_FIRST_ID,
      .FC_FIRST_ORG, .FC_FIRST_TAI_NS, .FC_FIRST_TAI_SH, .FC_FIRST_TAI_SL, .FC_LAT, .FC_OVF, .FC_SUPPRESSED, .SPP_POWER,
      .SPP_STAT, .SPP_TRIPS, .SP_LOOP, .xx_STATUS]) s (spRetryOp n s) := by
  unfold spRetryOp
  refine Only.ite ?_ ?_
  · refine (only_spMeasure ..).over (Covers.some 127 131071 rfl rfl) ?_
    exact Only.refl _
  · exact Only.refl _

theorem only_spSupplyOp (cV) (s : State) :
    Only [.irqOwed, .heads, .cues, .evt, .sps, .fc, .sl] (some [.CU_EVT_OVR, .DV_IFV_SP, .FC_CLEAR_REJ, .FC_CNT, .FC_FIRST_ID,
      .FC_FIRST_ORG, .FC_FIRST_TAI_NS, .FC_FIRST_TAI_SH, .FC_FIRST_TAI_SL, .FC_LAT, .FC_OVF, .FC_SUPPRESSED, .SPP_POWER,
      .SPP_STAT, .SPP_TRIPS, .SP_LOOP, .SP_VSUP, .xx_STATUS]) s (spSupplyOp cV s) := by
  unfold spSupplyOp
  extract_lets +onlyGivenNames y0
  refine Only.have y0 ?_ fun hy0 => ?_
  · subst y0
    refine (only_spSetSupply ..).over (Covers.some 1 196608 rfl rfl) ?_
    exact Only.refl _
  clear_value y0
  refine Only.ite ?_ ?_
  · exact hy0
  · refine Only.foldl ?_ fun y1 _ hy1 => ?_
    · exact hy0
    · refine (only_spTrip ..).over (Covers.some 127 196607 rfl rfl) ?_
      exact hy1

theorem only_spSecondOp (m) (s : State) :
    Only [.irqOwed, .heads, .cues, .evt, .sps, .fc, .sl] (some [.CU_EVT_OVR, .DV_IFV_SP, .FC_CLEAR_REJ, .FC_CNT, .FC_FIRST_ID,
      .FC_FIRST_ORG, .FC_FIRST_TAI_NS, .FC_FIRST_TAI_SH, .FC_FIRST_TAI_SL, .FC_LAT, .FC_OVF, .FC_SUPPRESSED, .SPP_POWER,
      .SPP_STAT, .SPP_TRIPS, .SP_LOOP, .SP_VSUP, .xx_STATUS]) s (spSecondOp m s) := by
  unfold spSecondOp
  extract_lets +onlyGivenNames y0
  refine Only.have y0 ?_ fun hy0 => ?_
  · subst y0
    refine (only_spSupplyOp ..).over (Covers.some 127 262143 rfl rfl) ?_
    exact Only.refl _
  clear_value y0
  extract_lets +onlyGivenNames y1
  clear_value y1
  extract_lets +onlyGivenNames y2
  refine Only.have y2 ?_ fun hy2 => ?_
  · subst y2
    refine Only.set .SP_LOOP 15 rfl rfl ?_
    exact hy0
  clear_value y2
  extract_lets +onlyGivenNames y3
  refine Only.have y3 ?_ fun hy3 => ?_
  · subst y3
    refine Only.foldl ?_ fun y4 _ hy4 => ?_
    · exact hy2
    · refine (only_spSecond1 ..).over (Covers.some 127 196607 rfl rfl) ?_
      exact hy4
  clear_value y3
  refine Only.ite ?_ ?_
  · exact hy3
  · extract_lets +onlyGivenNames y5
    clear_value y5
    split
    · refine (only_spTrip ..).over (Covers.some 127 196607 rfl rfl) ?_
      refine (only_raise ..).over (Covers.some 111 135165 rfl rfl) ?_
      refine (only_latch ..).over (Covers.some 1 131072 rfl rfl) ?_
      exact hy3
    · refine (only_raise ..).over (Covers.some 111 135165 rfl rfl) ?_
      refine (only_latch ..).over (Covers.some 1 131072 rfl rfl) ?_
      exact hy3

theorem only_spSegOp (n) (s : State) : Only [.out, .sps] (some []) s (spSegOp n s) := by
  unfold spSegOp
  refine Only.ite ?_ ?_
  · refine (only_spSendImage ..).over (Covers.some 3 0 rfl rfl) ?_
    exact Only.refl _
  · exact Only.refl _

theorem only_spStatusOp (n) (f) (s : State) :
    Only [.irqOwed, .sps] (some [.SPP_LINK_ERR, .SPP_STAT, .xx_STATUS]) s (spStatusOp n f s) := by
  unfold spStatusOp
  refine Only.ite ?_ ?_
  · exact Only.refl _
  · refine Only.ite ?_ ?_
    · extract_lets +onlyGivenNames y0
      refine Only.have y0 ?_ fun hy0 => ?_
      · subst y0
        refine Only.count .SPP_LINK_ERR 0 rfl rfl ?_
        exact Only.refl _
      clear_value y0
      refine (only_updSp ..).over (Covers.some 2 0 rfl rfl) ?_
      exact hy0
    · extract_lets +onlyGivenNames y1
      subst y1
      beta_reduce
      refine Only.ite ?_ ?_
      · refine Only.ite ?_ ?_
        · exact Only.refl _
        · refine Only.ite ?_ ?_
          · refine Only.count .SPP_LINK_ERR 0 rfl rfl ?_
            refine Only.set .SPP_STAT 1 rfl rfl ?_
            refine (only_updSp ..).over (Covers.some 2 0 rfl rfl) ?_
            exact Only.refl _
          · refine (only_updSp ..).over (Covers.some 2 0 rfl rfl) ?_
            exact Only.refl _
      · refine Only.ite ?_ ?_
        · extract_lets +onlyGivenNames y2
          refine Only.have y2 ?_ fun hy2 => ?_
          · subst y2
            refine (only_latch ..).over (Covers.some 1 4 rfl rfl) ?_
            refine Only.set .SPP_STAT 1 rfl rfl ?_
            refine Only.set .SPP_STAT 1 rfl rfl ?_
            exact Only.refl _
          clear_value y2
          refine Only.ite ?_ ?_
          · refine Only.count .SPP_LINK_ERR 0 rfl rfl ?_
            refine Only.set .SPP_STAT 1 rfl rfl ?_
            refine (only_updSp ..).over (Covers.some 2 0 rfl rfl) ?_
            exact hy2
          · refine (only_updSp ..).over (Covers.some 2 0 rfl rfl) ?_
            exact hy2
        · exact Only.refl _

theorem only_spSyncOp (n) (s : State) :
    Only [.out, .irqOwed, .heads, .cues, .evt, .sps, .fc, .sl] (some [.CU_EVT_OVR, .DV_IFV_SP, .FC_CLEAR_REJ, .FC_CNT,
      .FC_FIRST_ID, .FC_FIRST_ORG, .FC_FIRST_TAI_NS, .FC_FIRST_TAI_SH, .FC_FIRST_TAI_SL, .FC_LAT, .FC_OVF, .FC_SUPPRESSED,
      .SPP_LINK_ERR, .SPP_STAT, .xx_STATUS]) s (spSyncOp n s) := by
  unfold spSyncOp
  extract_lets +onlyGivenNames y0
  clear_value y0
  extract_lets +onlyGivenNames y1
  clear_value y1
  refine Only.ite ?_ ?_
  · exact Only.refl _
  · extract_lets +onlyGivenNames y2
    clear_value y2
    extract_lets +onlyGivenNames y3
    refine Only.have y3 ?_ fun hy3 => ?_
    · subst y3
      refine Only.ite ?_ ?_
      · refine Only.count .SPP_LINK_ERR 12 rfl rfl ?_
        exact Only.refl _
      · exact Only.refl _
    clear_value y3
    refine Only.ite ?_ ?_
    · refine (only_raise ..).over (Covers.some 222 20477 rfl rfl) ?_
      refine (only_spUnlink ..).over (Covers.some 34 24578 rfl rfl) ?_
      exact hy3
    · refine (only_emit ..).over (Covers.some 1 0 rfl rfl) ?_
      refine (only_setSp ..).over (Covers.some 32 0 rfl rfl) ?_
      exact hy3

theorem only_spTimeOp (n) (s : State) : Only [.out, .sps] (some []) s (spTimeOp n s) := by
  unfold spTimeOp
  extract_lets +onlyGivenNames y0
  clear_value y0
  split
  · exact Only.refl _
  · refine Only.ite ?_ ?_
    · exact Only.refl _
    · extract_lets +onlyGivenNames y1
      clear_value y1
      extract_lets +onlyGivenNames y2
      clear_value y2
      extract_lets +onlyGivenNames y3
      clear_value y3
      extract_lets +onlyGivenNames y4
      clear_value y4
      extract_lets +onlyGivenNames y5
      clear_value y5
      extract_lets +onlyGivenNames y6
      clear_value y6
      extract_lets +onlyGivenNames y7
      clear_value y7
      extract_lets +onlyGivenNames y8
      clear_value y8
      extract_lets +onlyGivenNames y9
      clear_value y9
      extract_lets +onlyGivenNames y10
      clear_value y10
      extract_lets +onlyGivenNames y11
      clear_value y11
      refine (only_spSend ..).over (Covers.some 3 0 rfl rfl) ?_
      refine (only_setSp ..).over (Covers.some 2 0 rfl rfl) ?_
      exact Only.refl _

theorem only_spTripsOp (n) (s : State) : Only [] (some [.SPP_STAT]) s (spTripsOp n s) := by
  unfold spTripsOp
  refine Only.ite ?_ ?_
  · refine Only.set .SPP_STAT 0 rfl rfl ?_
    exact Only.refl _
  · exact Only.refl _

theorem only_srcRequalified (c) (s : State) :
    Only [.irqOwed, .tb, .heads, .cues, .evt, .fc, .sl] (some [.CU_EVT_OVR, .FC_CLEAR_REJ, .FC_CNT, .FC_FIRST_ID, .FC_FIRST_ORG,
      .FC_FIRST_TAI_NS, .FC_FIRST_TAI_SH, .FC_FIRST_TAI_SL, .FC_LAT, .FC_OVF, .FC_SUPPRESSED, .TB_CLAMP, .TB_INC_HI, .TB_INC_LO,
      .TB_STATE, .xx_STATUS]) s (srcRequalified c s) := by
  unfold srcRequalified
  extract_lets +onlyGivenNames y0
  clear_value y0
  refine Only.ite ?_ ?_
  · exact Only.refl _
  · extract_lets +onlyGivenNames y1
    refine Only.have y1 ?_ fun hy1 => ?_
    · subst y1
      refine (only_updSrc ..).over (Covers.some 2 0 rfl rfl) ?_
      exact Only.refl _
    clear_value y1
    refine Only.ite ?_ ?_
    · exact hy1
    · extract_lets +onlyGivenNames y2
      clear_value y2
      extract_lets +onlyGivenNames y3
      refine Only.have y3 ?_ fun hy3 => ?_
      · subst y3
        refine (only_selectSrc ..).over (Covers.some 3 49152 rfl rfl) ?_
        exact hy1
      clear_value y3
      refine Only.ite ?_ ?_
      · exact hy3
      · refine (only_follow ..).over (Covers.some 127 65535 rfl rfl) ?_
        exact hy3

theorem only_supplyLossOp (s : State) :
    Only [.out, .irqOwed, .dv, .heads, .cues, .evt, .ps, .fc, .sl] (some [.CU_EVT_OVR, .FC_CLEAR_REJ, .FC_CNT, .FC_FIRST_ID,
      .FC_FIRST_ORG, .FC_FIRST_TAI_NS, .FC_FIRST_TAI_SH, .FC_FIRST_TAI_SL, .FC_LAT, .FC_OVF, .FC_SUPPRESSED, .PS_RAIL_STAT,
      .xx_STATUS]) s (supplyLossOp s) := by
  unfold supplyLossOp
  refine Only.ite ?_ ?_
  · refine (only_updDv ..).over (Covers.some 4 0 rfl rfl) ?_
    refine (only_railsDown ..).over (Covers.some 65 2048 rfl rfl) ?_
    exact Only.refl _
  · refine Only.ite ?_ ?_
    · exact Only.refl _
    · refine (only_raise ..).over (Covers.some 442 6143 rfl rfl) ?_
      refine (only_updDv ..).over (Covers.some 4 0 rfl rfl) ?_
      exact Only.refl _

theorem only_supplyReleaseOp (s : State) : Only [.dv] (some []) s (supplyReleaseOp s) := by
  unfold supplyReleaseOp
  refine Only.ite ?_ ?_
  · exact Only.refl _
  · refine Only.ite ?_ ?_
    · refine (only_updDv ..).over (Covers.some 1 0 rfl rfl) ?_
      exact Only.refl _
    · refine (only_updDv ..).over (Covers.some 1 0 rfl rfl) ?_
      exact Only.refl _

theorem only_svcWdogOp (e) (s : State) :
    Only [.irqOwed, .heads, .cues, .evt, .fc, .sl] (some [.CU_EVT_OVR, .FC_CLEAR_REJ, .FC_CNT, .FC_FIRST_ID, .FC_FIRST_ORG,
      .FC_FIRST_TAI_NS, .FC_FIRST_TAI_SH, .FC_FIRST_TAI_SL, .FC_LAT, .FC_OVF, .FC_SUPPRESSED, .xx_STATUS]) s (svcWdogOp e s) :=
      by
  unfold svcWdogOp
  refine Only.ite ?_ ?_
  · refine (only_raise ..).over (Covers.some 63 4095 rfl rfl) ?_
    exact Only.refl _
  · exact Only.refl _

theorem only_syncGainOp (l) (s : State) : Only [.lts] (some [.LT_STAT]) s (syncGainOp l s) := by
  unfold syncGainOp
  refine Only.ite ?_ ?_
  · refine (only_updLt ..).over (Covers.some 1 0 rfl rfl) ?_
    refine Only.set .LT_STAT 0 rfl rfl ?_
    exact Only.refl _
  · exact Only.refl _

theorem only_syncLossOp (l) (s : State) :
    Only [.irqOwed, .lts] (some [.LT_BITS_HI, .LT_BITS_LO, .LT_ERRORS, .LT_STAT, .LT_SYNC_LOSS, .xx_STATUS]) s (syncLossOp l s)
      := by
  unfold syncLossOp
  refine Only.ite ?_ ?_
  · extract_lets +onlyGivenNames y0
    clear_value y0
    extract_lets +onlyGivenNames y1
    refine Only.have y1 ?_ fun hy1 => ?_
    · subst y1
      refine (only_updLt ..).over (Covers.some 2 0 rfl rfl) ?_
      refine Only.set .LT_STAT 3 rfl rfl ?_
      exact Only.refl _
    clear_value y1
    extract_lets +onlyGivenNames y2
    refine Only.have y2 ?_ fun hy2 => ?_
    · subst y2
      refine Only.count .LT_ERRORS 2 rfl rfl ?_
      refine (only_showBits ..).over (Covers.some 0 3 rfl rfl) ?_
      exact hy1
    clear_value y2
    refine (only_latch ..).over (Covers.some 1 32 rfl rfl) ?_
    refine Only.count .LT_SYNC_LOSS 4 rfl rfl ?_
    exact hy2
  · exact Only.refl _

theorem only_tenMhzOp (ok) (s : State) :
    Only [.irqOwed, .tb, .heads, .cues, .evt, .rf, .fc, .sl] (some [.CU_EVT_OVR, .FC_CLEAR_REJ, .FC_CNT, .FC_FIRST_ID,
      .FC_FIRST_ORG, .FC_FIRST_TAI_NS, .FC_FIRST_TAI_SH, .FC_FIRST_TAI_SL, .FC_LAT, .FC_OVF, .FC_SUPPRESSED, .TB_CLAMP,
      .TB_INC_HI, .TB_INC_LO, .TB_STATE, .xx_STATUS]) s (tenMhzOp ok s) := by
  unfold tenMhzOp
  refine (only_src2Check ..).over (Covers.some 255 65535 rfl rfl) ?_
  refine Only.tb 1 rfl ?_
  exact Only.refl _

theorem only_thermalOp (t) (s : State) :
    Only [.irqOwed, .heads, .cues, .evt, .fc, .sl] (some [.CU_EVT_OVR, .FC_CLEAR_REJ, .FC_CNT, .FC_FIRST_ID, .FC_FIRST_ORG,
      .FC_FIRST_TAI_NS, .FC_FIRST_TAI_SH, .FC_FIRST_TAI_SL, .FC_LAT, .FC_OVF, .FC_SUPPRESSED, .PS_TEMP, .xx_STATUS]) s
      (thermalOp t s) := by
  unfold thermalOp
  refine Only.ite ?_ ?_
  · exact Only.refl _
  · refine Only.foldl ?_ fun y0 _ hy0 => ?_
    · exact Only.refl _
    · refine (only_thermal ..).over (Covers.some 63 8191 rfl rfl) ?_
      exact hy0

theorem only_timeLeapOp (f) (ofs) (l61) (l59) (leapAt) (s : State) :
    Only allAreas none s (timeLeapOp f ofs l61 l59 leapAt s) := by
  unfold timeLeapOp
  refine only_mbxServe (Covers.any 32768 rfl) ?_ fun _ => ?_
  · exact Only.refl _
  · refine Only.itest ?_ ?_
    · refine Only.st ?_
      exact Only.refl _
    · extract_lets +onlyGivenNames y1
      refine Only.have y1.2 ?_ fun hy1 => ?_
      · subst y1
        refine (only_fresh ..).over (Covers.any 2 rfl) ?_
        exact Only.refl _
      clear_value y1
      extract_lets +onlyGivenNames y2
      clear_value y2
      extract_lets +onlyGivenNames y3
      refine Only.have y3 ?_ fun hy3 => ?_
      · subst y3
        refine (only_keyWrite ..).over (Covers.any 1125899906842623 rfl) ?_
        exact hy1
      clear_value y3
      refine Only.st ?_
      refine (only_keyWrite ..).over (Covers.any 1125899906842623 rfl) ?_
      exact hy3

theorem only_timePtpCfgOp (f) (c) (s : State) : Only [.mbx, .tb] (some []) s (timePtpCfgOp f c s) := by
  unfold timePtpCfgOp
  refine only_mbxServe (Covers.some 1 0 rfl rfl) ?_ fun _ => ?_
  · exact Only.refl _
  · refine Only.itest ?_ ?_
    · refine Only.st ?_
      refine Only.tb 1 rfl ?_
      exact Only.refl _
    · refine Only.st ?_
      exact Only.refl _

theorem only_timePtpPortOp (f) (p) (en) (role) (ip) (s : State) :
    Only [.free, .irqOwed, .dv, .mbx, .tb, .heads, .engines, .groups, .ads, .layers, .pls, .cues, .evt, .lts, .sps, .fc, .sl]
      none s (timePtpPortOp f p en role ip s) := by
  unfold timePtpPortOp
  refine only_mbxServe (Covers.any 8 rfl) ?_ fun _ => ?_
  · exact Only.refl _
  · extract_lets +onlyGivenNames y1
    clear_value y1
    refine Only.itest ?_ ?_
    · refine Only.st ?_
      exact Only.refl _
    · extract_lets +onlyGivenNames y2
      clear_value y2
      extract_lets +onlyGivenNames y3
      refine Only.have y3 ?_ fun hy3 => ?_
      · subst y3
        refine (only_setPtp ..).over (Covers.any 16 rfl) ?_
        exact Only.refl _
      clear_value y3
      refine Only.st ?_
      refine Only.ite ?_ ?_
      · refine (only_settleMode ..).over (Covers.any 98279 rfl) ?_
        refine (only_noSlave ..).over (Covers.any 16 rfl) ?_
        refine (only_srcLost ..).over (Covers.any 104498 rfl) ?_
        exact hy3
      · exact hy3

theorem only_timeRecordOp (s : State) : Only [.dv, .cl] (some [.CL_STAT]) s (timeRecordOp s) := by
  unfold timeRecordOp
  refine Only.ite ?_ ?_
  · refine (only_requestTime ..).over (Covers.some 3 1 rfl rfl) ?_
    exact Only.refl _
  · exact Only.refl _

theorem only_timeServoOp (f) (bw) (s : State) : Only [.mbx, .tb] (some []) s (timeServoOp f bw s) := by
  unfold timeServoOp
  refine only_mbxServe (Covers.some 1 0 rfl rfl) ?_ fun _ => ?_
  · exact Only.refl _
  · refine Only.itest ?_ ?_
    · refine Only.st ?_
      refine Only.tb 1 rfl ?_
      exact Only.refl _
    · refine Only.st ?_
      exact Only.refl _

theorem only_timeStatusOp (f) (s : State) : Only [.mbx] (some []) s (timeStatusOp f s) := by
  unfold timeStatusOp
  refine only_mbxServe (Covers.some 1 0 rfl rfl) ?_ fun _ => ?_
  · exact Only.refl _
  · refine Only.st ?_
    exact Only.refl _

theorem only_timeTickOp (n) (u) (s : State) : Only allAreas none s (timeTickOp n u s) := by
  unfold timeTickOp
  extract_lets +onlyGivenNames y0
  refine Only.have y0 ?_ fun hy0 => ?_
  · subst y0
    refine (only_ticks ..).over (Covers.any 1125899906842623 rfl) ?_
    refine Only.foldl ?_ fun y1 _ hy1 => ?_
    · exact Only.refl _
    · refine (only_upset ..).over (Covers.any 423878912512008 rfl) ?_
      exact hy1
  clear_value y0
  refine Only.ite ?_ ?_
  · exact hy0
  · refine (only_ticks ..).over (Covers.any 1125899906842623 rfl) ?_
    exact hy0

theorem only_todRxOp (m) (s : State) :
    Only [.irqOwed, .heads, .cues, .evt, .rf, .fc, .sl] (some [.CU_EVT_OVR, .FC_CLEAR_REJ, .FC_CNT, .FC_FIRST_ID, .FC_FIRST_ORG,
      .FC_FIRST_TAI_NS, .FC_FIRST_TAI_SH, .FC_FIRST_TAI_SL, .FC_LAT, .FC_OVF, .FC_SUPPRESSED, .xx_STATUS]) s (todRxOp m s) := by
  unfold todRxOp
  refine Only.ite ?_ ?_
  · exact Only.refl _
  · refine Only.ite ?_ ?_
    · refine Only.rf 4 rfl ?_
      exact Only.refl _
    · refine (only_raise ..).over (Covers.some 111 4095 rfl rfl) ?_
      refine (only_latch ..).over (Covers.some 1 2048 rfl rfl) ?_
      refine Only.rf 4 rfl ?_
      exact Only.refl _

theorem only_todTxOp (s : State) : Only [.out, .rf] (some []) s (todTxOp s) := by
  unfold todTxOp
  extract_lets +onlyGivenNames y0
  clear_value y0
  extract_lets +onlyGivenNames y1
  clear_value y1
  extract_lets +onlyGivenNames y2
  clear_value y2
  refine Only.ite ?_ ?_
  · exact Only.refl _
  · refine (only_emit ..).over (Covers.some 1 0 rfl rfl) ?_
    refine Only.rf 1 rfl ?_
    exact Only.refl _

theorem only_txDone (p) (s : State) :
    Only [.free, .irqOwed, .tb, .ports, .queues, .hqs] (some [.HQ_DROP, .NP_TX_FRAMES, .NQ_FRAMES, .NQ_STAT, .xx_STATUS]) s
      (txDone p s) := by
  unfold txDone
  split
  · exact Only.refl _
  · refine Only.ite ?_ ?_
    · exact Only.refl _
    · extract_lets +onlyGivenNames y0
      refine Only.have y0 ?_ fun hy0 => ?_
      · subst y0
        refine (only_updPort ..).over (Covers.some 8 0 rfl rfl) ?_
        exact Only.refl _
      clear_value y0
      extract_lets +onlyGivenNames y1
      refine Only.have y1 ?_ fun hy1 => ?_
      · subst y1
        refine (only_updQueue ..).over (Covers.some 16 0 rfl rfl) ?_
        exact hy0
      clear_value y1
      extract_lets +onlyGivenNames y2
      refine Only.have y2 ?_ fun hy2 => ?_
      · subst y2
        refine Only.count .NQ_FRAMES 2 rfl rfl ?_
        refine Only.count .NP_TX_FRAMES 1 rfl rfl ?_
        exact hy1
      clear_value y2
      extract_lets +onlyGivenNames y3
      refine Only.have y3 ?_ fun hy3 => ?_
      · subst y3
        refine (only_ringOutcome ..).over (Covers.some 34 17 rfl rfl) ?_
        refine Only.set .NQ_STAT 3 rfl rfl ?_
        exact hy2
      clear_value y3
      refine Only.ite ?_ ?_
      · refine (only_addStamp ..).over (Covers.some 5 0 rfl rfl) ?_
        exact hy3
      · exact hy3

theorem only_txStart (p) (s : State) :
    Only [.out, .irqOwed, .eff, .waiting, .heads, .ports, .queues, .hqs, .cues, .evt, .fc, .sl] (some [.CU_EVT_OVR,
      .FC_CLEAR_REJ, .FC_CNT, .FC_FIRST_ID, .FC_FIRST_ORG, .FC_FIRST_TAI_NS, .FC_FIRST_TAI_SH, .FC_FIRST_TAI_SL, .FC_LAT,
      .FC_OVF, .FC_SUPPRESSED, .HQ_DROP, .NP_TX_DOWN_DROP, .NP_TX_OVERSIZE, .NQ_LATE_SENT, .NQ_OBS_DELAY, .NQ_OVERSIZE,
      .NQ_STAT, .xx_STATUS]) s (txStart p s) := by
  unfold txStart
  refine Only.ite ?_ ?_
  · refine Only.foldl ?_ fun y0 _ hy0 => ?_
    · exact Only.refl _
    · refine (only_showBacklog ..).over (Covers.some 0 131072 rfl rfl) ?_
      refine (only_settle ..).over (Covers.some 4050 344063 rfl rfl) ?_
      exact hy0
  · refine Only.ite ?_ ?_
    · exact Only.refl _
    · split
      · extract_lets +onlyGivenNames y1
        subst y1
        refine (only_sendFrame ..).over (Covers.some 4095 524287 rfl rfl) ?_
        exact Only.refl _
      · split
        · refine (only_sendFrame ..).over (Covers.some 4095 524287 rfl rfl) ?_
          exact Only.refl _
        · split
          · rename_i e2
            refine Only.eq2 e2 ?_ fun h3 => ?_
            · refine (only_bestReady ..).over (Covers.some 96 0 rfl rfl) ?_
              exact Only.refl _
            · refine (only_sendFrame ..).over (Covers.some 4095 524287 rfl rfl) ?_
              exact h3
          · rename_i e4
            refine Only.eq2 e4 ?_ fun h5 => ?_
            · refine (only_bestReady ..).over (Covers.some 96 0 rfl rfl) ?_
              exact Only.refl _
            · exact Only.refl _

theorem only_waitDone (n) (s : State) :
    Only [.irqOwed, .heads, .cues, .cregs, .evt, .fc, .sl] (some [.CU_ECAUSE, .CU_EDATA, .CU_EPC, .CU_EVT_OVR, .CU_FLAGS,
      .CU_PC, .CU_RETIRED, .CU_STAT, .CU_TRAP_CNT, .FC_CLEAR_REJ, .FC_CNT, .FC_FIRST_ID, .FC_FIRST_ORG, .FC_FIRST_TAI_NS,
      .FC_FIRST_TAI_SH, .FC_FIRST_TAI_SL, .FC_LAT, .FC_OVF, .FC_SUPPRESSED, .xx_STATUS]) s (waitDone n s) := by
  unfold waitDone
  extract_lets +onlyGivenNames y0
  clear_value y0
  split
  · refine Only.ite ?_ ?_
    · exact Only.refl _
    · extract_lets +onlyGivenNames y1
      subst y1
      extract_lets +onlyGivenNames y2
      refine Only.have y2 ?_ fun hy2 => ?_
      · subst y2
        refine (only_setCue ..).over (Covers.some 4 0 rfl rfl) ?_
        exact Only.refl _
      clear_value y2
      extract_lets +onlyGivenNames y3
      refine Only.have y3 ?_ fun hy3 => ?_
      · subst y3
        refine Only.ite ?_ ?_
        · refine Only.set .CU_STAT 7 rfl rfl ?_
          exact hy2
        · exact hy2
      clear_value y3
      refine (only_finishOp ..).over (Covers.some 127 1048559 rfl rfl) ?_
      refine (only_setFlags ..).over (Covers.some 0 16 rfl rfl) ?_
      exact hy3
  · exact Only.refl _

theorem only_windowCloseOp (r) (u) (s : State) :
    Only [.irqOwed, .heads, .cues, .evt, .fc, .sl] (some [.CU_EVT_OVR, .FC_CLEAR_REJ, .FC_CNT, .FC_FIRST_ID, .FC_FIRST_ORG,
      .FC_FIRST_TAI_NS, .FC_FIRST_TAI_SH, .FC_FIRST_TAI_SL, .FC_LAT, .FC_OVF, .FC_SUPPRESSED, .xx_STATUS]) s (windowCloseOp r u
      s) := by
  unfold windowCloseOp
  split
  · exact Only.refl _
  · refine Only.ite ?_ ?_
    · exact Only.refl _
    · extract_lets +onlyGivenNames y0
      clear_value y0
      extract_lets +onlyGivenNames y1
      refine Only.have y1 ?_ fun hy1 => ?_
      · subst y1
        refine Only.fc 4 rfl ?_
        exact Only.refl _
      clear_value y1
      refine Only.foldl ?_ fun y2 _ hy2 => ?_
      · exact hy1
      · refine Only.ite ?_ ?_
        · refine (only_raise ..).over (Covers.some 63 4095 rfl rfl) ?_
          exact hy2
        · exact hy2

theorem only_writeOp (m) (s : State) : Only allAreas none s (writeOp m s) := by
  unfold writeOp
  refine only_glReceive (Covers.any 70368744177672 rfl) ?_ (fun y0 hy0 => ?_) fun y0 hy0 => ?_
  · exact Only.refl _
  · refine Only.ofId ?_
    exact hy0
  · refine Only.ite ?_ ?_
    · refine Only.foldl ?_ fun y1 _ hy1 => ?_
      · exact hy0
      · refine (only_busWrite ..).over (Covers.any 1125899906842623 rfl) ?_
        exact hy1
    · exact hy0

end Sys2Proof.Machine
end

