-- ==== Sys2Proof/Laws/Bus.lean ====
section
/-! SUPPORT. Laws of the register fabric: what a read answers, what a write leads to, and how fields are judged (R15, R37, R40 to R48). -/

namespace Sys2Proof.Machine

/-! ### Reads -/

/-- A read of a register by an origin that may read it: the data go out, and the read leaves behind what its register says. -/
theorem readOut_reg {s : State} {o : Origin} {a : Nat} {k : Key} (hs : s.readable = true) (hd : decodeAddr a = .reg k)
    (hk : k.1 ≠ .CK_RUN) (hl : k.1 ≠ .LT_ERRORS) (hr : s.rights o ((keyHdr k).headD 0) ≠ 0) :
    s.readOut o a =
      (if (slowCode k).isSome then s.afterCopyRead k (s.seen k (orgOf o).cls) else s.afterRead k (orgOf o).cls (s.seen k (orgOf o).cls)).emit
        (.readData (orgOf o) a (s.seen k (orgOf o).cls)) := by
  have h1 : s.busRead o a = s.busReadAt o a 0 := by
    unfold State.busRead
    rw [hd]
    split
    · rename_i h; cases h; exact absurd rfl hk
    · rfl
  have h2 : s.readRun k 0 = s := by
    unfold State.readRun
    rw [if_neg hk, if_neg hl]
  unfold State.readOut
  rw [h1]
  unfold State.busReadAt
  rw [hd, hs]
  simp [-List.headD_eq_head?_getD, Target.hdr, hr, h2]

/-! ### Writes -/

/-- What a write of a fabric register by an origin that may write it comes to: the block takes or refuses it, a refusal is counted,
and the write is logged. -/
theorem busWrite_reg {s : State} {o : Origin} {a : Nat} {v : Word} {k : Key} (hs : s.served = true) (hd : decodeAddr a = .reg k)
    (hm : emptyMask (.reg k) v 15 = false) (hr : s.rights o ((keyHdr k).headD 0) = 3) (ho : s.ownerRule o k v ≠ .viol)
    (hsl : slowCode k = none) :
    (s.busWrite o a v).1 =
      ((s.blockWrite (orgOf o) k v true).1.refuse (keyHdr k) (s.blockWrite (orgOf o) k v true).2 (orgOf o)).log 0
        (refusedFlag (s.blockWrite (orgOf o) k v true).2) (orgOf o) a (maskBytes v 15).toNat 15 := by
  unfold State.busWrite
  rw [hd]
  have hf : s.slowFull (.reg k) = none := by simp [State.slowFull, hsl]
  simp [-List.headD_eq_head?_getD, hs, hm, hr, ho, hsl, hf, Target.hdr]

/-- A write of a register of the slow domain that the fabric does not refuse waits in the queue of its block while an entry is free (R59), and
marks the W1 fields that it sets (R40). -/
theorem busWrite_slow {s : State} {o : Origin} {a : Nat} {v : Word} {k : Key} {c : Nat} (hs : s.served = true)
    (hd : decodeAddr a = .reg k) (hm : emptyMask (.reg k) v 15 = false) (hr : s.rights o ((keyHdr k).headD 0) = 3)
    (ho : s.ownerRule o k v ≠ .viol) (hsl : slowCode k = some c)
    (hq : (mget slowD s.slowQ c).length < 16) (hj : (s.slowJudge c k v).judge ≠ .viol) :
    (s.busWrite o a v).1 =
      { s with
        slowQ := nput slowD s.slowQ c (mget slowD s.slowQ c ++ [(orgOf o, a, v.toNat)])
        w1 := mput keyAddr (fun _ => 0) s.w1 k (s.slowJudge c k v).marks }.set ⟨(.xx_AGE, [c, 0]), 8, 8⟩ 1 := by
  unfold State.busWrite
  rw [hd]
  have hf : s.slowFull (.reg k) = none := by simp [State.slowFull, hsl, Nat.not_le.mpr hq]
  simp [-List.headD_eq_head?_getD, hs, hm, hr, ho, hsl, hf, Target.hdr, State.slowWrite, hj]

/-- The block's part of a write that nothing refuses. -/
theorem blockWrite_ok {s : State} {org : Org} {k : Key} {v : Word} {b : Bool} (hk : k.1 ≠ .xx_STATUS)
    (hv : s.valueRule k (s.judgeFields k (taken k.1 v) b).word = .ok) :
    s.blockWrite org k v b =
      let r := s.judgeFields k (taken k.1 v) b
      let s1 : State := { s with w1 := mput keyAddr (fun _ => 0) s.w1 k r.marks }
      let c := s1.command org k (s.held k) r.word (taken k.1 v)
      ((c.1.store k c.2.1).after org k (s.held k) c.2.1 (taken k.1 v), r.judge.with c.2.2) := by
  unfold State.blockWrite
  rw [if_neg hk]
  simp [hv]

theorem taken_of {r : Reg} (v : Word) (h1 : r ≠ .DV_PERM_LO) (h2 : r ≠ .DV_PERM_HI) : taken r v = v := by
  unfold taken
  rw [if_neg (by simp [h1, h2])]

@[simp] theorem refuse_ok (s : State) (h : List Nat) (o : Org) : s.refuse h .ok o = s := (rfl)

@[simp] theorem Judge.with_ok (j : Judge) : Judge.with .ok j = j := by cases j <;> rfl

/-! ### The judgement of fields -/

/-- A field that is free to be written: not locked, not running, and not written once. -/
structure Free (s : State) (k : Key) (f : FieldDef) : Prop where
  lock : f.app = .lock → s.flag ⟨(.xx_LOCK, keyHdr k), 0, 0⟩ = false
  stop : f.app = .stop → s.isRunning k = false
  once : f.acc ≠ .w1

theorem judgeField_free {s : State} {k : Key} {old cand : Word} {b : Bool} {r : Fields} {f : FieldDef} (h : Free s k f) :
    s.judgeField k old cand b r f = if f.acc = .rw ∨ f.acc = .mw then
      (if bits cand f.hi f.lo = bits old f.hi f.lo then r else r.take f (bits cand f.hi f.lo)) else r := by
  have hl := h.lock
  have hs := h.stop
  have hw := h.once
  unfold State.judgeField
  cases hf : f.acc <;> simp_all
  all_goals
    split
    · rfl
    · cases ha : f.app <;> simp_all

/-- The fields of a register, all of them free to be written: the judgement is that nothing is refused. -/
theorem judgeFields_free {s : State} {k : Key} {v : Word} {b : Bool} (hf : ∀ f ∈ (regDef k.1).fields, Free s k f) :
    (s.judgeFields k v b).judge = .ok := by
  unfold State.judgeFields
  suffices h : ∀ (l : List FieldDef) (r : Fields), (∀ f ∈ l, Free s k f) → r.judge = .ok →
      (l.foldl (s.judgeField k (s.held k) (asked (regDef k.1) (s.held k) v) b) r).judge = .ok from h _ _ hf rfl
  intro l
  induction l with
  | nil => exact fun r _ h => h
  | cons f l ih =>
    intro r hw hr
    refine ih _ (fun g hg => hw g (List.mem_cons_of_mem _ hg)) ?_
    rw [judgeField_free (hw f List.mem_cons_self)]
    split
    · split
      · exact hr
      · exact hr
    · exact hr

/-- Each writable field of a register whose fields are free takes what is asked of it. -/
theorem bits_judgeFields {s : State} {k : Key} {v : Word} {b : Bool} (hfree : ∀ f ∈ (regDef k.1).fields, Free s k f)
    (ha : fieldsApart (regDef k.1).fields = true) {f : FieldDef} (hf : f ∈ (regDef k.1).fields) (hacc : f.acc = .rw ∨ f.acc = .mw) :
    bits (s.judgeFields k v b).word f.hi f.lo = bits (asked (regDef k.1) (s.held k) v) f.hi f.lo := by
  unfold State.judgeFields
  have key : ∀ (cand : Word) (l : List FieldDef) (r : Fields) (f : FieldDef), (∀ f ∈ l, Free s k f) → fieldsApart l = true →
      (∀ g ∈ l, bits r.word g.hi g.lo = bits (s.held k) g.hi g.lo) →
      ((f ∈ l ∧ (f.acc = .rw ∨ f.acc = .mw)) ∨ ((∀ g ∈ l, apart f g = true) ∧ bits r.word f.hi f.lo = bits cand f.hi f.lo)) →
      bits (l.foldl (s.judgeField k (s.held k) cand b) r).word f.hi f.lo = bits cand f.hi f.lo := by
    intro cand l
    induction l with
    | nil =>
      rintro r f - - - (⟨h, -⟩ | ⟨-, h⟩)
      · simp at h
      · exact h
    | cons g l ih =>
      intro r f hw ha ho hc
      simp only [fieldsApart, Bool.and_eq_true, decide_eq_true_eq, List.all_eq_true] at ha
      obtain ⟨⟨h32, hap⟩, ha⟩ := ha
      have hg := judgeField_free (b := b) (r := r) (old := s.held k) (cand := cand) (hw g List.mem_cons_self)
      have hne : ∀ h : FieldDef, (h.hi < g.lo ∨ g.hi < h.lo) →
          bits (s.judgeField k (s.held k) cand b r g).word h.hi h.lo = bits r.word h.hi h.lo := by
        intro h hd
        rw [hg]
        split
        · split
          · rfl
          · exact bits_setBits_ne _ _ _ _ _ _ h32 hd
        · rfl
      have hap' : ∀ h : FieldDef, apart h g = true → (h.hi < g.lo ∨ g.hi < h.lo) := by
        intro h hh; simpa [apart] using hh
      rw [List.foldl_cons]
      refine ih _ f (fun h hh => hw h (List.mem_cons_of_mem _ hh)) ha (fun h hh => ?_) ?_
      · rw [hne h (hap' h (hap h hh).2)]
        exact ho h (List.mem_cons_of_mem _ hh)
      · rcases hc with ⟨hm, hacc⟩ | ⟨hall, hb⟩
        · rcases List.mem_cons.mp hm with rfl | hm
          · refine Or.inr ⟨fun h hh => (hap h hh).1, ?_⟩
            rw [hg, if_pos hacc]
            split
            · rename_i he
              rw [he]
              exact ho f List.mem_cons_self
            · refine (bits_setBits_self _ _ _ _ h32).trans (Nat.mod_eq_of_lt ?_)
              exact Nat.mod_lt _ (Nat.two_pow_pos _)
          · exact Or.inl ⟨hm, hacc⟩
        · refine Or.inr ⟨fun h hh => hall h (List.mem_cons_of_mem _ hh), ?_⟩
          rw [hne f (hap' f (hall g List.mem_cons_self))]
          exact hb
  exact key _ _ ⟨s.held k, .ok, mget (fun _ => 0) s.w1 k⟩ f hfree ha (fun g _ => rfl) (Or.inl ⟨hf, hacc⟩)

/-- What is asked of a register without a mask is the data. -/
theorem asked_plain {d : RegDef} (old v : Word) (h : isMw d = false) : asked d old v = v := by
  unfold asked
  rw [h]
  rfl

/-- A bit of a masked register is asked for where its mask bit is set, and stays elsewhere (R41). -/
theorem bits_asked_mask {d : RegDef} (old v : Word) (h : isMw d = true) {i : Nat} (hi : i < 16) :
    bits (asked d old v) i i = if v.getLsbD (16 + i) then bits v i i else bits old i i := by
  have hm : (w32 (bits v 31 16)).getLsbD i = v.getLsbD (16 + i) := by
    unfold w32
    rw [BitVec.getLsbD_ofNat, testBit_bits]
    have : i < 32 := by omega
    simp [this, hi]
  have hb : ∀ w : Word, bits w i i = (w.getLsbD i).toNat := by
    intro w
    apply Nat.eq_of_testBit_eq
    intro j
    rw [testBit_bits]
    cases j with
    | zero => cases w.getLsbD i <;> simp
    | succ j =>
      have : ¬ (j + 1 < i + 1 - i) := by omega
      cases w.getLsbD i <;> simp [Nat.testBit_succ]
  unfold asked
  rw [h, if_pos rfl]
  simp only [hb, BitVec.getLsbD_or, BitVec.getLsbD_and, BitVec.getLsbD_not, hm]
  have : i < 32 := by omega
  cases v.getLsbD (16 + i) <;> simp [this]

/-! ### The store -/

theorem held_eq {s : State} {k : Key} (h1 : k.1 ≠ .CU_C_LO) (h2 : k.1 ≠ .CU_C_HI) : s.held k = s.rd k := by
  unfold State.held
  split <;> simp_all

/-- A register holds what is stored in it. -/
theorem rd_store {s : State} {k : Key} {w : Word} (h1 : k.1 ≠ .CU_C_LO) (h2 : k.1 ≠ .CU_C_HI) : (s.store k w).rd k = w := by
  have hh := held_eq (s := s) h1 h2
  unfold State.store
  split
  · split
    · rename_i h; rw [h, hh]
    · simp
  · split
    · exact rd_wr_self ..
    · split
      · rename_i h; exact h.1.symm
      · exact rd_wr_self ..

/-- A store of one register leaves the others. -/
theorem rd_store_ne {s : State} {j k : Key} {w : Word} (h : j ≠ k) : (s.store k w).rd j = s.rd j := by
  unfold State.store
  split
  · split
    · rfl
    · exact rd_wr_ne _ _ h
  · split
    · exact rd_wr_ne _ _ h
    · split
      · rfl
      · exact rd_wr_ne _ _ h

/-- Storing what a register holds, where no field waits, changes nothing. -/
theorem store_same {s : State} {k : Key} (hw : waits (regDef k.1) = false) : s.store k (s.held k) = s := by
  unfold State.store
  rw [hw]
  simp

end Sys2Proof.Machine
end

