-- ==== Sys2Proof/Laws/Use.lean ====
section
/-! SUPPORT. How the laws of what an operation touches are used, and how a completed command is shown. -/

namespace Sys2Proof.Machine

variable {A : List Area} {R : List Reg} {s t : State}

/-- A field of a register that is not touched keeps its value. -/
theorem Only.field (h : Only A (some R) s t) (f : Fld) (r : Reg) (hr : f.key.1 = r) (hR : R.contains r = false) : t.get f = s.get f := by
  refine h.get f fun hf => ?_
  rw [hr] at hf
  rw [List.contains_iff_mem.mpr hf] at hR
  cases hR

/-- A register that is not touched keeps its value. -/
theorem Only.reg (h : Only A (some R) s t) (k : Key) (r : Reg) (hr : k.1 = r) (hR : R.contains r = false) : t.rd k = s.rd k := by
  refine h.regs R rfl k.1 (fun hf => ?_) k.2
  rw [hr] at hf
  rw [List.contains_iff_mem.mpr hf] at hR
  cases hR

/-- A command whose meaning is a function on states completes with what the function leaves. -/
theorem Does.of {c : Instr} {s : State} {P : State → Prop} {f : State → State} (he : exec c s = done f s) (h : P (f s).finish) :
    Does c s P := ⟨_, he, h⟩

end Sys2Proof.Machine
end

