-- ==== Sys2Proof/Laws/Cue.lean ====
section
/-! SUPPORT. Laws of the cue engines: what the frame of an instruction, its end and a trap leave. -/

namespace Sys2Proof.Machine

/-- A register instruction that runs is its function applied to its word. -/
theorem cueInstr_runs {s : State} {n op level : Nat} {form : Form} {seq : Bool} {legal : Word40 → Bool} {f : Word40 → State → State}
    (h : Runs s n op form level) (hl : legal (s.word n) = true) (hp : seq = true → s.cpc n ≠ 16383) :
    s.cueInstr n op form level seq legal f = f (s.word n) s := by
  have ho := h.op
  have hf := h.form
  have hw : s.imemAt n (s.cpc n) = s.word n := rfl
  have hlv : ¬ s.get (F.CU_IMG_LEVEL n) < level := Nat.not_lt.mpr h.level
  unfold State.cueInstr
  rw [if_neg (by simp [h.run, h.up])]
  simp only [if_neg h.good, hw]
  rw [if_neg (not_not.mpr ho), if_neg (by simp [hlv, hf, hl])]
  rw [if_neg]
  rintro ⟨h1, h2⟩
  exact hp h1 h2

theorem creg_of {s t : State} (h : t.cregs = s.cregs) (n r : Nat) : t.creg n r = s.creg n r := by
  unfold State.creg
  rw [h]

theorem creg_setCreg (s : State) (n rd m r : Nat) (v : Word40) (hr : r < 32) (hd : rd < 32) :
    (s.setCreg n rd v).creg m r = if m = n ∧ r = rd ∧ r ≠ 0 then v else s.creg m r := by
  unfold State.setCreg State.creg
  by_cases h0 : r = 0
  · simp [h0]
  · by_cases h1 : rd = 0
    · have : ¬ (m = n ∧ r = rd ∧ r ≠ 0) := by omega
      simp [h0, h1]
    · simp only [if_neg h0, if_neg h1]
      by_cases h2 : m = n ∧ r = rd
      · obtain ⟨rfl, rfl⟩ := h2
        simp [h0, mget_nput_self]
      · rw [mget_nput_ne _ _ _ (by omega), if_neg (by tauto)]

theorem cue_spend (s : State) (n k m : Nat) :
    (s.spend n k).cue m = if m = n then { s.cue n with cycle := ((s.cue n).cycle + k) % 2 ^ 40 } else s.cue m := by
  unfold State.spend State.updCue
  by_cases h : m = n
  · rw [h, if_pos rfl, cue_setCue]
  · rw [if_neg h, cue_setCue_ne _ _ h]

theorem calm_spend {s : State} {n : Nat} (k : Nat) (h : Calm s n) : Calm (s.spend n k) n := by
  constructor <;> rw [cue_spend, if_pos rfl]
  exacts [h.late, h.kick, h.step]

theorem calm_of {s t : State} {n : Nat} (h : t.cue n = s.cue n) (hc : Calm s n) : Calm t n := by
  constructor <;> rw [h]
  exacts [hc.late, hc.kick, hc.step]

/-- At a boundary with no trap kept and no single step, a running engine goes on. -/
theorem boundary_calm {s : State} {n : Nat} (pc : Nat) (hrun : s.cst n = 1) (hc : Calm s n) : s.boundary n none pc = s := by
  have h1 : s.takePending n = s := by
    unfold State.takePending
    split
    · rfl
    · simp only [hc.late, hc.kick]
  unfold State.boundary
  rw [if_neg (by omega)]
  simp only [h1]
  unfold State.haltDue
  rw [if_neg (by omega), if_neg (by simp [hc.step])]

/-- With no trap kept and no single step, the end of an instruction moves the program counter, spends the cost and counts the
instruction. -/
theorem retire_calm {s : State} {n : Nat} (cost next : Nat) (hrun : s.cst n = 1) (hc : Calm s n) :
    s.retire n cost next =
      ((s.setPc n next).spend n cost).wr (.CU_RETIRED, [n]) (((s.setPc n next).spend n cost).rd (.CU_RETIRED, [n]) + 1) := by
  have h1 : ((s.setPc n next).spend n cost).cst n = 1 := by
    rw [← hrun]
    exact ((only_spend _ n cost).field _ .CU_STAT rfl rfl).trans ((only_setPc s n next).field _ .CU_STAT rfl (by decide +kernel))
  have hs : Reg.CU_STAT ≠ Reg.CU_RETIRED := by decide +kernel
  unfold State.retire
  simp only
  have hcc : ∀ w, Calm (((s.setPc n next).spend n cost).wr (.CU_RETIRED, [n]) w) n := fun w =>
    calm_of (s := (s.setPc n next).spend n cost) rfl (calm_spend cost (calm_of (s := s) rfl hc))
  exact boundary_calm _ ((get_wr_ne _ (F.CU_STAT_STATE n) _ _ fun h => hs (congrArg Prod.fst h)).trans h1) (hcc _)

/-- The end of an instruction leaves the registers and flags; and with no trap kept and no single step, the engine goes on. -/
theorem retire_spec {s : State} {n : Nat} (cost : Nat) {next : Nat} (hrun : s.cst n = 1) (hn : next < 16384) :
    (s.retire n cost next).cregs = s.cregs ∧ (s.retire n cost next).flags n = s.flags n ∧
      (Calm s n → (s.retire n cost next).cpc n = next ∧ (s.retire n cost next).cst n = 1) := by
  have ho := only_retire s n cost next
  refine ⟨ho.same .cregs (by decide), ho.field _ .CU_FLAGS rfl (by decide +kernel), fun hc => ?_⟩
  have hp : Reg.CU_PC ≠ Reg.CU_RETIRED := by decide +kernel
  have hs : Reg.CU_STAT ≠ Reg.CU_RETIRED := by decide +kernel
  rw [retire_calm cost next hrun hc]
  refine ⟨(get_wr_ne _ (F.CU_PC_PC n) _ _ fun h => hp (congrArg Prod.fst h)).trans ?_,
    (get_wr_ne _ (F.CU_STAT_STATE n) _ _ fun h => hs (congrArg Prod.fst h)).trans ?_⟩
  · exact ((only_spend _ n cost).field _ .CU_PC rfl rfl).trans
      ((get_set_self _ (F.CU_PC_PC n) _ (by exact (by decide : 13 < 32))).trans (Nat.mod_eq_of_lt hn))
  · rw [← hrun]
    exact ((only_spend _ n cost).field _ .CU_STAT rfl rfl).trans ((only_setPc s n next).field _ .CU_STAT rfl (by decide +kernel))

theorem mkFlags_lt (z n c v l : Bool) : mkFlags z n c v l < 32 := by
  cases z <;> cases n <;> cases c <;> cases v <;> cases l <;> decide

theorem flags_setFlags (s : State) (n f : Nat) : (s.setFlags n f).flags n = f % 32 := get_set_self _ (F.CU_FLAGS_FLAGS n) _ (by exact (by decide : 4 < 32))

theorem flags_lt (s : State) (n : Nat) : s.flags n < 32 := get_lt s (F.CU_FLAGS_FLAGS n)

theorem iRd_lt (w : Word40) : iRd w < 32 := Nat.mod_lt _ (by decide)

theorem cpc_lt (s : State) (n : Nat) : s.cpc n < 16384 := get_lt s (F.CU_PC_PC n)

/-- A register instruction leaves its result in rd, and goes on at the next word. `u` is the state in which it writes, whose other
registers, flags and program counter are those of `s`. -/
theorem Gives.of_finishOp {s u : State} {n rd : Nat} (v : Word40) (cost : Nat) {f : Nat} (hrun : s.cst n = 1) (hp : s.cpc n ≠ 16383) (hd : rd < 32)
    (h1 : u.cregs = s.cregs) (h2 : u.flags n = f) (h3 : u.cpc n = s.cpc n) (h4 : u.cst n = s.cst n) (h5 : Calm s n → Calm u n) :
    Gives s n rd v f (u.finishOp n rd v cost) := by
  have ho := (only_setCreg u n rd v)
  have hlt := cpc_lt s n
  have hr := retire_spec (s := u.setCreg n rd v) cost (next := u.cpc n + 1)
    ((ho.field (F.CU_STAT_STATE n) .CU_STAT rfl rfl).trans (h4.trans hrun)) (by omega)
  unfold State.finishOp
  refine ⟨fun m r hr' => ?_, hr.2.1.trans ((ho.field (F.CU_FLAGS_FLAGS n) .CU_FLAGS rfl rfl).trans h2), fun hc => ?_⟩
  · rw [creg_of hr.1, creg_setCreg _ _ _ _ _ _ hr' hd, creg_of h1]
  · have hcalm : Calm (u.setCreg n rd v) n := calm_of (by unfold State.setCreg; split <;> rfl) (h5 hc)
    have := hr.2.2 hcalm
    exact ⟨this.1.trans (by rw [h3]), this.2⟩

theorem Gives.finish {s t : State} {n rd f : Nat} {v : Word40} (h : Gives s n rd v f t) : Gives s n rd v f t.finish :=
  by rw [finish_eq]; exact ⟨fun m r hr => (creg_of rfl m r).trans (h.reg m r hr), h.flags, h.next⟩

/-- The instructions that compute. -/
theorem aluOp_computes {c : Instr} {s : State} {n op level : Nat} {form : Form} {legal : Word40 → Bool} {g : Word40 → State → Word40 × Nat}
    (he : exec c s = done (fun s => s.aluOp n op form level legal g) s) {v : Word40} {f : Nat} (hg : g (s.word n) s = (v, f)) (hf : f < 32) :
    Computes c s n op form level legal v f := by
  intro hr hl hp
  refine Does.of he ?_
  have : s.aluOp n op form level legal g = (s.setFlags n f).finishOp n (iRd (s.word n)) v 1 := by
    unfold State.aluOp
    rw [cueInstr_runs hr hl fun _ => hp]
    simp only [hg]
  rw [this]
  have hu := only_setFlags s n f
  have h1 : (s.setFlags n f).cregs = s.cregs := rfl
  have h2 : (s.setFlags n f).flags n = f := (flags_setFlags ..).trans (Nat.mod_eq_of_lt hf)
  have h3 : (s.setFlags n f).cpc n = s.cpc n := hu.field (F.CU_PC_PC n) .CU_PC rfl (by decide +kernel)
  have h4 : (s.setFlags n f).cst n = s.cst n := hu.field (F.CU_STAT_STATE n) .CU_STAT rfl (by decide +kernel)
  have h5 : (s.setFlags n f).cue n = s.cue n := rfl
  exact (Gives.of_finishOp v 1 hr.run hp (iRd_lt _) h1 h2 h3 h4 fun hc => calm_of h5 hc).finish

end Sys2Proof.Machine
end

