-- ==== Sys2Proof/Laws/Mem.lean ====
section
/-! SUPPORT. What a write into local memory leaves at every address (R247). -/

namespace Sys2Proof.Machine

theorem byte_putByte (s t : State) (a : Nat) (b : Byte) (m : List Host.Cell) (x : Nat) :
    State.byte { t with mem := putByte m a b } x = if x = a ∧ x < memSize then b else State.byte { s with mem := m } x := by
  unfold State.byte putByte
  by_cases hx : x < memSize
  · by_cases h : x = a
    · subst h; simp [hx]
    · simp only [hx, h, if_true, false_and, if_false]
      split
      · exact mget_nput_ne _ _ _ h
      · rfl
  · simp [hx]

/-- What the kept bytes of a write leave at an address. -/
theorem byte_putKept (s t : State) (host : Bool) (o : Org) (m : List Host.Cell) (a : Nat) (bs : List Byte) (x : Nat) :
    State.byte { t with mem := putKept s host o m a bs } x =
      if a ≤ x ∧ x < a + bs.length ∧ x < memSize ∧ s.guarded host o x = false then bs.getD (x - a) 0 else State.byte { t with mem := m } x := by
  induction bs generalizing m a with
  | nil => rw [if_neg (by simp; omega)]; rfl
  | cons b bs ih =>
    rw [putKept, ih]
    simp only [List.length_cons]
    by_cases hxa : x = a
    · subst hxa
      rw [if_neg (by omega)]
      by_cases hg : s.guarded host o x = true
      · simp [hg]
      · have hg : s.guarded host o x = false := by simpa using hg
        rw [hg, if_neg (by simp), byte_putByte t t]
        by_cases hx : x < memSize <;> simp [hx]
    · have h1 : State.byte { t with mem := if s.guarded host o a = true then m else putByte m a b } x = State.byte { t with mem := m } x := by
        split
        · rfl
        · rw [byte_putByte t t, if_neg (by simp [hxa])]
      rw [h1]
      by_cases hin : a + 1 ≤ x ∧ x < a + 1 + bs.length ∧ x < memSize ∧ s.guarded host o x = false
      · rw [if_pos hin, if_pos ⟨by omega, by omega, hin.2.2⟩]
        obtain ⟨n, hn⟩ : ∃ n, x - a = n + 1 := ⟨x - a - 1, by omega⟩
        rw [hn, show x - (a + 1) = n by omega]; rfl
      · rw [if_neg hin, if_neg (fun h => hin ⟨by omega, by omega, h.2.2⟩)]

/-- Where no window is guarded, storing every byte is storing the kept ones. -/
theorem putKept_all (s : State) (host : Bool) (o : Org) (m : List Host.Cell) (a : Nat) (bs : List Byte)
    (h : ∀ x, a ≤ x → x < a + bs.length → s.guarded host o x = false) : putKept s host o m a bs = putBytes m a bs := by
  induction bs generalizing m a with
  | nil => rfl
  | cons b bs ih =>
    simp only [List.length_cons] at h
    rw [putKept, putBytes, h a (Nat.le_refl _) (by omega), if_neg (by simp)]
    exact ih _ _ fun x h1 h2 => h x (by omega) (by omega)

/-- Memory reads alike in states with the same memory. -/
theorem byte_mem {s t : State} (h : t.mem = s.mem) (x : Nat) : t.byte x = s.byte x := by unfold State.byte; rw [h]

/-- A write stores its bytes where no window of another owner lies, and changes no other byte. -/
theorem byte_memWrite (s : State) (host : Bool) (o : Org) (a : Nat) (bs : List Byte) (x : Nat) :
    (s.memWrite host o a bs).byte x =
      if a ≤ x ∧ x < a + bs.length ∧ x < memSize ∧ s.guarded host o x = false then bs.getD (x - a) 0 else s.byte x := by
  have hd : ∀ (s : State) h o a n, (State.dirtySlots s h o a n).mem = s.mem := fun s h o a n => (only_dirtySlots s h o a n).same .mem (by decide)
  have hdr : ∀ (s : State) n o a, (State.dropped s n o a).mem = s.mem := fun s n o a => (only_dropped s n o a).same .mem (by decide)
  unfold State.memWrite
  simp only []
  split
  · rename_i hh
    have hk : putKept s host o s.mem a bs = putBytes s.mem a bs := by
      refine putKept_all s host o s.mem a bs fun x h1 h2 => ?_
      unfold State.guarded
      simp only [List.any_eq_false, List.mem_range]
      intro n hn hc
      have : n ∈ ([] : List Nat) := by
        rw [← hh]
        simp only [List.mem_filter, List.mem_range]
        refine ⟨hn, ?_⟩
        simp only [Bool.and_eq_true, decide_eq_true_eq] at hc
        simp only [Bool.and_eq_true]
        refine ⟨?_, hc.2⟩
        unfold overlap
        simp
        omega
      simp at this
    rw [byte_mem (hd ..), ← hk]
    exact byte_putKept s { s with bad := clearUnits s.bad a bs.length } host o s.mem a bs x
  · have hf : ∀ (l : List Nat) (f : State → Nat → Nat) (y : State),
        (l.foldl (fun s' n => State.dropped s' n o (f s' n)) y).mem = y.mem := by
      intro l f
      induction l with
      | nil => exact fun y => rfl
      | cons n l ih => intro y; rw [List.foldl_cons, ih, hdr]
    rw [byte_mem ((hf _ (fun s' n => max a (s'.window n).1) _).trans (hd ..))]
    exact byte_putKept s { s with bad := _ } host o s.mem a bs x

end Sys2Proof.Machine
end

