-- ==== Sys2Proof/WellFormed.lean ====
section
/-! DEFINITION. Well-formed commands: operands that the interface they come over can carry. -/

namespace Sys2Proof

/-- A BAR0 offset of a 32-bit register: inside the 64 MiB of BAR0, on a word boundary (R33, R36). -/
def barWord (a : Nat) : Bool := decide (a < 2 ^ 26) && a % 4 == 0

/-- Bytes inside BAR0, or inside the 16 KiB of BAR4, which these commands address behind it (R32). -/
def barSpan (a len : Nat) : Bool :=
  decide (1 ≤ len) && (decide (a + len ≤ 2 ^ 26) || (decide (2 ^ 26 ≤ a) && decide (a + len ≤ 2 ^ 26 + 2 ^ 14)))

/-- A unit of the 32 GiB of local memory (R493). -/
def Upset.wf : Upset → Bool
  | .hbm i => decide (i < 2 ^ 30)
  | .imem _ _ _ => true
  | .dmem _ _ _ => true
  | .scratch _ _ => true
  | .hbmCorr _ n => decide (n < 2 ^ 32)
  | .cellarCorr => true
  | .lane _ n => decide (n < 2 ^ 32)
  | .fec _ a b => decide (a < 2 ^ 32) && decide (b < 2 ^ 32)

/-- An origin that R5 can write: a 16-bit detail. -/
def Origin.wf : Origin → Bool
  | .cu _ pc => decide (pc < 65536)
  | .faultReaction src => decide (src < 512)
  | .powerSteward step => decide (step ≤ 4)
  | .hardware => true
  | .pf _ => true
  | .smbus => true
  | .jtag => true
  | .remote _ => true

/-- A time: seconds of 48 bits, nanoseconds below 10^9, a fraction of 32 bits (R5, R99). -/
def Stamp.wf (t : Stamp) : Bool := decide (t.sec < 2 ^ 48) && decide (t.ns < 1000000000) && decide (t.frac < 2 ^ 32)

/-- The times of an exchange, and what 64-bit correction fields hold. -/
def PtpSample.wf (x : PtpSample) : Bool :=
  x.t1.wf && x.t2.wf && x.t3.wf && x.t4.wf && decide (x.sync.natAbs < 2 ^ 47) && decide (x.delayResp.natAbs < 2 ^ 47)

/-- A measurement: a 40-bit increment and a 16-bit program counter; one of PTP has its exchange. -/
def ServoMeasure.wf (m : ServoMeasure) : Bool :=
  decide (m.pc < 65536) && decide (m.incReq < 2 ^ 40) && m.ptp.all PtpSample.wf && (m.src != .ptp || m.ptp.isSome)

/-- A time code label is a time of day. -/
def LtcWord.wf (w : LtcWord) : Bool :=
  decide (w.hours < 24) && decide (w.minutes < 60) && decide (w.seconds < 60) && decide (w.frames < 30) && w.arrival.wf

/-- Ancillary words are 10-bit words. -/
def AncPacket.wf (p : AncPacket) : Bool := p.words.all fun w => decide (w < 1024)

/-- A line of an SDI input is numbered from 1. -/
def SdiLine.wf (l : SdiLine) : Bool := decide (1 ≤ l.number) && l.anc.all AncPacket.wf

/-- A frame for a transmit queue has a 16-bit tag. -/
def TxFrame.wf (f : TxFrame) : Bool := decide (f.tag < 65536) && f.launch.all Stamp.wf

/-- The eight port powers of a second. -/
def SpSecond.wf (m : SpSecond) : Bool := m.means.length == 8

def SpCaps.wf (c : SpCaps) : Bool := decide (c.versions < 256)

/-- Faults name layers, items and columns that exist. -/
def LineFaults.wf (w : LineFaults) : Bool :=
  w.underrun.all (fun m => decide (m.1 < 33) && decide (m.2.2 ≤ 8192)) && w.hbm.all (fun m => decide (m < 33)) && w.pixels.all (fun p => decide (p.1 < 32)) &&
    w.coefs.all (fun c => decide (c.2.1 < 8)) && w.items.all fun i => decide (i < 128)

def RailReading.wf (p : RailReading) : Bool := decide (p.status < 65536)

/-- The header of a Glachapol message (R408). -/
def GlHead.wf (h : GlHead) : Bool := decide (h.index < 4096) && decide (h.seq < 2 ^ 32) && decide (h.domain < 65536)

def GlRoster.wf (m : GlRoster) : Bool := m.head.wf && m.members.all fun i => decide (i < 4096)

def GlJoin.wf (m : GlJoin) : Bool := m.head.wf && decide (m.versions < 256) && decide (m.prio < 256)

def GlAdmit.wf (m : GlAdmit) : Bool := m.head.wf && decide (m.result < 256)

def GlHeartbeat.wf (m : GlHeartbeat) : Bool := m.head.wf && decide (m.state < 256) && decide (m.mode < 256)

def GlClaim.wf (m : GlClaim) : Bool := m.head.wf && decide (m.prio < 256)

def GlRequest.wf (m : GlRequest) : Bool := m.head.wf && decide (m.group < 256) && decide (m.t < 2 ^ 40) && decide (m.tag < 65536)

def GlPrepare.wf (m : GlPrepare) : Bool :=
  m.head.wf && decide (m.cid < 2 ^ 32) && decide (m.group < 256) && decide (m.t < 2 ^ 40) && decide (m.p < 2 ^ 40) && decide (m.requester < 4096)

def GlAck.wf (m : GlAck) : Bool := m.head.wf && decide (m.cid < 2 ^ 32)

def GlNak.wf (m : GlNak) : Bool := m.head.wf && decide (m.cid < 2 ^ 32) && decide (m.reason < 256)

def GlCommit.wf (m : GlCommit) : Bool := m.head.wf && decide (m.cid < 2 ^ 32) && decide (m.t < 2 ^ 40)

def GlAbort.wf (m : GlAbort) : Bool := m.head.wf && decide (m.cid < 2 ^ 32) && decide (m.reason < 256) && decide (m.member < 4096)

def GlReport.wf (m : GlReport) : Bool := m.head.wf && decide (m.cid < 2 ^ 32) && decide (m.outcome < 256)

/-- A WRITE carries up to 8 pairs (R408). -/
def GlWrite.wf (m : GlWrite) : Bool := m.head.wf && decide (m.pairs.length ≤ 8)

/-- A well-formed command. -/
def Instr.wf : Instr → Bool
  | .registerWrite o addr _ _ more => o.wf && addr % 4 == 0 && barSpan addr (4 * more.length + 4)
  | .readClear o addr len => o.wf && barSpan addr len
  | .statusSeqClear o addr _ => o.wf && barWord addr
  | .statusCorRead o addr => o.wf && barWord addr
  | .registerReadDenied o addr => o.wf && barWord addr
  | .slowWriteArrive _ => true
  | .slowCopyRefresh _ _ => true
  | .snapRequest o _ => o.wf
  | .snapshotCapture => true
  | .snapshotWriteOutDone => true
  | .permWrite o _ _ _ => o.wf
  | .bar2Write _ addr data => decide (addr + data.length ≤ 2 ^ 35)
  | .bar2Read _ addr len => decide (addr + len ≤ 2 ^ 35)
  | .pcieLinkDown => true
  | .flr _ => true
  | .operate o _ => o.wf
  | .shutdown o => o.wf
  | .shutdownRailsOff => true
  | .warmReset o _ => o.wf
  | .maintenanceReset o _ => o.wf
  | .serviceReset o _ => o.wf
  | .resetBegin => true
  | .coldReset => true
  | .pinReset => true
  | .resetRelease _ _ => true
  | .railsPowerGood => true
  | .cellarHeaderCheck _ _ _ => true
  | .imageSelection _ _ => true
  | .serviceReady => true
  | .bootReadyTimeout => true
  | .svcWdog _ => true
  | .bootComplete => true
  | .headRestore => true
  | .openSession _ => true
  | .closeSession _ => true
  | .getInfo _ => true
  | .imgBegin _ => true
  | .imgData _ => true
  | .imgEnd _ _ => true
  | .timeStatus _ => true
  | .timePtpCfg _ _ => true
  | .timePtpPort _ _ _ _ _ => true
  | .timeLeap _ _ _ _ _ => true
  | .timeServo _ _ => true
  | .glStatus _ => true
  | .glCommit _ _ _ _ => true
  | .glRoster _ _ => true
  | .clRead _ _ _ => true
  | .cancel o _ => o.wf
  | .mailboxComplete _ => true
  | .timeTick _ u => u.all Upset.wf
  | .incTransfer o _ => o.wf
  | .timeLatchRead o => o.wf
  | .servoMeasure m => m.wf
  | .sourceLost _ => true
  | .sourceRequalified _ => true
  | .tbRestep o _ => o.wf
  | .restepStep _ => true
  | .holdLimit => true
  | .leapApply => true
  | .tsqPop o _ => o.wf
  | .timeRecordWrite => true
  | .pllUnlock => true
  | .pllLock => true
  | .refInLock _ _ _ => true
  | .refInLoss _ => true
  | .refPhaseMeasure _ at_ _ => at_.wf
  | .ltcWord _ w => w.wf
  | .src3InputChange o _ => o.wf
  | .outputOffsetApply _ => true
  | .ppsEdge t _ => t.wf
  | .todSentenceRx _ => true
  | .todSentenceTx => true
  | .outLoad _ => true
  | .refSave o => o.wf
  | .headStart o _ _ => o.wf
  | .headStop o _ => o.wf
  | .headFirstLine _ => true
  | .headStopped _ => true
  | .headLineStart _ w => w.wf
  | .hostReadCompletion _ _ _ _ _ => true
  | .commitDeadline _ => true
  | .frameBoundary _ => true
  | .sampleEvent _ _ => true
  | .rateFifoExcursion _ _ => true
  | .dpLinkFail _ _ => true
  | .dpRetrain _ _ => true
  | .sdiSerializerFail _ => true
  | .ceCommit o _ _ => o.wf
  | .ceGroupCommit o _ _ => o.wf
  | .cePrepCommit o _ _ => o.wf
  | .commitCheckDone _ => true
  | .ceRelease o _ _ => o.wf
  | .ceDiscard o _ _ => o.wf
  | .lastGoodHandover _ => true
  | .plOwnerWrite o _ _ _ => o.wf
  | .plCommit o _ _ _ => o.wf
  | .plCheckDone _ _ => true
  | .plScanDone _ _ => true
  | .ckStart o _ => o.wf
  | .ckAbort o _ _ => o.wf
  | .ckScanDone _ => true
  | .ckRunRead o _ _ => o.wf
  | .cuIll _ => true
  | .cuNop _ => true
  | .cuHalt _ => true
  | .cuTrap _ => true
  | .cuAdd _ => true
  | .cuSub _ => true
  | .cuAnd _ => true
  | .cuOr _ => true
  | .cuXor _ => true
  | .cuShl _ => true
  | .cuShr _ => true
  | .cuSar _ => true
  | .cuMul _ => true
  | .cuMulhu _ => true
  | .cuSel _ => true
  | .cuAddi _ => true
  | .cuAndi _ => true
  | .cuOri _ => true
  | .cuXori _ => true
  | .cuShli _ => true
  | .cuShri _ => true
  | .cuSari _ => true
  | .cuLi _ => true
  | .cuLui _ => true
  | .cuSubi _ => true
  | .cuBfx _ => true
  | .cuBfi _ => true
  | .cuBcc _ => true
  | .cuCall _ => true
  | .cuJalr _ => true
  | .cuLd _ => true
  | .cuSt _ => true
  | .cuLdx _ => true
  | .cuStx _ => true
  | .cuAmoadd _ => true
  | .cuAmoswp _ => true
  | .cuCas _ => true
  | .cuRdr _ => true
  | .cuWrr _ => true
  | .cuKick _ => true
  | .kickJudged _ => true
  | .cuWrf _ => true
  | .cuRds _ => true
  | .cuWrs _ => true
  | .cuRett _ => true
  | .cuLyr _ => true
  | .cuLyw _ => true
  | .cuCommit _ => true
  | .cuRelease _ => true
  | .cuWaite _ => true
  | .cuWaitl _ => true
  | .cuWaitt _ => true
  | .cuWaitp _ => true
  | .waitComplete _ => true
  | .cuStart o _ => o.wf
  | .cuResume o _ => o.wf
  | .cuStep o _ _ => o.wf
  | .cuHaltRequest o _ => o.wf
  | .cuDoorbell o _ _ => o.wf
  | .paramWrite o _ _ _ => o.wf
  | .dmLoRead o _ => o.wf
  | .dmHiRead o _ => o.wf
  | .dmLoWrite o _ _ => o.wf
  | .dmHiWrite o _ _ => o.wf
  | .scrDataRead o _ => o.wf
  | .scrDataWrite o _ _ => o.wf
  | .imgLevelWrite o _ _ => o.wf
  | .zoneSave o => o.wf
  | .glyDataWrite o _ => o.wf
  | .rxFrame _ _ _ stamp => stamp.wf
  | .moduleRemoved _ => true
  | .moduleInserted _ => true
  | .linkUp _ => true
  | .linkDown _ => true
  | .i2cStart o _ _ => o.wf
  | .i2cDone _ _ _ => true
  | .flowEnable o _ _ => o.wf
  | .flowDisable o _ _ => o.wf
  | .pathTimeout _ => true
  | .sdiInLine _ l => l.wf
  | .sdiInLockLoss _ _ => true
  | .queueEnable o _ _ => o.wf
  | .queueDisable o _ _ => o.wf
  | .txFrameEnqueue _ fr => fr.wf
  | .txFrameStart _ => true
  | .txFrameDone _ => true
  | .launchPresent _ => true
  | .lateDrop _ => true
  | .gclEnable o _ _ => o.wf
  | .gclDisable o _ _ => o.wf
  | .gclChange o _ _ => o.wf
  | .gclSwap _ => true
  | .gateEntry _ => true
  | .obsPeriod _ => true
  | .adEnable o _ _ => o.wf
  | .adDisable o _ _ => o.wf
  | .adSwIdxWrite o _ _ => o.wf
  | .adBurstDone _ _ => true
  | .adStart o _ => o.wf
  | .adAbort o _ => o.wf
  | .adBusError _ => true
  | .hqEnable o _ _ => o.wf
  | .hqDisable o _ _ => o.wf
  | .hqDoorbell o _ _ => o.wf
  | .hqStart o _ => o.wf
  | .hqAbort o _ => o.wf
  | .hqNop _ d => d.length == 8
  | .hqH2lCopy _ d _ => d.length == 8
  | .hqL2hCopy _ d => d.length == 8
  | .hqRegWrite _ d => d.length == 8
  | .hqTxFrame _ d _ => d.length == 8
  | .hqRxBuffer _ d => d.length == 8
  | .hqDescComplete _ => true
  | .hqBusError _ => true
  | .spPowerOn o _ => o.wf
  | .spPowerOff o _ => o.wf
  | .spDataEnable o _ => o.wf
  | .spMeasureDone _ _ => true
  | .spEnergiseDone _ => true
  | .spTripFast _ _ => true
  | .spI2tSample _ _ _ => true
  | .spSecondCheck m => m.wf
  | .spSupplyLow _ => true
  | .spRetry _ => true
  | .spTripsReset _ => true
  | .spGateFault _ _ => true
  | .loopMaxWrite o _ => o.wf
  | .spSave o => o.wf
  | .spHello _ => true
  | .spCaps _ c => c.wf
  | .spStatus _ _ => true
  | .spSync _ => true
  | .spLatch _ => true
  | .spTime _ => true
  | .spSeg _ => true
  | .spBitmap _ => true
  | .glEnable o => o.wf
  | .glDisable o => o.wf
  | .glRosterRx m => m.wf
  | .glRosterSend => true
  | .glJoin m => m.wf
  | .glAdmit m => m.wf
  | .glHeartbeat m => m.wf
  | .glHeartbeatSend => true
  | .glClaim m => m.wf
  | .glClaimSend => true
  | .glClaimElection => true
  | .glRequest m => m.wf
  | .glPrepare m => m.wf
  | .glAckSend => true
  | .glAck m => m.wf
  | .glNak m => m.wf
  | .glCommitResend => true
  | .glAckDeadline => true
  | .glCommitMessage m => m.wf
  | .glAbort m => m.wf
  | .glMemberCommitTimeout => true
  | .glReport m => m.wf
  | .glWrite m => m.wf
  | .glMemberTimeout _ => true
  | .glRosterTimeout => true
  | .glSeekTimeout => true
  | .faultClear o _ => o.wf
  | .faultClearAll o => o.wf
  | .faultRearm o => o.wf
  | .windowClose _ unit => decide (unit < 24)
  | .mirrorEntry => true
  | .entryRead o _ => o.wf
  | .seqLatchRead o => o.wf
  | .cellarRecordDone _ => true
  | .lgErase o _ => o.wf
  | .supplyLossWarning => true
  | .holdupSeal => true
  | .evaluationPeriod => true
  | .railPoll _ p => p.wf
  | .thermalSample t => t.length == 16
  | .domainWake d => decide (d < 113)
  | .hbmFail _ => true
  | .fabricUncorr => true
  | .ltStart o _ => o.wf
  | .ltStop o _ => o.wf
  | .eyeGo o _ => o.wf
  | .ltGroupStart o _ => o.wf
  | .ltGroupStop o _ => o.wf
  | .ltDone _ _ => true
  | .eyeScanDone _ _ => true
  | .bitsLatchRead o _ => o.wf
  | .jtagUpdate _ => true
  | .supplyWarnRelease => true
  | .pcieLinkUp => true
  | .sdiInLockAcquired _ => true
  | .sdiGroupRelock _ => true
  | .moduleIntChange _ _ => true
  | .checkerSyncAcquired _ => true
  | .checkerSyncLost _ => true
  | .ltcWordsMissing _ _ => true
  | .ppsInputLoss => true
  | .tenMhzQualifyChange _ => true
  | .outLoadEnd _ => true

end Sys2Proof
end

