-- ==== Sys2Proof/Tests/Slice0.lean ====
section
/-! SUPPORT. Tests: an ill-formed term for every check of well-formedness, a few single steps whose results are worked out from the spec, and for
every clause of every statement with premises a state and operands that meet all of them together. -/

set_option Elab.async false
set_option linter.all false
set_option maxRecDepth 100000

namespace Sys2Proof.Tests

open Sys2Proof.Machine

/-- An origin reaches a register with every word, where the owner rule asks nothing of it. -/
theorem reaches {s : State} {o : Origin} {k : Key} (w : Word) (h : s.served = true) (r : s.rights o ((keyHdr k).headD 0) = 3)
    (a : ∀ v, s.ownerRule o k v ≠ .viol) : Reaches s o k w := ⟨h, r, a w⟩

/-- A session of the highest version has every command, and one of no version has none. -/
theorem newest {s : State} {f c : Nat} (h : s.get (sessionFld f) = 0x304) : s.mbxKnown f c = true := by
  have x : ∀ k : Fin 8, plesVersions.getD k.val 0 ≤ 0x304 := by decide
  simpa [State.mbxKnown, h] using x (Config.plesSince c)

theorem oldest {s : State} {f c : Nat} (h : s.get (sessionFld f) = 1) : s.mbxKnown f c = false := by
  have x : ∀ k : Fin 8, ¬ plesVersions.getD k.val 0 ≤ 1 := by decide
  simpa [State.mbxKnown, h] using x (Config.plesSince c)

/-- A ring that is not enabled is enabled by any function. -/
theorem ring_free {s : State} {o : Origin} {r : Nat} (e : s.flag (F.HQ_CTRL_EN r) = false) (p : isPf (orgOf o) = true) :
    ∀ v, s.ownerRule o (.HQ_CTRL, [r]) v ≠ .viol := by
  have c : svcEngine (.HQ_CTRL, [r]) = false := by
    have x : svcEngine (.HQ_CTRL, [r]) = (decide (16 ≤ 0) && decide (0 < 20)) := rfl
    rw [x]; rfl
  intro v; simp [State.ownerRule, c, isServo, isPl, e, p]

/-- Where the source list holds one entry, the other sources have nothing. -/
theorem only_pps {s : State} {x : SrcSt} (e : s.tb.srcs = [(2, x)]) :
    ∀ d, d ≠ 2 → (s.src d).usable = false := by
  intro d h; simp only [State.src, mget, e]; rw [if_neg fun a => h a.symm]

theorem all_below {l h : Nat} {Q : Nat → Prop} (n : Nat) (b : h ≤ n) (a : ∀ i, i < n → l ≤ i → Q i) : ∀ i, l ≤ i ∧ i < h → Q i :=
  fun i e => a i (Nat.lt_of_lt_of_le e.2 b) e.1

theorem all_none {α : Type} {P : α → Prop} {x : Option α} (h : x = none) : ∀ a, x = some a → P a := by simp [h]

theorem all_some {α : Type} {P : α → Prop} {x : Option α} {b : α} (h : x = some b) (p : P b) : ∀ a, x = some a → P a := by
  intro a e; rw [h] at e; cases e; exact p

/-- A device that has booted: cold reset, then all six boot steps, at tick 100000. -/
def up : State := { State.reset with tick := 100000, tb := { State.reset.tb with sec := 1000, ns := 500, counting := true }, dv := { State.reset.dv with step := 6, released := true, resetLow := false, pcieUp := true, booting := false, railsOff := false }, sl := { State.reset.sl with holding := false } }

/-- Function 0 of the host. -/
def pf0 : Origin := .pf 0

/-- The state after a command. -/
def nx (c : Instr) (s : State) : State := match exec c s with | .next t => t | _ => s

/-! ### Well-formedness: an ill-formed term for each check, refused -/

theorem test_wf_word_address : (Instr.statusCorRead (.pf 0) 2).wf = false := by decide
theorem test_wf_address_in_bar : (Instr.statusSeqClear (.pf 0) (2 ^ 26) 0).wf = false := by decide
theorem test_wf_write_aligned : (Instr.registerWrite (.pf 0) 6 0 15 []).wf = false := by decide
theorem test_wf_span_low_end : (Instr.readClear (.pf 0) 0 0).wf = false := by decide
theorem test_wf_span_over_bar0 : (Instr.readClear (.pf 0) (2 ^ 26 - 4) 8).wf = false := by decide
theorem test_wf_span_over_bar4 : (Instr.readClear (.pf 0) (2 ^ 26 + 2 ^ 14 - 4) 8).wf = false := by decide
theorem test_wf_origin_pc : (Instr.zoneSave (.cu 3 65536)).wf = false := by decide
theorem test_wf_origin_source : (Instr.zoneSave (.faultReaction 512)).wf = false := by decide
theorem test_wf_origin_step : (Instr.zoneSave (.powerSteward 5)).wf = false := by decide
theorem test_wf_upset_unit : (Instr.timeTick 1 [.hbm (2 ^ 30)]).wf = false := by decide
theorem test_wf_upset_hbm_count : (Instr.timeTick 1 [.hbmCorr 0 (2 ^ 32)]).wf = false := by decide
theorem test_wf_upset_lane_count : (Instr.timeTick 1 [.lane 3 (2 ^ 32)]).wf = false := by decide
theorem test_wf_upset_fec_corrected : (Instr.timeTick 1 [.fec 1 (2 ^ 32) 0]).wf = false := by decide
theorem test_wf_upset_fec_uncorrectable : (Instr.timeTick 1 [.fec 1 0 (2 ^ 32)]).wf = false := by decide
theorem test_wf_stamp_seconds : (Instr.ppsEdge ⟨2 ^ 48, 0, 0⟩ 1).wf = false := by decide
theorem test_wf_stamp_nanoseconds : (Instr.ppsEdge ⟨0, 1000000000, 0⟩ 1).wf = false := by decide
theorem test_wf_stamp_fraction : (Instr.ppsEdge ⟨0, 0, 2 ^ 32⟩ 1).wf = false := by decide
theorem test_wf_bar2_write : (Instr.bar2Write 0 (2 ^ 35) [1]).wf = false := by decide
theorem test_wf_bar2_read : (Instr.bar2Read 0 (2 ^ 35) 1).wf = false := by decide

def exchange : PtpSample := ⟨0, {}, {}, {}, {}, 0, 0⟩

theorem test_wf_ptp_time : ({ exchange with t3 := ⟨0, 1000000000, 0⟩ } : PtpSample).wf = false := by decide
theorem test_wf_ptp_sync : ({ exchange with sync := 2 ^ 47 } : PtpSample).wf = false := by decide
theorem test_wf_ptp_delay : ({ exchange with delayResp := -(2 ^ 47) } : PtpSample).wf = false := by decide
theorem test_wf_measure_pc : (Instr.servoMeasure ⟨65536, .pps, none, 0, 0, false, none⟩).wf = false := by decide
theorem test_wf_measure_inc : (Instr.servoMeasure ⟨0, .pps, none, 0, 2 ^ 40, false, none⟩).wf = false := by decide
theorem test_wf_measure_ptp : (Instr.servoMeasure ⟨0, .ptp, none, 0, 0, false, none⟩).wf = false := by decide
theorem test_wf_ltc_hours : (LtcWord.wf ⟨24, 0, 0, 0, false, 0, false, {}⟩) = false := by decide
theorem test_wf_ltc_minutes : (LtcWord.wf ⟨0, 60, 0, 0, false, 0, false, {}⟩) = false := by decide
theorem test_wf_ltc_seconds : (LtcWord.wf ⟨0, 0, 60, 0, false, 0, false, {}⟩) = false := by decide
theorem test_wf_ltc_frames : (LtcWord.wf ⟨0, 0, 0, 30, false, 0, false, {}⟩) = false := by decide
theorem test_wf_sdi_line_number : (Instr.sdiInLine 0 ⟨0, [], [], 0, true⟩).wf = false := by decide
theorem test_wf_anc_word : (Instr.sdiInLine 0 ⟨1, [], [⟨true, [1024], true⟩], 0, true⟩).wf = false := by decide
theorem test_wf_tx_tag : (TxFrame.wf ⟨[], 65536, none⟩) = false := by decide
theorem test_wf_tx_launch : (TxFrame.wf ⟨[], 0, some ⟨0, 1000000000, 0⟩⟩) = false := by decide
theorem test_wf_sp_means : (Instr.spSecondCheck ⟨[1, 2, 3], 0⟩).wf = false := by decide
theorem test_wf_sp_versions : (SpCaps.wf ⟨true, 256, 0, 0⟩) = false := by decide
theorem test_wf_line_layer : (LineFaults.wf ⟨[(33, 0, 0)], [], [], [], 0, [], 0⟩) = false := by decide
theorem test_wf_line_column : (LineFaults.wf ⟨[(0, 0, 8193)], [], [], [], 0, [], 0⟩) = false := by decide
theorem test_wf_line_hbm : (LineFaults.wf ⟨[], [33], [], [], 0, [], 0⟩) = false := by decide
theorem test_wf_line_pixel_layer : (LineFaults.wf ⟨[], [], [(32, 0)], [], 0, [], 0⟩) = false := by decide
theorem test_wf_line_coefficient : (LineFaults.wf ⟨[], [], [], [(true, 8, 0)], 0, [], 0⟩) = false := by decide
theorem test_wf_line_item : (LineFaults.wf ⟨[], [], [], [], 0, [128], 0⟩) = false := by decide
theorem test_wf_rail_status : (RailReading.wf ⟨0, 0, 65536, 0⟩) = false := by decide
theorem test_wf_rx_stamp : (Instr.rxFrame 0 [] true ⟨0, 1000000000, 0⟩).wf = false := by decide
theorem test_wf_ref_stamp : (Instr.refPhaseMeasure 0 ⟨0, 1000000000, 0⟩ 0).wf = false := by decide
theorem test_wf_descriptor : (Instr.hqNop 0 []).wf = false := by decide
theorem test_wf_descriptor_h2l : (Instr.hqH2lCopy 0 [] []).wf = false := by decide
theorem test_wf_descriptor_l2h : (Instr.hqL2hCopy 0 []).wf = false := by decide
theorem test_wf_descriptor_register : (Instr.hqRegWrite 0 []).wf = false := by decide
theorem test_wf_descriptor_frame : (Instr.hqTxFrame 0 [] []).wf = false := by decide
theorem test_wf_descriptor_buffer : (Instr.hqRxBuffer 0 []).wf = false := by decide
theorem test_wf_window_unit : (Instr.windowClose .none 24).wf = false := by decide
theorem test_wf_thermal_sensors : (Instr.thermalSample [1]).wf = false := by decide
theorem test_wf_wake_domain : (Instr.domainWake 113).wf = false := by decide

/-- The head of a message with nothing in it. -/
def head0 : GlHead := ⟨0, true, 0, 0, 0, 0⟩

theorem test_wf_gl_index : (Instr.glClaim ⟨{ head0 with index := 4096 }, 0⟩).wf = false := by decide
theorem test_wf_gl_seq : (Instr.glClaim ⟨{ head0 with seq := 2 ^ 32 }, 0⟩).wf = false := by decide
theorem test_wf_gl_domain : (Instr.glClaim ⟨{ head0 with domain := 65536 }, 0⟩).wf = false := by decide
theorem test_wf_gl_claim : (Instr.glClaim ⟨head0, 256⟩).wf = false := by decide
theorem test_wf_gl_roster : (Instr.glRosterRx ⟨head0, 0, 0, 0, [4096]⟩).wf = false := by decide
theorem test_wf_gl_join_versions : (Instr.glJoin ⟨head0, 256, 0, true⟩).wf = false := by decide
theorem test_wf_gl_join_prio : (Instr.glJoin ⟨head0, 0, 256, true⟩).wf = false := by decide
theorem test_wf_gl_admit : (Instr.glAdmit ⟨head0, 256⟩).wf = false := by decide
theorem test_wf_gl_heartbeat_state : (Instr.glHeartbeat ⟨head0, 256, 0⟩).wf = false := by decide
theorem test_wf_gl_heartbeat_mode : (Instr.glHeartbeat ⟨head0, 0, 256⟩).wf = false := by decide
theorem test_wf_gl_request_group : (Instr.glRequest ⟨head0, 256, 0, 0, 0⟩).wf = false := by decide
theorem test_wf_gl_request_time : (Instr.glRequest ⟨head0, 0, 2 ^ 40, 0, 0⟩).wf = false := by decide
theorem test_wf_gl_request_tag : (Instr.glRequest ⟨head0, 0, 0, 0, 65536⟩).wf = false := by decide
theorem test_wf_gl_prepare_cid : (Instr.glPrepare ⟨head0, 2 ^ 32, 0, 0, 0, 0, 0, 0⟩).wf = false := by decide
theorem test_wf_gl_prepare_group : (Instr.glPrepare ⟨head0, 0, 256, 0, 0, 0, 0, 0⟩).wf = false := by decide
theorem test_wf_gl_prepare_time : (Instr.glPrepare ⟨head0, 0, 0, 0, 2 ^ 40, 0, 0, 0⟩).wf = false := by decide
theorem test_wf_gl_prepare_period : (Instr.glPrepare ⟨head0, 0, 0, 0, 0, 2 ^ 40, 0, 0⟩).wf = false := by decide
theorem test_wf_gl_prepare_requester : (Instr.glPrepare ⟨head0, 0, 0, 0, 0, 0, 4096, 0⟩).wf = false := by decide
theorem test_wf_gl_ack : (Instr.glAck ⟨head0, 2 ^ 32, false⟩).wf = false := by decide
theorem test_wf_gl_nak_cid : (Instr.glNak ⟨head0, 2 ^ 32, 0⟩).wf = false := by decide
theorem test_wf_gl_nak_reason : (Instr.glNak ⟨head0, 0, 256⟩).wf = false := by decide
theorem test_wf_gl_commit_cid : (Instr.glCommitMessage ⟨head0, 2 ^ 32, 0⟩).wf = false := by decide
theorem test_wf_gl_commit_time : (Instr.glCommitMessage ⟨head0, 0, 2 ^ 40⟩).wf = false := by decide
theorem test_wf_gl_abort_cid : (Instr.glAbort ⟨head0, 2 ^ 32, 0, 0⟩).wf = false := by decide
theorem test_wf_gl_abort_reason : (Instr.glAbort ⟨head0, 0, 256, 0⟩).wf = false := by decide
theorem test_wf_gl_abort_member : (Instr.glAbort ⟨head0, 0, 0, 4096⟩).wf = false := by decide
theorem test_wf_gl_report_cid : (Instr.glReport ⟨head0, 2 ^ 32, 0⟩).wf = false := by decide
theorem test_wf_gl_report_outcome : (Instr.glReport ⟨head0, 0, 256⟩).wf = false := by decide
theorem test_wf_gl_write : (Instr.glWrite ⟨head0, List.replicate 9 (0, 0)⟩).wf = false := by decide

/-! ### Steps on small states: the results are worked out from the spec's tables -/

/-- Engine 0 runs one instruction word: opcode, r3 as result, r1 and r2 as operands, imm19. -/
def one (op imm a b : Nat) : State :=
  ((((up.setCreg 0 1 (w40 a)).setCreg 0 2 (w40 b)).setImem 0 0 (w40 (op * 2 ^ 34 + 3 * 2 ^ 29 + 1 * 2 ^ 24 + 2 * 2 ^ 19 + imm))).set
    (F.CU_STAT_STATE 0) 1).set (F.CU_IMG_LEVEL 0) 0x102

/-- ADD wraps at 40 bits and the PC moves on (R268). -/
theorem test_add_wraps : ((nx (.cuAdd 0) (one 0x04 0 (2 ^ 40 - 1) 6)).creg 0 3).toNat = 5 ∧ (nx (.cuAdd 0) (one 0x04 0 (2 ^ 40 - 1) 6)).cpc 0 = 1 := by
  decide +kernel
/-- SUB takes the second operand from the first. -/
theorem test_sub_wraps : ((nx (.cuSub 0) (one 0x05 0 5 6)).creg 0 3).toNat = 2 ^ 40 - 1 := by decide +kernel
/-- SAR fills with the sign. -/
theorem test_sar_sign : ((nx (.cuSar 0) (one 0x0B 0 (2 ^ 39) 4)).creg 0 3).toNat = 2 ^ 40 - 2 ^ 35 := by decide +kernel
/-- SHR fills with zeros. -/
theorem test_shr_zeros : ((nx (.cuShr 0) (one 0x0A 0 (2 ^ 39) 4)).creg 0 3).toNat = 2 ^ 35 := by decide +kernel
/-- A step on an empty queue leaves the machine as it is. -/
theorem test_step_idles : Machine.step State.reset = .next State.reset := rfl
/-- The command at the front of the queue runs and leaves it. -/
theorem test_step_takes_front :
    (match Machine.step { up with pending := [.timeLatchRead pf0, .zoneSave pf0] } with | .next t => t.pending | _ => []) = [.zoneSave pf0] := by decide +kernel
/-- No row of the table has bits. -/
theorem test_no_row_has_bits : decodeTableWord 32 5 = none := by decide
/-- A read in COR mode clears what it returned (R54). -/
theorem test_status_read_clears_in_cor :
    ((nx (.statusCorRead pf0 (keyAddr (.xx_STATUS, [13, 0]))) ((up.wr (.xx_STATUS_MODE, [13, 0]) 1).wr (.xx_STATUS, [13, 0]) (w32 0x0F))).rd
      (.xx_STATUS, [13, 0])) &&& 0xF = 0 := by decide +kernel

/-- The premises of IdleStep and of StepKeepsInvariants hold right after reset. -/
theorem witness_step_on_reset :
    State.reset.pending = [] ∧ Machine.step State.reset = .next State.reset ∧ State.reset.MemOk ∧ State.reset.RegsOk :=
  ⟨rfl, rfl, by unfold State.MemOk; decide +kernel, by unfold State.RegsOk; decide +kernel⟩

namespace CueAlu

def ins (op rd rs1 rs2 imm : Nat) : Word40 := w40 (op * 2^34 + rd * 2^29 + rs1 * 2^24 + rs2*2^19 + imm)

def cb (a b : Nat) : State := ((((up.setCreg 0 1 (w40 a)).setCreg 0 2 (w40 b)).setCreg 0 3 (w40 0x5555AAAA)).set (F.CU_STAT_STATE 0) 1).set
  (F.CU_IMG_LEVEL 0) 0x102

/-- Every clause of part 1 of Obligations.CueRegisterResults can be met. -/
theorem witness_CueRegisterResults_1 :
    (∃ n : Fin 24, ∃ s : State, s.cpc n ≠ 16383 ∧ Runs s n 0x04 .r 0x100) ∧
    (∃ n : Fin 24, ∃ s : State, s.cpc n ≠ 16383 ∧ Runs s n 0x05 .r 0x100) ∧
    (∃ n : Fin 24, ∃ s : State, s.cpc n ≠ 16383 ∧ Runs s n 0x0C .r 0x101) ∧
    (∃ n : Fin 24, ∃ s : State, s.cpc n ≠ 16383 ∧ Runs s n 0x0D .r 0x101) ∧
    (∃ n : Fin 24, ∃ s : State, s.cpc n ≠ 16383 ∧ Runs s n 0x0E .r 0x102) ∧
    (∃ n : Fin 24, ∃ s : State, s.cpc n ≠ 16383 ∧ Runs s n 0x10 .i 0x100) ∧
    (∃ n : Fin 24, ∃ s : State, s.cpc n ≠ 16383 ∧ Runs s n 0x19 .i 0x100) ∧
    (∃ n : Fin 24, ∃ s : State, s.cpc n ≠ 16383 ∧ Runs s n 0x17 .u 0x100) ∧
    (∃ n : Fin 24, ∃ s : State, s.cpc n ≠ 16383 ∧ Runs s n 0x18 .u 0x100) :=
  ⟨⟨0, (((cb ((5, 0xABCD1234)).1 ((5, 0xABCD1234)).2).setImem 0 0 (ins 4 3 1 2 0)).setFlags 0 0), by repeat' first | decide +kernel | constructor⟩,
   ⟨0, (((cb ((5, 0xABCD1234)).1 ((5, 0xABCD1234)).2).setImem 0 0 (ins 5 3 1 2 0)).setFlags 0 0), by repeat' first | decide +kernel | constructor⟩,
   ⟨0, (((cb ((5, 0xABCD1234)).1 ((5, 0xABCD1234)).2).setImem 0 0 (ins 0xC 3 1 2 0)).setFlags 0 0), by repeat' first | decide +kernel | constructor⟩,
   ⟨0, (((cb ((5, 0xABCD1234)).1 ((5, 0xABCD1234)).2).setImem 0 0 (ins 0xD 3 1 2 0)).setFlags 0 0), by repeat' first | decide +kernel | constructor⟩,
   ⟨0, (((cb ((5, 0xABCD1234)).1 ((5, 0xABCD1234)).2).setImem 0 0 (ins 0xE 3 1 2 0)).setFlags 0 0), by repeat' first | decide +kernel | constructor⟩,
   ⟨0, ((cb ((5, 0xABCD1234)).1 ((5, 0xABCD1234)).2).setImem 0 0 (ins 0x10 3 1 0 0)), by repeat' first | decide +kernel | constructor⟩,
   ⟨0, ((cb ((5, 0xABCD1234)).1 ((5, 0xABCD1234)).2).setImem 0 0 (ins 0x19 3 1 0 0)), by repeat' first | decide +kernel | constructor⟩,
   ⟨0, ((cb ((5, 0xABCD1234)).1 ((5, 0xABCD1234)).2).setImem 0 0 (ins 0x17 3 1 0 0)), by repeat' first | decide +kernel | constructor⟩,
   ⟨0, ((cb ((5, 0xABCD1234)).1 ((5, 0xABCD1234)).2).setImem 0 0 (ins 0x18 3 1 0 0)), by repeat' first | decide +kernel | constructor⟩⟩

/-- Every clause of part 2 of Obligations.CueRegisterResults can be met. -/
theorem witness_CueRegisterResults_2 :
    (∃ n : Fin 24, ∃ s : State, s.cpc n ≠ 16383 ∧ Runs s n 0x06 .r 0x100) ∧
    (∃ n : Fin 24, ∃ s : State, s.cpc n ≠ 16383 ∧ Runs s n 0x07 .r 0x100) ∧
    (∃ n : Fin 24, ∃ s : State, s.cpc n ≠ 16383 ∧ Runs s n 0x08 .r 0x100) ∧
    (∃ n : Fin 24, ∃ s : State, s.cpc n ≠ 16383 ∧ Runs s n 0x11 .i 0x100) ∧
    (∃ n : Fin 24, ∃ s : State, s.cpc n ≠ 16383 ∧ Runs s n 0x12 .i 0x100) ∧
    (∃ n : Fin 24, ∃ s : State, s.cpc n ≠ 16383 ∧ Runs s n 0x13 .i 0x100) ∧
    (∃ n : Fin 24, ∃ s : State, s.cpc n ≠ 16383 ∧ Runs s n 0x09 .r 0x100) ∧
    (∃ n : Fin 24, ∃ s : State, s.cpc n ≠ 16383 ∧ Runs s n 0x0A .r 0x100) ∧
    (∃ n : Fin 24, ∃ s : State, s.cpc n ≠ 16383 ∧ Runs s n 0x0B .r 0x100) ∧
    (∃ n : Fin 24, ∃ s : State, s.cpc n ≠ 16383 ∧ Runs s n 0x14 .i 0x100 ∧ shOk (s.word n) = true) ∧
    (∃ n : Fin 24, ∃ s : State, s.cpc n ≠ 16383 ∧ Runs s n 0x15 .i 0x100 ∧ shOk (s.word n) = true) ∧
    (∃ n : Fin 24, ∃ s : State, s.cpc n ≠ 16383 ∧ Runs s n 0x16 .i 0x100 ∧ shOk (s.word n) = true) ∧
    (∃ n : Fin 24, ∃ s : State, s.cpc n ≠ 16383 ∧ Runs s n 0x1A .i 0x102 ∧ bfOk (s.word n) = true) ∧
    (∃ n : Fin 24, ∃ s : State, s.cpc n ≠ 16383 ∧ Runs s n 0x1B .i 0x102 ∧ bfOk (s.word n) = true) ∧
    (∃ n : Fin 24, ∃ s : State, 
      let w := s.word n
      bfOk w = true) ∧
    (∃ n : Fin 24, ∃ s : State, 
      let w := s.word n
      bfOk w = true) :=
  ⟨⟨0, (((cb ((5, 0xABCD1234)).1 ((5, 0xABCD1234)).2).setImem 0 0 (ins 6 3 1 2 0)).setFlags 0 0), by repeat' first | decide +kernel | constructor⟩,
   ⟨0, (((cb ((5, 0xABCD1234)).1 ((5, 0xABCD1234)).2).setImem 0 0 (ins 7 3 1 2 0)).setFlags 0 0), by repeat' first | decide +kernel | constructor⟩,
   ⟨0, (((cb ((5, 0xABCD1234)).1 ((5, 0xABCD1234)).2).setImem 0 0 (ins 8 3 1 2 0)).setFlags 0 0), by repeat' first | decide +kernel | constructor⟩,
   ⟨0, ((cb ((5, 0xABCD1234)).1 ((5, 0xABCD1234)).2).setImem 0 0 (ins 0x11 3 1 0 0)), by repeat' first | decide +kernel | constructor⟩,
   ⟨0, ((cb ((5, 0xABCD1234)).1 ((5, 0xABCD1234)).2).setImem 0 0 (ins 0x12 3 1 0 0)), by repeat' first | decide +kernel | constructor⟩,
   ⟨0, ((cb ((5, 0xABCD1234)).1 ((5, 0xABCD1234)).2).setImem 0 0 (ins 0x13 3 1 0 0)), by repeat' first | decide +kernel | constructor⟩,
   ⟨0, (((cb ((5, 0xABCD1234)).1 ((5, 0xABCD1234)).2).setImem 0 0 (ins 9 3 1 2 0)).setFlags 0 0), by repeat' first | decide +kernel | constructor⟩,
   ⟨0, (((cb ((5, 0xABCD1234)).1 ((5, 0xABCD1234)).2).setImem 0 0 (ins 0xA 3 1 2 0)).setFlags 0 0), by repeat' first | decide +kernel | constructor⟩,
   ⟨0, (((cb ((5, 0xABCD1234)).1 ((5, 0xABCD1234)).2).setImem 0 0 (ins 0xB 3 1 2 0)).setFlags 0 0), by repeat' first | decide +kernel | constructor⟩,
   ⟨0, ((cb ((5, 0xABCD1234)).1 ((5, 0xABCD1234)).2).setImem 0 0 (ins 0x14 3 1 0 0)), by repeat' first | decide +kernel | constructor⟩,
   ⟨0, ((cb ((5, 0xABCD1234)).1 ((5, 0xABCD1234)).2).setImem 0 0 (ins 0x15 3 1 0 0)), by repeat' first | decide +kernel | constructor⟩,
   ⟨0, ((cb ((5, 0xABCD1234)).1 ((5, 0xABCD1234)).2).setImem 0 0 (ins 0x16 3 1 0 0)), by repeat' first | decide +kernel | constructor⟩,
   ⟨0, ((cb ((5, 0xABCD1234)).1 ((5, 0xABCD1234)).2).setImem 0 0 (ins 0x1A 3 1 0 (4 + 32*8))), by repeat' first | decide +kernel | constructor⟩,
   ⟨0, ((cb ((5, 0xABCD1234)).1 ((5, 0xABCD1234)).2).setImem 0 0 (ins 0x1B 3 1 0 (4 + 32*8))), by repeat' first | decide +kernel | constructor⟩,
   ⟨0, ((cb ((5, 0xABCD1234)).1 ((5, 0xABCD1234)).2).setImem 0 0 (ins 0x11 3 1 0 (4 + 32*8))), by decide +kernel⟩,
   ⟨0, ((cb ((5, 0xABCD1234)).1 ((5, 0xABCD1234)).2).setImem 0 0 (ins 0x11 3 1 0 (4 + 32*8))), by decide +kernel⟩⟩

end CueAlu

namespace CueFlow

def ins (op rd rs1 rs2 imm : Nat) : Word40 := w40 (op * 2^34 + rd * 2^29 + rs1 * 2^24 + rs2*2^19 + imm)

def cb : State := (((up.setCreg 0 1 (w40 5)).setCreg 0 2 (w40 0xABCD1234)).set (F.CU_STAT_STATE 0) 1).set (F.CU_IMG_LEVEL 0) 0x102

def wi (i : Word40) : State := cb.setImem 0 0 i

def ie (s : State) := s.set (F.CU_STAT_IE 0) 1

/-- Every clause of part 1 of Obligations.CueFlowAndSpecials can be met. -/
theorem witness_CueFlowAndSpecials_1 :
    (∃ n : Fin 24, ∃ s : State, 
      let pc := s.cpc n
      Runs s n 0x01 .r 0x100 ∧ pc ≠ 16383) ∧
    (∃ n : Fin 24, ∃ s : State, 
      let pc := s.cpc n
      Runs s n 0x02 .r 0x100 ∧ pc ≠ 16383) ∧
    (∃ n : Fin 24, ∃ s : State, 
      let w := s.word n
      Runs s n 0x03 .i 0x100 ∧ iRd w = 0 ∧ iRs1 w = 0 ∧ s.ie n = true) ∧
    (∃ n : Fin 24, ∃ s : State, 
      let w := s.word n
      Runs s n 0x03 .i 0x100 ∧ iRd w = 0 ∧ iRs1 w = 0 ∧ s.ie n = false) ∧
    (∃ n : Fin 24, ∃ s : State, 
      let w := s.word n
      let pc := s.cpc n
      s.cst n = 1 ∧ s.cueUp n = true ∧ s.eccAt (16384 * n + pc) ≠ 2 ∧ opcodes.contains (iOp w) = false ∧ s.ie n = true) ∧
    (∃ n : Fin 24, ∃ s : State, 
      let w := s.word n
      let pc := s.cpc n
      let branch (t : Int) := 0 ≤ t ∧ t < 16384
      let t : Int := if condHolds (iRd w) (s.flags n) = some true then ((pc + 1 : Nat) : Int) + signed 19 (iImm w) else ((pc + 1 : Nat) : Int)
      Runs s n 0x20 .b 0x100 ∧ iRd w ≤ 14 ∧ branch t) ∧
    (∃ n : Fin 24, ∃ s : State, 
      let w := s.word n
      let pc := s.cpc n
      let branch (t : Int) := 0 ≤ t ∧ t < 16384
      Runs s n 0x21 .b 0x100 ∧ iRd w = 0 ∧ branch (((pc + 1 : Nat) : Int) + signed 19 (iImm w))) ∧
    (∃ n : Fin 24, ∃ s : State, 
      let w := s.word n
      Runs s n 0x22 .i 0x100 ∧ (s.a1 n w + iSext w).toNat < 16384) ∧
    (∃ n : Fin 24, ∃ s : State, 
      let w := s.word n
      Runs s n 0x32 .r 0x100 ∧ iRd w = 0 ∧ iRs1 w = 0 ∧ iRs2 w = 0) :=
  ⟨⟨0, (wi (ins 1 0 0 0 0)), by repeat' first | decide +kernel | constructor⟩,
   ⟨0, (wi (ins 2 0 0 0 0)), by repeat' first | decide +kernel | constructor⟩,
   ⟨0, (ie (wi (ins 3 0 0 0 9))), by repeat' first | decide +kernel | constructor⟩,
   ⟨0, (wi (ins 3 0 0 0 9)), by repeat' first | decide +kernel | constructor⟩,
   ⟨0, (ie (wi (ins 0x3f 0 0 0 0))), by decide +kernel⟩,
   ⟨0, (wi (ins 0x20 0 0 0 7)), by repeat' first | decide +kernel | constructor⟩,
   ⟨0, (wi (ins 0x21 0 0 0 100)), by repeat' first | decide +kernel | constructor⟩,
   ⟨0, (wi (ins 0x22 4 1 0 3)), by repeat' first | decide +kernel | constructor⟩,
   ⟨0, ((wi (ins 0x32 0 0 0 0)).updCue 0 fun c => { c with eflags := 3 }), by repeat' first | decide +kernel | constructor⟩⟩

/-- Every clause of part 1 of Obligations.CueMemories can be met. -/
theorem witness_CueMemories_1 :
    (∃ n : Fin 24, ∃ s : State, 
      let w := s.word n
      let pc := s.cpc n
      let i := (s.a1 n w + iSext w).toNat
      Runs s n 0x24 .i 0x100 ∧ pc ≠ 16383 ∧ i < 8192 ∧ s.eccAt (dmKey n i) ≠ 2) ∧
    (∃ n : Fin 24, ∃ s : State, 
      let w := s.word n
      let pc := s.cpc n
      let i := (s.a1 n w + iSext w).toNat
      Runs s n 0x24 .i 0x100 ∧ pc ≠ 16383 ∧ 8192 ≤ i ∧ s.ie n = true) ∧
    (∃ n : Fin 24, ∃ s : State, 
      let w := s.word n
      let pc := s.cpc n
      let i := (s.a1 n w + iSext w).toNat
      Runs s n 0x25 .s 0x100 ∧ pc ≠ 16383 ∧ i < 8192) ∧
    (∃ n : Fin 24, ∃ s : State, 
      let w := s.word n
      let pc := s.cpc n
      let i := (s.a1 n w + iSext w).toNat
      Runs s n 0x26 .i 0x100 ∧ pc ≠ 16383 ∧ i < 262144 ∧ s.eccAt (scrKey i) ≠ 2) ∧
    (∃ n : Fin 24, ∃ s : State, 
      let w := s.word n
      let pc := s.cpc n
      let i := (s.a1 n w + iSext w).toNat
      Runs s n 0x26 .i 0x100 ∧ pc ≠ 16383 ∧ 262144 ≤ i ∧ s.ie n = true) ∧
    (∃ n : Fin 24, ∃ s : State, 
      let w := s.word n
      let pc := s.cpc n
      let i := (s.a1 n w + iSext w).toNat
      Runs s n 0x27 .s 0x100 ∧ pc ≠ 16383 ∧ i < 262144) ∧
    (∃ n : Fin 24, ∃ s : State, 
      let w := s.word n
      let pc := s.cpc n
      let a := (s.a1 n w).toNat
      Runs s n 0x28 .r 0x102 ∧ pc ≠ 16383 ∧ a < 262144 ∧ s.eccAt (scrKey a) ≠ 2) ∧
    (∃ n : Fin 24, ∃ s : State, 
      let w := s.word n
      let pc := s.cpc n
      let a := (s.a1 n w).toNat
      Runs s n 0x29 .r 0x102 ∧ pc ≠ 16383 ∧ a < 262144 ∧ s.eccAt (scrKey a) ≠ 2) ∧
    (∃ n : Fin 24, ∃ s : State, 
      let w := s.word n
      let pc := s.cpc n
      let a := (s.a1 n w).toNat
      Runs s n 0x2A .r 0x102 ∧ pc ≠ 16383 ∧ a < 262144 ∧ s.eccAt (scrKey a) ≠ 2) :=
  ⟨⟨0, (wi (ins 0x24 3 1 0 1)), by repeat' first | decide +kernel | constructor⟩,
   ⟨0, (ie ((wi (ins 0x24 3 2 0 1)))), by repeat' first | decide +kernel | constructor⟩,
   ⟨0, (wi (ins 0x25 0 1 2 1)), by repeat' first | decide +kernel | constructor⟩,
   ⟨0, (wi (ins 0x26 3 1 0 1)), by repeat' first | decide +kernel | constructor⟩,
   ⟨0, (ie (wi (ins 0x26 3 2 0 1))), by repeat' first | decide +kernel | constructor⟩,
   ⟨0, (wi (ins 0x27 0 1 2 1)), by repeat' first | decide +kernel | constructor⟩,
   ⟨0, ((wi (ins 0x28 3 1 2 0)).setScr 5 7), by repeat' first | decide +kernel | constructor⟩,
   ⟨0, ((wi (ins 0x29 3 1 2 0)).setScr 5 7), by repeat' first | decide +kernel | constructor⟩,
   ⟨0, ((wi (ins 0x2a 3 1 2 0)).setScr 5 7), by repeat' first | decide +kernel | constructor⟩⟩

/-- Every clause of part 2 of Obligations.CueFlowAndSpecials can be met. -/
theorem witness_CueFlowAndSpecials_2 :
    (∃ n : Fin 24, ∃ s : State, 
      let w := s.word n
      let k := iImm w
      Runs s n 0x30 .i 0x100 ∧ s.cpc n ≠ 16383 ∧ iRs1 w = 0 ∧ k ≤ 12) ∧
    (∃ n : Fin 24, ∃ s : State, 
      let w := s.word n
      let k := iImm w
      Runs s n 0x31 .i 0x100 ∧ s.cpc n ≠ 16383 ∧ iRd w = 0 ∧ (k ≤ 4 ∨ k = 12) ∧ Calm s n) :=
  ⟨⟨0, (wi (ins 0x30 3 0 0 7)), by repeat' first | decide +kernel | constructor⟩,
   ⟨0, (wi (ins 0x31 0 2 0 0)), by repeat' first | decide +kernel | constructor⟩⟩

end CueFlow

namespace CueAccess

def ins (op rd rs1 rs2 imm : Nat) : Word40 := w40 (op * 2^34 + rd * 2^29 + rs1 * 2^24 + rs2*2^19 + imm)

def gk : Key := (.DT_GLY_IDX,[])

def base : State := ((((up.setCreg 0 1 (w40 (keyAddr gk))).setCreg 0 2 (w40 0xABCD1234)).setCreg 0 6 (w40 5)).set (F.CU_STAT_STATE 0) 1).set
  (F.CU_IMG_LEVEL 0) 0x102

def wi (i : Word40) : State := base.setImem 0 0 i

def ie (s : State) := s.set (F.CU_STAT_IE 0) 1

def perm (s : State) : State := (((s.wr (.DV_PERM_LO,[4]) (w32 0xFFFFFFFF)).wr (.DV_PERM_HI,[4]) (w32 0xFFFFFFFF)).wr (.DV_PERM_LO,[2]) (w32
  0xFFFFFFFF)).wr (.DV_PERM_HI,[2]) (w32 0xFFFFFFFF)

def sc (v : Nat) (s : State) : State := {s with tb := {s.tb with seen2 := v}}

namespace CueAccessResults

def noperm (s : State) : State := (s.wr (.DV_PERM_LO,[4]) 0).wr (.DV_PERM_HI,[4]) 0

/-- Every clause of part 1 of Obligations.CueAccesses can be met. -/
theorem witness_CueAccesses_1 :
    (∃ n : Fin 24, ∃ k : Key, ∃ s : State, 
      let w := s.word n
      let pc := s.cpc n
      let a := (s.a1 n w + iSext w).toNat
      let o := cuOriginAt n pc s.fresh.1
      let plainRead := ¬ [Reg.SL_SEQ_LO, .TB_TIME_SL, .TB_TSQ_POP, .LT_BITS_LO, .LT_ERRORS, .CK_RUN, .CU_DM_LO, .CU_DM_HI, .CUS_SCR_DATA, .DT_GLY_DATA].contains k.1 ∧ (keyHdr k).headD 0 ≠ 20
      pc ≠ 16383 ∧ (s.cue n).kicks = [] ∧ Runs s n 0x2C .i 0x100 ∧ regAddrOk a = true ∧ decodeAddr a = .reg k ∧ Answers s o k ∧ plainRead) ∧
    (∃ n : Fin 24, ∃ k : Key, ∃ s : State, 
      let w := s.word n
      let pc := s.cpc n
      let l := s.layerAddr n w
      let o := cuOriginAt n pc s.fresh.1
      let plainRead := ¬ [Reg.SL_SEQ_LO, .TB_TIME_SL, .TB_TSQ_POP, .LT_BITS_LO, .LT_ERRORS, .CK_RUN, .CU_DM_LO, .CU_DM_HI, .CUS_SCR_DATA, .DT_GLY_DATA].contains k.1 ∧ (keyHdr k).headD 0 ≠ 20
      pc ≠ 16383 ∧ (s.cue n).kicks = [] ∧ Runs s n 0x34 .i 0x101 ∧ n.val < 16 ∧ layerImmOk w = true ∧ decodeAddr l = .reg k ∧ Answers s o k ∧
      plainRead) ∧
    (∃ n : Fin 24, ∃ k : Key, ∃ s : State, 
      let w := s.word n
      let pc := s.cpc n
      let a := (s.a1 n w + iSext w).toNat
      let o := cuOriginAt n pc s.fresh.1
      pc ≠ 16383 ∧ (s.cue n).kicks = [] ∧ Runs s n 0x2C .i 0x100 ∧ regAddrOk a = true ∧ decodeAddr a = .reg k ∧ s.readable = true ∧
      s.rights o ((keyHdr k).headD 0) = 0 ∧ iRd w ≠ 0) ∧
    (∃ n : Fin 24, ∃ k : Key, ∃ s : State, 
      let w := s.word n
      let pc := s.cpc n
      let a := (s.a1 n w + iSext w).toNat
      let o := cuOriginAt n pc s.fresh.1
      let v := w32 (s.a2 n w).toNat
      let plainWrite (v : Word) := special.contains k.1 = false ∧ slowCode k = none ∧ (keyHdr k).headD 0 ≠ 20 ∧ Reaches s o k v ∧ Unlocked s k ∧ (∀ x ∈ (regDef k.1).fields, x.acc ≠ .w1) ∧ fieldsApart (regDef k.1).fields = true ∧ isMw (regDef k.1) = false ∧ ∀ x, s.valueRule k x = .ok
      pc ≠ 16383 ∧ (s.cue n).kicks = [] ∧ Runs s n 0x2D .s 0x100 ∧ regAddrOk a = true ∧ decodeAddr a = .reg k ∧ plainWrite v) ∧
    (∃ n : Fin 24, ∃ k : Key, ∃ s : State, 
      let w := s.word n
      let pc := s.cpc n
      let l := s.layerAddr n w
      let o := cuOriginAt n pc s.fresh.1
      let v := w32 (s.a2 n w).toNat
      let plainWrite (v : Word) := special.contains k.1 = false ∧ slowCode k = none ∧ (keyHdr k).headD 0 ≠ 20 ∧ Reaches s o k v ∧ Unlocked s k ∧ (∀ x ∈ (regDef k.1).fields, x.acc ≠ .w1) ∧ fieldsApart (regDef k.1).fields = true ∧ isMw (regDef k.1) = false ∧ ∀ x, s.valueRule k x = .ok
      pc ≠ 16383 ∧ (s.cue n).kicks = [] ∧ Runs s n 0x35 .s 0x101 ∧ n.val < 16 ∧ layerImmOk w = true ∧ decodeAddr l = .reg k ∧ plainWrite v) ∧
    (∃ n : Fin 24, ∃ k : Key, ∃ s : State, 
      let w := s.word n
      let pc := s.cpc n
      let o := cuOriginAt n pc s.fresh.1
      let v := w32 (s.a2 n w).toNat
      let field := setBits (s.seen k (orgOf o).cls) (wrfLsb w + wrfWidth w - 1) (wrfLsb w) (s.a2 n w).toNat
      let plainRead := ¬ [Reg.SL_SEQ_LO, .TB_TIME_SL, .TB_TSQ_POP, .LT_BITS_LO, .LT_ERRORS, .CK_RUN, .CU_DM_LO, .CU_DM_HI, .CUS_SCR_DATA, .DT_GLY_DATA].contains k.1 ∧ (keyHdr k).headD 0 ≠ 20
      let plainWrite (v : Word) := special.contains k.1 = false ∧ slowCode k = none ∧ (keyHdr k).headD 0 ≠ 20 ∧ Reaches s o k v ∧ Unlocked s k ∧ (∀ x ∈ (regDef k.1).fields, x.acc ≠ .w1) ∧ fieldsApart (regDef k.1).fields = true ∧ isMw (regDef k.1) = false ∧ ∀ x, s.valueRule k x = .ok
      pc ≠ 16383 ∧ (s.cue n).kicks = [] ∧ Runs s n 0x2F .f 0x102 ∧ wrfOk w = true ∧ regAddrOk (s.a1 n w).toNat = true ∧
      decodeAddr (s.a1 n w).toNat = .reg k ∧ plainRead ∧ Answers s o k ∧ plainWrite field) ∧
    (∃ n : Fin 24, ∃ s : State, 
      let w := s.word n
      let pc := s.cpc n
      let a := (s.a1 n w + iSext w).toNat
      pc ≠ 16383 ∧ (s.cue n).kicks = [] ∧ Runs s n 0x2C .i 0x100 ∧ regAddrOk a = false ∧ s.ie n = true) ∧
    (∃ n : Fin 24, ∃ s : State, 
      let w := s.word n
      let pc := s.cpc n
      let a := (s.a1 n w + iSext w).toNat
      pc ≠ 16383 ∧ (s.cue n).kicks = [] ∧ Runs s n 0x2D .s 0x100 ∧ regAddrOk a = false ∧ s.ie n = true) ∧
    (∃ n : Fin 24, ∃ s : State, 
      let w := s.word n
      let pc := s.cpc n
      pc ≠ 16383 ∧ (s.cue n).kicks = [] ∧ Runs s n 0x34 .i 0x101 ∧ n.val < 16 ∧ layerImmOk w = false ∧ s.ie n = true) ∧
    (∃ n : Fin 24, ∃ s : State, 
      let w := s.word n
      let pc := s.cpc n
      pc ≠ 16383 ∧ (s.cue n).kicks = [] ∧ Runs s n 0x35 .s 0x101 ∧ n.val < 16 ∧ layerImmOk w = false ∧ s.ie n = true) :=
  ⟨⟨0, ((Reg.DT_GLY_IDX, [])), (perm (wi (ins 0x2C 5 1 0 0))), by repeat' first | decide +kernel | constructor⟩,
   ⟨0, ((Reg.CE_L_CTRL, [0, 0])), (perm (wi (ins 0x34 5 0 0 0))), by repeat' first | decide +kernel | constructor⟩,
   ⟨0, ((Reg.DT_GLY_IDX, [])), (noperm (wi (ins 0x2C 5 1 0 0))), by repeat' first | decide +kernel | constructor⟩,
   ⟨0, ((Reg.DT_GLY_IDX, [])), (perm (wi (ins 0x2D 0 1 2 0))), by repeat' first | exact fun _ => rfl | apply And.intro | decide +kernel | constructor⟩,
   ⟨0, ((Reg.CE_L_CTRL, [0, 0])), (perm (wi (ins 0x35 0 0 2 0))), by repeat' first | exact fun _ => rfl | apply And.intro | decide +kernel | constructor⟩,
   ⟨0, ((Reg.DT_GLY_IDX, [])), (perm (wi (ins 0x2F 0 1 2 (4 + 32*8)))), by repeat' first | exact fun _ => rfl | apply And.intro | decide +kernel | constructor⟩,
   ⟨0, (ie (wi (ins 0x2C 5 1 0 1))), by repeat' first | decide +kernel | constructor⟩,
   ⟨0, (ie (wi (ins 0x2D 0 1 2 2))), by repeat' first | decide +kernel | constructor⟩,
   ⟨0, (ie (wi (ins 0x34 5 0 0 1))), by repeat' first | decide +kernel | constructor⟩,
   ⟨0, (ie (wi (ins 0x35 0 0 2 2))), by repeat' first | decide +kernel | constructor⟩⟩

end CueAccessResults

namespace CueKicks

def k1 := nx (.cuKick 0) (perm (wi (ins 0x2E 0 1 2 0)))

def noperm (s : State) : State := (s.wr (.DV_PERM_LO,[4]) 0).wr (.DV_PERM_HI,[4]) 0

def k1b := noperm (nx (.cuKick 0) (wi (ins 0x2E 0 1 2 0)))

/-- Every clause of part 2 of Obligations.CueAccesses can be met. -/
theorem witness_CueAccesses_2 :
    (∃ n : Fin 24, ∃ s : State, 
      let w := s.word n
      let i := (s.a1 n w + iSext w).toNat
      let kicks (t : State) := (t.cue n).kicks
      Runs s n 0x2E .s 0x100 ∧ s.cpc n ≠ 16383 ∧ regAddrOk i = true ∧ (kicks s).length < 4) ∧
    (∃ n : Fin 24, ∃ s : State, 
      let w := s.word n
      let i := (s.a1 n w + iSext w).toNat
      let kicks (t : State) := (t.cue n).kicks
      Runs s n 0x2E .s 0x100 ∧ s.cpc n ≠ 16383 ∧ regAddrOk i = true ∧ 4 ≤ (kicks s).length) ∧
    (∃ n : Fin 24, ∃ s : State, 
      let w := s.word n
      let i := (s.a1 n w + iSext w).toNat
      Runs s n 0x2E .s 0x100 ∧ s.cpc n ≠ 16383 ∧ regAddrOk i = false ∧ s.ie n = true) ∧
    (∃ n : Fin 24, ∃ a : Nat, ∃ pc : Nat, ∃ v : Word, ∃ ks : List (Nat × Word × Nat), ∃ k : Key, ∃ s : State, 
      let o := cuOriginAt n pc s.fresh.1
      let kicks (t : State) := (t.cue n).kicks
      let plainWrite := special.contains k.1 = false ∧ slowCode k = none ∧ (keyHdr k).headD 0 ≠ 20 ∧ Reaches s o k v ∧ Unlocked s k ∧ (∀ x ∈ (regDef k.1).fields, x.acc ≠ .w1) ∧ fieldsApart (regDef k.1).fields = true ∧ isMw (regDef k.1) = false ∧ ∀ x, s.valueRule k x = .ok
      kicks s = (a, v, pc) :: ks ∧ decodeAddr a = .reg k ∧ plainWrite ∧ Calm s n) ∧
    (∃ n : Fin 24, ∃ a : Nat, ∃ pc : Nat, ∃ v : Word, ∃ ks : List (Nat × Word × Nat), ∃ k : Key, ∃ s : State, 
      let o := cuOriginAt n pc s.fresh.1
      let kicks (t : State) := (t.cue n).kicks
      kicks s = (a, v, pc) :: ks ∧ decodeAddr a = .reg k ∧ isMw (regDef k.1) = false ∧ s.served = true ∧ s.rights o ((keyHdr k).headD 0) ≠ 3 ∧
      Calm s n ∧ s.get (F.CU_TRAP_EN_KICK n) = 1 ∧ s.cst n = 1 ∧ s.ie n = true) ∧
    (∃ n : Fin 24, ∃ s : State, 
      let kicks (t : State) := (t.cue n).kicks
      kicks s = [] ∧ Calm s n) :=
  ⟨⟨0, (perm (wi (ins 0x2E 0 1 2 0))), by repeat' first | decide +kernel | constructor⟩,
   ⟨0, ((perm (wi (ins 0x2E 0 1 2 0))).updCue 0 fun c => {c with kicks := [(0,0,0),(1,0,0),(2,0,0),(3,0,0)]}), by repeat' first | decide +kernel | constructor⟩,
   ⟨0, (ie (wi (ins 0x2E 0 1 2 1))), by repeat' first | decide +kernel | constructor⟩,
   ⟨0, 4194376, 0, (0xabcd1234#32), [], ((Reg.DT_GLY_IDX, [])), k1, by repeat' first | exact fun _ => rfl | apply And.intro | decide +kernel | constructor⟩,
   ⟨0, 4194376, 0, (0xabcd1234#32), [], ((Reg.DT_GLY_IDX, [])), (ie (k1b.set (F.CU_TRAP_EN_KICK 0) 1)), by repeat' first | decide +kernel | constructor⟩,
   ⟨0, (perm (wi (ins 0x2E 0 1 2 0))), by repeat' first | decide +kernel | constructor⟩⟩

end CueKicks

namespace CueCommitsAndReleases

def rel := perm (wi (ins 0x37 0 0 2 32)) |>.updHead 0 fun h => {h with prepared := some {head := 0, prep := true}}

/-- Every clause of Obligations.CueCommitsAndReleases can be met. -/
theorem witness_CueCommitsAndReleases :
    (∃ n : Fin 24, ∃ h : Nat, ∃ s : State, 
      let w := s.word n
      let pc := s.cpc n
      let o := cuOriginAt n pc s.fresh.1
      pc ≠ 16383 ∧ (s.cue n).kicks = [] ∧ selHead n w = some h ∧ s.served = true ∧ s.rights o 14 = 3 ∧ Runs s n 0x36 .i 0x100 ∧ iImm w < 64 ∧
      iImm w / 32 = 0 ∧ s.checking h = false) ∧
    (∃ n : Fin 24, ∃ h : Nat, ∃ s : State, 
      let w := s.word n
      let pc := s.cpc n
      let o := cuOriginAt n pc s.fresh.1
      pc ≠ 16383 ∧ (s.cue n).kicks = [] ∧ selHead n w = some h ∧ s.served = true ∧ s.rights o 14 = 3 ∧ Runs s n 0x36 .i 0x100 ∧ iImm w < 128 ∧
      s.checking h = true ∧ s.get (F.CU_TRAP_EN_ACC n) = 0) ∧
    (∃ n : Fin 24, ∃ h : Nat, ∃ s : State, 
      let w := s.word n
      let pc := s.cpc n
      let o := cuOriginAt n pc s.fresh.1
      pc ≠ 16383 ∧ (s.cue n).kicks = [] ∧ selHead n w = some h ∧ s.served = true ∧ s.rights o 14 = 3 ∧ Runs s n 0x37 .s 0x102 ∧ iImm w < 64 ∧
      (s.head h).prepared = none ∧ s.get (F.CU_TRAP_EN_ACC n) = 0) ∧
    (∃ n : Fin 24, ∃ h : Nat, ∃ c : CommitSet, ∃ s : State, 
      let w := s.word n
      let pc := s.cpc n
      let o := cuOriginAt n pc s.fresh.1
      pc ≠ 16383 ∧ (s.cue n).kicks = [] ∧ selHead n w = some h ∧ s.served = true ∧ s.rights o 14 = 3 ∧ Runs s n 0x37 .s 0x102 ∧ iImm w / 32 = 1 ∧
      (s.head h).prepared = some c ∧ c.head = h ∧ c.members = [] ∧ (s.head h).latest = c.serial) :=
  ⟨⟨0, 0, (perm (wi (ins 0x36 5 2 0 16))), by repeat' first | decide +kernel | constructor⟩,
   ⟨0, 0, ((perm (wi (ins 0x36 5 2 0 16))).set (F.CE_CSTAT_STATE 0 0) 1), by repeat' first | decide +kernel | constructor⟩,
   ⟨0, 0, (perm (wi (ins 0x37 0 0 2 16))), by repeat' first | decide +kernel | constructor⟩,
   ⟨0, 0, {head := 0, prep := true}, rel, by repeat' first | decide +kernel | constructor⟩⟩

end CueCommitsAndReleases

namespace CueWaitsBegin

def ww (i : Word40) := perm (wi i)

def rnh (s : State) := s.set (F.HD_STAT_STATE 0) 3

/-- Every clause of part 1 of Obligations.CueWaits can be met. -/
theorem witness_CueWaits_1 :
    (∃ n : Fin 24, ∃ s : State, 
      let w := s.word n
      let pc := s.cpc n
      let code := iImm w % 256
      ∃ x, pc ≠ 16383 ∧ Runs s n 0x38 .i 0x100 ∧ iRs1 w = 0 ∧ 16 ≤ code ∧ code ≤ 23 ∧ s.evtLatch n code = some x ∧ s.delivered x.2 = true) ∧
    (∃ n : Fin 24, ∃ s : State, 
      let w := s.word n
      let pc := s.cpc n
      let code := iImm w % 256
      ∃ x, pc ≠ 16383 ∧ Runs s n 0x38 .i 0x100 ∧ iRs1 w = 0 ∧ 16 ≤ code ∧ code ≤ 23 ∧ s.evtLatch n code = some x ∧ s.delivered x.2 = false) ∧
    (∃ n : Fin 24, ∃ s : State, 
      let w := s.word n
      let pc := s.cpc n
      let code := iImm w % 256
      pc ≠ 16383 ∧ Runs s n 0x38 .i 0x100 ∧ iRs1 w = 0 ∧ 16 ≤ code ∧ code ≤ 23 ∧ s.evtLatch n code = none) ∧
    (∃ n : Fin 24, ∃ s : State, 
      let w := s.word n
      let pc := s.cpc n
      let code := iImm w % 256
      pc ≠ 16383 ∧ Runs s n 0x38 .i 0x100 ∧ iRs1 w = 0 ∧ code ≤ 8 ∧ n.val < 16 ∧ s.hst n ≤ 1) ∧
    (∃ n : Fin 24, ∃ s : State, 
      let w := s.word n
      let pc := s.cpc n
      let code := iImm w % 256
      pc ≠ 16383 ∧ Runs s n 0x38 .i 0x100 ∧ iRs1 w = 0 ∧ code ≤ 10 ∧ n.val < 16 ∧ (1 < s.hst n ∨ 8 < code) ∧ s.undelivered n code none none = none) ∧
    (∃ n : Fin 24, ∃ s : State, 
      let w := s.word n
      let pc := s.cpc n
      let line := (s.a1 n w).toNat % 8192
      pc ≠ 16383 ∧ Runs s n 0x39 .i 0x100 ∧ n.val < 16 ∧ s.lineOk n line = true ∧ s.hst n ≤ 1) ∧
    (∃ n : Fin 24, ∃ s : State, 
      let w := s.word n
      let pc := s.cpc n
      let line := (s.a1 n w).toNat % 8192
      pc ≠ 16383 ∧ Runs s n 0x39 .i 0x100 ∧ n.val < 16 ∧ s.lineOk n line = true ∧ 1 < s.hst n ∧ s.undelivered n 0 (some line) none = none) ∧
    (∃ n : Fin 24, ∃ s : State, 
      let w := s.word n
      let pc := s.cpc n
      let d := ((s.a1 n w).toNat + 2 ^ 40 - s.cueTime) % 2 ^ 40
      pc ≠ 16383 ∧ Runs s n 0x3A .i 0x100 ∧ d = 0) ∧
    (∃ n : Fin 24, ∃ s : State, 
      let w := s.word n
      let pc := s.cpc n
      let d := ((s.a1 n w).toNat + 2 ^ 40 - s.cueTime) % 2 ^ 40
      pc ≠ 16383 ∧ Runs s n 0x3A .i 0x100 ∧ d ≠ 0 ∧ d < 2 ^ 39) ∧
    (∃ n : Fin 24, ∃ s : State, 
      let w := s.word n
      let pc := s.cpc n
      let d := ((s.a1 n w).toNat + 2 ^ 40 - s.cueTime) % 2 ^ 40
      pc ≠ 16383 ∧ Runs s n 0x3A .i 0x100 ∧ 2 ^ 39 ≤ d ∧ 2 ^ 40 - d ≤ s.lateWindow n) ∧
    (∃ n : Fin 24, ∃ s : State, 
      let w := s.word n
      let pc := s.cpc n
      let d := ((s.a1 n w).toNat + 2 ^ 40 - s.cueTime) % 2 ^ 40
      pc ≠ 16383 ∧ Runs s n 0x3A .i 0x100 ∧ 2 ^ 39 ≤ d ∧ s.lateWindow n < 2 ^ 40 - d ∧ Calm s n ∧ s.ie n = true) ∧
    (∃ n : Fin 24, ∃ s : State, 
      let w := s.word n
      let pc := s.cpc n
      let l := iImm w % 8192
      pc ≠ 16383 ∧ Runs s n 0x3B .i 0x101 ∧ n.val < 16 ∧ s.lineOk n l = true ∧ s.hst n ≤ 1) ∧
    (∃ n : Fin 24, ∃ s : State, 
      let w := s.word n
      let pc := s.cpc n
      let goal := targetOf (s.head n).frame (s.a1 n w).toNat
      let l := iImm w % 8192
      pc ≠ 16383 ∧ Runs s n 0x3B .i 0x101 ∧ n.val < 16 ∧ s.lineOk n l = true ∧ 1 < s.hst n ∧ s.undelivered n 0 (some l) (some goal.toNat) = none ∧
      (((s.head n).frame : Int) < goal ∨ (goal = ((s.head n).frame : Int) ∧ (s.head n).line < l))) :=
  ⟨⟨0, ((ww (ins 0x38 5 0 0 16)).setEvt 0 16 (some (3,5))), ((3, 5)), by repeat' first | decide +kernel | constructor⟩,
   ⟨0, ((ww (ins 0x38 5 0 0 16)).setEvt 0 16 (some (3,99999))), ((3, 99999)), by repeat' first | decide +kernel | constructor⟩,
   ⟨0, (ww (ins 0x38 5 0 0 16)), by repeat' first | decide +kernel | constructor⟩,
   ⟨0, (ww (ins 0x38 5 0 0 0)), by repeat' first | decide +kernel | constructor⟩,
   ⟨0, (rnh (ww (ins 0x38 5 0 0 0))), by repeat' first | decide +kernel | constructor⟩,
   ⟨0, (ww (ins 0x39 5 6 0 0)), by repeat' first | decide +kernel | constructor⟩,
   ⟨0, (rnh (ww (ins 0x39 5 6 0 0))), by repeat' first | decide +kernel | constructor⟩,
   ⟨0, (sc 5 (ww (ins 0x3A 5 6 0 0))), by repeat' first | decide +kernel | constructor⟩,
   ⟨0, (sc 4 (ww (ins 0x3A 5 6 0 0))), by repeat' first | decide +kernel | constructor⟩,
   ⟨0, (sc 6 (ie (ww (ins 0x3A 5 6 0 0)))), by repeat' first | decide +kernel | constructor⟩,
   ⟨0, (ie ((sc 8 (ww (ins 0x3A 5 6 0 0))).set (F.CU_LATE_WIN_NS 0) 1)), by repeat' first | decide +kernel | constructor⟩,
   ⟨0, (ww (ins 0x3B 5 6 0 7)), by repeat' first | decide +kernel | constructor⟩,
   ⟨0, (rnh (ww (ins 0x3B 5 6 0 7))), by repeat' first | decide +kernel | constructor⟩⟩

end CueWaitsBegin

/-- Every clause of part 2 of Obligations.CueWaits can be met. -/
theorem witness_CueWaits_2 :
    (∃ n : Fin 24, ∃ kind : WaitKind, ∃ rd : Nat, ∃ since : Nat, ∃ data : Nat, ∃ at_ : Nat, ∃ s : State, 
      let hit := (s.cue n).wait = some ⟨kind, rd, since, some (data, false, at_)⟩ ∧ at_ + 2 ≤ s.tick
      let timed := (∃ t, kind = .until t) ∨ ∃ x y, kind = .frameLine x y
      rd < 32 ∧ s.cpc n ≠ 16383 ∧ hit ∧ s.cst n = 2 ∧ (¬ timed) ∧ ((∀ h, kind ≠ .commit h))) ∧
    (∃ n : Fin 24, ∃ kind : WaitKind, ∃ rd : Nat, ∃ since : Nat, ∃ data : Nat, ∃ at_ : Nat, ∃ s : State, 
      let hit := (s.cue n).wait = some ⟨kind, rd, since, some (data, false, at_)⟩ ∧ at_ + 2 ≤ s.tick
      let timed := (∃ t, kind = .until t) ∨ ∃ x y, kind = .frameLine x y
      rd < 32 ∧ s.cpc n ≠ 16383 ∧ hit ∧ s.cst n = 2 ∧ timed ∧ data ≠ 2 ^ 40 - 1) ∧
    (∃ n : Fin 24, ∃ kind : WaitKind, ∃ rd : Nat, ∃ since : Nat, ∃ data : Nat, ∃ at_ : Nat, ∃ s : State, 
      let hit := (s.cue n).wait = some ⟨kind, rd, since, some (data, false, at_)⟩ ∧ at_ + 2 ≤ s.tick
      ∃ h, rd < 32 ∧ s.cpc n ≠ 16383 ∧ hit ∧ s.cst n = 2 ∧ kind = .commit h) ∧
    (∃ n : Fin 24, ∃ kind : WaitKind, ∃ rd : Nat, ∃ since : Nat, ∃ data : Nat, ∃ at_ : Nat, ∃ s : State, 
      let hit := (s.cue n).wait = some ⟨kind, rd, since, some (data, false, at_)⟩ ∧ at_ + 2 ≤ s.tick
      rd < 32 ∧ s.cpc n ≠ 16383 ∧ hit ∧ s.cst n = 3) ∧
    (∃ n : Fin 24, ∃ rd : Nat, ∃ s : State, rd < 32 ∧ s.cpc n ≠ 16383 ∧ ((s.cue n).wait = none ∨ (∃ k r t, (s.cue n).wait = some ⟨k, r, t, none⟩))) :=
  ⟨⟨0, (.device 16), 5, 1000, 3, 1000, ((base.set (F.CU_STAT_STATE 0) 2).updCue 0 fun c => {c with wait := some ⟨(.device 16), 5, 1000, some (3, false, 1000)⟩}), by repeat' first | apply And.intro | (rintro (⟨t, h⟩ | ⟨x, y, h⟩) <;> cases h) | (intro h e; cases e; done) | decide +kernel | constructor⟩,
   ⟨0, (.until 5), 5, 1000, 3, 1000, ((base.set (F.CU_STAT_STATE 0) 2).updCue 0 fun c => {c with wait := some ⟨(.until 5), 5, 1000, some (3, false, 1000)⟩}), by repeat' first | apply And.intro | (rintro (⟨t, h⟩ | ⟨x, y, h⟩) <;> cases h) | (intro h e; cases e; done) | decide +kernel | constructor⟩,
   ⟨0, (.commit 0), 5, 1000, 3, 1000, ((base.set (F.CU_STAT_STATE 0) 2).updCue 0 fun c => {c with wait := some ⟨(.commit 0), 5, 1000, some (3, false, 1000)⟩}), 0, by repeat' first | apply And.intro | (rintro (⟨t, h⟩ | ⟨x, y, h⟩) <;> cases h) | (intro h e; cases e; done) | decide +kernel | constructor⟩,
   ⟨0, (.device 16), 5, 1000, 3, 1000, ((base.set (F.CU_STAT_STATE 0) 3).updCue 0 fun c => {c with wait := some ⟨(.device 16), 5, 1000, some (3, false, 1000)⟩}), by repeat' first | apply And.intro | (rintro (⟨t, h⟩ | ⟨x, y, h⟩) <;> cases h) | (intro h e; cases e; done) | decide +kernel | constructor⟩,
   ⟨0, 0, ((base.set (F.CU_STAT_STATE 0) 2).updCue 0 fun c => {c with wait := some ⟨(.device 16), 5, 1000, none⟩}), ⟨by decide +kernel, by decide +kernel, Or.inr ⟨.device 16, 5, 1000, rfl⟩⟩⟩⟩

namespace CueEnginesAreControlled

def w (k : WaitKind) (st : Nat) := ((base.set (F.CU_STAT_STATE 0) st).updCue 0 fun c => {c with wait := some ⟨k, 5, 1000, none⟩})

/-- Every clause of Obligations.CueEnginesAreControlled can be met. -/
theorem witness_CueEnginesAreControlled :
    (∃ o : Origin, ∃ n : Fin 24, ∃ s : State, 
      let may (w : Word) := Reaches s o (.CU_CTRL, [n.val]) w
      let ready := s.cst n = 0 ∧ s.get (F.CU_IMG_LEVEL n) ≠ 0
      may (w32 0x70001) ∧ ready) ∧
    (∃ o : Origin, ∃ n : Fin 24, ∃ s : State, 
      let may (w : Word) := Reaches s o (.CU_CTRL, [n.val]) w
      let off := s.get (F.CU_IMG_LEVEL n) = 0 ∨ s.cst n = 3
      may (w32 0x70001) ∧ off) ∧
    (∃ o : Origin, ∃ n : Fin 24, ∃ s : State, 
      let may (w : Word) := Reaches s o (.CU_CTRL, [n.val]) w
      let ready := s.cst n = 0 ∧ s.get (F.CU_IMG_LEVEL n) ≠ 0
      may (w32 0x70003) ∧ ready) ∧
    (∃ o : Origin, ∃ n : Fin 24, ∃ s : State, 
      let may (w : Word) := Reaches s o (.CU_CTRL, [n.val]) w
      let off := s.get (F.CU_IMG_LEVEL n) = 0 ∨ s.cst n = 3
      may (w32 0x70003) ∧ off) ∧
    (∃ o : Origin, ∃ n : Fin 24, ∃ resume : Bool, ∃ s : State, 
      let may (w : Word) := Reaches s o (.CU_CTRL, [n.val]) w
      let ready := s.cst n = 0 ∧ s.get (F.CU_IMG_LEVEL n) ≠ 0
      may (w32 (0x70005 + 2 * b2n resume)) ∧ ready) ∧
    (∃ o : Origin, ∃ n : Fin 24, ∃ s : State, 
      let may (w : Word) := Reaches s o (.CU_CTRL, [n.val]) w
      may (w32 0x10000) ∧ s.cst n = 1) ∧
    (∃ o : Origin, ∃ n : Fin 24, ∃ s : State, 
      let may (w : Word) := Reaches s o (.CU_CTRL, [n.val]) w
      may (w32 0x10000) ∧ s.cst n = 2 ∧ ((∀ x h, (s.cue n).wait = some x → x.kind ≠ .commit h))) ∧
    (∃ o : Origin, ∃ n : Fin 24, ∃ s : State, 
      let may (w : Word) := Reaches s o (.CU_CTRL, [n.val]) w
      ∃ x, ∃ h, may (w32 0x10000) ∧ s.cst n = 2 ∧ (s.cue n).wait = some x ∧ x.kind = .commit h) ∧
    (∃ o : Origin, ∃ n : Fin 24, ∃ s : State, 
      let may (w : Word) := Reaches s o (.CU_CTRL, [n.val]) w
      may (w32 0x10000) ∧ s.cst n = 0) ∧
    (∃ o : Origin, ∃ n : Fin 24, ∃ v : Word, ∃ s : State, Reaches s o (.CU_DOORBELL, [n.val]) v ∧ (s.cue n).wait = none) ∧
    (∃ o : Origin, ∃ n : Fin 24, ∃ v : Word, ∃ s : State, ∃ rd, ∃ since, Reaches s o (.CU_DOORBELL, [n.val]) v ∧
      (s.cue n).wait = some ⟨.device 16, rd, since, none⟩) ∧
    (∃ o : Origin, ∃ n : Fin 24, ∃ i : Fin 16, ∃ v : Word, ∃ s : State, Reaches s o (.CU_PARAM, [n.val, i.val]) v ∧ (s.cue n).wait = none) ∧
    (∃ o : Origin, ∃ n : Fin 24, ∃ v : Word, ∃ s : State, Reaches s o (.CU_IMG, [n.val]) v ∧ s.cst n = 0 ∧ bits v 15 0 ∈ [0, 0x100, 0x101, 0x102]) ∧
    (∃ o : Origin, ∃ n : Fin 24, ∃ v : Word, ∃ s : State, Reaches s o (.CU_IMG, [n.val]) v ∧ s.cst n = 0 ∧ bits v 15 0 ∉ [0, 0x100, 0x101, 0x102]) :=
  ⟨⟨(Origin.pf 0), 0, (base.set (F.CU_STAT_STATE 0) 0), by repeat' first | decide +kernel | constructor⟩,
   ⟨(Origin.pf 0), 0, ((base.set (F.CU_STAT_STATE 0) 0).set (F.CU_IMG_LEVEL 0) 0), by repeat' first | decide +kernel | constructor⟩,
   ⟨(Origin.pf 0), 0, (base.set (F.CU_STAT_STATE 0) 0), by repeat' first | decide +kernel | constructor⟩,
   ⟨(Origin.pf 0), 0, ((base.set (F.CU_STAT_STATE 0) 0).set (F.CU_IMG_LEVEL 0) 0), by repeat' first | decide +kernel | constructor⟩,
   ⟨(Origin.pf 0), 0, true, (base.set (F.CU_STAT_STATE 0) 0), by repeat' first | decide +kernel | constructor⟩,
   ⟨(Origin.pf 0), 0, base, by repeat' first | decide +kernel | constructor⟩,
   ⟨(Origin.pf 0), 0, (base.set (F.CU_STAT_STATE 0) 2), by refine ⟨⟨by decide +kernel, by decide +kernel, nofun⟩, by decide +kernel, fun x h e => ?_⟩; cases (show none = some x from e)⟩,
   ⟨(Origin.pf 0), 0, (w (.commit 0) 2), { kind := WaitKind.commit 0, rd := 5, since := 1000, hit := none }, 0, by repeat' first | decide +kernel | constructor⟩,
   ⟨(Origin.pf 0), 0, (base.set (F.CU_STAT_STATE 0) 0), by repeat' first | decide +kernel | constructor⟩,
   ⟨(Origin.pf 0), 0, (0x00070001#32), base, by repeat' first | decide +kernel | constructor⟩,
   ⟨(Origin.pf 0), 0, (0x00070001#32), (w (.device 16) 2), 5, 1000, by repeat' first | decide +kernel | constructor⟩,
   ⟨(Origin.pf 0), 0, 0, (0x00070001#32), base, by repeat' first | decide +kernel | constructor⟩,
   ⟨(Origin.pf 0), 0, (0x00000101#32), (base.set (F.CU_STAT_STATE 0) 0), by repeat' first | decide +kernel | constructor⟩,
   ⟨(Origin.pf 0), 0, (0x00070001#32), (base.set (F.CU_STAT_STATE 0) 0), by repeat' first | decide +kernel | constructor⟩⟩

end CueEnginesAreControlled

/-- Every clause of part 2 of Obligations.CueMemories can be met. -/
theorem witness_CueMemories_2 :
    (∃ o : Origin, ∃ n : Fin 24, ∃ s : State, 
      let ix (t : State) := t.get (F.CU_DM_IDX_INDEX n)
      let x := ix s
      Answers s o (.CU_DM_LO, [n.val]) ∧ s.eccAt (dmKey n x) ≠ 2) ∧
    (∃ o : Origin, ∃ n : Fin 24, ∃ s : State, Answers s o (.CU_DM_HI, [n.val])) ∧
    (∃ o : Origin, ∃ n : Fin 24, ∃ v : Word, ∃ s : State, Reaches s o (.CU_DM_LO, [n.val]) v) ∧
    (∃ o : Origin, ∃ n : Fin 24, ∃ v : Word, ∃ s : State, Reaches s o (.CU_DM_HI, [n.val]) v) ∧
    (∃ o : Origin, ∃ p : Fin 4, ∃ s : State, 
      let sx (t : State) := t.get (F.CUS_SCR_IDX_INDEX p.val)
      Answers s o (.CUS_SCR_DATA, [p.val]) ∧ s.eccAt (scrKey (sx s)) ≠ 2) ∧
    (∃ o : Origin, ∃ p : Fin 4, ∃ v : Word, ∃ s : State, Reaches s o (.CUS_SCR_DATA, [p.val]) v) :=
  ⟨⟨(Origin.pf 0), 0, base, by repeat' first | decide +kernel | constructor⟩,
   ⟨(Origin.pf 0), 0, base, by repeat' first | decide +kernel | constructor⟩,
   ⟨(Origin.pf 0), 0, (0x00070001#32), base, by repeat' first | decide +kernel | constructor⟩,
   ⟨(Origin.pf 0), 0, (0x00070001#32), base, by repeat' first | decide +kernel | constructor⟩,
   ⟨(Origin.pf 0), 0, base, by repeat' first | decide +kernel | constructor⟩,
   ⟨(Origin.pf 0), 0, (0x00070001#32), base, by repeat' first | decide +kernel | constructor⟩⟩

end CueAccess

namespace Bus

def noperm (s : State) : State := (s.wr (.DV_PERM_LO,[1]) 0).wr (.DV_PERM_HI,[1]) 0

/-- Every clause of part 1 of Obligations.WritesStoreOrAreTurnedAway can be met. -/
theorem witness_WritesStoreOrAreTurnedAway_1 :
    (∃ o : Origin, ∃ a : Nat, ∃ v : Word, ∃ s : State, ∃ k : Key, decodeAddr a = .reg k ∧ a < 2 ^ 26 ∧ special.contains k.1 = false ∧
      slowCode k = none ∧ Reaches s o k v ∧ Unlocked s k ∧ ((∀ f ∈ (regDef k.1).fields, f.acc ≠ .w1)) ∧ fieldsApart (regDef k.1).fields = true ∧
      emptyMask (.reg k) v 15 = false ∧ ((∀ w, s.valueRule k w = .ok))) :=
  ⟨(Origin.pf 0), 4194376, (0x5678abcd#32), up, ((Reg.DT_GLY_IDX, [])), by repeat' first | exact fun _ => rfl | apply And.intro | decide +kernel | constructor⟩

/-- Every clause of part 2 of Obligations.WritesStoreOrAreTurnedAway can be met. -/
theorem witness_WritesStoreOrAreTurnedAway_2 :
    (∃ a : Nat, ∃ be : BitVec 4, ∃ s : State, a < 2 ^ 26 ∧ s.served = true ∧ be.toNat ≠ 0 ∧ decodeAddr a = .reserved) ∧
    (∃ o : Origin, ∃ a : Nat, ∃ v : Word, ∃ be : BitVec 4, ∃ s : State, ∃ k, a < 2 ^ 26 ∧ s.served = true ∧ be.toNat = 15 ∧ decodeAddr a = .reg k ∧
      emptyMask (.reg k) v 15 = false ∧ s.slowFull (.reg k) = none ∧ s.rights o ((keyHdr k).headD 0) ≠ 3) ∧
    (∃ o : Origin, ∃ a : Nat, ∃ be : BitVec 4, ∃ s : State, ∃ k, a < 2 ^ 26 ∧ s.served = true ∧ be.toNat ≠ 0 ∧ be.toNat ≠ 15 ∧ decodeAddr a = .reg k ∧
      s.slowFull (.reg k) = none ∧ s.rights o ((keyHdr k).headD 0) = 3) ∧
    (∃ a : Nat, ∃ be : BitVec 4, ∃ s : State, a < 2 ^ 26 ∧ (be.toNat = 0 ∨ s.served = false)) :=
  ⟨⟨67108860, (0x3#4), up, by decide +kernel⟩,
   ⟨(Origin.pf 1), 4194376, (0xffffffff#32), (0xf#4), up, ((Reg.DT_GLY_IDX, [])), by decide +kernel⟩,
   ⟨(Origin.pf 0), 4194376, (0x3#4), up, ((Reg.DT_GLY_IDX, [])), by decide +kernel⟩,
   ⟨4194376, (0x0#4), up, by decide +kernel⟩⟩

/-- Every clause of part 1 of Obligations.ReadsAndStatusWords can be met. -/
theorem witness_ReadsAndStatusWords_1 :
    (∃ o : Origin, ∃ a : Nat, ∃ s : State, ∃ k : Key, ∃ i, ∃ n, decodeAddr a = .reg k ∧ a % 4 = 0 ∧ a < 2 ^ 26 ∧ 0 < n ∧ i + n ≤ 4 ∧ Answers s o k ∧
      slowCode k = none ∧ k.1 ≠ .xx_STATUS ∧ (¬ [Reg.SL_SEQ_LO, .TB_TIME_SL, .TB_TSQ_POP, .LT_BITS_LO, .LT_ERRORS, .CK_RUN].contains k.1) ∧
      (¬ [Reg.CU_DM_LO, .CU_DM_HI, .CUS_SCR_DATA, .DT_GLY_DATA].contains k.1) ∧ fieldsApart (regDef k.1).fields = true) ∧
    (∃ o : Origin, ∃ a : Nat, ∃ s : State, ∃ k : Key, decodeAddr a = .reg k ∧ Answers s o k ∧ slowCode k = none ∧ k.1 = .xx_STATUS ∧
      s.get ⟨(.xx_STATUS_MODE, k.2), 0, 0⟩ = 1) ∧
    (∃ o : Origin, ∃ a : Nat, ∃ s : State, ∃ k : Key, decodeAddr a = .reg k ∧ s.readable = true ∧ s.rights o ((keyHdr k).headD 0) = 0 ∧ k.1 ≠ .CK_RUN) :=
  ⟨⟨(Origin.pf 0), 4194376, up, ((Reg.DT_GLY_IDX, [])), 0, 1, by repeat' first | decide +kernel | constructor⟩,
   ⟨(Origin.pf 0), 2097168, (up.set ⟨(.xx_STATUS_MODE, [13, 0]), 0, 0⟩ 1), ((Reg.xx_STATUS, [13, 0])), by repeat' first | decide +kernel | constructor⟩,
   ⟨(Origin.pf 1), 4194376, (noperm up), ((Reg.DT_GLY_IDX, [])), by decide +kernel⟩⟩

namespace StatusClearBySeq

def sk : Key := (.xx_STATUS, [13, 0])

/-- Every clause of part 2 of Obligations.ReadsAndStatusWords can be met. -/
theorem witness_ReadsAndStatusWords_2 :
    (∃ o : Origin, ∃ a : Nat, ∃ v : Word, ∃ s : State, ∃ b : List Nat, decodeAddr a = .reg (.xx_STATUS, b) ∧ Reaches s o (.xx_STATUS, b) v ∧
      slowCode (.xx_STATUS, b) = none ∧ s.get ⟨(.xx_STATUS_MODE, b), 0, 0⟩ = 0) :=
  ⟨(Origin.pf 0), 2097168, (0x05ffffff#32), (up.wr sk (w32 0x05005678)), [13, 0], by repeat' first | decide +kernel | constructor⟩

end StatusClearBySeq

namespace SlowWritesWaitAndArrive

def q1 (k : Key) (v : Nat) (l : List (Org × Nat × Nat)) (s : State) : State := { s with slowQ := [(11, (orgOf (.pf 0), keyAddr k, v) :: l)] }

def fullq (s : State) : State := { s with slowQ := [(11, List.replicate 16 ({}, 0, 0))] }

def lkd (s : State) : State := s.wr (.xx_LOCK, [4,0]) 1

/-- Every clause of Obligations.SlowWritesWaitAndArrive can be met. -/
theorem witness_SlowWritesWaitAndArrive :
    (∃ o : Origin, ∃ a : Nat, ∃ v : Word, ∃ s : State, ∃ k : Key, ∃ c : Nat, decodeAddr a = .reg k ∧ a < 2 ^ 26 ∧ slowCode k = some c ∧
      Reaches s o k v ∧ emptyMask (.reg k) v 15 = false ∧ (mget slowD s.slowQ c).length < 16 ∧ (s.slowJudge c k v).judge ≠ .viol ∧ k.1 ≠ .xx_AGE) ∧
    (∃ o : Origin, ∃ a : Nat, ∃ v : Word, ∃ s : State, ∃ k : Key, ∃ c : Nat, decodeAddr a = .reg k ∧ a < 2 ^ 26 ∧ slowCode k = some c ∧
      Reaches s o k v ∧ emptyMask (.reg k) v 15 = false ∧ (mget slowD s.slowQ c).length < 16 ∧ (s.slowJudge c k v).judge = .viol ∧ k.1 ≠ .xx_REFUSED) ∧
    (∃ o : Origin, ∃ a : Nat, ∃ v : Word, ∃ s : State, ∃ k : Key, ∃ c : Nat, decodeAddr a = .reg k ∧ a < 2 ^ 26 ∧ slowCode k = some c ∧
      Reaches s o k v ∧ emptyMask (.reg k) v 15 = false ∧ 16 ≤ (mget slowD s.slowQ c).length) ∧
    (∃ b : SlowBlk, ∃ s : State, ∃ g : Org, ∃ a : Nat, ∃ v : Word, ∃ rest : List (Org × Nat × Nat), ∃ k : Key, mget slowD s.slowQ (slowBlkCode b) = (g, a, v.toNat) :: rest ∧
      mget slowHoldD s.slowHold (slowBlkCode b) = [] ∧ s.dv.heldWrites = false ∧ s.dv.railsOff = false ∧ decodeAddr a = .reg k ∧
      special.contains k.1 = false ∧ Unlocked s k ∧ ((∀ f ∈ (regDef k.1).fields, f.acc ≠ .w1)) ∧ slowCode k = some (slowBlkCode b) ∧
      fieldsApart (regDef k.1).fields = true ∧ ((∀ w, s.valueRule k w = .ok))) :=
  ⟨⟨(Origin.pf 0), 721156, (0x00101010#32), up, ((Reg.SPP_LIMITS, [0])), 11, by repeat' first | decide +kernel | constructor⟩,
   ⟨(Origin.pf 0), 262216, (0x00101010#32), (lkd up), ((Reg.PS_SP_FLOOR, [])), 4, by repeat' first | decide +kernel | constructor⟩,
   ⟨(Origin.pf 0), 721156, (0x00101010#32), (fullq up), ((Reg.SPP_LIMITS, [0])), 11, by repeat' first | decide +kernel | constructor⟩,
   ⟨SlowBlk.sp, (q1 (.SPP_LIMITS, [0]) 0x101010 [] up), { cls := 1, det := 0 }, 721156, (0x00101010#32), [], ((Reg.SPP_LIMITS, [0])), by repeat' first | exact fun _ => rfl | apply And.intro | decide +kernel | constructor⟩⟩

end SlowWritesWaitAndArrive

end Bus

namespace Snapshots

/-- Every clause of part 1 of Obligations.Snapshots can be met. -/
theorem witness_Snapshots_1 :
    (∃ o : Origin, ∃ v : Word, ∃ s : State, Reaches s o (.DV_SNAP, []) v ∧ s.flag F.DV_SNAP_STAT_BUSY = false) ∧
    (∃ o : Origin, ∃ v : Word, ∃ s : State, Reaches s o (.DV_SNAP, []) v ∧ s.flag F.DV_SNAP_STAT_BUSY = true) :=
  ⟨⟨(Origin.pf 0), (0x001f0003#32), up, by repeat' first | decide +kernel | constructor⟩,
   ⟨(Origin.pf 0), (0x001f0003#32), (up.set F.DV_SNAP_STAT_BUSY 1), by repeat' first | decide +kernel | constructor⟩⟩

namespace SnapshotsHoldCounters

def sn (m t : Nat) (s : State) : State := {s with dv := {s.dv with snapReq := some (m, t)}}

/-- Every clause of part 2 of Obligations.Snapshots can be met. -/
theorem witness_Snapshots_2 :
    (∃ s : State, ∃ mask : Nat, ∃ t0 : Nat, s.dv.snapReq = some (mask, t0) ∧ s.tick ≤ t0) ∧
    (∃ s : State, ∃ mask : Nat, ∃ t0 : Nat, s.dv.snapReq = some (mask, t0) ∧ t0 < s.tick) :=
  ⟨⟨(sn 1 100000 up), 1, 100000, by decide +kernel⟩,
   ⟨(sn 16 5 (up.wr (.TB_CLAMP, []) 5)), 16, 5, by decide +kernel⟩⟩

end SnapshotsHoldCounters

namespace SnapshotsWriteTheirPage

def b (l : List (Nat × List Byte)) (a : Nat) : State := ({(up.set F.DV_SNAP_STAT_BUSY 1) with dv := {up.dv with snapPage := l}}).set F.DV_SNAP_BASE_LO_ADDR a

/-- Every clause of part 3 of Obligations.Snapshots can be met. -/
theorem witness_Snapshots_3 :
    (∃ s : State, s.flag F.DV_SNAP_STAT_BUSY = true ∧ s.dv.snapReq = none) :=
  ⟨(b [] 0), by decide +kernel⟩

end SnapshotsWriteTheirPage

/-- Every clause of Obligations.PermissionsAreWrittenOnce can be met. -/
theorem witness_PermissionsAreWrittenOnce :
    (∃ o : Origin, ∃ slot : Fin 32, ∃ hi : Bool, ∃ s : State, 
      let k : Key := (if hi then .DV_PERM_HI else .DV_PERM_LO, [slot.val])
      let n := if hi then 5 else 16
      let marks := bits (mget (fun _ => 0) s.w1 k) (2 * n - 1) 0
      let fixed := slot.val = 0 ∨ (20 ≤ slot.val ∧ slot.val < 24) ∨ slot.val = 31
      s.served = true ∧ o = .pf 0 ∧ s.rights o 0 = 3 ∧ (¬ fixed) ∧ marks = 0) ∧
    (∃ o : Origin, ∃ slot : Fin 32, ∃ hi : Bool, ∃ v : Word, ∃ s : State, 
      let k : Key := (if hi then .DV_PERM_HI else .DV_PERM_LO, [slot.val])
      let n := if hi then 5 else 16
      let pairs (w : Word) (i : Nat) := bits w (2 * i + 1) (2 * i)
      let kept (i : Nat) := if pairs v i = 2 then 1 else pairs v i
      let marks := bits (mget (fun _ => 0) s.w1 k) (2 * n - 1) 0
      let fixed := slot.val = 0 ∨ (20 ≤ slot.val ∧ slot.val < 24) ∨ slot.val = 31
      s.served = true ∧ o = .pf 0 ∧ s.rights o 0 = 3 ∧ (¬ fixed) ∧ marks ≠ 0 ∧ ((∃ i, i < n ∧ kept i ≠ pairs (s.rd k) i))) ∧
    (∃ o : Origin, ∃ slot : Fin 32, ∃ s : State, 
      let fixed := slot.val = 0 ∨ (20 ≤ slot.val ∧ slot.val < 24) ∨ slot.val = 31
      s.served = true ∧ ((orgOf o).cls ≠ 1 ∨ fixed)) :=
  ⟨⟨(Origin.pf 0), 1, true, up, by decide +kernel⟩,
   ⟨(Origin.pf 0), 1, true, (0x00000000#32), (nx (.permWrite (.pf 0) 1 true (w32 0xE4E4E4E4)) (nx (.permWrite (.pf 0) 1 false (w32 0xE4E4E4E4)) up)), by decide +kernel⟩,
   ⟨(Origin.pf 0), 0, up, by decide +kernel⟩⟩

/-- Every clause of part 1 of Obligations.PcieFunctions can be met. -/
theorem witness_PcieFunctions_1 :
    (∃ f : Fin 4, ∃ s : State, s.barOpen f.val = true) ∧
    (∃ f : Fin 4, ∃ s : State, s.barOpen f.val = false) ∧
    (∃ f : Fin 4, ∃ a : Nat, ∃ n : Nat, ∃ s : State, s.barOpen f.val = true ∧ s.badIn (a % memSize) n = false) ∧
    (∃ f : Fin 4, ∃ a : Nat, ∃ n : Nat, ∃ s : State, s.barOpen f.val = true ∧ s.badIn (a % memSize) n = true) ∧
    (∃ f : Fin 4, ∃ i : Nat, ∃ j : Nat, ∃ s : State, i < 256 ∧ j < 4 ∧ s.dv.pcieUp = true ∧ f.val ∉ s.dv.flr ∧ s.irqOwed = []) ∧
    (∃ f : Fin 4, ∃ i : Nat, ∃ j : Nat, ∃ s : State, i < 256 ∧ j < 4 ∧ s.dv.pcieUp = true ∧ f.val ∉ s.dv.flr) ∧
    (∃ f : Fin 4, ∃ i : Nat, ∃ b : Nat, ∃ s : State, i < 8 ∧ b < 32 ∧ s.dv.pcieUp = true ∧ f.val ∉ s.dv.flr) :=
  ⟨⟨0, up, by decide +kernel⟩,
   ⟨0, {up with dv := {up.dv with flr := [0,1,2,3]}}, by decide +kernel⟩,
   ⟨0, 0, 0, up, by decide +kernel⟩,
   ⟨0, 0, 33, {up with bad := [(1, true)]}, by decide +kernel⟩,
   ⟨0, 0, 0, up, by decide +kernel⟩,
   ⟨0, 0, 0, up, by decide +kernel⟩,
   ⟨0, 0, 0, up, by decide +kernel⟩⟩

/-- Every clause of part 1 of Obligations.LogAndCellar can be met. -/
theorem witness_LogAndCellar_1 :
    (∃ o : Origin, ∃ v : Word, ∃ s : State, 
      let q := bits v 15 0 * 2 ^ 32 + s.get F.SL_RD_SEQ_LO_SEQ
      ∃ e, Reaches s o (.SL_RD_SEQ_HI, []) v ∧ s.sl.ring.find? (fun e => e.1 == q) = some e) ∧
    (∃ o : Origin, ∃ v : Word, ∃ s : State, 
      let q := bits v 15 0 * 2 ^ 32 + s.get F.SL_RD_SEQ_LO_SEQ
      Reaches s o (.SL_RD_SEQ_HI, []) v ∧ s.sl.ring.find? (fun e => e.1 == q) = none) ∧
    (∃ o : Origin, ∃ s : State, Answers s o (.SL_SEQ_LO, [])) :=
  ⟨⟨(Origin.pf 0), (0x00000000#32), (({up with sl := {up.sl with ring := [(7, {seq := 7, kind := 3, a := 0x12345678})], next := 0x123456789}}).set F.SL_RD_SEQ_LO_SEQ 7), ((7, { seq := 7, latch := false, kind := 3, flags := 0, sec := 0, ns := 0, be := 15, org := { cls := 0, det := 0 }, a := 305419896, b := 0 })), by repeat' first | decide +kernel | constructor⟩,
   ⟨(Origin.pf 0), (0x00000000#32), up, by repeat' first | decide +kernel | constructor⟩,
   ⟨(Origin.pf 0), up, by repeat' first | decide +kernel | constructor⟩⟩

end Snapshots

namespace Boot

def dvs (s : State) (f : DvSt → DvSt) : State := { s with dv := f s.dv }

def run0 (n st : Nat) (s : State) : State := s.set (F.HD_STAT_STATE n) st

def cfg (s : State) : State := ((((s.wr (.CU_IMG, [3]) 0x102).wr (.PS_LIMITS, []) 0x123).wr (.HD_CTRL, [0]) 2).wr (.DV_SNAP_ID, []) 9).wr
  (.TB_INC_LO, []) 77

def cel (s : State) : State := s.set F.CL_STAT_HEALTHY 1

/-- Every clause of part 1 of Obligations.ShutdownAndPowerLoss can be met. -/
theorem witness_ShutdownAndPowerLoss_1 :
    (∃ o : Origin, ∃ s : State, Undisturbed s ∧ ((∀ v, Reaches s o (.DV_CTRL, []) v))) ∧
    (∃ o : Origin, ∃ s : State, Undisturbed s ∧ s.anyRunning = false ∧ ((∀ v, Reaches s o (.DV_CTRL, []) v))) ∧
    (∃ o : Origin, ∃ s : State, s.anyRunning = true ∧ ((∀ v, Reaches s o (.DV_CTRL, []) v))) ∧
    (∃ o : Origin, ∃ s : State, s.shutForced = true ∧ s.mode ≠ 11 ∧ ((∀ v, Reaches s o (.DV_CTRL, []) v))) ∧
    (∃ o : Origin, ∃ s : State, s.shutForced = false ∧ s.mode ≠ 11 ∧ ((∀ v, Reaches s o (.DV_CTRL, []) v))) :=
  ⟨⟨(Origin.pf 0), up, by repeat' first | exact fun w => reaches w (by decide +kernel) (by decide +kernel) (fun _ => nofun) | apply And.intro | decide +kernel | constructor⟩,
   ⟨(Origin.pf 0), up, by repeat' first | exact fun w => reaches w (by decide +kernel) (by decide +kernel) (fun _ => nofun) | apply And.intro | decide +kernel | constructor⟩,
   ⟨(Origin.pf 0), (run0 3 1 (run0 0 2 (run0 5 4 up))), by repeat' first | exact fun w => reaches w (by decide +kernel) (by decide +kernel) (fun _ => nofun) | apply And.intro | decide +kernel | constructor⟩,
   ⟨(Origin.pf 0), (dvs (run0 3 1 (run0 0 2 up)) (fun d => {d with warnTick := some 5, warnLow := true})), by repeat' first | exact fun w => reaches w (by decide +kernel) (by decide +kernel) (fun _ => nofun) | apply And.intro | decide +kernel | constructor⟩,
   ⟨(Origin.pf 0), up, by repeat' first | exact fun w => reaches w (by decide +kernel) (by decide +kernel) (fun _ => nofun) | apply And.intro | decide +kernel | constructor⟩⟩

/-- Every clause of part 1 of Obligations.Resets can be met. -/
theorem witness_Resets_1 :
    (∃ o : Origin, ∃ key : BitVec 16, ∃ s : State, 
      let may := (orgOf o).cls = 1 ∨ (orgOf o).cls = 0x31
      key = 0xA5C3 ∧ may ∧ s.mode ≠ 11 ∧ ((∀ v, Reaches s o (.DV_RESET, []) v))) ∧
    (∃ o : Origin, ∃ key : BitVec 16, ∃ s : State, key = 0xA5C3 ∧ s.mode = 11 ∧ ((∀ v, Reaches s o (.DV_RESET, []) v))) ∧
    (∃ o : Origin, ∃ key : BitVec 16, ∃ s : State, 
      let may := (orgOf o).cls = 1 ∨ (orgOf o).cls = 0x31
      key = 0xA5C3 ∧ may ∧ ((∀ v, Reaches s o (.DV_RESET, []) v))) ∧
    (∃ o : Origin, ∃ key : BitVec 16, ∃ s : State, 
      let may := (orgOf o).cls = 1 ∨ (orgOf o).cls = 0x31
      (key ≠ 0xA5C3 ∨ ¬ may) ∧ ((∀ v, Reaches s o (.DV_RESET, []) v))) :=
  ⟨⟨(Origin.pf 0), (0xa5c3#16), up, by repeat' first | exact fun w => reaches w (by decide +kernel) (by decide +kernel) (fun _ => nofun) | apply And.intro | decide +kernel | constructor⟩,
   ⟨(Origin.pf 0), (0xa5c3#16), ((dvs up (fun d => {d with shutting := true})).set F.DV_MODE_MODE 11), by repeat' first | exact fun w => reaches w (by decide +kernel) (by decide +kernel) (fun _ => nofun) | apply And.intro | decide +kernel | constructor⟩,
   ⟨(Origin.pf 0), (0xa5c3#16), up, by repeat' first | exact fun w => reaches w (by decide +kernel) (by decide +kernel) (fun _ => nofun) | apply And.intro | decide +kernel | constructor⟩,
   ⟨(Origin.pf 0), (0x0000#16), up, by repeat' first | exact fun w => reaches w (by decide +kernel) (by decide +kernel) (fun _ => nofun) | apply And.intro | decide +kernel | constructor⟩⟩

namespace WarmResetsKeepWhatTheyKeep

def rq (k t q r : Nat) (s : State) : State := dvs s fun d => { d with rstReq := some ⟨k, t, q, r⟩ }

/-- Every clause of part 2 of Obligations.Resets can be met. -/
theorem witness_Resets_2 :
    (∃ s : State, ∃ r : ResetReq, s.dv.rstReq = some r ∧ (r.kind = 1 ∨ r.kind = 3) ∧ s.resetReady r = true ∧
      (s.healthy = false ∨ s.cl.sealDone = true) ∧ s.mode ≠ 11) ∧
    (∃ s : State, ∃ r : ResetReq, s.dv.rstReq = some r ∧ (r.kind = 1 ∨ r.kind = 3) ∧ (s.resetReady r = false ∨ s.mode = 11)) :=
  ⟨⟨(rq 1 5 0 0 (cfg up)), ⟨1, 5, 0, 0⟩, by decide +kernel⟩,
   ⟨(rq 3 99999 0 0 up), ⟨3, 99999, 0, 0⟩, by decide +kernel⟩⟩

end WarmResetsKeepWhatTheyKeep

namespace BootReachesTheCellar

def r0 : State := State.reset

def stored : State := (cel up).putRecord 16 (.time 5 6 7 true) |>.putRecord 16 (.time 9 6 7 true) |>.putRecord 17 (.time 9 6 7 true)

/-- Every clause of part 1 of Obligations.BootRunsInOrder can be met. -/
theorem witness_BootRunsInOrder_1 :
    (∃ s : State, s.dv.step = 0 ∧ s.dv.released = false) ∧
    (∃ s : State, s.dv.step = 0 ∧ s.dv.released = true ∧ s.dv.warnLow = false ∧ s.dv.warnTick = none ∧ s.ps.rails = []) ∧
    (∃ s : State, ∃ w, s.dv.step = 0 ∧ s.dv.warnTick = some w ∧ s.tick < w + 40000000) ∧
    (∃ s : State, ∃ layout : Nat, ∃ bad : List Nat, s.dv.step = 1 ∧ layout < 256 ∧ s.get F.TB_STATE_PLL_LOCK = 0 ∧
      ((∀ l x y, (s.dropSlots bad).record 1 = some (.regs l x y) → ∀ e ∈ l, e.1 = (.DV_BOOT_CFG, [])))) ∧
    (∃ s : State, s.dv.step = 6 ∧ s.fc.clrWait = true) :=
  ⟨⟨r0, by decide +kernel⟩,
   ⟨(dvs r0 (fun d => {d with released := true})), by decide +kernel⟩,
   ⟨(dvs {r0 with tick := 100} (fun d => {d with released := true, warnTick := some 98765})), 98765, by decide +kernel⟩,
   ⟨(dvs r0 (fun d => {d with step := 1, released := true, att := (3, 4), cold := false})), 0, [], by refine ⟨by decide +kernel, by decide +kernel, by decide +kernel, fun l x y h => ?_⟩; cases (show none = some _ from h)⟩,
   ⟨{stored with fc := {up.fc with clrWait := true}}, by decide +kernel⟩⟩

end BootReachesTheCellar

namespace BootStartsTheServices

def bp (v : Nat) : BundlePart := { version := v, silicon := (0, 255), rom := (0, 0xFFFF), cellar := (0, 9), others := [(0, 9), (0, 9), (0, 9), (0, 9), (0, 9)] }

def good1 (v : Word) : SlotCheck := ⟨true, v, true, some 1, [bp 1, bp 2, bp 3, bp 4, bp 5]⟩

def w4 (f : DvSt → DvSt) : State := dvs (((up.set F.DV_BOOT_CFG_MAX_ATT 3).set F.CL_STAT_HEALTHY 1).set F.CL_STAT_LAYOUT 4) fun d => f { d with step := 4, booting := true }

/-- Every clause of part 2 of Obligations.BootRunsInOrder can be met. -/
theorem witness_BootRunsInOrder_2 :
    (∃ s : State, 
      let waits := s.dv.step = 4 ∧ s.dv.booting = true ∧ s.dv.svcSince = none ∧ s.dv.shutting = false ∧ s.fc.shut = false
      waits ∧ nbit s.dv.straps 0 = true) ∧
    (∃ s : State, 
      let waits := s.dv.step = 4 ∧ s.dv.booting = true ∧ s.dv.svcSince = none ∧ s.dv.shutting = false ∧ s.fc.shut = false
      waits ∧ nbit s.dv.straps 0 = false ∧ s.dv.bootMaint = true) ∧
    (∃ s : State, ∃ a : SlotCheck, ∃ b : SlotCheck, 
      let waits := s.dv.step = 4 ∧ s.dv.booting = true ∧ s.dv.svcSince = none ∧ s.dv.shutting = false ∧ s.fc.shut = false
      let good (i : Nat) (c : SlotCheck) := s.slotSound c = true ∧ s.attempts i < s.maxAtt
      waits ∧ nbit s.dv.straps 0 = false ∧ s.dv.bootMaint = false ∧ s.flag F.DV_BOOT_CFG_FORCE_EN = false ∧ good 0 a ∧ good 1 b ∧
      b.version.toNat ≤ a.version.toNat) ∧
    (∃ s : State, ∃ a : SlotCheck, ∃ b : SlotCheck, 
      let waits := s.dv.step = 4 ∧ s.dv.booting = true ∧ s.dv.svcSince = none ∧ s.dv.shutting = false ∧ s.fc.shut = false
      let good (i : Nat) (c : SlotCheck) := s.slotSound c = true ∧ s.attempts i < s.maxAtt
      waits ∧ nbit s.dv.straps 0 = false ∧ s.dv.bootMaint = false ∧ s.flag F.DV_BOOT_CFG_FORCE_EN = false ∧ good 0 a ∧ good 1 b ∧
      a.version.toNat < b.version.toNat) ∧
    (∃ s : State, ∃ a : SlotCheck, ∃ b : SlotCheck, 
      let waits := s.dv.step = 4 ∧ s.dv.booting = true ∧ s.dv.svcSince = none ∧ s.dv.shutting = false ∧ s.fc.shut = false
      let good (i : Nat) (c : SlotCheck) := s.slotSound c = true ∧ s.attempts i < s.maxAtt
      waits ∧ nbit s.dv.straps 0 = false ∧ s.dv.bootMaint = false ∧ s.flag F.DV_BOOT_CFG_FORCE_EN = false ∧ good 0 a ∧ (¬ good 1 b)) ∧
    (∃ s : State, ∃ a : SlotCheck, ∃ b : SlotCheck, 
      let waits := s.dv.step = 4 ∧ s.dv.booting = true ∧ s.dv.svcSince = none ∧ s.dv.shutting = false ∧ s.fc.shut = false
      let good (i : Nat) (c : SlotCheck) := s.slotSound c = true ∧ s.attempts i < s.maxAtt
      waits ∧ nbit s.dv.straps 0 = false ∧ s.dv.bootMaint = false ∧ s.flag F.DV_BOOT_CFG_FORCE_EN = false ∧ (¬ good 0 a) ∧ good 1 b) ∧
    (∃ s : State, ∃ a : SlotCheck, ∃ b : SlotCheck, 
      let waits := s.dv.step = 4 ∧ s.dv.booting = true ∧ s.dv.svcSince = none ∧ s.dv.shutting = false ∧ s.fc.shut = false
      waits ∧ nbit s.dv.straps 0 = false ∧ s.dv.bootMaint = false ∧ s.flag F.DV_BOOT_CFG_FORCE_EN = false ∧ s.slotSound a = false ∧
      s.slotSound b = false) ∧
    (∃ s : State, ∃ a : SlotCheck, ∃ b : SlotCheck, 
      let waits := s.dv.step = 4 ∧ s.dv.booting = true ∧ s.dv.svcSince = none ∧ s.dv.shutting = false ∧ s.fc.shut = false
      let good (i : Nat) (c : SlotCheck) := s.slotSound c = true ∧ s.attempts i < s.maxAtt
      waits ∧ nbit s.dv.straps 0 = false ∧ s.dv.bootMaint = false ∧ s.flag F.DV_BOOT_CFG_FORCE_EN = false ∧ (¬ good 0 a) ∧ (¬ good 1 b) ∧
      (s.slotSound a = true ∨ s.slotSound b = true)) ∧
    (∃ s : State, ∃ a : SlotCheck, ∃ b : SlotCheck, 
      let waits := s.dv.step = 4 ∧ s.dv.booting = true ∧ s.dv.svcSince = none ∧ s.dv.shutting = false ∧ s.fc.shut = false
      let good (i : Nat) (c : SlotCheck) := s.slotSound c = true ∧ s.attempts i < s.maxAtt
      let i := s.get F.DV_BOOT_CFG_FORCE_SLOT
      let c (j : Nat) := if j = 0 then a else b
      waits ∧ nbit s.dv.straps 0 = false ∧ s.dv.bootMaint = false ∧ s.flag F.DV_BOOT_CFG_FORCE_EN = true ∧ good i (c i)) ∧
    (∃ s : State, ∃ a : SlotCheck, ∃ b : SlotCheck, 
      let waits := s.dv.step = 4 ∧ s.dv.booting = true ∧ s.dv.svcSince = none ∧ s.dv.shutting = false ∧ s.fc.shut = false
      let good (i : Nat) (c : SlotCheck) := s.slotSound c = true ∧ s.attempts i < s.maxAtt
      let i := s.get F.DV_BOOT_CFG_FORCE_SLOT
      let c (j : Nat) := if j = 0 then a else b
      waits ∧ nbit s.dv.straps 0 = false ∧ s.dv.bootMaint = false ∧ s.flag F.DV_BOOT_CFG_FORCE_EN = true ∧ (¬ good i (c i)) ∧
      good (1 - i) (c (1 - i))) ∧
    (∃ s : State, ∃ t0, s.dv.svcSince = some t0 ∧ s.tick ≤ t0 + ticksS 2 ∧ s.dv.booting = true) ∧
    (∃ s : State, ∃ t0, s.dv.svcSince = some t0 ∧ t0 + ticksS 2 ≤ s.tick ∧ s.dv.booting = true ∧ s.dv.rstReq = none ∧ s.mode ≠ 11) ∧
    (∃ s : State, ∃ e : Fin 4, (nbit (s.get F.DV_SVC_READY_READY) e.val = true ∨ s.dv.svcSince.isSome = true)) :=
  ⟨⟨(w4 (fun d => {d with straps := 1})), by decide +kernel⟩,
   ⟨(w4 (fun d => {d with bootMaint := true})), by decide +kernel⟩,
   ⟨(w4 id), (good1 5), (good1 5), by decide +kernel⟩,
   ⟨(w4 id), (good1 5), (good1 6), by decide +kernel⟩,
   ⟨(w4 id), (good1 5), { good1 5 with present := false }, by decide +kernel⟩,
   ⟨(w4 id), { good1 5 with present := false }, (good1 5), by decide +kernel⟩,
   ⟨(w4 id), { good1 5 with present := false }, { good1 5 with present := false }, by decide +kernel⟩,
   ⟨(w4 (fun d => {d with att := (3, 2)})), (good1 5), { good1 5 with present := false }, by decide +kernel⟩,
   ⟨((w4 id).set F.DV_BOOT_CFG_FORCE_EN 1), (good1 5), (good1 5), by decide +kernel⟩,
   ⟨((w4 id).set F.DV_BOOT_CFG_FORCE_EN 1), { good1 5 with present := false }, (good1 5), by decide +kernel⟩,
   ⟨(w4 (fun d => {d with svcSince := some 5})), 5, by decide +kernel⟩,
   ⟨{w4 (fun d => {d with svcSince := some 5, att := (1, 1)}) with tick := 5 + 800000000}, 5, by decide +kernel⟩,
   ⟨(w4 (fun d => {d with svcSince := some 5})), 0, by decide +kernel⟩⟩

end BootStartsTheServices

namespace BootEndsAndRestores

def b5 (f : DvSt → DvSt) (s : State) : State := dvs s fun d => f { d with step := 5, booting := true }

/-- Every clause of part 3 of Obligations.BootRunsInOrder can be met. -/
theorem witness_BootRunsInOrder_3 :
    (∃ s : State, s.dv.step = 5) ∧
    (∃ s : State, ∃ t0, s.dv.bootDone = some t0 ∧ s.modeStarts true = true ∧
      (s.get F.TB_STATE_STATE = 6 ∨ t0 + s.get F.DV_BOOT_CFG_HOLD * 40000000 ≤ s.tick)) ∧
    (∃ s : State, ∃ t0, s.dv.bootDone = some t0 ∧ s.get F.TB_STATE_STATE ≠ 6 ∧ s.tick < t0 + s.get F.DV_BOOT_CFG_HOLD * 40000000) :=
  ⟨⟨(b5 id up), by decide +kernel⟩,
   ⟨((dvs (up.set F.TB_STATE_STATE 6) (fun d => {d with bootDone := some 5})).set F.DV_MODE_MODE 6), 5, by decide +kernel⟩,
   ⟨(dvs (up.set F.DV_BOOT_CFG_HOLD 3) (fun d => {d with bootDone := some 5})), 5, by decide +kernel⟩⟩

end BootEndsAndRestores

namespace PcieResets

def pc : State := (({ up with msix := [(3, {data := 5}), (259, {data := 6})] }.set F.DV_IFV_PLES01_PF0 0x200).set (F.DV_MBX_STAT_STATE 2) 1).set (F.HQ_CTRL_EN 2) 1

/-- Every clause of part 2 of Obligations.PcieFunctions can be met. -/
theorem witness_PcieFunctions_2 :
    (∃ s : State, s.dv.pcieUp = true) ∧
    (∃ s : State, s.dv.pcieUp = false) ∧
    (∃ s : State, 3 ≤ s.dv.step ∧ s.dv.railsOff = false ∧ (List.range 8).any s.laneTested = false) ∧
    (∃ s : State, (s.dv.step < 3 ∨ s.dv.railsOff = true ∨ (List.range 8).any s.laneTested = true)) :=
  ⟨⟨up, by decide +kernel⟩,
   ⟨(dvs pc (fun d => {d with pcieUp := false})), by decide +kernel⟩,
   ⟨up, by decide +kernel⟩,
   ⟨(dvs up (fun d => {d with step := 2})), by decide +kernel⟩⟩

end PcieResets

namespace ShutdownEndsWithRailsOff

def sh (f : DvSt → DvSt) (s : State) : State := (dvs s fun d => f { d with shutting := true }).set F.DV_MODE_MODE 11

/-- Every clause of part 2 of Obligations.ShutdownAndPowerLoss can be met. -/
theorem witness_ShutdownAndPowerLoss_2 :
    (∃ s : State, s.mode = 11 ∧ s.modeNow = 11 ∧ s.dv.railsOff = false ∧ s.cl.queue = [] ∧ s.anyRunning = false ∧
      (s.healthy = false ∨ s.cl.sealDone = true)) ∧
    (∃ s : State, s.mode = 11 ∧ s.modeNow = 11 ∧ (s.anyRunning = true ∨ s.cl.queue ≠ [] ∨ (s.healthy = true ∧ s.cl.sealDone = false))) :=
  ⟨⟨(sh id up), by decide +kernel⟩,
   ⟨(sh id (cel up)), by decide +kernel⟩⟩

end ShutdownEndsWithRailsOff

end Boot

namespace Mailbox

def ses (s : State) : State := (((s.set F.DV_SVC_READY_READY 15).set F.DV_IFV_PLES01_PF0 0x304).set F.DV_IFV_PLES01_PF1 0x304)

def post (f c : Nat) (w : List Word) (s : State) : State := (s.setMb f { posted := some (c, w) }).set (F.DV_MBX_STAT_STATE f) 1

def dvs (s : State) (f : DvSt → DvSt) : State := { s with dv := f s.dv }

/-- Every clause of part 1 of Obligations.MailboxSessions can be met. -/
theorem witness_MailboxSessions_1 :
    (∃ f : Fin 4, ∃ w : Word, ∃ s : State, 
      let lo := bits w 15 0
      let hi := bits w 31 16
      ∃ v, s.mbxServed true = true ∧ Posted s f.val 1 [w] ∧ v ∈ plesVersions ∧ lo ≤ v ∧ v ≤ hi ∧ ((∀ u ∈ plesVersions, lo ≤ u → u ≤ hi → u ≤ v))) ∧
    (∃ f : Fin 4, ∃ w : Word, ∃ s : State, 
      let lo := bits w 15 0
      let hi := bits w 31 16
      s.mbxServed true = true ∧ Posted s f.val 1 [w] ∧ ((∀ v ∈ plesVersions, ¬ (lo ≤ v ∧ v ≤ hi)))) ∧
    (∃ f : Fin 4, ∃ s : State, s.mbxServed true = true ∧ Asks s f.val 2 [] ∧ s.get (sessionFld f.val) ≠ 0) ∧
    (∃ f : Fin 4, ∃ s : State, s.mbxServed true = true ∧ Posted s f.val 3 []) :=
  ⟨⟨0, (0x03000200#32), (post 0 1 [w32 0x03000200] (ses up)), 768, by repeat' first | decide +kernel | constructor⟩,
   ⟨1, (0x01000000#32), (post 1 1 [w32 0x01000000] (ses up)), by repeat' first | decide +kernel | constructor⟩,
   ⟨0, (post 0 2 [] (ses up)), by repeat' first | exact newest (by decide +kernel) | exact oldest (by decide +kernel) | decide +kernel | constructor⟩,
   ⟨0, (post 0 3 [] (ses up)), by repeat' first | decide +kernel | constructor⟩⟩

namespace CommandsAreTurnedAway

def no (s : State) : State := s.wr (.DV_PERM_LO, [1]) 0

/-- Every clause of part 2 of Obligations.MailboxSessions can be met. -/
theorem witness_MailboxSessions_2 :
    (∃ f : Fin 4, ∃ words : List Word, ∃ s : State, Posted s f.val 0x104 words ∧ s.get (sessionFld f.val) = 0) ∧
    (∃ f : Fin 4, ∃ words : List Word, ∃ s : State, Asks s f.val 0x104 words ∧ s.get (sessionFld f.val) ≠ 0 ∧
      (s.dv.maint = true ∨ s.get F.DV_SVC_READY_READY ≠ 15)) ∧
    (∃ f : Fin 4, ∃ words : List Word, ∃ s : State, Posted s f.val 0x104 words ∧ Session s f.val ∧ s.mbxKnown f.val 0x104 = false) ∧
    (∃ f : Fin 4, ∃ words : List Word, ∃ s : State, Asks s f.val 0x104 words ∧ Session s f.val ∧ (¬ MayWrite s f 5)) ∧
    (∃ f : Fin 4, ∃ bw : Nat, ∃ words : List Word, ∃ s : State, Asks s f.val 0x104 words ∧ Session s f.val ∧ MayWrite s f 5 ∧ (bw = 0 ∨ 100 < bw)) ∧
    (∃ f : Fin 4, ∃ words : List Word, ∃ s : State, Asks s f.val 0x100 words ∧ Session s f.val ∧ words ≠ []) ∧
    (∃ f : Fin 4, ∃ code : Nat, ∃ words : List Word, ∃ s : State, Posted s f.val code words ∧ Session s f.val ∧ code ∉ mbxCodes) :=
  ⟨⟨0, [], (post 0 0x104 [] (up.set F.DV_SVC_READY_READY 15)), by repeat' first | decide +kernel | constructor⟩,
   ⟨0, [], (post 0 0x104 [] (dvs (ses up) fun d => {d with maint := true})), by repeat' first | exact newest (by decide +kernel) | exact oldest (by decide +kernel) | decide +kernel | constructor⟩,
   ⟨0, [], (post 0 0x104 [] ((ses up).set F.DV_IFV_PLES01_PF0 1)), by repeat' first | exact newest (by decide +kernel) | exact oldest (by decide +kernel) | decide +kernel | constructor⟩,
   ⟨1, [], (post 1 0x104 [] (no (ses up))), by repeat' first | exact newest (by decide +kernel) | (unfold MayWrite; decide +kernel) | apply And.intro | decide +kernel | constructor⟩,
   ⟨0, 0, [0x00000003#32], (post 0 0x104 [3] (ses up)), by repeat' first | exact newest (by decide +kernel) | exact oldest (by decide +kernel) | decide +kernel | constructor⟩,
   ⟨0, [0x00000003#32], (post 0 0x100 [3] (ses up)), by repeat' first | exact newest (by decide +kernel) | exact oldest (by decide +kernel) | decide +kernel | constructor⟩,
   ⟨0, 261, [0x00000003#32], (post 0 0x105 [3] (ses up)), by repeat' first | decide +kernel | constructor⟩⟩

end CommandsAreTurnedAway

namespace CommandsCompleteAndCancel

def stg (c : Nat) (w : List Word) (b : Bool) (s : State) : State := (s.setMb 0 { posted := some (0x104, [3]), staged := some (c, w, b) }).set (F.DV_MBX_STAT_STATE 0) 1

/-- Every clause of part 3 of Obligations.MailboxSessions can be met. -/
theorem witness_MailboxSessions_3 :
    (∃ f : Fin 4, ∃ code : Nat, ∃ words : List Word, ∃ did : Bool, ∃ s : State, 
      let busy := s.get (F.DV_MBX_STAT_STATE f.val) = 1
      busy ∧ (s.mb f.val).staged = some (code, words, did) ∧ code < 65536) ∧
    (∃ f : Fin 4, ∃ s : State, 
      let busy := s.get (F.DV_MBX_STAT_STATE f.val) = 1
      busy ∧ (s.mb f.val).staged = none ∧ ((∀ p, (s.mb f.val).posted = some p → p.1 ∈ mbxCodes))) ∧
    (∃ o : Origin, ∃ f : Fin 4, ∃ s : State, 
      let busy := s.get (F.DV_MBX_STAT_STATE f.val) = 1
      Reaches s o (.DV_MBX_DOORBELL, [f.val]) 0x80000000 ∧ busy) ∧
    (∃ o : Origin, ∃ f : Fin 4, ∃ s : State, 
      let busy := s.get (F.DV_MBX_STAT_STATE f.val) = 1
      Reaches s o (.DV_MBX_DOORBELL, [f.val]) 0x80000000 ∧ (¬ busy)) :=
  ⟨⟨0, 0, [], false, (stg 0 [] false (up.set (F.DV_MBX_VEC_EN 0) 1)), by decide +kernel⟩,
   ⟨0, (post 0 0x104 [3] up), by repeat' first | exact all_none (by decide +kernel) | exact all_some rfl (by decide +kernel) | apply And.intro | decide +kernel | constructor⟩,
   ⟨(Origin.pf 0), 0, (stg 5 [3, 4] true up), by repeat' first | decide +kernel | constructor⟩,
   ⟨(Origin.pf 0), 0, up, by repeat' first | decide +kernel | constructor⟩⟩

end CommandsCompleteAndCancel

namespace ImagesAreWritten

def im (s : State) : State := dvs (s.set F.DV_BOOT_CFG_MAX_ATT 3) fun d => {d with img := some 1}

/-- Every clause of part 1 of Obligations.MailboxCommands can be met. -/
theorem witness_MailboxCommands_1 :
    (∃ f : Fin 4, ∃ i : Word, ∃ n : Word, ∃ s : State, s.get (sessionFld f.val) ≠ 0 ∧ s.mbxServed true = true ∧ Asks s f.val 0x500 [i, n] ∧
      i.toNat < 2 ∧ n.toNat ≤ slotSize ∧ (s.dv.maint = true ∨ i.toNat ≠ s.dv.running)) ∧
    (∃ f : Fin 4, ∃ i : Word, ∃ n : Word, ∃ s : State, s.get (sessionFld f.val) ≠ 0 ∧ s.mbxServed true = true ∧ Asks s f.val 0x500 [i, n] ∧
      (2 ≤ i.toNat ∨ slotSize < n.toNat)) ∧
    (∃ f : Fin 4, ∃ i : Word, ∃ n : Word, ∃ s : State, s.get (sessionFld f.val) ≠ 0 ∧ s.mbxServed true = true ∧ Asks s f.val 0x500 [i, n] ∧
      i.toNat < 2 ∧ n.toNat ≤ slotSize ∧ s.dv.maint = false ∧ i.toNat = s.dv.running) ∧
    (∃ f : Fin 4, ∃ a : Word, ∃ ws : List Word, ∃ s : State, ∃ j, s.get (sessionFld f.val) ≠ 0 ∧ s.mbxServed true = true ∧
      Asks s f.val 0x501 (a :: ws) ∧ ws.length = 60 ∧ s.dv.img = some j ∧ a.toNat + 240 ≤ slotSize) ∧
    (∃ f : Fin 4, ∃ s : State, ∃ j, s.get (sessionFld f.val) ≠ 0 ∧ s.mbxServed true = true ∧ Asks s f.val 0x502 [] ∧ s.dv.img = some j) ∧
    (∃ f : Fin 4, ∃ s : State, s.get (sessionFld f.val) ≠ 0 ∧ s.mbxServed true = true ∧ Asks s f.val 0x502 [] ∧ s.dv.img = none) :=
  ⟨⟨0, (0x00000001#32), (0x000003e8#32), (post 0 0x500 [1, w32 1000] (ses up)), by repeat' first | exact newest (by decide +kernel) | exact oldest (by decide +kernel) | decide +kernel | constructor⟩,
   ⟨0, (0x00000002#32), (0x000003e8#32), (post 0 0x500 [2, w32 1000] (ses up)), by repeat' first | exact newest (by decide +kernel) | exact oldest (by decide +kernel) | decide +kernel | constructor⟩,
   ⟨0, (0x00000000#32), (0x000003e8#32), (post 0 0x500 [0, w32 1000] (ses up)), by repeat' first | exact newest (by decide +kernel) | exact oldest (by decide +kernel) | decide +kernel | constructor⟩,
   ⟨0, (0x000003e8#32), (List.replicate 60 (w32 0x12345678)), (post 0 0x501 (w32 1000 :: List.replicate 60 (w32 0x12345678)) (im (ses up))), 1, by repeat' first | exact newest (by decide +kernel) | exact oldest (by decide +kernel) | decide +kernel | constructor⟩,
   ⟨0, (post 0 0x502 [] (im (ses up))), 1, by repeat' first | exact newest (by decide +kernel) | exact oldest (by decide +kernel) | decide +kernel | constructor⟩,
   ⟨0, (post 0 0x502 [] (ses up)), by repeat' first | exact newest (by decide +kernel) | exact oldest (by decide +kernel) | decide +kernel | constructor⟩⟩

end ImagesAreWritten

namespace TimeCommandsSetTheServo

def cf : PtpConfig := ⟨3, 1, 128, 128, true, -3, 1, 3, 0⟩

/-- Every clause of part 2 of Obligations.MailboxCommands can be met. -/
theorem witness_MailboxCommands_2 :
    (∃ f : Fin 4, ∃ s : State, Session s f.val ∧ MayWrite s f 5 ∧ Asks s f.val 0x100 []) ∧
    (∃ f : Fin 4, ∃ c : PtpConfig, ∃ words : List Word, ∃ s : State, Session s f.val ∧ MayWrite s f 5 ∧ Asks s f.val 0x101 words ∧ ptpOk c = true) ∧
    (∃ f : Fin 4, ∃ c : PtpConfig, ∃ words : List Word, ∃ s : State, Session s f.val ∧ MayWrite s f 5 ∧ Asks s f.val 0x101 words ∧ ptpOk c = false) ∧
    (∃ f : Fin 4, ∃ p : Fin 4, ∃ en : Bool, ∃ role : Nat, ∃ words : List Word, ∃ s : State, Session s f.val ∧ MayWrite s f 5 ∧
      Asks s f.val 0x102 words ∧ role ≤ 2 ∧ ((en = true → role = 2 → ∀ e ∈ s.tb.ports, e.1 ≠ p.val → ¬ (e.2.en = true ∧ e.2.role = 2)))) ∧
    (∃ f : Fin 4, ∃ role : Nat, ∃ words : List Word, ∃ s : State, Session s f.val ∧ MayWrite s f 5 ∧ Asks s f.val 0x102 words ∧ 2 < role) ∧
    (∃ f : Fin 4, ∃ ofs : Nat, ∃ l61 : Bool, ∃ l59 : Bool, ∃ words : List Word, ∃ s : State, Session s f.val ∧ MayWrite s f 5 ∧
      Asks s f.val 0x103 words ∧ s.get F.TB_STATE_SRC ≠ 1 ∧ (¬ (l61 = true ∧ l59 = true)) ∧ ofs < 65536 ∧
      ((∀ pc k v, k = (.TB_LEAP_AT, []) ∨ k = (.TB_UTC, []) → Reaches s (.cu 16 pc) k v))) ∧
    (∃ f : Fin 4, ∃ ofs : Nat, ∃ l61 : Bool, ∃ l59 : Bool, ∃ words : List Word, ∃ s : State, Session s f.val ∧ MayWrite s f 5 ∧
      Asks s f.val 0x103 words ∧ (s.get F.TB_STATE_SRC = 1 ∨ (l61 = true ∧ l59 = true) ∨ 65536 ≤ ofs)) ∧
    (∃ f : Fin 4, ∃ bw : Nat, ∃ words : List Word, ∃ s : State, Session s f.val ∧ MayWrite s f 5 ∧ Asks s f.val 0x104 words ∧ 1 ≤ bw ∧ bw ≤ 100) :=
  ⟨⟨0, (post 0 0x100 [] (ses up)), by repeat' first | exact newest (by decide +kernel) | exact oldest (by decide +kernel) | decide +kernel | constructor⟩,
   ⟨0, cf, [], (post 0 0x101 [] (ses up)), by repeat' first | exact newest (by decide +kernel) | exact oldest (by decide +kernel) | decide +kernel | constructor⟩,
   ⟨0, {cf with domain := 200}, [], (post 0 0x101 [] (ses up)), by repeat' first | exact newest (by decide +kernel) | exact oldest (by decide +kernel) | decide +kernel | constructor⟩,
   ⟨0, 0, true, 0, [], (post 0 0x102 [] (ses up)), by repeat' first | exact newest (by decide +kernel) | exact oldest (by decide +kernel) | decide +kernel | constructor⟩,
   ⟨0, 3, [], (post 0 0x102 [] (ses up)), by repeat' first | exact newest (by decide +kernel) | exact oldest (by decide +kernel) | decide +kernel | constructor⟩,
   ⟨0, 0, true, false, [], (post 0 0x103 [] (ses up)), by repeat' first | exact newest (by decide +kernel) | apply And.intro | (rintro pc k v (rfl | rfl) <;> exact ⟨by decide +kernel, show State.rights _ (.cu 16 0) 5 = 3 by decide +kernel, by unfold State.ownerRule; simp [svcEngine, isServo, isPl] <;> (intro _; rfl)⟩) | decide +kernel | constructor⟩,
   ⟨0, 0, true, true, [], (post 0 0x103 [] (ses up)), by repeat' first | exact newest (by decide +kernel) | exact oldest (by decide +kernel) | decide +kernel | constructor⟩,
   ⟨0, 1, [], (post 0 0x104 [] (ses up)), by repeat' first | exact newest (by decide +kernel) | exact oldest (by decide +kernel) | decide +kernel | constructor⟩⟩

end TimeCommandsSetTheServo

namespace ReadCommandsAnswer

def mx (s : State) : State := { s with gl := { s.gl with roster := [1, 257, 258] } }

/-- Every clause of part 3 of Obligations.MailboxCommands can be met. -/
theorem witness_MailboxCommands_3 :
    (∃ f : Fin 4, ∃ s : State, Session s f.val ∧ Asks s f.val 0x400 []) ∧
    (∃ f : Fin 4, ∃ page : Nat, ∃ words : List Word, ∃ s : State, Session s f.val ∧ Asks s f.val 0x402 words ∧ page ≤ 15) ∧
    (∃ f : Fin 4, ∃ page : Nat, ∃ words : List Word, ∃ s : State, Session s f.val ∧ Asks s f.val 0x402 words ∧ 15 < page) ∧
    (∃ f : Fin 4, ∃ ofs : Nat, ∃ len : Nat, ∃ words : List Word, ∃ s : State, Session s f.val ∧ Asks s f.val 0x4E0 words ∧ 4 ≤ len ∧ len ≤ 240 ∧
      len % 4 = 0 ∧ ofs + len ≤ 0x1000000) ∧
    (∃ f : Fin 4, ∃ ofs : Nat, ∃ len : Nat, ∃ words : List Word, ∃ s : State, Session s f.val ∧ Asks s f.val 0x4E0 words ∧
      (len < 4 ∨ 240 < len ∨ len % 4 ≠ 0 ∨ 0x1000000 < ofs + len)) :=
  ⟨⟨0, (post 0 0x400 [] (ses (mx up))), by repeat' first | exact newest (by decide +kernel) | exact oldest (by decide +kernel) | decide +kernel | constructor⟩,
   ⟨0, 0, [], (post 0 0x402 [] (ses (mx up))), by repeat' first | exact newest (by decide +kernel) | exact oldest (by decide +kernel) | decide +kernel | constructor⟩,
   ⟨0, 16, [], (post 0 0x402 [] (ses (mx up))), by repeat' first | exact newest (by decide +kernel) | exact oldest (by decide +kernel) | decide +kernel | constructor⟩,
   ⟨0, 0, 4, [], (post 0 0x4E0 [] (ses (mx up))), by repeat' first | exact newest (by decide +kernel) | exact oldest (by decide +kernel) | decide +kernel | constructor⟩,
   ⟨0, 0, 0, [], (post 0 0x4E0 [] (ses (mx up))), by repeat' first | exact newest (by decide +kernel) | exact oldest (by decide +kernel) | decide +kernel | constructor⟩⟩

end ReadCommandsAnswer

end Mailbox

namespace Time

def tbs (s : State) (f : TbSt → TbSt) : State := { s with tb := f s.tb }

def st (n src : Nat) (s : State) : State := (s.set F.TB_STATE_STATE n).set F.TB_STATE_SRC src

def cel (s : State) : State := s.set F.CL_STAT_HEALTHY 1

def dvs (s : State) (f : DvSt → DvSt) : State := { s with dv := f s.dv }

/-- Every clause of part 2 of Obligations.TheCountAdvances can be met. -/
theorem witness_TheCountAdvances_2 :
    (∃ o : Origin, ∃ v : Word, ∃ s : State, 
      let req := bits v 7 0 * 2 ^ 32 + s.get F.TB_INC_REQ_LO_FRAC
      let l := s.incLimits
      Reaches s o (.TB_INC_REQ_HI, []) v ∧ l.1 ≤ req ∧ req ≤ l.2) ∧
    (∃ o : Origin, ∃ v : Word, ∃ s : State, 
      let req := bits v 7 0 * 2 ^ 32 + s.get F.TB_INC_REQ_LO_FRAC
      let l := s.incLimits
      Reaches s o (.TB_INC_REQ_HI, []) v ∧ req < l.1 ∧ l.1 < 2 ^ 40) ∧
    (∃ o : Origin, ∃ v : Word, ∃ s : State, 
      let req := bits v 7 0 * 2 ^ 32 + s.get F.TB_INC_REQ_LO_FRAC
      let l := s.incLimits
      Reaches s o (.TB_INC_REQ_HI, []) v ∧ l.1 ≤ req ∧ l.2 < req) :=
  ⟨⟨(Origin.pf 0), (0x00000002#32), ((up.set F.TB_CTRL_SERVO_OWN 0).wr (.xx_LOCK, [5,0]) 1), by repeat' first | decide +kernel | constructor⟩,
   ⟨(Origin.pf 0), (0x00000000#32), ((up.set F.TB_CTRL_SERVO_OWN 0).wr (.xx_LOCK, [5,0]) 1), by repeat' first | decide +kernel | constructor⟩,
   ⟨(Origin.pf 0), (0x000000ff#32), ((up.set F.TB_CTRL_SERVO_OWN 0).wr (.xx_LOCK, [5,0]) 1), by repeat' first | decide +kernel | constructor⟩⟩

namespace TimeAndStampReads

def tx : TxStamp := { tag := 5, queue := 9, at_ := ⟨7, 8, 0⟩ }

/-- Every clause of part 1 of Obligations.TimeIsReadAndRecorded can be met. -/
theorem witness_TimeIsReadAndRecorded_1 :
    (∃ o : Origin, ∃ s : State, Answers s o (.TB_TIME_SL, [])) ∧
    (∃ o : Origin, ∃ p : Fin 4, ∃ s : State, ∃ x, ∃ q, Answers s o (.TB_TSQ_POP, [p.val]) ∧ s.stamps p.val = x :: q) ∧
    (∃ o : Origin, ∃ p : Fin 4, ∃ s : State, Answers s o (.TB_TSQ_POP, [p.val]) ∧ s.stamps p.val = []) :=
  ⟨⟨(Origin.pf 0), up, by repeat' first | decide +kernel | constructor⟩,
   ⟨(Origin.pf 0), 0, (tbs up (fun t => {t with tsq := [(2, [tx, tx]), (0, [tx])]})), { tag := 5, queue := 9, at_ := { sec := 7, ns := 8, frac := 0 } }, [], by repeat' first | decide +kernel | constructor⟩,
   ⟨(Origin.pf 0), 0, up, by repeat' first | decide +kernel | constructor⟩⟩

end TimeAndStampReads

namespace MeasurementsSteerTheTimeBase

def px : PtpSample := { port := 2, t1 := ⟨5, 0, 0⟩, t2 := ⟨5, 1000, 0⟩, t3 := ⟨6, 0, 0⟩, t4 := ⟨6, 900, 0⟩, sync := 0, delayResp := 0 }

def px2 : PtpSample := { px with t2 := ⟨5, 90001000, 0⟩ }

def ms (o : Int) : List ServoMeasure := [⟨5, .pps, none, o, 0x280000000, false, none⟩]

def sv (n src : Nat) (f : TbSt → TbSt) : State := let s := st n src (tbs (up.set (F.NP_STAT_LINK 2) 1) fun t => f { t with servoUp := true, srcs := [(src, {usable := true})], ports := [(2, {en := true})] })
  ((((s.wr (.xx_LOCK,[5,0]) 1).set F.TB_CTRL_REVERT 0).set F.TB_STEP_THRESH_NS 1000).set F.TB_LOCK_THRESH_NS 300).set F.TB_LOCK_TIME_SEC 0

/-- Every clause of part 1 of Obligations.SourcesSteerTheTimeBase can be met. -/
theorem witness_SourcesSteerTheTimeBase_1 :
    (∃ m : ServoMeasure, ∃ s : State, 
      let c := srcCode m.src
      let keeps := s.mayMeasure m = true ∧ s.get F.TB_STATE_SRC = c ∧ s.flag F.TB_CTRL_REVERT = false ∧ m.newMaster = false ∧ m.announce = none
      s.served = true ∧ s.rights (.cu 16 0) 5 = 3 ∧ keeps ∧ s.tb.needStep = true ∧ s.flag F.TB_STATE_FIRST_LOCK = false ∧
      s.flag F.TB_CTRL_FIRST_STEP = true ∧ s.anyRunning = false ∧ s.get F.TB_STATE_STATE = 4) ∧
    (∃ m : ServoMeasure, ∃ s : State, 
      let c := srcCode m.src
      let off : Int := match m.src, m.ptp with | .ptp, some x => (s.ptpSolve x).2 / 2 ^ 32 | _, _ => m.offset
      let keeps := s.mayMeasure m = true ∧ s.get F.TB_STATE_SRC = c ∧ s.flag F.TB_CTRL_REVERT = false ∧ m.newMaster = false ∧ m.announce = none
      let plain := keeps ∧ s.tb.needStep = false
      let small := off.natAbs ≤ s.stepThresh ∧ off.natAbs ≤ s.get F.TB_LOCK_THRESH_NS
      s.served = true ∧ s.rights (.cu 16 0) 5 = 3 ∧ plain ∧ small ∧ s.get F.TB_STATE_STATE = 6) ∧
    (∃ m : ServoMeasure, ∃ s : State, 
      let c := srcCode m.src
      let off : Int := match m.src, m.ptp with | .ptp, some x => (s.ptpSolve x).2 / 2 ^ 32 | _, _ => m.offset
      let keeps := s.mayMeasure m = true ∧ s.get F.TB_STATE_SRC = c ∧ s.flag F.TB_CTRL_REVERT = false ∧ m.newMaster = false ∧ m.announce = none
      let plain := keeps ∧ s.tb.needStep = false
      let small := off.natAbs ≤ s.stepThresh ∧ off.natAbs ≤ s.get F.TB_LOCK_THRESH_NS
      ∃ t0, s.served = true ∧ s.rights (.cu 16 0) 5 = 3 ∧ plain ∧ small ∧ s.get F.TB_STATE_STATE = 5 ∧ s.tb.within = some t0 ∧
      t0 + ticksS (s.get F.TB_LOCK_TIME_SEC) ≤ s.tick) ∧
    (∃ m : ServoMeasure, ∃ s : State, 
      let c := srcCode m.src
      let off : Int := match m.src, m.ptp with | .ptp, some x => (s.ptpSolve x).2 / 2 ^ 32 | _, _ => m.offset
      let keeps := s.mayMeasure m = true ∧ s.get F.TB_STATE_SRC = c ∧ s.flag F.TB_CTRL_REVERT = false ∧ m.newMaster = false ∧ m.announce = none
      let plain := keeps ∧ s.tb.needStep = false
      let small := off.natAbs ≤ s.stepThresh ∧ off.natAbs ≤ s.get F.TB_LOCK_THRESH_NS
      s.served = true ∧ s.rights (.cu 16 0) 5 = 3 ∧ plain ∧ small ∧ s.get F.TB_STATE_STATE = 5 ∧ s.tb.within = none) ∧
    (∃ m : ServoMeasure, ∃ s : State, 
      let c := srcCode m.src
      let off : Int := match m.src, m.ptp with | .ptp, some x => (s.ptpSolve x).2 / 2 ^ 32 | _, _ => m.offset
      let keeps := s.mayMeasure m = true ∧ s.get F.TB_STATE_SRC = c ∧ s.flag F.TB_CTRL_REVERT = false ∧ m.newMaster = false ∧ m.announce = none
      let plain := keeps ∧ s.tb.needStep = false
      s.served = true ∧ s.rights (.cu 16 0) 5 = 3 ∧ plain ∧ s.stepThresh < off.natAbs ∧ s.get F.TB_STATE_STATE = 6 ∧ s.tb.exceed = 2 ∧
      s.tb.exceedSrc = c) ∧
    (∃ m : ServoMeasure, ∃ s : State, 
      let c := srcCode m.src
      let off : Int := match m.src, m.ptp with | .ptp, some x => (s.ptpSolve x).2 / 2 ^ 32 | _, _ => m.offset
      let keeps := s.mayMeasure m = true ∧ s.get F.TB_STATE_SRC = c ∧ s.flag F.TB_CTRL_REVERT = false ∧ m.newMaster = false ∧ m.announce = none
      let plain := keeps ∧ s.tb.needStep = false
      s.served = true ∧ s.rights (.cu 16 0) 5 = 3 ∧ plain ∧ s.stepThresh < off.natAbs ∧ s.tb.exceed < 2 ∧ s.tb.exceedSrc = c ∧
      s.flag F.TB_STATE_RESTEP_PEND = true ∧ s.get F.TB_STATE_STATE = 7) ∧
    (∃ m : ServoMeasure, ∃ s : State, 
      let c := srcCode m.src
      let keeps := s.mayMeasure m = true ∧ s.get F.TB_STATE_SRC = c ∧ s.flag F.TB_CTRL_REVERT = false ∧ m.newMaster = false ∧ m.announce = none
      let plain := keeps ∧ s.tb.needStep = false
      ∃ x, s.served = true ∧ s.rights (.cu 16 0) 5 = 3 ∧ plain ∧ m.src = .ptp ∧ m.ptp = some x) ∧
    (∃ m : ServoMeasure, ∃ s : State, s.served = true ∧ s.rights (.cu 16 0) 5 = 3 ∧ s.mayMeasure m = false) :=
  ⟨⟨(((ms 0 ++ ms 5 ++ ms (-3000000000) ++ [⟨5, .ptp, some px, 0, 0x280000000, false, none⟩, ⟨5, .ptp, some px2, 0, 0x280000000, false, none⟩, ⟨5, .ptp, none, 0, 0x280000000, false, none⟩] : List ServoMeasure)[0])), ((sv 4 2 fun t => {t with needStep := true}).set F.TB_CTRL_FIRST_STEP 1), by decide +kernel⟩,
   ⟨(((ms 0 ++ ms 5 ++ ms (-3000000000) ++ [⟨5, .ptp, some px, 0, 0x280000000, false, none⟩, ⟨5, .ptp, some px2, 0, 0x280000000, false, none⟩, ⟨5, .ptp, none, 0, 0x280000000, false, none⟩] : List ServoMeasure)[0])), (sv 6 2 id), by decide +kernel⟩,
   ⟨(((ms 0 ++ ms 5 ++ ms (-3000000000) ++ [⟨5, .ptp, some px, 0, 0x280000000, false, none⟩, ⟨5, .ptp, some px2, 0, 0x280000000, false, none⟩, ⟨5, .ptp, none, 0, 0x280000000, false, none⟩] : List ServoMeasure)[0])), (sv 5 2 fun t => {t with within := some 5}), 5, by decide +kernel⟩,
   ⟨(((ms 0 ++ ms 5 ++ ms (-3000000000) ++ [⟨5, .ptp, some px, 0, 0x280000000, false, none⟩, ⟨5, .ptp, some px2, 0, 0x280000000, false, none⟩, ⟨5, .ptp, none, 0, 0x280000000, false, none⟩] : List ServoMeasure)[0])), (sv 5 2 id), by decide +kernel⟩,
   ⟨(((ms 0 ++ ms 5 ++ ms (-3000000000) ++ [⟨5, .ptp, some px, 0, 0x280000000, false, none⟩, ⟨5, .ptp, some px2, 0, 0x280000000, false, none⟩, ⟨5, .ptp, none, 0, 0x280000000, false, none⟩] : List ServoMeasure)[2])), (sv 6 2 fun t => {t with exceed := 2, exceedSrc := 2}), by decide +kernel⟩,
   ⟨(((ms 0 ++ ms 5 ++ ms (-3000000000) ++ [⟨5, .ptp, some px, 0, 0x280000000, false, none⟩, ⟨5, .ptp, some px2, 0, 0x280000000, false, none⟩, ⟨5, .ptp, none, 0, 0x280000000, false, none⟩] : List ServoMeasure)[2])), ((sv 7 2 fun t => {t with exceed := 1, exceedSrc := 2}).set F.TB_STATE_RESTEP_PEND 1), by decide +kernel⟩,
   ⟨(((ms 0 ++ ms 5 ++ ms (-3000000000) ++ [⟨5, .ptp, some px, 0, 0x280000000, false, none⟩, ⟨5, .ptp, some px2, 0, 0x280000000, false, none⟩, ⟨5, .ptp, none, 0, 0x280000000, false, none⟩] : List ServoMeasure)[3])), (sv 6 1 id), { port := 2, t1 := { sec := 5, ns := 0, frac := 0 }, t2 := { sec := 5, ns := 1000, frac := 0 }, t3 := { sec := 6, ns := 0, frac := 0 }, t4 := { sec := 6, ns := 900, frac := 0 }, sync := 0, delayResp := 0 }, by decide +kernel⟩,
   ⟨(((ms 0 ++ ms 5 ++ ms (-3000000000) ++ [⟨5, .ptp, some px, 0, 0x280000000, false, none⟩, ⟨5, .ptp, some px2, 0, 0x280000000, false, none⟩, ⟨5, .ptp, none, 0, 0x280000000, false, none⟩] : List ServoMeasure)[0])), ((sv 4 1 fun t => {t with needStep := true}).set F.TB_CTRL_FIRST_STEP 1), by decide +kernel⟩⟩

end MeasurementsSteerTheTimeBase

namespace SourcesComeAndGo

def us (n src : Nat) (l : Map Nat SrcSt) : State := tbs (st n src up) fun t => {t with srcs := l, servoUp := true}

/-- Every clause of part 2 of Obligations.SourcesSteerTheTimeBase can be met. -/
theorem witness_SourcesSteerTheTimeBase_2 :
    (∃ src : Src, ∃ s : State, 
      let c := srcCode src
      let last := (s.src c).usable = true ∧ s.get F.TB_STATE_SRC = c ∧ ∀ d, d ≠ c → (s.src d).usable = false
      last ∧ s.get F.TB_STATE_STATE = 6) ∧
    (∃ src : Src, ∃ s : State, 
      let c := srcCode src
      let last := (s.src c).usable = true ∧ s.get F.TB_STATE_SRC = c ∧ ∀ d, d ≠ c → (s.src d).usable = false
      last ∧ s.get F.TB_STATE_STATE = 5 ∧ s.flag F.TB_STATE_FIRST_LOCK = false ∧ s.tb.restep = none) ∧
    (∃ src : Src, ∃ s : State, 
      let c := srcCode src
      (s.src c).usable = false) ∧
    (∃ src : Src, ∃ s : State, 
      let c := srcCode src
      (s.src c).usable = true ∧ s.get F.TB_STATE_SRC ≠ c) ∧
    (∃ src : Src, ∃ s : State, 
      let c := srcCode src
      (s.src c).usable = true ∧ (s.src c).lost = true ∧ (s.src c).usableSince + ticksS 30 ≤ s.tick) ∧
    (∃ src : Src, ∃ s : State, 
      let c := srcCode src
      s.tick < (s.src c).usableSince + ticksS 30) :=
  ⟨⟨Src.pps, (us 6 2 [(2, {usable := true})]), by repeat' first | apply And.intro | exact only_pps (s := us 6 2 [(2, { usable := true })]) rfl | decide +kernel⟩,
   ⟨Src.pps, (us 5 2 [(2, {usable := true})]), by repeat' first | apply And.intro | exact only_pps (s := us 5 2 [(2, { usable := true })]) rfl | decide +kernel⟩,
   ⟨Src.ptp, (us 6 2 [(2, {usable := true})]), by decide +kernel⟩,
   ⟨Src.ptp, (us 6 2 [(1, {usable := true}), (2, {usable := true})]), by decide +kernel⟩,
   ⟨Src.ptp, {us 6 2 [(1, {usable := true, lost := true, usableSince := 5})] with tick := 5 + 40000000000}, by decide +kernel⟩,
   ⟨Src.ptp, (us 6 2 [(2, {usable := true})]), by decide +kernel⟩⟩

end SourcesComeAndGo

/-- Every clause of part 1 of Obligations.ReStepsAndTheTimePll can be met. -/
theorem witness_ReStepsAndTheTimePll_1 :
    (∃ o : Origin, ∃ key : BitVec 16, ∃ s : State, 
      let may := key = 0x5E7A ∧ s.flag F.TB_STATE_RESTEP_PEND = true ∧ s.mayRestep (orgOf o) = true
      Reaches s o (.TB_RESTEP, []) (w32 key.toNat) ∧ may) ∧
    (∃ o : Origin, ∃ key : BitVec 16, ∃ s : State, 
      let may := key = 0x5E7A ∧ s.flag F.TB_STATE_RESTEP_PEND = true ∧ s.mayRestep (orgOf o) = true
      Reaches s o (.TB_RESTEP, []) (w32 key.toNat) ∧ (¬ may)) ∧
    (∃ org : Org, ∃ s : State, s.tb.restep = some (org, false) ∧ s.tb.restepLost = false ∧ s.get F.TB_STATE_STATE = 7) ∧
    (∃ s : State, (s.tb.restep = none ∨ s.tb.restepLost = true)) :=
  ⟨⟨(Origin.pf 0), (0x5e7a#16), (up.set F.TB_STATE_RESTEP_PEND 1), by repeat' first | decide +kernel | constructor⟩,
   ⟨(Origin.pf 0), (0x5e7a#16), up, by repeat' first | decide +kernel | constructor⟩,
   ⟨{ cls := 1, det := 0 }, (tbs (st 7 1 (((up.set (F.HD_STAT_STATE 3) 2).set (F.HD_STAT_STATE 4) 4).set F.TB_STATE_RESTEP_PEND 1)) (fun t => {t with restep := some (⟨1, 0⟩, false)})), by decide +kernel⟩,
   ⟨up, by decide +kernel⟩⟩

/-- Every clause of part 2 of Obligations.TimeIsReadAndRecorded can be met. -/
theorem witness_TimeIsReadAndRecorded_2 :
    (∃ s : State, 
      let m := s.get F.TB_HOLD_MAX_SEC
      s.get F.TB_STATE_STATE = 7 ∧ m ≠ 0 ∧ s.tb.holdSince + ticksS m ≤ s.tick) ∧
    (∃ s : State, 
      let m := s.get F.TB_HOLD_MAX_SEC
      (s.get F.TB_STATE_STATE ≠ 7 ∨ m = 0 ∨ s.tick < s.tb.holdSince + ticksS m)) ∧
    (∃ s : State, s.flag F.TB_UTC_LEAP61 = true ∧ s.tb.counting = true ∧ leapNear s.tb.sec (s.get F.TB_LEAP_AT_SEC) ≤ s.tb.sec) ∧
    (∃ s : State, s.flag F.TB_UTC_LEAP61 = false ∧ s.flag F.TB_UTC_LEAP59 = true ∧ s.tb.counting = true ∧
      leapNear s.tb.sec (s.get F.TB_LEAP_AT_SEC) ≤ s.tb.sec) ∧
    (∃ s : State, ((s.flag F.TB_UTC_LEAP61 = false ∧ s.flag F.TB_UTC_LEAP59 = false) ∨ s.tb.sec < leapNear s.tb.sec (s.get F.TB_LEAP_AT_SEC))) ∧
    (∃ s : State, s.tb.counting = true ∧ s.healthy = true) ∧
    (∃ s : State, s.tb.counting = false) :=
  ⟨⟨{(st 7 0 up).set F.TB_HOLD_MAX_SEC 1 with tick := 500000000}, by decide +kernel⟩,
   ⟨((st 7 0 up).set F.TB_HOLD_MAX_SEC 0), by decide +kernel⟩,
   ⟨((up.set F.TB_UTC_LEAP61 1).set F.TB_LEAP_AT_SEC 1000), by decide +kernel⟩,
   ⟨((up.set F.TB_UTC_LEAP59 1).set F.TB_LEAP_AT_SEC 1000), by decide +kernel⟩,
   ⟨((st 7 0 up).set F.TB_HOLD_MAX_SEC 0), by decide +kernel⟩,
   ⟨(cel up), by decide +kernel⟩,
   ⟨(tbs up (fun t => {t with counting := false})), by decide +kernel⟩⟩

namespace PllStartsTheTimeBase

def s3 : State := dvs up fun d => {d with step := 3, booting := true}

/-- Every clause of part 2 of Obligations.ReStepsAndTheTimePll can be met. -/
theorem witness_ReStepsAndTheTimePll_2 :
    (∃ s : State, s.flag F.TB_STATE_PLL_LOCK = true) ∧
    (∃ s : State, s.flag F.TB_STATE_PLL_LOCK = false) ∧
    (∃ s : State, s.dv.step ≠ 3) ∧
    (∃ s : State, s.dv.step = 3) ∧
    (∃ s : State, ∃ sec, ∃ ns, ∃ ofs, ∃ ok, s.dv.step = 3 ∧ s.healthy = true ∧ s.dv.warm = false ∧ s.record 2 = some (.time sec ns ofs ok)) ∧
    (∃ s : State, s.dv.step = 3 ∧ s.healthy = false) ∧
    (∃ s : State, s.dv.step = 3 ∧ s.healthy = true ∧ 3 ∈ s.cl.corrupt) :=
  ⟨⟨(up.set F.TB_STATE_PLL_LOCK 1), by decide +kernel⟩,
   ⟨up, by decide +kernel⟩,
   ⟨up, by decide +kernel⟩,
   ⟨s3, by decide +kernel⟩,
   ⟨((cel s3).putRecord 2 (.time 5 6 7 true)), 5, 6, 7, true, by decide +kernel⟩,
   ⟨s3, by decide +kernel⟩,
   ⟨(cel {s3 with cl := {s3.cl with corrupt := [3]}}), by decide +kernel⟩⟩

end PllStartsTheTimeBase

end Time

namespace Reference

def rfs (s : State) (f : RfSt → RfSt) : State := { s with rf := f s.rf }

def cel (s : State) : State := s.set F.CL_STAT_HEALTHY 1

def tbs (s : State) (f : TbSt → TbSt) : State := { s with tb := f s.tb }

namespace AnalogueInputsLock

def en (s : State) : State := (s.set (F.RF_IN_CTRL_EN 0) 1).set (F.RF_IN_CTRL_STD 0) 3

/-- Every clause of part 1 of Obligations.AnalogueAndLtcInputs can be met. -/
theorem witness_AnalogueAndLtcInputs_1 :
    (∃ k : Fin 2, ∃ std : Nat, ∃ freq : Nat, ∃ s : State, 
      let on := s.rfIn = true ∧ s.flag (F.RF_IN_CTRL_EN k.val) = true
      let fits := (stdPeriod std).isSome = true ∧ (s.flag (F.RF_IN_CTRL_AUTO k.val) = true ∨ s.get (F.RF_IN_CTRL_STD k.val) = std) ∧ (signed 16 freq).natAbs ≤ 10000
      let locked (t : State) := t.rf.locked.contains k.val
      on ∧ locked s = false ∧ fits) ∧
    (∃ k : Fin 2, ∃ std : Nat, ∃ freq : Nat, ∃ s : State, 
      let on := s.rfIn = true ∧ s.flag (F.RF_IN_CTRL_EN k.val) = true
      let fits := (stdPeriod std).isSome = true ∧ (s.flag (F.RF_IN_CTRL_AUTO k.val) = true ∨ s.get (F.RF_IN_CTRL_STD k.val) = std) ∧ (signed 16 freq).natAbs ≤ 10000
      (¬ on ∨ ¬ fits)) ∧
    (∃ k : Fin 2, ∃ s : State, 
      let locked (t : State) := t.rf.locked.contains k.val
      locked s = true) ∧
    (∃ k : Fin 2, ∃ s : State, 
      let locked (t : State) := t.rf.locked.contains k.val
      locked s = false) ∧
    (∃ k : Fin 2, ∃ s : State, 
      let locked (t : State) := t.rf.locked.contains k.val
      ∃ p, locked s = true ∧ stdQuarters (s.get (F.RF_IN_STAT_DET_STD k.val)) = some p) ∧
    (∃ k : Fin 2, ∃ s : State, 
      let locked (t : State) := t.rf.locked.contains k.val
      locked s = false) :=
  ⟨⟨0, 3, 3, (en up), by decide +kernel⟩,
   ⟨0, 3, 3, up, by decide +kernel⟩,
   ⟨0, ((rfs (en up) fun r => {r with locked := [0]}).set (F.RF_IN_STAT_DET_STD 0) 3), by decide +kernel⟩,
   ⟨0, up, by decide +kernel⟩,
   ⟨0, ((rfs (en up) fun r => {r with locked := [0]}).set (F.RF_IN_STAT_DET_STD 0) 3), 160000000, by decide +kernel⟩,
   ⟨0, up, by decide +kernel⟩⟩

end AnalogueInputsLock

namespace LtcInputsFollowTheirWords

def w0 : LtcWord := ⟨0, 16, 3, 5, false, 0x12, false, ⟨1000, 200000000, 0⟩⟩

def en (x : LtcSt) (s : State) : State := (((s.set (F.RF_LTCIN_CTRL_EN 0) 1).set (F.RF_LTCIN_CTRL_RATE 0) 1).set F.TB_UTC_OFS 37).setLtc 0 x

def pr (s : State) : State := ((rfs s fun r => {r with locked := [0]}).set (F.RF_IN_STAT_DET_STD 0) 3).set F.TB_UTC_VALID 1

/-- Every clause of part 2 of Obligations.AnalogueAndLtcInputs can be met. -/
theorem witness_AnalogueAndLtcInputs_2 :
    (∃ k : Fin 2, ∃ w : LtcWord, ∃ s : State, 
      let on := s.rfIn = true ∧ s.flag (F.RF_LTCIN_CTRL_EN k.val) = true
      on ∧ s.ltcConsistent k.val w = true) ∧
    (∃ k : Fin 2, ∃ w : LtcWord, ∃ s : State, 
      let on := s.rfIn = true ∧ s.flag (F.RF_LTCIN_CTRL_EN k.val) = true
      on ∧ s.ltcConsistent k.val w = false ∧ (s.ltc k.val).bad < 2) ∧
    (∃ k : Fin 2, ∃ w : LtcWord, ∃ s : State, 
      let on := s.rfIn = true ∧ s.flag (F.RF_LTCIN_CTRL_EN k.val) = true
      on ∧ s.ltcConsistent k.val w = false ∧ 2 ≤ (s.ltc k.val).bad) ∧
    (∃ k : Fin 2, ∃ s : State, 
      let on := s.rfIn = true ∧ s.flag (F.RF_LTCIN_CTRL_EN k.val) = true
      (¬ on)) :=
  ⟨⟨0, w0, (pr (en {bad := 2, ok := true, last := some 24079} up)), by decide +kernel⟩,
   ⟨0, w0, (en {} up), by decide +kernel⟩,
   ⟨0, w0, (pr (en {bad := 2, ok := true} up)), by decide +kernel⟩,
   ⟨0, up, by decide +kernel⟩⟩

end LtcInputsFollowTheirWords

/-- Every clause of part 1 of Obligations.PpsAndSourceThree can be met. -/
theorem witness_PpsAndSourceThree_1 :
    (∃ o : Origin, ∃ v : Word, ∃ s : State, Reaches s o (.RF_CTRL, []) v ∧ bits v 31 16 ≠ 0) ∧
    (∃ o : Origin, ∃ s : State, Reaches s o (.RF_CTRL, []) (w32 0x10001) ∧ s.healthy = true) ∧
    (∃ o : Origin, ∃ s : State, Reaches s o (.RF_CTRL, []) (w32 0x10001) ∧ s.healthy = false) :=
  ⟨⟨(Origin.pf 0), (0x00060006#32), up, by repeat' first | decide +kernel | constructor⟩,
   ⟨(Origin.pf 0), (cel up), by repeat' first | decide +kernel | constructor⟩,
   ⟨(Origin.pf 0), up, by repeat' first | decide +kernel | constructor⟩⟩

namespace PpsInputsServeSourceTwo

def ok : List Byte := ((todFrame (up.todBody 5)).map fun c => BitVec.ofNat 8 c)

def ed (f : RfSt → RfSt) (s : State) : State := ((tbs (rfs s fun r => f {r with edge := some (⟨4, 0, 0⟩, 5)}) fun t => {t with tenOk := true}).set F.RF_PPS_CTRL_IN_EN 1).set F.RF_PPS_CTRL_TOD_IN 1

def us (s : State) : State := tbs s fun t => {t with srcs := [(2, {usable := true})]}

def td (s : State) : State := s.set F.RF_PPS_CTRL_TOD_OUT 1

/-- Every clause of part 2 of Obligations.PpsAndSourceThree can be met. -/
theorem witness_PpsAndSourceThree_2 :
    (∃ ten : Nat, ∃ n : Nat, ∃ s : State, 
      let on := s.rfIn = true ∧ s.flag F.RF_PPS_CTRL_IN_EN = true
      let d := (ten - n) % 10000000
      ∃ e, on ∧ s.rf.edge = some (e, n) ∧ n < ten ∧ (d ≤ 10 ∨ 9999990 ≤ d) ∧ s.rf.todDue = false ∧ s.tb.tenOk = true ∧ s.rf.ppsUse = false) ∧
    (∃ ten : Nat, ∃ n : Nat, ∃ s : State, 
      let on := s.rfIn = true ∧ s.flag F.RF_PPS_CTRL_IN_EN = true
      let d := (ten - n) % 10000000
      ∃ e, on ∧ s.rf.edge = some (e, n) ∧ 10 < d ∧ d < 9999990 ∧ s.rf.ppsUse = true) ∧
    (∃ s : State, 
      let on := s.rfIn = true ∧ s.flag F.RF_PPS_CTRL_IN_EN = true
      (¬ on)) ∧
    (∃ s : State, s.rf.ppsUse = true) ∧
    (∃ s : State, s.rf.ppsUse = false) ∧
    (∃ s : State, s.rf.ppsUse = true) ∧
    (∃ s : State, s.flag F.RF_PPS_CTRL_IN_EN = true ∧ s.rf.ppsOk = true ∧ s.rf.ppsUse = false) ∧
    (∃ m : TodSentence, ∃ s : State, 
      let hears := s.rfIn = true ∧ s.flag F.RF_PPS_CTRL_TOD_IN = true
      hears ∧ todValid m = true ∧ s.rf.edge.isSome = true) ∧
    (∃ m : TodSentence, ∃ s : State, 
      let hears := s.rfIn = true ∧ s.flag F.RF_PPS_CTRL_TOD_IN = true
      hears ∧ (todValid m = false ∨ s.rf.edge = none)) ∧
    (∃ s : State, 
      let hears := s.rfIn = true ∧ s.flag F.RF_PPS_CTRL_TOD_IN = true
      (¬ hears)) ∧
    (∃ s : State, 
      let q : Int := ((s.tb.sec * 1000000000 + s.tb.ns : Nat) : Int) * 4 - signed 32 (s.rdE (.RF_PPS_OFS, [])).toNat - 40000000
      let sec := (q / 4000000000).toNat
      s.flag F.RF_PPS_CTRL_TOD_OUT = true ∧ s.rfOn = true ∧ 0 ≤ q ∧ s.rf.todSent ≠ sec) ∧
    (∃ s : State, 
      let q : Int := ((s.tb.sec * 1000000000 + s.tb.ns : Nat) : Int) * 4 - signed 32 (s.rdE (.RF_PPS_OFS, [])).toNat - 40000000
      let sec := (q / 4000000000).toNat
      (s.flag F.RF_PPS_CTRL_TOD_OUT = false ∨ s.rfOn = false ∨ q < 0 ∨ s.rf.todSent = sec) ∧ s.irqOwed = []) :=
  ⟨⟨10000003, 5, (ed id up), { sec := 4, ns := 0, frac := 0 }, by decide +kernel⟩,
   ⟨15000005, 5, (us (ed (fun r => {r with ppsUse := true, ppsOk := true}) up)), { sec := 4, ns := 0, frac := 0 }, by decide +kernel⟩,
   ⟨up, by decide +kernel⟩,
   ⟨(us (ed (fun r => {r with ppsUse := true, ppsOk := true}) up)), by decide +kernel⟩,
   ⟨up, by decide +kernel⟩,
   ⟨(us (ed (fun r => {r with ppsUse := true, ppsOk := true}) up)), by decide +kernel⟩,
   ⟨(ed (fun r => {r with ppsOk := true}) up), by decide +kernel⟩,
   ⟨⟨ok, 30⟩, (ed id up), by decide +kernel⟩,
   ⟨⟨ok, 30⟩, (ed (fun r => {r with edge := none}) up), by decide +kernel⟩,
   ⟨up, by decide +kernel⟩,
   ⟨(td (tbs up fun t => {t with ns := 20000000})), by decide +kernel⟩,
   ⟨up, by decide +kernel⟩⟩

end PpsInputsServeSourceTwo

namespace OutputsApplyAndLimit

def on (s : State) : State := ((((((s.set (F.RF_OUT_CTRL_EN 0) 1).set (F.RF_OUT_CTRL_STD 0) 1).set (F.RF_OUT_CTRL_EN 2) 1).set (F.RF_OUT_CTRL_STD 2)
  3).set (F.RF_LTCOUT_CTRL_EN 0) 1).set (F.RF_DARS_CTRL_EN 1) 1).wr (.RF_PPS_CTRL, []) (w32 0xFFF3)

def wt (s : State) : State := { (((s.wr (.RF_OUT_OFS, [0]) 7).wr (.RF_LTCOUT_OFS, [0]) 9).wr (.RF_PPS_WIDTH, []) 10) with waiting := [((.RF_OUT_OFS, [0]), 5, 7), ((.RF_LTCOUT_OFS, [0]), 100000, 9), ((.RF_PPS_WIDTH, []), 3, 10)], eff := [((.RF_OUT_OFS, [0]), some 3)] }

/-- Every clause of Obligations.OutputsApplyAndLimit can be met. -/
theorem witness_OutputsApplyAndLimit :
    (∃ k : Fin 4, ∃ s : State, s.flag (F.RF_OUT_CTRL_EN k.val) = true ∧ s.rf.load.contains k.val = false) ∧
    (∃ k : Fin 4, ∃ s : State, (s.flag (F.RF_OUT_CTRL_EN k.val) = false ∨ s.rf.load.contains k.val = true)) ∧
    (∃ out : RefOut, ∃ s : State, 
      let i := s.outPeriod out
      let begun := mget (fun _ => 0) s.rf.sent (outCode out) = i + 1
      s.outOn out = true ∧ begun) ∧
    (∃ out : RefOut, ∃ s : State, s.outOn out = false) ∧
    (∃ out : RefOut, ∃ s : State, 
      let i := s.outPeriod out
      let begun := mget (fun _ => 0) s.rf.sent (outCode out) = i + 1
      s.outOn out = true ∧ (¬ begun)) :=
  ⟨⟨0, (wt (on up)), by decide +kernel⟩,
   ⟨0, up, by decide +kernel⟩,
   ⟨(RefOut.video 0), (nx (.outputOffsetApply (.video 0)) (on up)), by decide +kernel⟩,
   ⟨(RefOut.video 0), up, by decide +kernel⟩,
   ⟨(RefOut.video 0), (wt (on up)), by decide +kernel⟩⟩

end OutputsApplyAndLimit

end Reference

namespace Heads

def hds (n : Nat) (s : State) (f : HeadSt → HeadSt) : State := s.updHead n f

def ra (s : State) : State := ((((s.set (F.HD_RASTER_FMT 3) 4).set (F.HD_RASTER_RATE 3) 7).set (F.HD_DEST_SDI_EN 3) 1).set F.DV_MODE_MODE 6).set
  F.TB_STATE_STATE 6

def hd (st f l : Nat) (s : State) : State := hds 3 ((ra s).set (F.HD_STAT_STATE 3) st) fun h => {h with frame := f, line := l, everRun := st ≥ 2, startFrame := 50000, stopFrame := 49999, bndNext := 50000, dlNext := 50001}

def m8 (s : State) : State := s.set F.DV_MODE_MODE 8

/-- Every clause of part 1 of Obligations.HeadsStartAndStop can be met. -/
theorem witness_HeadsStartAndStop_1 :
    (∃ o : Origin, ∃ n : Fin 16, ∃ v : Word, ∃ s : State, 
      let onAir := if v.getLsbD 17 then v.getLsbD 1 else s.flag (F.HD_CTRL_ON_AIR n.val)
      s.hst n.val = 0 ∧ s.startErr n.val onAir = 0 ∧ ((∀ w, Reaches s o (.HD_CTRL, [n.val]) w))) ∧
    (∃ o : Origin, ∃ n : Fin 16, ∃ v : Word, ∃ s : State, 
      let onAir := if v.getLsbD 17 then v.getLsbD 1 else s.flag (F.HD_CTRL_ON_AIR n.val)
      ∃ e, s.hst n.val = 0 ∧ s.startErr n.val onAir = e ∧ e ≠ 0 ∧ ((∀ w, Reaches s o (.HD_CTRL, [n.val]) w))) ∧
    (∃ o : Origin, ∃ n : Fin 16, ∃ s : State, s.hst n.val = 3 ∧ ((∀ w, Reaches s o (.HD_CTRL, [n.val]) w))) ∧
    (∃ o : Origin, ∃ n : Fin 16, ∃ s : State, 4 ≤ s.hst n.val ∧ ((∀ w, Reaches s o (.HD_CTRL, [n.val]) w))) ∧
    (∃ o : Origin, ∃ n : Fin 16, ∃ s : State, (s.hst n.val = 1 ∨ s.hst n.val = 2) ∧ ((∀ w, Reaches s o (.HD_CTRL, [n.val]) w))) :=
  ⟨⟨(Origin.pf 0), 3, (0x00020002#32), (ra up), by repeat' first | exact fun w => reaches w (by decide +kernel) (by decide +kernel) (fun _ => nofun) | apply And.intro | decide +kernel | constructor⟩,
   ⟨(Origin.pf 0), 3, (0x00020002#32), up, 1, by repeat' first | exact fun w => reaches w (by decide +kernel) (by decide +kernel) (fun _ => nofun) | apply And.intro | decide +kernel | constructor⟩,
   ⟨(Origin.pf 0), 3, (hd 3 5 5 up), by repeat' first | exact fun w => reaches w (by decide +kernel) (by decide +kernel) (fun _ => nofun) | apply And.intro | decide +kernel | constructor⟩,
   ⟨(Origin.pf 0), 3, (hd 4 5 5 up), by repeat' first | exact fun w => reaches w (by decide +kernel) (by decide +kernel) (fun _ => nofun) | apply And.intro | decide +kernel | constructor⟩,
   ⟨(Origin.pf 0), 3, (hd 1 5 5 up), by repeat' first | exact fun w => reaches w (by decide +kernel) (by decide +kernel) (fun _ => nofun) | apply And.intro | decide +kernel | constructor⟩⟩

/-- Every clause of part 2 of Obligations.HeadsStartAndStop can be met. -/
theorem witness_HeadsStartAndStop_2 :
    (∃ o : Origin, ∃ n : Fin 16, ∃ s : State, Reaches s o (.HD_CTRL, [n.val]) (w32 0x10000) ∧ s.hst n.val = 1) ∧
    (∃ o : Origin, ∃ n : Fin 16, ∃ s : State, Reaches s o (.HD_CTRL, [n.val]) (w32 0x10000) ∧ s.hst n.val = 2) ∧
    (∃ o : Origin, ∃ n : Fin 16, ∃ s : State, 
      let h (t : State) := t.head n.val
      Reaches s o (.HD_CTRL, [n.val]) (w32 0x10000) ∧ (s.hst n.val = 4 ∨ s.hst n.val = 5) ∧ (h s).stopPending = false) ∧
    (∃ o : Origin, ∃ n : Fin 16, ∃ s : State, Reaches s o (.HD_CTRL, [n.val]) (w32 0x10000) ∧ (s.hst n.val = 0 ∨ s.hst n.val = 3)) ∧
    (∃ o : Origin, ∃ n : Fin 16, ∃ s : State, 
      let h (t : State) := t.head n.val
      Reaches s o (.HD_CTRL, [n.val]) (w32 0x10000) ∧ s.hst n.val = 3 ∧ s.lineStart n.val ((h s).stopFrame + 1) 1 ≤ s.now) ∧
    (∃ o : Origin, ∃ n : Fin 16, ∃ s : State, Reaches s o (.HD_CTRL, [n.val]) (w32 0x10000) ∧ s.stopDue n.val = false) :=
  ⟨⟨(Origin.pf 0), 3, (hd 1 50000 5 up), by repeat' first | decide +kernel | constructor⟩,
   ⟨(Origin.pf 0), 3, (hd 2 50000 5 up), by repeat' first | decide +kernel | constructor⟩,
   ⟨(Origin.pf 0), 3, (hd 4 50000 5 up), by repeat' first | decide +kernel | constructor⟩,
   ⟨(Origin.pf 0), 3, (hd 0 50000 5 up), by repeat' first | decide +kernel | constructor⟩,
   ⟨(Origin.pf 0), 3, (hd 3 50000 5 up), by repeat' first | decide +kernel | constructor⟩,
   ⟨(Origin.pf 0), 3, (hd 0 50000 5 up), by repeat' first | decide +kernel | constructor⟩⟩

/-- Every clause of part 1 of Obligations.LinesAndSamples can be met. -/
theorem witness_LinesAndSamples_1 :
    (∃ n : Fin 16, ∃ s : State, 
      let h (t : State) := t.head n.val
      s.hst n.val = 1 ∧ s.lineStart n.val (h s).startFrame 1 ≤ s.now ∧ s.mode ≠ 8) ∧
    (∃ n : Fin 16, ∃ s : State, 
      let h (t : State) := t.head n.val
      s.hst n.val = 1 ∧ s.lineStart n.val (h s).startFrame 1 ≤ s.now ∧ s.mode = 8) ∧
    (∃ n : Fin 16, ∃ s : State, 
      let h (t : State) := t.head n.val
      (s.awaits n.val = false ∨ s.now < s.lineStart n.val (h s).startFrame 1)) ∧
    (∃ n : Fin 16, ∃ s : State, 
      let h (t : State) := t.head n.val
      let next := if rasterT (s.fmt n.val) ≤ (h s).line then ((h s).frame + 1, 1) else ((h s).frame, (h s).line + 1)
      s.hst n.val = 2 ∧ s.lineStart n.val next.1 next.2 ≤ s.now ∧ s.mode ≠ 8) ∧
    (∃ n : Fin 16, ∃ s : State, 
      let h (t : State) := t.head n.val
      let next := if rasterT (s.fmt n.val) ≤ (h s).line then ((h s).frame + 1, 1) else ((h s).frame, (h s).line + 1)
      s.hst n.val = 2 ∧ s.lineStart n.val next.1 next.2 ≤ s.now ∧ s.mode = 8) ∧
    (∃ n : Fin 16, ∃ s : State, 
      let h (t : State) := t.head n.val
      let next := if rasterT (s.fmt n.val) ≤ (h s).line then ((h s).frame + 1, 1) else ((h s).frame, (h s).line + 1)
      s.hst n.val = 2 ∧ s.now < s.lineStart n.val next.1 next.2) ∧
    (∃ n : Fin 16, ∃ s : State, 
      let h (t : State) := t.head n.val
      s.hst n.val = 0 ∧ (h s).everRun = false) :=
  ⟨⟨3, (hd 1 5 5 up), by decide +kernel⟩,
   ⟨3, (m8 (hd 1 5 5 up)), by decide +kernel⟩,
   ⟨3, (hds 3 (hd 1 5 5 up) fun h => {h with startFrame := 50001}), by decide +kernel⟩,
   ⟨3, (hd 2 49999 1125 up), by decide +kernel⟩,
   ⟨3, (m8 (hd 2 49999 1125 up)), by decide +kernel⟩,
   ⟨3, (hd 2 50000 3 up), by decide +kernel⟩,
   ⟨3, (hd 0 5 5 up), by decide +kernel⟩⟩

namespace SampleEventsComeOnce

def sm (s : State) : State := ((s.wr (.HD_SMP, [3, 0]) (w32 (0x80000001 + 5 * 65536))).wr (.HD_SMP, [3, 1]) (w32 (0x80000001 + 2000 * 65536))).wr
  (.HD_SMP, [3, 3]) (w32 (0x1 + 2 * 65536))

/-- Every clause of part 2 of Obligations.LinesAndSamples can be met. -/
theorem witness_LinesAndSamples_2 :
    (∃ n : Fin 16, ∃ i : Fin 4, ∃ r : Nat × Nat × Nat × Nat, ∃ s : State, 
      let h (t : State) := t.head n.val
      let w := s.rdE (.HD_SMP, [n.val, i.val])
      let line := bits w 12 0
      let due := sampleStart r ((h s).frame * (r.2.1 * r.1) + (line - 1) * r.1 + bits w 29 16 + s.delay n.val r.1) ≤ s.now
      let named := bits w 31 31 = 1 ∧ line ≠ 0 ∧ line = (h s).line ∧ bits w 29 16 < r.1 ∧ 2 ≤ s.hst n.val
      s.raster n.val = some r ∧ named ∧ due ∧ i.val ∉ (h s).raised) ∧
    (∃ n : Fin 16, ∃ i : Fin 4, ∃ r : Nat × Nat × Nat × Nat, ∃ s : State, 
      let h (t : State) := t.head n.val
      let w := s.rdE (.HD_SMP, [n.val, i.val])
      let line := bits w 12 0
      let due := sampleStart r ((h s).frame * (r.2.1 * r.1) + (line - 1) * r.1 + bits w 29 16 + s.delay n.val r.1) ≤ s.now
      let named := bits w 31 31 = 1 ∧ line ≠ 0 ∧ line = (h s).line ∧ bits w 29 16 < r.1 ∧ 2 ≤ s.hst n.val
      s.raster n.val = some r ∧ (¬ named ∨ ¬ due ∨ i.val ∈ (h s).raised)) :=
  ⟨⟨3, 0, ((2640, 1125, 50, 1)), (sm (hd 2 50000 1 up)), by decide +kernel⟩,
   ⟨3, 0, ((2640, 1125, 50, 1)), (hds 3 (sm (hd 2 50000 1 up)) fun h => {h with raised := [0]}), by decide +kernel⟩⟩

end SampleEventsComeOnce

namespace DeadlinesFixTheNextFrame

def cs : CommitSet := { head := 3, serial := 4, target := 50000, layers := [] }

def pn (s : State) (l : List CommitSet) : State := hds 3 s fun h => {h with pending := l, dlNext := 50000}

/-- Every clause of part 1 of Obligations.DeadlinesAndBoundaries can be met. -/
theorem witness_DeadlinesAndBoundaries_1 :
    (∃ n : Fin 16, ∃ s : State, 
      let h (t : State) := t.head n.val
      let active := s.hst n.val = 1 ∨ s.hst n.val = 2 ∨ s.hst n.val = 3
      let due := s.deadlineAt n.val (h s).dlNext (s.leadFor n.val (h s).dlNext) ≤ s.now
      active ∧ due) ∧
    (∃ n : Fin 16, ∃ s : State, 
      let h (t : State) := t.head n.val
      let active := s.hst n.val = 1 ∨ s.hst n.val = 2 ∨ s.hst n.val = 3
      let due := s.deadlineAt n.val (h s).dlNext (s.leadFor n.val (h s).dlNext) ≤ s.now
      ((¬ active ∧ (h s).restart = false) ∨ ¬ due)) :=
  ⟨⟨3, (pn (hd 1 50000 1 up) [cs]), by decide +kernel⟩,
   ⟨3, (hd 1 50000 1 up), by decide +kernel⟩⟩

end DeadlinesFixTheNextFrame

namespace BoundariesApplySets

def cs : CommitSet := { head := 3, serial := 4, target := 50000, layers := [] }

def pn (s : State) (l : List CommitSet) : State := hds 3 s fun h => {h with pending := l, bndNext := 50000}

def lt (s : State) : State := {s with tb := {s.tb with ns := 200000}}

/-- Every clause of part 2 of Obligations.DeadlinesAndBoundaries can be met. -/
theorem witness_DeadlinesAndBoundaries_2 :
    (∃ n : Fin 16, ∃ s : State, 
      let h (t : State) := t.head n.val
      let f := (h s).bndNext
      let runs := s.hst n.val = 2 ∨ s.hst n.val = 3
      let due := (h s).pending.filter fun c => decide (c.target ≤ f)
      ∃ c, runs ∧ s.lineStart n.val f 7 ≤ s.now ∧ due.getLast? = some c ∧ c.head = n.val) ∧
    (∃ n : Fin 16, ∃ s : State, 
      let h (t : State) := t.head n.val
      let f := (h s).bndNext
      let runs := s.hst n.val = 2 ∨ s.hst n.val = 3
      let due := (h s).pending.filter fun c => decide (c.target ≤ f)
      runs ∧ s.lineStart n.val f 7 ≤ s.now ∧ due = []) ∧
    (∃ n : Fin 16, ∃ s : State, 
      let h (t : State) := t.head n.val
      let f := (h s).bndNext
      let runs := s.hst n.val = 2 ∨ s.hst n.val = 3
      (¬ runs ∨ s.now < s.lineStart n.val f 7)) :=
  ⟨⟨3, (pn (hd 2 50000 1 (lt up)) [cs]), { head := 3, serial := 4, tag := 0, org := { cls := 0, det := 0 }, layers := [], order := [], oc := [], members := [], prep := false, accepted := 0, target := 50000, released := false, restored := false, adm := { bands := [], tiles := 0, culled := [] } }, by decide +kernel⟩,
   ⟨3, (hd 2 50000 1 (lt up)), by decide +kernel⟩,
   ⟨3, (hd 1 50000 1 up), by decide +kernel⟩⟩

end BoundariesApplySets

/-- Every clause of part 1 of Obligations.RowsAndDestinations can be met. -/
theorem witness_RowsAndDestinations_1 :
    (∃ k : Fin 8, ∃ m : Fin 32, ∃ row : Nat, ∃ e : Nat × Nat, ∃ s : State, 
      let asked := (s.layer k.val m.val).asked
      asked.find? (fun e => e.2 == row) = some e) ∧
    (∃ k : Fin 8, ∃ m : Fin 32, ∃ row : Nat, ∃ e : Nat × Nat, ∃ s : State, 
      let asked := (s.layer k.val m.val).asked
      ((∀ e ∈ asked, e.2 ≠ row))) :=
  ⟨⟨1, 2, 7, ((100000, 7)), (up.updLayer 1 2 fun l => {l with asked := [(100000, 7), (100001, 7), (3, 8)], rows := [⟨5, 6, none, true⟩]}), by decide +kernel⟩,
   ⟨1, 2, 0, ((100000, 7)), up, by decide +kernel⟩⟩

namespace DestinationsFailAndResume

def dd (s : State) : State := (s.set (F.HD_DEST_DP_EN 3) 1).set (F.HD_DEST_ST_EN 3) 1

/-- Every clause of part 2 of Obligations.RowsAndDestinations can be met. -/
theorem witness_RowsAndDestinations_2 :
    (∃ n : Fin 16, ∃ s : State, s.destOn n.val 0 = true) ∧
    (∃ n : Fin 16, ∃ s : State, s.destOn n.val 0 = false) ∧
    (∃ n : Fin 16, ∃ s : State, 
      let h (t : State) := t.head n.val
      s.destOn n.val 1 = true ∧ (h s).dpDown = false) ∧
    (∃ n : Fin 16, ∃ s : State, 
      let h (t : State) := t.head n.val
      s.destOn n.val 1 = true ∧ (h s).dpDown = true) ∧
    (∃ n : Fin 16, ∃ d : Fin 3, ∃ s : State, s.destOn n.val d.val = true) ∧
    (∃ n : Fin 16, ∃ d : Fin 3, ∃ s : State, s.destOn n.val d.val = false) ∧
    (∃ n : Fin 16, ∃ s : State, 
      let h (t : State) := t.head n.val
      (h s).dpDown = true ∧ (h s).dpResume = false ∧ (h s).dpHpd = true ∧ (h s).dpNext ≤ s.tick) ∧
    (∃ n : Fin 16, ∃ s : State, 
      let h (t : State) := t.head n.val
      ((h s).dpDown = false ∨ (h s).dpHpd = false ∨ s.tick < (h s).dpNext)) ∧
    (∃ n : Fin 16, ∃ s : State, 
      let h (t : State) := t.head n.val
      ((h s).sdiFail = true ∨ (h s).sdiReset = true) ∧ s.ticking n.val = true) ∧
    (∃ n : Fin 16, ∃ s : State, 
      let h (t : State) := t.head n.val
      ((h s).sdiFail = true ∨ (h s).sdiReset = true) ∧ s.ticking n.val = false) :=
  ⟨⟨3, (dd (hd 2 50000 5 up)), by decide +kernel⟩,
   ⟨3, up, by decide +kernel⟩,
   ⟨3, (dd (hd 2 50000 5 up)), by decide +kernel⟩,
   ⟨3, (hds 3 (dd (hd 2 50000 5 up)) fun h => {h with dpDown := true}), by decide +kernel⟩,
   ⟨3, 0, (dd (hd 2 50000 5 up)), by decide +kernel⟩,
   ⟨3, 0, up, by decide +kernel⟩,
   ⟨3, (hds 3 up fun h => {h with dpDown := true}), by decide +kernel⟩,
   ⟨3, up, by decide +kernel⟩,
   ⟨3, (hds 3 (dd (hd 2 50000 5 up)) fun h => {h with sdiFail := true, fifoOut := [0, 1]}), by decide +kernel⟩,
   ⟨3, (hds 3 up fun h => {h with sdiFail := true, fifoOut := [0, 1]}), by decide +kernel⟩⟩

end DestinationsFailAndResume

end Heads

namespace Commits

def hds (n : Nat) (s : State) (f : HeadSt → HeadSt) : State := s.updHead n f

def ra (s : State) : State := ((((s.set (F.HD_RASTER_FMT 3) 4).set (F.HD_RASTER_RATE 3) 7).set (F.HD_DEST_SDI_EN 3) 1).set F.DV_MODE_MODE 6).set
  F.TB_STATE_STATE 6

def hd (st : Nat) (s : State) : State := hds 3 ((ra s).set (F.HD_STAT_STATE 3) st) fun h => {h with startFrame := 50000, bndNext := 50000, latest := 4}

def dn (s : State) : State := { s with dv := { s.dv with step := 4 } }

def cs : CommitSet := { head := 3, serial := 4, target := 50000, layers := [] }

namespace CommitsEnterChecking

def gr (s : State) : State := (((s.set (F.HD_GROUP_GROUP 3) 2).set (F.HD_GROUP_GROUP 5) 2).set (F.HD_RASTER_FMT 5) 4).set (F.HD_RASTER_RATE 5) 7

/-- Every clause of part 1 of Obligations.CommitsAreChecked can be met. -/
theorem witness_CommitsAreChecked_1 :
    (∃ o : Origin, ∃ k : Fin 8, ∃ v : Word, ∃ s : State, 
      let h := bits v 0 0
      let n := 2 * k.val + h
      s.checking n = true ∧ ((∀ w, Reaches s o (.CE_COMMIT, [k.val]) w))) ∧
    (∃ o : Origin, ∃ k : Fin 8, ∃ v : Word, ∃ s : State, 
      let h := bits v 0 0
      let n := 2 * k.val + h
      s.checking n = false ∧ ((∀ w, Reaches s o (.CE_COMMIT, [k.val]) w))) ∧
    (∃ o : Origin, ∃ k : Fin 8, ∃ v : Word, ∃ s : State, 
      let h := bits v 0 0
      let n := 2 * k.val + h
      let g := s.get (F.HD_GROUP_GROUP n)
      s.checking n = false ∧ (bits v 1 1 = 0 ∨ g = 0) ∧ ((∀ w, Reaches s o (.CE_COMMIT, [k.val]) w))) ∧
    (∃ o : Origin, ∃ k : Fin 8, ∃ v : Word, ∃ s : State, 
      let h := bits v 0 0
      let n := 2 * k.val + h
      let g := s.get (F.HD_GROUP_GROUP n)
      s.checking n = false ∧ g = 0 ∧ bits v 2 2 = 0 ∧ ((∀ w, Reaches s o (.CE_COMMIT, [k.val]) w))) ∧
    (∃ o : Origin, ∃ k : Fin 8, ∃ v : Word, ∃ s : State, 
      let h := bits v 0 0
      let n := 2 * k.val + h
      let g := s.get (F.HD_GROUP_GROUP n)
      g ≠ 0 ∧ s.active n = true ∧ ((∀ m, m < 16 → s.get (F.HD_GROUP_GROUP m) = g → s.active m = true → s.checking m = false)) ∧
      ((∀ w, Reaches s o (.CE_COMMIT, [k.val]) w))) ∧
    (∃ o : Origin, ∃ k : Fin 8, ∃ v : Word, ∃ s : State, 
      let h := bits v 0 0
      let n := 2 * k.val + h
      let g := s.get (F.HD_GROUP_GROUP n)
      g ≠ 0 ∧ s.active n = true ∧ ((∃ m, m < 16 ∧ s.get (F.HD_GROUP_GROUP m) = g ∧ s.active m = true ∧ s.checking m = true)) ∧
      ((∀ w, Reaches s o (.CE_COMMIT, [k.val]) w))) ∧
    (∃ o : Origin, ∃ k : Fin 8, ∃ v : Word, ∃ s : State, 
      let h := bits v 0 0
      let n := 2 * k.val + h
      let g := s.get (F.HD_GROUP_GROUP n)
      g ≠ 0 ∧ s.active n = false ∧ s.checking n = false ∧ ((∀ m, m < 16 → s.checking m = false)) ∧ ((∀ w, Reaches s o (.CE_COMMIT, [k.val]) w))) :=
  ⟨⟨(Origin.pf 0), 1, (0x12340001#32), ((hd 2 up).set (F.CE_CSTAT_STATE 1 1) 1), by repeat' first | exact fun w => reaches w (by decide +kernel) (by decide +kernel) (fun _ => nofun) | apply And.intro | decide +kernel | constructor⟩,
   ⟨(Origin.pf 0), 1, (0x12340001#32), (hd 2 up), by repeat' first | exact fun w => reaches w (by decide +kernel) (by decide +kernel) (fun _ => nofun) | apply And.intro | decide +kernel | constructor⟩,
   ⟨(Origin.pf 0), 1, (0x12340001#32), (hd 2 up), by repeat' first | exact fun w => reaches w (by decide +kernel) (by decide +kernel) (fun _ => nofun) | apply And.intro | decide +kernel | constructor⟩,
   ⟨(Origin.pf 0), 1, (0x12340001#32), (hd 2 up), by repeat' first | exact fun w => reaches w (by decide +kernel) (by decide +kernel) (fun _ => nofun) | apply And.intro | decide +kernel | constructor⟩,
   ⟨(Origin.pf 0), 1, (0x12340001#32), (gr (hd 2 up)), by repeat' first | exact fun w => reaches w (by decide +kernel) (by decide +kernel) (fun _ => nofun) | apply And.intro | decide +kernel | constructor⟩,
   ⟨(Origin.pf 0), 1, (0x12340001#32), (((gr (hd 2 up)).set (F.HD_STAT_STATE 5) 2).set (F.CE_CSTAT_STATE 2 1) 1), by repeat' first | exact fun w => reaches w (by decide +kernel) (by decide +kernel) (fun _ => nofun) | apply And.intro | decide +kernel | constructor⟩,
   ⟨(Origin.pf 0), 1, (0x12340001#32), (gr (hd 0 up)), by repeat' first | exact fun w => reaches w (by decide +kernel) (by decide +kernel) (fun _ => nofun) | apply And.intro | decide +kernel | constructor⟩⟩

end CommitsEnterChecking

namespace ChecksEnd

def ck (c : Check) (s : State) : State := { s with engines := [(1, ⟨[c]⟩)] }

/-- Every clause of part 2 of Obligations.CommitsAreChecked can be met. -/
theorem witness_CommitsAreChecked_2 :
    (∃ k : Fin 8, ∃ s : State, ((s.eng k.val).checks = [] ∨ s.blocksUp = false)) ∧
    (∃ k : Fin 8, ∃ h : Fin 2, ∃ c : Check, ∃ cs : List Check, ∃ s : State, 
      let n := 2 * k.val + h.val
      let v : Verdict := if c.left then { reason := 8 } else c.verdict.getD {}
      let mine := s.blocksUp = true ∧ c.set.head = n ∧ c.set.members = [] ∧ (s.head n).latest = c.set.serial
      (s.eng k.val).checks = c :: cs ∧ mine ∧ v.reason ≠ 0 ∧ v.reason < 16) ∧
    (∃ k : Fin 8, ∃ h : Fin 2, ∃ c : Check, ∃ cs : List Check, ∃ s : State, 
      let n := 2 * k.val + h.val
      let v : Verdict := if c.left then { reason := 8 } else c.verdict.getD {}
      let mine := s.blocksUp = true ∧ c.set.head = n ∧ c.set.members = [] ∧ (s.head n).latest = c.set.serial
      (s.eng k.val).checks = c :: cs ∧ mine ∧ v.reason = 0 ∧ c.set.prep = true) ∧
    (∃ k : Fin 8, ∃ h : Fin 2, ∃ c : Check, ∃ cs : List Check, ∃ s : State, 
      let n := 2 * k.val + h.val
      let v : Verdict := if c.left then { reason := 8 } else c.verdict.getD {}
      let mine := s.blocksUp = true ∧ c.set.head = n ∧ c.set.members = [] ∧ (s.head n).latest = c.set.serial
      (s.eng k.val).checks = c :: cs ∧ mine ∧ v.reason = 0 ∧ c.set.prep = false ∧ c.set.restored = false ∧ s.hst n = 0) ∧
    (∃ k : Fin 8, ∃ h : Fin 2, ∃ c : Check, ∃ cs : List Check, ∃ s : State, 
      let n := 2 * k.val + h.val
      let v : Verdict := if c.left then { reason := 8 } else c.verdict.getD {}
      let mine := s.blocksUp = true ∧ c.set.head = n ∧ c.set.members = [] ∧ (s.head n).latest = c.set.serial
      (s.eng k.val).checks = c :: cs ∧ mine ∧ v.reason = 0 ∧ c.set.prep = false ∧ s.hst n ≠ 0) :=
  ⟨⟨1, (ck ({ set := cs }) (dn up)), by decide +kernel⟩,
   ⟨1, 1, { set := cs, left := true }, [], (ck ({ set := cs, left := true }) (hd 0 up)), by decide +kernel⟩,
   ⟨1, 1, { set := {cs with prep := true}, verdict := some {} }, [], (ck ({ set := {cs with prep := true}, verdict := some {} }) (hd 0 up)), by decide +kernel⟩,
   ⟨1, 1, { set := cs }, [], (ck ({ set := cs }) (hd 0 up)), by decide +kernel⟩,
   ⟨1, 1, { set := cs }, [], (ck ({ set := cs }) (hd 2 up)), by decide +kernel⟩⟩

end ChecksEnd

namespace PreparedSetsAreReleased

def pr (t : Nat) (s : State) : State := ((hds 3 s fun h => {h with prepared := some cs}).set (F.CE_RELEASE_AT_HI_T 1 1) (t / 2 ^ 32)).set (F.CE_RELEASE_AT_LO_T 1 1) t

/-- Every clause of part 1 of Obligations.SetsAreReleasedAndKept can be met. -/
theorem witness_SetsAreReleasedAndKept_1 :
    (∃ o : Origin, ∃ k : Fin 8, ∃ v : Word, ∃ s : State, 
      let h := bits v 0 0
      let n := 2 * k.val + h
      (s.head n).prepared = none ∧ ((∀ w, Reaches s o (.CE_RELEASE, [k.val]) w))) ∧
    (∃ o : Origin, ∃ k : Fin 8, ∃ v : Word, ∃ c : CommitSet, ∃ s : State, 
      let h := bits v 0 0
      let n := 2 * k.val + h
      let mine := (s.head n).prepared = some c ∧ c.head = n ∧ c.members = [] ∧ (s.head n).latest = c.serial
      mine ∧ ((∀ w, Reaches s o (.CE_RELEASE, [k.val]) w))) ∧
    (∃ o : Origin, ∃ k : Fin 8, ∃ v : Word, ∃ c : CommitSet, ∃ s : State, 
      let h := bits v 0 0
      let n := 2 * k.val + h
      let mine := (s.head n).prepared = some c ∧ c.head = n ∧ c.members = [] ∧ (s.head n).latest = c.serial
      mine ∧ s.hst n = 0 ∧ c.restored = false ∧ ((∀ w, Reaches s o (.CE_RELEASE, [k.val]) w))) ∧
    (∃ o : Origin, ∃ k : Fin 8, ∃ v : Word, ∃ c : CommitSet, ∃ s : State, 
      let h := bits v 0 0
      let n := 2 * k.val + h
      let at_ := s.get (F.CE_RELEASE_AT_HI_T k.val h) * 2 ^ 32 + s.get (F.CE_RELEASE_AT_LO_T k.val h)
      let mine := (s.head n).prepared = some c ∧ c.head = n ∧ c.members = [] ∧ (s.head n).latest = c.serial
      mine ∧ s.hst n ≠ 0 ∧ s.domainCount at_ = none ∧ ((∀ w, Reaches s o (.CE_RELEASE, [k.val]) w))) ∧
    (∃ o : Origin, ∃ k : Fin 8, ∃ v : Word, ∃ c : CommitSet, ∃ s : State, 
      let h := bits v 0 0
      let n := 2 * k.val + h
      let at_ := s.get (F.CE_RELEASE_AT_HI_T k.val h) * 2 ^ 32 + s.get (F.CE_RELEASE_AT_LO_T k.val h)
      let mine := (s.head n).prepared = some c ∧ c.head = n ∧ c.members = [] ∧ (s.head n).latest = c.serial
      ∃ u, mine ∧ s.hst n ≠ 0 ∧ s.domainCount at_ = some u ∧ s.deadlinePassed n (s.frameFrom n u) = true ∧
      ((∀ w, Reaches s o (.CE_RELEASE, [k.val]) w))) ∧
    (∃ o : Origin, ∃ k : Fin 8, ∃ v : Word, ∃ c : CommitSet, ∃ s : State, 
      let h := bits v 0 0
      let n := 2 * k.val + h
      let at_ := s.get (F.CE_RELEASE_AT_HI_T k.val h) * 2 ^ 32 + s.get (F.CE_RELEASE_AT_LO_T k.val h)
      let mine := (s.head n).prepared = some c ∧ c.head = n ∧ c.members = [] ∧ (s.head n).latest = c.serial
      ∃ u, mine ∧ s.hst n ≠ 0 ∧ s.domainCount at_ = some u ∧ s.deadlinePassed n (s.frameFrom n u) = false ∧
      ((∀ w, Reaches s o (.CE_RELEASE, [k.val]) w))) :=
  ⟨⟨(Origin.pf 0), 1, (0x00000001#32), (hd 2 up), by repeat' first | exact fun w => reaches w (by decide +kernel) (by decide +kernel) (fun _ => nofun) | apply And.intro | decide +kernel | constructor⟩,
   ⟨(Origin.pf 0), 1, (0x00000001#32), cs, (pr 1000000000500 (hd 0 up)), by repeat' first | exact fun w => reaches w (by decide +kernel) (by decide +kernel) (fun _ => nofun) | apply And.intro | decide +kernel | constructor⟩,
   ⟨(Origin.pf 0), 1, (0x00000001#32), cs, (pr 1000000000500 (hd 0 up)), by repeat' first | exact fun w => reaches w (by decide +kernel) (by decide +kernel) (fun _ => nofun) | apply And.intro | decide +kernel | constructor⟩,
   ⟨(Origin.pf 0), 1, (0x00000001#32), cs, (pr 999999999000 (hd 2 up)), by repeat' first | exact fun w => reaches w (by decide +kernel) (by decide +kernel) (fun _ => nofun) | apply And.intro | decide +kernel | constructor⟩,
   ⟨(Origin.pf 0), 1, (0x00000001#32), cs, (pr 1000000000000 (hd 2 {up with tb := {up.tb with sec := 999, ns := 999900000}})), 4294967296000000000000, by repeat' first | exact fun w => reaches w (by decide +kernel) (by decide +kernel) (fun _ => nofun) | apply And.intro | decide +kernel | constructor⟩,
   ⟨(Origin.pf 0), 1, (0x00000001#32), cs, (pr 1000000000500 (hd 2 up)), 4294967298147483648000, by repeat' first | exact fun w => reaches w (by decide +kernel) (by decide +kernel) (fun _ => nofun) | apply And.intro | decide +kernel | constructor⟩⟩

end PreparedSetsAreReleased

namespace CandidatesAreHandedOver

def q : LastGood := ⟨cs, 5, [((.HD_CTRL, [2]), 2)]⟩

def ql (h : Option Nat) (s : State) : State := hds 2 s fun x => {x with qualified := some q, handover := h}

/-- Every clause of part 2 of Obligations.SetsAreReleasedAndKept can be met. -/
theorem witness_SetsAreReleasedAndKept_2 :
    (∃ k : Fin 8, ∃ q : LastGood, ∃ s : State, 
      let n := 2 * k.val
      let other := 2 * k.val + 1
      (s.head other).qualified = none ∧ (s.head n).qualified = some q ∧ ((∀ x, (s.head n).handover = some x → x + ticksS 1 ≤ s.tick))) ∧
    (∃ k : Fin 8, ∃ s : State, 
      let n := 2 * k.val
      let other := 2 * k.val + 1
      ∃ x, (s.head other).qualified = none ∧ (s.head n).handover = some x ∧ s.tick < x + ticksS 1) :=
  ⟨⟨1, q, (ql none up), by repeat' first | exact all_none (by decide +kernel) | exact all_some rfl (by decide +kernel) | apply And.intro | decide +kernel | constructor⟩,
   ⟨1, (ql (some 5) up), 5, by decide +kernel⟩⟩

end CandidatesAreHandedOver

namespace ProtectedLayerIsOwned

def ow (s : State) : State := nx (.plOwnerWrite (.pf 0) 1 1 (w32 0x1000001)) s

/-- Every clause of part 1 of Obligations.TheProtectedLayer can be met. -/
theorem witness_TheProtectedLayer_1 :
    (∃ o : Origin, ∃ k : Fin 8, ∃ h : Fin 2, ∃ s : State, 
      let key : Key := (.CE_PL_OWNER, [k.val, h.val])
      let marks := mget (fun _ => (0 : Word)) s.w1 key
      s.served = true ∧ s.rights o 14 = 3 ∧ (orgOf o).cls = 1 ∧ marks = 0) ∧
    (∃ o : Origin, ∃ k : Fin 8, ∃ h : Fin 2, ∃ v : Word, ∃ s : State, 
      let key : Key := (.CE_PL_OWNER, [k.val, h.val])
      let marks := mget (fun _ => (0 : Word)) s.w1 key
      s.served = true ∧ s.rights o 14 = 3 ∧ (orgOf o).cls = 1 ∧ marks = w32 0x1FFFFFF ∧ bits v 24 0 ≠ bits (s.rd key) 24 0) ∧
    (∃ o : Origin, ∃ s : State, s.served = true ∧ s.rights o 14 = 3 ∧ (orgOf o).cls ≠ 1) ∧
    (∃ o : Origin, ∃ k : Fin 8, ∃ h : Fin 2, ∃ s : State, 
      let n := 2 * k.val + h.val
      s.served = true ∧ s.rights o 14 = 3 ∧ s.isOwner n (orgOf o) = false) ∧
    (∃ o : Origin, ∃ k : Fin 8, ∃ h : Fin 2, ∃ s : State, 
      let n := 2 * k.val + h.val
      s.served = true ∧ s.rights o 14 = 3 ∧ s.isOwner n (orgOf o) = true ∧ (s.pl n).checking ≠ none) ∧
    (∃ o : Origin, ∃ k : Fin 8, ∃ h : Fin 2, ∃ s : State, 
      let n := 2 * k.val + h.val
      s.served = true ∧ s.rights o 14 = 3 ∧ s.isOwner n (orgOf o) = true ∧ (s.pl n).checking = none) :=
  ⟨⟨(Origin.pf 0), 1, 1, up, by decide +kernel⟩,
   ⟨(Origin.pf 0), 1, 1, (0x12340003#32), (ow up), by decide +kernel⟩,
   ⟨(Origin.pf 1), ((ow up).wr (.DV_PERM_LO, [1]) 0xFFFFFFFF), by decide +kernel⟩,
   ⟨(Origin.pf 0), 1, 1, up, by decide +kernel⟩,
   ⟨(Origin.pf 0), 1, 1, ((ow up).updPl 3 fun p => {p with checking := some ⟨0, true, 5, 0, {}, 0, 0, none, true⟩}), by decide +kernel⟩,
   ⟨(Origin.pf 0), 1, 1, (ow up), by decide +kernel⟩⟩

end ProtectedLayerIsOwned

namespace ProtectedChecksEnd

def pcs : List PlCommit := [{ slot := 0, en := true, tag := 5, place := 7, org := {} }, { slot := 1, en := true, tag := 5, place := 7, org := {}, reason := 4 }, { slot := 0, en := false, tag := 5, place := 7, org := {}, latest := false }]

def pc (c : PlCommit) (s : State) : State := s.updPl 3 fun p => {p with checking := some c}

def sl (s : State) : State := (((s.set (F.CE_PL_S_SIZE_W 1 1 1) 8).set (F.CE_PL_S_SIZE_H 1 1 1) 8).set (F.CE_PL_S_SIZE_W 1 1 0) 8).set
  (F.CE_PL_S_SIZE_H 1 1 0) 8

def rf (s : State) : State := let s := sl s
  let g := s.slotGeom 3 1
  let c := w32 (crc32c (s.region g.1 g.2.1 g.2.2.2 g.2.2.1))
  (s.wr (.CE_PL_S_REF, [1, 1, 1]) c).wr (.CE_PL_S_REF_N, [1, 1, 1]) (~~~ c)

def sc (c : PlScan) (s : State) : State := s.updPl 3 fun p => {p with scan := some c, checking := pcs.head?, verifying := true}

def en (s : State) : State := (s.updPl 3 fun p => {p with enabled := true}).set (F.CE_PL_CSTAT_MODE 1 1) 0

/-- Every clause of part 2 of Obligations.TheProtectedLayer can be met. -/
theorem witness_TheProtectedLayer_2 :
    (∃ k : Fin 8, ∃ h : Fin 2, ∃ s : State, 
      let n := 2 * k.val + h.val
      ((s.pl n).checking = none ∨ s.blocksUp = false)) ∧
    (∃ k : Fin 8, ∃ h : Fin 2, ∃ c : PlCommit, ∃ s : State, 
      let n := 2 * k.val + h.val
      let checked := s.blocksUp = true ∧ (s.pl n).checking = some c ∧ (s.pl n).verifying = false
      checked ∧ c.reason ≠ 0 ∧ c.reason < 16 ∧ s.hst n < 3) ∧
    (∃ k : Fin 8, ∃ h : Fin 2, ∃ c : PlCommit, ∃ s : State, 
      let n := 2 * k.val + h.val
      let checked := s.blocksUp = true ∧ (s.pl n).checking = some c ∧ (s.pl n).verifying = false
      checked ∧ 3 ≤ s.hst n) ∧
    (∃ k : Fin 8, ∃ h : Fin 2, ∃ c : PlCommit, ∃ s : State, 
      let n := 2 * k.val + h.val
      let checked := s.blocksUp = true ∧ (s.pl n).checking = some c ∧ (s.pl n).verifying = false
      checked ∧ c.reason = 0 ∧ s.hst n = 0) ∧
    (∃ k : Fin 8, ∃ h : Fin 2, ∃ c : PlCommit, ∃ s : State, 
      let n := 2 * k.val + h.val
      let checked := s.blocksUp = true ∧ (s.pl n).checking = some c ∧ (s.pl n).verifying = false
      let same := (s.pl n).enabled = true ∧ s.plMode n ≠ 3 ∧ (s.pl n).sel = c.slot
      checked ∧ c.reason = 0 ∧ (s.hst n = 1 ∨ s.hst n = 2) ∧ same) ∧
    (∃ k : Fin 8, ∃ h : Fin 2, ∃ c : PlCommit, ∃ s : State, 
      let n := 2 * k.val + h.val
      let checked := s.blocksUp = true ∧ (s.pl n).checking = some c ∧ (s.pl n).verifying = false
      let same := (s.pl n).enabled = true ∧ s.plMode n ≠ 3 ∧ (s.pl n).sel = c.slot
      checked ∧ c.reason = 0 ∧ (s.hst n = 1 ∨ s.hst n = 2) ∧ (¬ same)) ∧
    (∃ k : Fin 8, ∃ h : Fin 2, ∃ s : State, 
      let n := 2 * k.val + h.val
      ((s.pl n).scan = none ∨ s.blocksUp = false)) ∧
    (∃ k : Fin 8, ∃ h : Fin 2, ∃ sc : PlScan, ∃ s : State, 
      let n := 2 * k.val + h.val
      let scanned (forCommit : Bool) := s.blocksUp = true ∧ (s.pl n).scan = some sc ∧ (s.pl n).queued = none ∧ sc.forCommit = forCommit ∧ sc.slot < 2
      scanned false) ∧
    (∃ k : Fin 8, ∃ h : Fin 2, ∃ c : PlCommit, ∃ sc : PlScan, ∃ s : State, 
      let n := 2 * k.val + h.val
      let scanned (forCommit : Bool) := s.blocksUp = true ∧ (s.pl n).scan = some sc ∧ (s.pl n).queued = none ∧ sc.forCommit = forCommit ∧ sc.slot < 2
      scanned true ∧ (s.pl n).checking = some c ∧ s.slotVerdict n sc.slot = 3) ∧
    (∃ k : Fin 8, ∃ h : Fin 2, ∃ c : PlCommit, ∃ sc : PlScan, ∃ s : State, 
      let n := 2 * k.val + h.val
      let scanned (forCommit : Bool) := s.blocksUp = true ∧ (s.pl n).scan = some sc ∧ (s.pl n).queued = none ∧ sc.forCommit = forCommit ∧ sc.slot < 2
      scanned true ∧ (s.pl n).checking = some c ∧ s.slotVerdict n sc.slot = 1 ∧ s.active n = true) :=
  ⟨⟨1, 1, up, by decide +kernel⟩,
   ⟨1, 1, { slot := 1, en := true, tag := 5, place := 7, org := {}, reason := 4 }, (pc ({ slot := 1, en := true, tag := 5, place := 7, org := {}, reason := 4 }) up), by decide +kernel⟩,
   ⟨1, 1, { slot := 0, en := true, tag := 5, place := 7, org := {} }, (pc ({ slot := 0, en := true, tag := 5, place := 7, org := {} }) (hd 4 up)), by decide +kernel⟩,
   ⟨1, 1, { slot := 0, en := true, tag := 5, place := 7, org := {} }, (pc ({ slot := 0, en := true, tag := 5, place := 7, org := {} }) up), by decide +kernel⟩,
   ⟨1, 1, { slot := 0, en := true, tag := 5, place := 7, org := {} }, (pc ({ slot := 0, en := true, tag := 5, place := 7, org := {} }) (en (hd 2 up))), by decide +kernel⟩,
   ⟨1, 1, { slot := 0, en := true, tag := 5, place := 7, org := {} }, (pc ({ slot := 0, en := true, tag := 5, place := 7, org := {} }) (hd 2 up)), by decide +kernel⟩,
   ⟨1, 1, up, by decide +kernel⟩,
   ⟨1, 1, ⟨0, false⟩, (sc (⟨0, false⟩) (sl up)), by decide +kernel⟩,
   ⟨1, 1, { slot := 0, en := true, tag := 5, place := 7, org := {} }, ⟨1, true⟩, (sc (⟨1, true⟩) (sl up)), by decide +kernel⟩,
   ⟨1, 1, { slot := 0, en := true, tag := 5, place := 7, org := {} }, ⟨1, true⟩, (sc (⟨1, true⟩) (rf (hd 2 up))), by decide +kernel⟩⟩

end ProtectedChecksEnd

namespace CheckUnitsScan

def cu (st : Nat) (s : State) : State := ((((s.set (F.CK_LEN_BYTES 1) 10).set (F.CK_ROWS_ROWS 1) 2).set (F.CK_STRIDE_BYTES 1) 32).set (F.CK_STAT_STATE 1) st).setCk 1 { fed := 5 }

def cmp (s : State) : State := let r := Nat.xor (s.ckRunAt 1 (s.ckTotal 1) % 2 ^ 32) (crcXorOut (s.get (F.CK_CFG_POLY 1))); (s.set (F.CK_CFG_CMP 1)
  1).set (F.CK_EXPECT_VALUE 1) r

/-- Every clause of part 1 of Obligations.CheckUnitsAndDialText can be met. -/
theorem witness_CheckUnitsAndDialText_1 :
    (∃ o : Origin, ∃ u : Fin 4, ∃ s : State, 
      let state (t : State) := t.get (F.CK_STAT_STATE u.val)
      let blocked := state s = 1 ∨ (1 < s.get (F.CK_ROWS_ROWS u.val) ∧ s.get (F.CK_STRIDE_BYTES u.val) < s.get (F.CK_LEN_BYTES u.val))
      Reaches s o (.CK_CMD, [u.val]) (w32 1) ∧ blocked) ∧
    (∃ o : Origin, ∃ u : Fin 4, ∃ s : State, 
      let state (t : State) := t.get (F.CK_STAT_STATE u.val)
      let blocked := state s = 1 ∨ (1 < s.get (F.CK_ROWS_ROWS u.val) ∧ s.get (F.CK_STRIDE_BYTES u.val) < s.get (F.CK_LEN_BYTES u.val))
      Reaches s o (.CK_CMD, [u.val]) (w32 1) ∧ (¬ blocked)) ∧
    (∃ o : Origin, ∃ u : Fin 4, ∃ s : State, 
      let state (t : State) := t.get (F.CK_STAT_STATE u.val)
      Reaches s o (.CK_CMD, [u.val]) (w32 2) ∧ state s = 1) ∧
    (∃ o : Origin, ∃ u : Fin 4, ∃ s : State, 
      let state (t : State) := t.get (F.CK_STAT_STATE u.val)
      Reaches s o (.CK_CMD, [u.val]) (w32 2) ∧ state s ≠ 1) ∧
    (∃ o : Origin, ∃ u : Fin 4, ∃ s : State, 
      let state (t : State) := t.get (F.CK_STAT_STATE u.val)
      Answers s o (.CK_RUN, [u.val]) ∧ state s = 1) ∧
    (∃ o : Origin, ∃ u : Fin 4, ∃ s : State, 
      let state (t : State) := t.get (F.CK_STAT_STATE u.val)
      Answers s o (.CK_RUN, [u.val]) ∧ state s ≠ 1) ∧
    (∃ u : Fin 4, ∃ s : State, 
      let state (t : State) := t.get (F.CK_STAT_STATE u.val)
      (s.blocksUp = false ∨ state s ≠ 1 ∨ s.get (F.CK_STAT_PAUSED u.val) = 1)) ∧
    (∃ u : Fin 4, ∃ s : State, 
      let state (t : State) := t.get (F.CK_STAT_STATE u.val)
      let r := s.ckRegion u.val
      let bad := s.regionBad r.1 r.2.1 r.2.2.1 r.2.2.2
      let ends := s.blocksUp = true ∧ state s = 1 ∧ s.get (F.CK_STAT_PAUSED u.val) = 0 ∧ (s.ck u.val).fed ≤ s.ckTotal u.val
      ends ∧ bad = true) ∧
    (∃ u : Fin 4, ∃ s : State, 
      let state (t : State) := t.get (F.CK_STAT_STATE u.val)
      let r := s.ckRegion u.val
      let bad := s.regionBad r.1 r.2.1 r.2.2.1 r.2.2.2
      let ends := s.blocksUp = true ∧ state s = 1 ∧ s.get (F.CK_STAT_PAUSED u.val) = 0 ∧ (s.ck u.val).fed ≤ s.ckTotal u.val
      ends ∧ bad = false) ∧
    (∃ u : Fin 4, ∃ s : State, 
      let state (t : State) := t.get (F.CK_STAT_STATE u.val)
      let poly := s.get (F.CK_CFG_POLY u.val)
      let r := s.ckRegion u.val
      let bad := s.regionBad r.1 r.2.1 r.2.2.1 r.2.2.2
      let cmp := s.get (F.CK_CFG_CMP u.val)
      let result := Nat.xor (s.ckRunAt u.val (s.ckTotal u.val) % 2 ^ 32) (crcXorOut poly)
      let ends := s.blocksUp = true ∧ state s = 1 ∧ s.get (F.CK_STAT_PAUSED u.val) = 0 ∧ (s.ck u.val).fed ≤ s.ckTotal u.val
      ends ∧ bad = false ∧ cmp = 1 ∧ s.get (F.CK_EXPECT_VALUE u.val) = result) ∧
    (∃ u : Fin 4, ∃ s : State, 
      let state (t : State) := t.get (F.CK_STAT_STATE u.val)
      let poly := s.get (F.CK_CFG_POLY u.val)
      let r := s.ckRegion u.val
      let bad := s.regionBad r.1 r.2.1 r.2.2.1 r.2.2.2
      let cmp := s.get (F.CK_CFG_CMP u.val)
      let result := Nat.xor (s.ckRunAt u.val (s.ckTotal u.val) % 2 ^ 32) (crcXorOut poly)
      let ends := s.blocksUp = true ∧ state s = 1 ∧ s.get (F.CK_STAT_PAUSED u.val) = 0 ∧ (s.ck u.val).fed ≤ s.ckTotal u.val
      ends ∧ bad = false ∧ cmp = 1 ∧ s.get (F.CK_EXPECT_VALUE u.val) ≠ result) :=
  ⟨⟨(Origin.pf 0), 1, (cu 1 up), by repeat' first | decide +kernel | constructor⟩,
   ⟨(Origin.pf 0), 1, up, by repeat' first | decide +kernel | constructor⟩,
   ⟨(Origin.pf 0), 1, (cu 1 up), by repeat' first | decide +kernel | constructor⟩,
   ⟨(Origin.pf 0), 1, up, by repeat' first | decide +kernel | constructor⟩,
   ⟨(Origin.pf 0), 1, (cu 1 up), by repeat' first | decide +kernel | constructor⟩,
   ⟨(Origin.pf 0), 1, up, by repeat' first | decide +kernel | constructor⟩,
   ⟨1, up, by decide +kernel⟩,
   ⟨1, {cu 1 up with bad := [(1, true)]}, by decide +kernel⟩,
   ⟨1, (cu 1 up), by decide +kernel⟩,
   ⟨1, (cmp (cu 1 up)), by decide +kernel⟩,
   ⟨1, ((cu 1 up).set (F.CK_CFG_CMP 1) 1), by decide +kernel⟩⟩

end CheckUnitsScan

/-- Every clause of part 2 of Obligations.CheckUnitsAndDialText can be met. -/
theorem witness_CheckUnitsAndDialText_2 :
    (∃ o : Origin, ∃ s : State, Reaches s o (.DT_CTRL, []) (w32 0x10001) ∧ s.healthy = true) ∧
    (∃ o : Origin, ∃ v : Word, ∃ s : State, Reaches s o (.DT_GLY_DATA, []) v) :=
  ⟨⟨(Origin.pf 0), (up.set F.CL_STAT_HEALTHY 1), by repeat' first | decide +kernel | constructor⟩,
   ⟨(Origin.pf 0), (0x12345678#32), up, by repeat' first | decide +kernel | constructor⟩⟩

end Commits

namespace Network

def noStep : State := { up with dv := { up.dv with step := 4 } }

def ue (q : Nat) (s : State) : State := ((s.set (F.NQ_CTRL_EN q) 1).set (F.NQ_CTRL_PORT q) 1).set (F.NP_STAT_LINK 1) 1

def ent (l : Option Nat) : TxEnt := { data := List.replicate 60 1, tag := 7, stamp := false, launch := l, at_ := 5 }

namespace PortsFollowTheirLinks

def base : State := ((up.set (F.NP_CTRL_EN 1) 1).set (F.NP_CTRL_PMD 1) 3)

def pt (s : State) : State := s.setPtp 1 { en := true, slave := true }

def l1 (s : State) : State := s.set (F.NP_STAT_LINK 1) 1

def mp (s : State) : State := s.set (F.NP_STAT_MOD_PRESENT 1) 1

def bz (s : State) : State := s.set (F.NP_I2C_STAT_BUSY 1) 1

/-- Every clause of part 1 of Obligations.PortsReceive can be met. -/
theorem witness_PortsReceive_1 :
    (∃ p : Fin 4, ∃ s : State, 
      let link (t : State) := t.get (F.NP_STAT_LINK p.val)
      let pmd := s.get (F.NP_CTRL_PMD p.val)
      let en := s.get (F.NP_CTRL_EN p.val)
      let may := s.blocksUp = true ∧ en = 1 ∧ 1 ≤ pmd ∧ pmd ≤ 5 ∧ s.portTested p.val = false
      link s = 0 ∧ may) ∧
    (∃ p : Fin 4, ∃ s : State, 
      let link (t : State) := t.get (F.NP_STAT_LINK p.val)
      let pmd := s.get (F.NP_CTRL_PMD p.val)
      let en := s.get (F.NP_CTRL_EN p.val)
      let may := s.blocksUp = true ∧ en = 1 ∧ 1 ≤ pmd ∧ pmd ≤ 5 ∧ s.portTested p.val = false
      (link s = 1 ∨ ¬ may)) ∧
    (∃ p : Fin 4, ∃ s : State, 
      let link (t : State) := t.get (F.NP_STAT_LINK p.val)
      link s = 1) ∧
    (∃ p : Fin 4, ∃ s : State, 
      let link (t : State) := t.get (F.NP_STAT_LINK p.val)
      link s = 0) ∧
    (∃ p : Fin 4, ∃ s : State, 
      let link (t : State) := t.get (F.NP_STAT_LINK p.val)
      let present (t : State) := t.get (F.NP_STAT_MOD_PRESENT p.val)
      present s = 1 ∧ link s = 1) ∧
    (∃ p : Fin 4, ∃ s : State, 
      let link (t : State) := t.get (F.NP_STAT_LINK p.val)
      let present (t : State) := t.get (F.NP_STAT_MOD_PRESENT p.val)
      present s = 1 ∧ link s = 0) ∧
    (∃ p : Fin 4, ∃ s : State, 
      let present (t : State) := t.get (F.NP_STAT_MOD_PRESENT p.val)
      present s = 0) ∧
    (∃ p : Fin 4, ∃ s : State, 
      let present (t : State) := t.get (F.NP_STAT_MOD_PRESENT p.val)
      present s = 0) ∧
    (∃ p : Fin 4, ∃ s : State, 
      let present (t : State) := t.get (F.NP_STAT_MOD_PRESENT p.val)
      present s = 1) ∧
    (∃ p : Fin 4, ∃ b : Bool, ∃ s : State, 
      let int (t : State) := t.get (F.NP_STAT_MOD_INT p.val)
      int s ≠ b2n b) ∧
    (∃ p : Fin 4, ∃ b : Bool, ∃ s : State, 
      let int (t : State) := t.get (F.NP_STAT_MOD_INT p.val)
      int s = b2n b) ∧
    (∃ o : Origin, ∃ p : Fin 4, ∃ v : Word, ∃ s : State, 
      let busy (t : State) := t.get (F.NP_I2C_STAT_BUSY p.val)
      Reaches s o (.NP_I2C_CMD, [p.val]) v ∧ busy s = 1) ∧
    (∃ o : Origin, ∃ p : Fin 4, ∃ v : Word, ∃ s : State, 
      let busy (t : State) := t.get (F.NP_I2C_STAT_BUSY p.val)
      Reaches s o (.NP_I2C_CMD, [p.val]) v ∧ busy s = 0) ∧
    (∃ p : Fin 4, ∃ s : State, 
      let busy (t : State) := t.get (F.NP_I2C_STAT_BUSY p.val)
      busy s = 0) ∧
    (∃ p : Fin 4, ∃ s : State, 
      let busy (t : State) := t.get (F.NP_I2C_STAT_BUSY p.val)
      busy s = 1) :=
  ⟨⟨1, base, by decide +kernel⟩,
   ⟨1, up, by decide +kernel⟩,
   ⟨1, (l1 base), by decide +kernel⟩,
   ⟨1, up, by decide +kernel⟩,
   ⟨1, (mp (l1 (pt base))), by decide +kernel⟩,
   ⟨1, (mp base), by decide +kernel⟩,
   ⟨1, up, by decide +kernel⟩,
   ⟨1, up, by decide +kernel⟩,
   ⟨1, (mp base), by decide +kernel⟩,
   ⟨1, true, up, by decide +kernel⟩,
   ⟨1, true, ((bz base).set (F.NP_STAT_MOD_INT 1) 1), by decide +kernel⟩,
   ⟨(Origin.pf 0), 1, (0x07048450#32), (bz base), by repeat' first | decide +kernel | constructor⟩,
   ⟨(Origin.pf 0), 1, (0x07048450#32), up, by repeat' first | decide +kernel | constructor⟩,
   ⟨1, up, by decide +kernel⟩,
   ⟨1, (bz base), by decide +kernel⟩⟩

end PortsFollowTheirLinks

namespace ReceivedFramesAreClassed

def hdr (dst dport : Nat) (sum : Nat) (pro : Nat) : List Byte :=
  let h := [0x45, 0, 0, 60, 0, 1, 0, 0, 64, BitVec.ofNat 8 pro, BitVec.ofNat 8 (sum / 256), BitVec.ofNat 8 sum, 10, 0, 0, 7, BitVec.ofNat 8 (dst / 2^24), BitVec.ofNat 8 (dst / 2^16), BitVec.ofNat 8 (dst/256), BitVec.ofNat 8 dst]
  [1, 0, 0, 0, 0, 1, 2, 2, 2, 2, 2, 2, 8, 0] ++ h ++ [0, 9, BitVec.ofNat 8 (dport/256), BitVec.ofNat 8 dport, 0, 40, 0, 0] ++ List.replicate 40 3

def mk (dst dport pro : Nat) : List Byte :=
  let x := onesSum (((hdr dst dport 0 pro).drop 14).take 20) % 65535
  hdr dst dport (65535 - x) pro

def lv : State := (((((up.set (F.NP_CTRL_EN 1) 1).set (F.NP_CTRL_PMD 1) 3).set (F.NP_STAT_LINK 1) 1).set (F.NP_RX_CFG_MTU 1) 1500).setPtp 1 { en := true })

def fl (st : Nat) (s : State) : State := ((((s.set (F.NR_CTRL_EN 5) 1).set (F.NR_CTRL_PORTS 5) 2).set (F.NR_DST_IP_ADDR 5) 0xE8000001).set
  (F.NR_UDP_DPORT 5) 5000).set (F.NR_CTRL_STEER 5) st

def pol (s : State) : State := (s.set (F.NR_POL_RATE_MBPS 5) 1).set (F.NR_POL_BURST_UNITS 5) 0

/-- Every clause of part 2 of Obligations.PortsReceive can be met. -/
theorem witness_PortsReceive_2 :
    (∃ p : Fin 4, ∃ s : State, 
      let live := s.get (F.NP_STAT_LINK p.val) = 1 ∧ s.get (F.NP_CTRL_EN p.val) = 1
      (¬ live)) ∧
    (∃ p : Fin 4, ∃ s : State, 
      let live := s.get (F.NP_STAT_LINK p.val) = 1 ∧ s.get (F.NP_CTRL_EN p.val) = 1
      live) ∧
    (∃ p : Fin 4, ∃ data : List Byte, ∃ s : State, 
      let live := s.get (F.NP_STAT_LINK p.val) = 1 ∧ s.get (F.NP_CTRL_EN p.val) = 1
      let long := 64 ≤ data.length + 4 ∧ data.length + 4 ≤ s.get (F.NP_RX_CFG_MTU p.val)
      live ∧ (¬ long)) ∧
    (∃ p : Fin 4, ∃ data : List Byte, ∃ s : State, 
      let live := s.get (F.NP_STAT_LINK p.val) = 1 ∧ s.get (F.NP_CTRL_EN p.val) = 1
      let long := 64 ≤ data.length + 4 ∧ data.length + 4 ≤ s.get (F.NP_RX_CFG_MTU p.val)
      let d := (untag data).2
      live ∧ long ∧ s.filterPasses p.val (untag data).1 d = false) ∧
    (∃ p : Fin 4, ∃ data : List Byte, ∃ s : State, 
      let live := s.get (F.NP_STAT_LINK p.val) = 1 ∧ s.get (F.NP_CTRL_EN p.val) = 1
      let long := 64 ≤ data.length + 4 ∧ data.length + 4 ≤ s.get (F.NP_RX_CFG_MTU p.val)
      let d := (untag data).2
      let pass := live ∧ long ∧ s.filterPasses p.val (untag data).1 d = true
      pass ∧ parseIp d = none ∧ s.get (F.NP_DEFAULT_EN p.val) = 0) ∧
    (∃ p : Fin 4, ∃ data : List Byte, ∃ i : Ip, ∃ s : State, 
      let live := s.get (F.NP_STAT_LINK p.val) = 1 ∧ s.get (F.NP_CTRL_EN p.val) = 1
      let long := 64 ≤ data.length + 4 ∧ data.length + 4 ≤ s.get (F.NP_RX_CFG_MTU p.val)
      let d := (untag data).2
      let pass := live ∧ long ∧ s.filterPasses p.val (untag data).1 d = true
      pass ∧ parseIp d = some i ∧ i.whole = true ∧ i.udp = true ∧ s.controlClass p.val i.dst i.dport = true) ∧
    (∃ p : Fin 4, ∃ data : List Byte, ∃ stamp : Stamp, ∃ i : Ip, ∃ f : Nat, ∃ s : State, 
      let live := s.get (F.NP_STAT_LINK p.val) = 1 ∧ s.get (F.NP_CTRL_EN p.val) = 1
      let long := 64 ≤ data.length + 4 ∧ data.length + 4 ≤ s.get (F.NP_RX_CFG_MTU p.val)
      let d := (untag data).2
      let pass := live ∧ long ∧ s.filterPasses p.val (untag data).1 d = true
      let at_ := unitsOf (s.rxInstant p.val stamp)
      let flow := pass ∧ parseIp d = some i ∧ i.whole = true ∧ i.udp = true ∧ s.controlClass p.val i.dst i.dport = false ∧ s.flowFor p.val i = some f
      flow ∧ (s.police f (d.length + 4) at_).2 = true) ∧
    (∃ p : Fin 4, ∃ data : List Byte, ∃ stamp : Stamp, ∃ i : Ip, ∃ f : Nat, ∃ s : State, 
      let live := s.get (F.NP_STAT_LINK p.val) = 1 ∧ s.get (F.NP_CTRL_EN p.val) = 1
      let long := 64 ≤ data.length + 4 ∧ data.length + 4 ≤ s.get (F.NP_RX_CFG_MTU p.val)
      let d := (untag data).2
      let pass := live ∧ long ∧ s.filterPasses p.val (untag data).1 d = true
      let at_ := unitsOf (s.rxInstant p.val stamp)
      let flow := pass ∧ parseIp d = some i ∧ i.whole = true ∧ i.udp = true ∧ s.controlClass p.val i.dst i.dport = false ∧ s.flowFor p.val i = some f
      flow ∧ (s.police f (d.length + 4) at_).2 = false) :=
  ⟨⟨1, up, by decide +kernel⟩,
   ⟨1, lv, by decide +kernel⟩,
   ⟨1, [0x01#8, 0x01#8, 0x01#8, 0x01#8, 0x01#8, 0x01#8, 0x01#8, 0x01#8, 0x01#8, 0x01#8], lv, by decide +kernel⟩,
   ⟨1, ((mk 0xE8000001 5000 17).set 24 9), lv, by decide +kernel⟩,
   ⟨1, (List.replicate 60 1), lv, by decide +kernel⟩,
   ⟨1, (mk 0xE0000181 319 17), ((parseIp (mk 0xE0000181 319 17)).get (by decide +kernel)), lv, by repeat' first | exact (Option.some_get _).symm | decide +kernel | constructor⟩,
   ⟨1, (mk 0xE8000001 5000 17), ⟨1000, 600, 0⟩, ((parseIp (mk 0xE8000001 5000 17)).get (by decide +kernel)), 5, (fl 0 lv), by repeat' first | exact (Option.some_get _).symm | decide +kernel | constructor⟩,
   ⟨1, (mk 0xE8000001 5000 17), ⟨1000, 600, 0⟩, ((parseIp (mk 0xE8000001 5000 17)).get (by decide +kernel)), 5, (pol (fl 0 lv)), by repeat' first | exact (Option.some_get _).symm | decide +kernel | constructor⟩⟩

end ReceivedFramesAreClassed

namespace FlowsStartAndStop

def vid (s : State) : State := (((s.set (F.NR_VIDEO_FMT 5) 4).set (F.NR_VIDEO_RATE 5) 7).set (F.NR_POL_BURST_UNITS 5) 9).set (F.NR_BUF_HI_STRIDE 5)
  0x200

def en (f st tg : Nat) (s : State) : State := (((s.set (F.NR_CTRL_EN f) 1).set (F.NR_CTRL_PORTS f) 2).set (F.NR_CTRL_STEER f) st).set
  (F.NR_UDP_TARGET f) tg

def seen (f t : Nat) (s : State) : State := s.updFlow f fun x => { x with seen := some t }

/-- Every clause of part 1 of Obligations.FlowsAndSdiInputs can be met. -/
theorem witness_FlowsAndSdiInputs_1 :
    (∃ o : Origin, ∃ f : Fin 16384, ∃ v : Word, ∃ s : State, 
      let en (t : State) := t.get (F.NR_CTRL_EN f.val)
      let err := s.flowErr f.val v
      en s = 0 ∧ err = 0 ∧ ((∀ w, Reaches s o (.NR_CTRL, [f.val]) w))) ∧
    (∃ o : Origin, ∃ f : Fin 16384, ∃ v : Word, ∃ s : State, 
      let en (t : State) := t.get (F.NR_CTRL_EN f.val)
      let err := s.flowErr f.val v
      en s = 0 ∧ err ≠ 0 ∧ ((∀ w, Reaches s o (.NR_CTRL, [f.val]) w))) ∧
    (∃ o : Origin, ∃ f : Fin 16384, ∃ s : State, 
      let en (t : State) := t.get (F.NR_CTRL_EN f.val)
      en s = 1 ∧ ((∀ w, Reaches s o (.NR_CTRL, [f.val]) w))) ∧
    (∃ o : Origin, ∃ f : Fin 16384, ∃ g : Nat, ∃ s : State, 
      let en (t : State) := t.get (F.NR_CTRL_EN f.val)
      en s = 1 ∧ s.mergePartner f.val = some g ∧ s.pathUp f.val = false ∧ s.pathUp g = true ∧ (s.flow f.val).down = false ∧
      ((∀ w, Reaches s o (.NR_CTRL, [f.val]) w))) ∧
    (∃ o : Origin, ∃ f : Fin 16384, ∃ s : State, 
      let en (t : State) := t.get (F.NR_CTRL_EN f.val)
      (en s = 0 ∨ s.mergePartner f.val = none ∨ s.pathUp f.val = true ∨ (s.flow f.val).down = true) ∧ ((∀ w, Reaches s o (.NR_CTRL, [f.val]) w))) :=
  ⟨⟨(Origin.pf 0), 5, (0x00000021#32), (vid up), by repeat' first | exact fun w => reaches w (by decide +kernel) (by decide +kernel) (fun _ => nofun) | apply And.intro | decide +kernel | constructor⟩,
   ⟨(Origin.pf 0), 5, (0x00000021#32), up, by repeat' first | exact fun w => reaches w (by decide +kernel) (by decide +kernel) (fun _ => nofun) | apply And.intro | decide +kernel | constructor⟩,
   ⟨(Origin.pf 0), 5, (en 5 0 0 (vid up)), by repeat' first | exact fun w => reaches w (by decide +kernel) (by decide +kernel) (fun _ => nofun) | apply And.intro | decide +kernel | constructor⟩,
   ⟨(Origin.pf 0), 5, 6, (seen 6 100000 (en 6 3 5 (en 5 0 0 (vid up)))), by repeat' first | exact fun w => reaches w (by decide +kernel) (by decide +kernel) (fun _ => nofun) | apply And.intro | decide +kernel | constructor⟩,
   ⟨(Origin.pf 0), 5, up, by repeat' first | exact fun w => reaches w (by decide +kernel) (by decide +kernel) (fun _ => nofun) | apply And.intro | decide +kernel | constructor⟩⟩

end FlowsStartAndStop

namespace SdiInputsAreReceived

def lk (s : State) : State := (s.set (F.NG_SDI_STAT_LOCK 4) 1).updFlow 16388 fun x => { x with links := [0, 1] }

def vi (s : State) : State := ((((s.set (F.NG_SDI_CTRL_EN 4) 1).set (F.NG_SDI_VIDEO_FMT 4) 4).set (F.NG_SDI_VIDEO_RATE 4) 7).set (F.NG_SDI_CTRL_LINKS
  4) 1)

/-- Every clause of part 2 of Obligations.FlowsAndSdiInputs can be met. -/
theorem witness_FlowsAndSdiInputs_2 :
    (∃ i : Fin 16, ∃ s : State, 
      let lock (t : State) := t.get (F.NG_SDI_STAT_LOCK i.val)
      lock s = 0 ∧ s.blocksUp = true) ∧
    (∃ i : Fin 16, ∃ s : State, 
      let lock (t : State) := t.get (F.NG_SDI_STAT_LOCK i.val)
      (lock s = 1 ∨ s.blocksUp = false)) ∧
    (∃ i : Fin 16, ∃ link : Fin 4, ∃ s : State, 
      let fl (t : State) := t.flow (16384 + i.val)
      link.val ∉ (fl s).links) ∧
    (∃ i : Fin 16, ∃ link : Fin 4, ∃ s : State, 
      let fl (t : State) := t.flow (16384 + i.val)
      link.val ∈ (fl s).links) ∧
    (∃ i : Fin 16, ∃ s : State, 
      let lock (t : State) := t.get (F.NG_SDI_STAT_LOCK i.val)
      let en := s.get (F.NG_SDI_CTRL_EN i.val)
      (en = 0 ∨ lock s = 0)) ∧
    (∃ i : Fin 16, ∃ s : State, 
      let lock (t : State) := t.get (F.NG_SDI_STAT_LOCK i.val)
      let en := s.get (F.NG_SDI_CTRL_EN i.val)
      en = 1 ∧ lock s = 1) :=
  ⟨⟨4, up, by decide +kernel⟩,
   ⟨4, noStep, by decide +kernel⟩,
   ⟨4, 0, up, by decide +kernel⟩,
   ⟨4, 0, (lk up), by decide +kernel⟩,
   ⟨4, up, by decide +kernel⟩,
   ⟨4, (lk (vi up)), by decide +kernel⟩⟩

end SdiInputsAreReceived

namespace QueuesTakeFrames

def rt (s : State) : State := (((s.set (F.NQ_RATE_RATE 5) 1000).set (F.NQ_BURST_BYTES 5) 9000).set (F.NQ_PERIOD_UNITS 5) 256000).set
  (F.NQ_PHASE_UNITS 5) 77

def w (l : List TxEnt) (s : State) : State := s.updQueue 5 fun x => { x with waiting := l, index := 65537 }

def qh (s : State) : State := (((((((s.set (F.HD_RASTER_FMT 3) 4).set (F.HD_RASTER_RATE 3) 7).set (F.HD_DEST_ST_EN 3) 1).set (F.HD_DEST_ST_QUEUE 3)
  5).set (F.HD_STAT_STATE 3) 2)))

/-- Every clause of part 1 of Obligations.QueuesAndPortsSend can be met. -/
theorem witness_QueuesAndPortsSend_1 :
    (∃ o : Origin, ∃ q : Fin 16384, ∃ v : Word, ∃ s : State, 
      let en (t : State) := t.get (F.NQ_CTRL_EN q.val)
      let err := s.queueErr q.val v
      let may := ∀ w, Reaches s o (.NQ_CTRL, [q.val]) w
      may ∧ en s = 0 ∧ err = 0) ∧
    (∃ o : Origin, ∃ q : Fin 16384, ∃ v : Word, ∃ s : State, 
      let en (t : State) := t.get (F.NQ_CTRL_EN q.val)
      let err := s.queueErr q.val v
      let may := ∀ w, Reaches s o (.NQ_CTRL, [q.val]) w
      may ∧ en s = 0 ∧ err ≠ 0) ∧
    (∃ o : Origin, ∃ q : Fin 16384, ∃ s : State, 
      let en (t : State) := t.get (F.NQ_CTRL_EN q.val)
      let may := ∀ w, Reaches s o (.NQ_CTRL, [q.val]) w
      may ∧ en s = 1 ∧ s.queueHead q.val ≠ none) ∧
    (∃ o : Origin, ∃ q : Fin 16384, ∃ s : State, 
      let en (t : State) := t.get (F.NQ_CTRL_EN q.val)
      let may := ∀ w, Reaches s o (.NQ_CTRL, [q.val]) w
      may ∧ en s = 1 ∧ s.queueHead q.val = none) ∧
    (∃ q : Fin 16384, ∃ s : State, 
      let en (t : State) := t.get (F.NQ_CTRL_EN q.val)
      en s = 0) ∧
    (∃ q : Fin 16384, ∃ s : State, 
      let en (t : State) := t.get (F.NQ_CTRL_EN q.val)
      let p := s.qPort q.val
      en s = 1 ∧ s.get (F.NP_STAT_LINK p) = 1 ∧ (s.port p).oper = none) ∧
    (∃ q : Fin 16384, ∃ e : TxEnt, ∃ rest : List TxEnt, ∃ s : State, 
      let qs (t : State) := (t.queue q.val).waiting
      let media := s.get (F.NQ_CTRL_CLASS q.val) = 0
      let soon := ∃ t, e.launch = some t ∧ t ≤ s.now + 2000 * nsUnits
      qs s = e :: rest ∧ media ∧ soon) ∧
    (∃ q : Fin 16384, ∃ s : State, 
      let qs (t : State) := (t.queue q.val).waiting
      let media := s.get (F.NQ_CTRL_CLASS q.val) = 0
      (qs s = [] ∨ ¬ media)) ∧
    (∃ q : Fin 16384, ∃ e : TxEnt, ∃ rest : List TxEnt, ∃ s : State, 
      let qs (t : State) := (t.queue q.val).waiting
      let soon := ∃ t, e.launch = some t ∧ t ≤ s.now + 2000 * nsUnits
      qs s = e :: rest ∧ (¬ soon)) ∧
    (∃ q : Fin 16384, ∃ s : State, 
      let qs (t : State) := (t.queue q.val).waiting
      let p := s.qPort q.val
      let media := s.get (F.NQ_CTRL_CLASS q.val) = 0
      let late := (qs s).filter (s.tooLate p)
      media ∧ late ≠ [] ∧ (s.port p).oper = none ∧ s.get (F.NP_STAT_LINK p) = 1) ∧
    (∃ q : Fin 16384, ∃ s : State, 
      let qs (t : State) := (t.queue q.val).waiting
      let p := s.qPort q.val
      let media := s.get (F.NQ_CTRL_CLASS q.val) = 0
      let late := (qs s).filter (s.tooLate p)
      (¬ media ∨ late = [])) :=
  ⟨⟨(Origin.pf 0), 5, (0x00000129#32), (rt up), by repeat' first | exact fun w => reaches w (by decide +kernel) (by decide +kernel) (fun _ => nofun) | apply And.intro | decide +kernel | constructor⟩,
   ⟨(Origin.pf 0), 5, (0x00000129#32), up, by repeat' first | exact fun w => reaches w (by decide +kernel) (by decide +kernel) (fun _ => nofun) | apply And.intro | decide +kernel | constructor⟩,
   ⟨(Origin.pf 0), 5, (qh (ue 5 (rt up))), by repeat' first | exact fun w => reaches w (by decide +kernel) (by decide +kernel) (fun _ => nofun) | apply And.intro | decide +kernel | constructor⟩,
   ⟨(Origin.pf 0), 5, (ue 5 (rt up)), by repeat' first | exact fun w => reaches w (by decide +kernel) (by decide +kernel) (fun _ => nofun) | apply And.intro | decide +kernel | constructor⟩,
   ⟨5, up, by decide +kernel⟩,
   ⟨5, (ue 5 (rt up)), by decide +kernel⟩,
   ⟨5, (ent (some (990000000000 * 2 ^ 32))), [], (w [(ent (some (990000000000 * 2 ^ 32)))] (ue 5 (rt up))), by decide +kernel⟩,
   ⟨5, up, by decide +kernel⟩,
   ⟨5, (ent none), [], (w [ent none] (ue 5 (rt up))), by decide +kernel⟩,
   ⟨5, (w [(ent (some (990000000000 * 2 ^ 32)))] (ue 5 (rt up))), by decide +kernel⟩,
   ⟨5, up, by decide +kernel⟩⟩

end QueuesTakeFrames

namespace PortsSendFrames

def q5 (c : Nat) (l : List TxEnt) (s : State) : State := ((((ue 5 s).set (F.NQ_CTRL_CLASS 5) c).set (F.NQ_RATE_RATE 5) 1000000).set (F.NQ_BURST_BYTES 5) 9000).updQueue 5 fun x => {x with waiting := l, tok := 9000 * tokByte, since := s.uptime, deficit := 100}

def sd (a b : Nat) (e : TxEnt) (s : State) : State := s.updPort 1 fun x => {x with sending := some (5, e, a, b)}

/-- Every clause of part 2 of Obligations.QueuesAndPortsSend can be met. -/
theorem witness_QueuesAndPortsSend_2 :
    (∃ p : Fin 4, ∃ q : Nat, ∃ e : TxEnt, ∃ s : State, 
      let runs := s.blocksUp = true
      let link := s.get (F.NP_STAT_LINK p.val) = 1
      let free := (s.port p.val).sending = none
      runs ∧ link ∧ free ∧ s.mediaReady p.val = [(q, e)]) ∧
    (∃ p : Fin 4, ∃ q : Nat, ∃ e : TxEnt, ∃ s : State, 
      let runs := s.blocksUp = true
      let link := s.get (F.NP_STAT_LINK p.val) = 1
      let free := (s.port p.val).sending = none
      runs ∧ link ∧ free ∧ s.mediaReady p.val = [] ∧ s.controlReady p.val = some (q, e)) ∧
    (∃ p : Fin 4, ∃ q : Nat, ∃ e : TxEnt, ∃ s : State, 
      let runs := s.blocksUp = true
      let link := s.get (F.NP_STAT_LINK p.val) = 1
      let free := (s.port p.val).sending = none
      runs ∧ link ∧ free ∧ s.mediaReady p.val = [] ∧ s.controlReady p.val = none ∧ (s.bestReady p.val).1 = some (q, e)) ∧
    (∃ p : Fin 4, ∃ s : State, 
      let runs := s.blocksUp = true
      let link := s.get (F.NP_STAT_LINK p.val) = 1
      let free := (s.port p.val).sending = none
      runs ∧ link ∧ free ∧ s.mediaReady p.val = [] ∧ s.controlReady p.val = none ∧ (s.bestReady p.val).1 = none) ∧
    (∃ p : Fin 4, ∃ s : State, 
      let runs := s.blocksUp = true
      let link := s.get (F.NP_STAT_LINK p.val) = 1
      let free := (s.port p.val).sending = none
      runs ∧ link ∧ (¬ free)) ∧
    (∃ p : Fin 4, ∃ s : State, 
      let free := (s.port p.val).sending = none
      free) ∧
    (∃ p : Fin 4, ∃ q : Nat, ∃ e : TxEnt, ∃ start : Nat, ∃ stop : Nat, ∃ s : State, (s.port p.val).sending = some (q, e, start, stop) ∧ s.now < stop) ∧
    (∃ p : Fin 4, ∃ q : Nat, ∃ e : TxEnt, ∃ start : Nat, ∃ stop : Nat, ∃ s : State, (s.port p.val).sending = some (q, e, start, stop) ∧ stop ≤ s.now) :=
  ⟨⟨1, 5, (ent none), (q5 0 [(ent none)] up), by decide +kernel⟩,
   ⟨1, 5, (ent none), (q5 1 [(ent none)] up), by decide +kernel⟩,
   ⟨1, 5, (ent none), (q5 2 [(ent none)] up), by decide +kernel⟩,
   ⟨1, (up.set (F.NP_STAT_LINK 1) 1), by decide +kernel⟩,
   ⟨1, (sd 0 1 (ent none) (q5 2 [(ent none)] up)), by decide +kernel⟩,
   ⟨0, up, by decide +kernel⟩,
   ⟨1, 5, (ent none), 5, 4294967298151778615296, (sd 5 (10^12 * 2^32 + 501 * 2 ^ 32) (ent none) (q5 0 [] up)), by decide +kernel⟩,
   ⟨1, 5, (ent none), 0, 1, (sd 0 1 (ent none) (q5 2 [(ent none)] up)), by decide +kernel⟩⟩

end PortsSendFrames

namespace GateListsChange

def e1 (s : State) : State := s.wr (.NG_GCL_CTRL, [1]) 1

def ad (b : Nat) (s : State) : State := ((((((s.set (F.NG_GCL_ADMIN_LEN_LEN 1) 2).set (F.NG_GCL_ADMIN_CYCLE_NS 1) 2000).set
  (F.NG_GCL_ADMIN_BASE_SL_SEC_LO 1) b).set (F.NG_GCL_ADMIN_INTERVAL 1 0) 700).set (F.NG_GCL_ADMIN_GATES 1 0) 7).set (F.NG_GCL_ADMIN_INTERVAL 1 1)
  900).set (F.NG_GCL_ADMIN_BASE_NS_NS 1) 123

def po (p o : Option Gcl) (s : State) : State := (s.updPort 1 fun x => {x with pend := p, oper := o}).set (F.NG_GCL_STAT_PENDING 1) (b2n p.isSome)

/-- Every clause of part 1 of Obligations.GatesAndQueuesAreWatched can be met. -/
theorem witness_GatesAndQueuesAreWatched_1 :
    (∃ o : Origin, ∃ p : Fin 4, ∃ v : Word, ∃ s : State, 
      let may := ∀ w, Reaches s o (.NG_GCL_CTRL, [p.val]) w
      let alone := (v.getLsbD 17 && v.getLsbD 1) = false
      may ∧ alone) ∧
    (∃ o : Origin, ∃ p : Fin 4, ∃ v : Word, ∃ s : State, 
      let en (t : State) := t.get ⟨(.NG_GCL_CTRL, [p.val]), 0, 0⟩
      let may := ∀ w, Reaches s o (.NG_GCL_CTRL, [p.val]) w
      let alone := (v.getLsbD 17 && v.getLsbD 1) = false
      may ∧ alone ∧ en s = 1) ∧
    (∃ o : Origin, ∃ p : Fin 4, ∃ v : Word, ∃ s : State, 
      let err := s.gclErr p.val (s.flag ⟨(.NG_GCL_CTRL, [p.val]), 0, 0⟩)
      let may := ∀ w, Reaches s o (.NG_GCL_CTRL, [p.val]) w
      may ∧ v.getLsbD 16 = false ∧ err ≠ 0) ∧
    (∃ o : Origin, ∃ p : Fin 4, ∃ v : Word, ∃ s : State, 
      let err := s.gclErr p.val (s.flag ⟨(.NG_GCL_CTRL, [p.val]), 0, 0⟩)
      let may := ∀ w, Reaches s o (.NG_GCL_CTRL, [p.val]) w
      may ∧ v.getLsbD 16 = false ∧ err = 0) ∧
    (∃ p : Fin 4, ∃ l : Gcl, ∃ s : State, (s.port p.val).pend = some l ∧ l.base * nsUnits ≤ s.now) ∧
    (∃ p : Fin 4, ∃ s : State, ((s.port p.val).pend = none ∨ (∃ x, (s.port p.val).pend = some x ∧ s.now < x.base * nsUnits))) ∧
    (∃ p : Fin 4, ∃ l : Gcl, ∃ s : State, (s.port p.val).oper = some l) ∧
    (∃ p : Fin 4, ∃ s : State, (s.port p.val).oper = none) :=
  ⟨⟨(Origin.pf 0), 0, (0x00000000#32), up, by repeat' first | exact fun w => reaches w (by decide +kernel) (by decide +kernel) (fun _ => nofun) | apply And.intro | decide +kernel | constructor⟩,
   ⟨(Origin.pf 0), 1, (0x00000000#32), (e1 up), by repeat' first | exact fun w => reaches w (by decide +kernel) (by decide +kernel) (fun _ => nofun) | apply And.intro | decide +kernel | constructor⟩,
   ⟨(Origin.pf 0), 0, (0x00000000#32), up, by repeat' first | exact fun w => reaches w (by decide +kernel) (by decide +kernel) (fun _ => nofun) | apply And.intro | decide +kernel | constructor⟩,
   ⟨(Origin.pf 0), 1, (0x00000000#32), (ad 5 (e1 up)), by repeat' first | exact fun w => reaches w (by decide +kernel) (by decide +kernel) (fun _ => nofun) | apply And.intro | decide +kernel | constructor⟩,
   ⟨1, ⟨1000000000000, 2000, [(255, 500), (3, 1500)]⟩, (po (some (⟨1000000000000, 2000, [(255, 500), (3, 1500)]⟩)) none (e1 up)), by decide +kernel⟩,
   ⟨0, up, by decide +kernel⟩,
   ⟨1, ⟨1000000000000, 2000, [(255, 500), (3, 1500)]⟩, (po none (some (⟨1000000000000, 2000, [(255, 500), (3, 1500)]⟩)) (e1 up)), by decide +kernel⟩,
   ⟨0, up, by decide +kernel⟩⟩

end GateListsChange

/-- Every clause of part 2 of Obligations.GatesAndQueuesAreWatched can be met. -/
theorem witness_GatesAndQueuesAreWatched_2 :
    (∃ p : Fin 4, ∃ q : Nat, ∃ s : State, q ∈ s.portQueues p.val) :=
  ⟨1, 5, (ue 5 up), by decide +kernel⟩

end Network

namespace Transfers

def perm : State := { up with regs := up.regs } |>.set (⟨(.DV_PERM_LO, [1]), 31, 0⟩) 0xFFFFFFFF |>.set (⟨(.DV_PERM_HI, [1]), 31, 0⟩) 0xFFFFFFFF

def en5 (s : State) : State := (s.wr (.AD_CTRL, [5]) (w32 0x401)).set (F.AD_STAT_STATE 5) 1

def md (n : Nat) (s : State) : State := s.set (F.AD_CTRL_MODE 5) n

def sz (n : Nat) (s : State) : State := s.set (F.AD_CTRL_SIZE 5) n

def bst (l f : Nat) (g : Bool) (s : State) : State := s.updAd 5 fun x => { x with burst := some ⟨l, f, 2, g⟩ }

def rxs (l : List (List Byte)) (s : State) : State := s.updAd 5 fun x => { x with rx := l }

def ids (h w : Nat) (s : State) : State := (s.set (F.AD_HW_IDX_IDX 5) h).set (F.AD_SW_IDX_IDX 5) w

def own (s : State) : State := s.set (F.HQ_CTRL_OWNER 5) 1

namespace ChannelsAreControlled

def p : State := perm

/-- Every clause of part 1 of Obligations.AncillaryChannels can be met. -/
theorem witness_AncillaryChannels_1 :
    (∃ o : Origin, ∃ c : Fin 64, ∃ v : Word, ∃ s : State, 
      let en (t : State) := t.get ⟨(.AD_CTRL, [c.val]), 0, 0⟩
      let st (t : State) := t.get (F.AD_STAT_STATE c.val)
      let legal := 1 ≤ bits v 11 8 ∧ bits v 11 8 ≤ 12 ∧ bits v 3 1 < 4
      let may (r : Reg) := ∀ w, Reaches s o (r, [c.val]) w
      may .AD_CTRL ∧ en s = 0 ∧ st s ≠ 1 ∧ legal) ∧
    (∃ o : Origin, ∃ c : Fin 64, ∃ v : Word, ∃ s : State, 
      let en (t : State) := t.get ⟨(.AD_CTRL, [c.val]), 0, 0⟩
      let st (t : State) := t.get (F.AD_STAT_STATE c.val)
      let legal := 1 ≤ bits v 11 8 ∧ bits v 11 8 ≤ 12 ∧ bits v 3 1 < 4
      let may (r : Reg) := ∀ w, Reaches s o (r, [c.val]) w
      may .AD_CTRL ∧ en s = 0 ∧ st s ≠ 1 ∧ (¬ legal)) ∧
    (∃ o : Origin, ∃ c : Fin 64, ∃ s : State, 
      let en (t : State) := t.get ⟨(.AD_CTRL, [c.val]), 0, 0⟩
      let st (t : State) := t.get (F.AD_STAT_STATE c.val)
      let may (r : Reg) := ∀ w, Reaches s o (r, [c.val]) w
      may .AD_CTRL ∧ en s = 1 ∧ st s = 1 ∧ 1 ≤ s.get (F.AD_CTRL_SIZE c.val) ∧ s.get (F.AD_CTRL_SIZE c.val) ≤ 12) ∧
    (∃ o : Origin, ∃ c : Fin 64, ∃ v : Word, ∃ s : State, 
      let hw := s.get (F.AD_HW_IDX_IDX c.val)
      let ahead := if s.get (F.AD_CTRL_MODE c.val) ≤ 1 then idxDiff (bits v 15 0) hw else idxDiff hw (bits v 15 0)
      let may (r : Reg) := ∀ w, Reaches s o (r, [c.val]) w
      may .AD_SW_IDX ∧ ahead ≤ 2 ^ s.get (F.AD_CTRL_SIZE c.val)) ∧
    (∃ o : Origin, ∃ c : Fin 64, ∃ v : Word, ∃ s : State, 
      let hw := s.get (F.AD_HW_IDX_IDX c.val)
      let ahead := if s.get (F.AD_CTRL_MODE c.val) ≤ 1 then idxDiff (bits v 15 0) hw else idxDiff hw (bits v 15 0)
      let may (r : Reg) := ∀ w, Reaches s o (r, [c.val]) w
      may .AD_SW_IDX ∧ 2 ^ s.get (F.AD_CTRL_SIZE c.val) < ahead) ∧
    (∃ o : Origin, ∃ c : Fin 64, ∃ s : State, 
      let st (t : State) := t.get (F.AD_STAT_STATE c.val)
      let may (r : Reg) := ∀ w, Reaches s o (r, [c.val]) w
      may .AD_CMD ∧ (st s = 2 ∨ st s = 3)) ∧
    (∃ o : Origin, ∃ c : Fin 64, ∃ s : State, 
      let st (t : State) := t.get (F.AD_STAT_STATE c.val)
      let may (r : Reg) := ∀ w, Reaches s o (r, [c.val]) w
      may .AD_CMD ∧ (st s = 0 ∨ st s = 1)) ∧
    (∃ o : Origin, ∃ c : Fin 64, ∃ s : State, 
      let st (t : State) := t.get (F.AD_STAT_STATE c.val)
      let may (r : Reg) := ∀ w, Reaches s o (r, [c.val]) w
      may .AD_CMD ∧ st s = 1 ∧ (s.ad c.val).doneAt ≠ some s.tick) ∧
    (∃ o : Origin, ∃ c : Fin 64, ∃ s : State, 
      let st (t : State) := t.get (F.AD_STAT_STATE c.val)
      let may (r : Reg) := ∀ w, Reaches s o (r, [c.val]) w
      may .AD_CMD ∧ (st s ≠ 1 ∨ (s.ad c.val).doneAt = some s.tick)) :=
  ⟨⟨(Origin.pf 1), 5, (0x00000401#32), p, by repeat' first | exact fun w => reaches w (by decide +kernel) (by decide +kernel) (fun _ => nofun) | apply And.intro | decide +kernel | constructor⟩,
   ⟨(Origin.pf 1), 5, (0x00000001#32), p, by repeat' first | exact fun w => reaches w (by decide +kernel) (by decide +kernel) (fun _ => nofun) | apply And.intro | decide +kernel | constructor⟩,
   ⟨(Origin.pf 1), 5, (en5 p), by repeat' first | exact fun w => reaches w (by decide +kernel) (by decide +kernel) (fun _ => nofun) | apply And.intro | decide +kernel | constructor⟩,
   ⟨(Origin.pf 1), 5, (0x00000001#32), p, by repeat' first | exact fun w => reaches w (by decide +kernel) (by decide +kernel) (fun _ => nofun) | apply And.intro | decide +kernel | constructor⟩,
   ⟨(Origin.pf 1), 5, (0x00000401#32), p, by repeat' first | exact fun w => reaches w (by decide +kernel) (by decide +kernel) (fun _ => nofun) | apply And.intro | decide +kernel | constructor⟩,
   ⟨(Origin.pf 1), 5, ((en5 p).set (F.AD_STAT_STATE 5) 2), by repeat' first | exact fun w => reaches w (by decide +kernel) (by decide +kernel) (fun _ => nofun) | apply And.intro | decide +kernel | constructor⟩,
   ⟨(Origin.pf 1), 5, p, by repeat' first | exact fun w => reaches w (by decide +kernel) (by decide +kernel) (fun _ => nofun) | apply And.intro | decide +kernel | constructor⟩,
   ⟨(Origin.pf 1), 5, (en5 p), by repeat' first | exact fun w => reaches w (by decide +kernel) (by decide +kernel) (fun _ => nofun) | apply And.intro | decide +kernel | constructor⟩,
   ⟨(Origin.pf 1), 5, p, by repeat' first | exact fun w => reaches w (by decide +kernel) (by decide +kernel) (fun _ => nofun) | apply And.intro | decide +kernel | constructor⟩⟩

end ChannelsAreControlled

namespace BurstsEnd

def p : State := md 2 (sz 4 (ids 65535 3 (en5 perm)))

def ho (s : State) : State := (s.set (F.AD_CTRL_HOST 5) 1).set (F.AD_CTRL_HOST_PF 5) 2

def ms (s : State) : State := s.memWrite false {} (s.slotAddr 5 65535) (bytesLE 4 (4 + 9 * 4096) ++ List.replicate 32 1)

def sdi (s : State) : State := (md 0 s).set (F.HD_DEST_SDI_EN 0) 1

/-- Every clause of part 2 of Obligations.AncillaryChannels can be met. -/
theorem witness_AncillaryChannels_2 :
    (∃ c : Fin 64, ∃ s : State, (s.ad c.val).burst = none ∧ (s.ad c.val).rx = []) ∧
    (∃ c : Fin 64, ∃ slot : List Byte, ∃ rest : List (List Byte), ∃ s : State, 
      let host := s.get (F.AD_CTRL_HOST c.val)
      let receives := (s.ad c.val).burst = none ∧ (s.ad c.val).rx = slot :: rest
      receives ∧ host = 0 ∧ s.MemOk) ∧
    (∃ c : Fin 64, ∃ slot : List Byte, ∃ rest : List (List Byte), ∃ s : State, 
      let host := s.get (F.AD_CTRL_HOST c.val)
      let receives := (s.ad c.val).burst = none ∧ (s.ad c.val).rx = slot :: rest
      receives ∧ host = 1) ∧
    (∃ c : Fin 64, ∃ b : AdBurst, ∃ s : State, 
      let hw (t : State) := t.get (F.AD_HW_IDX_IDX c.val)
      let a := s.slotAddr c.val (hw s)
      let host := s.get (F.AD_CTRL_HOST c.val)
      let bad := s.badIn a (32 + (parseSlot (s.bytes a 32)).len) = true
      (s.ad c.val).burst = some b ∧ host = 0 ∧ (¬ bad) ∧ s.withdrawn c.val b = true) ∧
    (∃ c : Fin 64, ∃ b : AdBurst, ∃ s : State, 
      let hw (t : State) := t.get (F.AD_HW_IDX_IDX c.val)
      let a := s.slotAddr c.val (hw s)
      let host := s.get (F.AD_CTRL_HOST c.val)
      let bad := s.badIn a (32 + (parseSlot (s.bytes a 32)).len) = true
      (s.ad c.val).burst = some b ∧ host = 0 ∧ (¬ bad) ∧ s.withdrawn c.val b = false) ∧
    (∃ c : Fin 64, ∃ data : List Byte, ∃ b : AdBurst, ∃ s : State, 
      let host := s.get (F.AD_CTRL_HOST c.val)
      (s.ad c.val).burst = some b ∧ host = 1 ∧ s.slotMatches c.val (parseSlot data) b.line b.frame = false) :=
  ⟨⟨5, p, by decide +kernel⟩,
   ⟨5, [0x01#8, 0x02#8, 0x03#8], [], (rxs [[1,2,3]] p), by repeat' first | apply And.intro | decide +kernel | (unfold State.MemOk; decide +kernel)⟩,
   ⟨5, [0x01#8, 0x02#8, 0x03#8], [], (rxs [[1,2,3]] (ho p)), by decide +kernel⟩,
   ⟨5, ⟨9, 5, 2, false⟩, (bst 9 5 false (ms (md 0 p))), by decide +kernel⟩,
   ⟨5, ⟨9, 5, 2, false⟩, (bst 9 5 false (sdi p)), by decide +kernel⟩,
   ⟨5, [0x01#8, 0x02#8, 0x03#8], ⟨9, 5, 2, false⟩, (bst 9 5 false (ho (sdi p))), by decide +kernel⟩⟩

end BurstsEnd

namespace RingsAreControlled

def p : State := perm

def eh (st : Nat) (s : State) : State := (own ((s.wr (.HQ_CTRL, [5]) (w32 0x21)))).set (F.HQ_STAT_STATE 5) st

/-- Every clause of part 1 of Obligations.HostRings can be met. -/
theorem witness_HostRings_1 :
    (∃ f : Fin 4, ∃ r : Fin 64, ∃ v : Word, ∃ s : State, 
      let o : Origin := .pf f
      let en (t : State) := t.get (F.HQ_CTRL_EN r.val)
      let st (t : State) := t.get (F.HQ_STAT_STATE r.val)
      let legal := bits v 2 1 ≠ 3 ∧ 4 ≤ bits v 6 3 ∧ bits v 6 3 ≤ 15
      let may (k : Reg) := ∀ w, Reaches s o (k, [r.val]) w
      may .HQ_CTRL ∧ en s = 0 ∧ st s ≠ 1 ∧ legal) ∧
    (∃ f : Fin 4, ∃ r : Fin 64, ∃ v : Word, ∃ s : State, 
      let o : Origin := .pf f
      let en (t : State) := t.get (F.HQ_CTRL_EN r.val)
      let st (t : State) := t.get (F.HQ_STAT_STATE r.val)
      let legal := bits v 2 1 ≠ 3 ∧ 4 ≤ bits v 6 3 ∧ bits v 6 3 ≤ 15
      let may (k : Reg) := ∀ w, Reaches s o (k, [r.val]) w
      may .HQ_CTRL ∧ en s = 0 ∧ st s ≠ 1 ∧ (¬ legal)) ∧
    (∃ f : Fin 4, ∃ r : Fin 64, ∃ s : State, 
      let o : Origin := .pf f
      let en (t : State) := t.get (F.HQ_CTRL_EN r.val)
      let st (t : State) := t.get (F.HQ_STAT_STATE r.val)
      let kept := s.get (F.HQ_CTRL_KIND r.val) ≠ 3 ∧ 4 ≤ s.get (F.HQ_CTRL_SIZE r.val)
      let may (k : Reg) := ∀ w, Reaches s o (k, [r.val]) w
      may .HQ_CTRL ∧ en s = 1 ∧ st s = 1 ∧ kept) ∧
    (∃ f : Fin 4, ∃ r : Fin 64, ∃ v : Word, ∃ s : State, 
      let o : Origin := .pf f
      let cons (t : State) := t.get (F.HQ_CONS_CONS r.val)
      let may (k : Reg) := ∀ w, Reaches s o (k, [r.val]) w
      let ahead := idxDiff (bits v 15 0) (cons s)
      may .HQ_DB ∧ ahead ≤ s.hqSize r.val) ∧
    (∃ f : Fin 4, ∃ r : Fin 64, ∃ v : Word, ∃ s : State, 
      let o : Origin := .pf f
      let cons (t : State) := t.get (F.HQ_CONS_CONS r.val)
      let may (k : Reg) := ∀ w, Reaches s o (k, [r.val]) w
      let ahead := idxDiff (bits v 15 0) (cons s)
      may .HQ_DB ∧ s.hqSize r.val < ahead) ∧
    (∃ f : Fin 4, ∃ r : Fin 64, ∃ s : State, 
      let o : Origin := .pf f
      let st (t : State) := t.get (F.HQ_STAT_STATE r.val)
      let may (k : Reg) := ∀ w, Reaches s o (k, [r.val]) w
      may .HQ_CMD ∧ (st s = 2 ∨ st s = 3)) ∧
    (∃ f : Fin 4, ∃ r : Fin 64, ∃ s : State, 
      let o : Origin := .pf f
      let st (t : State) := t.get (F.HQ_STAT_STATE r.val)
      let may (k : Reg) := ∀ w, Reaches s o (k, [r.val]) w
      may .HQ_CMD ∧ (st s = 0 ∨ st s = 1)) ∧
    (∃ f : Fin 4, ∃ r : Fin 64, ∃ s : State, 
      let o : Origin := .pf f
      let st (t : State) := t.get (F.HQ_STAT_STATE r.val)
      let may (k : Reg) := ∀ w, Reaches s o (k, [r.val]) w
      may .HQ_CMD ∧ st s = 1 ∧ (s.hq r.val).doneAt ≠ some s.tick) ∧
    (∃ f : Fin 4, ∃ r : Fin 64, ∃ s : State, 
      let o : Origin := .pf f
      let st (t : State) := t.get (F.HQ_STAT_STATE r.val)
      let may (k : Reg) := ∀ w, Reaches s o (k, [r.val]) w
      may .HQ_CMD ∧ (st s ≠ 1 ∨ (s.hq r.val).doneAt = some s.tick)) :=
  ⟨⟨1, 5, (0x00000021#32), p, by repeat' first | exact fun w => reaches w (by decide +kernel) (by decide +kernel) (ring_free rfl rfl) | apply And.intro | decide +kernel | constructor⟩,
   ⟨1, 5, (0x00000027#32), p, by repeat' first | exact fun w => reaches w (by decide +kernel) (by decide +kernel) (ring_free rfl rfl) | apply And.intro | decide +kernel | constructor⟩,
   ⟨1, 5, (eh 1 p), by repeat' first | exact fun w => reaches w (by decide +kernel) (by decide +kernel) (fun _ => nofun) | apply And.intro | decide +kernel | constructor⟩,
   ⟨1, 5, (0x00000021#32), p, by repeat' first | exact fun w => reaches w (by decide +kernel) (by decide +kernel) (fun _ => nofun) | apply And.intro | decide +kernel | constructor⟩,
   ⟨1, 5, (0x00000021#32), (eh 1 p), by repeat' first | exact fun w => reaches w (by decide +kernel) (by decide +kernel) (fun _ => nofun) | apply And.intro | decide +kernel | constructor⟩,
   ⟨1, 5, (eh 2 p), by repeat' first | exact fun w => reaches w (by decide +kernel) (by decide +kernel) (fun _ => nofun) | apply And.intro | decide +kernel | constructor⟩,
   ⟨1, 5, p, by repeat' first | exact fun w => reaches w (by decide +kernel) (by decide +kernel) (fun _ => nofun) | apply And.intro | decide +kernel | constructor⟩,
   ⟨1, 5, (eh 1 p), by repeat' first | exact fun w => reaches w (by decide +kernel) (by decide +kernel) (fun _ => nofun) | apply And.intro | decide +kernel | constructor⟩,
   ⟨1, 5, p, by repeat' first | exact fun w => reaches w (by decide +kernel) (by decide +kernel) (fun _ => nofun) | apply And.intro | decide +kernel | constructor⟩⟩

end RingsAreControlled

namespace DescriptorsAreTaken

def p : State := perm

def eh (k : Nat) (s : State) : State := (((own ((s.wr (.HQ_CTRL, [5]) (w32 (0x21 + 2 * k))))).set (F.HQ_STAT_STATE 5) 1).set (F.HQ_DB_PROD 5) 3).set
  (F.HQ_CONS_CONS 5) 65535

def fly (s : State) : State := s.updHq 5 fun x => {x with flight := [⟨[0,0,0,0,0,0,0,0], none⟩]}

def de (op len : Nat) (w4 w5 : Nat) : HostDesc := [w32 op, w32 len, w32 0x5000, w32 1, w32 w4, w32 w5, 0, 0]

def qq (s : State) : State := ((((s.set (F.NQ_CTRL_EN 6) 1).set (F.NQ_CTRL_PORT 6) 1).set (F.NP_STAT_LINK 1) 1).set (F.NQ_CTRL_SRC 6) 2).set
  (F.NQ_CTRL_TARGET 6) 5

/-- Every clause of part 2 of Obligations.HostRings can be met. -/
theorem witness_HostRings_2 :
    (∃ r : Fin 64, ∃ d : HostDesc, ∃ f : Fin 4, ∃ s : State, f.val = s.hqOwner r.val ∧ s.nextDesc r.val d = none) ∧
    (∃ r : Fin 64, ∃ d : HostDesc, ∃ ds : List Word, ∃ f : Fin 4, ∃ s : State, 
      let kind := s.get (F.HQ_CTRL_KIND r.val)
      let next (op : Nat) := s.nextDesc r.val d = some ds ∧ s.get (F.HQ_CTRL_LOCAL r.val) = 0 ∧ descOp ds = op
      f.val = s.hqOwner r.val ∧ next 0 ∧ (kind = 0 ∨ kind = 2)) ∧
    (∃ r : Fin 64, ∃ d : HostDesc, ∃ ds : List Word, ∃ f : Fin 4, ∃ s : State, 
      let kind := s.get (F.HQ_CTRL_KIND r.val)
      let next (op : Nat) := s.nextDesc r.val d = some ds ∧ s.get (F.HQ_CTRL_LOCAL r.val) = 0 ∧ descOp ds = op
      ∃ op, f.val = s.hqOwner r.val ∧ next op ∧ (op = 0 ∧ kind = 1 ∨ 6 ≤ op)) ∧
    (∃ r : Fin 64, ∃ d : HostDesc, ∃ ds : List Word, ∃ data : List Byte, ∃ f : Fin 4, ∃ s : State, 
      let kind := s.get (F.HQ_CTRL_KIND r.val)
      let next (op : Nat) := s.nextDesc r.val d = some ds ∧ s.get (F.HQ_CTRL_LOCAL r.val) = 0 ∧ descOp ds = op
      f.val = s.hqOwner r.val ∧ next 1 ∧ kind = 0 ∧ data.length = descLen ds ∧ s.MemOk) ∧
    (∃ r : Fin 64, ∃ d : HostDesc, ∃ ds : List Word, ∃ f : Fin 4, ∃ s : State, 
      let kind := s.get (F.HQ_CTRL_KIND r.val)
      let next (op : Nat) := s.nextDesc r.val d = some ds ∧ s.get (F.HQ_CTRL_LOCAL r.val) = 0 ∧ descOp ds = op
      f.val = s.hqOwner r.val ∧ next 1 ∧ kind ≠ 0) ∧
    (∃ r : Fin 64, ∃ d : HostDesc, ∃ ds : List Word, ∃ f : Fin 4, ∃ s : State, 
      let kind := s.get (F.HQ_CTRL_KIND r.val)
      let next (op : Nat) := s.nextDesc r.val d = some ds ∧ s.get (F.HQ_CTRL_LOCAL r.val) = 0 ∧ descOp ds = op
      f.val = s.hqOwner r.val ∧ next 2 ∧ kind = 0 ∧ s.badIn (descLocal ds) (descLen ds) = false) ∧
    (∃ r : Fin 64, ∃ d : HostDesc, ∃ ds : List Word, ∃ f : Fin 4, ∃ s : State, 
      let kind := s.get (F.HQ_CTRL_KIND r.val)
      let next (op : Nat) := s.nextDesc r.val d = some ds ∧ s.get (F.HQ_CTRL_LOCAL r.val) = 0 ∧ descOp ds = op
      f.val = s.hqOwner r.val ∧ next 2 ∧ kind ≠ 0) ∧
    (∃ r : Fin 64, ∃ d : HostDesc, ∃ ds : List Word, ∃ k : Key, ∃ f : Fin 4, ∃ s : State, 
      let kind := s.get (F.HQ_CTRL_KIND r.val)
      let flight (t : State) := (t.hq r.val).flight
      let next (op : Nat) := s.nextDesc r.val d = some ds ∧ s.get (F.HQ_CTRL_LOCAL r.val) = 0 ∧ descOp ds = op
      let v := dw ds 5
      let plainWrite := decodeAddr (dw ds 4).toNat = .reg k ∧ special.contains k.1 = false ∧ slowCode k = none ∧ (keyHdr k).headD 0 ≠ 9 ∧ Reaches s (.pf f) k v ∧ Unlocked s k ∧ (∀ x ∈ (regDef k.1).fields, x.acc ≠ .w1) ∧ fieldsApart (regDef k.1).fields = true ∧ isMw (regDef k.1) = false ∧ ∀ x, s.valueRule k x = .ok
      f.val = s.hqOwner r.val ∧ next 3 ∧ (kind = 0 ∨ kind = 2) ∧ flight s = [] ∧ plainWrite) ∧
    (∃ r : Fin 64, ∃ d : HostDesc, ∃ ds : List Word, ∃ f : Fin 4, ∃ s : State, 
      let kind := s.get (F.HQ_CTRL_KIND r.val)
      let flight (t : State) := (t.hq r.val).flight
      let next (op : Nat) := s.nextDesc r.val d = some ds ∧ s.get (F.HQ_CTRL_LOCAL r.val) = 0 ∧ descOp ds = op
      f.val = s.hqOwner r.val ∧ next 3 ∧ (kind = 0 ∨ kind = 2) ∧ flight s ≠ []) ∧
    (∃ r : Fin 64, ∃ d : HostDesc, ∃ ds : List Word, ∃ f : Fin 4, ∃ s : State, 
      let kind := s.get (F.HQ_CTRL_KIND r.val)
      let next (op : Nat) := s.nextDesc r.val d = some ds ∧ s.get (F.HQ_CTRL_LOCAL r.val) = 0 ∧ descOp ds = op
      f.val = s.hqOwner r.val ∧ next 3 ∧ kind = 1) ∧
    (∃ r : Fin 64, ∃ d : HostDesc, ∃ ds : List Word, ∃ data : List Byte, ∃ f : Fin 4, ∃ s : State, 
      let kind := s.get (F.HQ_CTRL_KIND r.val)
      let next (op : Nat) := s.nextDesc r.val d = some ds ∧ s.get (F.HQ_CTRL_LOCAL r.val) = 0 ∧ descOp ds = op
      f.val = s.hqOwner r.val ∧ next 4 ∧ kind = 2 ∧ data.length = descLen ds ∧ s.queueOf 2 r.val = none) ∧
    (∃ r : Fin 64, ∃ d : HostDesc, ∃ ds : List Word, ∃ data : List Byte, ∃ f : Fin 4, ∃ q : Nat, ∃ s : State, 
      let kind := s.get (F.HQ_CTRL_KIND r.val)
      let next (op : Nat) := s.nextDesc r.val d = some ds ∧ s.get (F.HQ_CTRL_LOCAL r.val) = 0 ∧ descOp ds = op
      f.val = s.hqOwner r.val ∧ next 4 ∧ kind = 2 ∧ data.length = descLen ds ∧ s.queueOf 2 r.val = some q ∧ s.get (F.NQ_CTRL_EN q) = 1 ∧
      s.get (F.NP_STAT_LINK (s.qPort q)) = 1 ∧ (s.port (s.qPort q)).oper = none) ∧
    (∃ r : Fin 64, ∃ d : HostDesc, ∃ ds : List Word, ∃ f : Fin 4, ∃ s : State, 
      let kind := s.get (F.HQ_CTRL_KIND r.val)
      let next (op : Nat) := s.nextDesc r.val d = some ds ∧ s.get (F.HQ_CTRL_LOCAL r.val) = 0 ∧ descOp ds = op
      f.val = s.hqOwner r.val ∧ next 4 ∧ kind ≠ 2) ∧
    (∃ r : Fin 64, ∃ d : HostDesc, ∃ ds : List Word, ∃ f : Fin 4, ∃ s : State, 
      let kind := s.get (F.HQ_CTRL_KIND r.val)
      let next (op : Nat) := s.nextDesc r.val d = some ds ∧ s.get (F.HQ_CTRL_LOCAL r.val) = 0 ∧ descOp ds = op
      f.val = s.hqOwner r.val ∧ next 5 ∧ kind = 1) ∧
    (∃ r : Fin 64, ∃ d : HostDesc, ∃ ds : List Word, ∃ f : Fin 4, ∃ s : State, 
      let kind := s.get (F.HQ_CTRL_KIND r.val)
      let next (op : Nat) := s.nextDesc r.val d = some ds ∧ s.get (F.HQ_CTRL_LOCAL r.val) = 0 ∧ descOp ds = op
      f.val = s.hqOwner r.val ∧ next 5 ∧ kind ≠ 1) :=
  ⟨⟨5, (de 0 0 0 0), 1, (own p), by decide +kernel⟩,
   ⟨5, (de 0 0 0 0), [0x00000000#32, 0x00000000#32, 0x00005000#32, 0x00000001#32, 0x00000000#32, 0x00000000#32, 0x00000000#32, 0x00000000#32], 1, (eh 0 p), by decide +kernel⟩,
   ⟨5, (de 0 0 0 0), [0x00000000#32, 0x00000000#32, 0x00005000#32, 0x00000001#32, 0x00000000#32, 0x00000000#32, 0x00000000#32, 0x00000000#32], 1, (eh 1 p), 0, by decide +kernel⟩,
   ⟨5, (de 1 3 0x1000 0), [0x00000001#32, 0x00000003#32, 0x00005000#32, 0x00000001#32, 0x00001000#32, 0x00000000#32, 0x00000000#32, 0x00000000#32], [0x01#8, 0x02#8, 0x03#8], 1, (eh 0 p), by repeat' first | apply And.intro | decide +kernel | (unfold State.MemOk; decide +kernel)⟩,
   ⟨5, (de 1 3 0x1000 0), [0x00000001#32, 0x00000003#32, 0x00005000#32, 0x00000001#32, 0x00001000#32, 0x00000000#32, 0x00000000#32, 0x00000000#32], 1, (eh 1 p), by decide +kernel⟩,
   ⟨5, (de 2 3 0x1000 0), [0x00000002#32, 0x00000003#32, 0x00005000#32, 0x00000001#32, 0x00001000#32, 0x00000000#32, 0x00000000#32, 0x00000000#32], 1, (eh 0 p), by decide +kernel⟩,
   ⟨5, (de 2 3 0x1000 0), [0x00000002#32, 0x00000003#32, 0x00005000#32, 0x00000001#32, 0x00001000#32, 0x00000000#32, 0x00000000#32, 0x00000000#32], 1, (eh 1 p), by decide +kernel⟩,
   ⟨5, (de 3 0 0x200048 0x1234), [0x00000003#32, 0x00000000#32, 0x00005000#32, 0x00000001#32, 0x00200048#32, 0x00001234#32, 0x00000000#32, 0x00000000#32], ((Reg.HD_RASTER, [0])), 1, (eh 0 p), by repeat' first | exact fun _ => rfl | apply And.intro | decide +kernel | constructor⟩,
   ⟨5, (de 3 0 0x200048 0x1234), [0x00000003#32, 0x00000000#32, 0x00005000#32, 0x00000001#32, 0x00200048#32, 0x00001234#32, 0x00000000#32, 0x00000000#32], 1, (fly (eh 0 p)), by decide +kernel⟩,
   ⟨5, (de 3 0 0x200048 0x1234), [0x00000003#32, 0x00000000#32, 0x00005000#32, 0x00000001#32, 0x00200048#32, 0x00001234#32, 0x00000000#32, 0x00000000#32], 1, (eh 1 p), by decide +kernel⟩,
   ⟨5, (de 4 60 0 0), [0x00000004#32, 0x0000003c#32, 0x00005000#32, 0x00000001#32, 0x00000000#32, 0x00000000#32, 0x00000000#32, 0x00000000#32], (List.replicate 60 1), 1, (eh 2 p), by decide +kernel⟩,
   ⟨5, (de 4 60 0 0), [0x00000004#32, 0x0000003c#32, 0x00005000#32, 0x00000001#32, 0x00000000#32, 0x00000000#32, 0x00000000#32, 0x00000000#32], (List.replicate 60 1), 1, 6, (qq (eh 2 p)), by decide +kernel⟩,
   ⟨5, (de 4 60 0 0), [0x00000004#32, 0x0000003c#32, 0x00005000#32, 0x00000001#32, 0x00000000#32, 0x00000000#32, 0x00000000#32, 0x00000000#32], 1, (eh 0 p), by decide +kernel⟩,
   ⟨5, (de 5 2000 0 0), [0x00000005#32, 0x000007d0#32, 0x00005000#32, 0x00000001#32, 0x00000000#32, 0x00000000#32, 0x00000000#32, 0x00000000#32], 1, (eh 1 p), by decide +kernel⟩,
   ⟨5, (de 5 2000 0 0), [0x00000005#32, 0x000007d0#32, 0x00005000#32, 0x00000001#32, 0x00000000#32, 0x00000000#32, 0x00000000#32, 0x00000000#32], 1, (eh 0 p), by decide +kernel⟩⟩

end DescriptorsAreTaken

namespace DescriptorsComplete

def p : State := perm

def eh (k : Nat) (s : State) : State := (((own ((s.wr (.HQ_CTRL, [5]) (w32 (0x21 + 2 * k))))).set (F.HQ_STAT_STATE 5) 1).set (F.HQ_DB_PROD 5) 3).set
  (F.HQ_CONS_CONS 5) 65535

def fly (l : List HqFlight) (s : State) : State := s.updHq 5 fun x => {x with flight := l}

/-- Every clause of part 3 of Obligations.HostRings can be met. -/
theorem witness_HostRings_3 :
    (∃ r : Fin 64, ∃ s : State, 
      let flight (t : State) := (t.hq r.val).flight
      ((flight s = [] ∨ ∃ e es, flight s = ⟨e, none⟩ :: es))) ∧
    (∃ r : Fin 64, ∃ d : List Word, ∃ res : Nat, ∃ fs : List HqFlight, ∃ s : State, 
      let flight (t : State) := (t.hq r.val).flight
      let first := flight s = ⟨d, some res⟩ :: fs
      first ∧ res ≠ 2) ∧
    (∃ r : Fin 64, ∃ d : List Word, ∃ res : Nat, ∃ fs : List HqFlight, ∃ s : State, 
      let flight (t : State) := (t.hq r.val).flight
      let first := flight s = ⟨d, some res⟩ :: fs
      first ∧ s.get (F.HQ_CTRL_LOCAL r.val) = 0 ∧ descOp d ≠ 5) ∧
    (∃ r : Fin 64, ∃ d : List Word, ∃ res : Nat, ∃ fs : List HqFlight, ∃ s : State, 
      let flight (t : State) := (t.hq r.val).flight
      let first := flight s = ⟨d, some res⟩ :: fs
      first ∧ res = 2) :=
  ⟨⟨5, p, Or.inl (by decide +kernel)⟩,
   ⟨5, [0x00000000#32, 0x00000000#32, 0x00000000#32, 0x00000000#32, 0x00000000#32, 0x00000000#32, 0x00000000#32, 0x00000000#32], 0, [], (fly [(⟨[0,0,0,0,0,0,0,0], some 0⟩)] (eh 0 p)), by decide +kernel⟩,
   ⟨5, [0x00000000#32, 0x00000000#32, 0x00000000#32, 0x00000000#32, 0x00000000#32, 0x00000000#32, 0x00000000#32, 0x00000000#32], 0, [], (fly [(⟨[0,0,0,0,0,0,0,0], some 0⟩)] (eh 0 p)), by decide +kernel⟩,
   ⟨5, [0x00000000#32, 0x00000000#32, 0x00000000#32, 0x00000000#32, 0x00000000#32, 0x00000000#32, 0x00000000#32, 0x00000000#32], 2, [], (fly [(⟨[0,0,0,0,0,0,0,0], some 2⟩)] (eh 0 p)), by decide +kernel⟩⟩

end DescriptorsComplete

end Transfers

namespace Spemen

def rdy (s : State) : State := (s.set F.DV_SVC_READY_READY 15).set F.SP_VSUP_V 2400

def perm : State := rdy (up |>.set (⟨(.DV_PERM_LO, [1]), 31, 0⟩) 0xFFFFFFFF |>.set (⟨(.DV_PERM_HI, [1]), 31, 0⟩) 0xFFFFFFFF)

def st2 (n v : Nat) (s : State) : State := s.set (F.SPP_STAT_STATE n) v

def bud (n b : Nat) (s : State) : State := s.set (F.SPP_LIMITS_BUDGET n) b

def old (n : Nat) (s : State) : State := s.updSp n fun x => {x with since := 0}

def big (s : State) : State := {s with tick := 10 ^ 11}

namespace SpemenWritesArrive

def q1 (k : Key) (v : Nat) (l : List (Org × Nat × Nat)) (s : State) : State := { s with slowQ := [(11, (orgOf (.pf 1), keyAddr k, v) :: l)] }

def c2 : Key := (.SPP_CTRL, [2])

def many (s : State) : State := (List.range 8).foldl (fun s n => bud n 200 (st2 n 3 s)) s

/-- Every clause of Obligations.SpemenWritesArrive can be met. -/
theorem witness_SpemenWritesArrive :
    (∃ o : Origin, ∃ n : Fin 8, ∃ w : Word, ∃ s : State, 
      let q (t : State) := mget slowD t.slowQ 11
      let may (k : Key) (w : Word) := Reaches s o k w ∧ bits (s.slowAhead 11 (.xx_LOCK, [11, 0])) 0 0 = 0 ∧ (q s).length < 16
      let ctl : Key := (.SPP_CTRL, [n.val])
      may ctl (w32 0x10001)) ∧
    (∃ o : Origin, ∃ n : Fin 8, ∃ w : Word, ∃ s : State, 
      let q (t : State) := mget slowD t.slowQ 11
      let may (k : Key) (w : Word) := Reaches s o k w ∧ bits (s.slowAhead 11 (.xx_LOCK, [11, 0])) 0 0 = 0 ∧ (q s).length < 16
      let ctl : Key := (.SPP_CTRL, [n.val])
      may ctl (w32 0x10000)) ∧
    (∃ o : Origin, ∃ n : Fin 8, ∃ w : Word, ∃ s : State, 
      let q (t : State) := mget slowD t.slowQ 11
      let may (k : Key) (w : Word) := Reaches s o k w ∧ bits (s.slowAhead 11 (.xx_LOCK, [11, 0])) 0 0 = 0 ∧ (q s).length < 16
      let ctl : Key := (.SPP_CTRL, [n.val])
      may ctl (w32 0x20002)) ∧
    (∃ o : Origin, ∃ w : Word, ∃ s : State, 
      let q (t : State) := mget slowD t.slowQ 11
      let may (k : Key) (w : Word) := Reaches s o k w ∧ bits (s.slowAhead 11 (.xx_LOCK, [11, 0])) 0 0 = 0 ∧ (q s).length < 16
      may (.SP_LOOP_MAX, []) w) ∧
    (∃ o : Origin, ∃ w : Word, ∃ s : State, 
      let q (t : State) := mget slowD t.slowQ 11
      let may (k : Key) (w : Word) := Reaches s o k w ∧ bits (s.slowAhead 11 (.xx_LOCK, [11, 0])) 0 0 = 0 ∧ (q s).length < 16
      may (.SP_CTRL, []) (w32 0x10001)) ∧
    (∃ g : Org, ∃ n : Fin 8, ∃ v : Nat, ∃ a : Nat, ∃ rest : List (Org × Nat × Nat), ∃ s : State, 
      let q (t : State) := mget slowD t.slowQ 11
      let front (k : Key) := q s = (g, a, v) :: rest ∧ mget slowHoldD s.slowHold 11 = [] ∧ decodeAddr a = .reg k ∧ s.dv.heldWrites = false ∧ s.dv.railsOff = false
      let ctl : Key := (.SPP_CTRL, [n.val])
      let st (t : State) := t.spSt n.val
      let fits := s.spBudgets (s.spIn [2, 3]) + s.get (F.SPP_LIMITS_BUDGET n.val) ≤ s.get F.SP_LOOP_MAX_LIMIT
      front ctl ∧ v = 0x10001 ∧ st s = 0 ∧ s.spPowered = true ∧ s.spSupplyOk = true ∧ fits) ∧
    (∃ g : Org, ∃ n : Fin 8, ∃ v : Nat, ∃ a : Nat, ∃ rest : List (Org × Nat × Nat), ∃ s : State, 
      let q (t : State) := mget slowD t.slowQ 11
      let front (k : Key) := q s = (g, a, v) :: rest ∧ mget slowHoldD s.slowHold 11 = [] ∧ decodeAddr a = .reg k ∧ s.dv.heldWrites = false ∧ s.dv.railsOff = false
      let ctl : Key := (.SPP_CTRL, [n.val])
      let st (t : State) := t.spSt n.val
      front ctl ∧ v = 0x10001 ∧ st s = 0 ∧ s.spPowered = true ∧ s.spSupplyOk = false) ∧
    (∃ g : Org, ∃ n : Fin 8, ∃ v : Nat, ∃ a : Nat, ∃ rest : List (Org × Nat × Nat), ∃ s : State, 
      let q (t : State) := mget slowD t.slowQ 11
      let front (k : Key) := q s = (g, a, v) :: rest ∧ mget slowHoldD s.slowHold 11 = [] ∧ decodeAddr a = .reg k ∧ s.dv.heldWrites = false ∧ s.dv.railsOff = false
      let ctl : Key := (.SPP_CTRL, [n.val])
      let st (t : State) := t.spSt n.val
      let fits := s.spBudgets (s.spIn [2, 3]) + s.get (F.SPP_LIMITS_BUDGET n.val) ≤ s.get F.SP_LOOP_MAX_LIMIT
      front ctl ∧ v = 0x10001 ∧ st s = 0 ∧ s.spPowered = true ∧ s.spSupplyOk = true ∧ (¬ fits)) ∧
    (∃ g : Org, ∃ n : Fin 8, ∃ v : Nat, ∃ a : Nat, ∃ rest : List (Org × Nat × Nat), ∃ s : State, 
      let q (t : State) := mget slowD t.slowQ 11
      let front (k : Key) := q s = (g, a, v) :: rest ∧ mget slowHoldD s.slowHold 11 = [] ∧ decodeAddr a = .reg k ∧ s.dv.heldWrites = false ∧ s.dv.railsOff = false
      let ctl : Key := (.SPP_CTRL, [n.val])
      let st (t : State) := t.spSt n.val
      front ctl ∧ v = 0x10001 ∧ (st s ≠ 0 ∨ s.spPowered = false)) ∧
    (∃ g : Org, ∃ n : Fin 8, ∃ v : Nat, ∃ a : Nat, ∃ rest : List (Org × Nat × Nat), ∃ s : State, 
      let q (t : State) := mget slowD t.slowQ 11
      let front (k : Key) := q s = (g, a, v) :: rest ∧ mget slowHoldD s.slowHold 11 = [] ∧ decodeAddr a = .reg k ∧ s.dv.heldWrites = false ∧ s.dv.railsOff = false
      let ctl : Key := (.SPP_CTRL, [n.val])
      front ctl ∧ v = 0x10000) ∧
    (∃ g : Org, ∃ n : Fin 8, ∃ v : Nat, ∃ a : Nat, ∃ rest : List (Org × Nat × Nat), ∃ s : State, 
      let q (t : State) := mget slowD t.slowQ 11
      let front (k : Key) := q s = (g, a, v) :: rest ∧ mget slowHoldD s.slowHold 11 = [] ∧ decodeAddr a = .reg k ∧ s.dv.heldWrites = false ∧ s.dv.railsOff = false
      let ctl : Key := (.SPP_CTRL, [n.val])
      front ctl ∧ v = 0x20002 ∧ s.laneTested (72 + n.val) = false) ∧
    (∃ g : Org, ∃ n : Fin 8, ∃ v : Nat, ∃ a : Nat, ∃ rest : List (Org × Nat × Nat), ∃ s : State, 
      let q (t : State) := mget slowD t.slowQ 11
      let front (k : Key) := q s = (g, a, v) :: rest ∧ mget slowHoldD s.slowHold 11 = [] ∧ decodeAddr a = .reg k ∧ s.dv.heldWrites = false ∧ s.dv.railsOff = false
      let ctl : Key := (.SPP_CTRL, [n.val])
      front ctl ∧ v = 0x20002 ∧ s.laneTested (72 + n.val) = true) ∧
    (∃ g : Org, ∃ v : Nat, ∃ a : Nat, ∃ rest : List (Org × Nat × Nat), ∃ s : State, 
      let q (t : State) := mget slowD t.slowQ 11
      let front (k : Key) := q s = (g, a, v) :: rest ∧ mget slowHoldD s.slowHold 11 = [] ∧ decodeAddr a = .reg k ∧ s.dv.heldWrites = false ∧ s.dv.railsOff = false
      front (.SP_LOOP_MAX, []) ∧ bits (w32 v) 9 0 ≤ 960) ∧
    (∃ g : Org, ∃ v : Nat, ∃ a : Nat, ∃ rest : List (Org × Nat × Nat), ∃ s : State, 
      let q (t : State) := mget slowD t.slowQ 11
      let front (k : Key) := q s = (g, a, v) :: rest ∧ mget slowHoldD s.slowHold 11 = [] ∧ decodeAddr a = .reg k ∧ s.dv.heldWrites = false ∧ s.dv.railsOff = false
      front (.SP_LOOP_MAX, []) ∧ 960 < bits (w32 v) 9 0) ∧
    (∃ g : Org, ∃ v : Nat, ∃ a : Nat, ∃ rest : List (Org × Nat × Nat), ∃ s : State, 
      let q (t : State) := mget slowD t.slowQ 11
      let front (k : Key) := q s = (g, a, v) :: rest ∧ mget slowHoldD s.slowHold 11 = [] ∧ decodeAddr a = .reg k ∧ s.dv.heldWrites = false ∧ s.dv.railsOff = false
      front (.SP_CTRL, []) ∧ v = 0x10001 ∧ s.healthy = true) :=
  ⟨⟨(Origin.pf 1), 2, (0x00000300#32), perm, by repeat' first | decide +kernel | constructor⟩,
   ⟨(Origin.pf 1), 2, (0x00000300#32), perm, by repeat' first | decide +kernel | constructor⟩,
   ⟨(Origin.pf 1), 2, (0x00000300#32), perm, by repeat' first | decide +kernel | constructor⟩,
   ⟨(Origin.pf 1), (0x00000300#32), perm, by repeat' first | decide +kernel | constructor⟩,
   ⟨(Origin.pf 1), (0x00000300#32), perm, by repeat' first | decide +kernel | constructor⟩,
   ⟨{ cls := 2, det := 1 }, 2, 65537, 721280, [], (q1 c2 0x10001 [] perm), by decide +kernel⟩,
   ⟨{ cls := 2, det := 1 }, 2, 65537, 721280, [], (q1 c2 0x10001 [] (perm.set F.SP_VSUP_V 2000)), by decide +kernel⟩,
   ⟨{ cls := 2, det := 1 }, 2, 65537, 721280, [], (q1 c2 0x10001 [] (bud 2 9 (perm.set F.SP_LOOP_MAX_LIMIT 5))), by decide +kernel⟩,
   ⟨{ cls := 2, det := 1 }, 2, 65537, 721280, [], (q1 c2 0x10001 [] (st2 2 3 perm)), by decide +kernel⟩,
   ⟨{ cls := 2, det := 1 }, 2, 65536, 721280, [], (q1 c2 0x10000 [] (st2 2 3 perm)), by decide +kernel⟩,
   ⟨{ cls := 2, det := 1 }, 2, 131074, 721280, [], (q1 c2 0x20002 [] perm), by decide +kernel⟩,
   ⟨{ cls := 2, det := 1 }, 2, 131074, 721280, [], (q1 c2 0x20002 [] ({perm with lts := [(74, {oos := true})]})), by decide +kernel⟩,
   ⟨{ cls := 2, det := 1 }, 768, 720964, [], (q1 (.SP_LOOP_MAX, []) 0x300 [] (many perm)), by decide +kernel⟩,
   ⟨{ cls := 2, det := 1 }, 961, 720964, [], (q1 (.SP_LOOP_MAX, []) 0x3C1 [] perm), by decide +kernel⟩,
   ⟨{ cls := 2, det := 1 }, 65537, 720960, [], (q1 (.SP_CTRL, []) 0x10001 [] (perm.set F.CL_STAT_HEALTHY 1)), by decide +kernel⟩⟩

end SpemenWritesArrive

namespace LoopsAreSupervised

def lim (s : State) : State := (s.set (F.SPP_LIMITS_MAX_TRIPS 2) 3).set (F.SPP_LIMITS_I2T 2) 200

/-- Every clause of part 1 of Obligations.SpemenLoops can be met. -/
theorem witness_SpemenLoops_1 :
    (∃ n : Fin 8, ∃ s : State, 
      let st (t : State) := t.spSt n.val
      st s ≠ 1) ∧
    (∃ n : Fin 8, ∃ r : SpRamp, ∃ s : State, 
      let st (t : State) := t.spSt n.val
      st s = 1 ∧ 1400 ≤ r.peak) ∧
    (∃ n : Fin 8, ∃ r : SpRamp, ∃ s : State, 
      let st (t : State) := t.spSt n.val
      st s = 1 ∧ r.peak < 1400 ∧ (r.reached = false ∨ 700 < r.peak)) ∧
    (∃ n : Fin 8, ∃ r : SpRamp, ∃ s : State, 
      let st (t : State) := t.spSt n.val
      let c := min (ceilDiv (5 * r.charge - r.hold * r.integral) 2500) 4095
      st s = 1 ∧ r.peak ≤ 700 ∧ r.reached = true ∧ 694 < c) ∧
    (∃ n : Fin 8, ∃ r : SpRamp, ∃ s : State, 
      let st (t : State) := t.spSt n.val
      let c := min (ceilDiv (5 * r.charge - r.hold * r.integral) 2500) 4095
      st s = 1 ∧ r.peak ≤ 700 ∧ r.reached = true ∧ c ≤ 694) ∧
    (∃ n : Fin 8, ∃ s : State, 
      let st (t : State) := t.spSt n.val
      let since := (s.sp n.val).since
      st s = 2 ∧ since + ticksNs 20000000 ≤ s.tick) ∧
    (∃ n : Fin 8, ∃ s : State, 
      let st (t : State) := t.spSt n.val
      let since := (s.sp n.val).since
      (st s ≠ 2 ∨ s.tick < since + ticksNs 20000000)) ∧
    (∃ n : Fin 8, ∃ mA : Nat, ∃ s : State, 
      let st (t : State) := t.spSt n.val
      let on := st s = 1 ∨ st s = 2 ∨ st s = 3
      on ∧ 1400 ≤ mA) ∧
    (∃ n : Fin 8, ∃ mA : Nat, ∃ s : State, 
      let st (t : State) := t.spSt n.val
      let on := st s = 1 ∨ st s = 2 ∨ st s = 3
      (¬ on ∨ mA < 1400)) ∧
    (∃ n : Fin 8, ∃ mA : Nat, ∃ s : State, 
      let st (t : State) := t.spSt n.val
      let on := st s = 1 ∨ st s = 2 ∨ st s = 3
      let acc := (s.sp n.val).acc + mA * mA - 490000
      let limit := s.get (F.SPP_LIMITS_I2T n.val) * 1000000
      on ∧ mA < 1400 ∧ limit < acc) ∧
    (∃ n : Fin 8, ∃ mA : Nat, ∃ s : State, 
      let st (t : State) := t.spSt n.val
      let on := st s = 1 ∨ st s = 2 ∨ st s = 3
      on ∧ 1400 ≤ mA) ∧
    (∃ n : Fin 8, ∃ mA : Nat, ∃ s : State, 
      let st (t : State) := t.spSt n.val
      let on := st s = 1 ∨ st s = 2 ∨ st s = 3
      let acc := (s.sp n.val).acc + mA * mA - 490000
      let limit := s.get (F.SPP_LIMITS_I2T n.val) * 1000000
      on ∧ mA < 1400 ∧ acc ≤ limit) ∧
    (∃ n : Fin 8, ∃ s : State, 
      let st (t : State) := t.spSt n.val
      let on := st s = 1 ∨ st s = 2 ∨ st s = 3
      (¬ on)) ∧
    (∃ n : Fin 8, ∃ cV : Nat, ∃ s : State, 
      let st (t : State) := t.spSt n.val
      let on := st s = 1 ∨ st s = 2 ∨ st s = 3
      on ∧ cV < 1800) ∧
    (∃ n : Fin 8, ∃ cV : Nat, ∃ s : State, 
      let st (t : State) := t.spSt n.val
      let on := st s = 1 ∨ st s = 2 ∨ st s = 3
      (¬ on ∨ 1800 ≤ cV)) ∧
    (∃ n : Fin 8, ∃ s : State, 
      let st (t : State) := t.spSt n.val
      let since := (s.sp n.val).since
      let fits := s.spBudgets (s.spIn [2, 3]) + s.get (F.SPP_LIMITS_BUDGET n.val) ≤ s.get F.SP_LOOP_MAX_LIMIT
      let retry := (st s = 4 ∨ st s = 5) ∧ since + ticksS (s.get (F.SPP_LIMITS_RETRY n.val)) ≤ s.tick ∧ s.spPowered = true
      retry ∧ s.spSupplyOk = true ∧ fits) ∧
    (∃ n : Fin 8, ∃ s : State, 
      let st (t : State) := t.spSt n.val
      let since := (s.sp n.val).since
      let retry := (st s = 4 ∨ st s = 5) ∧ since + ticksS (s.get (F.SPP_LIMITS_RETRY n.val)) ≤ s.tick ∧ s.spPowered = true
      retry ∧ s.spSupplyOk = false) ∧
    (∃ n : Fin 8, ∃ s : State, 
      let st (t : State) := t.spSt n.val
      let since := (s.sp n.val).since
      let fits := s.spBudgets (s.spIn [2, 3]) + s.get (F.SPP_LIMITS_BUDGET n.val) ≤ s.get F.SP_LOOP_MAX_LIMIT
      let retry := (st s = 4 ∨ st s = 5) ∧ since + ticksS (s.get (F.SPP_LIMITS_RETRY n.val)) ≤ s.tick ∧ s.spPowered = true
      retry ∧ s.spSupplyOk = true ∧ (¬ fits)) ∧
    (∃ n : Fin 8, ∃ s : State, 
      let st (t : State) := t.spSt n.val
      let since := (s.sp n.val).since
      let retry := (st s = 4 ∨ st s = 5) ∧ since + ticksS (s.get (F.SPP_LIMITS_RETRY n.val)) ≤ s.tick ∧ s.spPowered = true
      (¬ retry)) ∧
    (∃ n : Fin 8, ∃ s : State, 
      let st (t : State) := t.spSt n.val
      let on := st s = 1 ∨ st s = 2 ∨ st s = 3
      let gate (t : State) := t.get (F.SPP_STAT_GATE_FAULT n.val)
      (on ∨ gate s = 1)) ∧
    (∃ n : Fin 8, ∃ s : State, 
      let st (t : State) := t.spSt n.val
      let on := st s = 1 ∨ st s = 2 ∨ st s = 3
      let gate (t : State) := t.get (F.SPP_STAT_GATE_FAULT n.val)
      (¬ on) ∧ gate s = 0) :=
  ⟨⟨2, (st2 2 0 perm), by decide +kernel⟩,
   ⟨2, ⟨100, 5, 1, true, 1400⟩, (st2 2 1 perm), by decide +kernel⟩,
   ⟨2, ⟨100, 5, 1, true, 800⟩, (st2 2 1 perm), by decide +kernel⟩,
   ⟨2, ⟨1000000, 5, 1, true, 100⟩, (st2 2 1 perm), by decide +kernel⟩,
   ⟨2, ⟨100000, 5, 1, true, 100⟩, (st2 2 1 perm), by decide +kernel⟩,
   ⟨2, (old 2 (big (st2 2 2 (lim perm)))), by decide +kernel⟩,
   ⟨2, (st2 2 0 perm), by decide +kernel⟩,
   ⟨2, 1400, (st2 2 1 perm), by decide +kernel⟩,
   ⟨2, 0, (st2 2 0 perm), by decide +kernel⟩,
   ⟨2, 900, ((st2 2 3 (lim perm)).updSp 2 (fun x => {x with acc := 200000000})), by decide +kernel⟩,
   ⟨2, 1400, (st2 2 1 perm), by decide +kernel⟩,
   ⟨2, 0, (st2 2 1 perm), by decide +kernel⟩,
   ⟨2, (st2 2 0 perm), by decide +kernel⟩,
   ⟨2, 0, (st2 2 1 perm), by decide +kernel⟩,
   ⟨2, 0, (st2 2 0 perm), by decide +kernel⟩,
   ⟨2, (old 2 (big (st2 2 4 (lim perm)))), by decide +kernel⟩,
   ⟨2, (old 2 (big (st2 2 4 (perm.set F.SP_VSUP_V 2000)))), by decide +kernel⟩,
   ⟨2, (old 2 (big (st2 2 4 (bud 2 9 (lim (perm.set F.SP_LOOP_MAX_LIMIT 5)))))), by decide +kernel⟩,
   ⟨2, (st2 2 0 perm), by decide +kernel⟩,
   ⟨2, (st2 2 1 perm), by decide +kernel⟩,
   ⟨2, (st2 2 0 perm), by decide +kernel⟩⟩

end LoopsAreSupervised

/-- Every clause of part 2 of Obligations.SpemenLoops can be met. -/
theorem witness_SpemenLoops_2 :
    (∃ m : SpSecond, ∃ s : State, 
      let total := m.means.foldl (· + ·) 0
      1800 ≤ m.supply ∧ total ≤ 10 * s.get F.SP_LOOP_MAX_LIMIT) ∧
    (∃ m : SpSecond, ∃ s : State, 
      let total := m.means.foldl (· + ·) 0
      10 * s.get F.SP_LOOP_MAX_LIMIT < total) :=
  ⟨⟨⟨[0,0,100,0,0,50], 2400⟩, perm, by decide +kernel⟩,
   ⟨⟨[0,0,4000,0,0,5000,4000], 2400⟩, perm, by decide +kernel⟩⟩

namespace SpemenLinksComeAndGo

def dt (s : State) : State := st2 2 3 (s.set (F.SPP_CTRL_DATA 2) 1)

def ln (s : State) : State := s.set (F.SPP_STAT_LINK 2) 1

def hl (t : Nat) (s : State) : State := s.updSp 2 fun x => {x with hello := some t}

def sy (k m : Nat) (r : Option Bool) (s : State) : State := s.updSp 2 fun x => {x with sync := some k, missed := m, reply := r}

def d : State := dt perm

/-- Every clause of part 1 of Obligations.SpemenLinks can be met. -/
theorem witness_SpemenLinks_1 :
    (∃ n : Fin 8, ∃ s : State, 
      let x (t : State) := t.sp n.val
      let link (t : State) := t.get (F.SPP_STAT_LINK n.val)
      let data := s.spData n.val = true
      let ready := data ∧ s.spManager = true ∧ link s = 0
      let calls := (x s).hello.all fun t => decide (t + ticksNs 100000000 ≤ s.tick)
      ready ∧ calls = true) ∧
    (∃ n : Fin 8, ∃ s : State, 
      let x (t : State) := t.sp n.val
      let link (t : State) := t.get (F.SPP_STAT_LINK n.val)
      let data := s.spData n.val = true
      let ready := data ∧ s.spManager = true ∧ link s = 0
      let calls := (x s).hello.all fun t => decide (t + ticksNs 100000000 ≤ s.tick)
      (¬ ready ∨ calls = false)) ∧
    (∃ c : SpCaps, c.crcOk = false) ∧
    (∃ n : Fin 8, ∃ c : SpCaps, ∃ s : State, 
      let x (t : State) := t.sp n.val
      let link (t : State) := t.get (F.SPP_STAT_LINK n.val)
      let data := s.spData n.val = true
      let ready := data ∧ s.spManager = true ∧ link s = 0
      let v := commonVersion c.versions
      c.crcOk = true ∧ ready ∧ (x s).hello ≠ none ∧ v ≠ 0) ∧
    (∃ n : Fin 8, ∃ c : SpCaps, ∃ s : State, 
      let x (t : State) := t.sp n.val
      let link (t : State) := t.get (F.SPP_STAT_LINK n.val)
      let data := s.spData n.val = true
      let ready := data ∧ s.spManager = true ∧ link s = 0
      let v := commonVersion c.versions
      c.crcOk = true ∧ ready ∧ (x s).hello ≠ none ∧ v = 0 ∧ (x s).noCommon = false) ∧
    (∃ n : Fin 8, ∃ c : SpCaps, ∃ s : State, 
      let x (t : State) := t.sp n.val
      let link (t : State) := t.get (F.SPP_STAT_LINK n.val)
      let data := s.spData n.val = true
      let ready := data ∧ s.spManager = true ∧ link s = 0
      c.crcOk = true ∧ (¬ ready ∨ (x s).hello = none)) ∧
    (∃ n : Fin 8, ∃ s : State, 
      let data := s.spData n.val = true
      (¬ data)) ∧
    (∃ n : Fin 8, ∃ f : SpStatusFrame, ∃ s : State, 
      let data := s.spData n.val = true
      data ∧ f.crcOk = false) ∧
    (∃ n : Fin 8, ∃ f : SpStatusFrame, ∃ s : State, 
      let link (t : State) := t.get (F.SPP_STAT_LINK n.val)
      let data := s.spData n.val = true
      data ∧ f.crcOk = true ∧ link s = 1 ∧ s.spAfter n.val 250 = true) ∧
    (∃ n : Fin 8, ∃ f : SpStatusFrame, ∃ s : State, 
      let link (t : State) := t.get (F.SPP_STAT_LINK n.val)
      let data := s.spData n.val = true
      data ∧ f.crcOk = true ∧ link s = 1 ∧ s.spAfter n.val 250 = false) ∧
    (∃ n : Fin 8, ∃ f : SpStatusFrame, ∃ s : State, 
      let x (t : State) := t.sp n.val
      let link (t : State) := t.get (F.SPP_STAT_LINK n.val)
      let data := s.spData n.val = true
      data ∧ f.crcOk = true ∧ link s = 0 ∧ (x s).select = true ∧ s.spManager = true) ∧
    (∃ n : Fin 8, ∃ s : State, 
      let x (t : State) := t.sp n.val
      let link (t : State) := t.get (F.SPP_STAT_LINK n.val)
      let due := s.spData n.val = true ∧ link s = 1 ∧ (∀ j, (x s).sync = some j → j < s.spInstant n.val)
      let good := (x s).sync = none ∨ (x s).reply = some true
      due ∧ good) ∧
    (∃ n : Fin 8, ∃ s : State, 
      let x (t : State) := t.sp n.val
      let link (t : State) := t.get (F.SPP_STAT_LINK n.val)
      let due := s.spData n.val = true ∧ link s = 1 ∧ (∀ j, (x s).sync = some j → j < s.spInstant n.val)
      let good := (x s).sync = none ∨ (x s).reply = some true
      due ∧ (¬ good) ∧ (x s).missed < 2) ∧
    (∃ n : Fin 8, ∃ s : State, 
      let x (t : State) := t.sp n.val
      let link (t : State) := t.get (F.SPP_STAT_LINK n.val)
      let due := s.spData n.val = true ∧ link s = 1 ∧ (∀ j, (x s).sync = some j → j < s.spInstant n.val)
      let good := (x s).sync = none ∨ (x s).reply = some true
      due ∧ (¬ good) ∧ 2 ≤ (x s).missed) ∧
    (∃ n : Fin 8, ∃ s : State, 
      let x (t : State) := t.sp n.val
      let link (t : State) := t.get (F.SPP_STAT_LINK n.val)
      let due := s.spData n.val = true ∧ link s = 1 ∧ (∀ j, (x s).sync = some j → j < s.spInstant n.val)
      (¬ due)) :=
  ⟨⟨2, d, by decide +kernel⟩,
   ⟨2, perm, by decide +kernel⟩,
   ⟨⟨false, 3, 5, 6⟩, by decide +kernel⟩,
   ⟨2, ⟨true, 7, 5, 6⟩, (hl 0 d), by decide +kernel⟩,
   ⟨2, ⟨true, 0, 5, 6⟩, (hl 0 d), by decide +kernel⟩,
   ⟨2, ⟨true, 7, 5, 6⟩, perm, by decide +kernel⟩,
   ⟨2, perm, by decide +kernel⟩,
   ⟨2, ⟨1, false⟩, d, by decide +kernel⟩,
   ⟨2, ⟨0, true⟩, (ln (sy 9999 1 (some true) d)), by decide +kernel⟩,
   ⟨2, ⟨0, true⟩, (ln d), by decide +kernel⟩,
   ⟨2, ⟨0, true⟩, ((hl 0 d).updSp 2 (fun x => {x with select := true})), by decide +kernel⟩,
   ⟨2, (ln d), by repeat' first | exact all_none (by decide +kernel) | exact all_some rfl (by decide +kernel) | apply And.intro | decide +kernel | constructor⟩,
   ⟨2, (ln (sy 9999 1 none d)), by repeat' first | exact all_none (by decide +kernel) | exact all_some rfl (by decide +kernel) | apply And.intro | decide +kernel | constructor⟩,
   ⟨2, (ln (sy 9999 2 (some false) d)), by repeat' first | exact all_none (by decide +kernel) | exact all_some rfl (by decide +kernel) | apply And.intro | decide +kernel | constructor⟩,
   ⟨2, perm, by repeat' first | exact all_none (by decide +kernel) | exact all_some rfl (by decide +kernel) | apply And.intro | decide +kernel | constructor⟩⟩

end SpemenLinksComeAndGo

namespace SpemenImagesGoOut

def dt (s : State) : State := st2 2 3 (s.set (F.SPP_CTRL_DATA 2) 1)

def ln (s : State) : State := s.set (F.SPP_STAT_LINK 2) 1

def sy (k : Nat) (im : Option (List Byte)) (l : Bool) (s : State) : State := s.updSp 2 fun x => {x with sync := some k, image := im, latched := l}

def vr (v : Nat) (s : State) : State := s.set (F.SPP_STAT_VER 2) v

def at_ (ns : Nat) (s : State) : State := {s with tb := {s.tb with ns := ns}}

def d : State := ln (dt perm)

/-- Every clause of part 2 of Obligations.SpemenLinks can be met. -/
theorem witness_SpemenLinks_2 :
    (∃ n : Fin 8, ∃ k : Nat, ∃ s : State, 
      let x (t : State) := t.sp n.val
      let latch := (x s).sync = some k ∧ s.spData n.val = true ∧ (x s).latched = false ∧ s.spAfter n.val 250 = true
      latch) ∧
    (∃ n : Fin 8, ∃ k : Nat, ∃ s : State, 
      let x (t : State) := t.sp n.val
      let latch := (x s).sync = some k ∧ s.spData n.val = true ∧ (x s).latched = false ∧ s.spAfter n.val 250 = true
      (¬ latch) ∧ (x s).sync = some k) ∧
    (∃ n : Fin 8, ∃ p : List Byte, ∃ s : State, 
      let x (t : State) := t.sp n.val
      let ver := s.get (F.SPP_STAT_VER n.val)
      let go := s.spData n.val = true ∧ s.spAfter n.val 1000 = true
      let due := go ∧ ((x s).timed = true ∨ s.spTimeDue n.val = false)
      ver = 1 ∧ due ∧ (x s).image = some p) ∧
    (∃ n : Fin 8, ∃ s : State, 
      let x (t : State) := t.sp n.val
      let ver := s.get (F.SPP_STAT_VER n.val)
      let go := s.spData n.val = true ∧ s.spAfter n.val 1000 = true
      let due := go ∧ ((x s).timed = true ∨ s.spTimeDue n.val = false)
      (ver ≠ 1 ∨ ¬ due ∨ (x s).image = none)) ∧
    (∃ n : Fin 8, ∃ p : List Byte, ∃ s : State, 
      let x (t : State) := t.sp n.val
      let ver := s.get (F.SPP_STAT_VER n.val)
      let go := s.spData n.val = true ∧ s.spAfter n.val 1000 = true
      let due := go ∧ ((x s).timed = true ∨ s.spTimeDue n.val = false)
      2 ≤ ver ∧ due ∧ (x s).image = some p) ∧
    (∃ n : Fin 8, ∃ s : State, 
      let x (t : State) := t.sp n.val
      let ver := s.get (F.SPP_STAT_VER n.val)
      let go := s.spData n.val = true ∧ s.spAfter n.val 1000 = true
      let due := go ∧ ((x s).timed = true ∨ s.spTimeDue n.val = false)
      (ver < 2 ∨ ¬ due ∨ (x s).image = none)) ∧
    (∃ n : Fin 8, ∃ k : Nat, ∃ s : State, 
      let x (t : State) := t.sp n.val
      let ver := s.get (F.SPP_STAT_VER n.val)
      let go := s.spData n.val = true ∧ s.spAfter n.val 1000 = true
      let last := (x s).sync = some k ∧ ver = 3 ∧ go ∧ (x s).timed = false ∧ (k + 1) % s.spRate n.val = 0
      last) ∧
    (∃ n : Fin 8, ∃ k : Nat, ∃ s : State, 
      let x (t : State) := t.sp n.val
      let ver := s.get (F.SPP_STAT_VER n.val)
      let go := s.spData n.val = true ∧ s.spAfter n.val 1000 = true
      let last := (x s).sync = some k ∧ ver = 3 ∧ go ∧ (x s).timed = false ∧ (k + 1) % s.spRate n.val = 0
      (x s).sync = some k ∧ (¬ last)) :=
  ⟨⟨2, 10000, (at_ 300000 (vr 1 (sy 10000 none false d))), by decide +kernel⟩,
   ⟨2, 9999, (vr 1 (sy 9999 (some [1,2]) true d)), by decide +kernel⟩,
   ⟨2, [0x01#8, 0x02#8], (at_ 2000000 (vr 1 (sy 10000 (some [1,2]) true d))), by decide +kernel⟩,
   ⟨2, d, by decide +kernel⟩,
   ⟨2, [0x01#8, 0x02#8], (at_ 2000000 (vr 2 (sy 10000 (some [1,2]) true d))), by decide +kernel⟩,
   ⟨2, d, by decide +kernel⟩,
   ⟨2, 9999, (vr 3 (sy 9999 (some [1,2]) true d)), by decide +kernel⟩,
   ⟨2, 9999, (vr 1 (sy 9999 (some [1,2]) true d)), by decide +kernel⟩⟩

end SpemenImagesGoOut

end Spemen

namespace Domain

def perm : State := up |>.set (⟨(.DV_PERM_LO, [1]), 31, 0⟩) 0xFFFFFFFF |>.set (⟨(.DV_PERM_HI, [1]), 31, 0⟩) 0xFFFFFFFF

def gls (s : State) (f : GlSt → GlSt) : State := { s with gl := f s.gl }

def dom (role : Nat) (s : State) : State := gls (((((((s.set F.DV_SVC_READY_READY 15).set F.GL_STATE_ROLE role).set F.GL_CTRL_PORTS 3).set F.GL_ID_INDEX 7).set F.GL_ID_DOMAIN 5).set F.GL_STATE_LEADER (if role = 3 then 7 else 9)).set F.GL_STATE_VER 1) fun g => { g with roster := [5, 7, 9], joined := true, leaders := [(0, w32 0x0A000009), (1, w32 0x0A010009)], heard := 5, seen := [(9, 55)] }

def lng (s : State) : State := {s with tick := 10 ^ 11}

def grp (s : State) : State := s.wr (.GL_GROUP_ADDR, []) (w32 0xEF000001)

def hs : List GlHead := [⟨0, true, 9, w32 0x0A000009, 100, 5⟩, ⟨1, true, 5, w32 0x0A000005, 100, 5⟩]

def v2 (s : State) : State := s.set F.GL_STATE_VER 2

namespace DomainRolesChange

def pr (s : State) : State := s.set F.GL_PRIO_PRIO 128

def cl (l : List (Nat × Nat × Nat)) (s : State) : State := gls s fun g => {g with claims := l}

/-- Every clause of part 2 of Obligations.DomainMembership can be met. -/
theorem witness_DomainMembership_2 :
    (∃ o : Origin, ∃ s : State, 
      let role (t : State) := t.glRole
      Reaches s o (.GL_CTRL, []) (w32 0x10001) ∧ s.get F.GL_CTRL_EN = 0 ∧ role s = 0 ∧ s.get F.TB_STATE_FIRST_LOCK = 1) ∧
    (∃ o : Origin, ∃ s : State, Reaches s o (.GL_CTRL, []) (w32 0x10001) ∧ s.get F.TB_STATE_FIRST_LOCK = 0) ∧
    (∃ o : Origin, ∃ s : State, Reaches s o (.GL_CTRL, []) (w32 0x10000) ∧ s.get F.GL_CTRL_EN = 1) ∧
    (∃ m : GlRoster, ∃ s : State, 
      let role (t : State) := t.glRole
      Hears s m.head true ∧ (role s = 1 ∨ (role s = 2 ∧ s.get F.GL_STATE_LEADER = m.head.index))) ∧
    (∃ m : GlRoster, ∃ s : State, 
      let role (t : State) := t.glRole
      Hears s m.head true ∧ role s = 4) ∧
    (∃ m : GlRoster, ∃ s : State, 
      let role (t : State) := t.glRole
      let prio := s.get F.GL_PRIO_PRIO
      Hears s m.head true ∧ role s = 3 ∧ better m.prio m.head.index prio s.glIndex = true) ∧
    (∃ m : GlRoster, ∃ s : State, 
      let role (t : State) := t.glRole
      let prio := s.get F.GL_PRIO_PRIO
      Hears s m.head true ∧ role s = 3 ∧ better m.prio m.head.index prio s.glIndex = false) ∧
    (∃ a : GlAdmit, ∃ s : State, 
      let role (t : State) := t.glRole
      let asked := Hears s a.head false ∧ role s = 1 ∧ s.gl.joined = true ∧ a.head.index = s.get F.GL_STATE_LEADER
      asked ∧ a.result = 0) ∧
    (∃ a : GlAdmit, ∃ s : State, 
      let role (t : State) := t.glRole
      let asked := Hears s a.head false ∧ role s = 1 ∧ s.gl.joined = true ∧ a.head.index = s.get F.GL_STATE_LEADER
      asked ∧ a.result = 2) ∧
    (∃ a : GlAdmit, ∃ s : State, 
      let role (t : State) := t.glRole
      let asked := Hears s a.head false ∧ role s = 1 ∧ s.gl.joined = true ∧ a.head.index = s.get F.GL_STATE_LEADER
      asked ∧ a.result ≠ 0 ∧ a.result ≠ 2) ∧
    (∃ a : GlAdmit, ∃ s : State, 
      let role (t : State) := t.glRole
      Hears s a.head false ∧ (role s ≠ 1 ∨ s.gl.joined = false ∨ a.head.index ≠ s.get F.GL_STATE_LEADER)) ∧
    (∃ c : GlClaim, ∃ s : State, 
      let role (t : State) := t.glRole
      Hears s c.head true ∧ role s = 4) ∧
    (∃ c : GlClaim, ∃ s : State, 
      let role (t : State) := t.glRole
      Hears s c.head true ∧ role s ≠ 4) ∧
    (∃ s : State, 
      let role (t : State) := t.glRole
      let prio := s.get F.GL_PRIO_PRIO
      let recent := s.gl.claims.filter fun x => decide (s.tick ≤ x.1 + ticksS 2)
      let polls := s.glAgent = true ∧ role s = 4 ∧ s.tb.sec % 2 = 0 ∧ s.gl.elected ≠ s.tb.sec
      let entered := recent.any fun x => x.2.2 == s.glIndex
      let beaten := recent.any fun x => better x.2.1 x.2.2 prio s.glIndex
      polls ∧ entered = true ∧ beaten = false) ∧
    (∃ s : State, 
      let role (t : State) := t.glRole
      let prio := s.get F.GL_PRIO_PRIO
      let recent := s.gl.claims.filter fun x => decide (s.tick ≤ x.1 + ticksS 2)
      let polls := s.glAgent = true ∧ role s = 4 ∧ s.tb.sec % 2 = 0 ∧ s.gl.elected ≠ s.tb.sec
      let entered := recent.any fun x => x.2.2 == s.glIndex
      let beaten := recent.any fun x => better x.2.1 x.2.2 prio s.glIndex
      polls ∧ entered = true ∧ beaten = true) ∧
    (∃ s : State, 
      let role (t : State) := t.glRole
      let recent := s.gl.claims.filter fun x => decide (s.tick ≤ x.1 + ticksS 2)
      let polls := s.glAgent = true ∧ role s = 4 ∧ s.tb.sec % 2 = 0 ∧ s.gl.elected ≠ s.tb.sec
      let entered := recent.any fun x => x.2.2 == s.glIndex
      polls ∧ entered = false) ∧
    (∃ s : State, 
      let role (t : State) := t.glRole
      let polls := s.glAgent = true ∧ role s = 4 ∧ s.tb.sec % 2 = 0 ∧ s.gl.elected ≠ s.tb.sec
      (¬ polls)) ∧
    (∃ s : State, 
      let role (t : State) := t.glRole
      s.glAgent = true ∧ role s = 2 ∧ s.gl.heard + ticksS 3 ≤ s.tick) ∧
    (∃ s : State, 
      let role (t : State) := t.glRole
      (role s ≠ 2 ∨ s.tick < s.gl.heard + ticksS 3)) ∧
    (∃ s : State, 
      let role (t : State) := t.glRole
      s.glAgent = true ∧ role s = 1 ∧ s.get F.GL_CTRL_CANDIDATE = 1 ∧ max s.gl.since s.gl.heard + ticksS 3 ≤ s.tick) ∧
    (∃ s : State, 
      let role (t : State) := t.glRole
      (role s ≠ 1 ∨ s.get F.GL_CTRL_CANDIDATE = 0 ∨ s.tick < max s.gl.since s.gl.heard + ticksS 3)) :=
  ⟨⟨(Origin.pf 1), (perm.set F.TB_STATE_FIRST_LOCK 1), by repeat' first | decide +kernel | constructor⟩,
   ⟨(Origin.pf 1), (pr (dom 0 perm)), by repeat' first | decide +kernel | constructor⟩,
   ⟨(Origin.pf 1), (perm.set F.GL_CTRL_EN 1), by repeat' first | decide +kernel | constructor⟩,
   ⟨⟨(⟨0, true, 9, w32 0x0A000009, 100, 5⟩), w32 0x0A0000FF, 2, 3, [3, 9]⟩, (pr (dom 1 perm)), by repeat' first | decide +kernel | constructor⟩,
   ⟨⟨(⟨0, true, 9, w32 0x0A000009, 100, 5⟩), w32 0x0A0000FF, 2, 3, [3, 9]⟩, (pr (dom 4 perm)), by repeat' first | decide +kernel | constructor⟩,
   ⟨⟨(⟨0, true, 9, w32 0x0A000009, 100, 5⟩), w32 0x0A0000FF, 2, 3, [3, 9]⟩, (pr (dom 3 perm)), by repeat' first | decide +kernel | constructor⟩,
   ⟨⟨(⟨0, true, 9, w32 0x0A000009, 100, 5⟩), w32 0x0A0000FF, 2, 200, [3, 9]⟩, (pr (dom 3 perm)), by repeat' first | decide +kernel | constructor⟩,
   ⟨⟨(⟨0, true, 9, w32 0x0A000009, 100, 5⟩), 0⟩, (pr (dom 1 perm)), by repeat' first | decide +kernel | constructor⟩,
   ⟨⟨(⟨0, true, 9, w32 0x0A000009, 100, 5⟩), 2⟩, (pr (dom 1 perm)), by repeat' first | decide +kernel | constructor⟩,
   ⟨⟨(⟨0, true, 9, w32 0x0A000009, 100, 5⟩), 1⟩, (pr (dom 1 perm)), by repeat' first | decide +kernel | constructor⟩,
   ⟨⟨(⟨0, true, 9, w32 0x0A000009, 100, 5⟩), 0⟩, (pr (dom 2 perm)), by repeat' first | decide +kernel | constructor⟩,
   ⟨⟨(⟨0, true, 9, w32 0x0A000009, 100, 5⟩), 3⟩, (pr (dom 4 perm)), by repeat' first | decide +kernel | constructor⟩,
   ⟨⟨(⟨0, true, 9, w32 0x0A000009, 100, 5⟩), 3⟩, (pr (dom 1 perm)), by repeat' first | decide +kernel | constructor⟩,
   ⟨(cl [(100000, 128, 7)] (pr (dom 4 perm))), by decide +kernel⟩,
   ⟨(cl [(100000, 128, 7), (100000, 3, 5)] (pr (dom 4 perm))), by decide +kernel⟩,
   ⟨(pr (dom 4 perm)), by decide +kernel⟩,
   ⟨(pr (dom 0 perm)), by decide +kernel⟩,
   ⟨(lng (pr (dom 2 perm))), by decide +kernel⟩,
   ⟨(pr (dom 0 perm)), by decide +kernel⟩,
   ⟨((lng (pr (dom 1 perm))).set F.GL_CTRL_CANDIDATE 1), by decide +kernel⟩,
   ⟨(pr (dom 0 perm)), by decide +kernel⟩⟩

end DomainRolesChange

namespace DomainMembersAreKept

def odd (s : State) : State := {s with tb := {s.tb with sec := 1001}}

def held (s : State) : State := gls s fun g => {g with addrs := [(18, (5, [w32 0x0A000009]))], alive := [(5, 99990)]}

/-- Every clause of part 3 of Obligations.DomainMembership can be met. -/
theorem witness_DomainMembership_3 :
    (∃ j : GlJoin, ∃ s : State, 
      let role := s.glRole
      let r := s.admitResult j
      Hears s j.head true ∧ role = 3 ∧ r = 0) ∧
    (∃ j : GlJoin, ∃ s : State, 
      let role := s.glRole
      let r := s.admitResult j
      Hears s j.head true ∧ role = 3 ∧ r ≠ 0) ∧
    (∃ j : GlJoin, ∃ s : State, 
      let role := s.glRole
      Hears s j.head true ∧ role ≠ 3) ∧
    (∃ b : GlHeartbeat, ∃ s : State, 
      let role := s.glRole
      Hears s b.head false ∧ role = 3) ∧
    (∃ b : GlHeartbeat, ∃ s : State, 
      let role := s.glRole
      Hears s b.head false ∧ role ≠ 3) ∧
    (∃ i : Fin 4096, ∃ s : State, 
      let role := s.glRole
      let alive (g : GlSt) (i : Nat) := mget (fun _ => 0) g.alive i
      let silent := s.glAgent = true ∧ role = 3 ∧ i.val ≠ s.glIndex ∧ s.gl.roster.contains i.val = true ∧ alive s.gl i.val + ticksS 6 ≤ s.tick
      silent) ∧
    (∃ i : Fin 4096, ∃ s : State, 
      let role := s.glRole
      let alive (g : GlSt) (i : Nat) := mget (fun _ => 0) g.alive i
      let silent := s.glAgent = true ∧ role = 3 ∧ i.val ≠ s.glIndex ∧ s.gl.roster.contains i.val = true ∧ alive s.gl i.val + ticksS 6 ≤ s.tick
      (¬ silent)) ∧
    (∃ s : State, 
      let role := s.glRole
      let slot := (s.tb.sec * 1000000000 + s.tb.ns - 488000 * s.glIndex) / 2000000000
      let beats := s.glAgent = true ∧ role = 2 ∧ s.gl.beat ≠ slot
      beats) ∧
    (∃ s : State, 
      let role := s.glRole
      let slot := (s.tb.sec * 1000000000 + s.tb.ns - 488000 * s.glIndex) / 2000000000
      let beats := s.glAgent = true ∧ role = 2 ∧ s.gl.beat ≠ slot
      (¬ beats)) ∧
    (∃ s : State, 
      let role := s.glRole
      let claims := s.glAgent = true ∧ role = 4 ∧ s.tb.sec % 2 = 1 ∧ s.gl.claimed ≠ s.tb.sec
      claims) ∧
    (∃ s : State, 
      let role := s.glRole
      let claims := s.glAgent = true ∧ role = 4 ∧ s.tb.sec % 2 = 1 ∧ s.gl.claimed ≠ s.tb.sec
      (¬ claims)) ∧
    (∃ s : State, 
      let role := s.glRole
      let rosters := s.glAgent = true ∧ role = 3 ∧ s.gl.rostered ≠ s.tb.sec
      rosters) ∧
    (∃ s : State, 
      let role := s.glRole
      let rosters := s.glAgent = true ∧ role = 3 ∧ s.gl.rostered ≠ s.tb.sec
      (¬ rosters)) :=
  ⟨⟨⟨(⟨0, true, 9, w32 0x0A000009, 100, 5⟩), 3, 5, true⟩, (held (grp (dom 3 perm))), by repeat' first | decide +kernel | constructor⟩,
   ⟨⟨(⟨0, true, 9, w32 0x0A000009, 100, 5⟩), 3, 5, true⟩, (grp (dom 3 perm)), by repeat' first | decide +kernel | constructor⟩,
   ⟨⟨(⟨0, true, 9, w32 0x0A000009, 100, 5⟩), 3, 5, true⟩, (grp (dom 1 perm)), by repeat' first | decide +kernel | constructor⟩,
   ⟨⟨(⟨0, true, 9, w32 0x0A000009, 100, 5⟩), 6, 6⟩, (grp (dom 3 perm)), by repeat' first | decide +kernel | constructor⟩,
   ⟨⟨(⟨0, true, 9, w32 0x0A000009, 100, 5⟩), 6, 6⟩, (grp (dom 1 perm)), by repeat' first | decide +kernel | constructor⟩,
   ⟨5, (lng (dom 3 perm)), by decide +kernel⟩,
   ⟨5, (grp (dom 1 perm)), by decide +kernel⟩,
   ⟨(grp (dom 2 perm)), by decide +kernel⟩,
   ⟨(grp (dom 1 perm)), by decide +kernel⟩,
   ⟨(odd (grp (dom 4 perm))), by decide +kernel⟩,
   ⟨(grp (dom 1 perm)), by decide +kernel⟩,
   ⟨(grp (dom 3 perm)), by decide +kernel⟩,
   ⟨(grp (dom 1 perm)), by decide +kernel⟩⟩

end DomainMembersAreKept

namespace DomainCommitsAreLed

def fl : GlFlight := { cid := 77, group := 1, t := 10^10 , p := 5, members := [5, 7] }

def dt : Nat := perm.dtime

def T1 : Nat := (dt + 5000000000) % 2 ^ 40

def T0 : Nat := (dt + 10) % 2 ^ 40

def f1 : GlFlight := { fl with t := T1 }

def fls : List GlFlight := [f1, {f1 with acks := [7]}, {f1 with sent := some (0, false)}, {f1 with t := T0}, {f1 with t := T0, acks := [7]}]

def post (f c : Nat) (w : List Word) (s : State) : State := ((s.setMb f { posted := some (c, w) }).set (F.DV_MBX_STAT_STATE f) 1).set (sessionFld f) 0x304

def L : State := grp (dom 3 perm)

def base : List State := [L, grp (dom 2 perm)] ++ fls.map fun f => gls L fun g => {g with flight := some f}

def sts : List State := base ++ base.map fun s => post 1 0x401 [] s

def rq (h : GlHead) : List GlRequest := [⟨h, 1, T1, 0, 8⟩, ⟨h, 2, T0, 0, 8⟩]

def cids : List Nat := (sts.map fun s => (s.newCid).1).eraseDups ++ ((sts.map fun s => (((s.askFamily 1).2).newCid).1)).eraseDups

/-- Every clause of Obligations.DomainCommitsAreLed can be met. -/
theorem witness_DomainCommitsAreLed :
    (∃ q : GlRequest, ∃ s : State, 
      let lead := s.glRole = 3
      let flight (t : State) := t.gl.flight
      Hears s q.head false ∧ lead ∧ flight s ≠ none) ∧
    (∃ q : GlRequest, ∃ s : State, 
      let lead := s.glRole = 3
      let flight (t : State) := t.gl.flight
      Hears s q.head false ∧ lead ∧ flight s = none ∧ s.leadOk q.t s.dtime = false) ∧
    (∃ q : GlRequest, ∃ s : State, 
      let lead := s.glRole = 3
      let flight (t : State) := t.gl.flight
      Hears s q.head false ∧ lead ∧ flight s = none ∧ s.leadOk q.t s.dtime = true) ∧
    (∃ q : GlRequest, ∃ s : State, 
      let lead := s.glRole = 3
      Hears s q.head false ∧ (¬ lead)) ∧
    (∃ a : GlAck, ∃ f : GlFlight, ∃ s : State, 
      let lead := s.glRole = 3
      let flight (t : State) := t.gl.flight
      let acks := enroll a.head.index f.acks
      let whole := f.members.all acks.contains = true ∧ (s.glPath : Int) ≤ s.untilMargin f.t
      let takes := Hears s a.head false ∧ lead ∧ flight s = some f ∧ a.cid = f.cid ∧ f.members.contains a.head.index = true ∧ f.sent = none
      takes ∧ whole) ∧
    (∃ a : GlAck, ∃ f : GlFlight, ∃ s : State, 
      let lead := s.glRole = 3
      let flight (t : State) := t.gl.flight
      let acks := enroll a.head.index f.acks
      let whole := f.members.all acks.contains = true ∧ (s.glPath : Int) ≤ s.untilMargin f.t
      let takes := Hears s a.head false ∧ lead ∧ flight s = some f ∧ a.cid = f.cid ∧ f.members.contains a.head.index = true ∧ f.sent = none
      takes ∧ (¬ whole)) ∧
    (∃ a : GlAck, ∃ s : State, 
      let lead := s.glRole = 3
      let flight (t : State) := t.gl.flight
      Hears s a.head false ∧ (¬ lead ∨ flight s = none)) ∧
    (∃ k : GlNak, ∃ f : GlFlight, ∃ s : State, 
      let lead := s.glRole = 3
      let flight (t : State) := t.gl.flight
      Hears s k.head false ∧ lead ∧ flight s = some f ∧ k.cid = f.cid ∧ f.sent = none ∧ f.members.contains k.head.index = true) ∧
    (∃ k : GlNak, ∃ s : State, 
      let lead := s.glRole = 3
      let flight (t : State) := t.gl.flight
      Hears s k.head false ∧ (¬ lead ∨ flight s = none)) ∧
    (∃ f : GlFlight, ∃ s : State, 
      let lead := s.glRole = 3
      let flight (t : State) := t.gl.flight
      ∃ x, ∃ b, s.glAgent = true ∧ lead ∧ flight s = some f ∧ f.sent = some (x, b) ∧ x + ticksNs 200000 ≤ s.tick) ∧
    (∃ s : State, 
      let lead := s.glRole = 3
      let flight (t : State) := t.gl.flight
      (flight s = none ∨ ¬ lead)) ∧
    (∃ f : GlFlight, ∃ s : State, 
      let lead := s.glRole = 3
      let flight (t : State) := t.gl.flight
      s.glAgent = true ∧ lead ∧ flight s = some f ∧ f.sent = none ∧ s.untilMargin f.t ≤ s.glPath) ∧
    (∃ s : State, 
      let lead := s.glRole = 3
      let flight (t : State) := t.gl.flight
      (flight s = none ∨ ¬ lead ∨ (∃ x, flight s = some x ∧ s.glPath < s.untilMargin x.t))) ∧
    (∃ p : Fin 4, ∃ g : Nat, ∃ time : Nat, ∃ words : List Word, ∃ s : State, 
      let called := Asks s p.val 0x401 words ∧ Session s p.val ∧ MayWrite s p 12
      let legal := 1 ≤ g ∧ g ≤ 15 ∧ time < 2 ^ 40
      called ∧ s.glAgent = true ∧ s.glRole = 2 ∧ legal) ∧
    (∃ p : Fin 4, ∃ g : Nat, ∃ time : Nat, ∃ words : List Word, ∃ s : State, 
      let lead := s.glRole = 3
      let flight (t : State) := t.gl.flight
      let called := Asks s p.val 0x401 words ∧ Session s p.val ∧ MayWrite s p 12
      let legal := 1 ≤ g ∧ g ≤ 15 ∧ time < 2 ^ 40
      called ∧ s.glAgent = true ∧ lead ∧ legal ∧ flight s = none ∧ s.leadOk time s.dtime = true) ∧
    (∃ p : Fin 4, ∃ g : Nat, ∃ time : Nat, ∃ words : List Word, ∃ s : State, 
      let lead := s.glRole = 3
      let flight (t : State) := t.gl.flight
      let called := Asks s p.val 0x401 words ∧ Session s p.val ∧ MayWrite s p 12
      let legal := 1 ≤ g ∧ g ≤ 15 ∧ time < 2 ^ 40
      called ∧ s.glAgent = true ∧ lead ∧ legal ∧ flight s ≠ none) ∧
    (∃ p : Fin 4, ∃ g : Nat, ∃ time : Nat, ∃ words : List Word, ∃ s : State, 
      let called := Asks s p.val 0x401 words ∧ Session s p.val ∧ MayWrite s p 12
      let legal := 1 ≤ g ∧ g ≤ 15 ∧ time < 2 ^ 40
      called ∧ (s.glMember = false ∨ ¬ legal)) :=
  ⟨⟨(((hs.flatMap rq : List GlRequest)[0])), (gls L fun g => {g with flight := some f1}), by repeat' first | decide +kernel | constructor⟩,
   ⟨(((hs.flatMap rq : List GlRequest)[1])), L, by repeat' first | decide +kernel | constructor⟩,
   ⟨(((hs.flatMap rq : List GlRequest)[0])), L, by repeat' first | decide +kernel | constructor⟩,
   ⟨(((hs.flatMap rq : List GlRequest)[0])), (grp (dom 2 perm)), by repeat' first | decide +kernel | constructor⟩,
   ⟨⟨(⟨1, true, 5, w32 0x0A000005, 100, 5⟩), 77, true⟩, (((fls ++ cids.flatMap fun c => [1].map fun g => { cid := c, group := g, t := T1, p := dt, members := [5, 7, 9] } : List GlFlight)[1])), (gls L fun g => {g with flight := some ({f1 with acks := [7]})}), by repeat' first | decide +kernel | constructor⟩,
   ⟨⟨(⟨1, true, 5, w32 0x0A000005, 100, 5⟩), 77, true⟩, (((fls ++ cids.flatMap fun c => [1].map fun g => { cid := c, group := g, t := T1, p := dt, members := [5, 7, 9] } : List GlFlight)[0])), (gls L fun g => {g with flight := some f1}), by repeat' first | decide +kernel | constructor⟩,
   ⟨⟨(⟨0, true, 9, w32 0x0A000009, 100, 5⟩), 77, true⟩, L, by repeat' first | decide +kernel | constructor⟩,
   ⟨⟨(⟨1, true, 5, w32 0x0A000005, 100, 5⟩), 77, 3⟩, (((fls ++ cids.flatMap fun c => [1].map fun g => { cid := c, group := g, t := T1, p := dt, members := [5, 7, 9] } : List GlFlight)[0])), (gls L fun g => {g with flight := some f1}), by repeat' first | decide +kernel | constructor⟩,
   ⟨⟨(⟨0, true, 9, w32 0x0A000009, 100, 5⟩), 77, 3⟩, L, by repeat' first | decide +kernel | constructor⟩,
   ⟨(((fls ++ cids.flatMap fun c => [1].map fun g => { cid := c, group := g, t := T1, p := dt, members := [5, 7, 9] } : List GlFlight)[2])), (gls L fun g => {g with flight := some ({f1 with sent := some (0, false)})}), 0, false, by decide +kernel⟩,
   ⟨L, by decide +kernel⟩,
   ⟨(((fls ++ cids.flatMap fun c => [1].map fun g => { cid := c, group := g, t := T1, p := dt, members := [5, 7, 9] } : List GlFlight)[3])), (gls L fun g => {g with flight := some ({f1 with t := T0})}), by decide +kernel⟩,
   ⟨L, by decide +kernel⟩,
   ⟨1, 1, 1, [], (post 1 0x401 [] (grp (dom 2 perm))), by repeat' first | exact newest (by decide +kernel) | exact oldest (by decide +kernel) | decide +kernel | constructor⟩,
   ⟨1, 1, 1005000000500, [], (post 1 0x401 [] L), by repeat' first | exact newest (by decide +kernel) | exact oldest (by decide +kernel) | decide +kernel | constructor⟩,
   ⟨1, 1, 1, [], (post 1 0x401 [] (gls L fun g => {g with flight := some f1})), by repeat' first | exact newest (by decide +kernel) | exact oldest (by decide +kernel) | decide +kernel | constructor⟩,
   ⟨1, 16, 1, [], (post 1 0x401 [] L), by repeat' first | exact newest (by decide +kernel) | exact oldest (by decide +kernel) | decide +kernel | constructor⟩⟩

end DomainCommitsAreLed

namespace DomainCommitsAreFollowed

def ra (s : State) : State := (((((s.set (F.HD_RASTER_FMT 3) 4).set (F.HD_RASTER_RATE 3) 7).set (F.HD_DEST_SDI_EN 3) 1).set F.DV_MODE_MODE 6).set
  F.TB_STATE_STATE 6)

def hd (st f l : Nat) (s : State) : State := (((ra s).set (F.HD_STAT_STATE 3) st).set (F.HD_GROUP_GROUP 3) 2).updHead 3 fun h => {h with frame := f, line := l, everRun := st ≥ 2, startFrame := 50000, stopFrame := 49999, bndNext := 50000, dlNext := 50001}

def dt : Nat := perm.dtime

def T1 : Nat := (dt + 5000000000) % 2 ^ 40

def T0 : Nat := (dt + 2 ^ 40 - 10) % 2 ^ 40

def rp (s : State) : State := s.set (⟨(.DV_PERM_LO, [slotOf (.remote 9)]), 31, 0⟩) 0xFFFFFFFF |>.set (⟨(.DV_PERM_HI, [slotOf (.remote 9)]), 31, 0⟩)
  0xFFFFFFFF

def M0 : State := (hd 2 50000 5 (dom 2 perm)).set (F.GL_MAP_LOCAL 0) 2

def M : State := rp M0

def nine : GlHead := ⟨0, true, 9, w32 0x0A000009, 100, 5⟩

def cs : CommitSet := { head := 3, serial := 4, target := 50000, layers := [] }

def pre (s : State) : State := (s.set (F.CE_CSTAT_STATE 1 1) 4).updHead 3 fun h => {h with prepared := some cs}

def ak : Word := w32 (keyAddr (.NP_MAC_LO, [0]))

/-- Every clause of Obligations.DomainCommitsAreFollowed can be met. -/
theorem witness_DomainCommitsAreFollowed :
    (∃ m : GlPrepare, ∃ s : State, 
      let ns := s.glHeads (s.glLocal m.group)
      let hears := Hears s m.head false ∧ s.glRole = 2 ∧ m.head.index = s.get F.GL_STATE_LEADER
      hears ∧ ns = []) ∧
    (∃ m : GlPrepare, ∃ n : Nat, ∃ rest : List Nat, ∃ r : Nat, ∃ s : State, 
      let ns := s.glHeads (s.glLocal m.group)
      let hears := Hears s m.head false ∧ s.glRole = 2 ∧ m.head.index = s.get F.GL_STATE_LEADER
      hears ∧ ns = n :: rest ∧ s.glJudge m ns = r ∧ r ≠ 0) ∧
    (∃ m : GlPrepare, ∃ n : Nat, ∃ rest : List Nat, ∃ s : State, 
      let ns := s.glHeads (s.glLocal m.group)
      let hears := Hears s m.head false ∧ s.glRole = 2 ∧ m.head.index = s.get F.GL_STATE_LEADER
      let o := remoteOrg m.requester
      hears ∧ ns = n :: rest ∧ s.glJudge m ns = 0 ∧ s.served = true ∧ s.rights o 14 = 3 ∧ ((∀ i ∈ ns, s.checking i = false))) ∧
    (∃ m : GlPrepare, ∃ n : Nat, ∃ rest : List Nat, ∃ s : State, 
      let ns := s.glHeads (s.glLocal m.group)
      let hears := Hears s m.head false ∧ s.glRole = 2 ∧ m.head.index = s.get F.GL_STATE_LEADER
      let o := remoteOrg m.requester
      hears ∧ ns = n :: rest ∧ s.glJudge m ns = 0 ∧ s.served = true ∧ (s.rights o 14 ≠ 3 ∨ s.checking n = true)) ∧
    (∃ m : GlPrepare, ∃ s : State, Hears s m.head false ∧ (s.glRole ≠ 2 ∨ m.head.index ≠ s.get F.GL_STATE_LEADER)) ∧
    (∃ h : GlShare, ∃ s : State, 
      let shares (t : State) := t.gl.shares
      let due := (256000 * s.glIndex : Int) ≤ domainDiff s.dtime h.p
      let one := shares s = [h]
      let mine := s.glMember = true ∧ s.glRole = 2 ∧ s.get F.GL_STATE_VER = 1
      one ∧ mine ∧ due ∧ h.set = none ∧ h.nak = none) ∧
    (∃ h : GlShare, ∃ r : Nat, ∃ s : State, 
      let shares (t : State) := t.gl.shares
      let due := (256000 * s.glIndex : Int) ≤ domainDiff s.dtime h.p
      let one := shares s = [h]
      let mine := s.glMember = true ∧ s.glRole = 2 ∧ s.get F.GL_STATE_VER = 1
      one ∧ mine ∧ due ∧ h.set = none ∧ h.nak = some r) ∧
    (∃ h : GlShare, ∃ n : Nat, ∃ serial : Nat, ∃ s : State, 
      let shares (t : State) := t.gl.shares
      let due := (256000 * s.glIndex : Int) ≤ domainDiff s.dtime h.p
      let prepared := ((s.head n).prepared.any fun c => c.serial == serial) = true
      let one := shares s = [h]
      let mine := s.glMember = true ∧ s.glRole = 2 ∧ s.get F.GL_STATE_VER = 1
      let waits := h.set = some (n, serial) ∧ h.nak = none ∧ h.released = false
      one ∧ mine ∧ due ∧ waits ∧ h.answered = false ∧ prepared) ∧
    (∃ h : GlShare, ∃ n : Nat, ∃ serial : Nat, ∃ s : State, 
      let shares (t : State) := t.gl.shares
      let due := (256000 * s.glIndex : Int) ≤ domainDiff s.dtime h.p
      let one := shares s = [h]
      let mine := s.glMember = true ∧ s.glRole = 2 ∧ s.get F.GL_STATE_VER = 1
      let waits := h.set = some (n, serial) ∧ h.nak = none ∧ h.released = false
      one ∧ mine ∧ due ∧ waits ∧ h.answered = false ∧ s.holdsSet n serial = false) ∧
    (∃ h : GlShare, ∃ s : State, 
      let shares (t : State) := t.gl.shares
      let due := (256000 * s.glIndex : Int) ≤ domainDiff s.dtime h.p
      let one := shares s = [h]
      one ∧ (¬ due) ∧ h.nak = none) ∧
    (∃ x : GlCommit, ∃ h : GlShare, ∃ n : Nat, ∃ serial : Nat, ∃ s : State, 
      let shares (t : State) := t.gl.shares
      let prepared := ((s.head n).prepared.any fun c => c.serial == serial) = true
      let one := shares s = [h]
      let waits := h.set = some (n, serial) ∧ h.nak = none ∧ h.released = false
      let acked := one ∧ waits ∧ h.answered = true
      Hears s x.head false ∧ acked ∧ h.cid = x.cid ∧ prepared ∧ s.untilMargin x.t < 0) ∧
    (∃ x : GlCommit, ∃ w : GlWrite, ∃ h : GlShare, ∃ n : Nat, ∃ serial : Nat, ∃ s : State, 
      let shares (t : State) := t.gl.shares
      let one := shares s = [h]
      let waits := h.set = some (n, serial) ∧ h.nak = none ∧ h.released = false
      let acked := one ∧ waits ∧ h.answered = true
      let reach (key : Key) (w : Word) := Reaches s (remoteOrg h.requester) key w
      let may := ∀ w, reach (.CE_RELEASE_AT_LO, [n / 2, n % 2]) w ∧ reach (.CE_RELEASE_AT_HI, [n / 2, n % 2]) w ∧ reach (.CE_RELEASE, [n / 2]) w
      Hears s x.head false ∧ acked ∧ h.cid = x.cid ∧ 0 ≤ s.untilMargin x.t ∧ n < 16 ∧ may) ∧
    (∃ x : GlCommit, ∃ h : GlShare, ∃ s : State, 
      let shares (t : State) := t.gl.shares
      let one := shares s = [h]
      Hears s x.head false ∧ one ∧ h.cid ≠ x.cid) ∧
    (∃ b : GlAbort, ∃ h : GlShare, ∃ n : Nat, ∃ serial : Nat, ∃ s : State, 
      let shares (t : State) := t.gl.shares
      let prepared := ((s.head n).prepared.any fun c => c.serial == serial) = true
      let one := shares s = [h]
      let waits := h.set = some (n, serial) ∧ h.nak = none ∧ h.released = false
      Hears s b.head false ∧ one ∧ waits ∧ h.cid = b.cid ∧ prepared) ∧
    (∃ b : GlAbort, ∃ h : GlShare, ∃ s : State, 
      let shares (t : State) := t.gl.shares
      let one := shares s = [h]
      Hears s b.head false ∧ one ∧ h.cid ≠ b.cid) ∧
    (∃ h : GlShare, ∃ n : Nat, ∃ serial : Nat, ∃ s : State, 
      let shares (t : State) := t.gl.shares
      let prepared := ((s.head n).prepared.any fun c => c.serial == serial) = true
      let one := shares s = [h]
      let waits := h.set = some (n, serial) ∧ h.nak = none ∧ h.released = false
      s.glAgent = true ∧ one ∧ waits ∧ prepared ∧ s.untilMargin h.t < 0) ∧
    (∃ h : GlShare, ∃ s : State, 
      let shares (t : State) := t.gl.shares
      let one := shares s = [h]
      one ∧ 0 ≤ s.untilMargin h.t) ∧
    (∃ x : GlCommit, ∃ w : GlWrite, ∃ k : Key, ∃ v : Word, ∃ a : Word, ∃ s : State, 
      let plainWrite := decodeAddr a.toNat = .reg k ∧ special.contains k.1 = false ∧ slowCode k = none ∧ (keyHdr k).headD 0 ≠ 12 ∧ Reaches s (remoteOrg w.head.index) k v ∧ Unlocked s k ∧ (∀ x ∈ (regDef k.1).fields, x.acc ≠ .w1) ∧ fieldsApart (regDef k.1).fields = true ∧ isMw (regDef k.1) = false ∧ ∀ x, s.valueRule k x = .ok
      Hears s w.head false ∧ (s.glRole = 2 ∨ s.glRole = 3) ∧ s.get F.GL_STATE_VER = 2 ∧ w.pairs = [(a, v)] ∧ plainWrite) ∧
    (∃ w : GlWrite, ∃ s : State, Hears s w.head false ∧ s.get F.GL_STATE_VER ≠ 2) :=
  ⟨⟨⟨nine, 77, 2, 2, T1, dt, 9, 8⟩, M, by repeat' first | decide +kernel | constructor⟩,
   ⟨⟨nine, 77, 1, 2, T1, dt, 9, 8⟩, 3, [], 3, (M.set F.TB_STATE_STATE 3), by repeat' first | decide +kernel | constructor⟩,
   ⟨⟨nine, 77, 1, 2, T1, dt, 9, 8⟩, 3, [], M, by repeat' first | decide +kernel | constructor⟩,
   ⟨⟨nine, 77, 1, 2, T1, dt, 9, 8⟩, 3, [], (M.set (F.CE_CSTAT_STATE 1 1) 1), by repeat' first | decide +kernel | constructor⟩,
   ⟨⟨hs.getD 1 nine, 77, 1, 2, T1, dt, 9, 8⟩, M, by repeat' first | decide +kernel | constructor⟩,
   ⟨⟨77, T1, (dt + 2^40 - 10^9) % 2^40, 9, none, none, false, false⟩, (gls M fun g => {g with shares := [(⟨77, T1, (dt + 2^40 - 10^9) % 2^40, 9, none, none, false, false⟩)]}), by decide +kernel⟩,
   ⟨⟨77, T1, (dt + 2^40 - 10^9) % 2^40, 9, some 3, none, false, false⟩, 3, (gls M fun g => {g with shares := [(⟨77, T1, (dt + 2^40 - 10^9) % 2^40, 9, some 3, none, false, false⟩)]}), by decide +kernel⟩,
   ⟨⟨77, T1, (dt + 2^40 - 10^9) % 2^40, 9, none, some (3, 4), false, false⟩, 3, 4, (gls (pre M) fun g => {g with shares := [(⟨77, T1, (dt + 2^40 - 10^9) % 2^40, 9, none, some (3, 4), false, false⟩)]}), by decide +kernel⟩,
   ⟨⟨77, T1, (dt + 2^40 - 10^9) % 2^40, 9, none, some (3, 4), false, false⟩, 3, 4, (gls M fun g => {g with shares := [(⟨77, T1, (dt + 2^40 - 10^9) % 2^40, 9, none, some (3, 4), false, false⟩)]}), by decide +kernel⟩,
   ⟨⟨78, T1, (dt + 10^9) % 2^40, 9, none, some (3, 4), false, false⟩, (gls M fun g => {g with shares := [(⟨78, T1, (dt + 10^9) % 2^40, 9, none, some (3, 4), false, false⟩)]}), by decide +kernel⟩,
   ⟨⟨nine, 77, T0⟩, ⟨77, T1, (dt + 2^40 - 10^9) % 2^40, 9, none, some (3, 4), true, false⟩, 3, 4, (gls (pre M) fun g => {g with shares := [(⟨77, T1, (dt + 2^40 - 10^9) % 2^40, 9, none, some (3, 4), true, false⟩)]}), by repeat' first | decide +kernel | constructor⟩,
   ⟨⟨nine, 77, T1⟩, ⟨nine, [(ak, w32 0x1234)]⟩, ⟨77, T1, (dt + 2^40 - 10^9) % 2^40, 9, none, some (3, 4), true, false⟩, 3, 4, (gls M fun g => {g with shares := [(⟨77, T1, (dt + 2^40 - 10^9) % 2^40, 9, none, some (3, 4), true, false⟩)]}), by repeat' first | exact fun w => ⟨reaches w (by decide +kernel) (by decide +kernel) (fun _ => nofun), reaches w (by decide +kernel) (by decide +kernel) (fun _ => nofun), reaches w (by decide +kernel) (by decide +kernel) (fun _ => nofun)⟩ | apply And.intro | decide +kernel | constructor⟩,
   ⟨⟨nine, 77, T1⟩, ⟨78, T1, (dt + 10^9) % 2^40, 9, none, some (3, 4), false, false⟩, (gls M fun g => {g with shares := [(⟨78, T1, (dt + 10^9) % 2^40, 9, none, some (3, 4), false, false⟩)]}), by repeat' first | decide +kernel | constructor⟩,
   ⟨⟨nine, 77, 3, 9⟩, ⟨77, T1, (dt + 2^40 - 10^9) % 2^40, 9, none, some (3, 4), false, false⟩, 3, 4, (gls (pre M) fun g => {g with shares := [(⟨77, T1, (dt + 2^40 - 10^9) % 2^40, 9, none, some (3, 4), false, false⟩)]}), by repeat' first | decide +kernel | constructor⟩,
   ⟨⟨nine, 77, 3, 9⟩, ⟨78, T1, (dt + 10^9) % 2^40, 9, none, some (3, 4), false, false⟩, (gls M fun g => {g with shares := [(⟨78, T1, (dt + 10^9) % 2^40, 9, none, some (3, 4), false, false⟩)]}), by repeat' first | decide +kernel | constructor⟩,
   ⟨⟨77, T0, (dt + 2^40 - 10^9) % 2^40, 9, none, some (3, 4), true, false⟩, 3, 4, (gls (pre M) fun g => {g with shares := [(⟨77, T0, (dt + 2^40 - 10^9) % 2^40, 9, none, some (3, 4), true, false⟩)]}), by decide +kernel⟩,
   ⟨⟨77, T1, (dt + 2^40 - 10^9) % 2^40, 9, none, none, false, false⟩, (gls M fun g => {g with shares := [(⟨77, T1, (dt + 2^40 - 10^9) % 2^40, 9, none, none, false, false⟩)]}), by decide +kernel⟩,
   ⟨⟨nine, 77, T1⟩, ⟨nine, [(ak, w32 0x1234)]⟩, ((Reg.NP_MAC_LO, [0])), (0x00001234#32), (0x00500048#32), (v2 M), by repeat' first | exact fun _ => rfl | apply And.intro | decide +kernel | constructor⟩,
   ⟨⟨nine, [(ak, w32 0x1234)]⟩, M, by repeat' first | decide +kernel | constructor⟩⟩

end DomainCommitsAreFollowed

/-- The head of a message of device i with sequence number q. -/
def from_ (i q : Nat) : GlHead := ⟨0, true, i, w32 0x0A000009, q, 5⟩

/-- Every clause of part 1 of Obligations.DomainMembership can be met. -/
theorem witness_DomainMembership_1 :
    (∃ c h f, ∃ s : State, glHeadOf c = some (h, f) ∧ ¬ s.listens h) ∧
    (∃ c h f, ∃ s : State, glHeadOf c = some (h, f) ∧ s.listens h ∧ ¬ s.wellSent h f) ∧
    (∃ c h f, ∃ s : State, glHeadOf c = some (h, f) ∧ s.listens h ∧ s.wellSent h f ∧ s.gl.seen.contains (h.index, h.seq) = true) ∧
    (∃ m : GlReport, ∃ s : State, Hears s m.head false) :=
  ⟨⟨.glHeartbeat ⟨from_ 9 100, 6, 6⟩, from_ 9 100, false, up, rfl, by unfold State.listens; decide +kernel⟩,
   ⟨.glHeartbeat ⟨from_ 8 100, 6, 6⟩, from_ 8 100, false, dom 2 up, rfl, by unfold State.listens; decide +kernel, by unfold State.wellSent; decide +kernel⟩,
   ⟨.glHeartbeat ⟨from_ 9 55, 6, 6⟩, from_ 9 55, false, dom 2 up, rfl, by unfold State.listens; decide +kernel, by unfold State.wellSent; decide +kernel, by decide +kernel⟩,
   ⟨⟨from_ 9 100, 5, 1⟩, dom 2 up, by repeat' first | decide +kernel | constructor⟩⟩

end Domain

namespace Faults

def lat (l : List Nat) (s : State) : State := l.foldl (fun s i => s.set ⟨(.FC_LAT, [i / 32]), i % 32, i % 32⟩ 1) s

def nowR (l : List (Nat × Org × Bool)) (s : State) : State := { s with fc := { s.fc with now := (s.tick, l) } }

def hl (s : State) : State := s.set F.CL_STAT_HEALTHY 1

/-- Every clause of part 1 of Obligations.FaultsAndWindows can be met. -/
theorem witness_FaultsAndWindows_1 :
    (∃ o : Origin, ∃ id : Fin 512, ∃ s : State, 
      let may (k : Key) := ∀ w, Reaches s o k w
      let stays (i : Nat) : Bool := match srcClass i with | none | some 0 => true | some c => decide (c = 3) || s.causeLive i || s.raisedNow i
      let rejected (i : Nat) : Bool := s.latched i && stays i && (srcClass i).any (· != 0)
      may (.FC_CLEAR, []) ∧ (s.latched id = false ∨ stays id = true ∧ rejected id = false)) ∧
    (∃ o : Origin, ∃ id : Fin 512, ∃ s : State, 
      let may (k : Key) := ∀ w, Reaches s o k w
      let stays (i : Nat) : Bool := match srcClass i with | none | some 0 => true | some c => decide (c = 3) || s.causeLive i || s.raisedNow i
      may (.FC_CLEAR, []) ∧ s.latched id = true ∧ stays id = false) ∧
    (∃ o : Origin, ∃ id : Fin 512, ∃ s : State, 
      let may (k : Key) := ∀ w, Reaches s o k w
      let stays (i : Nat) : Bool := match srcClass i with | none | some 0 => true | some c => decide (c = 3) || s.causeLive i || s.raisedNow i
      let rejected (i : Nat) : Bool := s.latched i && stays i && (srcClass i).any (· != 0)
      may (.FC_CLEAR, []) ∧ rejected id = true) ∧
    (∃ o : Origin, ∃ s : State, 
      let may (k : Key) := ∀ w, Reaches s o k w
      may (.FC_CLEAR, [])) ∧
    (∃ o : Origin, ∃ s : State, 
      let may (k : Key) := ∀ w, Reaches s o k w
      let new := if s.fc.now.1 = s.tick then s.fc.now.2.filter (·.2.2) else []
      may (.FC_CTRL, []) ∧ new = []) ∧
    (∃ o : Origin, ∃ s : State, 
      let may (k : Key) := ∀ w, Reaches s o k w
      let new := if s.fc.now.1 = s.tick then s.fc.now.2.filter (·.2.2) else []
      ∃ i, ∃ g, ∃ c, may (.FC_CTRL, []) ∧ new = [(i, g, true)] ∧ srcClass i = some c ∧ i < 512) :=
  ⟨⟨(Origin.pf 0), 1, up, by repeat' first | exact fun w => reaches w (by decide +kernel) (by decide +kernel) (fun _ => nofun) | apply And.intro | decide +kernel | constructor⟩,
   ⟨(Origin.pf 0), 64, (lat [4, 1, 2, 0x40, 0x1F2, 0x160, 0x1F8] up), by repeat' first | exact fun w => reaches w (by decide +kernel) (by decide +kernel) (fun _ => nofun) | apply And.intro | decide +kernel | constructor⟩,
   ⟨(Origin.pf 0), 1, (lat [4, 1, 2, 0x40, 0x1F2, 0x160, 0x1F8] up), by repeat' first | exact fun w => reaches w (by decide +kernel) (by decide +kernel) (fun _ => nofun) | apply And.intro | decide +kernel | constructor⟩,
   ⟨(Origin.pf 0), up, by repeat' first | exact fun w => reaches w (by decide +kernel) (by decide +kernel) (fun _ => nofun) | apply And.intro | decide +kernel | constructor⟩,
   ⟨(Origin.pf 0), up, by repeat' first | exact fun w => reaches w (by decide +kernel) (by decide +kernel) (fun _ => nofun) | apply And.intro | decide +kernel | constructor⟩,
   ⟨(Origin.pf 0), (nowR [(4, ⟨1, 2⟩, true)] (lat [4, 0x40] up)), 4, { cls := 1, det := 2 }, 0, by repeat' first | exact fun w => reaches w (by decide +kernel) (by decide +kernel) (fun _ => nofun) | apply And.intro | decide +kernel | constructor⟩⟩

namespace WindowsClose

def wn (l : List Window) (s : State) : State := { s with fc := { s.fc with windows := l } }

/-- Every clause of part 2 of Obligations.FaultsAndWindows can be met. -/
theorem witness_FaultsAndWindows_2 :
    (∃ r : Reaction, ∃ u : Nat, ∃ s : State, 
      let found := s.fc.windows.find? fun x => x.react == r && x.unit == u
      found = none) ∧
    (∃ r : Reaction, ∃ u : Nat, ∃ w : Window, ∃ s : State, 
      let found := s.fc.windows.find? fun x => x.react == r && x.unit == u
      found = some w ∧ (s.tick < w.since + 25600 ∨ s.blockReady w = false) ∧ s.tick < w.since + ticksS 1) ∧
    (∃ r : Reaction, ∃ u : Nat, ∃ w : Window, ∃ s : State, 
      let found := s.fc.windows.find? fun x => x.react == r && x.unit == u
      ∃ i, ∃ v, found = some w ∧ w.since + 25600 ≤ s.tick ∧ s.blockReady w = true ∧ w.held = [(i, v)]) ∧
    (∃ r : Reaction, ∃ u : Nat, ∃ w : Window, ∃ s : State, 
      let found := s.fc.windows.find? fun x => x.react == r && x.unit == u
      found = some w ∧ w.since + ticksS 1 ≤ s.tick) :=
  ⟨⟨Reaction.svc, 0, up, by decide +kernel⟩,
   ⟨Reaction.svc, 0, ⟨.svc, 0, 0, []⟩, (wn [(⟨.svc, 0, 0, []⟩)] up), by decide +kernel⟩,
   ⟨Reaction.svc, 0, ⟨.svc, 0, 0, [(0x040, 3)]⟩, (wn [(⟨.svc, 0, 0, [(0x040, 3)]⟩)] (up.set F.DV_SVC_READY_READY 15)), 64, 3, by decide +kernel⟩,
   ⟨Reaction.svc, 0, ⟨.svc, 0, 0, []⟩, (wn [(⟨.svc, 0, 0, []⟩)] {up with tick := 10 ^ 9}), by decide +kernel⟩⟩

end WindowsClose

namespace CellarKeepsItsRecords

def ek : Key := (.CL_LG_ERASE, [])

def E1 : Entry := { seq := 5, kind := 1 }

def ql (l : List Rec) (s : State) : State := hl { s with cl := { s.cl with queue := l, failed := true, store := [(2, some (.time 9 9 9 true, 4))] } }

def sq (v : Nat) (l : List (Org × Nat × Nat)) (s : State) : State := { s with slowQ := [(3, (orgOf (.pf 0), keyAddr ek, v) :: l)] }

def ent (s : State) : State := hl { s with sl := { s.sl with next := 7, mirrored := 5, ring := [(5, E1), (6, E1)] } }

def lg (s : State) : State := (s.set (F.CL_LG_STAT_VALID 2) 1).set (F.CL_LG_STAT_VALID 3) 1

/-- Every clause of part 2 of Obligations.LogAndCellar can be met. -/
theorem witness_LogAndCellar_2 :
    (∃ s : State, 
      let idle := s.sl.holding = false ∧ s.sl.resetSeq = none ∧ s.cl.queue = [] ∧ s.fc.clrWait = false ∧ s.dv.heldWrites = false
      s.healthy = true ∧ idle ∧ s.sl.mirrored < s.sl.next) ∧
    (∃ s : State, (s.healthy = false ∨ s.sl.next ≤ s.sl.mirrored ∨ s.cl.queue ≠ [])) ∧
    (∃ s : State, (s.cl.queue = [] ∨ s.fc.clrWait = true)) ∧
    (∃ r : Rec, ∃ q : List Rec, ∃ s : State, 
      let writes := s.cl.queue = r :: q ∧ s.fc.clrWait = false
      writes) ∧
    (∃ r : Rec, ∃ q : List Rec, ∃ s : State, 
      let writes := s.cl.queue = r :: q ∧ s.fc.clrWait = false
      writes ∧ ((∀ b f x, r.body ≠ .control b f x))) ∧
    (∃ o : Origin, ∃ v : Word, ∃ s : State, 
      let slow (t : State) := mget slowD t.slowQ 3
      Reaches s o (.CL_LG_ERASE, []) v ∧ (slow s).length < 16) ∧
    (∃ v : Word, ∃ g : Org, ∃ a : Nat, ∃ rest : List (Org × Nat × Nat), ∃ s : State, 
      let slow (t : State) := mget slowD t.slowQ 3
      slow s = (g, a, v.toNat) :: rest ∧ decodeAddr a = .reg (.CL_LG_ERASE, []) ∧ mget slowHoldD s.slowHold 3 = [] ∧ s.dv.heldWrites = false ∧
      s.dv.railsOff = false) :=
  ⟨⟨(ent up), by decide +kernel⟩,
   ⟨up, by decide +kernel⟩,
   ⟨up, by decide +kernel⟩,
   ⟨{ region := 2, body := .time 1 2 3 true }, [], (ql [({ region := 2, body := .time 1 2 3 true })] up), by decide +kernel⟩,
   ⟨{ region := 2, body := .time 1 2 3 true }, [], (ql [({ region := 2, body := .time 1 2 3 true })] up), by repeat' first | (intro b f x h; cases h; done) | apply And.intro | decide +kernel | constructor⟩,
   ⟨(Origin.pf 0), (0x00008005#32), up, by repeat' first | decide +kernel | constructor⟩,
   ⟨(0x00008005#32), { cls := 1, det := 0 }, 196680, [], (sq 0x8005 [] (lg up)), by decide +kernel⟩⟩

end CellarKeepsItsRecords

namespace SupplyLossSealsTheLog

def wt (t : Option Nat) (b : Bool) (s : State) : State := { s with dv := { s.dv with warnTick := t, warnLow := b } }

def late (s : State) : State := { s with tick := 10 ^ 8 }

/-- Every clause of part 3 of Obligations.ShutdownAndPowerLoss can be met. -/
theorem witness_ShutdownAndPowerLoss_3 :
    (∃ s : State, s.dv.step < 3) ∧
    (∃ s : State, 3 ≤ s.dv.step ∧ s.dv.warnTick = none) ∧
    (∃ s : State, 3 ≤ s.dv.step ∧ s.dv.warnTick ≠ none) ∧
    (∃ s : State, s.dv.warnLow = false) ∧
    (∃ s : State, s.dv.warnLow = true) ∧
    (∃ s : State, 
      let due := ∃ t0, s.dv.warnTick = some t0 ∧ t0 + 3980000 ≤ s.tick
      3 ≤ s.dv.step ∧ s.dv.heldWrites = false ∧ due) ∧
    (∃ s : State, 
      let due := ∃ t0, s.dv.warnTick = some t0 ∧ t0 + 3980000 ≤ s.tick
      (s.dv.step < 3 ∨ s.dv.heldWrites = true ∨ ¬ due)) :=
  ⟨⟨{ up with dv := { up.dv with step := 2 } }, by decide +kernel⟩,
   ⟨up, by decide +kernel⟩,
   ⟨(wt (some 0) true up), by decide +kernel⟩,
   ⟨up, by decide +kernel⟩,
   ⟨(wt (some 0) true up), by decide +kernel⟩,
   ⟨(late (wt (some 0) true up)), by decide +kernel⟩,
   ⟨up, by decide +kernel⟩⟩

end SupplyLossSealsTheLog

end Faults

namespace Power

def ag (s : State) : State := s.set F.DV_SVC_READY_READY 15

def perm : State := ag up |>.set (⟨(.DV_PERM_LO, [31]), 31, 0⟩) 0xFFFFFFFF |>.set (⟨(.DV_PERM_HI, [31]), 31, 0⟩) 0xFFFFFFFF

def wt (n : Nat) (s : State) : State := { s with ps := { s.ps with watts := [(0, n * 100000, 1), (1, 100000, 2)] } }

def ps (f : PsSt → PsSt) (s : State) : State := { s with ps := f s.ps }

def inp (s : State) : State := (s.set F.PS_LIMITS_INPUT 5).set F.SP_LOOP_MEAN 100

def lmt (d : Nat) (s : State) : State := s.set F.PS_LIMITS_DEVICE d

def prt (s : State) : State := s.set (F.NP_CTRL_EN 2) 1

def hdr (s : State) : State := (s.set (F.HD_STAT_STATE 3) 2).set (F.HD_CTRL_RUN 3) 1

def cap (s : State) : State := ps (fun p => {p with capped := true}) s

/-- Every clause of part 1 of Obligations.LoadIsShedAndRestored can be met. -/
theorem witness_LoadIsShedAndRestored_1 :
    (∃ s : State, 
      let n := (s.tb.sec * 1000000000 + s.tb.ns) / 100000000
      let ends := s.dv.railsOff = false ∧ s.ps.period ≠ n
      (¬ ends)) ∧
    (∃ s : State, 
      let n := (s.tb.sec * 1000000000 + s.tb.ns) / 100000000
      let ends := s.dv.railsOff = false ∧ s.ps.period ≠ n
      ends) ∧
    (∃ s : State, 
      let n := (s.tb.sec * 1000000000 + s.tb.ns) / 100000000
      let ends := s.dv.railsOff = false ∧ s.ps.period ≠ n
      let due := ends ∧ s.psAgent = true
      due) ∧
    (∃ s : State, 
      let n := (s.tb.sec * 1000000000 + s.tb.ns) / 100000000
      let ends := s.dv.railsOff = false ∧ s.ps.period ≠ n
      let due := ends ∧ s.psAgent = true
      let dev := min s.devicePower 4095
      let inp := min (s.devicePower + s.get F.SP_LOOP_MEAN) 4095
      let hot := s.get F.PS_LIMITS_DEVICE < dev ∨ ∃ i, i < 16 ∧ s.warm i = true
      let most := s.get F.PS_LIMITS_INPUT ≠ 0 ∧ s.get F.PS_LIMITS_INPUT < inp
      due ∧ (hot ∨ most) ∧ s.ps.limited = false) ∧
    (∃ s : State, 
      let n := (s.tb.sec * 1000000000 + s.tb.ns) / 100000000
      let ends := s.dv.railsOff = false ∧ s.ps.period ≠ n
      let due := ends ∧ s.psAgent = true
      let dev := min s.devicePower 4095
      let hot := s.get F.PS_LIMITS_DEVICE < dev ∨ ∃ i, i < 16 ∧ s.warm i = true
      due ∧ hot ∧ s.ps.capped = false) ∧
    (∃ s : State, 
      let n := (s.tb.sec * 1000000000 + s.tb.ns) / 100000000
      let ends := s.dv.railsOff = false ∧ s.ps.period ≠ n
      let due := ends ∧ s.psAgent = true
      let dev := min s.devicePower 4095
      let hot := s.get F.PS_LIMITS_DEVICE < dev ∨ ∃ i, i < 16 ∧ s.warm i = true
      ∃ x, due ∧ hot ∧ s.ps.capped = true ∧ highest s.portSpare 4 = some x) ∧
    (∃ s : State, 
      let n := (s.tb.sec * 1000000000 + s.tb.ns) / 100000000
      let ends := s.dv.railsOff = false ∧ s.ps.period ≠ n
      let due := ends ∧ s.psAgent = true
      let dev := min s.devicePower 4095
      let inp := min (s.devicePower + s.get F.SP_LOOP_MEAN) 4095
      let hot := s.get F.PS_LIMITS_DEVICE < dev ∨ ∃ i, i < 16 ∧ s.warm i = true
      let most := s.get F.PS_LIMITS_INPUT ≠ 0 ∧ s.get F.PS_LIMITS_INPUT < inp
      let lower := most ∧ s.stepThree < s.loopMaxAhead ∧ s.ps.loopMax = none
      due ∧ (¬ hot ∨ s.ps.capped = true ∧ highest s.portSpare 4 = none) ∧ lower) ∧
    (∃ s : State, 
      let n := (s.tb.sec * 1000000000 + s.tb.ns) / 100000000
      let ends := s.dv.railsOff = false ∧ s.ps.period ≠ n
      let due := ends ∧ s.psAgent = true
      let dev := min s.devicePower 4095
      let inp := min (s.devicePower + s.get F.SP_LOOP_MEAN) 4095
      let hot := s.get F.PS_LIMITS_DEVICE < dev ∨ ∃ i, i < 16 ∧ s.warm i = true
      let most := s.get F.PS_LIMITS_INPUT ≠ 0 ∧ s.get F.PS_LIMITS_INPUT < inp
      ∃ x, due ∧ hot ∧ s.ps.capped = true ∧ highest s.portSpare 4 = none ∧ (¬ most) ∧ highest s.headSpare 16 = some x) ∧
    (∃ s : State, 
      let n := (s.tb.sec * 1000000000 + s.tb.ns) / 100000000
      let ends := s.dv.railsOff = false ∧ s.ps.period ≠ n
      let due := ends ∧ s.psAgent = true
      let dev := min s.devicePower 4095
      let inp := min (s.devicePower + s.get F.SP_LOOP_MEAN) 4095
      let hot := s.get F.PS_LIMITS_DEVICE < dev ∨ ∃ i, i < 16 ∧ s.warm i = true
      let most := s.get F.PS_LIMITS_INPUT ≠ 0 ∧ s.get F.PS_LIMITS_INPUT < inp
      due ∧ hot ∧ s.ps.capped = true ∧ highest s.portSpare 4 = none ∧ (¬ most) ∧ highest s.headSpare 16 = none ∧ s.ps.exhausted = false) :=
  ⟨⟨(ps (fun p => {p with period := 10000}) perm), by decide +kernel⟩,
   ⟨up, by decide +kernel⟩,
   ⟨perm, by decide +kernel⟩,
   ⟨(wt 900 (lmt 500 perm)), by decide +kernel⟩,
   ⟨(wt 900 (lmt 500 perm)), by decide +kernel⟩,
   ⟨(wt 900 (prt (cap (lmt 500 perm)))), 2, by decide +kernel⟩,
   ⟨(inp (wt 9 ((perm.set F.PS_SP_FLOOR_FLOOR 100).set F.SP_LOOP_MAX_LIMIT 500))), by decide +kernel⟩,
   ⟨(hdr (wt 900 (cap (lmt 500 perm)))), 3, by decide +kernel⟩,
   ⟨(wt 900 (cap (lmt 500 perm))), by decide +kernel⟩⟩

namespace LimitsReleaseAfterTheHold

def lm (c : Option Nat) (s : State) : State := ps (fun p => {p with limited := true, calm := c, capped := true, loopMax := some (500, 300)}) s

/-- Every clause of part 2 of Obligations.LoadIsShedAndRestored can be met. -/
theorem witness_LoadIsShedAndRestored_2 :
    (∃ s : State, 
      let n := (s.tb.sec * 1000000000 + s.tb.ns) / 100000000
      let ends := s.dv.railsOff = false ∧ s.ps.period ≠ n
      let due := ends ∧ s.psAgent = true
      let dev := min s.devicePower 4095
      let inp := min (s.devicePower + s.get F.SP_LOOP_MEAN) 4095
      let limit := s.get F.PS_LIMITS_DEVICE
      let input := s.get F.PS_LIMITS_INPUT
      let met := dev ≤ limit ∧ (input = 0 ∨ inp ≤ input) ∧ ∀ i, i < 16 → s.warm i = false
      due ∧ met ∧ s.ps.limited = false) ∧
    (∃ s : State, 
      let n := (s.tb.sec * 1000000000 + s.tb.ns) / 100000000
      let ends := s.dv.railsOff = false ∧ s.ps.period ≠ n
      let due := ends ∧ s.psAgent = true
      let dev := min s.devicePower 4095
      let inp := min (s.devicePower + s.get F.SP_LOOP_MEAN) 4095
      let limit := s.get F.PS_LIMITS_DEVICE
      let input := s.get F.PS_LIMITS_INPUT
      let met := dev ≤ limit ∧ (input = 0 ∨ inp ≤ input) ∧ ∀ i, i < 16 → s.warm i = false
      let calm := 10 * dev ≤ 9 * limit ∧ (input = 0 ∨ 10 * inp ≤ 9 * input) ∧ ∀ i, i < 16 → s.temp i ≤ 4 * ((s.warnAt i : Int) - s.get F.PS_THERM_HYST)
      due ∧ met ∧ s.ps.limited = true ∧ (¬ calm)) ∧
    (∃ s : State, 
      let n := (s.tb.sec * 1000000000 + s.tb.ns) / 100000000
      let ends := s.dv.railsOff = false ∧ s.ps.period ≠ n
      let due := ends ∧ s.psAgent = true
      let dev := min s.devicePower 4095
      let inp := min (s.devicePower + s.get F.SP_LOOP_MEAN) 4095
      let limit := s.get F.PS_LIMITS_DEVICE
      let input := s.get F.PS_LIMITS_INPUT
      let met := dev ≤ limit ∧ (input = 0 ∨ inp ≤ input) ∧ ∀ i, i < 16 → s.warm i = false
      let calm := 10 * dev ≤ 9 * limit ∧ (input = 0 ∨ 10 * inp ≤ 9 * input) ∧ ∀ i, i < 16 → s.temp i ≤ 4 * ((s.warnAt i : Int) - s.get F.PS_THERM_HYST)
      due ∧ met ∧ s.ps.limited = true ∧ calm ∧ s.ps.calm = none) ∧
    (∃ t0 : Nat, ∃ s : State, 
      let n := (s.tb.sec * 1000000000 + s.tb.ns) / 100000000
      let ends := s.dv.railsOff = false ∧ s.ps.period ≠ n
      let due := ends ∧ s.psAgent = true
      let dev := min s.devicePower 4095
      let inp := min (s.devicePower + s.get F.SP_LOOP_MEAN) 4095
      let limit := s.get F.PS_LIMITS_DEVICE
      let input := s.get F.PS_LIMITS_INPUT
      let met := dev ≤ limit ∧ (input = 0 ∨ inp ≤ input) ∧ ∀ i, i < 16 → s.warm i = false
      let calm := 10 * dev ≤ 9 * limit ∧ (input = 0 ∨ 10 * inp ≤ 9 * input) ∧ ∀ i, i < 16 → s.temp i ≤ 4 * ((s.warnAt i : Int) - s.get F.PS_THERM_HYST)
      let hold := ticksS (s.get F.PS_HOLD_SEC)
      due ∧ met ∧ s.ps.limited = true ∧ calm ∧ s.ps.calm = some t0 ∧ s.tick < t0 + hold) ∧
    (∃ t0 : Nat, ∃ s : State, 
      let n := (s.tb.sec * 1000000000 + s.tb.ns) / 100000000
      let ends := s.dv.railsOff = false ∧ s.ps.period ≠ n
      let due := ends ∧ s.psAgent = true
      let dev := min s.devicePower 4095
      let inp := min (s.devicePower + s.get F.SP_LOOP_MEAN) 4095
      let limit := s.get F.PS_LIMITS_DEVICE
      let input := s.get F.PS_LIMITS_INPUT
      let met := dev ≤ limit ∧ (input = 0 ∨ inp ≤ input) ∧ ∀ i, i < 16 → s.warm i = false
      let calm := 10 * dev ≤ 9 * limit ∧ (input = 0 ∨ 10 * inp ≤ 9 * input) ∧ ∀ i, i < 16 → s.temp i ≤ 4 * ((s.warnAt i : Int) - s.get F.PS_THERM_HYST)
      let hold := ticksS (s.get F.PS_HOLD_SEC)
      due ∧ met ∧ s.ps.limited = true ∧ calm ∧ s.ps.calm = some t0 ∧ t0 + hold ≤ s.tick) :=
  ⟨⟨perm, by decide +kernel⟩,
   ⟨(lm none (wt 950 (lmt 1000 perm))), by decide +kernel⟩,
   ⟨(lm none perm), by decide +kernel⟩,
   ⟨99999, (lm (some 99999) (wt 100 (lmt 1000 perm))), by decide +kernel⟩,
   ⟨0, (lm (some 0) { wt 100 (lmt 1000 perm) with tick := 10 ^ 12 }), by decide +kernel⟩⟩

end LimitsReleaseAfterTheHold

namespace RailsSensorsAndDomains

def bd (s : State) : State := { s with dv := { s.dv with board := some [⟨.core, 5, 0, 1000, 10, 1, 1⟩, ⟨.core, 6, 0, 2000, 5, 2, 1⟩] } }

def v (n m : Nat) (s : State) : State := ps (fun p => {p with volts := [(0, n), (1, n)], silent := [(0, m)]}) s

def g (s : State) : State := ps (fun p => {p with gated := [1, 8, 40]}) s

/-- Every clause of Obligations.RailsSensorsAndDomains can be met. -/
theorem witness_RailsSensorsAndDomains :
    (∃ r : Fin 16, ∃ s : State, 
      let powered := 0 < s.dv.step ∧ s.dv.railsOff = false
      let on := powered ∧ r.val < s.railTable.length
      (¬ on)) ∧
    (∃ r : Fin 16, ∃ p : RailReading, ∃ s : State, 
      let powered := 0 < s.dv.step ∧ s.dv.railsOff = false
      let on := powered ∧ r.val < s.railTable.length
      on ∧ p.ack = true) ∧
    (∃ r : Fin 16, ∃ p : RailReading, ∃ s : State, 
      let powered := 0 < s.dv.step ∧ s.dv.railsOff = false
      let on := powered ∧ r.val < s.railTable.length
      let good := s.inWindow r.val p.milliVolt = true
      let volts (t : State) := mget (fun _ => 0) t.ps.volts r.val
      let fault := p.status % 65536 ≠ 0 ∧ s.get (F.PS_RAIL_STAT_FAULT r.val) = 0
      on ∧ p.ack = true ∧ (fault ∨ ¬ good ∧ volts s = 1)) ∧
    (∃ r : Fin 16, ∃ p : RailReading, ∃ s : State, 
      let powered := 0 < s.dv.step ∧ s.dv.railsOff = false
      let on := powered ∧ r.val < s.railTable.length
      let good := s.inWindow r.val p.milliVolt = true
      let volts (t : State) := mget (fun _ => 0) t.ps.volts r.val
      let fault := p.status % 65536 ≠ 0 ∧ s.get (F.PS_RAIL_STAT_FAULT r.val) = 0
      on ∧ p.ack = true ∧ (¬ fault) ∧ (good ∨ volts s ≠ 1)) ∧
    (∃ r : Fin 16, ∃ p : RailReading, ∃ s : State, 
      let powered := 0 < s.dv.step ∧ s.dv.railsOff = false
      let on := powered ∧ r.val < s.railTable.length
      let silent (t : State) := mget (fun _ => 0) t.ps.silent r.val
      on ∧ p.ack = false ∧ silent s ≠ 2) ∧
    (∃ r : Fin 16, ∃ p : RailReading, ∃ s : State, 
      let powered := 0 < s.dv.step ∧ s.dv.railsOff = false
      let on := powered ∧ r.val < s.railTable.length
      let silent (t : State) := mget (fun _ => 0) t.ps.silent r.val
      on ∧ p.ack = false ∧ silent s = 2) ∧
    (∃ s : State, 
      let powered := 0 < s.dv.step ∧ s.dv.railsOff = false
      (¬ powered)) ∧
    (∃ l : List Int, ∃ s : State, 
      let powered := 0 < s.dv.step ∧ s.dv.railsOff = false
      powered ∧ l.length = 16) ∧
    (∃ d : Nat, ∃ s : State, 
      let wakes := s.domainIdle d = false ∨ s.get F.PS_CTRL_AUTO_GATE = 0
      d ∈ s.ps.gated ∧ wakes) ∧
    (∃ d : Nat, ∃ s : State, 
      let wakes := s.domainIdle d = false ∨ s.get F.PS_CTRL_AUTO_GATE = 0
      (d ∉ s.ps.gated ∨ ¬ wakes)) ∧
    (∃ s : State, 3 ≤ s.dv.step) ∧
    (∃ s : State, s.dv.step < 3) :=
  ⟨⟨0, up, by decide +kernel⟩,
   ⟨0, ⟨1000, 50, 0, true⟩, (bd up), by decide +kernel⟩,
   ⟨0, ⟨1000, 50, 3, true⟩, (bd up), by decide +kernel⟩,
   ⟨0, ⟨1000, 50, 0, true⟩, (bd up), by decide +kernel⟩,
   ⟨0, ⟨0, 0, 0, false⟩, (bd up), by decide +kernel⟩,
   ⟨0, ⟨0, 0, 0, false⟩, (v 1 2 (bd up)), by decide +kernel⟩,
   ⟨{ bd up with dv := { (bd up).dv with step := 0 } }, by decide +kernel⟩,
   ⟨[-5, 400, 401, 500, 2047, 0, 0, 0, 0, 0, 0, 0, 0, 0, 400, 399], up, by decide +kernel⟩,
   ⟨1, (hdr (g (up.set F.PS_CTRL_AUTO_GATE 1))), by decide +kernel⟩,
   ⟨0, up, by decide +kernel⟩,
   ⟨up, by decide +kernel⟩,
   ⟨{ bd up with dv := { (bd up).dv with step := 0 } }, by decide +kernel⟩⟩

end RailsSensorsAndDomains

end Power

namespace Lanes

def perm : State := [0, 28, 29].foldl (fun s i => s.set (⟨(.DV_PERM_LO, [i]), 31, 0⟩) 0xFFFFFFFF |>.set (⟨(.DV_PERM_HI, [i]), 31, 0⟩) 0xFFFFFFFF) up

def ls : List Nat := [3, 9, 30, 45]

def all (f : Nat → State → State) (s : State) : State := ls.foldl (fun s l => f l s) s

def st (l v : Nat) (s : State) : State := s.set (F.LT_STAT_STATE l) v

def gen (l : Nat) (s : State) : State := (s.set (F.LT_CFG_GEN l) 1).set (F.LT_CFG_CHK l) 1

def sy (l t b : Nat) (s : State) : State := (s.set (F.LT_STAT_SYNC l) 1).updLt l fun x => {x with sync := some t, base := b}

def chk (l : Nat) (s : State) : State := s.set (F.LT_CFG_CHK l) 1

/-- Every clause of part 1 of Obligations.LaneTests can be met. -/
theorem witness_LaneTests_1 :
    (∃ o : Origin, ∃ l : Fin 80, ∃ s : State, 
      let calm := s.mode = 11 ∨ s.dv.shutting = false ∧ s.fc.shut = false
      let may (k : Key) := calm ∧ ∀ w, Reaches s o k w
      let cmd : Key := (.LT_CMD, [l.val])
      let st (t : State) (i : Nat) := t.get (F.LT_STAT_STATE i)
      may cmd ∧ st s l = 1) ∧
    (∃ o : Origin, ∃ l : Fin 80, ∃ s : State, 
      let calm := s.mode = 11 ∨ s.dv.shutting = false ∧ s.fc.shut = false
      let may (k : Key) := calm ∧ ∀ w, Reaches s o k w
      let cmd : Key := (.LT_CMD, [l.val])
      let st (t : State) (i : Nat) := t.get (F.LT_STAT_STATE i)
      let local_ := (orgOf o).cls = 0x30 ∨ (orgOf o).cls = 0x31
      let pcie (i : Nat) := laneKind i = .pcie ∧ s.asksOos i = true ∧ st s i ≠ 1
      may cmd ∧ pcie l ∧ local_) ∧
    (∃ o : Origin, ∃ l : Fin 80, ∃ s : State, 
      let calm := s.mode = 11 ∨ s.dv.shutting = false ∧ s.fc.shut = false
      let may (k : Key) := calm ∧ ∀ w, Reaches s o k w
      let cmd : Key := (.LT_CMD, [l.val])
      let st (t : State) (i : Nat) := t.get (F.LT_STAT_STATE i)
      let local_ := (orgOf o).cls = 0x30 ∨ (orgOf o).cls = 0x31
      let pcie (i : Nat) := laneKind i = .pcie ∧ s.asksOos i = true ∧ st s i ≠ 1
      may cmd ∧ pcie l ∧ (¬ local_)) ∧
    (∃ o : Origin, ∃ l : Fin 80, ∃ s : State, 
      let calm := s.mode = 11 ∨ s.dv.shutting = false ∧ s.fc.shut = false
      let may (k : Key) := calm ∧ ∀ w, Reaches s o k w
      let cmd : Key := (.LT_CMD, [l.val])
      let st (t : State) (i : Nat) := t.get (F.LT_STAT_STATE i)
      may cmd ∧ st s l ≠ 1 ∧ s.startBlocked l = true) ∧
    (∃ o : Origin, ∃ l : Fin 80, ∃ s : State, 
      let calm := s.mode = 11 ∨ s.dv.shutting = false ∧ s.fc.shut = false
      let may (k : Key) := calm ∧ ∀ w, Reaches s o k w
      let cmd : Key := (.LT_CMD, [l.val])
      let st (t : State) (i : Nat) := t.get (F.LT_STAT_STATE i)
      let pcie (i : Nat) := laneKind i = .pcie ∧ s.asksOos i = true ∧ st s i ≠ 1
      may cmd ∧ st s l ≠ 1 ∧ (¬ pcie l) ∧ s.startBlocked l = false) ∧
    (∃ o : Origin, ∃ l : Fin 80, ∃ s : State, 
      let calm := s.mode = 11 ∨ s.dv.shutting = false ∧ s.fc.shut = false
      let may (k : Key) := calm ∧ ∀ w, Reaches s o k w
      let cmd : Key := (.LT_CMD, [l.val])
      let st (t : State) (i : Nat) := t.get (F.LT_STAT_STATE i)
      may cmd ∧ st s l ≠ 1) ∧
    (∃ o : Origin, ∃ l : Fin 80, ∃ s : State, 
      let calm := s.mode = 11 ∨ s.dv.shutting = false ∧ s.fc.shut = false
      let may (k : Key) := calm ∧ ∀ w, Reaches s o k w
      let cmd : Key := (.LT_CMD, [l.val])
      let st (t : State) (i : Nat) := t.get (F.LT_STAT_STATE i)
      may cmd ∧ st s l = 1) ∧
    (∃ o : Origin, ∃ l : Fin 80, ∃ s : State, 
      let calm := s.mode = 11 ∨ s.dv.shutting = false ∧ s.fc.shut = false
      let may (k : Key) := calm ∧ ∀ w, Reaches s o k w
      let cmd : Key := (.LT_CMD, [l.val])
      may cmd ∧ s.eyeBlocked l = true) ∧
    (∃ o : Origin, ∃ l : Fin 80, ∃ s : State, 
      let calm := s.mode = 11 ∨ s.dv.shutting = false ∧ s.fc.shut = false
      let may (k : Key) := calm ∧ ∀ w, Reaches s o k w
      let cmd : Key := (.LT_CMD, [l.val])
      may cmd ∧ s.eyeBlocked l = false) ∧
    (∃ o : Origin, ∃ v : Word, ∃ s : State, 
      let calm := s.mode = 11 ∨ s.dv.shutting = false ∧ s.fc.shut = false
      let may (k : Key) := calm ∧ ∀ w, Reaches s o k w
      let lo := bits v 6 0
      let n := bits v 13 7
      let range := 1 ≤ n ∧ lo + n ≤ 80
      may (.LT_GROUP_CMD, []) ∧ (¬ range)) ∧
    (∃ o : Origin, ∃ v : Word, ∃ s : State, 
      let calm := s.mode = 11 ∨ s.dv.shutting = false ∧ s.fc.shut = false
      let may (k : Key) := calm ∧ ∀ w, Reaches s o k w
      let lo := bits v 6 0
      let n := bits v 13 7
      let range := 1 ≤ n ∧ lo + n ≤ 80
      may (.LT_GROUP_CMD, []) ∧ range ∧ v.getLsbD 14 = false) ∧
    (∃ o : Origin, ∃ v : Word, ∃ s : State, 
      let calm := s.mode = 11 ∨ s.dv.shutting = false ∧ s.fc.shut = false
      let may (k : Key) := calm ∧ ∀ w, Reaches s o k w
      let st (t : State) (i : Nat) := t.get (F.LT_STAT_STATE i)
      let local_ := (orgOf o).cls = 0x30 ∨ (orgOf o).cls = 0x31
      let pcie (i : Nat) := laneKind i = .pcie ∧ s.asksOos i = true ∧ st s i ≠ 1
      let lo := bits v 6 0
      let n := bits v 13 7
      let range := 1 ≤ n ∧ lo + n ≤ 80
      let inside (i : Nat) := lo ≤ i ∧ i < lo + n
      may (.LT_GROUP_CMD, []) ∧ range ∧ v.getLsbD 15 = false ∧ ((∃ i, inside i ∧ pcie i)) ∧ (¬ local_)) ∧
    (∃ o : Origin, ∃ v : Word, ∃ s : State, 
      let calm := s.mode = 11 ∨ s.dv.shutting = false ∧ s.fc.shut = false
      let may (k : Key) := calm ∧ ∀ w, Reaches s o k w
      let st (t : State) (i : Nat) := t.get (F.LT_STAT_STATE i)
      let local_ := (orgOf o).cls = 0x30 ∨ (orgOf o).cls = 0x31
      let pcie (i : Nat) := laneKind i = .pcie ∧ s.asksOos i = true ∧ st s i ≠ 1
      let lo := bits v 6 0
      let n := bits v 13 7
      let range := 1 ≤ n ∧ lo + n ≤ 80
      let inside (i : Nat) := lo ≤ i ∧ i < lo + n
      let whole := lo = 0 ∧ n = 8 ∧ ∀ i, i < 8 → pcie i
      may (.LT_GROUP_CMD, []) ∧ range ∧ v.getLsbD 15 = false ∧ ((∃ i, inside i ∧ pcie i)) ∧ local_ ∧ (¬ whole)) ∧
    (∃ o : Origin, ∃ v : Word, ∃ s : State, 
      let calm := s.mode = 11 ∨ s.dv.shutting = false ∧ s.fc.shut = false
      let may (k : Key) := calm ∧ ∀ w, Reaches s o k w
      let st (t : State) (i : Nat) := t.get (F.LT_STAT_STATE i)
      let pcie (i : Nat) := laneKind i = .pcie ∧ s.asksOos i = true ∧ st s i ≠ 1
      let lo := bits v 6 0
      let n := bits v 13 7
      let range := 1 ≤ n ∧ lo + n ≤ 80
      let inside (i : Nat) := lo ≤ i ∧ i < lo + n
      may (.LT_GROUP_CMD, []) ∧ range ∧ v.getLsbD 15 = false ∧ ((∀ i, inside i → ¬ pcie i)) ∧ ((∃ i, inside i ∧ st s i ≠ 1 ∧
      s.startBlocked i = true))) ∧
    (∃ o : Origin, ∃ v : Word, ∃ s : State, 
      let calm := s.mode = 11 ∨ s.dv.shutting = false ∧ s.fc.shut = false
      let may (k : Key) := calm ∧ ∀ w, Reaches s o k w
      let st (t : State) (i : Nat) := t.get (F.LT_STAT_STATE i)
      let local_ := (orgOf o).cls = 0x30 ∨ (orgOf o).cls = 0x31
      let pcie (i : Nat) := laneKind i = .pcie ∧ s.asksOos i = true ∧ st s i ≠ 1
      let lo := bits v 6 0
      let n := bits v 13 7
      let range := 1 ≤ n ∧ lo + n ≤ 80
      let inside (i : Nat) := lo ≤ i ∧ i < lo + n
      let whole := lo = 0 ∧ n = 8 ∧ ∀ i, i < 8 → pcie i
      may (.LT_GROUP_CMD, []) ∧ range ∧ v.getLsbD 15 = false ∧ (whole ∧ local_ ∨ (∀ i, inside i → ¬ pcie i)) ∧
      ((∀ i, inside i → st s i ≠ 1 → s.startBlocked i = false))) :=
  ⟨⟨(Origin.pf 0), 3, (all (fun l s => st l 1 s) (all gen perm)), by repeat' first | exact fun w => reaches w (by decide +kernel) (by decide +kernel) (fun _ => nofun) | apply And.intro | decide +kernel | constructor⟩,
   ⟨Origin.jtag, 3, (all gen perm), by repeat' first | exact fun w => reaches w (by decide +kernel) (by decide +kernel) (fun _ => nofun) | apply And.intro | decide +kernel | constructor⟩,
   ⟨(Origin.pf 0), 3, (all gen perm), by repeat' first | exact fun w => reaches w (by decide +kernel) (by decide +kernel) (fun _ => nofun) | apply And.intro | decide +kernel | constructor⟩,
   ⟨(Origin.pf 0), 9, ((all gen perm).set (F.NP_CTRL_EN 0) 1), by repeat' first | exact fun w => reaches w (by decide +kernel) (by decide +kernel) (fun _ => nofun) | apply And.intro | decide +kernel | constructor⟩,
   ⟨(Origin.pf 0), 3, up, by repeat' first | exact fun w => reaches w (by decide +kernel) (by decide +kernel) (fun _ => nofun) | apply And.intro | decide +kernel | constructor⟩,
   ⟨(Origin.pf 0), 3, up, by repeat' first | exact fun w => reaches w (by decide +kernel) (by decide +kernel) (fun _ => nofun) | apply And.intro | decide +kernel | constructor⟩,
   ⟨(Origin.pf 0), 3, (all (fun l s => st l 1 s) (all gen perm)), by repeat' first | exact fun w => reaches w (by decide +kernel) (by decide +kernel) (fun _ => nofun) | apply And.intro | decide +kernel | constructor⟩,
   ⟨(Origin.pf 0), 9, ((all gen perm).set (F.LT_STAT_EYE_BUSY 9) 1), by repeat' first | exact fun w => reaches w (by decide +kernel) (by decide +kernel) (fun _ => nofun) | apply And.intro | decide +kernel | constructor⟩,
   ⟨(Origin.pf 0), 3, up, by repeat' first | exact fun w => reaches w (by decide +kernel) (by decide +kernel) (fun _ => nofun) | apply And.intro | decide +kernel | constructor⟩,
   ⟨(Origin.pf 0), (0x0000014f#32), up, by repeat' first | exact fun w => reaches w (by decide +kernel) (by decide +kernel) (fun _ => nofun) | apply And.intro | decide +kernel | constructor⟩,
   ⟨(Origin.pf 0), (0x00000400#32), up, by repeat' first | exact fun w => reaches w (by decide +kernel) (by decide +kernel) (fun _ => nofun) | apply And.intro | decide +kernel | constructor⟩,
   ⟨(Origin.pf 0), (0x00000400#32), (all gen perm), by repeat' first | exact ⟨3, by repeat' first | decide +kernel | apply And.intro⟩ | exact fun w => reaches w (by decide +kernel) (by decide +kernel) (fun _ => nofun) | apply And.intro | decide +kernel | constructor⟩,
   ⟨Origin.jtag, (0x00000400#32), (all gen perm), by repeat' first | exact ⟨3, by repeat' first | decide +kernel | apply And.intro⟩ | exact fun w => reaches w (by decide +kernel) (by decide +kernel) (fun _ => nofun) | apply And.intro | decide +kernel | constructor⟩,
   ⟨(Origin.pf 0), (0x00000089#32), ((all gen perm).set (F.NP_CTRL_EN 0) 1), by repeat' first | exact ⟨9, by repeat' first | decide +kernel | apply And.intro⟩ | exact fun w => reaches w (by decide +kernel) (by decide +kernel) (fun _ => nofun) | exact all_below 10 (by decide +kernel) (by decide +kernel) | apply And.intro | decide +kernel | constructor⟩,
   ⟨(Origin.pf 0), (0x00000400#32), up, by repeat' first | exact fun w => reaches w (by decide +kernel) (by decide +kernel) (fun _ => nofun) | exact Or.inr (all_below 8 (by decide +kernel) (by decide +kernel)) | exact (all_below 8 (by decide +kernel) (by decide +kernel)) | apply And.intro | decide +kernel | constructor⟩⟩

namespace CheckersCountAndEnd

def dur (d : Nat) (s : State) : State := all (fun l s => s.set (F.LT_CFG_DUR l) d) s

def stp (s : State) : State := all (fun l s => (st l 3 s).updLt l fun x => {x with stopped := some s.tick}) s

def B : State := all chk perm

/-- Every clause of part 2 of Obligations.LaneTests can be met. -/
theorem witness_LaneTests_2 :
    (∃ l : Fin 80, ∃ s : State, 
      let st (t : State) := t.get (F.LT_STAT_STATE l)
      let dur := s.get (F.LT_CFG_DUR l)
      let timed := 1 ≤ dur ∧ dur ≤ 48
      timed ∧ st s = 1 ∧ 2 ^ dur ≤ s.bitsNow l) ∧
    (∃ l : Fin 80, ∃ s : State, 
      let st (t : State) := t.get (F.LT_STAT_STATE l)
      let dur := s.get (F.LT_CFG_DUR l)
      let timed := 1 ≤ dur ∧ dur ≤ 48
      let late := st s = 3 ∧ (s.lt l).stopped = some s.tick
      timed ∧ late) ∧
    (∃ l : Fin 80, ∃ s : State, 
      let calm := s.mode = 11 ∨ s.dv.shutting = false ∧ s.fc.shut = false
      let st (t : State) := t.get (F.LT_STAT_STATE l)
      let dur := s.get (F.LT_CFG_DUR l)
      let timed := 1 ≤ dur ∧ dur ≤ 48
      let late := st s = 3 ∧ (s.lt l).stopped = some s.tick
      (¬ timed ∨ ¬ late ∧ (st s ≠ 1 ∨ s.bitsNow l < 2 ^ dur)) ∧ calm) ∧
    (∃ l : Fin 80, ∃ s : State, 
      let st (t : State) := t.get (F.LT_STAT_STATE l)
      let sync (t : State) := t.get (F.LT_STAT_SYNC l)
      st s = 1 ∧ s.checkerOn l = true ∧ sync s = 0) ∧
    (∃ l : Fin 80, ∃ s : State, 
      let st (t : State) := t.get (F.LT_STAT_STATE l)
      let sync (t : State) := t.get (F.LT_STAT_SYNC l)
      (st s ≠ 1 ∨ s.checkerOn l = false ∨ sync s = 1)) ∧
    (∃ l : Fin 80, ∃ s : State, 
      let st (t : State) := t.get (F.LT_STAT_STATE l)
      let sync (t : State) := t.get (F.LT_STAT_SYNC l)
      st s = 1 ∧ sync s = 1) ∧
    (∃ l : Fin 80, ∃ s : State, 
      let st (t : State) := t.get (F.LT_STAT_STATE l)
      let sync (t : State) := t.get (F.LT_STAT_SYNC l)
      (st s ≠ 1 ∨ sync s = 0)) ∧
    (∃ l : Fin 80, ∃ s : State, 
      let busy (t : State) := t.get (F.LT_STAT_EYE_BUSY l)
      busy s = 1) ∧
    (∃ l : Fin 80, ∃ s : State, 
      let busy (t : State) := t.get (F.LT_STAT_EYE_BUSY l)
      busy s = 0) ∧
    (∃ o : Origin, ∃ l : Fin 80, ∃ s : State, 
      let st (t : State) := t.get (F.LT_STAT_STATE l)
      let answers := s.readable = true ∧ s.rights o 10 ≠ 0
      answers ∧ st s = 1) ∧
    (∃ o : Origin, ∃ l : Fin 80, ∃ s : State, 
      let st (t : State) := t.get (F.LT_STAT_STATE l)
      let answers := s.readable = true ∧ s.rights o 10 ≠ 0
      answers ∧ st s ≠ 1) :=
  ⟨⟨3, (dur 10 (all (fun l s => sy l 5 100 (st l 1 s)) B)), by decide +kernel⟩,
   ⟨3, (dur 10 (stp B)), by decide +kernel⟩,
   ⟨3, up, by decide +kernel⟩,
   ⟨3, (all (fun l s => st l 1 s) B), by decide +kernel⟩,
   ⟨3, up, by decide +kernel⟩,
   ⟨3, (dur 10 (all (fun l s => sy l 5 100 (st l 1 s)) B)), by decide +kernel⟩,
   ⟨3, up, by decide +kernel⟩,
   ⟨3, (all (fun l s => s.set (F.LT_STAT_EYE_BUSY l) 1) perm), by decide +kernel⟩,
   ⟨3, up, by decide +kernel⟩,
   ⟨(Origin.pf 0), 3, (dur 10 (all (fun l s => sy l 5 100 (st l 1 s)) B)), by decide +kernel⟩,
   ⟨(Origin.pf 0), 3, up, by decide +kernel⟩⟩

end CheckersCountAndEnd

end Lanes

namespace Machine

/-- Every clause of part 2 of Obligations.RestAndReset can be met. -/
theorem witness_RestAndReset_2 :
    (∃ a, a < memSize) :=
  ⟨0, by decide +kernel⟩

/-- Every clause of Obligations.ScanPortTakesPinsInReset can be met. -/
theorem witness_ScanPortTakesPinsInReset :
    (∃ ir : JtagInstr, ∃ s : State, 
      let takes := ir = .extest ∨ ir = .extestPulse ∨ ir = .extestTrain ∨ ir = .clamp ∨ ir = .highz
      takes ∧ s.dv.resetLow = true) ∧
    (∃ ir : JtagInstr, ∃ s : State, 
      let takes := ir = .extest ∨ ir = .extestPulse ∨ ir = .extestTrain ∨ ir = .clamp ∨ ir = .highz
      takes ∧ s.dv.resetLow = false) ∧
    (∃ ir : JtagInstr, 
      let takes := ir = .extest ∨ ir = .extestPulse ∨ ir = .extestTrain ∨ ir = .clamp ∨ ir = .highz
      (¬ takes)) ∧
    (∃ s : State, s.dv.step = 0 ∧ s.dv.released = false) :=
  ⟨⟨JtagInstr.extest, {up with dv := {up.dv with resetLow := true}}, by decide +kernel⟩,
   ⟨JtagInstr.extest, up, by decide +kernel⟩,
   ⟨JtagInstr.bypass, by decide +kernel⟩,
   ⟨State.reset, by decide +kernel⟩⟩

namespace StatusClearsOnRead

def cm (b : List Nat) (s : State) : State := let s := s.wr (.xx_STATUS_MODE, b) 1; { s with slowCopy := mput keyAddr resetVal (mput keyAddr resetVal s.slowCopy (.xx_STATUS_MODE, b) 1) (.xx_STATUS, b) (w32 0x05000F0F) }

def q (b : List Nat) (l : List (Org × Nat × Nat)) (s : State) : State := { s with slowQ := [(b.headD 0, (orgOf pf0, keyAddr (.xx_STATUS, b), 0x05FFFFFF) :: l)] }

def sx (b : List Nat) (s : State) : State := s.wr (.xx_STATUS, b) (w32 0x05345678)

/-- Every clause of Obligations.StatusClearsOnRead can be met. -/
theorem witness_StatusClearsOnRead :
    (∃ o : Origin, ∃ a : Nat, ∃ b : List Nat, ∃ s : State, 
      let k : Key := (.xx_STATUS, b)
      let cor (s : State) := s.get ⟨(.xx_STATUS_MODE, b), 0, 0⟩ = 1
      decodeAddr a = .reg k ∧ Answers s o k ∧ slowCode k = none ∧ cor s) ∧
    (∃ o : Origin, ∃ a : Nat, ∃ b : List Nat, ∃ s : State, 
      let k : Key := (.xx_STATUS, b)
      decodeAddr a = .reg k ∧ Answers s o k ∧ (slowCode k).isSome = true ∧ bits (mget resetVal s.slowCopy (.xx_STATUS_MODE, b)) 0 0 = 1) ∧
    (∃ o : Origin, ∃ a : Nat, ∃ v : Word, ∃ b : List Nat, ∃ s : State, 
      let k : Key := (.xx_STATUS, b)
      let cor (s : State) := s.get ⟨(.xx_STATUS_MODE, b), 0, 0⟩ = 1
      decodeAddr a = .reg k ∧ Reaches s o k v ∧ slowCode k = none ∧ cor s) ∧
    (∃ a : Nat, ∃ v : Word, ∃ b : List Nat, ∃ s : State, 
      let k : Key := (.xx_STATUS, b)
      let cor (s : State) := s.get ⟨(.xx_STATUS_MODE, b), 0, 0⟩ = 1
      ∃ g, ∃ rest, ∃ c : SlowBlk, decodeAddr a = .reg k ∧ mget slowD s.slowQ (slowBlkCode c) = (g, a, v.toNat) :: rest ∧ s.dv.heldWrites = false ∧
      s.dv.railsOff = false ∧ slowCode k = some (slowBlkCode c) ∧ mget slowHoldD s.slowHold (slowBlkCode c) = [] ∧ cor s ∧ s.mode = s.modeNow) :=
  ⟨⟨(Origin.pf 0), 2097168, [13, 0], (sx [13, 0] (cm [13, 0] up)), by repeat' first | decide +kernel | constructor⟩,
   ⟨(Origin.pf 0), 720912, [11, 0], (sx [11, 0] (cm [11, 0] up)), by repeat' first | decide +kernel | constructor⟩,
   ⟨(Origin.pf 0), 2097168, (0x05ffffff#32), [13, 0], (sx [13, 0] (cm [13, 0] up)), by repeat' first | decide +kernel | constructor⟩,
   ⟨720912, (0x05ffffff#32), [11, 0], ((q [11, 0] [({}, 4, 5)] (sx [11, 0] (cm [11, 0] up))).settleMode), { cls := 1, det := 0 }, [({ cls := 0, det := 0 }, 4, 5)], SlowBlk.sp, by decide +kernel⟩⟩

end StatusClearsOnRead

namespace StoppingHeadRefusesRun

def hd (st f l : Nat) (s : State) : State := (((((s.set (F.HD_RASTER_FMT 3) 4).set (F.HD_RASTER_RATE 3) 7).set F.DV_MODE_MODE 6).set (F.HD_STAT_STATE 3) st).updHead 3 fun h => {h with frame := f, line := l, everRun := true, startFrame := 5, stopFrame := 49999, bndNext := f})

/-- Every clause of Obligations.StoppingHeadRefusesRun can be met. -/
theorem witness_StoppingHeadRefusesRun :
    (∃ o : Origin, ∃ n : Fin 16, ∃ s : State, s.hst n.val = 3 ∧ ((∀ w, Reaches s o (.HD_CTRL, [n.val]) w))) :=
  ⟨(Origin.pf 0), 3, (hd 3 5 5 up), by repeat' first | exact fun w => reaches w (by decide +kernel) (by decide +kernel) (fun _ => nofun) | apply And.intro | decide +kernel | constructor⟩

end StoppingHeadRefusesRun

end Machine

end Sys2Proof.Tests
end

/-! PROOF. Refutation of the statement on the PCIe functions. The interrupts that a command owes are made when it ends (R57), behind
the reset that empties a table of MSI-X vectors; a vector of an emptied table is masked, so the message pends in the table (R32; log 5)
and the table is empty no more. -/

namespace Sys2Proof.Machine

/-- An interrupt on a masked vector pends in the table (R32, R57; log 5). -/
theorem interrupt_masked {s : State} {f v : Nat} (h : (s.vec f v).masked = true) :
    s.interrupt f v = s.setVec f v { s.vec f v with pending := true } := by
  unfold State.interrupt
  exact if_pos h

/-- What an interrupt on a masked vector leaves of that vector. -/
theorem vec_interrupt_masked {s : State} {f v : Nat} (h : (s.vec f v).masked = true) :
    (s.interrupt f v).vec f v = { s.vec f v with pending := true } := by
  rw [interrupt_masked h]
  exact mget_nput_self ..

/-- A vector that an empty table does not list is masked, as after reset. -/
theorem masked_of_msix_nil {s : State} (h : s.msix = []) (f v : Nat) : (s.vec f v).masked = true := by
  unfold State.vec
  rw [h]
  rfl

/-- Where one block owes an interrupt and the table of vectors is empty, the end of the command leaves a message pending in it (R57). -/
theorem vec_finish_pending {s : State} {b : List Nat} (ho : s.irqOwed = [b]) (hm : s.msix = []) :
    (s.finish.vec (s.get ⟨(.xx_INT_VEC, b), 9, 8⟩) (s.get ⟨(.xx_INT_VEC, b), 7, 0⟩)).pending = true := by
  have hf : s.finish = { s.interrupt (s.get ⟨(.xx_INT_VEC, b), 9, 8⟩) (s.get ⟨(.xx_INT_VEC, b), 7, 0⟩) with irqOwed := [] } := by
    unfold State.finish
    rw [ho]
    rfl
  have hv := vec_interrupt_masked (masked_of_msix_nil hm (s.get ⟨(.xx_INT_VEC, b), 9, 8⟩) (s.get ⟨(.xx_INT_VEC, b), 7, 0⟩))
  rw [hf]
  exact congrArg MsixVec.pending hv

/-- No vector of an empty table pends; so a table in which one pends is not empty. -/
theorem msix_ne_nil_of_pending {s : State} {f v : Nat} (h : (s.vec f v).pending = true) : s.msix ≠ [] := by
  intro hm
  unfold State.vec at h
  rw [hm] at h
  cases h

/-- The PCIe link is up, and the fault collector has its event for MINOR sources enabled (R57, R421). -/
def linkUpMinorEnabled : State :=
  { State.reset with dv := { State.reset.dv with step := 6, pcieUp := true } }.wr (.xx_INT_EN, [1, 0]) 4

/-- The fall of the link raises PCIE_LINK, a MINOR source: the fault collector owes its interrupt, and the table is empty (R76, R433). -/
theorem pcieReset_owes_fault_interrupt : linkUpMinorEnabled.pcieReset.irqOwed = [[1, 0]] ∧ linkUpMinorEnabled.pcieReset.msix = [] := by
  decide +kernel

/-- Refutes O14: it says that a fall of the PCIe link leaves the table of MSI-X vectors empty. The fall raises PCIE_LINK; where the fault
collector's interrupt for it is enabled, the message pends in the emptied table at the end of the command. -/
theorem not_pcieFunctions : ¬ Obligations.PcieFunctions := by
  unfold Obligations.PcieFunctions
  rintro ⟨-, hlink⟩
  obtain ⟨hfall, -⟩ := hlink linkUpMinorEnabled 0
  obtain ⟨t, hexec, -, hmsix, -⟩ := hfall rfl
  have ht : t = linkUpMinorEnabled.pcieReset.finish := (Host.Outcome.next.inj hexec).symm
  obtain ⟨howed, hempty⟩ := pcieReset_owes_fault_interrupt
  exact msix_ne_nil_of_pending (vec_finish_pending howed hempty) (ht ▸ hmsix)

end Sys2Proof.Machine

/-! PROOF. Every command completes, and what it leaves follows the state before it (R15, R16): each meaning is one operation, or a few in
turn, and every operation follows the state that it takes. -/

namespace Sys2Proof.Machine

/-! ### Any part may change -/

/-- An operation follows the state before it: whatever it touches, it leaves the queue of commands, which is the one part that allAreas
does not list. -/
theorem Only.any {A : List Area} {R : Option (List Reg)} {s t : State} (h : Only A R s t) : Only allAreas none s t := by
  refine ⟨h.follows, fun a ha => ?_, nofun⟩
  cases a with
  | pending => exact h.follows.pending
  | _ => exact absurd (by decide) ha

/-- Two operations in turn. -/
theorem Only.andThen {A B : List Area} {R Q : Option (List Reg)} {s t u : State} (h : Only A R s t) (k : Only B Q t u) : Only allAreas none s u :=
  k.any.over ⟨fun _ => id, nofun⟩ h.any

/-- A command that ends with what an operation leaves completes, and follows. -/
theorem completes {c : Instr} {s u : State} {A : List Area} {R : Option (List Reg)} (he : exec c s = .next u.finish) (h : Only A R s u) :
    Does c s fun t => Follows s t :=
  ⟨_, he, h.follows.trans (only_finish u).follows⟩

/-! ### The instructions of the cue engines -/

section
variable {s : State} {n op level : Nat} {form : Form} {seq : Bool} {legal : Word40 → Bool}

/-- An instruction follows where its function does. -/
theorem any_cueInstr {f : Word40 → State → State} (hf : ∀ w y, Only allAreas none y (f w y)) :
    Only allAreas none s (s.cueInstr n op form level seq legal f) :=
  only_cueInstr ⟨by decide, nofun⟩ (Only.refl s) fun _ hy w => hy.andThen (hf w _)

theorem any_aluOp {g : Word40 → State → Word40 × Nat} : Only allAreas none s (s.aluOp n op form level legal g) :=
  only_aluOp ⟨by decide, nofun⟩ (Only.refl s)

theorem any_jump {t : Int} {f : State → State} (hf : ∀ y, Only allAreas none y (f y)) : Only allAreas none s (s.jump n t f) :=
  only_jump ⟨by decide, nofun⟩ (Only.refl s) fun _ hy => hy.andThen (hf _)

theorem any_dmOp {w : Word40} {f : Nat → State → State} (hf : ∀ i y, Only allAreas none y (f i y)) : Only allAreas none s (s.dmOp n w f) :=
  only_dmOp ⟨by decide, nofun⟩ (Only.refl s) fun _ hy i => hy.andThen (hf i _)

theorem any_scrOp {i : Nat} {f : State → State} (hf : ∀ y, Only allAreas none y (f y)) : Only allAreas none s (s.scrOp n i f) :=
  only_scrOp ⟨by decide, nofun⟩ (Only.refl s) fun _ hy => hy.andThen (hf _)

theorem any_readWord {key i : Nat} {f : State → State} (hf : ∀ y, Only allAreas none y (f y)) : Only allAreas none s (s.readWord n key i f) :=
  only_readWord ⟨by decide, nofun⟩ (Only.refl s) fun _ hy => hy.andThen (hf _)

theorem any_access {a : Nat} {f : Origin → Nat → State → State} (hf : ∀ o pc y, Only allAreas none y (f o pc y)) :
    Only allAreas none s (s.access n a f) :=
  only_access ⟨fun _ => id, nofun⟩ (Only.refl s) fun _ hy o pc => hy.andThen (hf o pc _)

end

section
variable (n : Fin 24) (s : State)

theorem cuHalt_completes : Does (.cuHalt n) s fun t => Follows s t := by
  refine completes rfl (any_cueInstr fun _ y => ?_)
  exact (((only_setPc ..).andThen (only_spend _ n 1)).wrAny (k := (.CU_RETIRED, [n.val]))).andThen (only_haltWith ..)

theorem cuTrap_completes : Does (.cuTrap n) s fun t => Follows s t :=
  completes rfl (any_cueInstr fun _ _ => (only_spend ..).andThen (only_trapNow ..))

theorem cuLd_completes : Does (.cuLd n) s fun t => Follows s t :=
  completes rfl (any_cueInstr fun _ _ => any_dmOp fun _ _ => any_readWord fun _ => (only_finishOp ..).any)

theorem cuSt_completes : Does (.cuSt n) s fun t => Follows s t :=
  completes rfl (any_cueInstr fun _ _ => any_dmOp fun _ _ => (only_setDmem ..).andThen (only_retire ..))

theorem cuStx_completes : Does (.cuStx n) s fun t => Follows s t :=
  completes rfl (any_cueInstr fun _ _ => any_scrOp fun _ => ((only_setScr ..).andThen (only_fresh _)).andThen (only_retire ..))

theorem cuCas_completes : Does (.cuCas n) s fun t => Follows s t :=
  completes rfl (any_cueInstr fun _ _ => any_scrOp fun _ => any_readWord fun _ => (only_setFlags ..).andThen (only_atomic ..))

theorem cuRett_completes : Does (.cuRett n) s fun t => Follows s t :=
  completes rfl (any_cueInstr fun _ _ => ((only_setFlags ..).any.setAny).andThen (only_retire ..))

/-- A KICK at an address that is none traps; one behind four others stays where it is (log 22). -/
theorem cuKick_completes : Does (.cuKick n) s fun t => Follows s t := by
  refine completes rfl (any_cueInstr fun _ y => Only.ite ?_ (Only.ite ?_ ?_))
  · exact (only_trapNow ..).any
  · exact Only.refl y
  · exact (only_updCue ..).andThen (only_retire ..)

theorem kickJudged_completes : Does (.kickJudged n) s fun t => Follows s t := by
  have hj := only_judgeKick s n
  exact completes rfl (Only.ite (hj.andThen (only_takePending _ n)) hj)

theorem cuWrf_completes : Does (.cuWrf n) s fun t => Follows s t :=
  completes rfl (any_cueInstr fun _ _ => any_access fun _ _ _ =>
    (((only_fresh _).andThen (only_busRead ..)).andThen (only_busWrite ..)).andThen (only_endAccess ..))

theorem cuLyr_completes : Does (.cuLyr n) s fun t => Follows s t :=
  completes rfl (any_cueInstr fun _ _ => Only.ite (only_accessRead ..) (only_trapNow ..).any)

theorem cuLyw_completes : Does (.cuLyw n) s fun t => Follows s t :=
  completes rfl (any_cueInstr fun _ _ => Only.ite (only_accessWrite ..) (only_trapNow ..).any)

/-- A COMMIT that is refused ends at once; the other one begins its wait (R281). -/
theorem cuCommit_completes : Does (.cuCommit n) s fun t => Follows s t := by
  refine completes rfl (any_cueInstr fun _ _ => any_access fun o _ y => ?_)
  exact Only.ite ((only_busWrite ..).andThen (only_endAccess ..))
    ((((only_busWrite ..).andThen (only_setPc ..)).andThen (only_spend ..)).andThen (only_awaitCommit ..))

theorem cuRelease_completes : Does (.cuRelease n) s fun t => Follows s t :=
  completes rfl (any_cueInstr fun _ _ => any_access fun _ _ _ =>
    ((((only_fresh _).andThen (only_busWrite ..)).andThen (only_busWrite ..)).andThen (only_busWrite ..)).andThen (only_endAccess ..))

theorem cuWaite_completes : Does (.cuWaite n) s fun t => Follows s t :=
  completes rfl (any_cueInstr fun _ _ => Only.ite (only_waitHead ..).any (only_waitDevice ..).any)

end

/-! ### All commands -/

/-- Settles O56: a command is one operation of the model, or a few in turn, and the laws of what each touches say that it follows. -/
theorem everyCommandCompletes : Obligations.EveryCommandCompletes := by
  unfold Obligations.EveryCommandCompletes
  intro c s
  cases c with
  | registerWrite => exact completes rfl (only_wordWrites ..)
  | readClear => exact completes rfl (only_readSpan ..)
  | statusSeqClear => exact completes rfl (only_busWrite ..)
  | statusCorRead => exact completes rfl (only_readOut ..)
  | registerReadDenied => exact completes rfl (only_readOut ..)
  | slowWriteArrive => exact completes rfl ((only_slowArriveOp ..).andThen (only_settleMode _))
  | slowCopyRefresh => exact completes rfl (only_slowRefreshOp ..)
  | snapRequest => exact completes rfl (only_keyWrite ..)
  | snapshotCapture => exact completes rfl (only_snapCaptureOp ..)
  | snapshotWriteOutDone => exact completes rfl (only_snapDoneOp ..)
  | permWrite => exact completes rfl (only_keyWrite ..)
  | bar2Write => exact completes rfl (only_bar2WriteOp ..)
  | bar2Read => exact completes rfl (only_bar2ReadOp ..)
  | pcieLinkDown => exact completes rfl (only_pcieReset ..)
  | flr => exact completes rfl (only_flrReset ..)
  | operate => exact completes rfl (only_keyWrite ..)
  | shutdown => exact completes rfl (only_keyWrite ..)
  | shutdownRailsOff => exact completes rfl ((only_railsOffOp ..).andThen (only_settleMode _))
  | warmReset => exact completes rfl (only_keyWrite ..)
  | maintenanceReset => exact completes rfl (only_keyWrite ..)
  | serviceReset => exact completes rfl (only_keyWrite ..)
  | resetBegin => exact completes rfl (only_resetBeginOp ..)
  | coldReset => exact completes rfl (only_coldResetOp ..)
  | pinReset => exact completes rfl (only_pinResetOp ..)
  | resetRelease => exact completes rfl (only_resetReleaseOp ..)
  | railsPowerGood => exact completes rfl (only_railsGoodOp ..)
  | cellarHeaderCheck => exact completes rfl ((only_cellarCheckOp ..).andThen (only_settleMode _))
  | imageSelection => exact completes rfl ((only_imageSelectOp ..).andThen (only_settleMode _))
  | serviceReady => exact completes rfl ((only_serviceReadyOp ..).andThen (only_settleMode _))
  | bootReadyTimeout => exact completes rfl (only_readyTimeoutOp ..)
  | svcWdog => exact completes rfl (only_svcWdogOp ..)
  | bootComplete => exact completes rfl ((only_bootCompleteOp ..).andThen (only_settleMode _))
  | headRestore => exact completes rfl (only_headRestoreOp ..)
  | openSession => exact completes rfl (only_openOp ..)
  | closeSession => exact completes rfl (only_closeOp ..)
  | getInfo => exact completes rfl (only_getInfoOp ..)
  | imgBegin => exact completes rfl (only_imgBeginOp ..)
  | imgData => exact completes rfl (only_imgDataOp ..)
  | imgEnd => exact completes rfl (only_imgEndOp ..)
  | timeStatus => exact completes rfl (only_timeStatusOp ..)
  | timePtpCfg => exact completes rfl (only_timePtpCfgOp ..)
  | timePtpPort => exact completes rfl (only_timePtpPortOp ..)
  | timeLeap => exact completes rfl (only_timeLeapOp ..)
  | timeServo => exact completes rfl (only_timeServoOp ..)
  | glStatus => exact completes rfl (only_glStatusOp ..)
  | glCommit => exact completes rfl (only_glCommitOp ..)
  | glRoster => exact completes rfl (only_glRosterOp ..)
  | clRead => exact completes rfl (only_clReadOp ..)
  | cancel => exact completes rfl (only_keyWrite ..)
  | mailboxComplete => exact completes rfl (only_mailboxCompleteOp ..)
  | timeTick => exact completes rfl (only_timeTickOp ..)
  | incTransfer => exact completes rfl (only_keyWrite ..)
  | timeLatchRead => exact completes rfl (only_readOut ..)
  | servoMeasure => exact completes rfl (((only_servoStep ..).andThen (only_glWake _)).andThen (only_settleMode _))
  | sourceLost => exact completes rfl ((only_srcLost ..).andThen (only_settleMode _))
  | sourceRequalified => exact completes rfl (((only_srcRequalified ..).andThen (only_glWake _)).andThen (only_settleMode _))
  | tbRestep => exact completes rfl (only_keyWrite ..)
  | restepStep => exact completes rfl ((only_restepStepOp ..).andThen (only_settleMode _))
  | holdLimit => exact completes rfl ((only_holdLimitStep ..).andThen (only_settleMode _))
  | leapApply => exact completes rfl (only_leapApplyOp ..)
  | tsqPop => exact completes rfl (only_readOut ..)
  | timeRecordWrite => exact completes rfl (only_timeRecordOp ..)
  | pllUnlock => exact completes rfl (only_pllUnlockOp ..)
  | pllLock => exact completes rfl ((only_pllLockOp ..).andThen (only_settleMode _))
  | refInLock => exact completes rfl (only_refLockOp ..)
  | refInLoss => exact completes rfl ((only_refLossOp ..).andThen (only_settleMode _))
  | refPhaseMeasure => exact completes rfl (only_refPhaseOp ..)
  | ltcWord => exact completes rfl ((only_ltcWordOp ..).andThen (only_settleMode _))
  | src3InputChange => exact completes rfl ((only_keyWrite ..).andThen (only_settleMode _))
  | outputOffsetApply => exact completes rfl (only_outApplyOp ..)
  | ppsEdge => exact completes rfl ((only_ppsEdgeOp ..).andThen (only_settleMode _))
  | todSentenceRx => exact completes rfl ((only_todRxOp ..).andThen (only_settleMode _))
  | todSentenceTx => exact completes rfl (only_todTxOp ..)
  | outLoad => exact completes rfl (only_outLoadOp ..)
  | refSave => exact completes rfl (only_keyWrite ..)
  | headStart => exact completes rfl (only_keyWrite ..)
  | headStop => exact completes rfl (only_keyWrite ..)
  | headFirstLine => exact completes rfl (only_headFirstOp ..)
  | headStopped => exact completes rfl (only_headStoppedOp ..)
  | headLineStart => exact completes rfl (only_headLineOp ..)
  | hostReadCompletion => exact completes rfl (only_hostCompletionOp ..)
  | commitDeadline => exact completes rfl (only_deadlineStep ..)
  | frameBoundary => exact completes rfl ((only_boundaryStep ..).andThen (only_glWatch _))
  | sampleEvent => exact completes rfl (only_sampleOp ..)
  | rateFifoExcursion => exact completes rfl (only_fifoOp ..)
  | dpLinkFail => exact completes rfl (only_dpFailOp ..)
  | dpRetrain => exact completes rfl (only_dpRetrainOp ..)
  | sdiSerializerFail => exact completes rfl (only_sdiFailOp ..)
  | ceCommit => exact completes rfl (only_keyWrite ..)
  | ceGroupCommit => exact completes rfl (only_keyWrite ..)
  | cePrepCommit => exact completes rfl (only_keyWrite ..)
  | commitCheckDone => exact completes rfl (only_checkDone ..)
  | ceRelease => exact completes rfl (only_keyWrite ..)
  | ceDiscard => exact completes rfl (only_keyWrite ..)
  | lastGoodHandover => exact completes rfl (only_handoverOp ..)
  | plOwnerWrite => exact completes rfl (only_keyWrite ..)
  | plCommit => exact completes rfl (only_keyWrite ..)
  | plCheckDone => exact completes rfl (only_plCheckDone ..)
  | plScanDone => exact completes rfl (only_plScanDone ..)
  | ckStart => exact completes rfl (only_keyWrite ..)
  | ckAbort => exact completes rfl (only_ckAbortCmd ..)
  | ckScanDone => exact completes rfl (only_ckDone ..)
  | ckRunRead => exact completes rfl (only_ckRunReadOp ..)
  | cuIll => exact completes rfl (only_illOp ..)
  | cuNop => exact completes rfl (any_cueInstr fun _ _ => (only_retire ..).any)
  | cuHalt n => exact cuHalt_completes n s
  | cuTrap n => exact cuTrap_completes n s
  | cuAdd => exact completes rfl any_aluOp
  | cuSub => exact completes rfl any_aluOp
  | cuAnd => exact completes rfl any_aluOp
  | cuOr => exact completes rfl any_aluOp
  | cuXor => exact completes rfl any_aluOp
  | cuShl => exact completes rfl any_aluOp
  | cuShr => exact completes rfl any_aluOp
  | cuSar => exact completes rfl any_aluOp
  | cuMul => exact completes rfl any_aluOp
  | cuMulhu => exact completes rfl any_aluOp
  | cuSel => exact completes rfl any_aluOp
  | cuAddi => exact completes rfl any_aluOp
  | cuAndi => exact completes rfl any_aluOp
  | cuOri => exact completes rfl any_aluOp
  | cuXori => exact completes rfl any_aluOp
  | cuShli => exact completes rfl any_aluOp
  | cuShri => exact completes rfl any_aluOp
  | cuSari => exact completes rfl any_aluOp
  | cuLi => exact completes rfl any_aluOp
  | cuLui => exact completes rfl any_aluOp
  | cuSubi => exact completes rfl any_aluOp
  | cuBfx => exact completes rfl any_aluOp
  | cuBfi => exact completes rfl any_aluOp
  | cuBcc => exact completes rfl (any_cueInstr fun _ _ => any_jump fun y => Only.refl y)
  | cuCall => exact completes rfl (any_cueInstr fun _ _ => any_jump fun y => (only_setCreg ..).any)
  | cuJalr => exact completes rfl (any_cueInstr fun _ _ => any_jump fun y => (only_setCreg ..).any)
  | cuLd n => exact cuLd_completes n s
  | cuSt n => exact cuSt_completes n s
  | cuLdx => exact completes rfl (any_cueInstr fun _ _ => (only_atomic ..).any)
  | cuStx n => exact cuStx_completes n s
  | cuAmoadd => exact completes rfl (any_cueInstr fun _ _ => (only_atomic ..).any)
  | cuAmoswp => exact completes rfl (any_cueInstr fun _ _ => (only_atomic ..).any)
  | cuCas n => exact cuCas_completes n s
  | cuRdr => exact completes rfl (any_cueInstr fun _ _ => (only_accessRead ..).any)
  | cuWrr => exact completes rfl (any_cueInstr fun _ _ => (only_accessWrite ..).any)
  | cuKick n => exact cuKick_completes n s
  | kickJudged n => exact kickJudged_completes n s
  | cuWrf n => exact cuWrf_completes n s
  | cuRds => exact completes rfl (any_cueInstr fun _ _ => (only_finishOp ..).any)
  | cuWrs => exact completes rfl (any_cueInstr fun _ _ => (only_setSpecial ..).andThen (only_retire ..))
  | cuRett n => exact cuRett_completes n s
  | cuLyr n => exact cuLyr_completes n s
  | cuLyw n => exact cuLyw_completes n s
  | cuCommit n => exact cuCommit_completes n s
  | cuRelease n => exact cuRelease_completes n s
  | cuWaite n => exact cuWaite_completes n s
  | cuWaitl => exact completes rfl (any_cueInstr fun _ _ => (only_waitLine ..).any)
  | cuWaitt => exact completes rfl (any_cueInstr fun _ _ => (only_waitTime ..).any)
  | cuWaitp => exact completes rfl (any_cueInstr fun _ _ => (only_waitLineOf ..).any)
  | waitComplete => exact completes rfl (only_waitDone ..)
  | cuStart => exact completes rfl (only_keyWrite ..)
  | cuResume => exact completes rfl (only_keyWrite ..)
  | cuStep => exact completes rfl (only_keyWrite ..)
  | cuHaltRequest => exact completes rfl (only_keyWrite ..)
  | cuDoorbell => exact completes rfl (only_keyWrite ..)
  | paramWrite => exact completes rfl (only_keyWrite ..)
  | dmLoRead => exact completes rfl (only_readOut ..)
  | dmHiRead => exact completes rfl (only_readOut ..)
  | dmLoWrite => exact completes rfl (only_keyWrite ..)
  | dmHiWrite => exact completes rfl (only_keyWrite ..)
  | scrDataRead => exact completes rfl (only_readOut ..)
  | scrDataWrite => exact completes rfl (only_keyWrite ..)
  | imgLevelWrite => exact completes rfl (only_keyWrite ..)
  | zoneSave => exact completes rfl (only_keyWrite ..)
  | glyDataWrite => exact completes rfl (only_keyWrite ..)
  | rxFrame => exact completes rfl (only_rxFrameOp ..)
  | moduleRemoved => exact completes rfl ((only_moduleOutOp ..).andThen (only_settleMode _))
  | moduleInserted => exact completes rfl (only_moduleInOp ..)
  | linkUp => exact completes rfl (only_linkUpOp ..)
  | linkDown => exact completes rfl ((only_linkDownOp ..).andThen (only_settleMode _))
  | i2cStart => exact completes rfl (only_keyWrite ..)
  | i2cDone => exact completes rfl (only_i2cDoneOp ..)
  | flowEnable => exact completes rfl (only_keyWrite ..)
  | flowDisable => exact completes rfl (only_keyWrite ..)
  | pathTimeout => exact completes rfl (only_pathTimeoutOp ..)
  | sdiInLine => exact completes rfl (only_sdiInLineOp ..)
  | sdiInLockLoss => exact completes rfl (only_sdiLossOp ..)
  | queueEnable => exact completes rfl (only_keyWrite ..)
  | queueDisable => exact completes rfl (only_keyWrite ..)
  | txFrameEnqueue => exact completes rfl (only_enqueue ..)
  | txFrameStart => exact completes rfl (only_txStart ..)
  | txFrameDone => exact completes rfl (only_txDone ..)
  | launchPresent => exact completes rfl (only_launchPresentOp ..)
  | lateDrop => exact completes rfl (only_lateDropOp ..)
  | gclEnable => exact completes rfl (only_keyWrite ..)
  | gclDisable => exact completes rfl (only_keyWrite ..)
  | gclChange => exact completes rfl (only_keyWrite ..)
  | gclSwap => exact completes rfl (only_gclSwapOp ..)
  | gateEntry => exact completes rfl (only_gateEntryOp ..)
  | obsPeriod => exact completes rfl (only_obsStep ..)
  | adEnable => exact completes rfl (only_keyWrite ..)
  | adDisable => exact completes rfl (only_keyWrite ..)
  | adSwIdxWrite => exact completes rfl (only_keyWrite ..)
  | adBurstDone => exact completes rfl (only_adBurstDoneOp ..)
  | adStart => exact completes rfl (only_keyWrite ..)
  | adAbort => exact completes rfl (only_keyWrite ..)
  | adBusError => exact completes rfl (only_adBusErrorOp ..)
  | hqEnable => exact completes rfl (only_keyWrite ..)
  | hqDisable => exact completes rfl (only_keyWrite ..)
  | hqDoorbell => exact completes rfl (only_keyWrite ..)
  | hqStart => exact completes rfl (only_keyWrite ..)
  | hqAbort => exact completes rfl (only_keyWrite ..)
  | hqNop => exact completes rfl (only_hqNopOp ..)
  | hqH2lCopy => exact completes rfl (only_hqH2lOp ..)
  | hqL2hCopy => exact completes rfl (only_hqL2hOp ..)
  | hqRegWrite => exact completes rfl (only_hqRegOp ..)
  | hqTxFrame => exact completes rfl (only_hqTxOp ..)
  | hqRxBuffer => exact completes rfl (only_hqRxOp ..)
  | hqDescComplete => exact completes rfl (only_hqCompleteOp ..)
  | hqBusError => exact completes rfl (only_hqBusErrorOp ..)
  | spPowerOn => exact completes rfl (only_keyWrite ..)
  | spPowerOff => exact completes rfl (only_keyWrite ..)
  | spDataEnable => exact completes rfl (only_keyWrite ..)
  | spMeasureDone => exact completes rfl (only_spMeasureOp ..)
  | spEnergiseDone => exact completes rfl (only_spEnergiseOp ..)
  | spTripFast => exact completes rfl (only_spFastOp ..)
  | spI2tSample => exact completes rfl (only_spI2tOp ..)
  | spSecondCheck => exact completes rfl (only_spSecondOp ..)
  | spSupplyLow => exact completes rfl (only_spSupplyOp ..)
  | spRetry => exact completes rfl (only_spRetryOp ..)
  | spTripsReset => exact completes rfl (only_spTripsOp ..)
  | spGateFault => exact completes rfl (only_spGateOp ..)
  | loopMaxWrite => exact completes rfl (only_keyWrite ..)
  | spSave => exact completes rfl (only_keyWrite ..)
  | spHello => exact completes rfl (only_spHelloOp ..)
  | spCaps => exact completes rfl (only_spCapsOp ..)
  | spStatus => exact completes rfl (only_spStatusOp ..)
  | spSync => exact completes rfl (only_spSyncOp ..)
  | spLatch => exact completes rfl (only_spLatchOp ..)
  | spTime => exact completes rfl (only_spTimeOp ..)
  | spSeg => exact completes rfl (only_spSegOp ..)
  | spBitmap => exact completes rfl (only_spBitmapOp ..)
  | glEnable => exact completes rfl (only_keyWrite ..)
  | glDisable => exact completes rfl (only_keyWrite ..)
  | glRosterRx => exact completes rfl (only_rosterOp ..)
  | glRosterSend => exact completes rfl (only_rosterSendOp ..)
  | glJoin => exact completes rfl (only_joinOp ..)
  | glAdmit => exact completes rfl (only_admitOp ..)
  | glHeartbeat => exact completes rfl (only_heartbeatOp ..)
  | glHeartbeatSend => exact completes rfl (only_heartbeatSendOp ..)
  | glClaim => exact completes rfl (only_claimOp ..)
  | glClaimSend => exact completes rfl (only_claimSendOp ..)
  | glClaimElection => exact completes rfl (only_claimElectionOp ..)
  | glRequest => exact completes rfl (only_requestOp ..)
  | glPrepare => exact completes rfl (only_prepareOp ..)
  | glAckSend => exact completes rfl (only_ackSendOp ..)
  | glAck => exact completes rfl (only_ackOp ..)
  | glNak => exact completes rfl (only_nakOp ..)
  | glCommitResend => exact completes rfl (only_commitResendOp ..)
  | glAckDeadline => exact completes rfl (only_ackDeadlineOp ..)
  | glCommitMessage => exact completes rfl (only_commitMessageOp ..)
  | glAbort => exact completes rfl (only_abortOp ..)
  | glMemberCommitTimeout => exact completes rfl (only_memberCommitTimeoutOp ..)
  | glReport => exact completes rfl (only_reportOp ..)
  | glWrite => exact completes rfl (only_writeOp ..)
  | glMemberTimeout => exact completes rfl (only_memberTimeoutOp ..)
  | glRosterTimeout => exact completes rfl (only_rosterTimeoutOp ..)
  | glSeekTimeout => exact completes rfl (only_seekTimeoutOp ..)
  | faultClear => exact completes rfl (only_keyWrite ..)
  | faultClearAll => exact completes rfl (only_keyWrite ..)
  | faultRearm => exact completes rfl (only_keyWrite ..)
  | windowClose => exact completes rfl (only_windowCloseOp ..)
  | mirrorEntry => exact completes rfl (only_mirrorStep ..)
  | entryRead => exact completes rfl (only_keyWrite ..)
  | seqLatchRead => exact completes rfl (only_readOut ..)
  | cellarRecordDone => exact completes rfl (only_recordDone ..)
  | lgErase => exact completes rfl (only_keyWrite ..)
  | supplyLossWarning => exact completes rfl ((only_supplyLossOp ..).andThen (only_settleMode _))
  | holdupSeal => exact completes rfl (only_holdupSealOp ..)
  | evaluationPeriod => exact completes rfl (only_evaluationOp ..)
  | railPoll => exact completes rfl (only_railPollOp ..)
  | thermalSample => exact completes rfl (only_thermalOp ..)
  | domainWake => exact completes rfl (only_domainWakeOp ..)
  | hbmFail => exact completes rfl (only_hbmFailOp ..)
  | fabricUncorr => exact completes rfl (only_fabricUncorrOp ..)
  | ltStart => exact completes rfl (only_keyWrite ..)
  | ltStop => exact completes rfl (only_keyWrite ..)
  | eyeGo => exact completes rfl (only_keyWrite ..)
  | ltGroupStart => exact completes rfl (only_keyWrite ..)
  | ltGroupStop => exact completes rfl (only_keyWrite ..)
  | ltDone => exact completes rfl ((only_ltDoneOp ..).andThen (only_settleMode _))
  | eyeScanDone => exact completes rfl (only_eyeDoneOp ..)
  | bitsLatchRead => exact completes rfl (only_readOut ..)
  | jtagUpdate => exact completes rfl (only_jtagOp ..)
  | supplyWarnRelease => exact completes rfl (only_supplyReleaseOp ..)
  | pcieLinkUp => exact completes rfl (only_pcieUpOp ..)
  | sdiInLockAcquired => exact completes rfl (only_sdiLockOp ..)
  | sdiGroupRelock => exact completes rfl (only_sdiRelockOp ..)
  | moduleIntChange => exact completes rfl (only_moduleIntOp ..)
  | checkerSyncAcquired => exact completes rfl (only_syncGainOp ..)
  | checkerSyncLost => exact completes rfl (only_syncLossOp ..)
  | ltcWordsMissing => exact completes rfl ((only_ltcMissingOp ..).andThen (only_settleMode _))
  | ppsInputLoss => exact completes rfl ((only_ppsLossOp ..).andThen (only_settleMode _))
  | tenMhzQualifyChange => exact completes rfl ((only_tenMhzOp ..).andThen (only_settleMode _))
  | outLoadEnd => exact completes rfl (only_outLoadEndOp ..)

end Sys2Proof.Machine

/-! PROOF. The step of the machine (R15). -/

namespace Sys2Proof.Machine

/-- Settles O1: the queue that the step looks at is the one that the statement puts there. -/
theorem stepRunsFront : Obligations.StepRunsFront := by
  unfold Obligations.StepRunsFront
  intro c cs s
  rfl

end Sys2Proof.Machine

/-! PROOF. Refutation of the statement on register writes. A raise of a source that was cleared on the same tick undoes the clear and
counts it as rejected (R426, R427; log 113); the statement leaves FC_CLEAR_REJ out of what a denied write may touch. -/

namespace Sys2Proof.Machine

/-- The fabric serves, and REG_LOCK_VIOL was cleared on this tick (R427). -/
def lockViolCleared : State :=
  { State.reset with dv := { State.reset.dv with step := 3 }, fc := { State.reset.fc with cleared := (0, [4]) } }

/-- A write of TB_LOCK_TIME by PF1, which may only read the block of the time base (R63), leaves one rejected clear. -/
theorem rd_clearRej_deniedWrite :
    (lockViolCleared.wordWrites (.pf 1) (keyAddr (.TB_LOCK_TIME, [])) [(1, 15)]).finish.rd (.FC_CLEAR_REJ, []) = 1 := by
  decide

/-- Refutes O9: a write without permission raises REG_LOCK_VIOL. Where that source was cleared on this tick, the raise counts a rejected
clear in FC_CLEAR_REJ, which the statement says stays. -/
theorem not_writesStoreOrAreTurnedAway : ¬ Obligations.WritesStoreOrAreTurnedAway := by
  unfold Obligations.WritesStoreOrAreTurnedAway
  rintro ⟨-, haway⟩
  obtain ⟨-, -, hdenied, -⟩ := haway (.pf 1) (keyAddr (.TB_LOCK_TIME, [])) 1 15 lockViolCleared
  obtain ⟨t, hexec, -, -, honly⟩ := hdenied (.TB_LOCK_TIME, []) (by decide) (by decide) (by decide)
    (by decide) (by decide) (by decide) (by decide)
  have hrej : t.rd (.FC_CLEAR_REJ, []) = 1 := by
    rw [← Host.Outcome.next.inj hexec]
    exact rd_clearRej_deniedWrite
  have hkept : t.rd (.FC_CLEAR_REJ, []) = lockViolCleared.rd (.FC_CLEAR_REJ, []) := honly.regs _ rfl .FC_CLEAR_REJ (by decide) []
  have hzero : lockViolCleared.rd (.FC_CLEAR_REJ, []) = 0 := by decide
  rw [hrej, hzero] at hkept
  exact absurd hkept (by decide)

end Sys2Proof.Machine

/-! PROOF. Refutation of the statement on the boot. OPERATE is set at the end of boot by a register write like any other (R15, R71), and
the fabric takes no write once a seal is written (R447). -/

namespace Sys2Proof.Machine

/-- The services are ready on a device with CL_AUTO_RESTORE and a healthy Cellar, and the seal of the hold-up stands (R447). -/
def sealedInBoot : State :=
  ({ State.reset with dv := { State.reset.dv with step := 5, booting := true, heldWrites := true } }.set F.CL_STAT_HEALTHY 1).set
    F.CL_AUTO_RESTORE_EN 1

theorem operate_bootComplete_sealed : (bootCompleteOp sealedInBoot).settleMode.finish.get F.DV_CTRL_OPERATE = 0 := by
  decide

/-- Refutes O18: it says that OPERATE is set at the end of every boot with CL_AUTO_RESTORE on a healthy Cellar; where a seal holds the
writes of the fabric, it is not. -/
theorem not_bootRunsInOrder : ¬ Obligations.BootRunsInOrder := by
  unfold Obligations.BootRunsInOrder
  rintro ⟨-, -, hend⟩
  obtain ⟨hcomplete, -⟩ := hend sealedInBoot
  obtain ⟨t, hexec, -, -, -, hoperate⟩ := hcomplete (by decide)
  rw [← Host.Outcome.next.inj hexec] at hoperate
  have hauto : (sealedInBoot.healthy && sealedInBoot.flag F.CL_AUTO_RESTORE_EN) = true := by decide
  rw [hauto, if_pos rfl] at hoperate
  exact absurd (operate_bootComplete_sealed.symm.trans hoperate) (by decide)

end Sys2Proof.Machine

/-! PROOF. Refutation of the statement on re-steps and the time PLL. At boot step 4 the records of the reference, zone and Spemen
registers are loaded in turn (R143, R325, R405), and a record stores whatever registers it names. -/

namespace Sys2Proof.Machine

/-- Boot step 3 with a healthy Cellar, whose reference record fails its CRC and whose zone record names the counter of RF_CFG_RESTORE. -/
def counterInZoneRecord : State :=
  { State.reset with
    dv := { State.reset.dv with step := 3 }
    cl := { State.reset.cl with store := [(4, some (.regs [((.FC_CNT, [0x04D]), 7)] 0 0, 0))], corrupt := [3] } }.set F.CL_STAT_HEALTHY 1

theorem raises_pllLock_counterInZoneRecord :
    (pllLockOp counterInZoneRecord).settleMode.finish.get ⟨(.FC_CNT, [0x04D]), 15, 0⟩ = 7 := by
  decide +kernel

/-- Refutes O24: it says that a lock of the time PLL raises source 0x04D once where the reference record is corrupt, whatever the other
records hold. The zone record, which is loaded behind it, may store the counter of that source. -/
theorem not_reStepsAndTheTimePll : ¬ Obligations.ReStepsAndTheTimePll := by
  unfold Obligations.ReStepsAndTheTimePll
  rintro ⟨-, hpll⟩
  obtain ⟨-, -, -, -, -, -, hcorrupt⟩ := hpll counterInZoneRecord
  obtain ⟨t, hexec, hraised⟩ := hcorrupt (by decide) (by decide) (by decide)
  rw [← Host.Outcome.next.inj hexec] at hraised
  have hbefore : counterInZoneRecord.get ⟨(.FC_CNT, [0x04D]), 15, 0⟩ = 0 := by decide
  unfold Raised at hraised
  rw [hbefore] at hraised
  exact absurd (raises_pllLock_counterInZoneRecord.symm.trans hraised) (by decide)

end Sys2Proof.Machine

/-! PROOF. What a register command may touch (O53): the write's own path, the same for every register, and the effect of the one register,
which its command and what follows from its stored value have. -/

namespace Sys2Proof.Machine

/-! ### A part of the state within another -/

/-- The parts B and the registers Q are among the parts A and the registers R. -/
def within (A : List Area) (R : Option (List Reg)) (B : List Area) (Q : Option (List Reg)) : Bool :=
  B.all A.contains && match R, Q with
    | none, _ => true
    | some _, none => false
    | some l, some q => q.all l.contains

theorem Covers.of_within {A B : List Area} {R Q : Option (List Reg)} (h : within A R B Q = true) : Covers A R B Q := by
  unfold within at h
  obtain ⟨hA, hR⟩ := Bool.and_eq_true_iff.mp h
  refine ⟨fun b hb => by simpa using List.all_eq_true.mp hA b hb, fun l hl => ?_⟩
  subst hl
  cases Q with
  | none => cases hR
  | some q => exact ⟨q, rfl, fun r hr => by simpa using List.all_eq_true.mp hR r hr⟩

/-- An operation that follows, within the same parts and registers. -/
theorem Only.then {A B : List Area} {R Q : Option (List Reg)} {s x y : State} (h : Only A R s x) (k : Only B Q x y)
    (w : within A R B Q = true) : Only A R s y :=
  k.over (.of_within w) h

/-- An operation within more parts and registers. -/
theorem Only.widen {A B : List Area} {R Q : Option (List Reg)} {s y : State} (k : Only B Q s y)
    (w : within A R B Q = true) : Only A R s y :=
  (Only.refl s).then k w

theorem only_wr {s : State} {k : Key} {w : Word} (r : Reg) (hr : k.1 = r) : Only [] (some [r]) s (s.wr k w) :=
  (Only.refl s).wr r 0 hr rfl

theorem only_set {s : State} {f : Fld} {v : Nat} (r : Reg) (hr : f.key.1 = r) : Only [] (some [r]) s (s.set f v) := only_wr r hr

theorem only_count {s : State} {f : Fld} {n : Nat} (r : Reg) (hr : f.key.1 = r) : Only [] (some [r]) s (s.count f n) := only_wr r hr

theorem only_w1 {s : State} {m : Map Key Word} : Only [.w1] (some []) s { s with w1 := m } := (Only.refl s).w1 0 rfl

/-- Storing a register that waits for no application point. -/
theorem only_store_plain {s : State} {k : Key} {w : Word} (hw : waits (regDef k.1) = false) : Only [] (some [k.1]) s (s.store k w) := by
  unfold State.store
  simp only [hw, Bool.not_false, if_true]
  exact Only.ite (Only.refl s) (only_wr k.1 rfl)

/-! ### The path of a write -/

/-- What the command of a register, and what follows from its stored value, touch. -/
structure Effect (r : Reg) (A : List Area) (R : Option (List Reg)) : Prop where
  command : ∀ s org is old new v, Only A R s (State.command s org (r, is) old new v).1
  after : ∀ s org is old new v, Only A R s (State.after s org (r, is) old new v)

/-- The parts that the path of a write touches: the marks of W1 fields, and the raise and the entry of one that is turned away. -/
def pathAreas : List Area := .w1 :: raiseAreas

/-- The registers that a write which is turned away touches. -/
def refusalRegs : List Reg := .DV_ACC_ERR :: .xx_REFUSED :: raiseRegs

section
variable {C A : List Area} {P R : Option (List Reg)} {r : Reg} {is : List Nat} {s x : State} {o : Origin} {org : Org} {v : Word}

/-- The registers of the path but for the register itself. -/
theorem covers_tail {q : List Reg} (h : Covers C P A (some (r :: q))) : Covers C P A (some q) :=
  h.trans ⟨fun _ => id, fun l hl => ⟨q, rfl, by cases hl; exact fun _ => List.mem_cons_of_mem r⟩⟩

/-- The register itself. -/
theorem covers_head {q : List Reg} (h : Covers C P A (some (r :: q))) : Covers C P [] (some [r]) :=
  h.trans ⟨nofun, fun l hl => ⟨[r], rfl, by cases hl; exact fun _ hr => List.mem_singleton.mp hr ▸ List.mem_cons_self⟩⟩

/-- The block's part of a write: the marks, the command, the store and what follows. -/
theorem only_blockWrite_of (e : Effect r A R) (hx : r ≠ .xx_STATUS) (hw : waits (regDef r) = false)
    (hp : Covers C P pathAreas (some (r :: refusalRegs))) (he : Covers C P A R) : Only C P s (s.blockWrite org (r, is) v true).1 := by
  have hm (m : Map Key Word) : Only C P s { s with w1 := m } :=
    only_w1.over ((covers_tail hp).trans (.of_within (by decide))) (Only.refl s)
  unfold State.blockWrite
  rw [if_neg hx]
  refine Only.ite1 (Only.refl s) ?_
  exact (e.after ..).over he ((only_store_plain hw).over (covers_head hp) ((e.command ..).over he (hm _)))

/-- The write of a register that is in no slow block. -/
theorem only_keyWrite_of (e : Effect r A R) (hd : decodeAddr (keyAddr (r, is)) = .reg (r, is)) (hs : slowCode (r, is) = none) (hx : r ≠ .xx_STATUS)
    (hw : waits (regDef r) = false) (hp : Covers C P pathAreas (some (r :: refusalRegs))) (he : Covers C P A R) :
    Only C P s (s.keyWrite o (r, is) v) := by
  have ht {B : List Area} {Q : Option (List Reg)} {x y : State} (h : Only C P s x) (k : Only B Q x y)
      (w : within pathAreas (some refusalRegs) B Q = true) : Only C P s y := k.over ((covers_tail hp).trans (.of_within w)) h
  have hlog {x : State} {f a b} (h : Only C P s x) : Only C P s (x.log 0 f (orgOf o) a b) := ht h (only_log ..) (by decide)
  have hrefuse {x : State} {j} (h : Only C P s x) : Only C P s (x.refuse (keyHdr (r, is)) j (orgOf o)) := ht h (only_refuse ..) (by decide)
  unfold State.keyWrite State.busWrite
  simp only [hd, State.slowFull, hs, Target.hdr]
  refine Only.ite1 (Only.refl s) (Only.ite1 (hlog ?_) (Only.ite1 (hlog ?_) (Only.ite1 (hlog ?_) (Only.ite1 (hlog ?_) (hlog ?_)))))
  · exact ht (Only.refl s) (only_count .DV_ACC_ERR rfl) (by decide)
  · exact ht (ht (Only.refl s) (only_count .DV_ACC_ERR rfl) (by decide)) (only_raise ..) (by decide)
  · exact ht (Only.refl s) (only_count .DV_ACC_ERR rfl) (by decide)
  · exact hrefuse (Only.refl s)
  · exact hrefuse (only_blockWrite_of e hx hw hp he)

/-- The registers that the write of a slow block's register touches. -/
def slowRegs : List Reg := .xx_AGE :: refusalRegs

/-- The write of a register of a slow block: it waits in the queue, or before it, or is turned away. -/
theorem only_keyWrite_slow {c : Nat} (hd : decodeAddr (keyAddr (r, is)) = .reg (r, is)) (hs : slowCode (r, is) = some c)
    (hp : Covers C P (.slowQ :: .slowHold :: pathAreas) (some slowRegs)) : Only C P s (s.keyWrite o (r, is) v) := by
  have ht {B : List Area} {Q : Option (List Reg)} {x y : State} (h : Only C P s x) (k : Only B Q x y)
      (w : within (.slowQ :: .slowHold :: pathAreas) (some slowRegs) B Q = true) : Only C P s y := k.over (hp.trans (.of_within w)) h
  have hlog {x : State} {f a b} (h : Only C P s x) : Only C P s (x.log 0 f (orgOf o) a b) := ht h (only_log ..) (by decide)
  unfold State.keyWrite State.busWrite
  simp only [hd, State.slowFull, hs, Target.hdr]
  refine Only.ite1 (Only.refl s) ?_
  split
  · exact ht (Only.refl s) (only_holdWrite ..) (by decide)
  refine Only.ite1 (hlog ?_) (Only.ite1 (hlog ?_) (Only.ite1 (hlog ?_) (Only.ite1 (hlog ?_) ?_)))
  · exact ht (Only.refl s) (only_count .DV_ACC_ERR rfl) (by decide)
  · exact ht (ht (Only.refl s) (only_count .DV_ACC_ERR rfl) (by decide)) (only_raise ..) (by decide)
  · exact ht (Only.refl s) (only_count .DV_ACC_ERR rfl) (by decide)
  · exact ht (Only.refl s) (only_refuse ..) (by decide)
  · exact ht (Only.refl s) (only_slowWrite ..) (by decide)

end

/-! ### Commands that are one write -/

/-- What a command adds at its end: what leaves the device, the interrupts that it owes and those that are masked. -/
def outAreas (A : List Area) : List Area := .out :: .irqOwed :: .msix :: A

section
variable {c : Instr} {A B : List Area} {R : Option (List Reg)} {Q : List Reg} {r : Reg} {is : List Nat} {o : Origin} {v : Word}

/-- A command leaves what its operation leaves, and its end. -/
theorem only_exec {P : Option (List Reg)} {s t u : State} (he : exec c s = .next u.finish) (h : Only (outAreas B) P s u)
    (ht : exec c s = .next t) : Only (outAreas B) P s t := by
  obtain rfl : u.finish = t := by injection he.symm.trans ht
  refine (only_finish u).over ⟨fun b hb => ?_, fun l _ => ⟨[], rfl, nofun⟩⟩ h
  simp only [outAreas, List.mem_cons, List.not_mem_nil, or_false] at hb ⊢
  tauto

/-- The frame of a command that writes one register. -/
theorem touches_write (he : ∀ s, exec c s = .next (s.keyWrite o (r, is) v).finish) (e : Effect r A R)
    (hd : decodeAddr (keyAddr (r, is)) = .reg (r, is)) (hs : slowCode (r, is) = none := by rfl) (hx : r ≠ .xx_STATUS := by decide)
    (hw : waits (regDef r) = false := by rfl)
    (hp : within (outAreas B) (some Q) pathAreas (some (r :: refusalRegs)) = true := by decide)
    (hc : within (outAreas B) (some Q) A R = true := by decide) : Touches c B Q :=
  fun s _ ht => only_exec (he s) (only_keyWrite_of e hd hs hx hw (.of_within hp) (.of_within hc)) ht

/-- The same for a command that may touch a register of any name. -/
theorem touchesParts_write (he : ∀ s, exec c s = .next (s.keyWrite o (r, is) v).finish) (e : Effect r A R)
    (hd : decodeAddr (keyAddr (r, is)) = .reg (r, is)) (hs : slowCode (r, is) = none := by rfl) (hx : r ≠ .xx_STATUS := by decide)
    (hw : waits (regDef r) = false := by rfl)
    (hp : within (outAreas B) none pathAreas (some (r :: refusalRegs)) = true := by decide)
    (hc : within (outAreas B) none A R = true := by decide) : TouchesParts c B :=
  fun s _ ht => only_exec (he s) (only_keyWrite_of e hd hs hx hw (.of_within hp) (.of_within hc)) ht

/-- The frame of a command that writes a register of a slow block. -/
theorem touches_slow {n : Nat} (he : ∀ s, exec c s = .next (s.keyWrite o (r, is) v).finish)
    (hd : decodeAddr (keyAddr (r, is)) = .reg (r, is)) (hs : slowCode (r, is) = some n)
    (hp : within (outAreas B) (some Q) (.slowQ :: .slowHold :: pathAreas) (some slowRegs) = true := by decide) : Touches c B Q :=
  fun s _ ht => only_exec (he s) (only_keyWrite_slow hd hs (.of_within hp)) ht

end

end Sys2Proof.Machine

/-! PROOF. The effect of each register that a command writes, and the frames of the register commands (O53). -/

namespace Sys2Proof.Machine

/-! ### What the shared operations touch -/

/-- What settling the mode touches: the links that a lost right to run takes down, and the tests and heads that end with it. -/
def modeAreas : List Area := [.free, .irqOwed, .dv, .heads, .engines, .groups, .ads, .layers, .pls, .cues, .evt, .lts, .sps, .sl]
def modeRegs : List Reg :=
  [.CE_CDET, .CE_CSTAT, .CE_L_FENCE_STAT, .CE_L_SHOWN_HI, .CE_L_SHOWN_LO, .CE_PL_CSTAT, .CK_STAT, .CU_EVT_OVR, .DV_IFV_SP, .DV_MODE, .HD_STAT,
    .LT_BITS_HI, .LT_BITS_LO, .LT_ERRORS, .LT_STAT, .SPP_POWER, .SPP_STAT, .SP_LOOP, .xx_STATUS]

/-! ### The effect of a register -/

/-- A register whose write is no command and has no further effect. -/
theorem Effect.none {r : Reg} (hc : ∀ s org is old new v, (State.command s org (r, is) old new v).1 = s)
    (ha : ∀ s org is old new v, State.after s org (r, is) old new v = s) : Effect r [] (some []) :=
  ⟨fun s _ _ _ _ _ => by rw [hc]; exact Only.refl s, fun s _ _ _ _ _ => by rw [ha]; exact Only.refl s⟩

theorem effect_DV_SNAP : Effect .DV_SNAP [.dv] (some [.DV_SNAP_STAT]) where
  command s _ _ _ _ _ := Only.ite1 (Only.refl s) (((only_updDv ..).widen (by decide)).then (only_set .DV_SNAP_STAT rfl) rfl)
  after s _ _ _ _ _ := Only.refl s

theorem effect_DV_PERM (hi : Bool) : Effect (if hi then .DV_PERM_HI else .DV_PERM_LO) [] (some []) := by
  cases hi <;> exact Effect.none (fun _ _ _ _ _ _ => rfl) fun _ _ _ _ _ _ => rfl

theorem effect_DV_CTRL : Effect .DV_CTRL modeAreas (some modeRegs) where
  command s _ _ _ _ _ := Only.ite1 (Only.refl s) (Only.refl s)
  after s _ _ _ _ _ := (Only.ite ((only_updDv ..).widen (by decide)) (Only.refl s)).then (only_settleMode _) rfl

theorem effect_DV_RESET : Effect .DV_RESET [.out, .irqOwed, .eff, .waiting, .w1, .msix, .dv, .mbx, .tb, .heads, .cues, .evt, .fc, .sl] none where
  command s _ _ _ _ _ := Only.ite1 (Only.refl s) (Only.ite1 ((only_serviceReset ..).widen (by decide)) ((only_askReset ..).widen (by decide)))
  after s _ _ _ _ _ := Only.refl s

theorem effect_DV_MBX_DOORBELL : Effect .DV_MBX_DOORBELL [.mbx] (some [.DV_MBX_RESULT, .DV_MBX_RSP, .DV_MBX_STAT]) where
  command s _ _ _ _ _ := Only.ite1 (only_mbxCancel ..) (Only.ite1 (Only.refl s) ((only_mbxPost ..).widen (by decide)))
  after s _ _ _ _ _ := Only.refl s

theorem effect_TB_INC_REQ_HI : Effect .TB_INC_REQ_HI (raising []) (some (raisingRegs [.TB_CLAMP, .TB_INC_HI, .TB_INC_LO])) where
  command s _ _ _ _ _ := Only.refl s
  after _ _ _ _ _ _ := (only_applyInc ..).widen (by decide)

theorem effect_TB_RESTEP : Effect .TB_RESTEP (.tb :: modeAreas) (some modeRegs) where
  command s _ _ _ _ _ := Only.ite1 (((Only.refl s).tb 0 rfl).then (only_settleMode _) rfl) (Only.refl s)
  after s _ _ _ _ _ := Only.refl s

theorem only_saveReference (s : State) (v : Word) : Only [.dv, .cl] (some [.CL_STAT, .RF_CTRL]) s
    (if asksOne v 0 then (s.set F.RF_CTRL_SAVE 0).requestRegs 3 rfRecord else s) :=
  Only.ite (((only_set .RF_CTRL rfl).widen (by decide)).then (only_requestRegs ..) rfl) (Only.refl s)

theorem effect_RF_CTRL :
    Effect .RF_CTRL (raising [.dv, .tb, .cl]) (some (raisingRegs [.CL_STAT, .RF_CTRL, .TB_CLAMP, .TB_INC_HI, .TB_INC_LO, .TB_STATE])) where
  command s _ _ _ _ _ := Only.refl s
  after s _ _ _ _ v := Only.ite (((only_saveReference s v).widen (by decide)).then (only_src3Changed _) rfl)
      ((only_saveReference s v).widen (by decide))

theorem effect_HD_CTRL :
    Effect .HD_CTRL [.free, .irqOwed, .eff, .waiting, .heads, .engines, .groups, .dts, .ads, .layers, .pls, .cks, .cues, .evt, .ps]
      (some [.CE_ADM_CULL, .CE_ADM_PEAK_B, .CE_ADM_PEAK_LP, .CE_ADM_PEAK_RES, .CE_CDET, .CE_CSTAT, .CE_L_FENCE_STAT, .CE_L_SHOWN_HI,
        .CE_L_SHOWN_LO, .CE_PL_CSTAT, .CE_PL_S_STAT, .CK_RUN, .CK_STAT, .CU_EVT_OVR, .HD_PHASE, .HD_RASTER, .HD_STAT, .PS_DOMAINS,
        .xx_STATUS]) where
  command s _ _ _ _ _ := by
    refine Only.ite1 ?_ (Only.refl s)
    split
    · exact Only.refl s
    · exact Only.refl s
    · exact (only_set .HD_STAT rfl).widen (by decide)
  after s _ _ _ _ _ := Only.ite (only_startHead ..) (Only.ite ((only_stopHead ..).widen (by decide)) (Only.refl s))

theorem effect_CE_COMMIT :
    Effect .CE_COMMIT (raising [.engines, .groups, .serial])
      (some (raisingRegs [.CE_ADM_FAIL_LIMIT, .CE_ADM_FAIL_NEED, .CE_CDET, .CE_CREJ, .CE_CSTAT])) where
  command s _ _ _ _ _ := Only.ite1 (Only.refl s) ((only_commitWrite ..).widen (by decide))
  after s _ _ _ _ _ := Only.refl s

theorem effect_CE_RELEASE :
    Effect .CE_RELEASE (raising [.mem, .bad, .layers, .pls])
      (some (raisingRegs [.CE_ADM_CULL, .CE_ADM_PEAK_B, .CE_ADM_PEAK_LP, .CE_ADM_PEAK_RES, .CE_CDET, .CE_CSTAT, .CE_JRN_WR, .CE_L_FENCE_STAT,
        .CE_L_SHOWN_HI, .CE_L_SHOWN_LO, .CE_PL_S_STAT, .CE_PL_WR_DENY, .CE_VINT_APP])) where
  command s _ _ _ _ _ := Only.ite1 (Only.refl s) ((only_releaseWrite ..).widen (by decide))
  after s _ _ _ _ _ := Only.refl s

theorem effect_CE_PL_OWNER : Effect .CE_PL_OWNER [] (some []) := Effect.none (fun _ _ _ _ _ _ => rfl) fun _ _ _ _ _ _ => rfl

theorem effect_CE_PL_COMMIT : Effect .CE_PL_COMMIT [.pls] (some [.CE_PL_CSTAT]) where
  command s _ _ _ _ _ := Only.ite1 (Only.refl s) (only_plCommitWrite ..)
  after s _ _ _ _ _ := Only.refl s

theorem effect_CK_CMD : Effect .CK_CMD [.free, .cks] (some [.CK_PROG, .CK_RUN, .CK_STAT]) where
  command s _ _ _ _ _ :=
    Only.ite1 (Only.ite1 (Only.refl s) ((only_ckStartOp ..).widen (by decide))) (Only.ite1 (((only_fresh s).widen (by decide)).then
        (only_ckAbortOp ..) rfl) (Only.refl s))
  after s _ _ _ _ _ := Only.refl s

theorem effect_CU_CTRL : Effect .CU_CTRL (raising []) (some (trappingRegs [.CU_FLAGS])) where
  command s _ _ _ _ _ := Only.ite1 (Only.refl s) (Only.refl s)
  after s _ _ _ _ _ := Only.ite (Only.ite ((only_startEngine ..).widen (by decide)) (Only.refl s)) (Only.ite ((only_haltEngine ..).widen
      (by decide)) (Only.refl s))

theorem effect_CU_DOORBELL : Effect .CU_DOORBELL [.cues, .evt] (some [.CU_EVT_OVR]) where
  command _ _ _ _ _ _ := only_event1 ..
  after s _ _ _ _ _ := Only.refl s

theorem effect_CU_PARAM : Effect .CU_PARAM [.cues, .evt] (some [.CU_EVT_OVR]) where
  command s _ _ _ _ _ := Only.refl s
  after _ _ _ _ _ _ := only_event1 ..

theorem effect_CU_DM_LO : Effect .CU_DM_LO [.cues] (some []) where
  command _ _ _ _ _ _ := Only.fst (only_updCue ..)
  after s _ _ _ _ _ := Only.refl s

theorem effect_CU_DM_HI : Effect .CU_DM_HI [.dmem, .ecc] (some [.CU_DM_IDX]) where
  command _ _ _ _ _ _ := ((only_setDmem ..).widen (by decide)).then (only_set .CU_DM_IDX rfl) rfl
  after s _ _ _ _ _ := Only.refl s

theorem effect_CUS_SCR_DATA : Effect .CUS_SCR_DATA [.scratch, .ecc] (some [.CUS_SCR_IDX]) where
  command _ _ _ _ _ _ := ((only_setScr ..).widen (by decide)).then (only_set .CUS_SCR_IDX rfl) rfl
  after s _ _ _ _ _ := Only.refl s

theorem effect_CU_IMG : Effect .CU_IMG (raising []) (some (raisingRegs [])) where
  command s _ _ _ _ _ := Only.ite1 (Only.refl s) (Only.fst (((only_latch ..).widen (by decide)).then (only_raise ..) rfl))
  after s _ _ _ _ _ := Only.refl s

theorem effect_DT_CTRL : Effect .DT_CTRL [.dv, .cl] (some [.CL_STAT]) where
  command s _ _ _ _ _ := Only.ite (only_requestRegs ..) (Only.refl s)
  after s _ _ _ _ _ := Only.refl s

theorem effect_DT_GLY_DATA : Effect .DT_GLY_DATA [.glyphs] (some [.DT_GLY_IDX]) where
  command s _ _ _ _ _ := ((Only.refl s).glyphs 0 rfl).then (only_set .DT_GLY_IDX rfl) rfl
  after s _ _ _ _ _ := Only.refl s

theorem effect_NP_I2C_CMD : Effect .NP_I2C_CMD [.out] (some [.NP_I2C_STAT]) where
  command s _ _ _ _ _ := Only.ite1 (Only.refl s) (Only.refl s)
  after s _ _ _ _ _ := Only.ite (Only.refl s) (only_i2cBegin ..)

theorem effect_NR_CTRL : Effect .NR_CTRL [.irqOwed, .vids, .flows] none where
  command s _ _ _ _ _ :=
    Only.ite1 (Only.refl s) (Only.ite1 (Only.refl s) (Only.fst (((only_set .NR_STAT rfl).widen (by decide)).then (only_latch ..) rfl)))
  after s _ _ _ _ _ := Only.ite ((only_startFlow ..).widen (by decide)) (Only.ite ((only_stopFlow ..).widen (by decide)) (Only.refl s))

theorem effect_NQ_CTRL :
    Effect .NQ_CTRL [.irqOwed, .queues, .ads, .hqs] (some [.HQ_DROP, .NP_MEDIA_RATE, .NP_TX_ACTIVE, .NQ_STAT, .xx_STATUS]) where
  command s _ _ _ _ _ :=
    Only.ite1 (Only.refl s) (Only.ite1 (Only.refl s) (Only.ite1 (Only.refl s) (Only.fst (((only_set .NQ_STAT rfl).widen (by decide)).then
        (only_latch ..) rfl))))
  after s _ _ _ _ _ := Only.ite ((only_startQueue ..).widen (by decide)) (Only.ite (only_stopQueue ..) (Only.refl s))

theorem effect_NG_GCL_CTRL :
    Effect .NG_GCL_CTRL [.irqOwed, .ports, .queues] (some [.NG_GCL_OPER, .NG_GCL_OPER_BASE_NS, .NG_GCL_OPER_BASE_SH, .NG_GCL_OPER_BASE_SL,
      .NG_GCL_OPER_CYCLE, .NG_GCL_OPER_LEN, .NG_GCL_STAT, .xx_STATUS]) where
  command s _ _ _ _ _ :=
    Only.ite1 (Only.refl s) (Only.ite1 ((only_gclAccept ..).widen (by decide)) (Only.fst (((only_set .NG_GCL_STAT rfl).widen
        (by decide)).then (only_latch ..) rfl)))
  after s _ _ _ _ _ := Only.ite ((only_gclStop ..).widen (by decide)) (Only.refl s)

theorem effect_AD_CTRL : Effect .AD_CTRL [.ads] (some [.AD_STAT]) where
  command s _ _ _ _ _ := Only.refl s
  after s _ _ _ _ _ := Only.ite ((only_adStart ..).widen (by decide)) (Only.ite (only_adStop ..) (Only.refl s))

theorem effect_AD_SW_IDX : Effect .AD_SW_IDX [] (some []) := Effect.none (fun _ _ _ _ _ _ => rfl) fun _ _ _ _ _ _ => rfl

theorem effect_AD_CMD : Effect .AD_CMD [.ads] (some [.AD_STAT]) where
  command _ _ _ _ _ _ := only_adCommand ..
  after s _ _ _ _ _ := Only.refl s

theorem effect_HQ_CTRL : Effect .HQ_CTRL [.hqs] (some [.HQ_CTRL, .HQ_STAT]) where
  command s _ _ _ _ _ := Only.refl s
  after s _ _ _ _ _ := Only.ite (((only_set .HQ_CTRL rfl).widen (by decide)).then (only_hqStart ..) rfl) (Only.ite ((only_hqStop ..).widen
      (by decide)) (Only.refl s))

theorem effect_HQ_DB : Effect .HQ_DB [.irqOwed] (some [.xx_STATUS]) where
  command s _ _ _ _ _ := Only.ite1 (Only.refl s) (Only.fst (only_latch ..))
  after s _ _ _ _ _ := Only.refl s

theorem effect_HQ_CMD :
    Effect .HQ_CMD (.out :: .msix :: raising [.mem, .bad, .hqs, .pls]) (some (raisingRegs [.CE_PL_S_STAT, .CE_PL_WR_DENY, .HQ_CONS, .HQ_STAT])) where
  command _ _ _ _ _ _ := (only_hqCommand ..).widen (by decide)
  after s _ _ _ _ _ := Only.refl s

theorem effect_GL_CTRL : Effect .GL_CTRL [.irqOwed, .gl] (some [.GL_STATE, .xx_STATUS]) where
  command s _ _ _ _ _ := Only.refl s
  after s _ _ _ _ _ := Only.ite (only_glOn s) (Only.ite (only_glOff s) (Only.refl s))

theorem effect_FC_CLEAR : Effect .FC_CLEAR [.irqOwed, .fc] (some [.FC_CLEAR_REJ, .FC_LAT, .xx_STATUS]) where
  command s _ _ _ _ _ := Only.ite (only_clearAll s) (only_clearSource ..)
  after s _ _ _ _ _ := Only.refl s

theorem effect_FC_CTRL : Effect .FC_CTRL [.irqOwed, .fc]
    (some [.FC_FIRST_ID, .FC_FIRST_ORG, .FC_FIRST_TAI_NS, .FC_FIRST_TAI_SH, .FC_FIRST_TAI_SL, .FC_OVF, .xx_STATUS]) where
  command s _ _ _ _ _ := Only.ite (only_rearm s) (Only.refl s)
  after s _ _ _ _ _ := Only.refl s

theorem effect_SL_RD_SEQ_HI : Effect .SL_RD_SEQ_HI [] (some [.SL_RD_STAT, .SL_RD_W]) where
  command s _ _ _ _ _ := Only.refl s
  after s _ _ _ _ _ := only_loadEntry s

theorem effect_LT_CMD : Effect .LT_CMD modeAreas (some modeRegs) where
  command _ _ _ _ _ _ := only_ltCmdWrite ..
  after s _ _ _ _ _ := Only.refl s

theorem effect_LT_GROUP_CMD : Effect .LT_GROUP_CMD [.free, .irqOwed, .eff, .waiting, .w1, .msix, .dv, .mbx, .heads, .engines, .groups, .ads, .hqs,
    .layers, .pls, .cues, .evt, .lts, .sps, .fc, .sl] none where
  command _ _ _ _ _ _ := only_ltGroupWrite ..
  after s _ _ _ _ _ := Only.refl s

/-! ### The frames -/

/-- A change of RF_CTRL that is followed by the settling of the mode. -/
theorem touches_src3InputChange (o : Origin) (v : Word) :
    Touches (.src3InputChange o v) (raising [.free, .w1, .dv, .tb, .engines, .groups, .ads, .layers, .pls, .lts, .sps, .cl])
      (raisingRegs [.CE_CDET, .CE_CSTAT, .CE_L_FENCE_STAT, .CE_L_SHOWN_HI, .CE_L_SHOWN_LO, .CE_PL_CSTAT, .CK_STAT, .CL_STAT, .DV_ACC_ERR,
        .DV_IFV_SP, .DV_MODE, .HD_STAT, .LT_BITS_HI, .LT_BITS_LO, .LT_ERRORS, .LT_STAT, .RF_CTRL, .SPP_POWER, .SPP_STAT, .SP_LOOP, .TB_CLAMP,
        .TB_INC_HI, .TB_INC_LO, .TB_STATE, .xx_REFUSED]) := by
  intro s _ ht
  have hw {A R} (hp : Covers A R pathAreas (some (.RF_CTRL :: refusalRegs))) (he : Covers A R _ _) : Only A R s (s.keyWrite o (.RF_CTRL, []) v) :=
    only_keyWrite_of effect_RF_CTRL addr_RF_CTRL rfl nofun rfl hp he
  exact only_exec rfl ((hw (.of_within (by decide)) (.of_within (by decide))).then (only_settleMode _) rfl) ht

theorem touches_permWrite (o : Origin) (slot : Fin 32) (hi : Bool) (v : Word) :
    Touches (.permWrite o slot hi v) (raising [.w1]) (raisingRegs [.DV_ACC_ERR, .DV_PERM_HI, .DV_PERM_LO, .xx_REFUSED]) := by
  cases hi
  · exact touches_write (fun _ => rfl) (effect_DV_PERM false) (addr_DV_PERM_LO slot)
  · exact touches_write (fun _ => rfl) (effect_DV_PERM true) (addr_DV_PERM_HI slot)

/-- Settles O53: a command that writes a register touches what the path of every write touches and what the effect of its register touches;
one that writes a register of a slow block touches only the path and the queue. -/
theorem writeFrames : Obligations.WriteFrames := by
  unfold Obligations.WriteFrames
  exact ⟨fun _ _ => touches_write (fun _ => rfl) effect_DV_SNAP addr_DV_SNAP,
    touches_permWrite,
    fun _ _ => touches_write (fun _ => rfl) effect_DV_CTRL addr_DV_CTRL,
    fun _ => touches_write (fun _ => rfl) effect_DV_CTRL addr_DV_CTRL,
    fun _ _ => touchesParts_write (fun _ => rfl) effect_DV_RESET addr_DV_RESET,
    fun _ _ => touchesParts_write (fun _ => rfl) effect_DV_RESET addr_DV_RESET,
    fun _ _ => touchesParts_write (fun _ => rfl) effect_DV_RESET addr_DV_RESET,
    fun _ f => touches_write (fun _ => rfl) effect_DV_MBX_DOORBELL (addr_DV_MBX_DOORBELL f),
    fun _ _ => touches_write (fun _ => rfl) effect_TB_INC_REQ_HI addr_TB_INC_REQ_HI,
    fun _ _ => touches_write (fun _ => rfl) effect_TB_RESTEP addr_TB_RESTEP,
    touches_src3InputChange,
    fun _ => touches_write (fun _ => rfl) effect_RF_CTRL addr_RF_CTRL,
    fun _ n _ => touches_write (fun _ => rfl) effect_HD_CTRL (addr_HD_CTRL n),
    fun _ n => touches_write (fun _ => rfl) effect_HD_CTRL (addr_HD_CTRL n),
    fun _ k _ => touches_write (fun _ => rfl) effect_CE_COMMIT (addr_CE_COMMIT k),
    fun _ k _ => touches_write (fun _ => rfl) effect_CE_COMMIT (addr_CE_COMMIT k),
    fun _ k _ => touches_write (fun _ => rfl) effect_CE_COMMIT (addr_CE_COMMIT k),
    fun _ k _ => touches_write (fun _ => rfl) effect_CE_RELEASE (addr_CE_RELEASE k),
    fun _ k _ => touches_write (fun _ => rfl) effect_CE_RELEASE (addr_CE_RELEASE k),
    fun _ k h _ => touches_write (fun _ => rfl) effect_CE_PL_OWNER (addr_CE_PL_OWNER k h),
    fun _ k h _ => touches_write (fun _ => rfl) effect_CE_PL_COMMIT (addr_CE_PL_COMMIT k h),
    fun _ u => touches_write (fun _ => rfl) effect_CK_CMD (addr_CK_CMD u),
    fun _ n => touches_write (fun _ => rfl) effect_CU_CTRL (addr_CU_CTRL n),
    fun _ n => touches_write (fun _ => rfl) effect_CU_CTRL (addr_CU_CTRL n),
    fun _ n _ => touches_write (fun _ => rfl) effect_CU_CTRL (addr_CU_CTRL n),
    fun _ n => touches_write (fun _ => rfl) effect_CU_CTRL (addr_CU_CTRL n),
    fun _ n _ => touches_write (fun _ => rfl) effect_CU_DOORBELL (addr_CU_DOORBELL n),
    fun _ n i _ => touches_write (fun _ => rfl) effect_CU_PARAM (addr_CU_PARAM n i),
    fun _ n _ => touches_write (fun _ => rfl) effect_CU_DM_LO (addr_CU_DM_LO n),
    fun _ n _ => touches_write (fun _ => rfl) effect_CU_DM_HI (addr_CU_DM_HI n),
    fun _ p _ => touches_write (fun _ => rfl) effect_CUS_SCR_DATA (addr_CUS_SCR_DATA p),
    fun _ n _ => touches_write (fun _ => rfl) effect_CU_IMG (addr_CU_IMG n),
    fun _ => touches_write (fun _ => rfl) effect_DT_CTRL addr_DT_CTRL,
    fun _ _ => touches_write (fun _ => rfl) effect_DT_GLY_DATA addr_DT_GLY_DATA,
    fun _ p _ => touches_write (fun _ => rfl) effect_NP_I2C_CMD (addr_NP_I2C_CMD p),
    fun _ f _ => touchesParts_write (fun _ => rfl) effect_NR_CTRL (addr_NR_CTRL f),
    fun _ f _ => touchesParts_write (fun _ => rfl) effect_NR_CTRL (addr_NR_CTRL f),
    fun _ q _ => touches_write (fun _ => rfl) effect_NQ_CTRL (addr_NQ_CTRL q),
    fun _ q _ => touches_write (fun _ => rfl) effect_NQ_CTRL (addr_NQ_CTRL q),
    fun _ p _ => touches_write (fun _ => rfl) effect_NG_GCL_CTRL (addr_NG_GCL_CTRL p),
    fun _ p _ => touches_write (fun _ => rfl) effect_NG_GCL_CTRL (addr_NG_GCL_CTRL p),
    fun _ p _ => touches_write (fun _ => rfl) effect_NG_GCL_CTRL (addr_NG_GCL_CTRL p),
    fun _ c _ => touches_write (fun _ => rfl) effect_AD_CTRL (addr_AD_CTRL c),
    fun _ c _ => touches_write (fun _ => rfl) effect_AD_CTRL (addr_AD_CTRL c),
    fun _ c _ => touches_write (fun _ => rfl) effect_AD_SW_IDX (addr_AD_SW_IDX c),
    fun _ c => touches_write (fun _ => rfl) effect_AD_CMD (addr_AD_CMD c),
    fun _ c => touches_write (fun _ => rfl) effect_AD_CMD (addr_AD_CMD c),
    fun _ r _ => touches_write (fun _ => rfl) effect_HQ_CTRL (addr_HQ_CTRL r),
    fun _ r _ => touches_write (fun _ => rfl) effect_HQ_CTRL (addr_HQ_CTRL r),
    fun _ r _ => touches_write (fun _ => rfl) effect_HQ_DB (addr_HQ_DB r),
    fun _ r => touches_write (fun _ => rfl) effect_HQ_CMD (addr_HQ_CMD r),
    fun _ r => touches_write (fun _ => rfl) effect_HQ_CMD (addr_HQ_CMD r),
    fun _ n => touches_slow (fun _ => rfl) (addr_SPP_CTRL n) rfl,
    fun _ n => touches_slow (fun _ => rfl) (addr_SPP_CTRL n) rfl,
    fun _ n => touches_slow (fun _ => rfl) (addr_SPP_CTRL n) rfl,
    fun _ _ => touches_slow (fun _ => rfl) addr_SP_LOOP_MAX rfl,
    fun _ => touches_slow (fun _ => rfl) addr_SP_CTRL rfl,
    fun _ => touches_write (fun _ => rfl) effect_GL_CTRL addr_GL_CTRL,
    fun _ => touches_write (fun _ => rfl) effect_GL_CTRL addr_GL_CTRL,
    fun _ _ => touches_write (fun _ => rfl) effect_FC_CLEAR addr_FC_CLEAR,
    fun _ => touches_write (fun _ => rfl) effect_FC_CLEAR addr_FC_CLEAR,
    fun _ => touches_write (fun _ => rfl) effect_FC_CTRL addr_FC_CTRL,
    fun _ _ => touches_write (fun _ => rfl) effect_SL_RD_SEQ_HI addr_SL_RD_SEQ_HI,
    fun _ _ => touches_slow (fun _ => rfl) addr_CL_LG_ERASE rfl,
    fun _ l => touches_write (fun _ => rfl) effect_LT_CMD (addr_LT_CMD l),
    fun _ l => touches_write (fun _ => rfl) effect_LT_CMD (addr_LT_CMD l),
    fun _ l => touches_write (fun _ => rfl) effect_LT_CMD (addr_LT_CMD l),
    fun _ _ => touchesParts_write (fun _ => rfl) effect_LT_GROUP_CMD addr_LT_GROUP_CMD,
    fun _ _ => touchesParts_write (fun _ => rfl) effect_LT_GROUP_CMD addr_LT_GROUP_CMD⟩

end Sys2Proof.Machine

/-! PROOF. The raise of a source, and the operations that leave the clock as it is: what they count in FC_CNT, and what the time base shows
of the time (R99, R423). -/

namespace Sys2Proof.Machine

/-! ### The raise of a source (R423) -/

/-- The registers that the raise of a source touches, but for its count. -/
def latchRegs : List Reg :=
  [.CU_EVT_OVR, .FC_CLEAR_REJ, .FC_FIRST_ID, .FC_FIRST_ORG, .FC_FIRST_TAI_NS, .FC_FIRST_TAI_SH, .FC_FIRST_TAI_SL, .FC_LAT, .FC_OVF,
    .FC_SUPPRESSED, .xx_STATUS]

/-- After its count, the raise of a source touches no count. -/
theorem only_raise_counted {s : State} {id cls : Nat} (unit : Nat) (org : Org) (hc : srcClass id = some cls) :
    Only raiseAreas (some latchRegs) (s.count ⟨(.FC_CNT, [id]), 15, 0⟩ 1) (s.raise id unit org) := by
  unfold State.raise
  rw [hc]
  dsimp -zeta only
  extract_lets y0 y1 _ y3 y4 old y6 y7 y8 y9 y10 r
  refine Only.ite ?_ ?_
  · exact (((only_count .FC_SUPPRESSED rfl).widen (by decide)).fc 4 rfl).then (only_log ..) rfl
  have h6 : Only raiseAreas (some latchRegs) y0 y6 := ((only_unclear ..).widen (by decide)).then (only_logEntry ..) rfl
  have h8 : Only raiseAreas (some latchRegs) y0 y8 := (h6.heads 1 rfl).then (only_noteRaise ..) rfl
  have h10 : Only raiseAreas (some latchRegs) y0 y10 := (Only.ite h8 (h8.then (only_latchSource ..) rfl)).then (only_event ..) rfl
  exact Only.ite h6 (Only.ite h10 (h10.fc 4 rfl))

theorem raised_raise {s : State} {id : Nat} (unit : Nat) (org : Org) (hc : (srcClass id).isSome = true) : Raised id s (s.raise id unit org) := by
  obtain ⟨cls, hc⟩ := Option.isSome_iff_exists.mp hc
  exact ((only_raise_counted unit org hc).field _ .FC_CNT rfl (by decide)).trans (get_count_self _ _ _ (by exact (by decide : 15 < 32)))

/-- The raise of a source leaves the counts of the others. -/
theorem rd_cnt_raise_ne {s : State} {id j : Nat} (unit : Nat) (org : Org) (h : j ≠ id) : (s.raise id unit org).rd (.FC_CNT, [j]) = s.rd (.FC_CNT, [j]) :=
  by
  cases hc : srcClass id with
  | none => simp only [State.raise, hc]
  | some cls =>
    refine ((only_raise_counted unit org hc).reg _ .FC_CNT rfl (by decide)).trans ?_
    exact rd_wr_ne _ _ (by simpa using h)

/-! ### Operations that keep the clock -/

/-- The count, whether it counts, and what the cue engines see of it. -/
def TbSt.count (b : TbSt) : Nat × Nat × Nat × Bool × Nat × Nat := (b.sec, b.ns, b.frac, b.counting, b.seen1, b.seen2)

/-- The clock: the ticks since power-on, the count, and the power of the rails. -/
def State.timeView (s : State) : Nat × (Nat × Nat × Nat × Bool × Nat × Nat) × Bool := (s.tick, s.tb.count, s.dv.railsOff)

/-- An operation that keeps the clock, and counts no source but those in L. -/
structure Keeps (L : Nat → Prop) (s t : State) : Prop where
  clock : t.timeView = s.timeView
  count : ∀ id, ¬ L id → t.rd (.FC_CNT, [id]) = s.rd (.FC_CNT, [id])

section
variable {L : Nat → Prop} {A : List Area} {R : List Reg} {Q : Option (List Reg)} {s t u : State}

theorem Keeps.refl (s : State) : Keeps L s s := ⟨rfl, fun _ _ => rfl⟩

theorem Keeps.trans (h : Keeps L s t) (k : Keeps L t u) : Keeps L s u := ⟨k.clock.trans h.clock, fun i hi => (k.count i hi).trans (h.count i hi)⟩

/-- The parts of the state that hold the clock are not in a list. -/
def offClock (A : List Area) : Bool := !A.contains .tick && !A.contains .tb && !A.contains .dv

theorem Only.clock (h : Only A Q s t) (hA : offClock A = true) : t.timeView = s.timeView := by
  simp only [offClock, Bool.and_eq_true, Bool.not_eq_true', List.contains_eq_mem, decide_eq_false_iff_not] at hA
  obtain ⟨⟨h1, h2⟩, h3⟩ := hA
  have ht : t.tick = s.tick := h.same .tick h1
  have hb : t.tb = s.tb := h.same .tb h2
  have hd : t.dv = s.dv := h.same .dv h3
  simp only [State.timeView, ht, hb, hd]

/-- An operation that touches neither the parts of the clock nor a count. -/
theorem Only.keeps (h : Only A (some R) s t) (hA : offClock A = true) (hR : R.contains .FC_CNT = false) :
    Keeps L s t :=
  ⟨h.clock hA, fun id _ => h.reg (.FC_CNT, [id]) .FC_CNT rfl hR⟩

theorem Keeps.ite {c : Prop} [Decidable c] (h : Keeps L s t) (k : Keeps L s u) : Keeps L s (if c then t else u) := by split <;> assumption

theorem Keeps.foldl {α : Type} {f : State → α → State} {l : List α} (h : Keeps L s t) (hf : ∀ y e, Keeps L y (f y e)) : Keeps L s (l.foldl f t) := by
  induction l generalizing t with
  | nil => exact h
  | cons e l ih => exact ih (h.trans (hf t e))

/-- A raise keeps the clock, and counts its source. -/
theorem keeps_raise (s : State) (id unit : Nat) (org : Org) (hL : L id) : Keeps L s (s.raise id unit org) :=
  ⟨(only_raise ..).clock (by decide), fun j hj => rd_cnt_raise_ne unit org fun e => hj (e ▸ hL)⟩

/-- A change of parts of the state that leaves the clock and every register. -/
theorem Keeps.upd (h : Keeps L s t) (hv : u.timeView = t.timeView) (hr : u.regs = t.regs) : Keeps L s u :=
  h.trans ⟨hv, fun id _ => by unfold State.rd; rw [hr]⟩

end

/-! ### The servo and its sources -/

section
variable {L : Nat → Prop} (s : State)

theorem keeps_applyInc (req : Nat) (org : Org) (hL : L 0x044) : Keeps L s (s.applyInc req org) := by
  unfold State.applyInc
  extract_lets l v y
  have hy : Only [.irqOwed] (some [.TB_CLAMP, .TB_INC_HI, .TB_INC_LO, .xx_STATUS]) s y :=
      ((only_set .TB_INC_HI rfl).widen (by decide)).then (only_set .TB_INC_LO rfl) rfl
  refine Keeps.ite (hy.keeps rfl rfl) (Keeps.trans ?_ (keeps_raise _ _ _ _ hL))
  exact ((hy.then (only_count .TB_CLAMP rfl) rfl).then (only_latch ..) rfl).keeps rfl rfl

theorem keeps_setTb (st : Nat) (hL : L 0x044) : Keeps L s (s.setTb st) := by
  unfold State.setTb
  extract_lets +onlyGivenNames old y1
  have h1 : Only [.irqOwed] (some [.TB_STATE, .xx_STATUS]) s y1 := ((only_set .TB_STATE rfl).widen (by decide)).then (only_latch ..) rfl
  clear_value old y1
  refine Keeps.ite (Keeps.refl s) ?_
  extract_lets +onlyGivenNames y2
  have h2 : Keeps L s y2 := (h1.keeps rfl rfl).trans ((only_event ..).keeps rfl rfl)
  clear_value y2
  extract_lets +onlyGivenNames b y3
  have h3 : Keeps L s y3 := Keeps.ite (h2.upd rfl rfl) h2
  clear_value b y3
  extract_lets +onlyGivenNames b y4
  have h4 : Keeps L s y4 := Keeps.ite (h3.upd rfl rfl) h3
  clear_value b y4
  extract_lets +onlyGivenNames r y5
  have h5 : Keeps L s y5 := Keeps.ite (Keeps.ite h4 (h4.trans (keeps_applyInc _ _ _ hL))) h4
  clear_value r y5
  refine Keeps.ite ?_ h5
  extract_lets +onlyGivenNames y6
  have h6 : Keeps L s y6 := h5.trans ((only_set .TB_STATE rfl).keeps rfl rfl)
  clear_value y6
  extract_lets +onlyGivenNames b y7
  have h7 : Keeps L s y7 := h6.upd rfl rfl
  split
  · refine Keeps.ite h7 ?_
    extract_lets +onlyGivenNames b y8
    have h8 : Keeps L s y8 := h7.upd rfl rfl
    exact h8.foldl fun y n => (only_letGo y n).keeps rfl rfl
  · exact h7

theorem keeps_updSrc (c : Nat) (f : SrcSt → SrcSt) : Keeps L s (s.updSrc c f) := (Keeps.refl s).upd rfl rfl

theorem keeps_gainSource (c : Nat) : Keeps L s (s.gainSource c) := Keeps.ite (Keeps.refl s) (keeps_updSrc ..)

theorem keeps_selectSrc (c : Nat) : Keeps L s (s.selectSrc c) := by
  unfold State.selectSrc
  extract_lets y0 y1
  have h0 : Keeps L s y0 := Keeps.ite (Keeps.refl s) (keeps_updSrc ..)
  have h1 : Only [.irqOwed] (some [.TB_STATE, .xx_STATUS]) y0 y1 := ((only_set .TB_STATE rfl).widen (by decide)).then (only_latch ..) rfl
  exact Keeps.ite h0 ((h0.trans (h1.keeps rfl rfl)).upd rfl rfl)

theorem keeps_follow (changed : Bool) (hL : L 0x044) : Keeps L s (s.follow changed) := by
  have h (st : Nat) : Keeps L s (s.setTb st) := keeps_setTb s st hL
  have h0 : Keeps L s s := Keeps.refl s
  exact Keeps.ite h0 (Keeps.ite (Keeps.ite h0 (h 5)) (Keeps.ite (Keeps.ite (h 5) h0) (Keeps.ite (h 5) h0)))

theorem keeps_loseSource (hL : L 0x044) (hN : L 0x040) : Keeps L s s.loseSource := by
  unfold State.loseSource
  extract_lets st _ y0 y1
  have h0 : Keeps L s y0 := (Keeps.refl s).upd rfl rfl
  have h1 : Keeps L s y1 := h0.trans (keeps_setTb _ 7 hL)
  exact Keeps.ite (Keeps.ite h1 (h1.trans (keeps_raise _ _ _ _ hN))) (Keeps.ite (h0.trans (keeps_setTb _ 4 hL)) h0)

theorem keeps_srcLost (c : Nat) (hL : L 0x044) (hN : L 0x040) : Keeps L s (srcLost c s) := by
  unfold srcLost
  extract_lets y0 y1 _ _ y2 y3
  have h0 : Keeps L s y0 := keeps_updSrc ..
  have h1 : Keeps L s y1 := Keeps.ite (h0.upd rfl rfl) h0
  have hs : Keeps L s (y1.set F.TB_STATE_RESTEP_PEND 0) := h1.trans ((only_set .TB_STATE rfl).keeps rfl rfl)
  have h2 : Keeps L s y2 := Keeps.ite (hs.upd rfl rfl) h1
  have h3 : Keeps L s y3 := h2.trans (keeps_selectSrc ..)
  exact Keeps.ite (Keeps.refl s) (Keeps.ite h2 (Keeps.ite (h3.trans (keeps_loseSource _ hL hN)) (h3.trans (keeps_follow _ _ hL))))

theorem keeps_src3Check (hL : L 0x044) (hN : L 0x040) : Keeps L s s.src3Check :=
  Keeps.ite (keeps_gainSource s 3) (keeps_srcLost s 3 hL hN)

end

end Sys2Proof.Machine

/-! PROOF. The analogue and LTC inputs (O25): what a lock, a loss, a measurement and a word leave, before and after the selection of the source
that the inputs make up. -/

namespace Sys2Proof.Machine

/-! ### What follows a change of an input -/

/-- The sources that the loss of a time source can raise. -/
def lossSources (id : Nat) : Prop := id = 0x040 ∨ id = 0x044

theorem Raised.of {id : Nat} {s t u v : State} (h : Raised id u v) (hs : u.rd (.FC_CNT, [id]) = s.rd (.FC_CNT, [id]))
    (ht : t.rd (.FC_CNT, [id]) = v.rd (.FC_CNT, [id])) : Raised id s t := by
  unfold Raised State.get at *
  rw [hs] at h
  rw [ht, h]

/-- The check of source 3 raises nothing that an input raises. -/
theorem rd_cnt_src3Check (s : State) {id : Nat} (h : ¬ lossSources id) : s.src3Check.rd (.FC_CNT, [id]) = s.rd (.FC_CNT, [id]) :=
  (keeps_src3Check (L := lossSources) s (.inr rfl) (.inl rfl)).count id h

theorem rf_src3Check (s : State) : s.src3Check.rf = s.rf := (only_src3Check s).same .rf (by decide)

theorem rf_settleMode (s : State) : s.settleMode.rf = s.rf := (only_settleMode s).same .rf (by decide)

theorem rd_cnt_settleMode (s : State) (id : Nat) : s.settleMode.rd (.FC_CNT, [id]) = s.rd (.FC_CNT, [id]) :=
  (only_settleMode s).reg _ .FC_CNT rfl (by decide)

/-! ### Analogue inputs (R131, R132) -/

theorem lt_of_stdPeriod {std : Nat} (h : (stdPeriod std).isSome = true) : std < 16 := by
  by_contra hs
  have : stdPeriod std = none := by
    unfold stdPeriod
    split <;> first | rfl | omega
  simp [this] at h

section
variable {s : State} {k : Nat}

theorem refLockOp_locks {std freq : Nat} (hin : s.rfIn = true) (hen : s.flag (F.RF_IN_CTRL_EN k) = true)
    (hl : s.rf.locked.contains k = false) (hstd : (stdPeriod std).isSome = true)
    (hauto : s.flag (F.RF_IN_CTRL_AUTO k) = true ∨ s.get (F.RF_IN_CTRL_STD k) = std) (hf : (signed 16 freq).natAbs ≤ 10000) :
    refLockOp k std freq s =
      ((({ s with rf := { s.rf with locked := s.rf.locked ++ [k] } }.set (F.RF_IN_STAT_DET_STD k) std).set (F.RF_IN_STAT_FREQ k) freq).latch rfB
        (2 ^ k)).src3Check := by
  have hn : stdPeriod std ≠ none := Option.isSome_iff_ne_none.mp hstd
  refine if_neg ?_
  rintro (h | h | h | h | ⟨h, h'⟩ | h)
  · simp [hin] at h
  · simp [hen] at h
  · exact Bool.false_ne_true (hl.symm.trans h)
  · exact hn (by simpa using h)
  · simp_all
  · omega

theorem refLockOp_ignores {std freq : Nat} (h : ¬ (s.rfIn = true ∧ s.flag (F.RF_IN_CTRL_EN k) = true) ∨
    ¬ ((stdPeriod std).isSome = true ∧ (s.flag (F.RF_IN_CTRL_AUTO k) = true ∨ s.get (F.RF_IN_CTRL_STD k) = std) ∧
      (signed 16 freq).natAbs ≤ 10000)) : refLockOp k std freq s = s := by
  refine if_pos ?_
  by_contra hc
  simp only [not_or, not_and, not_not, Bool.not_eq_true', Bool.not_eq_false, Option.isNone_iff_eq_none, ne_eq, Nat.not_lt] at hc
  obtain ⟨hin, hen, -, hstd, hauto, hf⟩ := hc
  rcases h with h | h
  · exact h ⟨hin, hen⟩
  · refine h ⟨Option.isSome_iff_ne_none.mpr hstd, ?_, hf⟩
    cases ha : s.flag (F.RF_IN_CTRL_AUTO k)
    · exact .inr (hauto ha)
    · exact .inl rfl

/-- The fields of RF_INk_STAT after a lock. -/
theorem get_lockShown (y : State) {std freq : Nat} (hstd : std < 16) :
    ((y.set (F.RF_IN_STAT_DET_STD k) std).set (F.RF_IN_STAT_FREQ k) freq).get (F.RF_IN_STAT_DET_STD k) = std ∧
      ((y.set (F.RF_IN_STAT_DET_STD k) std).set (F.RF_IN_STAT_FREQ k) freq).get (F.RF_IN_STAT_FREQ k) = freq % 65536 := by
  refine ⟨?_, get_set_self _ (F.RF_IN_STAT_FREQ k) _ (by exact (by decide : 31 < 32))⟩
  refine (get_set_ne _ (F.RF_IN_STAT_FREQ k) (F.RF_IN_STAT_DET_STD k) _ (by exact (by decide : 31 < 32)) (.inr (.inl (by exact
      (by decide : 7 < 16))))).trans ?_
  exact (get_set_self _ (F.RF_IN_STAT_DET_STD k) _ (by exact (by decide : 7 < 32))).trans (Nat.mod_eq_of_lt hstd)

/-- The latch of an input's change and the check of source 3 leave what the inputs show. -/
theorem only_inputChange (y : State) (m : Nat) :
    Only [.irqOwed, .tb, .heads, .cues, .evt, .fc, .sl] (some [.CU_EVT_OVR, .FC_CLEAR_REJ, .FC_CNT, .FC_FIRST_ID, .FC_FIRST_ORG,
      .FC_FIRST_TAI_NS, .FC_FIRST_TAI_SH, .FC_FIRST_TAI_SL, .FC_LAT, .FC_OVF, .FC_SUPPRESSED, .TB_CLAMP, .TB_INC_HI, .TB_INC_LO,
      .TB_STATE, .xx_STATUS]) y (y.latch rfB m).src3Check :=
  ((only_latch ..).widen (by decide)).then (only_src3Check _) rfl

/-- The first part of a loss: the input is no longer among the locked ones, its standard is 0, and its loss is counted. -/
def lossShown (k : Nat) (s : State) : State :=
  ((({ s with rf := { s.rf with locked := s.rf.locked.filter (· != k) } }.set (F.RF_IN_STAT_DET_STD k) 0).count (F.RF_IN_LOSS_COUNT k) 1).latch rfB
    (2 ^ k))

theorem refLossOp_loses (hl : s.rf.locked.contains k = true) : refLossOp k s = ((lossShown k s).raise 0x048 k).src3Check := by
  unfold refLossOp
  rw [if_neg (by rw [hl]; decide)]
  rfl

theorem refLossOp_ignores (hl : s.rf.locked.contains k = false) : refLossOp k s = s := by
  unfold refLossOp
  rw [if_pos (by rw [hl]; rfl)]

theorem lossShown_spec :
    (lossShown k s).rf.locked.contains k = false ∧ (lossShown k s).get (F.RF_IN_STAT_DET_STD k) = 0 ∧
      (lossShown k s).get (F.RF_IN_LOSS_COUNT k) = min (s.get (F.RF_IN_LOSS_COUNT k) + 1) 65535 ∧
      (lossShown k s).rd (.FC_CNT, [0x048]) = s.rd (.FC_CNT, [0x048]) := by
  unfold lossShown
  have ho := only_latch ((({ s with rf := { s.rf with locked := s.rf.locked.filter (· != k) } }.set (F.RF_IN_STAT_DET_STD k) 0).count
    (F.RF_IN_LOSS_COUNT k) 1)) rfB (2 ^ k)
  have hne : Reg.RF_IN_STAT ≠ Reg.RF_IN_LOSS := by decide
  have hc1 : Reg.FC_CNT ≠ Reg.RF_IN_LOSS := by decide
  have hc2 : Reg.FC_CNT ≠ Reg.RF_IN_STAT := by decide
  refine ⟨?_, ?_, ?_, ?_⟩
  · rw [show _ = _ from ho.same .rf (by decide)]
    simp
  · refine (ho.field _ .RF_IN_STAT rfl (by decide)).trans ?_
    refine (get_count_ne _ _ _ _ (by exact (by decide : 15 < 32)) (.inl fun h => hne (congrArg Prod.fst h))).trans ?_
    exact get_set_self _ (F.RF_IN_STAT_DET_STD k) _ (by exact (by decide : 7 < 32))
  · refine (ho.field _ .RF_IN_LOSS rfl (by decide)).trans ?_
    refine (get_count_self _ _ _ (by exact (by decide : 15 < 32))).trans ?_
    exact congrArg (satAdd 16 · 1) (get_set_ne _ (F.RF_IN_STAT_DET_STD k) _ _ (by exact (by decide : 7 < 32)) (.inl fun h => hne
        (congrArg Prod.fst h).symm))
  · refine (ho.reg _ .FC_CNT rfl (by decide)).trans ?_
    exact (rd_wr_ne _ _ fun h => hc1 (congrArg Prod.fst h)).trans (rd_wr_ne _ _ fun h => hc2 (congrArg Prod.fst h))

/-- What a loss of lock leaves (R131). -/
theorem refLossOp_spec (hl : s.rf.locked.contains k = true) :
    (refLossOp k s).rf.locked.contains k = false ∧ (refLossOp k s).get (F.RF_IN_STAT_DET_STD k) = 0 ∧
      (refLossOp k s).get (F.RF_IN_LOSS_COUNT k) = min (s.get (F.RF_IN_LOSS_COUNT k) + 1) 65535 ∧ Raised 0x048 s (refLossOp k s) := by
  rw [refLossOp_loses hl]
  obtain ⟨hrf, hstd, hcnt, hfc⟩ := lossShown_spec (s := s) (k := k)
  have h3 := only_src3Check ((lossShown k s).raise 0x048 k)
  have hr := only_raise (lossShown k s) 0x048 k {}
  refine ⟨?_, ?_, ?_, ?_⟩
  · rw [rf_src3Check, show _ = _ from hr.same .rf (by decide), hrf]
  · exact ((h3.field _ .RF_IN_STAT rfl (by decide)).trans (hr.field _ .RF_IN_STAT rfl (by decide))).trans hstd
  · exact ((h3.field _ .RF_IN_LOSS rfl (by decide)).trans (hr.field _ .RF_IN_LOSS rfl (by decide))).trans hcnt
  · exact (raised_raise k {} (by decide)).of hfc (rd_cnt_src3Check _ (by unfold lossSources; decide))

/-- What a measurement of a locked input leaves (R132). -/
theorem refPhaseOp_spec {p : Rat} (point : Stamp) (f : Int) (hl : s.rf.locked.contains k = true)
    (hp : stdQuarters (s.get (F.RF_IN_STAT_DET_STD k)) = some p) :
    (refPhaseOp k point f s).get (F.RF_IN_PHASE_PHASE k) = pattern 32 (truncRat (wrapRat p (quartersOf point))) ∧
      (refPhaseOp k point f s).get (F.RF_IN_STAT_FREQ k) = pattern 16 (clampI (-32768) 32767 f) ∧
      Only [] (some [.RF_IN_PHASE, .RF_IN_STAT]) s (refPhaseOp k point f s) := by
  have hne : Reg.RF_IN_PHASE ≠ Reg.RF_IN_STAT := by decide
  have he : refPhaseOp k point f s = (s.set (F.RF_IN_PHASE_PHASE k) (pattern 32 (truncRat (wrapRat p (quartersOf point))))).set
      (F.RF_IN_STAT_FREQ k) (pattern 16 (clampI (-32768) 32767 f)) := by
    unfold refPhaseOp
    rw [if_neg (by rw [hl]; decide), hp]
  have hlt (w : Nat) (x : Int) : pattern w x < 2 ^ w := by
    have := Int.emod_lt_of_pos x (show (0 : Int) < ((2 ^ w : Nat) : Int) by positivity)
    have := Int.emod_nonneg x (show ((2 ^ w : Nat) : Int) ≠ 0 by positivity)
    unfold pattern
    omega
  rw [he]
  refine ⟨?_, ?_, ((only_set .RF_IN_PHASE rfl).widen (by decide)).then (only_set .RF_IN_STAT rfl) rfl⟩
  · refine (get_set_ne _ _ _ _ (by exact (by decide : 31 < 32)) (.inl fun h => hne (congrArg Prod.fst h))).trans ?_
    exact (get_set_self _ (F.RF_IN_PHASE_PHASE k) _ (by exact (by decide : 31 < 32))).trans (Nat.mod_eq_of_lt (hlt 32 _))
  · exact (get_set_self _ (F.RF_IN_STAT_FREQ k) _ (by exact (by decide : 31 < 32))).trans (Nat.mod_eq_of_lt (hlt 16 _))

theorem refPhaseOp_ignores (point : Stamp) (f : Int) (hl : s.rf.locked.contains k = false) : refPhaseOp k point f s = s := by
  unfold refPhaseOp
  rw [if_pos (by rw [hl]; rfl)]

end

/-! ### LTC inputs (R133) -/

section
variable {s t : State} {k : Nat}

theorem ltc_of (h : t.rf = s.rf) (k : Nat) : t.ltc k = s.ltc k := by
  unfold State.ltc
  rw [h]

theorem ltc_setLtc (x : LtcSt) : (s.setLtc k x).ltc k = x := mget_nput_self ..

/-- A change of an input's presence leaves the rest of what the device keeps of it. -/
theorem ltc_ltcTurn (ok : Bool) : (s.ltcTurn k ok).ltc k = { s.ltc k with ok := ok } := by
  unfold State.ltcTurn
  split
  · rename_i h
    rw [← h]
  · have hl (y : State) (m : Nat) : (y.latch rfB m).rf = y.rf := (only_latch ..).same .rf (by decide)
    have hr (y : State) (id : Nat) : (y.raise id k).rf = y.rf := (only_raise ..).same .rf (by decide)
    refine (ltc_of (rf_src3Check _) k).trans ?_
    split
    · exact (ltc_of ((hr _ _).trans (hl _ _)) k).trans (ltc_setLtc _)
    · exact (ltc_of (hl _ _) k).trans (ltc_setLtc _)

/-- An input that serves the time base and ends raises LTC_LOST. -/
theorem raised_ltcTurn (hok : (s.ltc k).ok = true) (hk : s.get F.RF_CTRL_TB_LTC = k) : Raised 0x049 s (s.ltcTurn k false) := by
  unfold State.ltcTurn
  rw [if_neg (by rw [hok]; decide)]
  have ho : Only [.irqOwed, .rf] (some [.xx_STATUS]) s ((s.setLtc k { s.ltc k with ok := false }).latch rfB (2 ^ (2 + k))) :=
    ((only_setLtc ..).widen (by decide)).then (only_latch ..) rfl
  have hg : ((s.setLtc k { s.ltc k with ok := false }).latch rfB (2 ^ (2 + k))).get F.RF_CTRL_TB_LTC = k :=
    (ho.field _ .RF_CTRL rfl (by decide)).trans hk
  dsimp only
  rw [if_pos ⟨rfl, hg⟩]
  exact (raised_raise k {} (by decide)).of (ho.reg _ .FC_CNT rfl (by decide)) (rd_cnt_src3Check _ (by unfold lossSources; decide))

/-- The label of a word as RF_LTCINk_LABEL shows it. -/
def wordLabel (w : LtcWord) : Nat := bcd w.hours * 2 ^ 24 + bcd w.minutes * 2 ^ 16 + bcd w.seconds * 256 + b2n w.dropFrame * 64 + bcd w.frames

/-- An input that is enabled has taken up a word: it shows the word, and keeps its presence and the words before it that were bad. -/
structure Heard (s : State) (k : Nat) (w : LtcWord) (y : State) : Prop where
  label : y.rd (.RF_LTCIN_LABEL, [k]) = w32 (wordLabel w)
  user : y.rd (.RF_LTCIN_UB, [k]) = w.userBits
  ok : (y.ltc k).ok = (s.ltc k).ok
  bad : (y.ltc k).bad = if s.ltcConsistent k w then 0 else (s.ltc k).bad + 1
  lost : y.rd (.FC_CNT, [0x049]) = s.rd (.FC_CNT, [0x049])
  serves : y.get F.RF_CTRL_TB_LTC = s.get F.RF_CTRL_TB_LTC

/-- What a word at an enabled input leaves (R133). -/
theorem ltcWordOp_on {w : LtcWord} (hin : s.rfIn = true) (hen : s.flag (F.RF_LTCIN_CTRL_EN k) = true) :
    ∃ y, Heard s k w y ∧ ltcWordOp k w s =
      if s.ltcConsistent k w then y.ltcTurn k true else if 3 ≤ (s.ltc k).bad + 1 then y.ltcTurn k false else y := by
  unfold ltcWordOp
  rw [if_neg (by simp [hin, hen])]
  extract_lets good label y1 bad n _ y2
  have h1 : Only [] (some [.RF_LTCIN_LABEL, .RF_LTCIN_UB]) s y1 :=
      ((only_wr .RF_LTCIN_LABEL rfl).widen (by decide)).then (only_wr .RF_LTCIN_UB rfl) rfl
  have h2 := only_setLtc y1 k { y1.ltc k with last := if w.bitErrors then (y1.ltc k).last.map (· + 1) else some n, bad := bad }
  have hne : Reg.RF_LTCIN_LABEL ≠ Reg.RF_LTCIN_UB := by decide
  have hx : y2.ltc k = { y1.ltc k with last := if w.bitErrors then (y1.ltc k).last.map (· + 1) else some n, bad := bad } := ltc_setLtc _
  have hy : y1.ltc k = s.ltc k := ltc_of (h1.same .rf (by decide)) k
  have hb : bad = if s.ltcConsistent k w then 0 else (s.ltc k).bad + 1 := by rw [← hy]
  refine ⟨y2, ⟨?_, ?_, ?_, ?_, ?_, ?_⟩, ?_⟩
  · exact (h2.reg _ .RF_LTCIN_LABEL rfl rfl).trans ((rd_wr_ne _ _ fun h => hne (congrArg Prod.fst h)).trans (rd_wr_self ..))
  · exact (h2.reg _ .RF_LTCIN_UB rfl rfl).trans (rd_wr_self ..)
  · rw [hx, hy]
  · exact (congrArg LtcSt.bad hx).trans hb
  · exact (h2.reg _ .FC_CNT rfl (by decide)).trans (h1.reg _ .FC_CNT rfl (by decide))
  · exact (h2.field _ .RF_CTRL rfl (by decide)).trans (h1.field _ .RF_CTRL rfl (by decide))
  · by_cases hg : s.ltcConsistent k w = true
    · rw [if_pos hg, if_pos hg]
    · rw [if_neg hg, if_neg hg, hb, if_neg hg]

theorem ltcWordOp_off {w : LtcWord} (h : ¬ (s.rfIn = true ∧ s.flag (F.RF_LTCIN_CTRL_EN k) = true)) : ltcWordOp k w s = s := by
  refine if_pos ?_
  cases hin : s.rfIn
  · exact .inl rfl
  · refine .inr ?_
    cases hen : s.flag (F.RF_LTCIN_CTRL_EN k)
    · rfl
    · exact absurd ⟨hin, hen⟩ h

/-- A change of presence leaves what the input shows. -/
theorem Heard.turn {w : LtcWord} {y : State} (h : Heard s k w y) (ok : Bool) :
    (y.ltcTurn k ok).rd (.RF_LTCIN_LABEL, [k]) = w32 (wordLabel w) ∧ (y.ltcTurn k ok).rd (.RF_LTCIN_UB, [k]) = w.userBits :=
  ⟨((only_ltcTurn ..).reg _ .RF_LTCIN_LABEL rfl (by decide)).trans h.label,
    ((only_ltcTurn ..).reg _ .RF_LTCIN_UB rfl (by decide)).trans h.user⟩

/-- What missing words leave (R133). -/
theorem ltcMissingOp_spec (n : Nat) :
    ((ltcMissingOp k n s).ltc k).bad = (s.ltc k).bad + n ∧ ((ltcMissingOp k n s).ltc k).ok = ((s.ltc k).ok && decide ((s.ltc k).bad + n < 3)) ∧
      (3 ≤ (s.ltc k).bad + n → (s.ltc k).ok = true ∧ s.get F.RF_CTRL_TB_LTC = k → Raised 0x049 s (ltcMissingOp k n s)) := by
  unfold ltcMissingOp
  extract_lets x rate y
  have hy : y.ltc k = { x with last := x.last.map fun l => (l + n) % labelsPerDay rate, bad := x.bad + n } := ltc_setLtc _
  have ho : Only [.rf] (some []) s y := only_setLtc ..
  by_cases h3 : 3 ≤ (s.ltc k).bad + n
  · rw [if_pos h3, ltc_ltcTurn, hy]
    refine ⟨rfl, ?_, fun _ ⟨hok, hk⟩ => ?_⟩
    · rw [decide_eq_false (by omega), Bool.and_false]
    · have hy' : (y.ltc k).ok = true := by rw [hy]; exact hok
      exact (raised_ltcTurn hy' ((ho.field _ .RF_CTRL rfl rfl).trans hk)).of (ho.reg _ .FC_CNT rfl rfl) rfl
  · rw [if_neg h3, hy]
    refine ⟨rfl, ?_, fun h => absurd h h3⟩
    rw [decide_eq_true (by omega), Bool.and_true]

end

/-- Settles O25: each event is its operation, whose effect the lemmas above give; the settling of the mode that follows touches neither the
inputs nor a count. -/
theorem analogueAndLtcInputs : Obligations.AnalogueAndLtcInputs := by
  unfold Obligations.AnalogueAndLtcInputs
  have hstat (y : State) (k : Nat) : y.settleMode.finish.get (F.RF_IN_STAT_DET_STD k) = y.get (F.RF_IN_STAT_DET_STD k) := by
    rw [get_finish]; exact (only_settleMode y).field _ .RF_IN_STAT rfl (by decide)
  have hloss (y : State) (k : Nat) : y.settleMode.finish.get (F.RF_IN_LOSS_COUNT k) = y.get (F.RF_IN_LOSS_COUNT k) := by
    rw [get_finish]; exact (only_settleMode y).field _ .RF_IN_LOSS rfl (by decide)
  have hlabel (y : State) (k : Nat) : y.settleMode.finish.rd (.RF_LTCIN_LABEL, [k]) = y.rd (.RF_LTCIN_LABEL, [k]) := by
    rw [rd_finish]; exact (only_settleMode y).reg _ .RF_LTCIN_LABEL rfl (by decide)
  have huser (y : State) (k : Nat) : y.settleMode.finish.rd (.RF_LTCIN_UB, [k]) = y.rd (.RF_LTCIN_UB, [k]) := by
    rw [rd_finish]; exact (only_settleMode y).reg _ .RF_LTCIN_UB rfl (by decide)
  have hrf (y : State) : y.settleMode.finish.rf = y.rf := by rw [rf_finish, rf_settleMode]
  have hcnt (y : State) (id : Nat) : y.settleMode.finish.rd (.FC_CNT, [id]) = y.rd (.FC_CNT, [id]) := by rw [rd_finish, rd_cnt_settleMode]
  refine ⟨fun k std freq point f s => ?_, fun k n w s => ?_⟩
  · dsimp only
    have lock {P : State → Prop} (h : P (refLockOp k.val std freq s).finish) : Does (.refInLock k std freq) s P := ⟨_, rfl, h⟩
    have loss {P : State → Prop} (h : P (refLossOp k.val s).settleMode.finish) : Does (.refInLoss k) s P := ⟨_, rfl, h⟩
    have phase {P : State → Prop} (h : P (refPhaseOp k.val point f s).finish) : Does (.refPhaseMeasure k point f) s P := ⟨_, rfl, h⟩
    refine ⟨fun ⟨hin, hen⟩ hl ⟨hstd, hauto, hf⟩ => lock ?_, fun h => lock ?_, fun hl => loss ?_, fun hl => loss ?_, fun p hl hp => phase ?_,
      fun hl => phase ?_⟩
    · rw [refLockOp_locks hin hen hl hstd hauto hf, get_finish, get_finish, rf_finish]
      obtain ⟨h1, h2⟩ := get_lockShown (k := k.val) { s with rf := { s.rf with locked := s.rf.locked ++ [k.val] } } (freq := freq)
          (lt_of_stdPeriod hstd)
      have ho := only_inputChange ((({ s with rf := { s.rf with locked := s.rf.locked ++ [k.val] } }.set (F.RF_IN_STAT_DET_STD k.val) std).set
        (F.RF_IN_STAT_FREQ k.val) freq)) (2 ^ k.val)
      refine ⟨?_, (ho.field _ .RF_IN_STAT rfl (by decide)).trans h1, (ho.field _ .RF_IN_STAT rfl (by decide)).trans h2⟩
      rw [show _ = _ from ho.same .rf (by decide)]
      simp
    · rw [refLockOp_ignores h, rf_finish]
      exact ⟨rfl, by rw [finish_eq]⟩
    · obtain ⟨h1, h2, h3, h4⟩ := refLossOp_spec hl
      rw [hrf, hstat, hloss]
      exact ⟨h1, h2, h3, h4.of rfl (hcnt _ _)⟩
    · rw [refLossOp_ignores hl, hrf]
    · obtain ⟨h1, h2, h3⟩ := refPhaseOp_spec point f hl hp
      rw [get_finish, get_finish]
      exact ⟨h1, h2, (h3.widen (by decide)).then (only_finish _) rfl⟩
    · rw [refPhaseOp_ignores point f hl, finish_eq]
  · dsimp only
    have word {P : State → Prop} (h : P (ltcWordOp k.val w s).settleMode.finish) : Does (.ltcWord k w) s P := ⟨_, rfl, h⟩
    have missing {P : State → Prop} (h : P (ltcMissingOp k.val n.val s).settleMode.finish) : Does (.ltcWordsMissing k n) s P := ⟨_, rfl, h⟩
    refine ⟨fun ⟨hin, hen⟩ hg => word ?_, fun ⟨hin, hen⟩ hg hb => word ?_, fun ⟨hin, hen⟩ hg hb => word ?_, fun h => word ?_, missing ?_⟩
    · obtain ⟨y, hy, he⟩ := ltcWordOp_on (w := w) hin hen
      rw [he, if_pos hg, hlabel, huser, ltc_of (hrf _), ltc_ltcTurn]
      exact ⟨hy.turn true, rfl, by rw [hy.bad, if_pos hg]⟩
    · obtain ⟨y, hy, he⟩ := ltcWordOp_on (w := w) hin hen
      have hn : ¬ s.ltcConsistent k.val w = true := by simp [hg]
      rw [he, if_neg hn, if_neg (by omega), hlabel, huser, ltc_of (hrf _)]
      exact ⟨⟨hy.label, hy.user⟩, hy.ok, by rw [hy.bad, if_neg hn]⟩
    · obtain ⟨y, hy, he⟩ := ltcWordOp_on (w := w) hin hen
      have hn : ¬ s.ltcConsistent k.val w = true := by simp [hg]
      rw [he, if_neg hn, if_pos (by omega), hlabel, huser, ltc_of (hrf _), ltc_ltcTurn]
      refine ⟨hy.turn false, rfl, fun ⟨hok, hk⟩ => ?_⟩
      exact (raised_ltcTurn (hy.ok.trans hok) (hy.serves.trans hk)).of hy.lost (hcnt _ _)
    · rw [ltcWordOp_off h, hrf, hlabel]
      exact ⟨rfl, rfl⟩
    · obtain ⟨h1, h2, h3⟩ := ltcMissingOp_spec (s := s) (k := k.val) n.val
      rw [ltc_of (hrf _)]
      exact ⟨h1, h2, fun hb hv => (h3 hb hv).of rfl (hcnt _ _)⟩

end Sys2Proof.Machine

/-! PROOF. Commits (O32): what a raise leaves of the heads, what a commit's status shows, how a check enters its queue, and how it ends. -/

namespace Sys2Proof.Machine

/-! ### The heads under a raise (R194) -/

theorem mget_map_soil (id : Nat) (m : Map Nat HeadSt) (n : Nat) : ∃ d, mget headD (m.map (soil id)) n = { mget headD m n with dirty := d } := by
  induction m with
  | nil => exact ⟨_, rfl⟩
  | cons e m ih =>
    obtain ⟨k, h⟩ := e
    obtain ⟨d, hd⟩ : ∃ d, soil id (k, h) = (k, { h with dirty := d }) := by
      unfold soil
      split
      · exact ⟨true, rfl⟩
      · exact ⟨h.dirty, rfl⟩
    by_cases hk : k = n
    · exact ⟨d, by rw [List.map_cons, hd, mget, mget, if_pos hk, if_pos hk]⟩
    · obtain ⟨e, he⟩ := ih
      exact ⟨e, by rw [List.map_cons, hd, mget, mget, if_neg hk, if_neg hk, he]⟩

/-- The heads stay as they were, but for the mark of a spoilt frame. -/
structure HeadsKept (s t : State) : Prop where
  head : ∀ n, ∃ d, t.head n = { s.head n with dirty := d }

section
variable {s t u : State}

theorem HeadsKept.of_eq (h : t.heads = s.heads) : HeadsKept s t := ⟨fun n => ⟨(s.head n).dirty, by unfold State.head; rw [h]⟩⟩

theorem HeadsKept.trans (h : HeadsKept s t) (k : HeadsKept t u) : HeadsKept s u := ⟨fun n => by
  obtain ⟨d, hd⟩ := h.head n
  obtain ⟨e, he⟩ := k.head n
  exact ⟨e, by rw [he, hd]⟩⟩

theorem headsKept_only {A : List Area} {R : Option (List Reg)} (h : Only A R s t) (hA : A.contains .heads = false) : HeadsKept s t :=
  .of_eq (h.same .heads fun hm => by rw [List.contains_iff_mem.mpr hm] at hA; cases hA)

theorem HeadsKept.foldl {α : Type} {f : State → α → State} {l : List α} (h : HeadsKept s t) (hf : ∀ y e, HeadsKept y (f y e)) :
    HeadsKept s (l.foldl f t) := by
  induction l generalizing t with
  | nil => exact h
  | cons e l ih => exact ih (h.trans (hf t e))

theorem HeadsKept.ite {c : Prop} [Decidable c] (h : HeadsKept s t) (k : HeadsKept s u) : HeadsKept s (if c then t else u) := by split <;> assumption

theorem HeadsKept.fc {f : FcSt} (h : HeadsKept s t) : HeadsKept s { t with fc := f } := h.trans (.of_eq rfl)

theorem HeadsKept.mem {m : List Host.Cell} {b : Map Nat Bool} (h : HeadsKept s t) : HeadsKept s { t with mem := m, bad := b } := h.trans (.of_eq rfl)

theorem HeadsKept.refl (s : State) : HeadsKept s s := .of_eq rfl

/-- A raise marks heads, and changes nothing else of them. -/
theorem headsKept_raise (s : State) (id unit : Nat) (org : Org) : HeadsKept s (s.raise id unit org) := by
  unfold State.raise
  split
  · exact .refl s
  extract_lets y0 y1 _ y3 y4 old y6 y7 y8 y9 y10 r
  have h0 : HeadsKept s y0 := headsKept_only (only_count .FC_CNT rfl) rfl
  have h3 : HeadsKept s y3 := (h0.trans (headsKept_only (only_count .FC_SUPPRESSED rfl) rfl)).fc
  have h6 : HeadsKept s y6 := (h0.trans (headsKept_only (only_unclear y0 id) rfl)).trans (headsKept_only (only_logEntry ..) rfl)
  have h7 : HeadsKept y6 y7 := ⟨mget_map_soil id y6.heads⟩
  have h8 : HeadsKept s y8 := (h6.trans h7).trans (headsKept_only (only_noteRaise ..) rfl)
  have h9 : HeadsKept s y9 := HeadsKept.ite h8 (h8.trans (headsKept_only (only_latchSource ..) rfl))
  have h10 : HeadsKept s y10 := h9.trans (headsKept_only (only_event ..) rfl)
  exact HeadsKept.ite (h3.trans (headsKept_only (only_log ..) rfl)) (HeadsKept.ite h6 (HeadsKept.ite h10 h10.fc))

theorem headsKept_dropped (s : State) (n : Nat) (o : Org) (a : Nat) : HeadsKept s (s.dropped n o a) := by
  unfold State.dropped
  extract_lets y0 p y1
  have h0 : Only [] (some [.CE_PL_WR_DENY]) s y0 := only_count .CE_PL_WR_DENY rfl
  have h1 : Only [.pls] (some [.CE_PL_WR_DENY]) s y1 := (h0.widen (by decide)).then (only_setPl ..) rfl
  split
  · exact headsKept_only h0 rfl
  · exact ((headsKept_only h1 rfl).trans (headsKept_only (only_log ..) rfl)).trans (headsKept_raise ..)

theorem headsKept_memWrite (s : State) (host : Bool) (o : Org) (a : Nat) (data : List Byte) : HeadsKept s (s.memWrite host o a data) := by
  unfold State.memWrite
  extract_lets hit y
  have h : HeadsKept s y := (HeadsKept.refl s).mem
  split
  · exact HeadsKept.trans (HeadsKept.mem (HeadsKept.refl s)) (headsKept_only (only_dirtySlots ..) rfl)
  · exact (h.trans (headsKept_only (only_dirtySlots ..) rfl)).foldl fun y n => headsKept_dropped ..

theorem headsKept_journal (s : State) (k : Nat) (data : List Byte) : HeadsKept s (s.journal k data) := by
  unfold State.journal
  split
  · exact .refl s
  · exact (headsKept_memWrite ..).trans (headsKept_only (only_set .CE_JRN_WR rfl) rfl)

end


/-! ### The status of a commit (R185) -/

/-- The word of CE_CSTAT for a state and a verdict. -/
def statusWord (tag st : Nat) (v : Verdict) : Word :=
  w32 (st + b2n v.layer.isSome * 8 + v.reason * 16 + v.layer.getD 0 * 256 + tag * 65536)

/-- The word of CE_CDET for a verdict and a member. -/
def detailWord (v : Verdict) (member : Nat) : Word := w32 (v.band.getD 0 + b2n v.band.isSome * 512 + member * 4096)

theorem bits_w32 (n hi lo : Nat) : bits (w32 n) hi lo = n % 2 ^ 32 / 2 ^ lo % 2 ^ (hi + 1 - lo) := by
  unfold bits w32
  rw [BitVec.toNat_ofNat]

theorem state_statusWord (tag : Nat) (v : Verdict) {st : Nat} (h : st < 8) : bits (statusWord tag st v) 2 0 = st := by
  unfold statusWord
  rw [bits_w32]
  omega

theorem reason_statusWord (tag : Nat) {v : Verdict} {st : Nat} (h : st < 8) (hv : v.reason < 16) : bits (statusWord tag st v) 7 4 = v.reason := by
  have hb : b2n v.layer.isSome ≤ 1 := by cases v.layer.isSome <;> decide
  unfold statusWord
  rw [bits_w32]
  omega

theorem rd_setCues (s : State) (c : Map Nat CueSt) (k : Key) : State.rd { s with cues := c } k = s.rd k := rfl

section
variable {s : State} {c : CommitSet} {st member : Nat} {v : Verdict}

/-- The latest commit of a head shows its state. -/
theorem rd_showState (h : (s.head c.head).latest = c.serial) :
    (s.showState c st v member).rd (.CE_CSTAT, [c.head / 2, c.head % 2]) = statusWord c.tag st v ∧
      (s.showState c st v member).rd (.CE_CDET, [c.head / 2, c.head % 2]) = detailWord v member := by
  have hne : Reg.CE_CSTAT ≠ Reg.CE_CDET := by decide
  unfold State.showState
  extract_lets k h' was y1 y2
  have h1 : y2.rd (.CE_CSTAT, [c.head / 2, c.head % 2]) = statusWord c.tag st v :=
    (rd_wr_ne _ _ fun e => hne (congrArg Prod.fst e)).trans (rd_wr_self ..)
  have h2 : y2.rd (.CE_CDET, [c.head / 2, c.head % 2]) = detailWord v member := rd_wr_self ..
  rw [if_neg (not_not.mpr h)]
  split
  · rw [rd_setCues, rd_setCues]; exact ⟨h1, h2⟩
  · exact ⟨h1, h2⟩

theorem heads_showState (s : State) (c : CommitSet) (st : Nat) (v : Verdict) (member : Nat) : (s.showState c st v member).heads = s.heads :=
  (only_showState ..).same .heads (by decide)

/-- A commit shows its state on its own head only. -/
theorem rd_showState_ne {k : Key} (h1 : k ≠ (.CE_CSTAT, [c.head / 2, c.head % 2])) (h2 : k ≠ (.CE_CDET, [c.head / 2, c.head % 2])) :
    (s.showState c st v member).rd k = s.rd k := by
  unfold State.showState
  extract_lets _ _ was y1 y2
  have h : y2.rd k = s.rd k := (rd_wr_ne _ _ h2).trans (rd_wr_ne _ _ h1)
  split
  · rfl
  · split
    · rw [rd_setCues]; exact h
    · exact h

/-- The source that the rejection of a commit raises (R187). -/
theorem isSome_srcClass_reject {n : Nat} (h : n < 16) : (srcClass (0x086 + 8 * n)).isSome = true := by
  have : ∀ n : Fin 16, (srcClass (0x086 + 8 * n.val)).isSome = true := by decide
  exact this ⟨n, h⟩

/-- What the rejection of a head's latest commit leaves (R187). -/
structure Rejected (s : State) (c : CommitSet) (v : Verdict) (member : Nat) (t : State) : Prop where
  status : t.rd (.CE_CSTAT, [c.head / 2, c.head % 2]) = statusWord c.tag 5 v
  detail : t.rd (.CE_CDET, [c.head / 2, c.head % 2]) = detailWord v member
  heads : HeadsKept s t
  count : t.get (F.CE_CREJ_COUNT (c.head / 2) (c.head % 2)) = min (s.get (F.CE_CREJ_COUNT (c.head / 2) (c.head % 2)) + 1) 65535
  raised : Raised (0x086 + 8 * c.head) s t

theorem rejectSet_rejected (h : (s.head c.head).latest = c.serial) (hn : c.head < 16) : Rejected s c v member (s.rejectSet c v member) := by
  unfold State.rejectSet
  extract_lets k h' y1 y2 y3 y4
  obtain ⟨hs, hd⟩ := rd_showState (st := 5) (v := v) (member := member) h
  have h1 : Only [.cues] (some [.CE_CDET, .CE_CSTAT]) s y1 := only_showState ..
  have h2 : Only [] (some [.CE_CREJ]) y1 y2 := only_count .CE_CREJ rfl
  have h3 : Only [] (some [.CE_ADM_FAIL_LIMIT, .CE_ADM_FAIL_NEED]) y2 y3 :=
    Only.ite (((only_set .CE_ADM_FAIL_NEED rfl).widen (by decide)).then (only_set .CE_ADM_FAIL_LIMIT rfl) rfl) (Only.refl _)
  have h4 : Only [.sl] (some [.CE_ADM_FAIL_LIMIT, .CE_ADM_FAIL_NEED]) y2 y4 := (h3.widen (by decide)).then (only_log ..) rfl
  have h5 : Only [.sl] (some [.CE_ADM_FAIL_LIMIT, .CE_ADM_FAIL_NEED, .CE_CREJ]) y1 y4 := (h2.widen (by decide)).then h4 rfl
  have hr := only_raise y4 (0x086 + 8 * c.head) c.head c.org
  refine ⟨?_, ?_, ?_, ?_, ?_⟩
  · exact ((hr.reg _ .CE_CSTAT rfl (by decide)).trans (h5.reg _ .CE_CSTAT rfl (by decide))).trans hs
  · exact ((hr.reg _ .CE_CDET rfl (by decide)).trans (h5.reg _ .CE_CDET rfl (by decide))).trans hd
  · exact ((headsKept_only h1 rfl).trans (headsKept_only h5 rfl)).trans (headsKept_raise ..)
  · refine ((hr.field _ .CE_CREJ rfl (by decide)).trans (h4.field _ .CE_CREJ rfl (by decide))).trans ?_
    refine (get_count_self _ _ _ (by exact (by decide : 15 < 32))).trans ?_
    exact congrArg (satAdd 16 · 1) (h1.field _ .CE_CREJ rfl (by decide))
  · refine (raised_raise c.head c.org (isSome_srcClass_reject hn)).of ?_ rfl
    exact (h5.reg _ .FC_CNT rfl (by decide)).trans (h1.reg _ .FC_CNT rfl (by decide))

end


/-! ### The end of a check (R186 to R188) -/

/-- The verdict that the end of a check gives. -/
def Check.outcome (c : Check) : Verdict := if c.left then { reason := 8 } else c.verdict.getD {}

section
variable {s : State} {k : Nat} {c : Check} {cs : List Check}

theorem checkDone_idle (h : (s.eng k).checks = [] ∨ s.blocksUp = false) : checkDone k s = s := by
  unfold checkDone
  rcases h with h | h
  · rw [h, ite_self]
  · rw [h]; rfl

/-- The end of the check of a single commit. -/
theorem checkDone_single (hb : s.blocksUp = true) (hc : (s.eng k).checks = c :: cs) (hm : c.set.members = []) :
    checkDone k s =
      (if c.outcome.reason = 0 then (s.setChecks k cs).acceptSet c.set else (s.setChecks k cs).rejectSet c.set c.outcome 0).startCheck k := by
  unfold checkDone
  rw [hb, hc]
  simp only [hm, Bool.not_true, Bool.false_eq_true, if_false, if_true]
  rfl

/-- What a check that starts leaves: the heads, and every register but the status events. -/
theorem head_startCheck (s : State) (k n : Nat) : (s.startCheck k).head n = s.head n := by
  unfold State.head
  rw [(only_startCheck s k).same .heads (by decide)]

theorem head_setChecks (s : State) (k : Nat) (cs : List Check) (n : Nat) : (s.setChecks k cs).head n = s.head n := by
  unfold State.head
  rw [(only_setChecks s k cs).same .heads (by decide)]

end

section
variable {s : State} {c : CommitSet}

theorem head_updHead (s : State) (n : Nat) (f : HeadSt → HeadSt) : (s.updHead n f).head n = f (s.head n) := head_setHead ..

theorem head_of (s t : State) (h : t.heads = s.heads) (n : Nat) : t.head n = s.head n := by
  unfold State.head
  rw [h]

/-- A head whose entry changes, and a status that is shown after it. -/
theorem rd_updHead_showState {f : HeadSt → HeadSt} {st member : Nat} {v : Verdict} (h : (f (s.head c.head)).latest = c.serial) :
    ((s.updHead c.head f).showState c st v member).rd (.CE_CSTAT, [c.head / 2, c.head % 2]) = statusWord c.tag st v :=
  (rd_showState (by rw [head_updHead]; exact h)).1

theorem head_updHead_showState (s : State) (c : CommitSet) (f : HeadSt → HeadSt) (st member : Nat) (v : Verdict) (n : Nat) :
    ((s.updHead n f).showState c st v member).head n = f (s.head n) := by
  rw [head_of _ _ (heads_showState ..), head_updHead]

/-- A set with PREP is prepared (R191). -/
theorem acceptSet_prep (h : (s.head c.head).latest = c.serial) (hp : c.prep = true) :
    (s.acceptSet c).rd (.CE_CSTAT, [c.head / 2, c.head % 2]) = statusWord c.tag 2 {} ∧
      ((s.acceptSet c).head c.head).prepared = some { c with accepted := s.dtime } ∧
      Only [.heads, .cues] (some [.CE_CDET, .CE_CSTAT]) s (s.acceptSet c) := by
  unfold State.acceptSet
  generalize s.dtime = d
  rw [if_pos hp]
  refine ⟨rd_updHead_showState (c := { c with accepted := d }) h, ?_, ((only_updHead ..).widen (by decide)).then (only_showState ..) rfl⟩
  rw [head_updHead_showState]

/-- Statuses that are shown change no head. -/
theorem heads_showAll (l : List CommitSet) (st : Nat) (s : State) : (l.foldl (fun s p => s.showState p st {} 0) s).heads = s.heads := by
  induction l generalizing s with
  | nil => rfl
  | cons p l ih => exact (ih _).trans (heads_showState ..)

/-- A set waits for its target frame, among the pending sets of its head (R188). -/
theorem addPending_pends (h : (s.head c.head).latest = c.serial) :
    (s.addPending c).rd (.CE_CSTAT, [c.head / 2, c.head % 2]) = statusWord c.tag 3 {} ∧ c ∈ ((s.addPending c).head c.head).pending := by
  unfold State.addPending
  extract_lets old y1
  have h1 : y1.heads = s.heads := heads_showAll ..
  clear_value y1 old
  refine ⟨rd_updHead_showState ?_, ?_⟩
  · rw [head_of _ _ h1]; exact h
  · rw [head_updHead_showState]
    simp

theorem nextVintage_lt {v : Nat} (h : v < 2 ^ 32) : nextVintage v < 2 ^ 32 := by
  unfold nextVintage
  split <;> omega

/-- A field of a whole word reads the number that the word was made of. -/
theorem get_w32 {t : State} {v : Nat} (f : Fld) (h0 : f.lo = 0) (h1 : f.hi = 31) (h : t.rd f.key = w32 v) (hv : v < 2 ^ 32) : t.get f = v := by
  unfold State.get
  rw [h, h0, h1, bits_w32, Nat.mod_eq_of_lt hv, Nat.pow_zero, Nat.div_one, Nat.mod_eq_of_lt hv]

/-- A set becomes the vintage of its head: it is the one applied, with the next number, and its status says so (R189). -/
theorem applySet_applies (h : (s.head c.head).latest = c.serial) (hr : c.restored = false) :
    (s.applySet c).rd (.CE_CSTAT, [c.head / 2, c.head % 2]) = statusWord c.tag 4 {} ∧ ((s.applySet c).head c.head).applied = some c ∧
      (s.applySet c).get (F.CE_VINT_APP_VINTAGE (c.head / 2) (c.head % 2)) = nextVintage (s.get (F.CE_VINT_APP_VINTAGE (c.head / 2) (c.head % 2))) :=
          by
  unfold State.applySet
  extract_lets k h' old v y1 y2 y3
  have h1 : Only [.layers] (some [.CE_L_FENCE_STAT, .CE_L_SHOWN_HI, .CE_L_SHOWN_LO]) s y1 := only_swapLayers ..
  have h2 : y2.head c.head = { y1.head c.head with applied := some c, dropped := none, vintDrop := false } := head_updHead ..
  have h3 : y3.heads = y2.heads := (only_wr .CE_VINT_APP rfl).same .heads (by decide)
  have hv : y3.rd (.CE_VINT_APP, [k, h']) = w32 v := rd_wr_self ..
  have hl : (y3.head c.head).latest = c.serial := by
    rw [head_of _ _ h3, h2, head_of _ _ (h1.same .heads (by decide))]; exact h
  have hx : (y3.head c.head).applied = some c := by rw [head_of _ _ h3, h2]
  clear_value y3
  have h4 := only_showState y3 c 4 {} 0
  have h5 : Only [.sl] (some [.CE_ADM_CULL, .CE_ADM_PEAK_B, .CE_ADM_PEAK_LP, .CE_ADM_PEAK_RES]) (y3.showState c 4 {} 0)
      (((y3.showState c 4 {} 0).setReport c).log 2 0 c.org (c.head + 4 * 16) v) := ((only_setReport ..).widen (by decide)).then (only_log ..) rfl
  refine ⟨?_, ?_, ?_⟩
  · exact (h5.reg _ .CE_CSTAT rfl (by decide)).trans (rd_showState hl).1
  · rw [head_of _ _ (h5.same .heads (by decide)), head_of _ _ (heads_showState ..), hx]
  · have hw : v = nextVintage (s.get (F.CE_VINT_APP_VINTAGE k h')) := by
      unfold v
      rw [if_neg (by rw [hr]; exact Bool.false_ne_true)]
    have hg := ((h5.reg _ .CE_VINT_APP rfl (by decide)).trans (h4.reg _ .CE_VINT_APP rfl (by decide))).trans hv
    rw [hw] at hg ⊢
    exact get_w32 (F.CE_VINT_APP_VINTAGE k h') rfl rfl hg (nextVintage_lt (get_lt s _))

/-- On a stopped head a set becomes the vintage, and its journal record is written (R188). -/
theorem applyStopped_applies (h : (s.head c.head).latest = c.serial) (hr : c.restored = false) :
    (s.applyStopped c).rd (.CE_CSTAT, [c.head / 2, c.head % 2]) = statusWord c.tag 4 {} ∧
      ((s.applyStopped c).head c.head).applied = some c ∧
      (s.applyStopped c).get (F.CE_VINT_APP_VINTAGE (c.head / 2) (c.head % 2)) =
        nextVintage (s.get (F.CE_VINT_APP_VINTAGE (c.head / 2) (c.head % 2))) := by
  obtain ⟨hs, ha, hv⟩ := applySet_applies h hr
  unfold State.applyStopped
  generalize s.applySet c = y at *
  dsimp only
  generalize journalRecord c _ 0 y.tai true [] = data
  have hj := only_journal y (c.head / 2) data
  obtain ⟨d, hd⟩ := (headsKept_journal y (c.head / 2) data).head c.head
  refine ⟨(hj.reg _ .CE_CSTAT rfl (by decide)).trans hs, ?_, (hj.field _ .CE_VINT_APP rfl (by decide)).trans hv⟩
  rw [hd]
  exact ha

end

/-- What becomes of a set without PREP that passed its check. -/
theorem acceptSet_stopped {s : State} {c : CommitSet} (hp : c.prep = false) (h0 : s.hst c.head = 0) :
    s.acceptSet c = s.applyStopped { c with accepted := s.dtime } := by
  unfold State.acceptSet
  generalize s.dtime = d
  rw [if_neg (by rw [hp]; exact Bool.false_ne_true), if_pos h0]

theorem acceptSet_running {s : State} {c : CommitSet} (hp : c.prep = false) (h0 : s.hst c.head ≠ 0) :
    s.acceptSet c = s.addPending { c with accepted := s.dtime, target := s.targetFrame c.head } := by
  unfold State.acceptSet
  generalize s.dtime = d
  rw [if_neg (by rw [hp]; exact Bool.false_ne_true), if_neg h0]

/-! ### The target frame of a set (R158, R188) -/

theorem firstOpen_congr {s t : State} {n : Nat} (h : ∀ f, t.deadlinePassed n f = s.deadlinePassed n f) (fuel f : Nat) :
    t.firstOpen n fuel f = s.firstOpen n fuel f := by
  induction fuel generalizing f with
  | zero => rfl
  | succ fuel ih => rw [State.firstOpen, State.firstOpen, h, ih]

/-- The target frame rests on the registers, their values in effect, the count and the heads. -/
theorem targetFrame_congr {s t : State} (hrd : ∀ k, t.rd k = s.rd k) (he : t.eff = s.eff) (hb : t.tb = s.tb) (hh : t.heads = s.heads)
    (n : Nat) : t.targetFrame n = s.targetFrame n := by
  have hget : ∀ f, t.get f = s.get f := fun f => by simp only [State.get, hrd]
  have hgetE : ∀ f, t.getE f = s.getE f := fun f => by simp only [State.getE, State.rdE, he, hrd]
  have htai : t.tai = s.tai := by simp only [State.tai, hb]
  have hhead : t.head n = s.head n := head_of _ _ hh n
  have hraster : t.raster n = s.raster n := by simp only [State.raster, State.fmt, State.rate, hget]
  have hlead : ∀ f, t.leadFor n f = s.leadFor n f := fun f => by simp only [State.leadFor, hget, hgetE, hhead]
  have hat : ∀ f l, t.deadlineAt n f l = s.deadlineAt n f l := fun f l => by
    rw [State.deadlineAt, State.deadlineAt, hraster]
    simp only [State.delay, hget]
  have hopen : ∀ f, t.deadlinePassed n f = s.deadlinePassed n f := fun f => by
    rw [State.deadlinePassed, State.deadlinePassed, hat, hlead, State.now, State.now, htai]
  have hpos : t.pos n = s.pos n := by simp only [State.pos, State.delay, hraster, hget, htai]
  rw [State.targetFrame, State.targetFrame, firstOpen_congr hopen, hpos, State.hst, State.hst, hget, hhead]

/-! ### The end of the check of a single commit (R187, R188, R191) -/

section
variable {s : State} {k h n : Nat} {c : Check} {cs : List Check}
variable (hk : c.set.head / 2 = k) (hh : c.set.head % 2 = h) (hn : c.set.head = n)
variable (hb : s.blocksUp = true) (hc : (s.eng k).checks = c :: cs) (hm : c.set.members = []) (hl : (s.head n).latest = c.set.serial)
include hk hh hn hb hc hm hl

/-- A set that failed its check is rejected. -/
theorem checkDone_rejects (h16 : n < 16) (hv : c.outcome.reason ≠ 0) (hv' : c.outcome.reason < 16) :
    (checkDone k s).get (F.CE_CSTAT_STATE k h) = 5 ∧ (checkDone k s).get ⟨(.CE_CSTAT, [k, h]), 7, 4⟩ = c.outcome.reason ∧
      (checkDone k s).get (F.CE_VINT_APP_VINTAGE k h) = s.get (F.CE_VINT_APP_VINTAGE k h) ∧
      ((checkDone k s).head n).applied = (s.head n).applied ∧ ((checkDone k s).head n).pending = (s.head n).pending ∧
      (checkDone k s).get (F.CE_CREJ_COUNT k h) = min (s.get (F.CE_CREJ_COUNT k h) + 1) 65535 ∧ Raised (0x086 + 8 * n) s (checkDone k s) := by
  rw [checkDone_single hb hc hm, if_neg hv]
  subst hk hh hn
  have hy := only_setChecks s (c.set.head / 2) cs
  have hlat : ((s.setChecks (c.set.head / 2) cs).head c.set.head).latest = c.set.serial := by rw [head_setChecks]; exact hl
  have hx := rejectSet_rejected (v := c.outcome) (member := 0) hlat h16
  have hr := only_rejectSet (s.setChecks (c.set.head / 2) cs) c.set c.outcome 0
  obtain ⟨d, hd⟩ := hx.heads.head c.set.head
  rw [head_setChecks] at hd
  have hz := only_startCheck ((s.setChecks (c.set.head / 2) cs).rejectSet c.set c.outcome 0) (c.set.head / 2)
  rw [head_startCheck, hd]
  have hst := (hz.reg _ .CE_CSTAT rfl (by decide)).trans hx.status
  refine ⟨?_, ?_, ?_, rfl, rfl, ?_, ?_⟩
  · exact (congrArg (bits · 2 0) hst).trans (state_statusWord _ _ (by decide))
  · exact (congrArg (bits · 7 4) hst).trans (reason_statusWord _ (by decide) hv')
  · exact ((hz.field _ .CE_VINT_APP rfl (by decide)).trans (hr.field _ .CE_VINT_APP rfl (by decide))).trans
      (hy.field _ .CE_VINT_APP rfl (by decide))
  · rw [hz.field _ .CE_CREJ rfl (by decide), hx.count, hy.field _ .CE_CREJ rfl (by decide)]
  · exact hx.raised.of (hy.reg _ .FC_CNT rfl (by decide)) (hz.reg _ .FC_CNT rfl (by decide))

/-- A set with PREP that passed its check is prepared. -/
theorem checkDone_prepares (hv : c.outcome.reason = 0) (hp : c.set.prep = true) :
    (checkDone k s).get (F.CE_CSTAT_STATE k h) = 2 ∧ ((checkDone k s).head n).prepared = some { c.set with accepted := s.dtime } ∧
      (checkDone k s).get (F.CE_VINT_APP_VINTAGE k h) = s.get (F.CE_VINT_APP_VINTAGE k h) := by
  rw [checkDone_single hb hc hm, if_pos hv]
  subst hk hh hn
  have hy := only_setChecks s (c.set.head / 2) cs
  have hlat : ((s.setChecks (c.set.head / 2) cs).head c.set.head).latest = c.set.serial := by rw [head_setChecks]; exact hl
  obtain ⟨hst, hpr, ho⟩ := acceptSet_prep hlat hp
  have hz := only_startCheck ((s.setChecks (c.set.head / 2) cs).acceptSet c.set) (c.set.head / 2)
  refine ⟨?_, ?_, ?_⟩
  · exact (congrArg (bits · 2 0) ((hz.reg _ .CE_CSTAT rfl (by decide)).trans hst)).trans (state_statusWord _ _ (by decide))
  · rw [head_startCheck, hpr, State.dtime, State.dtime, hy.same .tb (by decide)]
  · exact ((hz.field _ .CE_VINT_APP rfl (by decide)).trans (ho.field _ .CE_VINT_APP rfl (by decide))).trans
      (hy.field _ .CE_VINT_APP rfl (by decide))

/-- A set that passed its check becomes the next vintage of a stopped head. -/
theorem checkDone_applies (hv : c.outcome.reason = 0) (hp : c.set.prep = false) (hr : c.set.restored = false) (h0 : s.hst n = 0) :
    (checkDone k s).get (F.CE_CSTAT_STATE k h) = 4 ∧ ((checkDone k s).head n).applied = some { c.set with accepted := s.dtime } ∧
      (checkDone k s).get (F.CE_VINT_APP_VINTAGE k h) = nextVintage (s.get (F.CE_VINT_APP_VINTAGE k h)) := by
  rw [checkDone_single hb hc hm, if_pos hv]
  subst hk hh hn
  have hy := only_setChecks s (c.set.head / 2) cs
  have hlat : ((s.setChecks (c.set.head / 2) cs).head c.set.head).latest = c.set.serial := by rw [head_setChecks]; exact hl
  have h0' : (s.setChecks (c.set.head / 2) cs).hst c.set.head = 0 := (hy.field (F.HD_STAT_STATE c.set.head) .HD_STAT rfl (by decide)).trans h0
  have hd : (s.setChecks (c.set.head / 2) cs).dtime = s.dtime := by rw [State.dtime, State.dtime, hy.same .tb (by decide)]
  rw [acceptSet_stopped hp h0', hd]
  obtain ⟨hst, ha, hvt⟩ := applyStopped_applies (c := { c.set with accepted := s.dtime }) hlat hr
  have hz := only_startCheck ((s.setChecks (c.set.head / 2) cs).applyStopped { c.set with accepted := s.dtime }) (c.set.head / 2)
  refine ⟨?_, ?_, ?_⟩
  · exact (congrArg (bits · 2 0) ((hz.reg _ .CE_CSTAT rfl (by decide)).trans hst)).trans (state_statusWord _ _ (by decide))
  · rw [head_startCheck]; exact ha
  · exact ((hz.field _ .CE_VINT_APP rfl (by decide)).trans hvt).trans (congrArg nextVintage (hy.field _ .CE_VINT_APP rfl (by decide)))

/-- A set that passed its check pends for its target frame on a head that is not stopped. -/
theorem checkDone_pends (hv : c.outcome.reason = 0) (hp : c.set.prep = false) (h0 : s.hst n ≠ 0) :
    (checkDone k s).get (F.CE_CSTAT_STATE k h) = 3 ∧
      { c.set with accepted := s.dtime, target := s.targetFrame n } ∈ ((checkDone k s).head n).pending ∧
      (checkDone k s).get (F.CE_VINT_APP_VINTAGE k h) = s.get (F.CE_VINT_APP_VINTAGE k h) := by
  rw [checkDone_single hb hc hm, if_pos hv]
  subst hk hh hn
  have hy := only_setChecks s (c.set.head / 2) cs
  have hlat : ((s.setChecks (c.set.head / 2) cs).head c.set.head).latest = c.set.serial := by rw [head_setChecks]; exact hl
  have h0' : (s.setChecks (c.set.head / 2) cs).hst c.set.head ≠ 0 := fun e =>
    h0 ((hy.field (F.HD_STAT_STATE c.set.head) .HD_STAT rfl (by decide)).symm.trans e)
  have hd : (s.setChecks (c.set.head / 2) cs).dtime = s.dtime := by rw [State.dtime, State.dtime, hy.same .tb (by decide)]
  have ht : (s.setChecks (c.set.head / 2) cs).targetFrame c.set.head = s.targetFrame c.set.head :=
    targetFrame_congr (fun _ => rfl) (hy.same .eff (by decide)) (hy.same .tb (by decide)) (hy.same .heads (by decide)) _
  rw [acceptSet_running hp h0', hd, ht]
  obtain ⟨hst, ha⟩ := addPending_pends (c := { c.set with accepted := s.dtime, target := s.targetFrame c.set.head }) hlat
  have ho := only_addPending (s.setChecks (c.set.head / 2) cs) { c.set with accepted := s.dtime, target := s.targetFrame c.set.head }
  have hz := only_startCheck ((s.setChecks (c.set.head / 2) cs).addPending
    { c.set with accepted := s.dtime, target := s.targetFrame c.set.head }) (c.set.head / 2)
  refine ⟨?_, ?_, ?_⟩
  · exact (congrArg (bits · 2 0) ((hz.reg _ .CE_CSTAT rfl (by decide)).trans hst)).trans (state_statusWord _ _ (by decide))
  · rw [head_startCheck]; exact ha
  · exact ((hz.field _ .CE_VINT_APP rfl (by decide)).trans (ho.field _ .CE_VINT_APP rfl (by decide))).trans
      (hy.field _ .CE_VINT_APP rfl (by decide))

end


/-! ### A commit enters its check (R185, R190) -/

/-- A set without the report of its admission, which the start of its check fills in (R186). -/
def CommitSet.bare (c : CommitSet) : CommitSet := { c with adm := {} }

/-- The sets in the queue of checks of an engine, without their reports. -/
def State.queued (s : State) (k : Nat) : List CommitSet := (s.eng k).checks.map fun c => c.set.bare

/-- The word of CE_CSTAT that shows CHECKING, and an empty word of CE_CDET, for head h. -/
structure Enters (tag h : Nat) (s : State) : Prop where
  status : s.rd (.CE_CSTAT, [h / 2, h % 2]) = statusWord tag 1 {}
  detail : s.rd (.CE_CDET, [h / 2, h % 2]) = detailWord {} 0

section
variable {s t : State} {k : Nat}

theorem eng_setChecks (s : State) (k : Nat) (cs : List Check) : (s.setChecks k cs).eng k = ⟨cs⟩ := mget_nput_self ..

theorem queued_of (h : t.engines = s.engines) (k : Nat) : t.queued k = s.queued k := by
  unfold State.queued State.eng
  rw [h]

/-- The start of a check fills in its verdict and its report only. -/
theorem queued_startCheck (s : State) (k : Nat) : (s.startCheck k).queued k = s.queued k := by
  unfold State.startCheck
  split
  · rfl
  next c cs hc =>
    split
    · rfl
    · dsimp only
      unfold State.queued
      rw [eng_setChecks, hc]
      rfl

theorem queued_queueChecks (s : State) (c : CommitSet) : (s.queueChecks [c]).queued (c.head / 2) = s.queued (c.head / 2) ++ [c.bare] := by
  unfold State.queueChecks
  rw [List.foldl_cons, List.foldl_nil, List.foldl_cons, List.foldl_nil, queued_startCheck]
  unfold State.queued
  rw [eng_setChecks, List.map_append, List.map_singleton]

/-- The queue of an engine after one more set has entered it. -/
theorem queued_append {c : CommitSet} (h : t.queued k = s.queued k ++ [c]) :
    (t.eng k).checks.length = (s.eng k).checks.length + 1 ∧ ∀ x, ((t.eng k).checks.getLast?).map (·.set) = some x → x.bare = c := by
  unfold State.queued at h
  refine ⟨by simpa using congrArg List.length h, fun x hx => ?_⟩
  have hl := congrArg List.getLast? h
  rw [List.getLast?_map, List.getLast?_append, List.getLast?_singleton] at hl
  obtain ⟨y, hy, rfl⟩ := Option.map_eq_some_iff.mp hx
  rw [hy] at hl
  exact Option.some.inj hl

/-! #### The number of a commit -/

/-- Give heads the number of their latest commit. -/
def State.number (s : State) (ns : List Nat) (n : Nat) : State := ns.foldl (fun s h => s.updHead h fun x => { x with latest := n }) s

theorem newSerial_eq (s : State) (ns : List Nat) : s.newSerial ns = State.number { s with serial := s.serial + 1 } ns (s.serial + 1) := (rfl)

theorem only_number (s : State) (ns : List Nat) (n : Nat) : Only [.heads] (some []) s (s.number ns n) :=
  Only.foldl (Only.refl _) fun _ _ hy => hy.then (only_updHead ..) rfl

theorem head_updHead_ne (s : State) {n m : Nat} (f : HeadSt → HeadSt) (h : m ≠ n) : (s.updHead n f).head m = s.head m := head_setHead_ne _ _ h

theorem latest_number (s : State) (ns : List Nat) (n m : Nat) : ((s.number ns n).head m).latest = if m ∈ ns then n else (s.head m).latest := by
  induction ns generalizing s with
  | nil => rfl
  | cons a ns ih =>
    refine (ih _).trans ?_
    by_cases hm : m ∈ ns
    · rw [if_pos hm, if_pos (List.mem_cons_of_mem _ hm)]
    rw [if_neg hm]
    by_cases ha : m = a
    · subst ha
      rw [head_updHead, if_pos List.mem_cons_self]
    · rw [head_updHead_ne _ _ ha, if_neg (by simp [ha, hm])]

theorem serial_newSerial (s : State) (ns : List Nat) : (s.newSerial ns).serial = s.serial + 1 := by
  rw [newSerial_eq]
  exact (only_number ..).same .serial (by decide)

theorem latest_newSerial (s : State) {ns : List Nat} {m : Nat} (h : m ∈ ns) : ((s.newSerial ns).head m).latest = s.serial + 1 := by
  rw [newSerial_eq, latest_number, if_pos h]

end

/-! #### The heads that show CHECKING -/

section
variable {s : State} {c : CommitSet} {tag m : Nat}

theorem showState_enters (h : (s.head c.head).latest = c.serial) (ht : c.tag = tag) : Enters tag c.head (s.showState c 1 {} 0) := by
  obtain ⟨hs, hd⟩ := rd_showState (st := 1) (v := {}) (member := 0) h
  exact ⟨ht ▸ hs, hd⟩

/-- A head that shows CHECKING still does when another one, or itself, shows it. -/
theorem Enters.show (he : Enters tag m s) (h : (s.head c.head).latest = c.serial) (ht : c.tag = tag) : Enters tag m (s.showState c 1 {} 0) := by
  by_cases hm : c.head = m
  · exact hm ▸ showState_enters h ht
  · have hk (r r' : Reg) : ((r, [m / 2, m % 2]) : Key) ≠ (r', [c.head / 2, c.head % 2]) := fun e => by
      have he := congrArg Prod.snd e
      simp only [List.cons.injEq, and_true] at he
      omega
    exact ⟨(rd_showState_ne (hk _ _) (hk _ _)).trans he.status, (rd_showState_ne (hk _ _) (hk _ _)).trans he.detail⟩

/-- The sets of a list are the latest of their heads, with one tag. -/
def Latest (tag : Nat) (l : List CommitSet) (s : State) : Prop := ∀ c ∈ l, (s.head c.head).latest = c.serial ∧ c.tag = tag

theorem Latest.of {l : List CommitSet} {t : State} (h : Latest tag l s) (ht : t.heads = s.heads) : Latest tag l t := fun c hc => by
  rw [head_of _ _ ht]
  exact h c hc

/-- Show CHECKING for each set of a list. -/
def State.showChecking (s : State) (l : List CommitSet) : State := l.foldl (fun s c => s.showState c 1 {} 0) s

theorem Enters.showAll {l : List CommitSet} (he : Enters tag m s) (h : Latest tag l s) : Enters tag m (s.showChecking l) := by
  induction l generalizing s with
  | nil => exact he
  | cons c l ih =>
    obtain ⟨hl, ht⟩ := h c List.mem_cons_self
    exact ih (he.show hl ht) (Latest.of (fun d hd => h d (List.mem_cons_of_mem _ hd)) (heads_showState ..))

theorem showChecking_enters {l : List CommitSet} (h : Latest tag l s) (hm : ∃ c ∈ l, c.head = m) : Enters tag m (s.showChecking l) := by
  induction l generalizing s with
  | nil => obtain ⟨c, hc, -⟩ := hm; cases hc
  | cons c l ih =>
    obtain ⟨hl, ht⟩ := h c List.mem_cons_self
    have hr : Latest tag l (s.showState c 1 {} 0) := Latest.of (fun d hd => h d (List.mem_cons_of_mem _ hd)) (heads_showState ..)
    obtain ⟨d, hd, rfl⟩ := hm
    rcases List.mem_cons.mp hd with rfl | hd
    · exact (showState_enters hl ht).showAll hr
    · exact ih hr ⟨d, hd, rfl⟩

theorem only_showChecking (s : State) (l : List CommitSet) : Only [.cues] (some [.CE_CDET, .CE_CSTAT]) s (s.showChecking l) :=
  Only.foldl (Only.refl _) fun _ _ hy => hy.then (only_showState ..) rfl

theorem formSet_congr {t : State} (h : ∀ k, t.rd k = s.rd k) (n tag : Nat) (org : Org) (prep : Bool) :
    t.formSet n tag org prep = s.formSet n tag org prep := by
  have hr : t.rd = s.rd := funext h
  simp only [State.formSet, State.shadowLayers, State.shadow, State.orderRegs, State.flag, State.get, hr]
  rfl

end

/-! #### The write of a commit -/

/-- The heads of the sets that a commit write forms. -/
def State.commitHeads (s : State) (k : Nat) (v : Word) : List Nat := if s.commitMembers k v = [] then [namedHead k v] else s.commitMembers k v

section
variable {s : State} {k : Nat} {v : Word} {org : Org}

/-- The sets that a commit write forms after it has taken its number. -/
def State.formed (s : State) (k : Nat) (v : Word) (org : Org) : List CommitSet :=
  (s.commitHeads k v).map fun h =>
    { (s.newSerial (s.commitHeads k v)).formSet h (bits v 31 16) org (bits v 2 2 == 1) with
      serial := (s.newSerial (s.commitHeads k v)).serial, members := s.commitMembers k v }

/-- A commit write that is no failed group commit numbers its heads, shows CHECKING and queues its checks. -/
theorem commitWrite_forms (hg : ¬ (s.asksGroup k v = true ∧ (!s.active (namedHead k v)) = true)) :
    ∃ y, Only [.groups] (some []) (s.newSerial (s.commitHeads k v)) y ∧
      s.commitWrite k v org = (y.showChecking (s.formed k v org)).queueChecks (s.formed k v org) := by
  unfold State.commitWrite
  dsimp only
  rw [if_neg hg]
  exact ⟨_, Only.ite (Only.refl _) (Only.groups 0 rfl (Only.refl _)), rfl⟩

theorem latest_formed {y : State} (h : Only [.groups] (some []) (s.newSerial (s.commitHeads k v)) y) : Latest (bits v 31 16) (s.formed k v org) y :=
  by
  intro c hc
  obtain ⟨m, hm, rfl⟩ := List.mem_map.mp hc
  refine ⟨?_, rfl⟩
  rw [head_of _ _ (h.same .heads (by decide))]
  exact (latest_newSerial s hm).trans (serial_newSerial ..).symm

/-- Every head of an accepted commit shows CHECKING with the tag, and has the new number (R185, R190). -/
theorem commitWrite_enters (hg : ¬ (s.asksGroup k v = true ∧ (!s.active (namedHead k v)) = true)) {m : Nat} (hm : m ∈ s.commitHeads k v) :
    Enters (bits v 31 16) m (s.commitWrite k v org) ∧ ((s.commitWrite k v org).head m).latest = s.serial + 1 := by
  obtain ⟨y, hy, he⟩ := commitWrite_forms (org := org) hg
  have hq := only_queueChecks (y.showChecking (s.formed k v org)) (s.formed k v org)
  obtain ⟨hs, hd⟩ := showChecking_enters (m := m) (latest_formed (org := org) hy) ⟨_, List.mem_map.mpr ⟨m, hm, rfl⟩, rfl⟩
  rw [he]
  refine ⟨⟨(hq.reg _ .CE_CSTAT rfl (by decide)).trans hs, (hq.reg _ .CE_CDET rfl (by decide)).trans hd⟩, ?_⟩
  rw [head_of _ _ (hq.same .heads (by decide)), head_of _ _ ((only_showChecking ..).same .heads (by decide)),
    head_of _ _ (hy.same .heads (by decide)), latest_newSerial s hm]

/-- The set of a single commit enters the queue of checks of its engine (R185). -/
theorem commitWrite_queues (hg : ¬ (s.asksGroup k v = true ∧ (!s.active (namedHead k v)) = true)) (hm : s.commitMembers k v = []) :
    (s.commitWrite k v org).queued (namedHead k v / 2) = s.queued (namedHead k v / 2) ++
      [({ s.formSet (namedHead k v) (bits v 31 16) org (bits v 2 2 == 1) with serial := s.serial + 1, members := [] } : CommitSet).bare] := by
  obtain ⟨y, hy, he⟩ := commitWrite_forms (org := org) hg
  have hh : s.commitHeads k v = [namedHead k v] := if_pos hm
  have hn := only_newSerial s [namedHead k v]
  have hf : s.formed k v org =
      [{ s.formSet (namedHead k v) (bits v 31 16) org (bits v 2 2 == 1) with serial := s.serial + 1, members := [] }] := by
    rw [State.formed, hh, hm, List.map_singleton, serial_newSerial, formSet_congr fun r => hn.reg r r.1 rfl rfl]
  have hc : (y.showChecking (s.formed k v org)).engines = s.engines :=
    ((only_showChecking ..).same .engines (by decide)).trans ((hy.same .engines (by decide)).trans ((only_newSerial ..).same .engines (by decide)))
  rw [he]
  rw [hf] at hc ⊢
  rw [← queued_of hc]
  exact queued_queueChecks _ _

/-- A group commit on a head that is not one of its members fails STATE on that head alone (R190). -/
theorem commitWrite_fails (hg : s.asksGroup k v = true ∧ (!s.active (namedHead k v)) = true) (hn : namedHead k v < 16) :
    (s.commitWrite k v org).rd (.CE_CSTAT, [namedHead k v / 2, namedHead k v % 2]) = statusWord (bits v 31 16) 5 { reason := 8 } ∧
      (s.commitWrite k v org).rd (.CE_CDET, [namedHead k v / 2, namedHead k v % 2]) = detailWord { reason := 8 } (namedHead k v) ∧
      Raised (0x086 + 8 * namedHead k v) s (s.commitWrite k v org) ∧ (s.commitWrite k v org).engines = s.engines := by
  have he : s.commitWrite k v org = (s.newSerial [namedHead k v]).rejectSet
      { head := namedHead k v, serial := (s.newSerial [namedHead k v]).serial, tag := bits v 31 16, org } { reason := 8 } (namedHead k v) := if_pos hg
  have hy := only_newSerial s [namedHead k v]
  have hl : ((s.newSerial [namedHead k v]).head (namedHead k v)).latest = (s.newSerial [namedHead k v]).serial :=
    (latest_newSerial s List.mem_cons_self).trans (serial_newSerial ..).symm
  rw [he]
  generalize s.newSerial [namedHead k v] = y at *
  obtain ⟨h1, h2, -, -, h5⟩ := rejectSet_rejected (c := { head := namedHead k v, serial := y.serial, tag := bits v 31 16, org })
    (v := { reason := 8 }) (member := namedHead k v) hl hn
  refine ⟨h1, h2, h5.of (hy.reg _ .FC_CNT rfl rfl) rfl, ?_⟩
  exact ((only_rejectSet ..).same .engines (by decide)).trans (hy.same .engines (by decide))

end


/-! ### The register CEk_COMMIT (R48, R185, R190) -/

section
variable {s t : State} {k : Nat} {v : Word}

/-- What a commit write asks of the heads rests on the registers. -/
theorem checking_congr (h : ∀ r, t.rd r = s.rd r) (n : Nat) : t.checking n = s.checking n := by
  simp only [State.checking, State.get, h]

theorem active_congr (h : ∀ r, t.rd r = s.rd r) (n : Nat) : t.active n = s.active n := by
  simp only [State.active, State.hst, State.get, h]

theorem asksGroup_congr (h : ∀ r, t.rd r = s.rd r) : t.asksGroup k v = s.asksGroup k v := by
  simp only [State.asksGroup, State.get, h]

theorem commitMembers_congr (h : ∀ r, t.rd r = s.rd r) : t.commitMembers k v = s.commitMembers k v := by
  have ha : t.active = s.active := funext (active_congr h)
  have hg : t.groupHeads = s.groupHeads := funext fun g => by simp only [State.groupHeads, State.get, h]
  simp only [State.commitMembers, State.get, h, ha, hg]
  rfl

theorem commitBusy_congr (h : ∀ r, t.rd r = s.rd r) : t.commitBusy k v = s.commitBusy k v := by
  have hc : t.checking = s.checking := funext (checking_congr h)
  rw [State.commitBusy, State.commitBusy, hc, commitMembers_congr h]

/-- No field of CEk_COMMIT is stored. -/
theorem judge_commit (s : State) (k : Nat) (v : Word) (b : Bool) : (s.judgeFields (.CE_COMMIT, [k]) v b).judge = .ok := by
  have hd : ∀ f ∈ (regDef .CE_COMMIT).fields, f.acc = .wo ∧ f.app = .imm := by decide
  refine judgeFields_free fun f hf => ?_
  obtain ⟨ha, hp⟩ := hd f hf
  exact ⟨fun e => absurd (hp.symm.trans e) (by decide), fun e => absurd (hp.symm.trans e) (by decide), fun e => absurd (ha.symm.trans e) (by decide)⟩

theorem command_commit (s : State) (org : Org) (k : Nat) (old new v : Word) :
    s.command org (.CE_COMMIT, [k]) old new v = if s.commitBusy k v then (s, old, .quiet) else (s.commitWrite k v org, old, .ok) := rfl

theorem after_commit (s : State) (org : Org) (k : Nat) (old new v : Word) : s.after org (.CE_COMMIT, [k]) old new v = s := rfl

theorem held_commit (h : t.rd (.CE_COMMIT, [k]) = s.rd (.CE_COMMIT, [k])) : s.held (.CE_COMMIT, [k]) = t.held (.CE_COMMIT, [k]) := by
  have hl : Reg.CE_COMMIT ≠ .CU_C_LO := by decide
  have hh : Reg.CE_COMMIT ≠ .CU_C_HI := by decide
  rw [held_eq hl hh, held_eq hl hh, h]

theorem blockWrite_commit (s : State) (org : Org) (k : Nat) (v : Word) :
    ∃ y, Only [.w1] (some []) s y ∧
      s.blockWrite org (.CE_COMMIT, [k]) v true = if y.commitBusy k v then (y, .quiet) else (y.commitWrite k v org, .ok) := by
  have hw : waits (regDef .CE_COMMIT) = false := by decide
  have ht : taken .CE_COMMIT v = v := taken_of v (by decide) (by decide)
  rw [blockWrite_ok (by exact (by decide : Reg.CE_COMMIT ≠ .xx_STATUS)) rfl]
  dsimp only
  rw [judge_commit, ht]
  generalize (s.judgeFields (.CE_COMMIT, [k]) v true).word = new
  generalize mput keyAddr (fun _ => 0) s.w1 (.CE_COMMIT, [k]) (s.judgeFields (.CE_COMMIT, [k]) v true).marks = m
  have hy : Only [.w1] (some []) s { s with w1 := m } := Only.w1 0 rfl (Only.refl _)
  generalize ({ s with w1 := m } : State) = y at hy
  refine ⟨y, hy, ?_⟩
  have ho := hy.reg (.CE_COMMIT, [k]) .CE_COMMIT rfl rfl
  rw [command_commit, after_commit]
  split
  · exact congrArg (·, Judge.quiet) ((congrArg (y.store _) (held_commit ho)).trans (store_same hw))
  · have hc : (y.commitWrite k v org).rd (.CE_COMMIT, [k]) = s.rd (.CE_COMMIT, [k]) :=
      ((only_commitWrite y k v org).reg _ .CE_COMMIT rfl (by decide)).trans ho
    exact congrArg (·, Judge.ok) ((congrArg ((y.commitWrite k v org).store _) (held_commit hc)).trans (store_same hw))

end

section
variable {s : State} {o : Origin} {k : Fin 8}

/-- A write of CEk_COMMIT that reaches it is refused while a head that it names is checked, and else starts its commit. -/
theorem keyWrite_commit (h : ∀ w, Reaches s o (.CE_COMMIT, [k.val]) w) (v : Word) :
    ∃ y a w, Only [.w1] (some []) s y ∧ s.keyWrite o (.CE_COMMIT, [k.val]) v =
      if y.commitBusy k.val v then (y.count ⟨(.xx_REFUSED, [14, k.val]), 15, 0⟩ 1).log 0 2 (orgOf o) a w 15
      else (y.commitWrite k.val v (orgOf o)).log 0 0 (orgOf o) a w 15 := by
  obtain ⟨hs, hr, ho⟩ := h v
  obtain ⟨y, hy, hb⟩ := blockWrite_commit s (orgOf o) k.val v
  refine ⟨y, keyAddr (.CE_COMMIT, [k.val]), (maskBytes v 15).toNat, hy, ?_⟩
  refine (busWrite_reg hs (addr_CE_COMMIT k) rfl hr ho rfl).trans ?_
  rw [hb]
  split <;> rfl

/-- A commit write while a head that it names is checked is counted. -/
theorem commit_refused (h : ∀ w, Reaches s o (.CE_COMMIT, [k.val]) w) {v : Word} (hb : s.commitBusy k.val v = true) :
    Counted [14, k.val] s (s.keyWrite o (.CE_COMMIT, [k.val]) v).finish := by
  obtain ⟨y, a, w, hy, he⟩ := keyWrite_commit h v
  have hr : ∀ r, y.rd r = s.rd r := fun r => hy.reg r r.1 rfl rfl
  rw [he, if_pos ((commitBusy_congr hr).trans hb)]
  have hl := only_log (y.count ⟨(.xx_REFUSED, [14, k.val]), 15, 0⟩ 1) 0 2 (orgOf o) a w 15
  refine ⟨?_, fun j hj => ?_⟩
  · rw [get_finish, hl.field _ .xx_REFUSED rfl rfl]
    refine (get_count_self _ _ _ (by exact (by decide : 15 < 32))).trans ?_
    exact congrArg (satAdd 16 · 1) (hy.field _ .xx_REFUSED rfl rfl)
  · rw [rd_finish, hl.reg j j.1 rfl rfl]
    exact (rd_wr_ne _ _ hj).trans (hr j)

/-- Any other commit write starts its commit. -/
theorem commit_accepted (h : ∀ w, Reaches s o (.CE_COMMIT, [k.val]) w) {v : Word} (hb : s.commitBusy k.val v = false) :
    ∃ y, Only [.w1] (some []) s y ∧
      Only [.out, .irqOwed, .msix, .sl] (some []) (y.commitWrite k.val v (orgOf o)) (s.keyWrite o (.CE_COMMIT, [k.val]) v).finish := by
  obtain ⟨y, a, w, hy, he⟩ := keyWrite_commit h v
  refine ⟨y, hy, ?_⟩
  rw [he, if_neg (by rw [commitBusy_congr fun r => hy.reg r r.1 rfl rfl, hb]; exact Bool.false_ne_true)]
  exact ((only_log ..).widen (by decide)).then (only_finish _) rfl

/-- What a single commit leaves: its head shows CHECKING with the tag, and its set waits for its check. -/
structure Entered (s : State) (k h tag : Nat) (prep : Bool) (t : State) : Prop where
  status : t.rd (.CE_CSTAT, [k, h]) = w32 (1 + tag * 65536)
  detail : t.rd (.CE_CDET, [k, h]) = 0
  length : (t.eng k).checks.length = (s.eng k).checks.length + 1
  latest : (t.head (2 * k + h)).latest = s.serial + 1
  last : ∀ c, ((t.eng k).checks.getLast?).map (·.set) = some c →
    c.head = 2 * k + h ∧ c.tag = tag ∧ c.prep = prep ∧ c.members = [] ∧ c.layers = s.shadowLayers (2 * k + h) ∧ c.serial = s.serial + 1

theorem status_checking (tag : Nat) : statusWord tag 1 {} = w32 (1 + tag * 65536) := by
  simp [statusWord, b2n]

theorem single_of {k : Nat} {v : Word} (h : bits v 1 1 = 0 ∨ s.get (F.HD_GROUP_GROUP (namedHead k v)) = 0) :
    s.commitMembers k v = [] ∧ s.asksGroup k v = false := by
  rw [State.commitMembers, State.asksGroup]
  rcases h with h | h
  · simp [h]
  · simp [h]

/-- A single commit on a head whose latest commit is not being checked enters its check (R185). -/
theorem commit_enters (h : ∀ w, Reaches s o (.CE_COMMIT, [k.val]) w) {v : Word} (hc : s.checking (namedHead k.val v) = false)
    (hs : bits v 1 1 = 0 ∨ s.get (F.HD_GROUP_GROUP (namedHead k.val v)) = 0) :
    Entered s k.val (bits v 0 0) (bits v 31 16) (bits v 2 2 == 1) (s.keyWrite o (.CE_COMMIT, [k.val]) v).finish := by
  obtain ⟨hm, hg⟩ := single_of hs
  obtain ⟨y, hy, hz⟩ := commit_accepted h (v := v) (by rw [State.commitBusy, hc, hm]; rfl)
  have hr : ∀ r, y.rd r = s.rd r := fun r => hy.reg r r.1 rfl rfl
  have hser : y.serial = s.serial := hy.same .serial (by decide)
  have hym : y.commitMembers k.val v = [] := (commitMembers_congr hr).trans hm
  have hyg : ¬ (y.asksGroup k.val v = true ∧ (!y.active (namedHead k.val v)) = true) := by
    rw [asksGroup_congr hr, hg]
    exact fun e => Bool.false_ne_true e.1
  have hb : bits v 0 0 < 2 := by unfold bits; omega
  have hk : namedHead k.val v / 2 = k.val := by unfold namedHead; omega
  have hh : namedHead k.val v % 2 = bits v 0 0 := by unfold namedHead; omega
  have hmem : namedHead k.val v ∈ y.commitHeads k.val v := by
    rw [State.commitHeads, if_pos hym]
    exact List.mem_singleton_self _
  obtain ⟨⟨h1, h2⟩, h3⟩ := commitWrite_enters (org := orgOf o) hyg hmem
  have h4 := commitWrite_queues (org := orgOf o) hyg hym
  rw [hk, hh] at h1 h2
  rw [hk] at h4
  obtain ⟨h5, h6⟩ := queued_append ((queued_of (hz.same .engines (by decide)) _).trans (h4.trans (congrArg (· ++ _) (queued_of
      (hy.same .engines (by decide)) _))))
  refine ⟨?_, ?_, h5, ?_, fun c hc => ?_⟩
  · exact (hz.reg _ .CE_CSTAT rfl rfl).trans (h1.trans (status_checking _))
  · exact (hz.reg _ .CE_CDET rfl rfl).trans h2
  · rw [head_of _ _ (hz.same .heads (by decide))]
    exact h3.trans (congrArg (· + 1) hser)
  · have e := h6 c hc
    rw [formSet_congr hr, hser] at e
    exact ⟨congrArg CommitSet.head e, congrArg CommitSet.tag e, congrArg CommitSet.prep e, congrArg CommitSet.members e,
      congrArg CommitSet.layers e, congrArg CommitSet.serial e⟩

end


/-! ### Group commits (R190) -/

section
variable {s : State} {o : Origin} {k : Fin 8} {v : Word}

theorem mem_commitMembers {k : Nat} (hv : bits v 1 1 = 1) (hg : s.get (F.HD_GROUP_GROUP (namedHead k v)) ≠ 0) {m : Nat} :
    m ∈ s.commitMembers k v ↔ m < 16 ∧ s.get (F.HD_GROUP_GROUP m) = s.get (F.HD_GROUP_GROUP (namedHead k v)) ∧ s.active m = true := by
  rw [State.commitMembers, if_pos ⟨hv, hg⟩]
  simp [State.groupHeads]
  exact fun _ => and_comm

theorem asksGroup_of {k : Nat} (hv : bits v 1 1 = 1) (hg : s.get (F.HD_GROUP_GROUP (namedHead k v)) ≠ 0) : s.asksGroup k v = true := by
  simp [State.asksGroup, hv, hg]

theorem commitBusy_eq_true {k : Nat} : s.commitBusy k v = true ↔
    s.checking (namedHead k v) = true ∨ ∃ m ∈ s.commitMembers k v, s.checking m = true := by
  rw [State.commitBusy, Bool.or_eq_true, List.any_eq_true]

variable (h : ∀ w, Reaches s o (.CE_COMMIT, [k.val]) w) (hv : bits v 1 1 = 1) (hg : s.get (F.HD_GROUP_GROUP (namedHead k.val v)) ≠ 0)
include h hv hg

/-- A group commit on one of its members starts a commit of all of them. -/
theorem groupCommit_enters (hn : namedHead k.val v < 16) (ha : s.active (namedHead k.val v) = true)
    (hc : ∀ m ∈ s.commitMembers k.val v, s.checking m = false) {m : Nat} (hm : m ∈ s.commitMembers k.val v) :
    (s.keyWrite o (.CE_COMMIT, [k.val]) v).finish.rd (.CE_CSTAT, [m / 2, m % 2]) = w32 (1 + bits v 31 16 * 65536) ∧
      ((s.keyWrite o (.CE_COMMIT, [k.val]) v).finish.head m).latest = s.serial + 1 := by
  have hb : s.commitBusy k.val v = false := by
    refine Bool.eq_false_iff.mpr fun e => ?_
    rcases commitBusy_eq_true.mp e with e | ⟨m, hm, e⟩
    · exact Bool.false_ne_true ((hc _ ((mem_commitMembers hv hg).mpr ⟨hn, rfl, ha⟩)).symm.trans e)
    · exact Bool.false_ne_true ((hc m hm).symm.trans e)
  obtain ⟨y, hy, hz⟩ := commit_accepted h hb
  have hr : ∀ r, y.rd r = s.rd r := fun r => hy.reg r r.1 rfl rfl
  have hyg : ¬ (y.asksGroup k.val v = true ∧ (!y.active (namedHead k.val v)) = true) := by
    rw [active_congr hr, ha]
    exact fun e => Bool.false_ne_true e.2
  have hmy : m ∈ y.commitHeads k.val v := by
    rw [State.commitHeads, commitMembers_congr hr, if_neg (List.ne_nil_of_mem hm)]
    exact hm
  obtain ⟨⟨h1, -⟩, h2⟩ := commitWrite_enters (org := orgOf o) hyg hmy
  refine ⟨(hz.reg _ .CE_CSTAT rfl rfl).trans (h1.trans (status_checking _)), ?_⟩
  rw [head_of _ _ (hz.same .heads (by decide))]
  exact h2.trans (congrArg (· + 1) (hy.same .serial (by decide)))

/-- A group commit on a head that is not one of its members fails STATE there. -/
theorem groupCommit_fails (hn : namedHead k.val v < 16) (ha : s.active (namedHead k.val v) = false) (hc : ∀ m < 16, s.checking m = false) :
    (s.keyWrite o (.CE_COMMIT, [k.val]) v).finish.rd (.CE_CSTAT, [namedHead k.val v / 2, namedHead k.val v % 2]) =
        w32 (5 + 8 * 16 + bits v 31 16 * 65536) ∧
      (s.keyWrite o (.CE_COMMIT, [k.val]) v).finish.rd (.CE_CDET, [namedHead k.val v / 2, namedHead k.val v % 2]) = w32 (namedHead k.val v * 4096) ∧
      Raised (0x086 + 8 * namedHead k.val v) s (s.keyWrite o (.CE_COMMIT, [k.val]) v).finish ∧
      (s.keyWrite o (.CE_COMMIT, [k.val]) v).finish.engines = s.engines := by
  have hb : s.commitBusy k.val v = false := by
    refine Bool.eq_false_iff.mpr fun e => ?_
    rcases commitBusy_eq_true.mp e with e | ⟨m, hm, e⟩
    · exact Bool.false_ne_true ((hc _ hn).symm.trans e)
    · exact Bool.false_ne_true ((hc m ((mem_commitMembers hv hg).mp hm).1).symm.trans e)
  obtain ⟨y, hy, hz⟩ := commit_accepted h hb
  have hr : ∀ r, y.rd r = s.rd r := fun r => hy.reg r r.1 rfl rfl
  have hyg : y.asksGroup k.val v = true ∧ (!y.active (namedHead k.val v)) = true := by
    rw [asksGroup_congr hr, active_congr hr, ha]
    exact ⟨asksGroup_of hv hg, rfl⟩
  obtain ⟨h1, h2, h3, h4⟩ := commitWrite_fails (org := orgOf o) hyg hn
  refine ⟨?_, ?_, h3.of (hr _) (hz.reg _ .FC_CNT rfl rfl), (hz.same .engines (by decide)).trans (h4.trans (hy.same .engines (by decide)))⟩
  · refine (hz.reg _ .CE_CSTAT rfl rfl).trans (h1.trans ?_)
    simp [statusWord, b2n]
  · refine (hz.reg _ .CE_CDET rfl rfl).trans (h2.trans ?_)
    simp [detailWord, b2n]

end

/-! ### Commits are checked -/

theorem namedHead_setBits (k : Nat) (v : Word) {hi lo : Nat} (x : Nat) (hlo : 0 < lo) (hh : hi < 32) :
    namedHead k (setBits v hi lo x) = namedHead k v := by
  unfold namedHead
  rw [bits_setBits_ne _ _ _ _ _ _ hh (.inl hlo)]

/-- A field of two bits that reads 0 has two bits of 0. -/
theorem bits_of_pair {w : Word} (h : bits w 2 1 = 0) : bits w 1 1 = 0 ∧ bits w 2 2 = 0 := by
  unfold bits at *
  omega

/-- The words that the three forms of a commit write put into CEk_COMMIT name the head of v with the tag of v. -/
theorem commitWord_keeps (v : Word) {hi lo : Nat} (x : Nat) (hlo : 0 < lo) (hh : hi < 16) :
    bits (setBits v hi lo x) 0 0 = bits v 0 0 ∧ bits (setBits v hi lo x) 31 16 = bits v 31 16 :=
  ⟨bits_setBits_ne _ _ _ _ _ _ (by omega) (.inl hlo), bits_setBits_ne _ _ _ _ _ _ (by omega) (.inr hh)⟩

/-- A commit write of the word of one of the three forms, on a head without a group or without GROUP. -/
theorem commitWord_enters {s : State} {o : Origin} {k : Fin 8} {v : Word} {hi lo x : Nat} (h : ∀ w, Reaches s o (.CE_COMMIT, [k.val]) w)
    (hlo : 0 < lo) (hh : hi < 16) (hc : s.checking (namedHead k.val v) = false)
    (hs : bits (setBits v hi lo x) 1 1 = 0 ∨ s.get (F.HD_GROUP_GROUP (namedHead k.val v)) = 0) :
    Entered s k.val (bits v 0 0) (bits v 31 16) (bits (setBits v hi lo x) 2 2 == 1)
      (s.keyWrite o (.CE_COMMIT, [k.val]) (setBits v hi lo x)).finish := by
  obtain ⟨h0, ht⟩ := commitWord_keeps v x hlo hh
  have hn := namedHead_setBits k.val v x hlo (by omega : hi < 32)
  rw [← hn] at hc hs
  rw [← h0, ← ht]
  exact commit_enters h hc hs

/-- Settles O32: a commit write ends in `commitWrite` or in a count of its refusal, and the end of a check in the rejection, the preparation,
the application or the wait of its set. -/
theorem commitsAreChecked : Obligations.CommitsAreChecked := by
  unfold Obligations.CommitsAreChecked
  refine ⟨fun o k v s => ?_, fun k h c cs s => ?_⟩
  · dsimp only
    intro hr
    have single {P : State → Prop} (h : P (s.keyWrite o (.CE_COMMIT, [k.val]) (setBits v 2 1 0)).finish) : Does (.ceCommit o k v) s P := ⟨_, rfl, h⟩
    have group {P : State → Prop} (h : P (s.keyWrite o (.CE_COMMIT, [k.val]) (setBits v 1 1 1)).finish) : Does (.ceGroupCommit o k v) s P :=
      ⟨_, rfl, h⟩
    have prepare {P : State → Prop} (h : P (s.keyWrite o (.CE_COMMIT, [k.val]) (setBits v 2 2 1)).finish) : Does (.cePrepCommit o k v) s P :=
      ⟨_, rfl, h⟩
    have hn : namedHead k.val v < 16 := by unfold namedHead bits; omega
    have hsame {hi lo x : Nat} (hlo : 0 < lo) (hh : hi < 16) := namedHead_setBits k.val v x hlo (by omega : hi < 32)
    have busy {hi lo x : Nat} (hlo : 0 < lo) (hh : hi < 16) (hc : s.checking (namedHead k.val v) = true) :=
      commit_refused hr (v := setBits v hi lo x) (commitBusy_eq_true.mpr (.inl (by rw [hsame hlo hh]; exact hc)))
    have entered {prep : Bool} {t : State} (h : Entered s k.val (bits v 0 0) (bits v 31 16) prep t) := And.intro h.status
      (And.intro h.detail (And.intro h.length (And.intro h.latest h.last)))
    obtain ⟨hone, hprep⟩ := bits_of_pair (bits_setBits_self v 2 1 0 (by decide))
    have hgroup : bits (setBits v 1 1 1) 1 1 = 1 := bits_setBits_self _ _ _ _ (by decide)
    obtain ⟨-, htag⟩ := commitWord_keeps v (hi := 1) (lo := 1) 1 (by decide) (by decide)
    have hhead := hsame (hi := 1) (lo := 1) (x := 1) (by decide) (by decide)
    refine ⟨fun hc => ⟨single (busy (by decide) (by decide) hc), group (busy (by decide) (by decide) hc), prepare (busy (by decide) (by decide) hc)⟩,
      fun hc => single (entered ?_), fun hc hs => prepare (entered ?_), fun hc hg hp => group (entered ?_), fun hg ha hc => group ?_,
      fun hg ha ⟨m, hm⟩ => group ?_, fun hg ha hc hall => group ?_⟩
    · have he := commitWord_enters (hi := 2) (lo := 1) (x := 0) hr (by decide) (by decide) hc (.inl hone)
      rwa [hprep] at he
    · have he := commitWord_enters (hi := 2) (lo := 2) (x := 1) hr (by decide) (by decide) hc
        (hs.imp_left fun h1 => (bits_setBits_ne _ _ _ _ _ _ (by decide) (.inl (by decide))).trans h1)
      rwa [bits_setBits_self v 2 2 1 (by decide)] at he
    · have he := commitWord_enters (hi := 1) (lo := 1) (x := 1) hr (by decide) (by decide) hc (.inr hg)
      rwa [bits_setBits_ne v 1 1 1 2 2 (by decide) (.inr (by decide)), hp] at he
    · rw [← htag]
      rw [show 2 * k.val + bits v 0 0 = namedHead k.val v from rfl, ← hhead] at hg ha hc ⊢
      intro m h1 h2 h3
      refine groupCommit_enters hr hgroup hg (hhead ▸ hn) ha (fun j hj => ?_) ((mem_commitMembers hgroup hg).mpr ⟨h1, h2, h3⟩)
      obtain ⟨hj1, hj2, hj3⟩ := (mem_commitMembers hgroup hg).mp hj
      exact hc j hj1 hj2 hj3
    · rw [show 2 * k.val + bits v 0 0 = namedHead k.val v from rfl, ← hhead] at hg hm
      obtain ⟨h1, h2, h3, h4⟩ := hm
      exact commit_refused hr (commitBusy_eq_true.mpr (.inr ⟨m, (mem_commitMembers hgroup hg).mpr ⟨h1, h2, h3⟩, h4⟩))
    · have hk : namedHead k.val v / 2 = k.val := by unfold namedHead bits; omega
      have hh : namedHead k.val v % 2 = bits v 0 0 := by unfold namedHead bits; omega
      have hf := groupCommit_fails hr hgroup (hhead.symm ▸ hg) (hhead.symm ▸ hn) (hhead.symm ▸ ha) hall
      rw [hhead, htag, hk, hh] at hf
      exact hf
  · dsimp only
    have ends {P : State → Prop} (h : P (checkDone k.val s).finish) : Does (.commitCheckDone k) s P := ⟨_, rfl, h⟩
    have hn : 2 * k.val + h.val < 16 := by omega
    have half (hc : c.set.head = 2 * k.val + h.val) : c.set.head / 2 = k.val ∧ c.set.head % 2 = h.val := by omega
    have headf (t : State) (n : Nat) : t.finish.head n = t.head n := head_of _ _ (heads_finish t) n
    refine ⟨fun h => ends ?_, fun hc ⟨hb, hh, hm, hl⟩ hv hv' => ends ?_, fun hc ⟨hb, hh, hm, hl⟩ hv hp => ends ?_,
      fun hc ⟨hb, hh, hm, hl⟩ hv hp hr h0 => ends ?_, fun hc ⟨hb, hh, hm, hl⟩ hv hp h0 => ends ?_⟩
    · rw [checkDone_idle h, regs_finish, heads_finish, engines_finish]
      exact ⟨rfl, rfl, rfl⟩
    · obtain ⟨h1, h2, h3, h4, h5, h6, h7⟩ := checkDone_rejects (half hh).1 (half hh).2 hh hb hc hm hl hn hv hv'
      simp only [get_finish, headf]
      exact ⟨h1, h2, h3, h4, h5, h6, h7.of rfl (rd_finish ..)⟩
    · simp only [get_finish, headf]
      exact checkDone_prepares (half hh).1 (half hh).2 hh hb hc hm hl hv hp
    · simp only [get_finish, headf]
      exact checkDone_applies (half hh).1 (half hh).2 hh hb hc hm hl hv hp hr h0
    · simp only [get_finish, headf]
      exact checkDone_pends (half hh).1 (half hh).2 hh hb hc hm hl hv hp h0

end Sys2Proof.Machine

/-! PROOF. The count (O21): the operations that follow a tick keep the clock, a run of ticks counts each of them, and one tick of a running
count adds the increment (R99, R101). -/

namespace Sys2Proof.Machine

/-! ### Operations that keep the clock -/

/-- The clock stands as it was. -/
def SameClock (s t : State) : Prop := t.timeView = s.timeView

/-- Any source. -/
def anySource (_ : Nat) : Prop := True

section
variable {A : List Area} {Q : Option (List Reg)} {s t u : State}

theorem SameClock.refl (s : State) : SameClock s s := rfl

theorem SameClock.trans (h : SameClock s t) (k : SameClock t u) : SameClock s u := Eq.trans k h

theorem SameClock.ite {c : Prop} [Decidable c] (h : SameClock s t) (k : SameClock s u) : SameClock s (if c then t else u) := by split <;> assumption

theorem SameClock.ite1 {β : Type} {c : Prop} [Decidable c] {x y : State × β} (h : SameClock s x.1) (k : SameClock s y.1) :
    SameClock s (if c then x else y).1 := by split <;> assumption

theorem SameClock.fst {β : Type} {b : β} (h : SameClock s t) : SameClock s (t, b).1 := h

theorem SameClock.foldl {α : Type} {f : State → α → State} {l : List α} (h : SameClock s t) (hf : ∀ y e, SameClock y (f y e)) :
    SameClock s (l.foldl f t) := by
  induction l generalizing t with
  | nil => exact h
  | cons e l ih => exact ih (h.trans (hf t e))

/-- An operation that touches neither the ticks, nor the time base, nor the device block. -/
theorem Only.sameClock (h : Only A Q s t) (hA : offClock A = true) : SameClock s t := h.clock hA

theorem SameClock.then (h : SameClock s t) (k : Only A Q t u) (hA : offClock A = true) : SameClock s u := h.trans (k.clock hA)

theorem sameClock_set (s : State) (f : Fld) (v : Nat) : SameClock s (s.set f v) := rfl

theorem sameClock_wr (s : State) (k : Key) (w : Word) : SameClock s (s.wr k w) := rfl

theorem sameClock_cl (s : State) (c : ClSt) : SameClock s { s with cl := c } := rfl

theorem sameClock_updDv (s : State) {f : DvSt → DvSt} (h : (f s.dv).railsOff = s.dv.railsOff) : SameClock s (s.updDv f) :=
  congrArg (fun b => (s.tick, s.tb.count, b)) h

theorem tick_of (h : SameClock s t) : t.tick = s.tick := congrArg Prod.fst h

theorem count_of (h : SameClock s t) : t.tb.count = s.tb.count := congrArg (fun v => v.2.1) h

theorem railsOff_of (h : SameClock s t) : t.dv.railsOff = s.dv.railsOff := congrArg (fun v => v.2.2) h

end

/-! #### Requests to the Cellar, and the shutdown -/

section
variable (s : State)

theorem sameClock_request (r : Rec) : SameClock s (s.request r) := by
  unfold State.request
  refine SameClock.ite (.refl s) ?_
  extract_lets q q' _ y
  have hy : SameClock s y := SameClock.ite rfl (.refl s)
  exact hy.trans ((sameClock_set y F.CL_STAT_BUSY 1).trans rfl)

theorem sameClock_askReset (kind : Nat) : SameClock s (s.askReset kind) := sameClock_updDv s rfl

theorem sameClock_beginSeal : SameClock s s.beginSeal := (sameClock_updDv s rfl).trans (sameClock_request ..)

theorem sameClock_sealWatch : SameClock s s.sealWatch := SameClock.ite (.refl s) (SameClock.ite (sameClock_beginSeal s) (.refl s))

theorem sameClock_beginShutdown (force : Bool) : SameClock s (s.beginShutdown force) := by
  unfold State.beginShutdown
  extract_lets y0 y1
  have h0 : SameClock s y0 := sameClock_updDv s rfl
  have h1 : SameClock s y1 := h0.foldl fun y n =>
    SameClock.ite (SameClock.ite ((only_enterStopped y n).sameClock rfl) ((only_stopHead y n).sameClock rfl)) (.refl y)
  exact (h1.then (only_ltStopAll y1) rfl).then (only_spAllOff _) rfl

theorem sameClock_settleMode : SameClock s s.settleMode := by
  unfold State.settleMode
  extract_lets was y now
  have hy : SameClock s y := (only_evalMode s).sameClock rfl
  refine SameClock.ite (hy.trans (sameClock_beginShutdown ..)) (SameClock.ite ?_ hy)
  exact (hy.trans (sameClock_updDv y rfl)).foldl fun y n => SameClock.ite ((only_enterStopped y n).sameClock rfl) (.refl y)

/-! #### The audit log -/

theorem sameClock_issue (e : Entry) : SameClock s (s.issue e) := by
  unfold State.issue
  extract_lets q _ y1 y2
  have h2 : SameClock s y2 := SameClock.trans (t := y1) rfl ((only_enterRing y1 q e).sameClock rfl)
  exact SameClock.ite ((only_loseEntry s).sameClock rfl) (SameClock.ite (h2.trans (sameClock_request ..)) h2)

theorem sameClock_keepFloor : SameClock s s.keepFloor := SameClock.ite (sameClock_request ..) (.refl s)

theorem sameClock_flush : SameClock s s.flush := by
  unfold State.flush
  refine SameClock.ite (.refl s) ?_
  exact ((SameClock.foldl (t := { s with sl := { s.sl with batch := [] } }) rfl sameClock_issue).then (only_streamAll _) rfl).trans
    (sameClock_keepFloor _)

theorem sameClock_releaseBoot : SameClock s s.releaseBoot := by
  unfold State.releaseBoot
  refine SameClock.ite (.refl s) ?_
  extract_lets boot held rs open_ _ y boot'
  exact (SameClock.foldl (s := s) (t := y) rfl sameClock_issue).then (only_streamAll _) rfl

theorem sameClock_bootPatience : SameClock s s.bootPatience := SameClock.ite (sameClock_releaseBoot s) (.refl s)

/-! #### Sources, resets and links -/

theorem sameClock_src3Check : SameClock s s.src3Check := (keeps_src3Check (L := anySource) s trivial trivial).clock

theorem sameClock_srcLost (c : Nat) : SameClock s (srcLost c s) := (keeps_srcLost (L := anySource) s c trivial trivial).clock

theorem sameClock_setTb (st : Nat) : SameClock s (s.setTb st) := (keeps_setTb (L := anySource) s st trivial).clock

theorem sameClock_gainSource (c : Nat) : SameClock s (s.gainSource c) := (keeps_gainSource (L := anySource) s c).clock

theorem sameClock_src3Changed : SameClock s s.src3Changed :=
  (SameClock.ite (sameClock_srcLost s 3) (.refl s)).trans (sameClock_src3Check _)

theorem sameClock_src2Check : SameClock s s.src2Check := by
  unfold State.src2Check
  extract_lets ok _ y
  have hy : SameClock s y := rfl
  refine SameClock.ite (.refl s) (SameClock.ite (hy.trans (sameClock_gainSource ..)) ?_)
  exact ((hy.then (only_latch y rfB 0x10) rfl).then (only_raise _ 0x04A 0 _) rfl).trans (sameClock_srcLost ..)

theorem sameClock_noSlave : SameClock s s.noSlave := rfl

theorem sameClock_refLossOp (k : Nat) : SameClock s (refLossOp k s) := by
  unfold refLossOp
  extract_lets _ y0 y1
  have h1 : SameClock s y1 := SameClock.trans (t := (y0.set (F.RF_IN_STAT_DET_STD k) 0).count (F.RF_IN_LOSS_COUNT k) 1) rfl
      ((only_latch ..).sameClock rfl)
  exact SameClock.ite (.refl s) ((h1.then (only_raise y1 0x048 k _) rfl).trans (sameClock_src3Check _))

theorem sameClock_ptpFault (p : Nat) : SameClock s (s.ptpFault p) := by
  unfold State.ptpFault
  extract_lets x y
  have hy : SameClock s y := SameClock.trans (t := s.setPtp p { x with faulty := true }) rfl ((only_raise ..).sameClock rfl)
  exact SameClock.ite (.refl s) (SameClock.ite ((hy.trans (sameClock_srcLost ..)).trans (sameClock_noSlave _)) hy)

theorem sameClock_linkDownOp (p : Nat) : SameClock s (linkDownOp p s) := by
  unfold linkDownOp
  extract_lets y0 y1
  have h0 : SameClock s y0 := rfl
  have h1 : SameClock s y1 := SameClock.ite (h0.then (only_raise ..) rfl) h0
  exact SameClock.ite (.refl s) ((h1.trans (sameClock_ptpFault ..)).then (only_linkChanged ..) rfl)

theorem sameClock_serviceReset (cause : Nat) : SameClock s (s.serviceReset cause) := by
  unfold State.serviceReset
  extract_lets y0 y1 y2 _ y3 y4 y5 y6
  have h0 : SameClock s y0 := SameClock.foldl (.refl s) fun y n => (only_resetEngine y n).sameClock rfl
  have h2 : SameClock s y2 := SameClock.foldl (h0.trans (sameClock_set ..)) fun y f =>
    SameClock.trans (SameClock.ite ((only_mbxFinish ..).sameClock rfl) (.refl y)) (sameClock_set ..)
  have h4 : SameClock s y4 := (SameClock.trans (u := y3) h2 rfl).trans (sameClock_noSlave y3)
  have h5 : SameClock s y5 := SameClock.ite (h4.trans (sameClock_setTb ..)) h4
  exact (SameClock.trans (u := y6) h5 rfl).trans (sameClock_updDv y6 rfl)

theorem sameClock_pcieReset : SameClock s s.pcieReset := by
  unfold State.pcieReset
  extract_lets was c y0 y1 y2
  have h0 : SameClock s y0 := SameClock.trans (t := c) ((only_clearKeys ..).sameClock rfl) rfl
  have h1 : SameClock s y1 := h0.foldl fun y f => (only_clearMbx y f).sameClock rfl
  have h2 : SameClock s y2 := h1.trans (sameClock_updDv y1 rfl)
  exact SameClock.ite (h2.then (only_raise ..) rfl) h2

theorem sameClock_ltCmdWrite (l : Nat) (v : Word) (org : Org) : SameClock s (s.ltCmdWrite l v org).1 := by
  unfold State.ltCmdWrite
  extract_lets y a b
  have hy : SameClock s y := SameClock.ite ((only_ltStop s l).sameClock rfl) (.refl s)
  have ha : SameClock s a.1 := SameClock.ite1 (hy.then (only_ltCommand y l org) rfl) hy
  have hb : SameClock s b.1 := SameClock.ite1 (SameClock.ite1 (ha.then (only_latch ..) rfl).fst (ha.trans (sameClock_set ..))) ha
  exact hb.trans (sameClock_settleMode _)

theorem sameClock_ltGroupWrite (v : Word) (org : Org) : SameClock s (s.ltGroupWrite v org).1 := by
  unfold State.ltGroupWrite
  extract_lets first count lanes y pcie z
  have hy : SameClock s y := SameClock.ite (SameClock.foldl (.refl s) fun y l => ((only_ltStop y l).sameClock rfl)) (.refl s)
  have hz : SameClock s z := hy.foldl fun y l => (only_ltStart y l).sameClock rfl
  refine SameClock.ite1 (.refl s) (SameClock.ite1 (hy.trans (sameClock_settleMode y)) (SameClock.ite1 hy (SameClock.ite1 hy (SameClock.ite1 ?_ ?_))))
  · exact (hy.then (only_latch ..) rfl).fst
  · exact (SameClock.ite hz (hz.trans (sameClock_pcieReset z))).trans (sameClock_settleMode _)

end


/-! #### Register writes (R15) -/

section
variable (s : State)

/-- No command of a register sets the clock. -/
theorem sameClock_command (org : Org) (k : Key) (old new v : Word) : SameClock s (s.command org k old new v).1 := by
  have keep : SameClock s s := .refl s
  unfold State.command
  extract_lets +onlyGivenNames i j
  split
  · exact SameClock.ite1 keep ((sameClock_updDv s rfl).trans (sameClock_set ..)).fst
  · exact SameClock.ite1 keep keep
  · exact SameClock.ite1 keep (SameClock.ite1 (sameClock_serviceReset s 2).fst (sameClock_askReset s _).fst)
  · exact SameClock.ite1 ((only_mbxCancel ..).sameClock rfl).fst (SameClock.ite1 keep ((only_mbxPost ..).sameClock rfl).fst)
  · exact SameClock.ite1 keep keep
  · exact (SameClock.ite ((only_rearm s).sameClock rfl) keep).fst
  · exact (SameClock.ite ((only_clearAll s).sameClock rfl) ((only_clearSource ..).sameClock rfl)).fst
  · refine SameClock.fst (SameClock.foldl keep fun y n => ?_)
    exact SameClock.ite ((sameClock_set ..).trans (sameClock_cl ..)) (.refl y)
  · exact SameClock.ite1 (SameClock.trans (t := { s with tb := { s.tb with restep := some (org, false), restepLost := false } }) rfl
      (sameClock_settleMode _)).fst keep
  · refine SameClock.ite1 ?_ keep
    split
    · exact keep
    · exact keep
    · exact sameClock_set ..
  · exact SameClock.ite1 keep ((only_commitWrite ..).sameClock rfl).fst
  · exact SameClock.ite1 keep ((only_releaseWrite ..).sameClock rfl).fst
  · exact SameClock.ite1 keep ((only_plCommitWrite ..).sameClock rfl).fst
  · exact SameClock.ite1 (SameClock.ite1 keep ((only_ckStartOp ..).sameClock rfl).fst)
      (SameClock.ite1 (((only_fresh s).sameClock rfl).then (only_ckAbortOp ..) rfl).fst keep)
  · exact ((only_adCommand ..).sameClock rfl).fst
  · exact ((only_hqCommand ..).sameClock rfl).fst
  · exact SameClock.ite1 keep ((only_latch ..).sameClock rfl).fst
  · exact sameClock_ltCmdWrite ..
  · exact sameClock_ltGroupWrite ..
  · exact SameClock.ite1 keep keep
  · exact SameClock.ite1 keep keep
  · exact SameClock.ite1 keep keep
  · exact SameClock.ite1 keep (SameClock.ite1 keep ((sameClock_set ..).then (only_latch ..) rfl).fst)
  · exact ((only_setFlow ..).sameClock rfl).fst
  · exact ((only_setFlow ..).sameClock rfl).fst
  · exact SameClock.ite1 keep (SameClock.ite1 keep (SameClock.ite1 keep ((sameClock_set ..).then (only_latch ..) rfl).fst))
  · exact SameClock.ite1 keep (SameClock.ite1 keep (SameClock.ite1 keep ((sameClock_set ..).then (only_latch ..) rfl).fst))
  · exact SameClock.ite1 keep (SameClock.ite1 ((only_gclAccept ..).sameClock rfl).fst ((sameClock_set ..).then (only_latch ..) rfl).fst)
  · exact SameClock.ite1 keep keep
  · exact SameClock.ite1 keep (((only_latch ..).sameClock rfl).then (only_raise ..) rfl).fst
  · exact ((only_event1 ..).sameClock rfl).fst
  · exact ((only_setCreg ..).sameClock rfl).fst
  · exact ((only_setCreg ..).sameClock rfl).fst
  · exact ((only_updCue ..).sameClock rfl).fst
  · exact (((only_setDmem ..).sameClock rfl).trans (sameClock_set ..)).fst
  · exact (((only_setScr ..).sameClock rfl).trans (sameClock_set ..)).fst
  · exact SameClock.trans (t := { s with glyphs := _ }) rfl (sameClock_set ..)
  · exact (SameClock.ite (sameClock_request ..) keep).fst
  · exact keep
  · exact keep

/-- What follows from a stored value sets the clock for no register. -/
theorem sameClock_after (org : Org) (k : Key) (old new v : Word) : SameClock s (s.after org k old new v) := by
  have keep : SameClock s s := .refl s
  unfold State.after
  extract_lets +onlyGivenNames i
  split
  · exact (only_updLayer ..).sameClock rfl
  · exact SameClock.ite (sameClock_wr ..) keep
  · exact SameClock.ite keep rfl
  · exact (SameClock.ite (sameClock_updDv s rfl) keep).trans (sameClock_settleMode _)
  · exact sameClock_request ..
  · exact SameClock.ite rfl keep
  · exact (only_loadEntry s).sameClock rfl
  · exact sameClock_request ..
  · exact (only_applyInc ..).sameClock rfl
  · exact (only_holdInc s).sameClock rfl
  · exact (only_holdInc s).sameClock rfl
  · exact (only_holdInc s).sameClock rfl
  · exact (SameClock.ite (sameClock_request ..) keep).trans (sameClock_src3Check _)
  · extract_lets y
    have hy : SameClock s y := SameClock.ite ((sameClock_set ..).trans (sameClock_request ..)) keep
    exact SameClock.ite (hy.trans (sameClock_src3Changed y)) hy
  · exact SameClock.ite (sameClock_refLossOp ..) keep
  · exact sameClock_src2Check s
  · exact SameClock.ite ((sameClock_set ..).trans (sameClock_request ..)) keep
  · exact (only_spLoopMax s).sameClock rfl
  · extract_lets y
    have hy : SameClock s y := SameClock.ite ((only_spOn ..).sameClock rfl) (SameClock.ite ((only_spOff ..).sameClock rfl) keep)
    exact SameClock.ite (hy.then (only_spUnlink ..) rfl) hy
  · exact SameClock.ite ((only_glOn s).sameClock rfl) (SameClock.ite ((only_glOff s).sameClock rfl) keep)
  · exact SameClock.ite ((only_startHead ..).sameClock rfl) (SameClock.ite ((only_stopHead ..).sameClock rfl) keep)
  · exact SameClock.ite ((only_adStart ..).sameClock rfl) (SameClock.ite ((only_adStop ..).sameClock rfl) keep)
  · exact SameClock.ite ((sameClock_set ..).then (only_hqStart ..) rfl) (SameClock.ite ((only_hqStop ..).sameClock rfl) keep)
  · exact SameClock.ite (sameClock_linkDownOp ..) keep
  · exact SameClock.ite keep ((only_i2cBegin ..).sameClock rfl)
  · exact SameClock.ite ((only_startFlow ..).sameClock rfl) (SameClock.ite ((only_stopFlow ..).sameClock rfl) keep)
  · exact (only_updFlow ..).sameClock rfl
  · exact SameClock.ite ((only_startSdi ..).sameClock rfl) (SameClock.ite ((only_stopSdi ..).sameClock rfl) keep)
  · exact SameClock.ite ((only_startQueue ..).sameClock rfl) (SameClock.ite ((only_stopQueue ..).sameClock rfl) keep)
  · exact SameClock.ite ((only_gclStop ..).sameClock rfl) keep
  · exact SameClock.ite (SameClock.ite ((only_startEngine ..).sameClock rfl) keep) (SameClock.ite ((only_haltEngine ..).sameClock rfl) keep)
  · exact (only_event1 ..).sameClock rfl
  · exact keep

theorem sameClock_blockWrite (org : Org) (k : Key) (v : Word) (b : Bool) : SameClock s (s.blockWrite org k v b).1 := by
  unfold State.blockWrite
  extract_lets v' r j old y c z
  have hc : SameClock s c.1 := SameClock.trans (t := y) rfl (sameClock_command ..)
  have hz : SameClock s z := hc.then (only_store ..) rfl
  exact SameClock.ite1 ((only_statusWrite ..).sameClock rfl) (SameClock.ite1 (.refl s) (hz.trans (sameClock_after ..)))

theorem sameClock_busWrite (o : Origin) (a : Nat) (v : Word) (be : Nat) : SameClock s (s.busWrite o a v be).1 := by
  have keep : SameClock s s := .refl s
  have entry {y : State} (h : SameClock s y) (flags : Nat) : SameClock s (y.log 0 flags (orgOf o) a (maskBytes v be).toNat be) :=
      h.then (only_log ..) rfl
  have refused (y : State) (h : List Nat) (j : Judge) : SameClock y (y.refuse h j (orgOf o)) := (only_refuse ..).sameClock rfl
  unfold State.busWrite
  extract_lets org t entry'
  clear_value t
  refine SameClock.ite1 keep ?_
  split
  · exact (only_holdWrite ..).sameClock rfl
  refine SameClock.ite1 (entry (sameClock_set ..) 2) (SameClock.ite1 (entry ((sameClock_set ..).then (only_raise ..) rfl) 2)
    (SameClock.ite1 (entry (sameClock_set ..) 1) ?_))
  split
  · exact entry (SameClock.trans ((only_slotWrite ..).sameClock rfl) (refused ..)) _
  · refine SameClock.ite1 (entry (refused ..) 2) ?_
    split
    · exact (only_slowWrite ..).sameClock rfl
    · exact entry (SameClock.trans (sameClock_blockWrite ..) (refused ..)) _
  · exact entry keep 0

/-! #### Reactions, and what follows a tick (R428) -/

theorem sameClock_reactOn (id : Nat) (r : Reaction) (u : Nat) : SameClock s (s.reactOn id r u) := by
  cases r with
  | none => exact .refl s
  | svc => exact sameClock_serviceReset s 5
  | sdi => exact (only_updHead ..).sameClock rfl
  | tpll => exact .refl s
  | clr => rfl
  | safe => rfl
  | shut => rfl
  | stop => exact sameClock_busWrite ..

theorem sameClock_react (e : Nat × Reaction × Nat) : SameClock s (s.react e) := by
  unfold State.react
  extract_lets u
  refine SameClock.ite (SameClock.ite (.refl s) ?_) ?_
  · exact (((only_openWindow ..).sameClock rfl).then (only_latch ..) rfl).trans (sameClock_reactOn ..)
  · exact ((only_latch ..).sameClock rfl).trans (sameClock_reactOn ..)

theorem sameClock_reactAll : SameClock s s.reactAll := SameClock.foldl (t := { s with fc := { s.fc with todo := [] } }) rfl sameClock_react

theorem sameClock_afterTick : SameClock s s.afterTick := by
  unfold State.afterTick
  extract_lets y
  have hy : SameClock s y :=
    (((sameClock_reactAll s).trans (sameClock_settleMode _)).trans (sameClock_sealWatch _)).trans (sameClock_bootPatience _)
  exact ((hy.then (only_glWatch y) rfl).then (only_glWake _) rfl).trans (sameClock_updDv _ rfl)

theorem sameClock_trimStamps (p : Nat) : SameClock s (s.trimStamps p) := by
  unfold State.trimStamps
  extract_lets q _ y
  refine SameClock.ite (.refl s) (SameClock.foldl (t := y) rfl fun z _ => ?_)
  exact ((sameClock_set z _ _).then (only_latch ..) rfl).then (only_raise ..) rfl

theorem sameClock_endTick : SameClock s s.endTick := (SameClock.foldl (.refl s) sameClock_trimStamps).trans (sameClock_flush _)

end


/-! ### A run of ticks (R99, R101) -/

section
variable {s t : State}

/-- The count does not run (R31, R75). -/
def State.stands (s : State) : Prop := s.tb.counting = false ∨ s.dv.railsOff = true

theorem tick_runTicks (s : State) (k : Nat) : (s.runTicks k).tick = s.tick + k := by
  unfold State.runTicks
  split
  · omega
  · rfl

theorem sameClock_second (s : State) : SameClock s s.second := (only_second s).sameClock rfl

/-- Ticks end within the second, or come to its end after k of them. -/
theorem countTicks_succ (fuel n : Nat) (s : State) : ∃ k, State.countTicks (fuel + 1) n s =
    if n < k ∨ k = 0 then s.runTicks n else State.countTicks fuel (n - k) (s.runTicks k).second :=
  ⟨ceilDiv (secUnits - (s.tb.ns * 2 ^ 32 + s.tb.frac)) s.inc, by rw [State.countTicks]⟩

theorem tick_countTicks (fuel n : Nat) (s : State) : (State.countTicks fuel n s).tick = s.tick + n := by
  induction fuel generalizing n s with
  | zero => exact tick_runTicks s n
  | succ fuel ih =>
    obtain ⟨k, hk⟩ := countTicks_succ fuel n s
    rw [hk]
    split
    · exact tick_runTicks s n
    · rw [ih, tick_of (sameClock_second _), tick_runTicks]
      omega

theorem tick_advance (s : State) (n : Nat) : (s.advance n).tick = s.tick + n := by
  unfold State.advance
  split
  · exact tick_countTicks ..
  · rfl

theorem advance_stands (n : Nat) (h : s.stands) : s.advance n = { s with tick := s.tick + n } := by
  refine if_neg fun ⟨hc, hr⟩ => ?_
  rcases h with h | h
  · rw [h] at hc; cases hc
  · rw [h] at hr; cases hr

theorem count_advance_stands (n : Nat) (h : s.stands) : (s.advance n).tb.count = s.tb.count ∧ (s.advance n).stands := by
  rw [advance_stands n h]
  exact ⟨rfl, h⟩

/-- No tick more leaves the clock. -/
theorem sameClock_countTicks_zero (fuel : Nat) (s : State) : SameClock s (State.countTicks fuel 0 s) := by
  have h : s.runTicks 0 = s := if_pos rfl
  cases fuel with
  | zero => exact congrArg State.timeView h
  | succ fuel =>
    obtain ⟨k, hk⟩ := countTicks_succ fuel 0 s
    rw [hk, if_pos (by omega), h]
    exact .refl s

/-- One tick of a running count, at the end of a second or not. -/
theorem sameClock_countTicks_one (fuel : Nat) (s : State) : SameClock (s.runTicks 1) (State.countTicks (fuel + 1) 1 s) := by
  obtain ⟨k, hk⟩ := countTicks_succ fuel 1 s
  rw [hk]
  split
  · exact .refl _
  next h =>
    have h1 : k = 1 := by omega
    rw [h1]
    exact (sameClock_second _).trans (sameClock_countTicks_zero ..)

theorem sameClock_advance_one (hc : s.tb.counting = true) (hr : s.dv.railsOff = false) : SameClock (s.runTicks 1) (s.advance 1) := by
  unfold State.advance
  rw [if_pos ⟨hc, by rw [hr]; rfl⟩]
  exact sameClock_countTicks_one _ s

/-- What one tick makes of the count (R99): it adds the increment, and shows what the count was. -/
theorem count_runTicks_one (s : State) : (s.runTicks 1).tb.count =
    ((unitsOf s.tai + s.inc) / 2 ^ 32 / 1000000000 % 2 ^ 48, (unitsOf s.tai + s.inc) / 2 ^ 32 % 1000000000, (unitsOf s.tai + s.inc) % 2 ^ 32,
      s.tb.counting, s.dtime, s.tb.seen1) := by
  unfold State.runTicks
  rw [if_neg one_ne_zero, Nat.one_mul]
  dsimp only
  rw [if_pos rfl, if_pos rfl]
  rfl

theorem ticks_eq (s : State) (n : Nat) : ∃ a b, s.ticks n = ((s.endTick.advance n).ptpSend a b).afterTick := ⟨_, _, rfl⟩

theorem sameClock_afterAdvance (s : State) (n : Nat) : SameClock (s.endTick.advance n) (s.ticks n) := by
  obtain ⟨a, b, h⟩ := ticks_eq s n
  rw [h]
  exact ((only_ptpSend ..).sameClock rfl).trans (sameClock_afterTick _)

theorem tick_ticks (s : State) (n : Nat) : (s.ticks n).tick = s.tick + n := by
  rw [tick_of (sameClock_afterAdvance s n), tick_advance, tick_of (sameClock_endTick s)]

theorem stands_of (h : SameClock s t) (hs : s.stands) : t.stands :=
  hs.imp (fun e => (congrArg (fun v => v.2.2.2.1) (count_of h)).trans e) fun e => (railsOff_of h).trans e

theorem tai_of (h : t.tb.count = s.tb.count) : t.tai = s.tai := by
  injection h with h1 h
  injection h with h2 h
  injection h with h3 h
  rw [State.tai, State.tai, h1, h2, h3]

/-- Ticks leave a count that stands. -/
theorem count_ticks (n : Nat) (h : s.stands) : (s.ticks n).tb.count = s.tb.count ∧ (s.ticks n).stands := by
  have hy := sameClock_endTick s
  have hc := sameClock_afterAdvance s n
  generalize s.endTick = y at hy hc
  obtain ⟨ha, hs⟩ := count_advance_stands n (stands_of hy h)
  exact ⟨((count_of hc).trans ha).trans (count_of hy), stands_of hc hs⟩

end


section
variable {A : List Area} {R : List Reg} {s t : State}

/-- The increment rests on TB_INC alone. -/
theorem inc_only (h : Only A (some R) s t) (hh : R.contains .TB_INC_HI = false) (hl : R.contains .TB_INC_LO = false) :
    t.inc = s.inc := by
  rw [State.inc, State.inc, h.field _ .TB_INC_HI rfl hh, h.field _ .TB_INC_LO rfl hl]

theorem sameClock_upsets (u : List Upset) (s : State) : SameClock s (u.foldl State.upset s) :=
  SameClock.foldl (.refl s) fun y e => (only_upset y e).sameClock rfl

theorem inc_upsets (u : List Upset) (s : State) : (u.foldl State.upset s).inc = s.inc := by
  induction u generalizing s with
  | nil => rfl
  | cons e u ih => exact (ih _).trans (inc_only (only_upset s e) rfl rfl)

/-- TIME_TICK counts n + 1 ticks. -/
theorem tick_timeTickOp (n : Nat) (u : List Upset) (s : State) : (timeTickOp n u s).tick = s.tick + n + 1 := by
  have h1 := (tick_ticks (u.foldl State.upset s) 1).trans (congrArg (· + 1) (tick_of (sameClock_upsets u s)))
  unfold timeTickOp
  dsimp only
  split
  next h => rw [h1, h]
  · rw [tick_ticks, h1]
    omega

theorem tai_timeTickOp (n : Nat) (u : List Upset) (h : s.stands) : (timeTickOp n u s).tai = s.tai := by
  have hu := sameClock_upsets u s
  obtain ⟨h1, hs⟩ := count_ticks 1 (stands_of hu h)
  have h2 := h1.trans (count_of hu)
  unfold timeTickOp
  dsimp only
  split
  · exact tai_of h2
  · exact tai_of ((count_ticks n hs).1.trans h2)

/-- A tick of a running count. -/
theorem count_timeTickOp (u : List Upset) (hc : s.tb.counting = true) (hr : s.dv.railsOff = false) : (timeTickOp 0 u s).tb.count =
    ((unitsOf s.tai + s.inc) / 2 ^ 32 / 1000000000 % 2 ^ 48, (unitsOf s.tai + s.inc) / 2 ^ 32 % 1000000000, (unitsOf s.tai + s.inc) % 2 ^ 32,
      s.tb.counting, s.dtime, s.tb.seen1) := by
  have hy : SameClock s (u.foldl State.upset s).endTick := (sameClock_upsets u s).trans (sameClock_endTick _)
  have hi : (u.foldl State.upset s).endTick.inc = s.inc := (inc_only (only_endTick _) rfl rfl).trans (inc_upsets u s)
  have ha := sameClock_afterAdvance (u.foldl State.upset s) 1
  unfold timeTickOp
  rw [if_pos rfl]
  generalize (u.foldl State.upset s).endTick = y at hy hi ha
  have hcount := count_of hy
  have hy1 := sameClock_advance_one (s := y) ((congrArg (fun v => v.2.2.2.1) hcount).trans hc) ((railsOff_of hy).trans hr)
  rw [count_of ha, count_of hy1, count_runTicks_one, hi, tai_of hcount]
  have h4 : y.tb.counting = s.tb.counting := congrArg (fun v => v.2.2.2.1) hcount
  have h5 : y.tb.seen1 = s.tb.seen1 := congrArg (fun v => v.2.2.2.2.1) hcount
  have h6 : y.dtime = s.dtime := congrArg (fun v => (v.1 * 1000000000 + v.2.1) % 2 ^ 40) hcount
  rw [h4, h5, h6]

end

/-! ### The transfer of an increment (R100, R101) -/

section
variable {s : State} {req : Nat} {org : Org}

/-- The increment that a request comes to: the nearest limit where it lies outside. -/
def State.nearest (s : State) (req : Nat) : Nat := if req < s.incLimits.1 then s.incLimits.1 else if s.incLimits.2 < req then s.incLimits.2 else req

/-- The state with an applied increment. -/
def State.setInc (s : State) (v : Nat) : State := (s.set F.TB_INC_HI_INT (v / 2 ^ 32)).set F.TB_INC_LO_FRAC v

theorem applyInc_eq (s : State) (req : Nat) (org : Org) : s.applyInc req org =
    if s.nearest req = req then s.setInc (s.nearest req)
    else (((s.setInc (s.nearest req)).count F.TB_CLAMP_COUNT 1).latch tbB 0x80).raise 0x044 0 org := (rfl)

theorem only_setInc (s : State) (v : Nat) : Only [] (some [.TB_INC_HI, .TB_INC_LO]) s (s.setInc v) :=
  ((only_set .TB_INC_HI rfl).widen (by decide)).then (only_set .TB_INC_LO rfl) rfl

theorem inc_setInc (s : State) {v : Nat} (h : v < 2 ^ 40) : (s.setInc v).inc = v := by
  have hlo : (s.setInc v).get F.TB_INC_LO_FRAC = v % 2 ^ 32 := get_set_self _ _ _ (by exact (by decide : 31 < 32))
  have hhi : (s.setInc v).get F.TB_INC_HI_INT = v / 2 ^ 32 % 2 ^ 8 :=
    (get_set_ne _ _ _ _ (by exact (by decide : 31 < 32)) (.inl (by decide))).trans (get_set_self _ _ _ (by exact (by decide : 7 < 32)))
  rw [State.inc, hlo, hhi]
  omega

theorem applyInc_within (h : s.nearest req = req) (hr : req < 2 ^ 40) :
    (s.applyInc req org).inc = req ∧ (s.applyInc req org).get F.TB_CLAMP_COUNT = s.get F.TB_CLAMP_COUNT := by
  rw [applyInc_eq, h, if_pos rfl]
  exact ⟨inc_setInc s hr, (only_setInc s req).field _ .TB_CLAMP rfl (by decide)⟩

/-- A request outside the limits is counted and raised. -/
theorem applyInc_clamps (h : s.nearest req ≠ req) (hr : s.nearest req < 2 ^ 40) :
    (s.applyInc req org).inc = s.nearest req ∧
      (s.applyInc req org).get F.TB_CLAMP_COUNT = min (s.get F.TB_CLAMP_COUNT + 1) 65535 ∧ Raised 0x044 s (s.applyInc req org) := by
  rw [applyInc_eq, if_neg h]
  have h1 := only_setInc s (s.nearest req)
  have hi := inc_setInc s hr
  generalize s.setInc (s.nearest req) = y at h1 hi
  have h2 : Only [] (some [.TB_CLAMP]) y (y.count F.TB_CLAMP_COUNT 1) := only_count .TB_CLAMP rfl
  have h3 := only_latch (y.count F.TB_CLAMP_COUNT 1) tbB 0x80
  have h4 := only_raise ((y.count F.TB_CLAMP_COUNT 1).latch tbB 0x80) 0x044 0 org
  refine ⟨?_, ?_, ?_⟩
  · exact (inc_only h4 rfl rfl).trans ((inc_only h3 rfl rfl).trans ((inc_only h2 rfl rfl).trans hi))
  · rw [h4.field _ .TB_CLAMP rfl (by decide), h3.field _ .TB_CLAMP rfl (by decide), get_count_self _ _ _ (by exact (by decide : 15 < 32)),
      h1.field _ .TB_CLAMP rfl (by decide)]
    rfl
  · refine (raised_raise 0 org (by decide)).of ?_ rfl
    exact (h3.reg _ .FC_CNT rfl (by decide)).trans ((h2.reg _ .FC_CNT rfl (by decide)).trans (h1.reg _ .FC_CNT rfl (by decide)))

end

/-! #### The register TB_INC_REQ_HI -/

/-- TB_INC_REQ_HI. -/
abbrev reqHi : Key := (.TB_INC_REQ_HI, [])

theorem free_reqHi (s : State) : ∀ f ∈ (regDef reqHi.1).fields, Free s reqHi f := by
  have hd : ∀ f ∈ (regDef .TB_INC_REQ_HI).fields, f.acc = .rw ∧ f.app = .imm := by decide
  intro f hf
  obtain ⟨ha, hp⟩ := hd f hf
  exact ⟨fun e => absurd (hp.symm.trans e) (by decide), fun e => absurd (hp.symm.trans e) (by decide), fun e => absurd (ha.symm.trans e) (by decide)⟩

theorem command_reqHi (s : State) (org : Org) (old new v : Word) : s.command org reqHi old new v = (s, new, .ok) := rfl

theorem after_reqHi (s : State) (org : Org) (old new v : Word) :
    s.after org reqHi old new v = s.applyInc (s.get F.TB_INC_REQ_HI_INT * 2 ^ 32 + s.get F.TB_INC_REQ_LO_FRAC) org := rfl

theorem blockWrite_reqHi (s : State) (org : Org) (v : Word) :
    ∃ y : State, (∀ r, r ≠ reqHi → y.rd r = s.rd r) ∧
      s.blockWrite org reqHi v true = (y.applyInc (bits v 7 0 * 2 ^ 32 + s.get F.TB_INC_REQ_LO_FRAC) org, .ok) := by
  have ht : taken .TB_INC_REQ_HI v = v := taken_of v (by decide) (by decide)
  have hw : bits (s.judgeFields reqHi v true).word 7 0 = bits v 7 0 :=
    (bits_judgeFields (f := fd 7 0 .rw .imm 2) (free_reqHi s) (by decide) (by decide) (.inl rfl)).trans (by rw [asked_plain _ _ (by decide)])
  rw [blockWrite_ok (by exact (by decide : Reg.TB_INC_REQ_HI ≠ .xx_STATUS)) rfl]
  dsimp only
  rw [judgeFields_free (free_reqHi s), ht]
  generalize (s.judgeFields reqHi v true).word = new at hw ⊢
  generalize mput keyAddr (fun _ => 0) s.w1 reqHi (s.judgeFields reqHi v true).marks = m
  have hy : Only [.w1] (some []) s { s with w1 := m } := Only.w1 0 rfl (Only.refl _)
  generalize ({ s with w1 := m } : State) = y at hy
  have hr : ∀ r, r ≠ reqHi → (y.store reqHi new).rd r = s.rd r := fun r h => (rd_store_ne h).trans (hy.reg r r.1 rfl rfl)
  refine ⟨y.store reqHi new, hr, ?_⟩
  rw [command_reqHi, after_reqHi]
  have hint : (y.store reqHi new).get F.TB_INC_REQ_HI_INT = bits v 7 0 :=
    (congrArg (bits · 7 0) (rd_store (by decide) (by decide))).trans hw
  have hfrac : (y.store reqHi new).get F.TB_INC_REQ_LO_FRAC = s.get F.TB_INC_REQ_LO_FRAC := congrArg (bits · 31 0) (hr _ (by decide))
  rw [hint, hfrac]
  rfl

/-- The write of TB_INC_REQ_HI stores INT, and then applies the increment that both halves ask for. -/
theorem incTransfer_applies {s : State} {o : Origin} {v : Word} (h : Reaches s o reqHi v) :
    ∃ y : State, (∀ r, r ≠ reqHi → y.rd r = s.rd r) ∧
      Only [.out, .irqOwed, .msix, .sl] (some []) (y.applyInc (bits v 7 0 * 2 ^ 32 + s.get F.TB_INC_REQ_LO_FRAC) (orgOf o))
        (s.keyWrite o reqHi v).finish := by
  obtain ⟨hs, hr, ho⟩ := h
  obtain ⟨y, hy, hb⟩ := blockWrite_reqHi s (orgOf o) v
  refine ⟨y, hy, ?_⟩
  have he := busWrite_reg hs addr_TB_INC_REQ_HI rfl hr ho rfl
  rw [hb] at he
  rw [State.keyWrite, he]
  exact ((only_log ..).widen (by decide)).then (only_finish _) rfl

theorem incLimits_congr {s t : State} (h : ∀ r, r ≠ reqHi → t.rd r = s.rd r) : t.incLimits = s.incLimits := by
  simp only [State.incLimits, State.incNom, State.get, h (.TB_MAX_SLEW, []) (by decide), h (.TB_INC_NOM_HI, []) (by decide),
    h (.TB_INC_NOM_LO, []) (by decide)]

/-- Settles O21: the operations around a tick keep the clock, so that it is `runTicks` that counts; and the transfer of an increment ends in
`applyInc`. -/
theorem theCountAdvances : Obligations.TheCountAdvances := by
  unfold Obligations.TheCountAdvances
  refine ⟨fun n u s => ?_, fun o v s hreach => ?_⟩
  · have ticks {n : Nat} {P : State → Prop} (h : P (timeTickOp n u s).finish) : Does (.timeTick n u) s P := ⟨_, rfl, h⟩
    refine ⟨ticks ?_, fun hc hr => ticks ?_, fun hs => ticks ?_⟩
    · rw [tick_finish, pending_finish]
      exact ⟨tick_timeTickOp n u s, (only_timeTickOp n u s).follows.pending⟩
    · have h := count_timeTickOp u hc hr
      rw [tb_finish]
      injection h with h1 h
      injection h with h2 h
      injection h with h3 h
      injection h with h4 h
      injection h with h5 h6
      exact ⟨h1, h2, h3, h5, h6⟩
    · rw [State.tai, tb_finish]
      exact tai_timeTickOp n u hs
  · obtain ⟨y, hy, hz⟩ := incTransfer_applies hreach
    have hl := incLimits_congr hy
    have transfer {P : State → Prop} (h : P (s.keyWrite o reqHi v).finish) : Does (.incTransfer o v) s P := ⟨_, rfl, h⟩
    have hclamp : y.get F.TB_CLAMP_COUNT = s.get F.TB_CLAMP_COUNT := congrArg (bits · 15 0) (hy _ (by decide))
    have hcnt : y.rd (.FC_CNT, [0x044]) = s.rd (.FC_CNT, [0x044]) := hy _ (by decide)
    have hlt : bits v 7 0 * 2 ^ 32 + s.get F.TB_INC_REQ_LO_FRAC < 2 ^ 40 := by
      have h1 : s.get F.TB_INC_REQ_LO_FRAC < 2 ^ 32 := get_lt s _
      have h2 : bits v 7 0 < 2 ^ 8 := Nat.mod_lt _ (by decide)
      omega
    dsimp only
    generalize bits v 7 0 * 2 ^ 32 + s.get F.TB_INC_REQ_LO_FRAC = req at hz hlt ⊢
    have clamped (hn : y.nearest req ≠ req) (hb : y.nearest req < 2 ^ 40) : Does (.incTransfer o v) s fun t =>
        t.inc = y.nearest req ∧ t.get F.TB_CLAMP_COUNT = min (s.get F.TB_CLAMP_COUNT + 1) 65535 ∧ Raised 0x044 s t := by
      obtain ⟨h1, h2, h3⟩ := applyInc_clamps (org := orgOf o) hn hb
      refine transfer ⟨(inc_only hz rfl rfl).trans h1, (hz.field _ .TB_CLAMP rfl rfl).trans ?_, h3.of hcnt (hz.reg _ .FC_CNT rfl rfl)⟩
      rw [h2, hclamp]
    rw [← hl]
    refine ⟨fun h1 h2 => transfer ?_, fun h1 h2 => ?_, fun h1 h2 => ?_⟩
    · have hn : y.nearest req = req := by rw [State.nearest, if_neg (by omega), if_neg (by omega)]
      obtain ⟨hi, hc⟩ := applyInc_within (org := orgOf o) hn hlt
      exact ⟨(inc_only hz rfl rfl).trans hi, (hz.field _ .TB_CLAMP rfl rfl).trans (hc.trans hclamp)⟩
    · have hn : y.nearest req = y.incLimits.1 := if_pos h1
      rw [← hn]
      exact clamped (by omega) (by omega)
    · have hn : y.nearest req = y.incLimits.2 := by rw [State.nearest, if_neg (by omega), if_pos h2]
      rw [← hn]
      exact clamped (by omega) (by omega)

end Sys2Proof.Machine

/-! PROOF. The frames of the events (O54): an event is one operation, or a few in turn, and touches what the laws of these name. -/

namespace Sys2Proof.Machine

/-- Two operations in turn touch what either touches. -/
theorem Only.both {A B : List Area} {R Q : Option (List Reg)} {s t u : State} (h : Only A R s t) (k : Only B Q t u) :
    Only (A ++ B) (Option.map₂ (· ++ ·) R Q) s u := by
  have left : Covers (A ++ B) (Option.map₂ (· ++ ·) R Q) A R :=
    ⟨fun _ => List.mem_append_left B, fun l hl => by
      obtain ⟨r, q, hr, -, rfl⟩ := Option.map₂_eq_some_iff.mp hl
      exact ⟨r, hr, fun _ => List.mem_append_left q⟩⟩
  have right : Covers (A ++ B) (Option.map₂ (· ++ ·) R Q) B Q :=
    ⟨fun _ => List.mem_append_right A, fun l hl => by
      obtain ⟨r, q, -, hq, rfl⟩ := Option.map₂_eq_some_iff.mp hl
      exact ⟨q, hq, fun _ => List.mem_append_right r⟩⟩
  exact k.over right (h.over left (.refl s))

section
variable {c : Instr} {A B : List Area} {R : Option (List Reg)} {Q : List Reg} {f : State → State}

/-- The frame of a command that is one operation. -/
theorem touches_event (he : ∀ s, exec c s = .next (f s).finish) (h : ∀ s, Only A R s (f s))
    (w : within (outAreas B) (some Q) A R = true := by decide) : Touches c B Q :=
  fun s _ ht => only_exec (he s) ((h s).widen w) ht

/-- The same for a command that may touch a register of any name. -/
theorem touchesParts_event (he : ∀ s, exec c s = .next (f s).finish) (h : ∀ s, Only A R s (f s))
    (w : within (outAreas B) none A R = true := by decide) : TouchesParts c B :=
  fun s _ ht => only_exec (he s) ((h s).widen w) ht

end

/-- Settles O54: each event touches what the laws of its operations name, which lies within the parts and registers of its clause. -/
theorem eventFrames : Obligations.EventFrames := by
  unfold Obligations.EventFrames
  exact ⟨⟨fun _ _ _ => touchesParts_event (fun _ => rfl) fun _ => only_readSpan ..,
    fun _ _ => touchesParts_event (fun _ => rfl) fun _ => only_readOut ..,
    fun _ _ => touchesParts_event (fun _ => rfl) fun _ => only_readOut ..,
    fun _ _ => touches_event (fun _ => rfl) fun _ => only_slowRefreshOp ..,
    touches_event (fun _ => rfl) fun _ => only_snapCaptureOp ..,
    touches_event (fun _ => rfl) fun _ => only_snapDoneOp ..,
    fun _ _ _ => touches_event (fun _ => rfl) fun _ => only_bar2WriteOp ..,
    fun _ _ _ => touches_event (fun _ => rfl) fun _ => only_bar2ReadOp ..,
    touchesParts_event (fun _ => rfl) fun _ => only_pcieReset ..,
    fun _ => touchesParts_event (fun _ => rfl) fun _ => only_flrReset ..,
    touches_event (fun _ => rfl) fun _ => (only_railsOffOp ..).both (only_settleMode _),
    fun _ _ => touches_event (fun _ => rfl) fun _ => only_resetReleaseOp ..,
    touches_event (fun _ => rfl) fun _ => only_railsGoodOp ..,
    fun _ _ _ => touchesParts_event (fun _ => rfl) fun _ => (only_cellarCheckOp ..).both (only_settleMode _),
    touches_event (fun _ => rfl) fun _ => (only_serviceReadyOp ..).both (only_settleMode _),
    touches_event (fun _ => rfl) fun _ => only_readyTimeoutOp ..,
    fun _ => touches_event (fun _ => rfl) fun _ => only_svcWdogOp ..,
    fun _ => touchesParts_event (fun _ => rfl) fun _ => only_openOp ..,
    fun _ => touchesParts_event (fun _ => rfl) fun _ => only_closeOp ..,
    fun _ => touches_event (fun _ => rfl) fun _ => only_getInfoOp ..,
    fun _ => touches_event (fun _ => rfl) fun _ => only_imgBeginOp ..,
    fun _ => touches_event (fun _ => rfl) fun _ => only_imgDataOp ..,
    fun _ _ => touches_event (fun _ => rfl) fun _ => only_imgEndOp ..,
    fun _ => touches_event (fun _ => rfl) fun _ => only_timeStatusOp ..,
    fun _ _ => touches_event (fun _ => rfl) fun _ => only_timePtpCfgOp ..,
    fun _ _ _ _ _ => touchesParts_event (fun _ => rfl) fun _ => only_timePtpPortOp ..,
    fun _ _ => touches_event (fun _ => rfl) fun _ => only_timeServoOp ..,
    fun _ => touches_event (fun _ => rfl) fun _ => only_glStatusOp ..,
    fun _ _ => touches_event (fun _ => rfl) fun _ => only_glRosterOp ..,
    fun _ _ _ => touches_event (fun _ => rfl) fun _ => only_clReadOp ..,
    fun _ => touches_event (fun _ => rfl) fun _ => only_mailboxCompleteOp ..,
    fun _ => touchesParts_event (fun _ => rfl) fun _ => only_readOut ..,
    fun _ => touches_event (fun _ => rfl) fun _ => (only_srcLost ..).both (only_settleMode _),
    fun _ => touches_event (fun _ => rfl) fun _ => ((only_srcRequalified ..).both (only_glWake _)).both (only_settleMode _),
    fun _ => touches_event (fun _ => rfl) fun _ => (only_restepStepOp ..).both (only_settleMode _),
    touches_event (fun _ => rfl) fun _ => (only_holdLimitStep ..).both (only_settleMode _),
    touches_event (fun _ => rfl) fun _ => only_leapApplyOp ..,
    fun _ _ => touchesParts_event (fun _ => rfl) fun _ => only_readOut ..,
    touches_event (fun _ => rfl) fun _ => only_timeRecordOp ..,
    touches_event (fun _ => rfl) fun _ => only_pllUnlockOp ..,
    touchesParts_event (fun _ => rfl) fun _ => (only_pllLockOp ..).both (only_settleMode _),
    fun _ _ _ => touches_event (fun _ => rfl) fun _ => only_refLockOp ..,
    fun _ => touches_event (fun _ => rfl) fun _ => (only_refLossOp ..).both (only_settleMode _),
    fun _ _ _ => touches_event (fun _ => rfl) fun _ => only_refPhaseOp ..,
    fun _ _ => touches_event (fun _ => rfl) fun _ => (only_ltcWordOp ..).both (only_settleMode _),
    fun _ => touches_event (fun _ => rfl) fun _ => only_outApplyOp ..,
    fun _ _ => touches_event (fun _ => rfl) fun _ => (only_ppsEdgeOp ..).both (only_settleMode _),
    fun _ => touches_event (fun _ => rfl) fun _ => (only_todRxOp ..).both (only_settleMode _),
    touches_event (fun _ => rfl) fun _ => only_todTxOp ..,
    fun _ => touches_event (fun _ => rfl) fun _ => only_outLoadOp ..,
    fun _ => touchesParts_event (fun _ => rfl) fun _ => only_headFirstOp ..,
    fun _ => touches_event (fun _ => rfl) fun _ => only_headStoppedOp ..,
    fun _ _ => touchesParts_event (fun _ => rfl) fun _ => only_headLineOp ..,
    fun _ _ _ _ _ => touches_event (fun _ => rfl) fun _ => only_hostCompletionOp ..,
    fun _ => touches_event (fun _ => rfl) fun _ => only_deadlineStep ..,
    fun _ => touchesParts_event (fun _ => rfl) fun _ => (only_boundaryStep ..).both (only_glWatch _),
    fun _ _ => touches_event (fun _ => rfl) fun _ => only_sampleOp ..,
    fun _ _ => touches_event (fun _ => rfl) fun _ => only_fifoOp ..,
    fun _ _ => touches_event (fun _ => rfl) fun _ => only_dpFailOp ..,
    fun _ _ => touches_event (fun _ => rfl) fun _ => only_dpRetrainOp ..,
    fun _ => touches_event (fun _ => rfl) fun _ => only_sdiFailOp ..,
    fun _ => touches_event (fun _ => rfl) fun _ => only_checkDone ..,
    fun _ => touches_event (fun _ => rfl) fun _ => only_handoverOp ..,
    fun _ _ => touches_event (fun _ => rfl) fun _ => only_plCheckDone ..,
    fun _ _ => touches_event (fun _ => rfl) fun _ => only_plScanDone ..,
    fun _ => touches_event (fun _ => rfl) fun _ => only_ckDone ..,
    fun _ _ _ => touchesParts_event (fun _ => rfl) fun _ => only_ckRunReadOp ..,
    fun _ _ => touchesParts_event (fun _ => rfl) fun _ => only_readOut ..,
    fun _ _ => touchesParts_event (fun _ => rfl) fun _ => only_readOut ..,
    fun _ _ => touchesParts_event (fun _ => rfl) fun _ => only_readOut ..,
    fun _ _ _ _ => touchesParts_event (fun _ => rfl) fun _ => only_rxFrameOp ..,
    fun _ => touches_event (fun _ => rfl) fun _ => (only_moduleOutOp ..).both (only_settleMode _),
    fun _ => touches_event (fun _ => rfl) fun _ => only_moduleInOp ..,
    fun _ => touches_event (fun _ => rfl) fun _ => only_linkUpOp ..,
    fun _ => touches_event (fun _ => rfl) fun _ => (only_linkDownOp ..).both (only_settleMode _),
    fun _ _ _ => touches_event (fun _ => rfl) fun _ => only_i2cDoneOp ..⟩,
    fun _ => touches_event (fun _ => rfl) fun _ => only_pathTimeoutOp ..,
    fun _ _ => touchesParts_event (fun _ => rfl) fun _ => only_sdiInLineOp ..,
    fun _ _ => touchesParts_event (fun _ => rfl) fun _ => only_sdiLossOp ..,
    fun _ _ => touches_event (fun _ => rfl) fun _ => only_enqueue ..,
    fun _ => touches_event (fun _ => rfl) fun _ => only_txStart ..,
    fun _ => touches_event (fun _ => rfl) fun _ => only_txDone ..,
    fun _ => touches_event (fun _ => rfl) fun _ => only_launchPresentOp ..,
    fun _ => touches_event (fun _ => rfl) fun _ => only_lateDropOp ..,
    fun _ => touches_event (fun _ => rfl) fun _ => only_gclSwapOp ..,
    fun _ => touches_event (fun _ => rfl) fun _ => only_gateEntryOp ..,
    fun _ => touches_event (fun _ => rfl) fun _ => only_obsStep ..,
    fun _ _ => touches_event (fun _ => rfl) fun _ => only_adBurstDoneOp ..,
    fun _ => touches_event (fun _ => rfl) fun _ => only_adBusErrorOp ..,
    fun _ _ => touches_event (fun _ => rfl) fun _ => only_hqNopOp ..,
    fun _ _ _ => touches_event (fun _ => rfl) fun _ => only_hqH2lOp ..,
    fun _ _ => touches_event (fun _ => rfl) fun _ => only_hqL2hOp ..,
    fun _ _ _ => touches_event (fun _ => rfl) fun _ => only_hqTxOp ..,
    fun _ _ => touches_event (fun _ => rfl) fun _ => only_hqRxOp ..,
    fun _ => touches_event (fun _ => rfl) fun _ => only_hqCompleteOp ..,
    fun _ => touches_event (fun _ => rfl) fun _ => only_hqBusErrorOp ..,
    fun _ _ => touches_event (fun _ => rfl) fun _ => only_spMeasureOp ..,
    fun _ => touches_event (fun _ => rfl) fun _ => only_spEnergiseOp ..,
    fun _ _ => touches_event (fun _ => rfl) fun _ => only_spFastOp ..,
    fun _ _ _ => touches_event (fun _ => rfl) fun _ => only_spI2tOp ..,
    fun _ => touches_event (fun _ => rfl) fun _ => only_spSecondOp ..,
    fun _ => touches_event (fun _ => rfl) fun _ => only_spSupplyOp ..,
    fun _ => touches_event (fun _ => rfl) fun _ => only_spRetryOp ..,
    fun _ => touches_event (fun _ => rfl) fun _ => only_spTripsOp ..,
    fun _ _ => touches_event (fun _ => rfl) fun _ => only_spGateOp ..,
    fun _ => touches_event (fun _ => rfl) fun _ => only_spHelloOp ..,
    fun _ _ => touches_event (fun _ => rfl) fun _ => only_spCapsOp ..,
    fun _ _ => touches_event (fun _ => rfl) fun _ => only_spStatusOp ..,
    fun _ => touches_event (fun _ => rfl) fun _ => only_spSyncOp ..,
    fun _ => touches_event (fun _ => rfl) fun _ => only_spLatchOp ..,
    fun _ => touches_event (fun _ => rfl) fun _ => only_spTimeOp ..,
    fun _ => touches_event (fun _ => rfl) fun _ => only_spSegOp ..,
    fun _ => touches_event (fun _ => rfl) fun _ => only_spBitmapOp ..,
    fun _ => touches_event (fun _ => rfl) fun _ => only_rosterOp ..,
    touches_event (fun _ => rfl) fun _ => only_rosterSendOp ..,
    fun _ => touches_event (fun _ => rfl) fun _ => only_joinOp ..,
    fun _ => touches_event (fun _ => rfl) fun _ => only_admitOp ..,
    fun _ => touches_event (fun _ => rfl) fun _ => only_heartbeatOp ..,
    touches_event (fun _ => rfl) fun _ => only_heartbeatSendOp ..,
    fun _ => touches_event (fun _ => rfl) fun _ => only_claimOp ..,
    touches_event (fun _ => rfl) fun _ => only_claimSendOp ..,
    touches_event (fun _ => rfl) fun _ => only_claimElectionOp ..,
    touches_event (fun _ => rfl) fun _ => only_commitResendOp ..,
    fun _ => touches_event (fun _ => rfl) fun _ => only_reportOp ..,
    fun _ => touches_event (fun _ => rfl) fun _ => only_memberTimeoutOp ..,
    touches_event (fun _ => rfl) fun _ => only_rosterTimeoutOp ..,
    touches_event (fun _ => rfl) fun _ => only_seekTimeoutOp ..,
    fun _ _ => touches_event (fun _ => rfl) fun _ => only_windowCloseOp ..,
    touches_event (fun _ => rfl) fun _ => only_mirrorStep ..,
    fun _ => touchesParts_event (fun _ => rfl) fun _ => only_readOut ..,
    fun _ => touches_event (fun _ => rfl) fun _ => only_recordDone ..,
    touches_event (fun _ => rfl) fun _ => (only_supplyLossOp ..).both (only_settleMode _),
    touches_event (fun _ => rfl) fun _ => only_holdupSealOp ..,
    fun _ _ => touches_event (fun _ => rfl) fun _ => only_railPollOp ..,
    fun _ => touches_event (fun _ => rfl) fun _ => only_thermalOp ..,
    fun _ => touches_event (fun _ => rfl) fun _ => only_domainWakeOp ..,
    fun _ => touches_event (fun _ => rfl) fun _ => only_hbmFailOp ..,
    touches_event (fun _ => rfl) fun _ => only_fabricUncorrOp ..,
    fun _ _ => touches_event (fun _ => rfl) fun _ => (only_ltDoneOp ..).both (only_settleMode _),
    fun _ _ => touches_event (fun _ => rfl) fun _ => only_eyeDoneOp ..,
    fun _ _ => touchesParts_event (fun _ => rfl) fun _ => only_readOut ..,
    fun _ => touches_event (fun _ => rfl) fun _ => only_jtagOp ..,
    touches_event (fun _ => rfl) fun _ => only_supplyReleaseOp ..,
    touches_event (fun _ => rfl) fun _ => only_pcieUpOp ..,
    fun _ => touches_event (fun _ => rfl) fun _ => only_sdiLockOp ..,
    fun _ => touches_event (fun _ => rfl) fun _ => only_sdiRelockOp ..,
    fun _ _ => touches_event (fun _ => rfl) fun _ => only_moduleIntOp ..,
    fun _ => touches_event (fun _ => rfl) fun _ => only_syncGainOp ..,
    fun _ => touches_event (fun _ => rfl) fun _ => only_syncLossOp ..,
    fun _ _ => touches_event (fun _ => rfl) fun _ => (only_ltcMissingOp ..).both (only_settleMode _),
    touches_event (fun _ => rfl) fun _ => (only_ppsLossOp ..).both (only_settleMode _),
    fun _ => touches_event (fun _ => rfl) fun _ => (only_tenMhzOp ..).both (only_settleMode _),
    fun _ => touches_event (fun _ => rfl) fun _ => only_outLoadEndOp ..⟩

end Sys2Proof.Machine

/-! PROOF. The machine at rest, and after power-on (R52, R67, R76). -/

namespace Sys2Proof.Machine

/-- After power-on no source is latched. -/
theorem latched_reset (id : Nat) : State.reset.latched id = false := by
  have h : State.reset.rd (.FC_LAT, [id / 32]) = 0 := rfl
  rw [State.latched, State.flag, State.get, h, bits_zero]
  rfl

/-- After power-on no head runs. -/
theorem hst_reset (n : Nat) : State.reset.hst n = 0 :=
  have h : State.reset.rd (.HD_STAT, [n]) = resetVal (.HD_STAT, []) := rfl
  (congrArg (bits · 2 0) h).trans (by decide)

/-- After power-on no cue engine runs. -/
theorem cst_reset (n : Nat) : State.reset.cst n = 0 :=
  have h : State.reset.rd (.CU_STAT, [n]) = resetVal (.CU_STAT, []) := rfl
  (congrArg (bits · 1 0) h).trans (by decide)

/-- Settles O55: the maps of the state after power-on list nothing, so that each register, byte and latch has its default. -/
theorem restAndReset : Obligations.RestAndReset := by
  unfold Obligations.RestAndReset
  have hmode : State.reset.mode = 0 := by decide
  refine ⟨fun s h => ?_, ⟨fun _ => rfl, hmode, fun n => ⟨hst_reset n, cst_reset n⟩, rfl, rfl, rfl, fun a ha => ?_, latched_reset, ?_⟩, rfl, List.nodup_nil⟩
  · rw [step, h]
  · rw [State.byte, if_pos ha]
    rfl
  · rw [State.faultPin, hmode]
    rfl

end Sys2Proof.Machine

/-! PROOF. Refutation of the statement on clears by reading. The arrival of a slow write ends with the settling of the mode, which stops
the heads that still run in a shutdown that has become a forced one (R75), whether or not the mode changes. -/

namespace Sys2Proof.Machine

/-- A forced shutdown in which head 0 still runs, and a write of the status word of the Spemen block, in COR mode, at the front of its
queue. -/
def forcedWithHead : State :=
  let s := State.reset.updDv fun d => { d with step := 7, shutting := true, shutNow := true }
  let s := ((s.set F.DV_MODE_MODE 11).set (F.HD_STAT_STATE 0) 2).wr (.xx_STATUS_MODE, [11, 0]) 1
  { s with slowQ := [(11, [({}, keyAddr (.xx_STATUS, [11, 0]), 0)])] }

/-- The settling of the mode behind the arrival stops the head. -/
theorem stops_head_arrive_forced : (slowArriveOp .sp forcedWithHead).settleMode.finish.hst 0 = 0 := by decide +kernel

/-- Refutes O59: it says that a write of a status word in COR mode leaves every register where the mode is settled. In a forced shutdown
the settling stops a head that still runs, which the mode does not show. -/
theorem not_statusClearsOnRead : ¬ Obligations.StatusClearsOnRead := by
  unfold Obligations.StatusClearsOnRead
  intro h
  have ha : decodeAddr (keyAddr (.xx_STATUS, [11, 0])) = .reg (.xx_STATUS, [11, 0]) := by decide +kernel
  obtain ⟨-, -, -, harrive⟩ := h .hardware (keyAddr (.xx_STATUS, [11, 0])) 0 [11, 0] forcedWithHead ha
  obtain ⟨t, hexec, hregs, -⟩ := harrive {} [] .sp rfl rfl rfl rfl rfl (by decide) (by decide)
  have hruns : forcedWithHead.hst 0 = 2 := by decide
  have hkept : t.hst 0 = forcedWithHead.hst 0 := by unfold State.hst State.get State.rd; rw [hregs]
  rw [← Host.Outcome.next.inj hexec, hruns] at hkept
  exact absurd (stops_head_arrive_forced.symm.trans hkept) (by decide)

end Sys2Proof.Machine

/-! PROOF. Refutation of the statement on Spemen writes. The arrival of a slow write ends with the settling of the mode, and the entry
to SHUTDOWN turns every port off (R397). -/

namespace Sys2Proof.Machine

/-- A shutdown has been asked for and DV_MODE does not show it yet; port 0 is ON, and a write of DATA = 1 to it is at the front of the
queue. -/
def askedShutdownWithPort : State :=
  let s := (State.reset.updDv fun d => { d with step := 7, shutting := true }).set (F.SPP_STAT_STATE 0) 3
  { s with slowQ := [(11, [({}, keyAddr (.SPP_CTRL, [0]), 0x20002)])] }

/-- The settling of the mode behind the arrival turns the port off. -/
theorem turns_port_off_arrive_shutdown : (slowArriveOp .sp askedShutdownWithPort).settleMode.finish.spSt 0 = 0 := by decide +kernel

/-- Refutes O42: it says that a port keeps its state at the arrival of DATA = 1 whatever the device does. At the entry to SHUTDOWN the
port turns off. -/
theorem not_spemenWritesArrive : ¬ Obligations.SpemenWritesArrive := by
  unfold Obligations.SpemenWritesArrive
  intro h
  obtain ⟨-, -, -, -, -, -, -, -, -, -, hdata, -⟩ := h .hardware {} 0 0x20002 (keyAddr (.SPP_CTRL, [0])) 0 [] askedShutdownWithPort
  obtain ⟨t, hexec, -, -, hstate⟩ := hdata ⟨rfl, rfl, addr_SPP_CTRL 0, rfl, rfl⟩ rfl (by decide)
  have hon : askedShutdownWithPort.spSt 0 = 3 := by decide
  rw [← Host.Outcome.next.inj hexec] at hstate
  exact absurd (turns_port_off_arrive_shutdown.symm.trans (hstate.trans hon)) (by decide)

end Sys2Proof.Machine

/-! PROOF. The permission registers (O13): one field that is written once, and the rules on who may write it at all (R63, R64). -/

namespace Sys2Proof.Machine

/-- Words that agree on bits agree on some of them. -/
theorem bits_within {v w : Word} {hi lo h l : Nat} (e : bits v hi lo = bits w hi lo) (hl : lo ≤ l) (hh : h ≤ hi) : bits v h l = bits w h l := by
  apply Nat.eq_of_testBit_eq
  intro j
  have hj := congrArg (·.testBit (l - lo + j)) e
  simp only [testBit_bits, show lo + (l - lo + j) = l + j by omega] at hj ⊢
  by_cases h1 : j < h + 1 - l
  · simpa [h1, show l - lo + j < hi + 1 - lo by omega] using hj
  · simp [h1]

/-! ### The pairs of a word (R63) -/

/-- The rights of block code i in a word. -/
def pair (w : Word) (i : Nat) : Nat := bits w (2 * i + 1) (2 * i)

/-- The rights that a pair is kept as: 0b10 reads back as 0b01. -/
def keptPair (w : Word) (i : Nat) : Nat := if pair w i = 2 then 1 else pair w i

/-- One step of `permWord`. -/
def keepPair (w : Word) (i : Nat) : Word := if pair w i = 2 then setBits w (2 * i + 1) (2 * i) 1 else w

theorem permWord_eq (v : Word) : permWord v = (List.range 16).foldl keepPair v := rfl

theorem pair_keepPair (w : Word) {i : Nat} (j : Nat) (hi : i < 16) : pair (keepPair w i) j = if j = i then keptPair w i else pair w j := by
  unfold keepPair keptPair
  by_cases hp : pair w i = 2
  · rw [if_pos hp, if_pos hp]
    by_cases hj : j = i
    · subst hj
      rw [if_pos rfl, pair, bits_setBits_self _ _ _ _ (by omega), show 2 * j + 1 + 1 - 2 * j = 2 by omega]
      rfl
    · rw [if_neg hj]
      exact bits_setBits_ne _ _ _ _ _ _ (by omega) (by omega)
  · rw [if_neg hp, if_neg hp]
    split
    · rename_i hj; rw [hj]
    · rfl

theorem pair_foldl_keepPair (l : List Nat) (v : Word) (j : Nat) (hl : ∀ i ∈ l, i < 16) (hn : l.Nodup) :
    pair (l.foldl keepPair v) j = if j ∈ l then keptPair v j else pair v j := by
  induction l generalizing v with
  | nil => rfl
  | cons i l ih =>
    obtain ⟨hi, hn⟩ := List.nodup_cons.mp hn
    have hp := pair_keepPair v j (hl i List.mem_cons_self)
    rw [List.foldl_cons, ih _ (fun x hx => hl x (List.mem_cons_of_mem i hx)) hn]
    by_cases hj : j = i
    · subst hj
      rw [if_neg hi, hp, if_pos rfl, if_pos List.mem_cons_self]
    · rw [if_neg hj] at hp
      simp only [List.mem_cons, hj, false_or, keptPair, hp]

theorem pair_permWord (v : Word) {j : Nat} (hj : j < 16) : pair (permWord v) j = keptPair v j := by
  rw [permWord_eq, pair_foldl_keepPair _ _ _ (fun _ => List.mem_range.mp) List.nodup_range, if_pos (List.mem_range.mpr hj)]

/-! ### The registers -/

/-- The permission register of a slot: its low or its high half. -/
def permKey (hi : Bool) (slot : Fin 32) : Key := (if hi then .DV_PERM_HI else .DV_PERM_LO, [slot.val])

/-- The block codes that it has rights over. -/
def permPairs (hi : Bool) : Nat := if hi then 5 else 16

theorem permPairs_le (hi : Bool) : permPairs hi ≤ 16 := by cases hi <;> decide

/-- A slot whose rights are not to be written (R63). -/
def FixedSlot (slot : Fin 32) : Prop := slot.val = 0 ∨ (20 ≤ slot.val ∧ slot.val < 24) ∨ slot.val = 31

section
variable (hi : Bool) (slot : Fin 32) (s : State) (v : Word)

theorem fields_permKey : (regDef (permKey hi slot).1).fields = [fd (2 * permPairs hi - 1) 0 .w1 .once 0] := by cases hi <;> rfl

theorem addr_permKey : decodeAddr (keyAddr (permKey hi slot)) = .reg (permKey hi slot) := by
  cases hi
  · exact addr_DV_PERM_LO slot
  · exact addr_DV_PERM_HI slot

theorem taken_permKey : taken (permKey hi slot).1 v = permWord v := by cases hi <;> rfl

theorem emptyMask_permKey : emptyMask (.reg (permKey hi slot)) v 15 = false := by cases hi <;> rfl

theorem keyHdr_permKey : keyHdr (permKey hi slot) = [0, 0] := by cases hi <;> rfl

theorem slowCode_permKey : slowCode (permKey hi slot) = none := by cases hi <;> rfl

theorem held_permKey : s.held (permKey hi slot) = s.rd (permKey hi slot) := by cases hi <;> rfl

/-- The field is judged by its mark: while it is clear the pairs are taken and marked, and then a write that changes them is refused. -/
theorem judgeFields_permKey : s.judgeFields (permKey hi slot) v true =
    s.judgeField (permKey hi slot) (s.rd (permKey hi slot)) v true
      ⟨s.rd (permKey hi slot), .ok, mget (fun _ => 0) s.w1 (permKey hi slot)⟩ (fd (2 * permPairs hi - 1) 0 .w1 .once 0) := by
  unfold State.judgeFields
  have ha : asked (regDef (permKey hi slot).1) (s.held (permKey hi slot)) v = v := asked_plain _ _ (by cases hi <;> rfl)
  dsimp only
  rw [ha, fields_permKey, held_permKey]
  rfl

/-- The block stores what the judgement leaves, and does nothing more. -/
theorem blockWrite_permKey (org : Org) : s.blockWrite org (permKey hi slot) v true =
    let r := s.judgeFields (permKey hi slot) (permWord v) true
    (State.store { s with w1 := mput keyAddr (fun _ => 0) s.w1 (permKey hi slot) r.marks } (permKey hi slot) r.word, r.judge) := by
  rw [blockWrite_ok (by cases hi <;> exact nofun) (by cases hi <;> rfl), taken_permKey]
  have hc (y : State) (old new w : Word) : y.command org (permKey hi slot) old new w = (y, new, .ok) := by cases hi <;> rfl
  have ha (y : State) (old new w : Word) : y.after org (permKey hi slot) old new w = y := by cases hi <;> rfl
  dsimp only
  rw [hc, ha]
  cases (s.judgeFields (permKey hi slot) (permWord v) true).judge <;> rfl

theorem ownerRule_permKey (o : Origin) : s.ownerRule o (permKey hi slot) v =
    if (orgOf o).cls = 1 ∧ slot.val ≠ 0 ∧ !(decide (20 ≤ slot.val) && decide (slot.val < 24)) ∧ slot.val ≠ 31 then .ok else .viol := by
  cases hi <;> rfl

end

/-- Function 0 may write the slots that are not fixed (R64). -/
theorem ownerRule_permKey_pf0 (hi : Bool) {slot : Fin 32} (s : State) (v : Word) (h : ¬ FixedSlot slot) :
    s.ownerRule (.pf 0) (permKey hi slot) v = .ok := by
  unfold FixedSlot at h
  rw [ownerRule_permKey, if_pos]
  simp only [Bool.not_eq_true', Bool.and_eq_false_iff, decide_eq_false_iff_not]
  exact ⟨rfl, by omega⟩

/-- A fixed slot is written by none, and the others by function 0 alone (R63, R64). -/
theorem ownerRule_permKey_viol (hi : Bool) {slot : Fin 32} (s : State) (v : Word) {o : Origin} (h : (orgOf o).cls ≠ 1 ∨ FixedSlot slot) :
    s.ownerRule o (permKey hi slot) v = .viol := by
  unfold FixedSlot at h
  rw [ownerRule_permKey, if_neg]
  simp only [Bool.not_eq_true', Bool.and_eq_false_iff, decide_eq_false_iff_not]
  omega

/-- What a refusal under R47 leaves: the register as it was, and a raise of REG_LOCK_VIOL. -/
def Refused (k : Key) (s t : State) : Prop := t.rd k = s.rd k ∧ Raised 4 s t

section
variable {hi : Bool} {slot : Fin 32} {s : State} {v : Word} {o : Origin}

/-- A refusal under R47 leaves a register that is no register of the fault collector and no count of refusals. -/
theorem refused_refuse (h : List Nat) (org : Org) {y : State} (hy : ∀ j, y.rd j = s.rd j) : Refused (permKey hi slot) s (y.refuse h .viol org) := by
  have hc : (y.count ⟨(.xx_REFUSED, h), 15, 0⟩ 1).rd (.FC_CNT, [4]) = s.rd (.FC_CNT, [4]) :=
    ((only_count .xx_REFUSED rfl).reg _ .FC_CNT rfl rfl).trans (hy _)
  refine ⟨?_, (raised_raise 0 org (by decide)).of hc rfl⟩
  cases hi
  · exact ((only_refuse ..).reg _ .DV_PERM_LO rfl rfl).trans (hy _)
  · exact ((only_refuse ..).reg _ .DV_PERM_HI rfl rfl).trans (hy _)

/-- A write without the right to it is counted, and raises REG_LOCK_VIOL (R64). -/
theorem refused_denied (org : Org) : Refused (permKey hi slot) s ((s.count F.DV_ACC_ERR_DENIED_WR 1).raise 0x004 0 org) := by
  have hcount : Only [] (some [.DV_ACC_ERR]) s (s.count F.DV_ACC_ERR_DENIED_WR 1) := only_count .DV_ACC_ERR rfl
  refine ⟨?_, (raised_raise 0 org (by decide)).of (hcount.reg _ .FC_CNT rfl rfl) rfl⟩
  cases hi
  · exact ((only_raise ..).reg _ .DV_PERM_LO rfl rfl).trans (hcount.reg _ .DV_PERM_LO rfl rfl)
  · exact ((only_raise ..).reg _ .DV_PERM_HI rfl rfl).trans (hcount.reg _ .DV_PERM_HI rfl rfl)

/-- The write by one who must not write the slot. -/
theorem busWrite_permKey_turned_away (hs : s.served = true) (ho : (orgOf o).cls ≠ 1 ∨ FixedSlot slot) :
    ∃ u f a b, (s.busWrite o (keyAddr (permKey hi slot)) v).1 = u.log 0 f (orgOf o) a b ∧ Refused (permKey hi slot) s u := by
  unfold State.busWrite
  simp only [addr_permKey, hs, emptyMask_permKey, State.slowFull, slowCode_permKey, Target.hdr, keyHdr_permKey, ownerRule_permKey_viol hi s v ho]
  by_cases hr : s.rights o 0 = 3
  · exact ⟨_, 2, keyAddr (permKey hi slot), (maskBytes v 15).toNat, by simp [hr], refused_refuse [0, 0] (orgOf o) fun _ => rfl⟩
  · exact ⟨_, 2, keyAddr (permKey hi slot), (maskBytes v 15).toNat, by simp [hr], refused_denied (orgOf o)⟩

/-- The write by one who may write the slot. -/
theorem busWrite_permKey (hs : s.served = true) (hr : s.rights (.pf 0) 0 = 3) (hf : ¬ FixedSlot slot) :
    (s.busWrite (.pf 0) (keyAddr (permKey hi slot)) v).1 =
      let r := s.blockWrite (orgOf (.pf 0)) (permKey hi slot) v true
      (r.1.refuse [0, 0] r.2 (orgOf (.pf 0))).log 0 (refusedFlag r.2) (orgOf (.pf 0)) (keyAddr (permKey hi slot)) (maskBytes v 15).toNat 15 := by
  rw [busWrite_reg hs (addr_permKey hi slot) (emptyMask_permKey ..) (by rw [keyHdr_permKey]; exact hr)
    (by rw [ownerRule_permKey_pf0 hi s v hf]; exact nofun) (slowCode_permKey ..), keyHdr_permKey]

/-- A slot that has not been written takes the pairs. -/
theorem judgeFields_permKey_free (hm : bits (mget (fun _ => 0) s.w1 (permKey hi slot)) (2 * permPairs hi - 1) 0 = 0) :
    let r := s.judgeFields (permKey hi slot) v true
    r.judge = .ok ∧ bits r.word (2 * permPairs hi - 1) 0 = bits v (2 * permPairs hi - 1) 0 := by
  dsimp only
  have hlt : 2 * permPairs hi - 1 < 32 := by cases hi <;> decide
  rw [judgeFields_permKey, State.judgeField]
  simp only [hm, ne_eq, not_true, and_false, if_false, Fields.take]
  refine ⟨trivial, (bits_setBits_self _ _ _ _ hlt).trans (Nat.mod_eq_of_lt ?_)⟩
  exact Nat.mod_lt _ (Nat.two_pow_pos _)

/-- A slot that has been written takes no other pairs (R47). -/
theorem judgeFields_permKey_written (hm : bits (mget (fun _ => 0) s.w1 (permKey hi slot)) (2 * permPairs hi - 1) 0 ≠ 0)
    (hv : bits v (2 * permPairs hi - 1) 0 ≠ bits (s.rd (permKey hi slot)) (2 * permPairs hi - 1) 0) :
    let r := s.judgeFields (permKey hi slot) v true
    r.judge = .viol ∧ r.word = s.rd (permKey hi slot) := by
  dsimp only
  rw [judgeFields_permKey, State.judgeField]
  simp only [hm, hv, ne_eq, not_false_iff, and_self, if_true, if_false]
  exact ⟨rfl, trivial⟩

theorem rd_store_permKey {y : State} {w : Word} : (y.store (permKey hi slot) w).rd (permKey hi slot) = w := by
  cases hi <;> exact rd_store nofun nofun

/-- The command ends with an entry of the log, which leaves every register. -/
theorem permWrite_does {P : State → Prop} {u : State} {f a b be : Nat}
    (he : (s.busWrite o (keyAddr (permKey hi slot)) v).1 = u.log 0 f (orgOf o) a b be) (h : ∀ t, (∀ j, t.rd j = u.rd j) → P t) :
    Does (.permWrite o slot hi v) s P := by
  refine ⟨_, rfl, h _ fun j => ?_⟩
  change (State.finish (s.busWrite o (keyAddr (permKey hi slot)) v).1).rd j = _
  rw [rd_finish, he]
  exact (only_log ..).reg j _ rfl rfl

theorem Refused.of_rd {k : Key} {t u : State} (h : Refused k s u) (ht : ∀ j, t.rd j = u.rd j) : Refused k s t :=
  ⟨(ht _).trans h.1, h.2.of rfl (ht _)⟩

/-- The first write of a slot stores the pairs as they are kept (R63, R64). -/
theorem permWrite_stores (hs : s.served = true) (hr : s.rights (.pf 0) 0 = 3) (hf : ¬ FixedSlot slot)
    (hm : bits (mget (fun _ => 0) s.w1 (permKey hi slot)) (2 * permPairs hi - 1) 0 = 0) : Does (.permWrite (.pf 0) slot hi v) s fun t =>
      (∀ i, i < permPairs hi → pair (t.rd (permKey hi slot)) i = keptPair v i) ∧ ∀ j, j ≠ permKey hi slot → t.rd j = s.rd j := by
  obtain ⟨hj, hw⟩ := judgeFields_permKey_free (v := permWord v) hm
  refine permWrite_does (busWrite_permKey hs hr hf) fun t ht => ?_
  rw [blockWrite_permKey] at ht
  dsimp only at ht hj hw
  rw [hj, refuse_ok] at ht
  refine ⟨fun i hi' => ?_, fun j hne => (ht j).trans (rd_store_ne hne)⟩
  rw [ht, rd_store_permKey, ← pair_permWord v (hi'.trans_le (permPairs_le hi))]
  exact bits_within hw (Nat.zero_le _) (by omega)

/-- A second write that would change a slot is refused (R64). -/
theorem permWrite_refused (hs : s.served = true) (hr : s.rights (.pf 0) 0 = 3) (hf : ¬ FixedSlot slot)
    (hm : bits (mget (fun _ => 0) s.w1 (permKey hi slot)) (2 * permPairs hi - 1) 0 ≠ 0)
    (hv : ∃ i, i < permPairs hi ∧ keptPair v i ≠ pair (s.rd (permKey hi slot)) i) :
    Does (.permWrite (.pf 0) slot hi v) s (Refused (permKey hi slot) s) := by
  obtain ⟨i, hi', hne⟩ := hv
  rw [← pair_permWord v (hi'.trans_le (permPairs_le hi))] at hne
  obtain ⟨hj, hw⟩ := judgeFields_permKey_written (v := permWord v) hm fun e => hne (bits_within e (Nat.zero_le _) (by omega))
  refine permWrite_does (busWrite_permKey hs hr hf) fun t ht => ?_
  rw [blockWrite_permKey] at ht
  dsimp only at ht hj hw
  rw [hj, hw] at ht
  refine (refused_refuse [0, 0] _ fun j => ?_).of_rd ht
  by_cases h : j = permKey hi slot
  · rw [h, rd_store_permKey]
  · exact rd_store_ne h

end

/-- Settles O13: the one field of a permission register is judged by its mark, and the owner rule stands before it. -/
theorem permissionsAreWrittenOnce : Obligations.PermissionsAreWrittenOnce := by
  unfold Obligations.PermissionsAreWrittenOnce
  intro o slot hi v s
  dsimp only
  intro hs
  refine ⟨?_, ?_, fun ho => ?_⟩
  · rintro rfl hr hf hm
    exact permWrite_stores hs hr hf hm
  · rintro rfl hr hf hm hv
    exact permWrite_refused hs hr hf hm hv
  · obtain ⟨u, f, a, b, he, hu⟩ := busWrite_permKey_turned_away (hi := hi) (v := v) hs ho
    exact permWrite_does he fun t ht => hu.of_rd ht

end Sys2Proof.Machine

/-! PROOF. Reads and status words (O10): what a read returns and leaves (R44, R54, R65), and a status word that is cleared by its SEQ (R53). -/

namespace Sys2Proof.Machine

/-! ### The bytes of a word (R44) -/

/-- A byte of a word with some of its bytes made 0. -/
theorem bits_maskBytes (v : Word) (be : Nat) {j : Nat} (hj : j < 4) :
    bits (maskBytes v be) (8 * j + 7) (8 * j) = if nbit be j then bits v (8 * j + 7) (8 * j) else 0 := by
  have hsum (x0 x1 x2 x3 : Nat) (h0 : x0 < 256) (h1 : x1 < 256) (h2 : x2 < 256) (h3 : x3 < 256) (i : Nat) (hi : i < 4) :
      (0 + x0 + x1 * 256 + x2 * 65536 + x3 * 16777216) % 2 ^ 32 / 2 ^ (8 * i) % 2 ^ 8 = [x0, x1, x2, x3].getD i 0 := by
    interval_cases i <;> simp only [List.getD_cons_zero, List.getD_cons_succ] <;> omega
  have hbyte (b : Bool) (n : Nat) : (if b then n % 256 else 0) < 256 := by split <;> omega
  have hmask : (maskBytes v be).toNat = (0 + (if nbit be 0 then v.toNat % 256 else 0) + (if nbit be 1 then v.toNat / 256 % 256 else 0) * 256 +
      (if nbit be 2 then v.toNat / 65536 % 256 else 0) * 65536 + (if nbit be 3 then v.toNat / 16777216 % 256 else 0) * 16777216) % 2 ^ 32 := by
    simp only [maskBytes, w32, bytesLE, List.zipIdx_cons, List.zipIdx_nil, List.foldl_cons, List.foldl_nil, BitVec.toNat_ofNat, Nat.div_div_eq_div_mul,
      ite_mul, zero_mul]
    norm_num
  rw [bits, bits, hmask, show 8 * j + 7 + 1 - 8 * j = 8 by omega, hsum _ _ _ _ (hbyte ..) (hbyte ..) (hbyte ..) (hbyte ..) j hj]
  interval_cases j <;> simp

/-- The byte lanes that a read takes. -/
theorem nbit_readLanes (addr len a : Nat) {j : Nat} (hj : j < 4) :
    nbit (readLanes addr len a) j = (decide (addr ≤ a + j) && decide (a + j < addr + len)) := by
  have h (p0 p1 p2 p3 : Bool) (i : Nat) (hi : i < 4) : nbit (ofBits [(0, p0), (1, p1), (2, p2), (3, p3)]) i = [p0, p1, p2, p3].getD i false := by
    interval_cases i <;> revert p0 p1 p2 p3 <;> decide
  unfold readLanes
  refine (h _ _ _ _ j hj).trans ?_
  interval_cases j <;> rfl

/-! ### A read of a register -/

/-- The registers whose read has an effect of its own. -/
def readEffects : List Reg :=
  [.xx_STATUS, .SL_SEQ_LO, .TB_TIME_SL, .TB_TSQ_POP, .LT_BITS_LO, .LT_ERRORS, .CK_RUN, .CU_DM_LO, .CU_DM_HI, .CUS_SCR_DATA, .DT_GLY_DATA]

/-- What a read of a fabric register leaves, for a register with no effect of its own: the fields that a read clears are 0 (R44). -/
def State.readCleared (s : State) (k : Key) : State :=
  if (regDef k.1).fields.any fun f => f.acc == .rc then s.wr k (clearRc (regDef k.1) (s.rd k)) else s

section
variable {s : State} {o : Origin} {a : Nat} {k : Key}

/-- A read of any register but CKu_RUN takes no free number. -/
theorem busRead_eq (hd : decodeAddr a = .reg k) (hk : k.1 ≠ .CK_RUN) : s.busRead o a = s.busReadAt o a 0 := by
  unfold State.busRead
  rw [hd]
  split
  · rename_i h; cases h; exact absurd rfl hk
  · rfl

/-- A read of a register by an origin that may read it. -/
theorem busRead_reg (hs : s.readable = true) (hd : decodeAddr a = .reg k) (hk : k.1 ≠ .CK_RUN) (hl : k.1 ≠ .LT_ERRORS)
    (hr : s.rights o ((keyHdr k).headD 0) ≠ 0) (hslow : slowCode k = none) :
    s.busRead o a = (s.afterRead k (orgOf o).cls (s.shown k (orgOf o).cls), s.shown k (orgOf o).cls, false) := by
  have hrun : s.readRun k 0 = s := by rw [State.readRun, if_neg hk, if_neg hl]
  rw [busRead_eq hd hk, State.busReadAt, hd, hs]
  simp [-List.headD_eq_head?_getD, Target.hdr, hr, hrun, State.seen, hslow]

theorem afterRead_plain (cls : Nat) (v : Word) (h : readEffects.contains k.1 = false) : s.afterRead k cls v = s.readCleared k := by
  unfold State.afterRead
  dsimp only
  split
  case h_10 => rfl
  all_goals
    rename_i hk
    rw [hk] at h
    exact absurd h (by decide)

/-- What leaves the device with a command is behind what has left it before. -/
theorem out_finish_emit {y : State} {x : Out} (h : y.out = s.out) : s.out ++ [x] <+: (y.emit x).finish.out := by
  rw [← h]
  exact (only_finish (y.emit x)).follows.out

theorem only_readCleared (s : State) (k : Key) : Only [] (some [k.1]) s (s.readCleared k) := Only.ite (only_wr k.1 rfl) (Only.refl s)

theorem out_readCleared (s : State) (k : Key) : (s.readCleared k).out = s.out := by unfold State.readCleared; split <;> rfl

end

/-- The fields that a read clears are 0 in the cleared word, and the others are as they were. -/
theorem bits_clearRc {d : RegDef} (w : Word) (ha : fieldsApart d.fields = true) {f : FieldDef} (hf : f ∈ d.fields) :
    bits (clearRc d w) f.hi f.lo = if f.acc = .rc then 0 else bits w f.hi f.lo := by
  unfold clearRc
  have step (x : Word) (g : FieldDef) (hg : g.hi < 32) {y : FieldDef} (hy : apart y g = true) :
      bits (if g.acc == .rc then setBits x g.hi g.lo 0 else x) y.hi y.lo = bits x y.hi y.lo := by
    split
    · exact bits_setBits_ne _ _ _ _ _ _ hg (by simpa [apart] using hy)
    · rfl
  have stays (x : Word) (l : List FieldDef) (hl : fieldsApart l = true) {y : FieldDef} (hy : ∀ g ∈ l, apart y g = true) :
      bits (l.foldl (fun w f => if f.acc == .rc then setBits w f.hi f.lo 0 else w) x) y.hi y.lo = bits x y.hi y.lo := by
    induction l generalizing x with
    | nil => rfl
    | cons g l ih =>
      simp only [fieldsApart, Bool.and_eq_true, decide_eq_true_eq] at hl
      exact (ih _ hl.2 fun z hz => hy z (List.mem_cons_of_mem g hz)).trans (step x g hl.1.1 (hy g List.mem_cons_self))
  generalize d.fields = l at ha hf
  induction l generalizing w with
  | nil => cases hf
  | cons g l ih =>
    simp only [fieldsApart, Bool.and_eq_true, decide_eq_true_eq, List.all_eq_true] at ha
    obtain ⟨⟨h32, hapart⟩, ha⟩ := ha
    rw [List.foldl_cons]
    rcases List.mem_cons.mp hf with rfl | hf
    · rw [stays _ l ha fun z hz => (hapart z hz).1]
      by_cases hc : f.acc = .rc
      · rw [if_pos hc, if_pos (beq_iff_eq.mpr hc), bits_setBits_self _ _ _ _ h32, Nat.zero_mod]
      · rw [if_neg hc, if_neg (by simpa using hc)]
    · rw [ih _ ha hf, step w g h32 (hapart f hf).2]

/-- What a read leaves in the fields of its register (R44). -/
theorem bits_readCleared (s : State) {k : Key} (ha : fieldsApart (regDef k.1).fields = true) {f : FieldDef} (hf : f ∈ (regDef k.1).fields) :
    bits ((s.readCleared k).rd k) f.hi f.lo = if f.acc = .rc then 0 else bits (s.rd k) f.hi f.lo := by
  unfold State.readCleared
  split
  · rw [rd_wr_self, bits_clearRc _ ha hf]
  · rename_i h
    have hn : f.acc ≠ .rc := fun e => h (List.any_eq_true.mpr ⟨f, hf, beq_iff_eq.mpr e⟩)
    rw [if_neg hn]

/-! ### Status words (R53, R54) -/

/-- The events of v are cleared in a status word, whose SEQ stays. -/
theorem getLsbD_clearEvents (w v : Word) (i : Nat) :
    (w &&& ~~~ (v &&& w32 0xFFFFFF)).getLsbD i = (w.getLsbD i && !(v.getLsbD i && decide (i < 24))) := by
  have hmask : (w32 0xFFFFFF).getLsbD i = decide (i < 24) :=
    (getLsbD_fieldMask 23 0 i (by decide)).trans (decide_eq_decide.mpr (by omega))
  rw [BitVec.getLsbD_and, BitVec.getLsbD_not, BitVec.getLsbD_and, hmask]
  by_cases hi : i < 32
  · simp [hi]
  · simp [BitVec.getLsbD_of_ge _ _ (Nat.le_of_not_lt hi)]

/-- The SEQ of a status word stays where events are cleared. -/
theorem seq_clearEvents (w v : Word) : bits (w &&& ~~~ (v &&& w32 0xFFFFFF)) 31 24 = bits w 31 24 := by
  apply Nat.eq_of_testBit_eq
  intro j
  rw [testBit_bits, testBit_bits, getLsbD_clearEvents]
  simp [show ¬ 24 + j < 24 by omega]

/-- A status word without the events that it shows has none. -/
theorem events_clearEvents_shown (w : Word) : bits (w &&& ~~~ (setBits w 31 24 0 &&& w32 0xFFFFFF)) 23 0 = 0 := by
  apply Nat.eq_of_testBit_eq
  intro j
  rw [testBit_bits, getLsbD_clearEvents, getLsbD_setBits _ _ _ _ _ (by decide), Nat.zero_testBit, Nat.zero_add]
  by_cases hj : j < 24
  · simp [hj, show ¬ 24 ≤ j by omega]
  · simp [show ¬ j < 23 + 1 - 0 by omega]

/-! ### The three reads -/

section
variable {s : State} {o : Origin} {a : Nat} {k : Key}

/-- A read of some bytes of a word is a read of its register. -/
theorem readSpan_word (h4 : a % 4 = 0) (ha : a < 2 ^ 26) {i n : Nat} (hn : 0 < n) (hi : i + n ≤ 4) :
    s.readSpan o (a + i) n =
      (s.busRead o a).1.emit (.readData (orgOf o) a (maskBytes (s.busRead o a).2.1 (readLanes (a + i) n a))) := by
  have hlen : ((a + i) % 4 + n + 3) / 4 = 1 := by omega
  have haddr : (a + i) / 4 * 4 + 4 * 0 = a := by omega
  rw [State.readSpan, hlen, List.range_one, List.foldl_cons, List.foldl_nil, haddr, State.wordRead, if_pos (by exact ha)]

/-- READ_CLEAR (R44). -/
theorem readClear_reads (hd : decodeAddr a = .reg k) (h4 : a % 4 = 0) (ha : a < 2 ^ 26) {i n : Nat} (hn : 0 < n) (hi : i + n ≤ 4)
    (hans : Answers s o k) (hslow : slowCode k = none) (he : readEffects.contains k.1 = false) (hf : fieldsApart (regDef k.1).fields = true) :
    Does (.readClear o (a + i) n) s fun t =>
      (∃ w, s.out ++ [.readData (orgOf o) a w] <+: t.out ∧ ∀ j, j < 4 → bits w (8 * j + 7) (8 * j) =
        if i ≤ j ∧ j < i + n then bits (s.shown k (orgOf o).cls) (8 * j + 7) (8 * j) else 0) ∧
      (∀ f ∈ (regDef k.1).fields, bits (t.rd k) f.hi f.lo = if f.acc = .rc then 0 else bits (s.rd k) f.hi f.lo) ∧
      Only [.out, .irqOwed, .msix] (some [k.1]) s t := by
  have hne {r : Reg} (hr : readEffects.contains r = true) : k.1 ≠ r := by rintro rfl; rw [hr] at he; cases he
  refine Does.of (f := fun s => s.readSpan o (a + i) n) rfl ?_
  rw [readSpan_word h4 ha hn hi, busRead_reg hans.readable hd (hne rfl) (hne rfl) hans.rights hslow, afterRead_plain _ _ he]
  refine ⟨⟨_, out_finish_emit (out_readCleared s k), fun j hj => ?_⟩, fun f hf' => ?_, ?_⟩
  · rw [bits_maskBytes _ _ hj, nbit_readLanes _ _ _ hj]
    congr 1
    simp only [Bool.and_eq_true, decide_eq_true_eq, eq_iff_iff]
    omega
  · rw [rd_finish]
    exact bits_readCleared s hf hf'
  · exact (((only_readCleared s k).widen (by simp [within])).then (only_emit ..) (by simp [within])).then (only_finish _) (by simp [within])

/-- STATUS_COR_READ: a status word loses the bits that it returned (R54). -/
theorem statusCorRead_clears {b : List Nat} (hd : decodeAddr a = .reg (.xx_STATUS, b)) (hans : Answers s o (.xx_STATUS, b))
    (hslow : slowCode (.xx_STATUS, b) = none) (hmode : s.get ⟨(.xx_STATUS_MODE, b), 0, 0⟩ = 1) :
    Does (.statusCorRead o a) s fun t =>
      s.out ++ [.readData (orgOf o) a (setBits (s.rd (.xx_STATUS, b)) 31 24 0)] <+: t.out ∧
      (∀ j, t.rd j = (s.wr (.xx_STATUS, b) (s.rd (.xx_STATUS, b) &&& ~~~ (setBits (s.rd (.xx_STATUS, b)) 31 24 0 &&& w32 0xFFFFFF))).rd j) ∧
      Only [.out, .irqOwed, .msix] (some [.xx_STATUS]) s t := by
  have hflag : s.flag ⟨(.xx_STATUS_MODE, b), 0, 0⟩ = true := by rw [State.flag, hmode]; rfl
  have hshown : s.shown (.xx_STATUS, b) (orgOf o).cls = setBits (s.rd (.xx_STATUS, b)) 31 24 0 := if_pos hflag
  have hafter (v : Word) : s.afterRead (.xx_STATUS, b) (orgOf o).cls v = s.wr (.xx_STATUS, b) (s.rd (.xx_STATUS, b) &&& ~~~ (v &&& w32 0xFFFFFF)) :=
    if_pos hflag
  refine Does.of (f := fun s => s.readOut o a) rfl ?_
  rw [State.readOut, busRead_reg hans.readable hd nofun nofun hans.rights hslow, hshown, hafter]
  refine ⟨out_finish_emit rfl, fun j => rd_finish .., ?_⟩
  exact (((only_wr .xx_STATUS rfl).widen (by decide)).then (only_emit ..) rfl).then (only_finish _) rfl

/-- REGISTER_READ_DENIED: a read without permission returns 0 and is counted (R65). -/
theorem registerReadDenied_counts (hd : decodeAddr a = .reg k) (hs : s.readable = true) (hr : s.rights o ((keyHdr k).headD 0) = 0)
    (hk : k.1 ≠ .CK_RUN) : Does (.registerReadDenied o a) s fun t =>
      s.out ++ [.readData (orgOf o) a 0] <+: t.out ∧ t.get F.DV_ACC_ERR_DENIED_RD = min (s.get F.DV_ACC_ERR_DENIED_RD + 1) 255 ∧
      Only [.out, .irqOwed, .msix] (some [.DV_ACC_ERR]) s t := by
  have hread : s.busRead o a = (s.count F.DV_ACC_ERR_DENIED_RD 1, 0, true) := by
    rw [busRead_eq hd hk, State.busReadAt, hd, hs]
    simp [-List.headD_eq_head?_getD, Target.hdr, hr]
  refine Does.of (f := fun s => s.readOut o a) rfl ?_
  rw [State.readOut, hread]
  refine ⟨out_finish_emit rfl, ?_, ?_⟩
  · rw [get_finish, get_emit]
    exact get_count_self _ _ _ (by exact (by decide : 23 < 32))
  · exact (((only_count .DV_ACC_ERR rfl).widen (by decide)).then (only_emit ..) rfl).then (only_finish _) rfl

/-- STATUS_SEQ_CLEAR: a write that names the present SEQ clears the bits written as 1 (R53). -/
theorem statusSeqClear_clears {b : List Nat} {v : Word} (hd : decodeAddr a = .reg (.xx_STATUS, b)) (hw : Reaches s o (.xx_STATUS, b) v)
    (hslow : slowCode (.xx_STATUS, b) = none) (hmode : s.get ⟨(.xx_STATUS_MODE, b), 0, 0⟩ = 0) :
    Does (.statusSeqClear o a v) s fun t => ∀ j, t.rd j = (if bits v 31 24 = bits (s.rd (.xx_STATUS, b)) 31 24 then
      s.wr (.xx_STATUS, b) (s.rd (.xx_STATUS, b) &&& ~~~ (v &&& w32 0xFFFFFF)) else s).rd j := by
  have hflag : s.flag ⟨(.xx_STATUS_MODE, b), 0, 0⟩ = false := by rw [State.flag, hmode]; rfl
  refine Does.of (f := fun s => (s.busWrite o a v).1) rfl fun j => ?_
  rw [rd_finish, busWrite_reg hw.served hd rfl hw.rights hw.owner hslow, (only_log ..).reg j _ rfl rfl, State.blockWrite, if_pos rfl, refuse_ok,
    State.statusWrite]
  simp only [hflag, Bool.false_eq_true, false_or]
  by_cases h : bits v 31 24 = bits (s.rd (.xx_STATUS, b)) 31 24
  · rw [if_neg (not_not.mpr h), if_pos h]
  · rw [if_pos h, if_neg h]

end

/-- Settles O10: a read is answered from what its register shows and then clears what its class says; a status word is judged by its SEQ. -/
theorem readsAndStatusWords : Obligations.ReadsAndStatusWords := by
  unfold Obligations.ReadsAndStatusWords
  refine ⟨fun o a s k hd => ⟨fun i n h4 ha hn hi hans hslow hx h1 h2 hf => ?_, fun hans hslow hk hmode => ?_, fun hs hr hk => ?_⟩,
    fun o a v s b hd hw hslow hmode => ?_⟩
  · have he : readEffects.contains k.1 = false := by
      simp only [List.contains_eq_mem, List.mem_cons, List.not_mem_nil, or_false, decide_eq_true_eq, not_or] at h1 h2
      simp [readEffects, hx, h1, h2]
    exact readClear_reads hd h4 ha hn hi hans hslow he hf
  · obtain ⟨r, b⟩ := k
    obtain rfl : r = .xx_STATUS := hk
    obtain ⟨t, hexec, hout, hrd, honly⟩ := statusCorRead_clears hd hans hslow hmode
    refine ⟨t, hexec, hout, ?_, ?_, honly⟩
    · rw [hrd, rd_wr_self, events_clearEvents_shown]
    · rw [hrd, rd_wr_self, seq_clearEvents]
  · exact registerReadDenied_counts hd hs hr hk
  · obtain ⟨t, hexec, hrd⟩ := statusSeqClear_clears hd hw hslow hmode
    refine ⟨t, hexec, ?_⟩
    by_cases hseq : bits v 31 24 = bits (s.rd (.xx_STATUS, b)) 31 24
    · simp only [if_pos hseq] at hrd
      refine ⟨fun i hi => ?_, ?_, fun j hj => (hrd j).trans (rd_wr_ne _ _ hj)⟩
      · rw [hrd, rd_wr_self, getLsbD_clearEvents]
        simp [hi, hseq]
      · rw [hrd, rd_wr_self, seq_clearEvents]
    · simp only [if_neg hseq] at hrd
      refine ⟨fun i hi => ?_, by rw [hrd], fun j _ => hrd j⟩
      rw [hrd]
      simp [hseq]

end Sys2Proof.Machine

/-! PROOF. Snapshots (O12): the request, the capture on the first tick after it, and the page that is written out (R61, R62). -/

namespace Sys2Proof.Machine

/-! ### The request (R62) -/

/-- DV_SNAP. -/
abbrev snapKey : Key := (.DV_SNAP, [])

/-- A capture of the blocks of a mask is asked for, beside those asked for before (log 17). -/
def State.requestSnap (s : State) (v : Word) : State :=
  (s.updDv fun d => { d with snapReq := some (bits v 20 0 ||| (s.dv.snapReq.map (·.1)).getD 0, s.tick) }).set F.DV_SNAP_STAT_BUSY
    (b2n (bits v 20 17 != 0))

/-- DV_SNAP stores nothing; its write asks for the capture, or is refused while a write-out goes on. -/
theorem blockWrite_snap (s : State) (org : Org) (v : Word) : ∃ y, Only [.w1] (some []) s y ∧ s.blockWrite org snapKey v true =
    if s.flag F.DV_SNAP_STAT_BUSY then (y.store snapKey (s.rd snapKey), .quiet) else ((y.requestSnap v).store snapKey (s.rd snapKey), .ok) := by
  have hc (y : State) (old new w : Word) : y.command org snapKey old new w =
      if y.flag F.DV_SNAP_STAT_BUSY then (y, old, .quiet) else (y.requestSnap w, old, .ok) := rfl
  have ha (y : State) (old new w : Word) : y.after org snapKey old new w = y := rfl
  have ht : taken snapKey.1 v = v := taken_of v (by exact nofun) (by exact nofun)
  have hj : (s.judgeFields snapKey v true).judge = .ok := rfl
  refine ⟨{ s with w1 := mput keyAddr (fun _ => 0) s.w1 snapKey (s.judgeFields snapKey v true).marks }, only_w1, ?_⟩
  rw [blockWrite_ok (by exact nofun) rfl]
  dsimp only
  rw [hc, ha, ht, hj]
  exact apply_ite (fun c : State × Word × Judge => (c.1.store snapKey c.2.1, Judge.with .ok c.2.2)) _ _ _

section
variable {s y : State} {o : Origin} {v : Word}

/-- A store of what the register holds leaves every register and every part. -/
theorem store_snap (h : y.rd snapKey = s.rd snapKey) : y.store snapKey (s.rd snapKey) = y := by
  rw [← h]
  exact store_same rfl

theorem rd_requestSnap_ne {j : Key} (h : j.1 ≠ .DV_SNAP_STAT) : (y.requestSnap v).rd j = y.rd j := rd_wr_ne _ _ fun e => h (e ▸ rfl)

/-- A write of DV_SNAP while no write-out goes on. -/
theorem keyWrite_snap (hw : Reaches s o snapKey v) (hb : s.flag F.DV_SNAP_STAT_BUSY = false) :
    ∃ y, Only [.w1] (some []) s y ∧ Only [.sl] (some []) (y.requestSnap v) (s.keyWrite o snapKey v) := by
  obtain ⟨y, hy, he⟩ := blockWrite_snap s (orgOf o) v
  rw [hb, if_neg (by decide), store_snap ((rd_requestSnap_ne (by exact nofun)).trans (hy.reg _ .DV_SNAP rfl rfl))] at he
  refine ⟨y, hy, ?_⟩
  rw [State.keyWrite, busWrite_reg hw.served addr_DV_SNAP rfl hw.rights hw.owner rfl, he]
  exact only_log ..

/-- A write of DV_SNAP while a write-out goes on. -/
theorem keyWrite_snap_busy (hw : Reaches s o snapKey v) (hb : s.flag F.DV_SNAP_STAT_BUSY = true) :
    ∃ y, Only [.w1] (some []) s y ∧ Only [.sl] (some []) (y.count ⟨(.xx_REFUSED, [0, 0]), 15, 0⟩ 1) (s.keyWrite o snapKey v) := by
  obtain ⟨y, hy, he⟩ := blockWrite_snap s (orgOf o) v
  rw [hb, if_pos rfl, store_snap (hy.reg _ .DV_SNAP rfl rfl)] at he
  refine ⟨y, hy, ?_⟩
  rw [State.keyWrite, busWrite_reg hw.served addr_DV_SNAP rfl hw.rights hw.owner rfl, he]
  exact only_log ..

/-- SNAP_REQUEST asks for the blocks that it names. -/
theorem snapRequest_asks (hw : Reaches s o snapKey v) (hb : s.flag F.DV_SNAP_STAT_BUSY = false) : Does (.snapRequest o v) s fun t =>
    t.dv.snapReq = some (bits v 20 0 ||| (s.dv.snapReq.map (·.1)).getD 0, s.tick) ∧
      t.get F.DV_SNAP_STAT_BUSY = b2n (bits v 20 17 != 0) ∧ ∀ j : Key, j.1 ≠ .DV_SNAP_STAT → t.rd j = s.rd j := by
  obtain ⟨y, hy, hz⟩ := keyWrite_snap hw hb
  refine Does.of (f := fun s => s.keyWrite o snapKey v) rfl ⟨?_, ?_, fun j hj => ?_⟩
  · have hdv : (s.keyWrite o snapKey v).dv = (y.requestSnap v).dv := hz.same .dv (by decide)
    have hyd : y.dv = s.dv := hy.same .dv (by decide)
    have htick : y.tick = s.tick := hy.same .tick (by decide)
    rw [dv_finish, hdv, State.requestSnap, dv_set, dv_updDv, hyd, htick]
  · rw [get_finish, hz.field _ .DV_SNAP_STAT rfl rfl, State.requestSnap, get_set_self _ _ _ (by exact (by decide : 0 < 32))]
    cases bits v 20 17 != 0 <;> rfl
  · rw [rd_finish, hz.reg j _ rfl rfl, rd_requestSnap_ne hj, hy.reg j _ rfl rfl]

/-- SNAP_REQUEST is refused and counted while a write-out goes on. -/
theorem snapRequest_refused (hw : Reaches s o snapKey v) (hb : s.flag F.DV_SNAP_STAT_BUSY = true) : Does (.snapRequest o v) s fun t =>
    t.dv = s.dv ∧ t.get ⟨(.xx_REFUSED, [0, 0]), 15, 0⟩ = min (s.get ⟨(.xx_REFUSED, [0, 0]), 15, 0⟩ + 1) 65535 ∧
      t.fc = s.fc ∧ ∀ j : Key, j.1 ≠ .xx_REFUSED → t.rd j = s.rd j := by
  obtain ⟨y, hy, hz⟩ := keyWrite_snap_busy hw hb
  have hc : Only [] (some [.xx_REFUSED]) y (y.count ⟨(.xx_REFUSED, [0, 0]), 15, 0⟩ 1) := only_count .xx_REFUSED rfl
  refine Does.of (f := fun s => s.keyWrite o snapKey v) rfl ⟨?_, ?_, ?_, fun j hj => ?_⟩
  · rw [dv_finish]
    exact (hz.same .dv (by decide)).trans ((hc.same .dv (by decide)).trans (hy.same .dv (by decide)))
  · rw [get_finish, hz.field _ .xx_REFUSED rfl rfl, get_count_self _ _ _ (by exact (by decide : 15 < 32)), hy.field _ .xx_REFUSED rfl rfl]
    rfl
  · rw [fc_finish]
    exact (hz.same .fc (by decide)).trans ((hc.same .fc (by decide)).trans (hy.same .fc (by decide)))
  · rw [rd_finish, hz.reg j _ rfl rfl, hc.reg j _ rfl (by simpa using hj), hy.reg j _ rfl rfl]

end

/-! ### The capture (R61) -/

/-- Writing a list of keys of a map with a value each leaves the others. -/
theorem mget_foldl_mput_of_notMem {κ α : Type} [DecidableEq κ] [DecidableEq α] (rank : κ → Nat) (d g : κ → α) {l : List κ} (m : Map κ α) {k : κ}
    (h : k ∉ l) : mget d (l.foldl (fun m k => mput rank d m k (g k)) m) k = mget d m k := by
  induction l generalizing m with
  | nil => rfl
  | cons x l ih =>
    obtain ⟨hx, hl⟩ := not_or.mp (mt List.mem_cons.mpr h)
    rw [List.foldl_cons, ih _ hl, mget_mput_ne _ _ _ _ hx]

/-- Each of the keys holds its value. -/
theorem mget_foldl_mput_of_mem {κ α : Type} [DecidableEq κ] [DecidableEq α] (rank : κ → Nat) (d g : κ → α) {l : List κ} (m : Map κ α) {k : κ}
    (h : k ∈ l) : mget d (l.foldl (fun m k => mput rank d m k (g k)) m) k = g k := by
  induction l generalizing m with
  | nil => cases h
  | cons x l ih =>
    rw [List.foldl_cons]
    by_cases hl : k ∈ l
    · exact ih _ hl
    · obtain rfl : k = x := (List.mem_cons.mp h).resolve_right hl
      rw [mget_foldl_mput_of_notMem _ _ _ _ hl, mget_mput_self]

/-- The counters that a mask of blocks names. -/
def snapKeys (mask : Nat) : List Key := (((List.range 21).filter (nbit mask)).flatMap holdBlks).flatMap blkCounters

theorem mem_holdBlks {c : Nat} {b : Blk} (h : b ∈ holdBlks c) : c < 17 := by
  have := (List.mem_filter.mp h).2
  simp only [Bool.and_eq_true, decide_eq_true_eq] at this
  exact this.2

theorem mem_snapKeys {mask : Nat} {k : Key} : k ∈ snapKeys mask ↔ ∃ c b, c < 17 ∧ nbit mask c = true ∧ b ∈ holdBlks c ∧ k ∈ blkCounters b := by
  simp only [snapKeys, List.mem_flatMap, List.mem_filter, List.mem_range]
  constructor
  · rintro ⟨b, ⟨c, ⟨-, hm⟩, hb⟩, hk⟩
    exact ⟨c, b, mem_holdBlks hb, hm, hb, hk⟩
  · rintro ⟨c, b, hc, hm, hb, hk⟩
    exact ⟨b, ⟨c, ⟨by omega, hm⟩, hb⟩, hk⟩

/-- The holding registers after the capture of the blocks of a mask. -/
def State.holdingAfter (s : State) (mask : Nat) : Map Key Word :=
  (snapKeys mask).foldl (fun m k => mput keyAddr (fun _ => 0) m k (s.captured k)) s.holding

/-- The number and the time of a capture. -/
def State.stampSnap (s : State) (busy : Nat) : State :=
  let s := s.wr (.DV_SNAP_ID, []) (s.rd (.DV_SNAP_ID, []) + 1)
  let s := (s.set F.DV_SNAP_TAI_SL_SEC_LO s.tb.sec).set F.DV_SNAP_TAI_SH_SEC_HI (s.tb.sec / 2 ^ 32)
  (s.set F.DV_SNAP_TAI_NS_NS s.tb.ns).set F.DV_SNAP_STAT_BUSY busy

section
variable {s : State} {mask t0 : Nat}

theorem snapCaptureOp_early (h : s.dv.snapReq = some (mask, t0)) (ht : s.tick ≤ t0) : snapCaptureOp s = s := by
  unfold snapCaptureOp
  rw [h]
  exact if_pos ht

/-- The holding registers take the counters, and the page of the capture waits to be written out. -/
def State.capture (s : State) (mask : Nat) (page : List (Nat × List Byte)) : State :=
  { (s.updDv fun d => { d with snapReq := none, snapPage := page }) with holding := s.holdingAfter mask }

theorem only_capture (s : State) (mask : Nat) (page : List (Nat × List Byte)) : Only [.holding, .dv] (some []) s (s.capture mask page) :=
  ((only_updDv ..).widen (by decide)).holding 0 rfl

theorem snapCaptureOp_due (h : s.dv.snapReq = some (mask, t0)) (ht : t0 < s.tick) : ∃ page busy, snapCaptureOp s =
    (s.capture mask page).stampSnap busy := by
  unfold snapCaptureOp
  rw [h]
  exact ⟨_, _, if_neg (Nat.not_le.mpr ht)⟩

theorem only_stampSnap (s : State) (busy : Nat) :
    Only [] (some [.DV_SNAP_ID, .DV_SNAP_TAI_SL, .DV_SNAP_TAI_SH, .DV_SNAP_TAI_NS, .DV_SNAP_STAT]) s (s.stampSnap busy) := by
  have h1 := (only_wr .DV_SNAP_ID rfl : Only [] _ s (s.wr (.DV_SNAP_ID, []) (s.rd (.DV_SNAP_ID, []) + 1)))
  exact ((((h1.widen (by decide)).then (only_set .DV_SNAP_TAI_SL rfl) rfl).then (only_set .DV_SNAP_TAI_SH rfl) rfl).then
    (only_set .DV_SNAP_TAI_NS rfl) rfl).then (only_set .DV_SNAP_STAT rfl) rfl

theorem stampSnap_shows (s : State) (busy : Nat) : (s.stampSnap busy).rd (.DV_SNAP_ID, []) = s.rd (.DV_SNAP_ID, []) + 1 ∧
    (s.stampSnap busy).get F.DV_SNAP_TAI_SL_SEC_LO = s.tb.sec % 2 ^ 32 ∧ (s.stampSnap busy).get F.DV_SNAP_TAI_SH_SEC_HI = s.tb.sec / 2 ^ 32 % 2 ^ 16 ∧
    (s.stampSnap busy).get F.DV_SNAP_TAI_NS_NS = s.tb.ns % 2 ^ 32 := by
  unfold State.stampSnap
  simp [rd_set, get_set]

/-- SNAPSHOT_CAPTURE on the first tick after the request. -/
theorem snapshotCapture_captures (h : s.dv.snapReq = some (mask, t0)) (ht : t0 < s.tick) : Does .snapshotCapture s fun t =>
    (∀ c b k, c < 17 → nbit mask c = true → b ∈ holdBlks c → k ∈ blkCounters b → mget (fun _ => 0) t.holding k = s.captured k) ∧
    (∀ k, (∀ c b, c < 17 → nbit mask c = true → b ∈ holdBlks c → k ∉ blkCounters b) →
      mget (fun _ => 0) t.holding k = mget (fun _ => 0) s.holding k) ∧
    t.rd (.DV_SNAP_ID, []) = s.rd (.DV_SNAP_ID, []) + 1 ∧
    t.get F.DV_SNAP_TAI_SL_SEC_LO = s.tb.sec % 2 ^ 32 ∧ t.get F.DV_SNAP_TAI_SH_SEC_HI = s.tb.sec / 2 ^ 32 % 2 ^ 16 ∧
    t.get F.DV_SNAP_TAI_NS_NS = s.tb.ns % 2 ^ 32 ∧ t.dv.snapReq = none ∧
    Only [.out, .irqOwed, .msix, .holding, .dv] (some [.DV_SNAP_ID, .DV_SNAP_TAI_SL, .DV_SNAP_TAI_SH, .DV_SNAP_TAI_NS, .DV_SNAP_STAT]) s t := by
  obtain ⟨page, busy, he⟩ := snapCaptureOp_due h ht
  have hz := only_stampSnap (s.capture mask page) busy
  obtain ⟨hid, hsl, hsh, hns⟩ := stampSnap_shows (s.capture mask page) busy
  refine Does.of (f := snapCaptureOp) rfl ?_
  rw [he, holding_finish, rd_finish, get_finish, get_finish, get_finish, dv_finish, hid, hsl, hsh, hns]
  have hkept : ((s.capture mask page).stampSnap busy).holding = s.holdingAfter mask := hz.same .holding (by decide)
  have hdv : ((s.capture mask page).stampSnap busy).dv = (s.capture mask page).dv := hz.same .dv (by decide)
  rw [hkept, hdv]
  refine ⟨fun c b k hc hm hb hk => ?_, fun k hk => ?_, rfl, rfl, rfl, rfl, rfl, ?_⟩
  · exact mget_foldl_mput_of_mem _ _ _ _ (mem_snapKeys.mpr ⟨c, b, hc, hm, hb, hk⟩)
  · refine mget_foldl_mput_of_notMem _ _ _ _ fun hmem => ?_
    obtain ⟨c, b, hc, hm, hb, hin⟩ := mem_snapKeys.mp hmem
    exact hk c b hc hm hb hin
  · exact (((only_capture ..).widen (by decide)).then hz rfl).then (only_finish _) rfl

end

/-! ### The write-out (R61) -/

/-- The base of the capture page in local memory. -/
def State.snapBase (s : State) : Nat := s.get F.DV_SNAP_BASE_HI_ADDR * 2 ^ 32 + s.get F.DV_SNAP_BASE_LO_ADDR * 4096

/-- The parts of a page are written one after another. -/
def State.writePage (s : State) (base : Nat) (page : List (Nat × List Byte)) : State :=
  page.foldl (fun s p => s.memWrite false {} ((base + p.1) % memSize) p.2) s

/-- A byte that no part of the page takes stays. -/
theorem byte_writePage (s : State) (base : Nat) (page : List (Nat × List Byte)) (x : Nat)
    (h : ∀ p ∈ page, ¬ ((base + p.1) % memSize ≤ x ∧ x < (base + p.1) % memSize + p.2.length)) : (s.writePage base page).byte x = s.byte x := by
  unfold State.writePage
  induction page generalizing s with
  | nil => rfl
  | cons p page ih =>
    have hp := h p List.mem_cons_self
    rw [List.foldl_cons, ih _ fun q hq => h q (List.mem_cons_of_mem p hq), byte_memWrite, if_neg fun hin => hp ⟨hin.1, hin.2.1⟩]

theorem snapDoneOp_done {s : State} (hb : s.flag F.DV_SNAP_STAT_BUSY = true) (hr : s.dv.snapReq = none) :
    snapDoneOp s = ((s.writePage s.snapBase s.dv.snapPage).set F.DV_SNAP_STAT_BUSY 0).updDv fun d => { d with snapPage := [] } := by
  unfold snapDoneOp
  rw [hb, hr]
  rfl

/-- SNAPSHOT_WRITE_OUT_DONE leaves the page in local memory. -/
theorem snapshotWriteOutDone_writes {s : State} (hb : s.flag F.DV_SNAP_STAT_BUSY = true) (hr : s.dv.snapReq = none) :
    Does .snapshotWriteOutDone s fun t => t.get F.DV_SNAP_STAT_BUSY = 0 ∧ t.dv.snapPage = [] ∧
      ∀ x, t.byte x = (s.writePage s.snapBase s.dv.snapPage).byte x := by
  refine Does.of (f := snapDoneOp) rfl ?_
  rw [snapDoneOp_done hb hr, get_finish, dv_finish, get_updDv]
  refine ⟨(get_set_self _ _ _ (by exact (by decide : 0 < 32))).trans rfl, rfl, fun x => byte_congr ?_ x⟩
  rw [mem_finish, mem_updDv, mem_set]

/-- Settles O12: each of the three commands is one operation, whose parts are the registers of the snapshot, the holding registers and the
page in local memory. -/
theorem snapshots : Obligations.Snapshots := by
  unfold Obligations.Snapshots
  refine ⟨fun o v s hw => ⟨snapRequest_asks hw, snapRequest_refused hw⟩, fun s mask t0 h => ⟨fun ht => ?_, snapshotCapture_captures h⟩,
    fun s hb hr => ?_⟩
  · refine Does.of (f := snapCaptureOp) rfl ?_
    rw [snapCaptureOp_early h ht, dv_finish, holding_finish]
    exact ⟨rfl, rfl⟩
  · obtain ⟨t, hexec, hbusy, hpage, hbyte⟩ := snapshotWriteOutDone_writes hb hr
    refine ⟨t, hexec, hbusy, hpage, fun p hp x => ?_, fun x hx => (hbyte x).trans (byte_writePage _ _ _ _ hx)⟩
    rw [hbyte, hp, State.writePage, List.foldl_cons, List.foldl_nil]
    exact byte_memWrite ..

end Sys2Proof.Machine

/-! PROOF. The protected layer (O34): its owner, its commits, the end of their checks, and the verdicts of its scans (R244 to R255). -/

namespace Sys2Proof.Machine

/-! ### Writes that the owner rules or a mark refuse (R40, R47) -/

/-- A write of a fabric register by an origin that an owner rule is against: it is refused under R47, and logged. -/
theorem busWrite_turned_away {s : State} {o : Origin} {a : Nat} {v : Word} {k : Key} (hs : s.served = true) (hd : decodeAddr a = .reg k)
    (hm : emptyMask (.reg k) v 15 = false) (hr : s.rights o ((keyHdr k).headD 0) = 3) (ho : s.ownerRule o k v = .viol)
    (hsl : slowCode k = none) :
    (s.busWrite o a v).1 = (s.refuse (keyHdr k) .viol (orgOf o)).log 0 2 (orgOf o) a (maskBytes v 15).toNat 15 := by
  unfold State.busWrite
  rw [hd]
  have hf : s.slowFull (.reg k) = none := by simp [State.slowFull, hsl]
  simp [-List.headD_eq_head?_getD, hs, hm, hr, ho, hf, Target.hdr]

/-- A refusal under R47 raises REG_LOCK_VIOL. -/
theorem raised_refuse (s : State) (hdr : List Nat) (org : Org) : Raised 4 s (s.refuse hdr .viol org) :=
  (raised_raise 0 org (by decide)).of ((only_count .xx_REFUSED rfl).reg _ .FC_CNT rfl rfl) rfl

section
variable {s : State} {k : Key} {old cand : Word} {f : FieldDef} {r : Fields}

/-- A field that is written once takes what is asked of it while its mark is clear, and is marked. -/
theorem judgeField_unmarked (hf : f.acc = .w1) (hm : bits r.marks f.hi f.lo = 0) : s.judgeField k old cand true r f =
    { r.take f (bits cand f.hi f.lo) with marks := setBits r.marks f.hi f.lo (2 ^ (f.hi + 1 - f.lo) - 1) } := by
  unfold State.judgeField
  simp only [hf, hm, ne_eq, not_true, and_false, if_false]

/-- Once its mark is set, a write that would change it is refused. -/
theorem judgeField_marked (hf : f.acc = .w1) (hm : bits r.marks f.hi f.lo ≠ 0) : s.judgeField k old cand true r f =
    if bits cand f.hi f.lo = bits old f.hi f.lo then r else { r with judge := .viol } := by
  have hv : r.judge.with .viol = .viol := by cases r.judge <;> rfl
  unfold State.judgeField
  simp only [hf, hm, hv, ne_eq, not_false_iff, and_self, if_true]

/-- A write that would change one of a list of fields whose marks are set is refused, and takes nothing. -/
theorem foldl_judgeField_marked {l : List FieldDef} (hl : ∀ f ∈ l, f.acc = .w1 ∧ bits r.marks f.hi f.lo ≠ 0) :
    l.foldl (s.judgeField k old cand true) r =
      if ∀ f ∈ l, bits cand f.hi f.lo = bits old f.hi f.lo then r else { r with judge := .viol } := by
  induction l generalizing r with
  | nil => simp
  | cons f l ih =>
    obtain ⟨⟨hf, hm⟩, hl⟩ := List.forall_mem_cons.mp hl
    rw [List.foldl_cons, judgeField_marked hf hm]
    by_cases hc : bits cand f.hi f.lo = bits old f.hi f.lo
    · simp [hc, ih hl]
    · rw [if_neg hc, ih (r := { r with judge := .viol }) hl, ite_self, if_neg fun h => hc (h f List.mem_cons_self)]

/-- A list of fields that lie apart and whose marks are clear take what is asked of them, and no other bit changes. -/
theorem foldl_judgeField_unmarked {l : List FieldDef} (ha : fieldsApart l = true) (hl : ∀ f ∈ l, f.acc = .w1 ∧ bits r.marks f.hi f.lo = 0) :
    (l.foldl (s.judgeField k old cand true) r).judge = r.judge ∧
      (∀ f ∈ l, bits (l.foldl (s.judgeField k old cand true) r).word f.hi f.lo = bits cand f.hi f.lo) ∧
      ∀ g, (∀ f ∈ l, apart g f = true) → bits (l.foldl (s.judgeField k old cand true) r).word g.hi g.lo = bits r.word g.hi g.lo := by
  induction l generalizing r with
  | nil => exact ⟨rfl, nofun, fun _ _ => rfl⟩
  | cons f l ih =>
    simp only [fieldsApart, Bool.and_eq_true, decide_eq_true_eq, List.all_eq_true] at ha
    obtain ⟨⟨h32, hap⟩, ha⟩ := ha
    obtain ⟨⟨hf, hm⟩, hl⟩ := List.forall_mem_cons.mp hl
    have hset (w : Word) (c : Nat) {g : FieldDef} (hg : apart g f = true) : bits (setBits w f.hi f.lo c) g.hi g.lo = bits w g.hi g.lo :=
      bits_setBits_ne _ _ _ _ _ _ h32 (by simpa [apart] using hg)
    rw [List.foldl_cons, judgeField_unmarked hf hm]
    obtain ⟨hj, hin, hout⟩ := ih (r := { r.take f (bits cand f.hi f.lo) with marks := setBits r.marks f.hi f.lo (2 ^ (f.hi + 1 - f.lo) - 1) }) ha
      fun g hg => ⟨(hl g hg).1, (hset _ _ (hap g hg).2).trans (hl g hg).2⟩
    refine ⟨hj, List.forall_mem_cons.mpr ⟨?_, hin⟩, fun g hg => ?_⟩
    · rw [hout f fun g hg => (hap g hg).1]
      exact (bits_setBits_self _ _ _ _ h32).trans (Nat.mod_eq_of_lt (Nat.mod_lt _ (Nat.two_pow_pos _)))
    · obtain ⟨hgf, hgl⟩ := List.forall_mem_cons.mp hg
      exact (hout g hgl).trans (hset _ _ hgf)

end

/-! ### The owner (R244) -/

/-- CEk_PLh_OWNER. -/
abbrev ownerKey (k : Fin 8) (h : Fin 2) : Key := (.CE_PL_OWNER, [k.val, h.val])

section
variable {s : State} {o : Origin} {k : Fin 8} {h : Fin 2} {v : Word}

/-- The three fields of an owner register: they fill the bits below 25. -/
def ownerFields : List FieldDef := [fd 7 0 .w1 .once 0, fd 23 8 .w1 .once 0, fd 24 24 .w1 .once 0]

/-- Words that agree on the three fields agree on the bits below 25. -/
theorem bits_ownerFields {v w : Word} (h : ∀ f ∈ ownerFields, bits v f.hi f.lo = bits w f.hi f.lo) : bits v 24 0 = bits w 24 0 := by
  simp only [ownerFields, List.forall_mem_cons, fd] at h
  obtain ⟨h0, h1, h2, -⟩ := h
  unfold bits at *
  omega

theorem acc_ownerFields : ∀ f ∈ ownerFields, f.acc = .w1 := by decide

theorem marked_ownerFields : ∀ f ∈ ownerFields, bits (w32 0x1FFFFFF) f.hi f.lo ≠ 0 := by decide

theorem judgeFields_owner : s.judgeFields (ownerKey k h) v true =
    ownerFields.foldl (s.judgeField (ownerKey k h) (s.rd (ownerKey k h)) v true)
      ⟨s.rd (ownerKey k h), .ok, mget (fun _ => 0) s.w1 (ownerKey k h)⟩ := rfl

/-- An owner register that has not been written takes the word. -/
theorem judgeFields_owner_unmarked (hm : mget (fun _ => (0 : Word)) s.w1 (ownerKey k h) = 0) :
    (s.judgeFields (ownerKey k h) v true).judge = .ok ∧ bits (s.judgeFields (ownerKey k h) v true).word 24 0 = bits v 24 0 := by
  rw [judgeFields_owner, hm]
  obtain ⟨hj, hw, -⟩ := foldl_judgeField_unmarked (s := s) (k := ownerKey k h) (old := s.rd (ownerKey k h)) (cand := v)
    (r := ⟨s.rd (ownerKey k h), .ok, 0⟩) (l := ownerFields) (by decide) fun f hf => ⟨acc_ownerFields f hf, bits_zero ..⟩
  exact ⟨hj, bits_ownerFields hw⟩

/-- One that has been written takes nothing, and refuses another word. -/
theorem judgeFields_owner_marked (hm : mget (fun _ => (0 : Word)) s.w1 (ownerKey k h) = w32 0x1FFFFFF)
    (hv : bits v 24 0 ≠ bits (s.rd (ownerKey k h)) 24 0) :
    (s.judgeFields (ownerKey k h) v true).judge = .viol ∧ (s.judgeFields (ownerKey k h) v true).word = s.rd (ownerKey k h) := by
  rw [judgeFields_owner, hm, foldl_judgeField_marked fun f hf => ⟨acc_ownerFields f hf, marked_ownerFields f hf⟩,
    if_neg fun h => hv (bits_ownerFields h)]
  exact ⟨rfl, rfl⟩

/-- The block stores what the judgement leaves, and does nothing more. -/
theorem blockWrite_owner (org : Org) : ∃ y, Only [.w1] (some []) s y ∧ s.blockWrite org (ownerKey k h) v true =
    (y.store (ownerKey k h) (s.judgeFields (ownerKey k h) v true).word, (s.judgeFields (ownerKey k h) v true).judge) := by
  refine ⟨{ s with w1 := mput keyAddr (fun _ => 0) s.w1 (ownerKey k h) (s.judgeFields (ownerKey k h) v true).marks }, only_w1, ?_⟩
  have hc (y : State) (old new w : Word) : y.command org (ownerKey k h) old new w = (y, new, .ok) := rfl
  have ha (y : State) (old new w : Word) : y.after org (ownerKey k h) old new w = y := rfl
  have ht : taken (ownerKey k h).1 v = v := taken_of v (by exact nofun) (by exact nofun)
  rw [blockWrite_ok (by exact nofun) rfl]
  dsimp only
  rw [hc, ha, ht]
  cases (s.judgeFields (ownerKey k h) v true).judge <;> rfl

theorem ownerRule_owner : s.ownerRule o (ownerKey k h) v = if (orgOf o).cls = 1 then .ok else .viol := rfl

/-- What a refusal under R47 leaves of an owner register. -/
theorem refused_owner {y : State} (hy : ∀ j, y.rd j = s.rd j) (hdr : List Nat) (org : Org) :
    (y.refuse hdr .viol org).rd (ownerKey k h) = s.rd (ownerKey k h) ∧ Raised 4 s (y.refuse hdr .viol org) :=
  ⟨((only_refuse ..).reg _ .CE_PL_OWNER rfl rfl).trans (hy _), (raised_refuse y hdr org).of (hy _) rfl⟩

/-- The command ends with an entry of the log, which leaves every register. -/
theorem plOwnerWrite_does {P : State → Prop} {u : State} {f a b be : Nat}
    (he : s.keyWrite o (ownerKey k h) v = u.log 0 f (orgOf o) a b be) (hP : ∀ t, (∀ j, t.rd j = u.rd j) → P t) :
    Does (.plOwnerWrite o k h v) s P := by
  refine Does.of (f := fun s => s.keyWrite o (ownerKey k h) v) rfl (hP _ fun j => ?_)
  rw [rd_finish, he]
  exact (only_log ..).reg j _ rfl rfl

/-- What a write by function 0 comes to. -/
theorem keyWrite_owner (hs : s.served = true) (hr : s.rights o 14 = 3) (ho : (orgOf o).cls = 1) :
    s.keyWrite o (ownerKey k h) v =
      let r := s.blockWrite (orgOf o) (ownerKey k h) v true
      (r.1.refuse [14, k.val] r.2 (orgOf o)).log 0 (refusedFlag r.2) (orgOf o) (keyAddr (ownerKey k h)) (maskBytes v 15).toNat 15 :=
  busWrite_reg hs (addr_CE_PL_OWNER k h) rfl hr (by rw [ownerRule_owner, if_pos ho]; exact nofun) rfl

/-- Function 0 writes the owner of a layer that has none (R244). -/
theorem plOwnerWrite_stores (hs : s.served = true) (hr : s.rights o 14 = 3) (ho : (orgOf o).cls = 1)
    (hm : mget (fun _ => (0 : Word)) s.w1 (ownerKey k h) = 0) : Does (.plOwnerWrite o k h v) s fun t =>
      bits (t.rd (ownerKey k h)) 24 0 = bits v 24 0 ∧ ∀ j, j ≠ ownerKey k h → t.rd j = s.rd j := by
  obtain ⟨hj, hw⟩ := judgeFields_owner_unmarked (v := v) hm
  obtain ⟨y, hy, hb⟩ := blockWrite_owner (s := s) (k := k) (h := h) (v := v) (orgOf o)
  refine plOwnerWrite_does (keyWrite_owner hs hr ho) fun t ht => ?_
  rw [hb] at ht
  dsimp only at ht
  rw [hj, refuse_ok] at ht
  refine ⟨?_, fun j hne => (ht j).trans ((rd_store_ne hne).trans (hy.reg j _ rfl rfl))⟩
  rw [ht, rd_store (by exact nofun) (by exact nofun), hw]

/-- A second write that would change the owner is refused (R244). -/
theorem plOwnerWrite_refused (hs : s.served = true) (hr : s.rights o 14 = 3) (ho : (orgOf o).cls = 1)
    (hm : mget (fun _ => (0 : Word)) s.w1 (ownerKey k h) = w32 0x1FFFFFF) (hv : bits v 24 0 ≠ bits (s.rd (ownerKey k h)) 24 0) :
    Does (.plOwnerWrite o k h v) s fun t => t.rd (ownerKey k h) = s.rd (ownerKey k h) ∧ Raised 4 s t := by
  obtain ⟨hj, hw⟩ := judgeFields_owner_marked hm hv
  obtain ⟨y, hy, hb⟩ := blockWrite_owner (s := s) (k := k) (h := h) (v := v) (orgOf o)
  refine plOwnerWrite_does (keyWrite_owner hs hr ho) fun t ht => ?_
  have hyr (j : Key) : (y.store (ownerKey k h) (s.rd (ownerKey k h))).rd j = s.rd j := by
    by_cases hne : j = ownerKey k h
    · rw [hne, rd_store (by exact nofun) (by exact nofun)]
    · rw [rd_store_ne hne, hy.reg j _ rfl rfl]
  obtain ⟨hk, hraised⟩ := refused_owner (k := k) (h := h) hyr [14, k.val] (orgOf o)
  rw [hb] at ht
  dsimp only at ht
  rw [hj, hw] at ht
  exact ⟨(ht _).trans hk, hraised.of rfl (ht _)⟩

/-- No other origin writes it (R244). -/
theorem plOwnerWrite_turned_away (hs : s.served = true) (hr : s.rights o 14 = 3) (ho : (orgOf o).cls ≠ 1) :
    Does (.plOwnerWrite o k h v) s fun t => t.rd (ownerKey k h) = s.rd (ownerKey k h) ∧ Raised 4 s t := by
  refine plOwnerWrite_does (busWrite_turned_away hs (addr_CE_PL_OWNER k h) rfl hr (by rw [ownerRule_owner, if_neg ho]) rfl) fun t ht => ?_
  obtain ⟨hk, hraised⟩ := refused_owner (k := k) (h := h) (s := s) (fun _ => rfl) [14, k.val] (orgOf o)
  exact ⟨(ht _).trans hk, hraised.of rfl (ht _)⟩

end

/-! ### The owner's commit (R250) -/

/-- CEk_PLh_COMMIT. -/
abbrev layerCommitKey (k : Fin 8) (h : Fin 2) : Key := (.CE_PL_COMMIT, [k.val, h.val])

theorem layerHead_div (k : Fin 8) (h : Fin 2) : (2 * k.val + h.val) / 2 = k.val := by omega

theorem layerHead_mod (k : Fin 8) (h : Fin 2) : (2 * k.val + h.val) % 2 = h.val := by omega

theorem bit_beq_one (v : Word) (i : Nat) : (bits v i i == 1) = v.getLsbD i := by
  rw [BitVec.getLsbD, Nat.testBit_eq_decide_div_mod_eq, bits, show i + 1 - i = 1 by omega, pow_one]
  rfl

section
variable (s : State) (n st reason : Nat)

theorem plState_setPlState (h : st < 8) : (s.setPlState n st reason).get (F.CE_PL_CSTAT_STATE (n / 2) (n % 2)) = st := by
  rw [State.setPlState, get_set_ne _ _ _ _ (by exact (by decide : 7 < 32)) (Or.inr (Or.inl (by exact (by decide : 2 < 4)))),
    get_set_self _ _ _ (by exact (by decide : 2 < 32))]
  exact Nat.mod_eq_of_lt h

theorem plReason_setPlState (h : reason < 16) : (s.setPlState n st reason).get (F.CE_PL_CSTAT_REASON (n / 2) (n % 2)) = reason := by
  rw [State.setPlState, get_set_self _ _ _ (by exact (by decide : 7 < 32))]
  exact Nat.mod_eq_of_lt h

/-- The tag, and every other field of CSTAT above the reason, stays. -/
theorem plTag_setPlState : (s.setPlState n st reason).get (F.CE_PL_CSTAT_TAG (n / 2) (n % 2)) = s.get (F.CE_PL_CSTAT_TAG (n / 2) (n % 2)) := by
  rw [State.setPlState, get_set_ne _ _ _ _ (by exact (by decide : 7 < 32)) (Or.inr (Or.inr (by exact (by decide : 7 < 16)))),
    get_set_ne _ _ _ _ (by exact (by decide : 2 < 32)) (Or.inr (Or.inr (by exact (by decide : 2 < 16))))]

end

section
variable {s : State} {o : Origin} {k : Fin 8} {h : Fin 2} {v : Word}

/-- The commit that a write asks for, with the placement as it stands. -/
def State.layerCommit (s : State) (k : Fin 8) (h : Fin 2) (v : Word) (org : Org) : PlCommit :=
  { slot := bits v 0 0, en := v.getLsbD 1, tag := bits v 31 16, place := s.rd (.CE_PL_PLACE, [k.val, h.val]), org := org }

/-- An accepted commit is in CHECKING, judged. -/
theorem checking_plCommitWrite (org : Org) : ((s.plCommitWrite (2 * k.val + h.val) v org).pl (2 * k.val + h.val)).checking =
    some { s.layerCommit k h v org with reason := s.plJudge (2 * k.val + h.val) (s.layerCommit k h v org) } := by
  have hc : s.layerCommit k h v org =
      { slot := bits v 0 0, en := bits v 1 1 == 1, tag := bits v 31 16,
        place := s.rd (.CE_PL_PLACE, [(2 * k.val + h.val) / 2, (2 * k.val + h.val) % 2]), org := org } := by
    rw [layerHead_div, layerHead_mod, bit_beq_one]
    rfl
  rw [hc]
  exact congrArg PlSt.checking (pl_setPl ..)

/-- CSTAT shows it with its tag. -/
theorem shown_plCommitWrite (org : Org) :
    (s.plCommitWrite (2 * k.val + h.val) v org).get (F.CE_PL_CSTAT_STATE k.val h.val) = 1 ∧
    (s.plCommitWrite (2 * k.val + h.val) v org).get (F.CE_PL_CSTAT_REASON k.val h.val) = 0 ∧
    (s.plCommitWrite (2 * k.val + h.val) v org).get (F.CE_PL_CSTAT_TAG k.val h.val) = bits v 31 16 := by
  have hstate := plState_setPlState (n := 2 * k.val + h.val) (st := 1) (reason := 0)
  have hreason := plReason_setPlState (n := 2 * k.val + h.val) (st := 1) (reason := 0)
  have htag := plTag_setPlState (n := 2 * k.val + h.val) (st := 1) (reason := 0)
  unfold State.plCommitWrite
  rw [layerHead_div, layerHead_mod] at *
  refine ⟨hstate _ (by decide), hreason _ (by decide), (htag _).trans ?_⟩
  rw [get_set_self _ _ _ (by exact (by decide : 31 < 32))]
  exact Nat.mod_eq_of_lt (Nat.mod_lt _ (Nat.two_pow_pos _))

/-- The block stores nothing of the write: it begins the check, or refuses the commit while another is checked. -/
theorem blockWrite_layerCommit (org : Org) : ∃ m, s.blockWrite org (layerCommitKey k h) v true =
    if (s.pl (2 * k.val + h.val)).checking.isSome then ({ s with w1 := m }, .quiet)
    else (State.plCommitWrite { s with w1 := m } (2 * k.val + h.val) v org, .ok) := by
  refine ⟨mput keyAddr (fun _ => 0) s.w1 (layerCommitKey k h) (s.judgeFields (layerCommitKey k h) v true).marks, ?_⟩
  have hc (y : State) (old new w : Word) : y.command org (layerCommitKey k h) old new w =
      if (y.pl (2 * k.val + h.val)).checking.isSome then (y, old, .quiet) else (y.plCommitWrite (2 * k.val + h.val) w org, old, .ok) := rfl
  have ha (y : State) (old new w : Word) : y.after org (layerCommitKey k h) old new w = y := rfl
  have ht : taken (layerCommitKey k h).1 v = v := taken_of v (by exact nofun) (by exact nofun)
  have hj : (s.judgeFields (layerCommitKey k h) v true).judge = .ok := rfl
  have hstore {y : State} (hy : y.rd (layerCommitKey k h) = s.rd (layerCommitKey k h)) :
      y.store (layerCommitKey k h) (s.held (layerCommitKey k h)) = y := by
    rw [held_eq (by exact nofun) (by exact nofun), ← hy, ← held_eq (s := y) (by exact nofun) (by exact nofun)]
    exact store_same rfl
  rw [blockWrite_ok (by exact nofun) rfl]
  dsimp only
  rw [hc, ha, ht, hj]
  generalize mput keyAddr (fun _ => 0) s.w1 (layerCommitKey k h) (s.judgeFields (layerCommitKey k h) v true).marks = m
  by_cases hck : (s.pl (2 * k.val + h.val)).checking.isSome
  · have hck' : (State.pl { s with w1 := m } (2 * k.val + h.val)).checking.isSome := hck
    rw [if_pos hck, if_pos hck']
    exact congrArg (·, Judge.quiet) (hstore rfl)
  · have hck' : ¬ (State.pl { s with w1 := m } (2 * k.val + h.val)).checking.isSome := hck
    rw [if_neg hck, if_neg hck']
    exact congrArg (·, Judge.ok) (hstore ((only_plCommitWrite ..).reg _ .CE_PL_COMMIT rfl rfl))

theorem ownerRule_layerCommit : s.ownerRule o (layerCommitKey k h) v = if s.isOwner (2 * k.val + h.val) (orgOf o) then .ok else .viol := rfl

/-- A commit by another than the owner is refused (R244). -/
theorem plCommit_turned_away (hs : s.served = true) (hr : s.rights o 14 = 3) (ho : s.isOwner (2 * k.val + h.val) (orgOf o) = false) :
    Does (.plCommit o k h v) s fun t => t.pls = s.pls ∧ Raised 4 s t := by
  refine Does.of (f := fun s => s.keyWrite o (layerCommitKey k h) v) rfl ?_
  have he : s.keyWrite o (layerCommitKey k h) v = _ :=
    busWrite_turned_away hs (addr_CE_PL_COMMIT k h) rfl hr (by rw [ownerRule_layerCommit, ho]; rfl) rfl
  rw [he]
  refine ⟨?_, (raised_refuse s [14, k.val] (orgOf o)).of rfl ?_⟩
  · rw [pls_finish]
    exact ((only_log ..).same .pls (by decide)).trans ((only_refuse ..).same .pls (by decide))
  · rw [rd_finish]
    exact (only_log ..).reg _ .FC_CNT rfl rfl

/-- What the write of the owner comes to. -/
theorem keyWrite_layerCommit (hs : s.served = true) (hr : s.rights o 14 = 3) (ho : s.isOwner (2 * k.val + h.val) (orgOf o) = true) :
    s.keyWrite o (layerCommitKey k h) v =
      let r := s.blockWrite (orgOf o) (layerCommitKey k h) v true
      (r.1.refuse [14, k.val] r.2 (orgOf o)).log 0 (refusedFlag r.2) (orgOf o) (keyAddr (layerCommitKey k h)) (maskBytes v 15).toNat 15 :=
  busWrite_reg hs (addr_CE_PL_COMMIT k h) rfl hr (by rw [ownerRule_layerCommit, ho]; exact nofun) rfl

/-- A second commit is refused while the first is checked (R250). -/
theorem plCommit_refused (hs : s.served = true) (hr : s.rights o 14 = 3) (ho : s.isOwner (2 * k.val + h.val) (orgOf o) = true)
    (hc : (s.pl (2 * k.val + h.val)).checking ≠ none) : Does (.plCommit o k h v) s fun t => t.pls = s.pls ∧ Counted [14, k.val] s t := by
  refine Does.of (f := fun s => s.keyWrite o (layerCommitKey k h) v) rfl ?_
  obtain ⟨m, hb⟩ := blockWrite_layerCommit (s := s) (k := k) (h := h) (v := v) (orgOf o)
  rw [if_pos (Option.isSome_iff_ne_none.mpr hc)] at hb
  rw [keyWrite_layerCommit hs hr ho, hb]
  refine ⟨?_, ?_, fun j hj => ?_⟩
  · rw [pls_finish]
    exact (only_log ..).same .pls (by decide)
  · rw [get_finish, (only_log ..).field _ .xx_REFUSED rfl rfl]
    exact get_count_self _ _ _ (by exact (by decide : 15 < 32))
  · rw [rd_finish, (only_log ..).reg j _ rfl rfl]
    exact rd_wr_ne _ _ hj

/-- A commit of the owner enters CHECKING (R250). -/
theorem plCommit_checks (hs : s.served = true) (hr : s.rights o 14 = 3) (ho : s.isOwner (2 * k.val + h.val) (orgOf o) = true)
    (hc : (s.pl (2 * k.val + h.val)).checking = none) : Does (.plCommit o k h v) s fun t =>
      (t.pl (2 * k.val + h.val)).checking =
        some { s.layerCommit k h v (orgOf o) with reason := s.plJudge (2 * k.val + h.val) (s.layerCommit k h v (orgOf o)) } ∧
      t.get (F.CE_PL_CSTAT_STATE k.val h.val) = 1 ∧ t.get (F.CE_PL_CSTAT_REASON k.val h.val) = 0 ∧
      t.get (F.CE_PL_CSTAT_TAG k.val h.val) = bits v 31 16 := by
  refine Does.of (f := fun s => s.keyWrite o (layerCommitKey k h) v) rfl ?_
  obtain ⟨m, hb⟩ := blockWrite_layerCommit (s := s) (k := k) (h := h) (v := v) (orgOf o)
  rw [hc, if_neg (by simp)] at hb
  rw [keyWrite_layerCommit hs hr ho, hb]
  obtain ⟨hstate, hreason, htag⟩ := shown_plCommitWrite (s := { s with w1 := m }) (k := k) (h := h) (v := v) (orgOf o)
  simp only [get_finish]
  refine ⟨?_, ?_, ?_, ?_⟩
  · have hp : State.pls _ = State.pls _ := (only_log (State.plCommitWrite { s with w1 := m } (2 * k.val + h.val) v (orgOf o)) 0 0 (orgOf o)
      (keyAddr (layerCommitKey k h)) (maskBytes v 15).toNat 15).same .pls (by decide)
    rw [State.pl, pls_finish]
    exact (congrArg (fun p => (mget plD p _).checking) hp).trans (checking_plCommitWrite (s := { s with w1 := m }) (orgOf o))
  · exact ((only_log ..).field _ .CE_PL_CSTAT rfl rfl).trans hstate
  · exact ((only_log ..).field _ .CE_PL_CSTAT rfl rfl).trans hreason
  · exact ((only_log ..).field _ .CE_PL_CSTAT rfl rfl).trans htag

end

/-! ### The end of a check (R250, R252) -/

/-- An operation that leaves the protected layers leaves each of them. -/
theorem Only.pl {A : List Area} {R : Option (List Reg)} {s t : State} (h : Only A R s t) (hA : Area.pls ∉ A) (n : Nat) : t.pl n = s.pl n :=
  congrArg (mget plD · n) (h.same .pls hA)

/-- STATE and REASON of CSTAT, as numbers. -/
def State.plState (s : State) (n : Nat) : Nat := s.get (F.CE_PL_CSTAT_STATE (n / 2) (n % 2))
def State.plReason (s : State) (n : Nat) : Nat := s.get (F.CE_PL_CSTAT_REASON (n / 2) (n % 2))

/-- An operation that leaves CSTAT leaves its fields. -/
theorem Only.plState {A : List Area} {R : List Reg} {s t : State} (h : Only A (some R) s t) (hR : R.contains .CE_PL_CSTAT = false) (n : Nat) :
    t.plState n = s.plState n := h.field _ .CE_PL_CSTAT rfl hR

theorem Only.plReason {A : List Area} {R : List Reg} {s t : State} (h : Only A (some R) s t) (hR : R.contains .CE_PL_CSTAT = false) (n : Nat) :
    t.plReason n = s.plReason n := h.field _ .CE_PL_CSTAT rfl hR

section
variable {s : State} {n : Nat} {c : PlCommit}

/-- A commit of head n waits for the end of its check. -/
structure Checked (s : State) (n : Nat) (c : PlCommit) : Prop where
  up : s.blocksUp = true
  checking : (s.pl n).checking = some c
  verifying : (s.pl n).verifying = false

/-- Head n shows the slot that a commit names. -/
abbrev SameSlot (s : State) (n : Nat) (c : PlCommit) : Prop := (s.pl n).enabled = true ∧ s.plMode n ≠ 3 ∧ (s.pl n).sel = c.slot

theorem plCheckDone_idle (h : (s.pl n).checking = none ∨ s.blocksUp = false) : plCheckDone n s = s := by
  unfold plCheckDone
  rcases h with h | h
  · rw [h]
    exact ite_self _
  · rw [h]
    rfl

/-- A check that fails, or whose head is no longer in a state for it. -/
theorem plCheckDone_rejects (hc : Checked s n c) {r : Nat} (hr : (if 3 ≤ s.hst n then 5 else c.reason) = r) (h0 : r ≠ 0) :
    plCheckDone n s = ((s.updPl n fun p => { p with checking := none }).setPlState n 5 r).logPl n c 5 r := by
  unfold plCheckDone
  rw [if_neg (by simp [hc.up]), hc.checking]
  dsimp only
  rw [if_neg (by simp [hc.verifying]), hr, if_pos h0]

/-- A check that passes. -/
theorem plCheckDone_passes (hc : Checked s n c) (hr : c.reason = 0) (hh : s.hst n < 3) : plCheckDone n s =
    if s.hst n = 0 then ((s.acceptPl n c).updPl n fun p => { p with checking := none }).applyPl n c
    else if SameSlot (s.acceptPl n c) n c then (s.acceptPl n c).pendPl n c
    else (((s.acceptPl n c).updPl n fun p => { p with verifying := true }).setPlState n 2 0).askScan n ⟨c.slot, true⟩ := by
  unfold plCheckDone
  rw [if_neg (by simp [hc.up]), hc.checking]
  dsimp only
  rw [if_neg (by simp [hc.verifying]), if_neg (Nat.not_le.mpr hh), hr, if_neg (by decide)]
  rfl

theorem sameSlot_acceptPl : SameSlot (s.acceptPl n c) n c ↔ SameSlot s n c := by
  have hp : (s.acceptPl n c).pl n = { s.pl n with pending := none, windowOn := (s.pl n).windowOn || c.en } := pl_setPl ..
  unfold SameSlot
  rw [hp]
  rfl

/-- A commit that takes its place and selection (R252). -/
theorem pl_applyPl : ((s.applyPl n c).pl n).enabled = c.en ∧ ((s.applyPl n c).pl n).sel = c.slot ∧ ((s.applyPl n c).pl n).place = c.place ∧
    ((s.applyPl n c).pl n).pending = none ∧ ((s.applyPl n c).pl n).checking = (s.pl n).checking := by
  unfold State.applyPl
  extract_lets y z
  have hy : y.pl n = { s.pl n with enabled := c.en, sel := c.slot, place := c.place, pending := none } := pl_setPl ..
  have hz : z.pl n = y.pl n ∨ z.pl n = { y.pl n with fixed := none, verdict := none, lateRun := 0, shownOnce := false, windowOn := false } := by
    unfold z
    split
    · exact Or.inl rfl
    · exact Or.inr (pl_setPl ..)
  have hu : ∀ u : State, (u = z ∨ u = z.setPlState n 4 0) → (u.logPl n c 4 0).pl n = z.pl n := by
    rintro u (rfl | rfl)
    · exact (only_logPl ..).pl (by decide) n
    · exact (only_logPl ..).pl (by decide) n
  rw [hu _ (ite_eq_or_eq ..).symm]
  rcases hz with hz | hz <;> rw [hz, hy] <;> exact ⟨rfl, rfl, rfl, rfl, rfl⟩

theorem plState_applyPl (hl : c.latest = true) : (s.applyPl n c).plState n = 4 := by
  unfold State.applyPl
  dsimp only
  rw [if_pos hl]
  exact ((only_logPl ..).plState rfl n).trans (plState_setPlState _ _ _ _ (by decide))

/-- A scan that is asked for while none runs begins. -/
theorem pl_askScan (x : PlScan) : ∃ a b, (s.askScan n x).pl n = { s.pl n with scan := a, queued := b } ∧
    ((s.pl n).scan = none → a = some x) := by
  unfold State.askScan
  split
  · refine ⟨some x, (s.pl n).queued, ?_, fun _ => rfl⟩
    unfold State.beginScan
    exact ((only_pauseUnit ..).pl (by decide) n).trans (pl_setPl ..)
  · rename_i h
    exact ⟨(s.pl n).scan, some x, pl_setPl .., fun e => absurd (by rw [e]; rfl) h⟩

/-- A commit that becomes PENDING (R252). -/
theorem pl_pendPl : (s.pendPl n c).pl n =
    { s.pl n with checking := none, verifying := false, pending := some { c with target := s.targetFrame n } } := pl_setPl ..

theorem plState_pendPl : (s.pendPl n c).plState n = 3 := plState_setPlState _ _ _ _ (by decide)

theorem pl_acceptPl : (s.acceptPl n c).pl n = { s.pl n with pending := none, windowOn := (s.pl n).windowOn || c.en } := pl_setPl ..

/-- A check that fails ends in REJECTED with its reason. -/
theorem plCheckDone_rejected (hc : Checked s n c) {r : Nat} (hr : (if 3 ≤ s.hst n then 5 else c.reason) = r) (h0 : r ≠ 0) (h16 : r < 16) :
    (plCheckDone n s).plState n = 5 ∧ (plCheckDone n s).plReason n = r ∧ (plCheckDone n s).pl n = { s.pl n with checking := none } := by
  rw [plCheckDone_rejects hc hr h0]
  refine ⟨?_, ?_, ?_⟩
  · exact ((only_logPl ..).plState rfl n).trans (plState_setPlState _ _ _ _ (by decide))
  · exact ((only_logPl ..).plReason rfl n).trans (plReason_setPlState _ _ _ _ h16)
  · exact ((only_logPl ..).pl (by decide) n).trans (pl_setPl ..)

/-- On a stopped head a commit that passes is APPLIED at once. -/
theorem plCheckDone_applied (hc : Checked s n c) (hr : c.reason = 0) (hh : s.hst n = 0) :
    (c.latest = true → (plCheckDone n s).plState n = 4) ∧ ((plCheckDone n s).pl n).checking = none ∧ ((plCheckDone n s).pl n).pending = none ∧
    ((plCheckDone n s).pl n).enabled = c.en ∧ ((plCheckDone n s).pl n).sel = c.slot ∧ ((plCheckDone n s).pl n).place = c.place := by
  rw [plCheckDone_passes hc hr (by omega), if_pos hh]
  obtain ⟨hen, hsel, hplace, hpend, hcheck⟩ := pl_applyPl (s := (s.acceptPl n c).updPl n fun p => { p with checking := none }) (n := n) (c := c)
  exact ⟨plState_applyPl, hcheck.trans (congrArg PlSt.checking (pl_setPl ..)), hpend, hen, hsel, hplace⟩

/-- A commit of the slot that the head shows pends. -/
theorem plCheckDone_pends (hc : Checked s n c) (hr : c.reason = 0) (hh : s.hst n = 1 ∨ s.hst n = 2) (hs : SameSlot s n c) :
    (plCheckDone n s).plState n = 3 ∧ (plCheckDone n s).pl n = { s.pl n with
      checking := none, verifying := false, windowOn := (s.pl n).windowOn || c.en, pending := some { c with target := s.targetFrame n } } := by
  rw [plCheckDone_passes hc hr (by omega), if_neg (by omega), if_pos (sameSlot_acceptPl.mpr hs)]
  refine ⟨plState_pendPl, ?_⟩
  rw [pl_pendPl, pl_acceptPl]
  rfl

/-- A commit of another slot waits for the scan of the slot. -/
theorem plCheckDone_verifies (hc : Checked s n c) (hr : c.reason = 0) (hh : s.hst n = 1 ∨ s.hst n = 2) (hs : ¬ SameSlot s n c) :
    (plCheckDone n s).plState n = 2 ∧ ∃ a b, ((s.pl n).scan = none → a = some ⟨c.slot, true⟩) ∧ (plCheckDone n s).pl n = { s.pl n with
      pending := none, windowOn := (s.pl n).windowOn || c.en, verifying := true, scan := a, queued := b } := by
  rw [plCheckDone_passes hc hr (by omega), if_neg (by omega), if_neg (mt sameSlot_acceptPl.mp hs)]
  generalize hy : ((s.acceptPl n c).updPl n fun p => { p with verifying := true }) = y
  have hp : y.pl n = { (s.acceptPl n c).pl n with verifying := true } := hy ▸ pl_setPl ..
  obtain ⟨a, b, hab, ha⟩ := pl_askScan (s := y.setPlState n 2 0) (n := n) ⟨c.slot, true⟩
  have hq : (y.setPlState n 2 0).pl n = y.pl n := rfl
  rw [hq, hp, pl_acceptPl] at hab ha
  exact ⟨((only_askScan ..).plState rfl n).trans (plState_setPlState _ _ _ _ (by decide)), a, b, ha, hab⟩

end

/-! ### The end of a scan (R252, R253, R255) -/

/-- The target frame rests on four registers of the head, and on no state of a slot. -/
theorem targetFrame_of_slotState {s t : State} (h : Only [.pls] (some [.CE_PL_S_STAT]) s t) (n : Nat) : t.targetFrame n = s.targetFrame n := by
  have hrast : t.rd (.HD_RASTER, [n]) = s.rd (.HD_RASTER, [n]) := h.reg _ .HD_RASTER rfl rfl
  have hcl : t.rd (.HD_COMMIT_LEAD, [n]) = s.rd (.HD_COMMIT_LEAD, [n]) := h.reg _ .HD_COMMIT_LEAD rfl rfl
  have hphase : t.rd (.HD_PHASE, [n]) = s.rd (.HD_PHASE, [n]) := h.reg _ .HD_PHASE rfl rfl
  have hstat : t.rd (.HD_STAT, [n]) = s.rd (.HD_STAT, [n]) := h.reg _ .HD_STAT rfl rfl
  have heff : t.eff = s.eff := h.same .eff (by decide)
  have htb : t.tb = s.tb := h.same .tb (by decide)
  have hhead : t.head n = s.head n := head_of _ _ (h.same .heads (by decide)) n
  have htai : t.tai = s.tai := by simp only [State.tai, htb]
  have hraster : t.raster n = s.raster n := by simp only [State.raster, State.fmt, State.rate, State.get, hrast]
  have hdelay : ∀ r, t.delay n r = s.delay n r := fun r => by simp only [State.delay, State.get, hphase]
  have hlead : ∀ f, t.leadFor n f = s.leadFor n f := fun f => by simp only [State.leadFor, State.get, State.getE, State.rdE, heff, hhead, hcl]
  have hopen : ∀ f, t.deadlinePassed n f = s.deadlinePassed n f := fun f => by
    rw [State.deadlinePassed, State.deadlinePassed, State.deadlineAt, State.deadlineAt, hraster, hlead, State.now, State.now, htai]
    simp only [hdelay]
  have hpos : t.pos n = s.pos n := by simp only [State.pos, hraster, hdelay, htai]
  have hst : t.hst n = s.hst n := by simp only [State.hst, State.get, hstat]
  rw [State.targetFrame, State.targetFrame, firstOpen_congr hopen, hpos, hst, hhead]

section
variable {s : State} {n : Nat} {c : PlCommit} {sc : PlScan}

/-- What the end of a scan leaves first: an uncorrectable unit is raised, the verdict is recorded, and the scan is over. -/
def State.scanEnded (s : State) (n : Nat) (sc : PlScan) : State :=
  ((if s.slotBad n sc.slot then s.raise (0x14C + s.plUnit n) (s.plUnit n) else s).setVerdict n sc.slot (s.slotVerdict n sc.slot)).updPl n
    fun p => { p with scan := none }

/-- A scan of head n ends, and none waits for it. -/
structure Scanned (s : State) (n : Nat) (sc : PlScan) : Prop where
  up : s.blocksUp = true
  scan : (s.pl n).scan = some sc
  queued : (s.pl n).queued = none

theorem plScanDone_idle (h : (s.pl n).scan = none ∨ s.blocksUp = false) : plScanDone n s = s := by
  unfold plScanDone
  rcases h with h | h
  · rw [h]
    exact ite_self _
  · rw [h]
    rfl

theorem pl_scanEnded : (s.scanEnded n sc).pl n = { s.pl n with scan := none } := by
  have h : State.pl (if s.slotBad n sc.slot then s.raise (0x14C + s.plUnit n) (s.plUnit n) else s) n = s.pl n :=
    (Only.ite (only_raise ..) (Only.refl s)).pl (by decide) n
  exact (pl_setPl ..).trans (congrArg (fun p : PlSt => { p with scan := none }) h)

theorem slotVerdict_lt (i : Nat) : s.slotVerdict n i < 4 := by
  unfold State.slotVerdict
  dsimp only
  split
  · decide
  · split
    · split <;> decide
    · split <;> decide

/-- The verdict of the slot. -/
theorem verdict_scanEnded : (s.scanEnded n sc).get (F.CE_PL_S_STAT_VERDICT (n / 2) (n % 2) sc.slot) = s.slotVerdict n sc.slot := by
  have hv : s.slotVerdict n sc.slot < 2 ^ (2 + 1 - 0) := (slotVerdict_lt _).trans (by decide)
  unfold State.scanEnded State.setVerdict State.updPl
  rw [get_setPl, get_set_ne _ _ _ _ (by exact (by decide : 3 < 32)) (Or.inr (Or.inl (by exact (by decide : 2 < 3)))),
    get_set_self _ _ _ (by exact (by decide : 2 < 32))]
  exact Nat.mod_eq_of_lt hv

/-- What the verdict on its slot makes of a commit in VERIFYING (R252). -/
def State.commitJudged (s : State) (n : Nat) (c : PlCommit) (v : Nat) : State :=
  let s := s.updPl n fun p => { p with checking := none, verifying := false }
  if v = 3 then ((s.setPlState n 5 6).logPl n c 5 6).raise 0x140 n (plOrg n)
  else
    let s := if v = 2 then s.raise 0x141 n (plOrg n) else s
    if s.active n then s.pendPl n { c with verdict := some v } else s.setPlState n 7 8

/-- What the end of a scan leaves before an ordinary scan of the unit resumes: the scan of a frame keeps its verdict for the boundary. -/
def State.scanJudged (s : State) (n : Nat) (sc : PlScan) (c : PlCommit) : State :=
  if sc.forCommit then (s.scanEnded n sc).commitJudged n c (s.slotVerdict n sc.slot)
  else (s.scanEnded n sc).updPl n fun p => { p with verdict := some (s.slotVerdict n sc.slot) }

theorem plScanDone_eq (hs : Scanned s n sc) (hc : sc.forCommit = true → (s.pl n).checking = some c)
    (hq : ((s.scanJudged n sc c).pl n).queued = none) :
    ∃ u, plScanDone n s = (s.scanJudged n sc c).resumeUnit u := by
  unfold plScanDone
  rw [if_neg (by simp [hs.up]), hs.scan]
  dsimp -zeta only
  extract_lets v y1 y2 y3 y4 y5 z
  have hz : z = s.scanJudged n sc c := by
    unfold z State.scanJudged
    by_cases hf : sc.forCommit = true
    · have hcheck : (y3.pl n).checking = some c := (congrArg PlSt.checking pl_scanEnded).trans (hc hf)
      rw [if_pos hf, if_pos hf, hcheck]
      rfl
    · rw [if_neg hf, if_neg hf]
      rfl
  rw [hz, hq]
  exact ⟨_, rfl⟩

/-- The scan of a frame keeps its verdict for the boundary. -/
theorem plScanDone_frame (c : PlCommit) (hs : Scanned s n sc) (hf : sc.forCommit = false) :
    (plScanDone n s).get (F.CE_PL_S_STAT_VERDICT (n / 2) (n % 2) sc.slot) = s.slotVerdict n sc.slot ∧
      (plScanDone n s).pl n = { s.pl n with scan := none, verdict := some (s.slotVerdict n sc.slot) } := by
  have hz : s.scanJudged n sc c = (s.scanEnded n sc).updPl n fun p => { p with verdict := some (s.slotVerdict n sc.slot) } := by
    rw [State.scanJudged, hf]
    rfl
  have hp : (s.scanJudged n sc c).pl n = { s.pl n with scan := none, verdict := some (s.slotVerdict n sc.slot) } := by
    rw [hz, State.updPl, pl_setPl, pl_scanEnded]
  obtain ⟨u, he⟩ := plScanDone_eq (c := c) hs (fun h => by rw [hf] at h; cases h) (by rw [hp]; exact hs.queued)
  rw [he]
  refine ⟨((only_resumeUnit ..).field _ .CE_PL_S_STAT rfl rfl).trans ?_, ((only_resumeUnit ..).pl (by decide) n).trans hp⟩
  rw [hz, State.updPl, get_setPl]
  exact verdict_scanEnded

/-- The raise of an uncorrectable unit is all that the end of a scan counts. -/
theorem cnt_scanEnded (id : Nat) : (s.scanEnded n sc).rd (.FC_CNT, [id]) =
    State.rd (if s.slotBad n sc.slot then s.raise (0x14C + s.plUnit n) (s.plUnit n) else s) (.FC_CNT, [id]) := by
  rw [State.scanEnded, State.updPl, rd_setPl]
  exact (only_setVerdict ..).reg _ .FC_CNT rfl rfl

theorem plUnit_lt : s.plUnit n < 4 := get_lt ..

/-- PL_CONTENT is not counted by the raise for a check unit. -/
theorem cnt_scanEnded_content : (s.scanEnded n sc).rd (.FC_CNT, [0x140]) = s.rd (.FC_CNT, [0x140]) := by
  rw [cnt_scanEnded]
  split
  · exact rd_cnt_raise_ne _ _ (by omega)
  · rfl

/-- An uncorrectable unit in the slot is raised for the check unit (R255). -/
theorem raised_scanEnded (hb : s.slotBad n sc.slot = true) : Raised (0x14C + s.plUnit n) s (s.scanEnded n sc) := by
  have hclass : ∀ u, u < 4 → (srcClass (0x14C + u)).isSome = true := by decide
  refine (raised_raise (s.plUnit n) {} (hclass _ plUnit_lt)).of rfl ?_
  rw [cnt_scanEnded, if_pos hb]

/-- A bad slot rejects the commit in VERIFYING, and is raised (R252, R255). -/
theorem plScanDone_bad (hs : Scanned s n sc) (hf : sc.forCommit = true) (hc : (s.pl n).checking = some c) (hv : s.slotVerdict n sc.slot = 3) :
    (plScanDone n s).get (F.CE_PL_S_STAT_VERDICT (n / 2) (n % 2) sc.slot) = 3 ∧
      (plScanDone n s).plState n = 5 ∧ (plScanDone n s).plReason n = 6 ∧
      (plScanDone n s).pl n = { s.pl n with scan := none, checking := none, verifying := false } ∧ Raised 0x140 s (plScanDone n s) ∧
      (s.slotBad n sc.slot = true → Raised (0x14C + s.plUnit n) s (plScanDone n s)) := by
  obtain ⟨y, hy⟩ : ∃ y, (s.scanEnded n sc).updPl n (fun p => { p with checking := none, verifying := false }) = y := ⟨_, rfl⟩
  have hz : s.scanJudged n sc c = ((y.setPlState n 5 6).logPl n c 5 6).raise 0x140 n (plOrg n) := by
    rw [State.scanJudged, if_pos hf, State.commitJudged, hv, if_pos rfl, hy]
  have hyp : y.pl n = { s.pl n with scan := none, checking := none, verifying := false } := by
    rw [← hy, State.updPl, pl_setPl, pl_scanEnded]
  have hyr (k : Key) : y.rd k = (s.scanEnded n sc).rd k := by rw [← hy, State.updPl, rd_setPl]
  have hw : Only [.sl] (some [.CE_PL_CSTAT]) y ((y.setPlState n 5 6).logPl n c 5 6) := ((only_setPlState ..).widen rfl).then (only_logPl ..) rfl
  have hp : (s.scanJudged n sc c).pl n = { s.pl n with scan := none, checking := none, verifying := false } := by
    rw [hz, (only_raise ..).pl (by decide), hw.pl (by decide), hyp]
  obtain ⟨u, he⟩ := plScanDone_eq hs (fun _ => hc) (by rw [hp]; exact hs.queued)
  rw [he, hz]
  generalize hx : (y.setPlState n 5 6).logPl n c 5 6 = x at hw
  have ht : Only [.irqOwed, .heads, .cues, .evt, .fc, .sl] (some (.CK_STAT :: raiseRegs)) x ((x.raise 0x140 n (plOrg n)).resumeUnit u) :=
    ((only_raise ..).widen (by decide)).then (only_resumeUnit ..) (by decide)
  refine ⟨?_, ?_, ?_, ?_, ?_, fun hb => ?_⟩
  · rw [ht.field _ .CE_PL_S_STAT rfl rfl, hw.field _ .CE_PL_S_STAT rfl rfl, ← hv, ← verdict_scanEnded, ← hy, State.updPl, get_setPl]
  · rw [ht.plState rfl, ← hx]
    exact ((only_logPl ..).plState rfl n).trans (plState_setPlState _ _ _ _ (by decide))
  · rw [ht.plReason rfl, ← hx]
    exact ((only_logPl ..).plReason rfl n).trans (plReason_setPlState _ _ _ _ (by decide))
  · rw [ht.pl (by decide), hw.pl (by decide), hyp]
  · refine (raised_raise n (plOrg n) (by decide)).of ?_ ((only_resumeUnit ..).reg _ .FC_CNT rfl rfl)
    rw [hw.reg _ .FC_CNT rfl rfl, hyr, cnt_scanEnded_content]
  · refine (raised_scanEnded hb).of rfl ?_
    rw [(only_resumeUnit ..).reg _ .FC_CNT rfl rfl, rd_cnt_raise_ne _ _ (by omega), hw.reg _ .FC_CNT rfl rfl, hyr]

/-- A good slot lets the commit pend (R252). -/
theorem plScanDone_good (hs : Scanned s n sc) (hf : sc.forCommit = true) (hc : (s.pl n).checking = some c) (hv : s.slotVerdict n sc.slot = 1)
    (ha : s.active n = true) :
    (plScanDone n s).get (F.CE_PL_S_STAT_VERDICT (n / 2) (n % 2) sc.slot) = 1 ∧ (plScanDone n s).plState n = 3 ∧
      ((plScanDone n s).pl n).checking = none ∧ ((plScanDone n s).pl n).pending = some { c with target := s.targetFrame n, verdict := some 1 } := by
  have hb : s.slotBad n sc.slot ≠ true := fun h => by
    rw [State.slotVerdict, if_pos h] at hv
    cases hv
  obtain ⟨y, hy⟩ : ∃ y, (s.scanEnded n sc).updPl n (fun p => { p with checking := none, verifying := false }) = y := ⟨_, rfl⟩
  have hyo : Only [.pls] (some [.CE_PL_S_STAT]) s y := by
    rw [← hy, State.scanEnded, if_neg hb]
    exact (((only_setVerdict ..).widen (by decide)).then (only_updPl ..) rfl).then (only_updPl ..) rfl
  have hactive : y.active n = true := by
    have hst : y.hst n = s.hst n := hyo.field _ .HD_STAT rfl rfl
    rw [State.active, hst]
    exact ha
  have hz : s.scanJudged n sc c = y.pendPl n { c with verdict := some 1 } := by
    rw [State.scanJudged, if_pos hf, State.commitJudged, hv, hy]
    dsimp only
    rw [if_neg (show ¬ 1 = 3 by decide), if_neg (show ¬ 1 = 2 by decide), if_pos hactive]
  have hyp : y.pl n = { s.pl n with scan := none, checking := none, verifying := false } := by
    rw [← hy, State.updPl, pl_setPl, pl_scanEnded]
  have hp : (s.scanJudged n sc c).pl n = { s.pl n with
      scan := none, checking := none, verifying := false, pending := some { c with target := s.targetFrame n, verdict := some 1 } } := by
    rw [hz, pl_pendPl, hyp, targetFrame_of_slotState hyo]
  obtain ⟨u, he⟩ := plScanDone_eq hs (fun _ => hc) (by rw [hp]; exact hs.queued)
  rw [he, (only_resumeUnit ..).pl (by decide), hp]
  refine ⟨?_, ?_, rfl, rfl⟩
  · rw [hz, (only_resumeUnit ..).field _ .CE_PL_S_STAT rfl rfl, (only_pendPl ..).field _ .CE_PL_S_STAT rfl rfl, ← hv,
      ← verdict_scanEnded, ← hy, State.updPl, get_setPl]
  · rw [hz]
    exact ((only_resumeUnit ..).plState rfl n).trans plState_pendPl

end

/-! ### The commands -/

section
variable {s : State} {k : Fin 8} {h : Fin 2}

theorem plState_layerHead (t : State) : t.plState (2 * k.val + h.val) = t.get (F.CE_PL_CSTAT_STATE k.val h.val) := by
  rw [State.plState, layerHead_div, layerHead_mod]

theorem plReason_layerHead (t : State) : t.plReason (2 * k.val + h.val) = t.get (F.CE_PL_CSTAT_REASON k.val h.val) := by
  rw [State.plReason, layerHead_div, layerHead_mod]

theorem pl_finish (t : State) (n : Nat) : t.finish.pl n = t.pl n := (only_finish t).pl (by decide) n

theorem raised_finish {id : Nat} (t : State) : Raised id s t.finish ↔ Raised id s t := by
  rw [Raised, Raised, get_finish]

/-- The end of a check leaves what its operation leaves. -/
theorem plCheckDone_does {P : State → Prop} (hP : P (plCheckDone (2 * k.val + h.val) s).finish) : Does (.plCheckDone k h) s P := Does.of rfl hP

theorem plScanDone_does {P : State → Prop} (hP : P (plScanDone (2 * k.val + h.val) s).finish) : Does (.plScanDone k h) s P := Does.of rfl hP

end

/-- Settles O34: the owner register is three fields that are written once, CE_PL_COMMIT is a command that the owner rule guards, and the
end of a check and of a scan each go one way by the state of the head and the verdict. -/
theorem theProtectedLayer : Obligations.TheProtectedLayer := by
  unfold Obligations.TheProtectedLayer
  refine ⟨fun o k h v s => ?_, fun k h c sc s => ?_⟩
  · dsimp only
    intro hs hr
    exact ⟨plOwnerWrite_stores hs hr, plOwnerWrite_refused hs hr, plOwnerWrite_turned_away hs hr, plCommit_turned_away hs hr,
      plCommit_refused hs hr, plCommit_checks hs hr⟩
  dsimp only
  simp only [← plState_layerHead, ← plReason_layerHead]
  refine ⟨fun h0 => ?_, ?_, ?_, ?_, ?_, ?_, fun h0 => ?_, ?_, ?_, ?_⟩
  · refine plCheckDone_does ?_
    rw [plCheckDone_idle h0, pls_finish, regs_finish]
    exact ⟨rfl, rfl⟩
  · rintro ⟨hu, hc, hv⟩ h0 h16 hh
    obtain ⟨hst, hre, hp⟩ := plCheckDone_rejected ⟨hu, hc, hv⟩ (if_neg (Nat.not_le.mpr hh)) h0 h16
    refine plCheckDone_does ?_
    rw [pl_finish, hp]
    exact ⟨(get_finish ..).trans hst, (get_finish ..).trans hre, rfl, rfl, rfl⟩
  · rintro ⟨hu, hc, hv⟩ hh
    obtain ⟨hst, hre, hp⟩ := plCheckDone_rejected ⟨hu, hc, hv⟩ (if_pos hh) (by decide) (by decide)
    refine plCheckDone_does ?_
    rw [pl_finish, hp]
    exact ⟨(get_finish ..).trans hst, (get_finish ..).trans hre, rfl⟩
  · rintro ⟨hu, hc, hv⟩ hr hh
    obtain ⟨hst, hp⟩ := plCheckDone_applied ⟨hu, hc, hv⟩ hr hh
    refine plCheckDone_does ?_
    rw [pl_finish]
    exact ⟨fun hl => (get_finish ..).trans (hst hl), hp⟩
  · rintro ⟨hu, hc, hv⟩ hr hh hsame
    obtain ⟨hst, hp⟩ := plCheckDone_pends ⟨hu, hc, hv⟩ hr hh hsame
    refine plCheckDone_does ?_
    rw [pl_finish, hp]
    exact ⟨(get_finish ..).trans hst, rfl, rfl, rfl⟩
  · rintro ⟨hu, hc, hv⟩ hr hh hsame
    obtain ⟨hst, a, b, ha, hp⟩ := plCheckDone_verifies ⟨hu, hc, hv⟩ hr hh hsame
    refine plCheckDone_does ?_
    rw [pl_finish, hp]
    exact ⟨(get_finish ..).trans hst, rfl, rfl, rfl, ha⟩
  · refine plScanDone_does ?_
    rw [plScanDone_idle h0, pls_finish, regs_finish]
    exact ⟨rfl, rfl⟩
  · rintro ⟨hu, hc, hq, hf, -⟩
    obtain ⟨hv, hp⟩ := plScanDone_frame c ⟨hu, hc, hq⟩ hf
    rw [layerHead_div, layerHead_mod] at hv
    refine plScanDone_does ?_
    rw [pl_finish, hp]
    exact ⟨(get_finish ..).trans hv, rfl, rfl⟩
  · rintro ⟨hu, hc, hq, hf, -⟩ hcheck hbad
    obtain ⟨hv, hst, hre, hp, hcontent, hunit⟩ := plScanDone_bad ⟨hu, hc, hq⟩ hf hcheck hbad
    rw [layerHead_div, layerHead_mod] at hv
    refine plScanDone_does ?_
    rw [pl_finish, hp, raised_finish, raised_finish]
    exact ⟨(get_finish ..).trans hv, (get_finish ..).trans hst, (get_finish ..).trans hre, rfl, rfl, hcontent, hunit⟩
  · rintro ⟨hu, hc, hq, hf, -⟩ hcheck hgood hactive
    obtain ⟨hv, hst, hp⟩ := plScanDone_good ⟨hu, hc, hq⟩ hf hcheck hgood hactive
    rw [layerHead_div, layerHead_mod] at hv
    refine plScanDone_does ?_
    rw [pl_finish]
    exact ⟨(get_finish ..).trans hv, (get_finish ..).trans hst, hp⟩

end Sys2Proof.Machine

/-! PROOF. The writes of the slow domain and its copies (O11): a write waits, is refused or is held (R59, R60), arrives, and the copies are
taken (R58). -/

namespace Sys2Proof.Machine

/-! ### The fabric takes the write (R59, R60) -/

section
variable {s : State} {o : Origin} {a : Nat} {v : Word} {k : Key} {c : Nat}

/-- A write of one whole word of BAR0 is a write of its register. -/
theorem registerWrite_does {P : State → Prop} (ha : a < 2 ^ 26) (hP : P (s.busWrite o a v).1.finish) : Does (.registerWrite o a v 15 []) s P := by
  refine Does.of (f := fun s => s.wordWrites o a [(v, 15)]) rfl ?_
  have hw : s.wordWrites o a [(v, 15)] = (s.busWrite o a v).1 := if_pos ha
  rw [hw]
  exact hP

/-- A write of a slow block waits, and marks the copy of the block as older than it. -/
theorem registerWrite_waits (hd : decodeAddr a = .reg k) (ha : a < 2 ^ 26) (hc : slowCode k = some c) (hw : Reaches s o k v)
    (hm : emptyMask (.reg k) v 15 = false) (hq : (mget slowD s.slowQ c).length < 16) (hj : (s.slowJudge c k v).judge ≠ .viol)
    (hk : k.1 ≠ .xx_AGE) : Does (.registerWrite o a v 15 []) s fun t =>
      mget slowD t.slowQ c = mget slowD s.slowQ c ++ [(orgOf o, a, v.toNat)] ∧ t.rd k = s.rd k ∧ t.get ⟨(.xx_AGE, [c, 0]), 8, 8⟩ = 1 := by
  refine registerWrite_does ha ?_
  rw [busWrite_slow hw.served hd hm hw.rights hw.owner hc hq hj]
  refine ⟨?_, ?_, ?_⟩
  · rw [slowQ_finish]
    exact mget_nput_self ..
  · rw [rd_finish]
    exact rd_wr_ne _ _ fun e => hk (e ▸ rfl)
  · rw [get_finish, get_set_self _ _ _ (by exact (by decide : 8 < 32))]
    rfl

/-- A register of a slow block whose write the fabric refuses is none that a raise touches: those lie outside the slow blocks, or hold no
field that is judged. -/
theorem not_raiseRegs_of_refused (hc : slowCode k = some c) (hj : (s.slowJudge c k v).judge = .viol) : raiseRegs.contains k.1 = false := by
  obtain ⟨r, is⟩ := k
  by_contra h
  rw [Bool.not_eq_false, List.contains_iff_mem] at h
  simp only [raiseRegs, List.mem_cons, List.not_mem_nil, or_false] at h
  rcases h with rfl | rfl | rfl | rfl | rfl | rfl | rfl | rfl | rfl | rfl | rfl | rfl
  case inr.inr.inr.inr.inr.inr.inr.inr.inr.inr.inr =>
    cases hj
  all_goals cases hc

/-- A write of a slow block that the fabric refuses. -/
theorem busWrite_slow_refused (hs : s.served = true) (hd : decodeAddr a = .reg k) (hm : emptyMask (.reg k) v 15 = false)
    (hr : s.rights o ((keyHdr k).headD 0) = 3) (ho : s.ownerRule o k v ≠ .viol) (hc : slowCode k = some c)
    (hq : (mget slowD s.slowQ c).length < 16) (hj : (s.slowJudge c k v).judge = .viol) :
    (s.busWrite o a v).1 = (s.refuse (keyHdr k) .viol (orgOf o)).log 0 2 (orgOf o) a v.toNat := by
  unfold State.busWrite
  rw [hd]
  have hf : s.slowFull (.reg k) = none := by simp [State.slowFull, hc, Nat.not_le.mpr hq]
  simp [-List.headD_eq_head?_getD, hs, hm, hr, ho, hc, hf, Target.hdr, State.slowWrite, hj]

/-- A refusal under R47 is counted in the header of the block. -/
theorem get_refused_refuse (hdr : List Nat) (org : Org) : (s.refuse hdr .viol org).get ⟨(.xx_REFUSED, hdr), 15, 0⟩ =
    min (s.get ⟨(.xx_REFUSED, hdr), 15, 0⟩ + 1) 65535 :=
  ((only_raise ..).field _ .xx_REFUSED rfl rfl).trans (get_count_self _ _ _ (by exact (by decide : 15 < 32)))

/-- It is counted, and does not wait. -/
theorem registerWrite_refused (hd : decodeAddr a = .reg k) (ha : a < 2 ^ 26) (hc : slowCode k = some c) (hw : Reaches s o k v)
    (hm : emptyMask (.reg k) v 15 = false) (hq : (mget slowD s.slowQ c).length < 16) (hj : (s.slowJudge c k v).judge = .viol)
    (hk : k.1 ≠ .xx_REFUSED) : Does (.registerWrite o a v 15 []) s fun t => t.slowQ = s.slowQ ∧ t.rd k = s.rd k ∧
      t.get ⟨(.xx_REFUSED, keyHdr k), 15, 0⟩ = min (s.get ⟨(.xx_REFUSED, keyHdr k), 15, 0⟩ + 1) 65535 := by
  refine registerWrite_does ha ?_
  rw [busWrite_slow_refused hw.served hd hm hw.rights hw.owner hc hq hj]
  have ht : Only raiseAreas (some (.xx_REFUSED :: raiseRegs)) s ((s.refuse (keyHdr k) .viol (orgOf o)).log 0 2 (orgOf o) a v.toNat) :=
    ((only_refuse ..).widen (by decide)).then (only_log ..) (by decide)
  refine ⟨?_, ?_, ?_⟩
  · rw [slowQ_finish]
    exact ht.same .slowQ (by decide)
  · rw [rd_finish]
    exact ht.reg k _ rfl (by rw [List.contains_cons, not_raiseRegs_of_refused hc hj, Bool.or_false]; simpa using hk)
  · rw [get_finish, (only_log ..).field _ .xx_REFUSED rfl rfl]
    exact get_refused_refuse ..

/-- A write of a slow block whose queue is full is held. -/
theorem busWrite_slow_full (hs : s.served = true) (hd : decodeAddr a = .reg k) (hm : emptyMask (.reg k) v 15 = false)
    (hc : slowCode k = some c) (hq : 16 ≤ (mget slowD s.slowQ c).length) : (s.busWrite o a v).1 = s.holdWrite c o a v 15 := by
  unfold State.busWrite
  rw [hd]
  have hf : s.slowFull (.reg k) = some c := by simp [State.slowFull, hc, hq]
  simp [hs, hm, hf]

theorem registerWrite_held (hd : decodeAddr a = .reg k) (ha : a < 2 ^ 26) (hc : slowCode k = some c) (hw : Reaches s o k v)
    (hm : emptyMask (.reg k) v 15 = false) (hq : 16 ≤ (mget slowD s.slowQ c).length) : Does (.registerWrite o a v 15 []) s fun t =>
      t.slowQ = s.slowQ ∧ t.regs = s.regs ∧ mget slowHoldD t.slowHold c = mget slowHoldD s.slowHold c ++ [(o, a, v, 15)] := by
  refine registerWrite_does ha ?_
  rw [busWrite_slow_full hw.served hd hm hc hq, slowQ_finish, regs_finish, slowHold_finish]
  exact ⟨rfl, rfl, mget_nput_self ..⟩

end

/-! ### The write arrives (R59) -/

section
variable {s : State} {g : Org} {k : Key} {v : Word}

/-- A register with no rule of its own takes the word as it is, and nothing follows from it. -/
theorem command_plain (h : special.contains k.1 = false) (old new w : Word) : s.command g k old new w = (s, new, .ok) := by
  unfold State.command
  dsimp only
  split
  case h_40 => rfl
  all_goals
    rename_i hk
    rw [hk] at h
    exact absurd h (by decide)

theorem after_plain (h : special.contains k.1 = false) (old new w : Word) : s.after g k old new w = s := by
  unfold State.after
  dsimp only
  split
  case h_33 => rfl
  all_goals
    rename_i hk
    rw [hk] at h
    exact absurd h (by decide)

/-- The block's part of a write of such a register that nothing refuses. -/
theorem blockWrite_plain (h : special.contains k.1 = false) (hf : ∀ f ∈ (regDef k.1).fields, Free s k f) (hv : ∀ w, s.valueRule k w = .ok) :
    ∃ y, Only [.w1] (some []) s y ∧ s.blockWrite g k v false = (y.store k (s.judgeFields k v false).word, .ok) := by
  have hne {r : Reg} (hr : special.contains r = true) : k.1 ≠ r := by rintro rfl; rw [hr] at h; cases h
  have hj := judgeFields_free (v := v) (b := false) hf
  refine ⟨{ s with w1 := mput keyAddr (fun _ => 0) s.w1 k (s.judgeFields k v false).marks }, only_w1, ?_⟩
  rw [blockWrite_ok (hne rfl) (hv _), taken_of v (hne rfl) (hne rfl)]
  dsimp only
  rw [command_plain h, after_plain h, hj]
  rfl

/-- No field of a register that the settling of the mode touches can be written, but for the status words. -/
theorem noRw_modeRegs : ∀ r ∈ modeRegs, special.contains r = true ∨ ∀ f ∈ (regDef r).fields, f.acc ≠ .rw := by decide

/-- Where the fabric holds no write for a block, none enters its queue. -/
theorem enterHeld_none {c : Nat} (h : mget slowHoldD s.slowHold c = []) :
    s.enterHeld c = { s with slowHold := nput slowHoldD s.slowHold c [] } := by
  unfold State.enterHeld
  rw [h]
  rfl

theorem w32_toNat (v : Word) : w32 v.toNat = v := by rw [w32, BitVec.ofNat_toNat, BitVec.setWidth_eq]

variable {b : SlowBlk} {a : Nat} {rest : List (Org × Nat × Nat)}

/-- The oldest write of the queue reaches its block. -/
theorem slowArriveOp_eq (hq : mget slowD s.slowQ (slowBlkCode b) = (g, a, v.toNat) :: rest) (hheld : s.dv.heldWrites = false)
    (hrails : s.dv.railsOff = false) (hd : decodeAddr a = .reg k) : ∃ y, y = { s with slowQ := nput slowD s.slowQ (slowBlkCode b) rest } ∧
    slowArriveOp b s = (((y.blockWrite g k v false).1.refuse (keyHdr k) (y.blockWrite g k v false).2 g).log 0
      (refusedFlag (y.blockWrite g k v false).2) g a v.toNat).enterHeld (slowBlkCode b) := by
  refine ⟨_, rfl, ?_⟩
  unfold slowArriveOp
  dsimp only
  rw [hq]
  dsimp only
  rw [hheld, hrails, if_neg (by decide), hd, w32_toNat]

/-- A write of such a register is stored when it arrives, and leaves the queue. -/
theorem slowWriteArrive_stores (hq : mget slowD s.slowQ (slowBlkCode b) = (g, a, v.toNat) :: rest)
    (hhold : mget slowHoldD s.slowHold (slowBlkCode b) = []) (hheld : s.dv.heldWrites = false) (hrails : s.dv.railsOff = false)
    (hd : decodeAddr a = .reg k) (h : special.contains k.1 = false) (hu : Unlocked s k) (hw1 : ∀ f ∈ (regDef k.1).fields, f.acc ≠ .w1)
    (ha : fieldsApart (regDef k.1).fields = true) (hv : ∀ w, s.valueRule k w = .ok) : Does (.slowWriteArrive b) s fun t =>
      mget slowD t.slowQ (slowBlkCode b) = rest ∧
      ∀ f ∈ (regDef k.1).fields, f.acc = .rw → isMw (regDef k.1) = false → bits (t.rd k) f.hi f.lo = bits v f.hi f.lo := by
  have hne {r : Reg} (hr : special.contains r = true) : k.1 ≠ r := by rintro rfl; rw [hr] at h; cases h
  refine Does.of (f := fun s => (slowArriveOp b s).settleMode) rfl ?_
  obtain ⟨y, hy, he⟩ := slowArriveOp_eq hq hheld hrails hd
  have hfree : ∀ f ∈ (regDef k.1).fields, Free y k f := fun f hf => ⟨fun _ => hy ▸ hu.lock, fun _ => hy ▸ hu.stop, hw1 f hf⟩
  obtain ⟨z, hz, hb⟩ := blockWrite_plain (g := g) (v := v) h hfree fun w => hy ▸ hv w
  rw [he, hb]
  dsimp only
  rw [refuse_ok]
  generalize hx : ((z.store k (y.judgeFields k v false).word).log 0 (refusedFlag .ok) g a v.toNat) = x
  have hxz : Only [.eff, .waiting, .sl] none z x := hx ▸ ((only_store ..).widen (by decide)).then (only_log ..) rfl
  have hqx : x.slowQ = nput slowD s.slowQ (slowBlkCode b) rest :=
    (hxz.same .slowQ (by decide)).trans ((hz.same .slowQ (by decide)).trans (hy ▸ rfl))
  have hhx : x.slowHold = s.slowHold :=
    (hxz.same .slowHold (by decide)).trans ((hz.same .slowHold (by decide)).trans (hy ▸ rfl))
  have hrx : x.rd k = (y.judgeFields k v false).word := by
    rw [← hx, (only_log ..).reg k _ rfl rfl, rd_store (hne rfl) (hne rfl)]
  rw [enterHeld_none (by rw [hhx]; exact hhold)]
  refine ⟨?_, fun f hf hrw hmw => ?_⟩
  · have hm := (only_settleMode { x with slowHold := nput slowHoldD x.slowHold (slowBlkCode b) [] }).same .slowQ (by decide)
    rw [slowQ_finish, show State.slowQ _ = State.slowQ _ from hm, hqx]
    exact mget_nput_self ..
  · have hmode : modeRegs.contains k.1 = false := by
      by_contra hc
      rw [Bool.not_eq_false, List.contains_iff_mem] at hc
      rcases noRw_modeRegs _ hc with hsp | hno
      · rw [h] at hsp
        cases hsp
      · exact hno f hf hrw
    rw [rd_finish, (only_settleMode _).reg k _ rfl hmode]
    refine (congrArg (bits · f.hi f.lo) hrx).trans ?_
    rw [bits_judgeFields hfree ha hf (Or.inl hrw), asked_plain _ _ hmw]

end

/-! ### The copies of the slow domain (R58) -/

section Maps
variable {κ α : Type} [DecidableEq κ] (d : κ → α)

theorem mget_of_notMem {m : Map κ α} {k : κ} (h : k ∉ m.map (·.1)) : mget d m k = d k := by
  induction m with
  | nil => rfl
  | cons e m ih =>
    obtain ⟨hne, hm⟩ := not_or.mp (mt List.mem_cons.mpr h)
    exact (if_neg (Ne.symm hne)).trans (ih hm)

/-- A map without some keys lists none of them, and lists the others as it did. -/
theorem mget_filter (m : Map κ α) (p : κ → Bool) (k : κ) : mget d (m.filter fun e => p e.1) k = if p k then mget d m k else d k := by
  induction m with
  | nil => exact (ite_self _).symm
  | cons e m ih =>
    obtain ⟨j, w⟩ := e
    by_cases hjk : j = k
    · subst hjk
      by_cases hj : p j <;> simp [hj, mget, ih]
    · by_cases hj : p j <;> simp [hj, hjk, mget, ih]

/-- Entering the values of a map with no key twice. -/
theorem mget_foldl_entries [DecidableEq α] (rank : κ → Nat) (l m : Map κ α) (hl : (l.map (·.1)).Nodup) (k : κ) :
    mget d (l.foldl (fun (m : Map κ α) (e : κ × α) => mput rank d m e.1 e.2) m) k = if k ∈ l.map (·.1) then mget d l k else mget d m k := by
  induction l generalizing m with
  | nil => rfl
  | cons e l ih =>
    obtain ⟨hnot, hl⟩ := List.nodup_cons.mp hl
    rw [List.foldl_cons, ih _ hl]
    by_cases hk : k = e.1
    · subst hk
      rw [if_neg hnot, mget_mput_self, if_pos (show e.1 ∈ (e :: l).map (·.1) from List.mem_cons_self)]
      exact (if_pos rfl).symm
    · have hmem : k ∈ (e :: l).map (·.1) ↔ k ∈ l.map (·.1) := List.mem_cons.trans (or_iff_right hk)
      rw [mget_mput_ne _ _ _ _ hk, show mget d (e :: l) k = mget d l k from if_neg (Ne.symm hk)]
      simp only [hmem]

end Maps

section
variable {s : State} {b : SlowBlk} {k : Key}

/-- The copy of a block that its registers refresh. -/
def State.copyTaken (s : State) (c : Nat) : Map Key Word :=
  (s.regs.filter fun e => copied c e.1).foldl (fun (m : Map Key Word) (e : Key × Word) => mput keyAddr resetVal m e.1 e.2)
    (s.slowCopy.filter fun e => !copied c e.1)

/-- The copy shows what the registers hold. -/
theorem mget_copyTaken {c : Nat} (hn : (s.regs.map (·.1)).Nodup) (hk : copied c k = true) : mget resetVal (s.copyTaken c) k = s.rd k := by
  have hl : ((s.regs.filter fun e => copied c e.1).map (·.1)).Nodup := hn.sublist (List.filter_sublist.map _)
  have hnew : mget resetVal (s.regs.filter fun e => copied c e.1) k = s.rd k := (mget_filter ..).trans (if_pos hk)
  have hold : mget resetVal (s.slowCopy.filter fun e => !copied c e.1) k = resetVal k :=
    (mget_filter _ _ (fun k => !copied c k) k).trans (by simp [hk])
  rw [State.copyTaken, mget_foldl_entries _ _ _ _ hl]
  split
  · exact hnew
  · rename_i hnot
    rw [hold, ← hnew, mget_of_notMem _ hnot]

/-- The copy of a block is taken at a clock edge, and its age is 0. -/
theorem slowCopyRefresh_takes : Does (.slowCopyRefresh b true) s fun t => t.get ⟨(.xx_AGE, [slowBlkCode b, 0]), 7, 0⟩ = 0 ∧
    ((s.regs.map (·.1)).Nodup → ∀ k, copied (slowBlkCode b) k = true → k.1 ≠ .xx_LIVE → mget resetVal t.slowCopy k = s.rd k) := by
  refine Does.of (f := slowRefreshOp b true) rfl ⟨?_, fun hn k hk hlive => ?_⟩
  · rw [get_finish]
    refine (get_wr_self _ ⟨(.xx_AGE, [slowBlkCode b, 0]), 7, 0⟩ _).trans ?_
    split
    · exact bits_zero ..
    · exact (by decide : bits (w32 256) 7 0 = 0)
  · rw [slowCopy_finish]
    exact (mget_mput_ne _ _ _ _ fun e : k = (.xx_LIVE, [slowBlkCode b, 0]) => hlive (congrArg Prod.fst e)).trans (mget_copyTaken hn hk)

/-- A copy that is not refreshed grows older. -/
theorem slowCopyRefresh_ages : Does (.slowCopyRefresh b false) s fun t => t.get ⟨(.xx_AGE, [slowBlkCode b, 0]), 7, 0⟩ =
      min (s.get ⟨(.xx_AGE, [slowBlkCode b, 0]), 7, 0⟩ + 1) 255 ∧ t.slowCopy = s.slowCopy := by
  refine Does.of (f := slowRefreshOp b false) rfl ⟨?_, ?_⟩
  · rw [get_finish]
    exact get_count_self s ⟨(.xx_AGE, [slowBlkCode b, 0]), 7, 0⟩ 1 (by exact (by decide : 7 < 32))
  · rw [slowCopy_finish]
    rfl

end

/-- Settles O11: the fabric lets a write of a slow block wait, refuses it or holds it; the arrival is a write of the block as any other, and
the settling of the mode behind it touches no field that can be written; and the copy is a map of the registers. -/
theorem slowWritesWaitAndArrive : Obligations.SlowWritesWaitAndArrive := by
  unfold Obligations.SlowWritesWaitAndArrive
  refine ⟨fun o a v s k c hd ha hc hw hm => ⟨?_, ?_, ?_⟩, fun b s g a v rest k => ?_, fun b s => ?_⟩
  · exact registerWrite_waits hd ha hc hw hm
  · exact registerWrite_refused hd ha hc hw hm
  · exact registerWrite_held hd ha hc hw hm
  · intro hq hhold hheld hrails hd h hu hw1 _ ha hv
    exact slowWriteArrive_stores hq hhold hheld hrails hd h hu hw1 ha hv
  · exact ⟨slowCopyRefresh_takes, slowCopyRefresh_ages⟩

end Sys2Proof.Machine

/-! PROOF. Refutation of the statement on shutdown and power loss. SHUTDOWN_RAILS_OFF ends with the settling of the mode, which stops the
heads that still run in a shutdown that has become a forced one (R75). -/

namespace Sys2Proof.Machine

/-- The settling of the mode behind SHUTDOWN_RAILS_OFF stops head 0, which still ran in the forced shutdown. -/
theorem stops_head_railsOff_forced : (railsOffOp forcedWithHead).settleMode.finish.hst 0 = 0 := by decide +kernel

/-- Refutes O16: it says that SHUTDOWN_RAILS_OFF leaves every register where the rails stay on because a head runs. In a forced shutdown the
settling of the mode stops that head. -/
theorem not_shutdownAndPowerLoss : ¬ Obligations.ShutdownAndPowerLoss := by
  unfold Obligations.ShutdownAndPowerLoss
  rintro ⟨-, hrails, -⟩
  obtain ⟨-, hstays⟩ := hrails forcedWithHead
  obtain ⟨t, hexec, -, hregs⟩ := hstays (by decide) (by decide) (.inl (by decide))
  have hruns : forcedWithHead.hst 0 = 2 := by decide
  have hkept : t.hst 0 = forcedWithHead.hst 0 := by unfold State.hst State.get State.rd; rw [hregs]
  rw [← Host.Outcome.next.inj hexec, hruns] at hkept
  exact absurd (stops_head_railsOff_forced.symm.trans hkept) (by decide)

end Sys2Proof.Machine

/-! PROOF. The mailbox of a function (O19, O20): how a posted command is turned away or served (R92, R93, R95, R96), and how it ends. -/

namespace Sys2Proof.Machine

/-! ### Serving a request -/

/-- The result with which a command is turned away before it comes to its own judgement, if any (R92, R96). -/
def State.mbxAway (s : State) (f code : Nat) (free inMaint : Bool) (blk len : Option Nat) (words : List Word) : Option Nat :=
  if free || s.mbxKnown f code then s.mbxTurn f free inMaint blk len words else some (s.mbxUnknown f words)

/-- The mailbox m with the response of a command staged. -/
def Mbx.answered (m : Mbx) (r : Reply) : Mbx := { m with staged := some (r.code, r.words, r.applied) }

section
variable {s y : State} {f code : Nat} {free inMaint : Bool} {blk len : Option Nat} {words : List Word} {body : List Word → Reply}

theorem mb_finish (y : State) (f : Nat) : y.finish.mb f = y.mb f := congrArg (fun m => mget mbxD m f) (mbx_finish y)

theorem served_finish {m : Mbx} {r : Reply} : Served (y.setMb f (m.answered r)).finish f r.code r.words r.applied := by
  unfold Served
  rw [mb_finish, mb_setMb]
  rfl

/-- A posted command is turned away, or served. -/
theorem mbxServe_posted (hp : Posted s f code words) : s.mbxServe f code free inMaint blk len body =
    (s.mbxAway f code free inMaint blk len words).elim ((body words).st.setMb f ((s.mb f).answered (body words)))
      fun e => s.setMb f ((s.mb f).answered { st := s, code := e }) := by
  obtain ⟨hposted, hbusy, hfresh⟩ := hp
  unfold State.mbxServe
  extract_lets m
  split
  · rename_i hnone
    cases hposted.symm.trans hnone
  · rename_i c w hsome
    cases hposted.symm.trans hsome
    rw [if_neg (by simp [hbusy, m, hfresh])]
    cases ha : s.mbxAway f code free inMaint blk len words with
    | none =>
      unfold State.mbxAway at ha
      rw [ha]
      rfl
    | some e =>
      unfold State.mbxAway at ha
      rw [ha]
      rfl

/-- A command that is turned away leaves its result in the mailbox, and nothing else. -/
theorem Does.away {c : Instr} {e : Nat} {P : State → Prop} (he : exec c s = .next (s.mbxServe f code free inMaint blk len body).finish)
    (hp : Posted s f code words) (ha : s.mbxAway f code free inMaint blk len words = some e)
    (hP : P (s.setMb f ((s.mb f).answered { st := s, code := e })).finish) : Does c s P := by
  refine ⟨_, he, ?_⟩
  rw [mbxServe_posted hp, ha]
  exact hP

/-- A command that is served leaves the state that it makes, with its response in the mailbox. -/
theorem Does.served {c : Instr} {r : Reply} {P : State → Prop} (he : exec c s = .next (s.mbxServe f code free inMaint blk len body).finish)
    (hp : Posted s f code words) (ha : s.mbxAway f code free inMaint blk len words = none) (hr : body words = r)
    (hP : P (r.st.setMb f ((s.mb f).answered r)).finish) : Does c s P := by
  refine ⟨_, he, ?_⟩
  rw [mbxServe_posted hp, ha]
  subst hr
  exact hP

/-! ### Who is turned away -/

/-- A command that its session has is judged by session, service, right and length, in this order (R96). -/
theorem mbxAway_known (h : free = true ∨ s.mbxKnown f code = true) :
    s.mbxAway f code free inMaint blk len words = s.mbxTurn f free inMaint blk len words :=
  if_pos (Bool.or_eq_true_iff.mpr h)

/-- One that its session does not have is a BAD_COMMAND, unless session or services are missing (R92). -/
theorem mbxAway_unknown (hf : free = false) (h : s.mbxKnown f code = false) :
    s.mbxAway f code free inMaint blk len words = some (s.mbxUnknown f words) := if_neg (by simp [hf, h])

theorem mbxTurn_noSession (hf : free = false) (h : s.get (sessionFld f) = 0) : s.mbxTurn f free inMaint blk len words = some 3 :=
  if_pos ⟨by simp [hf], h⟩

theorem mbxTurn_session (h : free = true ∨ s.get (sessionFld f) ≠ 0) : s.mbxTurn f free inMaint blk len words =
    if !s.mbxServed inMaint then some 4
    else if blk.any fun b => s.rights (.pf ⟨f % 4, Nat.mod_lt _ (by decide)⟩) b != 3 then some 5
    else if len.any (· != words.length) then some 2
    else none := by
  refine if_neg ?_
  rintro ⟨hf, h0⟩
  rcases h with rfl | h
  · cases hf
  · exact h h0

theorem mbxTurn_noService (h : free = true ∨ s.get (sessionFld f) ≠ 0) (hs : s.mbxServed inMaint = false) :
    s.mbxTurn f free inMaint blk len words = some 4 := by
  rw [mbxTurn_session h, hs]
  rfl

/-- A command of a session that the services answer is turned away without the right, or with another length of payload (R95, R96). -/
theorem mbxTurn_serviced (h : free = true ∨ s.get (sessionFld f) ≠ 0) (hs : s.mbxServed inMaint = true) :
    s.mbxTurn f free inMaint blk len words =
      if blk.any fun b => s.rights (.pf ⟨f % 4, Nat.mod_lt _ (by decide)⟩) b != 3 then some 5
      else if len.any (· != words.length) then some 2
      else none := by
  rw [mbxTurn_session h, hs]
  rfl

theorem mbxUnknown_noSession (h : s.get (sessionFld f) = 0) : s.mbxUnknown f words = 3 := by
  unfold State.mbxUnknown
  rw [mbxTurn_noSession rfl h]
  rfl

theorem mbxUnknown_serviced (h : s.get (sessionFld f) ≠ 0) (hs : s.mbxServed true = true) : s.mbxUnknown f words = 1 := by
  unfold State.mbxUnknown
  rw [mbxTurn_serviced (.inr h) hs]
  rfl

theorem mbxServed_of_session (h : Session s f) : s.mbxServed inMaint = true := by
  unfold State.mbxServed
  rw [h.maint, h.ready]
  rfl

/-- The services do not answer in MAINTENANCE, or before they are ready, a command that is not marked for MAINTENANCE (R96). -/
theorem mbxServed_false (h : s.dv.maint = true ∨ s.get F.DV_SVC_READY_READY ≠ 15) : s.mbxServed false = false := by
  unfold State.mbxServed
  split
  · rfl
  · rename_i hm
    exact beq_eq_false_iff_ne.mpr (h.resolve_left hm)

end

end Sys2Proof.Machine

/-! PROOF. The path of a register write whose fields nothing refuses (R15), as one equation. -/

namespace Sys2Proof.Machine

/-- The state with other W1 marks. -/
def State.withMarks (s : State) (m : Map Key Word) : State := { s with w1 := m }

/-- The state with another audit log. -/
def State.withLog (s : State) (x : SlSt) : State := { s with sl := x }

@[simp] theorem regs_withMarks (s : State) (m : Map Key Word) : (s.withMarks m).regs = s.regs := (rfl)
@[simp] theorem mbx_withMarks (s : State) (m : Map Key Word) : (s.withMarks m).mbx = s.mbx := (rfl)

@[simp] theorem regs_withLog (s : State) (x : SlSt) : (s.withLog x).regs = s.regs := (rfl)
@[simp] theorem rd_withLog (s : State) (x : SlSt) (k : Key) : (s.withLog x).rd k = s.rd k := (rfl)
@[simp] theorem get_withLog (s : State) (x : SlSt) (f : Fld) : (s.withLog x).get f = s.get f := (rfl)
@[simp] theorem dv_withLog (s : State) (x : SlSt) : (s.withLog x).dv = s.dv := (rfl)
@[simp] theorem mbx_withLog (s : State) (x : SlSt) : (s.withLog x).mbx = s.mbx := (rfl)
@[simp] theorem heads_withLog (s : State) (x : SlSt) : (s.withLog x).heads = s.heads := (rfl)

/-- An entry of the audit log changes the log alone. -/
theorem log_eq (s : State) (kind flags : Nat) (org : Org) (a b be : Nat) : ∃ x, s.log kind flags org a b be = s.withLog x := by
  unfold State.log State.logEntry
  split
  · exact ⟨s.sl, rfl⟩
  · split
    · exact ⟨_, rfl⟩
    · exact ⟨_, rfl⟩

/-- A register none of whose fields is locked, stopped or written once is free to be written. -/
theorem free_fields (s : State) {k : Key}
    (h : ∀ f ∈ (regDef k.1).fields, f.app ≠ .lock ∧ f.app ≠ .stop ∧ f.acc ≠ .w1) : ∀ f ∈ (regDef k.1).fields, Free s k f := by
  intro f hf
  obtain ⟨hlock, hstop, honce⟩ := h f hf
  exact ⟨fun e => absurd e hlock, fun e => absurd e hstop, honce⟩

/-- What a block makes of the word that a write asks for: the command, the store, what follows from it, and the count of a refusal. -/
def State.takes (s : State) (org : Org) (k : Key) (old new v : Word) : State :=
  let c := s.command org k old new v
  ((c.1.store k c.2.1).after org k old c.2.1 v).refuse (keyHdr k) c.2.2 org

/-- A write of a register that reaches its block, and of whose fields nothing is refused: the W1 marks, what the block makes of it, and
the entry. -/
theorem keyWrite_takes {s : State} {o : Origin} {k : Key} {v : Word} (hw : Reaches s o k v) (hd : decodeAddr (keyAddr k) = .reg k)
    (hm : emptyMask (.reg k) v 15 = false) (hsl : slowCode k = none) (hx : k.1 ≠ .xx_STATUS) (ht : taken k.1 v = v)
    (hj : (s.judgeFields k v true).judge = .ok) (hv : s.valueRule k (s.judgeFields k v true).word = .ok) :
    ∃ m x, s.keyWrite o k v = ((s.withMarks m).takes (orgOf o) k (s.held k) (s.judgeFields k v true).word v).withLog x := by
  have hb : s.blockWrite (orgOf o) k v true =
      (let y := s.withMarks (mput keyAddr (fun _ => 0) s.w1 k (s.judgeFields k v true).marks)
       let c := y.command (orgOf o) k (s.held k) (s.judgeFields k v true).word v
       ((c.1.store k c.2.1).after (orgOf o) k (s.held k) c.2.1 v, c.2.2)) := by
    rw [blockWrite_ok hx (ht.symm ▸ hv), ht]
    dsimp only
    rw [hj, Judge.with_ok]
    rfl
  unfold State.keyWrite
  rw [busWrite_reg hw.served hd hm hw.rights hw.owner hsl, hb]
  exact ⟨_, log_eq ..⟩

end Sys2Proof.Machine

/-! PROOF. The mailbox sessions (O19): OPEN, CLOSE and GET_INFO, the commands that are turned away, and the end of a command (R91 to R96). -/

namespace Sys2Proof.Machine

/-! ### The session of a function (R91) -/

theorem sessionFld_hi (f : Nat) : (sessionFld f).hi < 32 := by
  unfold sessionFld
  split <;> decide

theorem sessionFld_width (f : Nat) : (sessionFld f).hi + 1 - (sessionFld f).lo = 16 := by
  unfold sessionFld
  split <;> rfl

/-- The registers that hold the sessions. -/
def sessionRegs : List Reg := [.DV_IFV_PLES01, .DV_IFV_PLES23]

theorem sessionFld_reg (f : Nat) : (sessionFld f).key.1 ∈ sessionRegs := by
  unfold sessionFld
  split <;> decide

theorem sessionFld_apart : ∀ f g : Fin 4, g ≠ f → (sessionFld g.val).key ≠ (sessionFld f.val).key ∨ (sessionFld g.val).hi < (sessionFld f.val).lo ∨
    (sessionFld f.val).hi < (sessionFld g.val).lo := by decide

section
variable {s y : State}

theorem session_set (y : State) (f : Nat) {v : Nat} (hv : v < 65536) : (y.set (sessionFld f) v).get (sessionFld f) = v := by
  rw [get_set_self _ _ _ (sessionFld_hi f), sessionFld_width]
  exact Nat.mod_eq_of_lt hv

theorem session_set_ne (y : State) {f g : Fin 4} (v : Nat) (h : g ≠ f) : (y.set (sessionFld f.val) v).get (sessionFld g.val) = y.get (sessionFld g.val) :=
  get_set_ne _ _ _ _ (sessionFld_hi f.val) (sessionFld_apart f g h)

theorem rd_setSession {f : Nat} {k : Key} (v : Nat) (h : sessionRegs.contains k.1 = false) : (y.set (sessionFld f) v).rd k = y.rd k := by
  refine rd_wr_ne _ _ fun e => ?_
  rw [e, List.contains_iff_mem.mpr (sessionFld_reg f)] at h
  cases h

/-- An operation that touches neither register of the sessions leaves them. -/
theorem Only.session {A : List Area} {R : List Reg} (h : Only A (some R) s y) (hR : ∀ r ∈ sessionRegs, R.contains r = false) (f : Nat) :
    y.get (sessionFld f) = s.get (sessionFld f) := h.field _ _ rfl (hR _ (sessionFld_reg f))

end

/-! ### OPEN, CLOSE and GET_INFO (R91, R96) -/

/-- The versions that the device supports stand from the highest down, and each has 16 bits. -/
theorem plesVersions_descends : plesVersions.Pairwise (· > ·) := by decide

theorem plesVersions_lt : ∀ v ∈ plesVersions, v < 65536 := by decide

/-- The first element of a descending list that meets a condition is its greatest one. -/
theorem find?_descending {l : List Nat} {p : Nat → Bool} {v : Nat} (hl : l.Pairwise (· > ·)) (hm : v ∈ l) (hp : p v = true)
    (hmax : ∀ u ∈ l, p u = true → u ≤ v) : l.find? p = some v := by
  obtain ⟨a, b, rfl⟩ := List.append_of_mem hm
  refine List.find?_eq_some_iff_append.mpr ⟨hp, a, b, rfl, fun u hu => ?_⟩
  have hlt : v < u := (List.pairwise_append.mp hl).2.2 u hu v List.mem_cons_self
  by_contra hpu
  exact absurd (hmax u (List.mem_append_left _ hu) (by simpa using hpu)) (Nat.not_le.mpr hlt)

section
variable {s : State} {f : Fin 4} {w : Word} {v : Nat}

/-- What OPEN makes of the version range that a host offers. -/
theorem openSession_served {r : Reply} {P : State → Prop} (hs : s.mbxServed true = true) (hp : Posted s f.val 1 [w])
    (hr : (match plesVersions.find? fun v => decide (bits w 15 0 ≤ v) && decide (v ≤ bits w 31 16) with
      | some v => applied (s.set (sessionFld f.val) v)
      | none => { st := (s.set (sessionFld f.val) 0).raise 0x014 0 (ifaceOrg 0 f.val), code := 6 }) = r)
    (hP : P (r.st.setMb f.val ((s.mb f.val).answered r)).finish) : Does (.openSession f) s P := by
  have ha : s.mbxAway f.val 0x0001 true true none (some 1) [w] = none := by
    rw [mbxAway_known (.inl rfl), mbxTurn_serviced (.inl rfl) hs]
    rfl
  exact Does.served rfl hp ha hr hP

theorem openSession_opens (hs : s.mbxServed true = true) (hp : Posted s f.val 1 [w]) (hv : v ∈ plesVersions) (hlo : bits w 15 0 ≤ v)
    (hhi : v ≤ bits w 31 16) (hmax : ∀ u ∈ plesVersions, bits w 15 0 ≤ u → u ≤ bits w 31 16 → u ≤ v) :
    Does (.openSession f) s fun t => t.get (sessionFld f.val) = v ∧ Served t f.val 0 [] true ∧
      ∀ g : Fin 4, g ≠ f → t.get (sessionFld g.val) = s.get (sessionFld g.val) := by
  have hfind : plesVersions.find? (fun v => decide (bits w 15 0 ≤ v) && decide (v ≤ bits w 31 16)) = some v :=
    find?_descending plesVersions_descends hv (by simp [hlo, hhi]) fun u hu hpu => by
      simp only [Bool.and_eq_true, decide_eq_true_eq] at hpu
      exact hmax u hu hpu.1 hpu.2
  refine openSession_served (r := applied (s.set (sessionFld f.val) v)) hs hp (by rw [hfind]) ⟨?_, served_finish, fun g hg => ?_⟩
  · rw [get_finish, get_setMb]
    exact session_set s f.val (plesVersions_lt v hv)
  · rw [get_finish, get_setMb]
    exact session_set_ne s v hg

theorem openSession_fails (hs : s.mbxServed true = true) (hp : Posted s f.val 1 [w])
    (hnone : ∀ v ∈ plesVersions, ¬ (bits w 15 0 ≤ v ∧ v ≤ bits w 31 16)) :
    Does (.openSession f) s fun t => t.get (sessionFld f.val) = 0 ∧ Served t f.val 6 [] false ∧ Raised 0x014 s t := by
  have hfind : plesVersions.find? (fun v => decide (bits w 15 0 ≤ v) && decide (v ≤ bits w 31 16)) = none :=
    List.find?_eq_none.mpr fun u hu => by simpa using hnone u hu
  refine openSession_served (r := ⟨(s.set (sessionFld f.val) 0).raise 0x014 0 (ifaceOrg 0 f.val), 6, [], false⟩) hs hp (by rw [hfind])
    ⟨?_, served_finish, ?_⟩
  · rw [get_finish, get_setMb, (only_raise ..).session (by decide), session_set _ _ (by decide)]
  · refine (raised_raise 0 (ifaceOrg 0 f.val) rfl).of (u := s.set (sessionFld f.val) 0) (rd_setSession _ rfl) ?_
    rw [rd_finish, rd_setMb]

theorem closeSession_closes (hs : s.mbxServed true = true) (ha : Asks s f.val 2 []) (h0 : s.get (sessionFld f.val) ≠ 0) :
    Does (.closeSession f) s fun t => t.get (sessionFld f.val) = 0 ∧ Served t f.val 0 [] true := by
  have hn : s.mbxAway f.val 0x0002 false true none (some 0) [] = none := by
    rw [mbxAway_known (.inr ha.known), mbxTurn_serviced (.inr h0) hs]
    rfl
  refine Does.served (r := applied (s.set (sessionFld f.val) 0)) rfl ha.toPosted hn rfl ⟨?_, served_finish⟩
  rw [get_finish, get_setMb]
  exact session_set s f.val (by decide)

theorem getInfo_answers (hs : s.mbxServed true = true) (hp : Posted s f.val 3 []) : Does (.getInfo f) s fun t =>
    t.regs = s.regs ∧ Served t f.val 0 (Config.mbxWords 3 [s.get F.DV_PART_PART, s.get F.DV_PART_STEPPING, s.dv.rom, s.get F.DV_BOOT_VER_VERSION,
      s.get F.CL_STAT_LAYOUT]) false := by
  have hn : s.mbxAway f.val 0x0003 true true none (some 0) [] = none := by
    rw [mbxAway_known (.inl rfl), mbxTurn_serviced (.inl rfl) hs]
    rfl
  exact Does.served rfl hp hn rfl ⟨by rw [regs_finish, regs_setMb], served_finish⟩

end

/-! ### The commands that are turned away (R92, R95, R96) -/

/-- A command was turned away with a result, and changed no register and nothing of the time base. -/
def TurnedAway (s : State) (f n : Nat) (t : State) : Prop := Served t f n [] false ∧ t.regs = s.regs ∧ t.tb = s.tb

section
variable {s : State} {f : Fin 4} {bw n : Nat} {words : List Word}

theorem turnedAway_finish {m : Mbx} : TurnedAway s f n (s.setMb f (m.answered { st := s, code := n })).finish :=
  ⟨served_finish, by rw [regs_finish, regs_setMb], by rw [tb_finish, tb_setMb]⟩

theorem timeServo_away (hp : Posted s f.val 0x104 words) (ha : s.mbxAway f.val 0x104 false false (some 5) none words = some n) :
    Does (.timeServo f bw) s (TurnedAway s f.val n) := Does.away rfl hp ha turnedAway_finish

/-- The function of a mailbox is the origin whose right is asked for (R95). -/
theorem rights_mailbox (s : State) (f : Fin 4) (b : Nat) : s.rights (.pf ⟨f.val % 4, Nat.mod_lt _ (by decide)⟩) b = s.rights (.pf f) b := by
  congr 2
  exact Fin.ext (Nat.mod_eq_of_lt f.isLt)

/-- A command of a ready session that needs a right, whatever its length. -/
theorem mbxTurn_right {len : Option Nat} (h : Session s f.val) {b : Nat} :
    s.mbxTurn f.val false false (some b) len words =
      if s.rights (.pf f) b ≠ 3 then some 5 else if len.any (· != words.length) then some 2 else none := by
  rw [mbxTurn_serviced (.inr h.session) (mbxServed_of_session h), Option.any_some, rights_mailbox]
  simp only [bne_iff_ne]

/-- A command that needs a right which its function has is served, whatever its payload. -/
theorem mbxAway_mayWrite {code b : Nat} (ha : Asks s f.val code words) (h : Session s f.val) (hw : MayWrite s f b) :
    s.mbxAway f.val code false false (some b) none words = none := by
  rw [mbxAway_known (.inr ha.known), mbxTurn_right h]
  exact if_neg (not_not.mpr hw)

/-- A command that needs no right is served where its payload has its length. -/
theorem mbxAway_session {code : Nat} {len : Option Nat} (ha : Asks s f.val code words) (h : Session s f.val)
    (hl : len.any (· != words.length) = false) : s.mbxAway f.val code false false none len words = none := by
  rw [mbxAway_known (.inr ha.known), mbxTurn_serviced (.inr h.session) (mbxServed_of_session h), hl]
  rfl

theorem timeServo_badArg (ha : Asks s f.val 0x104 words) (h : Session s f.val) (hw : MayWrite s f 5) (hb : bw = 0 ∨ 100 < bw) :
    Does (.timeServo f bw) s (TurnedAway s f.val 7) :=
  Does.served (r := badArg s) rfl ha.toPosted (mbxAway_mayWrite ha h hw) (if_neg (by omega)) turnedAway_finish

theorem timeServo_noSession (hp : Posted s f.val 0x104 words) (h0 : s.get (sessionFld f.val) = 0) :
    Does (.timeServo f bw) s (TurnedAway s f.val 3) := by
  refine timeServo_away hp ?_
  cases hk : s.mbxKnown f.val 0x104 with
  | true => rw [mbxAway_known (.inr hk), mbxTurn_noSession rfl h0]
  | false => rw [mbxAway_unknown rfl hk, mbxUnknown_noSession h0]

theorem timeServo_noService (ha : Asks s f.val 0x104 words) (h0 : s.get (sessionFld f.val) ≠ 0)
    (hs : s.dv.maint = true ∨ s.get F.DV_SVC_READY_READY ≠ 15) : Does (.timeServo f bw) s (TurnedAway s f.val 4) := by
  refine timeServo_away ha.toPosted ?_
  rw [mbxAway_known (.inr ha.known), mbxTurn_noService (.inr h0) (mbxServed_false hs)]

theorem timeServo_badCommand (hp : Posted s f.val 0x104 words) (h : Session s f.val) (hk : s.mbxKnown f.val 0x104 = false) :
    Does (.timeServo f bw) s (TurnedAway s f.val 1) := by
  refine timeServo_away hp ?_
  rw [mbxAway_unknown rfl hk, mbxUnknown_serviced h.session (mbxServed_of_session h)]

theorem timeServo_denied (ha : Asks s f.val 0x104 words) (h : Session s f.val) (hw : ¬ MayWrite s f 5) :
    Does (.timeServo f bw) s (TurnedAway s f.val 5) := by
  refine timeServo_away ha.toPosted ?_
  rw [mbxAway_known (.inr ha.known), mbxTurn_right h]
  exact if_pos hw

theorem timeStatus_badLength (ha : Asks s f.val 0x100 words) (h : Session s f.val) (hw : words ≠ []) :
    Does (.timeStatus f) s (TurnedAway s f.val 2) := by
  refine Does.away rfl ha.toPosted ?_ turnedAway_finish
  have hl : (0 != words.length) = true := bne_iff_ne.mpr fun e => hw (List.length_eq_zero_iff.mp e.symm)
  rw [mbxAway_known (.inr ha.known), mbxTurn_serviced (.inr h.session) (mbxServed_of_session h), Option.any_none, if_neg (by decide),
    Option.any_some, hl, if_pos rfl]

end

/-! ### The end of a command (R93) -/

/-- Response words from word k on, as a command writes them. -/
def State.writeRsp (s : State) (f k : Nat) (words : List Word) : State :=
  (words.zipIdx k).foldl (fun s x => s.wr (.DV_MBX_RSP, [f, x.2 + 1]) x.1) s

/-- The mailbox with its response, before the completion interrupt. -/
def State.mbxDone (s : State) (f code : Nat) (words : List Word) : State :=
  ((((s.wr (.DV_MBX_RSP, [f, 0]) (w32 (code + words.length % 256 * 65536))).writeRsp f 0 words).set (F.DV_MBX_RESULT_CODE f) code).set
    (F.DV_MBX_STAT_STATE f) 2).setMb f {}

section
variable {s : State} {f code : Nat} {words : List Word}

theorem only_writeRsp (s : State) (f k : Nat) (words : List Word) : Only [] (some [.DV_MBX_RSP]) s (s.writeRsp f k words) :=
  Only.foldl (Only.refl s) fun _ _ h => h.then (only_wr .DV_MBX_RSP rfl) rfl

theorem rd_writeRsp (s : State) (f k : Nat) (words : List Word) (i : Nat) : (s.writeRsp f k words).rd (.DV_MBX_RSP, [f, i]) =
    if k < i ∧ i ≤ k + words.length then words.getD (i - (k + 1)) 0 else s.rd (.DV_MBX_RSP, [f, i]) := by
  induction words generalizing s k with
  | nil => exact (if_neg (by simp only [List.length_nil]; omega)).symm
  | cons w words ih =>
    refine (ih (s.wr (.DV_MBX_RSP, [f, k + 1]) w) (k + 1)).trans ?_
    rw [List.length_cons]
    by_cases hi : i = k + 1
    · subst hi
      rw [if_neg (by omega), if_pos (by omega), rd_wr_self, Nat.sub_self]
      rfl
    · rw [rd_wr_ne _ _ (by simpa using hi)]
      by_cases h : k < i ∧ i ≤ k + (words.length + 1)
      · rw [if_pos h, if_pos (by omega), show i - (k + 1) = i - (k + 1 + 1) + 1 by omega]
        rfl
      · rw [if_neg h, if_neg (by omega)]

theorem mbxFinish_eq : s.mbxFinish f code words = if (s.mbxDone f code words).flag (F.DV_MBX_VEC_EN f) then
      (s.mbxDone f code words).interrupt f ((s.mbxDone f code words).get (F.DV_MBX_VEC_VECTOR f)) else s.mbxDone f code words := rfl

theorem only_mbxDone (s : State) (f code : Nat) (words : List Word) :
    Only [.mbx] (some [.DV_MBX_RESULT, .DV_MBX_RSP, .DV_MBX_STAT]) s (s.mbxDone f code words) :=
  ((((((only_wr .DV_MBX_RSP rfl).widen (by decide)).then (only_writeRsp ..) rfl).then (only_set .DV_MBX_RESULT rfl) rfl).then
    (only_set .DV_MBX_STAT rfl) rfl).then (only_setMb ..) rfl)

theorem only_mbxFinish_done (s : State) (f code : Nat) (words : List Word) :
    Only [.out, .msix] (some []) (s.mbxDone f code words) (s.mbxFinish f code words) :=
  mbxFinish_eq (s := s) (f := f) ▸ Only.ite (only_interrupt ..) (Only.refl _)

theorem state_mbxFinish : (s.mbxFinish f code words).get (F.DV_MBX_STAT_STATE f) = 2 := by
  rw [(only_mbxFinish_done ..).field _ .DV_MBX_STAT rfl rfl, State.mbxDone, get_setMb]
  exact get_set_self _ _ _ (by exact (by decide : 1 < 32))

theorem result_mbxFinish (h : code < 65536) : (s.mbxFinish f code words).get (F.DV_MBX_RESULT_CODE f) = code := by
  rw [(only_mbxFinish_done ..).field _ .DV_MBX_RESULT rfl rfl, State.mbxDone, get_setMb,
    (only_set .DV_MBX_STAT rfl).field _ .DV_MBX_RESULT rfl rfl]
  exact (get_set_self _ _ _ (by exact (by decide : 15 < 32))).trans (Nat.mod_eq_of_lt h)

theorem mb_mbxFinish : (s.mbxFinish f code words).mb f = {} := by
  have h : (s.mbxFinish f code words).mbx = (s.mbxDone f code words).mbx := (only_mbxFinish_done ..).same .mbx (by decide)
  exact (congrArg (fun m => mget mbxD m f) h).trans (mb_setMb ..)

/-- What a response register holds behind the end of a command. -/
theorem rsp_mbxFinish (i : Nat) : (s.mbxFinish f code words).rd (.DV_MBX_RSP, [f, i]) =
    ((s.wr (.DV_MBX_RSP, [f, 0]) (w32 (code + words.length % 256 * 65536))).writeRsp f 0 words).rd (.DV_MBX_RSP, [f, i]) := by
  rw [(only_mbxFinish_done ..).reg _ .DV_MBX_RSP rfl rfl, State.mbxDone, rd_setMb,
    (only_set .DV_MBX_STAT rfl).reg _ .DV_MBX_RSP rfl rfl, (only_set .DV_MBX_RESULT rfl).reg _ .DV_MBX_RSP rfl rfl]

theorem rsp_zero_mbxFinish : (s.mbxFinish f code words).rd (.DV_MBX_RSP, [f, 0]) = w32 (code + words.length % 256 * 65536) := by
  rw [rsp_mbxFinish, rd_writeRsp, if_neg (by omega), rd_wr_self]

theorem rsp_succ_mbxFinish {i : Nat} (h : i < words.length) : (s.mbxFinish f code words).rd (.DV_MBX_RSP, [f, i + 1]) = words.getD i 0 := by
  rw [rsp_mbxFinish, rd_writeRsp, if_pos (by omega), Nat.zero_add, Nat.add_sub_cancel]

end

/-! ### The completion interrupt (R32, R93) -/

section
variable {y : State} {f v : Nat}

/-- A vector that pends stays so behind another interrupt. -/
theorem pending_interrupt (g w : Nat) (h : (y.vec f v).pending = true) : ((y.interrupt g w).vec f v).pending = true := by
  unfold State.interrupt
  extract_lets x
  split
  · unfold State.setVec State.vec
    rw [mget_nput]
    split
    · rfl
    · exact h
  · exact h

/-- A vector that pends stays so behind the end of the command. -/
theorem pending_vec_finish (h : (y.vec f v).pending = true) : (y.finish.vec f v).pending = true := by
  have hl : ∀ (l : List (List Nat)) (z : State), (z.vec f v).pending = true →
      ((l.foldl (fun s b => s.interrupt (s.get ⟨(.xx_INT_VEC, b), 9, 8⟩) (s.get ⟨(.xx_INT_VEC, b), 7, 0⟩)) z).vec f v).pending = true := by
    intro l
    induction l with
    | nil => exact fun _ hz => hz
    | cons b l ih => exact fun z hz => ih _ (pending_interrupt _ _ hz)
  exact hl y.irqOwed y h

/-- An interrupt on a vector pends in the table while the vector is masked, and leaves the device else. -/
theorem interrupt_sends (f v : Nat) : if (y.vec f v).masked then ((y.interrupt f v).finish.vec f v).pending = true
    else y.out ++ [.irq f v (y.vec f v).addr (y.vec f v).data] <+: (y.interrupt f v).finish.out := by
  split
  · rename_i h
    refine pending_vec_finish ?_
    rw [vec_interrupt_masked h]
  · rename_i h
    have he : y.interrupt f v = y.emit (.irq f v (y.vec f v).addr (y.vec f v).data) := if_neg h
    rw [he]
    exact (only_finish (y.emit (.irq f v (y.vec f v).addr (y.vec f v).data))).follows.out

end

section
variable {s : State} {f : Fin 4} {code : Nat} {words : List Word} {did : Bool}

/-- A command that has been served, or does not exist, ends with its result. -/
theorem mailboxComplete_ends {e : Nat} {ws : List Word} {P : State → Prop} (he : mailboxCompleteOp f.val s = s.mbxFinish f.val e ws)
    (hP : P (s.mbxFinish f.val e ws).finish) : Does (.mailboxComplete f) s P := Does.of (f := fun s => mailboxCompleteOp f.val s) rfl (he ▸ hP)

theorem mailboxCompleteOp_staged (hb : s.get (F.DV_MBX_STAT_STATE f.val) = 1) (hs : (s.mb f.val).staged = some (code, words, did)) :
    mailboxCompleteOp f.val s = s.mbxFinish f.val code words := by
  unfold mailboxCompleteOp
  dsimp only
  rw [if_pos (.inl hb), hs]

theorem mailboxCompleteOp_unknown (hp : Posted s f.val code words) (hc : code ∉ mbxCodes) :
    mailboxCompleteOp f.val s = s.mbxFinish f.val (s.mbxUnknown f.val words) [] := by
  unfold mailboxCompleteOp
  dsimp only
  rw [if_pos (.inl hp.busy), hp.fresh, hp.posted]
  exact if_neg (by simpa using hc)

theorem mailboxCompleteOp_waits (hs : (s.mb f.val).staged = none) (hc : ∀ p, (s.mb f.val).posted = some p → p.1 ∈ mbxCodes) :
    mailboxCompleteOp f.val s = s := by
  unfold mailboxCompleteOp
  dsimp only
  rw [hs]
  split
  · cases hp : (s.mb f.val).posted with
    | none => rfl
    | some p => exact if_pos (List.contains_iff_mem.mpr (hc p hp))
  · rfl

theorem mailboxComplete_unknown (hp : Posted s f.val code words) (h : Session s f.val) (hc : code ∉ mbxCodes) :
    Does (.mailboxComplete f) s fun t => t.get (F.DV_MBX_STAT_STATE f.val) = 2 ∧ t.get (F.DV_MBX_RESULT_CODE f.val) = 1 ∧
      (t.mb f.val).posted = none := by
  refine mailboxComplete_ends (mailboxCompleteOp_unknown hp hc) ⟨?_, ?_, ?_⟩
  · rw [get_finish, state_mbxFinish]
  · rw [get_finish, mbxUnknown_serviced h.session (mbxServed_of_session h), result_mbxFinish (by decide)]
  · rw [mb_finish, mb_mbxFinish]

/-- The completion interrupt of a mailbox, where it is enabled. -/
def Interrupted (s : State) (f : Nat) (t : State) : Prop :=
  s.flag (F.DV_MBX_VEC_EN f) = true →
    let x := s.vec f (s.get (F.DV_MBX_VEC_VECTOR f))
    if x.masked then (t.vec f (s.get (F.DV_MBX_VEC_VECTOR f))).pending = true
    else s.out ++ [.irq f (s.get (F.DV_MBX_VEC_VECTOR f)) x.addr x.data] <+: t.out

theorem interrupted_mbxFinish (f : Nat) : Interrupted s f (s.mbxFinish f code words).finish := by
  intro hen
  have hd := only_mbxDone s f code words
  have hflag : (s.mbxDone f code words).flag (F.DV_MBX_VEC_EN f) = true := by
    unfold State.flag at hen ⊢
    rw [hd.field _ .DV_MBX_VEC rfl rfl, hen]
  have hvec (v : Nat) : (s.mbxDone f code words).vec f v = s.vec f v := congrArg (fun m => mget _ m (256 * f + v)) (hd.same .msix (by decide))
  have hout : (s.mbxDone f code words).out = s.out := hd.same .out (by decide)
  have hsend := interrupt_sends (y := s.mbxDone f code words) f (s.get (F.DV_MBX_VEC_VECTOR f))
  rw [hvec, hout] at hsend
  rw [mbxFinish_eq, if_pos hflag, hd.field _ .DV_MBX_VEC rfl rfl]
  exact hsend

theorem mailboxComplete_completes (hb : s.get (F.DV_MBX_STAT_STATE f.val) = 1) (hs : (s.mb f.val).staged = some (code, words, did))
    (hc : code < 65536) : Does (.mailboxComplete f) s fun t =>
      t.get (F.DV_MBX_STAT_STATE f.val) = 2 ∧ t.get (F.DV_MBX_RESULT_CODE f.val) = code ∧
      t.rd (.DV_MBX_RSP, [f.val, 0]) = w32 (code + words.length % 256 * 65536) ∧
      (∀ i, i < words.length → t.rd (.DV_MBX_RSP, [f.val, i + 1]) = words.getD i 0) ∧
      (t.mb f.val).posted = none ∧ Interrupted s f.val t := by
  refine mailboxComplete_ends (mailboxCompleteOp_staged hb hs) ⟨?_, ?_, ?_, fun i hi => ?_, ?_, interrupted_mbxFinish f.val⟩
  · rw [get_finish, state_mbxFinish]
  · rw [get_finish, result_mbxFinish hc]
  · rw [rd_finish, rsp_zero_mbxFinish]
  · rw [rd_finish, rsp_succ_mbxFinish hi]
  · rw [mb_finish, mb_mbxFinish]

theorem mailboxComplete_waits (hs : (s.mb f.val).staged = none) (hc : ∀ p, (s.mb f.val).posted = some p → p.1 ∈ mbxCodes) :
    Does (.mailboxComplete f) s fun t => t.regs = s.regs ∧ t.mbx = s.mbx := by
  refine Does.of (f := fun s => mailboxCompleteOp f.val s) rfl ?_
  rw [mailboxCompleteOp_waits hs hc]
  exact ⟨regs_finish s, mbx_finish s⟩

end

/-! ### CANCEL (R94) -/

section
variable {s : State} {o : Origin} {f : Fin 4}

/-- A write of the doorbell with bit 31 set is a CANCEL, and stores nothing. -/
theorem keyWrite_cancel (h : Reaches s o (.DV_MBX_DOORBELL, [f.val]) 0x80000000) :
    ∃ m x, s.keyWrite o (.DV_MBX_DOORBELL, [f.val]) 0x80000000 = ((s.withMarks m).mbxCancel f.val).withLog x := by
  obtain ⟨m, x, he⟩ := keyWrite_takes h (addr_DV_MBX_DOORBELL f) rfl rfl nofun (taken_of _ nofun nofun) rfl rfl
  refine ⟨m, x, he.trans (congrArg (State.withLog · x) ?_)⟩
  have hd : s.rd (.DV_MBX_DOORBELL, [f.val]) = ((s.withMarks m).mbxCancel f.val).held (.DV_MBX_DOORBELL, [f.val]) :=
    ((only_mbxCancel (s.withMarks m) f.val).reg _ .DV_MBX_DOORBELL rfl rfl).symm
  have hs : ((s.withMarks m).mbxCancel f.val).store (.DV_MBX_DOORBELL, [f.val]) (s.rd (.DV_MBX_DOORBELL, [f.val])) =
      (s.withMarks m).mbxCancel f.val := by
    rw [hd]
    exact store_same rfl
  exact hs

theorem mbxCancel_idle {y : State} {g : Nat} (h : y.get (F.DV_MBX_STAT_STATE g) ≠ 1) : y.mbxCancel g = y := if_pos h

theorem cancel_cancels (h : Reaches s o (.DV_MBX_DOORBELL, [f.val]) 0x80000000) (hb : s.get (F.DV_MBX_STAT_STATE f.val) = 1) :
    Does (.cancel o f) s fun t => t.get (F.DV_MBX_STAT_STATE f.val) = 3 ∧ t.get (F.DV_MBX_RESULT_CODE f.val) = 8 ∧
      t.rd (.DV_MBX_RSP, [f.val, 1]) = w32 (b2n (((s.mb f.val).staged.map (·.2.2)).getD false)) := by
  obtain ⟨m, x, he⟩ := keyWrite_cancel h
  have hc : (s.withMarks m).mbxCancel f.val = _ := if_neg (not_not.mpr hb)
  refine Does.of (f := fun s => s.keyWrite o (.DV_MBX_DOORBELL, [f.val]) 0x80000000) rfl ?_
  rw [he, hc]
  refine ⟨?_, ?_, ?_⟩
  · rw [get_finish, get_withLog, get_setMb]
    exact get_set_self _ _ _ (by exact (by decide : 1 < 32))
  · rw [get_finish, get_withLog, get_setMb, (only_set .DV_MBX_STAT rfl).field _ .DV_MBX_RESULT rfl rfl]
    exact get_set_self _ _ _ (by exact (by decide : 15 < 32))
  · rw [rd_finish, rd_withLog, rd_setMb, (only_set .DV_MBX_STAT rfl).reg _ .DV_MBX_RSP rfl rfl,
      (only_set .DV_MBX_RESULT rfl).reg _ .DV_MBX_RSP rfl rfl, rd_wr_self]
    rfl

theorem cancel_idle (h : Reaches s o (.DV_MBX_DOORBELL, [f.val]) 0x80000000) (hb : s.get (F.DV_MBX_STAT_STATE f.val) ≠ 1) :
    Does (.cancel o f) s fun t => t.regs = s.regs ∧ t.mbx = s.mbx := by
  obtain ⟨m, x, he⟩ := keyWrite_cancel h
  refine Does.of (f := fun s => s.keyWrite o (.DV_MBX_DOORBELL, [f.val]) 0x80000000) rfl ?_
  rw [he, mbxCancel_idle (y := s.withMarks m) hb]
  exact ⟨by rw [regs_finish, regs_withLog, regs_withMarks], by rw [mbx_finish, mbx_withLog, mbx_withMarks]⟩

end

/-- Settles O19: a posted command is turned away or served by `mbxServe`, whose judgement the lemmas above give case by case; its end and
its cancel write the mailbox. -/
theorem mailboxSessions : Obligations.MailboxSessions := by
  unfold Obligations.MailboxSessions
  refine ⟨fun f w s hs => ⟨?_, ?_, ?_, ?_⟩, fun f bw code words s => ⟨?_, ?_, ?_, ?_, ?_, ?_, ?_⟩, fun o f code words did s => ⟨?_, ?_, ?_, ?_⟩⟩
  · exact fun v => openSession_opens hs
  · exact openSession_fails hs
  · exact closeSession_closes hs
  · exact getInfo_answers hs
  · exact timeServo_noSession
  · exact timeServo_noService
  · exact timeServo_badCommand
  · exact timeServo_denied
  · exact timeServo_badArg
  · exact timeStatus_badLength
  · exact mailboxComplete_unknown
  · exact mailboxComplete_completes
  · exact fun _ => mailboxComplete_waits
  · exact cancel_cancels
  · exact cancel_idle

end Sys2Proof.Machine

/-! PROOF. The commands on boot images and those that read (O20; R81, R96, R97, R417, R444, R451). -/

namespace Sys2Proof.Machine

/-! ### Bytes and bits -/

theorem length_bytesLE (k n : Nat) : (bytesLE k n).length = k := by
  induction k generalizing n with
  | zero => rfl
  | succ k ih => exact congrArg (· + 1) (ih (n / 256))

theorem length_wordBytes (ws : List Word) : (ws.flatMap fun v => bytesLE 4 v.toNat).length = 4 * ws.length := by
  induction ws with
  | nil => rfl
  | cons w ws ih =>
    rw [List.flatMap_cons, List.length_append, ih, length_bytesLE, List.length_cons]
    omega

/-- The bytes of a slot from place k of a write on, written in turn. -/
theorem mget_foldl_slotBytes (d : Nat → Byte) (a k : Nat) (bs : List Byte) (m : Map Nat Byte) (x : Nat) :
    mget d ((bs.zipIdx k).foldl (fun m b => nput d m (a + b.2) b.1) m) x =
      if a + k ≤ x ∧ x < a + k + bs.length then bs.getD (x - (a + k)) 0 else mget d m x := by
  induction bs generalizing m k with
  | nil => exact (if_neg (by simp only [List.length_nil]; omega)).symm
  | cons b bs ih =>
    refine (ih (k + 1) (nput d m (a + k) b)).trans ?_
    rw [List.length_cons, mget_nput]
    by_cases hx : x = a + k
    · subst hx
      rw [if_neg (by omega), if_pos rfl, if_pos (by omega), Nat.sub_self]
      rfl
    · rw [if_neg hx]
      by_cases h : a + k ≤ x ∧ x < a + k + (bs.length + 1)
      · rw [if_pos h, if_pos (by omega), show x - (a + k) = x - (a + (k + 1)) + 1 by omega]
        rfl
      · rw [if_neg h, if_neg (by omega)]

/-- A byte of a slot after a write of bytes: the one written, or the one before. -/
theorem mget_slotBytes (m : Map Nat Byte) (a : Nat) (bs : List Byte) (x : Nat) : mget (fun _ => (0xFF : Byte)) (slotBytes m a bs) x =
    if a ≤ x ∧ x < a + bs.length then bs.getD (x - a) 0 else mget (fun _ => (0xFF : Byte)) m x :=
  mget_foldl_slotBytes (fun _ => 0xFF) a 0 bs m x

theorem ofBits_range_succ (p : Nat → Bool) (n : Nat) :
    ofBits ((List.range (n + 1)).map fun b => (b, p b)) = 2 ^ n * (p n).toNat + ofBits ((List.range n).map fun b => (b, p b)) := by
  unfold ofBits
  rw [List.range_succ, List.map_append, List.foldl_append]
  cases h : p n <;> simp [h, Nat.add_comm]

theorem ofBits_range_lt (p : Nat → Bool) (n : Nat) : ofBits ((List.range n).map fun b => (b, p b)) < 2 ^ n := by
  induction n with
  | zero => exact (by decide : 0 < 2 ^ 0)
  | succ n ih =>
    have hb : 2 ^ n * (p n).toNat ≤ 2 ^ n := (Nat.mul_le_mul_left _ (Bool.toNat_le _)).trans_eq (Nat.mul_one _)
    rw [ofBits_range_succ, Nat.pow_succ]
    omega

/-- Bits from 0 up, put together to a number, are its bits. -/
theorem testBit_ofBits_range (p : Nat → Bool) (n j : Nat) :
    (ofBits ((List.range n).map fun b => (b, p b))).testBit j = (decide (j < n) && p j) := by
  induction n with
  | zero => exact Nat.zero_testBit j
  | succ n ih =>
    rw [ofBits_range_succ, Nat.testBit_two_pow_mul_add _ (ofBits_range_lt p n), ih]
    rcases Nat.lt_trichotomy j n with h | rfl | h
    · simp [h, Nat.lt_succ_of_lt h]
    · cases p j <;> simp
    · have h1 : ¬ j < n := Nat.not_lt.mpr h.le
      have h2 : ¬ j < n + 1 := by omega
      have h3 : (p n).toNat.testBit (j - n) = false :=
        Nat.testBit_lt_two_pow (lt_of_le_of_lt (Bool.toNat_le _) (Nat.one_lt_two_pow (by omega)))
      simp [h1, h2, h3]

/-! ### Boot images (R81, R97) -/

section
variable {s : State} {f : Fin 4} {i a n : Word} {ws : List Word} {c : SlotCheck} {j : Nat}

/-- A command of a session that the boot ROM serves too is served where its payload has its length (R96). -/
theorem mbxAway_rom {code : Nat} {len : Option Nat} {words : List Word} (h0 : s.get (sessionFld f.val) ≠ 0) (hs : s.mbxServed true = true)
    (ha : Asks s f.val code words) (hl : len.any (· != words.length) = false) :
    s.mbxAway f.val code false true none len words = none := by
  rw [mbxAway_known (.inr ha.known), mbxTurn_serviced (.inr h0) hs, hl]
  rfl

theorem slot_finish (y : State) (k : Nat) : y.finish.slot k = y.slot k := congrArg (fun d : DvSt => mget bootSlotD d.slots k) (dv_finish y)

theorem slot_setMb (y : State) (g : Nat) (m : Mbx) (k : Nat) : (y.setMb g m).slot k = y.slot k := rfl

theorem slot_setSlot (y : State) (k : Nat) (x : Slot) : (y.setSlot k x).slot k = x := mget_nput_self ..

variable (h0 : s.get (sessionFld f.val) ≠ 0) (hs : s.mbxServed true = true)
include h0 hs

/-- IMG_BEGIN is judged by its slot, its length and the slot that runs. -/
theorem imgBegin_served {r : Reply} {P : State → Prop} (ha : Asks s f.val 0x500 [i, n])
    (hr : (if 1 < i.toNat ∨ slotSize < n.toNat then badArg s
      else if !s.dv.maint ∧ i.toNat = s.dv.running then { st := s, code := 5 }
      else applied ((s.setSlot i.toNat { length := n.toNat }).updDv fun d => { d with img := some i.toNat })) = r)
    (hP : P (r.st.setMb f.val ((s.mb f.val).answered r)).finish) : Does (.imgBegin f) s P :=
  Does.served rfl ha.toPosted (mbxAway_rom h0 hs ha rfl) hr hP

theorem imgBegin_opens (ha : Asks s f.val 0x500 [i, n]) (hi : i.toNat < 2) (hn : n.toNat ≤ slotSize)
    (hm : s.dv.maint = true ∨ i.toNat ≠ s.dv.running) :
    Does (.imgBegin f) s fun t => Served t f.val 0 [] true ∧ t.dv.img = some i.toNat ∧ t.slot i.toNat = { length := n.toNat } := by
  have hrun : ¬ ((!s.dv.maint) = true ∧ i.toNat = s.dv.running) := by
    rintro ⟨h1, h2⟩
    rcases hm with h | h
    · rw [h] at h1
      cases h1
    · exact h h2
  refine imgBegin_served h0 hs ha ((if_neg (by omega)).trans (if_neg hrun)) ⟨served_finish, ?_, ?_⟩
  · rw [dv_finish, dv_setMb]
    rfl
  · rw [slot_finish, slot_setMb]
    exact slot_setSlot ..

theorem imgBegin_badArg (ha : Asks s f.val 0x500 [i, n]) (h : 2 ≤ i.toNat ∨ slotSize < n.toNat) :
    Does (.imgBegin f) s fun t => Served t f.val 7 [] false ∧ t.dv = s.dv :=
  imgBegin_served h0 hs ha (if_pos (by omega)) ⟨served_finish, by rw [dv_finish, dv_setMb]; rfl⟩

theorem imgBegin_running (ha : Asks s f.val 0x500 [i, n]) (hi : i.toNat < 2) (hn : n.toNat ≤ slotSize) (hm : s.dv.maint = false)
    (hr : i.toNat = s.dv.running) : Does (.imgBegin f) s fun t => Served t f.val 5 [] false ∧ t.dv = s.dv :=
  imgBegin_served h0 hs ha ((if_neg (by omega)).trans (if_pos ⟨by rw [hm]; rfl, hr⟩)) ⟨served_finish, by rw [dv_finish, dv_setMb]⟩

theorem imgData_writes (ha : Asks s f.val 0x501 (a :: ws)) (hl : ws.length = 60) (hj : s.dv.img = some j) (hb : a.toNat + 240 ≤ slotSize) :
    Does (.imgData f) s fun t => Served t f.val 0 [] true ∧ ∀ x, mget (fun _ => (0xFF : Byte)) (t.slot j).data x =
      if a.toNat ≤ x ∧ x < a.toNat + 240 then (ws.flatMap fun v => bytesLE 4 v.toNat).getD (x - a.toNat) 0
      else mget (fun _ => (0xFF : Byte)) (s.slot j).data x := by
  have hn := mbxAway_rom (len := some 61) h0 hs ha (by rw [Option.any_some, List.length_cons, hl]; rfl)
  refine Does.served (r := applied (s.setSlot j { s.slot j with
    data := slotBytes (s.slot j).data a.toNat (ws.flatMap fun v => bytesLE 4 v.toNat) })) rfl ha.toPosted hn ?_ ⟨served_finish, fun x => ?_⟩
  · rw [hj]
    exact if_neg (Nat.not_lt.mpr hb)
  · have hlen : (ws.flatMap fun v => bytesLE 4 v.toNat).length = 240 := by rw [length_wordBytes, hl]
    rw [slot_finish, slot_setMb, applied, slot_setSlot, mget_slotBytes, hlen]

theorem imgEnd_closes (ha : Asks s f.val 0x502 []) (hj : s.dv.img = some j) : Does (.imgEnd f c) s fun t =>
    Served t f.val 0 [w32 (b2n (s.slotSound c && decide (s.attempts j < s.maxAtt)))] true ∧ t.dv.img = none ∧
      (t.slot j).present = c.present ∧ (t.slot j).version = c.version.toNat := by
  have hslot (y : State) (g : Nat) (m : Mbx) : (((s.setSlot j { s.slot j with present := c.present, version := c.version.toNat }).updDv fun d =>
      { d with img := none }).setMb g m).finish.slot j = { s.slot j with present := c.present, version := c.version.toNat } := by
    rw [slot_finish, slot_setMb]
    exact slot_setSlot ..
  refine Does.served (r := { st := (s.setSlot j { s.slot j with present := c.present, version := c.version.toNat }).updDv fun d =>
      { d with img := none }, words := [w32 (b2n (s.slotSound c && decide (s.attempts j < s.maxAtt)))], applied := true })
    rfl ha.toPosted (mbxAway_rom h0 hs ha rfl) (by rw [hj]) ⟨served_finish, ?_, ?_, ?_⟩
  · rw [dv_finish, dv_setMb]
    rfl
  · rw [hslot s]
  · rw [hslot s]

theorem imgEnd_badArg (ha : Asks s f.val 0x502 []) (hj : s.dv.img = none) :
    Does (.imgEnd f c) s fun t => Served t f.val 7 [] false ∧ t.dv = s.dv :=
  Does.served (r := badArg s) rfl ha.toPosted (mbxAway_rom h0 hs ha rfl) (by rw [hj]) ⟨served_finish, by rw [dv_finish, dv_setMb]; rfl⟩

end

/-! ### The commands that read (R417, R444, R451) -/

section
variable {s : State} {f : Fin 4} {page ofs len : Nat} {words : List Word}

theorem glStatus_answers (h : Session s f.val) (ha : Asks s f.val 0x400 []) : Does (.glStatus f) s fun t => t.regs = s.regs ∧ t.gl = s.gl ∧
    Served t f.val 0 (Config.mbxWords 0x400 [s.glRole, s.get F.GL_STATE_VER, s.get F.GL_STATE_LEADER, s.get F.GL_MEMBERS_COUNT,
      s.get F.GL_CID_CID, s.get F.GL_CSTAT_OUTCOME]) false :=
  Does.served rfl ha.toPosted (mbxAway_session ha h rfl) rfl ⟨by rw [regs_finish, regs_setMb], by rw [gl_finish, gl_setMb], served_finish⟩

/-- The words of a page of the roster. -/
def State.rosterPage (s : State) (page : Nat) : List Word :=
  (List.range 8).map fun i => w32 (ofBits ((List.range 32).map fun b => (b, s.gl.roster.contains (256 * page + 32 * i + b))))

theorem getLsbD_rosterPage {i b : Nat} (hi : i < 8) (hb : b < 32) :
    ((s.rosterPage page).getD i 0).getLsbD b = s.gl.roster.contains (256 * page + 32 * i + b) := by
  have hi' : i < (s.rosterPage page).length := by simpa [State.rosterPage] using hi
  rw [List.getD_eq_getElem _ _ hi']
  simp only [State.rosterPage, List.getElem_map, List.getElem_range, w32, BitVec.getLsbD_ofNat,
    testBit_ofBits_range fun b => s.gl.roster.contains (256 * page + 32 * i + b)]
  simp [hb]

theorem glRoster_answers (h : Session s f.val) (ha : Asks s f.val 0x402 words) (hp : page ≤ 15) : Does (.glRoster f page) s fun t =>
    t.regs = s.regs ∧ t.gl = s.gl ∧ ∃ ws : List Word, Served t f.val 0 ws false ∧ ws.length = 8 ∧
      ∀ i b, i < 8 → b < 32 → (ws.getD i 0).getLsbD b = s.gl.roster.contains (256 * page + 32 * i + b) := by
  refine Does.served (r := { st := s, words := s.rosterPage page }) rfl ha.toPosted (mbxAway_session ha h rfl) (if_neg (by omega))
    ⟨by rw [regs_finish, regs_setMb], by rw [gl_finish, gl_setMb], s.rosterPage page, served_finish, ?_, fun i b => getLsbD_rosterPage⟩
  rw [State.rosterPage, List.length_map, List.length_range]

theorem glRoster_badArg (h : Session s f.val) (ha : Asks s f.val 0x402 words) (hp : 15 < page) :
    Does (.glRoster f page) s fun t => Served t f.val 7 [] false ∧ t.regs = s.regs :=
  Does.served (r := badArg s) rfl ha.toPosted (mbxAway_session ha h rfl) (if_pos hp) ⟨served_finish, by rw [regs_finish, regs_setMb]; rfl⟩

/-- The words of the Cellar from an offset on. -/
def State.cellarWords (s : State) (ofs len : Nat) : List Word :=
  (List.range (len / 4)).map fun i => w32 (ofBytesLE ((List.range 4).map fun b => s.cellarAt (ofs + 4 * i + b)))

theorem clRead_answers (h : Session s f.val) (ha : Asks s f.val 0x4E0 words) (h4 : 4 ≤ len) (h240 : len ≤ 240) (hm : len % 4 = 0)
    (ho : ofs + len ≤ 0x1000000) : Does (.clRead f ofs len) s fun t =>
      t.regs = s.regs ∧ t.cl = s.cl ∧ ∃ ws : List Word, Served t f.val 0 ws false ∧ ws.length = len / 4 ∧
        ∀ i, i < len / 4 → ws.getD i 0 = w32 (ofBytesLE ((List.range 4).map fun b => s.cellarAt (ofs + 4 * i + b))) := by
  refine Does.served (r := { st := s, words := s.cellarWords ofs len }) rfl ha.toPosted (mbxAway_session ha h rfl) (if_neg (by omega))
    ⟨by rw [regs_finish, regs_setMb], by rw [cl_finish, cl_setMb], s.cellarWords ofs len, served_finish, ?_, fun i hi => ?_⟩
  · rw [State.cellarWords, List.length_map, List.length_range]
  · have hi' : i < (s.cellarWords ofs len).length := by simpa [State.cellarWords] using hi
    rw [List.getD_eq_getElem _ _ hi']
    simp only [State.cellarWords, List.getElem_map, List.getElem_range]

theorem clRead_badArg (h : Session s f.val) (ha : Asks s f.val 0x4E0 words)
    (hb : len < 4 ∨ 240 < len ∨ len % 4 ≠ 0 ∨ 0x1000000 < ofs + len) :
    Does (.clRead f ofs len) s fun t => Served t f.val 7 [] false ∧ t.regs = s.regs :=
  Does.served (r := badArg s) rfl ha.toPosted (mbxAway_session ha h rfl) (if_pos hb) ⟨served_finish, by rw [regs_finish, regs_setMb]; rfl⟩

end

end Sys2Proof.Machine

/-! PROOF. The time commands of the mailbox (O20; R117, R118, R123, R124): the settings of the servo, its ports, and the leap registers. -/

namespace Sys2Proof.Machine

/-! ### The PTP ports behind the loss of a source (R107, R117) -/

/-- The PTP ports are the same but for which of them is in SLAVE state. -/
def SamePorts (s t : State) : Prop := ∀ g, { t.ptp g with slave := false } = { s.ptp g with slave := false }

section
variable {s t u : State} {A : List Area} {Q : Option (List Reg)}

theorem SamePorts.of_eq (h : t.tb.ports = s.tb.ports) : SamePorts s t := fun g => by unfold State.ptp; rw [h]

theorem SamePorts.refl (s : State) : SamePorts s s := .of_eq rfl

theorem SamePorts.trans (h : SamePorts s t) (k : SamePorts t u) : SamePorts s u := fun g => (k g).trans (h g)

theorem SamePorts.upd (h : SamePorts s t) (hu : u.tb.ports = t.tb.ports) : SamePorts s u := h.trans (.of_eq hu)

theorem SamePorts.then (h : SamePorts s t) (k : Only A Q t u) (hA : A.contains .tb = false) : SamePorts s u :=
  h.upd (congrArg TbSt.ports (k.same .tb (by simpa using hA)))

theorem SamePorts.ite {c : Prop} [Decidable c] (h : SamePorts s t) (k : SamePorts s u) : SamePorts s (if c then t else u) := by
  split <;> assumption

theorem SamePorts.foldl {α : Type} {f : State → α → State} {l : List α} (h : SamePorts s t) (hf : ∀ y e, SamePorts y (f y e)) :
    SamePorts s (l.foldl f t) := by
  induction l generalizing t with
  | nil => exact h
  | cons e l ih => exact ih (h.trans (hf _ _))

/-- A map whose values a function changes that keeps the default. -/
theorem mget_map_values {κ α : Type} [DecidableEq κ] (d : κ → α) (φ : α → α) (hd : ∀ k, φ (d k) = d k) (m : Map κ α) (k : κ) :
    mget d (m.map fun e => (e.1, φ e.2)) k = φ (mget d m k) := by
  induction m with
  | nil => exact (hd k).symm
  | cons e m ih =>
    rw [List.map_cons]
    unfold mget
    split
    · rfl
    · exact ih

theorem ptp_noSlave (y : State) (g : Nat) : y.noSlave.ptp g = { y.ptp g with slave := false } :=
  mget_map_values ptpD (fun x : PtpPort => { x with slave := false }) (fun _ => rfl) y.tb.ports g

theorem samePorts_noSlave (y : State) : SamePorts y y.noSlave := fun g => by rw [ptp_noSlave]

theorem samePorts_setTb (st : Nat) : SamePorts s (s.setTb st) := by
  unfold State.setTb
  extract_lets +onlyGivenNames old y1
  have h1 : Only [.irqOwed] (some [.TB_STATE, .xx_STATUS]) s y1 := ((only_set .TB_STATE rfl).widen (by decide)).then (only_latch ..) rfl
  clear_value old y1
  refine SamePorts.ite (SamePorts.refl s) ?_
  extract_lets +onlyGivenNames y2
  have h2 : SamePorts s y2 := ((SamePorts.refl s).then h1 rfl).then (only_event ..) rfl
  clear_value y2
  extract_lets +onlyGivenNames b y3
  have h3 : SamePorts s y3 := SamePorts.ite (h2.upd rfl) h2
  clear_value b y3
  extract_lets +onlyGivenNames b y4
  have h4 : SamePorts s y4 := SamePorts.ite (h3.upd rfl) h3
  clear_value b y4
  extract_lets +onlyGivenNames r y5
  have h5 : SamePorts s y5 := SamePorts.ite (SamePorts.ite h4 (h4.then (only_applyInc ..) rfl)) h4
  clear_value r y5
  refine SamePorts.ite ?_ h5
  extract_lets +onlyGivenNames y6
  have h6 : SamePorts s y6 := h5.then (only_set .TB_STATE rfl) rfl
  clear_value y6
  extract_lets +onlyGivenNames b y7
  have h7 : SamePorts s y7 := h6.upd rfl
  split
  · refine SamePorts.ite h7 ?_
    extract_lets +onlyGivenNames b y8
    have h8 : SamePorts s y8 := h7.upd rfl
    exact h8.foldl fun y n => (SamePorts.refl y).then (only_letGo y n) rfl
  · exact h7

theorem samePorts_selectSrc (c : Nat) : SamePorts s (s.selectSrc c) := by
  unfold State.selectSrc
  extract_lets y0 y1
  have h0 : SamePorts s y0 := SamePorts.ite (SamePorts.refl s) (.of_eq rfl)
  have h1 : Only [.irqOwed] (some [.TB_STATE, .xx_STATUS]) y0 y1 := ((only_set .TB_STATE rfl).widen (by decide)).then (only_latch ..) rfl
  exact SamePorts.ite h0 ((h0.then h1 rfl).upd rfl)

theorem samePorts_follow (changed : Bool) : SamePorts s (s.follow changed) := by
  have h (st : Nat) : SamePorts s (s.setTb st) := samePorts_setTb st
  have h0 : SamePorts s s := SamePorts.refl s
  exact SamePorts.ite h0 (SamePorts.ite (SamePorts.ite h0 (h 5)) (SamePorts.ite (SamePorts.ite (h 5) h0) (SamePorts.ite (h 5) h0)))

theorem samePorts_loseSource : SamePorts s s.loseSource := by
  unfold State.loseSource
  extract_lets st _ y0 y1
  have h0 : SamePorts s y0 := .of_eq rfl
  have h1 : SamePorts s y1 := h0.trans (samePorts_setTb 7)
  exact SamePorts.ite (SamePorts.ite h1 (h1.then (only_raise ..) rfl)) (SamePorts.ite (h0.trans (samePorts_setTb 4)) h0)

/-- The loss of a source leaves the ports as they were, but for their SLAVE states. -/
theorem samePorts_srcLost (c : Nat) : SamePorts s (srcLost c s) := by
  unfold srcLost
  extract_lets y0 y1 _ _ y2 y3
  have h0 : SamePorts s y0 := .of_eq rfl
  have h1 : SamePorts s y1 := SamePorts.ite (h0.trans (samePorts_noSlave y0)) h0
  have hs : SamePorts s (y1.set F.TB_STATE_RESTEP_PEND 0) := h1.then (only_set .TB_STATE rfl) rfl
  have h2 : SamePorts s y2 := SamePorts.ite (hs.upd rfl) h1
  have h3 : SamePorts s y3 := h2.trans (samePorts_selectSrc _)
  exact SamePorts.ite (SamePorts.refl s) (SamePorts.ite h2 (SamePorts.ite (h3.trans samePorts_loseSource) (h3.trans (samePorts_follow _))))

end

/-! ### TIME_STATUS, TIME_PTP_CFG, TIME_PTP_PORT and TIME_SERVO (R117, R118) -/

section
variable {s : State} {f p : Fin 4} {c : PtpConfig} {en : Bool} {role bw : Nat} {ip : Word} {words : List Word}

theorem timeStatus_answers (h : Session s f.val) (ha : Asks s f.val 0x100 []) : Does (.timeStatus f) s fun t => t.regs = s.regs ∧ t.tb = s.tb ∧
    Served t f.val 0 (Config.mbxWords 0x100 [s.get F.TB_STATE_STATE, s.get F.TB_STATE_SRC, (s.rd (.TB_OFS, [])).toNat,
      (s.tb.pathDelay % 2 ^ 64).toNat, s.tb.gmId, s.clockClass, s.tb.stepsRemoved]) false :=
  Does.served rfl ha.toPosted (mbxAway_session ha h rfl) rfl ⟨by rw [regs_finish, regs_setMb], by rw [tb_finish, tb_setMb], served_finish⟩

theorem timePtpCfg_sets (h : Session s f.val) (hw : MayWrite s f 5) (ha : Asks s f.val 0x101 words) (hc : ptpOk c = true) :
    Does (.timePtpCfg f c) s fun t => Served t f.val 0 [] true ∧ t.tb = { s.tb with ptp := c } ∧ t.regs = s.regs :=
  Does.served (r := applied { s with tb := { s.tb with ptp := c } }) rfl ha.toPosted (mbxAway_mayWrite ha h hw) (if_pos hc)
    ⟨served_finish, by rw [tb_finish, tb_setMb]; rfl, by rw [regs_finish, regs_setMb]; rfl⟩

theorem timePtpCfg_badArg (h : Session s f.val) (hw : MayWrite s f 5) (ha : Asks s f.val 0x101 words) (hc : ptpOk c = false) :
    Does (.timePtpCfg f c) s fun t => Served t f.val 7 [] false ∧ t.tb = s.tb :=
  Does.served (r := badArg s) rfl ha.toPosted (mbxAway_mayWrite ha h hw) (if_neg (by rw [hc]; decide))
    ⟨served_finish, by rw [tb_finish, tb_setMb]; rfl⟩

theorem timeServo_sets (h : Session s f.val) (hw : MayWrite s f 5) (ha : Asks s f.val 0x104 words) (h1 : 1 ≤ bw) (h100 : bw ≤ 100) :
    Does (.timeServo f bw) s fun t => Served t f.val 0 [] true ∧ t.tb = { s.tb with bw := bw } ∧ t.regs = s.regs :=
  Does.served (r := applied { s with tb := { s.tb with bw := bw } }) rfl ha.toPosted (mbxAway_mayWrite ha h hw) (if_pos ⟨h1, h100⟩)
    ⟨served_finish, by rw [tb_finish, tb_setMb]; rfl, by rw [regs_finish, regs_setMb]; rfl⟩

/-- The state with what TIME_PTP_PORT carries in its port. -/
def State.portSet (s : State) (p : Nat) (en : Bool) (role : Nat) (ip : Word) : State :=
  s.setPtp p { s.ptp p with en := en, role := role, ip := ip }

/-- What TIME_PTP_PORT makes of a port: one that is a slave and may not be one any more ends as such. -/
theorem timePtpPort_served {r : Reply} {P : State → Prop} (h : Session s f.val) (hw : MayWrite s f 5) (ha : Asks s f.val 0x102 words)
    (hr : (if 2 < role ∨ (en ∧ role = 2 ∧ s.tb.ports.any fun e => e.1 != p.val && e.2.en && e.2.role == 2) then badArg s
      else applied (if (s.ptp p.val).slave ∧ (!en ∨ role = 1) then (srcLost 1 (s.portSet p.val en role ip)).noSlave.settleMode
        else s.portSet p.val en role ip)) = r)
    (hP : P (r.st.setMb f.val ((s.mb f.val).answered r)).finish) : Does (.timePtpPort f p en role ip) s P :=
  Does.served rfl ha.toPosted (mbxAway_mayWrite ha h hw) hr hP

theorem ptp_portSet (p : Nat) (g : Nat) : (s.portSet p en role ip).ptp g =
    if g = p then { s.ptp g with en := en, role := role, ip := ip } else s.ptp g := by
  refine (mget_nput ptpD s.tb.ports p g _).trans ?_
  split
  · rename_i hg
    rw [hg]
  · rfl

theorem ptp_served (y : State) (g : Nat) (m : Mbx) (k : Nat) : (y.setMb g m).finish.ptp k = y.ptp k := by
  unfold State.ptp
  rw [tb_finish, tb_setMb]

theorem timePtpPort_sets (h : Session s f.val) (hw : MayWrite s f 5) (ha : Asks s f.val 0x102 words) (hr : role ≤ 2)
    (ho : en = true → role = 2 → ∀ e ∈ s.tb.ports, e.1 ≠ p.val → ¬ (e.2.en = true ∧ e.2.role = 2)) :
    Does (.timePtpPort f p en role ip) s fun t => Served t f.val 0 [] true ∧ ∀ g, t.ptp g =
      { (if g = p.val then { s.ptp g with en := en, role := role, ip := ip } else s.ptp g) with
        slave := (s.ptp g).slave && !((s.ptp p.val).slave && (!en || role == 1)) } := by
  have hfree : ¬ (2 < role ∨ (en ∧ role = 2 ∧ s.tb.ports.any fun e => e.1 != p.val && e.2.en && e.2.role == 2)) := by
    rintro (h2 | ⟨hen, h2, hany⟩)
    · omega
    · obtain ⟨e, he, hp⟩ := List.any_eq_true.mp hany
      simp only [Bool.and_eq_true, bne_iff_ne, beq_iff_eq] at hp
      obtain ⟨⟨hne, hon⟩, hrole⟩ := hp
      exact ho hen h2 e he hne ⟨hon, hrole⟩
  by_cases hs : (s.ptp p.val).slave = true ∧ ((!en) = true ∨ role = 1)
  · have hends : ((s.ptp p.val).slave && (!en || role == 1)) = true := by simpa using hs
    refine timePtpPort_served h hw ha ((if_neg hfree).trans (congrArg applied (if_pos hs))) ⟨served_finish, fun g => ?_⟩
    have hm : (srcLost 1 (s.portSet p.val en role ip)).noSlave.settleMode.ptp g = (srcLost 1 (s.portSet p.val en role ip)).noSlave.ptp g :=
      congrArg (fun b : TbSt => mget ptpD b.ports g) ((only_settleMode _).same .tb (by decide))
    rw [ptp_served, applied, hm, ptp_noSlave, samePorts_srcLost, ptp_portSet, hends, Bool.not_true, Bool.and_false]
  · have hends : ((s.ptp p.val).slave && (!en || role == 1)) = false := Bool.eq_false_iff.mpr fun e => hs (by simpa using e)
    refine timePtpPort_served h hw ha ((if_neg hfree).trans (congrArg applied (if_neg hs))) ⟨served_finish, fun g => ?_⟩
    rw [ptp_served, applied, ptp_portSet, hends, Bool.not_false, Bool.and_true]
    split <;> rfl

theorem timePtpPort_badArg (h : Session s f.val) (hw : MayWrite s f 5) (ha : Asks s f.val 0x102 words) (hr : 2 < role) :
    Does (.timePtpPort f p en role ip) s fun t => Served t f.val 7 [] false ∧ t.tb = s.tb :=
  timePtpPort_served h hw ha (if_pos (.inl hr)) ⟨served_finish, by rw [tb_finish, tb_setMb]; rfl⟩

end

/-! ### TIME_LEAP (R123, R124) -/

abbrev leapKey : Key := (.TB_LEAP_AT, [])
abbrev utcKey : Key := (.TB_UTC, [])

/-- A write that reaches its block still does behind an operation that leaves the fabric and the rights. -/
theorem Reaches.of_only {A : List Area} {R : List Reg} {s t : State} {o : Origin} {k : Key} {v : Word} (h : Reaches s o k v)
    (ht : Only A (some R) s t) (hA : A.contains .dv = false) (hlo : R.contains .DV_PERM_LO = false) (hhi : R.contains .DV_PERM_HI = false)
    (ho : t.ownerRule o k v ≠ .viol) : Reaches t o k v := by
  have hdv : t.dv = s.dv := ht.same .dv (by simpa using hA)
  refine ⟨?_, ?_, ho⟩
  · unfold State.served
    rw [hdv]
    exact h.served
  · unfold State.rights
    rw [ht.field _ .DV_PERM_LO rfl hlo, ht.field _ .DV_PERM_HI rfl hhi]
    exact h.rights

theorem effect_TB_LEAP_AT : Effect .TB_LEAP_AT [] (some []) := Effect.none (fun _ _ _ _ _ _ => rfl) fun _ _ _ _ _ _ => rfl

/-- A change of OFS or VALID is kept in the time record (R124), and the checks of source 3 follow. -/
theorem only_after_utc (s : State) (org : Org) (old new v : Word) :
    Only (raising [.dv, .tb, .cl]) (some (raisingRegs [.CL_STAT, .TB_CLAMP, .TB_INC_HI, .TB_INC_LO, .TB_STATE])) s (s.after org utcKey old new v) :=
  (Only.ite ((only_requestTime s).widen (by decide)) (Only.refl s)).then (only_src3Check _) rfl

theorem effect_TB_UTC :
    Effect .TB_UTC (raising [.dv, .tb, .cl]) (some (raisingRegs [.CL_STAT, .TB_CLAMP, .TB_INC_HI, .TB_INC_LO, .TB_STATE])) where
  command s _ _ _ _ _ := Only.refl s
  after s org _ old new v := only_after_utc s org old new v

theorem decode_leapKey : decodeAddr (keyAddr leapKey) = .reg leapKey := by decide +kernel
theorem decode_utcKey : decodeAddr (keyAddr utcKey) = .reg utcKey := by decide +kernel

/-- The fields of the two registers are free to be written. -/
theorem free_leapKey (s : State) : ∀ f ∈ (regDef leapKey.1).fields, Free s leapKey f := free_fields s (by decide)

theorem free_utcKey (s : State) : ∀ f ∈ (regDef utcKey.1).fields, Free s utcKey f := free_fields s (by decide)

theorem eq_of_bits_word {v w : Word} (h : bits v 31 0 = bits w 31 0) : v = w := by
  refine BitVec.eq_of_toNat_eq ?_
  unfold bits at h
  rw [Nat.pow_zero, Nat.div_one, Nat.div_one, Nat.mod_eq_of_lt v.isLt, Nat.mod_eq_of_lt w.isLt] at h
  exact h

section
variable {s : State} {o : Origin} {v : Word}

/-- A write of TB_LEAP_AT that reaches it is stored. -/
theorem keyWrite_leapAt (h : Reaches s o leapKey v) : (s.keyWrite o leapKey v).rd leapKey = v := by
  obtain ⟨m, x, he⟩ := keyWrite_takes h decode_leapKey rfl rfl nofun (taken_of _ nofun nofun) (judgeFields_free (free_leapKey s)) rfl
  have hword : (s.judgeFields leapKey v true).word = v := by
    refine eq_of_bits_word ((bits_judgeFields (f := fd 31 0 .rw .imm 0) (free_leapKey s) rfl (by decide) (.inl rfl)).trans ?_)
    rw [asked_plain _ _ rfl]
  rw [he, rd_withLog, hword]
  exact rd_store nofun nofun

/-- A write of TB_UTC that reaches it and does not announce both leaps is stored. -/
theorem keyWrite_utc (h : Reaches s o utcKey v) (hv : ¬ (bits v 16 16 = 1 ∧ bits v 17 17 = 1)) {f : FieldDef} (hf : f ∈ (regDef utcKey.1).fields) :
    (s.keyWrite o utcKey v).get ⟨utcKey, f.hi, f.lo⟩ = bits v f.hi f.lo := by
  have hword {g : FieldDef} (hg : g ∈ (regDef utcKey.1).fields) : bits (s.judgeFields utcKey v true).word g.hi g.lo = bits v g.hi g.lo := by
    have hacc : ∀ g ∈ (regDef utcKey.1).fields, g.acc = .rw := by decide
    rw [bits_judgeFields (free_utcKey s) rfl hg (.inl (hacc g hg)), asked_plain _ _ rfl]
  have hval : s.valueRule utcKey (s.judgeFields utcKey v true).word = .ok := by
    have h16 := hword (g := fd 16 16 .rw .imm 0) (by decide)
    have h17 := hword (g := fd 17 17 .rw .imm 0) (by decide)
    have hq : (!(bits v 16 16 == 1 && bits v 17 17 == 1)) = true := by
      simp only [Bool.not_eq_true', Bool.and_eq_false_iff, beq_eq_false_iff_ne]
      exact not_and_or.mp hv
    refine (congrArg quiet ?_ : quiet (!(bits (s.judgeFields utcKey v true).word 16 16 == 1 &&
      bits (s.judgeFields utcKey v true).word 17 17 == 1)) = quiet true)
    rw [← hq]
    exact congrArg₂ (fun a b : Nat => !(a == 1 && b == 1)) h16 h17
  obtain ⟨m, x, he⟩ := keyWrite_takes h decode_utcKey rfl rfl nofun (taken_of _ nofun nofun) (judgeFields_free (free_utcKey s)) hval
  rw [he, get_withLog]
  show ((((s.withMarks m).store utcKey (s.judgeFields utcKey v true).word).after (orgOf o) utcKey (s.held utcKey)
    (s.judgeFields utcKey v true).word v).refuse (keyHdr utcKey) .ok (orgOf o)).get _ = _
  refine ((only_after_utc _ (orgOf o) _ _ v).field _ .TB_UTC rfl rfl).trans ?_
  unfold State.get
  refine Eq.trans ?_ (hword hf)
  exact congrArg (fun w => bits w f.hi f.lo) (rd_store nofun nofun)

end

/-- The word that TIME_LEAP writes to TB_UTC. -/
def utcWord (ofs : Nat) (l61 l59 : Bool) : Word := w32 (ofs + b2n l61 * 0x10000 + b2n l59 * 0x20000 + 0x40000)

theorem bits_utcWord {ofs : Nat} (l61 l59 : Bool) (h : ofs < 65536) : bits (utcWord ofs l61 l59) 15 0 = ofs ∧
    bits (utcWord ofs l61 l59) 16 16 = b2n l61 ∧ bits (utcWord ofs l61 l59) 17 17 = b2n l59 ∧ bits (utcWord ofs l61 l59) 18 18 = 1 := by
  unfold utcWord
  simp only [bits_w32]
  cases l61 <;> cases l59 <;> simp only [b2n, Bool.false_eq_true, if_false, if_true] <;> omega

section
variable {s : State} {f : Fin 4} {ofs : Nat} {l61 l59 : Bool} {leapAt : Word} {words : List Word}

/-- The state behind the two writes of TIME_LEAP by the servo. -/
def State.leapSet (s : State) (ofs : Nat) (l61 l59 : Bool) (leapAt : Word) : State :=
  (s.fresh.2.keyWrite (.cu 16 (s.fresh.1 % 65536)) leapKey leapAt).keyWrite (.cu 16 (s.fresh.1 % 65536)) utcKey (utcWord ofs l61 l59)

theorem leapSet_spec (h : ∀ pc k v, k = leapKey ∨ k = utcKey → Reaches s (.cu 16 pc) k v) (hl : ¬ (l61 = true ∧ l59 = true)) (ho : ofs < 65536) :
    (s.leapSet ofs l61 l59 leapAt).rd leapKey = leapAt ∧ (s.leapSet ofs l61 l59 leapAt).get F.TB_UTC_OFS = ofs ∧
      (s.leapSet ofs l61 l59 leapAt).get F.TB_UTC_LEAP61 = b2n l61 ∧ (s.leapSet ofs l61 l59 leapAt).get F.TB_UTC_LEAP59 = b2n l59 ∧
      (s.leapSet ofs l61 l59 leapAt).get F.TB_UTC_VALID = 1 := by
  have hr (k : Key) (v : Word) (hk : k = leapKey ∨ k = utcKey) : Reaches s.fresh.2 (.cu 16 (s.fresh.1 % 65536)) k v :=
    ⟨(h (s.fresh.1 % 65536) k v hk).served, (h (s.fresh.1 % 65536) k v hk).rights, (h (s.fresh.1 % 65536) k v hk).owner⟩
  have hfirst : Only pathAreas (some (.TB_LEAP_AT :: refusalRegs)) s.fresh.2 (s.fresh.2.keyWrite (.cu 16 (s.fresh.1 % 65536)) leapKey leapAt) :=
    only_keyWrite_of effect_TB_LEAP_AT decode_leapKey rfl nofun rfl (.of_within (by decide)) (.of_within (by decide))
  have hutc : Reaches (s.fresh.2.keyWrite (.cu 16 (s.fresh.1 % 65536)) leapKey leapAt) (.cu 16 (s.fresh.1 % 65536)) utcKey (utcWord ofs l61 l59) := by
    refine (hr utcKey _ (.inr rfl)).of_only hfirst rfl rfl rfl ?_
    have hok (y : State) (pc : Nat) (v : Word) : y.ownerRule (.cu 16 pc) utcKey v = .ok := if_neg fun e => e.2 rfl
    rw [hok]
    exact nofun
  have hsecond : Only (raising [.w1, .dv, .tb, .cl]) (some (.TB_UTC :: refusalRegs ++ [.CL_STAT, .TB_CLAMP, .TB_INC_HI, .TB_INC_LO, .TB_STATE]))
      (s.fresh.2.keyWrite (.cu 16 (s.fresh.1 % 65536)) leapKey leapAt) (s.leapSet ofs l61 l59 leapAt) :=
    only_keyWrite_of effect_TB_UTC decode_utcKey rfl nofun rfl (.of_within (by decide)) (.of_within (by decide))
  obtain ⟨hofs, h61, h59, hvalid⟩ := bits_utcWord l61 l59 ho
  have hboth : ¬ (bits (utcWord ofs l61 l59) 16 16 = 1 ∧ bits (utcWord ofs l61 l59) 17 17 = 1) := by
    rw [h61, h59]
    rintro ⟨e1, e2⟩
    cases l61 <;> cases l59 <;> simp_all [b2n]
  refine ⟨?_, ?_, ?_, ?_, ?_⟩
  · rw [hsecond.reg _ .TB_LEAP_AT rfl rfl]
    exact keyWrite_leapAt (hr leapKey leapAt (.inl rfl))
  · exact (keyWrite_utc hutc hboth (f := fd 15 0 .rw .imm 0) (by decide)).trans hofs
  · exact (keyWrite_utc hutc hboth (f := fd 16 16 .rw .imm 0) (by decide)).trans h61
  · exact (keyWrite_utc hutc hboth (f := fd 17 17 .rw .imm 0) (by decide)).trans h59
  · exact (keyWrite_utc hutc hboth (f := fd 18 18 .rw .imm 0) (by decide)).trans hvalid

theorem timeLeap_sets (h : Session s f.val) (hw : MayWrite s f 5) (ha : Asks s f.val 0x103 words) (hsrc : s.get F.TB_STATE_SRC ≠ 1)
    (hl : ¬ (l61 = true ∧ l59 = true)) (ho : ofs < 65536) (hr : ∀ pc k v, k = leapKey ∨ k = utcKey → Reaches s (.cu 16 pc) k v) :
    Does (.timeLeap f ofs l61 l59 leapAt) s fun t =>
      Served t f.val 0 [] true ∧ t.rd leapKey = leapAt ∧ t.get F.TB_UTC_OFS = ofs ∧ t.get F.TB_UTC_LEAP61 = b2n l61 ∧
        t.get F.TB_UTC_LEAP59 = b2n l59 ∧ t.get F.TB_UTC_VALID = 1 := by
  have hok : ¬ (s.get F.TB_STATE_SRC = 1 ∨ (l61 ∧ l59) ∨ 65535 < ofs) := by
    rintro (e | e | e)
    · exact hsrc e
    · exact hl e
    · omega
  refine Does.served (r := applied (s.leapSet ofs l61 l59 leapAt)) rfl ha.toPosted (mbxAway_mayWrite ha h hw) (if_neg hok) ⟨served_finish, ?_⟩
  simp only [rd_finish, get_finish, rd_setMb, get_setMb]
  exact leapSet_spec hr hl ho

theorem timeLeap_badArg (h : Session s f.val) (hw : MayWrite s f 5) (ha : Asks s f.val 0x103 words)
    (hb : s.get F.TB_STATE_SRC = 1 ∨ (l61 = true ∧ l59 = true) ∨ 65536 ≤ ofs) :
    Does (.timeLeap f ofs l61 l59 leapAt) s fun t => Served t f.val 7 [] false ∧ t.regs = s.regs :=
  Does.served (r := badArg s) rfl ha.toPosted (mbxAway_mayWrite ha h hw) (if_pos hb) ⟨served_finish, by rw [regs_finish, regs_setMb]; rfl⟩

end

/-- Settles O20: each command is served once the judgement of `mbxServe` lets it through, and then makes its reply. -/
theorem mailboxCommands : Obligations.MailboxCommands := by
  unfold Obligations.MailboxCommands
  refine ⟨fun f i a n ws c s h0 hs => ⟨?_, ?_, ?_, ?_, ?_, ?_⟩, fun f p c en role ofs bw ip leapAt l61 l59 words s h hw =>
    ⟨?_, ?_, ?_, ?_, ?_, ?_, ?_, ?_⟩, fun f page ofs len words s h => ⟨?_, ?_, ?_, ?_, ?_⟩⟩
  · exact imgBegin_opens h0 hs
  · exact imgBegin_badArg h0 hs
  · exact imgBegin_running h0 hs
  · exact fun _ => imgData_writes h0 hs
  · exact fun _ => imgEnd_closes h0 hs
  · exact imgEnd_badArg h0 hs
  · exact timeStatus_answers h
  · exact timePtpCfg_sets h hw
  · exact timePtpCfg_badArg h hw
  · exact timePtpPort_sets h hw
  · exact timePtpPort_badArg h hw
  · exact timeLeap_sets h hw
  · exact timeLeap_badArg h hw
  · exact timeServo_sets h hw
  · exact glStatus_answers h
  · exact glRoster_answers h
  · exact glRoster_badArg h
  · exact clRead_answers h
  · exact clRead_badArg h

end Sys2Proof.Machine

/-! PROOF. The service reset (O17; R76, R78): the engines of the services, the sessions, the commands in progress, and the time base. -/

namespace Sys2Proof.Machine

/-- What an operation makes of an element of a list stays made at the end of a fold over the list, where the other elements neither
prevent it nor undo it. -/
theorem foldl_establishes {α : Type} {op : State → α → State} {l : List α} {e : α} (P Q : State → Prop) (he : e ∈ l) {s : State} (hs : Q s)
    (before : ∀ y, ∀ g ∈ l, g ≠ e → Q y → Q (op y g)) (make : ∀ y, Q y → P (op y e)) (keep : ∀ y, ∀ g ∈ l, P y → P (op y g)) :
    P (l.foldl op s) := by
  induction l generalizing s with
  | nil => cases he
  | cons a l ih =>
    have hkept : ∀ (m : List α) (y : State), (∀ g ∈ m, g ∈ a :: l) → P y → P (m.foldl op y) := by
      intro m
      induction m with
      | nil => exact fun _ _ hy => hy
      | cons b m ihm => exact fun y hm hy => ihm _ (fun g hg => hm g (.tail _ hg)) (keep y b (hm b (.head _)) hy)
    by_cases hae : a = e
    · exact hkept l _ (fun g hg => .tail _ hg) (hae ▸ make s hs)
    · refine ih ((List.mem_cons.mp he).resolve_left fun e => hae e.symm) (before s a (.head _) hae hs) ?_ ?_
      · exact fun y g hg => before y g (.tail _ hg)
      · exact fun y g hg => keep y g (.tail _ hg)

/-! ### The reset of an engine (R266) -/

theorem rd_clearKeys (s : State) (p : Key → Bool) (k : Key) : (s.clearKeys p).rd k = if p k then resetVal k else s.rd k := by
  refine (mget_filter (d := resetVal) s.regs (fun k => !p k) k).trans ?_
  cases p k <;> rfl

theorem rd_resetEngine (s : State) (n : Nat) (k : Key) : (s.resetEngine n).rd k =
    if k = (.CU_IMG, [n]) then s.rd k else if cueKey n k then resetVal k else s.rd k := by
  unfold State.resetEngine
  extract_lets keep y0 y1
  have he : Only [.evt] (some []) y1 ((List.range 8).foldl (fun s k => s.setEvt n (16 + k) none) y1) :=
    Only.foldl (Only.refl _) fun _ _ h => h.then (only_setEvt ..) rfl
  rw [he.reg k k.1 rfl rfl]
  refine (rd_setCue ..).trans ((rd_wr ..).trans ?_)
  split
  · rename_i hk
    rw [hk]
  · exact rd_clearKeys ..

section
variable {s : State} {l : List Nat} {k : Key} {n : Nat}

/-- A register that no engine's reset clears keeps its value. -/
theorem rd_resetEngines_kept (hk : ∀ n, cueKey n k = true → k = (.CU_IMG, [n])) : (l.foldl (fun s n => s.resetEngine n) s).rd k = s.rd k := by
  induction l generalizing s with
  | nil => rfl
  | cons n l ih =>
    rw [List.foldl_cons, ih, rd_resetEngine]
    split
    · rfl
    · rename_i hne
      exact if_neg fun h => hne (hk n h)

/-- A register of an engine that is reset shows its reset value. -/
theorem rd_resetEngines_reset (hn : n ∈ l) (hk : cueKey n k = true) (hi : k.1 ≠ .CU_IMG) :
    (l.foldl (fun s n => s.resetEngine n) s).rd k = resetVal k := by
  have hne (m : Nat) : k ≠ (.CU_IMG, [m]) := fun e => hi (e ▸ rfl)
  refine foldl_establishes (fun y => y.rd k = resetVal k) (fun _ => True) hn trivial (fun _ _ _ _ _ => trivial) ?_ ?_
  · intro y _
    rw [rd_resetEngine, if_neg (hne n), if_pos hk]
  · intro y m _ hy
    rw [rd_resetEngine, if_neg (hne m), hy, ite_self]

end

/-! ### The end of a mailbox with its session (R78) -/

/-- A mailbox whose function loses its session: a command in progress ends with NO_SERVICE. -/
def State.endMailbox (s : State) (f : Nat) : State :=
  (if s.get (F.DV_MBX_STAT_STATE f) = 1 then s.mbxFinish f 4 [] else s).set (sessionFld f) 0

theorem only_endMailbox (s : State) (f : Nat) :
    Only [.out, .msix, .mbx] (some [.DV_MBX_RESULT, .DV_MBX_RSP, .DV_MBX_STAT, .DV_IFV_PLES01, .DV_IFV_PLES23]) s (s.endMailbox f) := by
  have h : Only [.out, .msix, .mbx] (some [.DV_MBX_RESULT, .DV_MBX_RSP, .DV_MBX_STAT]) s
      (if s.get (F.DV_MBX_STAT_STATE f) = 1 then s.mbxFinish f 4 [] else s) := Only.ite (only_mbxFinish ..) (Only.refl s)
  unfold State.endMailbox
  have hs := sessionFld_reg f
  simp only [sessionRegs, List.mem_cons, List.not_mem_nil, or_false] at hs
  rcases hs with hs | hs
  · exact (h.widen (by decide)).then (only_set _ hs) rfl
  · exact (h.widen (by decide)).then (only_set _ hs) rfl

section
variable {s : State} {f g : Fin 4}

/-- The end of a command shows in its own mailbox alone. -/
theorem rd_mbxFinish_ne {r : Reg} {i j code : Nat} {is : List Nat} {words : List Word} (h : i ≠ j) :
    (s.mbxFinish i code words).rd (r, j :: is) = s.rd (r, j :: is) := by
  have hw (y : State) (w : Word) (q : Reg) (js : List Nat) : (y.wr (q, i :: js) w).rd (r, j :: is) = y.rd (r, j :: is) :=
    rd_wr_ne _ _ fun e => h (by injection e with _ e; injection e with e _; exact e.symm)
  have hr (m : List Word) (k : Nat) (y : State) : (y.writeRsp i k m).rd (r, j :: is) = y.rd (r, j :: is) := by
    induction m generalizing y k with
    | nil => rfl
    | cons w m ih => exact (ih (k + 1) _).trans (hw ..)
  rw [(only_mbxFinish_done ..).reg _ r rfl rfl, State.mbxDone, rd_setMb]
  exact ((hw ..).trans (hw ..)).trans ((hr ..).trans (hw ..))

theorem session_endMailbox : (s.endMailbox f.val).get (sessionFld f.val) = 0 := session_set _ _ (by decide)

theorem session_endMailbox_ne (h : g ≠ f) : (s.endMailbox f.val).get (sessionFld g.val) = s.get (sessionFld g.val) := by
  unfold State.endMailbox
  rw [session_set_ne _ _ h]
  split
  · exact (only_mbxFinish ..).session (by decide) g.val
  · rfl

theorem get_setSession_mbx (y : State) {r : Reg} {i hi lo : Nat} (hr : sessionRegs.contains r = false) :
    (y.set (sessionFld f.val) 0).get ⟨(r, [i]), hi, lo⟩ = y.get ⟨(r, [i]), hi, lo⟩ := congrArg (fun w => bits w hi lo) (rd_setSession 0 hr)

theorem mailbox_endMailbox (h : s.get (F.DV_MBX_STAT_STATE f.val) = 1) :
    (s.endMailbox f.val).get (F.DV_MBX_STAT_STATE f.val) = 2 ∧ (s.endMailbox f.val).get (F.DV_MBX_RESULT_CODE f.val) = 4 := by
  unfold State.endMailbox
  rw [if_pos h, get_setSession_mbx _ rfl, get_setSession_mbx _ rfl]
  exact ⟨state_mbxFinish, result_mbxFinish (by decide)⟩

/-- A mailbox without a command in progress shows what it did. -/
theorem rd_endMailbox_idle (h : s.get (F.DV_MBX_STAT_STATE f.val) ≠ 1) {k : Key} (hk : sessionRegs.contains k.1 = false) :
    (s.endMailbox f.val).rd k = s.rd k := by
  unfold State.endMailbox
  rw [if_neg h]
  exact rd_setSession _ hk

theorem rd_endMailbox_ne (h : f ≠ g) {r : Reg} (hr : sessionRegs.contains r = false) :
    (s.endMailbox f.val).rd (r, [g.val]) = s.rd (r, [g.val]) := by
  unfold State.endMailbox
  rw [rd_setSession _ hr]
  split
  · exact rd_mbxFinish_ne fun e => h (Fin.ext e)
  · rfl

end

/-- The state with every session ended. -/
def State.sessionsEnded (s : State) : State := (List.range 4).foldl (fun s f => s.endMailbox f) s

section
variable {s : State}

theorem only_sessionsEnded (s : State) :
    Only [.out, .msix, .mbx] (some [.DV_MBX_RESULT, .DV_MBX_RSP, .DV_MBX_STAT, .DV_IFV_PLES01, .DV_IFV_PLES23]) s s.sessionsEnded :=
  Only.foldl (Only.refl s) fun y f h => h.then (only_endMailbox y f) rfl

theorem session_sessionsEnded {f : Nat} (hf : f < 4) : s.sessionsEnded.get (sessionFld f) = 0 := by
  refine foldl_establishes (fun y => y.get (sessionFld f) = 0) (fun _ => True) (List.mem_range.mpr hf) trivial (fun _ _ _ _ _ => trivial) ?_ ?_
  · exact fun y _ => session_endMailbox (f := ⟨f, hf⟩)
  · intro y g hg hy
    by_cases hgf : g = f
    · subst hgf
      exact session_endMailbox (f := ⟨g, hf⟩)
    · have hne : (⟨f, hf⟩ : Fin 4) ≠ ⟨g, List.mem_range.mp hg⟩ := fun e => hgf (congrArg Fin.val e).symm
      exact (session_endMailbox_ne hne).trans hy

theorem mailbox_sessionsEnded {f : Nat} (hf : f < 4) (hs : s.get (F.DV_MBX_STAT_STATE f) = 1) :
    s.sessionsEnded.get (F.DV_MBX_STAT_STATE f) = 2 ∧ s.sessionsEnded.get (F.DV_MBX_RESULT_CODE f) = 4 := by
  have hne (y : State) (g : Nat) (hg : g ∈ List.range 4) (h : g ≠ f) {r : Reg} (hr : sessionRegs.contains r = false) :
      (y.endMailbox g).rd (r, [f]) = y.rd (r, [f]) :=
    rd_endMailbox_ne (f := ⟨g, List.mem_range.mp hg⟩) (g := ⟨f, hf⟩) (fun e => h (congrArg Fin.val e)) hr
  refine foldl_establishes (fun y => y.get (F.DV_MBX_STAT_STATE f) = 2 ∧ y.get (F.DV_MBX_RESULT_CODE f) = 4)
    (fun y => y.get (F.DV_MBX_STAT_STATE f) = 1) (List.mem_range.mpr hf) hs ?_ ?_ ?_
  · exact fun y g hg h hy => (congrArg (fun w => bits w 1 0) (hne y g hg h rfl)).trans hy
  · exact fun y hy => mailbox_endMailbox (f := ⟨f, hf⟩) hy
  · intro y g hg ⟨h2, h4⟩
    have hrd {r : Reg} (hr : sessionRegs.contains r = false) : (y.endMailbox g).rd (r, [f]) = y.rd (r, [f]) := by
      by_cases h : g = f
      · subst h
        exact rd_endMailbox_idle (f := ⟨g, hf⟩) (by dsimp only; omega) hr
      · exact hne y g hg h hr
    exact ⟨(congrArg (fun w => bits w 1 0) (hrd rfl)).trans h2, (congrArg (fun w => bits w 15 0) (hrd rfl)).trans h4⟩

end

/-! ### A change of TB_STATE.STATE (R110) -/

/-- The time base is in the state that it changes to. -/
theorem state_setTb (s : State) {st : Nat} (hst : st < 16) : (s.setTb st).get F.TB_STATE_STATE = st := by
  unfold State.setTb
  extract_lets +onlyGivenNames old y1
  split
  · assumption
  have h1 : y1.get F.TB_STATE_STATE = st := by
    refine ((only_latch ..).field _ .TB_STATE rfl rfl).trans ((get_set_self _ _ _ (by decide)).trans (Nat.mod_eq_of_lt hst))
  clear_value old y1
  extract_lets +onlyGivenNames y2
  have h2 : y2.get F.TB_STATE_STATE = st := ((only_event ..).field _ .TB_STATE rfl rfl).trans h1
  clear_value y2
  extract_lets +onlyGivenNames b y3
  have h3 : y3.get F.TB_STATE_STATE = st := by
    show (if _ then _ else _ : State).get _ = _
    split <;> exact h2
  clear_value b y3
  extract_lets +onlyGivenNames b y4
  have h4 : y4.get F.TB_STATE_STATE = st := by
    show (if _ then _ else _ : State).get _ = _
    split <;> exact h3
  clear_value b y4
  extract_lets +onlyGivenNames r y5
  have h5 : y5.get F.TB_STATE_STATE = st := by
    have ha : Only raiseAreas (some (.TB_CLAMP :: .TB_INC_HI :: .TB_INC_LO :: raiseRegs)) y4 y5 :=
      Only.ite (Only.ite (Only.refl _) ((only_applyInc ..).widen (by decide))) (Only.refl _)
    exact (ha.field _ .TB_STATE rfl rfl).trans h4
  clear_value r y5
  split
  · extract_lets +onlyGivenNames y6
    have h6 : y6.get F.TB_STATE_STATE = st := (get_set_ne _ _ _ _ (by decide) (.inr (.inl (by decide)))).trans h5
    clear_value y6
    extract_lets +onlyGivenNames b y7
    have h7 : y7.get F.TB_STATE_STATE = st := h6
    split
    · split
      · exact h7
      · extract_lets +onlyGivenNames b y8
        have h8 : y8.get F.TB_STATE_STATE = st := h7
        have hg : Only [.heads] (some []) y8 ((List.range 16).foldl letGo y8) :=
          Only.foldl (Only.refl y8) fun y n h => h.then (only_letGo y n) rfl
        exact (hg.field _ .TB_STATE rfl rfl).trans h8
    · exact h7
  · exact h5

/-! ### The service reset (R76, R78) -/

/-- The state with the engines of the services reset. -/
def State.enginesReset (s : State) : State := [16, 17, 18, 19].foldl (fun s n => s.resetEngine n) s

/-- What is made of the sources at a service reset: PTP, which the service serves, is none any more. -/
def State.srcsReset (s : State) : State :=
  { s with tb := { s.tb with servoUp := false, srcs := s.tb.srcs.map fun (e : Nat × SrcSt) =>
    (e.1, { e.2 with wasSelected := false, lost := false, measured := false, usable := e.2.usable && e.1 != 1 }) } }

/-- A locked time base holds over. -/
def State.holdsOver (s : State) : State := if s.get F.TB_STATE_STATE = 6 then s.setTb 7 else s

/-- The services start anew: the cause of the reset, its count, and the instant from which they have to answer. -/
def State.startsAnew (s : State) (cause : Nat) : State :=
  ((s.set F.DV_RST_CAUSE_LAST cause).count F.DV_RST_CAUSE_WARM_CNT 1).updDv fun d => { d with svcSince := some s.tick }

theorem serviceReset_eq (s : State) (cause : Nat) : s.serviceReset cause =
    ((s.enginesReset.set F.DV_SVC_READY_READY 0).sessionsEnded.srcsReset.noSlave.holdsOver).startsAnew cause := rfl

theorem only_startsAnew (s : State) (cause : Nat) : Only [.dv] (some [.DV_RST_CAUSE]) s (s.startsAnew cause) :=
  (((only_set .DV_RST_CAUSE rfl).then (only_count .DV_RST_CAUSE rfl) rfl).widen (by decide)).then (only_updDv ..) rfl

section
variable {s : State} {cause : Nat}

theorem only_holdsOver (s : State) : Only [.irqOwed, .tb, .heads, .cues, .evt, .fc, .sl] (some (.TB_CLAMP :: .TB_INC_HI :: .TB_INC_LO ::
    .TB_STATE :: raiseRegs)) s s.srcsReset.noSlave.holdsOver := by
  have h : Only [.tb] (some []) s s.srcsReset.noSlave := Only.then (x := s.srcsReset) ((Only.refl s).tb 0 rfl) (only_noSlave _) rfl
  exact Only.ite ((h.widen (by decide)).then (only_setTb ..) rfl) (h.widen (by decide))

/-- What the rest of the service reset leaves of the state with the sessions ended. -/
theorem only_serviceReset_tail (s : State) (cause : Nat) : Only [.irqOwed, .dv, .tb, .heads, .cues, .evt, .fc, .sl]
    (some (.DV_RST_CAUSE :: .TB_CLAMP :: .TB_INC_HI :: .TB_INC_LO :: .TB_STATE :: raiseRegs))
    (s.enginesReset.set F.DV_SVC_READY_READY 0).sessionsEnded (s.serviceReset cause) :=
  serviceReset_eq s cause ▸ ((only_holdsOver _).widen (by decide)).then (only_startsAnew ..) rfl

/-- A register that is neither of the engines nor of the service reset keeps its value. -/
theorem rd_beforeEnd {k : Key} (hk : ∀ n, cueKey n k = true → k = (.CU_IMG, [n])) (hr : k.1 ≠ .DV_SVC_READY) :
    (s.enginesReset.set F.DV_SVC_READY_READY 0).rd k = s.rd k :=
  (rd_wr_ne _ _ fun e => hr (congrArg Prod.fst e)).trans (rd_resetEngines_kept hk)

theorem ready_serviceReset : (s.serviceReset cause).get F.DV_SVC_READY_READY = 0 := by
  rw [(only_serviceReset_tail ..).field _ .DV_SVC_READY rfl rfl, (only_sessionsEnded _).field _ .DV_SVC_READY rfl rfl]
  exact get_set_self _ _ _ (by decide)

theorem session_serviceReset {f : Nat} (hf : f < 4) : (s.serviceReset cause).get (sessionFld f) = 0 :=
  ((only_serviceReset_tail ..).session (by decide) f).trans (session_sessionsEnded hf)

theorem mailbox_serviceReset {f : Nat} (hf : f < 4) (hs : s.get (F.DV_MBX_STAT_STATE f) = 1) :
    (s.serviceReset cause).get (F.DV_MBX_STAT_STATE f) = 2 ∧ (s.serviceReset cause).get (F.DV_MBX_RESULT_CODE f) = 4 := by
  rw [(only_serviceReset_tail ..).field _ .DV_MBX_STAT rfl rfl, (only_serviceReset_tail ..).field _ .DV_MBX_RESULT rfl rfl]
  refine mailbox_sessionsEnded hf (Eq.trans (congrArg (fun w => bits w 1 0) ?_) hs)
  exact rd_beforeEnd (fun n h => by cases h) nofun

theorem rd_serviceReset_engine {r : Reg} {n : Nat} (hr : r = .CU_STAT ∨ r = .CU_PC ∨ r = .CU_IMG) :
    (s.serviceReset cause).rd (r, [n]) = s.enginesReset.rd (r, [n]) := by
  have hne : r ≠ .DV_SVC_READY := by rcases hr with rfl | rfl | rfl <;> nofun
  have hs : (s.enginesReset.set F.DV_SVC_READY_READY 0).rd (r, [n]) = s.enginesReset.rd (r, [n]) :=
    rd_wr_ne _ _ fun e => hne (congrArg Prod.fst e)
  rcases hr with rfl | rfl | rfl
  · rw [(only_serviceReset_tail ..).reg _ .CU_STAT rfl rfl, (only_sessionsEnded _).reg _ .CU_STAT rfl rfl, hs]
  · rw [(only_serviceReset_tail ..).reg _ .CU_PC rfl rfl, (only_sessionsEnded _).reg _ .CU_PC rfl rfl, hs]
  · rw [(only_serviceReset_tail ..).reg _ .CU_IMG rfl rfl, (only_sessionsEnded _).reg _ .CU_IMG rfl rfl, hs]

/-- The engines of the services are stopped at instruction 0, with the same image. -/
theorem engine_serviceReset {n : Nat} (h1 : 16 ≤ n) (h2 : n < 20) :
    (s.serviceReset cause).cst n = 0 ∧ (s.serviceReset cause).cpc n = 0 ∧ (s.serviceReset cause).rd (.CU_IMG, [n]) = s.rd (.CU_IMG, [n]) := by
  have hn : n ∈ [16, 17, 18, 19] := by
    simp only [List.mem_cons, List.not_mem_nil, or_false]
    omega
  have hmine {r : Reg} (hb : (regDef r).blk = .CU) (hh : isHdr r = false) : cueKey n (r, [n]) = true := by simp [cueKey, hb, hh]
  refine ⟨?_, ?_, ?_⟩
  · unfold State.cst State.get
    rw [rd_serviceReset_engine (.inl rfl), State.enginesReset, rd_resetEngines_reset hn (hmine rfl rfl) Reg.noConfusion]
    exact (by decide : bits (resetVal (.CU_STAT, [0])) 1 0 = 0)
  · unfold State.cpc State.get
    rw [rd_serviceReset_engine (.inr (.inl rfl)), State.enginesReset, rd_resetEngines_reset hn (hmine rfl rfl) Reg.noConfusion]
    exact (by decide : bits (resetVal (.CU_PC, [0])) 13 0 = 0)
  · rw [rd_serviceReset_engine (.inr (.inr rfl))]
    refine rd_resetEngines_kept fun m hm => ?_
    have hnm : n = m := by
      simp only [cueKey, List.headD_cons, Bool.or_eq_true, Bool.and_eq_true, beq_iff_eq] at hm
      rcases hm with ⟨-, h⟩ | ⟨h, -⟩
      · exact h
      · cases h
    rw [hnm]

theorem timeState_serviceReset (h : s.get F.TB_STATE_STATE = 6) : (s.serviceReset cause).get F.TB_STATE_STATE = 7 := by
  have hb : (s.enginesReset.set F.DV_SVC_READY_READY 0).sessionsEnded.get F.TB_STATE_STATE = 6 := by
    rw [(only_sessionsEnded _).field _ .TB_STATE rfl rfl]
    exact (congrArg (fun w => bits w 3 0) (rd_beforeEnd (k := (.TB_STATE, [])) (fun n h => by cases h) nofun)).trans h
  have hl : (s.enginesReset.set F.DV_SVC_READY_READY 0).sessionsEnded.srcsReset.noSlave.get F.TB_STATE_STATE = 6 := hb
  rw [serviceReset_eq, (only_startsAnew ..).field _ .TB_STATE rfl rfl]
  unfold State.holdsOver
  rw [if_pos hl]
  exact state_setTb _ (by decide)

theorem cause_serviceReset (hc : cause < 16) : (s.serviceReset cause).get F.DV_RST_CAUSE_LAST = cause ∧
    (s.serviceReset cause).get F.DV_RST_CAUSE_WARM_CNT = min (s.get F.DV_RST_CAUSE_WARM_CNT + 1) 255 := by
  have hb : (s.enginesReset.set F.DV_SVC_READY_READY 0).sessionsEnded.srcsReset.noSlave.holdsOver.get F.DV_RST_CAUSE_WARM_CNT =
      s.get F.DV_RST_CAUSE_WARM_CNT := by
    rw [(only_holdsOver _).field _ .DV_RST_CAUSE rfl rfl, (only_sessionsEnded _).field _ .DV_RST_CAUSE rfl rfl]
    exact congrArg (fun w => bits w 15 8) (rd_beforeEnd (fun n h => by cases h) nofun)
  rw [serviceReset_eq, State.startsAnew, (only_updDv ..).field _ .DV_RST_CAUSE rfl rfl, (only_updDv ..).field _ .DV_RST_CAUSE rfl rfl,
    get_count_ne _ _ _ _ (by decide) (.inr (.inl (by decide))), get_set_self _ _ _ (by decide), get_count_self _ _ _ (by decide),
    get_set_ne _ _ _ _ (by decide) (.inr (.inr (by decide))), hb]
  exact ⟨Nat.mod_eq_of_lt hc, rfl⟩

theorem svcSince_serviceReset : (s.serviceReset cause).dv.svcSince = some s.tick := by
  have ht : (s.serviceReset cause).tick = s.tick := (only_serviceReset s cause).same .tick (by decide)
  rw [← ht]
  rfl

end

end Sys2Proof.Machine

/-! PROOF. The resets (O17): what DV_RESET asks for (R77, R78), and what a warm, a cold and a pin reset leave (R76, R266, R481). -/

namespace Sys2Proof.Machine

/-! ### The write of DV_RESET (R77, R78) -/

abbrev resetKey : Key := (.DV_RESET, [])

/-- The word that asks for a reset of a kind with a key. -/
abbrev resetWord (kind : Nat) (key : BitVec 16) : Word := w32 (kind + key.toNat * 65536)

/-- An origin from which a reset may be asked for. -/
abbrev MayReset (o : Origin) : Prop := (orgOf o).cls = 1 ∨ (orgOf o).cls = 0x31

theorem bits_resetWord {kind : Nat} (key : BitVec 16) (hk : kind < 16) :
    bits (resetWord kind key) 3 0 = kind ∧ bits (resetWord kind key) 31 16 = key.toNat := by
  have := key.isLt
  simp only [bits_w32]
  omega

section
variable {s : State} {o : Origin} {v : Word}

theorem free_resetKey (s : State) : ∀ f ∈ (regDef resetKey.1).fields, Free s resetKey f := free_fields s (by decide)

/-- A write of DV_RESET whose command makes a state: the state with DV_RESET as it was, the count of a refusal, and the entry. -/
theorem keyWrite_reset (h : Reaches s o resetKey v) : ∃ m x new, ∀ y j, (s.withMarks m).command (orgOf o) resetKey (s.held resetKey) new v =
    (y, s.held resetKey, j) → s.keyWrite o resetKey v = ((y.store resetKey (s.held resetKey)).refuse [0, 0] j (orgOf o)).withLog x := by
  obtain ⟨m, x, he⟩ := keyWrite_takes h addr_DV_RESET rfl rfl nofun (taken_of _ nofun nofun) (judgeFields_free (free_resetKey s)) rfl
  refine ⟨m, x, (s.judgeFields resetKey v true).word, fun y j hc => he.trans ?_⟩
  unfold State.takes
  rw [hc]
  rfl

/-- A write that asks for no reset changes nothing but the count of refusals. -/
theorem keyWrite_reset_refused (h : Reaches s o resetKey v)
    (hv : bits v 31 16 ≠ 0xA5C3 ∨ ¬ MayReset o ∨ (bits v 3 0 ≠ 2 ∧ s.mode = 11)) :
    ∃ m x, s.keyWrite o resetKey v = ((s.withMarks m).count ⟨(.xx_REFUSED, [0, 0]), 15, 0⟩ 1).withLog x := by
  obtain ⟨m, x, new, he⟩ := keyWrite_reset h
  refine ⟨m, x, (he (s.withMarks m) .quiet (if_pos ?_)).trans ?_⟩
  · rcases hv with hv | hv | hv
    · exact .inl hv
    · exact .inr (.inl (by simpa using hv))
    · exact .inr (.inr (.inr hv))
  · rw [show s.held resetKey = (s.withMarks m).held resetKey from rfl, store_same rfl]
    rfl

/-- A write that asks for a reset by the key. -/
theorem keyWrite_reset_asks (h : Reaches s o resetKey v) (hkey : bits v 31 16 = 0xA5C3) (hmay : MayReset o)
    (hkind : inRange 1 (bits v 3 0) 3 = true) (hmode : bits v 3 0 ≠ 2 → s.mode ≠ 11) : ∃ m x, s.keyWrite o resetKey v =
      ((if bits v 3 0 = 2 then (s.withMarks m).serviceReset 2 else (s.withMarks m).askReset (bits v 3 0)).store resetKey (s.held resetKey)).withLog x := by
  obtain ⟨m, x, new, he⟩ := keyWrite_reset h
  refine ⟨m, x, he _ .ok ((if_neg ?_).trans (apply_ite (fun y => (y, s.held resetKey, Judge.ok)) _ _ _).symm)⟩
  rintro (e | e | e | e)
  · exact e hkey
  · simp only [Bool.not_eq_true', decide_eq_false_iff_not] at e
    exact e (by simpa using hmay)
  · rw [hkind] at e
    cases e
  · exact hmode e.1 e.2

end

section
variable {s : State} {o : Origin} {key : BitVec 16} {kind : Nat}

/-- The reset that is asked for waits, and no register changes. -/
def AskedReset (s : State) (kind : Nat) (t : State) : Prop :=
  t.dv.rstReq = some { kind, since := s.tick, seq := s.sl.next + s.sl.batch.length, records := s.cl.queue.length } ∧ t.regs = s.regs

theorem askedReset_write (h : ∀ v, Reaches s o resetKey v) (hkey : key = 0xA5C3) (hmay : MayReset o) (hmode : s.mode ≠ 11)
    (hk : kind = 1 ∨ kind = 3) : AskedReset s kind (s.keyWrite o resetKey (resetWord kind key)).finish := by
  obtain ⟨hkind, hbits⟩ := bits_resetWord key (show kind < 16 by omega)
  have hrange : inRange 1 (bits (resetWord kind key) 3 0) 3 = true := by
    rw [hkind]
    rcases hk with rfl | rfl <;> rfl
  obtain ⟨m, x, he⟩ := keyWrite_reset_asks (h (resetWord kind key)) (hbits.trans (congrArg BitVec.toNat hkey)) hmay hrange fun _ => hmode
  rw [hkind, if_neg (by omega), show s.held resetKey = ((s.withMarks m).askReset kind).held resetKey from rfl, store_same rfl] at he
  unfold AskedReset
  rw [dv_finish, regs_finish, he]
  exact ⟨rfl, rfl⟩

/-- A reset that is refused, which is counted. -/
theorem refusedReset_write (h : ∀ v, Reaches s o resetKey v) (hk : kind < 16) (hr : key ≠ 0xA5C3 ∨ ¬ MayReset o ∨ (kind ≠ 2 ∧ s.mode = 11)) :
    (s.keyWrite o resetKey (resetWord kind key)).finish.dv = s.dv ∧ Counted [0, 0] s (s.keyWrite o resetKey (resetWord kind key)).finish := by
  obtain ⟨hkind, hbits⟩ := bits_resetWord key hk
  obtain ⟨m, x, he⟩ := keyWrite_reset_refused (h (resetWord kind key)) (by
    rw [hkind, hbits]
    exact hr.imp_left fun e hc => e (BitVec.eq_of_toNat_eq hc))
  rw [he]
  refine ⟨by rw [dv_finish]; rfl, ?_, fun j hj => ?_⟩
  · rw [get_finish, get_withLog, get_count_self _ _ _ (by decide)]
    rfl
  · rw [rd_finish, rd_withLog]
    exact rd_wr_ne _ _ hj

/-- The service reset, as the write of DV_RESET makes it. -/
theorem serviceReset_write (h : ∀ v, Reaches s o resetKey v) (hkey : key = 0xA5C3) (hmay : MayReset o) :
    ∃ m, (s.keyWrite o resetKey (resetWord 2 key)).finish.dv = ((s.withMarks m).serviceReset 2).dv ∧
      ∀ k, k ≠ resetKey → (s.keyWrite o resetKey (resetWord 2 key)).finish.rd k = ((s.withMarks m).serviceReset 2).rd k := by
  obtain ⟨hkind, hbits⟩ := bits_resetWord key (show 2 < 16 by decide)
  obtain ⟨m, x, he⟩ := keyWrite_reset_asks (h (resetWord 2 key)) (hbits.trans (congrArg BitVec.toNat hkey)) hmay (by rw [hkind]; rfl)
    fun e => absurd hkind e
  rw [hkind, if_pos rfl] at he
  refine ⟨m, ?_, fun k hk => ?_⟩
  · rw [dv_finish, he, dv_withLog]
    exact (only_store_plain (k := resetKey) rfl).same .dv (by decide)
  · rw [rd_finish, he, rd_withLog]
    exact rd_store_ne hk

theorem serviceReset_resets (h : ∀ v, Reaches s o resetKey v) (hkey : key = 0xA5C3) (hmay : MayReset o) : Does (.serviceReset o key) s fun t =>
    t.get F.DV_SVC_READY_READY = 0 ∧ t.get F.DV_RST_CAUSE_LAST = 2 ∧
    t.get F.DV_RST_CAUSE_WARM_CNT = min (s.get F.DV_RST_CAUSE_WARM_CNT + 1) 255 ∧ t.dv.svcSince = some s.tick ∧
    (∀ f, f < 4 → t.get (sessionFld f) = 0) ∧
    (∀ f, f < 4 → s.get (F.DV_MBX_STAT_STATE f) = 1 → t.get (F.DV_MBX_STAT_STATE f) = 2 ∧ t.get (F.DV_MBX_RESULT_CODE f) = 4) ∧
    (∀ n, 16 ≤ n → n < 20 → t.cst n = 0 ∧ t.cpc n = 0 ∧ t.rd (.CU_IMG, [n]) = s.rd (.CU_IMG, [n])) ∧
    (s.get F.TB_STATE_STATE = 6 → t.get F.TB_STATE_STATE = 7) := by
  obtain ⟨m, hdv, hrd⟩ := serviceReset_write h hkey hmay
  have hget {f : Fld} (hf : f.key.1 ≠ .DV_RESET) :
      (s.keyWrite o resetKey (resetWord 2 key)).finish.get f = ((s.withMarks m).serviceReset 2).get f :=
    congrArg (fun w => bits w f.hi f.lo) (hrd f.key fun e => hf (congrArg Prod.fst e))
  have hsession (f : Nat) : (sessionFld f).key.1 ≠ .DV_RESET := fun e => by
    have hm := sessionFld_reg f
    rw [e] at hm
    exact absurd hm (by decide)
  refine Does.of (f := fun s => s.keyWrite o resetKey (resetWord 2 key)) rfl
    ⟨?_, ?_, ?_, ?_, fun f hf => ?_, fun f hf hs => ?_, fun n h1 h2 => ?_, fun ht => ?_⟩
  · exact (hget (by decide)).trans ready_serviceReset
  · exact (hget (by decide)).trans (cause_serviceReset (by decide)).1
  · exact (hget (by decide)).trans (cause_serviceReset (by decide)).2
  · rw [hdv, svcSince_serviceReset]
    rfl
  · exact (hget (hsession f)).trans (session_serviceReset hf)
  · obtain ⟨h2, h4⟩ := mailbox_serviceReset (s := s.withMarks m) (cause := 2) hf hs
    exact ⟨(hget (by exact (by decide : Reg.DV_MBX_STAT ≠ .DV_RESET))).trans h2,
      (hget (by exact (by decide : Reg.DV_MBX_RESULT ≠ .DV_RESET))).trans h4⟩
  · obtain ⟨hst, hpc, himg⟩ := engine_serviceReset (s := s.withMarks m) (cause := 2) h1 h2
    exact ⟨(hget (by exact (by decide : Reg.CU_STAT ≠ .DV_RESET))).trans hst,
      (hget (by exact (by decide : Reg.CU_PC ≠ .DV_RESET))).trans hpc,
      (hrd (.CU_IMG, [n]) fun e => by cases e).trans himg⟩
  · exact (hget (by decide)).trans (timeState_serviceReset ht)

end

/-! ### What a reset keeps (R76, R266) -/

/-- Writes of registers change the registers alone. -/
theorem foldl_wr_eq (k : Nat → Key) (w : Nat → Word) (l : List Nat) (y : State) :
    ∃ m, l.foldl (fun s n => s.wr (k n) (w n)) y = { y with regs := m } := by
  induction l generalizing y with
  | nil => exact ⟨_, rfl⟩
  | cons n l ih =>
    obtain ⟨m, hm⟩ := ih (y.wr (k n) (w n))
    exact ⟨m, hm⟩

section
variable {s t : State}

theorem keepMemories_eq (s t : State) : ∃ m, s.keepMemories t =
    { s with mem := t.mem, bad := t.bad, imem := t.imem, dmem := t.dmem, cregs := t.cregs, scratch := t.scratch, ecc := t.ecc, regs := m } :=
  foldl_wr_eq _ _ _ _

theorem rd_keepMemories (k : Key) (hk : k.1 ≠ .CU_IMG) : (s.keepMemories t).rd k = s.rd k := by
  unfold State.keepMemories
  extract_lets y
  have hy : y.rd k = s.rd k := rfl
  clear_value y
  have h : Only [] (some [.CU_IMG]) y ((List.range 24).foldl (fun s n => s.wr (.CU_IMG, [n]) (t.rd (.CU_IMG, [n]))) y) :=
    Only.foldl (Only.refl y) fun _ _ h => h.then (only_wr .CU_IMG rfl) rfl
  refine Eq.trans (h.reg k k.1 rfl ?_) hy
  simpa using hk

theorem image_keepMemories {n : Nat} (hn : n < 24) : (s.keepMemories t).rd (.CU_IMG, [n]) = t.rd (.CU_IMG, [n]) := by
  unfold State.keepMemories
  extract_lets y
  clear_value y
  refine foldl_establishes (op := fun s n => s.wr (.CU_IMG, [n]) (t.rd (.CU_IMG, [n]))) (fun y => y.rd (.CU_IMG, [n]) = t.rd (.CU_IMG, [n]))
    (fun _ => True) (List.mem_range.mpr hn) trivial (fun _ _ _ _ _ => trivial) (fun y _ => rd_wr_self ..) fun y g _ hy => ?_
  rw [rd_wr]
  split
  · rename_i h
    rw [h]
  · exact hy

end

/-! ### The warm and the maintenance reset (R76, R77, R106) -/

/-- What a warm reset keeps of the registers, and of the supplies and the count. -/
def State.warmBase (t : State) : State :=
  { t.bare with
    regs := t.regs.filter fun e => warmKeeps e.1
    w1 := t.w1.filter fun e => warmKeeps e.1
    slowCopy := t.slowCopy.filter fun e => warmKeeps e.1
    ps := t.ps
    tb := { t.bare.tb with
      sec := t.tb.sec, ns := t.tb.ns, frac := t.tb.frac, counting := t.tb.counting, seen1 := t.tb.seen1, seen2 := t.tb.seen2, tenOk := t.tb.tenOk
      lockHist := t.tb.lockHist, holdSince := t.tb.holdSince } }

/-- The state from which a warm reset boots, but for its cause and its count. -/
def State.warmBoot (t : State) (kind : Nat) : State :=
  (t.warmBase.keepMemories t).updDv fun d => { d with
    released := true, step := 1, cold := false, warm := true, bootMaint := kind == 3, att := t.dv.att, straps := t.dv.straps
    board := t.dv.board }

theorem warmReset_eq (t : State) (kind : Nat) : t.warmReset kind =
    ((t.warmBoot kind).set F.DV_RST_CAUSE_WARM_CNT (satAdd 8 (t.get F.DV_RST_CAUSE_WARM_CNT) 1)).set F.DV_RST_CAUSE_LAST kind := rfl

section
variable {s : State} {kind : Nat} {k : Key}

theorem rd_warmReset (hc : k.1 ≠ .DV_RST_CAUSE) : (s.warmReset kind).rd k = (s.warmBase.keepMemories s).rd k := by
  have hne : k ≠ (.DV_RST_CAUSE, []) := fun e => hc (congrArg Prod.fst e)
  rw [warmReset_eq]
  exact (rd_wr_ne _ _ hne).trans (rd_wr_ne _ _ hne)

theorem rd_warmReset_plain (hc : k.1 ≠ .DV_RST_CAUSE) (hi : k.1 ≠ .CU_IMG) :
    (s.warmReset kind).rd k = if warmKeeps k then s.rd k else resetVal k :=
  (rd_warmReset hc).trans ((rd_keepMemories k hi).trans (mget_filter resetVal s.regs warmKeeps k))

theorem warmKeeps_reg (h : warmKeeps k = true) : k.1 ≠ .DV_RST_CAUSE ∧ k.1 ≠ .CU_IMG := by
  obtain ⟨r, is⟩ := k
  refine ⟨fun e => ?_, fun e => ?_⟩
  · have hr : r = .DV_RST_CAUSE := e
    subst hr
    cases h
  · have hr : r = .CU_IMG := e
    subst hr
    cases h

theorem cause_warmReset (hk : kind < 16) : (s.warmReset kind).get F.DV_RST_CAUSE_LAST = kind ∧
    (s.warmReset kind).get F.DV_RST_CAUSE_WARM_CNT = min (s.get F.DV_RST_CAUSE_WARM_CNT + 1) 255 := by
  rw [warmReset_eq, get_set_self _ _ _ (by decide), get_set_ne _ _ _ _ (by decide) (.inr (.inr (by decide))), get_set_self _ _ _ (by decide)]
  refine ⟨Nat.mod_eq_of_lt hk, Nat.mod_eq_of_lt ?_⟩
  show min _ 255 < 256
  omega

/-- What a warm reset leaves and what it begins, apart from the registers. -/
theorem parts_warmReset : (s.warmReset kind).mem = s.mem ∧ (s.warmReset kind).imem = s.imem ∧ (s.warmReset kind).dmem = s.dmem ∧
    (s.warmReset kind).scratch = s.scratch ∧ (s.warmReset kind).tai = s.tai ∧ (s.warmReset kind).dv.step = 1 ∧ (s.warmReset kind).dv.warm = true ∧
    (s.warmReset kind).dv.bootMaint = (kind == 3) ∧ (s.warmReset kind).heads = [] ∧ (s.warmReset kind).pending = s.pending := by
  obtain ⟨m, hm⟩ := keepMemories_eq s.warmBase s
  rw [warmReset_eq, State.warmBoot, hm]
  exact ⟨rfl, rfl, rfl, rfl, rfl, rfl, rfl, rfl, rfl, rfl⟩

theorem resetBegin_begins {r : ResetReq} (hr : s.dv.rstReq = some r) (hk : r.kind = 1 ∨ r.kind = 3) (hready : s.resetReady r = true)
    (hseal : s.healthy = false ∨ s.cl.sealDone = true) (hmode : s.mode ≠ 11) : Does .resetBegin s fun t =>
      (∀ k : Key, warmKeeps k = false → k.1 ≠ .DV_RST_CAUSE → k.1 ≠ .CU_IMG → t.rd k = resetVal k) ∧
      (∀ k : Key, warmKeeps k = true → t.rd k = s.rd k) ∧ (∀ n, n < 24 → t.rd (.CU_IMG, [n]) = s.rd (.CU_IMG, [n])) ∧
      t.get F.DV_RST_CAUSE_LAST = r.kind ∧ t.get F.DV_RST_CAUSE_WARM_CNT = min (s.get F.DV_RST_CAUSE_WARM_CNT + 1) 255 ∧
      t.mem = s.mem ∧ t.imem = s.imem ∧ t.dmem = s.dmem ∧ t.scratch = s.scratch ∧
      t.tai = s.tai ∧ t.dv.step = 1 ∧ t.dv.warm = true ∧ t.dv.bootMaint = (r.kind == 3) ∧ t.heads = [] ∧ t.pending = s.pending := by
  have he : resetBeginOp s = s.warmReset r.kind := by
    unfold resetBeginOp
    rw [hr]
    exact if_pos (by simpa [hready, hmode] using hseal)
  have hkind : r.kind < 16 := by omega
  refine Does.of (f := resetBeginOp) rfl ?_
  rw [he]
  simp only [rd_finish, get_finish, mem_finish, imem_finish, dmem_finish, scratch_finish, dv_finish, heads_finish, pending_finish]
  refine ⟨fun k h hc hi => ?_, fun k h => ?_, fun n hn => ?_, (cause_warmReset hkind).1, (cause_warmReset hkind).2, ?_⟩
  · rw [rd_warmReset_plain hc hi, h]
    rfl
  · obtain ⟨hc, hi⟩ := warmKeeps_reg h
    rw [rd_warmReset_plain hc hi, h]
    rfl
  · exact (rd_warmReset (k := (.CU_IMG, [n])) Reg.noConfusion).trans (image_keepMemories hn)
  · have ht : (s.warmReset r.kind).finish.tai = (s.warmReset r.kind).tai := by
      unfold State.tai
      rw [tb_finish]
    rw [ht]
    exact parts_warmReset

theorem resetBegin_waits {r : ResetReq} (hr : s.dv.rstReq = some r) (h : s.resetReady r = false ∨ s.mode = 11) :
    Does .resetBegin s fun t => t.dv = s.dv ∧ t.regs = s.regs := by
  have he : resetBeginOp s = s := by
    unfold resetBeginOp
    rw [hr]
    refine if_neg fun hc => ?_
    simp only [Bool.and_eq_true, bne_iff_ne] at hc
    rcases h with h | h
    · rw [h] at hc
      cases hc.1.1
    · exact hc.2 h
  refine Does.of (f := resetBeginOp) rfl ?_
  rw [he, dv_finish, regs_finish]
  exact ⟨rfl, rfl⟩

end

/-! ### The cold and the pin reset (R76, R266, R481) -/

section
variable {s : State}

theorem coldReset_clears : Does .coldReset s fun t => (∀ k, t.rd k = resetVal k) ∧ t.mem = [] ∧ t.imem = [] ∧
    t.dv = { slots := s.dv.slots, rom := s.dv.rom, revoked := s.dv.revoked } ∧ t.cl = s.cl.kept ∧ t.heads = [] ∧ t.pls = [] ∧ t.sps = [] ∧ t.tb = {} := by
  refine Does.of (f := coldResetOp) rfl ⟨fun k => ?_, ?_⟩
  · rw [rd_finish, coldResetOp, rd_set]
    split
    · rename_i h
      rw [h]
      exact (by decide : setBits (resetVal (.DV_RST_CAUSE, [])) 3 0 0 = resetVal (.DV_RST_CAUSE, []))
    · rfl
  · simp only [mem_finish, imem_finish, dv_finish, cl_finish, heads_finish, pls_finish, sps_finish, tb_finish]
    exact ⟨rfl, rfl, rfl, rfl, rfl, rfl, rfl, rfl⟩

/-- The state behind a pin reset, but for its cause and the count of warm resets. -/
def State.pinBase (t : State) : State :=
  ((t.bare.keepMemories t).updDv fun d => { d with resetLow := true, cold := false, att := t.dv.att }).updPs fun p => { p with rails := t.ps.rails }

theorem pinResetOp_eq (t : State) : pinResetOp t =
    (t.pinBase.set F.DV_RST_CAUSE_WARM_CNT (t.get F.DV_RST_CAUSE_WARM_CNT)).set F.DV_RST_CAUSE_LAST 4 := rfl

theorem rd_pinResetOp {k : Key} (hc : k.1 ≠ .DV_RST_CAUSE) : (pinResetOp s).rd k = (s.bare.keepMemories s).rd k := by
  have hne : k ≠ (.DV_RST_CAUSE, []) := fun e => hc (congrArg Prod.fst e)
  rw [pinResetOp_eq]
  exact (rd_wr_ne _ _ hne).trans (rd_wr_ne _ _ hne)

theorem parts_pinResetOp : (pinResetOp s).mem = s.mem ∧ (pinResetOp s).imem = s.imem ∧ (pinResetOp s).dmem = s.dmem ∧
    (pinResetOp s).scratch = s.scratch ∧
    (pinResetOp s).dv = { slots := s.dv.slots, rom := s.dv.rom, revoked := s.dv.revoked, resetLow := true, cold := false, att := s.dv.att } ∧
    (pinResetOp s).ps.rails = s.ps.rails ∧ (pinResetOp s).cl = s.cl.kept ∧ (pinResetOp s).heads = [] := by
  obtain ⟨m, hm⟩ := keepMemories_eq s.bare s
  rw [pinResetOp_eq, State.pinBase, hm]
  exact ⟨rfl, rfl, rfl, rfl, rfl, rfl, rfl, rfl⟩

theorem pinReset_keeps : Does .pinReset s fun t =>
    (∀ k : Key, k.1 ≠ .DV_RST_CAUSE → k.1 ≠ .CU_IMG → t.rd k = resetVal k) ∧ (∀ n, n < 24 → t.rd (.CU_IMG, [n]) = s.rd (.CU_IMG, [n])) ∧
    t.get F.DV_RST_CAUSE_LAST = 4 ∧ t.get F.DV_RST_CAUSE_WARM_CNT = s.get F.DV_RST_CAUSE_WARM_CNT ∧
    t.mem = s.mem ∧ t.imem = s.imem ∧ t.dmem = s.dmem ∧ t.scratch = s.scratch ∧
    t.dv = { slots := s.dv.slots, rom := s.dv.rom, revoked := s.dv.revoked, resetLow := true, cold := false, att := s.dv.att } ∧
    t.ps.rails = s.ps.rails ∧ t.cl = s.cl.kept ∧ t.heads = [] := by
  refine Does.of (f := pinResetOp) rfl ?_
  simp only [rd_finish, get_finish, mem_finish, imem_finish, dmem_finish, scratch_finish, dv_finish, ps_finish, cl_finish, heads_finish]
  refine ⟨fun k hc hi => ?_, fun n hn => ?_, ?_, ?_, parts_pinResetOp⟩
  · exact (rd_pinResetOp hc).trans (rd_keepMemories k hi)
  · exact (rd_pinResetOp (k := (.CU_IMG, [n])) Reg.noConfusion).trans (image_keepMemories hn)
  · rw [pinResetOp_eq]
    exact get_set_self _ _ _ (by decide)
  · rw [pinResetOp_eq, get_set_ne _ _ _ _ (by decide) (.inr (.inr (by decide))), get_set_self _ _ _ (by decide)]
    exact Nat.mod_eq_of_lt (get_lt s F.DV_RST_CAUSE_WARM_CNT)

end

/-- Settles O17: a write of DV_RESET is judged once and then asks for its reset or makes it; the resets themselves keep registers by
`warmKeeps` and the memories by `keepMemories`. -/
theorem resets : Obligations.Resets := by
  unfold Obligations.Resets
  refine ⟨fun o key s h => ⟨fun hkey hmay hmode => ⟨?_, ?_⟩, fun hkey hmode => ⟨?_, ?_⟩, fun hkey hmay => ?_, fun hr => ⟨?_, ?_, ?_⟩⟩,
    fun s r hr hk => ⟨fun hready hseal hmode => ?_, fun hw => ?_⟩, fun s => ⟨?_, ?_⟩⟩
  · exact Does.of (f := fun s => s.keyWrite o resetKey (resetWord 1 key)) rfl (askedReset_write h hkey hmay hmode (.inl rfl))
  · exact Does.of (f := fun s => s.keyWrite o resetKey (resetWord 3 key)) rfl (askedReset_write h hkey hmay hmode (.inr rfl))
  · exact Does.of (f := fun s => s.keyWrite o resetKey (resetWord 1 key)) rfl (refusedReset_write h (by decide) (.inr (.inr ⟨by decide, hmode⟩)))
  · exact Does.of (f := fun s => s.keyWrite o resetKey (resetWord 3 key)) rfl (refusedReset_write h (by decide) (.inr (.inr ⟨by decide, hmode⟩)))
  · exact serviceReset_resets h hkey hmay
  · exact Does.of (f := fun s => s.keyWrite o resetKey (resetWord 1 key)) rfl (refusedReset_write h (by decide) (hr.imp_right .inl))
  · exact Does.of (f := fun s => s.keyWrite o resetKey (resetWord 3 key)) rfl (refusedReset_write h (by decide) (hr.imp_right .inl))
  · exact Does.of (f := fun s => s.keyWrite o resetKey (resetWord 2 key)) rfl (refusedReset_write h (by decide) (hr.imp_right .inl))
  · exact resetBegin_begins hr hk hready hseal hmode
  · exact resetBegin_waits hr hw
  · exact coldReset_clears
  · exact pinReset_keeps

end Sys2Proof.Machine

/-! PROOF. The write of HDn_CTRL (O28; R149, R151): the start checks do not read what the write stores, and what each form of it makes. -/

namespace Sys2Proof.Machine

/-! ### What the start checks read (R149) -/

/-- A state that differs in registers of a head alone: HDn_CTRL, and of HDn_STAT not the state. -/
structure SameStart (s t : State) : Prop where
  others : t = { s with regs := t.regs }
  rd : ∀ k : Key, k.1 ≠ .HD_CTRL → k.1 ≠ .HD_STAT → t.rd k = s.rd k
  hst : ∀ n, t.hst n = s.hst n

namespace SameStart

variable {s t : State} (h : SameStart s t) (n : Nat)

include h

theorem get (f : Fld) (hc : f.key.1 ≠ .HD_CTRL) (hs : f.key.1 ≠ .HD_STAT) : t.get f = s.get f := congrArg (fun w => bits w f.hi f.lo) (h.rd f.key hc hs)

theorem flag (f : Fld) (hc : f.key.1 ≠ .HD_CTRL) (hs : f.key.1 ≠ .HD_STAT) : t.flag f = s.flag f := congrArg (· != 0) (h.get f hc hs)

theorem heads : t.heads = s.heads := by rw [h.others]

theorem tick : t.tick = s.tick := by rw [h.others]

theorem tb : t.tb = s.tb := by rw [h.others]

theorem lts : t.lts = s.lts := by rw [h.others]

theorem eff : t.eff = s.eff := by rw [h.others]

theorem getE (f : Fld) (hc : f.key.1 ≠ .HD_CTRL) (hs : f.key.1 ≠ .HD_STAT) : t.getE f = s.getE f := by
  unfold State.getE State.rdE
  rw [h.eff, h.rd f.key hc hs]

theorem running : t.running n = s.running n := congrArg (· != 0) (h.hst n)

theorem mode : t.mode = s.mode := h.get _ Reg.noConfusion Reg.noConfusion

theorem fmt : t.fmt n = s.fmt n := h.get _ Reg.noConfusion Reg.noConfusion

theorem rate : t.rate n = s.rate n := h.get _ Reg.noConfusion Reg.noConfusion

theorem raster : t.raster n = s.raster n := by
  unfold State.raster
  rw [h.fmt, h.rate]

theorem delay (sl : Nat) : t.delay n sl = s.delay n sl := by
  unfold State.delay
  simp only [h.get, ne_eq, reduceCtorEq, not_false_eq_true]

theorem pos : t.pos n = s.pos n := by
  unfold State.pos State.tai
  simp only [h.raster, h.tb, h.delay]

theorem phaseOk (r : Nat × Nat × Nat × Nat) : t.phaseOk n r = s.phaseOk n r := by
  unfold State.phaseOk
  simp only [h.get, ne_eq, reduceCtorEq, not_false_eq_true]

theorem pairOk (r : Nat × Nat × Nat × Nat) : t.pairOk n r = s.pairOk n r := by
  unfold State.pairOk
  simp only [h.running, h.raster]

theorem reserveOk : t.reserveOk n = s.reserveOk n := by
  unfold State.reserveOk
  simp only [h.running, h.get, ne_eq, reduceCtorEq, not_false_eq_true]

theorem sdos : t.sdos n = s.sdos n := by
  unfold State.sdos
  simp only [h.flag, h.get, ne_eq, reduceCtorEq, not_false_eq_true]

theorem dpPorts : t.dpPorts n = s.dpPorts n := by
  unfold State.dpPorts
  simp only [h.flag, h.get, ne_eq, reduceCtorEq, not_false_eq_true]

theorem stQueues : t.stQueues n = s.stQueues n := by
  unfold State.stQueues
  simp only [h.flag, h.get, ne_eq, reduceCtorEq, not_false_eq_true]

theorem laneTested : t.laneTested n = s.laneTested n := by
  unfold State.laneTested State.farEnd
  rw [h.lts]

theorem destsFree : t.destsFree n = s.destsFree n := by
  unfold State.destsFree
  simp only [h.flag, h.get, h.running, h.sdos, h.dpPorts, h.stQueues, h.laneTested, ne_eq, reduceCtorEq, not_false_eq_true]

theorem sdiRateOk : t.sdiRateOk n = s.sdiRateOk n := by
  unfold State.sdiRateOk
  simp only [h.flag, h.get, h.fmt, h.rate, ne_eq, reduceCtorEq, not_false_eq_true]

theorem dpRateOk (r : Nat × Nat × Nat × Nat) : t.dpRateOk n r = s.dpRateOk n r := by
  unfold State.dpRateOk
  simp only [h.flag, h.get, ne_eq, reduceCtorEq, not_false_eq_true]

theorem stPackets (payload : Nat) : t.stPackets n payload = s.stPackets n payload := by
  unfold State.stPackets State.stRow
  simp only [h.flag, h.get, h.fmt, ne_eq, reduceCtorEq, not_false_eq_true]

theorem payloadOk (payload : Nat) : t.payloadOk n payload = s.payloadOk n payload := by
  unfold State.payloadOk
  simp only [h.flag, h.get, ne_eq, reduceCtorEq, not_false_eq_true]

theorem queueRateOk (q type payload : Nat) (r : Nat × Nat × Nat × Nat) :
    t.queueRateOk n q type payload r = s.queueRateOk n q type payload r := by
  unfold State.queueRateOk
  simp only [h.flag, h.get, h.getE, h.fmt, h.stPackets, ne_eq, reduceCtorEq, not_false_eq_true]

theorem stRateOk (r : Nat × Nat × Nat × Nat) : t.stRateOk n r = s.stRateOk n r := by
  unfold State.stRateOk
  rw [h.stQueues]
  cases s.stQueues n with
  | nil => rfl
  | cons q qs => simp only [h.get, h.payloadOk, h.fmt, h.queueRateOk, ne_eq, reduceCtorEq, not_false_eq_true]

theorem familyOk : t.familyOk n = s.familyOk n := by
  unfold State.familyOk
  simp only [h.get, h.running, h.rate, ne_eq, reduceCtorEq, not_false_eq_true]

theorem startErr (onAir : Bool) : t.startErr n onAir = s.startErr n onAir := by
  unfold State.startErr State.modeStarts
  simp only [h.mode, h.raster, h.phaseOk, h.pairOk, h.reserveOk, h.destsFree, h.sdiRateOk, h.dpRateOk, h.stRateOk,
    h.familyOk, h.get, ne_eq, reduceCtorEq, not_false_eq_true]

theorem runErr (onAir : Bool) : t.runErr n onAir = s.runErr n onAir := by
  unfold State.runErr
  rw [h.hst, h.startErr]

omit h in
theorem trans {u : State} (h : SameStart s t) (k : SameStart t u) : SameStart s u where
  others := by rw [k.others, h.others]
  rd i hc hs := (k.rd i hc hs).trans (h.rd i hc hs)
  hst n := (k.hst n).trans (h.hst n)

end SameStart

/-- Each check has a number below 16. -/
theorem startErr_lt (s : State) (n : Nat) (onAir : Bool) : s.startErr n onAir < 16 := by
  unfold State.startErr
  split
  · decide
  · split
    · decide
    · split_ifs <;> decide

/-! ### The write of HDn_CTRL (R149, R151) -/

abbrev ctrlKey (n : Nat) : Key := (.HD_CTRL, [n])

section
variable {s : State} {o : Origin} {n : Fin 16} {v w : Word}

theorem sameStart_store (s : State) (n : Nat) (w : Word) : SameStart s (s.store (ctrlKey n) w) where
  others := by
    unfold State.store
    rw [show waits (regDef (ctrlKey n).1) = false from rfl, Bool.not_false, if_pos rfl]
    split <;> rfl
  rd k hk _ := rd_store_ne fun e => hk (congrArg Prod.fst e)
  hst m := congrArg (fun w => bits w 2 0) (rd_store_ne (k := ctrlKey n) (j := (.HD_STAT, [m])) fun e => by cases e)

theorem sameStart_setErr (s : State) (n e : Nat) : SameStart s (s.set (F.HD_STAT_START_ERR n) e) where
  others := rfl
  rd k _ hk := rd_wr_ne _ _ fun e => hk (congrArg Prod.fst e)
  hst m := get_set_ne _ _ _ _ (by exact (by decide : 7 < 32)) (.inr (.inl (by exact (by decide : 2 < 4))))

theorem free_ctrlKey (s : State) (n : Nat) : ∀ f ∈ (regDef (ctrlKey n).1).fields, Free s (ctrlKey n) f :=
  free_fields s (by exact (by decide : ∀ f ∈ (regDef .HD_CTRL).fields, f.app ≠ .lock ∧ f.app ≠ .stop ∧ f.acc ≠ .w1))

/-- A bit that the mask of a write names is taken, and another stays. -/
def maskedBit (v old : Word) (i : Nat) : Nat := if v.getLsbD (16 + i) then bits v i i else bits old i i

/-- A write of HDn_CTRL that reaches it: what the block makes of the word, of which each bit is judged by its mask. -/
theorem keyWrite_ctrl (h : Reaches s o (ctrlKey n.val) v) (hm : bits v 31 16 ≠ 0) : ∃ m x new,
    bits new 0 0 = maskedBit v (s.rd (ctrlKey n.val)) 0 ∧ bits new 1 1 = maskedBit v (s.rd (ctrlKey n.val)) 1 ∧
    s.keyWrite o (ctrlKey n.val) v =
      ((s.withMarks m).takes (orgOf o) (ctrlKey n.val) (s.rd (ctrlKey n.val)) new v).withLog x := by
  have he : emptyMask (.reg (ctrlKey n.val)) v 15 = false := by
    show (15 == 15 && isMw (regDef .HD_CTRL) && bits v 31 16 == 0) = false
    rw [beq_eq_false_iff_ne.mpr hm, Bool.and_false]
  obtain ⟨m, x, hk⟩ := keyWrite_takes h (addr_HD_CTRL n) he rfl Reg.noConfusion (taken_of _ Reg.noConfusion Reg.noConfusion)
    (judgeFields_free (free_ctrlKey s n.val)) rfl
  have hbit {f : FieldDef} (hf : f ∈ (regDef .HD_CTRL).fields) (i : Nat) (hi : i < 16) (hfi : f = fd i i .mw .imm 0) :
      bits (s.judgeFields (ctrlKey n.val) v true).word i i = maskedBit v (s.rd (ctrlKey n.val)) i := by
    subst hfi
    exact (bits_judgeFields (free_ctrlKey s n.val) rfl hf (.inr rfl)).trans (bits_asked_mask (d := regDef .HD_CTRL) _ v rfl hi)
  exact ⟨m, x, _, hbit (f := fd 0 0 .mw .imm 0) (by decide) 0 (by decide) rfl, hbit (f := fd 1 1 .mw .imm 0) (by decide) 1 (by decide) rfl, hk⟩

end

theorem not_asksZero {v : Word} {i : Nat} (h : asksOne v i = true) : asksZero v i = false := by
  unfold asksOne at h
  unfold asksZero
  cases hb : nbit v.toNat i with
  | false =>
    rw [hb, Bool.and_false] at h
    cases h
  | true => rw [Bool.not_true, Bool.and_false]

section
variable {y : State} {org : Org} {n e : Nat} {old new v : Word}

theorem takes_of_command {k : Key} {z : State} {w : Word} {j : Judge} (h : y.command org k old new v = (z, w, j)) :
    y.takes org k old new v = ((z.store k w).after org k old w v).refuse (keyHdr k) j org := by
  unfold State.takes
  rw [h]

/-- What follows the store of a write of RUN = 1. -/
theorem after_run (z : State) (h1 : asksOne v 0 = true) : z.after org (ctrlKey n) old new v =
    if z.runErr n (nbit new.toNat 1) = some 0 then z.startHead n else z := by
  show (if asksOne v 0 = true ∧ z.runErr n (nbit new.toNat 1) = some 0 then z.startHead n
    else if asksZero v 0 = true then z.stopHead n else z) = _
  simp only [h1, not_asksZero h1, true_and, Bool.false_eq_true, if_false]

/-- A write of RUN = 1 where the checks pass is stored, and the head starts. -/
theorem takes_run_starts (h1 : asksOne v 0 = true) (hr : y.runErr n (nbit new.toNat 1) = some 0) :
    y.takes org (ctrlKey n) old new v = (y.store (ctrlKey n) new).startHead n := by
  have hc : y.command org (ctrlKey n) old new v = (y, new, .ok) := (if_pos h1).trans (hr ▸ rfl)
  rw [takes_of_command hc, after_run _ h1, (sameStart_store y n new).runErr, hr]
  rfl

/-- A write of RUN = 1 on a head that starts or runs is stored. -/
theorem takes_run_idle (h1 : asksOne v 0 = true) (hr : y.runErr n (nbit new.toNat 1) = none) :
    y.takes org (ctrlKey n) old new v = y.store (ctrlKey n) new := by
  have hc : y.command org (ctrlKey n) old new v = (y, new, .ok) := (if_pos h1).trans (hr ▸ rfl)
  rw [takes_of_command hc, after_run _ h1, (sameStart_store y n new).runErr, hr]
  rfl

theorem nbit_keepBit {old new : Word} : nbit (keepBit old new 0).toNat 1 = nbit new.toNat 1 := by
  have h (w : Word) : nbit w.toNat 1 = (bits w 1 1 == 1) := rfl
  rw [h, h, keepBit, bits_setBits_ne _ _ _ _ _ _ (by decide) (.inr (by decide))]

/-- A write of RUN = 1 that is refused leaves RUN and the head, shows the number of the check, and is counted. -/
theorem takes_run_refused (h1 : asksOne v 0 = true) (hr : y.runErr n (nbit new.toNat 1) = some e) (he : e ≠ 0) :
    y.takes org (ctrlKey n) old new v =
      (((y.set (F.HD_STAT_START_ERR n) e).store (ctrlKey n) (keepBit old new 0)).count ⟨(.xx_REFUSED, [13, n]), 15, 0⟩ 1) := by
  have hc : y.command org (ctrlKey n) old new v = (y.set (F.HD_STAT_START_ERR n) e, keepBit old new 0, .quiet) := by
    refine (if_pos h1).trans ?_
    dsimp only [List.headD_cons]
    rw [hr]
    cases e with
    | zero => exact absurd rfl he
    | succ e => rfl
  have hne : ((y.set (F.HD_STAT_START_ERR n) e).store (ctrlKey n) (keepBit old new 0)).runErr n (nbit (keepBit old new 0).toNat 1) ≠ some 0 := by
    rw [(sameStart_store _ n _).runErr, (sameStart_setErr y n e).runErr, nbit_keepBit, hr]
    exact fun h => he (Option.some.inj h)
  rw [takes_of_command hc, after_run _ h1, if_neg hne]
  rfl

/-- A write of RUN = 0 is stored, and stops the head. -/
theorem takes_stop (h0 : asksZero v 0 = true) (h1 : asksOne v 0 = false) :
    y.takes org (ctrlKey n) old new v = (y.store (ctrlKey n) new).stopHead n := by
  have hn : ¬ asksOne v 0 = true := by rw [h1]; decide
  have hc : y.command org (ctrlKey n) old new v = (y, new, .ok) := if_neg hn
  rw [takes_of_command hc]
  exact (if_neg fun h => hn h.1).trans (if_pos h0)

end

end Sys2Proof.Machine

/-! PROOF. The start and the stop of a head (O28; R149 to R151): how its state moves, and what a start notes of its instant and its frame. -/

namespace Sys2Proof.Machine

/-! ### The state of a head (R149, R151) -/

section
variable {s : State} {n m st : Nat}

theorem hst_setHst (h : st < 8) : (s.setHst n st).hst n = st := by
  unfold State.setHst
  split
  · assumption
  · exact ((only_event ..).field _ .HD_STAT rfl rfl).trans ((get_set_self _ _ _ (by exact (by decide : 2 < 32))).trans (Nat.mod_eq_of_lt h))

/-- A change of a head's state changes no other field of HD_STAT. -/
theorem get_setHst_ne {f : Fld} (hk : f.key.1 = .HD_STAT) (hf : f.key ≠ (.HD_STAT, [n]) ∨ 2 < f.lo) : (s.setHst n st).get f = s.get f := by
  unfold State.setHst
  split
  · rfl
  · refine ((only_event ..).field _ .HD_STAT hk rfl).trans (Eq.trans ?_ ((only_withdrawHead s n st).field _ .HD_STAT hk rfl))
    exact get_set_ne _ _ _ _ (by exact (by decide : 2 < 32)) (hf.imp_right .inr)

theorem hst_moveHead (h : st < 8) : (s.moveHead n st).hst n = st := by
  have ht : Only [.heads, .engines, .groups, .layers, .pls, .cues]
      (some [.CE_CDET, .CE_CSTAT, .CE_L_FENCE_STAT, .CE_L_SHOWN_HI, .CE_L_SHOWN_LO, .CE_PL_CSTAT]) (s.setHst n st) (s.moveHead n st) := by
    unfold State.moveHead
    extract_lets was y z
    have hz : Only [.heads, .engines, .groups, .layers, .pls, .cues]
        (some [.CE_CDET, .CE_CSTAT, .CE_L_FENCE_STAT, .CE_L_SHOWN_HI, .CE_L_SHOWN_LO, .CE_PL_CSTAT]) y z :=
      Only.ite (((only_leaveActive y n).widen (by decide)).then (only_cancelPl ..) rfl) (Only.refl y)
    exact Only.ite (hz.then (only_dropPending ..) rfl) hz
  exact (ht.field _ .HD_STAT rfl rfl).trans (hst_setHst h)

/-- A stopped head that starts changes its state alone. -/
theorem moveHead_starts (h : s.hst n = 0) : s.moveHead n 1 = s.setHst n 1 := by
  unfold State.moveHead
  simp [h]

/-- A head that enters STOPPED is stopped, and no stop of it is pending. -/
theorem enterStopped_stops : (s.enterStopped n).hst n = 0 ∧ ((s.enterStopped n).head n).stopPending = false := by
  unfold State.enterStopped
  extract_lets h y0 y1 y2 y3
  have h1 : y1.hst n = 0 := ((only_latch ..).field _ .HD_STAT rfl rfl).trans (hst_moveHead (by decide))
  have h2 : y2.hst n = 0 := ((((only_headEvent y1 n 10 h.line h.frame).then (only_endHeadWaits ..) rfl).widen (by decide)).then
    (B := [.pls]) (A := [.heads, .cues, .pls]) (R := some [.CE_PL_CSTAT, .CK_STAT]) (only_hidePl ..) rfl).field _ .HD_STAT rfl rfl |>.trans h1
  have h3 : y3.hst n = 0 := ((Only.ite (Only.refl y2) (only_destsResume y2 n)).field _ .HD_STAT rfl rfl).trans h2
  exact ⟨h3, congrArg HeadSt.stopPending (head_updHead ..)⟩

/-- The checks of a start leave the state of every head, and START_ERR. -/
theorem get_startCheck155 {f : Fld} (hk : f.key.1 = .HD_STAT) (hf : f.hi < 8) : (s.startCheck155 n).get f = s.get f := by
  have hset (y : State) (v : Nat) : (y.set (F.HD_STAT_EMPTY n) v).get f = y.get f :=
    get_set_ne _ _ _ _ (by exact (by decide : 8 < 32)) (.inr (.inl hf))
  have herr (y : State) (c : CommitSet) : (y.latchMapErr c).get f = y.get f := (only_latchMapErr ..).field _ .HD_STAT hk rfl
  unfold State.startCheck155
  extract_lets h y
  have hy : y.get f = s.get f := by
    subst y
    split
    · rename_i c _
      extract_lets r x
      have hx : x.get f = s.get f := herr s c
      split
      · exact hx
      · exact ((only_cancelSet ..).field _ .HD_STAT hk rfl).trans hx
    · rfl
  clear_value y
  split
  · exact (hset ..).trans hy
  · rename_i c _
    extract_lets r x c' x1 x2
    have hx : x.get f = s.get f := (herr y c).trans hy
    have hd : Only [.layers] (some [.CE_L_FENCE_STAT, .CE_L_SHOWN_HI, .CE_L_SHOWN_LO]) x x1 :=
      Only.foldl (Only.refl x) fun y d h => h.then (only_dropLayer y (n / 2) d.m) rfl
    split
    · exact ((only_setReport ..).field _ .HD_STAT hk rfl).trans ((hset x 0).trans hx)
    · refine ((only_latch ..).field _ .HD_STAT hk rfl).trans ((hset x2 1).trans ?_)
      exact (hd.field _ .HD_STAT hk rfl).trans hx

end

/-! ### The start of a head (R149, R150) -/

/-- What leaves the raster, the phase and the count leaves the first frame that a head could start with. -/
theorem Only.firstFrame {A : List Area} {R : List Reg} {s t : State} (h : Only A (some R) s t) (hA : A.contains .tb = false)
    (hr : R.contains .HD_RASTER = false) (hp : R.contains .HD_PHASE = false) (n : Nat) : t.firstFrame n = s.firstFrame n := by
  have htb : t.tb = s.tb := h.same .tb (by simpa using hA)
  unfold State.firstFrame State.frameAfter State.raster State.delay State.fmt State.rate State.tai
  rw [h.field _ .HD_RASTER rfl hr, h.field (F.HD_RASTER_RATE n) .HD_RASTER rfl hr, h.field _ .HD_PHASE rfl hp,
    h.field (F.HD_PHASE_SAMPLES n) .HD_PHASE rfl hp, htb]

/-- A head as its start is noted: the instant, and the first frame. -/
abbrev HeadSt.noted (h : HeadSt) : Nat × Nat := (h.startTick, h.startFrame)

section
variable {s : State} {n f : Nat}

/-- The actions of a deadline leave what is noted of a start. -/
theorem noted_deadlineActs : ((s.deadlineActs n f).head n).noted = (s.head n).noted := by
  unfold State.deadlineActs
  split
  · rfl
  · rename_i c _
    extract_lets old y0 y1
    have h0 : Only [.layers] (some []) s y0 := Only.foldl (Only.refl s) fun y d h => h.then (only_layerDeadline ..) rfl
    have h1 : Only [.irqOwed, .eff, .waiting, .dts, .layers] (some [.xx_STATUS]) s y1 :=
      Only.ite (h0.widen (by decide)) ((h0.widen (by decide)).then (only_latchItems ..) rfl)
    have hh : y1.heads = s.heads := h1.same .heads (by decide)
    rw [head_updHead, head_of s y1 hh]

/-- A head that is aimed at a frame starts with it. -/
theorem noted_aimHead : ((s.aimHead n f).head n).noted = ((s.head n).startTick, f) := by
  unfold State.aimHead
  extract_lets y
  have hy : (y.head n).noted = ((s.head n).startTick, f) := by
    rw [show y.head n = _ from head_updHead ..]
  split
  · rw [head_updHead]
    exact noted_deadlineActs.trans hy
  · exact hy

/-- The state of a head that starts, before its raster is taken. -/
def State.admitted (s : State) (n : Nat) : State := (((s.set (F.HD_STAT_START_ERR n) 0).wake [n / 2, 8]).startCheck155 n).moveHead n 1

theorem get_admitted {g : Fld} (h : s.hst n = 0) (hk : g.key.1 = .HD_STAT) (hg : g.hi < 8) (hne : g.key ≠ (.HD_STAT, [n]) ∨ 2 < g.lo) :
    (s.admitted n).get g = (s.set (F.HD_STAT_START_ERR n) 0).get g := by
  have hb {g : Fld} (hk : g.key.1 = .HD_STAT) (hg : g.hi < 8) :
      (((s.set (F.HD_STAT_START_ERR n) 0).wake [n / 2, 8]).startCheck155 n).get g = (s.set (F.HD_STAT_START_ERR n) 0).get g :=
    (get_startCheck155 hk hg).trans ((only_wake ..).field _ .HD_STAT hk rfl)
  have h0 : (((s.set (F.HD_STAT_START_ERR n) 0).wake [n / 2, 8]).startCheck155 n).hst n = 0 :=
    (hb rfl (by exact (by decide : 2 < 8))).trans (((sameStart_setErr s n 0).hst n).trans h)
  unfold State.admitted
  rw [moveHead_starts h0, get_setHst_ne hk hne]
  exact hb hk hg

/-- What a start does once the head is in STARTING. -/
theorem only_startHead_tail (s : State) (n : Nat) : Only [.free, .irqOwed, .eff, .waiting, .heads, .dts, .layers, .pls, .cks]
    (some [.HD_PHASE, .HD_RASTER, .CE_PL_S_STAT, .CK_RUN, .CK_STAT, .xx_STATUS]) (s.admitted n) (s.startHead n) := by
  unfold State.startHead
  extract_lets y0 y1 last y2 p y3
  have h2 : Only [.heads] (some [.HD_PHASE, .HD_RASTER]) y1 y2 := Only.ite (Only.refl y1) (only_loadPhase y1 n)
  exact (((h2.then (only_updHead ..) rfl).widen (by decide)).then (only_aimHead ..) rfl).then (only_plFrameScan ..) rfl

/-- A stopped head that starts is in STARTING without an error, and no other head changes its state. -/
theorem hst_startHead (h : s.hst n = 0) : (s.startHead n).hst n = 1 ∧ (s.startHead n).get (F.HD_STAT_START_ERR n) = 0 ∧
    ∀ m, m ≠ n → (s.startHead n).hst m = s.hst m := by
  refine ⟨?_, ?_, fun m hm => ?_⟩
  · exact ((only_startHead_tail s n).field _ .HD_STAT rfl rfl).trans (hst_moveHead (by decide))
  · rw [(only_startHead_tail s n).field _ .HD_STAT rfl rfl, get_admitted h rfl (by exact (by decide : 7 < 8)) (.inr (by exact (by decide : 2 < 4)))]
    exact get_set_self _ _ _ (by exact (by decide : 7 < 32))
  · have hne : (F.HD_STAT_STATE m).key ≠ (.HD_STAT, [n]) := fun e => hm (by injection e with _ e; injection e)
    refine ((only_startHead_tail s n).field _ .HD_STAT rfl rfl).trans ?_
    rw [get_admitted h rfl (by exact (by decide : 2 < 8)) (.inl hne)]
    exact (sameStart_setErr s n 0).hst m

/-- A start notes its instant, and the first frame that starts 2 ms or more after it. -/
theorem noted_startHead : ((s.startHead n).head n).noted = (s.tick, (s.startHead n).firstFrame n) := by
  unfold State.startHead
  extract_lets y0 y1 last y2 p y3
  have h0 : Only [.ps] (some [.HD_STAT, .PS_DOMAINS]) s y0 := ((only_set .HD_STAT rfl).widen (by decide)).then (only_wake ..) rfl
  have h1 : y1.tick = s.tick := (((only_moveHead ..).same .tick (by decide)).trans ((only_startCheck155 y0 n).same .tick (by decide))).trans
    (h0.same .tick (by decide))
  have h2 : y2.tick = s.tick := ((Only.ite (Only.refl y1) (only_loadPhase y1 n)).same .tick (by decide)).trans h1
  have h3 : (y3.head n).startTick = y2.tick := by
    rw [show y3.head n = _ from head_updHead ..]
  have ha : (y3.aimHead n (y3.firstFrame n)).firstFrame n = y3.firstFrame n := (only_aimHead ..).firstFrame rfl rfl rfl n
  have hs : ((y3.aimHead n (y3.firstFrame n)).plFrameScan n).firstFrame n = (y3.aimHead n (y3.firstFrame n)).firstFrame n :=
    (only_plFrameScan ..).firstFrame rfl rfl rfl n
  rw [head_of _ _ ((only_plFrameScan ..).same .heads (by decide)), noted_aimHead, hs, ha, h3, h2]

end

/-! ### A write of RUN = 1 (R149, R153) -/

/-- The word that HEAD_START writes: RUN with its mask bit, and ON_AIR as the word gives it. -/
def runWord (v : Word) : Word := setBits (setBits v 16 16 1) 0 0 1

theorem nbit_toNat (v : Word) (i : Nat) : nbit v.toNat i = v.getLsbD i := (Nat.testBit_eq_decide_div_mod_eq ..).symm

theorem bits_bit (v : Word) (i : Nat) : bits v i i = (v.getLsbD i).toNat := by
  rw [← nbit_toNat]
  unfold bits nbit
  rw [Nat.add_sub_cancel_left, Nat.pow_one]
  rcases Nat.mod_two_eq_zero_or_one (v.toNat / 2 ^ i) with h | h <;> rw [h] <;> rfl

theorem getLsbD_runWord (v : Word) (i : Nat) : (runWord v).getLsbD i = if i = 0 ∨ i = 16 then true else v.getLsbD i := by
  unfold runWord
  rw [getLsbD_setBits _ _ _ _ _ (by decide), getLsbD_setBits _ _ _ _ _ (by decide)]
  by_cases h0 : i = 0
  · subst h0
    rfl
  · by_cases h16 : i = 16
    · subst h16
      rfl
    · rw [if_neg (by omega), if_neg (by omega), if_neg (by omega)]

theorem mask_runWord (v : Word) : bits (runWord v) 31 16 ≠ 0 := by
  intro h
  have hb : (bits (runWord v) 31 16).testBit 0 = true := by
    rw [testBit_bits, getLsbD_runWord]
    rfl
  rw [h] at hb
  cases hb

theorem asksOne_runWord (v : Word) : asksOne (runWord v) 0 = true := by
  unfold asksOne
  rw [nbit_toNat, nbit_toNat, getLsbD_runWord, getLsbD_runWord]
  rfl

/-- ON_AIR as a write of HEAD_START leaves it. -/
def State.onAirOf (s : State) (n : Nat) (v : Word) : Bool := if v.getLsbD 17 then v.getLsbD 1 else s.flag (F.HD_CTRL_ON_AIR n)

section
variable {s : State} {o : Origin} {n : Fin 16} {v : Word}

/-- A write of RUN = 1 that reaches its head: what the block makes of a word with RUN and with ON_AIR as the write asks for it. -/
theorem keyWrite_run (h : Reaches s o (ctrlKey n.val) (runWord v)) : ∃ m x new, bits new 0 0 = 1 ∧ nbit new.toNat 1 = s.onAirOf n.val v ∧
    s.keyWrite o (ctrlKey n.val) (runWord v) =
      ((s.withMarks m).takes (orgOf o) (ctrlKey n.val) (s.rd (ctrlKey n.val)) new (runWord v)).withLog x := by
  obtain ⟨m, x, new, h0, h1, he⟩ := keyWrite_ctrl h (mask_runWord v)
  refine ⟨m, x, new, ?_, ?_, he⟩
  · rw [h0, maskedBit, getLsbD_runWord, bits_bit, getLsbD_runWord]
    rfl
  · have hbit : nbit new.toNat 1 = (bits new 1 1 == 1) := by
      rw [nbit_toNat, bits_bit]
      cases new.getLsbD 1 <;> rfl
    have hflag : s.flag (F.HD_CTRL_ON_AIR n.val) = (bits (s.rd (ctrlKey n.val)) 1 1 == 1) := by
      show (bits (s.rd (ctrlKey n.val)) 1 1 != 0) = _
      rw [bits_bit]
      cases (s.rd (ctrlKey n.val)).getLsbD 1 <;> rfl
    have h17 : (runWord v).getLsbD (16 + 1) = v.getLsbD 17 := (getLsbD_runWord v 17).trans (if_neg (by omega))
    have hv : (runWord v).getLsbD 1 = v.getLsbD 1 := (getLsbD_runWord v 1).trans (if_neg (by omega))
    rw [hbit, h1, maskedBit, State.onAirOf, h17, bits_bit (runWord v), hv]
    split
    · cases v.getLsbD 1 <;> rfl
    · exact hflag.symm

theorem runErr_stopped {n : Nat} {b : Bool} (h : s.hst n = 0) : s.runErr n b = some (s.startErr n b) := by
  unfold State.runErr
  rw [h]
  rfl

theorem runErr_stopping {n : Nat} {b : Bool} (h : s.hst n = 3) : s.runErr n b = some 8 := by
  unfold State.runErr
  rw [h]
  rfl

theorem runErr_held {n : Nat} {b : Bool} (h : 4 ≤ s.hst n) : s.runErr n b = some 1 := by
  unfold State.runErr
  split
  · omega
  · omega
  · omega
  · omega
  · rfl

theorem runErr_active {n : Nat} {b : Bool} (h : s.hst n = 1 ∨ s.hst n = 2) : s.runErr n b = none := by
  unfold State.runErr
  rcases h with h | h <;> rw [h] <;> rfl

/-- What HEAD_START does, from what its write makes. -/
theorem headStart_does {P : State → Prop} (h : P (s.keyWrite o (ctrlKey n.val) (runWord v)).finish) : Does (.headStart o n v) s P :=
  Does.of (f := fun s => s.keyWrite o (ctrlKey n.val) (runWord v)) rfl h

theorem headStart_starts (h : ∀ w, Reaches s o (ctrlKey n.val) w) (h0 : s.hst n.val = 0) (he : s.startErr n.val (s.onAirOf n.val v) = 0) :
    Does (.headStart o n v) s fun t =>
      t.hst n.val = 1 ∧ t.get (F.HD_STAT_START_ERR n.val) = 0 ∧ t.get (F.HD_CTRL_RUN n.val) = 1 ∧ (t.head n.val).startTick = s.tick ∧
      (t.head n.val).startFrame = t.firstFrame n.val ∧ ∀ m, m < 16 → m ≠ n.val → t.hst m = s.hst m := by
  obtain ⟨m, x, new, hrun, hair, hk⟩ := keyWrite_run (h (runWord v))
  have hr : (s.withMarks m).runErr n.val (nbit new.toNat 1) = some 0 := by
    rw [hair]
    exact (runErr_stopped (s := s.withMarks m) h0).trans (congrArg some he)
  rw [takes_run_starts (asksOne_runWord v) hr] at hk
  have hz : SameStart (s.withMarks m) ((s.withMarks m).store (ctrlKey n.val) new) := sameStart_store ..
  obtain ⟨hst, herr, hothers⟩ := hst_startHead ((hz.hst n.val).trans h0)
  have hnoted := noted_startHead (s := (s.withMarks m).store (ctrlKey n.val) new) (n := n.val)
  have hfirst : (s.keyWrite o (ctrlKey n.val) (runWord v)).finish.firstFrame n.val =
      (((s.withMarks m).store (ctrlKey n.val) new).startHead n.val).firstFrame n.val := by
    rw [(only_finish _).firstFrame rfl rfl rfl, hk]
    rfl
  have hhead : (s.keyWrite o (ctrlKey n.val) (runWord v)).finish.head n.val =
      (((s.withMarks m).store (ctrlKey n.val) new).startHead n.val).head n.val := by
    refine head_of _ _ ?_ _
    rw [heads_finish, hk, heads_withLog]
  refine headStart_does ⟨?_, ?_, ?_, ?_, ?_, fun j _ hj => ?_⟩
  · refine Eq.trans ?_ hst
    unfold State.hst
    rw [get_finish, hk, get_withLog]
  · rw [get_finish, hk, get_withLog]
    exact herr
  · rw [get_finish, hk, get_withLog, (only_startHead ..).field _ .HD_CTRL rfl rfl]
    refine Eq.trans ?_ hrun
    exact congrArg (fun w => bits w 0 0) (rd_store Reg.noConfusion Reg.noConfusion)
  · rw [hhead]
    exact (congrArg Prod.fst hnoted).trans hz.tick
  · rw [hhead, hfirst]
    exact congrArg Prod.snd hnoted
  · refine Eq.trans ?_ ((hothers j hj).trans (hz.hst j))
    unfold State.hst
    rw [get_finish, hk, get_withLog]

theorem headStart_refused {e : Nat} (h : ∀ w, Reaches s o (ctrlKey n.val) w) (hr : s.runErr n.val (s.onAirOf n.val v) = some e) (he : e ≠ 0)
    (hlt : e < 16) : Does (.headStart o n v) s fun t =>
      t.get (F.HD_STAT_START_ERR n.val) = e ∧ t.get (F.HD_CTRL_RUN n.val) = s.get (F.HD_CTRL_RUN n.val) ∧ t.hst n.val = s.hst n.val ∧
      t.get ⟨(.xx_REFUSED, [13, n.val]), 15, 0⟩ = min (s.get ⟨(.xx_REFUSED, [13, n.val]), 15, 0⟩ + 1) 65535 := by
  obtain ⟨m, x, new, -, hair, hk⟩ := keyWrite_run (h (runWord v))
  rw [takes_run_refused (asksOne_runWord v) (e := e) (by rw [hair]; exact hr) he] at hk
  have hz : SameStart (s.withMarks m) (((s.withMarks m).set (F.HD_STAT_START_ERR n.val) e).store (ctrlKey n.val)
      (keepBit (s.rd (ctrlKey n.val)) new 0)) := (sameStart_setErr (s.withMarks m) n.val e).trans (sameStart_store ..)
  refine headStart_does ⟨?_, ?_, ?_, ?_⟩
  · rw [get_finish, hk, get_withLog, (only_count .xx_REFUSED rfl).field _ .HD_STAT rfl rfl,
      (only_store_plain (k := ctrlKey n.val) rfl).field _ .HD_STAT rfl rfl]
    exact (get_set_self _ _ _ (by exact (by decide : 7 < 32))).trans (Nat.mod_eq_of_lt hlt)
  · rw [get_finish, hk, get_withLog, (only_count .xx_REFUSED rfl).field _ .HD_CTRL rfl rfl]
    refine (congrArg (fun w => bits w 0 0) (rd_store Reg.noConfusion Reg.noConfusion)).trans ?_
    refine (bits_setBits_self _ _ _ _ (by decide)).trans (Nat.mod_eq_of_lt ?_)
    exact get_lt s (F.HD_CTRL_RUN n.val)
  · unfold State.hst
    rw [get_finish, hk, get_withLog, (only_count .xx_REFUSED rfl).field _ .HD_STAT rfl rfl]
    exact hz.hst n.val
  · rw [get_finish, hk, get_withLog, get_count_self _ _ _ (by exact (by decide : 15 < 32)), hz.get _ Reg.noConfusion Reg.noConfusion]
    rfl

theorem headStart_active (h : ∀ w, Reaches s o (ctrlKey n.val) w) (hst : s.hst n.val = 1 ∨ s.hst n.val = 2) : Does (.headStart o n v) s fun t =>
    t.hst n.val = s.hst n.val ∧ t.get (F.HD_CTRL_RUN n.val) = 1 ∧ t.heads = s.heads := by
  obtain ⟨m, x, new, hrun, hair, hk⟩ := keyWrite_run (h (runWord v))
  rw [takes_run_idle (asksOne_runWord v) (runErr_active (s := s.withMarks m) hst)] at hk
  have hz : SameStart (s.withMarks m) ((s.withMarks m).store (ctrlKey n.val) new) := sameStart_store ..
  refine headStart_does ⟨?_, ?_, ?_⟩
  · unfold State.hst
    rw [get_finish, hk, get_withLog]
    exact hz.hst n.val
  · rw [get_finish, hk, get_withLog]
    refine Eq.trans ?_ hrun
    exact congrArg (fun w => bits w 0 0) (rd_store Reg.noConfusion Reg.noConfusion)
  · rw [heads_finish, hk, heads_withLog, hz.heads]
    rfl

end

/-! ### A write of RUN = 0, and the end of a stop (R151) -/

/-- The word that HEAD_STOP writes: the mask bit of RUN. -/
abbrev stopWord : Word := w32 0x10000

section
variable {s : State} {o : Origin} {n : Fin 16}

/-- A write of RUN = 0 that reaches its head stops it, and RUN is 0 behind it. -/
theorem keyWrite_stop (h : Reaches s o (ctrlKey n.val) stopWord) : ∃ z : State, (∀ m, z.hst m = s.hst m) ∧ z.heads = s.heads ∧
    z.pos n.val = s.pos n.val ∧ z.get (F.HD_CTRL_RUN n.val) = 0 ∧
    (∀ f, (s.keyWrite o (ctrlKey n.val) stopWord).finish.get f = (z.stopHead n.val).get f) ∧
    (s.keyWrite o (ctrlKey n.val) stopWord).finish.heads = (z.stopHead n.val).heads := by
  obtain ⟨m, x, new, hrun, -, hk⟩ := keyWrite_ctrl h (by decide)
  rw [takes_stop (by decide) (by decide)] at hk
  have hz : SameStart (s.withMarks m) ((s.withMarks m).store (ctrlKey n.val) new) := sameStart_store ..
  refine ⟨(s.withMarks m).store (ctrlKey n.val) new, hz.hst, hz.heads, hz.pos n.val, ?_, fun f => ?_, ?_⟩
  · refine Eq.trans (congrArg (fun w => bits w 0 0) (rd_store Reg.noConfusion Reg.noConfusion)) (hrun.trans ?_)
    rw [maskedBit, if_pos (by decide)]
    decide
  · rw [get_finish, hk, get_withLog]
  · rw [heads_finish, hk, heads_withLog]

/-- The head's stop frame (R151). -/
abbrev State.frameNow (s : State) (n : Nat) : Nat := ((s.pos n).getD (0, 1, 0)).1

theorem stopHead_starting {n : Nat} (h : s.hst n = 1) : s.stopHead n = s.enterStopped n := by
  unfold State.stopHead
  rw [h]
  rfl

theorem stopHead_running {n : Nat} (h : s.hst n = 2) :
    s.stopHead n = (s.moveHead n 3).updHead n fun x => { x with stopFrame := s.frameNow n } := by
  unfold State.stopHead
  rw [h]
  rfl

theorem stopHead_waits {n : Nat} (h : s.hst n = 4 ∨ s.hst n = 5) (hp : (s.head n).stopPending = false) :
    s.stopHead n = s.updHead n fun x => { x with stopPending := true, stopFrame := s.frameNow n } := by
  unfold State.stopHead
  rcases h with h | h
  · rw [h]
    exact if_neg (by rw [hp]; decide)
  · rw [h]
    exact if_neg (by rw [hp]; decide)

theorem stopHead_idle {n : Nat} (h : s.hst n = 0 ∨ s.hst n = 3) : s.stopHead n = s := by
  unfold State.stopHead
  rcases h with h | h <;> rw [h] <;> rfl

/-- What HEAD_STOP does, from what its write makes. -/
theorem headStop_does {P : State → Prop} (h : P (s.keyWrite o (ctrlKey n.val) stopWord).finish) : Does (.headStop o n) s P :=
  Does.of (f := fun s => s.keyWrite o (ctrlKey n.val) stopWord) rfl h

theorem headStop_starting (h : Reaches s o (ctrlKey n.val) stopWord) (hs : s.hst n.val = 1) :
    Does (.headStop o n) s fun t => t.hst n.val = 0 ∧ t.get (F.HD_CTRL_RUN n.val) = 0 := by
  obtain ⟨z, hst, -, -, hrun, hget, -⟩ := keyWrite_stop h
  rw [stopHead_starting ((hst n.val).trans hs)] at hget
  exact headStop_does ⟨(hget _).trans enterStopped_stops.1, (hget _).trans (((only_enterStopped ..).field _ .HD_CTRL rfl rfl).trans hrun)⟩

theorem headStop_running (h : Reaches s o (ctrlKey n.val) stopWord) (hs : s.hst n.val = 2) : Does (.headStop o n) s fun t =>
    t.hst n.val = 3 ∧ t.get (F.HD_CTRL_RUN n.val) = 0 ∧ (t.head n.val).stopFrame = s.frameNow n.val := by
  obtain ⟨z, hst, -, hpos, hrun, hget, hheads⟩ := keyWrite_stop h
  rw [stopHead_running ((hst n.val).trans hs)] at hget hheads
  refine headStop_does ⟨(hget _).trans (hst_moveHead (by decide)), ?_, ?_⟩
  · exact (hget _).trans (((only_moveHead ..).field _ .HD_CTRL rfl rfl).trans hrun)
  · rw [head_of _ _ hheads, head_updHead, State.frameNow, hpos]

theorem headStop_waits (h : Reaches s o (ctrlKey n.val) stopWord) (hs : s.hst n.val = 4 ∨ s.hst n.val = 5)
    (hp : (s.head n.val).stopPending = false) : Does (.headStop o n) s fun t =>
      t.hst n.val = s.hst n.val ∧ (t.head n.val).stopPending = true ∧ (t.head n.val).stopFrame = s.frameNow n.val := by
  obtain ⟨z, hst, hz, hpos, -, hget, hheads⟩ := keyWrite_stop h
  rw [stopHead_waits (by rwa [hst]) (by rwa [head_of _ _ hz])] at hget hheads
  refine headStop_does ⟨(hget _).trans (hst n.val), ?_, ?_⟩
  · rw [head_of _ _ hheads, head_updHead]
  · rw [head_of _ _ hheads, head_updHead, State.frameNow, hpos]

theorem headStop_idle (h : Reaches s o (ctrlKey n.val) stopWord) (hs : s.hst n.val = 0 ∨ s.hst n.val = 3) :
    Does (.headStop o n) s fun t => t.hst n.val = s.hst n.val ∧ t.heads = s.heads := by
  obtain ⟨z, hst, hz, -, -, hget, hheads⟩ := keyWrite_stop h
  rw [stopHead_idle (by rwa [hst])] at hget hheads
  exact headStop_does ⟨(hget _).trans (hst n.val), hheads.trans hz⟩

theorem headStopped_ends (hs : s.hst n.val = 3) (hd : s.lineStart n.val ((s.head n.val).stopFrame + 1) 1 ≤ s.now) :
    Does (.headStopped n) s fun t => t.hst n.val = 0 ∧ (t.head n.val).stopPending = false := by
  have hdue : s.stopDue n.val = true := by
    unfold State.stopDue
    simp only [hs, decide_eq_true hd]
    rfl
  have he : headStoppedOp n.val s = s.enterStopped n.val := if_pos hdue
  refine Does.of (f := headStoppedOp n.val) rfl ?_
  rw [he]
  refine ⟨(get_finish ..).trans enterStopped_stops.1, ?_⟩
  rw [head_of _ _ (heads_finish _)]
  exact enterStopped_stops.2

theorem headStopped_waits (h : s.stopDue n.val = false) : Does (.headStopped n) s fun t => t.heads = s.heads ∧ t.regs = s.regs := by
  have he : headStoppedOp n.val s = s := if_neg (by rw [h]; decide)
  refine Does.of (f := headStoppedOp n.val) rfl ?_
  rw [he]
  exact ⟨heads_finish _, regs_finish _⟩

end

/-- Settles O28: the start checks do not read what the write of HDn_CTRL stores, so that its command and what follows its store judge it
alike; a start notes its instant and its first frame; and a stop moves the head, or marks it. -/
theorem headsStartAndStop : Obligations.HeadsStartAndStop := by
  unfold Obligations.HeadsStartAndStop
  refine ⟨fun o n v s => ?_, fun o n s => ?_⟩
  · intro onAir refused h
    refine ⟨headStart_starts h, fun e h0 he hne => ?_, fun h3 => ?_, fun h4 => ?_, headStart_active h⟩
    · exact headStart_refused h ((runErr_stopped h0).trans (congrArg some he)) hne (he ▸ startErr_lt ..)
    · exact headStart_refused h (runErr_stopping h3) (by decide) (by decide)
    · exact headStart_refused h (runErr_held h4) (by decide) (by decide)
  · intro f head h
    exact ⟨headStop_starting h, headStop_running h, headStop_waits h, headStop_idle h, headStopped_ends, headStopped_waits⟩

end Sys2Proof.Machine

/-! PROOF. What a change of the timing state, and the selection and the loss of a source, leave of the time base (R107 to R111, R113). -/

namespace Sys2Proof.Machine

/-- What the time base knows of its sources: the PTP ports, the sources, the path delay, and whether the 10 MHz input is good. -/
def TbSt.sources (b : TbSt) : Map Nat PtpPort × Map Nat SrcSt × Int × Bool := (b.ports, b.srcs, b.pathDelay, b.tenOk)

/-- The sources are known as they were. -/
def SameSources (s t : State) : Prop := t.tb.sources = s.tb.sources

/-- The times that an entry to a state st at a tick starts or ends (R110). -/
def TbSt.enters (b : TbSt) (st tick : Nat) : TbSt :=
  { b with holdSince := if st = 7 then tick else b.holdSince, within := if st = 7 ∨ st = 5 then none else b.within }

/-- The time base and TB_STATE once STATE has changed to st: a change of STATE leaves what is not named here (R110, R116). -/
structure Moved (s : State) (st : Nat) (t : State) : Prop where
  tb : ∃ l r, t.tb = { s.tb.enters st s.tick with lockHist := l, restep := r }
  reg : t.rd (.TB_STATE, []) =
    if st = 6 then setBits (setBits (s.rd (.TB_STATE, [])) 3 0 st) 8 8 1 else setBits (s.rd (.TB_STATE, [])) 3 0 st

section
variable {A : List Area} {R : List Reg} {Q : Option (List Reg)} {s t u : State} {st c d : Nat}

theorem SameSources.refl (s : State) : SameSources s s := rfl

theorem SameSources.trans (h : SameSources s t) (k : SameSources t u) : SameSources s u := Eq.trans k h

theorem SameSources.ite {p : Prop} [Decidable p] (h : SameSources s t) (k : SameSources s u) : SameSources s (if p then t else u) := by
  split <;> assumption

theorem tb_only (h : Only A Q s t) (hA : A.contains .tb = false) : t.tb = s.tb := h.same .tb (by simpa using hA)

theorem tick_only (h : Only A Q s t) (hA : A.contains .tick = false) : t.tick = s.tick := h.same .tick (by simpa using hA)

theorem Only.sameSources (h : Only A Q s t) (hA : A.contains .tb = false) : SameSources s t := congrArg TbSt.sources (tb_only h hA)

theorem src_of (h : SameSources s t) (c : Nat) : t.src c = s.src c := congrArg (fun x : Map Nat PtpPort × Map Nat SrcSt × Int × Bool => mget srcD x.2.1 c) h

theorem ptp_of (h : SameSources s t) (p : Nat) : t.ptp p = s.ptp p := congrArg (fun x : Map Nat PtpPort × Map Nat SrcSt × Int × Bool => mget ptpD x.1 p) h

theorem src_tb (h : t.tb = s.tb) (c : Nat) : t.src c = s.src c := src_of (congrArg TbSt.sources h) c

/-! ### A change of TB_STATE.STATE (R110) -/

theorem setTb_same (h : s.get F.TB_STATE_STATE = st) : s.setTb st = s := if_pos h

/-- The first part of a change of STATE: the field, the status event and the device event. -/
def State.shows (s : State) (st : Nat) : State :=
  ((s.set F.TB_STATE_STATE st).latch tbB 1).event 19 (st + ((s.set F.TB_STATE_STATE st).latch tbB 1).get F.TB_STATE_SRC * 16)

theorem only_shows (s : State) (st : Nat) : Only [.irqOwed, .cues, .evt] (some [.TB_STATE, .xx_STATUS, .CU_EVT_OVR]) s (s.shows st) :=
  (((only_set .TB_STATE rfl).widen (by decide)).then (only_latch ..) rfl).then (only_event ..) rfl

theorem rd_shows (s : State) (st : Nat) : (s.shows st).rd (.TB_STATE, []) = setBits (s.rd (.TB_STATE, [])) 3 0 st := by
  unfold State.shows
  rw [(only_event ..).reg _ .TB_STATE rfl rfl, (only_latch ..).reg _ .TB_STATE rfl rfl]
  exact rd_wr_self ..

theorem moved_setTb (h : s.get F.TB_STATE_STATE ≠ st) : Moved s st (s.setTb st) := by
  have hb : (s.shows st).tb = s.tb := tb_only (only_shows s st) rfl
  have ht : (s.shows st).tick = s.tick := tick_only (only_shows s st) rfl
  have hr := rd_shows s st
  unfold State.setTb
  rw [if_neg h]
  extract_lets +onlyGivenNames _ y2
  change y2.tb = s.tb at hb
  change y2.tick = s.tick at ht
  change y2.rd _ = _ at hr
  clear_value y2
  extract_lets +onlyGivenNames b2 y3 b3 y4 r y5 y6 b6 y7
  have h4 : y4.tb = y2.tb.enters st y2.tick ∧ y4.rd (.TB_STATE, []) = y2.rd (.TB_STATE, []) := by
    by_cases h7 : st = 7
    · subst h7
      exact ⟨rfl, rfl⟩
    · by_cases h5 : st = 5
      · subst h5
        exact ⟨rfl, rfl⟩
      · have he : y4 = y2 := (if_neg h5).trans (if_neg h7)
        rw [he, TbSt.enters, if_neg h7, if_neg (not_or.mpr ⟨h7, h5⟩)]
        exact ⟨rfl, rfl⟩
  have h5 : y5.tb = y4.tb ∧ y5.rd (.TB_STATE, []) = y4.rd (.TB_STATE, []) := by
    have ho : Only raiseAreas (some (.TB_CLAMP :: .TB_INC_HI :: .TB_INC_LO :: raiseRegs)) y4 y5 :=
      Only.ite (Only.ite (Only.refl _) ((only_applyInc ..).widen (by decide))) (Only.refl _)
    exact ⟨tb_only ho rfl, ho.reg _ .TB_STATE rfl rfl⟩
  obtain ⟨h4b, h4r⟩ := h4
  obtain ⟨h5b, h5r⟩ := h5
  clear_value y5
  have hreg : y5.rd (.TB_STATE, []) = setBits (s.rd (.TB_STATE, [])) 3 0 st := h5r.trans (h4r.trans hr)
  have htb : y5.tb = s.tb.enters st s.tick := by rw [h5b, h4b, hb, ht]
  by_cases h6 : st = 6
  · rw [if_pos h6]
    have h7b : y7.tb = { s.tb.enters st s.tick with lockHist := [] } := congrArg (fun b : TbSt => { b with lockHist := [] }) htb
    have h7r : y7.rd (.TB_STATE, []) = setBits (setBits (s.rd (.TB_STATE, [])) 3 0 st) 8 8 1 :=
      (rd_wr_self y5 (.TB_STATE, []) _).trans (by rw [hreg])
    split
    · split
      · exact ⟨⟨[], _, h7b⟩, by rw [if_pos h6, h7r]⟩
      · extract_lets +onlyGivenNames b7 y8
        have hg : Only [.heads] (some []) y8 ((List.range 16).foldl letGo y8) :=
          Only.foldl (Only.refl y8) fun y n h => h.then (only_letGo y n) rfl
        have h8 : y8.tb = { s.tb.enters st s.tick with lockHist := [], restep := none } := congrArg (fun b : TbSt => { b with restep := none }) h7b
        exact ⟨⟨[], none, (tb_only hg rfl).trans h8⟩, by rw [if_pos h6, hg.reg _ .TB_STATE rfl rfl]; exact h7r⟩
    · exact ⟨⟨[], _, h7b⟩, by rw [if_pos h6, h7r]⟩
  · rw [if_neg h6]
    exact ⟨⟨_, _, htb⟩, by rw [if_neg h6, hreg]⟩

theorem sameSources_setTb (s : State) (st : Nat) : SameSources s (s.setTb st) := by
  by_cases h : s.get F.TB_STATE_STATE = st
  · rw [setTb_same h]
    exact .refl s
  · obtain ⟨l, r, hb⟩ := (moved_setTb h).tb
    unfold SameSources
    rw [hb]
    rfl

/-- The fields of TB_STATE but STATE and FIRST_LOCK keep their values. -/
theorem get_setTb {hi lo : Nat} (hlo : 3 < lo) (h8 : hi < 8 ∨ 8 < lo) : (s.setTb st).get ⟨(.TB_STATE, []), hi, lo⟩ = s.get ⟨(.TB_STATE, []), hi, lo⟩ := by
  by_cases h : s.get F.TB_STATE_STATE = st
  · rw [setTb_same h]
  · unfold State.get
    rw [(moved_setTb h).reg]
    split
    · rw [bits_setBits_ne _ _ _ _ _ _ (by decide) h8, bits_setBits_ne _ _ _ _ _ _ (by decide) (.inr hlo)]
    · exact bits_setBits_ne _ _ _ _ _ _ (by decide) (.inr hlo)

theorem firstLock_setTb (h : s.get F.TB_STATE_STATE ≠ 6) : (s.setTb 6).get F.TB_STATE_FIRST_LOCK = 1 := by
  unfold State.get
  rw [(moved_setTb h).reg, if_pos rfl]
  exact bits_setBits_self _ _ _ _ (by decide)

theorem within_setTb_acquire (h : s.get F.TB_STATE_STATE ≠ 5) : (s.setTb 5).tb.within = none := by
  obtain ⟨l, r, hb⟩ := (moved_setTb h).tb
  rw [hb]
  rfl

theorem holdSince_setTb_holdover (h : s.get F.TB_STATE_STATE ≠ 7) : (s.setTb 7).tb.holdSince = s.tick := by
  obtain ⟨l, r, hb⟩ := (moved_setTb h).tb
  rw [hb]
  rfl

/-! ### What follows the selected source (R110) -/

theorem follow_cases (s : State) (changed : Bool) : s.follow changed = s ∨ s.follow changed = s.setTb 5 := by
  unfold State.follow
  dsimp only
  split_ifs <;> simp

theorem sameSources_follow (s : State) (changed : Bool) : SameSources s (s.follow changed) := by
  rcases follow_cases s changed with h | h <;> rw [h]
  · exact .refl s
  · exact sameSources_setTb s 5

/-- ACQUIRE stays, and LOCKED does where the source has not changed. -/
theorem follow_stays {b : Bool} (h : s.get F.TB_STATE_STATE = 5 ∨ (s.get F.TB_STATE_STATE = 6 ∧ b = false)) : s.follow b = s := by
  unfold State.follow
  dsimp only
  rcases h with h | ⟨h, rfl⟩ <;> rw [h] <;> simp

/-- FREERUN before the first lock gives way to ACQUIRE. -/
theorem follow_freerun {b : Bool} (hc : s.get F.TB_STATE_SRC ≠ 0) (h : s.get F.TB_STATE_STATE = 4) (hf : s.flag F.TB_STATE_FIRST_LOCK = false) :
    s.follow b = s.setTb 5 := by
  unfold State.follow
  rw [if_neg hc, if_pos h, if_neg (by simp [hf])]

/-! ### The selection of a source (R108) -/

theorem src_updSrc (f : SrcSt → SrcSt) : (s.updSrc c f).src d = if d = c then f (s.src c) else s.src d := mget_nput ..

/-- A selection changes of a source whether it was selected. -/
theorem src_selectSrc : ∃ b, (s.selectSrc c).src d = { s.src d with wasSelected := b } := by
  have hm : ∃ b, (s.updSrc c fun x => { x with wasSelected := true }).src d = { s.src d with wasSelected := b } := by
    rw [src_updSrc]
    split
    · rename_i h
      exact ⟨true, by rw [h]⟩
    · exact ⟨(s.src d).wasSelected, rfl⟩
  unfold State.selectSrc
  extract_lets y0 y1
  have h0 : ∃ b, y0.src d = { s.src d with wasSelected := b } := by
    unfold y0
    split
    · exact ⟨(s.src d).wasSelected, rfl⟩
    · exact hm
  have h1 : y1.tb = (y0.set F.TB_STATE_SRC c).tb := tb_only (only_latch ..) rfl
  obtain ⟨b, h0⟩ := h0
  split
  · exact ⟨b, h0⟩
  · refine ⟨b, Eq.trans ?_ h0⟩
    have hs : y1.tb.srcs = y0.tb.srcs := congrArg TbSt.srcs h1
    exact congrArg (fun m => mget srcD m d) hs

theorem usable_selectSrc : ((s.selectSrc c).src d).usable = (s.src d).usable := by
  obtain ⟨b, h⟩ := src_selectSrc (s := s) (c := c) (d := d)
  rw [h]

theorem lost_selectSrc : ((s.selectSrc c).src d).lost = (s.src d).lost := by
  obtain ⟨b, h⟩ := src_selectSrc (s := s) (c := c) (d := d)
  rw [h]

theorem tb_selectSrc : ∃ m n e, (s.selectSrc c).tb = { s.tb with srcs := m, needStep := n, exceed := e } := by
  unfold State.selectSrc
  extract_lets y0 y1
  have h0 : ∃ m, y0.tb = { s.tb with srcs := m } := by
    unfold y0
    split
    · exact ⟨s.tb.srcs, rfl⟩
    · exact ⟨_, rfl⟩
  have h1 : y1.tb = (y0.set F.TB_STATE_SRC c).tb := tb_only (only_latch ..) rfl
  obtain ⟨m, h0⟩ := h0
  split
  · exact ⟨m, s.tb.needStep, s.tb.exceed, h0⟩
  · exact ⟨m, c != 0, 0, congrArg (fun b : TbSt => { b with needStep := c != 0, exceed := 0 }) (h1.trans h0)⟩

/-- The fields of TB_STATE but SRC keep their values. -/
theorem get_selectSrc {hi lo : Nat} (h : hi < 4 ∨ 6 < lo) : (s.selectSrc c).get ⟨(.TB_STATE, []), hi, lo⟩ = s.get ⟨(.TB_STATE, []), hi, lo⟩ := by
  unfold State.selectSrc
  extract_lets y0 y1
  have h0 : y0.regs = s.regs := by unfold y0; split <;> rfl
  have hg (f : Fld) : y0.get f = s.get f := by unfold State.get State.rd; rw [h0]
  split
  · exact hg _
  · refine Eq.trans ?_ (hg _)
    refine ((only_latch ..).field _ .TB_STATE rfl rfl : y1.get _ = _).trans ?_
    exact get_set_ne _ _ _ _ (by decide) (.inr h)

theorem selected_selectSrc (hc : c < 8) : (s.selectSrc c).get F.TB_STATE_SRC = c := by
  unfold State.selectSrc
  extract_lets y0 y1
  have h0 : y0.regs = s.regs := by unfold y0; split <;> rfl
  have hg : y0.get F.TB_STATE_SRC = s.get F.TB_STATE_SRC := by unfold State.get State.rd; rw [h0]
  split
  next h => exact h
  · refine ((only_latch ..).field _ .TB_STATE rfl rfl : y1.get _ = _).trans ?_
    exact (get_set_self _ _ _ (by decide)).trans (Nat.mod_eq_of_lt hc)

theorem bestSrc_none (h : ∀ d, (s.src d).usable = false) : s.bestSrc = 0 := by
  unfold State.bestSrc
  rw [List.find?_eq_none.mpr fun d _ => ?_]
  · rfl
  · unfold State.selectable
    simp [h d]

/-- Where no source is usable, none is chosen. -/
theorem choice_none (h : ∀ d, (s.src d).usable = false) : s.choice = 0 := by
  unfold State.choice
  dsimp only
  rw [if_neg (by simp [h]), bestSrc_none h]

/-- The selected source is chosen while it is usable, but for a better one under REVERT. -/
theorem choice_selected (hc : s.get F.TB_STATE_SRC ≠ 0) (hu : (s.src (s.get F.TB_STATE_SRC)).usable = true)
    (hr : s.flag F.TB_CTRL_REVERT = false) : s.choice = s.get F.TB_STATE_SRC := by
  unfold State.choice
  dsimp only
  rw [if_pos ⟨hc, hu⟩, if_neg (by simp [hr])]

/-! ### The loss of a source (R107 to R110) -/

theorem sameSources_loseSource (s : State) : SameSources s s.loseSource := by
  unfold State.loseSource
  extract_lets st b y0 y1
  have h0 : SameSources s y0 := rfl
  have h1 : SameSources s y1 := h0.trans (sameSources_setTb y0 7)
  have hr : SameSources s (y1.raise 0x040) := h1.trans ((only_raise ..).sameSources rfl)
  exact SameSources.ite (SameSources.ite h1 hr) (SameSources.ite (h0.trans (sameSources_setTb y0 4)) h0)

theorem selected_loseSource (s : State) : s.loseSource.get F.TB_STATE_SRC = s.get F.TB_STATE_SRC := by
  unfold State.loseSource
  extract_lets st b y0 y1
  have h1 : y1.get F.TB_STATE_SRC = s.get F.TB_STATE_SRC := get_setTb (s := y0) (by decide) (by decide)
  have hr : (y1.raise 0x040).get F.TB_STATE_SRC = y1.get F.TB_STATE_SRC := (only_raise ..).field _ .TB_STATE rfl rfl
  split_ifs
  · exact h1
  · exact hr.trans h1
  · exact get_setTb (s := y0) (by decide) (by decide)
  · rfl

/-- A locked time base without a usable source holds over from now on, and the loss is raised. -/
theorem loseSource_holds (hs : s.get F.TB_STATE_STATE = 6) (hu : ∀ d, (s.src d).usable = false) :
    s.loseSource.get F.TB_STATE_STATE = 7 ∧ s.loseSource.tb.holdSince = s.tick ∧ Raised 0x040 s s.loseSource := by
  unfold State.loseSource
  extract_lets st b y0 y1
  have h0 : y0.get F.TB_STATE_STATE ≠ 7 := by
    rw [show y0.get F.TB_STATE_STATE = 6 from hs]
    decide
  have h1 : SameSources s y1 := sameSources_setTb y0 7
  have hn : ¬ (y1.prios.any fun c => (y1.src c).usable) = true := by
    simp [src_of h1, hu]
  have hr := only_raise y1 0x040 0 {}
  rw [if_pos (.inl hs), if_neg hn]
  refine ⟨?_, ?_, ?_⟩
  · rw [hr.field _ .TB_STATE rfl rfl]
    exact state_setTb y0 (by decide)
  · rw [tb_only hr rfl]
    exact holdSince_setTb_holdover h0
  · refine (raised_raise 0 {} (by decide)).of ?_ rfl
    exact (keeps_setTb (L := (· = 0x044)) y0 7 rfl).count 0x040 (by decide)

/-- A time base that acquires for the first time is free again. -/
theorem loseSource_frees (hs : s.get F.TB_STATE_STATE = 5) (hf : s.flag F.TB_STATE_FIRST_LOCK = false) (hr : s.tb.restep = none) :
    s.loseSource.get F.TB_STATE_STATE = 4 := by
  unfold State.loseSource
  extract_lets st b y0 y1
  have h0 : ¬ (st = 6 ∨ st = 5 ∧ (y0.flag F.TB_STATE_FIRST_LOCK = true ∨ y0.tb.restep.isSome = true)) := by
    rintro (h | ⟨-, h | h⟩)
    · rw [show st = 5 from hs] at h
      cases h
    · rw [show y0.flag F.TB_STATE_FIRST_LOCK = false from hf] at h
      cases h
    · rw [show y0.tb.restep = none from hr] at h
      cases h
  rw [if_neg h0, if_pos hs]
  exact state_setTb y0 (by decide)

/-- The first part of the loss of a source: it is no longer usable, and a re-step that it asked for is withdrawn. -/
def State.dropSrc (s : State) (c : Nat) : State :=
  let s := s.updSrc c fun x => { x with usable := false, measured := false, lost := x.wasSelected }
  let s := if c = 1 then s.noSlave else s
  if s.flag F.TB_STATE_RESTEP_PEND ∧ s.tb.exceedSrc = c then { (s.set F.TB_STATE_RESTEP_PEND 0) with tb := { s.tb with exceed := 0 } } else s

theorem srcLost_eq (c : Nat) (s : State) : srcLost c s =
    if !(s.src c).usable then s else
    if (s.dropSrc c).get F.TB_STATE_SRC ≠ c then s.dropSrc c else
    let y := (s.dropSrc c).selectSrc (s.dropSrc c).choice
    if y.get F.TB_STATE_SRC = 0 then y.loseSource else y.follow true := (rfl)

theorem only_dropSrc (s : State) (c : Nat) : Only [.tb] (some [.TB_STATE]) s (s.dropSrc c) := by
  unfold State.dropSrc
  extract_lets y0 y1
  have h1 : Only [.tb] (some [.TB_STATE]) s y1 :=
    Only.ite (((only_updSrc ..).widen (by decide)).then (only_noSlave _) rfl) ((only_updSrc ..).widen (by decide))
  exact Only.ite ((h1.then (only_set .TB_STATE rfl) rfl).tb 0 rfl) h1

theorem tb_dropSrc (s : State) (c : Nat) : ∃ p e, (s.dropSrc c).tb = { s.tb with
    ports := p, exceed := e
    srcs := nput srcD s.tb.srcs c { s.src c with usable := false, measured := false, lost := (s.src c).wasSelected } } := by
  unfold State.dropSrc
  extract_lets y0 y1
  have h1 : ∃ p, y1.tb = { s.tb with
      ports := p
      srcs := nput srcD s.tb.srcs c { s.src c with usable := false, measured := false, lost := (s.src c).wasSelected } } := by
    unfold y1
    split
    · exact ⟨_, rfl⟩
    · exact ⟨s.tb.ports, rfl⟩
  obtain ⟨p, h1⟩ := h1
  split
  · exact ⟨p, 0, congrArg (fun b : TbSt => { b with exceed := 0 }) h1⟩
  · exact ⟨p, s.tb.exceed, h1⟩

theorem usable_dropSrc : ((s.dropSrc c).src d).usable = (decide (d ≠ c) && (s.src d).usable) := by
  obtain ⟨p, e, h⟩ := tb_dropSrc s c
  have hd : (s.dropSrc c).src d = if d = c then { s.src c with usable := false, measured := false, lost := (s.src c).wasSelected } else s.src d :=
    (congrArg (fun b : TbSt => mget srcD b.srcs d) h).trans (mget_nput ..)
  rw [hd]
  split
  next h => simp [h]
  next h => simp [h]

/-- The fields of TB_STATE but RESTEP_PEND keep their values. -/
theorem get_dropSrc {hi lo : Nat} (h : hi < 9 ∨ 9 < lo) : (s.dropSrc c).get ⟨(.TB_STATE, []), hi, lo⟩ = s.get ⟨(.TB_STATE, []), hi, lo⟩ := by
  unfold State.dropSrc
  extract_lets y0 y1
  have h1 : y1.get ⟨(.TB_STATE, []), hi, lo⟩ = s.get ⟨(.TB_STATE, []), hi, lo⟩ := by unfold y1; split <;> rfl
  split
  · exact (get_set_ne y1 F.TB_STATE_RESTEP_PEND _ _ (by decide) (.inr h)).trans h1
  · exact h1

theorem srcLost_unusable (h : (s.src c).usable = false) : srcLost c s = s := by
  rw [srcLost_eq, if_pos (by rw [h]; rfl)]

theorem srcLost_unselected (h : (s.src c).usable = true) (hc : s.get F.TB_STATE_SRC ≠ c) : srcLost c s = s.dropSrc c := by
  rw [srcLost_eq, if_neg (by rw [h]; decide), if_pos (by rwa [get_dropSrc (by decide)])]

/-- The selected source is lost: another one is selected, or none. -/
theorem srcLost_selected (h : (s.src c).usable = true) (hc : s.get F.TB_STATE_SRC = c) : srcLost c s =
    if ((s.dropSrc c).selectSrc (s.dropSrc c).choice).get F.TB_STATE_SRC = 0 then ((s.dropSrc c).selectSrc (s.dropSrc c).choice).loseSource
    else ((s.dropSrc c).selectSrc (s.dropSrc c).choice).follow true := by
  rw [srcLost_eq, if_neg (by rw [h]; decide), if_neg (not_not.mpr ((get_dropSrc (by decide)).trans hc))]

/-- What a lost source leaves of a source is that of its drop, whatever is selected next. -/
theorem usable_srcLost (s : State) (c : Nat) : ((srcLost c s).src d).usable = (decide (d ≠ c) && (s.src d).usable) := by
  by_cases hu : (s.src c).usable = true
  · by_cases hc : s.get F.TB_STATE_SRC = c
    · rw [srcLost_selected hu hc, ← usable_dropSrc]
      split
      · exact (congrArg SrcSt.usable (src_of (sameSources_loseSource _) d)).trans usable_selectSrc
      · exact (congrArg SrcSt.usable (src_of (sameSources_follow ..) d)).trans usable_selectSrc
    · rw [srcLost_unselected hu hc, usable_dropSrc]
  · rw [Bool.not_eq_true] at hu
    rw [srcLost_unusable hu]
    by_cases hd : d = c
    · rw [hd, hu]
      simp
    · simp [hd]

theorem tenOk_srcLost (s : State) (c : Nat) : (srcLost c s).tb.tenOk = s.tb.tenOk := by
  have hd : (s.dropSrc c).tb.tenOk = s.tb.tenOk := by
    obtain ⟨p, e, h⟩ := tb_dropSrc s c
    rw [h]
  have hs : ((s.dropSrc c).selectSrc (s.dropSrc c).choice).tb.tenOk = s.tb.tenOk := by
    obtain ⟨m, n, e, h⟩ := tb_selectSrc (s := s.dropSrc c) (c := (s.dropSrc c).choice)
    rw [h, ← hd]
  have of {y z : State} (h : SameSources y z) : z.tb.tenOk = y.tb.tenOk := congrArg (fun x => x.2.2.2) h
  by_cases hu : (s.src c).usable = true
  · by_cases hc : s.get F.TB_STATE_SRC = c
    · rw [srcLost_selected hu hc]
      split
      · exact (of (sameSources_loseSource _)).trans hs
      · exact (of (sameSources_follow ..)).trans hs
    · rw [srcLost_unselected hu hc, hd]
  · rw [srcLost_unusable (by simpa using hu)]

/-- The last usable source is lost: none is selected any more. `y` is the state in which the time base answers. -/
theorem srcLost_last (hu : (s.src c).usable = true) (hc : s.get F.TB_STATE_SRC = c) (hl : ∀ d, d ≠ c → (s.src d).usable = false) :
    ∃ y, srcLost c s = y.loseSource ∧ y.get F.TB_STATE_SRC = 0 ∧ y.get F.TB_STATE_STATE = s.get F.TB_STATE_STATE ∧
      y.flag F.TB_STATE_FIRST_LOCK = s.flag F.TB_STATE_FIRST_LOCK ∧ y.tb.restep = s.tb.restep ∧ (∀ d, (y.src d).usable = false) ∧
      Only [.irqOwed, .tb] (some [.TB_STATE, .xx_STATUS]) s y := by
  have hnone (d : Nat) : ((s.dropSrc c).src d).usable = false := by
    rw [usable_dropSrc]
    by_cases hd : d = c
    · simp [hd]
    · simp [hl d hd]
  have h0 : ((s.dropSrc c).selectSrc 0).get F.TB_STATE_SRC = 0 := selected_selectSrc (by decide)
  refine ⟨(s.dropSrc c).selectSrc 0, ?_, h0, ?_, ?_, ?_, fun d => usable_selectSrc.trans (hnone d), ?_⟩
  · rw [srcLost_selected hu hc, choice_none hnone, if_pos h0]
  · rw [get_selectSrc (by decide), get_dropSrc (by decide)]
  · unfold State.flag
    rw [get_selectSrc (by decide), get_dropSrc (by decide)]
  · obtain ⟨m, n, e, h⟩ := tb_selectSrc (s := s.dropSrc c) (c := 0)
    obtain ⟨p, e', h'⟩ := tb_dropSrc s c
    rw [h, h']
  · exact ((only_dropSrc s c).widen (by decide)).then (only_selectSrc ..) rfl

end

end Sys2Proof.Machine

/-! PROOF. The reads of the time and of the transmit stamps (O22; R102, R122), the end of HOLDOVER (R110), leaps (R123, R124), and the time
record (R106). -/

namespace Sys2Proof.Machine

/-! ### Reads (R102, R122) -/

section
variable {s : State} {o : Origin} {p : Fin 4} {x : TxStamp} {q : List TxStamp}

/-- What a read of a register with an effect on the time base comes to. -/
theorem readOut_fabric {k : Key} (h : Answers s o k) (hd : decodeAddr (keyAddr k) = .reg k) (hk : k.1 ≠ .CK_RUN) (hl : k.1 ≠ .LT_ERRORS)
    (hslow : slowCode k = none) : s.readOut o (keyAddr k) =
      (s.afterRead k (orgOf o).cls (s.shown k (orgOf o).cls)).emit (.readData (orgOf o) (keyAddr k) (s.shown k (orgOf o).cls)) := by
  rw [State.readOut, busRead_reg h.readable hd hk hl h.rights hslow]

theorem timeLatchRead_latches (h : Answers s o (.TB_TIME_SL, [])) : Does (.timeLatchRead o) s fun t =>
    s.out ++ [.readData (orgOf o) (keyAddr (.TB_TIME_SL, [])) (w32 s.tb.sec)] <+: t.out ∧
    t.timeLatch (orgOf o).cls = (s.tb.sec / 2 ^ 32 % 65536, s.tb.ns, s.tb.frac) ∧
    (∀ c, c ≠ (orgOf o).cls → t.timeLatch c = s.timeLatch c) ∧ t.regs = s.regs := by
  have hread : s.readOut o (keyAddr (.TB_TIME_SL, [])) =
      (s.latchTime (orgOf o).cls).emit (.readData (orgOf o) (keyAddr (.TB_TIME_SL, [])) (w32 s.tb.sec)) :=
    readOut_fabric h addr_TB_TIME_SL nofun nofun rfl
  refine Does.of (f := fun s => s.readOut o (keyAddr (.TB_TIME_SL, []))) rfl ?_
  rw [hread]
  refine ⟨out_finish_emit rfl, ?_, fun c hc => ?_, ?_⟩
  · rw [State.timeLatch, tb_finish]
    exact mget_nput_self ..
  · rw [State.timeLatch, tb_finish]
    exact mget_nput_ne _ _ _ hc
  · rw [regs_finish]
    rfl

theorem popStamp_cons {i : Nat} (h : s.stamps i = x :: q) : s.popStamp i =
    ((({ s with tb := { s.tb with tsq := nput (fun _ => []) s.tb.tsq i q } }.wr (.TB_TSQ_SL, [i]) (w32 x.at_.sec)).wr (.TB_TSQ_NS, [i])
      (w32 x.at_.ns)).wr (.TB_TSQ_SH, [i]) (w32 (x.at_.sec / 2 ^ 32 % 65536 + x.at_.frac / 65536 % 65536 * 65536))) := by
  unfold State.popStamp
  rw [h]

theorem popStamp_nil {i : Nat} (h : s.stamps i = []) : s.popStamp i = s := by
  unfold State.popStamp
  rw [h]

theorem readOut_pop (h : Answers s o (.TB_TSQ_POP, [p.val])) : s.readOut o (keyAddr (.TB_TSQ_POP, [p.val])) =
    (s.popStamp p.val).emit (.readData (orgOf o) (keyAddr (.TB_TSQ_POP, [p.val])) (popWord (s.stamps p.val))) :=
  readOut_fabric h (addr_TB_TSQ_POP p) nofun nofun rfl

theorem tsqPop_oldest (h : Answers s o (.TB_TSQ_POP, [p.val])) (hq : s.stamps p.val = x :: q) : Does (.tsqPop o p) s fun t =>
    s.out ++ [.readData (orgOf o) (keyAddr (.TB_TSQ_POP, [p.val])) (w32 (x.tag % 65536 + x.queue % 16384 * 65536 + 2 ^ 31))] <+: t.out ∧
    t.stamps p.val = q ∧ t.rd (.TB_TSQ_SL, [p.val]) = w32 x.at_.sec ∧ t.rd (.TB_TSQ_NS, [p.val]) = w32 x.at_.ns ∧
    (∀ j : Fin 4, j ≠ p → t.stamps j.val = s.stamps j.val) := by
  refine Does.of (f := fun s => s.readOut o (keyAddr (.TB_TSQ_POP, [p.val]))) rfl ?_
  rw [readOut_pop h, popStamp_cons hq, hq]
  refine ⟨out_finish_emit rfl, ?_, ?_, ?_, fun j hj => ?_⟩
  · rw [State.stamps, tb_finish]
    exact mget_nput_self ..
  · rw [rd_finish, rd_emit]
    simp [rd_wr]
  · rw [rd_finish, rd_emit]
    simp [rd_wr]
  · rw [State.stamps, tb_finish]
    exact mget_nput_ne _ _ _ fun e => hj (Fin.ext e)

theorem tsqPop_empty (h : Answers s o (.TB_TSQ_POP, [p.val])) (hq : s.stamps p.val = []) : Does (.tsqPop o p) s fun t =>
    s.out ++ [.readData (orgOf o) (keyAddr (.TB_TSQ_POP, [p.val])) 0] <+: t.out ∧ t.regs = s.regs ∧ t.tb = s.tb := by
  refine Does.of (f := fun s => s.readOut o (keyAddr (.TB_TSQ_POP, [p.val]))) rfl ?_
  rw [readOut_pop h, popStamp_nil hq, hq]
  exact ⟨out_finish_emit rfl, regs_finish _, tb_finish _⟩

end

/-! ### The end of HOLDOVER (R110) -/

section
variable {s : State}

theorem get_settled (s : State) {hi lo : Nat} : s.settleMode.finish.get ⟨(.TB_STATE, []), hi, lo⟩ = s.get ⟨(.TB_STATE, []), hi, lo⟩ := by
  rw [get_finish]
  exact (only_settleMode s).field _ .TB_STATE rfl rfl

theorem tb_settled (s : State) : s.settleMode.finish.tb = s.tb := by
  rw [tb_finish]
  exact tb_only (only_settleMode s) rfl

theorem cnt_settled (s : State) (id : Nat) : s.settleMode.finish.rd (.FC_CNT, [id]) = s.rd (.FC_CNT, [id]) := by
  rw [rd_finish, rd_cnt_settleMode]

theorem holdLimit_ends (hs : s.get F.TB_STATE_STATE = 7) (hm : s.get F.TB_HOLD_MAX_SEC ≠ 0)
    (ht : s.tb.holdSince + ticksS (s.get F.TB_HOLD_MAX_SEC) ≤ s.tick) : Does .holdLimit s fun t =>
      t.get F.TB_STATE_STATE = 4 ∧ Raised 0x042 s t := by
  have he : holdLimitStep s = ((s.setTb 4).latch tbB 0x20).raise 0x042 := if_pos ⟨hs, hm, ht⟩
  have hl := only_latch (s.setTb 4) tbB 0x20
  refine Does.of (f := fun s => (holdLimitStep s).settleMode) rfl ?_
  rw [he]
  refine ⟨?_, ?_⟩
  · rw [get_settled, (only_raise ..).field _ .TB_STATE rfl rfl, hl.field _ .TB_STATE rfl rfl]
    exact state_setTb s (by decide)
  · refine (raised_raise 0 {} (by decide)).of ?_ (cnt_settled ..)
    rw [hl.reg _ .FC_CNT rfl rfl]
    exact (keeps_setTb (L := (· = 0x044)) s 4 rfl).count 0x042 (by decide)

theorem holdLimit_waits (h : s.get F.TB_STATE_STATE ≠ 7 ∨ s.get F.TB_HOLD_MAX_SEC = 0 ∨
    s.tick < s.tb.holdSince + ticksS (s.get F.TB_HOLD_MAX_SEC)) : Does .holdLimit s fun t =>
      t.get F.TB_STATE_STATE = s.get F.TB_STATE_STATE ∧ t.tb = s.tb := by
  have he : holdLimitStep s = s := by
    refine if_neg fun ⟨hs, hm, ht⟩ => ?_
    rcases h with h | h | h
    · exact h hs
    · exact hm h
    · omega
  refine Does.of (f := fun s => (holdLimitStep s).settleMode) rfl ?_
  rw [he]
  exact ⟨get_settled s, tb_settled s⟩

/-! ### Leaps and the time record (R106, R123, R124) -/

/-- TB_UTC after a leap: the offset it moves to, and no flag. -/
def State.leaps (s : State) (ofs : Nat) : State := ((s.set F.TB_UTC_OFS ofs).set F.TB_UTC_LEAP61 0).set F.TB_UTC_LEAP59 0

theorem leaps_utc (ofs : Nat) : (s.leaps ofs).get F.TB_UTC_OFS = ofs % 65536 ∧ (s.leaps ofs).get F.TB_UTC_LEAP61 = 0 ∧
    (s.leaps ofs).get F.TB_UTC_LEAP59 = 0 := by
  unfold State.leaps
  refine ⟨?_, ?_, get_set_self _ F.TB_UTC_LEAP59 _ (by decide)⟩
  · rw [get_set_ne _ F.TB_UTC_LEAP59 F.TB_UTC_OFS _ (by decide) (by decide), get_set_ne _ F.TB_UTC_LEAP61 F.TB_UTC_OFS _ (by decide) (by decide)]
    exact get_set_self _ F.TB_UTC_OFS _ (by decide)
  · rw [get_set_ne _ F.TB_UTC_LEAP59 F.TB_UTC_LEAP61 _ (by decide) (by decide)]
    exact get_set_self _ F.TB_UTC_LEAP61 _ (by decide)

/-- A leap that is due: the offset moves, both flags are cleared, and the time record is asked for. -/
theorem leapApply_moves (hf : s.flag F.TB_UTC_LEAP61 = true ∨ s.flag F.TB_UTC_LEAP59 = true) (hc : s.tb.counting = true)
    (hd : leapNear s.tb.sec (s.get F.TB_LEAP_AT_SEC) ≤ s.tb.sec) : Does .leapApply s fun t =>
      t.get F.TB_UTC_OFS = (if s.flag F.TB_UTC_LEAP61 then s.get F.TB_UTC_OFS + 1 else s.get F.TB_UTC_OFS + 65535) % 65536 ∧
      t.get F.TB_UTC_LEAP61 = 0 ∧ t.get F.TB_UTC_LEAP59 = 0 ∧ t.tai = s.tai := by
  have hn : ¬ ((!s.flag F.TB_UTC_LEAP61) = true ∧ (!s.flag F.TB_UTC_LEAP59) = true ∨ (!s.tb.counting) = true ∨
      s.tb.sec < leapNear s.tb.sec (s.get F.TB_LEAP_AT_SEC)) := by
    rintro (⟨h1, h2⟩ | h | h)
    · rcases hf with hf | hf <;> simp_all
    · simp [hc] at h
    · omega
  refine Does.of (f := leapApplyOp) rfl ?_
  unfold leapApplyOp
  dsimp only
  rw [if_neg hn]
  generalize (if s.flag F.TB_UTC_LEAP61 then s.get F.TB_UTC_OFS + 1 else s.get F.TB_UTC_OFS + 65535) = ofs
  obtain ⟨h1, h2, h3⟩ := leaps_utc (s := s) ofs
  have hl := only_latch (s.leaps ofs) tbB 16
  have hr (y : State) : Only [.out, .irqOwed, .msix, .dv, .cl] (some [.CL_STAT]) y y.requestTime.finish :=
    ((only_requestTime y).widen (by decide)).then (only_finish _) rfl
  refine ⟨?_, ?_, ?_, ?_⟩
  · rw [(hr _).field _ .TB_UTC rfl rfl]
    exact (hl.field _ .TB_UTC rfl rfl).trans h1
  · rw [(hr _).field _ .TB_UTC rfl rfl]
    exact (hl.field _ .TB_UTC rfl rfl).trans h2
  · rw [(hr _).field _ .TB_UTC rfl rfl]
    exact (hl.field _ .TB_UTC rfl rfl).trans h3
  · have hb : ((s.leaps ofs).latch tbB 16).tb = (s.leaps ofs).tb := tb_only hl rfl
    have ht (y : State) : y.requestTime.finish.tai = y.tai := by
      unfold State.tai
      rw [tb_only (hr y) rfl]
    have hs : ((s.leaps ofs).latch tbB 16).tai = s.tai := congrArg (fun b : TbSt => (⟨b.sec, b.ns, b.frac⟩ : Stamp)) hb
    exact (ht _).trans hs

theorem leapApply_waits (h : (s.flag F.TB_UTC_LEAP61 = false ∧ s.flag F.TB_UTC_LEAP59 = false) ∨
    s.tb.sec < leapNear s.tb.sec (s.get F.TB_LEAP_AT_SEC)) : Does .leapApply s fun t => t.regs = s.regs ∧ t.tb = s.tb := by
  have he : leapApplyOp s = s := by
    refine if_pos ?_
    rcases h with ⟨h1, h2⟩ | h
    · exact .inl ⟨by rw [h1]; rfl, by rw [h2]; rfl⟩
    · exact .inr (.inr h)
  refine Does.of (f := leapApplyOp) rfl ?_
  rw [he]
  exact ⟨regs_finish s, tb_finish s⟩

/-- A record but for the fault history goes behind every record of a healthy Cellar (R446). -/
theorem request_queues {r : Rec} (h : s.healthy = true) (hr : r.region ≠ 7) :
    s.request r = { (s.set F.CL_STAT_BUSY 1) with cl := { s.cl with queue := s.cl.queue ++ [r] } } := by
  unfold State.request
  rw [if_neg (by rw [h]; decide)]
  dsimp only
  rw [if_neg hr, if_neg hr]

theorem request_unhealthy {r : Rec} (h : s.healthy = false) : s.request r = s := if_pos (by rw [h]; rfl)

theorem timeRecordWrite_requests (hc : s.tb.counting = true) (hh : s.healthy = true) : Does .timeRecordWrite s fun t =>
    t.cl.queue = s.cl.queue ++ [{ region := 2, body := .time s.tb.sec s.tb.ns (s.get F.TB_UTC_OFS) (s.flag F.TB_UTC_VALID) }] ∧
    t.get F.CL_STAT_BUSY = 1 := by
  have he : timeRecordOp s = s.requestTime := if_pos hc
  refine Does.of (f := timeRecordOp) rfl ?_
  rw [he, State.requestTime, request_queues hh (show (2 : Nat) ≠ 7 by decide), cl_finish, get_finish]
  exact ⟨rfl, get_set_self _ F.CL_STAT_BUSY _ (by decide)⟩

theorem timeRecordWrite_stands (hc : s.tb.counting = false) : Does .timeRecordWrite s fun t => t.cl = s.cl := by
  have he : timeRecordOp s = s := if_neg (by rw [hc]; decide)
  refine Does.of (f := timeRecordOp) rfl ?_
  rw [he, cl_finish]

end

/-- Settles O22: a read is answered and then latches or pops; the end of HOLDOVER, a leap and the time record are each one operation, whose
cases the lemmas above give. -/
theorem timeIsReadAndRecorded : Obligations.TimeIsReadAndRecorded := by
  unfold Obligations.TimeIsReadAndRecorded
  refine ⟨fun o p s => ⟨timeLatchRead_latches, fun x q => tsqPop_oldest, tsqPop_empty⟩, fun s => ?_⟩
  refine ⟨holdLimit_ends, holdLimit_waits, fun hf hc hd => ?_, fun h61 hf hc hd => ?_, leapApply_waits, timeRecordWrite_requests,
    timeRecordWrite_stands⟩
  · have h := leapApply_moves (.inl hf) hc hd
    rwa [if_pos hf] at h
  · have h := leapApply_moves (.inr hf) hc hd
    rwa [if_neg (by rw [h61]; decide)] at h

end Sys2Proof.Machine

/-! PROOF. The registers that the servo writes (O23; R15, R104, R119). -/

namespace Sys2Proof.Machine

/-- TB_OFS. -/
abbrev ofsKey : Key := (.TB_OFS, [])

/-- TB_INC_REQ_LO. -/
abbrev reqLo : Key := (.TB_INC_REQ_LO, [])

theorem addr_TB_OFS : decodeAddr (keyAddr ofsKey) = .reg ofsKey := by decide +kernel

theorem addr_TB_INC_REQ_LO : decodeAddr (keyAddr reqLo) = .reg reqLo := by decide +kernel

/-- The fabric takes writes, and the servo on CU16 may write the time base. -/
structure ServoMay (s : State) : Prop where
  served : s.served = true
  rights : s.rights (.cu 16 0) 5 = 3

section
variable {A : List Area} {R : List Reg} {s t : State} {pc : Nat} {k : Key} {v : Word} {m : ServoMeasure}

theorem Only.servoMay (h : Only A (some R) s t) (hs : ServoMay s) (hA : A.contains .dv = false) (hR : R.contains .DV_PERM_LO = false) :
    ServoMay t := by
  have hd : t.dv = s.dv := h.same .dv (by simpa using hA)
  refine ⟨?_, ?_⟩
  · unfold State.served
    rw [hd]
    exact hs.served
  · exact (h.field ⟨(.DV_PERM_LO, [31]), 11, 10⟩ .DV_PERM_LO rfl hR).trans hs.rights

/-- What touches neither the nominal increment nor the slew limit leaves the limits of the increment. -/
theorem Only.incLimits (h : Only A (some R) s t) (hH : R.contains .TB_INC_NOM_HI = false) (hL : R.contains .TB_INC_NOM_LO = false)
    (hS : R.contains .TB_MAX_SLEW = false) : t.incLimits = s.incLimits := by
  simp only [State.incLimits, State.incNom, h.field F.TB_MAX_SLEW_PPB .TB_MAX_SLEW rfl hS,
    h.field F.TB_INC_NOM_HI_INT .TB_INC_NOM_HI rfl hH, h.field F.TB_INC_NOM_LO_FRAC .TB_INC_NOM_LO rfl hL]

/-- The registers of the servo are its own (R104). -/
theorem reaches_servo (hs : ServoMay s) (he : svcEngine k = false) (hi : isServo k.1 = true) (hb : (keyHdr k).headD 0 = 5) :
    Reaches s (.cu 16 pc) k v := by
  refine ⟨hs.served, ?_, ?_⟩
  · rw [hb]
    exact hs.rights
  · unfold State.ownerRule
    dsimp only
    rw [if_neg (by rw [he]; decide), if_pos hi, if_neg (fun h => h.2 rfl)]
    decide

/-- A register of the servo whose one field is the whole word takes what the servo writes. -/
theorem servoWrite_word (hs : ServoMay s) (hk : k = ofsKey ∨ k = reqLo) :
    Only [.w1, .sl] (some [k.1]) s (s.servoWrite pc k v) ∧ (s.servoWrite pc k v).rd k = v := by
  have hfree : ∀ f ∈ (regDef k.1).fields, Free s k f :=
    free_fields s (by rcases hk with rfl | rfl <;> decide)
  have ht : taken k.1 v = v := by rcases hk with rfl | rfl <;> rfl
  have hd : decodeAddr (keyAddr k) = .reg k := by
    rcases hk with rfl | rfl
    · exact addr_TB_OFS
    · exact addr_TB_INC_REQ_LO
  have hword : (s.judgeFields k v true).word = v := by
    refine eq_of_bits_word ?_
    rcases hk with rfl | rfl
    · exact (bits_judgeFields (f := fd 31 0 .rw .imm 0) hfree (by decide) (by decide) (.inl rfl)).trans (by rw [asked_plain _ _ (by decide)])
    · exact (bits_judgeFields (f := fd 31 0 .rw .imm 0x80000000) hfree (by decide) (by decide) (.inl rfl)).trans
        (by rw [asked_plain _ _ (by decide)])
  have hreach : Reaches s (.cu 16 (pc % 65536)) k v := by
    rcases hk with rfl | rfl <;> exact reaches_servo hs (by decide) (by decide) (by decide)
  obtain ⟨m, x, h⟩ := keyWrite_takes hreach hd (by rcases hk with rfl | rfl <;> rfl) (by rcases hk with rfl | rfl <;> rfl)
    (by rcases hk with rfl | rfl <;> nofun) ht (judgeFields_free hfree) (by rcases hk with rfl | rfl <;> rfl)
  have hstore : (s.withMarks m).takes (orgOf (.cu 16 (pc % 65536))) k (s.held k) (s.judgeFields k v true).word v =
      (s.withMarks m).store k (s.judgeFields k v true).word := by
    rcases hk with rfl | rfl <;> rfl
  have hw : waits (regDef k.1) = false := by rcases hk with rfl | rfl <;> decide
  have hne : k.1 ≠ .CU_C_LO ∧ k.1 ≠ .CU_C_HI := by rcases hk with rfl | rfl <;> decide
  rw [hstore, hword] at h
  unfold State.servoWrite
  rw [h]
  refine ⟨?_, (rd_withLog ..).trans (rd_store hne.1 hne.2)⟩
  have h1 : Only [.w1, .sl] (some [k.1]) s (s.withMarks m) := (Only.refl s).w1 0 rfl
  have h2 : Only [.w1, .sl] (some [k.1]) s ((s.withMarks m).store k v) :=
    (only_store_plain hw).over (.of_within (by simp [within])) h1
  exact h2.sl 1 rfl

/-- The registers that a write of TB_INC_REQ by the servo touches, whatever becomes of it. -/
def incRegs : List Reg := raisingRegs [.DV_ACC_ERR, .xx_REFUSED, .TB_INC_REQ_LO, .TB_INC_REQ_HI, .TB_CLAMP, .TB_INC_HI, .TB_INC_LO]

theorem effect_TB_INC_REQ_LO : Effect .TB_INC_REQ_LO [] (some []) := Effect.none (fun _ _ _ _ _ _ => rfl) fun _ _ _ _ _ _ => rfl

theorem only_servoWrite_lo (s : State) (pc : Nat) (v : Word) : Only (raising [.w1]) (some incRegs) s (s.servoWrite pc reqLo v) :=
  only_keyWrite_of effect_TB_INC_REQ_LO addr_TB_INC_REQ_LO rfl nofun rfl (.of_within (by decide)) (.of_within (by decide))

theorem only_servoWrite_hi (s : State) (pc : Nat) (v : Word) : Only (raising [.w1]) (some incRegs) s (s.servoWrite pc reqHi v) :=
  only_keyWrite_of effect_TB_INC_REQ_HI addr_TB_INC_REQ_HI rfl nofun rfl (.of_within (by decide)) (.of_within (by decide))

theorem only_writeInc_inc (s : State) (m : ServoMeasure) : Only (raising [.w1]) (some incRegs) s (s.writeInc m) :=
  Only.ite ((only_servoWrite_lo ..).then (only_servoWrite_hi ..) (by decide)) (Only.refl s)

/-- The servo applies an increment within the limits (R101). -/
theorem inc_writeInc (hs : ServoMay s) (hst : s.get F.TB_STATE_STATE = 5 ∨ s.get F.TB_STATE_STATE = 6)
    (h1 : s.incLimits.1 ≤ m.incReq % 2 ^ 40) (h2 : m.incReq % 2 ^ 40 ≤ s.incLimits.2) : (s.writeInc m).inc = m.incReq % 2 ^ 40 := by
  obtain ⟨ho, hv⟩ := servoWrite_word (pc := m.pc) (v := w32 m.incReq) hs (.inr rfl)
  have hm : ServoMay (s.servoWrite m.pc reqLo (w32 m.incReq)) := ho.servoMay hs rfl rfl
  have hl : (s.servoWrite m.pc reqLo (w32 m.incReq)).incLimits = s.incLimits := ho.incLimits rfl rfl rfl
  have he : s.writeInc m = (s.servoWrite m.pc reqLo (w32 m.incReq)).servoWrite m.pc reqHi (w32 (m.incReq / 2 ^ 32 % 256)) := if_pos hst
  rw [he]
  generalize s.servoWrite m.pc reqLo (w32 m.incReq) = y at hv hm hl
  obtain ⟨z, hz, hzo⟩ := incTransfer_applies (o := .cu 16 (m.pc % 65536)) (v := w32 (m.incReq / 2 ^ 32 % 256))
    (reaches_servo hm (by decide) (by decide) (by decide))
  have hreq : bits (w32 (m.incReq / 2 ^ 32 % 256)) 7 0 * 2 ^ 32 + y.get F.TB_INC_REQ_LO_FRAC = m.incReq % 2 ^ 40 := by
    unfold State.get
    rw [hv]
    simp only [bits, w32, BitVec.toNat_ofNat]
    omega
  rw [hreq] at hzo
  have hn : z.nearest (m.incReq % 2 ^ 40) = m.incReq % 2 ^ 40 := by
    rw [State.nearest, incLimits_congr hz, hl, if_neg (by omega), if_neg (by omega)]
  have hfin : (y.servoWrite m.pc reqHi (w32 (m.incReq / 2 ^ 32 % 256))).finish.inc =
      (y.servoWrite m.pc reqHi (w32 (m.incReq / 2 ^ 32 % 256))).inc := inc_only (only_finish _) rfl rfl
  rw [← hfin]
  exact (inc_only hzo rfl rfl).trans (applyInc_within hn (by omega)).1

/-- The servo writes no increment but in ACQUIRE and LOCKED. -/
theorem writeInc_other (h5 : s.get F.TB_STATE_STATE ≠ 5) (h6 : s.get F.TB_STATE_STATE ≠ 6) : s.writeInc m = s :=
  if_neg (not_or.mpr ⟨h5, h6⟩)

end

end Sys2Proof.Machine

/-! PROOF. The measurements of the servo (O23; R107 to R119), and the loss and the return of a source (R108, R110). -/

namespace Sys2Proof.Machine

/-! ### A measurement is taken (R107, R121) -/

/-- The offset that a measurement carries, in whole nanoseconds. -/
def State.measured (s : State) (m : ServoMeasure) : Int :=
  match m.src, m.ptp with
  | .ptp, some x => (s.ptpSolve x).2 / 2 ^ 32
  | _, _ => m.offset

/-- The state in which the servo has taken a measurement of the source that is selected. -/
def State.sampled (s : State) (m : ServoMeasure) : State := (s.takeSample m).updSrc (srcCode m.src) fun x => { x with wasSelected := true }

/-- A measurement that keeps the selection as it is. -/
structure Steady (s : State) (m : ServoMeasure) : Prop where
  may : s.mayMeasure m = true
  selected : s.get F.TB_STATE_SRC = srcCode m.src
  revert : s.flag F.TB_CTRL_REVERT = false
  master : m.newMaster = false
  announce : m.announce = none

theorem srcCode_pos (c : Src) : srcCode c ≠ 0 := by cases c <;> decide

section
variable {s : State} {m : ServoMeasure}

theorem only_sampled (s : State) (m : ServoMeasure) : Only [.tb] (some []) s (s.sampled m) := (only_takeSample s m).then (only_updSrc ..) rfl

theorem tb_takeSample (s : State) (m : ServoMeasure) : ∃ p d q, (s.takeSample m).tb = { s.tb with ports := p, pathDelay := d, srcs := q } := by
  unfold State.takeSample
  dsimp only
  split
  · exact ⟨_, _, _, rfl⟩
  · exact ⟨s.tb.ports, s.tb.pathDelay, _, rfl⟩

theorem tb_sampled (s : State) (m : ServoMeasure) : ∃ p d q, (s.sampled m).tb = { s.tb with ports := p, pathDelay := d, srcs := q } := by
  obtain ⟨p, d, q, h⟩ := tb_takeSample s m
  have hs : (s.sampled m).tb = { (s.takeSample m).tb with srcs := (s.sampled m).tb.srcs } := rfl
  exact ⟨p, d, _, hs.trans (by rw [h])⟩

/-- A source of which a measurement can be made is usable, and shows the offset that it measured. -/
theorem src_takeSample (h : s.mayMeasure m = true) : ((s.takeSample m).src (srcCode m.src)).usable = true ∧
    ((s.takeSample m).src (srcCode m.src)).offset = s.measured m := by
  have hs : ∃ y, (s.takeSample m).src (srcCode m.src) = y ∧ y.usable = true ∧ y.offset = s.measured m := by
    obtain ⟨pc, src, ptp, offset, req, master, announce⟩ := m
    obtain ⟨-, hm⟩ := Bool.and_eq_true_iff.mp h
    cases src with
    | ptp =>
      cases ptp with
      | none => cases hm
      | some x => exact ⟨_, (src_updSrc ..).trans (if_pos rfl), rfl, rfl⟩
    | pps => exact ⟨_, (src_updSrc ..).trans (if_pos rfl), hm, rfl⟩
    | ref => exact ⟨_, (src_updSrc ..).trans (if_pos rfl), hm, rfl⟩
  obtain ⟨y, hy, hu, ho⟩ := hs
  rw [hy]
  exact ⟨hu, ho⟩

theorem src_sampled (h : s.mayMeasure m = true) : ((s.sampled m).src (srcCode m.src)).usable = true ∧
    ((s.sampled m).src (srcCode m.src)).offset = s.measured m := by
  have hs : (s.sampled m).src (srcCode m.src) = { (s.takeSample m).src (srcCode m.src) with wasSelected := true } := by
    unfold State.sampled
    rw [src_updSrc, if_pos rfl]
  rw [hs]
  exact src_takeSample h

/-- A PTP exchange makes its port the slave, PTP usable, and shows the path delay (R107, R121). -/
theorem sources_sampled_ptp {x : PtpSample} (hp : m.src = .ptp) (hx : m.ptp = some x) :
    ((s.sampled m).ptp x.port.val).slave = true ∧ (s.sampled m).tb.pathDelay = (s.ptpSolve x).1 / 2 ^ 24 := by
  unfold State.sampled State.takeSample
  rw [hp, hx]
  refine ⟨?_, rfl⟩
  show (mget ptpD (nput ptpD _ _ _) _).slave = true
  rw [mget_nput_self]

/-- A steady measurement leaves the selection, judges the offset, and applies what the loop asks for. -/
theorem servoStep_steady (h : Steady s m) : servoStep m s =
    (((s.sampled m).writeOfs m.pc (s.measured m)).actOn m (srcCode m.src) false).writeInc m := by
  obtain ⟨hmay, hsel, hrev, hmaster, hann⟩ := h
  have ho : Only [.tb] (some []) s (s.takeSample m) := only_takeSample s m
  have hsrc : (s.takeSample m).get F.TB_STATE_SRC = srcCode m.src := (ho.field _ .TB_STATE rfl rfl).trans hsel
  have hchoice : (s.takeSample m).choice = srcCode m.src := by
    rw [choice_selected, hsrc]
    · rw [hsrc]
      exact srcCode_pos m.src
    · rw [hsrc]
      exact (src_takeSample hmay).1
    · exact (congrArg (· != 0) (ho.field F.TB_CTRL_REVERT .TB_CTRL rfl rfl)).trans hrev
  have hselect : (s.takeSample m).selectSrc (srcCode m.src) = s.sampled m := by
    unfold State.selectSrc
    rw [if_neg (srcCode_pos m.src)]
    exact if_pos hsrc
  have hre : (s.takeSample m).reselect (srcCode m.src) m.newMaster = s.sampled m := by
    unfold State.reselect
    rw [hmaster, hchoice, hselect]
    simp
  have hsel' : (s.sampled m).get F.TB_STATE_SRC = srcCode m.src := ((only_sampled s m).field _ .TB_STATE rfl rfl).trans hsel
  unfold servoStep
  rw [if_neg (by rw [hmay]; decide)]
  dsimp only
  rw [hre, hsel', hsel, hmaster, hann, if_neg (srcCode_pos m.src), if_pos rfl, (src_sampled hmay).2]
  simp

end

/-! ### The judgement of an offset (R113) -/

/-- The state in which an offset within the threshold has been judged: no re-step is asked for. -/
def State.trusted (s : State) : State := { (s.set F.TB_STATE_RESTEP_PEND 0) with tb := { s.tb with exceed := 0 } }

/-- The state in which an offset above the threshold has been counted for source c. -/
def State.exceeds (s : State) (c n : Nat) : State := { s with tb := { s.tb with exceed := n, exceedSrc := c } }

/-- A discontinuity: a re-step is asked for, and the time base holds over. -/
def State.declares (s : State) : State := (((s.set F.TB_STATE_RESTEP_PEND 1).setTb 7).latch tbB 4).raise 0x041

section
variable {s : State} {c : Nat} {off : Int}

theorem judgeOffset_within (h : off.natAbs ≤ s.stepThresh) : s.judgeOffset c off = s.trusted := if_pos h

theorem judgeOffset_beyond (h : s.stepThresh < off.natAbs) : s.judgeOffset c off =
    if (if s.tb.exceedSrc = c then s.tb.exceed else 0) + 1 ≠ 3 then s.exceeds c ((if s.tb.exceedSrc = c then s.tb.exceed else 0) + 1)
    else (s.exceeds c ((if s.tb.exceedSrc = c then s.tb.exceed else 0) + 1)).declares := if_neg (Nat.not_le.mpr h)

theorem judgeOffset_counts (h : s.stepThresh < off.natAbs) (hc : s.tb.exceedSrc = c) (he : s.tb.exceed < 2) :
    s.judgeOffset c off = s.exceeds c (s.tb.exceed + 1) := by
  rw [judgeOffset_beyond h, if_pos hc, if_pos (by omega)]

theorem judgeOffset_third (h : s.stepThresh < off.natAbs) (hc : s.tb.exceedSrc = c) (he : s.tb.exceed = 2) :
    s.judgeOffset c off = (s.exceeds c 3).declares := by
  rw [judgeOffset_beyond h, if_pos hc, he, if_neg (by decide)]

theorem pend_trusted (s : State) : s.trusted.flag F.TB_STATE_RESTEP_PEND = false :=
  congrArg (· != 0) (get_set_self s F.TB_STATE_RESTEP_PEND 0 (by decide))

theorem only_trusted (s : State) : Only [.tb] (some [.TB_STATE]) s s.trusted := ((only_set .TB_STATE rfl).widen rfl).tb 0 rfl

/-- The fields of TB_STATE but RESTEP_PEND keep their values. -/
theorem get_trusted {hi lo : Nat} (h : hi < 9 ∨ 9 < lo) : s.trusted.get ⟨(.TB_STATE, []), hi, lo⟩ = s.get ⟨(.TB_STATE, []), hi, lo⟩ :=
  get_set_ne s F.TB_STATE_RESTEP_PEND _ _ (by decide) (.inr h)

theorem declares_holds : s.declares.get F.TB_STATE_STATE = 7 ∧
    s.declares.get F.TB_STATE_RESTEP_PEND = 1 ∧ Raised 0x041 s s.declares := by
  unfold State.declares
  have hl := only_latch ((s.set F.TB_STATE_RESTEP_PEND 1).setTb 7) tbB 4
  have hr := only_raise (((s.set F.TB_STATE_RESTEP_PEND 1).setTb 7).latch tbB 4) 0x041 0 {}
  refine ⟨?_, ?_, ?_⟩
  · rw [hr.field _ .TB_STATE rfl rfl, hl.field _ .TB_STATE rfl rfl]
    exact state_setTb _ (by decide)
  · rw [hr.field _ .TB_STATE rfl rfl, hl.field _ .TB_STATE rfl rfl, get_setTb (by decide) (by decide)]
    exact get_set_self s F.TB_STATE_RESTEP_PEND 1 (by decide)
  · refine (raised_raise 0 {} (by decide)).of ?_ rfl
    rw [hl.reg _ .FC_CNT rfl rfl, (keeps_setTb (L := (· = 0x044)) _ 7 rfl).count 0x041 (by decide)]
    exact (only_set .TB_STATE rfl).reg _ .FC_CNT rfl rfl

theorem sameSources_judgeOffset (s : State) (c : Nat) (off : Int) : SameSources s (s.judgeOffset c off) := by
  by_cases h : off.natAbs ≤ s.stepThresh
  · rw [judgeOffset_within h]
    exact .refl s
  · rw [judgeOffset_beyond (Nat.lt_of_not_le h)]
    generalize (if s.tb.exceedSrc = c then s.tb.exceed else 0) + 1 = n
    have he : SameSources s (s.exceeds c n) := .refl s
    refine he.ite (he.trans ?_)
    have hd : SameSources (s.exceeds c n) (((s.exceeds c n).set F.TB_STATE_RESTEP_PEND 1).setTb 7) := sameSources_setTb _ 7
    exact (hd.trans ((only_latch ..).sameSources rfl)).trans ((only_raise ..).sameSources rfl)

/-! ### The lock criterion (R110) -/

theorem lockCheck_other (h : s.get F.TB_STATE_STATE ≠ 5) : s.lockCheck off = s := if_pos h

/-- The first measurement within the lock threshold starts the lock time. -/
theorem lockCheck_starts (h : s.get F.TB_STATE_STATE = 5) (ho : off.natAbs ≤ s.get F.TB_LOCK_THRESH_NS) (hw : s.tb.within = none) :
    s.lockCheck off = { s with tb := { s.tb with within := some s.tick } } := by
  unfold State.lockCheck
  rw [if_neg (not_not.mpr h), if_neg (Nat.not_lt.mpr ho), hw]

theorem lockCheck_locks {t0 : Nat} (h : s.get F.TB_STATE_STATE = 5) (ho : off.natAbs ≤ s.get F.TB_LOCK_THRESH_NS)
    (hw : s.tb.within = some t0) (ht : t0 + ticksS (s.get F.TB_LOCK_TIME_SEC) ≤ s.tick) : s.lockCheck off = s.setTb 6 := by
  unfold State.lockCheck
  rw [if_neg (not_not.mpr h), if_neg (Nat.not_lt.mpr ho), hw]
  exact if_pos ht

/-- A time base that has just begun to acquire goes on acquiring. -/
theorem lockCheck_fresh (off : Int) (hw : s.tb.within = none) : ∃ w, s.lockCheck off = { s with tb := { s.tb with within := w } } := by
  unfold State.lockCheck
  rw [hw]
  split_ifs
  · exact ⟨none, by rw [← hw]⟩
  · exact ⟨none, rfl⟩
  · exact ⟨some s.tick, rfl⟩

theorem sameSources_lockCheck (s : State) (off : Int) : SameSources s (s.lockCheck off) := by
  unfold State.lockCheck
  refine SameSources.ite (.refl s) (SameSources.ite (.refl s) ?_)
  split
  · exact .refl s
  · exact SameSources.ite (sameSources_setTb s 6) (.refl s)

end

/-! ### The measurement of the selected source (R110, R113, R114) -/

/-- The step that a new source may ask for is settled. -/
def State.readied (s : State) : State := { s with tb := { s.tb with needStep := false } }

/-- The state from which the first-lock step is made: no step is asked for, and no offset counts. -/
def State.primed (s : State) : State := { s.readied with tb := { s.readied.tb with exceed := 0 } }

section
variable {s : State} {m : ServoMeasure} {c : Nat} {b : Bool}

theorem actOn_judges (h : s.tb.needStep = false) : s.actOn m c b =
    if (s.readied.judgeOffset c (s.src c).offset).flag F.TB_STATE_RESTEP_PEND then s.readied.judgeOffset c (s.src c).offset
    else ((s.readied.judgeOffset c (s.src c).offset).follow b).lockCheck (s.src c).offset := by
  have hf : s.stepsFirst = false := by
    unfold State.stepsFirst
    rw [h]
    rfl
  unfold State.actOn
  dsimp only
  rw [if_neg (by rw [hf]; decide)]
  rfl

theorem actOn_within (h : s.tb.needStep = false) (ho : (s.src c).offset.natAbs ≤ s.stepThresh) :
    s.actOn m c b = (s.readied.trusted.follow b).lockCheck (s.src c).offset := by
  have hj : s.readied.judgeOffset c (s.src c).offset = s.readied.trusted := judgeOffset_within ho
  rw [actOn_judges h, hj, if_neg (by rw [pend_trusted]; decide)]

theorem actOn_counts (h : s.tb.needStep = false) (ho : s.stepThresh < (s.src c).offset.natAbs) (hc : s.tb.exceedSrc = c)
    (he : s.tb.exceed < 2) (hp : s.flag F.TB_STATE_RESTEP_PEND = true) : s.actOn m c b = s.readied.exceeds c (s.tb.exceed + 1) := by
  have hj : s.readied.judgeOffset c (s.src c).offset = s.readied.exceeds c (s.tb.exceed + 1) := judgeOffset_counts ho hc he
  rw [actOn_judges h, hj]
  exact if_pos hp

theorem actOn_third (h : s.tb.needStep = false) (ho : s.stepThresh < (s.src c).offset.natAbs) (hc : s.tb.exceedSrc = c)
    (he : s.tb.exceed = 2) : s.actOn m c b = (s.readied.exceeds c 3).declares := by
  have hj : s.readied.judgeOffset c (s.src c).offset = (s.readied.exceeds c 3).declares := judgeOffset_third ho hc he
  have hp : (s.readied.exceeds c 3).declares.flag F.TB_STATE_RESTEP_PEND = true :=
    congrArg (· != 0) (declares_holds (s := s.readied.exceeds c 3)).2.1
  rw [actOn_judges h, hj, if_pos hp]

theorem sameSources_actOn (h : s.tb.needStep = false) : SameSources s (s.actOn m c b) := by
  have hj : SameSources s (s.readied.judgeOffset c (s.src c).offset) := (SameSources.refl s).trans (sameSources_judgeOffset s.readied c _)
  rw [actOn_judges h]
  exact hj.ite ((hj.trans (sameSources_follow ..)).trans (sameSources_lockCheck ..))

/-- The count that a step leaves (R115). -/
theorem tb_stepCount (s : State) (off : Int) (org : Org) : ∃ a b, (s.stepCount off org).tb = { s.tb with
    sec := (ofUnits (((unitsOf s.tai : Int) + off * (2 ^ 32 : Nat)).toNat)).sec % 2 ^ 48
    ns := (ofUnits (((unitsOf s.tai : Int) + off * (2 ^ 32 : Nat)).toNat)).ns
    frac := (ofUnits (((unitsOf s.tai : Int) + off * (2 ^ 32 : Nat)).toNat)).frac, seen1 := a, seen2 := b } := by
  unfold State.stepCount
  generalize ofUnits (((unitsOf s.tai : Int) + off * (2 ^ 32 : Nat)).toNat) = x
  extract_lets t d b0 y0 y1 y2 y3 y4 on mute y5
  have h1 : y1.tb = (y0.count F.TB_STEP_CNT_COUNT 1).tb := tb_only (only_latch ..) rfl
  have h2 : y2.tb = y1.tb := tb_only (only_log ..) rfl
  have h3 : y3.tb = y2.tb := tb_only (only_event ..) rfl
  have ho4 : Only [.heads] (some [.HD_PHASE, .HD_RASTER]) y3 y4 :=
    Only.foldl (Only.refl y3) fun y n h => Only.ite (h.then (only_loadPhase y n) rfl) h
  have ho5 : Only [.out] (some []) y4 y5 := Only.foldl (Only.refl y4) fun y k h => h.then (only_cutLine y k) rfl
  have h4 : y4.tb = y3.tb := tb_only ho4 rfl
  have h5 : y5.tb = y4.tb := tb_only ho5 rfl
  have h0 : (y0.count F.TB_STEP_CNT_COUNT 1).tb = y0.tb := rfl
  have hb : y0.tb = { s.tb with sec := x.sec % 2 ^ 48, ns := x.ns, frac := x.frac, seen1 := d, seen2 := d } := rfl
  have he : y5.tb = y0.tb := (h5.trans h4).trans ((h3.trans h2).trans (h1.trans h0))
  clear_value y5
  exact ⟨d, d, he.trans hb⟩

/-- A step is counted. -/
theorem stepCnt_stepCount (s : State) (off : Int) (org : Org) :
    (s.stepCount off org).get F.TB_STEP_CNT_COUNT = min (s.get F.TB_STEP_CNT_COUNT + 1) 65535 := by
  unfold State.stepCount
  extract_lets t d b0 y0 y1 y2 y3 y4 on mute y5
  have h1 : y1.get F.TB_STEP_CNT_COUNT = min (s.get F.TB_STEP_CNT_COUNT + 1) 65535 :=
    ((only_latch ..).field _ .TB_STEP_CNT rfl rfl).trans (get_count_self y0 F.TB_STEP_CNT_COUNT 1 (by decide))
  have h3 : y3.get F.TB_STEP_CNT_COUNT = y1.get F.TB_STEP_CNT_COUNT :=
    ((only_event ..).field _ .TB_STEP_CNT rfl rfl).trans ((only_log ..).field _ .TB_STEP_CNT rfl rfl)
  have h4 : Only [.heads] (some [.HD_PHASE, .HD_RASTER]) y3 y4 :=
    Only.foldl (Only.refl y3) fun y n h => Only.ite (h.then (only_loadPhase y n) rfl) h
  have h5 : Only [.out] (some []) y4 y5 := Only.foldl (Only.refl y4) fun y k h => h.then (only_cutLine y k) rfl
  have h4' : y4.get F.TB_STEP_CNT_COUNT = y3.get F.TB_STEP_CNT_COUNT := h4.field _ .TB_STEP_CNT rfl rfl
  have h5' : y5.get F.TB_STEP_CNT_COUNT = y4.get F.TB_STEP_CNT_COUNT := h5.field _ .TB_STEP_CNT rfl rfl
  clear_value y5
  exact (h5'.trans h4').trans (h3.trans h1)

theorem actOn_first (h : s.stepsFirst = true) : s.actOn m c b =
    ((((s.primed.stepCount (s.src c).offset ⟨0x20, m.pc % 65536⟩).updSrc c fun x => { x with offset := 0 }).follow b).lockCheck
      (s.src c).offset) := if_pos h

/-- The first-lock step (R114): the count steps, the step is counted, and a free time base acquires. -/
theorem actOn_steps (h : s.stepsFirst = true) (hc : s.get F.TB_STATE_SRC ≠ 0) (hs : s.get F.TB_STATE_STATE = 4)
    (hf : s.flag F.TB_STATE_FIRST_LOCK = false) :
    (s.actOn m c b).tai = (let x := ofUnits (((unitsOf s.tai : Int) + (s.src c).offset * (2 ^ 32 : Nat)).toNat); ⟨x.sec % 2 ^ 48, x.ns, x.frac⟩) ∧
      (s.actOn m c b).get F.TB_STEP_CNT_COUNT = min (s.get F.TB_STEP_CNT_COUNT + 1) 65535 ∧
      (s.actOn m c b).get F.TB_STATE_STATE = 5 := by
  rw [actOn_first h]
  generalize (s.src c).offset = off
  have hstep := only_stepCount s.primed off ⟨0x20, m.pc % 65536⟩
  obtain ⟨d1, d2, htb⟩ := tb_stepCount s.primed off ⟨0x20, m.pc % 65536⟩
  have hcnt := stepCnt_stepCount s.primed off ⟨0x20, m.pc % 65536⟩
  generalize s.primed.stepCount off ⟨0x20, m.pc % 65536⟩ = y at hstep htb hcnt
  have hst : y.get F.TB_STATE_STATE = 4 := (hstep.field _ .TB_STATE rfl rfl).trans hs
  have hsrc : y.get F.TB_STATE_SRC ≠ 0 := fun e => hc ((hstep.field F.TB_STATE_SRC .TB_STATE rfl rfl).symm.trans e)
  have hfl : y.flag F.TB_STATE_FIRST_LOCK = false := (congrArg (· != 0) (hstep.field F.TB_STATE_FIRST_LOCK .TB_STATE rfl rfl)).trans hf
  have hu := only_updSrc y c fun x => { x with offset := 0 }
  have hz : ∃ q, (y.updSrc c fun x => { x with offset := 0 }).tb = { y.tb with srcs := q } := ⟨_, rfl⟩
  generalize (y.updSrc c fun x => { x with offset := 0 }) = z at hu hz
  obtain ⟨q, hz⟩ := hz
  have hst' : z.get F.TB_STATE_STATE = 4 := (hu.field _ .TB_STATE rfl rfl).trans hst
  have hfollow : z.follow b = z.setTb 5 := follow_freerun (by rw [hu.field F.TB_STATE_SRC .TB_STATE rfl rfl]; exact hsrc) hst'
    ((congrArg (· != 0) (hu.field F.TB_STATE_FIRST_LOCK .TB_STATE rfl rfl)).trans hfl)
  obtain ⟨w, hl⟩ := lockCheck_fresh off (within_setTb_acquire (s := z) (by rw [hst']; decide))
  rw [hfollow, hl]
  refine ⟨?_, ?_, state_setTb z (by decide)⟩
  · have hset : (z.setTb 5).tai = z.tai := tai_of (count_of (sameClock_setTb z 5))
    refine hset.trans ?_
    unfold State.tai
    rw [hz, htb]
    rfl
  · exact ((only_setTb z 5).field F.TB_STEP_CNT_COUNT .TB_STEP_CNT rfl rfl).trans
      ((hu.field F.TB_STEP_CNT_COUNT .TB_STEP_CNT rfl rfl).trans hcnt)

end

/-! ### The command SERVO_MEASURE -/

/-- The end of SERVO_MEASURE touches neither the time base nor its registers. -/
theorem only_measureEnd (y : State) : Only (.out :: .msix :: .gl :: modeAreas) (some (.GL_STATE :: modeRegs)) y y.glWake.settleMode.finish :=
  (((only_glWake y).widen (by decide)).then (only_settleMode _) (by decide)).then (only_finish _) (by decide)

section
variable {s : State} {m : ServoMeasure}

/-- A steady measurement has been written to TB_OFS, and is to be acted on. -/
def State.written (s : State) (m : ServoMeasure) : State := (s.sampled m).writeOfs m.pc (s.measured m)

/-- The word of an offset in TB_OFS. -/
abbrev ofsWord (off : Int) : Word := w32 (pattern 32 (clampI (-2147483648) 2147483647 off))

theorem written_spec (hs : ServoMay s) (m : ServoMeasure) :
    Only [.w1, .tb, .sl] (some [.TB_OFS]) s (s.written m) ∧ (s.written m).tb = (s.sampled m).tb ∧
      (s.written m).rd ofsKey = ofsWord (s.measured m) := by
  have hm : ServoMay (s.sampled m) := (only_sampled s m).servoMay hs rfl rfl
  obtain ⟨ho, hv⟩ := servoWrite_word (pc := m.pc) (v := ofsWord (s.measured m)) hm (.inl rfl)
  exact ⟨((only_sampled s m).widen (by decide)).then ho (by decide), tb_only ho rfl, hv⟩

/-- What a steady measurement comes to, once it has been acted on. -/
theorem servoMeasure_does {P : State → Prop} (h : Steady s m)
    (hP : P (((s.written m).actOn m (srcCode m.src) false).writeInc m).glWake.settleMode.finish) : Does (.servoMeasure m) s P := by
  refine Does.of (f := fun s => (servoStep m s).glWake.settleMode) rfl ?_
  rw [servoStep_steady h]
  exact hP

/-- The end of a measurement that has been acted on: the increment that the loop asks for is applied in ACQUIRE and LOCKED. -/
def State.concludes (a : State) (m : ServoMeasure) : State := (a.writeInc m).glWake.settleMode.finish

section
variable {a : State}

theorem only_concludes (a : State) (m : ServoMeasure) : Only (raising (.w1 :: .out :: .msix :: .gl :: modeAreas))
    (some (incRegs ++ .GL_STATE :: modeRegs)) a (a.concludes m) :=
  ((only_writeInc_inc a m).widen (by decide)).then (only_measureEnd _) (by decide)

theorem inc_concludes (hs : ServoMay a) (hst : a.get F.TB_STATE_STATE = 5 ∨ a.get F.TB_STATE_STATE = 6)
    (h1 : a.incLimits.1 ≤ m.incReq % 2 ^ 40) (h2 : m.incReq % 2 ^ 40 ≤ a.incLimits.2) : (a.concludes m).inc = m.incReq % 2 ^ 40 :=
  (inc_only (only_measureEnd _) (by decide) (by decide)).trans (inc_writeInc hs hst h1 h2)

theorem state_concludes {hi lo : Nat} : (a.concludes m).get ⟨(.TB_STATE, []), hi, lo⟩ = a.get ⟨(.TB_STATE, []), hi, lo⟩ :=
  (only_concludes a m).field _ .TB_STATE rfl (by decide)

theorem tb_concludes : (a.concludes m).tb = a.tb := tb_only (only_concludes a m) (by decide)

theorem stepCnt_concludes : (a.concludes m).get F.TB_STEP_CNT_COUNT = a.get F.TB_STEP_CNT_COUNT :=
  (only_concludes a m).field _ .TB_STEP_CNT rfl (by decide)

/-- A measurement that ends in HOLDOVER raises nothing more. -/
theorem cnt_concludes (hst : a.get F.TB_STATE_STATE = 7) (id : Nat) : (a.concludes m).rd (.FC_CNT, [id]) = a.rd (.FC_CNT, [id]) := by
  unfold State.concludes
  rw [writeInc_other (by rw [hst]; decide) (by rw [hst]; decide)]
  exact (only_measureEnd a).reg _ .FC_CNT rfl (by decide)

end

/-- The state that a measurement leaves is that of its action, but for the increment. -/
theorem said_concludes (hs : ServoMay s) : (((s.written m).actOn m (srcCode m.src) false).concludes m).rd ofsKey = ofsWord (s.measured m) := by
  rw [(only_concludes ..).reg _ .TB_OFS rfl (by decide), (only_actOn ..).reg _ .TB_OFS rfl (by decide)]
  exact (written_spec hs m).2.2

theorem steers_concludes (hs : ServoMay s)
    (hst : ((s.written m).actOn m (srcCode m.src) false).get F.TB_STATE_STATE = 5 ∨
      ((s.written m).actOn m (srcCode m.src) false).get F.TB_STATE_STATE = 6)
    (h1 : s.incLimits.1 ≤ m.incReq % 2 ^ 40) (h2 : m.incReq % 2 ^ 40 ≤ s.incLimits.2) :
    (((s.written m).actOn m (srcCode m.src) false).concludes m).inc = m.incReq % 2 ^ 40 := by
  have hw := (written_spec hs m).1
  have ha := only_actOn (s.written m) m (srcCode m.src) false
  have hl : ((s.written m).actOn m (srcCode m.src) false).incLimits = s.incLimits := by
    rw [ha.incLimits rfl rfl rfl, hw.incLimits rfl rfl rfl]
  exact inc_concludes (ha.servoMay (hw.servoMay hs rfl rfl) rfl rfl) hst (by rwa [hl]) (by rwa [hl])

end

end Sys2Proof.Machine

/-! PROOF. The cases of a measurement, and of the loss and the return of a source, which settle O23 (R107 to R119). -/

namespace Sys2Proof.Machine

/-- The increment that the loop asks for is the one in force, where it is within the limits (R101). -/
def Steers (s : State) (m : ServoMeasure) (t : State) : Prop :=
  s.incLimits.1 ≤ m.incReq % 2 ^ 40 → m.incReq % 2 ^ 40 ≤ s.incLimits.2 → t.inc = m.incReq % 2 ^ 40

/-- A measured offset within the step threshold has been judged. -/
def State.judged (s : State) (m : ServoMeasure) : State := (s.written m).readied.trusted

section
variable {s : State} {m : ServoMeasure}

/-! ### A measurement has been written (R107, R119) -/

theorem get_written {hi lo : Nat} (hs : ServoMay s) : (s.written m).get ⟨(.TB_STATE, []), hi, lo⟩ = s.get ⟨(.TB_STATE, []), hi, lo⟩ :=
  (written_spec hs m).1.field _ .TB_STATE rfl rfl

theorem flag_written {hi lo : Nat} (hs : ServoMay s) : (s.written m).flag ⟨(.TB_STATE, []), hi, lo⟩ = s.flag ⟨(.TB_STATE, []), hi, lo⟩ :=
  congrArg (· != 0) (get_written hs)

theorem tb_written (hs : ServoMay s) : ∃ p d q, (s.written m).tb = { s.tb with ports := p, pathDelay := d, srcs := q } := by
  rw [(written_spec hs m).2.1]
  exact tb_sampled s m

theorem stepThresh_written (hs : ServoMay s) : (s.written m).stepThresh = s.stepThresh := (written_spec hs m).1.field _ .TB_STEP_THRESH rfl rfl

theorem offset_written (hs : ServoMay s) (h : s.mayMeasure m = true) : ((s.written m).src (srcCode m.src)).offset = s.measured m :=
  (congrArg SrcSt.offset (src_tb (written_spec hs m).2.1 _)).trans (src_sampled h).2

theorem needStep_written (hs : ServoMay s) : (s.written m).tb.needStep = s.tb.needStep := by
  obtain ⟨p, d, q, h⟩ := tb_written (m := m) hs
  rw [h]

theorem exceed_written (hs : ServoMay s) : (s.written m).tb.exceed = s.tb.exceed ∧ (s.written m).tb.exceedSrc = s.tb.exceedSrc := by
  obtain ⟨p, d, q, h⟩ := tb_written (m := m) hs
  rw [h]
  exact ⟨rfl, rfl⟩

theorem only_judged (hs : ServoMay s) : Only [.w1, .tb, .sl] (some [.TB_OFS, .TB_STATE]) s (s.judged m) := by
  have hr : Only [.w1, .tb, .sl] (some [.TB_OFS]) s (s.written m).readied := (written_spec hs m).1.tb 1 rfl
  exact (hr.widen (by decide)).then (only_trusted _) rfl

/-- The fields of TB_STATE but RESTEP_PEND keep their values. -/
theorem get_judged {hi lo : Nat} (hs : ServoMay s) (h : hi < 9 ∨ 9 < lo) :
    (s.judged m).get ⟨(.TB_STATE, []), hi, lo⟩ = s.get ⟨(.TB_STATE, []), hi, lo⟩ :=
  (get_trusted (s := (s.written m).readied) h).trans (get_written hs)

theorem within_judged (hs : ServoMay s) : (s.judged m).tb.within = s.tb.within := by
  obtain ⟨p, d, q, h⟩ := tb_written (m := m) hs
  have hw : (s.judged m).tb.within = (s.written m).tb.within := rfl
  rw [hw, h]

/-- A measurement within the step threshold in ACQUIRE or LOCKED comes to the lock criterion. -/
theorem actOn_judged (hs : ServoMay s) (h : Steady s m) (hn : s.tb.needStep = false) (ho : (s.measured m).natAbs ≤ s.stepThresh)
    (hst : s.get F.TB_STATE_STATE = 5 ∨ s.get F.TB_STATE_STATE = 6) :
    (s.written m).actOn m (srcCode m.src) false = (s.judged m).lockCheck (s.measured m) := by
  have hf : (s.judged m).follow false = s.judged m := follow_stays (by
    rw [get_judged hs (by decide)]
    exact hst.imp_right fun e => ⟨e, rfl⟩)
  have hoff : ((s.written m).src (srcCode m.src)).offset = s.measured m := offset_written hs h.may
  rw [actOn_within ((needStep_written hs).trans hn) (by rwa [hoff, stepThresh_written hs]), hoff]
  exact congrArg (State.lockCheck · (s.measured m)) hf

/-! ### The cases of SERVO_MEASURE (R107 to R119) -/

/-- A measurement that leaves the time base in ACQUIRE or LOCKED applies the increment. -/
theorem measure_does {P : State → Prop} (hs : ServoMay s) (h : Steady s m)
    (hst : ((s.written m).actOn m (srcCode m.src) false).get F.TB_STATE_STATE = 5 ∨
      ((s.written m).actOn m (srcCode m.src) false).get F.TB_STATE_STATE = 6)
    (hP : ∀ t, t = ((s.written m).actOn m (srcCode m.src) false).concludes m → t.rd ofsKey = ofsWord (s.measured m) → Steers s m t → P t) :
    Does (.servoMeasure m) s P :=
  servoMeasure_does h (hP _ rfl (said_concludes hs) (steers_concludes hs hst))

theorem measure_first (hs : ServoMay s) (h : Steady s m) (hn : s.tb.needStep = true) (hf : s.flag F.TB_STATE_FIRST_LOCK = false)
    (hx : s.flag F.TB_CTRL_FIRST_STEP = true) (hr : s.anyRunning = false) (hst : s.get F.TB_STATE_STATE = 4) : Does (.servoMeasure m) s fun t =>
    t.tai = (let x := ofUnits (((unitsOf s.tai : Int) + s.measured m * (2 ^ 32 : Nat)).toNat); ⟨x.sec % 2 ^ 48, x.ns, x.frac⟩) ∧
      t.get F.TB_STEP_CNT_COUNT = min (s.get F.TB_STEP_CNT_COUNT + 1) 65535 ∧ t.get F.TB_STATE_STATE = 5 ∧
      t.rd ofsKey = ofsWord (s.measured m) ∧ Steers s m t := by
  obtain ⟨hw, -, -⟩ := written_spec hs m
  have hfirst : (s.written m).stepsFirst = true := by
    have hrun : (s.written m).anyRunning = s.anyRunning := by
      unfold State.anyRunning State.running State.hst
      simp only [hw.field (F.HD_STAT_STATE _) .HD_STAT rfl rfl]
    have hctrl : (s.written m).flag F.TB_CTRL_FIRST_STEP = s.flag F.TB_CTRL_FIRST_STEP :=
      congrArg (· != 0) (hw.field F.TB_CTRL_FIRST_STEP .TB_CTRL rfl rfl)
    unfold State.stepsFirst
    rw [needStep_written hs, flag_written hs, hctrl, hrun, hn, hf, hx, hr]
    rfl
  obtain ⟨htai, hcnt, hstate⟩ := actOn_steps (m := m) (c := srcCode m.src) (b := false) hfirst
    (by rw [get_written hs, h.selected]; exact srcCode_pos m.src) ((get_written hs).trans hst) ((flag_written hs).trans hf)
  have htai0 : (s.written m).tai = s.tai := by
    obtain ⟨p, d, q, hb⟩ := tb_written (m := m) hs
    unfold State.tai
    rw [hb]
  refine measure_does hs h (.inl hstate) fun t ht hsaid hsteers => ⟨?_, ?_, ?_, hsaid, hsteers⟩
  · rw [← htai0, ← offset_written hs h.may, ← htai, ht]
    unfold State.tai
    rw [tb_concludes]
  · rw [ht, stepCnt_concludes, hcnt, hw.field F.TB_STEP_CNT_COUNT .TB_STEP_CNT rfl rfl]
  · rw [ht, state_concludes, hstate]

section
variable (hs : ServoMay s) (h : Steady s m) (hn : s.tb.needStep = false)
include hs h hn

theorem measure_locked (ho : (s.measured m).natAbs ≤ s.stepThresh) (hst : s.get F.TB_STATE_STATE = 6) : Does (.servoMeasure m) s fun t =>
    t.get F.TB_STATE_STATE = 6 ∧ t.get F.TB_STATE_SRC = srcCode m.src ∧ t.rd ofsKey = ofsWord (s.measured m) ∧ Steers s m t := by
  have hj : (s.judged m).get F.TB_STATE_STATE = 6 := (get_judged hs (by decide)).trans hst
  have ha : (s.written m).actOn m (srcCode m.src) false = s.judged m :=
    (actOn_judged hs h hn ho (.inr hst)).trans (lockCheck_other (by rw [hj]; decide))
  refine measure_does hs h (by rw [ha]; exact .inr hj) fun t ht hsaid hsteers => ⟨?_, ?_, hsaid, hsteers⟩
  · rw [ht, ha, state_concludes, hj]
  · rw [ht, ha, state_concludes, get_judged hs (by decide), h.selected]

theorem measure_locks {t0 : Nat} (ho : (s.measured m).natAbs ≤ s.stepThresh) (hl : (s.measured m).natAbs ≤ s.get F.TB_LOCK_THRESH_NS)
    (hst : s.get F.TB_STATE_STATE = 5) (hw : s.tb.within = some t0) (ht0 : t0 + ticksS (s.get F.TB_LOCK_TIME_SEC) ≤ s.tick) :
    Does (.servoMeasure m) s fun t =>
      t.get F.TB_STATE_STATE = 6 ∧ t.get F.TB_STATE_FIRST_LOCK = 1 ∧ t.rd ofsKey = ofsWord (s.measured m) ∧ Steers s m t := by
  have hj : (s.judged m).get F.TB_STATE_STATE = 5 := (get_judged hs (by decide)).trans hst
  have hjo := only_judged (m := m) hs
  have ha : (s.written m).actOn m (srcCode m.src) false = (s.judged m).setTb 6 := by
    refine (actOn_judged hs h hn ho (.inl hst)).trans (lockCheck_locks hj ?_ ((within_judged hs).trans hw) ?_)
    · rwa [hjo.field F.TB_LOCK_THRESH_NS .TB_LOCK_THRESH rfl rfl]
    · rwa [hjo.field F.TB_LOCK_TIME_SEC .TB_LOCK_TIME rfl rfl, tick_only hjo rfl]
  have h6 : ((s.judged m).setTb 6).get F.TB_STATE_STATE = 6 := state_setTb _ (by decide)
  refine measure_does hs h (by rw [ha]; exact .inr h6) fun t ht hsaid hsteers => ⟨?_, ?_, hsaid, hsteers⟩
  · rw [ht, ha, state_concludes, h6]
  · rw [ht, ha, state_concludes, firstLock_setTb (by rw [hj]; decide)]

theorem measure_acquires (ho : (s.measured m).natAbs ≤ s.stepThresh) (hl : (s.measured m).natAbs ≤ s.get F.TB_LOCK_THRESH_NS)
    (hst : s.get F.TB_STATE_STATE = 5) (hw : s.tb.within = none) : Does (.servoMeasure m) s fun t =>
    t.get F.TB_STATE_STATE = 5 ∧ t.tb.within = some s.tick ∧ t.rd ofsKey = ofsWord (s.measured m) ∧ Steers s m t := by
  have hj : (s.judged m).get F.TB_STATE_STATE = 5 := (get_judged hs (by decide)).trans hst
  have hjo := only_judged (m := m) hs
  have ha := (actOn_judged hs h hn ho (.inl hst)).trans (lockCheck_starts hj (by rwa [hjo.field F.TB_LOCK_THRESH_NS .TB_LOCK_THRESH rfl rfl])
    ((within_judged hs).trans hw))
  refine measure_does hs h (by rw [ha]; exact .inl hj) fun t ht hsaid hsteers => ⟨?_, ?_, hsaid, hsteers⟩
  · rw [ht, ha, state_concludes]
    exact hj
  · rw [ht, ha, tb_concludes]
    exact congrArg some (tick_only hjo rfl)

/-- The third measurement in a row above the threshold (R113). -/
theorem measure_third (ho : s.stepThresh < (s.measured m).natAbs) (he : s.tb.exceed = 2) (hc : s.tb.exceedSrc = srcCode m.src) :
    Does (.servoMeasure m) s fun t =>
      t.get F.TB_STATE_STATE = 7 ∧ t.get F.TB_STATE_RESTEP_PEND = 1 ∧ t.rd ofsKey = ofsWord (s.measured m) ∧ Raised 0x041 s t := by
  obtain ⟨hw, -, -⟩ := written_spec hs m
  obtain ⟨hexc, hexs⟩ := exceed_written (m := m) hs
  have ha : (s.written m).actOn m (srcCode m.src) false = ((s.written m).readied.exceeds (srcCode m.src) 3).declares :=
    actOn_third ((needStep_written hs).trans hn) (by rwa [offset_written hs h.may, stepThresh_written hs]) (hexs.trans hc) (hexc.trans he)
  obtain ⟨h7, hp, hr⟩ := declares_holds (s := (s.written m).readied.exceeds (srcCode m.src) 3)
  refine servoMeasure_does h ⟨?_, ?_, said_concludes hs, ?_⟩
  · exact state_concludes.trans (by rw [ha, h7])
  · exact state_concludes.trans (by rw [ha, hp])
  · refine hr.of (hw.reg _ .FC_CNT rfl rfl) ?_
    rw [← ha]
    exact cnt_concludes (by rw [ha, h7]) 0x041

theorem measure_counts (ho : s.stepThresh < (s.measured m).natAbs) (he : s.tb.exceed < 2) (hc : s.tb.exceedSrc = srcCode m.src)
    (hp : s.flag F.TB_STATE_RESTEP_PEND = true) (hst : s.get F.TB_STATE_STATE = 7) : Does (.servoMeasure m) s fun t =>
    t.get F.TB_STATE_STATE = 7 ∧ t.tb.exceed = s.tb.exceed + 1 ∧ t.rd ofsKey = ofsWord (s.measured m) := by
  obtain ⟨hexc, hexs⟩ := exceed_written (m := m) hs
  have ha : (s.written m).actOn m (srcCode m.src) false = (s.written m).readied.exceeds (srcCode m.src) (s.tb.exceed + 1) := by
    rw [← hexc]
    exact actOn_counts ((needStep_written hs).trans hn) (by rwa [offset_written hs h.may, stepThresh_written hs]) (hexs.trans hc)
      (by rwa [hexc]) ((flag_written hs).trans hp)
  refine servoMeasure_does h ⟨?_, ?_, said_concludes hs⟩
  · exact state_concludes.trans (by rw [ha]; exact (get_written hs).trans hst)
  · exact (congrArg TbSt.exceed tb_concludes).trans (by rw [ha]; rfl)

/-- A PTP exchange shows its slave port, and its path delay (R121). -/
theorem measure_ptp {x : PtpSample} (hp : m.src = .ptp) (hx : m.ptp = some x) : Does (.servoMeasure m) s fun t =>
    (t.ptp x.port.val).slave = true ∧ (t.src 1).usable = true ∧ t.tb.pathDelay = (s.ptpSolve x).1 / 2 ^ 24 := by
  have hwritten : SameSources (s.sampled m) (s.written m) := congrArg TbSt.sources (written_spec hs m).2.1
  have hsame : SameSources (s.sampled m) (((s.written m).actOn m (srcCode m.src) false).concludes m) :=
    (hwritten.trans (sameSources_actOn ((needStep_written hs).trans hn))).trans (congrArg TbSt.sources tb_concludes)
  obtain ⟨hslave, hdelay⟩ := sources_sampled_ptp (s := s) hp hx
  have husable := (src_sampled h.may).1
  rw [hp] at husable
  refine servoMeasure_does h ⟨?_, ?_, ?_⟩
  · exact (congrArg PtpPort.slave (ptp_of hsame _)).trans hslave
  · exact (congrArg SrcSt.usable (src_of hsame 1)).trans husable
  · exact (congrArg (fun y => y.2.2.1) hsame).trans hdelay

end

theorem measure_cannot (h : s.mayMeasure m = false) : Does (.servoMeasure m) s fun t => t.tb = s.tb ∧ t.inc = s.inc := by
  have he : servoStep m s = s := if_pos (by rw [h]; rfl)
  refine Does.of (f := fun s => (servoStep m s).glWake.settleMode) rfl ?_
  rw [he]
  exact ⟨tb_only (only_measureEnd s) (by decide), inc_only (only_measureEnd s) (by decide) (by decide)⟩

end

/-! ### SOURCE_LOST (R107, R110) -/

section
variable {s : State} {src : Src}

/-- The end of SOURCE_LOST. -/
theorem only_lostEnd (y : State) : Only (.out :: .msix :: modeAreas) (some modeRegs) y y.settleMode.finish :=
  ((only_settleMode y).widen (by decide)).then (only_finish _) (by decide)

theorem sourceLost_does {P : State → Prop} (h : ∀ t, Only (.out :: .msix :: modeAreas) (some modeRegs) (srcLost (srcCode src) s) t → P t) :
    Does (.sourceLost src) s P := Does.of (f := fun s => (srcLost (srcCode src) s).settleMode) rfl (h _ (only_lostEnd _))

theorem state_lostEnd {y t : State} {hi lo : Nat} (ho : Only (.out :: .msix :: modeAreas) (some modeRegs) y t) :
    t.get ⟨(.TB_STATE, []), hi, lo⟩ = y.get ⟨(.TB_STATE, []), hi, lo⟩ := ho.field _ .TB_STATE rfl (by decide)

theorem unusable_lostEnd {c : Nat} {t : State} (ho : Only (.out :: .msix :: modeAreas) (some modeRegs) (srcLost c s) t) :
    (t.src c).usable = false := by
  rw [src_tb (tb_only ho (by decide)), usable_srcLost]
  simp

theorem sourceLost_holds (hu : (s.src (srcCode src)).usable = true) (hc : s.get F.TB_STATE_SRC = srcCode src)
    (hl : ∀ d, d ≠ srcCode src → (s.src d).usable = false) (hst : s.get F.TB_STATE_STATE = 6) : Does (.sourceLost src) s fun t =>
    t.get F.TB_STATE_STATE = 7 ∧ t.get F.TB_STATE_SRC = 0 ∧ (t.src (srcCode src)).usable = false ∧ t.tb.holdSince = s.tick ∧
      Raised 0x040 s t := by
  obtain ⟨y, hy, hsel, hstate, -, -, hnone, hyo⟩ := srcLost_last hu hc hl
  obtain ⟨h7, hsince, hr⟩ := loseSource_holds (hstate.trans hst) hnone
  refine sourceLost_does fun t ho => ?_
  have hgone := unusable_lostEnd ho
  rw [hy] at ho
  refine ⟨?_, ?_, hgone, ?_, ?_⟩
  · rw [state_lostEnd ho, h7]
  · rw [state_lostEnd ho, selected_loseSource, hsel]
  · rw [tb_only ho (by decide), hsince, tick_only hyo rfl]
  · exact hr.of (hyo.reg _ .FC_CNT rfl rfl) (ho.reg _ .FC_CNT rfl (by decide))

theorem sourceLost_frees (hu : (s.src (srcCode src)).usable = true) (hc : s.get F.TB_STATE_SRC = srcCode src)
    (hl : ∀ d, d ≠ srcCode src → (s.src d).usable = false) (hst : s.get F.TB_STATE_STATE = 5) (hf : s.flag F.TB_STATE_FIRST_LOCK = false)
    (hr : s.tb.restep = none) : Does (.sourceLost src) s fun t =>
    t.get F.TB_STATE_STATE = 4 ∧ t.get F.TB_STATE_SRC = 0 ∧ (t.src (srcCode src)).usable = false := by
  obtain ⟨y, hy, hsel, hstate, hfirst, hrestep, -, -⟩ := srcLost_last hu hc hl
  refine sourceLost_does fun t ho => ⟨?_, ?_, unusable_lostEnd ho⟩
  · rw [state_lostEnd ho, hy, loseSource_frees (hstate.trans hst) (hfirst.trans hf) (hrestep.trans hr)]
  · rw [state_lostEnd ho, hy, selected_loseSource, hsel]

theorem sourceLost_idle (hu : (s.src (srcCode src)).usable = false) : Does (.sourceLost src) s fun t =>
    t.tb = s.tb ∧ t.get F.TB_STATE_STATE = s.get F.TB_STATE_STATE := by
  refine sourceLost_does fun t ho => ?_
  rw [srcLost_unusable hu] at ho
  exact ⟨tb_only ho (by decide), state_lostEnd ho⟩

theorem sourceLost_other (hu : (s.src (srcCode src)).usable = true) (hc : s.get F.TB_STATE_SRC ≠ srcCode src) : Does (.sourceLost src) s fun t =>
    (t.src (srcCode src)).usable = false ∧ t.get F.TB_STATE_STATE = s.get F.TB_STATE_STATE ∧ t.get F.TB_STATE_SRC = s.get F.TB_STATE_SRC := by
  refine sourceLost_does fun t ho => ⟨unusable_lostEnd ho, ?_⟩
  rw [srcLost_unselected hu hc] at ho
  exact ⟨(state_lostEnd ho).trans (get_dropSrc (by decide)), (state_lostEnd ho).trans (get_dropSrc (by decide))⟩

/-! ### SOURCE_REQUALIFIED (R108) -/

theorem srcRequalified_found {c : Nat} (hu : (s.src c).usable = true) (hl : (s.src c).lost = true)
    (ht : (s.src c).usableSince + ticksS 30 ≤ s.tick) : ((srcRequalified c s).src c).lost = false := by
  unfold srcRequalified
  extract_lets x y was z
  have hy : (y.src c).lost = false := by
    unfold y
    rw [src_updSrc, if_pos rfl]
  have hz : (z.src c).lost = false := lost_selectSrc.trans hy
  rw [if_neg (by simp [x, hu, hl, ht])]
  split_ifs
  · exact hy
  · exact hz
  · exact (congrArg SrcSt.lost (src_of (sameSources_follow z true) c)).trans hz

theorem srcRequalified_waits {c : Nat} (ht : s.tick < (s.src c).usableSince + ticksS 30) : srcRequalified c s = s := by
  refine if_pos ?_
  simp [Nat.not_le.mpr ht]

theorem requalified_tb : Does (.sourceRequalified src) s fun t => t.tb = (srcRequalified (srcCode src) s).tb :=
  Does.of (f := fun s => (srcRequalified (srcCode src) s).glWake.settleMode) rfl (tb_only (only_measureEnd _) (by decide))

end

/-- Settles O23: a measurement that keeps the selection is written, judged and acted on; a source that is lost leaves the selection, and the
time base answers where none is left. -/
theorem sourcesSteerTheTimeBase : Obligations.SourcesSteerTheTimeBase := by
  unfold Obligations.SourcesSteerTheTimeBase
  refine ⟨fun m s hserved hrights => ?_, fun src s => ?_⟩
  · have hs : ServoMay s := ⟨hserved, hrights⟩
    intro c off keeps plain small steers said
    have steady (h : keeps) : Steady s m := ⟨h.1, h.2.1, h.2.2.1, h.2.2.2.1, h.2.2.2.2⟩
    exact ⟨fun h => measure_first hs (steady h), fun h ho => measure_locked hs (steady h.1) h.2 ho.1,
      fun t0 h ho => measure_locks hs (steady h.1) h.2 ho.1 ho.2, fun h ho => measure_acquires hs (steady h.1) h.2 ho.1 ho.2,
      fun h ho _ => measure_third hs (steady h.1) h.2 ho, fun h ho => measure_counts hs (steady h.1) h.2 ho,
      fun x h => measure_ptp hs (steady h.1) h.2, measure_cannot⟩
  · intro c last
    refine ⟨fun h => sourceLost_holds h.1 h.2.1 h.2.2, fun h => sourceLost_frees h.1 h.2.1 h.2.2, sourceLost_idle, sourceLost_other,
      fun hu hl ht => ?_, fun ht => ?_⟩
    · obtain ⟨t, he, hb⟩ := requalified_tb (s := s) (src := src)
      exact ⟨t, he, (congrArg SrcSt.lost (src_tb hb c)).trans (srcRequalified_found hu hl ht)⟩
    · obtain ⟨t, he, hb⟩ := requalified_tb (s := s) (src := src)
      exact ⟨t, he, hb.trans (congrArg State.tb (srcRequalified_waits ht))⟩

end Sys2Proof.Machine

/-! PROOF. The write of RF_CTRL and the record of the reference registers (O26; R134, R143). -/

namespace Sys2Proof.Machine

/-- RF_CTRL. -/
abbrev rfCtrl : Key := (.RF_CTRL, [])

/-- Two fields of one bit each that stand side by side. -/
theorem bits_pair (w : Word) : bits w 2 1 = bits w 1 1 + 2 * bits w 2 2 := by
  unfold bits
  omega

section
variable {s y : State} {o : Origin} {v : Word}

/-- What follows the store of a write of RF_CTRL, but for the selection: SAVE asks for the record (R143). -/
def State.savedBy (s : State) (v : Word) : State := if asksOne v 0 then (s.set F.RF_CTRL_SAVE 0).requestRegs 3 rfRecord else s

/-- A write of RF_CTRL that reaches it is stored, SAVE asks for the record, and a change of TB_IN or TB_LTC makes source 3 anew. -/
theorem keyWrite_rfCtrl (h : Reaches s o rfCtrl v) (hm : bits v 31 16 ≠ 0) : ∃ new y x,
    bits new 1 1 = maskedBit v (s.rd rfCtrl) 1 ∧ bits new 2 2 = maskedBit v (s.rd rfCtrl) 2 ∧ y.rd rfCtrl = new ∧
      Only [.w1] (some [.RF_CTRL]) s y ∧
      s.keyWrite o rfCtrl v =
        (if bits (s.rd rfCtrl) 2 1 ≠ bits new 2 1 then (y.savedBy v).src3Changed else y.savedBy v).withLog x := by
  have he : emptyMask (.reg rfCtrl) v 15 = false := by
    show (15 == 15 && isMw (regDef .RF_CTRL) && bits v 31 16 == 0) = false
    rw [beq_eq_false_iff_ne.mpr hm, Bool.and_false]
  have hfree : ∀ f ∈ (regDef rfCtrl.1).fields, Free s rfCtrl f := free_fields s (by decide)
  obtain ⟨m, x, hk⟩ := keyWrite_takes h addr_RF_CTRL he rfl Reg.noConfusion (taken_of _ Reg.noConfusion Reg.noConfusion)
    (judgeFields_free hfree) rfl
  have hbit {i : Nat} (hf : fd i i .mw .imm 0 ∈ (regDef .RF_CTRL).fields) (hi : i < 16) :
      bits (s.judgeFields rfCtrl v true).word i i = maskedBit v (s.rd rfCtrl) i :=
    (bits_judgeFields hfree rfl hf (.inr rfl)).trans (bits_asked_mask (d := regDef .RF_CTRL) _ v rfl hi)
  have ho : Only [.w1] (some [.RF_CTRL]) s (s.withMarks m) := (Only.refl s).w1 0 rfl
  exact ⟨_, (s.withMarks m).store rfCtrl (s.judgeFields rfCtrl v true).word, x, hbit (by decide) (by decide), hbit (by decide) (by decide),
    rd_store Reg.noConfusion Reg.noConfusion, ho.then (only_store_plain rfl) rfl, hk⟩

theorem only_savedBy (s : State) (v : Word) : Only [.dv, .cl] (some [.CL_STAT, .RF_CTRL]) s (s.savedBy v) := only_saveReference s v

/-- The fields of RF_CTRL but SAVE keep their values. -/
theorem get_savedBy {hi lo : Nat} (h : 0 < lo) : (s.savedBy v).get ⟨rfCtrl, hi, lo⟩ = s.get ⟨rfCtrl, hi, lo⟩ := by
  unfold State.savedBy
  split
  · exact ((only_requestRegs ..).field _ .RF_CTRL rfl rfl).trans (get_set_ne _ _ _ _ (by decide) (.inr (.inr h)))
  · rfl

/-! ### Source 3 is made anew (R133, R134) -/

/-- Where source 3 is not usable, its check changes no register. -/
theorem rd_src3Check (h : (s.src 3).usable = false) (k : Key) : s.src3Check.rd k = s.rd k := by
  unfold State.src3Check
  split
  · exact (only_gainSource s 3).reg k k.1 rfl rfl
  · rw [srcLost_unusable h]

/-- The last usable source is source 3, and it is lost: none is selected any more, and a locked time base holds over. -/
theorem src3Changed_ends (hu : (s.src 3).usable = true) (hc : s.get F.TB_STATE_SRC = 3) (hl : ∀ d, d ≠ 3 → (s.src d).usable = false) :
    s.src3Changed.get F.TB_STATE_SRC = 0 ∧ (s.get F.TB_STATE_STATE = 6 → s.src3Changed.get F.TB_STATE_STATE = 7) := by
  obtain ⟨y, hy, hsel, hstate, -, -, hnone, -⟩ := srcLost_last hu hc hl
  have h3 : (y.loseSource.src 3).usable = false := by rw [src_of (sameSources_loseSource y), hnone]
  have he : s.src3Changed = y.loseSource.src3Check := by
    unfold State.src3Changed
    rw [if_pos hc, hy]
  have hg (f : Fld) : s.src3Changed.get f = y.loseSource.get f := by
    unfold State.get
    rw [he, rd_src3Check h3]
  refine ⟨?_, fun hst => ?_⟩
  · rw [hg, selected_loseSource, hsel]
  · rw [hg, (loseSource_holds (hstate.trans hst) hnone).1]

/-- Source 3 is made up of other inputs. -/
theorem src3InputChange_holds (h : Reaches s o rfCtrl v) (hm : bits v 31 16 ≠ 0) : Does (.src3InputChange o v) s fun t =>
    t.get F.RF_CTRL_TB_IN = (if v.getLsbD 17 then bits v 1 1 else s.get F.RF_CTRL_TB_IN) ∧
      t.get F.RF_CTRL_TB_LTC = (if v.getLsbD 18 then bits v 2 2 else s.get F.RF_CTRL_TB_LTC) ∧
      ((s.src 3).usable = true → s.get F.TB_STATE_SRC = 3 → (∀ d, d ≠ 3 → (s.src d).usable = false) →
        bits (t.rd rfCtrl) 2 1 ≠ bits (s.rd rfCtrl) 2 1 →
        t.get F.TB_STATE_SRC = 0 ∧ (s.get F.TB_STATE_STATE = 6 → t.get F.TB_STATE_STATE = 7)) := by
  obtain ⟨new, y, x, hb1, hb2, hnew, hy, hk⟩ := keyWrite_rfCtrl h hm
  refine Does.of (f := fun s => (s.keyWrite o rfCtrl v).settleMode) rfl ?_
  have hz := only_savedBy y v
  have hz1 : bits ((y.savedBy v).rd rfCtrl) 1 1 = bits new 1 1 := by rw [← hnew]; exact get_savedBy (by decide)
  have hz2 : bits ((y.savedBy v).rd rfCtrl) 2 2 = bits new 2 2 := by rw [← hnew]; exact get_savedBy (by decide)
  generalize y.savedBy v = z at hz hz1 hz2 hk
  have hctrl : (s.keyWrite o rfCtrl v).settleMode.finish.rd rfCtrl = z.rd rfCtrl := by
    rw [(only_lostEnd _).reg rfCtrl .RF_CTRL rfl (by decide), hk, rd_withLog]
    split
    · exact (only_src3Changed z).reg rfCtrl .RF_CTRL rfl rfl
    · rfl
  have hstate {hi lo : Nat} : z.get ⟨(.TB_STATE, []), hi, lo⟩ = s.get ⟨(.TB_STATE, []), hi, lo⟩ :=
    (hz.field _ .TB_STATE rfl rfl).trans (hy.field _ .TB_STATE rfl rfl)
  have hsrc (d : Nat) : z.src d = s.src d := src_tb ((tb_only hz rfl).trans (tb_only hy rfl)) d
  refine ⟨?_, ?_, fun hu hc hl hne => ?_⟩
  · exact (congrArg (bits · 1 1) hctrl).trans (hz1.trans hb1)
  · exact (congrArg (bits · 2 2) hctrl).trans (hz2.trans hb2)
  · have hchange : bits (s.rd rfCtrl) 2 1 ≠ bits new 2 1 := by
      rw [hctrl, bits_pair (z.rd rfCtrl), hz1, hz2, ← bits_pair] at hne
      exact hne.symm
    obtain ⟨hsel, hhold⟩ := src3Changed_ends (s := z) (by rw [hsrc, hu]) (hstate.trans hc) fun d hd => by rw [hsrc, hl d hd]
    have ht {hi lo : Nat} : (s.keyWrite o rfCtrl v).settleMode.finish.get ⟨(.TB_STATE, []), hi, lo⟩ =
        z.src3Changed.get ⟨(.TB_STATE, []), hi, lo⟩ := by
      rw [state_lostEnd (only_lostEnd _), hk, if_pos hchange, get_withLog]
    exact ⟨ht.trans hsel, fun hst => ht.trans (hhold (hstate.trans hst))⟩

/-! ### The reference record (R143) -/

/-- A write of SAVE alone asks for the record, and leaves the selection. -/
theorem keyWrite_save (h : Reaches s o rfCtrl (w32 0x10001)) : ∃ y x, Only [.w1] (some [.RF_CTRL]) s y ∧
    s.keyWrite o rfCtrl (w32 0x10001) = ((y.set F.RF_CTRL_SAVE 0).requestRegs 3 rfRecord).withLog x := by
  obtain ⟨new, y, x, hb1, hb2, -, hy, hk⟩ := keyWrite_rfCtrl h (by decide)
  have hsame : bits (s.rd rfCtrl) 2 1 = bits new 2 1 := by
    rw [bits_pair, bits_pair new, hb1, hb2]
    rfl
  refine ⟨y, x, hy, ?_⟩
  rw [hk, if_neg (not_not.mpr hsame)]
  rfl

theorem refSave_does {P : State → Prop} (h : Reaches s o rfCtrl (w32 0x10001))
    (hP : ∀ y x, Only [.w1] (some [.RF_CTRL]) s y → P (((y.set F.RF_CTRL_SAVE 0).requestRegs 3 rfRecord).withLog x).finish) :
    Does (.refSave o) s P := by
  obtain ⟨y, x, hy, hk⟩ := keyWrite_save h
  refine Does.of (f := fun s => s.keyWrite o rfCtrl (w32 0x10001)) rfl ?_
  rw [hk]
  exact hP y x hy

theorem save_cleared (y : State) (x : SlSt) : (((y.set F.RF_CTRL_SAVE 0).requestRegs 3 rfRecord).withLog x).finish.get F.RF_CTRL_SAVE = 0 := by
  rw [get_finish, get_withLog, (only_requestRegs ..).field _ .RF_CTRL rfl rfl]
  exact get_set_self y F.RF_CTRL_SAVE 0 (by decide)

theorem healthy_set (hy : Only [.w1] (some [.RF_CTRL]) s y) : (y.set F.RF_CTRL_SAVE 0).healthy = s.healthy :=
  congrArg (· != 0) (((only_set .RF_CTRL rfl).field F.CL_STAT_HEALTHY .CL_STAT rfl rfl).trans (hy.field F.CL_STAT_HEALTHY .CL_STAT rfl rfl))

theorem refSave_requests (h : Reaches s o rfCtrl (w32 0x10001)) (hh : s.healthy = true) : Does (.refSave o) s fun t =>
    t.get F.RF_CTRL_SAVE = 0 ∧ t.cl.queue = s.cl.queue ++ [{ region := 3, body := .regs (rfRecord.map fun k => (k, t.rd k)) 0 0 }] := by
  refine refSave_does h fun y x hy => ⟨save_cleared y x, ?_⟩
  have hcl : (y.set F.RF_CTRL_SAVE 0).cl = s.cl := hy.same .cl (by decide)
  have hrd : ∀ k ∈ rfRecord, (((y.set F.RF_CTRL_SAVE 0).requestRegs 3 rfRecord).withLog x).finish.rd k = (y.set F.RF_CTRL_SAVE 0).rd k := by
    intro k hk
    rw [rd_finish, rd_withLog]
    refine (only_requestRegs ..).reg k k.1 rfl ?_
    revert k
    decide
  rw [List.map_congr_left fun k hk => by rw [hrd k hk], cl_finish]
  have hq := request_queues (r := { region := 3, body := .regs (rfRecord.map fun k => (k, (y.set F.RF_CTRL_SAVE 0).rd k)) 0 0 })
    ((healthy_set hy).trans hh) (show (3 : Nat) ≠ 7 by decide)
  rw [← hcl]
  exact congrArg (fun z : State => z.cl.queue) hq

theorem refSave_stands (h : Reaches s o rfCtrl (w32 0x10001)) (hh : s.healthy = false) : Does (.refSave o) s fun t =>
    t.get F.RF_CTRL_SAVE = 0 ∧ t.cl = s.cl := by
  refine refSave_does h fun y x hy => ⟨save_cleared y x, ?_⟩
  have hcl : (y.set F.RF_CTRL_SAVE 0).cl = s.cl := hy.same .cl (by decide)
  have hq := request_unhealthy (r := { region := 3, body := .regs (rfRecord.map fun k => (k, (y.set F.RF_CTRL_SAVE 0).rd k)) 0 0 })
    ((healthy_set hy).trans hh)
  rw [cl_finish]
  exact (congrArg State.cl hq).trans hcl

end

end Sys2Proof.Machine

/-! PROOF. The PPS and 10 MHz inputs and the sentences of time of day, which settle O26 (R107, R141, R142, R487). -/

namespace Sys2Proof.Machine

/-! ### Source 2 follows its inputs (R107) -/

/-- The 10 MHz input and the last edge are good: source 2 is usable. -/
def State.src2Good (s : State) : Bool := s.flag F.RF_PPS_CTRL_IN_EN && s.tb.tenOk && s.rf.ppsOk

/-- The use of source 2 ends. -/
def State.src2Ends (s : State) : State := ({ s with rf := { s.rf with ppsUse := false } }.latch rfB 0x10).raise 0x04A

section
variable {s t : State} {t1 : Stamp} {ten n : Nat} {m : TodSentence}

theorem src2Check_same (h : s.src2Good = s.rf.ppsUse) : s.src2Check = s := if_pos h

theorem src2Check_eq (s : State) : s.src2Check = if s.src2Good = s.rf.ppsUse then s else
    if s.src2Good then { s with rf := { s.rf with ppsUse := s.src2Good } }.gainSource 2
    else srcLost 2 (({ s with rf := { s.rf with ppsUse := s.src2Good } }.latch rfB 0x10).raise 0x04A) := (rfl)

theorem src2Check_gains (hg : s.src2Good = true) (hu : s.rf.ppsUse = false) :
    s.src2Check = { s with rf := { s.rf with ppsUse := true } }.gainSource 2 := by
  rw [src2Check_eq, hg, hu, if_neg (by decide), if_pos rfl]

theorem src2Check_ends (hg : s.src2Good = false) (hu : s.rf.ppsUse = true) : s.src2Check = srcLost 2 s.src2Ends := by
  rw [src2Check_eq, hg, hu, if_neg (by decide), if_neg (by decide)]
  rfl

theorem usable_gainSource (s : State) (c : Nat) : ((s.gainSource c).src c).usable = true := by
  unfold State.gainSource
  split
  · assumption
  · rw [src_updSrc, if_pos rfl]

theorem tenOk_gainSource (s : State) (c : Nat) : (s.gainSource c).tb.tenOk = s.tb.tenOk := by
  unfold State.gainSource
  split <;> rfl

/-! ### The end of a command on the inputs: the settling of the mode leaves the inputs, the sources and the counters -/

theorem rf_lostEnd (y : State) : y.settleMode.finish.rf = y.rf := (only_lostEnd y).same .rf (by decide)

theorem tb_lostEnd (y : State) : y.settleMode.finish.tb = y.tb := tb_only (only_lostEnd y) (by decide)

theorem fc_lostEnd (y : State) : y.settleMode.finish.fc = y.fc := (only_lostEnd y).same .fc (by decide)

theorem cnt_lostEnd (y : State) (id : Nat) : y.settleMode.finish.rd (.FC_CNT, [id]) = y.rd (.FC_CNT, [id]) :=
  (only_lostEnd y).reg _ .FC_CNT rfl (by decide)

/-- Source 2 becomes usable. -/
theorem src2_gained (hg : s.src2Good = true) (hu : s.rf.ppsUse = false) :
    s.src2Check.settleMode.finish.rf = { s.rf with ppsUse := true } ∧ (s.src2Check.settleMode.finish.src 2).usable = true ∧
      s.src2Check.settleMode.finish.tb.tenOk = s.tb.tenOk := by
  rw [src2Check_gains hg hu]
  refine ⟨?_, ?_, ?_⟩
  · rw [rf_lostEnd]
    exact (only_gainSource _ 2).same .rf (by decide)
  · rw [src_tb (tb_lostEnd _), usable_gainSource]
  · rw [tb_lostEnd, tenOk_gainSource]

/-- Source 2 is no longer usable, which is raised. -/
theorem src2_ended (hg : s.src2Good = false) (hu : s.rf.ppsUse = true) :
    s.src2Check.settleMode.finish.rf = { s.rf with ppsUse := false } ∧ (s.src2Check.settleMode.finish.src 2).usable = false ∧
      Raised 0x04A s s.src2Check.settleMode.finish ∧ s.src2Check.settleMode.finish.tb.tenOk = s.tb.tenOk := by
  rw [src2Check_ends hg hu]
  have hl := only_latch { s with rf := { s.rf with ppsUse := false } } rfB 0x10
  have hr : Only _ _ _ s.src2Ends := only_raise ({ s with rf := { s.rf with ppsUse := false } }.latch rfB 0x10) 0x04A 0 {}
  refine ⟨?_, ?_, ?_, ?_⟩
  · rw [rf_lostEnd]
    exact ((only_srcLost 2 s.src2Ends).same .rf (by decide)).trans ((hr.same .rf (by decide)).trans (hl.same .rf (by decide)))
  · rw [src_tb (tb_lostEnd _), usable_srcLost]
    rfl
  · refine (raised_raise 0 {} (by decide)).of (hl.reg (.FC_CNT, [0x04A]) .FC_CNT rfl rfl) ?_
    rw [cnt_lostEnd]
    exact (keeps_srcLost (L := lossSources) s.src2Ends 2 (.inr rfl) (.inl rfl)).count 0x04A (by unfold lossSources; decide)
  · rw [tb_lostEnd, tenOk_srcLost]
    have hb : s.src2Ends.tb = _ := tb_only hr rfl
    have hlb : ({ s with rf := { s.rf with ppsUse := false } }.latch rfB 0x10).tb = ({ s with rf := { s.rf with ppsUse := false } } : State).tb :=
      tb_only hl rfl
    exact congrArg TbSt.tenOk (hb.trans hlb)

/-! ### PPS_EDGE, PPS_INPUT_LOSS and TEN_MHZ_QUALIFY_CHANGE (R107, R141, R487) -/

/-- A PPS edge falls on a whole second of 10 MHz cycles after the one before it. -/
def alignedEdge (edge : Option (Stamp × Nat)) (ten : Nat) : Bool :=
  match edge with
  | some (_, n) => decide (n < ten) && (decide ((ten - n) % 10000000 ≤ 10) || decide (9999990 ≤ (ten - n) % 10000000))
  | none => false

/-- An edge has been taken; source 2 is yet to follow. -/
def State.edged (s : State) (t1 : Stamp) (ten : Nat) : State :=
  { s with rf := { s.rf with
    edge := some (ofUnits (unitsOf t1 - s.get F.RF_PPSIN_COMP_DELAY * 2 ^ 30), ten)
    ppsOk := alignedEdge s.rf.edge ten && !s.rf.todDue
    todDue := true } }

theorem ppsEdgeOp_takes (hin : s.rfIn = true) (hen : s.flag F.RF_PPS_CTRL_IN_EN = true) : ppsEdgeOp t1 ten s = (s.edged t1 ten).src2Check :=
  if_neg (by simp [hin, hen])

theorem ppsEdge_does {P : State → Prop} (hin : s.rfIn = true) (hen : s.flag F.RF_PPS_CTRL_IN_EN = true)
    (hP : P (s.edged t1 ten).src2Check.settleMode.finish) : Does (.ppsEdge t1 ten) s P := by
  refine Does.of (f := fun s => (ppsEdgeOp t1 ten s).settleMode) rfl ?_
  rw [ppsEdgeOp_takes hin hen]
  exact hP

theorem ppsEdge_gains {e : Stamp} (hin : s.rfIn = true) (hen : s.flag F.RF_PPS_CTRL_IN_EN = true) (he : s.rf.edge = some (e, n)) (hn : n < ten)
    (hd : (ten - n) % 10000000 ≤ 10 ∨ 9999990 ≤ (ten - n) % 10000000) (htod : s.rf.todDue = false) (hten : s.tb.tenOk = true)
    (hu : s.rf.ppsUse = false) : Does (.ppsEdge t1 ten) s fun t =>
    t.rf.ppsUse = true ∧ (t.src 2).usable = true ∧
      t.rf.edge = some (ofUnits (unitsOf t1 - s.get F.RF_PPSIN_COMP_DELAY * 2 ^ 30), ten) ∧ t.rf.todDue = true := by
  have ha : alignedEdge s.rf.edge ten = true := by
    unfold alignedEdge
    rw [he]
    simpa [hn] using hd
  have hg : (s.edged t1 ten).src2Good = true := by
    show (s.flag F.RF_PPS_CTRL_IN_EN && s.tb.tenOk && (alignedEdge s.rf.edge ten && !s.rf.todDue)) = true
    rw [hen, hten, ha, htod]
    rfl
  obtain ⟨hrf, husable, -⟩ := src2_gained hg hu
  refine ppsEdge_does hin hen ⟨?_, husable, ?_, ?_⟩ <;> rw [hrf]
  · rfl
  · rfl

theorem ppsEdge_ends {e : Stamp} (hin : s.rfIn = true) (hen : s.flag F.RF_PPS_CTRL_IN_EN = true) (he : s.rf.edge = some (e, n))
    (h1 : 10 < (ten - n) % 10000000) (h2 : (ten - n) % 10000000 < 9999990) (hu : s.rf.ppsUse = true) : Does (.ppsEdge t1 ten) s fun t =>
    t.rf.ppsUse = false ∧ (t.src 2).usable = false ∧ Raised 0x04A s t := by
  have ha : alignedEdge s.rf.edge ten = false := by
    unfold alignedEdge
    rw [he]
    simp [h1, h2]
  have hg : (s.edged t1 ten).src2Good = false := by
    show (s.flag F.RF_PPS_CTRL_IN_EN && s.tb.tenOk && (alignedEdge s.rf.edge ten && !s.rf.todDue)) = false
    rw [ha, Bool.false_and, Bool.and_false]
  obtain ⟨hrf, husable, hraised, -⟩ := src2_ended hg hu
  exact ppsEdge_does hin hen ⟨by rw [hrf], husable, hraised⟩

theorem ppsEdge_ignored (h : ¬ (s.rfIn = true ∧ s.flag F.RF_PPS_CTRL_IN_EN = true)) : Does (.ppsEdge t1 ten) s fun t => t.rf = s.rf := by
  have he : ppsEdgeOp t1 ten s = s := if_pos (by simpa [imp_iff_not_or] using h)
  refine Does.of (f := fun s => (ppsEdgeOp t1 ten s).settleMode) rfl ?_
  rw [he, rf_lostEnd]

theorem ppsInputLoss_ends (hu : s.rf.ppsUse = true) : Does .ppsInputLoss s fun t =>
    t.rf.edge = none ∧ t.rf.ppsUse = false ∧ (t.src 2).usable = false ∧ Raised 0x04A s t := by
  obtain ⟨hrf, husable, hraised, -⟩ :=
    src2_ended (s := { s with rf := { s.rf with edge := none, ppsOk := false, todDue := false } }) (Bool.and_false _) hu
  exact Does.of (f := fun s => (ppsLossOp s).settleMode) rfl ⟨congrArg RfSt.edge hrf, congrArg RfSt.ppsUse hrf, husable, hraised⟩

theorem ppsInputLoss_idle (hu : s.rf.ppsUse = false) : Does .ppsInputLoss s fun t => t.rf.edge = none ∧ t.fc = s.fc := by
  have he : ppsLossOp s = { s with rf := { s.rf with edge := none, ppsOk := false, todDue := false } } :=
    src2Check_same ((Bool.and_false _).trans hu.symm)
  refine Does.of (f := fun s => (ppsLossOp s).settleMode) rfl ?_
  rw [he, rf_lostEnd, fc_lostEnd]
  exact ⟨rfl, rfl⟩

theorem tenMhz_ends (hu : s.rf.ppsUse = true) : Does (.tenMhzQualifyChange false) s fun t =>
    t.tb.tenOk = false ∧ t.rf.ppsUse = false ∧ (t.src 2).usable = false ∧ Raised 0x04A s t := by
  have hg : ({ s with tb := { s.tb with tenOk := false } } : State).src2Good = false := by
    show (s.flag F.RF_PPS_CTRL_IN_EN && false && s.rf.ppsOk) = false
    rw [Bool.and_false, Bool.false_and]
  obtain ⟨hrf, husable, hraised, hten⟩ := src2_ended hg hu
  exact Does.of (f := fun s => (tenMhzOp false s).settleMode) rfl ⟨hten, congrArg RfSt.ppsUse hrf, husable, hraised⟩

theorem tenMhz_gains (hen : s.flag F.RF_PPS_CTRL_IN_EN = true) (hok : s.rf.ppsOk = true) (hu : s.rf.ppsUse = false) :
    Does (.tenMhzQualifyChange true) s fun t => t.tb.tenOk = true ∧ t.rf.ppsUse = true ∧ (t.src 2).usable = true := by
  have hg : ({ s with tb := { s.tb with tenOk := true } } : State).src2Good = true := by
    show (s.flag F.RF_PPS_CTRL_IN_EN && true && s.rf.ppsOk) = true
    rw [hen, hok]
    rfl
  obtain ⟨hrf, husable, hten⟩ := src2_gained hg hu
  exact Does.of (f := fun s => (tenMhzOp true s).settleMode) rfl ⟨hten, congrArg RfSt.ppsUse hrf, husable⟩

/-! ### The sentences of time of day (R142) -/

theorem todRxOp_ignores (h : ¬ (s.rfIn = true ∧ s.flag F.RF_PPS_CTRL_TOD_IN = true)) : todRxOp m s = s :=
  if_pos (by simpa [imp_iff_not_or] using h)

theorem todRxOp_hears (hin : s.rfIn = true) (hen : s.flag F.RF_PPS_CTRL_TOD_IN = true) : todRxOp m s =
    if todValid m ∧ s.rf.edge.isSome then { s with rf := { s.rf with todOk := true, todDue := false } }
    else ({ s with rf := { s.rf with todOk := false } }.latch rfB 0x20).raise 0x04B := if_neg (by simp [hin, hen])

theorem todRx_counts (hin : s.rfIn = true) (hen : s.flag F.RF_PPS_CTRL_TOD_IN = true) (hv : todValid m = true) (he : s.rf.edge.isSome = true) :
    Does (.todSentenceRx m) s fun t => t.rf.todOk = true ∧ t.rf.todDue = false ∧ t.fc = s.fc := by
  refine Does.of (f := fun s => (todRxOp m s).settleMode) rfl ?_
  rw [todRxOp_hears hin hen, if_pos ⟨hv, he⟩, rf_lostEnd, fc_lostEnd]
  exact ⟨rfl, rfl, rfl⟩

theorem todRx_bad (hin : s.rfIn = true) (hen : s.flag F.RF_PPS_CTRL_TOD_IN = true) (hb : todValid m = false ∨ s.rf.edge = none) :
    Does (.todSentenceRx m) s fun t => t.rf.todOk = false ∧ Raised 0x04B s t := by
  have hn : ¬ (todValid m = true ∧ s.rf.edge.isSome = true) := by
    rintro ⟨hv, he⟩
    rcases hb with hb | hb
    · rw [hb] at hv
      cases hv
    · rw [hb] at he
      cases he
  refine Does.of (f := fun s => (todRxOp m s).settleMode) rfl ?_
  rw [todRxOp_hears hin hen, if_neg hn]
  have hl := only_latch { s with rf := { s.rf with todOk := false } } rfB 0x20
  have hr := only_raise ({ s with rf := { s.rf with todOk := false } }.latch rfB 0x20) 0x04B 0 {}
  refine ⟨?_, (raised_raise 0 {} (by decide)).of (hl.reg (.FC_CNT, [0x04B]) .FC_CNT rfl rfl) (cnt_lostEnd _ _)⟩
  rw [rf_lostEnd]
  exact congrArg RfSt.todOk ((hr.same .rf (by decide)).trans (hl.same .rf (by decide)))

theorem todRx_ignored (h : ¬ (s.rfIn = true ∧ s.flag F.RF_PPS_CTRL_TOD_IN = true)) : Does (.todSentenceRx m) s fun t => t.rf = s.rf := by
  refine Does.of (f := fun s => (todRxOp m s).settleMode) rfl ?_
  rw [todRxOp_ignores h, rf_lostEnd]

/-- The time since 10 ms after the edge of second 0, in quarters of a nanosecond (R141, R142). -/
def State.todQuarters (s : State) : Int :=
  ((s.tb.sec * 1000000000 + s.tb.ns : Nat) : Int) * 4 - signed 32 (s.rdE (.RF_PPS_OFS, [])).toNat - 40000000

/-- The second whose sentence is due. -/
def State.todSec (s : State) : Nat := (s.todQuarters / 4000000000).toNat

theorem bits_word (w : Word) : bits w 31 0 = w.toNat := by
  unfold bits
  rw [Nat.pow_zero, Nat.div_one]
  exact Nat.mod_eq_of_lt w.isLt

theorem todTxOp_eq (s : State) : todTxOp s =
    if !s.flag F.RF_PPS_CTRL_TOD_OUT ∨ !s.rfOn ∨ s.todQuarters < 0 ∨ s.rf.todSent = s.todSec then s else
      ({ s with rf := { s.rf with todSent := s.todSec } }).emit (.tod ((todFrame (s.todBody s.todSec)).map fun c => BitVec.ofNat 8 c)) := by
  unfold todTxOp State.todSec State.todQuarters
  rw [bits_word]

theorem todTx_sends (hen : s.flag F.RF_PPS_CTRL_TOD_OUT = true) (hon : s.rfOn = true) (hq : 0 ≤ s.todQuarters) (hs : s.rf.todSent ≠ s.todSec) :
    Does .todSentenceTx s fun t =>
      s.out ++ [.tod ((todFrame (s.todBody s.todSec)).map fun c => BitVec.ofNat 8 c)] <+: t.out ∧ t.rf.todSent = s.todSec := by
  have hn : ¬ ((!s.flag F.RF_PPS_CTRL_TOD_OUT) = true ∨ (!s.rfOn) = true ∨ s.todQuarters < 0 ∨ s.rf.todSent = s.todSec) := by
    simp [hen, hon, hq, hs]
  refine Does.of (f := fun s => todTxOp s) rfl ?_
  rw [todTxOp_eq, if_neg hn]
  refine ⟨out_finish_emit rfl, ?_⟩
  rw [rf_finish]
  rfl

/-- A state that owes no interrupt leaves nothing behind. -/
theorem out_finish_idle (h : s.irqOwed = []) : s.finish.out = s.out := by
  unfold State.finish
  rw [h]
  rfl

theorem todTx_waits (h : s.flag F.RF_PPS_CTRL_TOD_OUT = false ∨ s.rfOn = false ∨ s.todQuarters < 0 ∨ s.rf.todSent = s.todSec)
    (hi : s.irqOwed = []) : Does .todSentenceTx s fun t => t.out = s.out := by
  have hp : (!s.flag F.RF_PPS_CTRL_TOD_OUT) = true ∨ (!s.rfOn) = true ∨ s.todQuarters < 0 ∨ s.rf.todSent = s.todSec := by
    simpa using h
  refine Does.of (f := fun s => todTxOp s) rfl ?_
  rw [todTxOp_eq, if_pos hp, out_finish_idle hi]

end

/-- Settles O26: a write of RF_CTRL stores the bits that its mask names, and may make source 3 anew; source 2 follows the edges and the
10 MHz input through `src2Check`. -/
theorem ppsAndSourceThree : Obligations.PpsAndSourceThree := by
  unfold Obligations.PpsAndSourceThree
  refine ⟨fun o v s => ⟨src3InputChange_holds, refSave_requests, refSave_stands⟩, fun t1 ten n m s => ?_⟩
  intro on hears d ends
  exact ⟨fun e hon => ppsEdge_gains hon.1 hon.2, fun e hon => ppsEdge_ends hon.1 hon.2, ppsEdge_ignored, ppsInputLoss_ends, ppsInputLoss_idle,
    tenMhz_ends, tenMhz_gains, fun hh => todRx_counts hh.1 hh.2, fun hh => todRx_bad hh.1 hh.2, todRx_ignored, todTx_sends, todTx_waits⟩

end Sys2Proof.Machine

/-! PROOF. The reference outputs, which settle O27 (R136 to R141, R144): the writes that wait for a period, what an output sends as its
period starts, and the current limit of the analogue outputs. -/

namespace Sys2Proof.Machine

/-! ### The writes that wait take effect (R50) -/

/-- A key reads x behind a run of writes to a map, where each write to the key writes x, and there is one, or the key read x before. -/
theorem mget_foldl_mput_const {κ α β : Type} [DecidableEq κ] [DecidableEq α] (rank : κ → Nat) (d : κ → α) (f : β → κ) (v : β → α) {l : List β}
    {m : Map κ α} {k : κ} {x : α} (hv : ∀ e ∈ l, f e = k → v e = x) (h : (∃ e ∈ l, f e = k) ∨ mget d m k = x) :
    mget d (l.foldl (fun m e => mput rank d m (f e) (v e)) m) k = x := by
  induction l generalizing m with
  | nil => simpa using h
  | cons e l ih =>
    refine ih (fun e he => hv e (.tail _ he)) ?_
    show _ ∨ mget d (mput rank d m (f e) (v e)) k = x
    by_cases hk : f e = k
    · rw [hk, mget_mput_self]
      exact .inr (hv e (.head _) hk)
    · rw [mget_mput_ne _ _ _ _ (Ne.symm hk)]
      simpa [hk] using h

/-- A write that waits is due: its register is among those of p, and it was accepted on an earlier tick. -/
def State.dueNow (s : State) (p : Key → Bool) (e : Key × Nat × Word) : Bool := p e.1 && decide (e.2.1 < s.tick)

/-- The writes that go on waiting. -/
def State.waitingAfter (s : State) (p : Key → Bool) : List (Key × Nat × Word) := s.waiting.filter fun e => !s.dueNow p e

/-- A write takes effect: as the stored value, where no other write of its register still waits, and else apart from it. -/
def effWith (waiting : List (Key × Nat × Word)) (m : Map Key (Option Word)) (e : Key × Nat × Word) : Map Key (Option Word) :=
  mput keyAddr (fun _ => none) m e.1 (if waiting.any fun x => x.1 == e.1 then some e.2.2 else none)

/-- The values in effect behind the writes that are due. -/
def State.effAfter (s : State) (p : Key → Bool) : Map Key (Option Word) :=
  (s.waiting.filter (s.dueNow p)).foldl (effWith (s.waitingAfter p)) s.eff

theorem foldl_eff (l : List (Key × Nat × Word)) (s : State) :
    l.foldl (fun s e => { s with eff := effWith s.waiting s.eff e }) s = { s with eff := l.foldl (effWith s.waiting) s.eff } := by
  induction l generalizing s with
  | nil => rfl
  | cons e l ih => exact ih _

/-- Writes that take effect change the list of those that wait, and the values in effect. -/
theorem applyWaiting_eq (s : State) (p : Key → Bool) : s.applyWaiting p = { s with waiting := s.waitingAfter p, eff := s.effAfter p } :=
  foldl_eff _ _

section
variable {s : State} {p : Key → Bool} {k : Key}

theorem effAfter_of_not (h : p k = false) : mget (fun _ => none) (s.effAfter p) k = mget (fun _ => none) s.eff k := by
  refine mget_foldl_mput_const _ _ _ _ (fun e he hk => ?_) (.inr rfl)
  have hd : s.dueNow p e = true := (List.mem_filter.mp he).2
  rw [State.dueNow, hk, h] at hd
  cases hd

/-- Where every write of a register is due, and there is one, no value apart from the stored one is in effect. -/
theorem effAfter_of_due (h : p k = true) (hw : ∃ e ∈ s.waiting, e.1 = k) (hd : ∀ e ∈ s.waiting, e.1 = k → e.2.1 < s.tick) :
    mget (fun _ => none) (s.effAfter p) k = none := by
  have due {e : Key × Nat × Word} (he : e ∈ s.waiting) (hk : e.1 = k) : s.dueNow p e = true := by
    rw [State.dueNow, hk, h, decide_eq_true (hd e he hk)]
    rfl
  have hnone : ((s.waitingAfter p).any fun x => x.1 == k) = false := by
    refine List.any_eq_false.mpr fun e he hk => ?_
    obtain ⟨hin, hnot⟩ := List.mem_filter.mp he
    rw [due hin (eq_of_beq hk)] at hnot
    cases hnot
  obtain ⟨e, he, hk⟩ := hw
  refine mget_foldl_mput_const _ _ _ _ (fun e _ hk => ?_) (.inl ⟨e, List.mem_filter.mpr ⟨he, due he hk⟩, hk⟩)
  rw [hk, hnone]
  rfl

theorem rdE_applyWaiting_of_not (h : p k = false) : (s.applyWaiting p).rdE k = s.rdE k := by
  rw [applyWaiting_eq]
  exact congrArg (Option.getD · (s.rd k)) (effAfter_of_not h)

theorem rdE_applyWaiting_of_due (h : p k = true) (hw : ∃ e ∈ s.waiting, e.1 = k) (hd : ∀ e ∈ s.waiting, e.1 = k → e.2.1 < s.tick) :
    (s.applyWaiting p).rdE k = s.rd k := by
  rw [applyWaiting_eq]
  exact congrArg (Option.getD · (s.rd k)) (effAfter_of_due h hw hd)

end

/-! ### What the end of a command leaves of the outputs -/

section
variable (s : State)

theorem rdE_finish (k : Key) : s.finish.rdE k = s.rdE k := by rw [finish_eq]; rfl

theorem getE_finish (f : Fld) : s.finish.getE f = s.getE f := by rw [finish_eq]; rfl

theorem outInstant_finish (o : RefOut) (i : Nat) : s.finish.outInstant o i = s.outInstant o i := by rw [finish_eq]; rfl

theorem ltcWordOut_finish (k f : Nat) : s.finish.ltcWordOut k f = s.ltcWordOut k f := by rw [finish_eq]; rfl

end

/-! ### The signal of a period (R137 to R141) -/

/-- A standard's alignment period in frames. -/
def State.alignFrames (s : State) (k : Nat) : Nat := ((stdPeriod (s.get (F.RF_OUT_CTRL_STD k))).map (·.1)).getD 1

/-- The outputs that are muted once an output has started period i: a video output resumes at an alignment point of a locked time base. -/
def State.mutedAfter (s : State) (o : RefOut) (i : Nat) : List Nat :=
  match o with
  | .video k => if s.get F.TB_STATE_STATE = 6 ∧ i % s.alignFrames k = 0 then s.rf.muted.filter (· != k.val) else s.rf.muted
  | _ => s.rf.muted

/-- What an output sends in period i. -/
def State.signal (s : State) (o : RefOut) (i : Nat) : List Out :=
  match o with
  | .video k =>
    if (s.mutedAfter (.video k) i).contains k.val then [] else
      [.refFrame k (s.outInstant (.video k) i) (s.get (F.RF_OUT_CTRL_STD k)) i
        (s.get (F.RF_OUT_CTRL_STD k) == 1 && !s.flag (F.RF_OUT_CTRL_NO_SETUP k))]
  | .ltc k => [.ltc k (s.outInstant (.ltc k) i) (s.ltcWordOut k i)]
  | .dars k => [.dars k (s.outInstant (.dars k) i) (192 * i) (s.darsStatus (192 * i))]
  | .pps =>
    (if s.flag F.RF_PPS_CTRL_OUT_EN && s.qualified then [Out.pps (s.outInstant .pps i) (s.getE F.RF_PPS_WIDTH_MS)] else []) ++
      (if s.flag F.RF_PPS_CTRL_TEN_OUT && s.qualified then [Out.tenMhz (s.outInstant .pps i)] else [])

theorem ite_emit (c : Prop) [Decidable c] (s : State) (x : Out) :
    (if c then s.emit x else s) = { s with out := s.out ++ if c then [x] else [] } := by
  split
  · rfl
  · rw [List.append_nil]

/-- The start of a period sends the output's signal, and may end its mute. -/
theorem outSignal_eq (s : State) (o : RefOut) (i : Nat) :
    s.outSignal o i = { s with out := s.out ++ s.signal o i, rf := { s.rf with muted := s.mutedAfter o i } } := by
  cases o with
  | video k =>
    have hm : (if s.get F.TB_STATE_STATE = 6 ∧ i % s.alignFrames k = 0 then
        { s with rf := { s.rf with muted := s.rf.muted.filter (· != k.val) } } else s) =
        { s with rf := { s.rf with muted := s.mutedAfter (.video k) i } } := by
      unfold State.mutedAfter
      dsimp only
      split <;> rfl
    unfold State.outSignal State.signal
    dsimp only
    rw [show ((stdPeriod (s.get (F.RF_OUT_CTRL_STD k))).map (·.1)).getD 1 = s.alignFrames k from rfl, hm]
    split
    · rw [List.append_nil]
    · rfl
  | ltc k => rfl
  | dars k => rfl
  | pps =>
    unfold State.outSignal State.signal
    simp only [Bool.and_eq_true]
    rw [ite_emit (s.flag F.RF_PPS_CTRL_OUT_EN = true ∧ s.qualified = true) s, ite_emit, ← List.append_assoc]
    rfl

/-- Video output k sends the frame of period i: no step has muted it, or it resumes. -/
def State.sendsFrame (s : State) (k i : Nat) : Bool := !s.rf.muted.contains k || (s.get F.TB_STATE_STATE == 6 && i % s.alignFrames k == 0)

theorem contains_mutedAfter (s : State) (k : Fin 4) (i : Nat) : (s.mutedAfter (.video k) i).contains k.val = !s.sendsFrame k i := by
  unfold State.mutedAfter State.sendsFrame
  dsimp only
  split
  · rename_i h
    simp [h]
  · rename_i h
    have : (s.get F.TB_STATE_STATE == 6 && i % s.alignFrames k == 0) = false := by simpa using h
    rw [this]
    simp

/-! ### The start of a period (R136) -/

/-- Other writes that wait, other values in effect, and other numbers of the periods that the outputs began last. -/
def State.withOutputs (s : State) (waiting : List (Key × Nat × Word)) (eff : Map Key (Option Word)) (sent : Map Nat Nat) : State :=
  { s with waiting := waiting, eff := eff, rf := { s.rf with sent := sent } }

section
variable (s : State) (w : List (Key × Nat × Word)) (e : Map Key (Option Word)) (m : Map Nat Nat) (i : Nat)

theorem mutedAfter_withOutputs (o : RefOut) : (s.withOutputs w e m).mutedAfter o i = s.mutedAfter o i := (rfl)

theorem signal_video_withOutputs (k : Fin 4) : (s.withOutputs w e m).signal (.video k) i =
    if (s.mutedAfter (.video k) i).contains k.val then [] else
      [.refFrame k ((s.withOutputs w e m).outInstant (.video k) i) (s.get (F.RF_OUT_CTRL_STD k)) i
        (s.get (F.RF_OUT_CTRL_STD k) == 1 && !s.flag (F.RF_OUT_CTRL_NO_SETUP k))] := (rfl)

theorem signal_dars_withOutputs (k : Fin 2) : (s.withOutputs w e m).signal (.dars k) i =
    [.dars k ((s.withOutputs w e m).outInstant (.dars k) i) (192 * i) (s.darsStatus (192 * i))] := (rfl)

theorem signal_pps_withOutputs : (s.withOutputs w e m).signal .pps i =
    (if s.flag F.RF_PPS_CTRL_OUT_EN && s.qualified then
      [Out.pps ((s.withOutputs w e m).outInstant .pps i) ((s.withOutputs w e m).getE F.RF_PPS_WIDTH_MS)] else []) ++
      (if s.flag F.RF_PPS_CTRL_TEN_OUT && s.qualified then [Out.tenMhz ((s.withOutputs w e m).outInstant .pps i)] else []) := (rfl)

end

/-- A period has begun: the writes that wait take effect, and the number of the period is noted. -/
def State.periodBegun (s : State) (o : RefOut) : State :=
  s.withOutputs (s.waitingAfter (outRegs o)) (s.effAfter (outRegs o)) (nput (fun _ => 0) s.rf.sent (outCode o) (s.outPeriod o + 1))

section
variable {s : State} {o : RefOut}

theorem outApplyOp_off (h : s.outOn o = false) : outApplyOp o s = s.applyWaiting (outRegs o) := by
  unfold outApplyOp
  rw [h]
  rfl

theorem outApplyOp_again (h : s.outOn o = true) (hb : mget (fun _ => 0) s.rf.sent (outCode o) = s.outPeriod o + 1) : outApplyOp o s = s := by
  unfold outApplyOp
  rw [h]
  exact if_pos hb

theorem outApplyOp_begins (h : s.outOn o = true) (hb : mget (fun _ => 0) s.rf.sent (outCode o) ≠ s.outPeriod o + 1) :
    outApplyOp o s = (s.periodBegun o).outSignal o (s.outPeriod o) := by
  unfold outApplyOp
  rw [h]
  refine (if_neg hb).trans ?_
  rw [applyWaiting_eq]
  rfl

/-- The state that the start of a period leaves: the output has sent its signal. -/
def State.periodSent (s : State) (o : RefOut) : State := ((s.periodBegun o).outSignal o (s.outPeriod o)).finish

theorem rf_periodSent : (s.periodSent o).rf = { (s.periodBegun o).rf with muted := s.mutedAfter o (s.outPeriod o) } := by
  rw [State.periodSent, rf_finish, outSignal_eq]
  exact congrArg (fun l => { (s.periodBegun o).rf with muted := l }) (mutedAfter_withOutputs ..)

theorem out_periodSent : s.out ++ (s.periodBegun o).signal o (s.outPeriod o) <+: (s.periodSent o).out := by
  have hout : ((s.periodBegun o).outSignal o (s.outPeriod o)).out = s.out ++ (s.periodBegun o).signal o (s.outPeriod o) := by
    rw [outSignal_eq]
    rfl
  rw [← hout]
  exact (only_finish _).follows.out

theorem regs_periodSent : (s.periodSent o).regs = s.regs := by
  rw [State.periodSent, regs_finish, outSignal_eq]
  rfl

theorem outInstant_periodSent (i : Nat) : (s.periodSent o).outInstant o i = (s.periodBegun o).outInstant o i := by
  rw [State.periodSent, outInstant_finish, outSignal_eq]
  rfl

theorem ltcWordOut_periodSent (k f : Nat) : (s.periodSent o).ltcWordOut k f = (s.periodBegun o).ltcWordOut k f := by
  rw [State.periodSent, ltcWordOut_finish, outSignal_eq]
  rfl

theorem getE_periodSent (f : Fld) : (s.periodSent o).getE f = (s.periodBegun o).getE f := by
  rw [State.periodSent, getE_finish, outSignal_eq]
  rfl

theorem rdE_periodSent (k : Key) : (s.periodSent o).rdE k = (s.applyWaiting (outRegs o)).rdE k := by
  rw [State.periodSent, rdE_finish, outSignal_eq, applyWaiting_eq]
  rfl

end

/-! ### OUTPUT_OFFSET_APPLY (R136 to R141) -/

/-- The writes of an output that wait take effect, those accepted before this tick, and nothing else does. -/
structure Applied (s : State) (p : Key → Bool) (t : State) : Prop where
  due : ∀ k, p k = true → (∃ e ∈ s.waiting, e.1 = k) → (∀ e ∈ s.waiting, e.1 = k → e.2.1 < s.tick) → t.rdE k = s.rd k
  others : ∀ k, p k = false → t.rdE k = s.rdE k
  regs : t.regs = s.regs

theorem Applied.of {s t : State} {p : Key → Bool} (h : ∀ k, t.rdE k = (s.applyWaiting p).rdE k) (hr : t.regs = s.regs) : Applied s p t where
  due k hk hw hd := (h k).trans (rdE_applyWaiting_of_due hk hw hd)
  others k hk := (h k).trans (rdE_applyWaiting_of_not hk)
  regs := hr

section
variable {s : State} {o : RefOut}

theorem applied_periodSent : Applied s (outRegs o) (s.periodSent o) := .of rdE_periodSent regs_periodSent

theorem outputOffsetApply_again (h : s.outOn o = true) (hb : mget (fun _ => 0) s.rf.sent (outCode o) = s.outPeriod o + 1) :
    Does (.outputOffsetApply o) s fun t => t.eff = s.eff ∧ t.rf = s.rf ∧ t.regs = s.regs := by
  refine Does.of (f := outApplyOp o) rfl ?_
  rw [outApplyOp_again h hb]
  exact ⟨eff_finish s, rf_finish s, regs_finish s⟩

theorem outputOffsetApply_off (h : s.outOn o = false) :
    Does (.outputOffsetApply o) s fun t => Applied s (outRegs o) t ∧ t.rf = s.rf := by
  refine Does.of (f := outApplyOp o) rfl ?_
  rw [outApplyOp_off h]
  refine ⟨.of (rdE_finish _) ?_, ?_⟩
  · rw [regs_finish, applyWaiting_eq]
  · rw [rf_finish, applyWaiting_eq]

theorem outputOffsetApply_begins {P : State → Prop} (h : s.outOn o = true) (hb : ¬ mget (fun _ => 0) s.rf.sent (outCode o) = s.outPeriod o + 1)
    (hP : P (s.periodSent o)) : Does (.outputOffsetApply o) s P := by
  refine Does.of (f := outApplyOp o) rfl ?_
  rw [outApplyOp_begins h hb]
  exact hP

theorem sent_periodSent : mget (fun _ => 0) (s.periodSent o).rf.sent (outCode o) = s.outPeriod o + 1 := by
  rw [rf_periodSent]
  exact mget_nput_self (fun _ => (0 : Nat)) s.rf.sent (outCode o) (s.outPeriod o + 1)

end

section
variable {s : State}

theorem muted_periodSent (k : Fin 4) :
    (s.periodSent (.video k)).rf.muted.contains k.val = !s.sendsFrame k (s.outPeriod (.video k)) := by
  rw [rf_periodSent]
  exact contains_mutedAfter ..

theorem sends_video {k : Fin 4} (h : s.sendsFrame k (s.outPeriod (.video k)) = true) :
    s.out ++ [.refFrame k ((s.periodSent (.video k)).outInstant (.video k) (s.outPeriod (.video k))) (s.get (F.RF_OUT_CTRL_STD k))
      (s.outPeriod (.video k)) (s.get (F.RF_OUT_CTRL_STD k) == 1 && !s.flag (F.RF_OUT_CTRL_NO_SETUP k))] <+: (s.periodSent (.video k)).out := by
  have hout := out_periodSent (s := s) (o := .video k)
  rw [State.periodBegun, signal_video_withOutputs, contains_mutedAfter, h] at hout
  rw [outInstant_periodSent]
  exact hout

theorem sends_ltc (k : Fin 4) :
    s.out ++ [.ltc k ((s.periodSent (.ltc k)).outInstant (.ltc k) (s.outPeriod (.ltc k)))
      ((s.periodSent (.ltc k)).ltcWordOut k (s.outPeriod (.ltc k)))] <+: (s.periodSent (.ltc k)).out := by
  rw [outInstant_periodSent, ltcWordOut_periodSent]
  exact out_periodSent (o := .ltc k)

theorem sends_dars (k : Fin 2) :
    s.out ++ [.dars k ((s.periodSent (.dars k)).outInstant (.dars k) (s.outPeriod (.dars k))) (192 * s.outPeriod (.dars k))
      (s.darsStatus (192 * s.outPeriod (.dars k)))] <+: (s.periodSent (.dars k)).out := by
  have hout := out_periodSent (s := s) (o := .dars k)
  rw [State.periodBegun, signal_dars_withOutputs] at hout
  rw [outInstant_periodSent]
  exact hout

theorem sends_pps :
    s.out ++ ((if s.flag F.RF_PPS_CTRL_OUT_EN && s.qualified then
        [Out.pps ((s.periodSent .pps).outInstant .pps (s.outPeriod .pps)) ((s.periodSent .pps).getE F.RF_PPS_WIDTH_MS)] else []) ++
      (if s.flag F.RF_PPS_CTRL_TEN_OUT && s.qualified then [Out.tenMhz ((s.periodSent .pps).outInstant .pps (s.outPeriod .pps))] else [])) <+:
      (s.periodSent .pps).out := by
  have hout := out_periodSent (s := s) (o := .pps)
  rw [State.periodBegun, signal_pps_withOutputs] at hout
  rw [outInstant_periodSent, getE_periodSent]
  exact hout

end

/-! ### OUT_LOAD and the end of a current limit (R144) -/

section
variable {s : State} {k : Fin 4}

theorem outLoad_raises (hen : s.flag (F.RF_OUT_CTRL_EN k) = true) (hl : s.rf.load.contains k.val = false) :
    Does (.outLoad k) s fun t => t.rf.load.contains k.val = true ∧ Raised 0x04C s t := by
  have he : outLoadOp k s = ({ s with rf := { s.rf with load := s.rf.load ++ [k.val] } }.latch rfB 0x40).raise 0x04C k :=
    if_neg (by rw [hen, hl]; decide)
  have h1 := only_latch { s with rf := { s.rf with load := s.rf.load ++ [k.val] } } rfB 0x40
  have h2 := only_raise ({ s with rf := { s.rf with load := s.rf.load ++ [k.val] } }.latch rfB 0x40) 0x04C k {}
  refine Does.of (f := outLoadOp k) rfl ?_
  rw [he]
  refine ⟨?_, (raised_raise k {} (by decide)).of (h1.reg (.FC_CNT, [0x04C]) .FC_CNT rfl rfl) (rd_finish ..)⟩
  have hrf := (rf_finish _).trans ((h2.same .rf (by decide)).trans (h1.same .rf (by decide)))
  rw [show _ = _ from hrf]
  simp

theorem outLoad_ignored (h : s.flag (F.RF_OUT_CTRL_EN k) = false ∨ s.rf.load.contains k.val = true) :
    Does (.outLoad k) s fun t => t.rf = s.rf ∧ t.regs = s.regs := by
  have he : outLoadOp k s = s := if_pos (h.imp_left fun hen => by rw [hen]; rfl)
  refine Does.of (f := outLoadOp k) rfl ?_
  rw [he]
  exact ⟨rf_finish s, regs_finish s⟩

theorem outLoadEnd_ends (s : State) (k : Fin 4) : Does (.outLoadEnd k) s fun t => t.rf.load.contains k.val = false ∧
    ∀ j : Fin 4, j ≠ k → t.rf.load.contains j.val = s.rf.load.contains j.val := by
  refine Does.of (f := outLoadEndOp k) rfl ?_
  rw [rf_finish]
  unfold outLoadEndOp
  refine ⟨by simp, fun j hj => ?_⟩
  have hne : j.val ≠ k.val := fun h => hj (Fin.ext h)
  simp [hne]

end

/-- Settles O27: the start of a period is `State.periodSent`, whose parts the lemmas above give for each output. -/
theorem outputsApplyAndLimit : Obligations.OutputsApplyAndLimit := by
  unfold Obligations.OutputsApplyAndLimit
  intro k out s
  refine ⟨outLoad_raises, outLoad_ignored, outLoadEnd_ends s k, ?_⟩
  intro i begun applies sends
  have applied {t : State} (h : Applied s (outRegs out) t) : applies t := ⟨h.due, h.others, h.regs⟩
  refine ⟨outputOffsetApply_again, fun h => ?_, fun h hb => outputOffsetApply_begins h hb ⟨applied applied_periodSent, sent_periodSent, ?_⟩⟩
  · obtain ⟨t, he, ha, hrf⟩ := outputOffsetApply_off h
    exact ⟨t, he, applied ha, hrf⟩
  · refine ⟨?_, ?_, ?_, ?_⟩
    · rintro j rfl
      exact ⟨muted_periodSent j, sends_video⟩
    · rintro j rfl
      exact sends_ltc j
    · rintro j rfl
      exact sends_dars j
    · rintro rfl
      exact sends_pps

end Sys2Proof.Machine
